-- ==== Sys2Proof/Word.lean ====
section
/-!
DEFINITION. The word types of the model. The manual counts in bytes on its buses and in the fixed types of Table 17.1 in
its dictionary; a dictionary value is held as an Int (a number of the entry's type), a bus payload as a list of bytes.
-/

namespace Sys2Proof

/-- One byte of a bus payload, a frame or a key. -/
abbrev Byte := BitVec 8

end Sys2Proof
end

