-- ==== Sys2Proof/Config.lean ====
section
/-!
DEFINITION. What one part fixes for its whole life, and the free values: constants without a body, so that nothing can be
proved of what they are. A statement over them holds for every value.
-/

namespace Sys2Proof.Config

/-- The ordering code of the part: true for KX7680-P8, false for KX7680-P4 (R2). DESIGN CHOICE (log entry 3): safe. -/
opaque isP8 : Bool

/-- The product code of Table 0.2 (R2, R3). -/
def productCode : Int := if isP8 then 0x07680008 else 0x07680004

/-- A Comet ring of this many MiB is within the part's maximum: 2,048, or 6,144 on a KX7680-P8 (Table 0.2, R5, R405). -/
def cometRingFits (mib : Int) : Bool := decide (mib ≤ 2048) || (isP8 && decide (mib ≤ 6144))

/-- The serial number of the part, from OTP (R3). DESIGN CHOICE (log entry 3): safe. -/
opaque serialWord : BitVec 32

/-- The serial number as the value of 0x1018:04. -/
def serialNumber : Int := serialWord.toNat

/-- The MAC address of an Ethernet port, from OTP (Table 17.12). -/
opaque macWord : Nat → BitVec 48

/-- The MAC address as the value of ETH_MAC. -/
def macAddress (port : Nat) : Int := (macWord port).toNat

/-- The size of the fitted boot flash in MiB as SFDP reports it (R461); at least 64 by R476. -/
opaque flashMiB : Nat

/-- The number of this device in its cascade tree, 0 to 63 (Table 10.13); the manual does not say how it is given.
DESIGN CHOICE (log entry 32): safe. -/
opaque treeDevice : BitVec 6

/-- The free values of the model: the n-th value that the manual leaves open. -/
opaque freeValue : Nat → Int

/-- The random numbers the part draws for challenges (R425) and TDS sessions (R440). -/
opaque randomWord : Nat → BitVec 128

/-- The VCO band codes of OTP (R355): the production value of entry s of PLL p (Table 14.5). -/
opaque bandWord : Nat → Nat → BitVec 32

/-- The bytes of a logbook export of a generation that the manual does not lay out (R465), by offset. -/
opaque exportByte : Nat → Nat → BitVec 8

/-- The bytes of a generation of DEV_IMAGE_READ, whose layout the manual does not give to the byte (R444, R448), and how many. -/
opaque imageByte : Nat → Nat → BitVec 8

/-- The size of that generation in bytes. -/
opaque imageSize : Nat → Nat

/-- The longest data of one USDO frame beside its header, less 1 (R434; the layout is that of CiA 1301). -/
opaque usdoRoom : BitVec 6

/-- The access-class byte of a DESCRIBE response (Table 17.7), by class. DESIGN CHOICE (log entry 88): safe. -/
opaque accessByte : Nat → BitVec 8

/-- The Service key of the part as its maker delivers it, by byte (R427). -/
opaque serviceKey : Nat → BitVec 8

/-- Stage numbers of the boot lines other than those of stages 1 and 2 (R485), by kind. DESIGN CHOICE (log entry 97): safe. -/
opaque stageCode : Nat → BitVec 8

/-- Bytes of the logbook partition that the manual does not lay out to the byte (Table 18.6), by offset and time. -/
opaque partitionByte : Nat → Nat → BitVec 8

/-- Journal codes of events that the manual says are logged but gives neither a source nor a code of Table 18.5, by kind.
DESIGN CHOICE (log entry 18): safe. -/
opaque unlistedCode : Nat → Nat

end Sys2Proof.Config
end

