-- ==== Sys2Proof/Syntax.lean ====
section
/-!
DEFINITION. The commands of the block: one constructor per row of the table of operations and events, with the operands
that come from outside. Every command carries the device time t (ns) at which it lands. What arrives as a unit from
outside (an image, a frame, a sample) is a record of its own.
-/

namespace Sys2Proof

/-- Ageing record of one switch of a submodule: accepted on-state and plateau reports, newest first, with the sum and count of
each baseline once complete (R205, R206); the reversals of junction temperature still open, newest first, in 0.1 K, and the
damage in 2^-48 (R207). -/
structure SwitchAge where
  von : List Nat
  vonBase : Option (Nat × Nat)
  plat : List Nat
  platBase : Option (Nat × Nat)
  rain : List Int
  damage : Nat
deriving DecidableEq, Repr

/-- The ageing record of one submodule, keyed to the identity of its node (R203 to R209, R458). -/
structure SmAge where
  identity : Nat
  /-- The block under way: sum of Q in C, sum of dV in codes, accepted intervals. -/
  sumQ : Rat
  sumV : Int
  blocks : Nat
  /-- C_est in 0.1 uF, and the estimate generation. -/
  cEst : Option Nat
  gen : Nat
  /-- The last 4,096 ESR values in uohm, newest first, and the baseline. -/
  esr : List Rat
  esrBase : Option Nat
  switches : List SwitchAge
  /-- Counted half-cycles, insertions, and charge throughput in C. -/
  dtj : Nat
  inserts : Nat
  charge : Rat
  /-- Ceiling, floor and weight in force. -/
  ceil : Nat
  floor : Nat
  weight : Nat
deriving DecidableEq, Repr

/-- One row of a margin plan that differs from what the buffer holds (Table 9.1). -/
structure PlanRow where
  n : Nat
  ceil : Nat
  floor : Nat
  weight : Nat
  action : Nat
deriving DecidableEq, Repr

/-- A margin plan: rows in rising order of the submodule number, and the six arm deratings. -/
structure Plan where
  rows : List PlanRow
  derate : List Nat
deriving DecidableEq, Repr

/-- The ageing state that a flush saves (R209): records by global number, the plan in force with its generation. -/
structure AgeState where
  records : List (Nat × SmAge)
  plan : Option (Plan × Nat)
  siDrift : Nat
deriving DecidableEq, Repr

/-- What one node answers at enumeration (R246). -/
structure NodeRecord where
  identity : Nat
  typeVer : Nat
  caps : Nat
deriving DecidableEq, Repr

/-- A dictionary image as it lies in a flash bank or arrives as a download (R444, R480). -/
structure DictImage where
  /-- Check word of the header (bytes 0 to 3 of the SHA-384). -/
  checkWord : Nat
  /-- Product code and layout version of the header. -/
  product : Nat
  layout : Nat
  /-- The key slot that the header names, and whether the key's hash, the signature and the check word verify (R480). -/
  slot : Nat
  verified : Bool
  /-- Size in bytes. -/
  size : Nat
  /-- The record section: key, length in bytes, value. -/
  records : List (Nat × Nat × Int)
  /-- Degraded coefficient set: check word, whether it matches, the period it was computed for (R41); none when absent. -/
  degraded : Option (Nat × Bool × Nat)
  /-- Gate-profile descriptors that differ from the base: (16 * submodule + descriptor) and value (R193). -/
  descriptors : List (Nat × Nat)
  /-- Ageing snapshot (R209). -/
  ageing : Option AgeState
deriving DecidableEq, Repr

/-- A firmware image as one verification attempt reads it from its bank (R478, R479). -/
structure FirmwareImage where
  /-- MAGIC and LAYOUT are right; PRODUCTS; KEY_SLOT; PUBLIC_KEY hashes to the slot; SIGNATURE verifies. -/
  magic : Bool
  products : Nat
  keySlot : Nat
  keyHash : Bool
  signature : Bool
  svn : Nat
  floor : Nat
  revoke : Nat
  version : List Nat
  /-- The TYPE 1 part matches its hash, and was read whole; the later parts match, and were read whole. -/
  partHash : Bool
  partRead : Bool
  laterHash : Bool
  laterRead : Bool
  /-- ENG_IMAGE_ID per engine. -/
  engines : List Nat
deriving DecidableEq, Repr

/-- The swing state of a unit (R74, R297): theta in 2^-64 turn, speeds in Q2.62, the filtered reactive power and the notch states in
Q4.60, the budget in force in us. -/
structure SwingStream where
  theta : Nat
  omega : Int
  omegaF : Int
  qf : Int
  notchP : Int × Int
  notchQ : Int × Int
  hMaxF : Nat
deriving DecidableEq, Repr

/-- The ride-through and black-start state of a unit (R88, R93): the added impedance in Q4.28, RIDE and its phase, the frozen speed in
Q2.62, p_av and its cap after a refault in Q4.28, the clear interval and the ride time in ns, the stationary terminal voltage of the
last quarter period (TIME32 in 2^-4 ns, two components in Q4.28, newest first), BLK_PHASE, E and the hand-over offset in Q4.28. -/
structure RideStream where
  dz : Int
  ride : Bool
  recover : Bool
  omegaHold : Int
  pAv : Int
  pCap : Option Int
  clearFor : Nat
  rideFor : Nat
  seq : List (Nat × Int × Int)
  phase : Nat
  emf : Int
  pHand : Int
deriving DecidableEq, Repr

/-- The Tide record of a HEAD frame (Table 12.2). -/
structure Tide where
  state : Nat
  role : Nat
  runFlags : Nat
  epoch : Nat
  trip : Bool
  partnerLost : Bool
  claiming : Bool
  stretch : Bool
  ret : Bool
  swap : Bool
  resyncRequest : Bool
  sideB : Bool
  recordLost : Bool
  hot : Bool
  stateGen : Nat
  genAck : Nat
  planApply : Nat
  swapAt : Nat
deriving DecidableEq, Repr

/-- A HEAD frame (R298): the sender's cycle, the TIME32 of its boundary, the lengths of this cycle and the next in 0.25 us, the Tide
record, the streamed states and the firmware area. -/
structure Head where
  cycle : Nat
  launch : Nat
  length : Nat
  next : Nat
  tide : Tide
  swing : SwingStream
  ride : RideStream
  firmware : List Nat
deriving DecidableEq, Repr

/-- What an arm record of a BODY compares (R312): digest, N, edge submodule, held slots; with sigma and the carry (R128). -/
structure ArmRecord where
  digest : Nat
  n : Int
  edge : Nat
  held : Nat
  sigma : Int
  carry : Int
deriving DecidableEq, Repr

/-- A change of durable state (R309). -/
inductive Change where
  /-- A submodule takes a class. -/
  | cls (n : Nat) (cls : Nat)
  /-- A plan comes into force, or is pending for its boundary. -/
  | plan (plan : Plan) (gen : Nat) (boundary : Option Nat)
  /-- A gate-profile descriptor of a submodule in force. -/
  | descriptor (n : Nat) (d : Nat) (value : Nat)
  /-- A dictionary entry: key, length in bytes, value. -/
  | entry (key : Nat) (length : Nat) (value : Int)
  /-- The epoch in force. -/
  | epoch (value : Nat)
  /-- A re-epoch by a correction in ns (R336). -/
  | step (correction : Int)
deriving DecidableEq, Repr

/-- A change record: its generation and the boundary at which it takes effect. -/
structure ChangeRecord where
  gen : Nat
  boundary : Nat
  change : Change
deriving DecidableEq, Repr

/-- A BODY frame as one lane carries it: the arms with their records, the codes of their submodules, change records. -/
structure Body where
  cycle : Nat
  arms : List (Nat × ArmRecord)
  codes : List (Nat × Nat)
  records : List ChangeRecord
deriving DecidableEq, Repr

/-- A resynchronisation image (R313): the source's durable state and ageing state at the snapshot boundary. -/
structure DurableImage where
  gen : Nat
  epoch : Nat
  entries : List (Nat × Int)
  classes : List (Nat × Nat)
  descriptors : List (Nat × Nat)
  ageing : AgeState
deriving DecidableEq, Repr

/-- What a BULK frame carries: a block of the image (the last one completes it), a plan, the acknowledgement of a plan, or the
identities of the nodes of a pair by position (R14). -/
inductive Bulk where
  | block (crcOk : Bool) (image : Option DurableImage)
  | plan (plan : Plan) (gen : Nat)
  | planAck (gen : Nat)
  | identities (pair : Nat) (ids : List (Nat × Nat))
deriving DecidableEq, Repr

/-- Who sends a request (R424): channel 0 CAN0, 1 CAN1, 2 ETH0, 3 ETH1, 4 a core through the dictionary server, 5 the debug
bridge, and 16 + h hart h through a register block; and the session on a TDS channel. -/
structure Sender where
  channel : Nat
  session : Nat
deriving DecidableEq, Repr

/-- The record a ROOT sends down (Table 10.13). -/
structure CascDown where
  theta : Int
  omega : Int
  omegaF : Int
  emf : Int
  pSet : Int
  qSet : Int
  orb : Nat
  flags : Nat
deriving DecidableEq, Repr

/-- The record a device sends up (Table 10.13). -/
structure CascUp where
  p : Int
  q : Int
  eUsable : Int
  eStored : Int
  hMax : Int
  state : Nat
  role : Nat
  runFlags : Nat
  orb : Nat
  device : Nat
  trip : Nat
deriving DecidableEq, Repr

/-- An error in the memories of the measurement chain (R166): a corrected one, a parity error, one in a delay line, one in a coefficient bank,
and a reloaded bank found clean. -/
inductive MeaError where
  | corrected
  | parity
  | delayLine
  | bank
  | bankClean
deriving DecidableEq, Repr

/-- The commands: one constructor per row of the table of operations and events. -/
inductive Instr where
  /-- PORESET_N held low for at least 1.0 µs puts the device in RESET, tristates QSPI and resets the TAP. (R472) -/
  | poresetNAssert (t : Nat) (low : Nat) (powerLost : Bool)
  /-- Release of PORESET_N samples the straps, starts the time counter at 0, arms the watchdog and moves RESET to BOOT. (R472) -/
  | poresetNRelease (t : Nat) (unitB : Bool) (bootSel : Nat)
  /-- A verification attempt on a firmware bank completes, succeeding or moving to a retry or the other bank. (R482) -/
  | firmwareBankAttempt (t : Nat) (image : FirmwareImage)
  /-- Boot completes and the device enters CONFIG, loading the image, restoring the logbook and releasing the engines. (R486) -/
  | enterConfig (t : Nat) (reads : List Bool) (badSlots : List Nat) (copies : Nat)
  /-- The unserviced service watchdog expires and resets the device. (R475) -/
  | serviceWatchdogExpiry (t : Nat)
  /-- A lockstep compare mismatch in a service core pair resets the device as watchdog expiry does. (R373) -/
  | lockstepMismatch (t : Nat)
  /-- Loading a boundary-scan test instruction makes the JTAG-requested reset until BYPASS or IDCODE is loaded. (R291) -/
  | jtagTestInstruction (t : Nat)
  /-- DEV_STATE_REQ value 0x02 requests CONFIG from LINKUP or BLOCKED. (R431) -/
  | stateReqConfig (t : Nat) (f : Sender)
  /-- DEV_STATE_REQ value 0x03 requests LINKUP from CONFIG with an accepted image. (R431) -/
  | stateReqLinkup (t : Nat) (f : Sender)
  /-- DEV_STATE_REQ value 0x05 requests RUN in NORMAL from BLOCKED under the conditions of Table 1.6. (R431) -/
  | stateReqRunNormal (t : Nat) (f : Sender)
  /-- DEV_STATE_REQ value 0x15 requests RUN in BLACKSTART from BLOCKED. (R431) -/
  | stateReqRunBlackstart (t : Nat) (f : Sender)
  /-- DEV_STATE_REQ value 0x04 requests a controlled stop from RUN to BLOCKED. (R431) -/
  | stateReqBlocked (t : Nat) (f : Sender)
  /-- At the first boundary at which every LINKUP condition holds the device enters BLOCKED. (R487) -/
  | linkupComplete (t : Nat)
  /-- A STANDBY or STALE unit in BLOCKED enters RUN at the boundary after a partner Tide shows RUN. (R311) -/
  | followPartnerRun (t : Nat)
  /-- A STANDBY or STALE unit in RUN enters BLOCKED at the boundary after a partner Tide shows BLOCKED. (R311) -/
  | followPartnerBlocked (t : Nat)
  /-- A filtered falling edge of ARM_EN makes ARM_EN_LOW active and enters TRIP from BLOCKED or RUN. (R190) -/
  | armEnFilteredFall (t : Nat)
  /-- A filtered rising edge of ARM_EN in TRIP clears it to BLOCKED if the low interval and causes allow. (R190) -/
  | armEnFilteredRise (t : Nat)
  /-- A write of 1 to PRT_SOFT_TRIP raises event trip cause 0x06. (R188) -/
  | prtSoftTrip (t : Nat) (f : Sender)
  /-- The GPIO named in PRT_EXT_GPIO reaching its trip level raises trip cause 0x04. (R188) -/
  | prtExtTrip (t : Nat)
  /-- The cycle boundary increments ORB_COUNT, sets the cycle length and launches frames on every port. (R31) -/
  | orbitBoundary (t : Nat) (headers : List (Nat × Nat))
  /-- At T_ref the reference buffers close and each registered engine set is staged or reused. (R35) -/
  | tRefDeadline (t : Nat)
  /-- At T_up missing slots are held, the snapshot and sums are latched and the fixed-function chain runs. (R33) -/
  | tUpDeadline (t : Nat)
  /-- At T_fin the state is published, the HEAD leaves and stretch needs are announced. (R42) -/
  | tFinDeadline (t : Nat) (unfinished : Nat)
  /-- A frame not in its port buffer at T_ready overruns the cycle with cause 0x04. (R48) -/
  | tReadyDeadline (t : Nat) (missing : List Nat)
  /-- Setting or clearing ORB_DEG_FORCE adds or removes a stretch condition. (R42) -/
  | orbDegForceWrite (t : Nat) (f : Sender) (force : Bool)
  /-- Writing 1 resets ORB_MARGIN_MIN and ORB_STATUS bit 8. (R51) -/
  | orbMarginClear (t : Nat) (f : Sender)
  /-- A CONTROL frame returns at a port and its trailer, slots and slack are processed. (R229) -/
  | frameReturn (t : Nat) (pair : Nat) (odd : Bool) (cycle : Nat) (fcrcOk : Bool) (hops : Nat) (looped : Bool) (halves : List Nat)
  /-- Writing 1 to SWG_PARAM_HOLD holds staged tunable writes. (R76) -/
  | swgParamHoldSet (t : Nat) (f : Sender)
  /-- Writing 0 to SWG_PARAM_HOLD applies all held writes in the next cycle. (R76) -/
  | swgParamHoldRelease (t : Nat) (f : Sender)
  /-- Tracking conditions held for 20 ms gain lock, and their loss drops it. (R73) -/
  | trackLockTimer (t : Nat)
  /-- An unbroken clear interval of FRT_CLEAR_TIME begins recovery. (R86) -/
  | frtClearTimeExpiry (t : Nat)
  /-- A ride time beyond FRT_MAX_TIME in the limiting phase raises FRT_TIMEOUT. (R87) -/
  | frtMaxTimeExpiry (t : Nat)
  /-- The end of DEAD_CHECK moves to RAMP or raises BLK_NO_DC. (R92) -/
  | blkDeadTimeExpiry (t : Nat)
  /-- The end of HOLD moves to HANDOVER. (R92) -/
  | blkHoldTimeExpiry (t : Nat)
  /-- Accumulated ramp pause beyond BLK_PAUSE_MAX raises BLK_RAMP_STALL. (R93) -/
  | blkPauseMaxExpiry (t : Nat)
  /-- Writing 1 to BLK_SYNC_REQ starts synchronisation to a live grid. (R96) -/
  | blkSyncStart (t : Nat) (f : Sender)
  /-- Writing 0 to BLK_SYNC_REQ ends synchronisation and releases the offsets. (R97) -/
  | blkSyncStop (t : Nat) (f : Sender)
  /-- Ready conditions held for BLK_SYNC_DWELL set SYNC_READY. (R97) -/
  | blkSyncDwellExpiry (t : Nat)
  /-- Angle and voltage within limits for 20 ms after ready count the breaker as closed. (R97) -/
  | blkSyncCloseConfirm (t : Nat)
  /-- Ready not reached within BLK_SYNC_TIMEOUT ends synchronisation. (R97) -/
  | blkSyncTimeout (t : Nat)
  /-- Writing a submodule number returns a FAULTED or UNREACHED submodule to AVAILABLE. (R111) -/
  | rnkReinstate (t : Nat) (f : Sender) (n : Nat)
  /-- An ECC error in sort memory is counted or fails the arm's selection as overrun. (R126) -/
  | sortMemoryEcc (t : Nat) (arm : Nat) (corrected : Bool)
  /-- A carrier counter reaching its period end reloads and may transfer shadows. (R138) -/
  | carrierReload (t : Nat) (k : Nat)
  /-- The counter passing CMPA or CMPB emits a trigger pulse to its destinations. (R143) -/
  | carrierCompareTrigger (t : Nat) (k : Nat) (second : Bool)
  /-- A chain, Orbit or time-unit pulse reloads a PWM channel with its phase. (R142) -/
  | carrierSyncPulse (t : Nat) (k : Nat)
  /-- A bound counter passing its queued edge toggles the internal output. (R135) -/
  | boundEdgeToggle (t : Nat) (k : Nat)
  /-- Setting COMMIT in CAR_CH_CMD schedules a shadow transfer at the next reload. (R138) -/
  | carCommit (t : Nat) (f : Sender) (k : Nat)
  /-- CLEAR_STICKY in CAR_CH_CMD clears DUTY_CLAMP, LATE_WRITE and BOUND_WRITE. (R151) -/
  | carClearSticky (t : Nat) (f : Sender) (k : Nat)
  /-- A write to a carrier shadow register is taken, judged late or auto-committed. (R139) -/
  | carShadowWrite (t : Nat) (f : Sender) (k reg v : Nat)
  /-- A commutation mask source ends after CAR_COMM_HOLD. (R145) -/
  | carCommHoldExpiry (t : Nat) (k : Nat)
  /-- Delay-line calibration locks and edges use the taps again. (R136) -/
  | delayLineLock (t : Nat)
  /-- Delay-line calibration is lost and edges fall back to the counter clock. (R136) -/
  | delayLineUnlock (t : Nat)
  /-- A channel's filter path delivers a time-stamped main sample to its consumers. (R158) -/
  | meaMainSample (t : Nat) (k : Nat)
  /-- A channel delivers a fast sample to protection and Comet. (R158) -/
  | meaFastSample (t : Nat) (k : Nat) (bits : List Bool) (last : Nat)
  /-- No modulator clock edge for 200 ns makes the group's channels invalid. (R153) -/
  | sdmClkLost (t : Nat) (g : Nat)
  /-- An accepted-clock measuring window ends and updates the period or flags a range fault. (R153) -/
  | sdmClkWindowEnd (t : Nat) (g period : Nat)
  /-- 64 equal captures mark the channel STUCK and invalid. (R163) -/
  | sdmStuckDetect (t : Nat) (k : Nat)
  /-- t_settle after a restart ends settling of the channel. (R164) -/
  | meaSettleEnd (t : Nat) (k : Nat)
  /-- A parity or ECC error in channel memory restarts the channel or reloads the bank. (R166) -/
  | meaMemoryError (t : Nat) (kind : MeaError) (index : Nat)
  /-- Writing channel bits clears their since-clear peaks at the next T_up. (R167) -/
  | meaPeakClear (t : Nat) (f : Sender) (bits : Nat)
  /-- A chopper gate-profile phase ends and the next phase of the sequence starts. (R180) -/
  | dchPhaseEnd (t : Nat) (k : Nat)
  /-- A chopper minimum on or off time expires and a held demand acts. (R179) -/
  | dchMinTimeExpiry (t : Nat) (k : Nat)
  /-- A pole channel invalid beyond PRT_BLIND_MAX turns the chopper off and raises PRT_DC_BLIND. (R183) -/
  | prtBlindMaxExpiry (t : Nat) (neg : Bool)
  /-- Setting FORCE in PRT_DCH_CTRL in BLOCKED adds a turn-on demand. (R184) -/
  | dchForceSet (t : Nat) (f : Sender) (k : Nat)
  /-- Writing 1 clears PRT_OV_PEAK. (R176) -/
  | prtOvPeakClear (t : Nat) (f : Sender)
  /-- Every 1 ms the AVS loop evaluates the margin and may move the core voltage target. (R211) -/
  | avsEvaluation (t : Nat) (margin : Int) (drift : Nat)
  /-- An AVSBus write is confirmed by read-back, retried once and stopped when lasting. (R212) -/
  | avsReadbackCheck (t : Nat) (ok : Bool)
  /-- AGE_REPLAN_PERIOD after the last plan makes a re-plan due. (R214) -/
  | ageReplanPeriodExpiry (t : Nat)
  /-- Writing 1 to AGE_REPLAN_REQ makes a re-plan due. (R214) -/
  | ageReplanReq (t : Nat) (f : Sender)
  /-- A write to the SUBMIT register submits the plan buffer for checking. (R215) -/
  | planSubmit (t : Nat) (f : Sender) (plan : Plan) (gen : Nat)
  /-- A DOMAIN download of the plan image submits it as a SUBMIT write does. (R216) -/
  | agePlanSubmit (t : Nat) (f : Sender) (data : List Nat)
  /-- The plan checks end and the plan is accepted for its boundary or refused whole. (R217) -/
  | planCheckDone (t : Nat)
  /-- A returned ENUMERATE frame yields the node count, identities and any line split. (R246) -/
  | enumerationFrameReturn (t : Nat) (pair : Nat) (odd looped whole : Bool) (records : List NodeRecord)
  /-- Returned DELAY frames give the segment delays and alignment values. (R248) -/
  | delayFrameReturn (t : Nat) (pair : Nat) (loop : Int) (nodes : List (Int × Int × Int × Int)) (latency : Nat) (whole : Bool)
  /-- Every node's residual within ±5 ns for 1,000 cycles marks the pair aligned. (R246) -/
  | alignmentDone (t : Nat) (pair : Nat)
  /-- A returned management record completes, is retried once or fails lastingly. (R258) -/
  | mgmtRecordReturn (t : Nat) (pair purpose pos desc result value : Nat)
  /-- An urgent block sent by this unit returns at a port and is reported. (R244) -/
  | urgentBlockReturned (t : Nat)
  /-- The root launches its CASCADE_DOWN record 2.50 µs after the boundary. (R262) -/
  | cascadeDownLaunch (t : Nat)
  /-- A branch receives the root record, forwards it and uses it as follower state. (R263) -/
  | cascadeDownReceive (t : Nat) (record : CascDown) (label : Nat)
  /-- A device receives CASCADE_UP records for forwarding or the root's budget. (R263) -/
  | cascadeUpReceive (t : Nat) (group : Nat) (records : List CascUp)
  /-- A returned cascade frame at LINKUP gives the hop latency. (R261) -/
  | cascadeRoundtripReturn (t : Nat) (group trip turn beyond devices : Nat)
  /-- A lane state's timeout expires and the bring-up attempt fails or RELOCK ends. (R271) -/
  | laneStateTimeout (t : Nat) (k : Nat)
  /-- 1 ms of VERIFY without errors makes the lane ACTIVE. (R271) -/
  | laneVerifyPass (t : Nat) (k : Nat)
  /-- 100 ms in DOWN starts a fresh pair of bring-up attempts. (R272) -/
  | laneDownRetry (t : Nat) (k : Nat)
  /-- A received CAP ordered set advances the ACK count of rate negotiation. (R274) -/
  | laneCapReceive (t : Nat) (k d2 d3 : Nat)
  /-- A received RATE_GO set confirms the selected rate or fails the attempt. (R274) -/
  | laneRateGoReceive (t : Nat) (k d2 : Nat)
  /-- A received tap request is applied once and answered with TAP_STATUS. (R277) -/
  | laneTapReqReceive (t : Nat) (k d2 seq : Nat)
  /-- A received tap status lets the receiver issue its next training request. (R278) -/
  | laneTapStatusReceive (t : Nat) (k d2 seq : Nat)
  /-- A received SLEEP set puts the receive direction asleep. (R289) -/
  | laneSleepReceive (t : Nat) (k : Nat)
  /-- 64 valid sync headers give block lock and advance the lane state. (R279) -/
  | laneBlockLock (t : Nat) (k : Nat)
  /-- An ACTIVE lane losing lock enters RELOCK; with `hiBer` it is 16 invalid sync headers within 125 µs that count as the loss.
  (R279) -/
  | laneLockLoss (t : Nat) (k : Nat) (hiBer : Bool)
  /-- An idle transmit direction with no launch for 4.0 µs sends SLEEP and idles. (R288) -/
  | laneTxSleep (t : Nat) (k : Nat)
  /-- A sleeping transmit direction wakes 2.0 µs before a launch or on a queued frame. (R289) -/
  | laneTxWake (t : Nat) (k : Nat)
  /-- A sleeping receiver with no wake or relock in time has lost lock. (R290) -/
  | laneRxWakeTimeout (t : Nat) (k : Nat)
  /-- Once a minute the lane bit-error estimate enters its histogram. (R282) -/
  | laneBerMinute (t : Nat) (k : Nat)
  /-- Writing 1 to LAN_EYE_START starts an eye scan of an ACTIVE lane. (R283) -/
  | lanEyeStart (t : Nat) (f : Sender)
  /-- Writing 1 to LAN_EYE_ABORT aborts a running scan. (R284) -/
  | lanEyeAbort (t : Nat) (f : Sender)
  /-- All 8,192 points are scanned and a new result generation is published. (R283) -/
  | eyeScanComplete (t : Nat) (counts : List (Nat × Nat))
  /-- A write of LAN_LOOPBACK in CONFIG selects a loopback or PRBS test. (R287) -/
  | lanLoopbackSelect (t : Nat) (f : Sender) (k v : Nat)
  /-- A partner HEAD frame is received and its Tide and streamed state taken. (R308) -/
  | xlHeadReceive (t : Nat) (lane : Nat) (valid : Bool) (head : Head)
  /-- A partner BODY frame delivers codes, arm records and change records. (R312) -/
  | xlBodyReceive (t : Nat) (lane : Nat) (valid : Bool) (body : Body)
  /-- A BULK frame carries a resynchronisation block or plan transfer. (R313) -/
  | xlBulkReceive (t : Nat) (lane : Nat) (bulk : Bulk)
  /-- A returned HEAD at LINKUP gives each cross-link lane's latency. (R297) -/
  | xlLatencyMeasure (t : Nat) (lane roundTrip turnaround : Nat)
  /-- The claim hold-off ends and the unit claims with a new epoch. (R303) -/
  | claimHoldoffExpiry (t : Nat)
  /-- An unacknowledged change record is resent once, then declared lost. (R309) -/
  | changeRecordTimeout (t : Nat)
  /-- Writing 1 to RED_RESYNC_REQ starts resynchronisation of a STALE unit. (R313) -/
  | redResyncReq (t : Nat) (f : Sender)
  /-- An automatic resynchronisation starts at STALE entry or 60 s after a failure. (R313) -/
  | autoResyncTimer (t : Nat)
  /-- A resynchronisation phase completes and the next begins, ending in STANDBY or ACTIVE. (R313) -/
  | resyncPhaseDone (t : Nat) (equal : Bool)
  /-- A resynchronisation phase timeout fails the attempt, retried once. (R314) -/
  | resyncPhaseTimeout (t : Nat)
  /-- Writing 1 makes the device ALONE without a partner. (R315) -/
  | redPartnerAbsentSet (t : Nat) (f : Sender)
  /-- Writing 0 makes the device ACTIVE and the resynchronisation source. (R315) -/
  | redPartnerAbsentClear (t : Nat) (f : Sender)
  /-- Writing 1 on the ACTIVE unit announces a planned handover. (R317) -/
  | redSwapReq (t : Nat) (f : Sender)
  /-- The 32-bit time counter wraps to 0. (R322) -/
  | timeCounterWrap (t : Nat)
  /-- A write of the extended-time shadow clears EXT_STALE. (R324) -/
  | timeShadowWrite (t : Nat) (hart v : Nat)
  /-- A shadow older than 2.0 s sets EXT_STALE. (R324) -/
  | extStaleTimeout (t : Nat)
  /-- A Sync gives an offset sample that steps, slews or flags the counter. (R333) -/
  | ptpSyncReceive (t : Nat) (port : Nat) (inTable : Bool) (stamp frac : Nat) (origin : Int)
  /-- An Announce updates the best master and may change port or grandmaster. (R329) -/
  | ptpAnnounceReceive (t : Nat) (port : Nat) (inTable : Bool) (identity : Nat) (dataset : List Nat) (utc : Int)
  /-- The announce receipt timeout loses the source and enters HOLDOVER. (R334) -/
  | ptpAnnounceTimeout (t : Nat) (port : Nat)
  /-- Every 1 s a Pdelay_Req is sent on each enabled port. (R328) -/
  | ptpPdelayTimer (t : Nat)
  /-- A neighbour's Pdelay_Req is answered with Pdelay_Resp and follow-up. (R328) -/
  | ptpPdelayReqReceive (t : Nat) (port : Nat) (inTable : Bool) (seq requester : Nat)
  /-- A Pdelay response updates the port's peer delay. (R329) -/
  | ptpPdelayRespReceive (t : Nat) (port : Nat) (inTable : Bool) (t1 t2 t3 t4 : Int)
  /-- A PPS_IN edge is time-stamped, qualified and may give the servo sample. (R342) -/
  | ppsInEdge (t : Nat)
  /-- An expected second without a qualified edge is counted as missed. (R342) -/
  | ppsInMiss (t : Nat)
  /-- A branch's ORB_SYNC_IN edge gives the root boundary and a servo sample. (R344) -/
  | orbSyncInEdge (t : Nat)
  /-- A missing or late ORB_SYNC edge is a miss; three lose the source. (R344) -/
  | orbSyncMiss (t : Nat)
  /-- A write of TIM_SET_TIME sets the value of the first step. (R331) -/
  | timSetTime (t : Nat) (f : Sender) (v : Nat)
  /-- Writing 1 steps the counter to the source at a later boundary. (R336) -/
  | timReepochReq (t : Nat) (f : Sender)
  /-- An entry is queued for a time-triggered Ethernet launch. (R337) -/
  | launchQueueWrite (t : Nat) (hart port time buffer length : Nat) (dropLate : Bool)
  /-- A queued frame leaves at its LAUNCH_TIME, late, or is dropped. (R338) -/
  | timedFrameLaunch (t : Nat) (port : Nat)
  /-- Setting a generator's MODE arms it, advancing or dropping a past start. (R340) -/
  | pulseGeneratorArm (t : Nat) (f : Sender) (g mode : Nat)
  /-- A pulse generator reaches its edge time and drives its pin and destinations. (R339) -/
  | pulseGeneratorEdge (t : Nat) (g : Nat)
  /-- Loss of REF25 puts the DPLL into HOLDOVER or FREE. (R351) -/
  | ref25Lost (t : Nat)
  /-- REF25 qualified for 1 s moves the DPLL to ACQUIRING. (R351) -/
  | ref25Qualified (t : Nat)
  /-- A frequency error below 0.01 ppm for 1 s moves the DPLL to LOCKED. (R351) -/
  | dpllLock (t : Nat)
  /-- Crystal loss stops the DPLL and sends every analog PLL to bypass. (R352) -/
  | xoLost (t : Nat)
  /-- Loss of REF156 switches the quad PLLs to the synthesised fallback. (R353) -/
  | ref156Lost (t : Nat)
  /-- REF156 qualified for 1 s returns the quads to it. (R353) -/
  | ref156Requalified (t : Nat)
  /-- An analog PLL loses lock and its domain switches to BYP200. (R356) -/
  | pllLockLoss (t : Nat) (p : Nat)
  /-- A relock succeeds and the output switches back after 20 µs. (R357) -/
  | pllRelockDone (t : Nat) (p : Nat)
  /-- No lock within 500 µs makes the loss lasting. (R357) -/
  | pllRelockTimeout (t : Nat) (p : Nat)
  /-- A write of CLK_PLL_CTRL changes a PLL through bypass. (R358) -/
  | clkPllCtrlChange (t : Nat) (f : Sender) (p v : Nat)
  /-- Writing a PLL's bit retries it after a lasting failure. (R357) -/
  | clkPllRelock (t : Nat) (f : Sender) (mask : Nat)
  /-- Every 10 ms BYP200 is measured against the crystal. (R359) -/
  | byp200Check (t : Nat) (khz : Nat)
  /-- Every 1 ms rails and Tj are sampled and excursions flagged. (R360) -/
  | railMonitorSample (t : Nat) (mv : List Nat) (tj : Int) (current : Nat)
  /-- Writing 1 clears the rail and Tj extremes. (R360) -/
  | pwrExtremesClear (t : Nat) (f : Sender)
  /-- Writing 1 requests LUNAR and arms the wake latches. (R365) -/
  | pwrSleepReq (t : Nat) (f : Sender)
  /-- The firmware's ready signal reaches the commit point, which enters LUNAR or aborts on a latched wake. (R366) -/
  | sleepFirmwareReady (t : Nat)
  /-- No ready within PWR_SLEEP_GRACE ends the request as ABORTED_TIMEOUT. (R365) -/
  | sleepGraceExpiry (t : Nat)
  /-- The hardware sequence and core voltage change complete and the state is LUNAR. (R365) -/
  | lunarEntryDone (t : Nat)
  /-- An enabled wake source fires and starts the wake sequence. (R367) -/
  | wakeEvent (t : Nat) (src : Nat)
  /-- PWR_WAKE_TIMER seconds after commit raise the TIMER wake. (R367) -/
  | wakeTimerExpiry (t : Nat)
  /-- The wake sequence completes into CONFIG or LINKUP as STALE. (R368) -/
  | wakeComplete (t : Nat)
  /-- KOR.WAIT stalls the engine until the named Orbit instant. (R377) -/
  | korWait (t : Nat) (e ctl : Nat) (user : Bool) (ev off : Nat)
  /-- The awaited instant's strobe reaches the engine and KOR.WAIT retires. (R377) -/
  | korWaitComplete (t : Nat) (e : Nat)
  /-- KOR.REFDONE marks the engine's reference set complete, or late. (R385) -/
  | korRefdone (t : Nat) (e ctl : Nat) (user : Bool)
  /-- KOR.OFS returns the offset since the boundary and ORB_COUNT. (R376) -/
  | korOfs (t : Nat) (e ctl : Nat) (user : Bool)
  /-- KOR.FRET completes the fast source and returns from fast mode. (R393) -/
  | korFret (t : Nat) (e : Nat)
  /-- A write of 1 to DONE of the reference page acts as KOR.REFDONE. (R385) -/
  | refPageDoneWrite (t : Nat) (e page v : Nat)
  /-- Writing 1 resets ENG_REF_SLACK_MIN. (R385) -/
  | engRefSlackClear (t : Nat) (f : Sender)
  /-- An exception in fast mode or to an invalid vector halts the engine. (R375) -/
  | engineExceptionHalt (t : Nat) (e cause : Nat)
  /-- Writing 1 reloads and restarts an engine. (R375) -/
  | engRestart (t : Nat) (f : Sender) (e : Nat)
  /-- A source event becomes pending and may be presented to its targets. (R389) -/
  | interruptSourceFire (t : Nat) (src : Nat)
  /-- A claim-register read returns the highest presented source and makes it active. (R390) -/
  | interruptClaim (t : Nat) (target : Nat)
  /-- A claim-register write completes a source or counts a stray completion. (R391) -/
  | interruptComplete (t : Nat) (target source : Nat)
  /-- A fast source is granted to an engine, which enters its fast handler. (R393) -/
  | fastInterruptGrant (t : Nat) (e : Nat) (fen : Bool) (vec pc : Nat)
  /-- A group's hold-off timer expires and its sources are presented again. (R392) -/
  | icuHoldoffExpiry (t : Nat) (g : Nat)
  /-- Writing a number from 504 to 511 raises that software source. (R395) -/
  | icuSwSet (t : Nat) (f : Sender) (n : Nat)
  /-- Writing pending-clear bits clears pending sources. (R389) -/
  | icuPendingClear (t : Nat) (f : Sender) (g bits : Nat)
  /-- A source configuration write changes enable or priority with the mask race rule. (R394) -/
  | icuSrcCfgWrite (t : Nat) (f : Sender) (src v : Nat)
  /-- An SRAM ECC error is corrected or faults the access. (R381) -/
  | sramEccError (t : Nat) (h : Nat) (own store correctable : Bool) (address : Nat)
  /-- A DRAM error is scrubbed and re-read or faults the access. (R382) -/
  | dramEccError (t : Nat) (h : Nat) (store correctable clean : Bool) (address : Nat)
  /-- An arm command is checked and arms Comet or is refused. (R411) -/
  | cmtArm (t : Nat) (f : Sender)
  /-- An abort command discards or truncates the capture. (R414) -/
  | cmtAbort (t : Nat) (f : Sender)
  /-- A soft trigger command triggers an armed Comet. (R408) -/
  | cmtForceTrig (t : Nat) (f : Sender)
  /-- The pattern held for CMT_PAT_HOLD + 1 clocks fires the pattern trigger. (R409) -/
  | cmtPatternMatch (t : Nat)
  /-- A block whose oldest entry waited 1 ms is completed. (R403) -/
  | cmtBlockAgeTimeout (t : Nat)
  /-- The last tail block completes the record and Comet stores it. (R413) -/
  | cmtTailEnd (t : Nat)
  /-- Writing a record number discards that stored record. (R415) -/
  | cmtRecRelease (t : Nat) (f : Sender) (n : Nat)
  /-- An expedited USDO download writes an entry. (R434) -/
  | usdoExpeditedDownload (t : Nat) (port index sub : Nat) (data : List Nat)
  /-- An initiate segmented download opens a write transfer. (R434) -/
  | usdoSegmentedDownload (t : Nat) (port index sub length : Nat)
  /-- A download segment is taken, and the last commits the write. (R430) -/
  | usdoDownloadSegment (t : Nat) (port : Nat) (data : List Nat) (last : Bool) (img : Option DictImage)
  /-- An expedited USDO upload reads an entry. (R434) -/
  | usdoExpeditedUpload (t : Nat) (port index sub : Nat)
  /-- An initiate segmented upload opens a read transfer. (R434) -/
  | usdoSegmentedUpload (t : Nat) (port index sub : Nat)
  /-- An upload segment request returns the next data. (R432) -/
  | usdoUploadSegment (t : Nat) (port : Nat)
  /-- An abort transfer message ends the open transfer. (R434) -/
  | usdoAbort (t : Nat) (port : Nat)
  /-- A transfer silent for 1 s is aborted. (R435) -/
  | usdoSegmentTimeout (t : Nat) (port : Nat)
  /-- An NMT command is ignored and counted. (R436) -/
  | nmtCommand (t : Nat) (port : Nat)
  /-- A heartbeat is sent at the period of 0x1017. (R436) -/
  | heartbeatTimer (t : Nat) (port : Nat)
  /-- A bus-off recovers, and a second within 10 s holds the port. (R437) -/
  | canBusOff (t : Nat) (port : Nat)
  /-- 10 s without a further bus-off makes the bus-off transient. (R437) -/
  | canBusOffQuiet (t : Nat) (port : Nat)
  /-- OPEN creates a session with a random identifier. (R440) -/
  | tdsOpen (t : Nat) (channel seq : Nat)
  /-- CLOSE ends the session. (R440) -/
  | tdsClose (t : Nat) (f : Sender) (seq : Nat)
  /-- KEEPALIVE keeps the session open. (R440) -/
  | tdsKeepalive (t : Nat) (f : Sender) (seq : Nat)
  /-- READ returns an entry's data after the checks. (R428) -/
  | tdsRead (t : Nat) (f : Sender) (seq index sub : Nat)
  /-- WRITE writes an entry's data after the checks. (R428) -/
  | tdsWrite (t : Nat) (f : Sender) (seq index sub : Nat) (data : List Nat) (img : Option DictImage)
  /-- READ_INDEX returns every subindex from one generation or cycle. (R432) -/
  | tdsReadIndex (t : Nat) (f : Sender) (seq index : Nat)
  /-- DESCRIBE returns an entry's type, access, role, states and limits. (R439) -/
  | tdsDescribe (t : Nat) (f : Sender) (seq index sub : Nat)
  /-- UP_START opens a bulk upload and starts sending chunks. (R442) -/
  | tdsUpStart (t : Nat) (f : Sender) (seq index sub first window : Nat)
  /-- UP_ACK acknowledges chunks cumulatively and opens the window. (R442) -/
  | tdsUpAck (t : Nat) (f : Sender) (seq next : Nat)
  /-- DOWN_START opens a bulk download. (R443) -/
  | tdsDownStart (t : Nat) (f : Sender) (seq index sub length crc window : Nat)
  /-- DOWN_DATA delivers a chunk, acknowledged cumulatively. (R443) -/
  | tdsDownData (t : Nat) (f : Sender) (seq chunk : Nat) (data : List Nat)
  /-- DOWN_END checks length and CRC and commits the download. (R443) -/
  | tdsDownEnd (t : Nat) (f : Sender) (seq : Nat) (img : Option DictImage)
  /-- CANCEL ends the session's transfer with nothing committed. (R441) -/
  | tdsCancel (t : Nat) (f : Sender) (seq : Nat)
  /-- A chunk unacknowledged for 50 ms is resent, and a second loss aborts the transfer. (R442) -/
  | tdsChunkTimeout (t : Nat) (f : Sender)
  /-- A session without a valid datagram for TDS_IDLE closes. (R440) -/
  | tdsIdleTimeout (t : Nat) (f : Sender)
  /-- A datagram with a bad header or unknown session is dropped and counted. (R439) -/
  | tdsBadDatagram (t : Nat) (channel : Nat)
  /-- An ARP request is answered. (R438) -/
  | arpRequest (t : Nat) (port target : Nat)
  /-- An ICMP echo request is answered. (R438) -/
  | icmpEchoRequest (t : Nat) (port target : Nat) (data : List Nat)
  /-- An Ethernet link going down closes its sessions and transfers. (R440) -/
  | ethLinkChange (t : Nat) (port : Nat) (up : Bool)
  /-- Writing a role draws a challenge for the session. (R425) -/
  | devAuthReq (t : Nat) (f : Sender) (role : Nat)
  /-- Writing the response grants the role or fails. (R425) -/
  | devAuthResponse (t : Nat) (f : Sender) (data : List Nat)
  /-- Writing 1 drops the session's role. (R424) -/
  | devAuthLogout (t : Nat) (f : Sender)
  /-- A session idle for DEV_AUTH_IDLE loses its role. (R424) -/
  | authIdleTimeout (t : Nat) (f : Sender)
  /-- The 60 s lockout of a channel after five failures ends. (R426) -/
  | authLockoutExpiry (t : Nat) (channel : Nat)
  /-- A role key write stores it and drops sessions holding that role. (R427) -/
  | devAuthKeyWrite (t : Nat) (f : Sender) (role : Nat) (data : List Nat)
  /-- Writing DEV_IMAGE verifies and applies a downloaded dictionary image or refuses it. (R445) -/
  | devImageLoad (t : Nat) (f : Sender) (img : DictImage)
  /-- Writing 1 starts storing the live configuration to the other bank. (R447) -/
  | devImageStore (t : Nat) (f : Sender)
  /-- The store and verify end, with a retry, and the bank becomes preferred or invalid. (R447) -/
  | imageStoreDone (t : Nat) (ok : Bool)
  /-- A write to an entry without a row of its own is judged and committed. (R429) -/
  | registerWrite (t : Nat) (f : Sender) (index sub : Nat) (data : List Nat)
  /-- Ten minutes after the last flush a periodic flush freezes the logbook values. (R462) -/
  | logPeriodicFlush (t : Nat)
  /-- Writing 1 demands a flush. (R462) -/
  | logFlushReq (t : Nat) (f : Sender)
  /-- Programming of a snapshot slot completes, is retried once or marks slots bad. (R462) -/
  | logFlushDone (t : Nat) (ok : Bool)
  /-- Once a second the lifetime counters and histograms are sampled. (R457) -/
  | logSecondTick (t : Nat) (ref25 : Option Int) (xo : Int) (ref156 : Option Int)
  /-- Writing 1 freezes a logbook export as a new result generation. (R465) -/
  | logExportReq (t : Nat) (f : Sender)
  /-- A debug UART read command returns an entry's value or abort. (R466) -/
  | uartReadCommand (t : Nat) (index sub : Nat)
  /-- LOGREAD reads the logbook partition in RESET or held BOOT. (R467) -/
  | jtagLogread (t : Nat) (offset length : Nat)
  /-- DEBUG opens core debug after a Service challenge and response. (R467) -/
  | jtagDebug (t : Nat) (data : List Nat)
  /-- A lane quad PLL loses lock, takes down every lane of its quad, counts in CLK_QUAD_LOSS_COUNT, raises source 487 and starts its relock attempt. (R359) -/
  | quadPllLockLoss (t : Nat) (q : Nat)
  /-- The 40 MHz crystal oscillates again and the DPLL leaves NO_CLOCK for FREE. (R351) -/
  | crystalRestored (t : Nat)
  /-- Edges return on a lost accepted SDM_CLK, which ends CLK_LOST and starts settling and a new measuring window. (R163) -/
  | sdmClkRestored (t : Nat) (g : Nat)
  /-- A stuck bitstream changes value, which ends STUCK and restarts the channel into settling. (R163) -/
  | stuckBitstreamEnd (t : Nat) (k : Nat)
  /-- A pulse on TIDE_IN is time-stamped with its width for Tide scoring and the trip indication, and may act as a wake source. (R301) -/
  | tideInPulse (t : Nat) (width : Nat)
  /-- A GPIO input changes level, which applies or removes a carrier GPIO mask source and ends the external trip condition when it leaves its trip level. (R145) -/
  | gpioInputChange (t : Nat) (line : Nat) (level : Bool)
  /-- Loading BYPASS or IDCODE into the TAP after a test instruction ends the JTAG-requested reset and boots the device afresh. (R291) -/
  | jtagResetRelease (t : Nat)
  /-- Programming of anti-rollback or revocation fuses ends, is read back, retried once and journalled as 0x0225 when it fails twice. (R481) -/
  | otpProgramDone (t : Nat) (failed : Nat)
  /-- The 60 s spacing or the two-per-hour limit lapses and a demanded flush that was held back begins programming. (R462) -/
  | flushSpacingExpiry (t : Nat)
  /-- After a DRAM PLL relock, self-refresh exit and retraining complete and the DRAM is available again, so Comet spilling resumes. (R359) -/
  | dramRetrainDone (t : Nat)
  /-- A PWM counter reaches its active duty value and the raw output falls. (R137) -/
  | carrierDutyEdge (t : Nat) (k : Nat)
  /-- DT after a raw edge of a PWM_COMPL channel, the delayed main or complement output rises. (R141) -/
  | deadTimeElapsed (t : Nat) (k : Nat)
  /-- A dual-clock FIFO finds a pointer error, overflow or underflow, discards the unit and raises source 488. (R350) -/
  | crossingFault (t : Nat) (subject : Nat)
  /-- An engine or service-core access to an unmapped address, beyond DRAM on a P4, or of the wrong size to a register block ends in an access-fault exception with no effect. (R379) -/
  | accessFault (t : Nat) (h address size kind : Nat)
  /-- An engine write to a reference-page staging register stages the value, or is ignored and counted in ENG_REF_FOREIGN when it targets another engine's page. (R385) -/
  | referencePageWrite (t : Nat) (e page reg : Nat) (v : Int)
  /-- An I/O bank rail falls below or returns to its operating minimum, which makes its outputs high-impedance or driven again. (R496) -/
  | ioBankRailLoss (t : Nat) (bank : Nat) (ok : Bool)
  /-- The 40 µs eye-height evaluation of a transmit setting ends, and the receiver keeps or reverses the step and issues its next request or RX_READY. (R278) -/
  | trainEvaluationDone (t : Nat) (k : Nat) (height : Int)
deriving DecidableEq, Repr

end Sys2Proof
end

