-- ==== Sys2Proof/Machine/Flags.lean ====
section
/-!
DEFINITION. Status words: the bits and fields of a number that the manual lays out as flags, read, set and gathered.
-/

namespace Sys2Proof.Machine

/-- Bit b of a number. -/
def bitOf (v : Nat) (b : Nat) : Bool := v.testBit b

/-- A number with bit b given. -/
def withBit (v b : Nat) (on : Bool) : Nat :=
  if on then v ||| 2 ^ b else if v.testBit b then v - 2 ^ b else v

/-- Bits lo and up of a number, `width` of them. -/
def field (v lo width : Nat) : Nat := v / 2 ^ lo % 2 ^ width

/-- A number with a field given. -/
def withField (v lo width x : Nat) : Nat :=
  v - field v lo width * 2 ^ lo + x % 2 ^ width * 2 ^ lo

/-- Flags as a number, the first flag bit 0. -/
def ofFlags : List Bool → Nat
  | [] => 0
  | b :: rest => (if b then 1 else 0) + 2 * ofFlags rest

end Sys2Proof.Machine
end

