-- ==== Sys2Proof/Machine/Operands.lean ====
section
/-!
DEFINITION. Numbers as the manual computes with them: exact rationals rounded once into a fixed-point format, ties away
from zero, saturating and never wrapping (R56); bytes; and the transcendental functions, taken as rationals
within 2^-80 of the exact value (log entry 10).
-/

namespace Sys2Proof.Machine

/-- The nearest integer, ties away from zero (R56). -/
def roundAway (q : Rat) : Int :=
  if 0 ≤ q then (q + (1 / 2 : Rat)).floor else -((-q + (1 / 2 : Rat)).floor)

/-- An integer held within limits (R56: every result saturates). -/
def clampInt (lo hi v : Int) : Int := max lo (min hi v)

/-- The limits of a signed word of `width` bits. -/
def saturate (width : Nat) (v : Int) : Int := clampInt (-(2 ^ (width - 1) : Nat)) ((2 ^ (width - 1) : Nat) - 1) v

/-- The limits of an unsigned word of `width` bits. -/
def saturateU (width : Nat) (v : Int) : Int := clampInt 0 ((2 ^ width : Nat) - 1) v

/-- A rational in a signed format with `frac` fractional bits in `width` bits (R56). DEDUCED (log entry 11): unsafe. -/
def toQ (width frac : Nat) (q : Rat) : Int := saturate width (roundAway (q * ((2 ^ frac : Nat) : Rat)))

/-- The value of a word with `frac` fractional bits. -/
def fromQ (frac : Nat) (v : Int) : Rat := (v : Rat) / ((2 ^ frac : Nat) : Rat)

/-- One bit of the integer square root after another, highest first. -/
def isqrtBits (v : Nat) : Nat → Nat → Nat
  | 0, r => r
  | n + 1, r => let r' := r + 2 ^ n; isqrtBits v n (if r' * r' ≤ v then r' else r)

/-- The integer square root of a number below 2^256. -/
def isqrt (v : Nat) : Nat := isqrtBits v 128 0

/-- The square root of a rational to 2^-96 (0 for a negative one). DEDUCED (log entry 10): unsafe. -/
def sqrtQ (q : Rat) : Rat :=
  if q ≤ 0 then 0 else (isqrtBits ((q * ((2 ^ 192 : Nat) : Rat)).floor.toNat) 160 0 : Nat) / ((2 ^ 96 : Nat) : Rat)

/-- A rational cut to 100 fractional bits, so that iterated series keep small terms. -/
def trim (q : Rat) : Rat := ((q * ((2 ^ 100 : Nat) : Rat)).floor : Rat) / ((2 ^ 100 : Nat) : Rat)

/-- pi to 2^-100. -/
def piQ : Rat := 3982441812995697363688351113952 / 1267650600228229401496703205376

/-- The terms x^k / k! of a series from k on, each from the one before, with every other sign alternating. -/
def trigSeries (x2 term : Rat) (k : Nat) : Nat → Rat
  | 0 => 0
  | n + 1 => term + trigSeries x2 (trim (-(term * x2) / (((k + 1) * (k + 2) : Nat) : Rat))) (k + 2) n

/-- sin and cos of a small angle in radians by their series, 24 terms. -/
def sinSmall (x : Rat) : Rat := trigSeries (trim (x * x)) x 1 24
/-- cos by its series. -/
def cosSmall (x : Rat) : Rat := trigSeries (trim (x * x)) 1 0 24

/-- sin of a fraction of a turn: the quadrant is taken off first. DEDUCED (log entry 10): unsafe. -/
def sinTurn (f : Rat) : Rat :=
  let g := f - (f.floor : Rat)
  let q := (g * 4).floor
  let x := trim ((g - (q : Rat) / 4) * 2 * piQ)
  if q = 0 then sinSmall x else if q = 1 then cosSmall x else if q = 2 then -(sinSmall x) else -(cosSmall x)

/-- cos of a fraction of a turn. -/
def cosTurn (f : Rat) : Rat := sinTurn (f + 1 / 4)

/-- The arctangent of x in [0, 1] in radians: halved three times, then its series. -/
def atanSeries (x2 p : Rat) (k : Nat) : Nat → Rat
  | 0 => 0
  | n + 1 => p / ((2 * k + 1 : Nat) : Rat) + atanSeries x2 (trim (-(p * x2))) (k + 1) n

/-- One halving: tan(a / 2) from tan(a). -/
def halfTan (x : Rat) : Rat := trim (x / (1 + sqrtQ (1 + x * x)))

/-- The arctangent of x in [0, 1] in radians. -/
def atanUnit (x : Rat) : Rat :=
  let y := halfTan (halfTan (halfTan x))
  8 * atanSeries (trim (y * y)) y 0 20

/-- The angle of (x, y) as a fraction of a turn in (-1/2, 1/2]; 0 for the origin. -/
def atan2Turn (y x : Rat) : Rat :=
  let ax := if x < 0 then -x else x
  let ay := if y < 0 then -y else y
  if ax = 0 ∧ ay = 0 then 0 else
  let a := if ay ≤ ax then atanUnit (trim (ay / ax)) / (2 * piQ) else 1 / 4 - atanUnit (trim (ax / ay)) / (2 * piQ)
  let b := if x < 0 then 1 / 2 - a else a
  if y < 0 then -b else b

/-- exp of x in [-1/2, 1/2]: its series. -/
def expSeries (x term : Rat) (k : Nat) : Nat → Rat
  | 0 => 0
  | n + 1 => term + expSeries x (trim (term * x / ((k + 1 : Nat) : Rat))) (k + 1) n

/-- n squarings. -/
def squareTimes (q : Rat) : Nat → Rat
  | 0 => q
  | n + 1 => squareTimes (trim (q * q)) n

/-- exp of a rational of magnitude below 2^7; 0 below. -/
def expQ (x : Rat) : Rat :=
  if x < -80 then 0 else squareTimes (expSeries (x / 256) 1 0 24) 8

/-- atanh series for small x: x + x^3/3 + ... -/
def atanhSeries (x2 p : Rat) (k : Nat) : Nat → Rat
  | 0 => 0
  | n + 1 => p / ((2 * k + 1 : Nat) : Rat) + atanhSeries x2 (trim (p * x2)) (k + 1) n

/-- ln of a rational in [1, 2]: 2 atanh((x - 1)/(x + 1)). -/
def lnSmall (x : Rat) : Rat := let y := trim ((x - 1) / (x + 1)); 2 * atanhSeries (trim (y * y)) y 0 48

/-- ln of a rational above 0 and below 2^32, above 2^-32: powers of two are taken off first. -/
def lnLoop (x acc : Rat) : Nat → Rat
  | 0 => acc + lnSmall x
  | n + 1 =>
    if 2 < x then lnLoop (x / 2) (acc + lnSmall 2) n
    else if x < 1 then lnLoop (x * 2) (acc - lnSmall 2) n
    else acc + lnSmall x

/-- ln of a positive rational. -/
def lnQ (x : Rat) : Rat := lnLoop x 0 40

/-- The tangent of an angle in radians of magnitude below pi / 2. -/
def tanQ (x : Rat) : Rat := let f := x / (2 * piQ); trim (sinTurn f / cosTurn f)

/-- The whole number below a rational, as Nat (0 for a negative one). -/
def floorN (q : Rat) : Nat := q.floor.toNat

/-- The whole number above a rational, as Nat. -/
def ceilN (q : Rat) : Nat := (q.ceil).toNat

/-- The division of naturals rounded up. -/
def divUp (a b : Nat) : Nat := (a + b - 1) / b

/-- |v| of an integer. -/
def absInt (v : Int) : Int := if v < 0 then -v else v

/-- |q| of a rational. -/
def absQ (q : Rat) : Rat := if q < 0 then -q else q

/-- A number with a given count of bytes, least significant first. -/
def bytesOf (v : Nat) : Nat → List Nat
  | 0 => []
  | n + 1 => v % 256 :: bytesOf (v / 256) n

/-- The number that bytes spell, least significant first. -/
def ofBytes : List Nat → Nat
  | [] => 0
  | b :: rest => b % 256 + 256 * ofBytes rest

/-- The two's complement of an integer in `width` bits. -/
def unsigned (width : Nat) (v : Int) : Nat := (v % (2 ^ width : Nat)).toNat

/-- The signed reading of a field of `width` bits. -/
def signed (width v : Nat) : Int :=
  if v % 2 ^ width < 2 ^ (width - 1) then (v % 2 ^ width : Nat) else (v % 2 ^ width : Nat) - (2 ^ width : Nat)

/-- A list with the element at an index changed. -/
def updateAt {α : Type} (l : List α) (i : Nat) (f : α → α) : List α := l.modify i f

end Sys2Proof.Machine
end

