-- ==== Sys2Proof/Machine/Checks.lean ====
section
/-!
DEFINITION. The two checks of the Polmel link (R226), and the frame fields that both directions share.
-/

namespace Sys2Proof.Machine

/-- n bit steps of a CRC with the most significant bit first, 16 bits wide. -/
def crcStep16 (c : Nat) : Nat → Nat
  | 0 => c
  | n + 1 => crcStep16 ((if c.testBit 15 then (2 * c) ^^^ 0x1021 else 2 * c) % 65536) n

/-- CRC-16/CCITT (Table 10.1). DESIGN CHOICE (log entry 9): safe. -/
def crc16 (bytes : List Nat) : Nat := bytes.foldl (fun c b => crcStep16 (c ^^^ (b % 256 * 256)) 8) 0xFFFF

/-- n bit steps of a reflected CRC, 32 bits wide. -/
def crcStep32 (c : Nat) : Nat → Nat
  | 0 => c
  | n + 1 => crcStep32 (if c.testBit 0 then (c / 2) ^^^ 0x82F63B78 else c / 2) n

/-- CRC-32C (Table 10.1). -/
def crc32c (bytes : List Nat) : Nat := bytes.foldl (fun c b => crcStep32 (c ^^^ (b % 256)) 8) 0xFFFFFFFF ^^^ 0xFFFFFFFF

/-- A CRC-16 as it is stored: most significant byte first. -/
def crcStored (c : Nat) : Nat := c / 256 + c % 256 * 256

/-- The slot prefix: ring pair, node position, bits 7:0 of CYCLE. -/
def slotPrefix (pair pos cycle : Nat) : List Nat := [pair % 256, pos % 256, pos / 256 % 256, cycle % 256]

/-- A downward half with its DCRC, as a 48-bit number of its six bytes (Table 10.6). -/
def downHalf (pair pos cycle word : Nat) : Nat :=
  word % 2 ^ 32 + crcStored (crc16 (slotPrefix pair pos cycle ++ bytesOf word 4)) * 2 ^ 32

/-- An upward half passes its UCRC (Table 10.2); it is an 80-bit number of its ten bytes. -/
def upCheck (pair pos cycle half : Nat) : Bool :=
  half / 2 ^ 64 % 65536 = crcStored (crc16 (slotPrefix pair pos cycle ++ bytesOf half 8))

/-- The upward half of a node with its UCRC, as its fields make it (Table 10.7). -/
def upHalf (pair pos cycle capV status slowIndex slowNew slowValue : Nat) : Nat :=
  let w := capV % 65536 + status % 65536 * 2 ^ 16 + slowIndex % 64 * 2 ^ 32 + slowNew % 2 * 2 ^ 38 + slowValue % 2 ^ 24 * 2 ^ 40
  w + crcStored (crc16 (slotPrefix pair pos cycle ++ bytesOf w 8)) * 2 ^ 64

/-- The fields of Table 10.4. -/
structure FrameHeader where
  type : Nat
  pair : Nat
  dir : Nat
  side : Nat
  role : Nat
  mode : Nat
  trip : Nat
  arm : Nat
  epoch : Nat
  cycle : Nat
  launch : Nat
  depart : Nat
  len : Nat
  next : Nat
  count : Nat
  first : Nat
  size : Nat
deriving DecidableEq, Repr

/-- The header's 32 bytes with HCRC. -/
def FrameHeader.bytes (h : FrameHeader) : List Nat :=
  let b := [h.type % 256, h.pair % 32 + 32 * h.dir + 64 * h.side, h.role % 4 + 4 * h.mode + 8 * h.trip, h.arm % 256] ++
    bytesOf h.epoch 2 ++ bytesOf h.cycle 4 ++ bytesOf h.launch 4 ++ bytesOf h.depart 2 ++ [h.len % 256, h.next % 256] ++
    bytesOf h.count 2 ++ bytesOf h.first 2 ++ [h.size % 256] ++ bytesOf 0 7
  let c := crc16 b
  b ++ [c / 256, c % 256]

end Sys2Proof.Machine
end

