-- ==== Sys2Proof/Machine/Objects.lean ====
section
/-!
DEFINITION. The object dictionary as the manual tables it: every entry of Tables 2.10, 3.8, 4.7, 5.10, 6.8, 7.9, 8.9,
9.6, 10.14, 10.17, 11.11, 12.8, 13.7, 14.15, 15.14, 16.11, 17.12, 17.13 and 18.10 with its type (R422), access class
(R423), reset value, least role, states, range and mirroring (Table 17.8). An entry's key is 256 * index + subindex.
A reset value the tables leave open (a dash) is 0 (log entry 4); an entry that the manual answers with
abort 0x0800_0024 until it has data resets to absent.
-/

namespace Sys2Proof

/-- The types of Table 17.1 with the length that each entry states (R422). -/
inductive ObjType where
  | bool | i8 | i16 | i32 | i64 | u8 | u16 | u32 | u64 | time32
  | visibleString (bytes : Nat)
  | octetString (bytes : Nat)
  | domain (maxBytes : Nat)
deriving DecidableEq, Repr

/-- The access classes of R423. -/
inductive Access where
  | ro | wo | rw | rww
deriving DecidableEq, Repr

/-- The values a row of an object table admits; what a row cannot say alone is left to the entry's own rule. -/
inductive ObjRange where
  | any
  | span (lo hi : Int)
  | spanOr (lo hi other : Int)
  | oneOf (values : List Int)
deriving DecidableEq, Repr

/-- One row of an object table: an index range, a subindex range and what Table 17.2 judges by. `states` has bit n set
where DEV_STATE n may write; `mask` holds the writable bits of a bit-field entry (R6). -/
structure ObjRow where
  indexLo : Nat
  indexHi : Nat
  subLo : Nat
  subHi : Nat
  type : ObjType
  access : Access
  reset : Nat → Nat → Int
  role : Nat
  states : Nat
  range : ObjRange
  mask : Nat
  mirrored : Bool

namespace Obj

/-- The reading of an entry that has no data yet: outside the range of every type, so it is no value of one. -/
def absent : Int := -1180591620717411303424

/-- A reset value that is the same for every index and subindex of a row. -/
def k (v : Int) (_ _ : Nat) : Int := v

/-- Reset of a base descriptor: the fields of Table 8.5 at their resets. -/
def gateDescriptorReset : Int :=
  40 + 8 * 2 ^ 8 + 150 * 2 ^ 12 + 40 * 2 ^ 20 + 8 * 2 ^ 28 + 150 * 2 ^ 32

/-- Reset of CLK_PLL_CTRL of PLL p: the output of Table 14.4 in bits 15:4, PRESTAGE 0. -/
def pllCtrlReset (p : Nat) : Int :=
  16 * (([1600, 1000, 1000, 400, 1000, 1067][p]?).getD 0 : Nat)

/-! ## Keys of the entries -/

abbrev ORB_PERIOD : Nat := 0x210001
abbrev ORB_DEG_PERIOD : Nat := 0x210002
abbrev ORB_PERIOD_NOW : Nat := 0x210003
abbrev ORB_COUNT : Nat := 0x210004
abbrev ORB_STATUS : Nat := 0x210005
abbrev ORB_BOUNDARY_TIME : Nat := 0x210006
abbrev ORB_DEG_FORCE : Nat := 0x210007
abbrev ORB_MARGIN_WARN : Nat := 0x210008
abbrev ORB_MARGIN_MIN : Nat := 0x210009
abbrev ORB_MARGIN_CLEAR : Nat := 0x21000A
abbrev ORB_OVERRUN_CAUSE : Nat := 0x21000B
abbrev ORB_OVERRUN_COUNT : Nat := 0x21000C
abbrev ORB_REF_LATE_COUNT : Nat := 0x21000D
abbrev ORB_STRETCH_COUNT : Nat := 0x21000E
abbrev ORB_LATE_SLOTS : Nat := 0x21000F
abbrev ORB_DEG_SET_ID : Nat := 0x210010
abbrev ORB_T_REF : Nat := 0x210101
abbrev ORB_T_UP : Nat := 0x210102
abbrev ORB_T_FIN : Nat := 0x210103
abbrev ORB_T_READY : Nat := 0x210104
abbrev ORB_PAIR_LATENCY (i : Nat) : Nat := 0x211001 + i
abbrev ORB_PAIR_LINE_WORST (i : Nat) : Nat := 0x211101 + i
abbrev SWG_S_BASE : Nat := 0x220001
abbrev SWG_V_BASE : Nat := 0x220002
abbrev SWG_F0 : Nat := 0x220003
abbrev SWG_VDC_BASE : Nat := 0x220004
abbrev SWG_I_BASE : Nat := 0x220005
abbrev SWG_Z_BASE : Nat := 0x220006
abbrev SWG_K_AC : Nat := 0x220007
abbrev SWG_L_ARM : Nat := 0x220008
abbrev SWG_CTRL : Nat := 0x220101
abbrev SWG_STATUS : Nat := 0x220102
abbrev SWG_PARAM_HOLD : Nat := 0x220103
abbrev SWG_REF_SRC_PWR : Nat := 0x220104
abbrev SWG_REF_SRC_ARM : Nat := 0x220105
abbrev SWG_TRACK_VMIN : Nat := 0x220106
abbrev SWG_D : Nat := 0x221001
abbrev SWG_TAU_D : Nat := 0x221002
abbrev SWG_W_MIN : Nat := 0x221003
abbrev SWG_H_SET : Nat := 0x221004
abbrev SWG_H_EFF : Nat := 0x221005
abbrev SWG_H_MAX : Nat := 0x221006
abbrev SWG_H_WARN : Nat := 0x221007
abbrev SWG_ROCOF_DESIGN : Nat := 0x221008
abbrev SWG_TAU_DC : Nat := 0x221009
abbrev SWG_E_USABLE : Nat := 0x22100A
abbrev SWG_E_STORED : Nat := 0x22100B
abbrev SWG_H_CLAMP_CYCLES : Nat := 0x22100C
abbrev SWG_BUDGET_HELD_CYCLES : Nat := 0x22100D
abbrev SWG_W_MAX : Nat := 0x22100E
abbrev SWG_PF_DROOP : Nat := 0x222001
abbrev SWG_PF_DEADBAND : Nat := 0x222002
abbrev SWG_QV_DROOP : Nat := 0x222003
abbrev SWG_TAU_Q : Nat := 0x222004
abbrev SWG_E_MIN : Nat := 0x222005
abbrev SWG_E_MAX : Nat := 0x222006
abbrev SWG_RV : Nat := 0x223001
abbrev SWG_XV : Nat := 0x223002
abbrev SWG_P_SET_FIX : Nat := 0x224001
abbrev SWG_Q_SET_FIX : Nat := 0x224002
abbrev SWG_V_SET_FIX : Nat := 0x224003
abbrev SWG_W_SET_FIX : Nat := 0x224004
abbrev SWG_P_SET_NOW : Nat := 0x224005
abbrev SWG_Q_SET_NOW : Nat := 0x224006
abbrev SWG_V_SET_NOW : Nat := 0x224007
abbrev SWG_W_SET_NOW : Nat := 0x224008
abbrev SWG_REF_CLAMP_COUNT : Nat := 0x224009
abbrev SWG_REF_CLAMP_LAST : Nat := 0x22400A
abbrev SWG_THETA : Nat := 0x225001
abbrev SWG_OMEGA : Nat := 0x225002
abbrev SWG_OMEGA_F : Nat := 0x225003
abbrev SWG_E : Nat := 0x225004
abbrev SWG_P_E : Nat := 0x225005
abbrev SWG_Q_E : Nat := 0x225006
abbrev SWG_I_D : Nat := 0x225007
abbrev SWG_I_Q : Nat := 0x225008
abbrev SWG_U_DC : Nat := 0x225009
abbrev SWG_ARM_REF (i : Nat) : Nat := 0x225101 + i
abbrev SWG_W_LIMIT_CYCLES : Nat := 0x226001
abbrev SWG_E_LIMIT_CYCLES : Nat := 0x226002
abbrev SWG_MEAS_HELD_COUNT : Nat := 0x226003
abbrev SWG_START_UNLOCKED_COUNT : Nat := 0x226004
abbrev FRT_CTRL : Nat := 0x230001
abbrev FRT_STATUS : Nat := 0x230002
abbrev FRT_I_TH : Nat := 0x231001
abbrev FRT_TVI_GAIN : Nat := 0x231002
abbrev FRT_TVI_XR : Nat := 0x231003
abbrev FRT_TVI_DECAY : Nat := 0x231004
abbrev FRT_I_LIM : Nat := 0x231101
abbrev FRT_X_EXTRA : Nat := 0x231102
abbrev FRT_R_AD : Nat := 0x231103
abbrev FRT_X_C : Nat := 0x231104
abbrev FRT_V_DET : Nat := 0x231201
abbrev FRT_V_CLEAR : Nat := 0x231202
abbrev FRT_CLEAR_TIME : Nat := 0x231203
abbrev FRT_P_RAMP : Nat := 0x231204
abbrev FRT_W_BAND : Nat := 0x231205
abbrev FRT_MAX_TIME : Nat := 0x231206
abbrev FRT_UNBAL_DET : Nat := 0x231207
abbrev FRT_DZ : Nat := 0x232001
abbrev FRT_I_MAG : Nat := 0x232002
abbrev FRT_V_POS : Nat := 0x232003
abbrev FRT_V_AVG : Nat := 0x232004
abbrev FRT_P_AV : Nat := 0x232005
abbrev FRT_V_NEG : Nat := 0x232006
abbrev FRT_I_PEAK : Nat := 0x232007
abbrev FRT_RIDE_TIME : Nat := 0x232008
abbrev FRT_RIDE_COUNT : Nat := 0x232101
abbrev FRT_SAT_CYCLES : Nat := 0x232102
abbrev FRT_TVI_CYCLES : Nat := 0x232103
abbrev FRT_REFAULT_COUNT : Nat := 0x232104
abbrev FRT_W_BAND_CYCLES : Nat := 0x232105
abbrev FRT_LONGEST_RIDE : Nat := 0x232106
abbrev BLK_DEAD_V : Nat := 0x234001
abbrev BLK_DEAD_TIME : Nat := 0x234002
abbrev BLK_UDC_MIN : Nat := 0x234003
abbrev BLK_E_RAMP : Nat := 0x234004
abbrev BLK_I_LIM : Nat := 0x234005
abbrev BLK_PAUSE_MAX : Nat := 0x234006
abbrev BLK_HOLD_TIME : Nat := 0x234007
abbrev BLK_HAND_RATE : Nat := 0x234008
abbrev BLK_PHASE : Nat := 0x234101
abbrev BLK_STATUS : Nat := 0x234102
abbrev BLK_E_NOW : Nat := 0x234103
abbrev BLK_PAUSE_TIME : Nat := 0x234104
abbrev BLK_HAND_OFFSET : Nat := 0x234105
abbrev BLK_SYNC_REQ : Nat := 0x235001
abbrev BLK_SYNC_TAU : Nat := 0x235002
abbrev BLK_SYNC_DF_MAX : Nat := 0x235003
abbrev BLK_SYNC_V_RATE : Nat := 0x235004
abbrev BLK_SYNC_ANG : Nat := 0x235005
abbrev BLK_SYNC_DF : Nat := 0x235006
abbrev BLK_SYNC_DV : Nat := 0x235007
abbrev BLK_SYNC_DWELL : Nat := 0x235008
abbrev BLK_SYNC_TIMEOUT : Nat := 0x235009
abbrev BLK_SYNC_RELEASE : Nat := 0x23500A
abbrev BLK_SYNC_ANG_ERR : Nat := 0x23500B
abbrev BLK_SYNC_FREQ_ERR : Nat := 0x23500C
abbrev BLK_SYNC_V_ERR : Nat := 0x23500D
abbrev BLK_SYNC_W_OFFSET : Nat := 0x23500E
abbrev BLK_SYNC_V_OFFSET : Nat := 0x23500F
abbrev MOD_EDGE_MIN : Nat := 0x240001
abbrev MOD_EDGE_UNITS : Nat := 0x240002
abbrev MOD_ARM_CTRL (i : Nat) : Nat := 0x240101 + i
abbrev MOD_ARM_STATUS (i : Nat) : Nat := 0x240201 + i
abbrev MOD_N_INS (i : Nat) : Nat := 0x240301 + i
abbrev MOD_REMAINDER (i : Nat) : Nat := 0x240401 + i
abbrev MOD_EDGE_TIME (i : Nat) : Nat := 0x240501 + i
abbrev MOD_EDGE_SM (i : Nat) : Nat := 0x240601 + i
abbrev MOD_CARRY (i : Nat) : Nat := 0x240701 + i
abbrev MOD_V_AVG (i : Nat) : Nat := 0x240801 + i
abbrev MOD_SAT_CYCLES (i : Nat) : Nat := 0x240901 + i
abbrev MOD_EDGE_DROPPED (i : Nat) : Nat := 0x240A01 + i
abbrev MOD_LEN_MISMATCH_COUNT : Nat := 0x240B01
abbrev RNK_CTRL : Nat := 0x242001
abbrev RNK_HYST : Nat := 0x242002
abbrev RNK_SW_RATE : Nat := 0x242003
abbrev RNK_I_DIR_BAND : Nat := 0x242004
abbrev RNK_SPIKE_DV : Nat := 0x242005
abbrev RNK_E_HOLD_MAX : Nat := 0x242006
abbrev RNK_BLOCK_MARGIN : Nat := 0x242007
abbrev RNK_SW_CAP_NORM : Nat := 0x242008
abbrev RNK_SW_CAP_DEG : Nat := 0x242009
abbrev RNK_STATUS : Nat := 0x24200A
abbrev RNK_ARM_STATUS (i : Nat) : Nat := 0x242101 + i
abbrev RNK_AVAIL (i : Nat) : Nat := 0x242201 + i
abbrev RNK_SPARE_INIT (i : Nat) : Nat := 0x242301 + i
abbrev RNK_SPARES (i : Nat) : Nat := 0x242401 + i
abbrev RNK_HELD (i : Nat) : Nat := 0x242501 + i
abbrev RNK_OUT (i : Nat) : Nat := 0x242601 + i
abbrev RNK_SWITCHINGS (i : Nat) : Nat := 0x242701 + i
abbrev RNK_CAP_BOUND_CYCLES (i : Nat) : Nat := 0x242801 + i
abbrev RNK_DIR (i : Nat) : Nat := 0x242901 + i
abbrev RNK_E_STORED_ARM (i : Nat) : Nat := 0x242A01 + i
abbrev RNK_E_USABLE_ARM (i : Nat) : Nat := 0x242B01 + i
abbrev RNK_BLOCK_CAP (i : Nat) : Nat := 0x242C01 + i
abbrev RNK_SPIKE_COUNT (i : Nat) : Nat := 0x242D01 + i
abbrev RNK_CEIL_CYCLES (i : Nat) : Nat := 0x242E01 + i
abbrev RNK_REINSTATE : Nat := 0x243001
abbrev RNK_REINSTATE_COUNT : Nat := 0x243002
abbrev CAR_UNIT_STATUS : Nat := 0x250001
abbrev CAR_COMM_HOLD : Nat := 0x250002
abbrev CAR_DL_UNLOCK_COUNT : Nat := 0x250003
abbrev CAR_LATE_WRITE_COUNT : Nat := 0x250004
abbrev CAR_BOUND_WRITE_COUNT : Nat := 0x250005
abbrev CAR_CH_CTRL (i : Nat) : Nat := 0x251001 + i
abbrev CAR_ROUTE (i : Nat) : Nat := 0x251101 + i
abbrev CAR_PERIOD (i : Nat) : Nat := 0x251201 + i
abbrev CAR_DUTY (i : Nat) : Nat := 0x251301 + i
abbrev CAR_CMPA (i : Nat) : Nat := 0x251401 + i
abbrev CAR_CMPB (i : Nat) : Nat := 0x251501 + i
abbrev CAR_PHASE (i : Nat) : Nat := 0x251601 + i
abbrev CAR_DEAD (i : Nat) : Nat := 0x251701 + i
abbrev CAR_MIN_PULSE (i : Nat) : Nat := 0x251801 + i
abbrev CAR_CH_CMD (i : Nat) : Nat := 0x251901 + i
abbrev CAR_CH_STATUS (i : Nat) : Nat := 0x251A01 + i
abbrev CAR_MASK_CFG (i : Nat) : Nat := 0x251B01 + i
abbrev CAR_TRIG_WIDTH (i : Nat) : Nat := 0x251C01 + i
abbrev CAR_CLAMP_COUNT (i : Nat) : Nat := 0x251D01 + i
abbrev CAR_MASK_COUNT (i : Nat) : Nat := 0x251E01 + i
abbrev CAR_PERIOD_NOW (i : Nat) : Nat := 0x251F01 + i
abbrev CAR_DUTY_NOW (i : Nat) : Nat := 0x252001 + i
abbrev CAR_COUNTER (i : Nat) : Nat := 0x252101 + i
abbrev MEA_VALID_MAP : Nat := 0x260001
abbrev MEA_OVR_MAP : Nat := 0x260002
abbrev MEA_PEAK_CLEAR : Nat := 0x260003
abbrev MEA_ECC_CORR_COUNT : Nat := 0x260004
abbrev MEA_PARITY_COUNT : Nat := 0x260005
abbrev MEA_CLK_CTRL (i : Nat) : Nat := 0x260101 + i
abbrev MEA_CLK_FREQ (i : Nat) : Nat := 0x260201 + i
abbrev MEA_CLK_STATUS (i : Nat) : Nat := 0x260301 + i
abbrev MEA_CLK_LOST_COUNT (i : Nat) : Nat := 0x260401 + i
abbrev MEA_CH_CTRL (i : Nat) : Nat := 0x261001 + i
abbrev MEA_CIC_DEC (i : Nat) : Nat := 0x261101 + i
abbrev MEA_FIR_CFG (i : Nat) : Nat := 0x261201 + i
abbrev MEA_ROLE (i : Nat) : Nat := 0x261301 + i
abbrev MEA_FS (i : Nat) : Nat := 0x261401 + i
abbrev MEA_OFFSET (i : Nat) : Nat := 0x261501 + i
abbrev MEA_EXT_DELAY (i : Nat) : Nat := 0x261601 + i
abbrev MEA_CAPTURE_DLY (i : Nat) : Nat := 0x261701 + i
abbrev MEA_DELAY (i : Nat) : Nat := 0x261801 + i
abbrev MEA_FAST_DELAY (i : Nat) : Nat := 0x261901 + i
abbrev MEA_T_S (i : Nat) : Nat := 0x261A01 + i
abbrev MEA_T_S_FAST (i : Nat) : Nat := 0x261B01 + i
abbrev MEA_SETTLE (i : Nat) : Nat := 0x261C01 + i
abbrev MEA_CH_STATUS (i : Nat) : Nat := 0x261D01 + i
abbrev MEA_VALUE (i : Nat) : Nat := 0x261E01 + i
abbrev MEA_VALUE_PHYS (i : Nat) : Nat := 0x261F01 + i
abbrev MEA_TSTAMP (i : Nat) : Nat := 0x262001 + i
abbrev MEA_PEAK_CYC_MAX (i : Nat) : Nat := 0x262101 + i
abbrev MEA_PEAK_CYC_MIN (i : Nat) : Nat := 0x262201 + i
abbrev MEA_PEAK_MAX (i : Nat) : Nat := 0x262301 + i
abbrev MEA_PEAK_MIN (i : Nat) : Nat := 0x262401 + i
abbrev MEA_RMS (i : Nat) : Nat := 0x262501 + i
abbrev MEA_ENVELOPE (i : Nat) : Nat := 0x262601 + i
abbrev MEA_RMS_WIN (i : Nat) : Nat := 0x262701 + i
abbrev MEA_ENV_TAU (i : Nat) : Nat := 0x262801 + i
abbrev MEA_OVR_LIM (i : Nat) : Nat := 0x262901 + i
abbrev MEA_INVALID_COUNT (i : Nat) : Nat := 0x262A01 + i
abbrev MEA_OVR_COUNT (i : Nat) : Nat := 0x262B01 + i
abbrev MEA_STUCK_COUNT (i : Nat) : Nat := 0x262C01 + i
abbrev MEA_FIR_BANK (i j : Nat) : Nat := 0x264001 + 256 * i + j
abbrev MEA_FIR_CENTROID (i : Nat) : Nat := 0x264801 + i
abbrev MEA_FIR_BANK_STATUS (i : Nat) : Nat := 0x264901 + i
abbrev PRT_CTRL : Nat := 0x270001
abbrev PRT_STATUS : Nat := 0x270002
abbrev PRT_TRIP_FIRST : Nat := 0x270003
abbrev PRT_TRIP_LATCHED : Nat := 0x270004
abbrev PRT_TRIP_ACTIVE : Nat := 0x270005
abbrev PRT_TRIP_TIME : Nat := 0x270006
abbrev PRT_CLEAR_REFUSED_COUNT : Nat := 0x270007
abbrev PRT_TRIP_COUNT : Nat := 0x270008
abbrev PRT_SOFT_TRIP : Nat := 0x270009
abbrev PRT_EXT_GPIO : Nat := 0x27000A
abbrev PRT_ARMEN_LOW_TIME : Nat := 0x27000B
abbrev PRT_OV2 : Nat := 0x271001
abbrev PRT_BLIND_MAX : Nat := 0x271002
abbrev PRT_ARM_OC : Nat := 0x271003
abbrev PRT_ARM_OC_CONFIRM : Nat := 0x271004
abbrev PRT_RESPONSE : Nat := 0x271005
abbrev PRT_DCH_CTRL (i : Nat) : Nat := 0x271101 + i
abbrev PRT_OV1_ON (i : Nat) : Nat := 0x271201 + i
abbrev PRT_OV1_HYST (i : Nat) : Nat := 0x271301 + i
abbrev PRT_DCH_PRE (i : Nat) : Nat := 0x271401 + i
abbrev PRT_DCH_SLOPE (i : Nat) : Nat := 0x271501 + i
abbrev PRT_DCH_OFF_SLOPE (i : Nat) : Nat := 0x271601 + i
abbrev PRT_DCH_MIN_ON (i : Nat) : Nat := 0x271701 + i
abbrev PRT_DCH_MIN_OFF (i : Nat) : Nat := 0x271801 + i
abbrev PRT_DCH_STATUS (i : Nat) : Nat := 0x271901 + i
abbrev PRT_DCH_ON_COUNT (i : Nat) : Nat := 0x271A01 + i
abbrev PRT_DCH_ON_TIME (i : Nat) : Nat := 0x271B01 + i
abbrev PRT_OV_PEAK (i : Nat) : Nat := 0x272001 + i
abbrev PRT_OV_PEAK_CLEAR : Nat := 0x272004
abbrev GPF_CTRL : Nat := 0x274001
abbrev GPF_DVDT_TARGET : Nat := 0x274002
abbrev GPF_DVDT_BAND : Nat := 0x274003
abbrev GPF_DELAY_TARGET : Nat := 0x274004
abbrev GPF_DELAY_BAND : Nat := 0x274005
abbrev GPF_TUNE_WINDOW : Nat := 0x274006
abbrev GPF_LEVEL_SPAN : Nat := 0x274007
abbrev GPF_PRE_SPAN : Nat := 0x274008
abbrev GPF_STEP_COUNT : Nat := 0x274009
abbrev GPF_BOUND_COUNT : Nat := 0x27400A
abbrev GPF_FROZEN_COUNT : Nat := 0x27400B
abbrev GPF_BAND_EDGE (i : Nat) : Nat := 0x274101 + i
abbrev GPF_BASE_DESC (i : Nat) : Nat := 0x275001 + i
abbrev GPF_SEL_SM : Nat := 0x276001
abbrev GPF_SEL_DESC : Nat := 0x276002
abbrev GPF_SEL_VALUE : Nat := 0x276003
abbrev GPF_SEL_STATUS : Nat := 0x276004
abbrev AGE_CTRL : Nat := 0x280001
abbrev AGE_STATUS : Nat := 0x280002
abbrev AGE_REPLAN_PERIOD : Nat := 0x280003
abbrev AGE_REPLAN_REQ : Nat := 0x280004
abbrev AGE_PLAN_GEN : Nat := 0x280005
abbrev AGE_PLAN_PENDING : Nat := 0x280006
abbrev AGE_PLAN_RESULT : Nat := 0x280007
abbrev AGE_PLAN_APPLIED_ORB : Nat := 0x280008
abbrev AGE_PLAN_REFUSED_COUNT : Nat := 0x280009
abbrev AGE_PLAN_SKIPPED : Nat := 0x28000A
abbrev AGE_INTERVAL_REJECT : Nat := 0x28000B
abbrev AGE_PLAN_SUBMIT : Nat := 0x28000C
abbrev AGE_PLAN_IN_FORCE : Nat := 0x28000D
abbrev AGE_C_NOM (i : Nat) : Nat := 0x281001 + i
abbrev AGE_DV_MIN : Nat := 0x281101
abbrev AGE_C_BLOCK : Nat := 0x281102
abbrev AGE_ESR_IMIN : Nat := 0x281103
abbrev AGE_VON_IREF : Nat := 0x281104
abbrev AGE_VON_IBAND : Nat := 0x281105
abbrev AGE_VON_TREF : Nat := 0x281106
abbrev AGE_VON_TBAND : Nat := 0x281107
abbrev AGE_BASE_COUNT : Nat := 0x281108
abbrev AGE_VCEIL_INIT (i : Nat) : Nat := 0x281201 + i
abbrev AGE_VMIN_INIT (i : Nat) : Nat := 0x281301 + i
abbrev AGE_W_INIT (i : Nat) : Nat := 0x281401 + i
abbrev AGE_DMG_NREF : Nat := 0x282001
abbrev AGE_DMG_DTREF : Nat := 0x282002
abbrev AGE_DMG_BETA : Nat := 0x282003
abbrev AGE_DMG_EA : Nat := 0x282004
abbrev AGE_DMG_TREF : Nat := 0x282005
abbrev AGE_TJ_HYST : Nat := 0x282006
abbrev AGE_TJ_MIN : Nat := 0x282007
abbrev AGE_D_WARN : Nat := 0x282008
abbrev AGE_C_WARN : Nat := 0x282009
abbrev AGE_VCEIL_MAX : Nat := 0x283001
abbrev AGE_VCEIL_MIN : Nat := 0x283002
abbrev AGE_VMIN_MIN : Nat := 0x283003
abbrev AGE_VCEIL_STEP : Nat := 0x283004
abbrev AGE_W_STEP : Nat := 0x283005
abbrev AGE_RETIRE_MAX : Nat := 0x283006
abbrev AGE_D_RETIRE : Nat := 0x283101
abbrev AGE_C_RETIRE : Nat := 0x283102
abbrev AGE_ESR_RETIRE : Nat := 0x283103
abbrev AGE_VON_RETIRE : Nat := 0x283104
abbrev AGE_W_GAIN : Nat := 0x283105
abbrev AGE_ESR_DERATE : Nat := 0x283106
abbrev AGE_ARM_DERATE (i : Nat) : Nat := 0x284001 + i
abbrev AGE_ARM_RETIRED (i : Nat) : Nat := 0x284101 + i
abbrev AGE_VCORE_NOW : Nat := 0x285001
abbrev AGE_AVS_VMIN : Nat := 0x285002
abbrev AGE_AVS_VMAX : Nat := 0x285003
abbrev AGE_VCORE_FIXED : Nat := 0x285004
abbrev AGE_AVS_STATUS : Nat := 0x285005
abbrev AGE_VCORE_HOT : Nat := 0x285006
abbrev AGE_SI_DRIFT : Nat := 0x285007
abbrev AGE_AVS_RETRY_COUNT : Nat := 0x285008
abbrev AGE_AVS_FAIL_COUNT : Nat := 0x285009
abbrev AGE_CPM_MARGIN : Nat := 0x28500A
abbrev AGE_AVS_MARGIN_LO : Nat := 0x28500B
abbrev AGE_AVS_MARGIN_HI : Nat := 0x28500C
abbrev AGE_AVS_MARGIN_CRIT : Nat := 0x28500D
abbrev AGE_SUM_GEN : Nat := 0x286001
abbrev AGE_ARM_C_MEAN (i : Nat) : Nat := 0x286101 + i
abbrev AGE_ARM_C_MIN (i : Nat) : Nat := 0x286201 + i
abbrev AGE_ARM_D_MEAN (i : Nat) : Nat := 0x286301 + i
abbrev AGE_ARM_D_MAX (i : Nat) : Nat := 0x286401 + i
abbrev AGE_ARM_NO_EST (i : Nat) : Nat := 0x286501 + i
abbrev AGE_SEL_SM : Nat := 0x287001
abbrev AGE_SEL_C_EST : Nat := 0x287002
abbrev AGE_SEL_ESR : Nat := 0x287003
abbrev AGE_SEL_ESR_RATIO : Nat := 0x287004
abbrev AGE_SEL_VON_DRIFT : Nat := 0x287005
abbrev AGE_SEL_PLAT_DRIFT : Nat := 0x287006
abbrev AGE_SEL_DAMAGE : Nat := 0x287007
abbrev AGE_SEL_CYCLES : Nat := 0x287008
abbrev AGE_SEL_VCEIL : Nat := 0x287009
abbrev AGE_SEL_VMIN : Nat := 0x28700A
abbrev AGE_SEL_WEIGHT : Nat := 0x28700B
abbrev AGE_SEL_GEN : Nat := 0x28700C
abbrev SM_CAP_V_RAW (i : Nat) : Nat := 0x400001 + 256 * i
abbrev SM_CAP_V_FILT (i : Nat) : Nat := 0x400002 + 256 * i
abbrev SM_NODE_STATUS (i : Nat) : Nat := 0x400003 + 256 * i
abbrev SM_CMD_LAST (i : Nat) : Nat := 0x400004 + 256 * i
abbrev SM_CLASS (i : Nat) : Nat := 0x400005 + 256 * i
abbrev SM_KEY (i : Nat) : Nat := 0x400006 + 256 * i
abbrev SM_WEIGHT (i : Nat) : Nat := 0x400007 + 256 * i
abbrev SM_V_CEIL (i : Nat) : Nat := 0x400008 + 256 * i
abbrev SM_V_MIN (i : Nat) : Nat := 0x400009 + 256 * i
abbrev SM_C_EST (i : Nat) : Nat := 0x40000A + 256 * i
abbrev SM_ESR_RATIO (i : Nat) : Nat := 0x40000B + 256 * i
abbrev SM_VON_DRIFT (i : Nat) : Nat := 0x40000C + 256 * i
abbrev SM_PLAT_DRIFT (i : Nat) : Nat := 0x40000D + 256 * i
abbrev SM_DAMAGE (i : Nat) : Nat := 0x40000E + 256 * i
abbrev SM_TJ_ALL (i : Nat) : Nat := 0x40000F + 256 * i
abbrev SM_T_CAP (i : Nat) : Nat := 0x400010 + 256 * i
abbrev SM_T_NODE (i : Nat) : Nat := 0x400011 + 256 * i
abbrev SM_VON_ALL (i : Nat) : Nat := 0x400012 + 256 * i
abbrev SM_VPLAT_ALL (i : Nat) : Nat := 0x400013 + 256 * i
abbrev SM_SW_REPORT_ON (i : Nat) : Nat := 0x400014 + 256 * i
abbrev SM_SW_REPORT_OFF (i : Nat) : Nat := 0x400015 + 256 * i
abbrev SM_GATE_SUPPLY (i : Nat) : Nat := 0x400016 + 256 * i
abbrev SM_AUX_SUPPLY (i : Nat) : Nat := 0x400017 + 256 * i
abbrev SM_SW_COUNT (i : Nat) : Nat := 0x400018 + 256 * i
abbrev SM_INSERT_COUNT (i : Nat) : Nat := 0x400019 + 256 * i
abbrev SM_CHARGE (i : Nat) : Nat := 0x40001A + 256 * i
abbrev SM_DTJ_CYCLES (i : Nat) : Nat := 0x40001B + 256 * i
abbrev SM_NODE_IDENTITY (i : Nat) : Nat := 0x40001C + 256 * i
abbrev SM_NODE_TYPE_VER (i : Nat) : Nat := 0x40001D + 256 * i
abbrev SM_LOCATION (i : Nat) : Nat := 0x40001E + 256 * i
abbrev SM_SLOT_TRANSIENT (i : Nat) : Nat := 0x40001F + 256 * i
abbrev SM_SLOT_LASTING (i : Nat) : Nat := 0x400020 + 256 * i
abbrev SM_NODE_COUNTERS (i : Nat) : Nat := 0x400021 + 256 * i
abbrev SM_ALIGN_RESIDUAL (i : Nat) : Nat := 0x400022 + 256 * i
abbrev SM_RX_POWER (i : Nat) : Nat := 0x400023 + 256 * i
abbrev SM_FAULT_DETAIL (i : Nat) : Nat := 0x400024 + 256 * i
abbrev LNK_TREE_ROLE : Nat := 0x290001
abbrev LNK_HOLD_TIMEOUT : Nat := 0x290002
abbrev LNK_STATUS : Nat := 0x290003
abbrev LNK_SLOT_TRANSIENT : Nat := 0x290004
abbrev LNK_SLOT_LASTING : Nat := 0x290005
abbrev LNK_CMD_ERR_LASTING : Nat := 0x290006
abbrev LNK_MGMT_RETRY : Nat := 0x290007
abbrev LNK_MGMT_FAIL : Nat := 0x290008
abbrev LNK_URGENT_COUNT : Nat := 0x290009
abbrev LNK_IDENTIFY : Nat := 0x29000A
abbrev LNK_PAIR_ARM (i : Nat) : Nat := 0x291001 + i
abbrev LNK_PAIR_NODES (i : Nat) : Nat := 0x291101 + i
abbrev LNK_PAIR_BASE (i : Nat) : Nat := 0x291201 + i
abbrev LNK_PAIR_MODE (i : Nat) : Nat := 0x291301 + i
abbrev LNK_PAIR_SPLIT (i : Nat) : Nat := 0x291401 + i
abbrev LNK_PAIR_FOUND (i : Nat) : Nat := 0x291501 + i
abbrev LNK_PAIR_STATUS (i : Nat) : Nat := 0x291601 + i
abbrev LNK_PAIR_FRAME_ERR (i : Nat) : Nat := 0x291701 + i
abbrev LNK_PAIR_LINE_COUNT (i : Nat) : Nat := 0x291801 + i
abbrev LNK_CASC_CFG (i : Nat) : Nat := 0x292001 + i
abbrev LNK_CASC_STATUS (i : Nat) : Nat := 0x292101 + i
abbrev LNK_CASC_LATENCY (i : Nat) : Nat := 0x292201 + i
abbrev LNK_CASC_LANES (i : Nat) : Nat := 0x292301 + i
abbrev LNK_CASC_LATE (i : Nat) : Nat := 0x292401 + i
abbrev LAN_ACTIVE_MAP : Nat := 0x2A0001
abbrev LAN_RATE_MIN : Nat := 0x2A0002
abbrev LAN_RATE_SET (i : Nat) : Nat := 0x2A1001 + i
abbrev LAN_STATE (i : Nat) : Nat := 0x2A1101 + i
abbrev LAN_RATE_NOW (i : Nat) : Nat := 0x2A1201 + i
abbrev LAN_STATUS (i : Nat) : Nat := 0x2A1301 + i
abbrev LAN_TX_INIT (i : Nat) : Nat := 0x2A1401 + i
abbrev LAN_TX_TAPS (i : Nat) : Nat := 0x2A1501 + i
abbrev LAN_LOOPBACK (i : Nat) : Nat := 0x2A1601 + i
abbrev LAN_SLEEP_CFG (i : Nat) : Nat := 0x2A1701 + i
abbrev LAN_CLEAN_CYCLES (i : Nat) : Nat := 0x2A1801 + i
abbrev LAN_SH_ERRORS (i : Nat) : Nat := 0x2A1901 + i
abbrev LAN_LOCK_LOSS (i : Nat) : Nat := 0x2A1A01 + i
abbrev LAN_RELOCK_TRANSIENT (i : Nat) : Nat := 0x2A1B01 + i
abbrev LAN_TRAIN_RETRY (i : Nat) : Nat := 0x2A1C01 + i
abbrev LAN_TRAIN_FAIL (i : Nat) : Nat := 0x2A1D01 + i
abbrev LAN_PRBS_ERRORS (i : Nat) : Nat := 0x2A1E01 + i
abbrev LAN_BRINGUP_TIME (i : Nat) : Nat := 0x2A1F01 + i
abbrev LAN_PARTNER_CAPS (i : Nat) : Nat := 0x2A2001 + i
abbrev LAN_REQ_COUNT (i : Nat) : Nat := 0x2A2101 + i
abbrev LAN_SLEEP_COUNT (i : Nat) : Nat := 0x2A2201 + i
abbrev LAN_LAST_EVENT (i : Nat) : Nat := 0x2A2301 + i
abbrev LAN_EYE_LANE : Nat := 0x2A4001
abbrev LAN_EYE_DWELL : Nat := 0x2A4002
abbrev LAN_EYE_START : Nat := 0x2A4003
abbrev LAN_EYE_STATUS : Nat := 0x2A4004
abbrev LAN_EYE_GEN : Nat := 0x2A4005
abbrev LAN_EYE_WIDTH : Nat := 0x2A4006
abbrev LAN_EYE_HEIGHT : Nat := 0x2A4007
abbrev LAN_EYE_RESULT : Nat := 0x2A4008
abbrev LAN_EYE_PROGRESS : Nat := 0x2A4009
abbrev LAN_EYE_ABORT : Nat := 0x2A400A
abbrev RED_CTRL : Nat := 0x2B0001
abbrev RED_STATUS : Nat := 0x2B0002
abbrev RED_EPOCH : Nat := 0x2B0003
abbrev RED_STATE_GEN : Nat := 0x2B0004
abbrev RED_PARTNER_GEN : Nat := 0x2B0005
abbrev RED_PARTNER_INFO : Nat := 0x2B0006
abbrev RED_PARTNER_ABSENT : Nat := 0x2B0007
abbrev RED_XL_LATENCY : Nat := 0x2B0008
abbrev RED_LAST_ECLIPSE : Nat := 0x2B0009
abbrev RED_LAST_TAKEOVER_ORB : Nat := 0x2B000A
abbrev RED_PATH_MISS (i : Nat) : Nat := 0x2B1001 + i
abbrev RED_PATH_LOST_COUNT (i : Nat) : Nat := 0x2B1101 + i
abbrev RED_TAKEOVER_COUNT : Nat := 0x2B2001
abbrev RED_CONFLICT_COUNT : Nat := 0x2B2002
abbrev RED_WITHDRAW_COUNT : Nat := 0x2B2003
abbrev RED_STREAM_MISS_TRANSIENT : Nat := 0x2B2004
abbrev RED_STREAM_MISS_LASTING : Nat := 0x2B2005
abbrev RED_RECORD_RESEND : Nat := 0x2B2006
abbrev RED_MIRROR_EXPLAINED : Nat := 0x2B2007
abbrev RED_MIRROR_UNEXPLAINED : Nat := 0x2B2008
abbrev RED_STALE_COUNT : Nat := 0x2B2009
abbrev RED_MIRROR_ARM (i : Nat) : Nat := 0x2B2101 + i
abbrev RED_RESYNC_REQ : Nat := 0x2B3001
abbrev RED_RESYNC_PHASE : Nat := 0x2B3002
abbrev RED_RESYNC_PROGRESS : Nat := 0x2B3003
abbrev RED_RESYNC_COUNT : Nat := 0x2B3004
abbrev RED_RESYNC_FAIL : Nat := 0x2B3005
abbrev RED_RESYNC_TIME : Nat := 0x2B3006
abbrev RED_SWAP_REQ : Nat := 0x2B4001
abbrev RED_SWAP_RESULT : Nat := 0x2B4002
abbrev RED_SWAP_GEN : Nat := 0x2B4003
abbrev RED_SWAP_BAD_COUNT : Nat := 0x2B4004
abbrev RED_SWAP_BAD_LIST : Nat := 0x2B4005
abbrev TIM_CTRL : Nat := 0x2C0001
abbrev TIM_SOURCE : Nat := 0x2C0002
abbrev TIM_STATE : Nat := 0x2C0003
abbrev TIM_STATUS : Nat := 0x2C0004
abbrev TIM_NOW : Nat := 0x2C0005
abbrev TIM_NOW64 : Nat := 0x2C0006
abbrev TIM_OFFSET : Nat := 0x2C0007
abbrev TIM_RATE_ADJ : Nat := 0x2C0008
abbrev TIM_FREQ_EST : Nat := 0x2C0009
abbrev TIM_SERVO_TAU : Nat := 0x2C000A
abbrev TIM_SLEW_MAX : Nat := 0x2C000B
abbrev TIM_LOCK_LIMIT : Nat := 0x2C000C
abbrev TIM_SET_TIME : Nat := 0x2C000D
abbrev TIM_REEPOCH_REQ : Nat := 0x2C000E
abbrev TIM_LAST_STEP : Nat := 0x2C000F
abbrev TIM_STEP_ORB : Nat := 0x2C0010
abbrev TIM_EPOCH_COUNT : Nat := 0x2C0011
abbrev TIM_STEP_REFUSED : Nat := 0x2C0012
abbrev TIM_DISCONT_COUNT : Nat := 0x2C0013
abbrev TIM_HOLDOVER_TIME : Nat := 0x2C0014
abbrev TIM_LUNAR_WRAPS : Nat := 0x2C0015
abbrev TIM_EXT_STALE_COUNT : Nat := 0x2C0016
abbrev TIM_UTC_OFFSET : Nat := 0x2C0017
abbrev TIM_PTP_DOMAIN : Nat := 0x2C1001
abbrev TIM_PTP_VLAN : Nat := 0x2C1002
abbrev TIM_PTP_PORT : Nat := 0x2C1003
abbrev TIM_GM_IDENTITY : Nat := 0x2C1004
abbrev TIM_GM_CHANGES : Nat := 0x2C1005
abbrev TIM_PTP_IGNORED : Nat := 0x2C1006
abbrev TIM_PEER_DELAY (i : Nat) : Nat := 0x2C1101 + i
abbrev TIM_ETH_TX_DELAY (i : Nat) : Nat := 0x2C1201 + i
abbrev TIM_ETH_RX_DELAY (i : Nat) : Nat := 0x2C1301 + i
abbrev TIM_PPS_IN_DELAY : Nat := 0x2C2001
abbrev TIM_PPS_IN_OFFSET : Nat := 0x2C2002
abbrev TIM_PPS_IN_MISS : Nat := 0x2C2003
abbrev TIM_ORB_SYNC_LEAD : Nat := 0x2C3001
abbrev TIM_ORB_SYNC_DELAY : Nat := 0x2C3002
abbrev TIM_ORB_SYNC_ERR : Nat := 0x2C3003
abbrev TIM_ORB_SYNC_MISS_COUNT : Nat := 0x2C3004
abbrev TIM_LATE_COUNT : Nat := 0x2C4001
abbrev TIM_DROP_COUNT : Nat := 0x2C4002
abbrev TIM_QUEUE_FULL_COUNT : Nat := 0x2C4003
abbrev TIM_ADVANCED_COUNT : Nat := 0x2C4004
abbrev TIM_GEN_CTRL (i : Nat) : Nat := 0x2C5001 + i
abbrev TIM_GEN_START (i : Nat) : Nat := 0x2C5101 + i
abbrev TIM_GEN_PERIOD (i : Nat) : Nat := 0x2C5201 + i
abbrev TIM_GEN_WIDTH (i : Nat) : Nat := 0x2C5301 + i
abbrev TIM_GEN_STATUS (i : Nat) : Nat := 0x2C5401 + i
abbrev TIM_GEN_NEXT (i : Nat) : Nat := 0x2C5501 + i
abbrev CLK_STATUS : Nat := 0x2D0001
abbrev CLK_DPLL_STATE : Nat := 0x2D0002
abbrev CLK_REF25_ERR : Nat := 0x2D0003
abbrev CLK_XO_CORR : Nat := 0x2D0004
abbrev CLK_HOLDOVER_COUNT : Nat := 0x2D0005
abbrev CLK_HOLDOVER_TIME : Nat := 0x2D0006
abbrev CLK_REF156_ERR : Nat := 0x2D0007
abbrev CLK_CDC_FAULT_COUNT : Nat := 0x2D0008
abbrev CLK_BYP200_FREQ : Nat := 0x2D0009
abbrev CLK_PLL_CTRL (i : Nat) : Nat := 0x2D0101 + i
abbrev CLK_PLL_STATUS (i : Nat) : Nat := 0x2D0201 + i
abbrev CLK_PLL_LOSS_COUNT (i : Nat) : Nat := 0x2D0301 + i
abbrev CLK_PLL_RELOCK_TRANSIENT (i : Nat) : Nat := 0x2D0401 + i
abbrev CLK_PLL_LASTING (i : Nat) : Nat := 0x2D0501 + i
abbrev CLK_PLL_RELOCK : Nat := 0x2D0601
abbrev CLK_QUAD_STATUS (i : Nat) : Nat := 0x2D0701 + i
abbrev CLK_QUAD_LOSS_COUNT (i : Nat) : Nat := 0x2D0801 + i
abbrev CLK_BAND (i j : Nat) : Nat := 0x2D1001 + 256 * i + j
abbrev PWR_STATUS : Nat := 0x2D2001
abbrev PWR_SLEEP_REQ : Nat := 0x2D2002
abbrev PWR_SLEEP_STATUS : Nat := 0x2D2003
abbrev PWR_WAKE_EN : Nat := 0x2D2004
abbrev PWR_WAKE_CAUSE : Nat := 0x2D2005
abbrev PWR_WAKE_TIMER : Nat := 0x2D2006
abbrev PWR_WAKE_GPIO : Nat := 0x2D2007
abbrev PWR_LUNAR_VCORE : Nat := 0x2D2008
abbrev PWR_SLEEP_GRACE : Nat := 0x2D2009
abbrev PWR_SLEEP_ABORT_COUNT : Nat := 0x2D200A
abbrev PWR_LUNAR_COUNT : Nat := 0x2D200B
abbrev PWR_LUNAR_TIME : Nat := 0x2D200C
abbrev PWR_WAKE_TIME : Nat := 0x2D200D
abbrev PWR_RAIL_MV (i : Nat) : Nat := 0x2D2101 + i
abbrev PWR_RAIL_HIGH (i : Nat) : Nat := 0x2D2201 + i
abbrev PWR_RAIL_LOW (i : Nat) : Nat := 0x2D2301 + i
abbrev PWR_TJ : Nat := 0x2D2401
abbrev PWR_TJ_HIGH : Nat := 0x2D2402
abbrev PWR_TJ_LOW : Nat := 0x2D2403
abbrev PWR_CORE_CURRENT : Nat := 0x2D2404
abbrev PWR_POWER_EST : Nat := 0x2D2405
abbrev PWR_EXTREMES_CLEAR : Nat := 0x2D2406
abbrev PWR_UPDATE_ENERGY : Nat := 0x2D2407
abbrev ENG_ENABLE : Nat := 0x2E0001
abbrev ENG_DRAM_CORR : Nat := 0x2E0003
abbrev ENG_DRAM_LASTING : Nat := 0x2E0004
abbrev ENG_REF_FOREIGN : Nat := 0x2E0005
abbrev ENG_REF_SLACK_CLEAR : Nat := 0x2E0006
abbrev ENG_STATE (i : Nat) : Nat := 0x2E0101 + i
abbrev ENG_REF_REG (i : Nat) : Nat := 0x2E0201 + i
abbrev ENG_REF_LATE_DONE (i : Nat) : Nat := 0x2E0301 + i
abbrev ENG_FAULT_CAUSE (i : Nat) : Nat := 0x2E0401 + i
abbrev ENG_SRAM_CORR (i : Nat) : Nat := 0x2E0501 + i
abbrev ENG_RESTART (i : Nat) : Nat := 0x2E0601 + i
abbrev ENG_IMAGE_ID (i : Nat) : Nat := 0x2E0701 + i
abbrev ENG_WAIT_PASSED (i : Nat) : Nat := 0x2E0801 + i
abbrev ENG_FAST_MAX (i : Nat) : Nat := 0x2E0901 + i
abbrev ENG_REF_SLACK_MIN (i : Nat) : Nat := 0x2E0A01 + i
abbrev ICU_MODE : Nat := 0x2E1001
abbrev ICU_STRAY_COMPLETE : Nat := 0x2E1002
abbrev ICU_MASK_RACE_COUNT : Nat := 0x2E1003
abbrev ICU_SW_SET : Nat := 0x2E1004
abbrev ICU_FOREIGN_WRITE : Nat := 0x2E1005
abbrev ICU_HOLDOFF (i : Nat) : Nat := 0x2E1101 + i
abbrev ICU_THRESHOLD (i : Nat) : Nat := 0x2E1201 + i
abbrev ICU_SPURIOUS_COUNT (i : Nat) : Nat := 0x2E1301 + i
abbrev ICU_CLAIM_LOST (i : Nat) : Nat := 0x2E1401 + i
abbrev ICU_SRC_CFG (i j : Nat) : Nat := 0x2E2001 + 256 * i + j
abbrev ICU_PENDING (i : Nat) : Nat := 0x2E3001 + i
abbrev ICU_ACTIVE (i : Nat) : Nat := 0x2E3101 + i
abbrev ICU_PENDING_CLEAR (i : Nat) : Nat := 0x2E3201 + i
abbrev CMT_CTRL : Nat := 0x2F0001
abbrev CMT_STATE : Nat := 0x2F0002
abbrev CMT_STATUS : Nat := 0x2F0003
abbrev CMT_ARM : Nat := 0x2F0004
abbrev CMT_ABORT : Nat := 0x2F0005
abbrev CMT_FORCE_TRIG : Nat := 0x2F0006
abbrev CMT_RING_SIZE : Nat := 0x2F0007
abbrev CMT_COMA_BLOCKS : Nat := 0x2F0008
abbrev CMT_TAIL_BLOCKS : Nat := 0x2F0009
abbrev CMT_CAPACITY : Nat := 0x2F000A
abbrev CMT_RATE_CFG : Nat := 0x2F000B
abbrev CMT_COMA_TIME : Nat := 0x2F000C
abbrev CMT_TAIL_TIME : Nat := 0x2F000D
abbrev CMT_WRITTEN : Nat := 0x2F000E
abbrev CMT_LOSS_BLOCKS : Nat := 0x2F000F
abbrev CMT_EDGE_LOSS : Nat := 0x2F0010
abbrev CMT_TRIG_EN : Nat := 0x2F0011
abbrev CMT_REC_COUNT : Nat := 0x2F0012
abbrev CMT_REC_STORED : Nat := 0x2F0013
abbrev CMT_REC_SEL : Nat := 0x2F0014
abbrev CMT_REC_RELEASE : Nat := 0x2F0015
abbrev CMT_ARM_REFUSED_COUNT : Nat := 0x2F0016
abbrev CMT_BULK_FIRST : Nat := 0x2F0017
abbrev CMT_BULK_COUNT : Nat := 0x2F0018
abbrev CMT_BULK_DEC : Nat := 0x2F0019
abbrev CMT_AN_SRC (i : Nat) : Nat := 0x2F1001 + i
abbrev CMT_AN_DEC (i : Nat) : Nat := 0x2F1101 + i
abbrev CMT_BOOL_SRC (i : Nat) : Nat := 0x2F2001 + i
abbrev CMT_PAT_VALUE : Nat := 0x2F2101
abbrev CMT_PAT_CARE : Nat := 0x2F2102
abbrev CMT_PAT_HOLD : Nat := 0x2F2103
abbrev CMT_LVL_CFG (i : Nat) : Nat := 0x2F2201 + i
abbrev CMT_LVL_THRESH (i : Nat) : Nat := 0x2F2301 + i
abbrev CMT_LVL_HYST (i : Nat) : Nat := 0x2F2401 + i
abbrev CMT_MEAS_FROM : Nat := 0x2F3001
abbrev CMT_MEAS_TO : Nat := 0x2F3002
abbrev CMT_RECORD : Nat := 0x2F4001
abbrev CMT_REC_GEN : Nat := 0x2F4101
abbrev CMT_REC_TRIG_TIME : Nat := 0x2F4102
abbrev CMT_REC_TRIG_SRC : Nat := 0x2F4103
abbrev CMT_REC_FLAGS : Nat := 0x2F4104
abbrev CMT_REC_SIZE : Nat := 0x2F4105
abbrev CMT_MEAS_MIN (i : Nat) : Nat := 0x2F5001 + i
abbrev CMT_MEAS_MAX (i : Nat) : Nat := 0x2F5101 + i
abbrev CMT_MEAS_T_MIN (i : Nat) : Nat := 0x2F5201 + i
abbrev CMT_MEAS_T_MAX (i : Nat) : Nat := 0x2F5301 + i
abbrev CMT_MEAS_MEAN (i : Nat) : Nat := 0x2F5401 + i
abbrev CMT_MEAS_RMS (i : Nat) : Nat := 0x2F5501 + i
abbrev CMT_MEAS_COUNT (i : Nat) : Nat := 0x2F5601 + i
abbrev CMT_MEAS_BOOL : Nat := 0x2F5701
abbrev DEVICE_TYPE : Nat := 0x100000
abbrev ERROR_REGISTER : Nat := 0x100100
abbrev DEVICE_NAME : Nat := 0x100800
abbrev HW_VERSION : Nat := 0x100900
abbrev SW_VERSION : Nat := 0x100A00
abbrev HEARTBEAT_TIME : Nat := 0x101700
abbrev VENDOR_ID : Nat := 0x101801
abbrev PRODUCT_CODE : Nat := 0x101802
abbrev REVISION : Nat := 0x101803
abbrev SERIAL : Nat := 0x101804
abbrev CAN_ENABLE (i : Nat) : Nat := 0x1E0001 + 256 * i
abbrev CAN_NODE_ID (i : Nat) : Nat := 0x1E0002 + 256 * i
abbrev CAN_ARB_RATE (i : Nat) : Nat := 0x1E0003 + 256 * i
abbrev CAN_DATA_RATE (i : Nat) : Nat := 0x1E0004 + 256 * i
abbrev CAN_STATUS (i : Nat) : Nat := 0x1E0005 + 256 * i
abbrev CAN_BUSOFF_COUNT (i : Nat) : Nat := 0x1E0006 + 256 * i
abbrev CAN_ERR_COUNTERS (i : Nat) : Nat := 0x1E0007 + 256 * i
abbrev CAN_IGNORED (i : Nat) : Nat := 0x1E0008 + 256 * i
abbrev ETH_MODE (i : Nat) : Nat := 0x1E1001 + 256 * i
abbrev ETH_IP (i : Nat) : Nat := 0x1E1002 + 256 * i
abbrev ETH_NETMASK (i : Nat) : Nat := 0x1E1003 + 256 * i
abbrev ETH_GATEWAY (i : Nat) : Nat := 0x1E1004 + 256 * i
abbrev ETH_VLAN (i : Nat) : Nat := 0x1E1005 + 256 * i
abbrev ETH_MAC (i : Nat) : Nat := 0x1E1006 + 256 * i
abbrev ETH_STATUS (i : Nat) : Nat := 0x1E1007 + 256 * i
abbrev ETH_LINK_DOWN_COUNT (i : Nat) : Nat := 0x1E1008 + 256 * i
abbrev TDS_PORT : Nat := 0x1E2001
abbrev TDS_SESSION_MAX : Nat := 0x1E2002
abbrev TDS_IDLE : Nat := 0x1E2003
abbrev TDS_SESSIONS_OPEN : Nat := 0x1E2004
abbrev TDS_DUPLICATES : Nat := 0x1E2005
abbrev TDS_BULK_RESEND : Nat := 0x1E2006
abbrev TDS_BULK_FAIL : Nat := 0x1E2007
abbrev TDS_BAD_HEADER : Nat := 0x1E2008
abbrev DEV_DICT_LAYOUT : Nat := 0x200001
abbrev DEV_STATE : Nat := 0x200101
abbrev DEV_ROLE : Nat := 0x200102
abbrev DEV_RUN_FLAGS : Nat := 0x200103
abbrev DEV_STATE_SINCE : Nat := 0x200104
abbrev DEV_UPTIME : Nat := 0x200105
abbrev DEV_UNIT : Nat := 0x200106
abbrev DEV_STATE_REQ : Nat := 0x200201
abbrev DEV_REQ_COUNT : Nat := 0x200202
abbrev DEV_REFUSAL_ABORT : Nat := 0x200301
abbrev DEV_REFUSAL_INDEX : Nat := 0x200302
abbrev DEV_REFUSAL_SUBINDEX : Nat := 0x200303
abbrev DEV_REFUSAL_REASON : Nat := 0x200304
abbrev DEV_REFUSAL_CHANNEL : Nat := 0x200305
abbrev DEV_REFUSAL_TIME : Nat := 0x200306
abbrev DEV_REFUSAL_COUNT : Nat := 0x200307
abbrev DEV_STATION_WORDS (i : Nat) : Nat := 0x200601 + i
abbrev DEV_IMAGE : Nat := 0x200801
abbrev DEV_IMAGE_STATUS : Nat := 0x200802
abbrev DEV_IMAGE_ID : Nat := 0x200803
abbrev DEV_IMAGE_SOURCE : Nat := 0x200804
abbrev DEV_IMAGE_FIRST_FAIL : Nat := 0x200805
abbrev DEV_IMAGE_FAIL_ABORT : Nat := 0x200806
abbrev DEV_IMAGE_STORE : Nat := 0x200807
abbrev DEV_IMAGE_READ : Nat := 0x200808
abbrev DEV_IMAGE_GEN : Nat := 0x200809
abbrev DEV_IMAGE_BANKS : Nat := 0x20080A
abbrev DEV_IMAGE_FALLBACK_COUNT : Nat := 0x20080B
abbrev DEV_AUTH_REQ : Nat := 0x201001
abbrev DEV_AUTH_CHALLENGE : Nat := 0x201002
abbrev DEV_AUTH_RESPONSE : Nat := 0x201003
abbrev DEV_AUTH_ROLE : Nat := 0x201004
abbrev DEV_AUTH_LOGOUT : Nat := 0x201005
abbrev DEV_AUTH_FAIL_COUNT : Nat := 0x201006
abbrev DEV_AUTH_IDLE : Nat := 0x201007
abbrev DEV_AUTH_GEN : Nat := 0x201008
abbrev DEV_AUTH_KEY (i : Nat) : Nat := 0x201101 + i
abbrev LOG_STATUS : Nat := 0x300001
abbrev LOG_FLUSH_COUNT : Nat := 0x300002
abbrev LOG_LAST_FLUSH : Nat := 0x300003
abbrev LOG_GOOD_SLOTS : Nat := 0x300004
abbrev LOG_JOURNAL_SEQ : Nat := 0x300005
abbrev LOG_JOURNAL_DROPPED : Nat := 0x300006
abbrev LOG_WEAR_MAX : Nat := 0x300007
abbrev LOG_RESET_CAUSE : Nat := 0x300008
abbrev LOG_PART_BASE : Nat := 0x300009
abbrev LOG_EXPORT_REQ : Nat := 0x30000B
abbrev LOG_EXPORT : Nat := 0x30000C
abbrev LOG_EXPORT_GEN : Nat := 0x30000D
abbrev LOG_FLUSH_REQ : Nat := 0x30000E
abbrev LOG_UART_CTRL : Nat := 0x300101
abbrev LOG_UART_DROPPED : Nat := 0x300102
abbrev LOG_CNT (i : Nat) : Nat := 0x301001 + i
abbrev LOG_RETRY_TRANSIENT (i : Nat) : Nat := 0x302001 + i
abbrev LOG_RETRY_LASTING (i : Nat) : Nat := 0x302101 + i
abbrev LOG_HIST (i j : Nat) : Nat := 0x303001 + 256 * i + j
abbrev LOG_JOURNAL_SEL : Nat := 0x308001
abbrev LOG_JOURNAL_REC : Nat := 0x308002

/-! ## The object tables -/

/-- Table 2.10. -/
def rows_2_10 : List ObjRow := [
  ⟨0x2100, 0x2100, 0x01, 0x01, .u16, .rw, k 40, 2, 4, .span 40 200, 0, true⟩,
  ⟨0x2100, 0x2100, 0x02, 0x02, .u16, .rw, k 64, 2, 4, .span 40 200, 0, true⟩,
  ⟨0x2100, 0x2100, 0x03, 0x03, .u16, .ro, k 0, 0, 0, .any, 0, false⟩,
  ⟨0x2100, 0x2100, 0x04, 0x04, .u32, .ro, k 0, 0, 0, .any, 0, false⟩,
  ⟨0x2100, 0x2100, 0x05, 0x05, .u16, .ro, k 0x0000, 0, 0, .any, 0, false⟩,
  ⟨0x2100, 0x2100, 0x06, 0x06, .time32, .ro, k 0, 0, 0, .any, 0, false⟩,
  ⟨0x2100, 0x2100, 0x07, 0x07, .bool, .rw, k 0, 2, 48, .any, 0, true⟩,
  ⟨0x2100, 0x2100, 0x08, 0x08, .u16, .rw, k 200, 2, 60, .any, 0, true⟩,
  ⟨0x2100, 0x2100, 0x09, 0x09, .i32, .ro, k 0x7FFFFFFF, 0, 0, .any, 0, false⟩,
  ⟨0x2100, 0x2100, 0x0A, 0x0A, .bool, .wo, k 0, 2, 124, .any, 0, false⟩,
  ⟨0x2100, 0x2100, 0x0B, 0x0B, .u16, .ro, k 0x0000, 0, 0, .any, 0, false⟩,
  ⟨0x2100, 0x2100, 0x0C, 0x0C, .u32, .ro, k 0, 0, 0, .any, 0, false⟩,
  ⟨0x2100, 0x2100, 0x0D, 0x0D, .u32, .ro, k 0, 0, 0, .any, 0, false⟩,
  ⟨0x2100, 0x2100, 0x0E, 0x0E, .u32, .ro, k 0, 0, 0, .any, 0, false⟩,
  ⟨0x2100, 0x2100, 0x0F, 0x0F, .u32, .ro, k 0, 0, 0, .any, 0, false⟩,
  ⟨0x2100, 0x2100, 0x10, 0x10, .u32, .ro, k 0x00000000, 0, 0, .any, 0, false⟩,
  ⟨0x2101, 0x2101, 0x01, 0x01, .u16, .ro, k 6500, 0, 0, .any, 0, false⟩,
  ⟨0x2101, 0x2101, 0x02, 0x02, .u16, .ro, k 7100, 0, 0, .any, 0, false⟩,
  ⟨0x2101, 0x2101, 0x03, 0x03, .u16, .ro, k 9000, 0, 0, .any, 0, false⟩,
  ⟨0x2101, 0x2101, 0x04, 0x04, .u16, .ro, k 9600, 0, 0, .any, 0, false⟩,
  ⟨0x2110, 0x2110, 0x01, 0x18, .u16, .ro, k 0xFFFF, 0, 0, .any, 0, false⟩,
  ⟨0x2111, 0x2111, 0x01, 0x18, .u16, .ro, k 0xFFFF, 0, 0, .any, 0, false⟩]

/-- Table 3.8. -/
def rows_3_8 : List ObjRow := [
  ⟨0x2200, 0x2200, 0x01, 0x01, .u32, .rw, k 0, 2, 4, .span 10000 10000000, 0, true⟩,
  ⟨0x2200, 0x2200, 0x02, 0x02, .u32, .rw, k 0, 2, 4, .span 10000 1200000, 0, true⟩,
  ⟨0x2200, 0x2200, 0x03, 0x03, .u8, .rw, k 0, 2, 4, .oneOf [50, 60], 0, true⟩,
  ⟨0x2200, 0x2200, 0x04, 0x04, .u32, .rw, k 0, 2, 4, .span 20000 2000000, 0, true⟩,
  ⟨0x2200, 0x2200, 0x05, 0x05, .u32, .ro, k 0, 0, 0, .any, 0, false⟩,
  ⟨0x2200, 0x2200, 0x06, 0x06, .u32, .ro, k 0, 0, 0, .any, 0, false⟩,
  ⟨0x2200, 0x2200, 0x07, 0x07, .u32, .ro, k 0, 0, 0, .any, 0, false⟩,
  ⟨0x2200, 0x2200, 0x08, 0x08, .u32, .rw, k 0, 2, 4, .span 1000 1000000, 0, true⟩,
  ⟨0x2201, 0x2201, 0x01, 0x01, .u16, .rw, k 0x0001, 2, 20, .any, 0x7, true⟩,
  ⟨0x2201, 0x2201, 0x02, 0x02, .u32, .ro, k 0x00000000, 0, 0, .any, 0, false⟩,
  ⟨0x2201, 0x2201, 0x03, 0x03, .bool, .rw, k 0, 2, 60, .any, 0, true⟩,
  ⟨0x2201, 0x2201, 0x04, 0x04, .u8, .rw, k 0xFF, 2, 20, .oneOf [0, 1, 2, 3, 4, 5, 6, 7, 255], 0, true⟩,
  ⟨0x2201, 0x2201, 0x05, 0x05, .u8, .rw, k 0xFF, 2, 20, .oneOf [0, 1, 2, 3, 4, 5, 6, 7, 255], 0, true⟩,
  ⟨0x2201, 0x2201, 0x06, 0x06, .u16, .rw, k 500, 2, 28, .span 200 900, 0, true⟩,
  ⟨0x2210, 0x2210, 0x01, 0x01, .u16, .rw, k 4000, 2, 60, .span 0 20000, 0, true⟩,
  ⟨0x2210, 0x2210, 0x02, 0x02, .u16, .rw, k 100, 2, 60, .span 5 2000, 0, true⟩,
  ⟨0x2210, 0x2210, 0x03, 0x03, .u16, .rw, k 9500, 2, 60, .span 8000 9990, 0, true⟩,
  ⟨0x2210, 0x2210, 0x04, 0x04, .u32, .rw, k 5000, 2, 60, .span 100 20000, 0, true⟩,
  ⟨0x2210, 0x2210, 0x05, 0x05, .u32, .ro, k 0, 0, 0, .any, 0, false⟩,
  ⟨0x2210, 0x2210, 0x06, 0x06, .u32, .ro, k 0, 0, 0, .any, 0, false⟩,
  ⟨0x2210, 0x2210, 0x07, 0x07, .u32, .rw, k 2000, 2, 60, .span 0 20000, 0, true⟩,
  ⟨0x2210, 0x2210, 0x08, 0x08, .u16, .rw, k 1000, 2, 20, .span 100 5000, 0, true⟩,
  ⟨0x2210, 0x2210, 0x09, 0x09, .u16, .rw, k 50, 2, 20, .span 5 1000, 0, true⟩,
  ⟨0x2210, 0x2210, 0x0A, 0x0A, .u32, .ro, k 0, 0, 0, .any, 0, false⟩,
  ⟨0x2210, 0x2210, 0x0B, 0x0B, .u32, .ro, k 0, 0, 0, .any, 0, false⟩,
  ⟨0x2210, 0x2210, 0x0C, 0x0C, .u32, .ro, k 0, 0, 0, .any, 0, false⟩,
  ⟨0x2210, 0x2210, 0x0D, 0x0D, .u32, .ro, k 0, 0, 0, .any, 0, false⟩,
  ⟨0x2210, 0x2210, 0x0E, 0x0E, .u16, .rw, k 10500, 2, 60, .span 10010 12000, 0, true⟩,
  ⟨0x2220, 0x2220, 0x01, 0x01, .u16, .rw, k 400, 2, 60, .span 50 2000, 0, true⟩,
  ⟨0x2220, 0x2220, 0x02, 0x02, .u16, .rw, k 0, 2, 60, .span 0 500, 0, true⟩,
  ⟨0x2220, 0x2220, 0x03, 0x03, .u16, .rw, k 500, 2, 60, .span 0 2000, 0, true⟩,
  ⟨0x2220, 0x2220, 0x04, 0x04, .u16, .rw, k 20, 2, 60, .span 1 1000, 0, true⟩,
  ⟨0x2220, 0x2220, 0x05, 0x05, .u16, .rw, k 800, 2, 60, .span 500 1000, 0, true⟩,
  ⟨0x2220, 0x2220, 0x06, 0x06, .u16, .rw, k 1200, 2, 60, .span 1000 1300, 0, true⟩,
  ⟨0x2230, 0x2230, 0x01, 0x01, .u16, .rw, k 5, 2, 60, .span 0 200, 0, true⟩,
  ⟨0x2230, 0x2230, 0x02, 0x02, .u16, .rw, k 100, 2, 60, .span 0 500, 0, true⟩,
  ⟨0x2240, 0x2240, 0x01, 0x01, .i16, .rw, k 0, 2, 60, .span (-1200) 1200, 0, true⟩,
  ⟨0x2240, 0x2240, 0x02, 0x02, .i16, .rw, k 0, 2, 60, .span (-1000) 1000, 0, true⟩,
  ⟨0x2240, 0x2240, 0x03, 0x03, .u16, .rw, k 1000, 2, 60, .span 800 1200, 0, true⟩,
  ⟨0x2240, 0x2240, 0x04, 0x04, .u16, .rw, k 10000, 2, 60, .span 9500 10500, 0, true⟩,
  ⟨0x2240, 0x2240, 0x05, 0x05, .i32, .ro, k 0, 0, 0, .any, 0, false⟩,
  ⟨0x2240, 0x2240, 0x06, 0x06, .i32, .ro, k 0, 0, 0, .any, 0, false⟩,
  ⟨0x2240, 0x2240, 0x07, 0x07, .i32, .ro, k 0, 0, 0, .any, 0, false⟩,
  ⟨0x2240, 0x2240, 0x08, 0x08, .i32, .ro, k 0, 0, 0, .any, 0, false⟩,
  ⟨0x2240, 0x2240, 0x09, 0x09, .u32, .ro, k 0, 0, 0, .any, 0, false⟩,
  ⟨0x2240, 0x2240, 0x0A, 0x0A, .u16, .ro, k 0x0000, 0, 0, .any, 0, false⟩,
  ⟨0x2250, 0x2250, 0x01, 0x01, .u32, .ro, k 0, 0, 0, .any, 0, false⟩,
  ⟨0x2250, 0x2250, 0x02, 0x02, .i32, .ro, k 0, 0, 0, .any, 0, false⟩,
  ⟨0x2250, 0x2250, 0x03, 0x03, .i32, .ro, k 0, 0, 0, .any, 0, false⟩,
  ⟨0x2250, 0x2250, 0x04, 0x04, .i32, .ro, k 0, 0, 0, .any, 0, false⟩,
  ⟨0x2250, 0x2250, 0x05, 0x05, .i32, .ro, k 0, 0, 0, .any, 0, false⟩,
  ⟨0x2250, 0x2250, 0x06, 0x06, .i32, .ro, k 0, 0, 0, .any, 0, false⟩,
  ⟨0x2250, 0x2250, 0x07, 0x07, .i32, .ro, k 0, 0, 0, .any, 0, false⟩,
  ⟨0x2250, 0x2250, 0x08, 0x08, .i32, .ro, k 0, 0, 0, .any, 0, false⟩,
  ⟨0x2250, 0x2250, 0x09, 0x09, .i32, .ro, k 0, 0, 0, .any, 0, false⟩,
  ⟨0x2251, 0x2251, 0x01, 0x06, .i32, .ro, k 0, 0, 0, .any, 0, false⟩,
  ⟨0x2260, 0x2260, 0x01, 0x01, .u32, .ro, k 0, 0, 0, .any, 0, false⟩,
  ⟨0x2260, 0x2260, 0x02, 0x02, .u32, .ro, k 0, 0, 0, .any, 0, false⟩,
  ⟨0x2260, 0x2260, 0x03, 0x03, .u32, .ro, k 0, 0, 0, .any, 0, false⟩,
  ⟨0x2260, 0x2260, 0x04, 0x04, .u32, .ro, k 0, 0, 0, .any, 0, false⟩]

/-- Table 4.7. -/
def rows_4_7 : List ObjRow := [
  ⟨0x2300, 0x2300, 0x01, 0x01, .u16, .rw, k 0x0000, 2, 20, .any, 0x1, true⟩,
  ⟨0x2300, 0x2300, 0x02, 0x02, .u16, .ro, k 0x0000, 0, 0, .any, 0, false⟩,
  ⟨0x2310, 0x2310, 0x01, 0x01, .u16, .rw, k 1100, 2, 60, .span 800 1500, 0, true⟩,
  ⟨0x2310, 0x2310, 0x02, 0x02, .u16, .rw, k 600, 2, 60, .span 50 2000, 0, true⟩,
  ⟨0x2310, 0x2310, 0x03, 0x03, .u16, .rw, k 50, 2, 60, .span 5 200, 0, true⟩,
  ⟨0x2310, 0x2310, 0x04, 0x04, .u16, .rw, k 20, 2, 60, .span 2 500, 0, true⟩,
  ⟨0x2311, 0x2311, 0x01, 0x01, .u16, .rw, k 1250, 2, 60, .span 500 1500, 0, true⟩,
  ⟨0x2311, 0x2311, 0x02, 0x02, .u16, .rw, k 0, 2, 4, .span 0 300, 0, true⟩,
  ⟨0x2311, 0x2311, 0x03, 0x03, .u16, .rw, k 100, 2, 60, .span 0 500, 0, true⟩,
  ⟨0x2311, 0x2311, 0x04, 0x04, .u16, .ro, k 0, 0, 0, .any, 0, false⟩,
  ⟨0x2312, 0x2312, 0x01, 0x01, .u16, .rw, k 850, 2, 60, .span 300 950, 0, true⟩,
  ⟨0x2312, 0x2312, 0x02, 0x02, .u16, .rw, k 900, 2, 60, .span 500 980, 0, true⟩,
  ⟨0x2312, 0x2312, 0x03, 0x03, .u16, .rw, k 20, 2, 60, .span 10 1000, 0, true⟩,
  ⟨0x2312, 0x2312, 0x04, 0x04, .u16, .rw, k 200, 2, 60, .span 10 2000, 0, true⟩,
  ⟨0x2312, 0x2312, 0x05, 0x05, .u16, .rw, k 40, 2, 60, .span 5 500, 0, true⟩,
  ⟨0x2312, 0x2312, 0x06, 0x06, .u16, .rw, k 3000, 2, 60, .span 100 10000, 0, true⟩,
  ⟨0x2312, 0x2312, 0x07, 0x07, .u16, .rw, k 100, 2, 60, .span 20 500, 0, true⟩,
  ⟨0x2320, 0x2320, 0x01, 0x01, .u16, .ro, k 0, 0, 0, .any, 0, false⟩,
  ⟨0x2320, 0x2320, 0x02, 0x02, .u16, .ro, k 0, 0, 0, .any, 0, false⟩,
  ⟨0x2320, 0x2320, 0x03, 0x03, .u16, .ro, k 0, 0, 0, .any, 0, false⟩,
  ⟨0x2320, 0x2320, 0x04, 0x04, .u16, .ro, k 0, 0, 0, .any, 0, false⟩,
  ⟨0x2320, 0x2320, 0x05, 0x05, .u16, .ro, k 0xFFFF, 0, 0, .any, 0, false⟩,
  ⟨0x2320, 0x2320, 0x06, 0x06, .u16, .ro, k 0, 0, 0, .any, 0, false⟩,
  ⟨0x2320, 0x2320, 0x07, 0x07, .u16, .ro, k 0, 0, 0, .any, 0, false⟩,
  ⟨0x2320, 0x2320, 0x08, 0x08, .u32, .ro, k 0, 0, 0, .any, 0, false⟩,
  ⟨0x2321, 0x2321, 0x01, 0x01, .u32, .ro, k 0, 0, 0, .any, 0, false⟩,
  ⟨0x2321, 0x2321, 0x02, 0x02, .u32, .ro, k 0, 0, 0, .any, 0, false⟩,
  ⟨0x2321, 0x2321, 0x03, 0x03, .u32, .ro, k 0, 0, 0, .any, 0, false⟩,
  ⟨0x2321, 0x2321, 0x04, 0x04, .u32, .ro, k 0, 0, 0, .any, 0, false⟩,
  ⟨0x2321, 0x2321, 0x05, 0x05, .u32, .ro, k 0, 0, 0, .any, 0, false⟩,
  ⟨0x2321, 0x2321, 0x06, 0x06, .u32, .ro, k 0, 0, 0, .any, 0, false⟩,
  ⟨0x2340, 0x2340, 0x01, 0x01, .u16, .rw, k 100, 2, 20, .span 20 300, 0, true⟩,
  ⟨0x2340, 0x2340, 0x02, 0x02, .u16, .rw, k 100, 2, 20, .span 20 5000, 0, true⟩,
  ⟨0x2340, 0x2340, 0x03, 0x03, .u16, .rw, k 900, 2, 20, .span 500 1100, 0, true⟩,
  ⟨0x2340, 0x2340, 0x04, 0x04, .u16, .rw, k 200, 2, 20, .span 5 2000, 0, true⟩,
  ⟨0x2340, 0x2340, 0x05, 0x05, .u16, .rw, k 500, 2, 20, .span 100 1250, 0, true⟩,
  ⟨0x2340, 0x2340, 0x06, 0x06, .u16, .rw, k 2000, 2, 20, .span 100 60000, 0, true⟩,
  ⟨0x2340, 0x2340, 0x07, 0x07, .u16, .rw, k 1000, 2, 20, .span 0 60000, 0, true⟩,
  ⟨0x2340, 0x2340, 0x08, 0x08, .u16, .rw, k 50, 2, 20, .span 1 1000, 0, true⟩,
  ⟨0x2341, 0x2341, 0x01, 0x01, .u8, .ro, k 0, 0, 0, .any, 0, false⟩,
  ⟨0x2341, 0x2341, 0x02, 0x02, .u16, .ro, k 0x0000, 0, 0, .any, 0, false⟩,
  ⟨0x2341, 0x2341, 0x03, 0x03, .u16, .ro, k 0, 0, 0, .any, 0, false⟩,
  ⟨0x2341, 0x2341, 0x04, 0x04, .u32, .ro, k 0, 0, 0, .any, 0, false⟩,
  ⟨0x2341, 0x2341, 0x05, 0x05, .i32, .ro, k 0, 0, 0, .any, 0, false⟩,
  ⟨0x2350, 0x2350, 0x01, 0x01, .bool, .rw, k 0, 2, 32, .any, 0, true⟩,
  ⟨0x2350, 0x2350, 0x02, 0x02, .u16, .rw, k 2000, 2, 60, .span 500 20000, 0, true⟩,
  ⟨0x2350, 0x2350, 0x03, 0x03, .u16, .rw, k 20, 2, 60, .span 1 100, 0, true⟩,
  ⟨0x2350, 0x2350, 0x04, 0x04, .u16, .rw, k 50, 2, 60, .span 5 500, 0, true⟩,
  ⟨0x2350, 0x2350, 0x05, 0x05, .u16, .rw, k 100, 2, 60, .span 10 300, 0, true⟩,
  ⟨0x2350, 0x2350, 0x06, 0x06, .u16, .rw, k 10, 2, 60, .span 1 100, 0, true⟩,
  ⟨0x2350, 0x2350, 0x07, 0x07, .u16, .rw, k 50, 2, 60, .span 5 200, 0, true⟩,
  ⟨0x2350, 0x2350, 0x08, 0x08, .u16, .rw, k 100, 2, 60, .span 20 5000, 0, true⟩,
  ⟨0x2350, 0x2350, 0x09, 0x09, .u16, .rw, k 60, 2, 60, .span 1 600, 0, true⟩,
  ⟨0x2350, 0x2350, 0x0A, 0x0A, .u16, .rw, k 10000, 2, 60, .span 100 60000, 0, true⟩,
  ⟨0x2350, 0x2350, 0x0B, 0x0B, .i16, .ro, k 0, 0, 0, .any, 0, false⟩,
  ⟨0x2350, 0x2350, 0x0C, 0x0C, .i16, .ro, k 0, 0, 0, .any, 0, false⟩,
  ⟨0x2350, 0x2350, 0x0D, 0x0D, .i16, .ro, k 0, 0, 0, .any, 0, false⟩,
  ⟨0x2350, 0x2350, 0x0E, 0x0E, .i32, .ro, k 0, 0, 0, .any, 0, false⟩,
  ⟨0x2350, 0x2350, 0x0F, 0x0F, .i32, .ro, k 0, 0, 0, .any, 0, false⟩]

/-- Table 5.10. -/
def rows_5_10 : List ObjRow := [
  ⟨0x2400, 0x2400, 0x01, 0x01, .u16, .rw, k 200, 2, 60, .span 0 1000, 0, true⟩,
  ⟨0x2400, 0x2400, 0x02, 0x02, .u32, .ro, k 0, 0, 0, .any, 0, false⟩,
  ⟨0x2401, 0x2401, 0x01, 0x06, .u8, .rw, k 0x03, 2, 20, .any, 0x3, true⟩,
  ⟨0x2402, 0x2402, 0x01, 0x06, .u16, .ro, k 0x0000, 0, 0, .any, 0, false⟩,
  ⟨0x2403, 0x2403, 0x01, 0x06, .i16, .ro, k 0, 0, 0, .any, 0, false⟩,
  ⟨0x2404, 0x2404, 0x01, 0x06, .i32, .ro, k 0, 0, 0, .any, 0, false⟩,
  ⟨0x2405, 0x2405, 0x01, 0x06, .u32, .ro, k 0, 0, 0, .any, 0, false⟩,
  ⟨0x2406, 0x2406, 0x01, 0x06, .u16, .ro, k 0xFFFF, 0, 0, .any, 0, false⟩,
  ⟨0x2407, 0x2407, 0x01, 0x06, .i32, .ro, k 0, 0, 0, .any, 0, false⟩,
  ⟨0x2408, 0x2408, 0x01, 0x06, .u32, .ro, k 0, 0, 0, .any, 0, false⟩,
  ⟨0x2409, 0x2409, 0x01, 0x06, .u32, .ro, k 0, 0, 0, .any, 0, false⟩,
  ⟨0x240A, 0x240A, 0x01, 0x06, .u32, .ro, k 0, 0, 0, .any, 0, false⟩,
  ⟨0x240B, 0x240B, 0x01, 0x01, .u32, .ro, k 0, 0, 0, .any, 0, false⟩,
  ⟨0x2420, 0x2420, 0x01, 0x01, .u16, .rw, k 0x0003, 2, 20, .any, 0x3, true⟩,
  ⟨0x2420, 0x2420, 0x02, 0x02, .u16, .rw, k 15000, 2, 60, .span 0 60000, 0, true⟩,
  ⟨0x2420, 0x2420, 0x03, 0x03, .u16, .rw, k 400, 2, 60, .span 100 60000, 0, true⟩,
  ⟨0x2420, 0x2420, 0x04, 0x04, .u16, .rw, k 20, 2, 60, .span 0 200, 0, true⟩,
  ⟨0x2420, 0x2420, 0x05, 0x05, .u16, .rw, k 50000, 2, 60, .span 1000 60000, 0, true⟩,
  ⟨0x2420, 0x2420, 0x06, 0x06, .u16, .rw, k 64, 2, 60, .span 0 7680, 0, true⟩,
  ⟨0x2420, 0x2420, 0x07, 0x07, .u16, .rw, k 1000, 2, 20, .span 1000 1300, 0, true⟩,
  ⟨0x2420, 0x2420, 0x08, 0x08, .u16, .ro, k 4, 0, 0, .any, 0, false⟩,
  ⟨0x2420, 0x2420, 0x09, 0x09, .u16, .ro, k 6, 0, 0, .any, 0, false⟩,
  ⟨0x2420, 0x2420, 0x0A, 0x0A, .u16, .ro, k 0x0000, 0, 0, .any, 0, false⟩,
  ⟨0x2421, 0x2421, 0x01, 0x06, .u16, .ro, k 0x0000, 0, 0, .any, 0, false⟩,
  ⟨0x2422, 0x2422, 0x01, 0x06, .u16, .ro, k 0, 0, 0, .any, 0, false⟩,
  ⟨0x2423, 0x2423, 0x01, 0x06, .u16, .rw, k 0, 2, 4, .span 0 64, 0, true⟩,
  ⟨0x2424, 0x2424, 0x01, 0x06, .u16, .ro, k 0, 0, 0, .any, 0, false⟩,
  ⟨0x2425, 0x2425, 0x01, 0x06, .u16, .ro, k 0, 0, 0, .any, 0, false⟩,
  ⟨0x2426, 0x2426, 0x01, 0x06, .u16, .ro, k 0, 0, 0, .any, 0, false⟩,
  ⟨0x2427, 0x2427, 0x01, 0x06, .u16, .ro, k 0, 0, 0, .any, 0, false⟩,
  ⟨0x2428, 0x2428, 0x01, 0x06, .u32, .ro, k 0, 0, 0, .any, 0, false⟩,
  ⟨0x2429, 0x2429, 0x01, 0x06, .i8, .ro, k (-1), 0, 0, .any, 0, false⟩,
  ⟨0x242A, 0x242A, 0x01, 0x06, .u32, .ro, k 0, 0, 0, .any, 0, false⟩,
  ⟨0x242B, 0x242B, 0x01, 0x06, .u32, .ro, k 0, 0, 0, .any, 0, false⟩,
  ⟨0x242C, 0x242C, 0x01, 0x06, .u32, .ro, k 0, 0, 0, .any, 0, false⟩,
  ⟨0x242D, 0x242D, 0x01, 0x06, .u32, .ro, k 0, 0, 0, .any, 0, false⟩,
  ⟨0x242E, 0x242E, 0x01, 0x06, .u32, .ro, k 0, 0, 0, .any, 0, false⟩,
  ⟨0x2430, 0x2430, 0x01, 0x01, .u16, .wo, k 0, 2, 16, .span 0 7679, 0, false⟩,
  ⟨0x2430, 0x2430, 0x02, 0x02, .u32, .ro, k 0, 0, 0, .any, 0, false⟩]

/-- Table 6.8. -/
def rows_6_8 : List ObjRow := [
  ⟨0x2500, 0x2500, 0x01, 0x01, .u16, .ro, k 0x0004, 0, 0, .any, 0, false⟩,
  ⟨0x2500, 0x2500, 0x02, 0x02, .u16, .rw, k 2000, 2, 60, .span 0 10000, 0, true⟩,
  ⟨0x2500, 0x2500, 0x03, 0x03, .u32, .ro, k 0, 0, 0, .any, 0, false⟩,
  ⟨0x2500, 0x2500, 0x04, 0x04, .u32, .ro, k 0, 0, 0, .any, 0, false⟩,
  ⟨0x2500, 0x2500, 0x05, 0x05, .u32, .ro, k 0, 0, 0, .any, 0, false⟩,
  ⟨0x2510, 0x2510, 0x01, 0x18, .u32, .rw, fun _ j => if j < 6 then 1 else 0, 2, 60, .any, 0xf1ff, true⟩,
  ⟨0x2511, 0x2511, 0x01, 0x18, .u16, .rw, k 0x1F1F, 2, 4, .any, 0x1f1f, true⟩,
  ⟨0x2512, 0x2512, 0x01, 0x18, .u32, .rw, k 4000, 2, 60, .span 8 16777215, 0, true⟩,
  ⟨0x2513, 0x2513, 0x01, 0x18, .u32, .rw, k 0, 2, 60, .span 0 1073741823, 0, true⟩,
  ⟨0x2514, 0x2514, 0x01, 0x18, .u32, .rw, k 0x3FFFFFFF, 2, 60, .span 0 1073741823, 0, true⟩,
  ⟨0x2515, 0x2515, 0x01, 0x18, .u32, .rw, k 0x3FFFFFFF, 2, 60, .span 0 1073741823, 0, true⟩,
  ⟨0x2516, 0x2516, 0x01, 0x18, .u32, .rw, k 0, 2, 60, .any, 0xffffff, true⟩,
  ⟨0x2517, 0x2517, 0x01, 0x18, .u16, .rw, k 25600, 2, 20, .span 0 65535, 0, true⟩,
  ⟨0x2518, 0x2518, 0x01, 0x18, .u16, .rw, k 12800, 2, 20, .span 0 65535, 0, true⟩,
  ⟨0x2519, 0x2519, 0x01, 0x18, .u8, .rw, k 0x00, 2, 60, .any, 0x3, true⟩,
  ⟨0x251A, 0x251A, 0x01, 0x18, .u16, .ro, k 0x0000, 0, 0, .any, 0, false⟩,
  ⟨0x251B, 0x251B, 0x01, 0x18, .u16, .rw, k 0x0000, 2, 60, .any, 0x1fff, true⟩,
  ⟨0x251C, 0x251C, 0x01, 0x18, .u8, .rw, k 8, 2, 20, .span 1 255, 0, true⟩,
  ⟨0x251D, 0x251D, 0x01, 0x18, .u32, .ro, k 0, 0, 0, .any, 0, false⟩,
  ⟨0x251E, 0x251E, 0x01, 0x18, .u32, .ro, k 0, 0, 0, .any, 0, false⟩,
  ⟨0x251F, 0x251F, 0x01, 0x18, .u32, .ro, k 0, 0, 0, .any, 0, false⟩,
  ⟨0x2520, 0x2520, 0x01, 0x18, .u32, .ro, k 0, 0, 0, .any, 0, false⟩,
  ⟨0x2521, 0x2521, 0x01, 0x18, .u32, .ro, k 0, 0, 0, .any, 0, false⟩]

/-- Table 7.9. -/
def rows_7_9 : List ObjRow := [
  ⟨0x2600, 0x2600, 0x01, 0x01, .u32, .ro, k 0x00000000, 0, 0, .any, 0, false⟩,
  ⟨0x2600, 0x2600, 0x02, 0x02, .u32, .ro, k 0x00000000, 0, 0, .any, 0, false⟩,
  ⟨0x2600, 0x2600, 0x03, 0x03, .u32, .wo, k 0, 2, 124, .any, 0, false⟩,
  ⟨0x2600, 0x2600, 0x04, 0x04, .u32, .ro, k 0, 0, 0, .any, 0, false⟩,
  ⟨0x2600, 0x2600, 0x05, 0x05, .u32, .ro, k 0, 0, 0, .any, 0, false⟩,
  ⟨0x2601, 0x2601, 0x01, 0x04, .u16, .rw, k 0x00CA, 2, 4, .any, 0x1ff, true⟩,
  ⟨0x2602, 0x2602, 0x01, 0x04, .u32, .ro, k 0, 0, 0, .any, 0, false⟩,
  ⟨0x2603, 0x2603, 0x01, 0x04, .u16, .ro, k 0x0000, 0, 0, .any, 0, false⟩,
  ⟨0x2604, 0x2604, 0x01, 0x04, .u32, .ro, k 0, 0, 0, .any, 0, false⟩,
  ⟨0x2610, 0x2610, 0x01, 0x20, .u32, .rw, k 0x00000608, 2, 60, .any, 0xfff, true⟩,
  ⟨0x2611, 0x2611, 0x01, 0x20, .u16, .rw, k 16, 2, 4, .span 8 512, 0, true⟩,
  ⟨0x2612, 0x2612, 0x01, 0x20, .u16, .rw, k 0x0001, 2, 4, .any, 0x1f7f, true⟩,
  ⟨0x2613, 0x2613, 0x01, 0x20, .u8, .rw, k 0, 2, 4, .span 0 20, 0, true⟩,
  ⟨0x2614, 0x2614, 0x01, 0x20, .i32, .rw, k 0, 2, 4, .span 0 2000000, 0, true⟩,
  ⟨0x2615, 0x2615, 0x01, 0x20, .i32, .rw, k 0, 2, 4, .span (-838861) 838861, 0, true⟩,
  ⟨0x2616, 0x2616, 0x01, 0x20, .u16, .rw, k 0, 2, 4, .span 0 10000, 0, true⟩,
  ⟨0x2617, 0x2617, 0x01, 0x20, .u8, .rw, k 0, 2, 4, .span 0 63, 0, true⟩,
  ⟨0x2618, 0x2618, 0x01, 0x20, .u32, .ro, k 0, 0, 0, .any, 0, false⟩,
  ⟨0x2619, 0x2619, 0x01, 0x20, .u32, .ro, k 0, 0, 0, .any, 0, false⟩,
  ⟨0x261A, 0x261A, 0x01, 0x20, .u32, .ro, k 0, 0, 0, .any, 0, false⟩,
  ⟨0x261B, 0x261B, 0x01, 0x20, .u32, .ro, k 0, 0, 0, .any, 0, false⟩,
  ⟨0x261C, 0x261C, 0x01, 0x20, .u32, .ro, k 0, 0, 0, .any, 0, false⟩,
  ⟨0x261D, 0x261D, 0x01, 0x20, .u16, .ro, k 0x0200, 0, 0, .any, 0, false⟩,
  ⟨0x261E, 0x261E, 0x01, 0x20, .i32, .ro, k 0, 0, 0, .any, 0, false⟩,
  ⟨0x261F, 0x261F, 0x01, 0x20, .i32, .ro, k 0, 0, 0, .any, 0, false⟩,
  ⟨0x2620, 0x2620, 0x01, 0x20, .time32, .ro, k 0, 0, 0, .any, 0, false⟩,
  ⟨0x2621, 0x2621, 0x01, 0x20, .i32, .ro, k 0, 0, 0, .any, 0, false⟩,
  ⟨0x2622, 0x2622, 0x01, 0x20, .i32, .ro, k 0, 0, 0, .any, 0, false⟩,
  ⟨0x2623, 0x2623, 0x01, 0x20, .i32, .ro, k (-8388608), 0, 0, .any, 0, false⟩,
  ⟨0x2624, 0x2624, 0x01, 0x20, .i32, .ro, k 8388607, 0, 0, .any, 0, false⟩,
  ⟨0x2625, 0x2625, 0x01, 0x20, .u32, .ro, k 0, 0, 0, .any, 0, false⟩,
  ⟨0x2626, 0x2626, 0x01, 0x20, .u32, .ro, k 0, 0, 0, .any, 0, false⟩,
  ⟨0x2627, 0x2627, 0x01, 0x20, .u32, .rw, k 20000, 2, 60, .span 100 100000, 0, true⟩,
  ⟨0x2628, 0x2628, 0x01, 0x20, .u32, .rw, k 20000, 2, 60, .span 10 1000000, 0, true⟩,
  ⟨0x2629, 0x2629, 0x01, 0x20, .u16, .rw, k 950, 2, 60, .span 500 1000, 0, true⟩,
  ⟨0x262A, 0x262A, 0x01, 0x20, .u32, .ro, k 0, 0, 0, .any, 0, false⟩,
  ⟨0x262B, 0x262B, 0x01, 0x20, .u32, .ro, k 0, 0, 0, .any, 0, false⟩,
  ⟨0x262C, 0x262C, 0x01, 0x20, .u32, .ro, k 0, 0, 0, .any, 0, false⟩,
  ⟨0x2640, 0x2647, 0x01, 0x40, .i32, .rw, fun _ j => if j = 0 then 65536 else 0, 2, 4, .span (-131072) 131071, 0, true⟩,
  ⟨0x2648, 0x2648, 0x01, 0x08, .u32, .ro, k 0, 0, 0, .any, 0, false⟩,
  ⟨0x2649, 0x2649, 0x01, 0x08, .u8, .ro, k 0x01, 0, 0, .any, 0, false⟩]

/-- Table 8.9. -/
def rows_8_9 : List ObjRow := [
  ⟨0x2700, 0x2700, 0x01, 0x01, .u16, .rw, k 0x0014, 2, 20, .any, 0x1f, true⟩,
  ⟨0x2700, 0x2700, 0x02, 0x02, .u16, .ro, k 0x0000, 0, 0, .any, 0, false⟩,
  ⟨0x2700, 0x2700, 0x03, 0x03, .u8, .ro, k 0x00, 0, 0, .any, 0, false⟩,
  ⟨0x2700, 0x2700, 0x04, 0x04, .u32, .ro, k 0x00000000, 0, 0, .any, 0, false⟩,
  ⟨0x2700, 0x2700, 0x05, 0x05, .u32, .ro, k 0x00000000, 0, 0, .any, 0, false⟩,
  ⟨0x2700, 0x2700, 0x06, 0x06, .time32, .ro, k 0, 0, 0, .any, 0, false⟩,
  ⟨0x2700, 0x2700, 0x07, 0x07, .u32, .ro, k 0, 0, 0, .any, 0, false⟩,
  ⟨0x2700, 0x2700, 0x08, 0x08, .u32, .ro, k 0, 0, 0, .any, 0, false⟩,
  ⟨0x2700, 0x2700, 0x09, 0x09, .bool, .wo, k 0, 1, 48, .any, 0, false⟩,
  ⟨0x2700, 0x2700, 0x0A, 0x0A, .u8, .rw, k 0x00, 2, 4, .any, 0x3f, true⟩,
  ⟨0x2700, 0x2700, 0x0B, 0x0B, .u32, .ro, k 0, 0, 0, .any, 0, false⟩,
  ⟨0x2710, 0x2710, 0x01, 0x01, .u16, .rw, k 1300, 2, 20, .span 1150 1400, 0, true⟩,
  ⟨0x2710, 0x2710, 0x02, 0x02, .u16, .rw, k 20, 2, 20, .span 5 1000, 0, true⟩,
  ⟨0x2710, 0x2710, 0x03, 0x03, .u16, .rw, k 2500, 2, 20, .span 1500 4000, 0, true⟩,
  ⟨0x2710, 0x2710, 0x04, 0x04, .u8, .rw, k 1, 2, 20, .oneOf [1, 2], 0, true⟩,
  ⟨0x2710, 0x2710, 0x05, 0x05, .u16, .ro, k 0, 0, 0, .any, 0, false⟩,
  ⟨0x2711, 0x2711, 0x01, 0x04, .u8, .rw, k 0x04, 2, 20, .any, 0xf, true⟩,
  ⟨0x2712, 0x2712, 0x01, 0x04, .u16, .rw, k 1150, 2, 20, .span 1100 1300, 0, true⟩,
  ⟨0x2713, 0x2713, 0x01, 0x04, .u16, .rw, k 30, 2, 20, .span 5 100, 0, true⟩,
  ⟨0x2714, 0x2714, 0x01, 0x04, .u8, .rw, k 40, 2, 20, .span 4 160, 0, true⟩,
  ⟨0x2715, 0x2715, 0x01, 0x04, .u16, .rw, k 200, 2, 20, .span 0 800, 0, true⟩,
  ⟨0x2716, 0x2716, 0x01, 0x04, .u16, .rw, k 120, 2, 20, .span 0 800, 0, true⟩,
  ⟨0x2717, 0x2717, 0x01, 0x04, .u16, .rw, k 10, 2, 20, .span 0 1000, 0, true⟩,
  ⟨0x2718, 0x2718, 0x01, 0x04, .u16, .rw, k 10, 2, 20, .span 0 1000, 0, true⟩,
  ⟨0x2719, 0x2719, 0x01, 0x04, .u8, .ro, k 0x00, 0, 0, .any, 0, false⟩,
  ⟨0x271A, 0x271A, 0x01, 0x04, .u32, .ro, k 0, 0, 0, .any, 0, false⟩,
  ⟨0x271B, 0x271B, 0x01, 0x04, .u32, .ro, k 0, 0, 0, .any, 0, false⟩,
  ⟨0x2720, 0x2720, 0x01, 0x03, .u16, .ro, k 0, 0, 0, .any, 0, false⟩,
  ⟨0x2720, 0x2720, 0x04, 0x04, .bool, .wo, k 0, 2, 124, .any, 0, false⟩,
  ⟨0x2740, 0x2740, 0x01, 0x01, .u8, .rw, k 0x01, 2, 20, .any, 0x1, true⟩,
  ⟨0x2740, 0x2740, 0x02, 0x02, .u16, .rw, k 50, 2, 60, .span 10 200, 0, true⟩,
  ⟨0x2740, 0x2740, 0x03, 0x03, .u16, .rw, k 100, 2, 60, .span 10 300, 0, true⟩,
  ⟨0x2740, 0x2740, 0x04, 0x04, .u16, .rw, k 200, 2, 60, .span 50 1000, 0, true⟩,
  ⟨0x2740, 0x2740, 0x05, 0x05, .u16, .rw, k 20, 2, 60, .span 5 200, 0, true⟩,
  ⟨0x2740, 0x2740, 0x06, 0x06, .u32, .rw, k 1000, 2, 60, .span 1000 100000, 0, true⟩,
  ⟨0x2740, 0x2740, 0x07, 0x07, .u8, .rw, k 4, 2, 20, .span 0 8, 0, true⟩,
  ⟨0x2740, 0x2740, 0x08, 0x08, .u8, .rw, k 8, 2, 20, .span 0 16, 0, true⟩,
  ⟨0x2740, 0x2740, 0x09, 0x09, .u32, .ro, k 0, 0, 0, .any, 0, false⟩,
  ⟨0x2740, 0x2740, 0x0A, 0x0A, .u32, .ro, k 0, 0, 0, .any, 0, false⟩,
  ⟨0x2740, 0x2740, 0x0B, 0x0B, .u16, .ro, k 0, 0, 0, .any, 0, false⟩,
  ⟨0x2741, 0x2741, 0x01, 0x0F, .u16, .rw, fun _ j => 125 * ((j : Int) + 1), 2, 4, .span 0 4000, 0, true⟩,
  ⟨0x2750, 0x2750, 0x01, 0x10, .u64, .rw, k gateDescriptorReset, 2, 4, .any, 0xffffffffff, true⟩,
  ⟨0x2760, 0x2760, 0x01, 0x01, .u16, .rw, k 0, 2, 124, .span 0 7679, 0, true⟩,
  ⟨0x2760, 0x2760, 0x02, 0x02, .u8, .rw, k 0, 2, 124, .span 0 15, 0, true⟩,
  ⟨0x2760, 0x2760, 0x03, 0x03, .u64, .ro, k absent, 0, 0, .any, 0, false⟩,
  ⟨0x2760, 0x2760, 0x04, 0x04, .u8, .ro, k 0x00, 0, 0, .any, 0, false⟩]

/-- Table 9.6. -/
def rows_9_6 : List ObjRow := [
  ⟨0x2800, 0x2800, 0x01, 0x01, .u16, .rw, k 0x0007, 2, 20, .any, 0x7, true⟩,
  ⟨0x2800, 0x2800, 0x02, 0x02, .u16, .ro, k 0x0000, 0, 0, .any, 0, false⟩,
  ⟨0x2800, 0x2800, 0x03, 0x03, .u16, .rw, k 24, 2, 60, .span 1 720, 0, true⟩,
  ⟨0x2800, 0x2800, 0x04, 0x04, .bool, .wo, k 0, 2, 48, .any, 0, false⟩,
  ⟨0x2800, 0x2800, 0x05, 0x05, .u32, .ro, k absent, 0, 0, .any, 0, false⟩,
  ⟨0x2800, 0x2800, 0x06, 0x06, .bool, .ro, k 0, 0, 0, .any, 0, false⟩,
  ⟨0x2800, 0x2800, 0x07, 0x07, .u16, .ro, k 0x0000, 0, 0, .any, 0, false⟩,
  ⟨0x2800, 0x2800, 0x08, 0x08, .u32, .ro, k 0, 0, 0, .any, 0, false⟩,
  ⟨0x2800, 0x2800, 0x09, 0x09, .u32, .ro, k 0, 0, 0, .any, 0, false⟩,
  ⟨0x2800, 0x2800, 0x0A, 0x0A, .u32, .ro, k 0, 0, 0, .any, 0, false⟩,
  ⟨0x2800, 0x2800, 0x0B, 0x0B, .u32, .ro, k 0, 0, 0, .any, 0, false⟩,
  ⟨0x2800, 0x2800, 0x0C, 0x0C, (.domain 61460), .wo, k 0, 3, 48, .any, 0, false⟩,
  ⟨0x2800, 0x2800, 0x0D, 0x0D, (.domain 61460), .ro, k 0, 0, 0, .any, 0, false⟩,
  ⟨0x2810, 0x2810, 0x01, 0x06, .u32, .rw, k 0, 2, 4, .span 1000 1000000, 0, true⟩,
  ⟨0x2811, 0x2811, 0x01, 0x01, .u8, .rw, k 32, 2, 4, .span 16 255, 0, true⟩,
  ⟨0x2811, 0x2811, 0x02, 0x02, .u16, .rw, k 4096, 2, 4, .span 256 65535, 0, true⟩,
  ⟨0x2811, 0x2811, 0x03, 0x03, .u16, .rw, k 250, 2, 4, .span 50 2000, 0, true⟩,
  ⟨0x2811, 0x2811, 0x04, 0x04, .u16, .rw, k 400, 2, 4, .span 50 2000, 0, true⟩,
  ⟨0x2811, 0x2811, 0x05, 0x05, .u16, .rw, k 100, 2, 4, .span 10 300, 0, true⟩,
  ⟨0x2811, 0x2811, 0x06, 0x06, .u8, .rw, k 70, 2, 4, .span 20 125, 0, true⟩,
  ⟨0x2811, 0x2811, 0x07, 0x07, .u8, .rw, k 5, 2, 4, .span 1 20, 0, true⟩,
  ⟨0x2811, 0x2811, 0x08, 0x08, .u16, .rw, k 1024, 2, 4, .span 64 16384, 0, true⟩,
  ⟨0x2812, 0x2812, 0x01, 0x06, .u16, .rw, k 28000, 2, 4, .any, 0, true⟩,
  ⟨0x2813, 0x2813, 0x01, 0x06, .u16, .rw, k 23200, 2, 4, .any, 0, true⟩,
  ⟨0x2814, 0x2814, 0x01, 0x06, .u16, .rw, k 32768, 2, 4, .span 24576 40960, 0, true⟩,
  ⟨0x2820, 0x2820, 0x01, 0x01, .u32, .rw, k 1000000, 2, 4, .span 1000 4000000000, 0, true⟩,
  ⟨0x2820, 0x2820, 0x02, 0x02, .u16, .rw, k 500, 2, 4, .span 100 2000, 0, true⟩,
  ⟨0x2820, 0x2820, 0x03, 0x03, .u16, .rw, k 500, 2, 4, .span 100 1000, 0, true⟩,
  ⟨0x2820, 0x2820, 0x04, 0x04, .u16, .rw, k 9000, 2, 4, .span 0 30000, 0, true⟩,
  ⟨0x2820, 0x2820, 0x05, 0x05, .u16, .rw, k 1250, 2, 4, .span 500 1750, 0, true⟩,
  ⟨0x2820, 0x2820, 0x06, 0x06, .u8, .rw, k 20, 2, 4, .span 5 100, 0, true⟩,
  ⟨0x2820, 0x2820, 0x07, 0x07, .u8, .rw, k 30, 2, 4, .span 10 200, 0, true⟩,
  ⟨0x2820, 0x2820, 0x08, 0x08, .u32, .rw, k 800000, 2, 60, .span 0 2000000, 0, true⟩,
  ⟨0x2820, 0x2820, 0x09, 0x09, .u16, .rw, k 900, 2, 60, .span 500 1000, 0, true⟩,
  ⟨0x2830, 0x2830, 0x01, 0x01, .u16, .rw, k 28800, 2, 4, .any, 0, true⟩,
  ⟨0x2830, 0x2830, 0x02, 0x02, .u16, .rw, k 24000, 2, 4, .any, 0, true⟩,
  ⟨0x2830, 0x2830, 0x03, 0x03, .u16, .rw, k 20800, 2, 4, .any, 0, true⟩,
  ⟨0x2830, 0x2830, 0x04, 0x04, .u16, .rw, k 400, 2, 4, .span 0 3200, 0, true⟩,
  ⟨0x2830, 0x2830, 0x05, 0x05, .u16, .rw, k 1638, 2, 4, .span 0 3277, 0, true⟩,
  ⟨0x2830, 0x2830, 0x06, 0x06, .u8, .rw, k 2, 2, 4, .span 0 16, 0, true⟩,
  ⟨0x2831, 0x2831, 0x01, 0x01, .u32, .rw, k 900000, 2, 60, .any, 0, true⟩,
  ⟨0x2831, 0x2831, 0x02, 0x02, .u16, .rw, k 850, 2, 60, .span 500 990, 0, true⟩,
  ⟨0x2831, 0x2831, 0x03, 0x03, .u16, .rw, k 200, 2, 60, .span 110 1000, 0, true⟩,
  ⟨0x2831, 0x2831, 0x04, 0x04, .u16, .rw, k 200, 2, 60, .span 10 1000, 0, true⟩,
  ⟨0x2831, 0x2831, 0x05, 0x05, .u16, .rw, k 300, 2, 60, .span 0 2000, 0, true⟩,
  ⟨0x2831, 0x2831, 0x06, 0x06, .u16, .rw, k 150, 2, 60, .span 105 1000, 0, true⟩,
  ⟨0x2840, 0x2840, 0x01, 0x06, .u16, .ro, k 1000, 0, 0, .any, 0, false⟩,
  ⟨0x2841, 0x2841, 0x01, 0x06, .u16, .ro, k 0, 0, 0, .any, 0, false⟩,
  ⟨0x2850, 0x2850, 0x01, 0x01, .u16, .ro, k 750, 0, 0, .any, 0, false⟩,
  ⟨0x2850, 0x2850, 0x02, 0x02, .u16, .rw, k 650, 2, 4, .span 650 850, 0, true⟩,
  ⟨0x2850, 0x2850, 0x03, 0x03, .u16, .rw, k 850, 2, 4, .span 650 850, 0, true⟩,
  ⟨0x2850, 0x2850, 0x04, 0x04, .u16, .rw, k 750, 2, 4, .span 650 850, 0, true⟩,
  ⟨0x2850, 0x2850, 0x05, 0x05, .u8, .ro, k 0x00, 0, 0, .any, 0, false⟩,
  ⟨0x2850, 0x2850, 0x06, 0x06, .u16, .ro, k 0, 0, 0, .any, 0, false⟩,
  ⟨0x2850, 0x2850, 0x07, 0x07, .u16, .ro, k 0, 0, 0, .any, 0, false⟩,
  ⟨0x2850, 0x2850, 0x08, 0x08, .u32, .ro, k 0, 0, 0, .any, 0, false⟩,
  ⟨0x2850, 0x2850, 0x09, 0x09, .u32, .ro, k 0, 0, 0, .any, 0, false⟩,
  ⟨0x2850, 0x2850, 0x0A, 0x0A, .i16, .ro, k 0, 0, 0, .any, 0, false⟩,
  ⟨0x2850, 0x2850, 0x0B, 0x0B, .u16, .rw, k 60, 2, 4, .span 20 500, 0, true⟩,
  ⟨0x2850, 0x2850, 0x0C, 0x0C, .u16, .rw, k 120, 2, 4, .span 20 1000, 0, true⟩,
  ⟨0x2850, 0x2850, 0x0D, 0x0D, .u16, .rw, k 20, 2, 4, .span 0 500, 0, true⟩,
  ⟨0x2860, 0x2860, 0x01, 0x01, .u32, .ro, k absent, 0, 0, .any, 0, false⟩,
  ⟨0x2861, 0x2861, 0x01, 0x06, .u32, .ro, k absent, 0, 0, .any, 0, false⟩,
  ⟨0x2862, 0x2862, 0x01, 0x06, .u32, .ro, k absent, 0, 0, .any, 0, false⟩,
  ⟨0x2863, 0x2863, 0x01, 0x06, .u32, .ro, k absent, 0, 0, .any, 0, false⟩,
  ⟨0x2864, 0x2864, 0x01, 0x06, .u32, .ro, k absent, 0, 0, .any, 0, false⟩,
  ⟨0x2865, 0x2865, 0x01, 0x06, .u16, .ro, k absent, 0, 0, .any, 0, false⟩,
  ⟨0x2870, 0x2870, 0x01, 0x01, .u16, .rw, k 0, 2, 124, .span 0 7679, 0, true⟩,
  ⟨0x2870, 0x2870, 0x02, 0x02, .u32, .ro, k absent, 0, 0, .any, 0, false⟩,
  ⟨0x2870, 0x2870, 0x03, 0x03, .u32, .ro, k 0, 0, 0, .any, 0, false⟩,
  ⟨0x2870, 0x2870, 0x04, 0x04, .u16, .ro, k 0, 0, 0, .any, 0, false⟩,
  ⟨0x2870, 0x2870, 0x05, 0x05, .i16, .ro, k 0, 0, 0, .any, 0, false⟩,
  ⟨0x2870, 0x2870, 0x06, 0x06, .i16, .ro, k 0, 0, 0, .any, 0, false⟩,
  ⟨0x2870, 0x2870, 0x07, 0x07, .u32, .ro, k 0, 0, 0, .any, 0, false⟩,
  ⟨0x2870, 0x2870, 0x08, 0x08, .u32, .ro, k 0, 0, 0, .any, 0, false⟩,
  ⟨0x2870, 0x2870, 0x09, 0x09, .u16, .ro, k 0, 0, 0, .any, 0, false⟩,
  ⟨0x2870, 0x2870, 0x0A, 0x0A, .u16, .ro, k 0, 0, 0, .any, 0, false⟩,
  ⟨0x2870, 0x2870, 0x0B, 0x0B, .u16, .ro, k 0, 0, 0, .any, 0, false⟩,
  ⟨0x2870, 0x2870, 0x0C, 0x0C, .u32, .ro, k 0, 0, 0, .any, 0, false⟩]

/-- Table 10.14. -/
def rows_10_14 : List ObjRow := [
  ⟨0x4000, 0x5DFF, 0x01, 0x01, .u16, .ro, k absent, 0, 0, .any, 0, false⟩,
  ⟨0x4000, 0x5DFF, 0x02, 0x02, .u16, .ro, k absent, 0, 0, .any, 0, false⟩,
  ⟨0x4000, 0x5DFF, 0x03, 0x03, .u16, .ro, k absent, 0, 0, .any, 0, false⟩,
  ⟨0x4000, 0x5DFF, 0x04, 0x04, .u32, .ro, k absent, 0, 0, .any, 0, false⟩,
  ⟨0x4000, 0x5DFF, 0x05, 0x05, .u8, .ro, k absent, 0, 0, .any, 0, false⟩,
  ⟨0x4000, 0x5DFF, 0x06, 0x06, .i64, .ro, k absent, 0, 0, .any, 0, false⟩,
  ⟨0x4000, 0x5DFF, 0x07, 0x07, .u16, .ro, k absent, 0, 0, .any, 0, false⟩,
  ⟨0x4000, 0x5DFF, 0x08, 0x08, .u16, .ro, k absent, 0, 0, .any, 0, false⟩,
  ⟨0x4000, 0x5DFF, 0x09, 0x09, .u16, .ro, k absent, 0, 0, .any, 0, false⟩,
  ⟨0x4000, 0x5DFF, 0x0A, 0x0A, .u32, .ro, k absent, 0, 0, .any, 0, false⟩,
  ⟨0x4000, 0x5DFF, 0x0B, 0x0B, .u16, .ro, k absent, 0, 0, .any, 0, false⟩,
  ⟨0x4000, 0x5DFF, 0x0C, 0x0C, .i16, .ro, k absent, 0, 0, .any, 0, false⟩,
  ⟨0x4000, 0x5DFF, 0x0D, 0x0D, .i16, .ro, k absent, 0, 0, .any, 0, false⟩,
  ⟨0x4000, 0x5DFF, 0x0E, 0x0E, .u32, .ro, k absent, 0, 0, .any, 0, false⟩,
  ⟨0x4000, 0x5DFF, 0x0F, 0x0F, .u64, .ro, k absent, 0, 0, .any, 0, false⟩,
  ⟨0x4000, 0x5DFF, 0x10, 0x10, .i16, .ro, k absent, 0, 0, .any, 0, false⟩,
  ⟨0x4000, 0x5DFF, 0x11, 0x11, .i16, .ro, k absent, 0, 0, .any, 0, false⟩,
  ⟨0x4000, 0x5DFF, 0x12, 0x12, .u64, .ro, k absent, 0, 0, .any, 0, false⟩,
  ⟨0x4000, 0x5DFF, 0x13, 0x13, .u64, .ro, k absent, 0, 0, .any, 0, false⟩,
  ⟨0x4000, 0x5DFF, 0x14, 0x14, .u32, .ro, k absent, 0, 0, .any, 0, false⟩,
  ⟨0x4000, 0x5DFF, 0x15, 0x15, .u32, .ro, k absent, 0, 0, .any, 0, false⟩,
  ⟨0x4000, 0x5DFF, 0x16, 0x16, .u16, .ro, k absent, 0, 0, .any, 0, false⟩,
  ⟨0x4000, 0x5DFF, 0x17, 0x17, .u16, .ro, k absent, 0, 0, .any, 0, false⟩,
  ⟨0x4000, 0x5DFF, 0x18, 0x18, .u64, .ro, k absent, 0, 0, .any, 0, false⟩,
  ⟨0x4000, 0x5DFF, 0x19, 0x19, .u64, .ro, k 0, 0, 0, .any, 0, false⟩,
  ⟨0x4000, 0x5DFF, 0x1A, 0x1A, .u64, .ro, k 0, 0, 0, .any, 0, false⟩,
  ⟨0x4000, 0x5DFF, 0x1B, 0x1B, .u32, .ro, k 0, 0, 0, .any, 0, false⟩,
  ⟨0x4000, 0x5DFF, 0x1C, 0x1C, .u64, .ro, k absent, 0, 0, .any, 0, false⟩,
  ⟨0x4000, 0x5DFF, 0x1D, 0x1D, .u32, .ro, k absent, 0, 0, .any, 0, false⟩,
  ⟨0x4000, 0x5DFF, 0x1E, 0x1E, .u32, .ro, k absent, 0, 0, .any, 0, false⟩,
  ⟨0x4000, 0x5DFF, 0x1F, 0x1F, .u32, .ro, k 0, 0, 0, .any, 0, false⟩,
  ⟨0x4000, 0x5DFF, 0x20, 0x20, .u32, .ro, k 0, 0, 0, .any, 0, false⟩,
  ⟨0x4000, 0x5DFF, 0x21, 0x21, .u64, .ro, k absent, 0, 0, .any, 0, false⟩,
  ⟨0x4000, 0x5DFF, 0x22, 0x22, .i16, .ro, k absent, 0, 0, .any, 0, false⟩,
  ⟨0x4000, 0x5DFF, 0x23, 0x23, .u32, .ro, k absent, 0, 0, .any, 0, false⟩,
  ⟨0x4000, 0x5DFF, 0x24, 0x24, .u8, .ro, k 0, 0, 0, .any, 0, false⟩]

/-- Table 10.17. -/
def rows_10_17 : List ObjRow := [
  ⟨0x2900, 0x2900, 0x01, 0x01, .u8, .rw, k 0, 2, 4, .oneOf [0, 1, 2], 0, true⟩,
  ⟨0x2900, 0x2900, 0x02, 0x02, .u8, .rw, k 8, 2, 4, .span 8 32, 0, true⟩,
  ⟨0x2900, 0x2900, 0x03, 0x03, .u16, .ro, k 0x0000, 0, 0, .any, 0, false⟩,
  ⟨0x2900, 0x2900, 0x04, 0x04, .u32, .ro, k 0, 0, 0, .any, 0, false⟩,
  ⟨0x2900, 0x2900, 0x05, 0x05, .u32, .ro, k 0, 0, 0, .any, 0, false⟩,
  ⟨0x2900, 0x2900, 0x06, 0x06, .u32, .ro, k 0, 0, 0, .any, 0, false⟩,
  ⟨0x2900, 0x2900, 0x07, 0x07, .u32, .ro, k 0, 0, 0, .any, 0, false⟩,
  ⟨0x2900, 0x2900, 0x08, 0x08, .u32, .ro, k 0, 0, 0, .any, 0, false⟩,
  ⟨0x2900, 0x2900, 0x09, 0x09, .u32, .ro, k 0, 0, 0, .any, 0, false⟩,
  ⟨0x2900, 0x2900, 0x0A, 0x0A, .u16, .rw, k 0xFFFF, 2, 120, .spanOr 0 7679 0xFFFF, 0, true⟩,
  ⟨0x2910, 0x2910, 0x01, 0x18, .u8, .rw, fun _ j => (j / 4 : Nat), 2, 4, .oneOf [0, 1, 2, 3, 4, 5, 254, 255], 0, true⟩,
  ⟨0x2911, 0x2911, 0x01, 0x18, .u16, .rw, k 0, 2, 4, .span 0 320, 0, true⟩,
  ⟨0x2912, 0x2912, 0x01, 0x18, .u16, .ro, k 0, 0, 0, .any, 0, false⟩,
  ⟨0x2913, 0x2913, 0x01, 0x18, .u8, .ro, k 4, 0, 0, .any, 0, false⟩,
  ⟨0x2914, 0x2914, 0x01, 0x18, .u16, .ro, k 0, 0, 0, .any, 0, false⟩,
  ⟨0x2915, 0x2915, 0x01, 0x18, .u16, .ro, k 0, 0, 0, .any, 0, false⟩,
  ⟨0x2916, 0x2916, 0x01, 0x18, .u16, .ro, k 0x0000, 0, 0, .any, 0, false⟩,
  ⟨0x2917, 0x2917, 0x01, 0x18, .u32, .ro, k 0, 0, 0, .any, 0, false⟩,
  ⟨0x2918, 0x2918, 0x01, 0x18, .u32, .ro, k 0, 0, 0, .any, 0, false⟩,
  ⟨0x2920, 0x2920, 0x01, 0x08, .u16, .rw, k 0x0000, 2, 4, .any, 0x81ff, true⟩,
  ⟨0x2921, 0x2921, 0x01, 0x08, .u16, .ro, k 0x0000, 0, 0, .any, 0, false⟩,
  ⟨0x2922, 0x2922, 0x01, 0x08, .u16, .ro, k 0xFFFF, 0, 0, .any, 0, false⟩,
  ⟨0x2923, 0x2923, 0x01, 0x08, .u8, .ro, k 0, 0, 0, .any, 0, false⟩,
  ⟨0x2924, 0x2924, 0x01, 0x08, .u32, .ro, k 0, 0, 0, .any, 0, false⟩]

/-- Table 11.11. -/
def rows_11_11 : List ObjRow := [
  ⟨0x2A00, 0x2A00, 0x01, 0x01, .u64, .ro, k 0, 0, 0, .any, 0, false⟩,
  ⟨0x2A00, 0x2A00, 0x02, 0x02, .u8, .rw, k 4, 2, 4, .span 0 4, 0, false⟩,
  ⟨0x2A10, 0x2A10, 0x01, 0x32, .u8, .rw, fun _ j => if j < 48 then 0x1F else 0x01, 2, 4, .any, 0x1f, false⟩,
  ⟨0x2A11, 0x2A11, 0x01, 0x32, .u8, .ro, k 0, 0, 0, .any, 0, false⟩,
  ⟨0x2A12, 0x2A12, 0x01, 0x32, .u8, .ro, k 0xFF, 0, 0, .any, 0, false⟩,
  ⟨0x2A13, 0x2A13, 0x01, 0x32, .u16, .ro, k 0x0000, 0, 0, .any, 0, false⟩,
  ⟨0x2A14, 0x2A14, 0x01, 0x32, .u32, .rw, k 0x00008684, 2, 4, .any, 0x1ffff, false⟩,
  ⟨0x2A15, 0x2A15, 0x01, 0x32, .u32, .ro, k 0, 0, 0, .any, 0, false⟩,
  ⟨0x2A16, 0x2A16, 0x01, 0x32, .u8, .rw, k 0x00, 2, 4, .any, 0, false⟩,
  ⟨0x2A17, 0x2A17, 0x01, 0x32, .u8, .rw, fun _ j => if j < 48 then 0 else 1, 2, 20, .any, 0x1, false⟩,
  ⟨0x2A18, 0x2A18, 0x01, 0x32, .u16, .ro, k 0, 0, 0, .any, 0, false⟩,
  ⟨0x2A19, 0x2A19, 0x01, 0x32, .u32, .ro, k 0, 0, 0, .any, 0, false⟩,
  ⟨0x2A1A, 0x2A1A, 0x01, 0x32, .u32, .ro, k 0, 0, 0, .any, 0, false⟩,
  ⟨0x2A1B, 0x2A1B, 0x01, 0x32, .u32, .ro, k 0, 0, 0, .any, 0, false⟩,
  ⟨0x2A1C, 0x2A1C, 0x01, 0x32, .u32, .ro, k 0, 0, 0, .any, 0, false⟩,
  ⟨0x2A1D, 0x2A1D, 0x01, 0x32, .u32, .ro, k 0, 0, 0, .any, 0, false⟩,
  ⟨0x2A1E, 0x2A1E, 0x01, 0x32, .u32, .ro, k 0, 0, 0, .any, 0, false⟩,
  ⟨0x2A1F, 0x2A1F, 0x01, 0x32, .u32, .ro, k 0, 0, 0, .any, 0, false⟩,
  ⟨0x2A20, 0x2A20, 0x01, 0x32, .u8, .ro, k 0x00, 0, 0, .any, 0, false⟩,
  ⟨0x2A21, 0x2A21, 0x01, 0x32, .u16, .ro, k 0, 0, 0, .any, 0, false⟩,
  ⟨0x2A22, 0x2A22, 0x01, 0x32, .u32, .ro, k 0, 0, 0, .any, 0, false⟩,
  ⟨0x2A23, 0x2A23, 0x01, 0x32, .u8, .ro, k 0x00, 0, 0, .any, 0, false⟩,
  ⟨0x2A40, 0x2A40, 0x01, 0x01, .u8, .rw, k 0, 2, 120, .span 0 49, 0, false⟩,
  ⟨0x2A40, 0x2A40, 0x02, 0x02, .u8, .rw, k 24, 2, 120, .span 16 36, 0, false⟩,
  ⟨0x2A40, 0x2A40, 0x03, 0x03, .bool, .wo, k 0, 2, 120, .any, 0, false⟩,
  ⟨0x2A40, 0x2A40, 0x04, 0x04, .u8, .ro, k 0, 0, 0, .any, 0, false⟩,
  ⟨0x2A40, 0x2A40, 0x05, 0x05, .u32, .ro, k absent, 0, 0, .any, 0, false⟩,
  ⟨0x2A40, 0x2A40, 0x06, 0x06, .u8, .ro, k absent, 0, 0, .any, 0, false⟩,
  ⟨0x2A40, 0x2A40, 0x07, 0x07, .u8, .ro, k absent, 0, 0, .any, 0, false⟩,
  ⟨0x2A40, 0x2A40, 0x08, 0x08, (.domain 1048576), .ro, k 0, 0, 0, .any, 0, false⟩,
  ⟨0x2A40, 0x2A40, 0x09, 0x09, .u16, .ro, k 0, 0, 0, .any, 0, false⟩,
  ⟨0x2A40, 0x2A40, 0x0A, 0x0A, .bool, .wo, k 0, 2, 120, .any, 0, false⟩]

/-- Table 12.8. -/
def rows_12_8 : List ObjRow := [
  ⟨0x2B00, 0x2B00, 0x01, 0x01, .u16, .rw, k 0x0006, 2, 4, .any, 0x7, true⟩,
  ⟨0x2B00, 0x2B00, 0x02, 0x02, .u32, .ro, k 0x00000000, 0, 0, .any, 0, false⟩,
  ⟨0x2B00, 0x2B00, 0x03, 0x03, .u16, .ro, k 0, 0, 0, .any, 0, false⟩,
  ⟨0x2B00, 0x2B00, 0x04, 0x04, .u64, .ro, k 0, 0, 0, .any, 0, false⟩,
  ⟨0x2B00, 0x2B00, 0x05, 0x05, .u64, .ro, k 0, 0, 0, .any, 0, false⟩,
  ⟨0x2B00, 0x2B00, 0x06, 0x06, .u32, .ro, k 0x00000000, 0, 0, .any, 0, false⟩,
  ⟨0x2B00, 0x2B00, 0x07, 0x07, .bool, .rw, k 0, 3, 56, .any, 0, false⟩,
  ⟨0x2B00, 0x2B00, 0x08, 0x08, .u16, .ro, k 0xFFFF, 0, 0, .any, 0, false⟩,
  ⟨0x2B00, 0x2B00, 0x09, 0x09, .u8, .ro, k 0, 0, 0, .any, 0, false⟩,
  ⟨0x2B00, 0x2B00, 0x0A, 0x0A, .u32, .ro, k 0, 0, 0, .any, 0, false⟩,
  ⟨0x2B10, 0x2B10, 0x01, 0x02, .u8, .ro, k 0, 0, 0, .any, 0, false⟩,
  ⟨0x2B11, 0x2B11, 0x01, 0x02, .u32, .ro, k 0, 0, 0, .any, 0, false⟩,
  ⟨0x2B20, 0x2B20, 0x01, 0x01, .u32, .ro, k 0, 0, 0, .any, 0, false⟩,
  ⟨0x2B20, 0x2B20, 0x02, 0x02, .u32, .ro, k 0, 0, 0, .any, 0, false⟩,
  ⟨0x2B20, 0x2B20, 0x03, 0x03, .u32, .ro, k 0, 0, 0, .any, 0, false⟩,
  ⟨0x2B20, 0x2B20, 0x04, 0x04, .u32, .ro, k 0, 0, 0, .any, 0, false⟩,
  ⟨0x2B20, 0x2B20, 0x05, 0x05, .u32, .ro, k 0, 0, 0, .any, 0, false⟩,
  ⟨0x2B20, 0x2B20, 0x06, 0x06, .u32, .ro, k 0, 0, 0, .any, 0, false⟩,
  ⟨0x2B20, 0x2B20, 0x07, 0x07, .u32, .ro, k 0, 0, 0, .any, 0, false⟩,
  ⟨0x2B20, 0x2B20, 0x08, 0x08, .u32, .ro, k 0, 0, 0, .any, 0, false⟩,
  ⟨0x2B20, 0x2B20, 0x09, 0x09, .u32, .ro, k 0, 0, 0, .any, 0, false⟩,
  ⟨0x2B21, 0x2B21, 0x01, 0x06, .u32, .ro, k 0, 0, 0, .any, 0, false⟩,
  ⟨0x2B30, 0x2B30, 0x01, 0x01, .bool, .wo, k 0, 2, 56, .any, 0, false⟩,
  ⟨0x2B30, 0x2B30, 0x02, 0x02, .u8, .ro, k 0, 0, 0, .any, 0, false⟩,
  ⟨0x2B30, 0x2B30, 0x03, 0x03, .u16, .ro, k 0, 0, 0, .any, 0, false⟩,
  ⟨0x2B30, 0x2B30, 0x04, 0x04, .u32, .ro, k 0, 0, 0, .any, 0, false⟩,
  ⟨0x2B30, 0x2B30, 0x05, 0x05, .u32, .ro, k 0, 0, 0, .any, 0, false⟩,
  ⟨0x2B30, 0x2B30, 0x06, 0x06, .u32, .ro, k 0, 0, 0, .any, 0, false⟩,
  ⟨0x2B40, 0x2B40, 0x01, 0x01, .bool, .wo, k 0, 2, 48, .any, 0, false⟩,
  ⟨0x2B40, 0x2B40, 0x02, 0x02, .u8, .ro, k absent, 0, 0, .any, 0, false⟩,
  ⟨0x2B40, 0x2B40, 0x03, 0x03, .u32, .ro, k absent, 0, 0, .any, 0, false⟩,
  ⟨0x2B40, 0x2B40, 0x04, 0x04, .u16, .ro, k absent, 0, 0, .any, 0, false⟩,
  ⟨0x2B40, 0x2B40, 0x05, 0x05, (.domain 15360), .ro, k absent, 0, 0, .any, 0, false⟩]

/-- Table 13.7. -/
def rows_13_7 : List ObjRow := [
  ⟨0x2C00, 0x2C00, 0x01, 0x01, .u16, .rw, k 0x0007, 2, 4, .any, 0x7, true⟩,
  ⟨0x2C00, 0x2C00, 0x02, 0x02, .u8, .rw, k 0, 2, 4, .oneOf [0, 1, 2, 3], 0, true⟩,
  ⟨0x2C00, 0x2C00, 0x03, 0x03, .u8, .ro, k 0, 0, 0, .any, 0, false⟩,
  ⟨0x2C00, 0x2C00, 0x04, 0x04, .u16, .ro, k 0x0000, 0, 0, .any, 0, false⟩,
  ⟨0x2C00, 0x2C00, 0x05, 0x05, .time32, .ro, k 0, 0, 0, .any, 0, false⟩,
  ⟨0x2C00, 0x2C00, 0x06, 0x06, .u64, .ro, k 0, 0, 0, .any, 0, false⟩,
  ⟨0x2C00, 0x2C00, 0x07, 0x07, .i32, .ro, k 0, 0, 0, .any, 0, false⟩,
  ⟨0x2C00, 0x2C00, 0x08, 0x08, .i32, .ro, k 0, 0, 0, .any, 0, false⟩,
  ⟨0x2C00, 0x2C00, 0x09, 0x09, .i32, .ro, k 0, 0, 0, .any, 0, false⟩,
  ⟨0x2C00, 0x2C00, 0x0A, 0x0A, .u16, .rw, k 2000, 2, 60, .span 100 64000, 0, true⟩,
  ⟨0x2C00, 0x2C00, 0x0B, 0x0B, .u16, .rw, k 5000, 2, 60, .span 10 5000, 0, true⟩,
  ⟨0x2C00, 0x2C00, 0x0C, 0x0C, .u16, .rw, k 100, 2, 60, .span 20 10000, 0, true⟩,
  ⟨0x2C00, 0x2C00, 0x0D, 0x0D, .u64, .wo, k 0, 2, 12, .any, 0, false⟩,
  ⟨0x2C00, 0x2C00, 0x0E, 0x0E, .bool, .wo, k 0, 2, 28, .any, 0, false⟩,
  ⟨0x2C00, 0x2C00, 0x0F, 0x0F, .i64, .ro, k 0, 0, 0, .any, 0, false⟩,
  ⟨0x2C00, 0x2C00, 0x10, 0x10, .u32, .ro, k 0xFFFFFFFF, 0, 0, .any, 0, false⟩,
  ⟨0x2C00, 0x2C00, 0x11, 0x11, .u32, .ro, k 0, 0, 0, .any, 0, false⟩,
  ⟨0x2C00, 0x2C00, 0x12, 0x12, .u32, .ro, k 0, 0, 0, .any, 0, false⟩,
  ⟨0x2C00, 0x2C00, 0x13, 0x13, .u32, .ro, k 0, 0, 0, .any, 0, false⟩,
  ⟨0x2C00, 0x2C00, 0x14, 0x14, .u32, .ro, k 0, 0, 0, .any, 0, false⟩,
  ⟨0x2C00, 0x2C00, 0x15, 0x15, .u32, .ro, k 0, 0, 0, .any, 0, false⟩,
  ⟨0x2C00, 0x2C00, 0x16, 0x16, .u32, .ro, k 0, 0, 0, .any, 0, false⟩,
  ⟨0x2C00, 0x2C00, 0x17, 0x17, .i16, .ro, k 0, 0, 0, .any, 0, false⟩,
  ⟨0x2C10, 0x2C10, 0x01, 0x01, .u8, .rw, k 0, 2, 4, .span 0 127, 0, true⟩,
  ⟨0x2C10, 0x2C10, 0x02, 0x02, .u16, .rw, k 0xFFFF, 2, 4, .spanOr 0 4094 0xFFFF, 0, true⟩,
  ⟨0x2C10, 0x2C10, 0x03, 0x03, .u8, .ro, k 0xFF, 0, 0, .any, 0, false⟩,
  ⟨0x2C10, 0x2C10, 0x04, 0x04, .u64, .ro, k 0, 0, 0, .any, 0, false⟩,
  ⟨0x2C10, 0x2C10, 0x05, 0x05, .u32, .ro, k 0, 0, 0, .any, 0, false⟩,
  ⟨0x2C10, 0x2C10, 0x06, 0x06, .u32, .ro, k 0, 0, 0, .any, 0, false⟩,
  ⟨0x2C11, 0x2C11, 0x01, 0x02, .u32, .ro, k 0, 0, 0, .any, 0, false⟩,
  ⟨0x2C12, 0x2C12, 0x01, 0x02, .i16, .rw, k 0, 2, 4, .any, 0, false⟩,
  ⟨0x2C13, 0x2C13, 0x01, 0x02, .i16, .rw, k 0, 2, 4, .any, 0, false⟩,
  ⟨0x2C20, 0x2C20, 0x01, 0x01, .u16, .rw, k 0, 2, 4, .span 0 10000, 0, false⟩,
  ⟨0x2C20, 0x2C20, 0x02, 0x02, .i32, .ro, k 0, 0, 0, .any, 0, false⟩,
  ⟨0x2C20, 0x2C20, 0x03, 0x03, .u32, .ro, k 0, 0, 0, .any, 0, false⟩,
  ⟨0x2C30, 0x2C30, 0x01, 0x01, .u16, .rw, k 2000, 2, 4, .span 500 4000, 0, true⟩,
  ⟨0x2C30, 0x2C30, 0x02, 0x02, .u16, .rw, k 0, 2, 4, .span 0 3800, 0, false⟩,
  ⟨0x2C30, 0x2C30, 0x03, 0x03, .i16, .ro, k 0, 0, 0, .any, 0, false⟩,
  ⟨0x2C30, 0x2C30, 0x04, 0x04, .u32, .ro, k 0, 0, 0, .any, 0, false⟩,
  ⟨0x2C40, 0x2C40, 0x01, 0x01, .u32, .ro, k 0, 0, 0, .any, 0, false⟩,
  ⟨0x2C40, 0x2C40, 0x02, 0x02, .u32, .ro, k 0, 0, 0, .any, 0, false⟩,
  ⟨0x2C40, 0x2C40, 0x03, 0x03, .u32, .ro, k 0, 0, 0, .any, 0, false⟩,
  ⟨0x2C40, 0x2C40, 0x04, 0x04, .u32, .ro, k 0, 0, 0, .any, 0, false⟩,
  ⟨0x2C50, 0x2C50, 0x01, 0x10, .u32, .rw, k 0x00000000, 2, 124, .any, 0x7ff, true⟩,
  ⟨0x2C51, 0x2C51, 0x01, 0x10, .u32, .rw, k 0, 2, 124, .any, 0, true⟩,
  ⟨0x2C52, 0x2C52, 0x01, 0x10, .u32, .rw, k 1000000000, 2, 124, .span 1000 2000000000, 0, true⟩,
  ⟨0x2C53, 0x2C53, 0x01, 0x10, .u32, .rw, k 1000, 2, 124, .span 10 1000000, 0, true⟩,
  ⟨0x2C54, 0x2C54, 0x01, 0x10, .u8, .ro, k 0x00, 0, 0, .any, 0, false⟩,
  ⟨0x2C55, 0x2C55, 0x01, 0x10, .time32, .ro, k 0, 0, 0, .any, 0, false⟩]

/-- Table 14.15. -/
def rows_14_15 : List ObjRow := [
  ⟨0x2D00, 0x2D00, 0x01, 0x01, .u32, .ro, k 0x00000000, 0, 0, .any, 0, false⟩,
  ⟨0x2D00, 0x2D00, 0x02, 0x02, .u8, .ro, k 0, 0, 0, .any, 0, false⟩,
  ⟨0x2D00, 0x2D00, 0x03, 0x03, .i32, .ro, k 0, 0, 0, .any, 0, false⟩,
  ⟨0x2D00, 0x2D00, 0x04, 0x04, .i32, .ro, k 0, 0, 0, .any, 0, false⟩,
  ⟨0x2D00, 0x2D00, 0x05, 0x05, .u32, .ro, k 0, 0, 0, .any, 0, false⟩,
  ⟨0x2D00, 0x2D00, 0x06, 0x06, .u32, .ro, k 0, 0, 0, .any, 0, false⟩,
  ⟨0x2D00, 0x2D00, 0x07, 0x07, .i32, .ro, k 0, 0, 0, .any, 0, false⟩,
  ⟨0x2D00, 0x2D00, 0x08, 0x08, .u32, .ro, k 0, 0, 0, .any, 0, false⟩,
  ⟨0x2D00, 0x2D00, 0x09, 0x09, .u32, .ro, k 0, 0, 0, .any, 0, false⟩,
  ⟨0x2D01, 0x2D01, 0x01, 0x06, .u16, .rw, fun _ j => pllCtrlReset j, 2, 124, .any, 0xfff7, false⟩,
  ⟨0x2D02, 0x2D02, 0x01, 0x06, .u16, .ro, k 0x0002, 0, 0, .any, 0, false⟩,
  ⟨0x2D03, 0x2D03, 0x01, 0x06, .u32, .ro, k 0, 0, 0, .any, 0, false⟩,
  ⟨0x2D04, 0x2D04, 0x01, 0x06, .u32, .ro, k 0, 0, 0, .any, 0, false⟩,
  ⟨0x2D05, 0x2D05, 0x01, 0x06, .u32, .ro, k 0, 0, 0, .any, 0, false⟩,
  ⟨0x2D06, 0x2D06, 0x01, 0x01, .u8, .wo, k 0, 2, 4, .any, 0x3f, false⟩,
  ⟨0x2D07, 0x2D07, 0x01, 0x0D, .u8, .ro, k 0x00, 0, 0, .any, 0, false⟩,
  ⟨0x2D08, 0x2D08, 0x01, 0x0D, .u32, .ro, k 0, 0, 0, .any, 0, false⟩,
  ⟨0x2D10, 0x2D15, 0x01, 0x40, .u32, .rw, k 0x00000000, 3, 6, .any, 0x80ffffff, false⟩,
  ⟨0x2D20, 0x2D20, 0x01, 0x01, .u16, .ro, k 0x0000, 0, 0, .any, 0, false⟩,
  ⟨0x2D20, 0x2D20, 0x02, 0x02, .bool, .wo, k 0, 2, 20, .any, 0, false⟩,
  ⟨0x2D20, 0x2D20, 0x03, 0x03, .u8, .ro, k 0, 0, 0, .any, 0, false⟩,
  ⟨0x2D20, 0x2D20, 0x04, 0x04, .u16, .rw, k 0x0001, 2, 20, .any, 0xff, false⟩,
  ⟨0x2D20, 0x2D20, 0x05, 0x05, .u16, .ro, k 0x0000, 0, 0, .any, 0, false⟩,
  ⟨0x2D20, 0x2D20, 0x06, 0x06, .u32, .rw, k 3600, 2, 20, .span 1 31536000, 0, false⟩,
  ⟨0x2D20, 0x2D20, 0x07, 0x07, .u8, .rw, k 0x00, 2, 20, .any, 0x3f, false⟩,
  ⟨0x2D20, 0x2D20, 0x08, 0x08, .u16, .rw, k 650, 2, 4, .span 650 750, 0, false⟩,
  ⟨0x2D20, 0x2D20, 0x09, 0x09, .u16, .rw, k 200, 2, 4, .span 10 1000, 0, false⟩,
  ⟨0x2D20, 0x2D20, 0x0A, 0x0A, .u32, .ro, k 0, 0, 0, .any, 0, false⟩,
  ⟨0x2D20, 0x2D20, 0x0B, 0x0B, .u32, .ro, k 0, 0, 0, .any, 0, false⟩,
  ⟨0x2D20, 0x2D20, 0x0C, 0x0C, .u32, .ro, k 0, 0, 0, .any, 0, false⟩,
  ⟨0x2D20, 0x2D20, 0x0D, 0x0D, .u32, .ro, k 0, 0, 0, .any, 0, false⟩,
  ⟨0x2D21, 0x2D21, 0x01, 0x09, .u16, .ro, k 0, 0, 0, .any, 0, false⟩,
  ⟨0x2D22, 0x2D22, 0x01, 0x09, .u16, .ro, k 0, 0, 0, .any, 0, false⟩,
  ⟨0x2D23, 0x2D23, 0x01, 0x09, .u16, .ro, k 0xFFFF, 0, 0, .any, 0, false⟩,
  ⟨0x2D24, 0x2D24, 0x01, 0x01, .i16, .ro, k 0, 0, 0, .any, 0, false⟩,
  ⟨0x2D24, 0x2D24, 0x02, 0x02, .i16, .ro, k (-32768), 0, 0, .any, 0, false⟩,
  ⟨0x2D24, 0x2D24, 0x03, 0x03, .i16, .ro, k 32767, 0, 0, .any, 0, false⟩,
  ⟨0x2D24, 0x2D24, 0x04, 0x04, .u32, .ro, k 0, 0, 0, .any, 0, false⟩,
  ⟨0x2D24, 0x2D24, 0x05, 0x05, .u32, .ro, k 0, 0, 0, .any, 0, false⟩,
  ⟨0x2D24, 0x2D24, 0x06, 0x06, .bool, .wo, k 0, 1, 124, .any, 0, false⟩,
  ⟨0x2D24, 0x2D24, 0x07, 0x07, .u32, .ro, k 0, 0, 0, .any, 0, false⟩]

/-- Table 15.14. -/
def rows_15_14 : List ObjRow := [
  ⟨0x2E00, 0x2E00, 0x01, 0x01, .u8, .rw, k 0xFF, 2, 4, .any, 0, false⟩,
  ⟨0x2E00, 0x2E00, 0x03, 0x03, .u32, .ro, k 0, 0, 0, .any, 0, false⟩,
  ⟨0x2E00, 0x2E00, 0x04, 0x04, .u32, .ro, k 0, 0, 0, .any, 0, false⟩,
  ⟨0x2E00, 0x2E00, 0x05, 0x05, .u32, .ro, k 0, 0, 0, .any, 0, false⟩,
  ⟨0x2E00, 0x2E00, 0x06, 0x06, .bool, .wo, k 0, 2, 124, .any, 0, false⟩,
  ⟨0x2E01, 0x2E01, 0x01, 0x08, .u8, .ro, k 0, 0, 0, .any, 0, false⟩,
  ⟨0x2E02, 0x2E02, 0x01, 0x08, .u8, .ro, k 0x00, 0, 0, .any, 0, false⟩,
  ⟨0x2E03, 0x2E03, 0x01, 0x08, .u32, .ro, k 0, 0, 0, .any, 0, false⟩,
  ⟨0x2E04, 0x2E04, 0x01, 0x08, .u32, .ro, k 0, 0, 0, .any, 0, false⟩,
  ⟨0x2E05, 0x2E05, 0x01, 0x08, .u32, .ro, k 0, 0, 0, .any, 0, false⟩,
  ⟨0x2E06, 0x2E06, 0x01, 0x08, .bool, .wo, k 0, 2, 92, .any, 0, false⟩,
  ⟨0x2E07, 0x2E07, 0x01, 0x08, .u32, .ro, k 0, 0, 0, .any, 0, false⟩,
  ⟨0x2E08, 0x2E08, 0x01, 0x08, .u32, .ro, k 0, 0, 0, .any, 0, false⟩,
  ⟨0x2E09, 0x2E09, 0x01, 0x08, .u32, .ro, k 0, 0, 0, .any, 0, false⟩,
  ⟨0x2E0A, 0x2E0A, 0x01, 0x08, .i32, .ro, k 0x7FFFFFFF, 0, 0, .any, 0, false⟩,
  ⟨0x2E10, 0x2E10, 0x01, 0x01, .u8, .rw, k 0, 2, 4, .oneOf [0, 1], 0, false⟩,
  ⟨0x2E10, 0x2E10, 0x02, 0x02, .u32, .ro, k 0, 0, 0, .any, 0, false⟩,
  ⟨0x2E10, 0x2E10, 0x03, 0x03, .u32, .ro, k 0, 0, 0, .any, 0, false⟩,
  ⟨0x2E10, 0x2E10, 0x04, 0x04, .u16, .wo, k 0, 2, 124, .span 504 511, 0, false⟩,
  ⟨0x2E10, 0x2E10, 0x05, 0x05, .u32, .ro, k 0, 0, 0, .any, 0, false⟩,
  ⟨0x2E11, 0x2E11, 0x01, 0x10, .u16, .rw, k 0, 2, 124, .span 0 65535, 0, false⟩,
  ⟨0x2E12, 0x2E12, 0x01, 0x0A, .u8, .rw, k 0, 2, 124, .span 0 7, 0, false⟩,
  ⟨0x2E13, 0x2E13, 0x01, 0x0A, .u32, .ro, k 0, 0, 0, .any, 0, false⟩,
  ⟨0x2E14, 0x2E14, 0x01, 0x0A, .u32, .ro, k 0, 0, 0, .any, 0, false⟩,
  ⟨0x2E20, 0x2E2F, 0x01, 0x20, .u32, .rw, k 0x00000000, 2, 124, .any, 0x3ff1f, false⟩,
  ⟨0x2E30, 0x2E30, 0x01, 0x10, .u32, .ro, k 0, 0, 0, .any, 0, false⟩,
  ⟨0x2E31, 0x2E31, 0x01, 0x10, .u32, .ro, k 0, 0, 0, .any, 0, false⟩,
  ⟨0x2E32, 0x2E32, 0x01, 0x10, .u32, .wo, k 0, 2, 124, .any, 0, false⟩]

/-- Table 16.11. -/
def rows_16_11 : List ObjRow := [
  ⟨0x2F00, 0x2F00, 0x01, 0x01, .u16, .rw, k 0x0000, 2, 124, .any, 0x7, false⟩,
  ⟨0x2F00, 0x2F00, 0x02, 0x02, .u8, .ro, k 0, 0, 0, .any, 0, false⟩,
  ⟨0x2F00, 0x2F00, 0x03, 0x03, .u8, .ro, k 0, 0, 0, .any, 0, false⟩,
  ⟨0x2F00, 0x2F00, 0x04, 0x04, .bool, .wo, k 0, 1, 124, .any, 0, false⟩,
  ⟨0x2F00, 0x2F00, 0x05, 0x05, .bool, .wo, k 0, 1, 124, .any, 0, false⟩,
  ⟨0x2F00, 0x2F00, 0x06, 0x06, .bool, .wo, k 0, 1, 124, .any, 0, false⟩,
  ⟨0x2F00, 0x2F00, 0x07, 0x07, .u16, .rw, k 0, 2, 4, .span 0 6144, 0, false⟩,
  ⟨0x2F00, 0x2F00, 0x08, 0x08, .u32, .rw, k 65536, 2, 124, .span 0 134217728, 0, false⟩,
  ⟨0x2F00, 0x2F00, 0x09, 0x09, .u32, .rw, k 131072, 2, 124, .span 1 134217728, 0, false⟩,
  ⟨0x2F00, 0x2F00, 0x0A, 0x0A, .u32, .ro, k 262144, 0, 0, .any, 0, false⟩,
  ⟨0x2F00, 0x2F00, 0x0B, 0x0B, .u32, .ro, k 0, 0, 0, .any, 0, false⟩,
  ⟨0x2F00, 0x2F00, 0x0C, 0x0C, .u32, .ro, k 0, 0, 0, .any, 0, false⟩,
  ⟨0x2F00, 0x2F00, 0x0D, 0x0D, .u32, .ro, k 0, 0, 0, .any, 0, false⟩,
  ⟨0x2F00, 0x2F00, 0x0E, 0x0E, .u64, .ro, k 0, 0, 0, .any, 0, false⟩,
  ⟨0x2F00, 0x2F00, 0x0F, 0x0F, .u32, .ro, k 0, 0, 0, .any, 0, false⟩,
  ⟨0x2F00, 0x2F00, 0x10, 0x10, .u32, .ro, k 0, 0, 0, .any, 0, false⟩,
  ⟨0x2F00, 0x2F00, 0x11, 0x11, .u16, .rw, k 0x0000, 2, 124, .any, 0x1fff, false⟩,
  ⟨0x2F00, 0x2F00, 0x12, 0x12, .u32, .ro, k 0, 0, 0, .any, 0, false⟩,
  ⟨0x2F00, 0x2F00, 0x13, 0x13, .u8, .ro, k 0, 0, 0, .any, 0, false⟩,
  ⟨0x2F00, 0x2F00, 0x14, 0x14, .u32, .rw, k 0, 1, 124, .any, 0, false⟩,
  ⟨0x2F00, 0x2F00, 0x15, 0x15, .u32, .wo, k 0, 1, 124, .any, 0, false⟩,
  ⟨0x2F00, 0x2F00, 0x16, 0x16, .u32, .ro, k 0, 0, 0, .any, 0, false⟩,
  ⟨0x2F00, 0x2F00, 0x17, 0x17, .u16, .rw, k 0, 2, 124, .span 0 7679, 0, false⟩,
  ⟨0x2F00, 0x2F00, 0x18, 0x18, .u16, .rw, k 0, 2, 124, .span 0 7680, 0, false⟩,
  ⟨0x2F00, 0x2F00, 0x19, 0x19, .u16, .rw, k 1, 2, 124, .span 1 1000, 0, false⟩,
  ⟨0x2F10, 0x2F10, 0x01, 0x10, .u16, .rw, k 0x0000, 2, 124, .any, 0, false⟩,
  ⟨0x2F11, 0x2F11, 0x01, 0x10, .u16, .rw, k 1, 2, 124, .span 1 65535, 0, false⟩,
  ⟨0x2F20, 0x2F20, 0x01, 0x40, .u8, .rw, k 0x00, 2, 124, .any, 0, false⟩,
  ⟨0x2F21, 0x2F21, 0x01, 0x01, .u64, .rw, k 0, 2, 124, .any, 0, false⟩,
  ⟨0x2F21, 0x2F21, 0x02, 0x02, .u64, .rw, k 0, 2, 124, .any, 0, false⟩,
  ⟨0x2F21, 0x2F21, 0x03, 0x03, .u16, .rw, k 0, 2, 124, .span 0 65535, 0, false⟩,
  ⟨0x2F22, 0x2F22, 0x01, 0x04, .u8, .rw, k 0x00, 2, 124, .any, 0x3f, false⟩,
  ⟨0x2F23, 0x2F23, 0x01, 0x04, .i32, .rw, k 0, 2, 124, .any, 0, false⟩,
  ⟨0x2F24, 0x2F24, 0x01, 0x04, .u32, .rw, k 0, 2, 124, .any, 0, false⟩,
  ⟨0x2F30, 0x2F30, 0x01, 0x01, .i32, .rw, k (-2147483648), 2, 124, .any, 0, false⟩,
  ⟨0x2F30, 0x2F30, 0x02, 0x02, .i32, .rw, k 2147483647, 2, 124, .any, 0, false⟩,
  ⟨0x2F40, 0x2F40, 0x01, 0x01, (.domain 17179869184), .ro, k 0, 0, 0, .any, 0, false⟩,
  ⟨0x2F41, 0x2F41, 0x01, 0x01, .u32, .ro, k absent, 0, 0, .any, 0, false⟩,
  ⟨0x2F41, 0x2F41, 0x02, 0x02, .u64, .ro, k absent, 0, 0, .any, 0, false⟩,
  ⟨0x2F41, 0x2F41, 0x03, 0x03, .u8, .ro, k absent, 0, 0, .any, 0, false⟩,
  ⟨0x2F41, 0x2F41, 0x04, 0x04, .u32, .ro, k absent, 0, 0, .any, 0, false⟩,
  ⟨0x2F41, 0x2F41, 0x05, 0x05, .u64, .ro, k absent, 0, 0, .any, 0, false⟩,
  ⟨0x2F50, 0x2F50, 0x01, 0x10, .i32, .ro, k absent, 0, 0, .any, 0, false⟩,
  ⟨0x2F51, 0x2F51, 0x01, 0x10, .i32, .ro, k absent, 0, 0, .any, 0, false⟩,
  ⟨0x2F52, 0x2F52, 0x01, 0x10, .i32, .ro, k absent, 0, 0, .any, 0, false⟩,
  ⟨0x2F53, 0x2F53, 0x01, 0x10, .i32, .ro, k absent, 0, 0, .any, 0, false⟩,
  ⟨0x2F54, 0x2F54, 0x01, 0x10, .i32, .ro, k absent, 0, 0, .any, 0, false⟩,
  ⟨0x2F55, 0x2F55, 0x01, 0x10, .i32, .ro, k absent, 0, 0, .any, 0, false⟩,
  ⟨0x2F56, 0x2F56, 0x01, 0x10, .i32, .ro, k absent, 0, 0, .any, 0, false⟩,
  ⟨0x2F57, 0x2F57, 0x01, 0x01, (.domain 1048576), .ro, k absent, 0, 0, .any, 0, false⟩]

/-- Table 17.12. -/
def rows_17_12 : List ObjRow := [
  ⟨0x1000, 0x1000, 0x00, 0x00, .u32, .ro, k 0x00000000, 0, 0, .any, 0, false⟩,
  ⟨0x1001, 0x1001, 0x00, 0x00, .u8, .ro, k 0x00, 0, 0, .any, 0, false⟩,
  ⟨0x1008, 0x1008, 0x00, 0x00, (.visibleString 6), .ro, k 0x30383637584B, 0, 0, .any, 0, false⟩,
  ⟨0x1009, 0x1009, 0x00, 0x00, (.visibleString 2), .ro, k 0x3141, 0, 0, .any, 0, false⟩,
  ⟨0x100A, 0x100A, 0x00, 0x00, (.visibleString 32), .ro, k 0, 0, 0, .any, 0, false⟩,
  ⟨0x1017, 0x1017, 0x00, 0x00, .u16, .rw, k 1000, 2, 124, .spanOr 100 10000 0, 0, false⟩,
  ⟨0x1018, 0x1018, 0x01, 0x01, .u32, .ro, k 0x00000E5A, 0, 0, .any, 0, false⟩,
  ⟨0x1018, 0x1018, 0x02, 0x02, .u32, .ro, k Config.productCode, 0, 0, .any, 0, false⟩,
  ⟨0x1018, 0x1018, 0x03, 0x03, .u32, .ro, k 0x000000A1, 0, 0, .any, 0, false⟩,
  ⟨0x1018, 0x1018, 0x04, 0x04, .u32, .ro, k Config.serialNumber, 0, 0, .any, 0, false⟩,
  ⟨0x1E00, 0x1E01, 0x01, 0x01, .bool, .rw, k 1, 2, 124, .any, 0, false⟩,
  ⟨0x1E00, 0x1E01, 0x02, 0x02, .u8, .rw, k 16, 2, 4, .span 1 127, 0, false⟩,
  ⟨0x1E00, 0x1E01, 0x03, 0x03, .u16, .rw, k 500, 2, 4, .oneOf [125, 250, 500, 1000], 0, false⟩,
  ⟨0x1E00, 0x1E01, 0x04, 0x04, .u16, .rw, k 2000, 2, 4, .oneOf [1000, 2000, 4000, 5000, 8000], 0, false⟩,
  ⟨0x1E00, 0x1E01, 0x05, 0x05, .u8, .ro, k 0x00, 0, 0, .any, 0, false⟩,
  ⟨0x1E00, 0x1E01, 0x06, 0x06, .u32, .ro, k 0, 0, 0, .any, 0, false⟩,
  ⟨0x1E00, 0x1E01, 0x07, 0x07, .u32, .ro, k 0, 0, 0, .any, 0, false⟩,
  ⟨0x1E00, 0x1E01, 0x08, 0x08, .u32, .ro, k 0, 0, 0, .any, 0, false⟩,
  ⟨0x1E10, 0x1E11, 0x01, 0x01, .u8, .rw, k 1, 2, 4, .oneOf [0, 1, 2], 0, false⟩,
  ⟨0x1E10, 0x1E11, 0x02, 0x02, .u32, .rw, k 0, 2, 4, .any, 0, false⟩,
  ⟨0x1E10, 0x1E11, 0x03, 0x03, .u32, .rw, k 0xFFFFFF00, 2, 4, .any, 0, false⟩,
  ⟨0x1E10, 0x1E11, 0x04, 0x04, .u32, .rw, k 0, 2, 4, .any, 0, false⟩,
  ⟨0x1E10, 0x1E11, 0x05, 0x05, .u16, .rw, k 0xFFFF, 2, 4, .spanOr 0 4094 0xFFFF, 0, false⟩,
  ⟨0x1E10, 0x1E11, 0x06, 0x06, .u64, .ro, fun i _ => Config.macAddress i, 0, 0, .any, 0, false⟩,
  ⟨0x1E10, 0x1E11, 0x07, 0x07, .u8, .ro, k 0x00, 0, 0, .any, 0, false⟩,
  ⟨0x1E10, 0x1E11, 0x08, 0x08, .u32, .ro, k 0, 0, 0, .any, 0, false⟩,
  ⟨0x1E20, 0x1E20, 0x01, 0x01, .u16, .ro, k 6710, 0, 0, .any, 0, false⟩,
  ⟨0x1E20, 0x1E20, 0x02, 0x02, .u8, .ro, k 8, 0, 0, .any, 0, false⟩,
  ⟨0x1E20, 0x1E20, 0x03, 0x03, .u16, .rw, k 60, 2, 124, .span 5 3600, 0, false⟩,
  ⟨0x1E20, 0x1E20, 0x04, 0x04, .u8, .ro, k 0, 0, 0, .any, 0, false⟩,
  ⟨0x1E20, 0x1E20, 0x05, 0x05, .u32, .ro, k 0, 0, 0, .any, 0, false⟩,
  ⟨0x1E20, 0x1E20, 0x06, 0x06, .u32, .ro, k 0, 0, 0, .any, 0, false⟩,
  ⟨0x1E20, 0x1E20, 0x07, 0x07, .u32, .ro, k 0, 0, 0, .any, 0, false⟩,
  ⟨0x1E20, 0x1E20, 0x08, 0x08, .u32, .ro, k 0, 0, 0, .any, 0, false⟩]

/-- Table 17.13. -/
def rows_17_13 : List ObjRow := [
  ⟨0x2000, 0x2000, 0x01, 0x01, .u32, .ro, k 0x00010000, 0, 0, .any, 0, false⟩,
  ⟨0x2001, 0x2001, 0x01, 0x01, .u8, .ro, k 0, 0, 0, .any, 0, false⟩,
  ⟨0x2001, 0x2001, 0x02, 0x02, .u8, .ro, k 0, 0, 0, .any, 0, false⟩,
  ⟨0x2001, 0x2001, 0x03, 0x03, .u16, .ro, k 0x0000, 0, 0, .any, 0, false⟩,
  ⟨0x2001, 0x2001, 0x04, 0x04, .time32, .ro, k 0, 0, 0, .any, 0, false⟩,
  ⟨0x2001, 0x2001, 0x05, 0x05, .u32, .ro, k 0, 0, 0, .any, 0, false⟩,
  ⟨0x2001, 0x2001, 0x06, 0x06, .u8, .ro, k 0, 0, 0, .any, 0, false⟩,
  ⟨0x2002, 0x2002, 0x01, 0x01, .u8, .wo, k 0, 0, 124, .oneOf [2, 3, 4, 5, 21], 0, false⟩,
  ⟨0x2002, 0x2002, 0x02, 0x02, .u32, .ro, k 0, 0, 0, .any, 0, false⟩,
  ⟨0x2003, 0x2003, 0x01, 0x01, .u32, .ro, k 0, 0, 0, .any, 0, false⟩,
  ⟨0x2003, 0x2003, 0x02, 0x02, .u16, .ro, k 0, 0, 0, .any, 0, false⟩,
  ⟨0x2003, 0x2003, 0x03, 0x03, .u8, .ro, k 0, 0, 0, .any, 0, false⟩,
  ⟨0x2003, 0x2003, 0x04, 0x04, .u8, .ro, k 0, 0, 0, .any, 0, false⟩,
  ⟨0x2003, 0x2003, 0x05, 0x05, .u8, .ro, k 0xFF, 0, 0, .any, 0, false⟩,
  ⟨0x2003, 0x2003, 0x06, 0x06, .time32, .ro, k 0, 0, 0, .any, 0, false⟩,
  ⟨0x2003, 0x2003, 0x07, 0x07, .u32, .ro, k 0, 0, 0, .any, 0, false⟩,
  ⟨0x2006, 0x2006, 0x01, 0x10, .u32, .rww, k 0, 1, 124, .any, 0, true⟩,
  ⟨0x2008, 0x2008, 0x01, 0x01, (.domain 67108864), .wo, k 0, 3, 4, .any, 0, false⟩,
  ⟨0x2008, 0x2008, 0x02, 0x02, .u8, .ro, k 0, 0, 0, .any, 0, false⟩,
  ⟨0x2008, 0x2008, 0x03, 0x03, .u32, .ro, k 0, 0, 0, .any, 0, false⟩,
  ⟨0x2008, 0x2008, 0x04, 0x04, .u8, .ro, k 0, 0, 0, .any, 0, false⟩,
  ⟨0x2008, 0x2008, 0x05, 0x05, .u32, .ro, k 0, 0, 0, .any, 0, false⟩,
  ⟨0x2008, 0x2008, 0x06, 0x06, .u32, .ro, k 0, 0, 0, .any, 0, false⟩,
  ⟨0x2008, 0x2008, 0x07, 0x07, .bool, .wo, k 0, 3, 20, .any, 0, false⟩,
  ⟨0x2008, 0x2008, 0x08, 0x08, (.domain 67108864), .ro, k absent, 0, 0, .any, 0, false⟩,
  ⟨0x2008, 0x2008, 0x09, 0x09, .u32, .ro, k absent, 0, 0, .any, 0, false⟩,
  ⟨0x2008, 0x2008, 0x0A, 0x0A, .u64, .ro, k 0, 0, 0, .any, 0, false⟩,
  ⟨0x2008, 0x2008, 0x0B, 0x0B, .u32, .ro, k 0, 0, 0, .any, 0, false⟩,
  ⟨0x2010, 0x2010, 0x01, 0x01, .u8, .wo, k 0, 0, 124, .span 1 3, 0, false⟩,
  ⟨0x2010, 0x2010, 0x02, 0x02, (.octetString 16), .ro, k absent, 0, 0, .any, 0, false⟩,
  ⟨0x2010, 0x2010, 0x03, 0x03, (.octetString 32), .wo, k 0, 0, 124, .any, 0, false⟩,
  ⟨0x2010, 0x2010, 0x04, 0x04, .u8, .ro, k 0, 0, 0, .any, 0, false⟩,
  ⟨0x2010, 0x2010, 0x05, 0x05, .bool, .wo, k 0, 0, 124, .any, 0, false⟩,
  ⟨0x2010, 0x2010, 0x06, 0x06, .u32, .ro, k 0, 0, 0, .any, 0, false⟩,
  ⟨0x2010, 0x2010, 0x07, 0x07, .u16, .rw, k 600, 3, 124, .span 60 86400, 0, false⟩,
  ⟨0x2010, 0x2010, 0x08, 0x08, .u32, .ro, k 0, 0, 0, .any, 0, false⟩,
  ⟨0x2011, 0x2011, 0x01, 0x03, (.octetString 32), .wo, k 0, 3, 4, .any, 0, false⟩]

/-- Table 18.10. -/
def rows_18_10 : List ObjRow := [
  ⟨0x3000, 0x3000, 0x01, 0x01, .u16, .ro, k 0x0000, 0, 0, .any, 0, false⟩,
  ⟨0x3000, 0x3000, 0x02, 0x02, .u32, .ro, k 0, 0, 0, .any, 0, false⟩,
  ⟨0x3000, 0x3000, 0x03, 0x03, .time32, .ro, k 0, 0, 0, .any, 0, false⟩,
  ⟨0x3000, 0x3000, 0x04, 0x04, .u8, .ro, k 28, 0, 0, .any, 0, false⟩,
  ⟨0x3000, 0x3000, 0x05, 0x05, .u32, .ro, k 0, 0, 0, .any, 0, false⟩,
  ⟨0x3000, 0x3000, 0x06, 0x06, .u32, .ro, k 0, 0, 0, .any, 0, false⟩,
  ⟨0x3000, 0x3000, 0x07, 0x07, .u32, .ro, k 0, 0, 0, .any, 0, false⟩,
  ⟨0x3000, 0x3000, 0x08, 0x08, .u16, .ro, k 0, 0, 0, .any, 0, false⟩,
  ⟨0x3000, 0x3000, 0x09, 0x09, .u32, .ro, k 0, 0, 0, .any, 0, false⟩,
  ⟨0x3000, 0x3000, 0x0B, 0x0B, .bool, .wo, k 0, 2, 124, .any, 0, false⟩,
  ⟨0x3000, 0x3000, 0x0C, 0x0C, (.domain 5115904), .ro, k absent, 0, 0, .any, 0, false⟩,
  ⟨0x3000, 0x3000, 0x0D, 0x0D, .u32, .ro, k absent, 0, 0, .any, 0, false⟩,
  ⟨0x3000, 0x3000, 0x0E, 0x0E, .bool, .wo, k 0, 2, 124, .any, 0, false⟩,
  ⟨0x3001, 0x3001, 0x01, 0x01, .u8, .rw, k 0x01, 2, 4, .any, 0x1, false⟩,
  ⟨0x3001, 0x3001, 0x02, 0x02, .u32, .ro, k 0, 0, 0, .any, 0, false⟩,
  ⟨0x3010, 0x3010, 0x01, 0x27, .u64, .ro, k 0, 0, 0, .any, 0, false⟩,
  ⟨0x3020, 0x3020, 0x01, 0x16, .u64, .ro, k 0, 0, 0, .any, 0, false⟩,
  ⟨0x3021, 0x3021, 0x01, 0x16, .u64, .ro, k 0, 0, 0, .any, 0, false⟩,
  ⟨0x3030, 0x3070, 0x01, 0x40, .u64, .ro, k 0, 0, 0, .any, 0, false⟩,
  ⟨0x3080, 0x3080, 0x01, 0x01, .u32, .rw, k 0, 2, 124, .any, 0, false⟩,
  ⟨0x3080, 0x3080, 0x02, 0x02, (.octetString 64), .ro, k absent, 0, 0, .any, 0, false⟩]

/-- The rows of the object table that holds an index (the ranges of Table 17.11); none in a reserved range (R452). -/
def rowsAt (index : Nat) : List ObjRow :=
  if index < 0x1000 then [] else
  if index < 0x2000 then rows_17_12 else
  if index < 0x2100 then rows_17_13 else
  if index < 0x2200 then rows_2_10 else
  if index < 0x2300 then rows_3_8 else
  if index < 0x2400 then rows_4_7 else
  if index < 0x2500 then rows_5_10 else
  if index < 0x2600 then rows_6_8 else
  if index < 0x2700 then rows_7_9 else
  if index < 0x2800 then rows_8_9 else
  if index < 0x2900 then rows_9_6 else
  if index < 0x2A00 then rows_10_17 else
  if index < 0x2B00 then rows_11_11 else
  if index < 0x2C00 then rows_12_8 else
  if index < 0x2D00 then rows_13_7 else
  if index < 0x2E00 then rows_14_15 else
  if index < 0x2F00 then rows_15_14 else
  if index < 0x3000 then rows_16_11 else
  if index < 0x3100 then rows_18_10 else
  if index < 0x4000 then [] else
  if index < 0x5E00 then rows_10_14 else []

/-- The row that holds entry index:sub, if the dictionary has it. -/
def find? (index sub : Nat) : Option ObjRow :=
  (rowsAt index).find? fun r => r.indexLo ≤ index && index ≤ r.indexHi && r.subLo ≤ sub && sub ≤ r.subHi

/-- Does any subindex of the index exist (step 1 of Table 17.2)? -/
def indexExists (index : Nat) : Bool :=
  (rowsAt index).any fun r => r.indexLo ≤ index && index ≤ r.indexHi

/-- The row of a key. -/
def rowOf (key : Nat) : Option ObjRow := find? (key / 256) (key % 256)

/-- The value an entry holds at reset: its table's, and 0 for a key that is no entry. -/
def resetValue (key : Nat) : Int :=
  match rowOf key with
  | some r => r.reset (key / 256 - r.indexLo) (key % 256 - r.subLo)
  | none => 0

end Obj

end Sys2Proof
end

