-- ==== Sys2Proof/Machine/State.lean ====
section
/-!
DEFINITION. The state of one KX7680 as plain data. Every setting, status, counter and result that the manual gives a
dictionary entry lives in `objs`, the dictionary store, keyed by 256 * index + subindex: a list with strictly rising keys
and no entry equal to its reset value, so that equal dictionaries are equal data. What the manual gives the machine beside
the dictionary (sequencers, queues, filters, timers, buffers, flash, fuses, pins) is in the records below, one per unit.
-/

namespace Sys2Proof.Machine

/-- Reasons for a fault. No command of the manual stops the block; a fault is raised only for a command whose operands the
part cannot receive at all (`badOperand`, safe: such a command has no meaning in the manual). -/
inductive Fault where
  /-- An operand names a unit the part does not have. Raised by no meaning at present; safe. -/
  | badOperand
deriving DecidableEq, Repr

/-- Reasons for a refusal. -/
inductive Refusal where
  /-- A command that has no meaning yet. Raised by Dispatch only; safe (the machine stops). -/
  | notModelled (mnemonic : String)
deriving DecidableEq, Repr

/-- What a command makes the part send or show, in the order of its sending; `State.out` holds those of the latest
command. DESIGN CHOICE (log entry 9): safe. -/
inductive Out where
  /-- A dictionary answer: the write or command is done. -/
  | done
  /-- A dictionary answer: the abort code of Table 17.3. -/
  | abort (code : Nat)
  /-- A CAN frame of a port: identifier and data (R434, R436). -/
  | can (port : Nat) (id : Nat) (data : List Nat)
  /-- A TDS datagram on a port (2 ETH0, 3 ETH1): session, operation, SEQ, abort code or 0, ARG, LAST, payload (R439). -/
  | tds (port session op seq abort arg : Nat) (last : Bool) (payload : List Nat)
  /-- A USDO answer of a CAN port on CAN-ID `id`: abort code or 0, and the data it carries (R434). -/
  | usdo (port id abort : Nat) (data : List Nat)
  /-- Another Ethernet answer on a port: 0 ARP reply, 1 ICMP echo reply, 2 PTP message (R328, R438). -/
  | eth (port kind : Nat) (payload : List Nat)
  /-- A CONTROL, SYNC, ENUMERATE or DELAY frame launched on a port: its 32 header bytes, the downward halves of its slots in
  slot order, its FCRC (R227 to R233). The upward halves of CONTROL and the records of ENUMERATE and DELAY, which the nodes
  write, are sent as zeros and are not listed. -/
  | frame (port : Nat) (header : List Nat) (halves : List Nat) (fcrc : Nat)
  /-- The urgent-block ordered set on every owned port (R187). -/
  | urgentBlock
  /-- A HEAD frame on both cross-link lanes: ORB_COUNT, role, TRIP bit (R298). -/
  | head (orb role : Nat) (trip : Bool)
  /-- A management, cascade or cross-link record sent: kind and words. -/
  | record (kind : Nat) (words : List Int)
  /-- An ordered set of a lane: lane, set type, content (R273). -/
  | lane (lane kind : Nat) (content : Int)
  /-- A result a core reads back: of an Xkor instruction, a claim register or a register block. -/
  | core (hart : Nat) (v : Int)
  /-- An exception taken by a core: mcause (R376, R379). -/
  | exception (hart cause : Nat)
  /-- What the TAP shows (R467). -/
  | jtag (data : List Nat)
  /-- A line of the debug UART (R466, R485). -/
  | uart (chars : List Nat)
  /-- A pulse or edge on a pin: pin code and level. -/
  | pin (code : Nat) (level : Bool)
deriving DecidableEq, Repr

/-- Reset, boot and straps (chapter 19). -/
structure Boot where
  /-- PORESET_N is low, and since which device time. -/
  poreset : Bool
  asserted : Nat
  /-- A JTAG boundary-scan instruction holds the part in reset (R291). -/
  jtagHold : Bool
  /-- BOOT_SEL sampled at the release (R473). -/
  bootSel : Nat
  /-- The device time of the latest release of PORESET_N. -/
  released : Nat
  /-- The service watchdog is armed (R475). -/
  watchdog : Bool
  /-- BOOT is held with FAULT_N asserted (R484) or by SERVICE_HOLD (R473). -/
  held : Bool
  /-- Bank, stage (1 or 2) and attempt (1 or 2) tried next, and whether the other bank has failed for good (R482). -/
  bank : Nat
  stage : Nat
  attempt : Nat
  otherFailed : Bool
  /-- Firmware attempts made in this boot. -/
  attempts : Nat
  /-- The bank that verified, when one did. -/
  verified : Option Nat
  /-- Header fields of the running image: SVN, FLOOR, REVOKE, KEY_SLOT, VERSION (R478); and the ENG_IMAGE_ID of its image for each
  engine. -/
  svn : Nat
  floor : Nat
  revoke : Nat
  keySlot : Nat
  version : List Nat
  engines : List Nat
  /-- The dictionary bank that was loaded, 0xFF for none (code 0x0220). -/
  dictBank : Nat
  /-- OTP programming still to do since the reset (R481): not yet tried at an entry to BLOCKED. -/
  otpDue : Bool
  /-- OTP programming under way: attempt 1 or 2, 0 for none. -/
  otpAttempt : Nat
deriving DecidableEq, Repr

/-- A record of a boot event kept for the journal (R485): code, UPTIME in ms, DATA bytes 2 onward. -/
structure BootRecord where
  code : Nat
  uptime : Nat
  data : List Nat
deriving DecidableEq, Repr

/-- The AON cause register (R474): survives every reset but power-on. -/
structure Aon where
  /-- The cause of the latest reset, 0x0200 to 0x0204. -/
  cause : Nat
  /-- Boot failure records waiting for the journal. -/
  records : List BootRecord
  /-- Service watchdog resets in a row before CONFIG, per firmware bank (R482). -/
  watchdogBoots : List Nat
  /-- PORESET_N low time in ms of the latest power-on reset. -/
  lowTime : Nat
  /-- The wake latches of R366, one bit per source of Table 14.12. -/
  wakeLatch : Nat
deriving DecidableEq, Repr

/-- One boot directory copy (R477). -/
structure Directory where
  seq : Nat
  preferredFw : Nat
  preferredDict : Nat
  /-- Bits 1:0 firmware banks valid, bits 3:2 dictionary banks valid. -/
  valid : Nat
deriving DecidableEq, Repr

/-- One journal record (Table 18.4). -/
structure JournalRecord where
  seq : Nat
  boot : Nat
  uptime : Nat
  time64 : Nat
  orb : Nat
  code : Nat
  state : Nat
  role : Nat
  unitB : Bool
  transient : Bool
  lasting : Bool
  counter : Nat
  data : List Nat
deriving DecidableEq, Repr

/-- A frozen copy of the logbook (Table 18.7): counters, retry counts and histograms as dictionary entries, and the ageing
state. -/
structure Snapshot where
  number : Nat
  lastSeq : Nat
  time64 : Nat
  boot : Nat
  counters : List (Nat × Int)
  ageing : AgeState
deriving DecidableEq, Repr

/-- One slot of the snapshot ring: good or marked bad, erase count, content. -/
structure FlashSlot where
  good : Bool
  erases : Nat
  snap : Option Snapshot
deriving DecidableEq, Repr

/-- The boot flash: outside the package, but read and written by the part's own rules. -/
structure Flash where
  /-- The two directory copies; none where the CRC fails (R477). -/
  dirs : List (Option Directory)
  /-- The role keys, Operator, Engineer, Service (R427). -/
  keys : List (List Byte)
  /-- The two dictionary banks; none where nothing valid is stored. -/
  banks : List (Option DictImage)
  /-- The journal, newest first (Table 18.6). -/
  journal : List JournalRecord
  /-- The snapshot ring of 28 slots. -/
  slots : List FlashSlot
  /-- The number of the latest snapshot. -/
  snapNumber : Nat
deriving DecidableEq, Repr

/-- The fuses that the part blows itself (R481), and the key slots that are programmed (bit n slot n). -/
structure Otp where
  antiRollback : Nat
  revoked : Nat
  programmed : Nat
deriving DecidableEq, Repr

/-- Levels at the pins that the part reads, and the state of its I/O banks (chapter 20). -/
structure Pins where
  /-- GPIO[31:0] inputs. -/
  gpio : Nat
  /-- Filtered ARM_EN (R190): none until a level has been stable for 1 us after the release. -/
  armEn : Option Bool
  /-- Device time of the latest filtered fall of ARM_EN. -/
  armFell : Nat
  /-- VDDIO33 and VDDIO18 are above their operating minimum (R496). -/
  io33 : Bool
  io18 : Bool
deriving DecidableEq, Repr

/-- The Orbit sequencer (chapter 2). -/
structure Orb where
  /-- Device time of the latest boundary, and the time counter there in 2^-4 ns. -/
  boundary : Nat
  mark : Nat
  /-- Phase of the cycle: 0 to T_ref, 1 to T_up, 2 to T_fin, 3 to T_ready, 4 to the boundary. -/
  phase : Nat
  /-- A stretch, and a return, is announced for this ORB_COUNT (R43, R46). -/
  stretchAt : Option Nat
  returnAt : Option Nat
  /-- A condition of R42 has held at some time in the present cycle before T_fin, and at some time since. -/
  needSeen : Bool
  needLate : Bool
  /-- Misses of T_up in a row per ring pair: in normal cycles (R42) and in degraded cycles (R47). -/
  missNormal : List Nat
  missDegraded : List Nat
  /-- The pairs whose slots are held under R45. -/
  heldPairs : Nat
  /-- Misses of the root's references in a row (R35). -/
  treeMiss : Nat
  /-- The overrun declared in the present cycle, as ORB_OVERRUN_CAUSE (R48). -/
  overrun : Option Nat
  /-- The unit launches with role STALE and without Tide since an overrun (R49). -/
  silent : Bool
  /-- The HEAD of the present cycle is sent. -/
  headSent : Bool
  /-- A pending return is cancelled in the present cycle: its HEAD announces it (R46). -/
  cancelNow : Bool
  /-- The slack of the present cycle has already raised source 167 (R51). -/
  marginSeen : Bool
  /-- The device time at which the boundary of each of the two cycles before lay, newest first (R299). -/
  past : List Nat
deriving DecidableEq, Repr

/-- The clock and power unit (chapter 14). -/
structure Clk where
  /-- The DPLL has been LOCKED since it was last FREE. -/
  wasLocked : Bool
  /-- Device time at which the present holdover began. -/
  holdSince : Option Nat
  /-- What each analog PLL relocks for: 0 nothing, 1 a start, 2 a loss, 3 a change (R357, R358). -/
  relock : List Nat
  /-- Each quad PLL relocks after a loss; and its loss is lasting. -/
  quadRelock : List Bool
  quadLasting : List Bool
  /-- Rails outside their operating range, bit 0 the first of Table 14.7. -/
  railsOut : Nat
  /-- Sleep sequence: 0 none, 1 request accepted, 2 past the commit point, 3 asleep, 4 waking (Table 14.11). -/
  sleep : Nat
  /-- The request came from BLOCKED (R20). -/
  fromBlocked : Bool
  /-- Device times of the commit point, of the entry to LUNAR and of the wake event. -/
  commitAt : Nat
  lunarAt : Nat
  wakeAt : Nat
  /-- A wake event has occurred past the commit point (R366). -/
  wakeDue : Bool
deriving DecidableEq, Repr

/-- One serial lane (chapter 11), beside its entries. -/
structure Lane where
  /-- Bring-up attempt of the pair under way, 1 or 2, and the device times of its CAP_EXCHANGE and of the entry to the present
  state. -/
  attempt : Nat
  startAt : Nat
  stateAt : Nat
  /-- CAP content last received (D2 + 256 * D3) and how often in a row; ACK sets in a row; whether ACK is sent. -/
  capSeen : Nat
  capRun : Nat
  ackRun : Nat
  ackSent : Bool
  /-- The rate selected (R274). -/
  rate : Nat
  /-- The partner's latest tap request answered: sequence number and status (R277). -/
  answered : Option (Nat × Nat)
  /-- Own receiver: sequence number of the request under way, whether its status is awaited, its tap and direction (0 post
  +, 1 post -, 2 pre +, 3 pre -, 4 main +, 5 main -), the eye height before it, whether it is a trial, whether it was made,
  and moves in a row that gained 2 steps or less (R278). -/
  seq : Nat
  waiting : Bool
  move : Nat
  base : Int
  trial : Bool
  made : Bool
  flat : Nat
  /-- RX_READY is sent, and how many sets with RX_READY have been received in a row since. -/
  ready : Bool
  readyRun : Nat
  /-- The present Orbit cycle is unclean (R281). -/
  unclean : Bool
  /-- Invalid sync headers of the present minute (R282). -/
  headers : Nat
deriving DecidableEq, Repr

/-- An eye scan, running or complete (Table 11.6). -/
structure Eye where
  lane : Nat
  rate : Nat
  dwell : Nat
  gen : Nat
  start : Nat
  taps : Nat
  startAt : Nat
  /-- Points with disagreements: point number and count; every other point has 0. -/
  counts : List (Nat × Nat)
deriving DecidableEq, Repr

/-- The serial lanes. -/
structure Lanes where
  lanes : List Lane
  /-- The scan under way, and the latest result. -/
  scan : Option Eye
  result : Option Eye
deriving DecidableEq, Repr

/-- One ring pair of the link engine (chapter 10), beside its entries. -/
structure Pair where
  /-- Steps of R246 done, bit n for step n, and attempts at the step under way. -/
  steps : Nat
  tries : Nat
  /-- Records answered from VP(2p) when the frame came back looped; none while not known. -/
  evenFound : Option Nat
  /-- Management records done and failed once, as keys (R258). -/
  recordsDone : List Nat
  recordsFailed : List Nat
  /-- Segment delays S_i - S_(i-1) in 0.0625 ns, N + 1 of them, once measured (R248); a ring's latency at LINKUP in ns. -/
  segments : List Nat
  /-- Latest round-trip latency of each port, ns: from VP(2p), from VP(2p+1). -/
  portLatency : List Nat
  /-- The split k is known (R251). -/
  splitKnown : Bool
  /-- The two nodes at the break report LINK_CLEAN: bit 0 below it, bit 1 above. -/
  clean : Nat
  /-- The return to ring mode is announced for the next return boundary (R46, R252). -/
  returning : Bool
  /-- Frames of the present cycle that have come back: bit 0 from VP(2p), bit 1 from VP(2p+1). -/
  back : Nat
  /-- The frames on the ring were assembled with the split known (line placement). -/
  placed : Bool
  /-- Frames of the attempt under way that have been launched: bit 0 ENUMERATE from VP(2p), bit 1 from VP(2p+1), bit 2 DELAY. -/
  asked : Nat
  /-- Alignment values computed and not yet written: position, D_even, D_odd in 0.0625 ns (R248, R332). -/
  align : List (Nat × Int × Int)
  /-- Identities of the nodes answered, by position; of the partner's, once received. -/
  ids : List (Nat × Nat)
  partnerIds : Option (List (Nat × Nat))
deriving DecidableEq, Repr

/-- The link engine. -/
structure Link where
  pairs : List Pair
  /-- Cascade: the root's record for the present cycle, as received or launched. -/
  down : Option CascDown
  /-- Up records received in this cycle and in the one before, oldest first. -/
  ups : List CascUp
  upsBefore : List CascUp
  /-- Per device of the tree: the latest valid up record and the cycles it has been missing (R263). -/
  devices : List (CascUp × Nat)
  /-- Per group: one-way latency of the whole path below in ns and the devices on it (R17). -/
  paths : List (Option (Nat × Nat))
  /-- A transient upward miss was counted in the cycle before, and in this one (source 98). -/
  transBefore : Bool
  transNow : Bool
deriving DecidableEq, Repr

/-- One DC chopper channel (R179 to R184). Device times are in ns, the end of a phase in 2^-7 ns. -/
structure Chopper where
  /-- What the comparator asks for. -/
  comparator : Bool
  /-- 0 off, 1 and 2 turn-on phases, 3 hold, 4 turn-off slope. -/
  phase : Nat
  phaseEnd : Nat
  /-- Device times at which the latest turn-on and turn-off began; none before the first. -/
  onAt : Option Nat
  offAt : Option Nat
  /-- The pins are driven by the channel (state and role allow, R179). -/
  driven : Bool
  /-- On time not yet counted in PRT_DCH_ON_TIME: ns, and the device time up to which it is counted. -/
  onRest : Nat
  onMark : Nat
deriving DecidableEq, Repr

/-- The protection unit (chapter 8). -/
structure Prt where
  choppers : List Chopper
  /-- Over-current confirm counts per arm (R186). -/
  ocRun : List Nat
  /-- Event causes still active, with the device time of the event (R188). -/
  events : List (Nat × Nat)
  /-- Latest fast sample of VDC_POS and VDC_NEG: value in 2^-23 of full scale and time-stamp (R176). -/
  polePos : Option (Int × Nat)
  poleNeg : Option (Int × Nat)
  /-- Device time since which a pole channel is invalid, and whether PRT_BLIND_MAX has passed (R183). -/
  blindPos : Option Nat
  blindNeg : Option Nat
  blindTrip : Nat
  /-- OV2 condition per quantity: q_pos, q_neg, q_p2p (Table 8.4). -/
  ov2 : Nat
deriving DecidableEq, Repr

/-- One open tuning window of one part of one descriptor (R195). -/
structure TuneWindow where
  switchings : Nat
  reports : Nat
  dvdtSum : Nat
  delaySum : Nat
deriving DecidableEq, Repr

/-- A descriptor update on its way to a node (R196): submodule, descriptor, new value, attempt, cycles since sent. -/
structure DescUpdate where
  submodule : Nat
  descriptor : Nat
  value : Nat
  attempt : Nat
  age : Nat
deriving DecidableEq, Repr

/-- The gate-profile service (chapter 8). Keys are 16 * submodule + descriptor, windows 32 * submodule + 2 * descriptor +
part. -/
structure Gpf where
  /-- Descriptors that differ from their base (R193, R195). -/
  tuned : List (Nat × Nat)
  /-- What the image set holds (R193). -/
  base : List (Nat × Nat)
  windows : List (Nat × TuneWindow)
  updates : List DescUpdate
  frozen : List Nat
  atBound : List Nat
  /-- Current band per arm (R194). -/
  bands : List Nat
deriving DecidableEq, Repr

/-- A queued time-triggered frame (Table 13.4). -/
structure Launch where
  time : Nat
  buffer : Nat
  length : Nat
  dropLate : Bool
  late : Bool
deriving DecidableEq, Repr

/-- An announced PTP master (R328, R329). -/
structure Master where
  identity : Nat
  /-- The BMCA dataset in the order of comparison: priority1, class, accuracy, variance, priority2, identity, steps. -/
  dataset : List Nat
deriving DecidableEq, Repr

/-- The time unit (chapter 13). -/
structure Tim where
  /-- The counter in units of 2^-40 ns at device time `since`, from which it runs on at TIM_RATE_ADJ (R322). -/
  base : Nat
  since : Nat
  /-- The extended-time shadow S (R324). -/
  shadow : Nat
  /-- A step known and waiting for its boundary: correction (ns) and ORB_COUNT (R332). -/
  pendingStep : Option (Int × Nat)
  /-- TIM_SET_TIME as written (R331). -/
  setTime : Option Nat
  /-- Samples within, and beyond, TIM_LOCK_LIMIT in a row (Table 13.2). -/
  inRun : Nat
  outRun : Nat
  /-- Device time of the latest offset sample of the source, and its value. -/
  lastSample : Option Nat
  lastOffset : Int
  /-- Device time since which the unit is in HOLDOVER or DISCONTINUITY (R334). -/
  holdSince : Option Nat
  /-- The master announced on each port (R329), and whether its peer delay is valid. -/
  masters : List (Option Master)
  peerValid : List Bool
  /-- PPS_IN: extended time of the latest qualified edge, or of the second it stands for, and fails in a row (R342). -/
  ppsPrev : Option Nat
  ppsFails : Nat
  /-- ORB_SYNC: misses in a row, the root's latest label (R344), and the device time at which the sequencer starts. -/
  orbMisses : Nat
  rootLabel : Option Nat
  orbStart : Option Nat
  /-- Launch queues of ETH0 and ETH1 in the order of writing, and the device time at which each port ends its timed frame
  (R337, R338). -/
  queues : List (List Launch)
  busyUntil : List Nat
  /-- Entries launched or dropped, newest first: port, LAUNCH_TIME, SENT, LATE, DROPPED, ACTUAL (Table 13.4). -/
  launched : List (Nat × Nat × Bool × Bool × Bool × Nat)
  /-- The TIME32 at which a high generator output falls; none while it is low. -/
  genFall : List (Option Nat)
deriving DecidableEq, Repr

/-- One engine or service core (chapter 15): harts 0 to 7 engines, 8 and 9 service cores. The threshold mkorthresh is the
target's ICU_THRESHOLD, which is the same register. -/
structure Hart where
  /-- The Xkor CSRs of Table 15.2. -/
  fcause : Nat
  fvec : Nat
  fepc : Nat
  fen : Bool
  /-- In fast mode: the second bank of x1 to x31 is in use (R393). -/
  fast : Bool
  korctl : Nat
  /-- Device time of the fast entry. -/
  fastAt : Nat
  /-- The instant a stalled KOR.WAIT waits for: event number, offset, BEYOND, and the ORB_COUNT at its issue (R377). -/
  waiting : Option (Nat × Nat × Bool × Nat)
  /-- The reference page: staging registers (Table 15.8), DONE, CYCLE_DONE. -/
  page : List Int
  pageDone : Bool
  pageCycle : Nat
  /-- The set staged at the latest T_ref, and whether that T_ref was a miss (R35). -/
  staged : List Int
  missed : Bool
deriving DecidableEq, Repr

/-- Cores and shared buffers. A PUB bank is listed as words by offset (Table 15.6), a node-table bank as its bytes' numbers by
global submodule (Table 15.5). -/
structure Engines where
  harts : List Hart
  pub : List (List (Nat × Int))
  nodeTable : List (List (Nat × Nat))
  /-- Outgoing and incoming mirror areas (R387). -/
  mirrorOut : List Nat
  mirrorIn : List Nat
  mirrorCycle : Nat
  mirrorValid : Bool
  /-- Outgoing area captured at T_fin. -/
  mirrorCaptured : List Nat
deriving DecidableEq, Repr

/-- The interrupt controller (R388 to R396). A copy is a target for a private source and 10 for the shared copy. -/
structure Icu where
  pending : List (Nat × Nat)
  /-- Active sources with the target that holds them. -/
  active : List (Nat × Nat)
  /-- Groups in hold-off with the device time of the timer's expiry (R392). -/
  holdoff : List (Nat × Nat)
  /-- Sources whose ENABLE was cleared, with the device time at which the mask takes effect (R394). -/
  masked : List (Nat × Nat)
  /-- Sources that were presented to a target and then claimed by another (MASK_CLAIM, R390). -/
  lost : List (Nat × Nat)
deriving DecidableEq, Repr

/-- A challenge drawn for a session (R425). -/
structure Challenge where
  bytes : Nat
  role : Nat
  time : Nat
  used : Bool
deriving DecidableEq, Repr

/-- A transfer of a DOMAIN or of segmented data: the entry, direction, total length, what has been moved, window and
losses (R434, R442, R443). -/
structure Transfer where
  upload : Bool
  key : Nat
  generation : Nat
  total : Nat
  crc : Nat
  window : Nat
  /-- Uploads: next chunk to send and next to be acknowledged; downloads: next chunk expected. -/
  next : Nat
  acked : Nat
  /-- The oldest unacknowledged chunk has been sent again; chunks below `resentTo` have been sent twice; the SEQ of the request. -/
  resent : Bool
  resentTo : Nat
  seq : Nat
  data : List Nat
deriving DecidableEq, Repr

/-- How a request arrived, and its answer leaves: as a plain answer, on a CAN port (CAN-ID 0x580 plus the node-ID), or as a TDS
response with its operation and SEQ. -/
inductive Route where
  | plain
  | usdo (port : Nat)
  | tds (port session seq op : Nat)
deriving DecidableEq, Repr

/-- A session: of a CAN port (id 0), of the debug bridge, or a TDS session (R424, R440). -/
structure Session where
  channel : Nat
  id : Nat
  role : Nat
  /-- Device time of the latest request, and of the latest valid datagram. -/
  lastRequest : Nat
  lastDatagram : Nat
  challenge : Option Challenge
  challengeGen : Nat
  transfer : Option Transfer
  /-- Latest 16 answers by SEQ, newest first (R441). -/
  answers : List (Nat × Out)
deriving DecidableEq, Repr

/-- A mirrored write waiting for its boundary (R449). -/
structure StagedWrite where
  sender : Sender
  route : Route
  key : Nat
  length : Nat
  value : Int
  boundary : Nat
deriving DecidableEq, Repr

/-- An image store under way (R447). -/
structure ImageStore where
  bank : Nat
  attempt : Nat
  image : DictImage
  route : Route
deriving DecidableEq, Repr

/-- The dictionary servers and ports (chapter 17). -/
structure Dict where
  /-- CAN0, CAN1, the debug bridge and every open TDS session. -/
  sessions : List Session
  /-- Failures per channel: channel and device time, of the last 60 s; and channels locked out (R426). -/
  failures : List (Nat × Nat)
  locked : List Nat
  /-- Mirrored writes waiting for their boundary. -/
  staged : List StagedWrite
  /-- Tunable writes staged or held under R76: key and value. -/
  tunables : List (Nat × Int)
  /-- The image in force (R445); live configuration changed since DEV_IMAGE_READ's generation completed. -/
  image : Option DictImage
  live : Bool
  /-- An image store under way: bank, attempt, the image, and the way its answer leaves (R447). -/
  storing : Option ImageStore
  /-- The image of the present generation of DEV_IMAGE_READ (R448). -/
  readImage : Option DictImage
  /-- Transient bus-offs per CAN port awaiting their 10 s (R437): device time. -/
  busOff : List (Option Nat)
  /-- The Operator, Engineer and Service keys as read from flash (R427). -/
  keys : List (List Byte)
  /-- Core debug is open (R467). -/
  debug : Bool
  /-- CAN node-IDs in force: those of the latest entry to LINKUP (R433, R434). -/
  nodeIds : List Nat
  /-- The transmit buffer of the debug UART in 10^-9 bytes, and the device time of that count (R466). -/
  uartFill : Nat
  uartAt : Nat
deriving DecidableEq, Repr

/-- The logbook machinery (chapter 18). -/
structure LogUnit where
  /-- Journal allowance in ns of credit (R459), and the device time it was last counted. -/
  credit : Nat
  creditAt : Nat
  /-- Records dropped since the last admitted one. -/
  dropRun : Nat
  /-- Latest SEQ, and the SEQ of the latest record at the reset (R464). -/
  seq : Nat
  bootSeq : Nat
  /-- Device time at which the latest flush began programming, and those of the demanded ones. -/
  lastBegin : Option Nat
  demandBegins : List Nat
  /-- A demand, and a periodic flush, held back by the limits of R462. -/
  demand : Bool
  periodic : Bool
  /-- A frozen copy not yet programmed. -/
  staged : Option Snapshot
  /-- Slot being programmed, its copy, the attempt, and the slot that failed before it. -/
  programming : Option (Nat × Snapshot × Nat)
  failedSlot : Option Nat
  /-- The export of R465, as its snapshot and the journal at the freeze. -/
  exported : Option (Snapshot × List JournalRecord)
deriving DecidableEq, Repr

/-- One insertion interval of a submodule (R202): device times and samples of its ends, sign, whether nothing has spoilt it,
the charge so far in C, whether every sample up to its end is in, and the arm current in A before and after its end. -/
structure Interval where
  start : Nat
  stop : Option Nat
  vStart : Option Nat
  vLast : Option Nat
  vEnd : Option Nat
  neg : Bool
  good : Bool
  q : Rat
  covered : Bool
  before : Option (Int × Rat)
  after : Option (Int × Rat)
deriving DecidableEq, Repr

/-- One configured submodule: what the link engine, the rank engine and the estimators hold of it. -/
structure Sm where
  /-- Global number, class (Table 5.2), full-bridge, taken into AVAILABLE in this cycle (R110). -/
  n : Nat
  cls : Nat
  full : Bool
  fresh : Bool
  /-- Latest received voltages, newest first, at most three (R113); the voltage in use; the latest valid CAP_V and STATUS. -/
  win : List Nat
  v : Nat
  raw : Option Nat
  status : Option Nat
  /-- A valid half has arrived in this cycle; cycles in a row without one; cycles in a row with CMD_ERR. -/
  got : Bool
  gap : Nat
  cmdErr : Nat
  /-- The code held in the present cycle, the code launched at its boundary, and the one computed in it; with their edge
  times. -/
  codeNow : Nat
  codeNext : Nat
  codeAfter : Nat
  edgeNow : Option Nat
  edgeNext : Option Nat
  edgeAfter : Option Nat
  /-- Bits 31:0 of the latest downward half; the latest valid upward half. -/
  half : Nat
  up : Nat
  key : Option Int
  /-- The code computed for the last boundary at which the node reported to obey the partner's side (R305). -/
  obeyed : Nat
  /-- Reports of HOLDING in a row (R307). -/
  holding : Nat
  /-- Latest valid slow entries by index (R237). -/
  slow : List (Nat × Nat)
  transient : Nat
  lasting : Nat
  intervals : List Interval
  age : SmAge
deriving DecidableEq, Repr

/-- One arm of the modulators and the rank engine (chapter 5), beside its entries. -/
structure Arm where
  /-- Level x and carry in 2^-24, v_avg in 2^-16 codes, counts of R100. -/
  carry : Int
  vAvg : Nat
  nAv : Nat
  nFb : Nat
  level : Int
  rest : Int
  minority : Nat
  units : Nat
  sigma : Int
  /-- The arm current has been invalid in this many snapshots in a row (R117). -/
  dirRun : Nat
  /-- Saturated, and cap-bound, in the cycle before. -/
  satRun : Bool
  capRun : Bool
  /-- Energy sums in J, blocking capacity in 2^-4 V, held submodules. -/
  eUsable : Nat
  eStored : Nat
  block : Nat
  held : Nat
deriving DecidableEq, Repr

/-- A plan on its way (R215 to R218): rows, derating, named generation, whether its agent may submit, the way the answer to a
DOMAIN write leaves (none for a write to SUBMIT), and, once accepted, the boundary it applies at. -/
structure PlanDue where
  plan : Plan
  gen : Nat
  allowed : Bool
  sender : Option Route
  boundary : Option Nat
deriving DecidableEq, Repr

/-- The ageing service and the AVS loop (chapter 9). -/
structure Age where
  sms : List Sm
  arms : List Arm
  plan : Option Plan
  submitted : Option PlanDue
  accepted : Option PlanDue
  /-- Device time of the latest application, and whether a first BLOCKED has been entered since the restoration. -/
  appliedAt : Option Nat
  blockedSeen : Bool
  /-- Arm currents of latest snapshots in 2^-28 pu by cycle, newest first, at most 4,096 (R238). -/
  currents : List (Nat × List (Option Int))
  /-- Energy sums of the valve are valid, and were so in the cycle before (R123); an uncorrectable error in them. -/
  eValid : Bool
  eBad : Bool
  /-- Sort-memory errors of the cycle: bit a an uncorrectable one in arm a, bit 6 a corrected one (R126). -/
  sortBad : Nat
  /-- RUN has been entered since the latest T_up (R116). -/
  runEntry : Bool
  /-- AVS: device time since which every margin was above MARGIN_HI; the write under way: target and attempt. -/
  highSince : Option Nat
  write : Option (Nat × Nat)
deriving DecidableEq, Repr

/-- A main sample: value in 2^-23 of full scale, time-stamp in 2^-4 ns of TIME32, valid flag, device time of its
availability. -/
structure MeaSample where
  value : Int
  stamp : Nat
  valid : Bool
  avail : Nat
deriving DecidableEq, Repr

/-- One channel of the measurement chain (R152 to R170). -/
structure MeaChannel where
  /-- CIC integrators and combs (R155). -/
  integ : List (BitVec 64)
  comb : List (BitVec 64)
  /-- Latest inputs, newest first, in 2^-30: of the median after the CIC, of the FIR, of the median after the FIR; and FIR
  inputs since its latest output. -/
  med1 : List Int
  fir : List Int
  firNew : Nat
  med2 : List Int
  /-- Credited time of the last bit, in 2^-4 ns of TIME32. -/
  last : Nat
  /-- Device time at which t_settle ends; none while settling has not begun or is over. -/
  settleEnd : Option Nat
  /-- Main samples, newest first, at most 65,536, and their count since the restart (R386). -/
  stream : List MeaSample
  count : Nat
  /-- A clear of the peaks waits for T_up; the envelope in 2^-23; invalid snapshots in a row. -/
  peakClear : Bool
  env : Rat
  badRun : Nat
  /-- The settings of the detectors in force since the latest T_up: MEA_OVR_LIM, OVR_INVALID, MEA_ENV_TAU (R170). -/
  ovrLim : Int
  ovrInvalid : Bool
  envTau : Int
deriving DecidableEq, Repr

/-- The measurement chain (chapter 7), beside its entries. -/
structure Mea where
  /-- The snapshot of T_up: channel, value in 2^-23 of full scale, time-stamp in 2^-4 ns of TIME32; valid channels only
  (R165). -/
  snap : List (Nat × Int × Nat)
  channels : List MeaChannel
  /-- Measured mean period of each accepted clock group in 2^-20 ns (R153). -/
  periods : List (Option Nat)
  /-- Banks reloaded and not yet checked (R166). -/
  reloaded : Nat
  /-- Device time of the latest T_up. -/
  lastUp : Nat
deriving DecidableEq, Repr

/-- One carrier channel (chapter 6). Instants are in 2^-7 ns, in which a counter clock is 320 and an edge unit 5. -/
structure CarChannel where
  /-- The instant at which the counter stood at 0, or would have. -/
  start : Int
  /-- The active registers (R138). -/
  period : Nat
  duty : Nat
  cmpa : Nat
  cmpb : Nat
  phase : Nat
  /-- Raw output (R137), main and complement before the mask (R141). -/
  raw : Bool
  main : Bool
  comp : Bool
  /-- When a delayed rise of main or complement is due, and when the raw output last fell. -/
  mainDue : Option Int
  compDue : Option Int
  fell : Int
  /-- CMPA, CMPB have triggered, and the raw output has made its falling edge, in this period. -/
  doneA : Bool
  doneB : Bool
  dutyDone : Bool
  /-- The count that the latest reload loaded: 0, or the phase (R142). -/
  loaded : Nat
  /-- The period is clamped (R137). -/
  clamped : Bool
  /-- Shadow writes of the window of R139: register code and value, and a COMMIT there. -/
  late : List (Nat × Nat)
  lateCommit : Bool
  /-- A synchronisation pulse has reached the channel at this instant (R142). -/
  sync : Option Int
  /-- Bound channel: queued edges with their cycles, and the internal output (R135). -/
  queue : List (Nat × Nat)
  internal : Bool
  /-- Active sources of Table 6.4 (bit 0 COMM_DIR, 1 COMM_SIGN, 2 GPIO, 3 SOFT), and the ends of the holds. -/
  sources : Nat
  dirUntil : Nat
  signUntil : Nat
  /-- A mask of R145, of R144, not yet lifted at a reload. -/
  masked : Bool
  forced : Bool
deriving DecidableEq, Repr

/-- The carrier unit. -/
structure Car where
  channels : List CarChannel
  /-- Commutations that the nodes will apply: arm, 0 for a change of sigma and 1 for a change of sign of N, ORB_COUNT. -/
  commDue : List (Nat × Nat × Nat)
deriving DecidableEq, Repr

/-- One entry of a Comet block (Table 16.4): time-stamp, fraction in 2^-16 ns, value, valid flag, boolean channel, TAP_TIMED.
In a bulk block the value is the packed entry. -/
structure CmtEntry where
  time : Nat
  frac : Nat
  value : Int
  valid : Bool
  channel : Nat
  tap : Bool
deriving DecidableEq, Repr

/-- One block (Table 16.3): header fields, entries oldest first, and the words of a marker or of a bulk header. -/
structure CmtBlock where
  type : Nat
  channel : Nat
  loss : Bool
  post : Bool
  index : Nat
  entries : List CmtEntry
  words : List Nat
deriving DecidableEq, Repr

/-- The trigger of the present capture: code, mask, time (extended), fraction, S, ORB_COUNT, and the device time. -/
structure CmtTrigger where
  code : Nat
  mask : Nat
  time : Nat
  frac : Nat
  levels : Nat
  orb : Nat
  device : Nat
deriving DecidableEq, Repr

/-- One stored record (R413, Table 16.7). -/
structure CmtRecord where
  number : Nat
  flags : Nat
  trigTime : Nat
  trigFrac : Nat
  trigSrc : Nat
  trigMask : Nat
  trigOrb : Nat
  trigLevels : Nat
  coma : Nat
  tail : Nat
  lost : Nat
  step : Int
  anSrc : List Nat
  boolSrc : List Nat
  /-- Per slot: MIN, MAX, T_MIN, T_MAX, MEAN, RMS, COUNT. -/
  anMeas : List (List Int)
  /-- Per boolean channel: edges and first-edge offset. -/
  boolMeas : List (Nat × Int)
  bulk : List Nat
  /-- Blocks in store order. -/
  blocks : List CmtBlock
  /-- The store index after its last block. -/
  endIndex : Nat
deriving DecidableEq, Repr

/-- Comet (chapter 16). -/
structure Cmt where
  /-- Write index W, spilled index, and W at the arm. -/
  written : Nat
  spilled : Nat
  armIndex : Nat
  /-- Blocks of the present capture, newest first. -/
  blocks : List CmtBlock
  /-- Open blocks with the device time of their oldest entry: slots 0 to 15, 0xFE edge, 0xFF bulk. -/
  partials : List (CmtBlock × Nat)
  /-- Samples of each slot's source and bulk cycles since the arm. -/
  anCount : List Nat
  bulkCount : Nat
  /-- Level triggers: a sample below th - hy, above th + hy, or inside has been seen since the arm or the last firing. -/
  lvlLow : List Bool
  lvlHigh : List Bool
  lvlIn : List Bool
  /-- The pattern state S as last seen, whether the match has been false since the arm or the last firing, and the time (TIME32 and
  fraction) of the edge that completed it. -/
  levels : Nat
  patternFalse : Bool
  matchAt : Nat × Nat
  /-- Edge FIFO fill at device time `edgeAt`, and a run of losses under way. -/
  edgeFill : Nat
  edgeAt : Nat
  edgeLosing : Bool
  /-- Blocks, and edges, were lost before the next block. -/
  lossDue : Bool
  edgeLossDue : Bool
  /-- Flags of the present record: LOSS, EDGE_LOSS, TIME_STEP; COMA_SHORT; lost blocks; the step. -/
  lossSeen : Bool
  edgeLossSeen : Bool
  stepSeen : Bool
  comaShort : Bool
  lostBlocks : Nat
  comaFull : Bool
  trigger : Option CmtTrigger
  comaKept : Nat
  tailDone : Nat
  /-- Triggers that arose in the command under way: code, time, fraction. -/
  fired : List (Nat × Nat × Nat)
  records : List CmtRecord
  /-- The DRAM is available for spilling. -/
  dram : Bool
deriving DecidableEq, Repr

/-- The swing unit (chapter 3), beside its entries. Values in Q4.28 pu unless said otherwise. -/
structure Swg where
  /-- The swing state in force for the present cycle, and the one computed for the next. -/
  core : SwingStream
  next : SwingStream
  /-- The integral term of the tracking loop, Q2.62. -/
  omegaI : Int
  /-- P_e and Q_e as measured and after the notch, current and terminal voltage in the internal frame, u_dc in Q2.30. -/
  pRaw : Int
  qRaw : Int
  p : Int
  q : Int
  iD : Int
  iQ : Int
  vD : Int
  vQ : Int
  uDc : Int
  /-- Roles invalid in the latest snapshot, bit r for role r; a lasting fault is under way (R60). -/
  bad : Nat
  lasting : Bool
  /-- H_max_f waits for its first value since LINKUP; part of a us of the rise limit not yet used, in 0.1 ns of rise; the latest
  valid E_usable since LINKUP in J; H_eff in us. -/
  hWaits : Bool
  hRest : Nat
  eLast : Option Nat
  hEff : Nat
  /-- The references staged at T_ref after the range check, and in force, in the row order of Table 3.2. -/
  staged : List Int
  refs : List Int
  /-- Time for which the tracking conditions have held, ns; lock. -/
  lockFor : Nat
  locked : Bool
  /-- The next computation is the first of RUN, the first of HANDOVER. -/
  first : Bool
  handStart : Bool
  /-- Arm references in Q2.30 of V_dc_base. -/
  armRef : List Int
  /-- The states were replaced from the partner's stream at the latest boundary (R74). -/
  fromPartner : Bool
deriving DecidableEq, Repr

/-- Ride-through, black start and synchronisation (chapter 4), beside their entries. -/
structure Frt where
  core : RideStream
  /-- FRT_STATUS as it stands, published at T_fin. -/
  status : Nat
  /-- |v_t| was below FRT_V_DET in the cycle before, as far as a dip counts (R84). -/
  dip : Bool
  /-- |v_t| of the latest cycles, newest first: device time and value in Q4.28. -/
  mags : List (Nat × Int)
  /-- Device time of the latest entry to RUN. -/
  runAt : Nat
  /-- Time in DEAD_CHECK, in HOLD and paused in RAMP, ns. -/
  deadFor : Nat
  holdFor : Nat
  pauseFor : Nat
  /-- Synchronisation: delta of the cycle before in turns of 2^-32, frequency error in 2^-40 pu, times for which the ready and
  the closing conditions have held, time since the request, ready has been reached. -/
  delta : Option Int
  freqErr : Int
  readyFor : Nat
  closeFor : Nat
  syncFor : Nat
  readySeen : Bool
  /-- Offsets in force (Q2.30, Q4.28), and, while they are released, what they fall from. -/
  wOff : Int
  vOff : Int
  release : Option (Int × Int)
deriving DecidableEq, Repr

/-- A change record on its way to the partner: cycles of its sendings, newest first (R309). -/
structure SentRecord where
  record : ChangeRecord
  sent : List Nat
deriving DecidableEq, Repr

/-- The redundancy supervisor and the cross-link (chapter 12), beside their entries. Path 0 is the cross-link, path 1 the pins. -/
structure Red where
  /-- The latest timely HEAD, and whether it names the present cycle (R299, R301). -/
  head : Option Head
  headNew : Bool
  /-- The HEAD of the cycle before arrived, as scored at the latest boundary. -/
  headHit : Bool
  /-- TIDE_IN pulses not yet scored: device time of the rise and width in ns. -/
  pulses : List (Nat × Nat)
  /-- Hits in a row per path, and the latest score of each. -/
  hits : List Nat
  hit : List Bool
  /-- The partner's last valid Tide carried the trip indication (R303). -/
  trip : Bool
  /-- ORB_COUNT at which the unit claims, and whether the claim is that of a planned handover. -/
  claimAt : Option Nat
  claimSwap : Bool
  /-- ORB_COUNT of the latest claim boundary while the unit holds the valve by it; the unit owned the valve before; it has been
  obeyed since; the Eclipse being watched. -/
  claimed : Option Nat
  ownedBefore : Bool
  obeyed : Bool
  eclipse : Option Nat
  /-- The role that a unit which does not own the valve takes at the next boundary (R306). -/
  withdrawTo : Option Nat
  /-- HEADs missing in a row with pin hits (R308). -/
  headMiss : Nat
  /-- Change records waiting or not acknowledged, oldest first; one was declared lost; the generation applied (GEN_ACK);
  received records waiting for their boundary. -/
  records : List SentRecord
  recordLost : Bool
  applied : Nat
  toApply : List ChangeRecord
  /-- Own arm records of latest cycles, newest first (R312). -/
  own : List (Nat × List ArmRecord)
  /-- Arms of the BODY received for a cycle. -/
  bodyOf : Option (Nat × List Nat)
  /-- Cycles compared since STANDBY began, the count at the latest unexplained difference; the latest cycle with unexplained
  differences and its arms; a cycle with an explained one that has been counted. -/
  compared : Nat
  cleanFrom : Nat
  unexplained : Option (Nat × List Nat)
  before : Option (Nat × List Nat)
  explained : Option Nat
  /-- A request of a swap waits for T_fin (R317); the handover boundary the unit has announced; the cycle at whose T_up the new
  owner lists the nodes; the boundary at which the unit gave the valve away; the latest list. -/
  swapDue : Bool
  swapAt : Option Nat
  swapCheck : Option Nat
  gaveAt : Option Nat
  swapBad : List Nat
  /-- Resynchronisation: attempt (0 none), device times of its start and of its phase, the image received, a block has failed
  once, an automatic start is due, and the device time of the next one. -/
  attempt : Nat
  startAt : Nat
  phaseAt : Nat
  image : Option DurableImage
  blockBad : Bool
  wanted : Bool
  retryAt : Option Nat
  /-- The partner has acknowledged the plan of this generation (R310). -/
  planAcked : Option Nat
  /-- The next boundary as the owner's HEAD places it: TIME32, ORB_COUNT, length of the cycle it begins (R299). -/
  follow : Option (Nat × Nat × Nat)
  /-- Latency of each cross-link lane in ns, once measured (R297). -/
  latency : List (Option Nat)
  /-- XL lanes that carry BODY since the latest boundary, bit k for lane k (R298). -/
  bodyLanes : Nat
deriving DecidableEq, Repr

/-- The state of the block. -/
structure State where
  /-- Commands waiting, first in first out (the model's own: what the outside has sent). -/
  pending : List Instr
  /-- The dictionary store. -/
  objs : List (Nat × Int)
  /-- What the latest command made the part send or show (the model's own). -/
  out : List Out
  /-- Device time in ns (the model's own clock, advanced by the commands' times). -/
  now : Nat
  /-- How many free values have been taken (the model's own). -/
  freeCtr : Nat
  boot : Boot
  aon : Aon
  flash : Flash
  otp : Otp
  pins : Pins
  orb : Orb
  clk : Clk
  lan : Lanes
  lnk : Link
  prt : Prt
  gpf : Gpf
  tim : Tim
  eng : Engines
  icu : Icu
  dict : Dict
  log : LogUnit
  age : Age
  mea : Mea
  swg : Swg
  frt : Frt
  red : Red
  cmt : Cmt
  car : Car
deriving DecidableEq, Repr

/-! ## The machine right after reset -/

/-- A lane at reset. -/
def Lane.reset : Lane :=
  { attempt := 0, startAt := 0, stateAt := 0, capSeen := 0, capRun := 0, ackRun := 0, ackSent := false, rate := 0, answered := none
    seq := 0, waiting := false, move := 0, base := 0, trial := false, made := false, flat := 0, ready := false, readyRun := 0
    unclean := false, headers := 0 }

/-- A ring pair at reset. -/
def Pair.reset : Pair :=
  { steps := 0, tries := 0, evenFound := none, recordsDone := [], recordsFailed := [], segments := [], portLatency := [0, 0]
    splitKnown := false, clean := 0, returning := false, back := 0, placed := false, asked := 0, align := [], ids := []
    partnerIds := none }

/-- A chopper channel at reset. -/
def Chopper.reset : Chopper :=
  { comparator := false, phase := 0, phaseEnd := 0, onAt := none, offAt := none, driven := false, onRest := 0, onMark := 0 }

/-- A hart at reset: no fast source is named (Table 15.2). -/
def Hart.reset : Hart :=
  { fcause := 0x3FF, fvec := 0, fepc := 0, fen := false, fast := false, korctl := 0, fastAt := 0, waiting := none
    page := List.replicate 16 0, pageDone := false, pageCycle := 0, staged := List.replicate 16 0, missed := false }

/-- A measurement channel at reset. -/
def MeaChannel.reset : MeaChannel :=
  { integ := List.replicate 4 0, comb := List.replicate 4 0, med1 := [], fir := [], firNew := 0, med2 := [], last := 0
    settleEnd := none, stream := [], count := 0, peakClear := false, env := 0, badRun := 0
    ovrLim := 950, ovrInvalid := true, envTau := 20000 }

/-- A carrier channel at reset. -/
def CarChannel.reset : CarChannel :=
  { start := 0, period := 0, duty := 0, cmpa := 0, cmpb := 0, phase := 0, raw := false, main := false, comp := false
    mainDue := none, compDue := none, fell := 0, doneA := false, doneB := false, dutyDone := true, loaded := 0, clamped := false, late := []
    lateCommit := false, sync := none, queue := [], internal := false, sources := 0, dirUntil := 0, signUntil := 0
    masked := false, forced := false }

/-- An arm at reset. -/
def Arm.reset : Arm :=
  { carry := 0, vAvg := 0, nAv := 0, nFb := 0, level := 0, rest := 0, minority := 0, units := 0, sigma := 1, dirRun := 0
    satRun := false, capRun := false, eUsable := 0, eStored := 0, block := 0, held := 0 }

/-- Swing states at reset: nominal speed. -/
def SwingStream.reset : SwingStream :=
  { theta := 0, omega := 2 ^ 62, omegaF := 2 ^ 62, qf := 0, notchP := (0, 0), notchQ := (0, 0), hMaxF := 0 }

/-- The swing unit at reset. -/
def Swg.reset : Swg :=
  { core := SwingStream.reset, next := SwingStream.reset, omegaI := 2 ^ 62, pRaw := 0, qRaw := 0, p := 0, q := 0, iD := 0, iQ := 0
    vD := 0, vQ := 0, uDc := 0, bad := 0, lasting := false, hWaits := true, hRest := 0, eLast := none, hEff := 0
    staged := List.replicate 16 0, refs := List.replicate 16 0, lockFor := 0, locked := false, first := false, handStart := false
    armRef := List.replicate 6 0, fromPartner := false }

/-- Ride-through and black start at reset. -/
def Frt.reset : Frt :=
  { core := { dz := 0, ride := false, recover := false, omegaHold := 2 ^ 62, pAv := 0, pCap := none, clearFor := 0, rideFor := 0
              seq := [], phase := 0, emf := 0, pHand := 0 }
    status := 0, dip := false, mags := [], runAt := 0, deadFor := 0, holdFor := 0, pauseFor := 0, delta := none, freqErr := 0
    readyFor := 0, closeFor := 0, syncFor := 0, readySeen := false, wOff := 0, vOff := 0, release := none }

/-- The redundancy supervisor at reset. -/
def Red.reset : Red :=
  { head := none, headNew := false, headHit := false, pulses := [], hits := [0, 0], hit := [false, false], trip := false
    claimAt := none, claimSwap := false, claimed := none, ownedBefore := false, obeyed := false, eclipse := none, withdrawTo := none, headMiss := 0
    records := [], recordLost := false, applied := 0, toApply := [], own := [], bodyOf := none, compared := 0, cleanFrom := 0
    unexplained := none, before := none, explained := none, swapDue := false, swapAt := none, swapCheck := none, gaveAt := none
    swapBad := [], attempt := 0, startAt := 0, phaseAt := 0, image := none, blockBad := false, wanted := false, retryAt := none
    planAcked := none, follow := none, latency := [none, none], bodyLanes := 0 }

/-- Comet at reset. -/
def Cmt.reset : Cmt :=
  { written := 0, spilled := 0, armIndex := 0, blocks := [], partials := [], anCount := List.replicate 16 0, bulkCount := 0
    lvlLow := List.replicate 4 false, lvlHigh := List.replicate 4 false, lvlIn := List.replicate 4 false, levels := 0
    patternFalse := false, matchAt := (0, 0), edgeFill := 0, edgeAt := 0, edgeLosing := false, lossDue := false, edgeLossDue := false
    lossSeen := false, edgeLossSeen := false, stepSeen := false, comaShort := false, lostBlocks := 0, comaFull := false
    trigger := none, comaKept := 0, tailDone := 0, fired := [], records := [], dram := false }

/-- The session of a CAN port or of the debug bridge at reset. -/
def Session.reset (channel : Nat) : Session :=
  { channel := channel, id := 0, role := 0, lastRequest := 0, lastDatagram := 0, challenge := none, challengeGen := 0
    transfer := none, answers := [] }

/-- The boot flash as it is delivered: keys of the Operator and Engineer zero, that of the Service set by the maker (R427), no
image stored, no record, every slot good. -/
def Flash.reset : Flash :=
  { dirs := [none, none]
    keys := [List.replicate 32 0, List.replicate 32 0, (List.range 32).map Config.serviceKey]
    banks := [none, none]
    journal := []
    slots := List.replicate 28 { good := true, erases := 0, snap := none }
    snapNumber := 0 }

/-- The machine right after reset: in RESET with PORESET_N low (R472), every dictionary entry at its reset value.
DESIGN CHOICE (log entry 4): unsafe. -/
def State.reset : State :=
  { pending := []
    objs := []
    out := []
    now := 0
    freeCtr := 0
    boot := { poreset := true, asserted := 0, jtagHold := false, bootSel := 0, released := 0, watchdog := false, held := false
              bank := 0, stage := 1, attempt := 1, otherFailed := false, attempts := 0, verified := none, svn := 0, floor := 0
              revoke := 0, keySlot := 0, version := [], engines := List.replicate 8 0, dictBank := 0xFF, otpDue := true
              otpAttempt := 0 }
    aon := { cause := 0x0200, records := [], watchdogBoots := [0, 0], lowTime := 0, wakeLatch := 0 }
    flash := Flash.reset
    otp := { antiRollback := 0, revoked := 0, programmed := 15 }
    pins := { gpio := 0, armEn := none, armFell := 0, io33 := true, io18 := true }
    orb := { boundary := 0, mark := 0, phase := 4, stretchAt := none, returnAt := none, needSeen := false, needLate := false
             missNormal := List.replicate 24 0, missDegraded := List.replicate 24 0, heldPairs := 0, treeMiss := 0, overrun := none
             silent := false, headSent := false, cancelNow := false, marginSeen := false, past := [] }
    clk := { wasLocked := false, holdSince := none, relock := List.replicate 6 0, quadRelock := List.replicate 13 false
             quadLasting := List.replicate 13 false, railsOut := 0, sleep := 0, fromBlocked := false, commitAt := 0, lunarAt := 0
             wakeAt := 0, wakeDue := false }
    lan := { lanes := List.replicate 50 Lane.reset, scan := none, result := none }
    lnk := { pairs := List.replicate 24 Pair.reset, down := none, ups := [], upsBefore := [], devices := []
             paths := List.replicate 8 none, transBefore := false, transNow := false }
    prt := { choppers := List.replicate 4 Chopper.reset, ocRun := List.replicate 6 0, events := [], polePos := none, poleNeg := none
             blindPos := none, blindNeg := none, blindTrip := 0, ov2 := 0 }
    gpf := { tuned := [], base := [], windows := [], updates := [], frozen := [], atBound := [], bands := List.replicate 6 0 }
    tim := { base := 0, since := 0, shadow := 0, pendingStep := none, setTime := none, inRun := 0, outRun := 0, lastSample := none
             lastOffset := 0, holdSince := none, masters := [none, none], peerValid := [false, false], ppsPrev := none, ppsFails := 0
             orbMisses := 0, rootLabel := none, orbStart := none, queues := [[], []], busyUntil := [0, 0], launched := []
             genFall := List.replicate 16 none }
    eng := { harts := List.replicate 10 Hart.reset, pub := [[], []], nodeTable := [[], []], mirrorOut := List.replicate 256 0
             mirrorIn := List.replicate 256 0, mirrorCycle := 0, mirrorValid := false, mirrorCaptured := List.replicate 256 0 }
    icu := { pending := [], active := [], holdoff := [], masked := [], lost := [] }
    dict := { sessions := [Session.reset 0, Session.reset 1, Session.reset 5], failures := [], locked := [], staged := []
              tunables := [], image := none, live := false, storing := none, readImage := none, busOff := [none, none]
              keys := List.replicate 3 (List.replicate 32 0), debug := false, nodeIds := [16, 16], uartFill := 0, uartAt := 0 }
    log := { credit := 64000000000, creditAt := 0, dropRun := 0, seq := 0, bootSeq := 0, lastBegin := none, demandBegins := []
             demand := false, periodic := false, staged := none, programming := none, failedSlot := none, exported := none }
    age := { sms := [], arms := List.replicate 6 Arm.reset, plan := none, submitted := none, accepted := none, appliedAt := none
             blockedSeen := false, currents := [], eValid := false, eBad := false, sortBad := 0, runEntry := false
             highSince := none, write := none }
    mea := { snap := [], channels := List.replicate 32 MeaChannel.reset, periods := List.replicate 4 none, reloaded := 0, lastUp := 0 }
    swg := Swg.reset
    frt := Frt.reset
    red := Red.reset
    cmt := Cmt.reset
    car := { channels := List.replicate 24 CarChannel.reset, commDue := [] } }

end Sys2Proof.Machine
end

