-- ==== Sys2Proof/Machine/Ops.lean ====
section
/-!
DEFINITION. The named operations every meaning is written with: the sparse stores, the clock and the time counter,
saturating counters, status bits, interrupt sources (R389), the journal and the lifetime counters (R455, R456, R459),
flushes (R462) and the free values.
-/

namespace Sys2Proof.Machine

/-! ## Sparse stores -/

/-- The value listed for a key. -/
def Store.find? : List (Nat × Int) → Nat → Option Int
  | [], _ => none
  | (k, v) :: rest, key => if k = key then some v else Store.find? rest key

/-- Removes every entry of a key. -/
def Store.erase (l : List (Nat × Int)) (key : Nat) : List (Nat × Int) := l.filter fun p => p.1 ≠ key

/-- Lists an entry at its place in the rising order; the key is not listed before. -/
def Store.insert : List (Nat × Int) → Nat → Int → List (Nat × Int)
  | [], key, v => [(key, v)]
  | (k, w) :: rest, key, v => if key < k then (key, v) :: (k, w) :: rest else (k, w) :: Store.insert rest key v

/-- Writes a key whose unlisted value is `dflt`: the canonical form lists no entry equal to it. -/
def Store.write (l : List (Nat × Int)) (key : Nat) (v dflt : Int) : List (Nat × Int) :=
  if v = dflt then Store.erase l key else Store.insert (Store.erase l key) key v

/-- Keys rise strictly. -/
def Store.rising : List (Nat × Int) → Bool
  | [] => true
  | [_] => true
  | (k, _) :: (k', w) :: rest => decide (k < k') && Store.rising ((k', w) :: rest)

/-- The canonical form: strictly rising keys and no entry equal to what its key reads unlisted. -/
def Store.wf (dflt : Nat → Int) (l : List (Nat × Int)) : Bool :=
  Store.rising l && l.all fun p => p.2 ≠ dflt p.1

/-- Reads a zero-default store. -/
def Store.get0 (l : List (Nat × Int)) (key : Nat) : Int := (Store.find? l key).getD 0

/-- Writes a zero-default store. -/
def Store.put0 (l : List (Nat × Int)) (key : Nat) (v : Int) : List (Nat × Int) := Store.write l key v 0

/-! ## Sorting -/

/-- Inserts before the first element that is not smaller. -/
def insertBy (le : α → α → Bool) (x : α) : List α → List α
  | [] => [x]
  | y :: rest => if le x y then x :: y :: rest else y :: insertBy le x rest

/-- A list in rising order; equal elements keep their order. -/
def sortBy (le : α → α → Bool) (l : List α) : List α := l.foldr (insertBy le) []

/-! ## Dictionary entries -/

/-- The value of a dictionary entry. -/
def State.get (s : State) (key : Nat) : Int := (Store.find? s.objs key).getD (Obj.resetValue key)

/-- The value of an entry whose type is unsigned. -/
def State.getN (s : State) (key : Nat) : Nat := (s.get key).toNat

/-- Gives a dictionary entry a value. -/
def State.put (s : State) (key : Nat) (v : Int) : State :=
  { s with objs := Store.write s.objs key v (Obj.resetValue key) }

/-- Does the dictionary store have its canonical form? -/
def State.objsWf (s : State) : Bool := Store.wf Obj.resetValue s.objs

/-- Adds to a 32-bit counter, which saturates at 0xFFFF_FFFF. -/
def State.add (s : State) (key : Nat) (n : Int) : State := s.put key (min (s.get key + n) 0xFFFFFFFF)

/-- Counts one event in a 32-bit saturating counter. -/
def State.bump (s : State) (key : Nat) : State := s.add key 1

/-- Bit b of an entry. -/
def State.bit (s : State) (key b : Nat) : Bool := bitOf (s.getN key) b

/-- An entry with bit b given. -/
def State.setBit (s : State) (key b : Nat) (on : Bool) : State := s.put key (withBit (s.getN key) b on : Nat)

/-- Does the entry hold a value (not the reading of an entry without data)? -/
def State.hasData (s : State) (key : Nat) : Bool := s.get key ≠ Obj.absent

/-- An unsigned 64-bit saturating count (R455, R457). -/
def State.add64 (s : State) (key : Nat) (n : Int) : State := s.put key (min (s.get key + n) 0xFFFFFFFFFFFFFFFF)

/-! ## Lists of like units -/

/-- Changes every element of an index list in turn. -/
def State.forAll (s : State) (l : List Nat) (f : State → Nat → State) : State := l.foldl f s

/-! ## The clock, the time counter, free values -/

/-- A command lands at device time t: the clock does not run backward, and the answers of the command before are gone.
DESIGN CHOICE (log entry 2): safe. -/
def State.land (s : State) (t : Nat) : State := { s with now := max s.now t, out := [] }

/-- The part sends or shows something. DESIGN CHOICE (log entry 2): safe. -/
def State.emit (s : State) (o : Out) : State := { s with out := s.out ++ [o] }

/-- The time counter in 2^-40 ns: each ns of the time PLL adds 1 + a (R322). -/
def State.counter (s : State) : Nat :=
  ((s.tim.base + (s.now - s.tim.since : Nat) * (2 ^ 40 + s.get Obj.TIM_RATE_ADJ)) % (2 ^ 72 : Nat)).toNat

/-- The whole part of the time counter, a TIME32 (R322). -/
def State.time32 (s : State) : Nat := s.counter / 2 ^ 40

/-- The counter restarts from its present value, so that a new rate holds from now. -/
def State.rebase (s : State) : State := { s with tim := { s.tim with base := s.counter, since := s.now } }

/-- Extends a TIME32 against the shadow, to 64 bits (R324). DEDUCED (log entry 15): safe. -/
def extendTime (shadow ts : Nat) : Nat :=
  let d := (ts + 2 ^ 32 - shadow % 2 ^ 32) % 2 ^ 32
  (shadow + d + (if d < 2 ^ 31 then 0 else 2 ^ 64 - 2 ^ 32)) % 2 ^ 64

/-- Extended time now, 0 before the first step or while EXT_STALE (Table 18.4, R325). DEDUCED (log entry 15): safe. -/
def State.time64 (s : State) : Nat :=
  if s.bit Obj.TIM_STATUS 0 && !s.bit Obj.TIM_STATUS 1 then
    extendTime s.tim.shadow s.time32
  else 0

/-- ms since the release of PORESET_N. -/
def State.uptime (s : State) : Nat := (s.now - s.boot.released) / 1000000

/-- The next free value (a value the manual leaves open). DESIGN CHOICE (log entry 5): safe. -/
def State.free (s : State) : Int := Config.freeValue s.freeCtr

/-- The counter of free values advances. DESIGN CHOICE (log entry 5): safe. -/
def State.usedFree (s : State) : State := { s with freeCtr := s.freeCtr + 1 }

/-! ## State, role, Orbit -/

/-- DEV_STATE (Table 1.5). -/
def State.devState (s : State) : Nat := s.getN Obj.DEV_STATE

/-- DEV_ROLE (Table 1.5). -/
def State.devRole (s : State) : Nat := s.getN Obj.DEV_ROLE

/-- Role ALONE or ACTIVE: the unit owns the valve. -/
def State.owner (s : State) : Bool := s.devRole ≤ 1

/-- DEV_STATE values (Table 1.5). -/
abbrev stReset : Nat := 0
/-- BOOT. -/
abbrev stBoot : Nat := 1
/-- CONFIG. -/
abbrev stConfig : Nat := 2
/-- LINKUP. -/
abbrev stLinkup : Nat := 3
/-- BLOCKED. -/
abbrev stBlocked : Nat := 4
/-- RUN. -/
abbrev stRun : Nat := 5
/-- TRIP. -/
abbrev stTrip : Nat := 6
/-- LUNAR. -/
abbrev stLunar : Nat := 7
/-- DEV_ROLE values (Table 1.5). -/
abbrev roleAlone : Nat := 0
/-- ACTIVE. -/
abbrev roleActive : Nat := 1
/-- STANDBY. -/
abbrev roleStandby : Nat := 2
/-- STALE. -/
abbrev roleStale : Nat := 3

/-- The Orbit sequencer runs: ORB_STATUS bit 0 (Table 2.11). -/
def State.orbRunning (s : State) : Bool := s.bit Obj.ORB_STATUS 0

/-- ORB_COUNT. DEDUCED (log entry 37): unsafe. -/
def State.orbCount (s : State) : Nat := s.getN Obj.ORB_COUNT

/-- ORB_COUNT n cycles on, modulo 2^32 (R30). -/
def State.orbAfter (s : State) (n : Nat) : Nat := (s.orbCount + n) % 2 ^ 32

/-- Cycle a is later than cycle b (R30). -/
def orbLater (a b : Nat) : Bool :=
  let d := (a + 2 ^ 32 - b % 2 ^ 32) % 2 ^ 32
  1 ≤ d && d < 2 ^ 31

/-- The cycle length in force, in ns. -/
def State.period (s : State) : Nat := 250 * s.getN Obj.ORB_PERIOD_NOW

/-- The offset from the latest boundary, in ns. -/
def State.offset (s : State) : Nat := s.now - s.orb.boundary

/-- The boundary a correction or write known now takes effect at: two cycles on before T_fin of the present cycle, three
after (R332, R449). -/
def State.boundaryAhead (s : State) : Nat := s.orbAfter (if s.orb.phase ≤ 2 then 2 else 3)

/-- The arms, and the submodules the configuration gives each. -/
def State.armNodes (s : State) (arm : Nat) : Nat :=
  (List.range 24).foldl (fun n p => if s.getN (Obj.LNK_PAIR_ARM p) = arm then n + s.getN (Obj.LNK_PAIR_NODES p) else n) 0

/-- The global numbers of the configured submodules of an arm (R8). -/
def State.armSubmodules (s : State) (arm : Nat) : List Nat := (List.range (s.armNodes arm)).map (1280 * arm + ·)

/-- The global numbers of every configured submodule. -/
def State.submodules (s : State) : List Nat := (List.range 6).flatMap s.armSubmodules

/-! ## Interrupt sources -/

/-- Configuration word of a source (Table 15.12). -/
def State.srcCfg (s : State) (src : Nat) : Nat := s.getN (Obj.ICU_SRC_CFG (src / 32) (src % 32))

/-- The copies of a source's state: one per named target for a private source (group 5 in PRIVATE_SHARED), else the
shared copy, numbered 10 (R390). -/
def State.srcCopies (s : State) (src : Nat) : List Nat :=
  if src / 32 = 5 && s.get Obj.ICU_MODE = 0 then
    (List.range 10).filter fun t => bitOf (s.srcCfg src) (8 + t)
  else [10]

/-- Adds a pair to a list that keeps each pair once. -/
def addPair (l : List (Nat × Nat)) (p : Nat × Nat) : List (Nat × Nat) := if p ∈ l then l else l ++ [p]

/-- A source fires: it becomes pending, or active-and-pending, and counts once while pending (R389).
DESIGN CHOICE (log entry 23): unsafe. -/
def State.raise (s : State) (src : Nat) : State :=
  { s with icu := { s.icu with pending := (s.srcCopies src).foldl (fun l c => addPair l (src, c)) s.icu.pending } }

/-! ## The logbook -/

/-- Lifetime counter c of Table 18.1 gains n. -/
def State.countBy (s : State) (c : Nat) (n : Int) : State := s.add64 (Obj.LOG_CNT (c - 1)) n

/-- Lifetime counter c of Table 18.1 counts one event. -/
def State.count (s : State) (c : Nat) : State := s.countBy c 1

/-- A hexadecimal digit in upper case. -/
def hexDigit (d : Nat) : Nat := if d < 10 then 48 + d else 55 + d

/-- Bytes as hexadecimal digits, the most significant digit of each byte first. -/
def hexOf (bytes : List Nat) : List Nat := bytes.flatMap fun b => [hexDigit (b / 16 % 16), hexDigit (b % 16)]

/-- The 64 bytes of a journal record (Table 18.4). -/
def JournalRecord.bytes (r : JournalRecord) : List Nat :=
  let body := bytesOf r.seq 4 ++ bytesOf r.boot 4 ++ bytesOf r.uptime 6 ++ bytesOf r.time64 8 ++ bytesOf r.orb 4 ++
    bytesOf r.code 2 ++ [r.state % 256, r.role % 256, ofFlags [r.unitB, r.transient, r.lasting], r.counter % 256] ++
    ((r.data ++ List.replicate 30 0).take 30).map (· % 256)
  body ++ bytesOf (crc16 body) 2

/-- A line for the debug UART at 921,600 baud; one that finds the transmit buffer of 8 KiB full is dropped and counted (R466). -/
def State.uartLine (s : State) (chars : List Nat) : State :=
  if s.devState = stReset || s.devState = stLunar then s else
  let fill := s.dict.uartFill - (s.now - s.dict.uartAt) * 92160
  let after := fill + chars.length * 1000000000
  if 8192 * 1000000000 < after then s.bump Obj.LOG_UART_DROPPED
  else { s with dict := { s.dict with uartFill := after, uartAt := s.now } }.emit (.uart chars)

/-- One admitted record costs 0.25 s of credit; the burst is 256 of them (R459). -/
abbrev recordCredit : Nat := 250000000

/-- Puts a record of an event at an UPTIME at the head of the journal ring of 63,488 records (Table 18.6) and sends its UART line
(R466). DEDUCED (log entry 17): unsafe. -/
def State.pushRecord (s : State) (uptime code : Nat) (data : List Nat) (counter : Nat) (transient lasting : Bool) : State :=
  let r : JournalRecord :=
    { seq := (s.log.seq + 1) % 2 ^ 32
      boot := s.getN (Obj.LOG_CNT 0) % 2 ^ 32
      uptime := uptime
      time64 := s.time64
      orb := if s.orbRunning then s.orbCount else 0
      code := code
      state := s.devState
      role := s.devRole
      unitB := s.getN Obj.DEV_UNIT = 1
      transient := transient
      lasting := lasting
      counter := counter
      data := data }
  let s := { s with log := { s.log with seq := r.seq }
                    flash := { s.flash with journal := (r :: s.flash.journal).take 63488 } }
  let s := s.put Obj.LOG_JOURNAL_SEQ r.seq
  if s.bit Obj.LOG_UART_CTRL 0 then s.uartLine ([74, 32] ++ hexOf r.bytes ++ [13, 10]) else s

/-- The credit of the journal's allowance now: 4 records a second, 256 at most (R459). DEDUCED (log entry 17): unsafe. -/
def State.journalCredit (s : State) : Nat := min (256 * recordCredit) (s.log.credit + (s.now - s.log.creditAt))

/-- Journals an event: DATA bytes 0 and 1 the subject, then `data` (R459, R460). Beyond the allowance it is dropped and
counted, source 500 on the first drop of a run; the first record admitted afterwards is preceded by record 0x0211. -/
def State.journalAt (s : State) (uptime code subject : Nat) (data : List Nat) (counter : Nat) (transient lasting : Bool) :
    State :=
  let credit := s.journalCredit
  if credit < recordCredit then
    let s1 := if s.log.dropRun = 0 then s.raise 500 else s
    let s2 := s1.bump Obj.LOG_JOURNAL_DROPPED
    { s2 with log := { s2.log with credit := credit, creditAt := s2.now, dropRun := s2.log.dropRun + 1 } }
  else
    let run := s.log.dropRun
    let s1 := { s with log := { s.log with credit := credit - recordCredit, creditAt := s.now, dropRun := 0 } }
    let s2 := if run = 0 then s1 else
      s1.pushRecord s1.uptime 0x0211 [0xFF, 0xFF, run % 256, run / 256 % 256, run / 65536 % 256, run / 16777216 % 256] 0xFF
        false false
    s2.pushRecord uptime code (subject % 256 :: subject / 256 % 256 :: data) counter transient lasting

/-- Journals an event of now. -/
def State.journalFull (s : State) (code subject : Nat) (data : List Nat) (counter : Nat) (transient lasting : Bool) : State :=
  s.journalAt s.uptime code subject data counter transient lasting

/-- Journals an event without a counter or retry outcome. -/
def State.journal (s : State) (code subject : Nat) (data : List Nat) : State :=
  s.journalFull code subject data 0xFF false false

/-- The subject of an event that has none (R460). -/
abbrev noSubject : Nat := 0xFFFF

/-- A source is raised and the event logged under its number (R460). -/
def State.event (s : State) (src subject : Nat) (data : List Nat) : State := (s.raise src).journal src subject data

/-- An uncorrectable error of an SRAM is counted and logged with its address (R381, Table 18.1). DEDUCED (log entry 113): unsafe. -/
def State.sramUncorr (s : State) (subject address : Nat) : State :=
  (s.count 0x17).journalFull (Config.unlistedCode 6) subject (bytesOf address 8) 0x17 false false

/-- An uncorrectable error of a unit's own memory, whose address is free. -/
def State.unitUncorr (s : State) (subject : Nat) : State := s.usedFree.sramUncorr subject (unsigned 64 s.free)

/-! ## Flushes -/

/-- The values of Table 18.7 frozen now: the lifetime counters, retry counts and histograms, and the ageing state. -/
def State.freeze (s : State) : Snapshot :=
  { number := s.flash.snapNumber + 1
    lastSeq := s.log.seq
    time64 := s.time64
    boot := s.getN (Obj.LOG_CNT 0)
    counters := s.objs.filter fun p => 0x301000 ≤ p.1 && p.1 < 0x308000
    ageing :=
      { records := s.age.sms.map fun m => (m.n, m.age)
        plan := s.age.plan.map fun p => (p, s.getN Obj.AGE_PLAN_GEN)
        siDrift := s.getN Obj.AGE_SI_DRIFT } }

/-- The slot of the latest snapshot. -/
def State.latestSlot (s : State) : Option Nat :=
  ((List.range 28).foldl (fun (best : Option (Nat × Nat)) i =>
    match s.flash.slots[i]?.bind (·.snap), best with
    | some p, none => some (i, p.number)
    | some p, some b => if b.2 < p.number then some (i, p.number) else best
    | none, _ => best) none).map (·.1)

/-- The next good slot of the ring after slot i. -/
def State.goodAfter (s : State) (i : Nat) : Option Nat :=
  ((List.range 28).map fun k => (i + 1 + k) % 28).find? fun j => (s.flash.slots[j]?.map (·.good)).getD false

/-- The next good slot after the one the latest snapshot lies in. -/
def State.nextSlot (s : State) : Option Nat := s.goodAfter (s.latestSlot.getD 27)

/-- Slots not marked bad. -/
def State.goodSlots (s : State) : Nat := (s.flash.slots.filter (·.good)).length

/-- The values are frozen into the staging area now; a copy that waits there is replaced (R462, R463). -/
def State.freezeNow (s : State) : State :=
  ({ s with log := { s.log with staged := some s.freeze } }.setBit Obj.LOG_STATUS 3 true).put Obj.LOG_LAST_FLUSH s.time32

/-- Programming of the frozen copy begins (R462). -/
def State.beginFlush (s : State) (demanded : Bool) : State :=
  match s.nextSlot with
  | none => s
  | some slot =>
    let s0 := if s.log.staged.isSome then s else s.freezeNow
    let snap := s0.log.staged.getD s0.freeze
    let s1 := { s0 with
      log := { s0.log with
        staged := none
        programming := some (slot, snap, 1)
        lastBegin := some s.now
        demandBegins := if demanded then (s.now :: s.log.demandBegins).filter (s.now < · + 3600000000000)
          else s.log.demandBegins
        demand := false
        periodic := false }
      flash := { s.flash with snapNumber := snap.number
                              slots := updateAt s.flash.slots slot fun f => { f with erases := f.erases + 1, snap := none } } }
    let s3 := s1.put Obj.LOG_STATUS (withBit (withBit (s1.getN Obj.LOG_STATUS) 1 true) 3 false : Nat)
    let worst := s3.flash.slots.foldl (fun (m : Nat) f => max m f.erases) (s3.log.seq / 63488)
    let s4 := s3.put Obj.LOG_WEAR_MAX (max (s3.get Obj.LOG_WEAR_MAX) worst)
    if 80000 ≤ worst && !s4.bit Obj.LOG_STATUS 4 then (s4.setBit Obj.LOG_STATUS 4 true).event 502 noSubject [] else s4

/-- May a flush begin now: none under way, at least 2 good slots, 60 s since the last began, and for a demanded one fewer
than two demanded ones in the last 60 minutes (R462). -/
def State.flushAllowed (s : State) (demanded : Bool) : Bool :=
  2 ≤ s.devState && s.devState ≤ 6 && s.clk.sleep < 2 && s.log.programming.isNone && 2 ≤ s.goodSlots &&
  (match s.log.lastBegin with
   | none => true
   | some b => b + 60000000000 ≤ s.now) &&
  (!demanded || (s.log.demandBegins.filter (s.now < · + 3600000000000)).length < 2)

/-- Begins whatever held-back flush the limits now allow. -/
def State.serveFlush (s : State) : State :=
  if s.log.demand && s.flushAllowed true then s.beginFlush true
  else if s.log.periodic && s.flushAllowed false then s.beginFlush false
  else s

/-- A demand for a flush (R462): served at once if the limits allow, else held. DEDUCED (log entry 99): unsafe. -/
def State.demandFlush (s : State) : State := { s with log := { s.log with demand := true } }.serveFlush

/-- A transient outcome of a retry site (R456). -/
def State.retryTransient (s : State) (site : Nat) : State := s.add64 (Obj.LOG_RETRY_TRANSIENT (site - 1)) 1

/-- A lasting outcome of a retry site: counted, and a demand for a flush (R456, R462). -/
def State.retryLasting (s : State) (site : Nat) : State := (s.add64 (Obj.LOG_RETRY_LASTING (site - 1)) 1).demandFlush

/-- The sites whose transient outcomes are journalled (Table 18.2, J). -/
abbrev journalledSites : List Nat := [0x04, 0x05, 0x07, 0x09, 0x0A, 0x0E, 0x0F, 0x10, 0x11, 0x12, 0x15, 0x16]

/-- An outcome of a retry site under a journal code: counted; journalled when lasting, and when transient at a site marked J
(R456). -/
def State.siteOutcome (s : State) (site code subject : Nat) (data : List Nat) (lasting : Bool) : State :=
  if lasting then (s.retryLasting site).journalFull code subject data 0xFF false true
  else if site ∈ journalledSites then (s.retryTransient site).journalFull code subject data 0xFF true false
  else s.retryTransient site

/-! ## Bases and roles -/

/-- S_base in VA. -/
def State.sBase (s : State) : Rat := (s.get Obj.SWG_S_BASE : Rat) * 1000

/-- V_base in V. -/
def State.vBase (s : State) : Rat := s.get Obj.SWG_V_BASE

/-- V_dc_base in V. -/
def State.vdcBase (s : State) : Rat := s.get Obj.SWG_VDC_BASE

/-- I_base in A: S_base / (sqrt 3 * V_base) (R7, R55). -/
def State.iBase (s : State) : Rat := if s.vBase = 0 then 0 else s.sBase / (sqrtQ 3 * s.vBase)

/-- Z_base in ohm. -/
def State.zBase (s : State) : Rat := if s.sBase = 0 then 0 else s.vBase * s.vBase / s.sBase

/-- The base of the per-unit values of a role (Table 7.4); 0 where there is none. -/
def State.roleBase (s : State) (role : Nat) : Rat :=
  if role = 0 then 0
  else if role ≤ 3 then sqrtQ 2 * s.vBase / sqrtQ 3
  else if role ≤ 6 then sqrtQ 2 * s.iBase
  else if role ≤ 12 then s.iBase
  else if role ≤ 14 then s.vdcBase / 2
  else if role ≤ 16 then (if s.vdcBase = 0 then 0 else s.sBase / s.vdcBase)
  else if role ≤ 19 then sqrtQ 2 * s.vBase / sqrtQ 3
  else 0

/-- A channel of the measurement chain is enabled (MEA_CH_CTRL bit 0). -/
def State.meaEnabled (s : State) (k : Nat) : Bool := s.bit (Obj.MEA_CH_CTRL k) 0

/-- The enabled channel that holds a role. -/
def State.roleChannel (s : State) (role : Nat) : Option Nat :=
  (List.range 32).find? fun k => s.meaEnabled k && s.getN (Obj.MEA_ROLE k) = role

/-- FS / base of a channel for its role: the factor of R161. -/
def State.roleFactor (s : State) (k : Nat) : Rat :=
  let b := s.roleBase (s.getN (Obj.MEA_ROLE k))
  if b = 0 then 0 else (s.get (Obj.MEA_FS k) : Rat) / b

/-- The value of a role in the latest snapshot in per unit; none where no channel holds it or the channel was invalid. -/
def State.snapPu (s : State) (role : Nat) : Option Rat :=
  match s.roleChannel role with
  | none => none
  | some k => (s.mea.snap.find? fun e => e.1 == k).map fun e => s.roleFactor k * fromQ 23 e.2.1

/-- A sample in 2^-23 of full scale as a per-unit value of its role (R161). -/
def State.samplePu (s : State) (k : Nat) (y : Int) : Rat := s.roleFactor k * fromQ 23 y

/-! ## CAN frames -/

/-- A port sends and listens: enabled, not HELD, a state that serves the dictionary, and the service PLL drives its domain (R436,
Tables 1.7 and 14.6). -/
def State.canOpen (s : State) (port : Nat) : Bool :=
  port < 2 && s.get (Obj.CAN_ENABLE port) = 1 && !s.bit (Obj.CAN_STATUS port) 3 && 2 ≤ s.devState && s.devState ≤ 6 &&
  field (s.getN (Obj.CLK_PLL_STATUS 4)) 0 2 = 1

/-- A frame leaves a CAN port with an identifier offset by the node number (R434, R436). -/
def State.canSend (s : State) (port base : Nat) (data : List Nat) : State :=
  if s.canOpen port then s.emit (.can port (base + s.dict.nodeIds.getD port 16) data) else s

/-- ERROR_REGISTER: device in TRIP, communication, role STALE (Table 17.12). -/
def State.errorRegister (s : State) : Nat :=
  let held := s.bit (Obj.CAN_STATUS 0) 3 || s.bit (Obj.CAN_STATUS 1) 3
  let noLink := (List.range 2).any fun p => s.get (Obj.ETH_MODE p) ≠ 0 && !s.bit (Obj.ETH_STATUS p) 0
  ofFlags [s.devState = stTrip, false, false, false, held || noLink, false, false, s.devRole = roleStale]

/-- An EMCY message on each CAN port (R436). -/
def State.emcy (s : State) (code : Nat) : State :=
  let data := bytesOf code 2 ++ [s.errorRegister, 0, 0, 0, 0, 0]
  (s.canSend 0 0x80 data).canSend 1 0x80 data

end Sys2Proof.Machine
end

