-- ==== Sys2Proof/Machine/Comet.lean ====
section
/-!
DEFINITION. Comet (chapter 16): blocks, storage and spilling, triggers, arming, records and measurements, and the meanings
of its own commands. Feeds from samples, published words, the node table and signal edges are operations here that the
other families call.
-/

namespace Sys2Proof.Machine

/-- Comet's state: 0 IDLE, 1 ARMED, 2 TAIL. -/
def State.cmtState (s : State) : Nat := s.getN Obj.CMT_STATE

/-- The capacity C in blocks (R405). -/
def State.cmtCapacity (s : State) : Nat :=
  let ring := s.getN Obj.CMT_RING_SIZE
  if ring = 0 then 262144 else ring * 16384

/-- Samples per second of an analog source (Table 16.1), as a rational. -/
def State.cmtSourceRate (s : State) (src : Nat) : Rat :=
  if src = 0 then 0
  else if src / 256 = 1 ∨ src / 256 = 2 then
    let ts := s.getN (if src / 256 = 1 then Obj.MEA_T_S (src % 256) else Obj.MEA_T_S_FAST (src % 256))
    if ts = 0 then 0 else 16000000000 / (ts : Rat)
  else if s.getN Obj.ORB_PERIOD = 0 then 0 else 4000000 / (s.getN Obj.ORB_PERIOD : Rat)

/-- Blocks per second of the configuration, LEVELS markers included (R406). -/
def State.cmtBlockRate (s : State) : Rat :=
  let analog := (List.range 16).foldl (fun r i =>
    r + s.cmtSourceRate (s.getN (Obj.CMT_AN_SRC i)) / ((7 * max 1 (s.getN (Obj.CMT_AN_DEC i)) : Nat) : Rat)) 0
  let bulk : Rat := if s.getN Obj.ORB_PERIOD = 0 then 0 else
    (divUp (s.getN Obj.CMT_BULK_COUNT) 12 : Nat) * 4000000 /
      ((s.getN Obj.ORB_PERIOD * max 1 (s.getN Obj.CMT_BULK_DEC) : Nat) : Rat)
  (analog + bulk) * 1024 / 1023

/-- CMT_RATE_CFG in kB/s (R406). -/
def State.cmtRate (s : State) : Int := saturateU 32 (roundAway (s.cmtBlockRate * 64 / 1000))

/-- The time in microseconds that a number of blocks covers at the configured rate; 0 when nothing is configured. -/
def State.cmtCover (s : State) (blocks : Nat) : Int :=
  let r := s.cmtBlockRate
  if r = 0 then 0 else saturateU 32 (roundAway ((blocks : Rat) * 1000000 / r))

/-! ## Writing blocks -/

/-- Changes Comet's own state. -/
def State.withCmt (s : State) (f : Cmt → Cmt) : State := { s with cmt := f s.cmt }

/-- Is there a ring, and is it reachable for spilling? DESIGN CHOICE (log entry 77): unsafe. -/
def State.cmtSpilling (s : State) : Bool := s.get Obj.CMT_RING_SIZE ≠ 0 && s.cmt.dram

/-- Puts one block at store index W (R402, R405, R407, R412). DESIGN CHOICE (log entry 77): unsafe. -/
def State.cmtPush (s : State) (b : CmtBlock) : State :=
  let c := s.cmt
  let loss := c.lossDue || (b.type = 2 && c.edgeLossDue)
  let b' := { b with loss := loss, post := c.trigger.isSome, index := c.written }
  let w := c.written + 1
  let held := b' :: c.blocks
  let kept := if s.cmtState = 1 then held.take (s.getN Obj.CMT_COMA_BLOCKS) else held
  let kept := if s.cmtState = 1 && s.get Obj.CMT_RING_SIZE ≠ 0 && !c.dram then
    kept.filter fun x => x.index < c.spilled || w - 262144 ≤ x.index else kept
  let s1 := s.withCmt fun c => { c with
    written := w
    spilled := if s.get Obj.CMT_RING_SIZE ≠ 0 then
        (if c.dram then w else if s.cmtState = 1 then max c.spilled (w - 262144) else c.spilled) else w
    blocks := kept
    lossDue := false
    edgeLossDue := if b.type = 2 then false else c.edgeLossDue
    tailDone := if c.trigger.isSome && s.cmtState = 2 then c.tailDone + 1 else c.tailDone }
  let s2 := s1.add64 Obj.CMT_WRITTEN 1
  if s2.cmtState = 1 && !s2.cmt.comaFull && s2.getN Obj.CMT_COMA_BLOCKS ≤ w - s2.cmt.armIndex then
    (s2.withCmt fun c => { c with comaFull := true }).raise 423
  else s2

/-- A block that finds the front buffer full of unspilled blocks in TAIL is lost (R407). -/
def State.cmtLose (s : State) : State :=
  (s.withCmt fun c => { c with lossDue := true, lossSeen := true, lostBlocks := c.lostBlocks + 1 }).bump Obj.CMT_LOSS_BLOCKS

/-- The tail has all its blocks. -/
def State.cmtTailFull (s : State) : Bool := s.cmtState = 2 && s.getN Obj.CMT_TAIL_BLOCKS ≤ s.cmt.tailDone

/-- One block, unless the tail is full or the block is lost. -/
def State.cmtTake (s : State) (b : CmtBlock) : State :=
  if s.cmtState = 0 ∨ s.cmtTailFull then s
  else if s.cmtState = 2 && s.get Obj.CMT_RING_SIZE ≠ 0 && !s.cmt.dram && 262144 ≤ s.cmt.written - s.cmt.spilled then
    s.cmtLose
  else s.cmtPush b

/-- The LEVELS marker of this instant. -/
def State.cmtLevels (s : State) : CmtBlock :=
  { type := 4, channel := 3, loss := false, post := false, index := 0, entries := [],
    words := [s.time32, s.cmt.levels] }

/-- Writes a completed block; every store index that is a multiple of 1,024 is a LEVELS marker (R403). -/
def State.cmtWrite (s : State) (b : CmtBlock) : State :=
  let s1 := if s.cmt.written % 1024 = 0 then s.cmtTake s.cmtLevels else s
  s1.cmtTake b

/-- Completes every partial block whose oldest entry satisfies `due` (R403). DEDUCED (log entry 76): unsafe. -/
def State.cmtComplete (s : State) (due : Nat → Bool) : State :=
  let ready := s.cmt.partials.filter fun p => due p.2
  let s1 := s.withCmt fun c => { c with partials := c.partials.filter fun p => !due p.2 }
  ready.foldl (fun s p => s.cmtWrite p.1) s1

/-- The count of entries that fills a block of a type (Table 16.3). -/
def cmtCapacityOf (type : Nat) : Nat := if type = 3 then 12 else 7

/-- An entry joins the open block of its path (R403). -/
def State.cmtEntry (s : State) (type channel : Nat) (words : List Nat) (e : CmtEntry) : State :=
  if s.cmtState = 0 then s else
  let isIt := fun (p : CmtBlock × Nat) => p.1.channel == channel && p.1.type == type
  match s.cmt.partials.find? isIt with
  | none =>
    let b : CmtBlock := { type := type, channel := channel, loss := false, post := false, index := 0, entries := [e], words := words }
    s.withCmt fun c => { c with partials := c.partials ++ [(b, s.now)] }
  | some (b, since) =>
    let b' := { b with entries := b.entries ++ [e] }
    if cmtCapacityOf type ≤ b'.entries.length then
      (s.withCmt fun c => { c with partials := c.partials.filter fun p => !isIt p }).cmtWrite b'
    else s.withCmt fun c => { c with partials := c.partials.map fun p => if isIt p then (b', since) else p }

/-! ## Triggers -/

/-- A trigger source fires: kept until the end of the command, when coincident ones make one trigger (R408). -/
def State.cmtFire (s : State) (code time frac : Nat) : State :=
  let enabled := code = 0 || s.bit Obj.CMT_TRIG_EN (code - 1)
  if s.cmtState = 1 && enabled && (s.cmt.comaFull || !s.bit Obj.CMT_CTRL 2) then
    s.withCmt fun c => { c with fired := c.fired ++ [(code, time, frac)] }
  else if s.cmtState = 2 && enabled then
    match s.cmt.trigger with
    | some tr => if tr.device = s.now then s.withCmt fun c => { c with fired := c.fired ++ [(code, time, frac)] } else s
    | none => s
  else s

/-- The least code of the triggers that arose together. -/
def cmtLeast (l : List (Nat × Nat × Nat)) : Nat × Nat × Nat :=
  l.foldl (fun m p => if p.1 < m.1 then p else m) (1000, 0, 0)

/-- A TIME32 extended to 64 bits against the shadow (R324). -/
def State.extended (s : State) (time : Nat) : Nat := extendTime s.tim.shadow time

/-- The triggers of the command under way make one trigger (R408, R412). DEDUCED (log entry 76): unsafe. -/
def State.cmtTrigger (s : State) : State :=
  if s.cmt.fired.isEmpty then s else
  let best := cmtLeast s.cmt.fired
  let mask := s.cmt.fired.foldl (fun m p => m ||| 2 ^ p.1) 0
  let s0 := s.withCmt fun c => { c with fired := [] }
  match s.cmt.trigger with
  | some tr =>
    s0.withCmt fun c => { c with trigger := some { tr with
      mask := tr.mask ||| mask
      code := min tr.code best.1
      time := if best.1 < tr.code then s.extended best.2.1 else tr.time
      frac := if best.1 < tr.code then best.2.2 else tr.frac } }
  | none =>
    let s1 := s0.cmtComplete fun _ => true
    let preceded := s1.cmt.written - s1.cmt.armIndex
    let tr : CmtTrigger :=
      { code := best.1, mask := mask, time := s1.extended best.2.1, frac := best.2.2,
        levels := s1.cmt.levels, orb := s1.orbCount, device := s1.now }
    let s2 := s1.cmtWrite { type := 4, channel := 1, loss := false, post := false, index := 0, entries := [], words := [] }
    let s3 := s2.withCmt fun c => { c with
      trigger := some tr
      comaShort := preceded < s2.getN Obj.CMT_COMA_BLOCKS
      comaKept := c.blocks.length
      tailDone := 0 }
    (s3.put Obj.CMT_STATE 2).raise 416

/-! ## Feeds -/

/-- Level trigger j sees a valid sample of its source (R410). -/
def State.cmtLevel (s : State) (j : Nat) (v : Int) (time : Nat) : State :=
  let cfg := s.getN (Obj.CMT_LVL_CFG j)
  let mode := field cfg 4 2
  let th := s.get (Obj.CMT_LVL_THRESH j)
  let hy := s.get (Obj.CMT_LVL_HYST j)
  let low := s.cmt.lvlLow.getD j false
  let high := s.cmt.lvlHigh.getD j false
  let inn := s.cmt.lvlIn.getD j false
  let rising := low && th ≤ v
  let falling := high && v ≤ th
  let outside := inn && (th ≤ v || v ≤ -th)
  let fires := if mode = 0 then rising else if mode = 1 then falling else if mode = 2 then rising || falling else outside
  let s1 := s.withCmt fun c => { c with
    lvlLow := c.lvlLow.set j (decide (v < th - hy) || (low && !rising))
    lvlHigh := c.lvlHigh.set j (decide (th + hy < v) || (high && !falling))
    lvlIn := c.lvlIn.set j ((decide (-th + hy < v) && decide (v < th - hy)) || (inn && !outside)) }
  if fires then s1.cmtFire (2 + j) time 0 else s1

/-- A sample of an analog source reaches Comet: level triggers before decimation, then the slots that record it (R399). -/
def State.cmtSample (s : State) (src : Nat) (v : Int) (valid : Bool) (time : Nat) : State :=
  if s.cmtState = 0 then s else
  let s1 := (List.range 4).foldl (fun s j =>
    if valid && s.getN (Obj.CMT_AN_SRC (field (s.getN (Obj.CMT_LVL_CFG j)) 0 4)) = src then s.cmtLevel j v time else s) s
  (List.range 16).foldl (fun s i =>
    if s.getN (Obj.CMT_AN_SRC i) = src then
      let n := s.cmt.anCount.getD i 0
      let s' := s.withCmt fun c => { c with anCount := c.anCount.set i (n + 1) }
      if n % max 1 (s.getN (Obj.CMT_AN_DEC i)) = 0 then
        s'.cmtEntry 1 i [] { time := time, frac := 0, value := v, valid := valid, channel := i, tap := false }
      else s'
    else s) s1

/-- Published words reach Comet once a cycle (Table 16.1): offset, word, and whether the unit that writes it set VALID. -/
def State.cmtPublished (s : State) (words : List (Nat × Int × Bool)) : State :=
  words.foldl (fun s w => s.cmtSample w.1 w.2.1 w.2.2 (s.getN Obj.ORB_BOUNDARY_TIME)) s

/-- One block of the bulk channel, of numbers first to first + n - 1 (R401). -/
def State.cmtBulkBlock (s : State) (entry : Nat → Nat) (cycle first n : Nat) : State :=
  s.cmtWrite
    { type := 3, channel := 0xFF, loss := false, post := false, index := 0, words := [cycle, first],
      entries := (List.range n).map fun i =>
        { time := cycle, frac := 0, value := entry (first + i), valid := true, channel := 0xFF, tap := false } }

/-- The bulk channel takes the node table bank of a cycle (R401). -/
def State.cmtBulk (s : State) (entry : Nat → Nat) (cycle : Nat) : State :=
  if s.cmtState = 0 then s else
  let n := s.cmt.bulkCount
  let s1 := s.withCmt fun c => { c with bulkCount := n + 1 }
  let count := s.getN Obj.CMT_BULK_COUNT
  if n % max 1 (s.getN Obj.CMT_BULK_DEC) = 0 then
    (List.range (divUp count 12)).foldl (fun s i =>
      s.cmtBulkBlock entry cycle (s.getN Obj.CMT_BULK_FIRST + 12 * i) (min 12 (count - 12 * i))) s1
  else s1

/-- An edge of boolean channel i at a time (R400, R404). -/
def State.cmtEdge (s : State) (i : Nat) (level : Bool) (time frac : Nat) (tap : Bool) : State :=
  if s.cmtState = 0 then s else
  let drained := s.cmt.edgeFill - (s.now - s.cmt.edgeAt) * 7 / 8
  if 1024 ≤ drained then
    let s1 := if s.cmt.edgeLosing then s else s.raise 420
    (s1.withCmt fun c => { c with edgeFill := drained, edgeAt := s.now, edgeLosing := true, edgeLossDue := true,
                                  edgeLossSeen := true }).bump Obj.CMT_EDGE_LOSS
  else
    (s.withCmt fun c => { c with edgeFill := drained + 1, edgeAt := s.now, edgeLosing := false }).cmtEntry 2 0xFE []
      { time := time, frac := frac, value := if level then 1 else 0, valid := true, channel := i, tap := tap }

/-! ## Records -/

/-- The numbers of the stored records. -/
def State.cmtNumbers (s : State) : List Nat := s.cmt.records.map (·.number)

/-- Is a transfer of the record open (R415)? -/
def State.cmtOpen (s : State) (n : Nat) : Bool :=
  s.dict.sessions.any fun x => match x.transfer with
    | some tr => (tr.key == Obj.CMT_RECORD || tr.key == Obj.CMT_MEAS_BOOL) && tr.generation == n
    | none => false

/-- Offset of a time-stamp from the trigger in 2^-16 ns. -/
def cmtOffset (tr : CmtTrigger) (e : CmtEntry) : Int :=
  signed 32 (e.time + 2 ^ 32 - tr.time % 2 ^ 32) * 65536 + ((e.frac : Int) - tr.frac)

/-- Is an analog source taken as UNSIGNED32 in the measurements (R416, Table 15.6)? -/
def cmtUnsigned (src : Nat) : Bool :=
  (src ∈ [0x302, 0x30B, 0x30C, 0x30D, 0x30E, 0x30F, 0x316, 0x317, 0x318])

/-- The value of a word as the measurements take it. -/
def cmtReading (src : Nat) (v : Int) : Int := if cmtUnsigned src then unsigned 32 v else signed 32 (unsigned 32 v)

/-- MIN, MAX, T_MIN, T_MAX, MEAN, RMS, COUNT of a slot over the entries in the window (R416); with none, the values that
the manual leaves open are those given. DESIGN CHOICE (log entry 80): safe. -/
def cmtMeasure (src : Nat) (es : List CmtEntry) (free : List Int) : List Int :=
  match es with
  | [] => free ++ [0]
  | e :: rest =>
    let vs := es.map fun x => (cmtReading src x.value, x.time)
    let first := (cmtReading src e.value, e.time)
    let mn := vs.foldl (fun m p => if p.1 < m.1 then p else m) first
    let mx := vs.foldl (fun m p => if m.1 < p.1 then p else m) first
    let n : Rat := ((rest.length + 1 : Nat) : Rat)
    let sum : Int := vs.foldl (fun a p => a + p.1) 0
    let sq : Int := vs.foldl (fun a p => a + p.1 * p.1) 0
    [mn.1, mx.1, mn.2, mx.2, roundAway ((sum : Rat) / n), roundAway (sqrtQ ((sq : Rat) / n)), ((rest.length + 1 : Nat) : Int)]

/-- All entries of a type of the record's blocks, in store order. -/
def cmtEntries (blocks : List CmtBlock) (type channel : Nat) : List CmtEntry :=
  (blocks.filter fun b => b.type == type && b.channel == channel).flatMap (·.entries)

/-- The record of the present capture, as it is stored (R413, R416). DESIGN CHOICE (log entry 80): safe. -/
def State.cmtRecord (s : State) (truncated : Bool) (tr : CmtTrigger) : CmtRecord :=
  let c := s.cmt
  let blocks := c.blocks.reverse
  let inside := fun (e : CmtEntry) =>
    decide (s.get Obj.CMT_MEAS_FROM * 65536 ≤ cmtOffset tr e) && decide (cmtOffset tr e ≤ s.get Obj.CMT_MEAS_TO * 65536)
  let an := fun (i : Nat) =>
    let src := s.getN (Obj.CMT_AN_SRC i)
    cmtMeasure src ((cmtEntries blocks 1 i).filter fun e => e.valid && inside e)
      ((List.range 6).map fun j => Config.freeValue (s.freeCtr + 6 * i + j))
  let edges := cmtEntries blocks 2 0xFE
  let bool := fun (i : Nat) =>
    let mine := edges.filter (·.channel == i)
    let after := mine.filter fun e => decide (0 ≤ cmtOffset tr e)
    let first : Int := match after with
      | [] => 0x7FFFFFFF
      | e :: rest => rest.foldl (fun m x => min m (cmtOffset tr x / 65536)) (cmtOffset tr e / 65536)
    ((mine.filter inside).length, first)
  { number := s.getN Obj.CMT_REC_COUNT + 1
    flags := ofFlags [c.comaShort, c.lossSeen, c.edgeLossSeen, c.stepSeen, truncated, s.getN Obj.DEV_UNIT = 1]
    trigTime := tr.time
    trigFrac := tr.frac
    trigSrc := tr.code
    trigMask := tr.mask
    trigOrb := tr.orb
    trigLevels := tr.levels
    coma := c.comaKept
    tail := c.tailDone
    lost := c.lostBlocks
    step := if c.stepSeen then s.get Obj.TIM_LAST_STEP else 0
    anSrc := (List.range 16).map fun i => s.getN (Obj.CMT_AN_SRC i)
    boolSrc := (List.range 64).map fun i => s.getN (Obj.CMT_BOOL_SRC i)
    anMeas := (List.range 16).map an
    boolMeas := (List.range 64).map bool
    bulk := [s.getN Obj.CMT_BULK_FIRST, s.getN Obj.CMT_BULK_COUNT, s.getN Obj.CMT_BULK_DEC]
    blocks := blocks
    endIndex := c.written }

/-- Everything of a capture starts empty. DEDUCED (log entry 81): unsafe. -/
def Cmt.fresh (c : Cmt) : Cmt :=
  { c with
    armIndex := c.written, blocks := [], partials := [], anCount := List.replicate 16 0, bulkCount := 0
    lvlLow := List.replicate 4 false, lvlHigh := List.replicate 4 false, lvlIn := List.replicate 4 false
    edgeFill := 0, edgeLosing := false, lossDue := false, edgeLossDue := false, lossSeen := false
    edgeLossSeen := false, stepSeen := false, comaShort := false, lostBlocks := 0, comaFull := false, trigger := none
    comaKept := 0, tailDone := 0, fired := [] }

/-- The blocks that the stored records from the n-th oldest on hold. -/
def cmtHeld (rs : List CmtRecord) (n : Nat) : Nat := (rs.drop n).foldl (fun m r => m + r.blocks.length) 0

/-- How many of the oldest records an arm discards so that coma and tail fit and a record can be stored (R415). -/
def State.cmtDiscards (s : State) : Nat :=
  let need := s.getN Obj.CMT_COMA_BLOCKS + s.getN Obj.CMT_TAIL_BLOCKS
  let rs := s.cmt.records
  ((List.range (rs.length + 1)).find? fun n =>
    decide (need + cmtHeld rs n ≤ s.cmtCapacity) && decide (rs.length - n < 16)).getD rs.length

/-- The first check of Table 16.6 that an arm fails, if any. -/
def State.cmtArmCheck (s : State) : Option Nat :=
  let anySlot := (List.range 16).any fun i => s.getN (Obj.CMT_AN_SRC i) ≠ 0
  let anyBool := (List.range 64).any fun i => s.getN (Obj.CMT_BOOL_SRC i) ≠ 0
  let levelOff := (List.range 4).any fun j =>
    s.bit Obj.CMT_TRIG_EN (1 + j) && s.getN (Obj.CMT_AN_SRC (field (s.getN (Obj.CMT_LVL_CFG j)) 0 4)) = 0
  let dropped := s.cmt.records.take s.cmtDiscards
  if !(2 ≤ s.devState && s.devState ≤ 6) || s.cmtState ≠ 0 then some 3
  else if (!anySlot && !anyBool && s.getN Obj.CMT_BULK_COUNT = 0) || levelOff then some 4
  else if s.cmtCapacity < s.getN Obj.CMT_COMA_BLOCKS + s.getN Obj.CMT_TAIL_BLOCKS then some 5
  else if 3200000 < s.cmtRate then some 6
  else if s.cmtDiscards ≠ 0 && (s.bit Obj.CMT_CTRL 0 || dropped.any fun r => s.cmtOpen r.number) then some 7
  else none

/-- An arm: refused by the first failing check, else accepted (R411). The Bool says whether it was accepted. -/
def State.cmtArm (s : State) : State × Bool :=
  match s.cmtArmCheck with
  | some code => (((s.put Obj.CMT_STATUS code).bump Obj.CMT_ARM_REFUSED_COUNT).raise 419, false)
  | none =>
    let kept := s.cmt.records.drop s.cmtDiscards
    let s1 := s.withCmt fun c => { c.fresh with records := kept, edgeAt := s.now }
    let v := s.getN Obj.CMT_PAT_VALUE
    let m := s.getN Obj.CMT_PAT_CARE
    let s2 := s1.withCmt fun c => { c with patternFalse := (c.levels ^^^ v) &&& m ≠ 0 }
    let s2 := if s2.getN Obj.CMT_COMA_BLOCKS = 0 then (s2.withCmt fun c => { c with comaFull := true }).raise 423 else s2
    let s3 := (((s2.put Obj.CMT_WRITTEN 0).put Obj.CMT_LOSS_BLOCKS 0).put Obj.CMT_EDGE_LOSS 0).put Obj.CMT_REC_STORED kept.length
    (((s3.put Obj.CMT_STATUS 1).put Obj.CMT_STATE 1).raise 418, true)

/-- The record of the present capture is stored and Comet returns to IDLE, or re-arms (R413). -/
def State.cmtStore (s : State) (truncated : Bool) : State :=
  match s.cmt.trigger with
  | none => s
  | some tr =>
    let r := s.cmtRecord truncated tr
    let s1 := s.withCmt fun c => { c.fresh with records := c.records ++ [r] }
    let s2 := ({ s1 with freeCtr := s1.freeCtr + 96 }.put Obj.CMT_REC_COUNT r.number).put Obj.CMT_REC_STORED
      s1.cmt.records.length
    let s3 := ((s2.put Obj.CMT_STATE 0).put Obj.CMT_STATUS 2).count 0x1D
    (s3.raise 417).journalFull 417 noSubject [] 0x1D false false

/-- Comet stores the record and, with REARM set, arms again. -/
def State.cmtFinish (s : State) (truncated : Bool) : State :=
  let s1 := s.cmtStore truncated
  if !truncated && s1.bit Obj.CMT_CTRL 1 && s.cmt.trigger.isSome then s1.cmtArm.1 else s1

/-- An abort command or a change of state ends a capture (R414). -/
def State.cmtAbort (s : State) : State :=
  if s.cmtState = 1 then
    (((s.withCmt fun c => c.fresh).put Obj.CMT_STATE 0).put Obj.CMT_STATUS 8).raise 422
  else if s.cmtState = 2 then
    if s.cmtTailFull then s.cmtFinish false else
    (((s.cmtComplete fun _ => true).cmtFinish true).put Obj.CMT_STATUS 8).raise 422
  else s

/-- At the commit point of LUNAR only records that had spilled wholly are retained (R414). DEDUCED (log entry 81): unsafe. -/
def State.cmtSleep (s : State) : State :=
  let s1 := s.cmtAbort
  let kept := s1.cmt.records.filter fun r => s1.get Obj.CMT_RING_SIZE ≠ 0 && r.endIndex ≤ s1.cmt.spilled
  (s1.withCmt fun c => { c with records := kept }).put Obj.CMT_REC_STORED kept.length

/-- A first step of the time counter inside a capture (R414). -/
def State.cmtTimeStep (s : State) : State :=
  if s.cmtState = 0 then s else
  (s.withCmt fun c => { c with stepSeen := true }).cmtWrite
    { type := 4, channel := 2, loss := false, post := false, index := 0, entries := [],
      words := [unsigned 64 (s.get Obj.TIM_LAST_STEP), s.getN Obj.TIM_STEP_ORB] }

/-- The DRAM becomes unavailable: with a ring, a capture's spilling stops, and source 421 says so (R407). -/
def State.cmtDramLost (s : State) : State :=
  let s1 := s.withCmt fun c => { c with dram := false }
  if s.cmtSpilling && s.cmtState ≠ 0 then s1.raise 421 else s1

/-- The DRAM is available again: spilling resumes where it stopped (R407). -/
def State.cmtDramBack (s : State) : State :=
  s.withCmt fun c => { c with dram := true, spilled := c.written }

/-- The record that CMT_REC_SEL names, 0 being the latest (R417). -/
def State.cmtSelected (s : State) : Option CmtRecord :=
  let n := s.getN Obj.CMT_REC_SEL
  if n = 0 then s.cmt.records.getLast? else s.cmt.records.find? (·.number == n)

/-- The 64 bytes of a block (Tables 16.3 and 16.4); a TRIGGER marker takes the record's trigger. -/
def CmtBlock.bytes (b : CmtBlock) (r : CmtRecord) : List Nat :=
  let n := if b.type = 4 then 1 else b.entries.length
  let valid := if b.type = 1 then ofFlags (b.entries.map (·.valid)) else 2 ^ n - 1
  let header := b.type + 2 ^ 8 * b.channel + 2 ^ 16 * n + 2 ^ 20 * ofFlags [b.loss, b.post] + 2 ^ 32 * valid +
    2 ^ 44 * (b.index % 2 ^ 20)
  let body := match b.type with
    | 1 => b.entries.flatMap fun e => bytesOf (unsigned 32 e.value) 4 ++ bytesOf e.time 4
    | 2 => b.entries.flatMap fun e =>
        bytesOf e.time 4 ++ bytesOf e.frac 2 ++ [e.channel, e.value.toNat + if e.tap then 2 else 0]
    | 3 => bytesOf (b.words.getD 0 0) 4 ++ bytesOf (b.words.getD 1 0) 2 ++ [0, 0] ++
        b.entries.flatMap fun e => bytesOf (unsigned 32 e.value) 4
    | _ =>
      if b.channel = 1 then bytesOf r.trigTime 4 ++ bytesOf r.trigFrac 2 ++ [r.trigSrc, 0] ++ bytesOf r.trigLevels 8 ++
        bytesOf r.trigOrb 4 ++ bytesOf r.trigMask 4
      else if b.channel = 2 then bytesOf (b.words.getD 0 0) 8 ++ bytesOf (b.words.getD 1 0) 4
      else bytesOf (b.words.getD 0 0) 4 ++ [0, 0, 0, 0] ++ bytesOf (b.words.getD 1 0) 8
  bytesOf header 8 ++ (body ++ List.replicate 56 0).take 56

/-- The BOOL_MEAS bytes (Table 16.7). -/
def CmtRecord.boolBytes (r : CmtRecord) : List Nat :=
  r.boolMeas.flatMap fun p => bytesOf p.1 4 ++ bytesOf (unsigned 32 p.2) 4

/-- The 4,096 bytes of a record's header (Table 16.7). -/
def CmtRecord.header (r : CmtRecord) : List Nat :=
  let h := bytesOf r.number 4 ++ bytesOf r.flags 4 ++ bytesOf r.trigTime 8 ++ bytesOf r.trigFrac 2 ++ [r.trigSrc, 0] ++
    bytesOf r.trigMask 4 ++ bytesOf r.trigOrb 4 ++ bytesOf r.coma 4 ++ bytesOf r.tail 4 ++ bytesOf r.lost 4 ++
    bytesOf (unsigned 64 r.step) 8 ++ r.anSrc.flatMap (bytesOf · 2) ++ r.boolSrc.flatMap (bytesOf · 1) ++
    r.anMeas.flatMap (fun m => m.flatMap (fun v => bytesOf (unsigned 32 v) 4) ++ [0, 0, 0, 0]) ++ r.boolBytes ++
    r.bulk.flatMap (bytesOf · 2) ++ [0, 0]
  (h ++ List.replicate 4096 0).take 4096

/-- Releasing a stored record (R415): abort code, or the state without it. -/
def State.cmtRelease (s : State) (n : Nat) : State × Option Nat :=
  if n ∉ s.cmtNumbers then (s, some 0x08000024)
  else if s.cmtOpen n then (s, some 0x08000022)
  else
    let kept := s.cmt.records.filter (·.number ≠ n)
    ((s.withCmt fun c => { c with records := kept }).put Obj.CMT_REC_STORED kept.length, none)

/-- The soft trigger, dated at the write reaching Comet (Table 16.5). -/
def State.cmtSoft (s : State) : State := s.cmtFire 0 s.time32 0

end Sys2Proof.Machine
end

