-- ==== Sys2Proof/Machine/Carriers.lean ====
section
/-!
DEFINITION. The carrier unit (chapter 6): reloads and shadow transfers, raw outputs, dead time, masks, compare triggers,
bound channels and the delay line, as operations that the command meanings call. Instants are in 2^-7 ns.
-/

namespace Sys2Proof.Machine

/-- Device time in 2^-7 ns, the end of the present ns: an instant is due when it is not after it. DEDUCED (log entry 49): unsafe. -/
def State.nowFine (s : State) : Int := 128 * s.now + 127

/-- MODE of a channel (Table 6.1). -/
def State.carMode (s : State) (k : Nat) : Nat := field (s.getN (Obj.CAR_CH_CTRL k)) 0 2

/-- SYNC_SRC of a channel (R142). -/
def State.carSync (s : State) (k : Nat) : Nat := field (s.getN (Obj.CAR_CH_CTRL k)) 2 2

/-- A PWM channel. -/
def State.carPwm (s : State) (k : Nat) : Bool := 2 ≤ s.carMode k

/-- Delay-line calibration is locked. -/
def State.carLocked (s : State) : Bool := s.bit Obj.CAR_UNIT_STATUS 0

/-- Changes one channel. -/
def State.withChannel (s : State) (k : Nat) (f : CarChannel → CarChannel) : State :=
  { s with car := { s.car with channels := updateAt s.car.channels k f } }

/-- An edge value as made: the tap is ignored while the delay line is unlocked (R136). DEDUCED (log entry 49): unsafe. -/
def State.carEdgeTime (s : State) (start : Int) (units : Nat) : Int :=
  start + 5 * (if s.carLocked then units else units / 64 * 64 : Nat)

/-- FINE_IGNORED of a channel that makes an edge now. -/
def State.carFine (s : State) (k : Nat) : State := s.setBit (Obj.CAR_CH_STATUS k) 6 (!s.carLocked)

/-- The live counter of a channel in clocks. -/
def State.carCounter (s : State) (k : Nat) : Nat :=
  match s.car.channels[k]? with
  | none => 0
  | some c => if s.bit (Obj.CAR_CH_STATUS k) 0 then ((128 * s.now - c.start) / 320).toNat else 0

/-- The instant at which the channel's own period ends. -/
def CarChannel.ends (c : CarChannel) : Int := c.start + 320 * c.period

/-! ## Masks -/

/-- BLOCK masks: not in RUN, or not the owner (R144). -/
def State.carBlock (s : State) : Bool := s.devState ≠ stRun || !s.owner

/-- The configurable sources of a channel that are active now (Table 6.4). -/
def State.carSources (s : State) (k : Nat) : Nat :=
  match s.car.channels[k]? with
  | none => 0
  | some c =>
    let cfg := s.getN (Obj.CAR_MASK_CFG k)
    ofFlags [bitOf cfg 0 && decide (s.now < c.dirUntil), bitOf cfg 1 && decide (s.now < c.signUntil),
      bitOf cfg 5 && bitOf s.pins.gpio (field cfg 6 5) == bitOf cfg 11, bitOf cfg 12]

/-- The mask of one channel follows its sources: a source that becomes active masks at once, and counts (R144, R145). -/
def State.carMaskOne (s : State) (k : Nat) : State :=
  match s.car.channels[k]? with
  | none => s
  | some c =>
    if s.carPwm k then
      let forced := s.carBlock || s.bit Obj.CAR_UNIT_STATUS 1
      let active := s.carSources k
      let news := (List.range 4).filter fun b => bitOf active b && !bitOf c.sources b
      let s1 := news.foldl (fun s _ => (s.bump (Obj.CAR_MASK_COUNT k)).raise 281) s
      let masked := c.masked || active ≠ 0
      let s2 := s1.withChannel k fun c => { c with sources := active, masked := masked, forced := c.forced || forced }
      (s2.setBit (Obj.CAR_CH_STATUS k) 2 (masked || c.forced || forced)).setBit (Obj.CAR_CH_STATUS k) 3 (c.forced || forced)
    else
      ((s.withChannel k fun c => { c with sources := 0, masked := false, forced := false }).setBit (Obj.CAR_CH_STATUS k) 2
        false).setBit (Obj.CAR_CH_STATUS k) 3 false

/-- Every mask follows its sources; BLOCK_MASK shows the block (R144). -/
def State.carMasks (s : State) : State :=
  (List.range 24).foldl State.carMaskOne (s.setBit Obj.CAR_UNIT_STATUS 2 s.carBlock)

/-- At a reload a mask lifts when no source is active (R146). -/
def State.carLift (s : State) (k : Nat) : State :=
  match s.car.channels[k]? with
  | none => s
  | some c =>
    let forced := s.carBlock || s.bit Obj.CAR_UNIT_STATUS 1
    let active := s.carSources k ≠ 0
    let s1 := if c.masked && !active then s.raise 282 else s
    let s2 := s1.withChannel k fun c => { c with masked := c.masked && active, forced := c.forced && forced }
    (s2.setBit (Obj.CAR_CH_STATUS k) 2 ((c.masked && active) || (c.forced && forced))).setBit (Obj.CAR_CH_STATUS k) 3
      (c.forced && forced)

/-- The level a pin of CAR_OUT shows after the mask (R134, R144). -/
def State.carPin (s : State) (p : Nat) : Bool :=
  (List.range 24).any fun k =>
    match s.car.channels[k]? with
    | none => false
    | some c =>
      let route := s.getN (Obj.CAR_ROUTE k)
      s.carPwm k && !c.masked && !c.forced && s.pins.io18 &&
        ((field route 0 5 = p && c.main) || (s.carMode k = 3 && field route 8 5 = p && c.comp))

/-! ## Raw output, dead time -/

/-- Width of the main pulse of a period is at least MP, or the period is clamped (Table 6.2). -/
def State.carMainRuns (s : State) (k : Nat) (c : CarChannel) : Bool :=
  64 * c.period ≤ c.duty || s.getN (Obj.CAR_DEAD k) + s.getN (Obj.CAR_MIN_PULSE k) ≤ c.duty

/-- Width of the complement pulse is at least MP, or the raw output is low all period (Table 6.2). -/
def State.carCompRuns (s : State) (k : Nat) (c : CarChannel) : Bool :=
  c.duty = 0 || s.getN (Obj.CAR_DEAD k) + s.getN (Obj.CAR_MIN_PULSE k) + c.duty ≤ 64 * c.period

/-- The raw output rises at an instant: the complement falls, the main output follows after DT (R141). -/
def State.carRise (s : State) (k : Nat) (inst : Int) : State :=
  s.withChannel k fun c =>
    if s.carMode k = 3 then
      let dt : Int := 5 * s.getN (Obj.CAR_DEAD k)
      let runs := s.carMainRuns k c
      let due := if c.raw then none else if runs then some (inst + dt) else none
      let now := due.isSome && dt = 0
      { c with raw := true, comp := false, compDue := none
               main := c.main || now || (c.raw && runs && c.mainDue.isNone)
               mainDue := if now then none else if c.raw then c.mainDue else due }
    else { c with raw := true, main := true }

/-- The raw output falls at an instant, or stays low: the main output falls, the complement follows after DT. -/
def State.carFall (s : State) (k : Nat) (inst : Int) : State :=
  s.withChannel k fun c =>
    if s.carMode k = 3 then
      let dt : Int := 5 * s.getN (Obj.CAR_DEAD k)
      let fell := if c.raw then inst else c.fell
      let runs := s.carCompRuns k c
      let due := if runs && !c.comp then some (max inst (fell + dt)) else none
      let now := due.isSome && decide (due.getD 0 ≤ inst)
      { c with raw := false, fell := fell, main := false, mainDue := none
               comp := c.comp || now, compDue := if now then none else due }
    else { c with raw := false, main := false, fell := inst }

/-! ## Reload -/

/-- The dictionary entry of a shadow register: 0 period, 1 duty, 2 CMPA, 3 CMPB, 4 phase (Table 6.7). -/
def carShadow (reg k : Nat) : Nat :=
  match reg with
  | 0 => Obj.CAR_PERIOD k
  | 1 => Obj.CAR_DUTY k
  | 2 => Obj.CAR_CMPA k
  | 3 => Obj.CAR_CMPB k
  | _ => Obj.CAR_PHASE k

/-- COMMIT as set or cleared, and COMMIT_PENDING with it. -/
def State.carSetCommit (s : State) (k : Nat) (on : Bool) : State :=
  (s.setBit (Obj.CAR_CH_CMD k) 0 on).setBit (Obj.CAR_CH_STATUS k) 1 on

/-- With COMMIT set the shadows move to the active registers together (R138). DESIGN CHOICE (log entry 51): unsafe. -/
def State.carTransfer (s : State) (k : Nat) : State :=
  if s.bit (Obj.CAR_CH_CMD k) 0 then
    let s1 := s.withChannel k fun c => { c with
      period := s.getN (Obj.CAR_PERIOD k), duty := s.getN (Obj.CAR_DUTY k), cmpa := s.getN (Obj.CAR_CMPA k),
      cmpb := s.getN (Obj.CAR_CMPB k), phase := s.getN (Obj.CAR_PHASE k) }
    ((s1.put (Obj.CAR_PERIOD_NOW k) (s.get (Obj.CAR_PERIOD k))).put (Obj.CAR_DUTY_NOW k)
      (s.get (Obj.CAR_DUTY k))).carSetCommit k false
  else s

/-- Writes of the window of R139 complete after the reload. -/
def State.carLate (s : State) (k : Nat) : State :=
  match s.car.channels[k]? with
  | none => s
  | some c =>
    let s1 := c.late.foldl (fun s w => s.put (carShadow w.1 k) w.2) s
    let s2 := if c.lateCommit then s1.carSetCommit k true else s1
    s2.withChannel k fun c => { c with late := [], lateCommit := false }

/-- Source 256 + channel where the given bit of CAR_CH_CTRL enables it (R148). -/
def State.carIrq (s : State) (k b : Nat) : State := if s.bit (Obj.CAR_CH_CTRL k) b then s.raise (256 + k) else s

/-- A reload at an instant with the counter loaded (R137, R138, R142, R146). A compare value of 0 triggers at the reload also
where the phase is loaded (R143). DEDUCED (log entry 108): unsafe. -/
def State.carReload (s : State) (k : Nat) (inst : Int) (phased : Bool) : State :=
  let s1 := (s.carTransfer k).carLate k
  match s1.car.channels[k]? with
  | none => s1
  | some c =>
    let load : Nat := if phased then c.phase % 2 ^ 20 else 0
    let clamp := decide (64 * c.period ≤ c.duty)
    let s2 := s1.withChannel k fun c => { c with
      start := inst - (320 * load : Nat), loaded := load,
      doneA := decide (0 < c.cmpa) && decide (c.cmpa < 64 * load), doneB := decide (0 < c.cmpb) && decide (c.cmpb < 64 * load),
      dutyDone := decide (c.duty ≤ 64 * load), clamped := clamp, sync := none }
    let s3 := if clamp then
        let s4 := (s2.setBit (Obj.CAR_CH_STATUS k) 4 true).bump (Obj.CAR_CLAMP_COUNT k)
        if c.clamped then s4 else (s4.raise 280).carIrq k 15
      else s2
    let s5 := if 64 * load < c.duty then s3.carRise k inst else s3.carFall k inst
    let s6 := (s5.carLift k).carIrq k 12
    if s6.carPwm (k + 1) && s6.carSync (k + 1) = 1 then s6.withChannel (k + 1) fun c => { c with sync := some inst } else s6

/-! ## Writes -/

/-- An instant lies ahead by fewer than 5 ns. -/
def State.carNear (s : State) (inst : Int) : Bool := decide (128 * (s.now : Int) < inst) && decide (inst - 128 * (s.now : Int) < 640)

/-- The end of the channel's period, or a pulse of the time unit that it takes, comes within less than 5 ns. -/
def State.carEndsSoon (s : State) (k : Nat) : Bool :=
  match s.car.channels[k]? with
  | none => false
  | some c =>
    let g := field c.phase 20 4
    s.carNear c.ends || (s.carSync k = 3 && field (s.getN (Obj.TIM_GEN_CTRL g)) 0 2 ≠ 0 &&
      (let d := (s.getN (Obj.TIM_GEN_NEXT g) + 2 ^ 32 - s.time32) % 2 ^ 32; 0 < d && d < 5))

/-- An Orbit boundary comes within less than 5 ns. -/
def State.carOrbitSoon (s : State) : Bool := s.orbRunning && s.carNear (128 * (s.orb.boundary + s.period : Nat))

/-- Fewer than 5 ns are left before the channel's next reload: its period end, or the pulse of its synchronisation source,
which for CHAIN is a reload of the channel before it (R139, R142). -/
def State.carWindow (s : State) : Nat → Bool
  | 0 => s.carPwm 0 && (s.carEndsSoon 0 || ((s.carSync 0 = 1 || s.carSync 0 = 2) && s.carOrbitSoon))
  | k + 1 => s.carPwm (k + 1) &&
    (s.carEndsSoon (k + 1) || (s.carSync (k + 1) = 2 && s.carOrbitSoon) || (s.carSync (k + 1) = 1 && s.carWindow k))

/-- A write to a bound channel's period, duty, phase or command is ignored and counted (R135). DEDUCED (log entry 50): unsafe. -/
def State.carBoundWrite (s : State) (k : Nat) : State :=
  ((s.setBit (Obj.CAR_CH_STATUS k) 7 true).bump Obj.CAR_BOUND_WRITE_COUNT).raise 284

/-- The mark of a write in the window of R139. -/
def State.carLateMark (s : State) (k : Nat) : State :=
  (s.setBit (Obj.CAR_CH_STATUS k) 5 true).bump Obj.CAR_LATE_WRITE_COUNT

/-- COMMIT is written (R138, R139). -/
def State.carCommit (s : State) (k : Nat) : State :=
  if s.carMode k = 1 then s.carBoundWrite k
  else if s.carWindow k then (s.withChannel k fun c => { c with lateCommit := true }).carLateMark k
  else s.carSetCommit k true

/-- A shadow register is written (R135, R138 to R140). DESIGN CHOICE (log entry 51): unsafe. -/
def State.carShadowWrite (s : State) (k reg v : Nat) : State :=
  if s.carMode k = 1 && (reg ≤ 1 || 4 ≤ reg) then s.carBoundWrite k
  else
    let auto := reg = 1 && s.bit (Obj.CAR_CH_CTRL k) 4
    if s.carWindow k then
      (s.withChannel k fun c => { c with late := c.late ++ [(reg, v)], lateCommit := c.lateCommit || auto }).carLateMark k
    else
      let s1 := s.put (carShadow reg k) v
      if auto then s1.carSetCommit k true else s1

/-- CLEAR_STICKY (Table 6.10). DEDUCED (log entry 50): unsafe. -/
def State.carClearSticky (s : State) (k : Nat) : State :=
  if s.carMode k = 1 then
    -- The command register of a bound channel: the write is ignored and counted (R135).
    s.carBoundWrite k
  else ((s.setBit (Obj.CAR_CH_STATUS k) 4 false).setBit (Obj.CAR_CH_STATUS k) 5 false).setBit (Obj.CAR_CH_STATUS k) 7 false

/-- The mode of a channel as written in CONFIG: the counter starts at 0, or stops (Table 6.1). -/
def State.carModeSet (s : State) (k : Nat) : State :=
  let m := s.carMode k
  let s1 := s.withChannel k fun c => { c with
    start := 128 * (s.now : Int), raw := false, main := false, comp := false, mainDue := none, compDue := none,
    doneA := false, doneB := false, dutyDone := true, loaded := 0, clamped := false, late := [], lateCommit := false, sync := none,
    queue := [], internal := false }
  (s1.setBit (Obj.CAR_CH_STATUS k) 0 (2 ≤ m)).carMaskOne k

/-! ## Bound channels and pulses -/

/-- The arm modulator queues the edge of a cycle; the queue holds two values (R135). -/
def State.carQueue (s : State) (arm cycle edge : Nat) : State :=
  if s.carMode arm = 1 then s.withChannel arm fun c => { c with queue := (c.queue ++ [(cycle, edge)]).drop (c.queue.length - 1) }
  else s

/-- The cycle of an overrun is left without a toggle (R135). -/
def State.carUnqueue (s : State) (cycle : Nat) : State :=
  (List.range 6).foldl (fun s a => s.withChannel a fun c => { c with queue := c.queue.filter (·.1 ≠ cycle) }) s

/-- The Orbit boundary at a channel: a bound counter restarts; ORBIT, and CHAIN on channel 0, are pulsed (R135, R142). -/
def State.carBoundaryOne (s : State) (k : Nat) : State :=
  let inst : Int := 128 * s.orb.boundary
  if s.carMode k = 1 then
    let s1 := s.withChannel k fun c => { c with
      start := inst, period := 100 * s.getN Obj.ORB_PERIOD_NOW, cmpa := s.getN (Obj.CAR_CMPA k),
      cmpb := s.getN (Obj.CAR_CMPB k), doneA := false, doneB := false, loaded := 0
      queue := c.queue.filter fun q => q.1 = s.orbCount ∨ orbLater q.1 s.orbCount }
    (s1.put (Obj.CAR_PERIOD_NOW k) (100 * s.getN Obj.ORB_PERIOD_NOW : Nat)).setBit (Obj.CAR_CH_STATUS k) 0 true
  else if s.carPwm k && (s.carSync k = 2 || (s.carSync k = 1 && k = 0)) then
    s.withChannel k fun c => { c with sync := some inst }
  else s

/-- Commutation masks begin at the boundary at which the nodes apply the commutation (R145). -/
def State.carCommutate (s : State) : State :=
  let due := s.car.commDue.filter fun d => d.2.2 = s.orbCount
  let s1 := { s with car := { s.car with commDue := s.car.commDue.filter fun d => orbLater d.2.2 s.orbCount } }
  due.foldl (fun s d =>
    (List.range 24).foldl (fun s k =>
      if s.carPwm k && field (s.getN (Obj.CAR_MASK_CFG k)) 2 3 = d.1 then
        let stop := s.orb.boundary + s.getN Obj.CAR_COMM_HOLD
        s.withChannel k fun c => if d.2.1 = 0 then { c with dirUntil := stop } else { c with signUntil := stop }
      else s) s) s1

/-- Everything the carrier unit does at a boundary. -/
def State.carBoundary (s : State) : State :=
  ((List.range 24).foldl State.carBoundaryOne s).carCommutate.carMasks

/-- A pulse of the time unit's output reaches the channels that name it (R142, R341). -/
def State.carTimePulse (s : State) (gen : Nat) : State :=
  (List.range 24).foldl (fun s k =>
    match s.car.channels[k]? with
    | none => s
    | some c =>
      if s.carPwm k && s.carSync k = 3 && field c.phase 20 4 = gen then
        s.withChannel k fun c => { c with sync := some (128 * (s.now : Int)) }
      else s) s

/-- The internal outputs are low at entry to LINKUP (R135). -/
def State.carLinkup (s : State) : State :=
  (List.range 6).foldl (fun s a => s.withChannel a fun c => { c with internal := false, queue := [] }) s

/-- Bound counters stop with the Orbit sequencer. -/
def State.carStop (s : State) : State :=
  (List.range 6).foldl (fun s a => if s.carMode a = 1 then s.setBit (Obj.CAR_CH_STATUS a) 0 false else s) s

/-- The carrier clock is lost or bypassed: the CLOCK mask, and the delay line unlocked (R136, R144). -/
def State.carClockLost (s : State) : State :=
  let s1 := s.setBit Obj.CAR_UNIT_STATUS 1 true
  let s2 := if s.carLocked then ((s1.setBit Obj.CAR_UNIT_STATUS 0 false).bump Obj.CAR_DL_UNLOCK_COUNT).raise 283 else s1
  s2.carMasks

end Sys2Proof.Machine
end

