-- ==== Sys2Proof/Machine/Engines.lean ====
section
/-!
DEFINITION. The engines and service cores as far as the part defines more than their instruction sets (R372 to R387): the
Xkor instructions, reference pages, exceptions that halt an engine, memory errors and access faults; and the interrupt
controller (R388 to R396).
-/

namespace Sys2Proof.Machine

/-- Changes one hart. -/
def State.withHart (s : State) (h : Nat) (f : Hart → Hart) : State :=
  { s with eng := { s.eng with harts := updateAt s.eng.harts h f } }

/-- An engine runs (ENG_STATE RUNNING). -/
def State.engRuns (s : State) (e : Nat) : Bool := decide (e < 8) && s.get (Obj.ENG_STATE e) = 2

/-- An engine halts (R375): its cause and mode are recorded, both service core pairs get local interrupt 16 + e. -/
def State.engHalt (s : State) (e cause : Nat) (fast : Bool) : State :=
  let s1 := (s.put (Obj.ENG_STATE e) 3).put (Obj.ENG_FAULT_CAUSE e) ((cause % 256 + (if fast then 256 else 0) + 2 ^ 31 : Nat))
  let s2 := (s1.withHart e fun h => { h with waiting := none })
  ((s2.emit (.core 8 ((16 + e : Nat)))).emit (.core 9 ((16 + e : Nat)))).journal (Config.unlistedCode 0) e (bytesOf cause 4)

/-- A hart takes an exception: in fast mode an engine halts instead (R375, R393). DESIGN CHOICE (log entry 21): safe. -/
def State.takeException (s : State) (h cause : Nat) : State :=
  let fast := match s.eng.harts[h]? with
    | some x => x.fast
    | none => false
  if fast && h < 8 then s.engHalt h cause true else s.emit (.exception h cause)

/-- An engine as it is loaded and released at its reset vector (R374). -/
def Hart.restarted (h : Hart) : Hart :=
  { h with fcause := 0x3FF, fvec := 0, fepc := 0, fen := false, fast := false, korctl := 0, waiting := none }

/-- SC0 loads an engine's image and releases it; a disabled engine is gated (R374). DESIGN CHOICE (log entry 24): unsafe. -/
def State.engLoad (s : State) (e id : Nat) : State :=
  if s.bit Obj.ENG_ENABLE e then
    ((s.withHart e Hart.restarted).put (Obj.ENG_STATE e) 2).put (Obj.ENG_IMAGE_ID e) id
  else (s.withHart e Hart.restarted).put (Obj.ENG_STATE e) 0

/-! ## Xkor -/

/-- Whether an Xkor instruction other than KOR.FRET is legal in the mode it runs in (R376). -/
def State.korAllowed (s : State) (e : Nat) (user : Bool) : Bool :=
  !user || (match s.eng.harts[e]? with
    | some h => bitOf h.korctl 0
    | none => false)

/-- The offset of an instant of Table 2.1 that KOR.WAIT names: 2 T_ref, 3 T_up, 4 T_fin. -/
def State.korOffset (s : State) (ev off : Nat) : Nat :=
  match ev with
  | 0 => off
  | 2 => s.getN Obj.ORB_T_REF
  | 3 => s.getN Obj.ORB_T_UP
  | 4 => s.getN Obj.ORB_T_FIN
  | _ => 0

/-- The result of a KOR.WAIT: ORB_COUNT, BEYOND in bit 62, PASSED in bit 63 (R377). -/
def State.korResult (s : State) (passed beyond : Bool) : Int :=
  (s.orbCount + (if beyond then 2 ^ 62 else 0) + (if passed then 2 ^ 63 else 0) : Nat)

/-- KOR.WAIT issues (R377). DESIGN CHOICE (log entry 21): safe. -/
def State.korWait (s : State) (e ev off : Nat) : State :=
  if 5 ≤ ev then s.takeException e 2
  else if !s.orbRunning then (s.bump (Obj.ENG_WAIT_PASSED e)).emit (.core e (s.korResult true false))
  else
    let beyond := ev = 0 && s.period ≤ off
    if ev ≠ 1 && !beyond && s.korOffset ev off ≤ s.offset then
      (s.bump (Obj.ENG_WAIT_PASSED e)).emit (.core e (s.korResult true false))
    else s.withHart e fun h => { h with waiting := some (ev, off, beyond, s.orbCount) }

/-- The awaited strobe reaches the engine: KOR.WAIT retires (R377). -/
def State.korWaitDone (s : State) (e : Nat) : State :=
  match (s.eng.harts[e]?).bind (·.waiting) with
  | none => s
  | some (ev, off, beyond, count) =>
    let reached := if ev = 1 || beyond then decide (s.orbCount ≠ count)
      else decide (s.orbCount ≠ count) || decide (s.korOffset ev off ≤ s.offset)
    if reached then
      (s.withHart e fun h => { h with waiting := none }).emit (.core e (s.korResult false beyond))
    else s

/-- KOR.REFDONE, or a 1 written to DONE: the set is complete in time, or late (R385). Answers 0 or 1. -/
def State.refDone (s : State) (e : Nat) : State × Nat :=
  let slack : Int := s.get Obj.ORB_T_REF - s.offset
  let enter := fun (s : State) => s.put (Obj.ENG_REF_SLACK_MIN e) (min (s.get (Obj.ENG_REF_SLACK_MIN e)) slack)
  if s.orbRunning && slack ≤ 0 then ((enter s).bump (Obj.ENG_REF_LATE_DONE e), 1)
  else
    let s1 := s.withHart e fun h => { h with pageDone := true, pageCycle := s.orbCount }
    (if s.orbRunning then enter s1 else s1, 0)

/-- A write to a staging register of a page: another engine's page is not written (R385). -/
def State.pageWrite (s : State) (e page reg : Nat) (v : Int) : State :=
  if e ≠ page then s.bump Obj.ENG_REF_FOREIGN
  else if reg < 16 then s.withHart e fun h => { h with page := h.page.set reg (signed 32 (unsigned 32 v)) } else s

/-- DONE of every page is cleared at the boundary (R385). -/
def State.pagesClear (s : State) : State :=
  { s with eng := { s.eng with harts := s.eng.harts.map fun h => { h with pageDone := false } } }

/-! ## Memory -/

/-- What the map gives a hart at an address: none where nothing is mapped, else whether it is a register block (R379). -/
def mapAt (h a : Nat) : Option Bool :=
  let top := if Config.isP8 then 0x2FFFFFFFF else 0x1FFFFFFFF
  if h < 8 ∧ a ≤ 0x3FFFFF then some false
  else if 8 ≤ h ∧ a ≤ 0x1FFFFF then some false
  else if 0x10000000 ≤ a ∧ a ≤ 0x127FFFFF then some false
  else if 0x20000000 ≤ a ∧ a ≤ 0x20FFFFFF then some false
  else if 8 ≤ h ∧ 0x30000000 ≤ a ∧ a ≤ 0x301FFFFF then some false
  else if 0x40000000 ≤ a ∧ a ≤ 0x400AFFFF then some true
  else if 0x100000000 ≤ a ∧ a ≤ top then some false
  else none

/-- May a hart make this access (kind 0 load, 1 store, 2 fetch; size in bytes)? (Table 15.3, R380) -/
def State.accessAllowed (_s : State) (h a size kind : Nat) : Bool :=
  match mapAt h a with
  | none => false
  | some true => kind ≠ 2 && (size = 4 || size = 8) && a % size = 0
  | some false =>
    let cluster := 0x10000000 ≤ a && a ≤ 0x127FFFFF
    let readOnly := (0x10000000 ≤ a && a < 0x10040000) ||
      (h < 8 && ((0x20000000 ≤ a && a ≤ 0x20FFFFFF) || (0x100000000 ≤ a && a < 0x110000000)))
    let ring := h < 8 && 0x180000000 ≤ a && a < 0x180000000 + _s.getN Obj.CMT_RING_SIZE * 2 ^ 20
    let execute := a < 0x10000000 || (h < 8 && (cluster || (0x110000000 ≤ a && a < 0x180000000)))
    if kind = 1 then !readOnly && !ring else if kind = 2 then execute && !(0x10000000 ≤ a && a < 0x10040000) else true

/-- The access-fault exceptions of the cores: load 5, store 7, fetch 1. -/
def accessCause (kind : Nat) : Nat := if kind = 1 then 7 else if kind = 2 then 1 else 5

/-! ## The interrupt controller -/

/-- Changes the interrupt controller. -/
def State.withIcu (s : State) (f : Icu → Icu) : State := { s with icu := f s.icu }

/-- A source is shared, or has one copy per target (R390). -/
def State.srcPrivate (s : State) (src : Nat) : Bool := src / 32 = 5 && s.get Obj.ICU_MODE = 0

/-- The copy of a source that a target sees. -/
def State.srcCopy (s : State) (src t : Nat) : Nat := if s.srcPrivate src then t else 10

/-- A source is pending for a target. -/
def State.icuPending (s : State) (src t : Nat) : Bool := decide ((src, s.srcCopy src t) ∈ s.icu.pending)

/-- A source is active: for a target, or, shared, for any. -/
def State.icuActive (s : State) (src t : Nat) : Bool :=
  if s.srcPrivate src then decide ((src, t) ∈ s.icu.active) else s.icu.active.any fun a => a.1 == src

/-- ENABLE as presentation sees it: a clear takes effect 4 ICU clocks later (R394). -/
def State.icuEnabled (s : State) (src : Nat) : Bool :=
  bitOf (s.srcCfg src) 0 || s.icu.masked.any fun m => m.1 == src && decide (s.now < m.2)

/-- A group is in hold-off (R392). -/
def State.icuHeld (s : State) (g : Nat) : Bool := s.icu.holdoff.any fun h => h.1 == g && decide (s.now < h.2)

/-- A normal-class source is presented to a target (R390). -/
def State.icuPresented (s : State) (src t : Nat) : Bool :=
  let cfg := s.srcCfg src
  !bitOf cfg 1 && bitOf cfg (8 + t) && s.icuEnabled src && s.icuPending src t && !s.icuActive src t &&
    !s.icuHeld (src / 32) && s.getN (Obj.ICU_THRESHOLD t) < field cfg 2 3 && field cfg 2 3 ≠ 0

/-- Of a list of sources in rising order, the one of highest priority, the lowest number breaking ties. -/
def State.icuBest (s : State) (l : List Nat) : Option Nat :=
  l.foldl (fun best src =>
    match best with
    | none => some src
    | some b => if field (s.srcCfg b) 2 3 < field (s.srcCfg src) 2 3 then some src else some b) none

/-- The source a claim by a target returns (R390). -/
def State.icuTop (s : State) (t : Nat) : Option Nat :=
  s.icuBest (sortBy (· ≤ ·) ((s.icu.pending.map (·.1)).eraseDups.filter fun src => s.icuPresented src t))

/-- A source becomes active for a target: no longer pending there, the mask race counted (R389, R394). -/
def State.icuTake (s : State) (src t : Nat) : State :=
  let raced := !bitOf (s.srcCfg src) 0
  let s1 := s.withIcu fun i => { i with
    pending := i.pending.filter (· ≠ (src, s.srcCopy src t)), active := addPair i.active (src, t) }
  if raced then s1.bump Obj.ICU_MASK_RACE_COUNT else s1

/-- A claim: the source, or 0x3FF (R390). -/
def State.icuClaim (s : State) (t : Nat) : State × Nat :=
  match s.icuTop t with
  | none =>
    let lost := s.icu.lost.any fun p => p.2 == t
    let s1 := (s.bump (Obj.ICU_SPURIOUS_COUNT t)).withIcu fun i => { i with lost := i.lost.filter fun p => p.2 ≠ t }
    (if lost then s1.bump (Obj.ICU_CLAIM_LOST t) else s1, 0x3FF)
  | some src =>
    let others := if s.get Obj.ICU_MODE = 1 then
      (List.range 10).filter fun u => decide (u ≠ t) && s.icuPresented src u else []
    let s1 := (s.icuTake src t).withIcu fun i => { i with
      lost := i.lost.filter (fun p => p.2 ≠ t) ++ others.map fun u => (src, u) }
    let hold := s.getN (Obj.ICU_HOLDOFF (src / 32))
    let s2 := if hold = 0 then s1 else s1.withIcu fun i => { i with
      holdoff := i.holdoff.filter (fun h => h.1 ≠ src / 32) ++ [(src / 32, s.now + 100 * hold)] }
    (s2, src)

/-- A completion; one of a source that is not active for the target is stray (R391). -/
def State.icuComplete (s : State) (t src : Nat) : State :=
  if (src, t) ∈ s.icu.active then s.withIcu fun i => { i with active := i.active.filter (· ≠ (src, t)) }
  else (s.bump Obj.ICU_STRAY_COMPLETE).count 0x14

/-- A fast-class source that may be granted to an engine (R393). -/
def State.icuFast (s : State) (e : Nat) : Option Nat :=
  s.icuBest (sortBy (· ≤ ·) ((s.icu.pending.map (·.1)).eraseDups.filter fun src =>
    bitOf (s.srcCfg src) 1 && bitOf (s.srcCfg src) (8 + e) && s.icuEnabled src && s.icuPending src e &&
      !s.icuActive src e && field (s.srcCfg src) 2 3 ≠ 0))

/-- A fast source is granted: the engine enters its handler (R393). -/
def State.fastGrant (s : State) (e pc : Nat) : State :=
  match s.eng.harts[e]?, s.icuFast e with
  | some h, some src =>
    if s.engRuns e && h.fen && !h.fast then
      (s.icuTake src e).withHart e fun h =>
        { h with fast := true, fcause := src, fepc := pc, fastAt := s.now, waiting := none }
    else s
  | _, _ => s

/-- KOR.FRET: completes the fast source and returns (R393). -/
def State.korFret (s : State) (e : Nat) : State :=
  match s.eng.harts[e]? with
  | none => s
  | some h =>
    if !h.fast then s.takeException e 2
    else
      let s1 := if (h.fcause, e) ∈ s.icu.active then
        s.withIcu fun i => { i with active := i.active.filter (· ≠ (h.fcause, e)) } else s
      let s2 := s1.put (Obj.ENG_FAST_MAX e) (max (s1.get (Obj.ENG_FAST_MAX e)) (s.now - h.fastAt : Nat))
      let s3 := (s2.withHart e fun h => { h with fast := false, fcause := 0x3FF }).emit (.core e h.fepc)
      s3.fastGrant e h.fepc

/-- Pending-clear for the sources of a group named by a mask (R389). DEDUCED (log entry 22): unsafe. -/
def State.icuClear (s : State) (g bits : Nat) : State :=
  s.withIcu fun i => { i with pending := i.pending.filter fun p => !(p.1 / 32 == g && bitOf bits (p.1 % 32)) }

/-- A configuration word is written; clearing ENABLE takes effect 4 ICU clocks later (R394). DEDUCED (log entry 22): unsafe. -/
def State.icuConfigure (s : State) (src v : Nat) : State :=
  let cleared := bitOf (s.srcCfg src) 0 && !bitOf v 0
  let after := if s.bit (Obj.CLK_PLL_STATUS 0) 1 then 40 else 8
  let s1 := s.put (Obj.ICU_SRC_CFG (src / 32) (src % 32)) v
  s1.withIcu fun i => { i with masked := i.masked.filter (fun m => m.1 ≠ src && decide (s.now < m.2)) ++
    (if cleared then [(src, s.now + after)] else []) }

/-- The commit point of LUNAR: active sources become pending, hold-offs are cleared (R396). -/
def State.icuSleep (s : State) : State :=
  s.withIcu fun i => { i with
    pending := i.active.foldl (fun l a => addPair l (a.1, s.srcCopy a.1 a.2)) i.pending
    active := [], holdoff := [], masked := [], lost := [] }

/-- The pending map of a group (0x2E30): a bit is set where any copy is pending. -/
def State.icuPendingMap (s : State) (g : Nat) : Nat :=
  ofFlags ((List.range 32).map fun i => s.icu.pending.any fun p => p.1 == 32 * g + i)

/-- The active map of a group (0x2E31). -/
def State.icuActiveMap (s : State) (g : Nat) : Nat :=
  ofFlags ((List.range 32).map fun i => s.icu.active.any fun p => p.1 == 32 * g + i)

end Sys2Proof.Machine
end

