-- ==== Sys2Proof/Machine/Time.lean ====
section
/-!
DEFINITION. The time unit (chapter 13): steps, the servo and its states, PTP, PPS_IN, ORB_SYNC, launch queues and pulse
generators, as operations that the command meanings call.
-/

namespace Sys2Proof.Machine

/-- Changes the time unit. -/
def State.withTim (s : State) (f : Tim → Tim) : State := { s with tim := f s.tim }

/-- TIM_STATE (Table 13.2). -/
def State.timState (s : State) : Nat := s.getN Obj.TIM_STATE

/-- The first step is made (TIM_STATUS bit 0). -/
def State.stepped (s : State) : Bool := s.bit Obj.TIM_STATUS 0

/-- The counter extended against the shadow (R324). -/
def State.nowExt (s : State) : Nat := extendTime s.tim.shadow s.time32

/-- TIME32 distance of a scheduled time: ns ahead, or none in the past (R323). -/
def State.ahead (s : State) (t : Nat) : Option Nat :=
  let d := (t + 2 ^ 32 - s.time32) % 2 ^ 32
  if d < 2 ^ 31 then some d else none

/-- A rate adjustment in units of 2^-40 is in force from now. -/
def State.setRate (s : State) (a : Int) : State := s.rebase.put Obj.TIM_RATE_ADJ a

/-- A state of Table 13.2 is entered: logged with the source of its rule, DISCONTINUITY with its lifetime counter (Table 18.1); the
frozen states count their time (R330). -/
def State.timEnter (s : State) (st src : Nat) (data : List Nat) : State :=
  let s1 := s.put Obj.TIM_STATE st
  let frozen := st = 3 || st = 4
  let s2 := match s1.tim.holdSince with
    | none => if frozen then (s1.withTim fun t => { t with holdSince := some s1.now }).put Obj.TIM_HOLDOVER_TIME 0 else s1
    | some h => if frozen then s1 else
        (s1.withTim fun t => { t with holdSince := none }).put Obj.TIM_HOLDOVER_TIME ((s1.now - h) / 1000000000 : Nat)
  (s2.withTim fun t => { t with inRun := 0, outRun := 0 }).raise src |>.journalFull src noSubject
    (bytesOf st 4 ++ data) (if src = 389 then 0x12 else 0xFF) false false

/-- TIM_HOLDOVER_TIME: the seconds of the present or latest interval (R334). -/
def State.holdTime (s : State) : Int :=
  match s.tim.holdSince with
  | some h => ((s.now - h) / 1000000000 : Nat)
  | none => s.get Obj.TIM_HOLDOVER_TIME

/-! ## Steps -/

/-- The nearest multiple of 250 ns (R332). -/
def round250 (d : Int) : Int := 250 * roundAway ((d : Rat) / 250)

/-- A step is applied: counter and shadow change together (R332). -/
def State.applyStep (s : State) (d : Int) (orb : Nat) : State :=
  let e := round250 d
  let s0 := s.rebase
  let s1 := s0.withTim fun t => { t with
    base := (((t.base : Int) + e * (2 ^ 40 : Nat)) % (2 ^ 72 : Nat)).toNat
    shadow := ((t.shadow : Int) + e).toNat
    pendingStep := none }
  let first := !s.stepped
  let s2 := ((s1.put Obj.TIM_LAST_STEP e).put Obj.TIM_STEP_ORB orb).put Obj.TIM_STATUS
    (withBit (withBit (s1.getN Obj.TIM_STATUS) 0 true) 6 false : Nat)
  let s3 := if first then s2.cmtTimeStep else s2
  s3.timEnter (if s3.get Obj.TIM_SOURCE = 3 then 5 else 1) 384 (bytesOf (unsigned 64 e) 8)

/-- A step is carried out: at once while the sequencer is stopped, else at its boundary (R332). -/
def State.makeStep (s : State) (d : Int) : State :=
  if s.orbRunning then s.withTim fun t => { t with pendingStep := some (d, s.boundaryAhead) }
  else s.applyStep d 0xFFFFFFFF

/-- A pending step takes effect at the boundary it names, or at the first one after it. -/
def State.stepAtBoundary (s : State) : State :=
  match s.tim.pendingStep with
  | some (d, b) => if orbLater b s.orbCount then s else s.applyStep d s.orbCount
  | none => s

/-! ## The servo -/

/-- 2^40 as a rational. -/
def two40 : Rat := ((2 ^ 40 : Nat) : Rat)

/-- A rational held within limits. -/
def clampQ (lo hi q : Rat) : Rat := if q < lo then lo else if hi < q then hi else q

/-- One offset sample sets the rate adjustment (R333). -/
def State.servo (s : State) (o : Int) : State :=
  let tau : Rat := (s.get Obj.TIM_SERVO_TAU : Rat) / 1000
  let smax : Rat := (s.get Obj.TIM_SLEW_MAX : Rat) * 100
  let dt : Rat := match s.tim.lastSample with
    | some t => ((s.now - t : Nat) : Rat) / 1000000000
    | none => 0
  let p := clampQ (-smax) smax (-(o : Rat) / tau)
  let f0 : Rat := (s.get Obj.TIM_FREQ_EST : Rat) * 1000000000 / two40
  let f := clampQ (-500000) 500000 (f0 - (o : Rat) * dt / (4 * tau * tau))
  let a := clampQ (-1000000) 1000000 (f + p)
  let limit := decide (absQ p = smax)
  let was := s.bit Obj.TIM_STATUS 2
  let s1 := (s.put Obj.TIM_FREQ_EST (roundAway (f * two40 / 1000000000))).setRate (roundAway (a * two40 / 1000000000))
  let s2 := (s1.setBit Obj.TIM_STATUS 2 limit).setBit Obj.TIM_STATUS 3 (decide (absQ a = 1000000))
  if limit && !was then s2.raise 399 else s2

/-- The rate is frozen at the frequency estimate (R334, R335). -/
def State.freezeRate (s : State) : State := s.setRate (s.get Obj.TIM_FREQ_EST)

/-- HOLDOVER is entered on the loss of the source (R334). -/
def State.timLost (s : State) : State :=
  if s.timState = 1 ∨ s.timState = 2 then (s.freezeRate).timEnter 3 387 [] else s

/-- DISCONTINUITY is entered (R335). -/
def State.timJump (s : State) : State :=
  if s.timState = 0 ∨ s.timState = 4 ∨ s.timState = 5 then s else
  -- Source 388 is raised whenever HOLDOVER is left (Table 13.6).
  let s := if s.timState = 3 then s.raise 388 else s
  (((s.freezeRate).bump Obj.TIM_DISCONT_COUNT).count 0x12).timEnter 4 389 (bytesOf (s.getN Obj.TIM_GM_IDENTITY) 8)

/-- An offset sample of the source in use, after the first step (R330, R333, R335). -/
def State.timSample (s : State) (o : Int) : State :=
  let s0 := s.put Obj.TIM_OFFSET (saturate 32 o)
  let big := decide (1000000 < absInt o)
  let within := decide (absInt o ≤ s.get Obj.TIM_LOCK_LIMIT)
  let mark := fun (s : State) => s.withTim fun t => { t with lastSample := some s.now, lastOffset := o }
  match s.timState with
  | 1 =>
    if big then mark s0.timJump else
    let n := if within then s.tim.inRun + 1 else 0
    let s1 := mark ((s0.servo o).withTim fun t => { t with inRun := n })
    if 16 ≤ n then s1.timEnter 2 385 [] else s1
  | 2 =>
    if big then mark s0.timJump else
    let n := if within then 0 else s.tim.outRun + 1
    let s1 := mark ((s0.servo o).withTim fun t => { t with outRun := n })
    if 4 ≤ n then s1.timEnter 1 386 [] else s1
  | 3 =>
    if big then mark s0.timJump
    else mark ((s0.timEnter 1 388 []).servo o)
  | _ => mark s0

/-! ## PTP -/

/-- PTP runs on a port: source PTP and its enable (Table 13.8). DEDUCED (log entry 67): safe. -/
def State.ptpOn (s : State) (port : Nat) : Bool := s.get Obj.TIM_SOURCE = 0 && s.bit Obj.TIM_CTRL (1 + port)

/-- The dataset comparison: the first difference decides. -/
def betterDataset : List Nat → List Nat → Bool
  | [], [] => false
  | [], _ => true
  | _, [] => false
  | a :: as, b :: bs => if a = b then betterDataset as bs else a < b

/-- The port whose Announce carries the better master; ETH0 for the same master; 0xFF for none (R329). DEDUCED (log entry 68): unsafe. -/
def State.bestPort (s : State) : Nat :=
  match (s.tim.masters.getD 0 none), (s.tim.masters.getD 1 none) with
  | none, none => 0xFF
  | some _, none => 0
  | none, some _ => 1
  | some a, some b => if a.identity = b.identity then 0 else if betterDataset b.dataset a.dataset then 1 else 0

/-- The port and grandmaster in use follow the masters (R329). DEDUCED (log entry 68): unsafe. -/
def State.ptpSelect (s : State) : State :=
  let port := s.bestPort
  let gm := match s.tim.masters.getD port none with
    | some m => m.identity
    | none => s.getN Obj.TIM_GM_IDENTITY
  let old := s.getN Obj.TIM_PTP_PORT
  let s1 := (s.put Obj.TIM_PTP_PORT port).put Obj.TIM_GM_IDENTITY gm
  if old ≠ 0xFF && port ≠ 0xFF && (old ≠ port || s.getN Obj.TIM_GM_IDENTITY ≠ gm) then
    (s1.bump Obj.TIM_GM_CHANGES).raise 390
  else s1

/-- The offset sample of a Sync: receive time-stamp in 2^-4 ns against origin with its correction (R328, R329).
DEDUCED (log entry 69): unsafe. -/
def State.syncOffset (s : State) (port stamp frac : Nat) (origin : Int) : Int :=
  let rx : Int := 16 * (extendTime s.tim.shadow stamp : Nat) + frac - s.get (Obj.TIM_ETH_RX_DELAY port)
  roundAway (((rx - origin - s.get (Obj.TIM_PEER_DELAY port) : Int) : Rat) / 16)

/-- A Sync of the port in use: the automatic first step, or a sample (R331, R333). DEDUCED (log entry 69): unsafe. -/
def State.ptpSync (s : State) (port : Nat) (o : Int) : State :=
  if s.getN Obj.TIM_PTP_PORT ≠ port then s
  else if s.timState = 0 then
    let s1 := (s.put Obj.TIM_OFFSET (saturate 32 o)).withTim fun t => { t with lastSample := some s.now, lastOffset := o }
    if s.bit Obj.TIM_CTRL 0 && s.tim.peerValid.getD port false && s.tim.pendingStep.isNone then s1.makeStep (-o) else s1
  else s.timSample o

/-! ## PPS_IN and ORB_SYNC -/

/-- The nearest whole second. -/
def nearestSecond (v : Int) : Int := 1000000000 * roundAway ((v : Rat) / 1000000000)

/-- Bin of a histogram (R457): first limit and width as rationals. -/
def histBin (l w q : Rat) : Nat :=
  if q < l then 0 else
  let k := ((q - l) / w).floor.toNat
  if 62 ≤ k then 63 else k + 1

/-- One sample of histogram h; none in LUNAR (R457). -/
def State.histogram (s : State) (h : Nat) (l w q : Rat) : State :=
  if s.devState = stLunar then s else s.add64 (Obj.LOG_HIST h (histBin l w q)) 1

/-- A qualified PPS_IN edge (R331, R342). -/
def State.ppsQualified (s : State) (ext : Nat) : State :=
  let v : Int := (ext : Int) - s.get Obj.TIM_PPS_IN_DELAY
  let off := v - nearestSecond v
  let s1 := (s.put Obj.TIM_PPS_IN_OFFSET (saturate 32 off)).setBit Obj.TIM_STATUS 4 true
  let s2 := (s1.withTim fun t => { t with ppsPrev := some ext, ppsFails := 0 }).histogram 14 (-155) 5 (off : Rat)
  if s2.get Obj.TIM_SOURCE ≠ 1 then s2
  else if s2.timState = 0 then
    match s2.tim.setTime, s2.tim.pendingStep with
    | some t, none => s2.makeStep ((t : Int) + s2.get Obj.TIM_PPS_IN_DELAY - ext)
    | _, _ => s2
  else s2.timSample off

/-- A PPS_IN edge now: qualified within 10 us of a second after the one before; the first on its own (R342).
DEDUCED (log entry 70): unsafe. -/
def State.ppsEdge (s : State) : State :=
  let ext := s.nowExt
  match s.tim.ppsPrev with
  | none => s.ppsQualified ext
  | some p => if absInt ((ext : Int) - p - 1000000000) ≤ 10000 then s.ppsQualified ext else s

/-- A second expected and not qualified (R334, R342). DEDUCED (log entry 70): unsafe. -/
def State.ppsMiss (s : State) : State :=
  match s.tim.ppsPrev with
  | none => s
  | some p =>
    let n := s.tim.ppsFails + 1
    let s1 := (((s.bump Obj.TIM_PPS_IN_MISS).raise 396).setBit Obj.TIM_STATUS 4 false).withTim fun t =>
      { t with ppsFails := n, ppsPrev := if 2 ≤ n then none else some (p + 1000000000) }
    if 2 ≤ n && s1.get Obj.TIM_SOURCE = 1 then s1.timLost else s1

/-- An ORB_SYNC cycle is missed; three in a row lose the source (R344). -/
def State.orbSyncMiss (s : State) : State :=
  let n := s.tim.orbMisses + 1
  let s1 := (((s.bump Obj.TIM_ORB_SYNC_MISS_COUNT).raise 397).setBit Obj.TIM_STATUS 5 false).withTim fun t =>
    { t with orbMisses := n }
  if n = 3 then (s1.raise 398).timLost else s1

/-- An ORB_SYNC_IN edge at a branch (R344). -/
def State.orbSyncEdge (s : State) : State :=
  let lead : Int := s.get Obj.TIM_ORB_SYNC_LEAD - s.get Obj.TIM_ORB_SYNC_DELAY
  if s.get Obj.LNK_TREE_ROLE ≠ 2 ∨ s.get Obj.TIM_SOURCE ≠ 2 then s
  else if !s.stepped then
    match s.tim.rootLabel with
    | none => s
    | some label =>
      let s1 := s.makeStep ((label : Int) - ((s.nowExt : Int) + lead))
      s1.withTim fun t => { t with orbStart := some ((s.now : Int) + lead).toNat, rootLabel := none }
  else if s.orbRunning then
    let tb : Int := (s.now : Int) + lead
    let next : Int := (s.orb.boundary + s.period : Nat)
    let last : Int := (s.orb.boundary : Nat)
    let o := if absInt (tb - next) ≤ absInt (tb - last) then tb - next else tb - last
    if absInt o ≤ 1000 then
      ((s.put Obj.TIM_ORB_SYNC_ERR o).setBit Obj.TIM_STATUS 5 true).withTim (fun t => { t with orbMisses := 0 }) |>.timSample o
    else s.orbSyncMiss
  else s

/-- At each boundary a branch compares its boundary time with the root's label; beyond 1 ms is a discontinuity (R344). -/
def State.labelCheck (s : State) : State :=
  match s.tim.rootLabel with
  | some label =>
    let d := signed 32 ((s.getN Obj.ORB_BOUNDARY_TIME) + 2 ^ 32 - label % 2 ^ 32)
    if s.get Obj.LNK_TREE_ROLE = 2 && s.stepped && decide (1000000 < absInt d) then s.timJump else s
  | none => s

/-! ## Launch queues -/

/-- A late frame or one-shot that is not discarded (R338, R340). -/
def State.timLate (s : State) : State := ((s.bump Obj.TIM_LATE_COUNT).count 0x13).raise 393

/-- A late frame or one-shot that is discarded. -/
def State.timDrop (s : State) : State := (s.bump Obj.TIM_DROP_COUNT).raise 394

/-- An entry leaves the queue. -/
def State.launchDone (s : State) (port : Nat) (e : Launch) (sent dropped : Bool) : State :=
  s.withTim fun t => { t with
    queues := updateAt t.queues port fun q => q.erase e
    launched := ((port, e.time, sent, e.late, dropped, s.time32) :: t.launched).take 32
    busyUntil := if sent then t.busyUntil.set port (s.now + 8 * (e.length + 24)) else t.busyUntil }

/-- An entry is queued (R337, R338). -/
def State.launchQueue (s : State) (port time buffer length : Nat) (dropLate : Bool) : State :=
  if !s.stepped ∨ 2 ≤ port then s
  else if 16 ≤ (s.tim.queues.getD port []).length then s.bump Obj.TIM_QUEUE_FULL_COUNT
  else
    let late := match s.ahead time with
      | some d => decide (d < 200)
      | none => true
    let e : Launch := { time := time, buffer := buffer, length := length, dropLate := dropLate, late := late }
    let s1 := s.withTim fun t => { t with queues := updateAt t.queues port (· ++ [e]) }
    if late && dropLate then (s1.timDrop).launchDone port e false true
    else if late then s1.timLate else s1

/-- The entry a port serves next: the earliest launch time, in the order of queueing (R337). -/
def State.launchNext (s : State) (port : Nat) : Option Launch :=
  let key := fun (e : Launch) => match s.ahead e.time with
    | some d => (d : Int)
    | none => signed 32 (e.time + 2 ^ 32 - s.time32)
  (s.tim.queues.getD port []).foldl (fun best e =>
    match best with
    | none => some e
    | some b => if key e < key b then some e else some b) none

/-- The next entry's time has come: it leaves, or finds the port busy with another timed frame and is late (R338). -/
def State.launchServe (s : State) (port : Nat) : State :=
  match s.launchNext port with
  | none => s
  | some e =>
    let due := e.late || (match s.ahead e.time with
      | some d => decide (d = 0)
      | none => true)
    if !due then s
    else if s.now < s.tim.busyUntil.getD port 0 then
      if e.late then s
      else if e.dropLate then (s.timDrop).launchDone port e false true
      else (s.timLate).withTim fun t => { t with queues := (updateAt t.queues port fun q =>
        q.map fun x => if x = e then { x with late := true } else x) }
    else (s.emit (.eth port 3 [e.buffer, e.length])).launchDone port e true false

/-! ## Pulse generators -/

/-- Generator 1 of a ROOT runs ORB_SYNC_OUT whatever its entries hold (R341). -/
def State.genFixed (s : State) (g : Nat) : Bool := g = 1 && s.get Obj.LNK_TREE_ROLE = 1

/-- MODE of a generator. -/
def State.genMode (s : State) (g : Nat) : Nat := if s.genFixed g then 3 else field (s.getN (Obj.TIM_GEN_CTRL g)) 0 2

/-- WIDTH of a generator. -/
def State.genWidth (s : State) (g : Nat) : Nat := if s.genFixed g then 200 else s.getN (Obj.TIM_GEN_WIDTH g)

/-- START of an ORBIT generator, as a signed offset. -/
def State.genOffset (s : State) (g : Nat) : Int :=
  if s.genFixed g then -(s.get Obj.TIM_ORB_SYNC_LEAD) else signed 32 (s.getN (Obj.TIM_GEN_START g))

/-- A generator drives its pin: PPS_OUT, ORB_SYNC_OUT or its GPIO (R341). -/
def State.genPin (s : State) (g : Nat) : Option Nat :=
  let c := s.getN (Obj.TIM_GEN_CTRL g)
  if s.genFixed g then some 65
  else if !bitOf c 2 then none
  else if g = 0 then some 64 else if g = 1 then some 65 else some (field c 6 5)

/-- The output rises: pin, Comet, interrupt and carriers (R341). -/
def State.genRise (s : State) (g : Nat) : State :=
  let c := s.getN (Obj.TIM_GEN_CTRL g)
  let s1 := match s.genPin g with
    | some p => s.emit (.pin p true)
    | none => s
  let s2 := if bitOf c 3 then s1.cmtFire 7 s1.time32 0 else s1
  let s3 := if bitOf c 4 then s2.raise (400 + g) else s2
  (s3.carTimePulse g).withTim fun t => { t with genFall := t.genFall.set g (some ((s.time32 + s.genWidth g) % 2 ^ 32)) }

/-- The output falls; a ONE_SHOT returns to OFF (R339). -/
def State.genDrop (s : State) (g : Nat) : State :=
  let s1 := match s.genPin g with
    | some p => s.emit (.pin p false)
    | none => s
  let s2 := s1.withTim fun t => { t with genFall := t.genFall.set g none }
  if s.genMode g = 1 then
    (s2.put (Obj.TIM_GEN_CTRL g) (withField (s2.getN (Obj.TIM_GEN_CTRL g)) 0 2 0 : Nat)).setBit (Obj.TIM_GEN_STATUS g) 0 false
  else s2

/-- Arming in a mode (R339, R340). -/
def State.genArm (s : State) (g mode : Nat) : State :=
  let s1 := (s.put (Obj.TIM_GEN_CTRL g) (withField (s.getN (Obj.TIM_GEN_CTRL g)) 0 2 mode : Nat)).put (Obj.TIM_GEN_STATUS g)
    (if mode = 0 then 0 else 1)
  let start := s1.getN (Obj.TIM_GEN_START g)
  let soon := match s1.ahead start with
    | some d => decide (d < 200)
    | none => true
  match mode with
  | 1 =>
    if soon then
      if s1.bit (Obj.TIM_GEN_CTRL g) 5 then
        ((s1.timDrop).put (Obj.TIM_GEN_CTRL g) (withField (s1.getN (Obj.TIM_GEN_CTRL g)) 0 2 0 : Nat)).put
          (Obj.TIM_GEN_STATUS g) 8
      else ((s1.timLate).setBit (Obj.TIM_GEN_STATUS g) 1 true).genRise g
    else s1.put (Obj.TIM_GEN_NEXT g) start
  | 2 =>
    if soon then
      let per := max 1 (s1.getN (Obj.TIM_GEN_PERIOD g))
      let behind := (s1.time32 + 200 + 2 ^ 32 - start) % 2 ^ 32
      let next : Nat := (start + divUp behind per * per) % 2 ^ 32
      (((s1.put (Obj.TIM_GEN_NEXT g) next).setBit (Obj.TIM_GEN_STATUS g) 2 true).bump Obj.TIM_ADVANCED_COUNT).raise 395
    else s1.put (Obj.TIM_GEN_NEXT g) start
  | 3 => s1.put (Obj.TIM_GEN_NEXT g)
      (((s1.getN Obj.ORB_BOUNDARY_TIME : Int) + (if s1.genOffset g < 0 then s1.period else 0 : Nat) + s1.genOffset g) %
        (2 ^ 32 : Nat))
  | _ => s1.withTim fun t => { t with genFall := t.genFall.set g none }

/-- The edge of a generator whose time has come: a fall due first, else the rise (R339). -/
def State.genEdge (s : State) (g : Nat) : State :=
  let reached := fun (t : Nat) => match s.ahead t with
    | some d => decide (d = 0)
    | none => true
  match s.tim.genFall.getD g none with
  | some f => if reached f then s.genDrop g else s
  | none =>
    let m := s.genMode g
    let next := s.getN (Obj.TIM_GEN_NEXT g)
    if m = 0 ∨ !reached next then s
    else
      let s1 := s.genRise g
      if m = 2 then s1.put (Obj.TIM_GEN_NEXT g) ((next + s1.getN (Obj.TIM_GEN_PERIOD g)) % 2 ^ 32 : Nat)
      else if m = 3 then
        s1.put (Obj.TIM_GEN_NEXT g) ((next + s1.period) % 2 ^ 32 : Nat)
      else s1

/-- At a boundary the ORBIT generators take their next edge from it (R339). -/
def State.genBoundary (s : State) : State :=
  (List.range 16).foldl (fun s g =>
    if s.genMode g = 3 then
      let off := s.genOffset g
      s.put (Obj.TIM_GEN_NEXT g)
        (((s.getN Obj.ORB_BOUNDARY_TIME : Int) + (if off < 0 then s.period else 0 : Nat) + off) % (2 ^ 32 : Nat))
    else s) s

/-- A re-epoch may be accepted (R336). -/
def State.reepochAllowed (s : State) : Bool :=
  (s.devState = stConfig || s.devState = stLinkup || s.devState = stBlocked) &&
  (s.timState = 4 || (s.timState = 0 && !s.bit Obj.TIM_CTRL 0)) &&
  (match s.tim.lastSample with
   | some t => decide (s.now < t + 2000000000)
   | none => false) &&
  s.cmtState = 0 &&
  ((List.range 16).all fun g => s.genFixed g || s.genMode g = 0) &&
  s.tim.queues.all (·.isEmpty) && s.tim.pendingStep.isNone

/-- An accepted re-epoch: the step to the source's time at its boundary (R336). -/
def State.reepoch (s : State) (boundary : Nat) : State :=
  let d := -s.tim.lastOffset
  let s1 := (s.bump Obj.TIM_EPOCH_COUNT).journal 384 noSubject (bytesOf 0 4 ++ bytesOf (unsigned 64 (round250 d)) 8)
  if s.orbRunning then
    (s1.withTim fun t => { t with pendingStep := some (d, boundary) }).setBit Obj.TIM_STATUS 6 true
  else s1.applyStep d 0xFFFFFFFF

/-- LUNAR: the counter runs on in HOLDOVER, wraps are counted afresh (R326). -/
def State.timSleep (s : State) : State :=
  let s1 := s.put Obj.TIM_LUNAR_WRAPS 0
  if s1.timState = 1 ∨ s1.timState = 2 then s1.timLost else s1

end Sys2Proof.Machine
end

