-- ==== Sys2Proof/Machine/Protection.lean ====
section
/-!
DEFINITION. The protection unit and the gate-profile service (chapter 8): chopper channels, OV2, arm over-current, trip
causes, gate-profile bands and closed-loop tuning.
-/

namespace Sys2Proof.Machine

/-! ## Trip causes -/

/-- Trip cause codes (Table 8.4). -/
abbrev causeArmEn : Nat := 1
/-- PRT_DC_OV2. -/
abbrev causeOv2 : Nat := 2
/-- PRT_ARM_OC. -/
abbrev causeArmOc : Nat := 3
/-- PRT_EXT_TRIP. -/
abbrev causeExt : Nat := 4
/-- PRT_DC_BLIND. -/
abbrev causeBlind : Nat := 5
/-- PRT_SOFT_TRIP. -/
abbrev causeSoft : Nat := 6
/-- ORB_OVERRUN. -/
abbrev causeOverrun : Nat := 7
/-- PARTNER_TRIP. -/
abbrev causePartnerTrip : Nat := 8
/-- SWG_MEASUREMENT. -/
abbrev causeMeasurement : Nat := 9
/-- SWG_INERTIA_BUDGET. -/
abbrev causeInertia : Nat := 10
/-- FRT_TIMEOUT. -/
abbrev causeFrtTimeout : Nat := 11
/-- BLK_LIVE_BUS. -/
abbrev causeLiveBus : Nat := 12
/-- BLK_NO_DC. -/
abbrev causeNoDc : Nat := 13
/-- BLK_RAMP_STALL. -/
abbrev causeRampStall : Nat := 14
/-- RNK_ARM_DEPLETED. -/
abbrev causeDepleted : Nat := 15
/-- RNK_ARM_CURRENT. -/
abbrev causeArmCurrent : Nat := 16
/-- PARTNER_LOST. -/
abbrev causePartnerLost : Nat := 17

/-- Is a cause active (PRT_TRIP_ACTIVE)? -/
def State.causeActive (s : State) (c : Nat) : Bool := s.bit Obj.PRT_TRIP_ACTIVE c

/-- A cause becomes active or inactive; active in TRIP it is latched (R189). -/
def State.setCause (s : State) (c : Nat) (on : Bool) : State :=
  let s1 := s.setBit Obj.PRT_TRIP_ACTIVE c on
  if on && s.devState = stTrip then s1.setBit Obj.PRT_TRIP_LATCHED c true else s1

/-- An event cause occurs: active until the next ARM_EN low interval that begins after it (R188). -/
def State.eventCause (s : State) (c : Nat) : State :=
  ({ s with prt := { s.prt with events := s.prt.events.filter (fun (e : Nat × Nat) => e.1 ≠ c) ++ [(c, s.now)] } }).setCause c true

/-- An ARM_EN low interval that began at device time t0 ends the event causes before it (R188). -/
def State.endEvents (s : State) (t0 : Nat) : State :=
  let gone := s.prt.events.filter fun e => e.2 < t0
  let s1 := { s with prt := { s.prt with events := s.prt.events.filter fun e => t0 ≤ e.2 } }
  gone.foldl (fun s e => s.setCause e.1 false) s1

/-- The causes that send the urgent block (Table 8.4). -/
def urgentCause (c : Nat) : Bool := 1 ≤ c && c ≤ 4

/-- The lowest active cause. -/
def State.firstCause (s : State) : Option Nat := (List.range 18).find? fun c => s.causeActive c

/-- The urgent block is sent on every port of every owned ring pair (R187). -/
def State.sendUrgent (s : State) : State :=
  ((((s.emit .urgentBlock).raise 328).bump Obj.LNK_URGENT_COUNT).count 0x22).setBit Obj.PRT_STATUS 4 true

/-! ## Choppers -/

/-- A chopper channel is enabled. -/
def State.dchEnabled (s : State) (k : Nat) : Bool := s.bit (Obj.PRT_DCH_CTRL k) 0

/-- SRC of a chopper channel: 0 q_pos, 1 q_neg, 2 q_p2p. -/
def State.dchSrc (s : State) (k : Nat) : Nat := field (s.getN (Obj.PRT_DCH_CTRL k)) 1 2

/-- Changes one chopper channel. -/
def State.withDch (s : State) (k : Nat) (f : Chopper → Chopper) : State :=
  { s with prt := { s.prt with choppers := updateAt s.prt.choppers k f } }

/-- What an enabled channel is asked to do: the comparator or FORCE (R179, R184). -/
def State.dchDemand (s : State) (k : Nat) (c : Chopper) : Bool :=
  s.dchEnabled k && (c.comparator || s.bit (Obj.PRT_DCH_CTRL k) 3)

/-- The result reaches the pins: BLOCKED, RUN or TRIP as owner (R179). -/
def State.dchDrives (s : State) : Bool := 4 ≤ s.devState && s.devState ≤ 6 && s.owner

/-- The length of a phase of n counts in 2^-7 ns, halved counts rounded up on BYP200 (R182). -/
def State.dchCounts (s : State) (n : Nat) : Nat := if s.bit Obj.PRT_STATUS 3 then divUp n 2 * 640 else n * 320

/-- On time up to now enters PRT_DCH_ON_TIME and the logbook. -/
def State.dchAccrue (s : State) (k : Nat) : State :=
  match s.prt.choppers[k]? with
  | none => s
  | some c =>
    if 1 ≤ c.phase && c.phase ≤ 3 then
      let total := c.onRest + (s.now - c.onMark)
      let ms := total / 1000000
      ((s.withDch k fun c => { c with onRest := total % 1000000, onMark := s.now }).add (Obj.PRT_DCH_ON_TIME k) ms).countBy
        0x24 ms
    else s

/-- A turn-on begins (Table 8.2). DEDUCED (log entry 55): safe. -/
def State.dchTurnOn (s : State) (k : Nat) : State :=
  let pre := s.dchCounts (s.getN (Obj.PRT_DCH_PRE k))
  let s1 := s.withDch k fun c => { c with phase := 1, phaseEnd := 128 * s.now + pre, onAt := some s.now, onMark := s.now }
  (((s1.raise 323).bump (Obj.PRT_DCH_ON_COUNT k)).count 0x23)

/-- A turn-off begins; a slope of length 0 is skipped. DEDUCED (log entry 55): safe. -/
def State.dchTurnOff (s : State) (k : Nat) : State :=
  let slope := s.dchCounts (s.getN (Obj.PRT_DCH_OFF_SLOPE k))
  ((s.dchAccrue k).withDch k fun c => { c with
    phase := if slope = 0 then 0 else 4, phaseEnd := 128 * s.now + slope, offAt := some s.now }).raise 324

/-- A time of `us` microseconds since an instant has not passed yet. DEDUCED (log entry 6): unsafe. -/
def State.within (s : State) (since : Option Nat) (us : Nat) : Bool :=
  match since with
  | none => false
  | some t => s.now < t + 1000 * us

/-- A channel acts on its demand as far as phases and minimum times allow (R179, R181). -/
def State.dchEval (s : State) (k : Nat) : State :=
  match s.prt.choppers[k]? with
  | none => s
  | some c =>
    let want := s.dchDemand k c
    let minOff := s.within c.offAt (s.getN (Obj.PRT_DCH_MIN_OFF k))
    let minOn := s.within c.onAt (s.getN (Obj.PRT_DCH_MIN_ON k))
    let s1 :=
      if !c.driven then s
      else if c.phase = 0 && want && !minOff then s.dchTurnOn k
      else if c.phase = 3 && !want && !minOn then s.dchTurnOff k
      else s
    let held := c.driven && ((c.phase = 0 && want && minOff) || (c.phase = 3 && !want && minOn))
    let phase := match s1.prt.choppers[k]? with
      | some c' => if c'.phase = 0 then 0 else if c'.phase ≤ 2 then 1 else if c'.phase = 3 then 2 else 3
      | none => 0
    let v := withField (s1.getN (Obj.PRT_DCH_STATUS k)) 2 2 phase
    s1.put (Obj.PRT_DCH_STATUS k) (withBit (withBit (withBit v 0 want) 1 c.driven) 5 held : Nat)

/-- The end of a phase (Table 8.2): slope after pre-charge, hold after slope, off after the turn-off slope. -/
def State.dchPhaseEnd (s : State) (k : Nat) : State :=
  match s.prt.choppers[k]? with
  | none => s
  | some c =>
    if c.phase = 0 ∨ c.phase = 3 ∨ 128 * s.now + 127 < c.phaseEnd then s
    else if c.phase = 1 then
      let slope := s.dchCounts (s.getN (Obj.PRT_DCH_SLOPE k))
      let s1 := s.withDch k fun c => { c with phase := if slope = 0 then 3 else 2, phaseEnd := c.phaseEnd + slope }
      s1.dchEval k
    else if c.phase = 2 then (s.withDch k fun c => { c with phase := 3 }).dchEval k
    else (s.withDch k fun c => { c with phase := 0 }).dchEval k

/-- The pins follow state and role: driven anew, or both low at once (R181). -/
def State.dchDrive (s : State) : State :=
  (List.range 4).foldl (fun s k =>
    match s.prt.choppers[k]? with
    | none => s
    | some c =>
      if c.driven = s.dchDrives then s
      else if s.dchDrives then (s.withDch k fun c => { c with driven := true }).dchEval k
      else ((s.dchAccrue k).withDch k fun c => { c with driven := false, phase := 0 }).dchEval k) s

/-- Pins of a chopper channel: STR and WK (Tables 8.1, 8.2). -/
def State.dchPins (s : State) (k : Nat) : Bool × Bool :=
  match s.prt.choppers[k]? with
  | none => (false, false)
  | some c =>
    if !c.driven || !s.pins.io33 then (false, false)
    else match c.phase with
      | 1 => (true, false)
      | 2 => (false, true)
      | 3 => (true, false)
      | 4 => (true, true)
      | _ => (false, false)

/-! ## Fast samples -/

/-- q_pos, q_neg and q_p2p as far as the latest samples give them: q_p2p needs equal time-stamps (R176). -/
def State.prtQuantity (s : State) (src : Nat) : Option Rat :=
  let pu := fun (role : Nat) (y : Int) => match s.roleChannel role with
    | some k => some (s.samplePu k y)
    | none => none
  match src with
  | 0 => s.prt.polePos.bind fun p => pu 13 p.1
  | 1 => s.prt.poleNeg.bind fun p => (pu 14 p.1).map fun v => -v
  | _ => match s.prt.polePos, s.prt.poleNeg with
    | some p, some n =>
      if p.2 = n.2 then (pu 13 p.1).bind fun a => (pu 14 n.1).map fun b => (a - b) / 2 else none
    | _, _ => none

/-- A value in 0.001 pu. -/
def milli (v : Int) : Rat := (v : Rat) / 1000

/-- The comparator of a chopper channel sees its quantity (R179). -/
def State.dchCompare (s : State) (k : Nat) (q : Rat) : State :=
  let on := milli (s.get (Obj.PRT_OV1_ON k))
  let off := on - milli (s.get (Obj.PRT_OV1_HYST k))
  (s.withDch k fun c => { c with comparator := if on ≤ q then true else if q < off then false else c.comparator }).dchEval k

/-- OV2 for a quantity (R185, Table 8.4). -/
def State.prtOv2 (s : State) (src : Nat) (q : Rat) : State :=
  let thr := milli (s.get Obj.PRT_OV2)
  let enabled := s.bit Obj.PRT_CTRL src
  let was := bitOf s.prt.ov2 src
  let on := enabled && (decide (thr ≤ q) || (was && decide (thr - 1 / 10 ≤ q)))
  let s1 := { s with prt := { s.prt with ov2 := withBit s.prt.ov2 src on } }
  let s2 := if on && !was then s1.raise 325 else s1
  s2.setCause causeOv2 (s2.prt.ov2 ≠ 0)

/-- One quantity is formed anew: its peak, OV2, and the choppers that watch it (R176, R179, R185). -/
def State.prtFormed (s : State) (src : Nat) : State :=
  match s.prtQuantity src with
  | none => s
  | some q =>
    let s1 := s.put (Obj.PRT_OV_PEAK src) (max (s.get (Obj.PRT_OV_PEAK src)) (saturateU 16 (roundAway (q * 1000))))
    let s2 := s1.prtOv2 src q
    (List.range 4).foldl (fun s k => if s.dchEnabled k && s.dchSrc k = src then s.dchCompare k q else s) s2

/-- The choppers whose quantity depends on a pole: SRC of its own, or q_p2p. -/
def State.dchBehind (s : State) (neg : Bool) (k : Nat) : Bool :=
  s.dchSrc k = 2 || s.dchSrc k = (if neg then 1 else 0)

/-- BLIND shows whether a source pole of the channel is invalid (R183). DEDUCED (log entry 56): unsafe. -/
def State.dchBlind (s : State) : State :=
  (List.range 4).foldl (fun s k =>
    s.setBit (Obj.PRT_DCH_STATUS k) 4
      ((s.prt.blindPos.isSome && s.dchBehind false k) || (s.prt.blindNeg.isSome && s.dchBehind true k))) s

/-- A pole channel delivers an invalid sample, or becomes invalid (R183). -/
def State.prtPoleInvalid (s : State) (neg : Bool) : State :=
  let was := if neg then s.prt.blindNeg else s.prt.blindPos
  if was.isSome then s else
  let s1 := { s with prt :=
    if neg then { s.prt with blindNeg := some s.now } else { s.prt with blindPos := some s.now } }
  let behind := (List.range 4).any fun k => s.dchEnabled k && s.dchBehind neg k
  (if behind then s1.raise 326 else s1).dchBlind

/-- A pole channel delivers a valid fast sample (R176, R183). -/
def State.prtPole (s : State) (neg : Bool) (y : Int) (time : Nat) : State :=
  let s1 := { s with prt :=
    if neg then { s.prt with poleNeg := some (y, time), blindNeg := none, blindTrip := withBit s.prt.blindTrip 1 false }
    else { s.prt with polePos := some (y, time), blindPos := none, blindTrip := withBit s.prt.blindTrip 0 false } }
  let s2 := (s1.dchBlind).setCause causeBlind (s1.prt.blindTrip ≠ 0)
  let s3 := s2.prtFormed (if neg then 1 else 0)
  match s3.prt.polePos, s3.prt.poleNeg with
  | some p, some n => if p.2 = n.2 && s3.prt.blindPos.isNone && s3.prt.blindNeg.isNone then s3.prtFormed 2 else s3
  | _, _ => s3

/-- PRT_BLIND_MAX has passed with a pole still invalid (R183). DEDUCED (log entry 56): unsafe. -/
def State.prtBlindExpiry (s : State) (neg : Bool) : State :=
  match (if neg then s.prt.blindNeg else s.prt.blindPos) with
  | none => s
  | some t =>
    if s.now < t + 1000 * s.getN Obj.PRT_BLIND_MAX then s else
    let behind := (List.range 4).filter fun k => s.dchEnabled k && s.dchBehind neg k
    if behind.isEmpty then s else
    let s1 := behind.foldl (fun s k => (s.withDch k fun c => { c with comparator := false }).dchEval k) s
    ({ s1 with prt := { s1.prt with blindTrip := withBit s1.prt.blindTrip (if neg then 1 else 0) true } }).setCause causeBlind
      true

/-- A valid fast sample of an arm-current channel; while the current stays at its limit every sample is the event anew (R186,
R188). -/
def State.prtArm (s : State) (arm : Nat) (iAbs : Rat) : State :=
  if !s.bit Obj.PRT_CTRL 4 then s
  else if milli (s.get Obj.PRT_ARM_OC) ≤ iAbs then
    let n := s.prt.ocRun.getD arm 0 + 1
    let s1 := { s with prt := { s.prt with ocRun := s.prt.ocRun.set arm n } }
    let confirm := s.getN Obj.PRT_ARM_OC_CONFIRM
    if n = confirm then
      ((s1.put Obj.PRT_STATUS (withField (s1.getN Obj.PRT_STATUS) 0 3 arm : Nat)).raise 327).eventCause causeArmOc
    else if confirm < n then s1.eventCause causeArmOc
    else s1
  else { s with prt := { s.prt with ocRun := s.prt.ocRun.set arm 0 } }

/-- The external trip input is at its trip level (Table 8.4). -/
def State.prtExt (s : State) : Bool :=
  let cfg := s.getN Obj.PRT_EXT_GPIO
  s.bit Obj.PRT_CTRL 3 && bitOf s.pins.gpio (field cfg 0 5) == bitOf cfg 5

/-- PRT_EXT_TRIP follows its input; source 330 when it begins. -/
def State.prtExtFollow (s : State) : State :=
  let on := s.prtExt
  let s1 := if on && !s.causeActive causeExt then s.raise 330 else s
  s1.setCause causeExt on

/-! ## Gate profiles -/

/-- Changes the gate-profile service. -/
def State.withGpf (s : State) (f : Gpf → Gpf) : State := { s with gpf := f s.gpf }

/-- The band of a current magnitude in pu (R194). -/
def State.gpfBand (s : State) (iAbs : Rat) : Nat :=
  ((List.range 15).filter fun j => decide (milli (s.get (Obj.GPF_BAND_EDGE j)) ≤ iAbs)).length

/-- At T_up each arm takes the band of its snapshot current; an invalid channel keeps the band of the cycle before. -/
def State.gpfSelect (s : State) (arm : Nat) (i : Option Rat) : State :=
  match i with
  | none => s
  | some v => s.withGpf fun g => { g with bands := g.bands.set arm (s.gpfBand (absQ v)) }

/-- A lookup in a list of pairs of numbers. -/
def pairGet (l : List (Nat × Nat)) (key : Nat) : Option Nat := (l.find? (·.1 == key)).map (·.2)

/-- The base of a descriptor of a submodule: the image's set, else the base descriptor (R193). -/
def State.gpfBase (s : State) (sm d : Nat) : Nat := (pairGet s.gpf.base (16 * sm + d)).getD (s.getN (Obj.GPF_BASE_DESC d))

/-- The descriptor in force at a submodule. -/
def State.gpfDesc (s : State) (sm d : Nat) : Nat := (pairGet s.gpf.tuned (16 * sm + d)).getD (s.gpfBase sm d)

/-- The descriptor in force changes. -/
def State.gpfSetDesc (s : State) (sm d v : Nat) : State :=
  s.withGpf fun g => { g with tuned := (g.tuned.filter (·.1 ≠ 16 * sm + d)) ++ [(16 * sm + d, v)] }

/-- Tuning runs: RUN as owner with TUNE_EN (R195). -/
def State.gpfTunes (s : State) : Bool := s.devState = stRun && s.owner && s.bit Obj.GPF_CTRL 0

/-- The window of a part (0 turn-on, 1 turn-off) of a descriptor of a submodule. -/
def State.gpfWindow (s : State) (sm d part : Nat) : TuneWindow :=
  ((s.gpf.windows.find? (·.1 == 32 * sm + 2 * d + part)).map (·.2)).getD { switchings := 0, reports := 0, dvdtSum := 0, delaySum := 0 }

/-- A window gets new content; an empty one is not listed. -/
def State.gpfSetWindow (s : State) (sm d part : Nat) (w : TuneWindow) : State :=
  s.withGpf fun g => { g with windows :=
    (g.windows.filter (·.1 ≠ 32 * sm + 2 * d + part)) ++
      (if w.switchings = 0 ∧ w.reports = 0 then [] else [(32 * sm + 2 * d + part, w)]) }

/-- Level and pre-charge of a part of a descriptor (Table 8.5). -/
def descLevel (v part : Nat) : Nat := field v (8 + 20 * part) 4
/-- The pre-charge field. -/
def descPre (v part : Nat) : Nat := field v (20 * part) 8

/-- A window that is long enough takes its decision (R195). -/
def State.gpfDecide (s : State) (sm d part : Nat) : State :=
  let w := s.gpfWindow sm d part
  if !s.gpfTunes || sm ∈ s.gpf.frozen || w.switchings < s.getN Obj.GPF_TUNE_WINDOW || w.reports < 4 then s else
  let v := s.gpfDesc sm d
  let base := s.gpfBase sm d
  let m : Rat := (w.dvdtSum : Rat) / (4 * w.reports : Nat)
  let t : Rat := (w.delaySum : Rat) / (w.reports : Nat)
  let target : Rat := s.get Obj.GPF_DVDT_TARGET
  let band : Rat := (s.get Obj.GPF_DVDT_BAND : Rat) / 1000
  let dt : Rat := s.get Obj.GPF_DELAY_TARGET
  let db : Rat := s.get Obj.GPF_DELAY_BAND
  let dl : Int := if target * (1 + band) < m then -1 else if m < target * (1 - band) then 1 else 0
  let dp : Int := if dl ≠ 0 then 0 else if dt + db < t then 1 else if t < dt - db then -1 else 0
  let ls : Int := s.get Obj.GPF_LEVEL_SPAN
  let ps : Int := s.get Obj.GPF_PRE_SPAN
  let bl : Int := descLevel base part
  let bp : Int := descPre base part
  let level := clampInt (max 0 (bl - ls)) (min 15 (bl + ls)) (descLevel v part + dl)
  let pre := clampInt (max 4 (bp - ps)) (min 160 (bp + ps)) (descPre v part + dp)
  let changed := decide (level ≠ descLevel v part) || decide (pre ≠ descPre v part)
  let bound := (decide (dl ≠ 0) || decide (dp ≠ 0)) && !changed
  let s1 := s.gpfSetWindow sm d part { switchings := 0, reports := 0, dvdtSum := 0, delaySum := 0 }
  if changed then
    let v1 := withField (withField v (8 + 20 * part) 4 level.toNat) (20 * part) 8 pre.toNat
    let v2 := withField v1 40 8 (field v 40 8 + 1)
    let u : DescUpdate := { submodule := sm, descriptor := d, value := v2, attempt := 1, age := 0 }
    ((((s1.gpfSetDesc sm d v2).withGpf fun g => { g with updates := g.updates ++ [u] }).bump Obj.GPF_STEP_COUNT).raise
      332).emit (.record 0x10 [sm, d, v2])
  else if bound then
    let first := !(sm ∈ s.gpf.atBound)
    let s2 := (s1.withGpf fun g => { g with atBound := if first then g.atBound ++ [sm] else g.atBound }).bump Obj.GPF_BOUND_COUNT
    if first then s2.raise 333 else s2
  else s1

/-- A commanded transition counts in its window; windows count only while tuning runs (R195, R197). -/
def State.gpfTransition (s : State) (sm d part : Nat) : State :=
  if !s.gpfTunes then s else
  let w := s.gpfWindow sm d part
  (s.gpfSetWindow sm d part { w with switchings := w.switchings + 1 }).gpfDecide sm d part

/-- A node's report of a switching: dv/dt in 0.025 kV/us and delay in ns (R195). -/
def State.gpfReport (s : State) (sm d part dvdt delay : Nat) : State :=
  if !s.gpfTunes then s else
  let w := s.gpfWindow sm d part
  (s.gpfSetWindow sm d part { w with reports := w.reports + 1, dvdtSum := w.dvdtSum + dvdt, delaySum := w.delaySum + delay
    }).gpfDecide sm d part

/-- An update is acknowledged in the upward slot: an acknowledged second attempt is a transient (R196). -/
def State.gpfAck (s : State) (sm d : Nat) : State :=
  match s.gpf.updates.find? fun u => u.submodule == sm && u.descriptor == d with
  | none => s
  | some u =>
    let s1 := s.withGpf fun g => { g with updates := g.updates.filter fun x => !(x.submodule == sm && x.descriptor == d) }
    if u.attempt = 2 then (s1.raise 334).retryTransient 8 else s1

/-- An update fails for good: its descriptor is read back (R196). -/
def State.gpfReadStart (s : State) (u : DescUpdate) : State :=
  (s.withGpf fun g => { g with updates := g.updates.map fun x =>
    if x.submodule == u.submodule && x.descriptor == u.descriptor then { x with attempt := 3, age := 0 } else x }).emit
      (.record 0x11 [u.submodule, u.descriptor])

/-- T_up of a cycle in which an update is not acknowledged: the cycle of its sending passes, the next one is a miss; sent once more,
then lasting (R196). -/
def State.gpfAckOne (s : State) (u : DescUpdate) : State :=
  let same := fun (x : DescUpdate) => x.submodule == u.submodule && x.descriptor == u.descriptor
  if 3 ≤ u.attempt then s
  else if u.age = 0 then
    s.withGpf fun g => { g with updates := g.updates.map fun x => if same x then { x with age := 1 } else x }
  else if u.attempt = 1 then
    (s.withGpf fun g => { g with updates := g.updates.map fun x => if same x then { x with attempt := 2, age := 0 } else x }).emit
      (.record 0x10 [u.submodule, u.descriptor, u.value])
  else s.gpfReadStart u

/-- Every update is looked at once a cycle. -/
def State.gpfAckCheck (s : State) : State := s.gpf.updates.foldl State.gpfAckOne s

/-- The read-back after a lasting failure gives the node's value: recorded as the one in force, and the submodule frozen (R196). -/
def State.gpfReadBack (s : State) (sm d nodeValue : Nat) : State :=
  match s.gpf.updates.find? fun u => u.submodule == sm && u.descriptor == d && u.attempt == 3 with
  | none => s
  | some _ =>
    let s1 := s.withGpf fun g => { g with
      updates := g.updates.filter fun x => !(x.submodule == sm && x.descriptor == d)
      frozen := if sm ∈ g.frozen then g.frozen else g.frozen ++ [sm] }
    ((((s1.gpfSetDesc sm d nodeValue).put Obj.GPF_FROZEN_COUNT (s1.gpf.frozen.length : Nat)).raise 335).journalFull 335 sm
      [] 0xFF false true).retryLasting 8

/-- An update's record fails for good: read back, or, where the read-back itself fails, a value that is not known (R196, R258).
DEDUCED (log entry 35): safe. -/
def State.gpfRecordLost (s : State) (sm d : Nat) : State :=
  match s.gpf.updates.find? fun u => u.submodule == sm && u.descriptor == d with
  | none => s
  | some u => if 3 ≤ u.attempt then (s.gpfReadBack sm d (unsigned 48 s.free)).usedFree else s.gpfReadStart u

/-- LINKUP starts tuning afresh for frozen submodules (R196). -/
def State.gpfLinkup (s : State) : State :=
  (s.withGpf fun g => { g with frozen := [], updates := [] }).put Obj.GPF_FROZEN_COUNT 0

end Sys2Proof.Machine
end

