-- ==== Sys2Proof/Machine/Transitions.lean ====
section
/-!
DEFINITION. Changes of state and role (R19 to R21) and the declaration of an overrun (R48 to R50). The entry to TRIP is
made once for all causes in Settle.lean.
-/

namespace Sys2Proof.Machine

/-- The device enters a state: logged with the cause (R19) and the lifetime counter that the change increments, 0xFF for none
(Table 18.4); a capture ends at the entry to CONFIG (R414). DEDUCED (log entry 113): unsafe. -/
def State.setStateCounted (s : State) (new cause counter : Nat) : State :=
  let old := s.devState
  if old = new then s else
  let s0 := ((s.put Obj.DEV_STATE new).put Obj.DEV_STATE_SINCE s.time32).raise 496
  let s1 := (if counter = 0xFF then s0 else s0.count counter).journalFull 496 noSubject [old, new, cause] counter false false
  let s2 := { s1 with age := { s1.age with runEntry := new = stRun } }
  if new = stConfig then s2.cmtAbort else s2

/-- The device enters a state by a change that no lifetime counter counts. -/
def State.setState (s : State) (new cause : Nat) : State := s.setStateCounted new cause 0xFF

/-- The unit takes a role: logged with the cause (R19). An entry to STALE counts and makes an automatic resynchronisation due
(R313); a new STANDBY begins its comparison and holds the generation it has (R309, R312). -/
def State.setRole (s : State) (new cause : Nat) : State :=
  let old := s.devRole
  if old = new then s else
  let s1 := (s.put Obj.DEV_ROLE new).event 497 noSubject [old, new, cause]
  if new = roleStale then
    { s1.bump Obj.RED_STALE_COUNT with red := { s1.red with wanted := true } }
  else if new = roleStandby then
    { s1 with red := { s1.red with
      compared := 0, cleanFrom := 0, applied := s1.getN Obj.RED_STATE_GEN, records := [], unexplained := none, before := none } }
  else s1

/-- States in which the Orbit sequencer's overruns have a consequence beyond a count. -/
def State.overrunActs (s : State) : Bool := 4 ≤ s.devState && s.devState ≤ 6

/-- The cycle is overrun (R48): declared once, the lowest code and detail recorded, every cause logged. An owner in BLOCKED or
RUN gets the trip cause OVERRUN, and every unit of a pair takes role STALE (R50, R21). -/
def State.overrun (s : State) (cause detail : Nat) : State :=
  let w := 256 * cause + detail
  if !s.orbRunning then s else
  let log := fun (s : State) (counter : Nat) =>
    s.journalFull 166 noSubject [detail % 256, cause % 256] counter false false
  match s.orb.overrun with
  | some w0 =>
    let s1 := log s 0xFF
    if w < w0 then { s1.put Obj.ORB_OVERRUN_CAUSE w with orb := { s1.orb with overrun := some w } } else s1
  | none =>
    let s1 := { s with orb := { s.orb with overrun := some w } }
    let s2 := ((s1.put Obj.ORB_OVERRUN_CAUSE w).bump Obj.ORB_OVERRUN_COUNT).count 8
    let s3 := ((log ((s2.setBit Obj.ORB_STATUS 6 true).raise 166) 8).cmtFire 10 s2.time32 0).demandFlush
    if !s.overrunActs then s3 else
    let s4 := if s3.owner && s3.devState ≠ stTrip then s3.eventCause causeOverrun else s3
    if s4.devRole = roleAlone then s4
    else if s4.devRole = roleActive && s4.devState ≠ stTrip then s4
    else s4.setRole roleStale 0

end Sys2Proof.Machine
end

