-- ==== Sys2Proof/Machine/Clocks.lean ====
section
/-!
DEFINITION. Clocks and power (chapter 14): the DPLL, the references, the analog PLLs with their bypass and relock, the
crossings, the rail monitors, and the sleep and wake sequence up to where other units take part.
-/

namespace Sys2Proof.Machine

/-- Changes the clock record. -/
def State.withClk (s : State) (f : Clk → Clk) : State := { s with clk := f s.clk }

/-! ## The DPLL and the references -/

/-- CLK_DPLL_STATE. -/
def State.dpll (s : State) : Nat := s.getN Obj.CLK_DPLL_STATE

/-- Seconds of the present holdover, or of the latest (CLK_HOLDOVER_TIME). -/
def State.holdoverSeconds (s : State) : Int :=
  match s.clk.holdSince with
  | some t => ((s.now - t) / 1000000000 : Nat)
  | none => s.get Obj.CLK_HOLDOVER_TIME

/-- The DPLL takes a state of Table 14.3; HOLDOVER is entered and left with sources 480 and 481 (R351). -/
def State.dpllEnter (s : State) (st : Nat) : State :=
  if s.dpll = st then s else
  let s1 := if s.dpll = 3 then
      ((s.put Obj.CLK_HOLDOVER_TIME s.holdoverSeconds).withClk fun c => { c with holdSince := none }).event 481 noSubject []
    else s
  let s2 := (s1.put Obj.CLK_DPLL_STATE st).setBit Obj.CLK_STATUS 6 (st = 2)
  let s3 := s2.withClk fun c => { c with wasLocked := if st = 2 then true else if st = 0 then false else c.wasLocked }
  if st = 3 then
    let s4 := (((s3.bump Obj.CLK_HOLDOVER_COUNT).count 0x11).withClk fun c => { c with holdSince := some s3.now }).raise 480
    s4.journalFull 480 noSubject [] 0x11 false false
  else s3

/-- REF25 is lost (R351, R369). -/
def State.ref25Lost (s : State) : State :=
  let s1 := s.setBit Obj.CLK_STATUS 8 false
  if s1.dpll = 2 then s1.dpllEnter 3
  else if s1.dpll = 1 then s1.dpllEnter (if s1.clk.wasLocked then 3 else 0)
  else s1

/-- REF25 has qualified for 1 s; without the crystal nothing can be measured against it. -/
def State.ref25Qualified (s : State) : State :=
  if s.dpll = 4 then s else
  let s1 := s.setBit Obj.CLK_STATUS 8 true
  if s1.dpll = 0 ∨ s1.dpll = 3 then s1.dpllEnter 1 else s1

/-- REF156 is lost, or back after 1 s: the quads change their reference and stay in lock (R353). -/
def State.ref156 (s : State) (lost : Bool) : State :=
  if s.bit Obj.CLK_STATUS 9 = lost then s else
  let s1 := (s.setBit Obj.CLK_STATUS 9 lost).forAll (List.range 13) fun s q => s.setBit (Obj.CLK_QUAD_STATUS q) 1 lost
  s1.event 483 noSubject [if lost then 1 else 0]

/-- BYP200 measured against the crystal in kHz (R359). -/
def State.byp200 (s : State) (khz : Nat) : State :=
  let s1 := s.put Obj.CLK_BYP200_FREQ khz
  let out := khz < 170000 || 230000 < khz
  let s2 := if out && !s.bit Obj.CLK_STATUS 10 then s1.raise 489 else s1
  s2.setBit Obj.CLK_STATUS 10 out

/-- A crossing discards a unit (R350). -/
def State.crossingFault (s : State) (subject : Nat) : State :=
  (((s.bump Obj.CLK_CDC_FAULT_COUNT).count 0x19).raise 488).journalFull 488 subject [] 0x19 false false

/-! ## Analog PLLs -/

/-- FREQ of a PLL in MHz. -/
def State.pllFreq (s : State) (p : Nat) : Nat := field (s.getN (Obj.CLK_PLL_CTRL p)) 4 12

/-- The fixed FREQ values of Table 14.16; the engine PLL's is open. -/
def pllFixed (p : Nat) : Nat := [0, 1000, 1000, 400, 1000, 1067].getD p 0

/-- FREQ values that R354 allows. -/
def pllFreqAllowed (p f : Nat) : Bool := if p = 0 then 400 ≤ f && f ≤ 1600 && f % 100 = 0 else f = pllFixed p

/-- The VCO slice: for the engine PLL with the smallest post-divider of 2, 4, 8 that reaches 3,200 MHz (R354, R355). -/
def State.pllSlice (s : State) (p : Nat) : Nat :=
  if p = 0 then
    let f := s.pllFreq 0
    let v := if 3200 ≤ 2 * f then 2 * f else if 3200 ≤ 4 * f then 4 * f else 8 * f
    (v - 3200) / 50
  else [0, 16, 16, 0, 36, 21].getD p 0

/-- The band entry for the VCO frequency is VALID. -/
def State.pllBand (s : State) (p : Nat) : Bool := s.bit (Obj.CLK_BAND p (s.pllSlice p)) 31

/-- The PLL is locked and drives its domain. -/
def State.pllDrives (s : State) (p : Nat) : Bool := field (s.getN (Obj.CLK_PLL_STATUS p)) 0 2 = 1

/-- The PLL is relocking. -/
def State.pllBusy (s : State) (p : Nat) : Bool := s.bit (Obj.CLK_PLL_STATUS p) 2

/-- PLL_LOCKED follows the PLLs. -/
def State.pllShow (s : State) (p : Nat) : State := s.setBit Obj.CLK_STATUS p (s.pllDrives p)

/-- What a domain does on BYP200, whatever put it there (Table 14.6): the carrier unit masks and protection halves its
counts, the DRAM refreshes itself. The service domain's silence is read from the PLL's status. -/
def State.domainBypassed (s : State) (p : Nat) : State :=
  if p = 3 then (s.carClockLost).setBit Obj.PRT_STATUS 3 true
  else if p = 5 then s.cmtDramLost
  else s

/-- A lock attempt begins: the output is on BYP200, and an entry that is not VALID refuses the lock (R355 to R358).
DEDUCED (log entry 71): unsafe. -/
def State.pllStart (s : State) (p kind : Nat) : State :=
  let bits := 2 + 4 + if s.pllBand p then 0 else 16
  let s1 := (s.put (Obj.CLK_PLL_STATUS p) bits).withClk fun c => { c with relock := c.relock.set p kind }
  (s1.pllShow p).domainBypassed p

/-- One analog PLL loses lock: counted, source 484, its overrun, and one relock attempt (R356, R359). DEDUCED (log entry 71): unsafe. -/
def State.pllLossOne (s : State) (p : Nat) : State :=
  if !s.bit (Obj.CLK_PLL_STATUS p) 0 then s else
  let s1 := ((s.bump (Obj.CLK_PLL_LOSS_COUNT p)).count 0x0F).raise 484
  let s2 := (s1.journalFull 484 p [] 0x0F false false).pllStart p 2
  if p ≤ 3 then s2.overrun 5 p else s2

/-- A loss of lock, with the carrier PLL's loss of its reference in the time PLL (Table 14.6). -/
def State.pllLoss (s : State) (p : Nat) : State :=
  let s1 := s.pllLossOne p
  if p = 2 then s1.pllLossOne 3 else s1

/-- The crystal is lost: every analog PLL loses its reference (R352). -/
def State.crystalLost (s : State) : State :=
  if s.bit Obj.CLK_STATUS 7 then s else
  let s1 := ((s.setBit Obj.CLK_STATUS 7 true).dpllEnter 4).event 482 noSubject []
  s1.forAll (List.range 6) State.pllLossOne

/-- The crystal is back: FREE (Table 14.3). -/
def State.crystalBack (s : State) : State :=
  if s.dpll = 4 then (s.setBit Obj.CLK_STATUS 7 false).dpllEnter 0 else s

/-- A relock or change ends in lock, and 20 us later the output is switched back, unless BYPASS holds it (R357, R358). -/
def State.pllDone (s : State) (p : Nat) : State :=
  if !s.pllBusy p || s.bit (Obj.CLK_PLL_STATUS p) 4 then s else
  let hold := s.bit (Obj.CLK_PLL_CTRL p) 2
  let kind := s.clk.relock.getD p 0
  let s1 := (s.put (Obj.CLK_PLL_STATUS p) (if hold then 3 else 1)).withClk fun c => { c with relock := c.relock.set p 0 }
  let s2 := s1.pllShow p
  let s3 := if p = 3 && !hold then s2.setBit Obj.PRT_STATUS 3 false else s2
  if kind = 2 then
    ((s3.bump (Obj.CLK_PLL_RELOCK_TRANSIENT p)).raise 485).siteOutcome 0x0A 485 p [] false
  else s3

/-- No lock within 500 us: lasting (R357). -/
def State.pllTimeout (s : State) (p : Nat) : State :=
  if !s.pllBusy p then s else
  let s1 := s.put (Obj.CLK_PLL_STATUS p) (2 + 8 + if s.bit (Obj.CLK_PLL_STATUS p) 4 then 16 else 0)
  let s2 := s1.withClk fun c => { c with relock := c.relock.set p 0 }
  ((s2.bump (Obj.CLK_PLL_LASTING p)).raise 486).siteOutcome 0x0A 486 p [] true

/-- A change of CLK_PLL_CTRL passes through bypass; the time PLL takes the carrier PLL with it (R358). -/
def State.pllCtrl (s : State) (p v : Nat) : State :=
  if s.getN (Obj.CLK_PLL_CTRL p) = v then s else
  let s1 := (s.put (Obj.CLK_PLL_CTRL p) v).pllStart p 3
  if p = 2 then s1.pllStart 3 3 else s1

/-- CLK_PLL_RELOCK: each lasting PLL named tries again (R357). -/
def State.pllRetry (s : State) (mask : Nat) : State :=
  s.forAll ((List.range 6).filter fun p => bitOf mask p) fun s p =>
    if s.bit (Obj.CLK_PLL_STATUS p) 3 then s.pllStart p 2 else s

/-- The band tables take the production values of OTP (R355), and every PLL starts through bypass.
DESIGN CHOICE (log entry 72): unsafe. -/
def State.pllBoot (s : State) : State :=
  let s1 := s.forAll (List.range 6) fun s p =>
    s.forAll (List.range 64) fun s e => s.put (Obj.CLK_BAND p e) (Config.bandWord p e).toNat
  s1.forAll (List.range 6) fun s p => s.pllStart p 1

/-- Every start that is still under way has ended in lock. -/
def State.pllAllDone (s : State) : State :=
  s.forAll (List.range 6) fun s p => if s.clk.relock.getD p 0 = 1 then s.pllDone p else s

/-! ## Quad PLLs -/

/-- A quad PLL loses lock: counted, source 487 (Table 14.14), one relock attempt (R357). Its lanes follow (R279). -/
def State.quadLoss (s : State) (q : Nat) : State :=
  if !s.bit (Obj.CLK_QUAD_STATUS q) 0 then s else
  let s1 := ((((s.setBit (Obj.CLK_QUAD_STATUS q) 0 false).bump (Obj.CLK_QUAD_LOSS_COUNT q)).count 0x10).raise 487)
  (s1.journalFull 487 q [] 0x10 false false).withClk fun c => { c with quadRelock := c.quadRelock.set q true }

/-- A quad PLL relocks, after a loss as transient (R357). -/
def State.quadDone (s : State) (q : Nat) : State :=
  if !s.clk.quadRelock.getD q false then s else
  let s1 := (s.setBit (Obj.CLK_QUAD_STATUS q) 0 true).withClk fun c =>
    { c with quadRelock := c.quadRelock.set q false, quadLasting := c.quadLasting.set q false }
  (s1.raise 485).siteOutcome 0x0A 485 (6 + q) [] false

/-- A quad PLL does not relock within 500 us. -/
def State.quadTimeout (s : State) (q : Nat) : State :=
  if !s.clk.quadRelock.getD q false then s else
  let s1 := s.withClk fun c => { c with quadRelock := c.quadRelock.set q false, quadLasting := c.quadLasting.set q true }
  (s1.raise 486).siteOutcome 0x0A 486 (6 + q) [] true

/-- The quad PLLs start with the device (13 of them). -/
def State.quadStart (s : State) : State :=
  s.forAll (List.range 13) fun s q => s.setBit (Obj.CLK_QUAD_STATUS q) 0 true

/-- The service PLL drives its domain: without it Ethernet and CAN are stopped (Table 14.6). -/
def State.served (s : State) : Bool := s.pllDrives 4

/-! ## Rails and junction temperature -/

/-- VDD_CORE's target in mV: the AVS target, in LUNAR PWR_LUNAR_VCORE. -/
def State.coreTarget (s : State) : Nat :=
  if s.devState = stLunar then s.getN Obj.PWR_LUNAR_VCORE else s.getN Obj.AGE_VCORE_NOW

/-- The operating range of a rail in mV (Table 20.4), VDD_CORE within 3 % of its target. -/
def State.railOk (s : State) (i mv : Nat) : Bool :=
  if i = 0 then
    let t := s.coreTarget
    97 * t ≤ 100 * mv && 100 * mv ≤ 103 * t && 630 ≤ mv && mv ≤ 875
  else
    let (lo, hi) := [(0, 0), (776, 824), (873, 927), (1164, 1236), (1010, 1120), (470, 570), (1700, 1950), (1710, 1890),
      (3135, 3465)].getD i (0, 0)
    lo ≤ mv && mv ≤ hi

/-- One rail's sample: latest, extremes, and the start of an excursion (R360). -/
def State.railSample (s : State) (i mv : Nat) : State :=
  let s1 := s.put (Obj.PWR_RAIL_MV i) mv
  let s2 := s1.put (Obj.PWR_RAIL_HIGH i) (max (s1.get (Obj.PWR_RAIL_HIGH i)) mv)
  let s3 := s2.put (Obj.PWR_RAIL_LOW i) (min (s2.get (Obj.PWR_RAIL_LOW i)) mv)
  let out := !s.railOk i mv
  let s4 := if out && !bitOf s.clk.railsOut i then
      ((s3.count 0x1A).raise 490).journalFull 490 (i + 1) (bytesOf mv 4) 0x1A false false
    else s3
  s4.withClk fun c => { c with railsOut := withBit c.railsOut i out }

/-- The monitors sample rails (mV), Tj (0.1 degC) and, with AVS running, the core current (mA) once every 1 ms (R360,
R361). -/
def State.railsSampled (s : State) (mv : List Nat) (tj : Int) (current : Nat) : State :=
  let s1 := (mv.take 9).zipIdx.foldl (fun s (e : Nat × Nat) => s.railSample e.2 e.1) s
  let s2 := s1.setBit Obj.PWR_STATUS 1 (s1.clk.railsOut ≠ 0)
  let s3 := s2.put Obj.PWR_TJ tj
  let s4 := s3.put Obj.PWR_TJ_HIGH (max (s3.get Obj.PWR_TJ_HIGH) tj)
  let s5 := s4.put Obj.PWR_TJ_LOW (min (s4.get Obj.PWR_TJ_LOW) tj)
  let out := tj < -400 || 1100 < tj
  let s6 := if out && !s.bit Obj.PWR_STATUS 2 then
      ((s5.count 0x1B).raise 491).journalFull 491 noSubject (bytesOf (unsigned 32 tj) 4) 0x1B false false
    else s5
  let s7 := s6.setBit Obj.PWR_STATUS 2 out
  if s7.bit Obj.PWR_STATUS 0 then s7.put Obj.PWR_CORE_CURRENT current else s7

/-- PWR_EXTREMES_CLEAR (R360). -/
def State.extremesClear (s : State) : State :=
  let s1 := s.forAll (List.range 9) fun s i => (s.put (Obj.PWR_RAIL_HIGH i) 0).put (Obj.PWR_RAIL_LOW i) 0xFFFF
  (s1.put Obj.PWR_TJ_HIGH (-32768)).put Obj.PWR_TJ_LOW 32767

/-- Power of one lane in mW (R292, Table 11.8): by its rate, less for a sleeping direction, 4 mW when DISABLED or DOWN.
DEDUCED (log entry 48): unsafe. -/
def State.lanePower (s : State) (k : Nat) : Int :=
  let asleep := field (s.getN (Obj.LAN_STATUS k)) 4 2
  let rate := s.getN (Obj.LAN_RATE_NOW k)
  if s.get (Obj.LAN_STATE k) = 0 ∨ s.get (Obj.LAN_STATE k) = 7 ∨ asleep = 3 then 4
  else if asleep = 0 then [141, 124, 92, 83, 68].getD rate 141
  else [80, 71, 54, 49, 42].getD rate 80

/-- PWR_POWER_EST and PWR_UPDATE_ENERGY, once a second: measured VDD_CORE power, and the fixed parts of Table 14.8 with the
lanes at their settings (R363). DEDUCED (log entry 48): unsafe. -/
def State.powerEstimate (s : State) : State :=
  let core := roundAway ((s.get (Obj.PWR_RAIL_MV 0) * s.get Obj.PWR_CORE_CURRENT : Int) / 1000 : Rat)
  let lanes := (List.range 50).foldl (fun (m : Int) k => m + s.lanePower k) 0
  let p := saturateU 32 (core + 16350 - 7050 + lanes)
  let s1 := s.put Obj.PWR_POWER_EST p
  let n := s1.submodules.length
  if n = 0 then s1 else
  s1.put Obj.PWR_UPDATE_ENERGY (saturateU 32 (roundAway ((p * s1.period : Int) / (n : Rat))))

/-! ## Sleep and wake -/

/-- Enabled wake sources. -/
def State.wakeEnabled (s : State) : Nat := s.getN Obj.PWR_WAKE_EN % 256

/-- May a sleep request be accepted (R365)? -/
def State.sleepAllowed (s : State) : Bool :=
  (s.devState = stConfig || s.devState = stBlocked) && s.wakeEnabled ≠ 0 && s.clk.sleep = 0

/-- An accepted sleep request: latches armed, and the values frozen at once (R365, R463). -/
def State.sleepAccept (s : State) : State :=
  let s1 := (s.put Obj.PWR_SLEEP_STATUS 1).put Obj.PWR_WAKE_CAUSE 0
  let s2 := { (s1.setBit Obj.PWR_STATUS 3 true).raise 492 with aon := { s1.aon with wakeLatch := 0 } }
  let s3 := s2.withClk fun c => { c with sleep := 1, fromBlocked := s2.devState = stBlocked, wakeDue := false }
  s3.freezeNow.demandFlush

/-- The request ends without LUNAR. -/
def State.sleepEnd (s : State) (status : Nat) : State :=
  (((s.put Obj.PWR_SLEEP_STATUS status).setBit Obj.PWR_STATUS 3 false).raise 493).withClk fun c => { c with sleep := 0 }

/-- A latched wake aborts the sleep (R366). -/
def State.sleepAborted (s : State) : State :=
  let s1 := (s.sleepEnd 3).put Obj.PWR_WAKE_CAUSE s.aon.wakeLatch
  ((s1.bump Obj.PWR_SLEEP_ABORT_COUNT).count 0x25).journalFull 493 noSubject (bytesOf s.aon.wakeLatch 4) 0x25 false false

/-- PWR_SLEEP_GRACE passes without ready: the wake wins if one is latched (Table 14.13). -/
def State.graceExpired (s : State) : State :=
  if s.clk.sleep ≠ 1 then s
  else if s.aon.wakeLatch ≠ 0 then s.sleepAborted
  else s.sleepEnd 4

/-- The commit point is passed: what the clock unit itself stops (Table 14.11). -/
def State.sleepCommit (s : State) : State :=
  let s1 := (s.setBit Obj.PWR_STATUS 3 false).withClk fun c => { c with sleep := 2, commitAt := s.now }
  let s2 := s1.forAll (List.range 6) fun s p => (s.put (Obj.CLK_PLL_STATUS p) 2).pllShow p
  s2.withClk fun c => { c with relock := List.replicate 6 0 }

/-- The wake sequence begins: VDD_CORE returns to its target, and every PLL starts through bypass (R368).
DESIGN CHOICE (log entry 103): unsafe. -/
def State.wakeBegin (s : State) : State :=
  let s0 := s.emit (.record 0x300 [s.getN Obj.AGE_VCORE_NOW])
  let s1 := s0.withClk fun c => { c with sleep := 4, wakeAt := s.now, wakeDue := false }
  s1.forAll (List.range 6) fun s p => s.pllStart p 1

/-- LUNAR is reached; a wake that came after the commit point begins at once (R366). -/
def State.lunarEntered (s : State) : State :=
  if s.clk.sleep ≠ 2 then s else
  let s1 := (s.setState stLunar 0).bump Obj.PWR_LUNAR_COUNT
  let s2 := s1.withClk fun c => { c with sleep := 3, lunarAt := s.now }
  if s2.clk.wakeDue then s2.wakeBegin else s2

/-- A wake source of Table 14.12 fires: latched before the commit point, and a wake after it (R366, R367). -/
def State.wakeEvent (s : State) (src : Nat) : State :=
  if !bitOf s.wakeEnabled src then s
  else if s.clk.sleep = 1 then { s with aon := { s.aon with wakeLatch := withBit s.aon.wakeLatch src true } }
  else if s.clk.sleep = 0 then s
  else
    let s1 := s.setBit Obj.PWR_WAKE_CAUSE src true
    if s1.clk.sleep = 2 then s1.withClk fun c => { c with wakeDue := true }
    else if s1.clk.sleep = 3 then s1.wakeBegin
    else s1

/-- What the clock unit records when the wake is complete (R368). -/
def State.wakeDone (s : State) : State :=
  let s1 := s.pllAllDone.withClk fun c => { c with sleep := 0 }
  let secs := (s.clk.wakeAt - s.clk.lunarAt) / 1000000000
  let s2 := (s1.put Obj.PWR_LUNAR_TIME secs).countBy 0x04 secs
  ((s2.put Obj.PWR_WAKE_TIME ((s.now - s.clk.wakeAt) / 1000 : Nat)).put Obj.PWR_SLEEP_STATUS 2).raise 494

end Sys2Proof.Machine
end

