-- ==== Sys2Proof/Machine/Lanes.lean ====
section
/-!
DEFINITION. The serial lanes (chapter 11): bring-up, rate negotiation, transmit-equaliser training, loss of lock and relock,
eye scan, loopback and sleep. What a lost lane does to its ring pair or cascade group stands in Link.lean.
-/

namespace Sys2Proof.Machine

/-- The record of a lane. -/
def State.lane (s : State) (k : Nat) : Option Lane := s.lan.lanes[k]?

/-- Changes the record of a lane. -/
def State.withLane (s : State) (k : Nat) (f : Lane → Lane) : State :=
  { s with lan := { s.lan with lanes := updateAt s.lan.lanes k f } }

/-- LAN_STATE values (Table 11.3). -/
abbrev lanDisabled : Nat := 0
/-- CAP_EXCHANGE. -/
abbrev lanCap : Nat := 1
/-- RATE_SWITCH. -/
abbrev lanSwitch : Nat := 2
/-- TRAIN. -/
abbrev lanTrain : Nat := 3
/-- VERIFY. -/
abbrev lanVerify : Nat := 4
/-- ACTIVE. -/
abbrev lanActive : Nat := 5
/-- RELOCK. -/
abbrev lanRelock : Nat := 6
/-- DOWN. -/
abbrev lanDown : Nat := 7

/-- LAN_STATE of a lane. -/
def State.lanState (s : State) (k : Nat) : Nat := s.getN (Obj.LAN_STATE k)

/-- The lane is ACTIVE. -/
def State.lanUp (s : State) (k : Nat) : Bool := decide (k < 50) && s.lanState k = lanActive

/-- Sources of a lane: lock, and events (R294, R320). -/
def lockSource (k : Nat) : Nat := if k < 48 then 2 * k else 149 + 2 * (k - 48)

/-- An event of Table 11.9. -/
def State.lanEvent (s : State) (k code : Nat) : State := (s.raise (lockSource k + 1)).put (Obj.LAN_LAST_EVENT k) code

/-- The quad PLL that clocks a lane (Table 11.1). -/
def quadOf (k : Nat) : Nat := if k < 48 then k % 12 else 12

/-- The device is configured with a partner. -/
def State.hasPartner (s : State) : Bool := s.bit Obj.RED_CTRL 0

/-- The arm of a ring pair: 0 to 5, 0xFE cascade, 0xFF unused. -/
def State.pairArm (s : State) (p : Nat) : Nat := s.getN (Obj.LNK_PAIR_ARM p)

/-- A ring pair that carries nodes. -/
def State.valvePair (s : State) (p : Nat) : Bool := decide (p < 24) && s.pairArm p ≤ 5 && s.get (Obj.LNK_PAIR_NODES p) ≠ 0

/-- The lane belongs to a cascade group. -/
def State.cascLane (s : State) (k : Nat) : Bool := decide (k < 48) && s.pairArm (k / 2) = 0xFE

/-- The lane is in use (R271). -/
def State.lanUsed (s : State) (k : Nat) : Bool :=
  if k < 48 then s.valvePair (k / 2) || s.cascLane k else decide (k < 50) && s.hasPartner

/-- The lane may sleep (R288). -/
def State.lanSleeps (s : State) (k : Nat) : Bool := s.cascLane k || decide (48 ≤ k ∧ k < 50)

/-- A lane takes a state. -/
def State.lanEnter (s : State) (k st : Nat) : State :=
  let s1 := s.put (Obj.LAN_STATE k) st
  (s1.setBit Obj.LAN_ACTIVE_MAP k (st = lanActive)).withLane k fun l => { l with stateAt := s.now }

/-- A scan of the lane is aborted (R284). -/
def State.eyeAbort (s : State) : State :=
  match s.lan.scan with
  | none => s
  | some e => ({ s with lan := { s.lan with scan := none } }.put Obj.LAN_EYE_STATUS 3).lanEvent e.lane 5

/-- A scan of lane k, if one runs, is aborted. -/
def State.eyeLeave (s : State) (k : Nat) : State := if (s.lan.scan.map (·.lane)) = some k then s.eyeAbort else s

/-- LAN_STATUS bits that a bring-up clears: BLOCK_LOCK, HI_BER, NO_COMMON, RATE_MISMATCH and the sleeps. -/
def State.lanClear (s : State) (k : Nat) : State :=
  s.put (Obj.LAN_STATUS k) ((s.getN (Obj.LAN_STATUS k) / 64 * 64 : Nat))

/-- CAP_EXCHANGE is entered for an attempt: capability sets at 3.125 Gb/s (R271, R274). -/
def State.lanAttempt (s : State) (k attempt : Nat) : State :=
  let s1 := ((s.lanClear k).lanEnter k lanCap).put (Obj.LAN_RATE_NOW k) 4
  let s2 := s1.withLane k fun l =>
    { l with attempt := attempt, startAt := s.now, capSeen := 0, capRun := 0, ackRun := 0, ackSent := false, ready := false,
             readyRun := 0, waiting := false, trial := false, answered := none }
  s2.emit (.lane k 0xC1 (s2.get (Obj.LAN_RATE_SET k) + 512))

/-- The lane goes to electrical idle with its receiver off. -/
def State.lanOff (s : State) (k : Nat) : State :=
  if s.lanState k = lanDisabled then s else
  (((s.eyeLeave k).lanClear k).lanEnter k lanDisabled).put (Obj.LAN_RATE_NOW k) 0xFF

/-- Every lane is DISABLED, and no loopback or test is selected: CONFIG, LUNAR and resets (R271, R287). -/
def State.lanAllOff (s : State) : State := s.forAll (List.range 50) fun s k => (s.put (Obj.LAN_LOOPBACK k) 0).lanOff k

/-- LINKUP is entered: loopbacks and tests end, and every lane in use starts (R271, R287). -/
def State.lanLinkup (s : State) : State :=
  s.forAll (List.range 50) fun s k =>
    let s1 := (s.put (Obj.LAN_LOOPBACK k) 0).lanOff k
    if s1.lanUsed k then s1.lanAttempt k 1 else s1

/-- The attempt fails: the first is followed by a second, the second is lasting (R272). -/
def State.lanFail (s : State) (k : Nat) : State :=
  let st := s.lanState k
  match s.lane k with
  | none => s
  | some l =>
    if st = 0 ∨ 4 < st then s
    else if l.attempt = 1 then s.lanAttempt k 2
    else
      let s1 := ((s.lanClear k).lanEnter k lanDown).put (Obj.LAN_RATE_NOW k) 0xFF
      let s2 := s1.put (Obj.LAN_STATUS k) (withField (s1.getN (Obj.LAN_STATUS k)) 7 4 st : Nat)
      ((s2.bump (Obj.LAN_TRAIN_FAIL k)).lanEvent k 2).siteOutcome 0x04 (lockSource k + 1) k (bytesOf st 4) true

/-- A set whose reserved bits are not 0 is discarded and counted (R273). -/
def State.lanDiscard (s : State) (k : Nat) : State := s.bump (Obj.LAN_SH_ERRORS k)

/-! ## Negotiation -/

/-- The lowest index offered by both sides (R274). -/
def State.lanCommon (s : State) (k d2 : Nat) : Option Nat :=
  (List.range 5).find? fun i => bitOf (s.getN (Obj.LAN_RATE_SET k)) i && bitOf d2 i && (k < 48 || i = 0)

/-- A CAP set (R273, R274). DEDUCED (log entry 60): unsafe. -/
def State.lanCap (s : State) (k d2 d3 : Nat) : State :=
  match s.lane k with
  | none => s
  | some l =>
    let st := s.lanState k
    if 32 ≤ d2 ∨ 4 ≤ d3 then s.lanDiscard k
    else if st = lanSwitch then
      if 128 * (s.now - l.stateAt) ≤ 32 * ([676, 819, 1352, 1690, 2703].getD l.rate 676) then s else s.lanFail k
    else if st = lanTrain ∨ st = lanVerify then s.lanFail k
    else if st ≠ Sys2Proof.Machine.lanCap then s
    else
      let content := d2 + 256 * d3
      let run := if l.capRun ≠ 0 && l.capSeen = content then l.capRun + 1 else 1
      let ack := bitOf d3 0
      let s1 := s.withLane k fun l => { l with capSeen := content, capRun := run, ackRun := if ack then l.ackRun + 1 else 0 }
      let s2 := (s1.put (Obj.LAN_PARTNER_CAPS k) d2).setBit (Obj.LAN_STATUS k) 6 (bitOf d3 1)
      let s3 := if run < 16 then s2 else
        match s2.lanCommon k d2 with
        | none => if s2.bit (Obj.LAN_STATUS k) 2 then s2 else (s2.setBit (Obj.LAN_STATUS k) 2 true).lanEvent k 7
        | some r =>
          if l.ackSent then s2 else
          ((s2.withLane k fun l => { l with ackSent := true, rate := r }).setBit (Obj.LAN_STATUS k) 2 false).emit
            (.lane k 0xC1 (s2.get (Obj.LAN_RATE_SET k) + 768))
      match s3.lane k with
      | none => s3
      | some l3 =>
        if l3.ackSent && 16 ≤ l3.ackRun then
          ((s3.emit (.lane k 0xC2 l3.rate)).lanEnter k lanSwitch).put (Obj.LAN_RATE_NOW k) l3.rate
        else s3

/-- A RATE_GO set: another index than the one selected fails the attempt, as does one out of place (R272, R273).
DEDUCED (log entry 60): unsafe. -/
def State.lanRateGo (s : State) (k d2 : Nat) : State :=
  match s.lane k with
  | none => s
  | some l =>
    let st := s.lanState k
    if 8 ≤ d2 then s.lanDiscard k
    else if st = Sys2Proof.Machine.lanCap then (if l.ackSent && d2 = l.rate then s else s.lanFail k)
    else if st = lanSwitch then (if d2 = l.rate then s else s.lanFail k)
    else s.lanFail k

/-! ## Training -/

/-- Taps as pre, main, post (Table 11.13). -/
def tapsOf (v : Nat) : Nat × Nat × Nat := (field v 0 5, field v 5 7, field v 12 5)

/-- The word of three taps. -/
def tapsWord (pre main post : Int) : Int := pre + 32 * main + 4096 * post

/-- The limits of R276. -/
def tapsOk (pre main post : Int) : Bool :=
  0 ≤ pre && pre ≤ 12 && 0 ≤ post && post ≤ 24 && 28 ≤ main && main ≤ 64 && pre + main + post ≤ 64 && 16 ≤ main - pre - post

/-- One field of a tap request: hold, increment, decrement, return to initial. -/
def tapStep (req : Nat) (v init : Int) : Int := if req = 1 then v + 1 else if req = 2 then v - 1 else if req = 3 then init else v

/-- The status of one field. -/
def tapStatus (req : Nat) (made : Bool) (v init : Int) : Nat :=
  if req = 0 then 0 else if made then 1 else if req = 1 ∨ (req = 3 ∧ v < init) then 3 else 2

/-- A tap request applied to the taps: the new taps and the status bits; the whole request where its result keeps the limits,
else field by field, pre, main, post (R277). DEDUCED (log entry 58): unsafe. -/
def tapApply (req taps init : Nat) : Int × Nat :=
  let (p, m, q) := tapsOf taps
  let (ip, im, iq) := tapsOf init
  let rp := field req 0 2
  let rm := field req 2 2
  let rq := field req 4 2
  let p' := tapStep rp p ip
  let m' := tapStep rm m im
  let q' := tapStep rq q iq
  if tapsOk p' m' q' then
    (tapsWord p' m' q', tapStatus rp true p ip + 4 * tapStatus rm true m im + 16 * tapStatus rq true q iq)
  else
    let okp := tapsOk p' m q
    let p1 := if okp then p' else (p : Int)
    let okm := tapsOk p1 m' q
    let m1 := if okm then m' else (m : Int)
    let okq := tapsOk p1 m1 q'
    let q1 := if okq then q' else (q : Int)
    (tapsWord p1 m1 q1, tapStatus rp okp p ip + 4 * tapStatus rm okm m im + 16 * tapStatus rq okq q iq)

/-- A TAP_REQ set: applied once and answered; RX_READY of both sides for 32 sets ends training (R277, Table 11.3).
DEDUCED (log entry 58): unsafe. -/
def State.lanTapReq (s : State) (k d2 seq : Nat) : State :=
  match s.lane k with
  | none => s
  | some l =>
    if bitOf d2 7 then s.lanDiscard k
    else if s.lanState k ≠ lanTrain then s.lanFail k
    else
      let s1 := match l.answered with
        | some (q, st) =>
          if q = seq then s.emit (.lane k 0xC4 (st + 256 * seq : Nat)) else
          let (taps, st') := tapApply d2 (s.getN (Obj.LAN_TX_TAPS k)) (s.getN (Obj.LAN_TX_INIT k))
          ((s.put (Obj.LAN_TX_TAPS k) taps).withLane k fun l => { l with answered := some (seq, st') }).emit
            (.lane k 0xC4 (st' + 256 * seq : Nat))
        | none =>
          let (taps, st') := tapApply d2 (s.getN (Obj.LAN_TX_TAPS k)) (s.getN (Obj.LAN_TX_INIT k))
          ((s.put (Obj.LAN_TX_TAPS k) taps).withLane k fun l => { l with answered := some (seq, st') }).emit
            (.lane k 0xC4 (st' + 256 * seq : Nat))
      let run := if bitOf d2 6 && l.ready then l.readyRun + 1 else 0
      let s2 := s1.withLane k fun l => { l with readyRun := run }
      if 32 ≤ run then s2.lanEnter k lanVerify else s2

/-- The request bits of a move, forward or reversed. -/
def moveBits (move : Nat) (reverse : Bool) : Nat :=
  let lo := [4, 4, 0, 0, 2, 2].getD move 4
  (if (move % 2 = 0) = ¬reverse then 1 else 2) * 2 ^ lo

/-- The receiver sends its next request, or RX_READY. DEDUCED (log entry 59): unsafe. -/
def State.lanRequest (s : State) (k bits : Nat) : State :=
  let s1 := (s.bump (Obj.LAN_REQ_COUNT k)).withLane k fun l => { l with seq := (l.seq + 1) % 256, waiting := true }
  s1.emit (.lane k 0xC3 (bits + 256 * ((s1.lane k).map (·.seq)).getD 0 : Nat))

/-- The receiver is satisfied, or 64 requests are spent (R278). -/
def State.lanReady (s : State) (k : Nat) (capped : Bool) : State :=
  ((s.setBit (Obj.LAN_STATUS k) 11 capped).withLane k fun l => { l with ready := true, readyRun := 0 }).emit (.lane k 0xC3 64)

/-- The next trial step of the receiver. DEDUCED (log entry 59): unsafe. -/
def State.lanTrial (s : State) (k : Nat) (flat move : Nat) (base : Int) : State :=
  if 6 ≤ flat then s.lanReady k false
  else if 64 ≤ s.getN (Obj.LAN_REQ_COUNT k) then s.lanReady k true
  else
    (s.withLane k fun l => { l with flat := flat, move := move, base := base, trial := true, made := false }).lanRequest k
      (moveBits move false)

/-- The eye height of a setting is known after 40 us: the step is kept or reversed, and the next begins (R278). -/
def State.lanEvaluated (s : State) (k : Nat) (height : Int) : State :=
  match s.lane k with
  | none => s
  | some l =>
    if s.lanState k ≠ lanTrain || l.ready || l.waiting then s
    else if !l.trial then s.lanTrial k l.flat l.move height
    else
      let gain := height - l.base
      if l.made && gain ≤ 0 then
        if 64 ≤ s.getN (Obj.LAN_REQ_COUNT k) then s.lanReady k true else
        (s.withLane k fun l => { l with trial := false, flat := l.flat + 1, move := (l.move + 1) % 6 }).lanRequest k
          (moveBits l.move true)
      else if !l.made then s.lanTrial k (l.flat + 1) ((l.move + 1) % 6) l.base
      else if 2 < gain then s.lanTrial k 0 l.move height
      else s.lanTrial k (l.flat + 1) ((l.move + 1) % 6) height

/-- A TAP_STATUS set: the request under way is answered (R277). -/
def State.lanTapStatus (s : State) (k d2 seq : Nat) : State :=
  match s.lane k with
  | none => s
  | some l =>
    if 64 ≤ d2 then s.lanDiscard k
    else if s.lanState k ≠ lanTrain then s.lanFail k
    else if l.waiting && seq = l.seq then
      let lo := [4, 4, 0, 0, 2, 2].getD l.move 4
      s.withLane k fun l => { l with waiting := false, made := field d2 lo 2 = 1 }
    else s

/-! ## Lock -/

/-- The pair's ports must be ACTIVE at one rate, not below LAN_RATE_MIN (R275). -/
def State.lanPairRate (s : State) (k : Nat) : State :=
  let a := k / 2 * 2
  if 48 ≤ k || !s.valvePair (k / 2) || !(s.lanUp a && s.lanUp (a + 1)) then s else
  let r := s.getN (Obj.LAN_RATE_NOW a)
  let bad := r ≠ s.getN (Obj.LAN_RATE_NOW (a + 1)) || s.getN Obj.LAN_RATE_MIN < r
  [a, a + 1].foldl (fun s j =>
    let s1 := if bad && !s.bit (Obj.LAN_STATUS j) 3 then s.lanEvent j 6 else s
    s1.setBit (Obj.LAN_STATUS j) 3 bad) s

/-- VERIFY passed: ACTIVE (R271, R272). -/
def State.lanVerified (s : State) (k : Nat) : State :=
  match s.lane k with
  | none => s
  | some l =>
    if s.lanState k ≠ lanVerify then s else
    let s1 := (s.lanEnter k lanActive).put (Obj.LAN_BRINGUP_TIME k) (saturateU 32 ((s.now - l.startAt) / 1000 : Nat))
    let s2 := (s1.put (Obj.LAN_CLEAN_CYCLES k) 0).withLane k fun l => { l with unclean := true, headers := 0 }
    let s3 := (s2.lanEvent k 1).lanPairRate k
    if l.attempt = 2 then (s3.bump (Obj.LAN_TRAIN_RETRY k)).siteOutcome 0x04 (lockSource k + 1) k [] false else s3

/-- Block lock is gained: RATE_SWITCH goes to TRAIN with the initial taps, RELOCK to ACTIVE, a sleeping direction is awake
(R271, R276, R280, R289). -/
def State.lanLock (s : State) (k : Nat) : State :=
  let st := s.lanState k
  if st = lanDisabled ∨ st = lanDown ∨ 50 ≤ k then s else
  let s1 := s.setBit (Obj.LAN_STATUS k) 0 true
  if st = lanSwitch then
    let s2 := ((s1.put (Obj.LAN_TX_TAPS k) (s1.get (Obj.LAN_TX_INIT k))).put (Obj.LAN_REQ_COUNT k) 0).lanEnter k lanTrain
    (s2.setBit (Obj.LAN_STATUS k) 11 false).withLane k fun l =>
      { l with answered := none, seq := 0, waiting := false, move := 0, base := 0, trial := false, made := false, flat := 0,
               ready := false, readyRun := 0 }
  else if st = lanRelock then
    let s2 := ((s1.setBit (Obj.LAN_STATUS k) 1 false).lanEnter k lanActive).raise (lockSource k)
    ((s2.bump (Obj.LAN_RELOCK_TRANSIENT k)).siteOutcome 0x05 (lockSource k) k [] false).lanPairRate k
  else if st = lanActive then s1.setBit (Obj.LAN_STATUS k) 5 false
  else s1

/-- An ACTIVE lane has lost lock (R279). -/
def State.lanLost (s : State) (k : Nat) : State :=
  if !s.lanUp k then s else
  let s1 := ((s.setBit (Obj.LAN_STATUS k) 0 false).setBit (Obj.LAN_STATUS k) 5 false).lanEnter k lanRelock
  let s2 := ((s1.bump (Obj.LAN_LOCK_LOSS k)).put (Obj.LAN_CLEAN_CYCLES k) 0).raise (lockSource k)
  (s2.withLane k fun l => { l with unclean := true }).eyeLeave k

/-- A loss of lock outside ACTIVE: after RATE_SWITCH it fails the attempt (R272). -/
def State.lanLostEarly (s : State) (k : Nat) : State :=
  let st := s.lanState k
  if st = lanTrain ∨ st = lanVerify then s.lanFail k
  else if st = Sys2Proof.Machine.lanCap ∨ st = lanSwitch then s.setBit (Obj.LAN_STATUS k) 0 false
  else s

/-- A state's timeout: an attempt fails, RELOCK is lasting (R271, R272, R280). DEDUCED (log entry 7): safe. -/
def State.lanTimeout (s : State) (k : Nat) : State :=
  let st := s.lanState k
  if st = lanRelock then
    let s1 := ((s.lanClear k).lanEnter k lanDown).put (Obj.LAN_RATE_NOW k) 0xFF
    (s1.lanEvent k 3).siteOutcome 0x05 (lockSource k + 1) k [] true
  else s.lanFail k

/-- 100 ms in DOWN: a fresh pair of attempts (R272). -/
def State.lanRetry (s : State) (k : Nat) : State := if s.lanState k = lanDown then s.lanAttempt k 1 else s

/-! ## Sleep -/

/-- The transmit direction sleeps (R288, R289). -/
def State.lanTxSleep (s : State) (k : Nat) : State :=
  if s.lanUp k && s.lanSleeps k && s.bit (Obj.LAN_SLEEP_CFG k) 0 && !s.bit (Obj.LAN_STATUS k) 4 then
    ((s.emit (.lane k 0xC5 0)).setBit (Obj.LAN_STATUS k) 4 true).bump (Obj.LAN_SLEEP_COUNT k)
  else s

/-- The transmit direction wakes. -/
def State.lanTxWake (s : State) (k : Nat) : State :=
  if s.bit (Obj.LAN_STATUS k) 4 then (s.setBit (Obj.LAN_STATUS k) 4 false).emit (.lane k 0 1) else s

/-- A SLEEP set: the receive direction sleeps; before ACTIVE it is out of place (R273, R289). -/
def State.lanSleep (s : State) (k : Nat) : State :=
  if s.lanUp k then (if s.lanSleeps k then (s.setBit (Obj.LAN_STATUS k) 5 true).eyeLeave k else s)
  else s.lanFail k

/-! ## Clean cycles and error rate -/

/-- The boundary closes a cycle: `headers` are the lanes with invalid sync headers in it (R281, R282). -/
def State.lanBoundary (s : State) (headers : List (Nat × Nat)) : State :=
  let s1 := headers.foldl (fun s (h : Nat × Nat) =>
    (s.add (Obj.LAN_SH_ERRORS h.1) h.2).withLane h.1 fun l => { l with unclean := true, headers := l.headers + h.2 }) s
  s1.forAll (List.range 50) fun s k =>
    match s.lane k with
    | none => s
    | some l =>
      if !s.lanUp k then s
      else if l.unclean then (s.put (Obj.LAN_CLEAN_CYCLES k) 0).withLane k fun l => { l with unclean := false }
      else s.put (Obj.LAN_CLEAN_CYCLES k) (min 65535 (s.get (Obj.LAN_CLEAN_CYCLES k) + 1))

/-- Lane rates in bit/s. -/
def laneRate (i : Nat) : Nat := [12500000000, 10312500000, 6250000000, 5000000000, 3125000000].getD i 12500000000

/-- The bin of a bit-error estimate e: its log10 from -14 in steps of 0.2, found by comparing e^5 with powers of ten. -/
def berBin (errors bits : Nat) : Nat :=
  ((List.range 63).filter fun j => 10 ^ j * bits ^ 5 ≤ errors ^ 5 * 10 ^ 70).length

/-- The minute of an ACTIVE lane (R282). -/
def State.lanMinute (s : State) (k : Nat) : State :=
  match s.lane k with
  | none => s
  | some l =>
    if !s.lanUp k then s else
    let bits := 60 * laneRate (s.getN (Obj.LAN_RATE_NOW k))
    (s.add64 (Obj.LOG_HIST (15 + k) (berBin l.headers bits)) 1).withLane k fun l => { l with headers := 0 }

/-! ## Eye scan -/

/-- May a scan start (R283)? -/
def State.eyeAllowed (s : State) : Bool := s.lanUp (s.getN Obj.LAN_EYE_LANE) && s.lan.scan.isNone

/-- A scan starts. -/
def State.eyeStart (s : State) : State :=
  let k := s.getN Obj.LAN_EYE_LANE
  let e : Eye := { lane := k, rate := s.getN (Obj.LAN_RATE_NOW k), dwell := s.getN Obj.LAN_EYE_DWELL, gen := 0,
                   start := s.time32, taps := s.getN (Obj.LAN_TX_TAPS k), startAt := s.now, counts := [] }
  ({ s with lan := { s.lan with scan := some e } }.put Obj.LAN_EYE_STATUS 1).put Obj.LAN_EYE_PROGRESS 0

/-- Points done by now in a running scan (LAN_EYE_PROGRESS): each takes 2^dwell bits. -/
def State.eyeProgress (s : State) : Int :=
  match s.lan.scan with
  | some e => (min 8192 ((s.now - e.startAt) * laneRate e.rate / (2 ^ e.dwell * 1000000000)) : Nat)
  | none => s.get Obj.LAN_EYE_PROGRESS

/-- The count at a point. -/
def Eye.at (e : Eye) (h v : Int) : Nat :=
  let i := ((v + 64) * 64 + (h + 32)).toNat
  ((e.counts.find? fun c => c.1 == i).map (·.2)).getD 0

/-- Steps open in one direction from the centre. -/
def openRun (f : Nat → Bool) : Nat → Nat → Nat
  | _, 0 => 0
  | i, n + 1 => if f i then 1 + openRun f (i + 1) n else 0

/-- LAN_EYE_WIDTH and LAN_EYE_HEIGHT (R285). -/
def Eye.width (e : Eye) : Nat :=
  if e.at 0 0 ≠ 0 then 0 else
  1 + openRun (fun i => e.at i 0 = 0) 1 31 + openRun (fun i => e.at (-(i : Int)) 0 = 0) 1 32
/-- The open height at the centre. -/
def Eye.height (e : Eye) : Nat :=
  if e.at 0 0 ≠ 0 then 0 else
  1 + openRun (fun i => e.at 0 i = 0) 1 63 + openRun (fun i => e.at 0 (-(i : Int)) = 0) 1 64

/-- The scan is complete: a new result generation (R283, R285). -/
def State.eyeDone (s : State) (counts : List (Nat × Nat)) : State :=
  match s.lan.scan with
  | none => s
  | some e =>
    let g := ((if s.hasData Obj.LAN_EYE_GEN then s.getN Obj.LAN_EYE_GEN else 0) + 1) % 2 ^ 32
    let e' := { e with gen := g, counts := counts.map fun c => (c.1, min c.2 0xFFFFFFFF) }
    let s1 := { s with lan := { s.lan with scan := none, result := some e' } }
    let s2 := ((s1.put Obj.LAN_EYE_STATUS 2).put Obj.LAN_EYE_PROGRESS 8192).put Obj.LAN_EYE_GEN g
    ((s2.put Obj.LAN_EYE_WIDTH e'.width).put Obj.LAN_EYE_HEIGHT e'.height).lanEvent e.lane 4

/-- LAN_EYE_RESULT (Table 11.6). -/
def Eye.bytes (e : Eye) : List Nat :=
  [e.lane, e.rate, e.dwell, 0] ++ bytesOf e.gen 4 ++ bytesOf e.start 4 ++ bytesOf e.taps 4 ++
  (List.range 8192).flatMap fun i => bytesOf (((e.counts.find? fun c => c.1 == i).map (·.2)).getD 0) 4

/-! ## Loopback and test -/

/-- What R270 and Table 11.7 refuse of a LAN_LOOPBACK value. -/
def loopbackOk (k v : Nat) : Bool := field v 0 3 ≤ 3 && field v 5 3 ≤ 4 && (k < 48 || field v 5 3 = 0)

/-- LAN_LOOPBACK is written: LOOPBACK, TEST or DISABLED (R286, R287). The bit errors of a pattern check come from the line, which no
command conveys: their count is a free value. DESIGN CHOICE (log entry 62): safe. -/
def State.loopback (s : State) (k v : Nat) : State :=
  let counted := s.bit (Obj.LAN_LOOPBACK k) 3 || bitOf v 3
  let s0 := if counted then (s.put (Obj.LAN_PRBS_ERRORS k) (unsigned 32 s.free : Nat)).usedFree else s
  let s1 := s0.put (Obj.LAN_LOOPBACK k) v
  if v % 32 = 0 then s1.lanOff k else
  let s2 := (s1.lanEnter k (if v % 8 ≠ 0 then 8 else 9)).put (Obj.LAN_RATE_NOW k) (v / 32 : Nat)
  s2.put (Obj.LAN_TX_TAPS k) (s2.get (Obj.LAN_TX_INIT k))

/-- The values that R276 refuses in an image. -/
def tapsWordOk (v : Nat) : Bool := let (p, m, q) := tapsOf v; tapsOk p m q

end Sys2Proof.Machine
end

