-- ==== Sys2Proof/Machine/Link.lean ====
section
/-!
DEFINITION. The link engine at the level of ring pairs and cascade groups (chapter 10): latencies (R37 to R41), modes,
enumeration, management records, the cascade. What the slots of a returned frame bring stands in Nodes.lean.
-/

namespace Sys2Proof.Machine

/-- The record of a ring pair. -/
def State.pair (s : State) (p : Nat) : Option Pair := s.lnk.pairs[p]?

/-- Changes the record of a ring pair. -/
def State.withPair (s : State) (p : Nat) (f : Pair → Pair) : State :=
  { s with lnk := { s.lnk with pairs := updateAt s.lnk.pairs p f } }

/-- Changes the link record. -/
def State.withLnk (s : State) (f : Link → Link) : State := { s with lnk := f s.lnk }

/-- The ring pairs that carry nodes. -/
def State.valvePairs (s : State) : List Nat := (List.range 24).filter s.valvePair

/-- Configured nodes of a pair. -/
def State.pairNodes (s : State) (p : Nat) : Nat := s.getN (Obj.LNK_PAIR_NODES p)

/-- LNK_PAIR_BASE: the arm index of position 0. -/
def State.pairBase (s : State) (p : Nat) : Nat :=
  (List.range p).foldl (fun n j => if s.pairArm j = s.pairArm p then n + s.pairNodes j else n) 0

/-- The global number of the node at a position of a pair (R8). -/
def State.globalOf (s : State) (p pos : Nat) : Nat := 1280 * s.pairArm p + s.pairBase p + pos

/-- The pair and position of a submodule. -/
def State.locate (s : State) (sm : Nat) : Option (Nat × Nat) :=
  (s.valvePairs.find? fun p =>
    s.pairArm p = sm / 1280 && s.pairBase p ≤ sm % 1280 && sm % 1280 < s.pairBase p + s.pairNodes p).map
    fun p => (p, sm % 1280 - s.pairBase p)

/-- LNK_PAIR_MODE values. -/
abbrev pairRing : Nat := 1
/-- Line mode. -/
abbrev pairLine : Nat := 2

/-- LNK_PAIR_MODE. -/
def State.pairMode (s : State) (p : Nat) : Nat := s.getN (Obj.LNK_PAIR_MODE p)

/-! ## Latencies -/

/-- The rate index of a pair. -/
def State.pairRate (s : State) (p : Nat) : Nat := let r := s.getN (Obj.LAN_RATE_NOW (2 * p)); if r ≤ 4 then r else 0

/-- The hop limit of Table 2.3 in ns. DEDUCED (log entry 26): unsafe. -/
def hopLimit (rate : Nat) : Nat := [12, 12, 15, 18, 29].getD rate 12

/-- Serialisation time of a number of bytes at the payload rate, in ns. DEDUCED (log entry 26): unsafe. -/
def serial (rate bytes : Nat) : Rat := (bytes * 8 * 66 * 1000000000 : Nat) / ((laneRate rate * 64 : Nat) : Rat)

/-- Line-mode latency of a port that serves k nodes over a fibre of f ns to the node that turns the frame back (R38, R41). -/
def lineLatency (rate k : Nat) (f : Rat) : Rat := serial rate (40 + 16 * k) + ((2 * k * hopLimit rate : Nat) : Rat) + 2 * f

/-- Fibre in ns from VP(2p) over the first k segments, and from VP(2p+1) over the last k. -/
def Pair.fibre (q : Pair) (k : Nat) (odd : Bool) : Rat :=
  (((if odd then q.segments.reverse else q.segments).take k).foldl (· + ·) 0 : Nat) / (16 : Rat)

/-- The latency of a break with k nodes on VP(2p) and the rest on VP(2p+1): the longer port. -/
def State.splitLatency (s : State) (p k : Nat) : Nat :=
  match s.pair p with
  | none => 0
  | some q =>
    let n := s.pairNodes p
    let a := lineLatency (s.pairRate p) k (q.fibre k false)
    let b := lineLatency (s.pairRate p) (n - k) (q.fibre (n - k) true)
    ceilN (if a ≤ b then b else a)

/-- ORB_PAIR_LINE_WORST: over every single break (R41). -/
def State.lineWorst (s : State) (p : Nat) : Nat :=
  (List.range (s.pairNodes p + 1)).foldl (fun m k => max m (s.splitLatency p k)) 0

/-- T_up of a cycle of `quarters` times 0.25 us, in ns (R32). -/
def tUp (quarters : Nat) : Int := 250 * quarters - 2900

/-- The degraded set is present in the sense of R41; what the image says of it has been loaded into ORB_DEG_SET_ID and
`degraded`. -/
def State.degPresent (s : State) : Bool :=
  match s.dict.image.bind (·.degraded) with
  | none => false
  | some (_, matches_, quarters) =>
    matches_ && quarters = s.getN Obj.ORB_DEG_PERIOD &&
    s.valvePairs.all fun p => s.get (Obj.ORB_PAIR_LINE_WORST p) ≠ 0xFFFF &&
      s.get (Obj.ORB_PAIR_LINE_WORST p) ≤ tUp (s.getN Obj.ORB_DEG_PERIOD)

/-- ORB_STATUS bit 5 follows. -/
def State.degShow (s : State) : State := s.setBit Obj.ORB_STATUS 5 s.degPresent

/-- The latency by which R42 judges a line-mode pair. -/
def State.pairJudged (s : State) (p : Nat) : Nat :=
  match s.pair p with
  | some q => if q.splitKnown then s.splitLatency p (s.getN (Obj.LNK_PAIR_SPLIT p)) else s.getN (Obj.ORB_PAIR_LINE_WORST p)
  | none => 0

/-- A line-mode pair asks for the degraded cycle (R42). DEDUCED (log entry 29): unsafe. -/
def State.pairNeeds (s : State) (p : Nat) : Bool :=
  s.pairMode p = pairLine && !s.bit (Obj.LNK_PAIR_STATUS p) 5 && tUp (s.getN Obj.ORB_PERIOD) < s.pairJudged p

/-- A pair that is on its ring asks for it after two misses in normal cycles (R42). DEDUCED (log entry 29): unsafe. -/
def State.ringNeeds (s : State) (p : Nat) : Bool := s.pairMode p = pairRing && 2 ≤ s.orb.missNormal.getD p 0

/-- A condition of R42 that the device itself sees holds now: a pair, or ORB_DEG_FORCE. -/
def State.ownNeed (s : State) : Bool :=
  s.get Obj.ORB_DEG_FORCE = 1 || s.valvePairs.any fun p => s.pairNeeds p || s.ringNeeds p

/-- A need is noted in the present cycle, before or after its T_fin (R42). -/
def State.noteNeed (s : State) : State :=
  if s.orbRunning && s.ownNeed then
    { s with orb := { s.orb with needSeen := s.orb.needSeen || s.orb.phase ≤ 2, needLate := true } }
  else s

/-! ## Modes -/

/-- ANY_LINE follows. -/
def State.linkShow (s : State) : State := s.setBit Obj.LNK_STATUS 2 (s.valvePairs.any fun p => s.pairMode p = pairLine)

/-- A pair enters line mode, its split not yet known; a return not yet made is void (R251). -/
def State.lineEnter (s : State) (p : Nat) : State :=
  if !s.valvePair p then s else
  let s0 := s.withPair p fun q => { q with clean := 0, returning := false }
  let s0 := s0.setBit (Obj.LNK_PAIR_STATUS p) 5 false
  if s0.pairMode p = pairRing then
    let s1 := ((s0.put (Obj.LNK_PAIR_MODE p) pairLine).put (Obj.LNK_PAIR_SPLIT p) 0).setBit (Obj.LNK_PAIR_STATUS p) 4 true
    let s2 := (s1.withPair p fun q => { q with splitKnown := false }).raise 96
    let s3 := (s2.bump (Obj.LNK_PAIR_LINE_COUNT p)).linkShow
    let s4 := { s3 with orb := { s3.orb with heldPairs := if s3.bit Obj.ORB_STATUS 1 || !s3.pairNeeds p then s3.orb.heldPairs
                                                          else withBit s3.orb.heldPairs p true } }
    s4.noteNeed
  else s0

/-- The split becomes known from a looped frame (R251). -/
def State.splitLearn (s : State) (p hops : Nat) (odd : Bool) : State :=
  match s.pair p with
  | none => s
  | some q =>
    if s.pairMode p = pairLine && !q.splitKnown then
      let n := s.pairNodes p
      ((s.put (Obj.LNK_PAIR_SPLIT p) (if odd then n - hops else min hops n : Nat)).withPair p fun q =>
        { q with splitKnown := true }).noteNeed
    else s

/-- The pair runs on its ring again from the return boundary (R252). DEDUCED (log entry 27): unsafe. -/
def State.ringReturn (s : State) (p : Nat) : State :=
  let s1 := ((s.put (Obj.LNK_PAIR_MODE p) pairRing).put (Obj.LNK_PAIR_SPLIT p) 0).put (Obj.LNK_PAIR_STATUS p)
    (withBit (withBit (s.getN (Obj.LNK_PAIR_STATUS p)) 4 false) 5 false : Nat)
  ((s1.withPair p fun q => { q with splitKnown := false, clean := 0, returning := false }).raise 97).linkShow

/-- RETURN_READY: both nodes at the break report LINK_CLEAN, and both ports have run 1,000 clean cycles at one allowed rate
(R252, R46, R275, R281). DEDUCED (log entry 27): unsafe. -/
def State.returnReady (s : State) (p : Nat) : State :=
  match s.pair p with
  | none => s
  | some q =>
    if s.pairMode p ≠ pairLine then s else
    let port := fun k => s.lanUp k && 1000 ≤ s.get (Obj.LAN_CLEAN_CYCLES k) && !s.bit (Obj.LAN_STATUS k) 3
    s.setBit (Obj.LNK_PAIR_STATUS p) 5 (q.clean = 3 && port (2 * p) && port (2 * p + 1))

/-! ## Cascade groups -/

/-- A cascade group is in use; its first port, its configured lanes and its direction (Table 10.18). -/
def State.cascOn (s : State) (g : Nat) : Bool := s.bit (Obj.LNK_CASC_CFG g) 15
/-- First port. -/
def State.cascFirst (s : State) (g : Nat) : Nat := field (s.getN (Obj.LNK_CASC_CFG g)) 0 6
/-- Lanes: 1, 2 or 4. -/
def State.cascWidth (s : State) (g : Nat) : Nat := 2 ^ field (s.getN (Obj.LNK_CASC_CFG g)) 6 2
/-- Upward group. -/
def State.cascUpward (s : State) (g : Nat) : Bool := s.bit (Obj.LNK_CASC_CFG g) 8

/-- Groups in use. -/
def State.cascGroups (s : State) : List Nat := (List.range 8).filter s.cascOn

/-- The upward group of a BRANCH. -/
def State.cascUpGroup (s : State) : Option Nat := s.cascGroups.find? s.cascUpward

/-- Lanes of a group that are ACTIVE. -/
def State.cascLocked (s : State) (g : Nat) : Nat :=
  ((List.range (s.cascWidth g)).filter fun j => s.lanUp (s.cascFirst g + j)).length

/-- What R261 asks of the groups of a configuration. -/
def State.cascOk (s : State) : Bool :=
  let gs := s.cascGroups
  let ports := gs.flatMap fun g => (List.range (s.cascWidth g)).map (s.cascFirst g + ·)
  let ups := (gs.filter s.cascUpward).length
  gs.all (fun g => field (s.getN (Obj.LNK_CASC_CFG g)) 6 2 ≠ 3) &&
  ports.all (fun k => k < 48 && s.pairArm (k / 2) = 0xFE) &&
  decide ports.Nodup &&
  (s.get Obj.LNK_TREE_ROLE ≠ 2 || ups = 1) && (s.get Obj.LNK_TREE_ROLE ≠ 1 || ups = 0)

/-- Tree role: 0 NONE, 1 ROOT, 2 BRANCH. -/
def State.treeRole (s : State) : Nat := s.getN Obj.LNK_TREE_ROLE

/-- R17 over a cycle of `quarters`: every hop within 2.00 us, every path within the allowance, depth at most 8. -/
def State.treeHolds (s : State) (quarters : Nat) : Bool :=
  s.cascGroups.all fun g =>
    s.bit (Obj.LNK_CASC_STATUS g) 1 &&
    (s.cascUpward g ||
      match s.lnk.paths.getD g none with
      | none => false
      | some (ns, depth) => ns + 6000 ≤ 250 * quarters && depth ≤ 8)

/-- TREE_OK follows (R17, R18). -/
def State.treeShow (s : State) (quarters : Nat) : State :=
  if s.treeRole = 0 then s else s.setBit Obj.LNK_STATUS 3 (s.treeHolds quarters)

/-- The round trip of a hop at LINKUP: half of it less the branch's turnaround; the branch also reports the latency and the
devices beyond it (R261, R17). -/
def State.cascRoundTrip (s : State) (g trip turn beyond devices : Nat) : State :=
  if !s.cascOn g then s else
  let hop := (trip - turn) / 2
  let ok := hop ≤ 2000
  let s1 := (s.put (Obj.LNK_CASC_LATENCY g) (min hop 0xFFFF)).setBit (Obj.LNK_CASC_STATUS g) 1 ok
  let s2 := (s1.withLnk fun l => { l with paths := l.paths.set g (some (hop + beyond, devices + 2)) }).treeShow (s.getN Obj.ORB_PERIOD)
  if ok && (s.cascUpward g || s2.bit Obj.LNK_STATUS 3) then s2 else s2.raise 114

/-- The lanes of a group after a change of lock: TRAINED at bring-up (R261, Table 10.18). -/
def State.cascTrained (s : State) (k : Nat) : State :=
  match s.cascGroups.find? fun g => s.cascFirst g ≤ k && k < s.cascFirst g + s.cascWidth g with
  | none => s
  | some g =>
    let all := s.cascLocked g = s.cascWidth g
    let s1 := s.setBit (Obj.LNK_CASC_STATUS g) 0 all
    if all && s1.get (Obj.LNK_CASC_LANES g) = 0 then s1.put (Obj.LNK_CASC_LANES g) (s.cascWidth g) else s1

/-- From the boundary after a loss of lock a group runs on the largest of 4, 2 or 1 lanes still locked, if its hop and R17 still
hold; else the hop is lost (R264). Lanes that are back are taken up in the same way. -/
def State.cascNarrow (s : State) : State :=
  s.forAll s.cascGroups fun s g =>
    let n := s.cascLocked g
    let width := if 4 ≤ n then 4 else if 2 ≤ n then 2 else n
    let old := s.getN (Obj.LNK_CASC_LANES g)
    if old = width then s else
    let s1 := (s.put (Obj.LNK_CASC_LANES g) width).setBit (Obj.LNK_CASC_STATUS g) 2 (width < s.cascWidth g)
    if width = 0 then s1.raise 114
    else if width < old then s1.raise 112 else s1

/-- Is a hop carrying records? -/
def State.cascAlive (s : State) (g : Nat) : Bool := s.get (Obj.LNK_CASC_LANES g) ≠ 0 && s.bit (Obj.LNK_CASC_STATUS g) 1

/-- A record as the words it is sent with (Table 10.13). -/
def CascDown.words (d : CascDown) : List Int := [d.theta, d.omega, d.omegaF, d.emf, d.pSet, d.qSet, d.orb, d.flags]
/-- An up record as words. -/
def CascUp.words (u : CascUp) : List Int :=
  [u.p, u.q, u.eUsable, u.eStored, u.hMax, u.state + 256 * u.role + 65536 * u.runFlags, u.orb, u.device, u.trip]

/-- The root's record goes out on every downward group (R262). -/
def State.cascSendDown (s : State) (d : CascDown) : State :=
  s.forAll (s.cascGroups.filter fun g => !s.cascUpward g && s.cascAlive g) fun s _ => s.emit (.record 0x200 (CascDown.words d))

/-- Up records arrive on a downward group (R262). -/
def State.cascUps (s : State) (g : Nat) (records : List CascUp) : State :=
  if !s.cascOn g || s.cascUpward g then s else
  s.withLnk fun l => { l with ups := l.ups ++ records }

/-- The root's view of its tree at T_up of cycle m+1: the latest valid record of every device, and how long it has been
missing (R262, R263). -/
def State.cascRoot (s : State) : State :=
  if s.treeRole ≠ 1 then s else
  let seen := s.lnk.upsBefore
  let old := s.lnk.devices.map fun (d, m) => match seen.find? (·.device == d.device) with
    | some u => (u, 0)
    | none => (d, m + 1)
  let fresh := seen.filter fun u => !(s.lnk.devices.any fun e => e.1.device == u.device)
  s.withLnk fun l => { l with devices := old ++ fresh.map fun u => (u, 0) }

/-- The sum that a ROOT uses in R68 beside its own energy (R263). -/
def State.treeEnergy (s : State) : Int :=
  if s.treeRole ≠ 1 then 0 else s.lnk.devices.foldl (fun (e : Int) d => if d.2 < 2 then e + d.1.eUsable else e) 0

/-- The boundary: the records of the closed cycle become those of the cycle before. -/
def State.cascBoundary (s : State) : State :=
  (s.withLnk fun l => { l with upsBefore := l.ups, ups := [], down := none }).cascNarrow

/-- A record missed at T_ref of a BRANCH (R262, R35). -/
def State.cascMissed (s : State) : State :=
  match s.cascUpGroup with
  | none => s
  | some g =>
    let s1 := ((s.bump (Obj.LNK_CASC_LATE g)).setBit (Obj.LNK_CASC_STATUS g) 3 true).raise 113
    let n := s.orb.treeMiss + 1
    let s2 := { s1 with orb := { s1.orb with treeMiss := n } }
    let s3 := ((s2.bump Obj.ORB_REF_LATE_COUNT).setBit Obj.ORB_STATUS 7 true).raise 162
    if 2 ≤ n then s3.overrun 6 g else s3

/-! ## A lane of a port -/

/-- What a lost lane does beyond itself: its pair enters line mode (R251, R279). -/
def State.laneLost (s : State) (k : Nat) : State :=
  if !s.lanUp k then s.lanLostEarly k else
  let s1 := s.lanLost k
  if k < 48 then (if s1.cascLane k then s1.cascTrained k else s1.lineEnter (k / 2)) else s1

/-- A lane that has become ACTIVE. -/
def State.laneUp (s : State) (k : Nat) : State := if s.cascLane k then s.cascTrained k else s

/-- A quad takes its lanes with it (R269, Table 11.10). -/
def State.quadLost (s : State) (q : Nat) : State :=
  (s.quadLoss q).forAll ((List.range 50).filter fun k => quadOf k = q) State.laneLost

/-! ## Enumeration (R246) -/

/-- Everything R246 makes known is forgotten at the entry to LINKUP. -/
def State.linkLinkup (s : State) : State :=
  let s1 := s.forAll (List.range 24) fun s p =>
    let mode := if s.pairArm p = 0xFE then 3 else if s.valvePair p then 4 else 0
    let s1 := ((s.put (Obj.LNK_PAIR_MODE p) mode).put (Obj.LNK_PAIR_STATUS p) 0).put (Obj.LNK_PAIR_SPLIT p) 0
    let s2 := ((s1.put (Obj.LNK_PAIR_FOUND p) 0).put (Obj.ORB_PAIR_LATENCY p) 0xFFFF).put (Obj.ORB_PAIR_LINE_WORST p) 0xFFFF
    s2.withPair p fun _ =>
      { steps := 0, tries := 0, evenFound := none, recordsDone := [], recordsFailed := [], segments := [],
        portLatency := [0, 0], splitKnown := false, clean := 0, returning := false, back := 0, placed := false, asked := 0,
        align := [], ids := [], partnerIds := none }
  let s2 := s1.forAll (List.range 8) fun s g =>
    ((s.put (Obj.LNK_CASC_STATUS g) 0).put (Obj.LNK_CASC_LATENCY g) 0xFFFF).put (Obj.LNK_CASC_LANES g) 0
  (s2.put Obj.LNK_STATUS 0).withLnk fun l =>
    { l with down := none, ups := [], upsBefore := [], devices := [], paths := List.replicate 8 none }

/-- The pair has done a step of R246. -/
def State.stepDone (s : State) (p n : Nat) : Bool := ((s.pair p).map fun q => bitOf q.steps n).getD false

/-- A step is done; with the last of them the pair is enumerated (R246, source 105). DEDUCED (log entry 31): unsafe. -/
def State.linkStep (s : State) (p n : Nat) : State :=
  let s1 := s.withPair p fun q => { q with steps := withBit q.steps n true, tries := 0 }
  let all := [2, 5, 6, 7, 8].all fun j => s1.stepDone p j
  if all && !s1.bit (Obj.LNK_PAIR_STATUS p) 0 then
    let s2 := s1.setBit (Obj.LNK_PAIR_STATUS p) 0 true
    let every := s2.valvePairs.all fun j => s2.bit (Obj.LNK_PAIR_STATUS j) 0
    if every && !s2.bit Obj.LNK_STATUS 0 then (s2.setBit Obj.LNK_STATUS 0 true).raise 105 else s2
  else s1

/-- A step fails: it is tried twice (R246). What the step still lacks is sent again. DEDUCED (log entry 31): unsafe. -/
def State.linkFail (s : State) (p : Nat) : State :=
  let n := ((s.pair p).map (·.tries)).getD 0 + 1
  let s1 := s.withPair p fun q => { q with tries := n, recordsFailed := [], asked := if n < 2 then 0 else q.asked }
  if n = 2 then s1.event 106 p [] else s1

/-- The segments of R248 in 0.0625 ns, from the loop time and each node's arrival times and residences (a, b, r, r'). -/
def segmentsOf (loop : Int) (nodes : List (Int × Int × Int × Int)) : List Int :=
  let total : Int := loop - nodes.foldl (fun (m : Int) (n : Int × Int × Int × Int) => m + n.2.2.1) 0
  let fibre := (List.range nodes.length).map fun i =>
    let before := (nodes.take i).foldl (fun (m : Int) (n : Int × Int × Int × Int) => m + n.2.2.1) 0
    let after := (nodes.drop (i + 1)).foldl (fun (m : Int) (n : Int × Int × Int × Int) => m + n.2.2.2) 0
    match nodes[i]? with
    | some (a, b, _, _) => roundAway ((total + after - before - (b - a) : Int) / (2 : Rat))
    | none => 0
  (List.zipWith (fun x y => y - x) (0 :: fibre) (fibre ++ [total]))

/-- D_even and D_odd of a node (R248), in 0.0625 ns. -/
def alignOf (loop : Int) (nodes : List (Int × Int × Int × Int)) (i : Nat) : Int × Int :=
  let total : Int := loop - nodes.foldl (fun (m : Int) (n : Int × Int × Int × Int) => m + n.2.2.1) 0
  let before := (nodes.take i).foldl (fun (m : Int) (n : Int × Int × Int × Int) => m + n.2.2.1) 0
  let after := (nodes.drop (i + 1)).foldl (fun (m : Int) (n : Int × Int × Int × Int) => m + n.2.2.2) 0
  let si := ((segmentsOf loop nodes).take (i + 1)).foldl (· + ·) 0
  (si + before, total - si + after)

/-- Positions of a pair that have answered its enumeration, ascending. -/
def State.answeredPositions (s : State) (p : Nat) : List Nat :=
  let ids := ((s.pair p).map (·.ids)).getD []
  (List.range 512).filter fun i => ids.any fun e => e.1 == i

/-- ALIGN_EVEN and ALIGN_ODD of every node of a pair are written, then ALIGN_COMMIT (R246). DEDUCED (log entry 114): unsafe. -/
def State.alignWrite (s : State) (p : Nat) : State :=
  let values := ((s.pair p).map (·.align)).getD []
  let s1 := values.foldl (fun s v =>
    ((s.emit (.record 0x104 [p, v.1, v.2.1])).emit (.record 0x108 [p, v.1, v.2.2])).emit (.record 0x10C [p, v.1, 1])) s
  s1.withPair p fun q => { q with align := [] }

/-- ALIGN_COMMIT alone goes to every node of a pair (R332). -/
def State.alignCommit (s : State) (p : Nat) : State :=
  (s.answeredPositions p).foldl (fun s (j : Nat) => s.emit (.record 0x10C [p, j, 1])) s

/-- Returned DELAY frames: segment delays, alignment values for every node, and the worst line-mode latency (R246, R248,
R41). `whole` says that every record's check passed. DESIGN CHOICE (log entry 107): safe. -/
def State.linkDelay (s : State) (p : Nat) (loop : Int) (nodes : List (Int × Int × Int × Int)) (latency : Nat) (whole : Bool) :
    State :=
  if s.devState ≠ stLinkup || !s.stepDone p 2 || s.stepDone p 6 then s else
  if !whole || nodes.length ≠ s.getN (Obj.LNK_PAIR_FOUND p) then s.linkFail p else
  -- In line mode R248 gives no value per node: the delays are free.
  let line := s.pairMode p = pairLine
  let open_ := fun (i : Nat) => Config.freeValue (s.freeCtr + i)
  let n := nodes.length
  let segments := if line then (List.range (n + 1)).map fun i => (open_ (2 * n + i)).toNat else (segmentsOf loop nodes).map (·.toNat)
  let s0 := if line then { s with freeCtr := s.freeCtr + 3 * n + 1 } else s
  let align := ((List.range n).zip (s.answeredPositions p)).map fun ij =>
    (ij.2, if line then (open_ (2 * ij.1), open_ (2 * ij.1 + 1)) else alignOf loop nodes ij.1)
  let s1 := s0.withPair p fun q => { q with segments := segments, portLatency := [latency, latency], align := align }
  -- R332: the alignment step is taken only after the first step of the counter.
  let s2 := if s1.bit Obj.TIM_STATUS 0 then s1.alignWrite p else s1
  let s3 := (s2.put (Obj.ORB_PAIR_LATENCY p) (min latency 0xFFFE)).put (Obj.ORB_PAIR_LINE_WORST p) (min (s2.lineWorst p) 0xFFFE)
  let s4 := (s3.linkStep p 6).degShow
  if s4.pairMode p = pairRing && tUp (s4.getN Obj.ORB_PERIOD) < latency then
    -- The rate is one for which the pair does not pass R38 (R275).
    [2 * p, 2 * p + 1].foldl (fun s k =>
      let s1 := if s.bit (Obj.LAN_STATUS k) 3 then s else s.lanEvent k 6
      s1.setBit (Obj.LAN_STATUS k) 3 true) (s4.raise 167)
  else s4

/-- A ring pair passes R38: in ring mode its latency is at most T_up of the normal cycle. -/
def State.pairFits (s : State) (p : Nat) : Bool :=
  s.pairMode p = pairLine || s.get (Obj.ORB_PAIR_LATENCY p) ≤ tUp (s.getN Obj.ORB_PERIOD)

/-- The settings go to every node of a pair: HOLD_TIMEOUT, and the 16 descriptors of the image (R193, R243, R246). -/
def State.linkSettings (s : State) (p : Nat) : State :=
  let hold := (s.getN Obj.LNK_HOLD_TIMEOUT : Int)
  let words := (s.answeredPositions p).flatMap fun (i : Nat) =>
    Out.record 2 [p, 2, i, hold] :: (List.range 16).map fun (d : Nat) =>
      let value : Nat := s.gpfDesc (s.globalOf p i) d
      Out.record 2 [p, 3, i, d, value]
  { s with out := s.out ++ words }

/-- Every residual has stayed within 5 ns for 1,000 cycles; the settings follow (R246). The alignment must have been written, which
needs the first step (R332). -/
def State.linkAligned (s : State) (p : Nat) : State :=
  let written := s.bit Obj.TIM_STATUS 0 && ((s.pair p).map (·.align.isEmpty)).getD false
  if s.devState ≠ stLinkup || !s.stepDone p 6 || s.stepDone p 7 || !written then s else
  let s1 := ((s.setBit (Obj.LNK_PAIR_STATUS p) 1 true).linkStep p 7).linkSettings p
  if s1.valvePairs.all fun j => s1.bit (Obj.LNK_PAIR_STATUS j) 1 then s1.setBit Obj.LNK_STATUS 1 true else s1

/-- The identities of a pair differ from the partner's, or a node answers on one side only (R14). DEDUCED (log entry 34): unsafe. -/
def State.identityCheck (s : State) (p : Nat) : State :=
  match (s.pair p).bind (·.partnerIds) with
  | none => s
  | some l =>
    let same := ((s.pair p).map fun q => q.ids.all (fun i => decide (i ∈ l)) && l.all (fun i => decide (i ∈ q.ids))).getD true
    s.setBit (Obj.LNK_PAIR_STATUS p) 2 (!same)

/-! ## Management records (R258) -/

/-- What a record is for: 0 POSITION, 1 ALIGN, 2 HOLD_TIMEOUT, 3 descriptor write, 4 descriptor read-back, 5 a tuning
update, 6 any other. -/
def recordKey (purpose pos desc : Nat) : Nat := purpose * 65536 + pos * 16 + desc

/-- The step of R246 that a purpose belongs to; 0 for none. -/
def recordStep (purpose : Nat) : Nat := if purpose = 0 then 5 else if purpose = 1 then 7 else if purpose ≤ 4 then 8 else 0

/-- Every record that a step sends to the nodes at `positions` has been answered. -/
def stepAnswered (step : Nat) (positions done : List Nat) : Bool :=
  let has := fun k => decide (k ∈ done)
  positions.all fun i =>
    if step = 5 then has (recordKey 0 i 0)
    else has (recordKey 2 i 0) && (List.range 16).all fun d => has (recordKey 4 i d)

/-- A record is done: transient when it was the second attempt; a step all of whose records are answered is done. -/
def State.recordDone (s : State) (p purpose pos desc : Nat) : State :=
  match s.pair p with
  | none => s
  | some q =>
    let key := recordKey purpose pos desc
    let s1 := if key ∈ q.recordsFailed then ((s.bump Obj.LNK_MGMT_RETRY).raise 103).siteOutcome 0x03 103 p [] false else s
    let s2 := s1.withPair p fun q =>
      { q with recordsFailed := q.recordsFailed.filter (· ≠ key)
               recordsDone := if key ∈ q.recordsDone then q.recordsDone else key :: q.recordsDone }
    let step := recordStep purpose
    let answered := fun n => stepAnswered n (s2.answeredPositions p) (((s2.pair p).map (·.recordsDone)).getD [])
    if s2.devState = stLinkup && (step = 5 || step = 8) && !s2.stepDone p step && s2.stepDone p 2 && answered step then
      s2.linkStep p step
    else s2

/-- A record fails: the first time it is sent again, the second is lasting (R258). Answers whether it is lasting. -/
def State.recordFailed (s : State) (p purpose pos desc : Nat) : State × Bool :=
  match s.pair p with
  | none => (s, false)
  | some q =>
    let key := recordKey purpose pos desc
    if key ∈ q.recordsFailed then
      let s1 := (s.withPair p fun q => { q with recordsFailed := q.recordsFailed.filter (· ≠ key) })
      let s2 := ((s1.bump Obj.LNK_MGMT_FAIL).raise 104).siteOutcome 0x03 104 p [] true
      if recordStep purpose ≠ 0 && s2.devState = stLinkup && purpose ≠ 4 then
        let s3 := s2.linkFail p
        (if ((s3.pair p).map (·.tries)).getD 0 < 2 then s3.emit (.record 2 [p, purpose, pos, desc]) else s3, true)
      else (s2, true)
    else
      ((s.withPair p fun q => { q with recordsFailed := key :: q.recordsFailed }).emit
        (.record 2 [p, purpose, pos, desc]), false)

/-- A descriptor read back at LINKUP: equal to the image's, or a mismatch, read again once, that holds LINKUP when it lasts
(R193). -/
def State.descReadBack (s : State) (p pos desc value : Nat) : State :=
  let key := recordKey 7 pos desc
  if s.gpfDesc (s.globalOf p pos) desc = value then
    let was := ((s.pair p).map fun q => decide (key ∈ q.recordsFailed)).getD false
    let s1 := if was then s.siteOutcome 0x16 103 p [] false else s
    (s1.withPair p fun q => { q with recordsFailed := q.recordsFailed.filter (· ≠ key) }).recordDone p 4 pos desc
  else if ((s.pair p).map fun q => decide (key ∈ q.recordsFailed)).getD false then
    ((s.setBit (Obj.LNK_PAIR_STATUS p) 6 true).raise 106).siteOutcome 0x16 106 p [] true
  else (s.withPair p fun q => { q with recordsFailed := key :: q.recordsFailed }).emit (.record 2 [p, 4, pos, desc])

/-- An urgent block of this unit came back at a port. -/
def State.urgentReturned (s : State) : State := s.raise 102

end Sys2Proof.Machine
end

