-- ==== Sys2Proof/Machine/Nodes.lean ====
section
/-!
DEFINITION. The submodules: their records (R265), classes (R109 to R111), the reception of upward halves (R234 to R238, R259,
R260), and the ageing estimators fed by them (R201 to R208).
-/

namespace Sys2Proof.Machine

/-- The record of a submodule. -/
def State.sm (s : State) (n : Nat) : Option Sm := s.age.sms.find? fun m => m.n == n

/-- Changes the ageing service. -/
def State.withAge (s : State) (f : Age → Age) : State := { s with age := f s.age }

/-- Changes the record of a submodule. -/
def State.withSm (s : State) (n : Nat) (f : Sm → Sm) : State :=
  s.withAge fun a => { a with sms := a.sms.map fun m => if m.n = n then f m else m }

/-- Changes the record of an arm. -/
def State.withArm (s : State) (a : Nat) (f : Arm → Arm) : State := s.withAge fun g => { g with arms := updateAt g.arms a f }

/-- The submodules of an arm in rising order. -/
def State.armSms (s : State) (a : Nat) : List Sm := s.age.sms.filter fun m => m.n / 1280 = a

/-- Classes of Table 5.2. -/
abbrev clsAvailable : Nat := 0
/-- SPARE. -/
abbrev clsSpare : Nat := 1
/-- FAULTED. -/
abbrev clsFaulted : Nat := 2
/-- BYPASSED. -/
abbrev clsBypassed : Nat := 3
/-- UNREACHED. -/
abbrev clsUnreached : Nat := 4
/-- RETIRED. -/
abbrev clsRetired : Nat := 5
/-- MISSING. -/
abbrev clsMissing : Nat := 6

/-- An ageing record without history: nameplate capacitance, the arm's initial ceiling, floor and weight (R203, R208). -/
def State.freshAge (s : State) (n identity : Nat) : SmAge :=
  let a := n / 1280
  { identity := identity, sumQ := 0, sumV := 0, blocks := 0, cEst := none, gen := 0, esr := [], esrBase := none,
    switches := List.replicate 4 { von := [], vonBase := none, plat := [], platBase := none, rain := [], damage := 0 },
    dtj := 0, inserts := 0, charge := 0, ceil := s.getN (Obj.AGE_VCEIL_INIT a), floor := s.getN (Obj.AGE_VMIN_INIT a),
    weight := s.getN (Obj.AGE_W_INIT a) }

/-- A submodule with nothing known of it. -/
def State.freshSm (s : State) (n : Nat) : Sm :=
  { n := n, cls := clsMissing, full := false, fresh := false, win := [], v := 0, raw := none, status := none, got := false,
    gap := 0, cmdErr := 0, codeNow := 0, codeNext := 0, codeAfter := 0, edgeNow := none, edgeNext := none, edgeAfter := none,
    half := 0, up := 0, key := none, obeyed := 0, holding := 0, slow := [], transient := 0, lasting := 0, intervals := [], age := s.freshAge n 0 }

/-! ## Classes -/

/-- Spares of an arm. -/
def State.spares (s : State) (a : Nat) : List Sm := (s.armSms a).filter fun m => m.cls = clsSpare

/-- The record a class change leaves in the journal: the source when it leaves AVAILABLE, else a code the manual does not
give (R109, Table 18.5). DESIGN CHOICE (log entry 18): safe. -/
def State.classLog (s : State) (m : Sm) (new cause counter : Nat) : State :=
  if m.cls = clsAvailable then (s.raise 236).journalFull 236 m.n [new, cause] counter false false
  else s.journalFull (Config.unlistedCode 1) m.n [new, cause] counter false false

/-- A submodule becomes AVAILABLE: its window is emptied, it is eligible from the next cycle (R110, R113). -/
def Sm.admitted (m : Sm) : Sm := { m with cls := clsAvailable, fresh := true, win := [], key := none, gap := 0, cmdErr := 0 }

/-- A spare replaces a submodule that left AVAILABLE; without one SPARE_EMPTY is set (R110). -/
def State.spareAlloc (s : State) (a : Nat) : State :=
  match s.spares a with
  | [] => (s.setBit (Obj.RNK_ARM_STATUS a) 4 true).raise 238
  | m :: _ =>
    ((s.withSm m.n Sm.admitted).raise 237).journalFull (Config.unlistedCode 1) m.n [clsAvailable, 0] 0xFF false false

/-- A submodule changes class (R109): logged with its cause, counted, and replaced by a spare if it left AVAILABLE.
DEDUCED (log entry 36): unsafe. -/
def State.smClass (s : State) (n new cause : Nat) : State :=
  match s.sm n with
  | none => s
  | some m =>
    if m.cls = new then s else
    let counter := if new = clsFaulted then 0x1E else if new = clsRetired then 0x1F else 0xFF
    let s1 := s.withSm n fun m => { m with cls := new }
    let s2 := if counter = 0xFF then s1 else s1.count counter
    let s3 := s2.classLog m new cause counter
    if m.cls = clsAvailable then s3.spareAlloc (n / 1280) else s3

/-- May RNK_REINSTATE return the submodule (R111)? -/
def State.reinstateAllowed (s : State) (n : Nat) : Bool :=
  match s.sm n with
  | none => false
  | some m => s.devState = stBlocked && (m.cls = clsFaulted || m.cls = clsUnreached) &&
      (match m.status with
       | some st => !st.testBit 1 && !st.testBit 2
       | none => false)

/-- An accepted reinstatement. -/
def State.reinstate (s : State) (n : Nat) : State :=
  match s.sm n with
  | none => s
  | some m =>
    ((s.withSm n Sm.admitted).bump Obj.RNK_REINSTATE_COUNT).classLog m clsAvailable 0 0xFF

/-! ## Capacitance and ESR (R202 to R204) -/

/-- The configured capacitance of a submodule in 0.1 uF: the estimate, else the nameplate value (R203). -/
def State.capOf (s : State) (m : Sm) : Nat := m.age.cEst.getD (s.getN (Obj.AGE_C_NOM (m.n / 1280)))

/-- Estimators run for this submodule now (R201). -/
def State.estimates (s : State) (m : Sm) : Bool := m.cls ≤ 2 && 3 ≤ s.devState && s.devState ≤ 6

/-- An accepted interval enters the block under way; a complete block moves the estimate. `f` is the free value used where
the block's voltages cancel. -/
def SmAge.interval (a : SmAge) (block : Nat) (q : Rat) (dv : Int) (f : Int) : SmAge :=
  let sq := a.sumQ + q
  let sv := a.sumV + dv
  if a.blocks + 1 < block then { a with sumQ := sq, sumV := sv, blocks := a.blocks + 1 } else
  let c : Int := if sv = 0 then f else saturateU 32 (roundAway (sq / ((sv : Rat) / 16) * 10000000))
  let new : Int := match a.cEst with
    | none => c
    | some e => saturateU 32 (e + roundAway ((c - e : Int) / (8 : Rat)))
  { a with sumQ := 0, sumV := 0, blocks := 0, cEst := some new.toNat, gen := (a.gen + 1) % 2 ^ 32 }

/-- One ESR value in uohm: the mean of the last 4,096, the first complete mean the baseline (R204). DEDUCED (log entry 45): unsafe. -/
def SmAge.esrValue (a : SmAge) (x : Rat) : SmAge :=
  let l := (x :: a.esr).take 4096
  let mean := roundAway (l.foldl (· + ·) 0 / 4096)
  { a with esr := l, esrBase := if l.length = 4096 && a.esrBase.isNone then some mean.toNat else a.esrBase }

/-- The ESR mean in uohm once complete. -/
def SmAge.esrMean (a : SmAge) : Option Int :=
  if a.esr.length = 4096 then some (roundAway (a.esr.foldl (· + ·) 0 / 4096)) else none

/-- ESR over its baseline in 0.01. -/
def SmAge.esrRatio (a : SmAge) : Option Int :=
  match SmAge.esrMean a, a.esrBase with
  | some m, some b => if b = 0 then none else some (saturateU 16 (roundAway ((100 * m : Int) / (b : Rat))))
  | _, _ => none

/-- The current interpolated to the end of an interval. -/
def Interval.current (i : Interval) : Option Rat :=
  match i.stop, i.before, i.after with
  | some t, some (t0, a), some (t1, b) =>
    if t1 = t0 then some a else some (a + (b - a) * (((t : Int) - t0 : Int) : Rat) / ((t1 - t0 : Int) : Rat))
  | _, _, _ => none

/-- ALL_ESTIMATED follows, with source 355 when it begins (R203). -/
def State.allEstimated (s : State) : State :=
  let all := !s.age.sms.isEmpty && s.age.sms.all fun m => m.age.cEst.isSome
  let s1 := if all && !s.bit Obj.AGE_STATUS 2 then s.raise 355 else s
  s1.setBit Obj.AGE_STATUS 2 all

/-- A complete interval is judged (R202): accepted into the estimates, or counted as rejected. DEDUCED (log entry 45): unsafe. -/
def State.intervalDone (s : State) (m : Sm) (i : Interval) : State :=
  match i.vStart, i.vEnd with
  | some v0, some v1 =>
    let dv : Int := (v1 : Int) - v0
    let ok := i.good && s.get Obj.AGE_DV_MIN ≤ absInt dv && ((0 < i.q && 0 < dv) || (i.q < 0 && dv < 0))
    if !ok then s.bump Obj.AGE_INTERVAL_REJECT else
    let nom : Rat := s.get (Obj.AGE_C_NOM (m.n / 1280))
    let warn := nom * s.get Obj.AGE_C_WARN / 1000
    let before := m.age.cEst
    let block := s.getN Obj.AGE_C_BLOCK
    let freeUse := block ≤ m.age.blocks + 1 && m.age.sumV + dv = 0
    let age1 := SmAge.interval m.age block i.q dv s.free
    let age2 := match i.current, i.vLast with
      | some cur, some vl =>
        if cur ≠ 0 && s.get Obj.AGE_ESR_IMIN * s.iBase ≤ 1000 * absQ cur then
          let c := if i.neg then -cur else cur
          SmAge.esrValue age1 (((vl : Int) - v1 : Int) / (16 : Rat) / c * 1000000)
        else age1
      | _, _ => age1
    let s1 := if freeUse then s.usedFree else s
    let s2 := s1.withSm m.n fun m => { m with age := age2 }
    let low := match age2.cEst with
      | some c => (c : Rat) < warn && !(match before with
          | some b => decide ((b : Rat) < warn)
          | none => false)
      | none => false
    (if low && age2.gen ≠ m.age.gen then s2.raise 358 else s2).allEstimated
  | _, _ => s.bump Obj.AGE_INTERVAL_REJECT

/-- Intervals whose samples and voltages are all in are judged and leave the list. -/
def State.intervalsServe (s : State) (n : Nat) : State :=
  match s.sm n with
  | none => s
  | some m =>
    let ready := fun (i : Interval) => i.stop.isSome && i.covered && (i.vEnd.isSome || !i.good)
    let s1 := s.withSm n fun m => { m with intervals := m.intervals.filter fun i => !ready i }
    (m.intervals.filter ready).foldl (fun s i =>
      match s.sm n with
      | some m => s.intervalDone m i
      | none => s) s1

/-- The part of [a, b] that lies inside [c, d], in ns. -/
def overlap (a b c d : Int) : Rat := let x := min b d - max a c; if x ≤ 0 then 0 else (x : Rat)

/-- A main sample of the arm's current enters one interval: value in A, its time (device ns) and interval t_s (R202, R204). -/
def Interval.sample (i : Interval) (amps : Option Rat) (time : Int) (ts : Int) : Interval :=
  let last : Int := match i.stop with
    | some t => t
    | none => time + 1
  if time ≤ i.start then i
  else
    match amps with
    | none => if time - ts < last then { i with good := false, covered := i.covered || (i.stop.isSome && last ≤ time) } else
        { i with covered := i.covered || i.stop.isSome }
    | some a =>
      let w := overlap (time - ts) time i.start last / 1000000000
      let i1 := { i with q := i.q + (if i.neg then -a else a) * w }
      match i.stop with
      | none => { i1 with before := some (time, a) }
      | some t => if time ≤ t then { i1 with before := some (time, a), covered := i1.covered || time = t,
                                             after := if time = t then some (time, a) else i1.after }
                  else { i1 with after := if i1.after.isNone then some (time, a) else i1.after, covered := true }

/-- A main sample of the arm-current channel of an arm: none when invalid. The throughput accumulators of inserted
submodules gain its charge (R124). -/
def State.armSample (s : State) (a : Nat) (amps : Option Rat) (time ts : Int) : State :=
  let on := s.bit Obj.AGE_CTRL 0
  let f := fun (m : Sm) =>
    if m.n / 1280 ≠ a then m else
    let m1 := if on && s.estimates m then { m with intervals := m.intervals.map fun i => i.sample amps time ts } else m
    match amps with
    | some c =>
      if m1.codeNow = 1 ∨ m1.codeNow = 2 then
        { m1 with age := { m1.age with charge := m1.age.charge + absQ c * (ts : Rat) / 1000000000 } }
      else m1
    | none => m1
  let s1 := s.withAge fun g => { g with sms := g.sms.map f }
  (s1.armSms a).foldl (fun s m => if m.intervals.isEmpty then s else s.intervalsServe m.n) s1

/-- A received sample of the present boundary enters the intervals that await it; none when it is held (R202). -/
def Interval.voltage (i : Interval) (boundary period : Nat) (v : Option Nat) : Interval :=
  let put := fun (i : Interval) (f : Nat → Interval) => match v with
    | some x => f x
    | none => { i with good := false }
  if i.start = boundary && i.vStart.isNone then put i fun x => { i with vStart := some x }
  else if i.stop = some boundary && i.vLast.isNone then put i fun x => { i with vLast := some x }
  else match i.stop with
    | some t => if t < boundary && i.vEnd.isNone then
        (if boundary ≤ t + 4 * period then put i fun x => { i with vEnd := some x } else { i with good := false }) else i
    | none => i

/-! ## On-state voltage, plateau, damage (R205 to R207) -/

/-- A report enters a drift series of N reports: the latest N kept, the first N the baseline. -/
def driftEnter (n : Nat) (l : List Nat) (base : Option (Nat × Nat)) (x : Nat) : List Nat × Option (Nat × Nat) :=
  let l1 := (x :: l).take n
  (l1, if base.isNone && l1.length = n then some (l1.foldl (· + ·) 0, n) else base)

/-- Mean of the latest reports minus the baseline mean, over the baseline mean when `ratio`; none without a baseline. -/
def driftOf (l : List Nat) (base : Option (Nat × Nat)) (unit : Rat) (ratio : Bool) : Option Int :=
  match base with
  | none => none
  | some (sum, n) =>
    if n = 0 ∨ sum = 0 then none else
    let b : Rat := (sum : Nat) / (n : Rat)
    let m : Rat := (l.foldl (· + ·) 0 : Nat) / (l.length : Rat)
    some (saturate 16 (roundAway (if ratio then (m - b) / b * 1000 else (m - b) * unit)))

/-- The drift of the largest value among the switches, and of the largest magnitude. -/
def SmAge.vonDrift (a : SmAge) : Option Int :=
  (a.switches.filterMap fun w => driftOf w.von w.vonBase 1 true).foldl (fun m d => some (match m with
    | some x => max x d
    | none => d)) none
/-- The plateau drift in mV. -/
def SmAge.platDrift (a : SmAge) : Option Int :=
  (a.switches.filterMap fun w => driftOf w.plat w.platBase 5 false).foldl (fun m d => some (match m with
    | some x => if absInt x < absInt d then d else x
    | none => d)) none

/-- d of a half-cycle of range dT (0.1 K) with its maximum at Tmax (0.1 degC), in 2^-48 (R207). -/
def State.halfCycle (s : State) (range top : Int) : Nat :=
  let nref : Rat := s.get Obj.AGE_DMG_NREF
  let beta : Rat := s.get Obj.AGE_DMG_BETA / (100 : Rat)
  let k := fun (t : Int) => ((10 * t + 27315 : Int) : Rat) / 100
  let e := beta * lnQ ((s.get Obj.AGE_DMG_DTREF : Rat) / range) +
    (s.get Obj.AGE_DMG_EA : Rat) * (1 / k top - 1 / k (s.get Obj.AGE_DMG_TREF))
  (saturateU 64 (roundAway (expQ (-e) / (2 * nref) * ((2 ^ 48 : Nat) : Rat)))).toNat

/-- The rainflow count closes what the newest reversal closes: the residue left, and the half-cycles as (range, top).
PRESUMED (log entry 44): unsafe. -/
def rainClose : List Int → Nat → List Int × List (Int × Int)
  | l, 0 => (l, [])
  | c :: b :: a :: rest, n + 1 =>
    if absInt (c - b) < absInt (b - a) then (c :: b :: a :: rest, []) else
    match rest with
    | [] => ([c, b], [(absInt (b - a), max a b)])
    | _ =>
      let (l, h) := rainClose (c :: rest) n
      (l, (absInt (b - a), max a b) :: (absInt (b - a), max a b) :: h)
  | l, _ => (l, [])

/-- A temperature enters the sequence of reversals: extremes are moved on, reversals below the hysteresis ignored.
PRESUMED (log entry 44): unsafe. -/
def rainEnter (l : List Int) (hyst x : Int) : List Int × List (Int × Int) :=
  match l with
  | [] => ([x], [])
  | [a] => if absInt (x - a) < hyst then ([a], []) else ([x, a], [])
  | b :: a :: rest =>
    if (a ≤ b ∧ b ≤ x) ∨ (b ≤ a ∧ x ≤ b) then rainClose (x :: a :: rest) (rest.length + 2)
    else if absInt (x - b) < hyst then (l, [])
    else rainClose (x :: l) (rest.length + 2)

/-- The damage of a submodule in 10^-6: the largest of its switches. -/
def SmAge.damage (a : SmAge) : Nat :=
  (saturateU 32 (roundAway (((a.switches.foldl (fun m w => max m w.damage) 0 : Nat) * 1000000 : Nat) / ((2 ^ 48 : Nat) : Rat)))).toNat

/-- A reported junction temperature of one switch (R207). -/
def State.tjReport (s : State) (n w : Nat) (tj : Int) : State :=
  match s.sm n with
  | none => s
  | some m =>
    if !s.bit Obj.AGE_CTRL 1 || !s.estimates m then s else
    match m.age.switches[w]? with
    | none => s
    | some sw =>
      let (l, closed) := rainEnter sw.rain (s.get Obj.AGE_TJ_HYST) tj
      let counted := closed.filter fun h => s.get Obj.AGE_TJ_MIN ≤ h.1
      let d := counted.foldl (fun d h => d + s.halfCycle h.1 h.2) 0
      let age := { m.age with
        switches := m.age.switches.set w { sw with rain := l, damage := min (sw.damage + d) (2 ^ 64 - 1) }
        dtj := min (m.age.dtj + counted.length) 0xFFFFFFFF }
      let s1 := s.withSm n fun m => { m with age := age }
      if SmAge.damage m.age < s.getN Obj.AGE_D_WARN && s.getN Obj.AGE_D_WARN ≤ SmAge.damage age then s1.raise 357 else s1

/-- A slow entry of a submodule: the signed value of its low 12 bits, when provided. -/
def Sm.slow12 (m : Sm) (i : Nat) : Option Int := (pairGet m.slow i).map fun v => signed 12 v

/-- The acceptance of R205 and R206: the current of the tagged cycle, and the switch's temperature. -/
def State.reportOk (s : State) (m : Sm) (w tag : Nat) : Bool :=
  let cur := (s.age.currents.find? fun e => e.1 % 4096 == tag).bind fun e => (e.2.getD (m.n / 1280) none)
  match cur, m.slow12 (4 + w) with
  | some i, some tj =>
    let iref : Rat := (s.get Obj.AGE_VON_IREF : Rat) / 1000
    absQ (absQ (fromQ 28 i) - iref) ≤ iref * s.get Obj.AGE_VON_IBAND / 1000 &&
    absInt (tj - 10 * s.get Obj.AGE_VON_TREF) ≤ 10 * s.get Obj.AGE_VON_TBAND
  | _, _ => false

/-- An on-state or plateau report of one switch (R205, R206). -/
def State.driftReport (s : State) (n w value : Nat) (plateau : Bool) : State :=
  match s.sm n with
  | none => s
  | some m =>
    if !s.bit Obj.AGE_CTRL 0 || !s.estimates m || !s.reportOk m w (value / 4096) then s else
    let count := s.getN Obj.AGE_BASE_COUNT
    s.withSm n fun m => { m with age := { m.age with switches := updateAt m.age.switches w fun sw =>
      if plateau then
        let (l, b) := driftEnter count sw.plat sw.platBase (value % 4096)
        { sw with plat := l, platBase := b }
      else
        let (l, b) := driftEnter count sw.von sw.vonBase (value % 4096)
        { sw with von := l, vonBase := b } } }

/-! ## Upward halves -/

/-- The median of three; of fewer, the latest (R113). -/
def median3 : List Nat → Nat
  | [a, b, c] => max (min a b) (min (max a b) c)
  | a :: _ => a
  | [] => 0

/-- The voltage of a submodule passes the temporal median (R113). -/
def State.smVoltage (s : State) (m : Sm) (v : Nat) : State :=
  let win := (v :: m.win).take 3
  let med := s.bit Obj.RNK_CTRL 0
  let x := if med then median3 win else v
  let s1 := s.withSm m.n fun m => { m with win := win, v := x, raw := some v }
  if med && 2 * s.get Obj.RNK_SPIKE_DV < 125 * absInt ((v : Int) - x) then s1.bump (Obj.RNK_SPIKE_COUNT (m.n / 1280)) else s1

/-- A slow-channel entry of a submodule (R237, R238). -/
def State.slowEntry (s : State) (n idx value : Nat) (new : Bool) : State :=
  if value = 0xFFFFFF && !new then s else
  let s1 := s.withSm n fun m => { m with slow := (idx, value) :: m.slow.filter fun e => e.1 ≠ idx }
  if 4 ≤ idx && idx ≤ 7 then s1.tjReport n (idx - 4) (signed 12 value)
  else if 10 ≤ idx && idx ≤ 13 then s1.driftReport n (idx - 10) value false
  else if 14 ≤ idx && idx ≤ 17 then s1.driftReport n (idx - 14) value true
  else if idx = 18 ∨ idx = 19 then
    if !new then s1 else
    let d := field value 20 4
    s1.gpfReport n d (idx - 18) (field value 0 10) (4 * field value 10 9)
  else if idx = 32 then
    match s1.locate n with
    | some (p, _) => if s1.bit (Obj.LNK_PAIR_STATUS p) 1 && 80 < absInt (signed 12 value) then s1.event 107 n [] else s1
    | none => s1
  else s1

/-- What STATUS of a valid half makes known (Table 10.8), `old` being the status before. -/
def State.smStatus (s : State) (n st : Nat) (old : Option Nat) : State :=
  let was := fun b => (old.map fun o => bitOf o b).getD false
  let s1 := if bitOf st 5 then (s.setBit Obj.LNK_STATUS 4 true).raise 108 else s
  let s2 := if bitOf st 6 then (s1.setBit Obj.LNK_STATUS 5 true).raise 109 else s1
  let s3 := if bitOf st 8 && !was 8 then s2.raise 110 else s2
  let s4 := if bitOf st 10 ≠ was 10 then s3.raise 115 else s3
  let s5 := if bitOf st 9 then
      match s4.gpf.updates.find? fun u => u.submodule == n with
      | some u => s4.gpfAck n u.descriptor
      | none => s4
    else s4
  match s5.sm n with
  | none => s5
  | some m =>
    if bitOf st 2 && m.cls ≠ clsBypassed && m.cls ≠ clsRetired && m.cls ≠ clsMissing then s5.smClass n clsBypassed 0
    else if bitOf st 1 && m.cls ≤ clsSpare then s5.smClass n clsFaulted 0
    else s5

/-- The transient count of a submodule. -/
def State.smTransient (s : State) (n : Nat) : State := s.withSm n fun m => { m with transient := min (m.transient + 1) 0xFFFFFFFF }

/-- A lasting loss of a slot: UNREACHED (R259, R260). -/
def State.smLost (s : State) (n site src obj : Nat) : State :=
  let s1 := ((s.withSm n fun m => { m with lasting := min (m.lasting + 1) 0xFFFFFFFF }).bump obj).raise src
  (s1.siteOutcome site src n [] true).smClass n clsUnreached site

/-- A valid upward half of a submodule (R234, R259, R260). DEDUCED (log entry 30): unsafe. -/
def State.smReceive (s : State) (n half : Nat) : State :=
  match s.sm n with
  | none => s
  | some m =>
    let v := field half 0 16
    let st := field half 16 16
    let s1 := if m.gap = 1 && m.cls ≤ clsSpare then
        let s1 := ((s.bump Obj.LNK_SLOT_TRANSIENT).siteOutcome 0x01 98 n [] false).smTransient n
        let s2 := if s1.lnk.transBefore || s1.lnk.transNow then s1 else s1.raise 98
        s2.withLnk fun l => { l with transNow := true }
      else s
    let err := bitOf st 11 && s1.owner
    let run := if err then m.cmdErr + 1 else 0
    let s2 := if !err && m.cmdErr = 1 then (s1.siteOutcome 0x02 100 n [] false).smTransient n else s1
    let s3 := s2.withSm n fun m => { m with
      got := true, gap := 0, cmdErr := run, status := some st, up := half % 2 ^ 64
      holding := if bitOf st 7 then m.holding + 1 else 0
      obeyed := if field st 3 2 = 2 - s.getN Obj.DEV_UNIT then m.codeNow else m.obeyed
      intervals := m.intervals.map fun i => i.voltage s.orb.boundary s.period (some v) }
    let s4 := (s3.smVoltage m v).smStatus n st m.status
    let s5 := if run = 2 && m.cls ≤ clsSpare then s4.smLost n 0x02 100 Obj.LNK_CMD_ERR_LASTING else s4
    (s5.slowEntry n (field half 32 6) (field half 40 24) (bitOf half 38)).intervalsServe n

/-- A half as it arrives: its check, its slow index and V_VALID decide (R237, R259). -/
def State.halfOk (s : State) (p pos cycle half : Nat) : Bool :=
  upCheck p pos cycle half && field half 32 6 = cycle % 64 && bitOf half 16 && decide (s.sm (s.globalOf p pos) ≠ none)

/-- The positions of the slots of a port's frame (R231): the split decides when the frame was assembled with it. -/
def slotPositions (n : Nat) (odd placed : Bool) (k : Nat) : List Nat :=
  let cut := if placed then k else (n + 1) / 2
  if odd then ((List.range n).filter fun q => cut ≤ q).reverse else List.range (min cut n)

/-- The nodes beside the break report LINK_CLEAN (R252). -/
def State.cleanSeen (s : State) (p pos half : Nat) : State :=
  let k := s.getN (Obj.LNK_PAIR_SPLIT p)
  if s.pairMode p ≠ pairLine || !((s.pair p).map (·.splitKnown)).getD false then s else
  let clean := bitOf half 30
  let s1 := if pos + 1 = k then s.withPair p fun q => { q with clean := withBit q.clean 0 clean }
    else if pos = k then s.withPair p fun q => { q with clean := withBit q.clean 1 clean } else s
  -- A break at a port has no node on its side.
  if k = 0 then s1.withPair p fun q => { q with clean := withBit q.clean 0 true }
  else if k = s.pairNodes p then s1.withPair p fun q => { q with clean := withBit q.clean 1 true } else s1

/-- The boundary of the cycle a returned frame names: the present one or one of the two before (R45, R51). -/
def State.boundaryOf (s : State) (cycle : Nat) : Option Nat :=
  let d := (s.orbCount + 2 ^ 32 - cycle) % 2 ^ 32
  if d = 0 then some s.orb.boundary else s.orb.past[d - 1]?

/-- The slack of a frame enters the margin (R51). -/
def State.slackEnter (s : State) (p : Nat) (slack : Int) : State :=
  if bitOf s.orb.heldPairs p then s else
  let s1 := s.put Obj.ORB_MARGIN_MIN (min (s.get Obj.ORB_MARGIN_MIN) slack)
  if slack < s.get Obj.ORB_MARGIN_WARN && !s.orb.marginSeen then
    ({ s1 with orb := { s1.orb with marginSeen := true } }.setBit Obj.ORB_STATUS 8 true).raise 167
  else s1

/-- A CONTROL frame of `cycle` is back at a port of a pair, its last bit arriving now (R37, R45, R51, R229, R251). -/
def State.frameBack (s : State) (p : Nat) (odd : Bool) (cycle : Nat) (fcrcOk : Bool) (hops : Nat) (looped : Bool)
    (halves : List Nat) : State :=
  match s.pair p, s.boundaryOf cycle with
  | some q, some b =>
    if !s.valvePair p || !(4 ≤ s.devState && s.devState ≤ 6) then s else
    let port := if odd then 1 else 0
    let late := s.orbCount ≠ cycle || 2 ≤ s.orb.phase
    let latency := s.now - b
    let length := if s.orbCount = cycle then s.getN Obj.ORB_PERIOD_NOW else
      if s.orb.past.length ≤ 1 then s.getN Obj.ORB_PERIOD_NOW else
      (((s.orb.boundary :: s.orb.past).filter fun x => b < x).foldl (fun m x => min m x) (b + 50000) - b) / 250
    let s1 := s.slackEnter p (tUp length - latency)
    let s2 := s1.withPair p fun q => { q with
      portLatency := q.portLatency.set port (min latency 0xFFFE)
      back := if late then q.back else withBit q.back port true }
    let worst : Nat := ((s2.pair p).map fun q => q.portLatency.foldl Nat.max 0).getD 0
    let s3 := s2.put (Obj.ORB_PAIR_LATENCY p) worst
    let s4 := if fcrcOk then s3 else
      ((s3.bump (Obj.LNK_PAIR_FRAME_ERR p)).raise 101).withLane (2 * p + port) fun l => { l with unclean := true }
    let s5 := if looped && s4.pairMode p = pairRing then s4.lineEnter p else s4
    let s6 := if looped then s5.splitLearn p hops odd else s5
    let n := s.pairNodes p
    let k := s6.getN (Obj.LNK_PAIR_SPLIT p)
    let want := if s6.pairMode p = pairRing then n else if odd then n - k else k
    let known := s6.pairMode p = pairRing || ((s6.pair p).map (·.splitKnown)).getD false
    let s7 := if known && hops ≠ want then
        ((s6.bump (Obj.LNK_PAIR_FRAME_ERR p)).setBit (Obj.LNK_PAIR_STATUS p) 8 true).raise 111
      else s6
    if late then s7 else
    let kept := q.placed
    let kOld := s.getN (Obj.LNK_PAIR_SPLIT p)
    let s8 := ((slotPositions n odd kept kOld).zip halves).foldl (fun s (e : Nat × Nat) =>
      if s.halfOk p e.1 cycle e.2 then (s.smReceive (s.globalOf p e.1) e.2).cleanSeen p e.1 e.2 else s) s7
    s8.returnReady p
  | _, _ => s

/-- A submodule whose half has not come by T_up (R259, R45). -/
def State.smMissing (s : State) (n : Nat) (heldPair : Bool) : State :=
  match s.sm n with
  | none => s
  | some m =>
    let s1 := s.withSm n fun m =>
      { m with intervals := m.intervals.map fun i => i.voltage s.orb.boundary s.period none }
    if m.cls = clsMissing then s1
    else if heldPair then s1.bump Obj.ORB_LATE_SLOTS
    else
      let s2 := s1.withSm n fun m => { m with gap := m.gap + 1 }
      if m.gap = 1 && m.cls ≤ clsSpare then s2.smLost n 0x01 99 Obj.LNK_SLOT_LASTING else s2

/-- T_up: every slot of a frame in flight that has not come is missing (R33, R259). DEDUCED (log entry 30): unsafe. -/
def State.slotsClose (s : State) : State :=
  s.valvePairs.foldl (fun s p =>
    let sent := 4 ≤ s.devState && s.devState ≤ 6 && ((s.pair p).map (fun q => bitOf q.back 7)).getD false
    if !sent then s else
    (List.range (s.pairNodes p)).foldl (fun s pos =>
      match s.sm (s.globalOf p pos) with
      | some m => if m.got then s else s.smMissing m.n (bitOf s.orb.heldPairs p)
      | none => s) s) s

/-- The boundary moves every submodule's codes on by one cycle, counts insertions, and opens and closes intervals (R36, R124,
R202). -/
def State.smsBoundary (s : State) : State :=
  let inserted := fun (c : Nat) => c = 1 || c = 2
  let f := fun (m : Sm) =>
    let came := inserted m.codeNext && m.codeNow ≠ m.codeNext
    let left := inserted m.codeNow && m.codeNow ≠ m.codeNext
    let edge := m.edgeNext.isSome
    let close := fun (i : Interval) =>
      if i.stop.isNone then { i with stop := if left then some s.orb.boundary else none,
                                     good := i.good && !(left && edge) } else
        -- v_end needs a whole cycle in zero state after the insertion.
        if i.vEnd.isNone && i.stop ≠ some s.orb.boundary && (inserted m.codeNow || m.edgeNow.isSome) then
          { i with good := false } else i
    let open_ := if came && s.bit Obj.AGE_CTRL 0 && s.estimates m then
        [{ start := s.orb.boundary, stop := none, vStart := none, vLast := none, vEnd := none, neg := m.codeNext = 2,
           good := !edge, q := 0, covered := false, before := none, after := none : Interval }] else []
    { m with codeNow := m.codeNext, codeNext := m.codeAfter, edgeNow := m.edgeNext, edgeNext := m.edgeAfter, got := false,
             fresh := false, intervals := m.intervals.map close ++ open_,
             age := if came then { m.age with inserts := m.age.inserts + 1 } else m.age }
  (s.withAge fun g => { g with sms := g.sms.map f }).withLnk fun l => { l with transBefore := l.transNow, transNow := false }

/-! ## Enumeration and LINKUP -/

/-- The list of configured submodules at the entry to LINKUP: records with history stay, windows are emptied (R113). -/
def State.smsLinkup (s : State) : State :=
  s.withAge fun g => { g with sms := s.submodules.map (fun n =>
    match g.sms.find? (fun m => m.n == n) with
    | some m =>
      { s.freshSm n with
        cls := if m.cls = clsRetired ∨ m.cls = clsBypassed then m.cls else clsMissing
        age := m.age
        transient := m.transient
        lasting := m.lasting
        full := m.full }
    | none => s.freshSm n) }

/-- A node answers at a position: its type, and its identity against the ageing record (R208, R458). -/
def State.nodeAnswer (s : State) (n : Nat) (r : NodeRecord) : State :=
  match s.sm n with
  | none => s
  | some m =>
    let full := r.typeVer / 2 ^ 12 % 16 = 1
    let s1 := s.withSm n fun m => { m with full := full, cls := if m.cls = clsMissing then clsAvailable else m.cls }
    if m.age.identity = r.identity then s1
    else if m.age.identity = 0 then s1.withSm n fun m => { m with age := { m.age with identity := r.identity } }
    else
      let s2 := s1.withSm n fun m => { m with age := s.freshAge n r.identity, cls := clsAvailable }
      ((s2.count 0x20).raise 359).journalFull 359 n
        (bytesOf m.age.identity 6 ++ bytesOf r.identity 6 ++ bytesOf m.age.inserts 8 ++ bytesOf m.age.dtj 4) 0x20 false false

/-- Identities of the nodes that answer at positions of a pair. -/
def State.nodesAnswer (s : State) (p : Nat) (nodes : List (Nat × NodeRecord)) : State :=
  let s1 := nodes.foldl (fun s (e : Nat × NodeRecord) => s.nodeAnswer (s.globalOf p e.1) e.2) s
  s1.withPair p fun q => { q with ids := q.ids ++ nodes.map fun e => (e.1, e.2.identity) }

/-- The checks of step 4 over all that a pair has answered (R246). DEDUCED (log entry 34): unsafe. -/
def State.enumChecks (s : State) (p found : Nat) : State :=
  let n := s.pairNodes p
  let s1 := s.put (Obj.LNK_PAIR_FOUND p) found
  if n < found then (s1.setBit (Obj.LNK_PAIR_STATUS p) 7 true).linkFail p else
  let s2 := (s1.setBit (Obj.LNK_PAIR_STATUS p) 7 false).setBit (Obj.LNK_PAIR_STATUS p) 3 (found < n)
  let s3 := (s2.identityCheck p).linkStep p 2
  let s4 := (s3.answeredPositions p).foldl (fun (s : State) (i : Nat) => s.emit (.record 2 [p, 0, i, 0])) s3
  -- The identities go to the partner for R14.
  if s4.hasPartner then
    s4.emit (.record 0x26 ((p : Int) :: (((s4.pair p).map (·.ids)).getD []).flatMap fun i => [(i.1 : Int), (i.2 : Int)]))
  else s4

/-- Designates the initial spares of every arm once all its positions are decided (Table 5.2). -/
def State.sparesInit (s : State) : State :=
  if !(s.valvePairs.all fun p => s.stepDone p 2) then s else
  (List.range 6).foldl (fun s a =>
    let avail := ((s.armSms a).filter fun m => m.cls = clsAvailable).reverse
    (avail.take (s.getN (Obj.RNK_SPARE_INIT a))).foldl (fun s m => s.withSm m.n fun m => { m with cls := clsSpare }) s) s

/-- A returned ENUMERATE frame (R246 steps 2 to 4): records in the order of the count, from VP(2p) or VP(2p+1); `whole`
when the frame came back and every record's check passed. -/
def State.enumBack (s : State) (p : Nat) (odd looped whole : Bool) (records : List NodeRecord) : State :=
  if s.devState ≠ stLinkup || !s.valvePair p || s.stepDone p 2 then s else
  if !whole then s.linkFail p else
  let n := s.pairNodes p
  match ((s.pair p).bind (·.evenFound)), odd with
  | none, false =>
    let s1 := (s.withPair p fun q => { q with ids := [] }).nodesAnswer p ((List.range records.length).zip records)
    if looped then s1.withPair p fun q => { q with evenFound := some records.length }
    else ((s1.put (Obj.LNK_PAIR_MODE p) pairRing).enumChecks p records.length).sparesInit
  | some k, true =>
    let s1 := s.nodesAnswer p (((List.range records.length).map fun i => n - 1 - i).zip records)
    let s2 := ((s1.put (Obj.LNK_PAIR_MODE p) pairLine).put (Obj.LNK_PAIR_SPLIT p) k).setBit (Obj.LNK_PAIR_STATUS p) 4 true
    let s3 := ((s2.withPair p fun q => { q with splitKnown := true, evenFound := none }).raise 96).bump (Obj.LNK_PAIR_LINE_COUNT p)
    (s3.linkShow.enumChecks p (k + records.length)).sparesInit
  | _, _ => s

/-! ## The per-submodule record (R265) -/

/-- Optional values as an entry reads them. -/
def orAbsent (o : Option Int) : Int := o.getD Obj.absent

/-- Four 12-bit slow entries in 16-bit lanes; a switch the node does not have reads 0 in its lane. -/
def Sm.lanes (m : Sm) (first : Nat) (sign : Bool) : Int :=
  if (List.range 4).all fun i => (pairGet m.slow (first + i)).isNone then Obj.absent else
  (List.range 4).foldl (fun (v : Int) i => v + (match pairGet m.slow (first + i) with
    | some x => ((if sign then unsigned 16 (signed 12 x) else x % 4096) * 2 ^ (16 * i) : Nat)
    | none => 0)) 0

/-- Entry `sub` of the record of a submodule (Table 10.14); absent where it has no value yet. -/
def State.smEntry (s : State) (n sub : Nat) : Int :=
  match s.sm n with
  | none => Obj.absent
  | some m =>
    let slow := fun i => orAbsent ((pairGet m.slow i).map fun (v : Nat) => (v : Int))
    let nat := fun (v : Nat) => (v : Int)
    match sub with
    | 0x01 => orAbsent (m.raw.map nat)
    | 0x02 => if m.raw.isSome then m.v else Obj.absent
    | 0x03 => orAbsent (m.status.map nat)
    | 0x04 => m.half
    | 0x05 => m.cls
    | 0x06 => orAbsent m.key
    | 0x07 => m.age.weight
    | 0x08 => m.age.ceil
    | 0x09 => m.age.floor
    | 0x0A => orAbsent (m.age.cEst.map nat)
    | 0x0B => orAbsent (SmAge.esrRatio m.age)
    | 0x0C => orAbsent (SmAge.vonDrift m.age)
    | 0x0D => orAbsent (SmAge.platDrift m.age)
    | 0x0E => SmAge.damage m.age
    | 0x0F => m.lanes 4 true
    | 0x10 => orAbsent (m.slow12 8)
    | 0x11 => orAbsent (m.slow12 9)
    | 0x12 => m.lanes 10 false
    | 0x13 => m.lanes 14 false
    | 0x14 => slow 18
    | 0x15 => slow 19
    | 0x16 => orAbsent ((pairGet m.slow 20).map fun v => nat (v % 4096))
    | 0x17 => orAbsent ((pairGet m.slow 21).map fun v => nat (v % 4096))
    | 0x18 => match pairGet m.slow 22, pairGet m.slow 23 with
      | some lo, some hi => nat (lo + 2 ^ 24 * hi)
      | _, _ => Obj.absent
    | 0x19 => m.age.inserts
    | 0x1A => saturateU 64 (m.age.charge * 1000).floor
    | 0x1B => m.age.dtj
    | 0x1C => if m.age.identity = 0 then Obj.absent else m.age.identity
    | 0x1D => slow 2
    | 0x1E => match s.locate n with
      | some (p, pos) => (pos + 2048 * p + 65536 * (n / 1280) + 524288 * field (m.status.getD 0) 3 2 : Nat)
      | none => Obj.absent
    | 0x1F => m.transient
    | 0x20 => m.lasting
    | 0x21 => if (List.range 4).all fun i => (pairGet m.slow (24 + i)).isNone then Obj.absent else
      ((List.range 4).foldl (fun v i => v + (pairGet m.slow (24 + i)).getD 0 % 65536 * 2 ^ (16 * i)) 0 : Nat)
    | 0x22 => orAbsent (m.slow12 32)
    | 0x23 => match m.slow12 30, m.slow12 31 with
      | some l, some h => (unsigned 16 l + 65536 * unsigned 16 h : Nat)
      | _, _ => Obj.absent
    | 0x24 => nat ((pairGet m.slow 28).getD 0 % 256)
    | _ => Obj.absent

end Sys2Proof.Machine
end

