-- ==== Sys2Proof/Machine/Rank.lean ====
section
/-!
DEFINITION. The rank engine and the arm modulators at T_up (R100 to R128): what the rank engine latches, the level of each
arm, the selection, the edge, and the codes of the cycle after next.
-/

namespace Sys2Proof.Machine

/-! ## Cycle lengths -/

/-- The length, in 0.25 us, of the cycle `k` boundaries ahead as the sequencer knows it now (R64). -/
def State.lenAhead (s : State) (k : Nat) : Nat :=
  let reached := fun (o : Option Nat) => match o with
    | some c => orbLater (s.orbAfter k) c || s.orbAfter k = c
    | none => false
  if reached s.orb.returnAt then s.getN Obj.ORB_PERIOD
  else if reached s.orb.stretchAt then s.getN Obj.ORB_DEG_PERIOD
  else s.getN Obj.ORB_PERIOD_NOW

/-- The switching cap for a cycle length in 0.25 us (R118). -/
def State.swCap (s : State) (quarters : Nat) : Nat := max 1 (s.getN Obj.RNK_SW_RATE * quarters / 4000)

/-- The caps as read, computed when RNK_SW_RATE is staged and at CONFIG (R118). -/
def State.swCaps (s : State) : State :=
  (s.put Obj.RNK_SW_CAP_NORM (s.swCap (s.getN Obj.ORB_PERIOD))).put Obj.RNK_SW_CAP_DEG (s.swCap (s.getN Obj.ORB_DEG_PERIOD))

/-! ## What is latched at T_up -/

/-- A submodule counts as held in this cycle. -/
def Sm.isHeld (m : Sm) : Bool := m.cls = clsAvailable && !m.got

/-- The usable energy of a submodule in J (R122); `c` in 0.1 uF, voltages in 62.5 mV. -/
def Sm.eUsable (m : Sm) (c : Nat) : Rat :=
  ((c * ((m.age.ceil : Int) ^ 2 - (m.age.floor : Int) ^ 2) : Int) : Rat) / 5120000000

/-- The stored energy of a submodule in J (R122). -/
def Sm.eStored (m : Sm) (c : Nat) : Rat := ((c * m.v ^ 2 : Nat) : Rat) / 5120000000

/-- Sums, counts and capacities of one arm (R100, R112, R122). -/
def State.rankArmLatch (s : State) (a : Nat) : State :=
  let all := s.armSms a
  let avail := all.filter fun m => m.cls = clsAvailable
  let old := avail.filter fun m => !m.fresh
  let nAv := old.length
  let v := (old.foldl (fun (t : Nat) m => t + m.v) 0 : Nat)
  let vAvg : Option Nat := if nAv = 0 then none else some (roundAway ((v * 65536 : Nat) / (nAv : Rat))).toNat
  let eU : Rat := avail.foldl (fun t m => t + m.eUsable (s.capOf m)) 0
  let eS : Rat := avail.foldl (fun t m => t + m.eStored (s.capOf m)) 0
  let block := avail.foldl (fun (t : Nat) m => t + m.age.ceil) 0
  let held := (avail.filter Sm.isHeld).length
  let s1 := s.withArm a fun r => { r with
    vAvg := vAvg.getD r.vAvg
    nAv := nAv
    nFb := (old.filter (·.full)).length
    eUsable := (saturateU 48 (roundAway eU)).toNat
    eStored := (saturateU 48 (roundAway eS)).toNat
    block := block
    held := held }
  let vNow := (s1.age.arms[a]?.map (·.vAvg)).getD 0
  let blockV : Rat := (block : Rat) / 16
  let limit : Rat := s.vdcBase * s.get Obj.RNK_BLOCK_MARGIN / 1000
  let low := decide (blockV < limit + s.vdcBase / 20)
  let depleted := nAv = 0 || decide (blockV < limit)
  let s2 := if low && !s1.bit (Obj.RNK_ARM_STATUS a) 5 then s1.raise 242 else s1
  let s3 := if depleted && !s2.bit (Obj.RNK_ARM_STATUS a) 6 then s2.raise 241 else s2
  let s4 := ((s3.setBit (Obj.RNK_ARM_STATUS a) 5 low).setBit (Obj.RNK_ARM_STATUS a) 6 depleted).setBit
    (Obj.RNK_ARM_STATUS a) 7 (0 < held)
  ((((((s4.put (Obj.MOD_V_AVG a) (roundAway ((vNow * 125 : Nat) / (131072 : Rat)))).put (Obj.RNK_AVAIL a) nAv).put
    (Obj.RNK_SPARES a) (all.filter fun m => m.cls = clsSpare).length).put (Obj.RNK_HELD a) held).put
    (Obj.RNK_OUT a) (all.filter fun m => clsFaulted ≤ m.cls).length).put
    (Obj.RNK_E_STORED_ARM a) (saturateU 32 (roundAway (saturateU 48 (roundAway eS) / (1000 : Rat))))).put
    (Obj.RNK_E_USABLE_ARM a) (saturateU 32 (roundAway (saturateU 48 (roundAway eU) / (1000 : Rat)))) |>.put
    (Obj.RNK_BLOCK_CAP a) (roundAway blockV)

/-- The arms of the valve. -/
def State.arms (s : State) : List Nat := (List.range 6).filter fun a => 0 < s.armNodes a

/-- The snapshot current of an arm in pu: roles 7 to 12. -/
def State.armCurrent (s : State) (a : Nat) : Option Rat := s.snapPu (7 + a)

/-- The direction of one arm (R116, R117). -/
def State.rankDirection (s : State) (a : Nat) : State :=
  match s.age.arms[a]? with
  | none => s
  | some r =>
    let band : Rat := (s.get Obj.RNK_I_DIR_BAND : Rat) / 1000
    match s.armCurrent a with
    | some i =>
      let inBand := decide (-band < i) && decide (i < band)
      let sigma : Int := if band ≤ i then -1 else if i ≤ -band then 1 else if s.age.runEntry then -1 else r.sigma
      let s1 := s.withArm a fun r => { r with sigma := sigma, dirRun := 0 }
      (s1.setBit (Obj.RNK_ARM_STATUS a) 1 inBand).setBit (Obj.RNK_ARM_STATUS a) 2 false
    | none =>
      let s1 := s.withArm a fun r => { r with dirRun := min 2 (r.dirRun + 1) }
      let s2 := (s1.setBit (Obj.RNK_ARM_STATUS a) 1 false).setBit (Obj.RNK_ARM_STATUS a) 2 true
      let s3 := if s.bit (Obj.RNK_ARM_STATUS a) 2 then s2 else s2.raise 240
      if r.dirRun = 1 && s.devRole = roleStandby then s3.setRole roleStale 0 else s3

/-- The trip causes of the rank engine: active in RUN for the owner, and on in TRIP while the condition lasts (R112, R117,
R188). Source 241 marks their beginning. DEDUCED (log entry 41): unsafe. -/
def State.rankTrips (s : State) : State :=
  let depleted := s.arms.any fun a => s.bit (Obj.RNK_ARM_STATUS a) 6
  let blind := s.arms.any fun a => ((s.age.arms[a]?).map fun r => decide (2 ≤ r.dirRun)).getD false
  let run := s.devState = stRun && s.owner
  let one := fun (s : State) (c : Nat) (cond : Bool) =>
    let on := cond && (run || (s.devState = stTrip && s.causeActive c))
    let s1 := if on && !s.causeActive c then s.raise 241 else s
    s1.setCause c on
  one (one s causeDepleted depleted) causeArmCurrent blind

/-- The classes of every configured position are decided since the latest entry to LINKUP (Table 5.2). Before that there is no
energy sum for R69 to start from. DEDUCED (log entry 13): unsafe. -/
def State.classesDecided (s : State) : Bool := s.valvePairs.all fun p => s.stepDone p 2

/-- T_up, first part: counts, sums, validity, directions, current bands and the current history (R100, R112, R116, R122,
R123, R194, R238). DEDUCED (log entry 13): unsafe. -/
def State.rankLatch (s : State) : State :=
  let s1 := s.arms.foldl (fun s a => ((s.rankArmLatch a).rankDirection a).gpfSelect a (s.armCurrent a)) s
  let held := s1.arms.foldl (fun (t : Nat) a => t + s1.getN (Obj.RNK_HELD a)) 0
  let ok := held ≤ s1.getN Obj.RNK_E_HOLD_MAX && !s1.age.eBad
  let s2 := if !ok && s1.age.eValid then s1.raise 239 else s1
  let sums := ok && s2.classesDecided
  let s3 := (s2.setBit Obj.RNK_STATUS 0 sums).setBit Obj.RNK_STATUS 1 (bitOf s2.age.sortBad 6)
  let now := (List.range 6).map fun a => (s3.armCurrent a).map fun i => roundAway (i * 268435456)
  let s4 := s3.withAge fun g => { g with
    eValid := sums, eBad := false, runEntry := false, currents := ((s3.orbCount, now) :: g.currents).take 4096 }
  s4.rankTrips

/-! ## Level (R101 to R103) -/

/-- What a modulator computes for one arm. -/
structure Level where
  /-- Signed count N, direction of the remainder, magnitude of the level and remainder in 2^-24, minority interval. -/
  n : Int
  neg : Bool
  mag : Int
  rest : Int
  d : Nat
  /-- SAT_HIGH, SAT_LOW, edge dropped, edge stretched. -/
  high : Bool
  low : Bool
  dropped : Bool
  stretched : Bool
deriving DecidableEq, Repr

/-- The level of an arm from its reference in pu of V_dc_base (R101 to R103). -/
def State.modLevel (s : State) (a : Nat) (r : Arm) (ref : Rat) (u : Nat) : Level :=
  if r.nAv = 0 ∨ r.vAvg = 0 then
    { n := 0, neg := false, mag := 0, rest := 0, d := 0, high := decide (0 < ref), low := decide (ref < 0), dropped := false,
      stretched := false }
  else
    let x0 := toQ 40 24 (ref * s.vdcBase / ((r.vAvg : Rat) / 1048576) + fromQ 24 r.carry)
    let clamped := decide (x0 < 0) && r.nFb = 0
    let x := if clamped then 0 else x0
    let neg := decide (x < 0)
    let mag := absInt x
    let nMax := if neg then r.nFb else r.nAv
    if (nMax * 16777216 : Nat) < mag then
      { n := if neg then -(nMax : Int) else nMax, neg := neg, mag := mag, rest := 0, d := 0, high := !neg, low := neg,
        dropped := false, stretched := false }
    else
      let n := (mag + 8388608) / 16777216
      let rest := mag - n * 16777216
      let d := (roundAway ((absInt rest : Rat) * u / 16777216)).toNat
      let uMin := (roundAway ((s.get Obj.MOD_EDGE_MIN * 128 : Int) / (5 : Rat))).toNat
      let fine := s.bit (Obj.MOD_ARM_CTRL a) 0
      let d1 := if !fine || 2 * d < uMin then 0 else if d < uMin then uMin else d
      { n := if neg then -n else n, neg := neg, mag := mag, rest := rest, d := d1, high := false, low := clamped
        dropped := fine && 0 < d && d1 = 0, stretched := fine && 0 < d && d < d1 }

/-- The carry after a computation with minority interval `d` (R101, R121). -/
def State.modCarry (s : State) (a : Nat) (l : Level) (d u : Nat) : Int :=
  if l.high || l.low || !s.bit (Obj.MOD_ARM_CTRL a) 0 || !s.bit (Obj.MOD_ARM_CTRL a) 1 then 0 else
  let step : Rat := if u = 0 then 0 else ((d : Rat) / u) * 16777216
  let realised : Rat := (absInt l.n * 16777216 : Int) + (if 0 < l.rest then step else if l.rest < 0 then -step else 0)
  let e := roundAway ((l.mag : Rat) - realised)
  clampInt (-8388608) 8388608 (if l.neg then -e else e)

/-! ## Selection (R114, R115, R119) -/

/-- A submodule in the order of an arm: class c_i, key, tie value, number. -/
structure Entry where
  c : Int
  k : Int
  t : Int
  n : Nat
deriving DecidableEq, Repr

/-- Is one entry ahead of another (R115)? -/
def Entry.ahead (charging : Bool) (x y : Entry) : Bool :=
  if x.c ≠ y.c then (if charging then x.c < y.c else y.c < x.c)
  else if x.k ≠ y.k then (if charging then x.k < y.k else y.k < x.k)
  else x.t ≤ y.t

/-- Puts an entry into its place. -/
def Entry.place (charging : Bool) (e : Entry) : List Entry → List Entry
  | [] => [e]
  | x :: rest => if e.ahead charging x then e :: x :: rest else x :: Entry.place charging e rest

/-- The selection order (R115). -/
def Entry.order (charging : Bool) (l : List Entry) : List Entry := l.foldr (Entry.place charging) []

/-- The ceiling class of a submodule (R115). -/
def State.ceilClass (s : State) (m : Sm) : Int :=
  if !s.bit Obj.RNK_CTRL 1 then 0 else if m.age.ceil ≤ m.v then 1 else if m.v ≤ m.age.floor then -1 else 0

/-- The hysteresis in units of 62.5 mV * 2^-15. -/
def State.hystKey (s : State) : Int := roundAway ((s.get Obj.RNK_HYST * 65536 : Int) / (125 : Rat))

/-- The entry of a submodule; `own` says whether it is presently inserted with the sign of the level (R114, R115). -/
def State.rankEntry (s : State) (m : Sm) (sigma : Int) (own : Bool) : Entry :=
  { c := s.ceilClass m, k := m.age.weight * m.v + (if own then sigma * s.hystKey else 0)
    t := ((m.n % 1280 : Nat) - (s.orbCount : Int)) % 1280, n := m.n }

/-- What the selection of an arm answers: the selected, the edge submodule with whether it was inserted, flags. -/
structure Choice where
  sel : List Nat
  edge : Option (Nat × Bool)
  pinned : List Nat
  capBound : Bool
  heldBound : Bool
deriving DecidableEq, Repr

/-- The selection of R119 over the eligible submodules of an arm. -/
def State.rankSelect (s : State) (l : Level) (sigma : Int) (cap : Nat) (sms : List Sm) : Choice :=
  let ins := if l.neg then 2 else 1
  let opp := sms.filter fun m => m.codeNext = 3 - ins
  let prev := sms.filter fun m => m.codeNext = ins
  let pinned := sms.filter fun m => m.isHeld && m.codeNext ≠ 3 - ins
  let free := sms.filter fun m => !m.isHeld && (m.full || !l.neg)
  let order := (Entry.order (decide (sigma < 0)) (free.map fun m => s.rankEntry m sigma (m.codeNext = ins))).map (·.n)
  let prevNs := prev.map (·.n)
  let pinnedPrev := (pinned.filter fun m => m.codeNext = ins).map (·.n)
  let count := (absInt l.n).toNat
  let ideal := pinnedPrev ++ order.take (count - pinnedPrev.length)
  let enter := order.filter fun n => n ∈ ideal && !(n ∈ prevNs)
  let leave := (order.filter fun n => n ∈ prevNs && !(n ∈ ideal)).reverse
  let m := (absInt ((count : Int) - prev.length)).toNat + opp.length
  let capE := max cap m
  let needIn := ideal.length - prev.length
  let needOut := prev.length - ideal.length
  let enter1 := enter.drop needIn
  let leave1 := leave.drop needOut
  let pairs := min (min enter1.length leave1.length) ((capE - m) / 2)
  let goneNs := leave.take needOut ++ leave1.take pairs
  let oppNs := opp.map (·.n)
  let sel := (prevNs ++ enter.take needIn ++ enter1.take pairs).filter fun n => !(n ∈ goneNs) && !(n ∈ oppNs)
  let edge := if l.d = 0 then none
    else if 0 < l.rest then order.find? fun n => !(n ∈ sel)
    else order.reverse.find? fun n => n ∈ sel
  { sel := sel, edge := edge.map fun n => (n, decide (n ∈ prevNs)), pinned := pinned.map (·.n)
    capBound := pairs < min enter1.length leave1.length, heldBound := count < pinnedPrev.length }

/-- The edge time and code of the edge submodule (Table 5.3). -/
def edgeSlot (inserted : Bool) (up : Bool) (ins d u : Nat) : Nat × Nat :=
  if inserted then (3, if up then d else u - d) else (ins, if up then u - d else d)

/-- The code of a submodule by its class in RUN (Table 5.1). -/
def classCode (cls : Nat) : Nat :=
  if cls = clsMissing then 0 else if cls = clsAvailable ∨ cls = clsSpare then 3 else 4

/-- The code of a submodule that is not the edge submodule (R121): a held one keeps its code (R119). -/
def Choice.plain (c : Choice) (ins : Nat) (m : Sm) : Nat × Option Nat :=
  if m.cls ≠ clsAvailable then (classCode m.cls, none)
  else if m.n ∈ c.pinned && 1 ≤ m.codeNext && m.codeNext ≤ 3 then (m.codeNext, none)
  else if m.n ∈ c.sel then (ins, none) else (3, none)

/-- The code and edge time of a submodule; `edge` is the edge submodule with its code and time (R121). -/
def Choice.code (c : Choice) (ins : Nat) (edge : Option (Nat × Nat × Nat)) (m : Sm) : Nat × Option Nat :=
  match edge with
  | some (n, code, time) => if n = m.n then (code, some time) else c.plain ins m
  | none => c.plain ins m

/-- Bits 31:0 of the downward half (Table 10.6). -/
def State.downWord (s : State) (m : Sm) (code : Nat) (edge : Option Nat) : Nat :=
  code + 8 * (s.gpf.bands.getD (m.n / 1280) 0) + (match edge with
    | some t => 128 + 256 * t
    | none => 0) + (if s.getN Obj.LNK_IDENTIFY = m.n then 2 ^ 29 else 0)

/-- Writes the codes of an arm for the cycle after next. -/
def State.setCodes (s : State) (a : Nat) (f : Sm → Nat × Option Nat) : State :=
  s.withAge fun g => { g with sms := g.sms.map fun m =>
    if m.n / 1280 ≠ a then m else
    let c := f m
    { m with codeAfter := c.1, edgeAfter := c.2, half := s.downWord m c.1 c.2 } }

/-- The keys as read, and the count of submodules at their ceiling (R114, R115); `ins` is the code of the present state that
counts as inserted, 9 for none. -/
def State.rankKeys (s : State) (a : Nat) (sigma : Int) (ins : Nat) : State :=
  let at_ := ((s.armSms a).filter fun m => m.cls = clsAvailable && !m.fresh && s.ceilClass m = 1).length
  let s1 := s.withAge fun g => { g with sms := g.sms.map fun m =>
    if m.n / 1280 = a && m.cls = clsAvailable && !m.fresh then
      { m with key := some (s.rankEntry m sigma (m.codeNext = ins)).k } else m }
  if at_ = 0 then s1 else s1.add (Obj.RNK_CEIL_CYCLES a) at_

/-- The status of an arm's modulator and selection after a computation. -/
def State.rankShow (s : State) (a : Nat) (l : Level) (c : Choice) (edge : Option (Nat × Nat × Nat)) (carry sigma : Int)
    (dropped : Bool) : State :=
  let sat := l.high || l.low
  let st := ofFlags [l.high, l.low, edge.isSome, dropped, l.stretched, decide (l.n < 0), false, c.heldBound]
  let changes := ((s.armSms a).filter fun m => m.codeAfter ≠ m.codeNext).length
  let s1 := (((((s.put (Obj.MOD_ARM_STATUS a) st).put (Obj.MOD_N_INS a) l.n).put (Obj.MOD_REMAINDER a) l.rest).put
    (Obj.MOD_EDGE_TIME a) ((edge.map (·.2.2)).getD 0)).put (Obj.MOD_EDGE_SM a) ((edge.map (·.1)).getD 0xFFFF)).put
    (Obj.MOD_CARRY a) carry
  let s2 := ((s1.put (Obj.RNK_SWITCHINGS a) changes).put (Obj.RNK_DIR a) sigma).setBit (Obj.RNK_ARM_STATUS a) 0 (sigma < 0)
  let s3 := s2.setBit (Obj.RNK_ARM_STATUS a) 3 c.capBound
  let r := s.age.arms[a]?
  let s4 := if sat then s3.bump (Obj.MOD_SAT_CYCLES a) else s3
  let s5 := if sat && !((r.map (·.satRun)).getD false) then s4.raise (224 + a) else s4
  let s6 := if dropped then s5.bump (Obj.MOD_EDGE_DROPPED a) else s5
  let s7 := if c.capBound then s6.bump (Obj.RNK_CAP_BOUND_CYCLES a) else s6
  let s8 := if c.capBound && !((r.map (·.capRun)).getD false) then s7.raise (230 + a) else s7
  s8.withArm a fun r => { r with carry := carry, level := l.n, rest := l.rest, satRun := sat, capRun := c.capBound
                                 minority := (edge.map (·.2.2)).getD 0 }

/-- An arm outside RUN, or in DEAD_CHECK: carry cleared, code 0 to every submodule (Table 5.7, R24). -/
def State.rankIdle (s : State) (a : Nat) : State :=
  let sigma := ((s.age.arms[a]?).map (·.sigma)).getD (-1)
  let s1 := s.setCodes a fun _ => (0, none)
  let none_ : Level := { n := 0, neg := false, mag := 0, rest := 0, d := 0, high := false, low := false, dropped := false,
                         stretched := false }
  (s1.rankKeys a sigma 9).rankShow a none_ { sel := [], edge := none, pinned := [], capBound := false, heldBound := false }
    none 0 sigma false

/-- An arm whose selection has failed (R126): its codes are open. DESIGN CHOICE (log entry 40): safe. -/
def State.rankFailed (s : State) (a : Nat) : State :=
  let s1 := s.setCodes a fun m =>
    let c := unsigned 2 (Config.freeValue (s.freeCtr + m.n))
    (if c = 2 && !m.full then 3 else c, none)
  { s1 with freeCtr := s1.freeCtr + 7680 }

/-- One arm in RUN: level, selection, edge, codes (R101 to R121). -/
def State.rankArm (s : State) (a : Nat) (ref : Rat) (u cap : Nat) : State :=
  match s.age.arms[a]? with
  | none => s
  | some r =>
    let l := s.modLevel a r ref u
    let sigma := if l.n < 0 then -r.sigma else r.sigma
    let ins := if l.neg then 2 else 1
    let computes := r.nAv ≠ 0 && r.vAvg ≠ 0
    let sms := if computes then (s.armSms a).filter fun m => m.cls = clsAvailable && !m.fresh else []
    let c := s.rankSelect l sigma cap sms
    let edge := c.edge.map fun e => (e.1, edgeSlot e.2 (decide (0 < l.rest)) ins l.d u)
    let dropped := l.dropped || (0 < l.d && edge.isNone)
    let carry := s.modCarry a l (if edge.isNone then 0 else l.d) u
    let s1 := if s.bit Obj.RNK_CTRL 1 || computes then s.rankKeys a sigma ins else s
    let s2 := (s1.setCodes a (c.code ins edge)).rankShow a l c edge carry sigma dropped
    let s3 := match edge with
      | some e => s2.carQueue a (s.orbAfter 2) e.2.2
      | none => s2
    let s4 := if decide (l.n < 0) ≠ decide (r.level < 0) then
        { s3 with car := { s3.car with commDue := s3.car.commDue ++ [(a, 1, s.orbAfter 2)] } } else s3
    if bitOf s.age.sortBad a then s4.rankFailed a else s4

/-- T_up, second part, with the arm references in pu of V_dc_base: levels, selection, codes (R101 to R121). `runs` says
whether the arms are modulated (RUN, but for DEAD_CHECK). `sigmas` are the directions before T_up. -/
def State.rankCompute (s : State) (runs : Bool) (refs : List Rat) (sigmas : List Int) : State :=
  let len := s.lenAhead 2
  let u := 6400 * len
  let cap := s.swCap len
  let s1 := s.put Obj.MOD_EDGE_UNITS u
  let s2 := s1.arms.foldl (fun s a =>
    let s1 := if runs then s.rankArm a (refs.getD a 0) u cap else s.rankIdle a
    let now := ((s1.age.arms[a]?).map (·.sigma)).getD (-1)
    let s2 := if now ≠ sigmas.getD a (-1) then
        { s1 with car := { s1.car with commDue := s1.car.commDue ++ [(a, 0, s.orbAfter 2)] } } else s1
    s2.withArm a fun r => { r with units := if runs then u else 0 }) s1
  s2.withAge fun g => { g with sortBad := 0 }

/-- T_fin: edges computed for a length that has changed since (R106). -/
def State.lenMismatch (s : State) : State :=
  let u := 6400 * s.lenAhead 2
  let bad := s.arms.filter fun a => ((s.age.arms[a]?).map fun r => decide (r.units ≠ 0 ∧ r.units ≠ u)).getD false
  if bad.isEmpty then s else
    (bad.foldl (fun s a => s.setBit (Obj.MOD_ARM_STATUS a) 6 true) (s.bump Obj.MOD_LEN_MISMATCH_COUNT)).raise 243

/-- A sort-memory error (R126): corrected, or uncorrectable in an arm (in the energy accumulators with arm 6, R123). -/
def State.sortError (s : State) (arm : Nat) (corrected : Bool) : State :=
  if 6 < arm then s
  else if corrected then
    ((s.count 0x16).raise 244).withAge fun g => { g with sortBad := g.sortBad ||| 64 }
  else if arm = 6 then (s.unitUncorr noSubject).withAge fun g => { g with eBad := true }
  else
    let s1 := (s.unitUncorr arm).overrun 3 2
    if s.orb.phase < 2 then s1.withAge fun g => { g with sortBad := withBit g.sortBad arm true }
    else if s.orb.phase = 2 && s.devState = stRun then s1.rankFailed arm else s1

end Sys2Proof.Machine
end

