-- ==== Sys2Proof/Machine/AgePlan.lean ====
section
/-!
DEFINITION. The margin plan (R214 to R221), its bytes, the restoration of the ageing state (R209), the summaries (R221) and
the AVS loop (R210 to R213).
-/

namespace Sys2Proof.Machine

/-! ## The plan buffer as bytes (R216) -/

/-- The row a plan buffer holds for a submodule: what the plan says, else the arm's initial values (Table 9.1). -/
def State.planRow (s : State) (p : Plan) (n : Nat) : PlanRow :=
  (p.rows.find? fun r => r.n == n).getD
    { n := n, ceil := s.getN (Obj.AGE_VCEIL_INIT (n / 1280)), floor := s.getN (Obj.AGE_VMIN_INIT (n / 1280))
      weight := 32768, action := 0 }

/-- The 61,460 bytes of a plan and its generation: submodule n at offset 8 n, the deratings at 0xF000 (R215, R216). -/
def State.planBytes (s : State) (p : Plan) (gen : Nat) : List Nat :=
  ((List.range 7680).flatMap fun n =>
    let r := s.planRow p n
    bytesOf (r.ceil + 2 ^ 16 * r.floor + 2 ^ 32 * r.weight + 2 ^ 48 * r.action) 8) ++
  ((List.range 6).flatMap fun a => bytesOf (p.derate.getD a 1000) 2) ++ [0, 0, 0, 0] ++ bytesOf gen 4

/-- Number of bytes of AGE_PLAN_SUBMIT. -/
abbrev planLength : Nat := 61460

/-- Rows of a plan image, from submodule `n` on. -/
def planRows : List Nat → Nat → Nat → List PlanRow
  | _, _, 0 => []
  | bytes, n, k + 1 =>
    let v := ofBytes (bytes.take 8)
    { n := n, ceil := field v 0 16, floor := field v 16 16, weight := field v 32 16, action := field v 48 3 } ::
      planRows (bytes.drop 8) (n + 1) k

/-- The plan and generation in an image of the right length. -/
def planOfBytes (bytes : List Nat) : Plan × Nat :=
  ({ rows := planRows bytes 0 7680
     derate := (List.range 6).map fun a => ofBytes ((bytes.drop (61440 + 2 * a)).take 2) },
   ofBytes ((bytes.drop 61456).take 4))

/-! ## Submission and checks (R215, R217) -/

/-- The generation SUBMIT names for the plan in force: 0 when none is. -/
def State.planGen (s : State) : Nat := if s.hasData Obj.AGE_PLAN_GEN then s.getN Obj.AGE_PLAN_GEN else 0

/-- The state and role of R215. -/
def State.planState (s : State) : Bool := (s.devState = stBlocked || s.devState = stRun) && s.owner

/-- The outcome of a submission (R217): the code of Table 9.2 and the arm, or 7. -/
def State.planResult (s : State) (code arm : Nat) : State :=
  let s1 := s.put Obj.AGE_PLAN_RESULT (code + 256 * arm)
  if code = 0 then s1 else (s1.bump Obj.AGE_PLAN_REFUSED_COUNT).event 353 noSubject (bytesOf (code + 256 * arm) 2)

/-- A submission: its checks begin. One made while another is under check is refused as PENDING. DESIGN CHOICE (log entry 46): unsafe. -/
def State.planSubmit (s : State) (plan : Plan) (gen : Nat) (agent : Bool) (sender : Option Route) : State :=
  if s.age.submitted.isSome then s.planResult 2 7 else
  let due : PlanDue := { plan := plan, gen := gen, allowed := agent && s.planState, sender := sender, boundary := none }
  s.withAge fun g => { g with submitted := some due }

/-- The class of a submodule, MISSING for a number that is not configured. -/
def State.classOf (s : State) (n : Nat) : Nat := ((s.sm n).map (·.cls)).getD clsMissing

/-- Does a submodule take the values of its row? -/
def State.planTakes (s : State) (n : Nat) : Bool := s.classOf n ≤ clsSpare

/-- A row carries out its values and its action, without the records of it. -/
def State.planDry (s : State) (r : PlanRow) : State :=
  if !s.planTakes r.n then s else
  let s1 := s.withSm r.n fun m => { m with age := { m.age with ceil := r.ceil, floor := r.floor, weight := r.weight } }
  let cls := s.classOf r.n
  if r.action = 1 then
    let s2 := s1.withSm r.n fun m => { m with cls := clsRetired }
    if cls = clsAvailable then
      match s2.spares (r.n / 1280) with
      | [] => s2
      | m :: _ => s2.withSm m.n Sm.admitted
    else s2
  else if r.action = 2 then s1.withSm r.n fun m => { m with cls := clsSpare }
  else if r.action = 3 then s1.withSm r.n Sm.admitted
  else s1

/-- A row breaks a range or a step (checks 0x04 to 0x08 of Table 9.2). -/
def State.planRowBreaks (s : State) (code : Nat) (r : PlanRow) : Bool :=
  let cls := s.classOf r.n
  match s.sm r.n with
  | none => code = 8 && r.action ≠ 0
  | some m =>
    let takes := cls ≤ clsSpare
    let far := fun (a b limit : Nat) => decide (limit < absInt ((a : Int) - b))
    match code with
    | 4 => takes && (r.ceil < s.getN Obj.AGE_VCEIL_MIN || s.getN Obj.AGE_VCEIL_MAX < r.ceil || r.ceil < r.floor + 1600)
    | 5 => takes && far r.ceil m.age.ceil (s.getN Obj.AGE_VCEIL_STEP)
    | 6 => takes && (r.floor < s.getN Obj.AGE_VMIN_MIN || far r.floor m.age.floor (s.getN Obj.AGE_VCEIL_STEP))
    | 7 => takes && (r.weight < 24576 || 40960 < r.weight || far r.weight m.age.weight (s.getN Obj.AGE_W_STEP))
    | 8 => r.action = 1 && !takes || r.action = 2 && cls ≠ clsAvailable || r.action = 3 && cls ≠ clsSpare || 4 ≤ r.action
    | _ => false

/-- The arm of the first row that breaks a check. -/
def State.planRowsBreak (s : State) (p : Plan) (code : Nat) : Option Nat :=
  (p.rows.find? fun r => s.planRowBreaks code r).map fun r => min 7 (r.n / 1280)

/-- The blocking capacity of an arm in codes (R112). -/
def State.blockSum (s : State) (a : Nat) : Nat :=
  ((s.armSms a).filter fun m => m.cls = clsAvailable).foldl (fun (t : Nat) m => t + m.age.ceil) 0

/-- The first check of Table 9.2 that a plan fails, with its arm; none when it is accepted. DESIGN CHOICE (log entry 46): unsafe. -/
def State.planCheck (s : State) (d : PlanDue) : Option (Nat × Nat) :=
  if !d.allowed || !s.planState then some (1, 7)
  else if s.age.accepted.isSome then some (2, 7)
  else if d.gen ≠ s.planGen then some (3, 7)
  else
    match ([4, 5, 6, 7, 8].filterMap fun c => (s.planRowsBreak d.plan c).map fun a => (c, a)) with
    | x :: _ => some x
    | [] =>
      let retired := fun a => (d.plan.rows.filter fun r => r.n / 1280 = a && r.action = 1).length
      let after := d.plan.rows.foldl State.planDry s
      let limit : Rat := s.vdcBase * (s.get Obj.RNK_BLOCK_MARGIN + 50) / 1000
      match s.arms.find? fun a => s.getN Obj.AGE_RETIRE_MAX < retired a with
      | some a => some (9, a)
      | none =>
        match s.arms.find? fun a => 64 < (after.spares a).length with
        | some a => some (10, a)
        | none =>
          match s.arms.find? fun a => decide ((after.blockSum a : Rat) / 16 < limit) with
          | some a => some (11, a)
          | none => ((List.range 6).find? fun a => (d.plan.derate.getD a 0) < 500 || 1000 < d.plan.derate.getD a 0).map
              fun a => (12, a)

/-- The checks end (R217, R218). Answers the code. -/
def State.planCheckDone (s : State) : State × Option (Nat × Option Route) :=
  match s.age.submitted with
  | none => (s, none)
  | some d =>
    let s0 := s.withAge fun g => { g with submitted := none }
    match s.planCheck d with
    | some (c, a) => (s0.planResult c a, some (c, d.sender))
    | none =>
      let marked := { d.plan with rows := d.plan.rows.map fun r => { r with action := r.action + 8 * s.classOf r.n } }
      let s1 := s0.withAge fun g => { g with accepted := some { d with plan := marked, boundary := some s.boundaryAhead } }
      (((s1.put Obj.AGE_PLAN_PENDING 1).setBit Obj.AGE_STATUS 4 false).planResult 0 7, some (0, d.sender))

/-! ## Application (R218) -/

/-- One row of a plan takes effect; `action` holds the action in bits 2:0 and the class at acceptance above them. -/
def State.planRowApply (s : State) (r : PlanRow) : State :=
  let was := r.action / 8
  let act := r.action % 8
  if clsSpare < was then s else
  let s1 := s.withSm r.n fun m => { m with age := { m.age with ceil := r.ceil, floor := r.floor, weight := r.weight } }
  if act = 0 then s1
  else if s.classOf r.n ≠ was then s1.bump Obj.AGE_PLAN_SKIPPED
  else if act = 1 then (s1.smClass r.n clsRetired 0).raise 356
  else
    match s1.sm r.n with
    | none => s1
    | some m =>
      if act = 2 then (s1.withSm r.n fun m => { m with cls := clsSpare }).classLog m clsSpare 0 0xFF
      else (s1.withSm r.n Sm.admitted).classLog m clsAvailable 0 0xFF

/-- The boundary of an accepted plan: it comes into force (R218). -/
def State.planApply (s : State) : State :=
  match s.age.accepted with
  | none => s
  | some d =>
    if d.boundary ≠ some s.orbCount then s else
    let s1 := d.plan.rows.foldl State.planRowApply s
    let plain : Plan := { d.plan with rows := d.plan.rows.map fun r => { r with action := r.action % 8 } }
    let s2 := s1.withAge fun g => { g with plan := some plain, accepted := none, appliedAt := some s.now }
    let s3 := (List.range 6).foldl (fun s a => s.put (Obj.AGE_ARM_DERATE a) (d.plan.derate.getD a 1000)) s2
    let s4 := (s3.put Obj.AGE_PLAN_GEN (s.planGen + 1)).put Obj.AGE_PLAN_APPLIED_ORB s.orbCount
    ((((s4.put Obj.AGE_PLAN_PENDING 0).setBit Obj.AGE_STATUS 1 true).count 0x21).raise 352)

/-- A re-plan falls due (R214). -/
def State.replanDue (s : State) : State := (s.setBit Obj.AGE_STATUS 4 true).raise 354

/-- The first entry to BLOCKED after the restoration makes a re-plan due (R214). -/
def State.ageBlocked (s : State) : State :=
  if s.age.blockedSeen then s else (s.withAge fun g => { g with blockedSeen := true }).replanDue

/-! ## Restoration (R209) -/

/-- Puts a saved ageing state in place. -/
def State.ageLoad (s : State) (a : AgeState) : State :=
  let known := s.submodules.filterMap fun n => (pairOf a.records n).map fun r => (n, r)
  let s1 := s.withAge fun g => { g with
    sms := known.map (fun e => { s.freshSm e.1 with age := e.2 })
    plan := a.plan.map (·.1), accepted := none, submitted := none }
  let s2 := s1.put Obj.AGE_SI_DRIFT a.siDrift
  match a.plan with
  | none => s2
  | some (p, gen) =>
    let s3 := (List.range 6).foldl (fun s i => s.put (Obj.AGE_ARM_DERATE i) (p.derate.getD i 1000)) s2
    (s3.put Obj.AGE_PLAN_GEN gen).setBit Obj.AGE_STATUS 1 true
where
  /-- The record saved for a submodule. -/
  pairOf (l : List (Nat × SmAge)) (n : Nat) : Option SmAge := (l.find? fun e => e.1 == n).map (·.2)

/-- Restores the ageing state from the newer copy, the older one or the image's snapshot (R209). `newer` and `older` are the
copies whose check passes; `blank` says that no copy has ever been written. -/
def State.ageRestore (s : State) (newer older image : Option AgeState) (blank : Bool) : State :=
  let s0 := s.withAge fun g => { g with blockedSeen := false }
  match newer, older with
  | some a, _ => (s0.ageLoad a).setBit Obj.AGE_STATUS 0 true
  | none, some a => ((s0.ageLoad a).setBit Obj.AGE_STATUS 0 true).siteOutcome 0x10 (Config.unlistedCode 2) noSubject [] false
  | none, none =>
    let s1 := match image with
      | some a => s0.ageLoad a
      | none => s0
    if blank then s1 else ((s1.setBit Obj.AGE_STATUS 3 true).raise 365).siteOutcome 0x10 365 noSubject [] true

/-! ## Summaries (R221) -/

/-- The summary of one arm over its AVAILABLE submodules; without any its values are open. -/
def State.ageArmSummary (s : State) (a : Nat) : State :=
  let all := s.armSms a
  let av := all.filter fun m => m.cls = clsAvailable
  let s1 := s.put (Obj.AGE_ARM_NO_EST a) (all.filter fun m => m.age.cEst.isNone).length
  if av.isEmpty then
    let v := fun k => (unsigned 32 (Config.freeValue (s.freeCtr + k)) : Int)
    { (((s1.put (Obj.AGE_ARM_C_MEAN a) (v 0)).put (Obj.AGE_ARM_C_MIN a) (v 1)).put (Obj.AGE_ARM_D_MEAN a) (v 2)).put
        (Obj.AGE_ARM_D_MAX a) (v 3) with freeCtr := s.freeCtr + 4 }
  else
    let cs := av.map s.capOf
    let ds := av.map fun m => SmAge.damage m.age
    let sum := fun (l : List Nat) => l.foldl (· + ·) 0
    (((s1.put (Obj.AGE_ARM_C_MEAN a) (roundAway ((sum cs : Nat) / (av.length : Rat)))).put
      (Obj.AGE_ARM_C_MIN a) (cs.foldl min (cs.headD 0) : Nat)).put
      (Obj.AGE_ARM_D_MEAN a) (roundAway ((sum ds : Nat) / (av.length : Rat)))).put
      (Obj.AGE_ARM_D_MAX a) (ds.foldl max 0 : Nat)

/-- The summaries of all arms, once a second. -/
def State.ageSummaries (s : State) : State :=
  let s1 := (s.arms.filter fun a => !(s.armSms a).isEmpty).foldl State.ageArmSummary s
  if s.age.sms.isEmpty then s else
  s1.put Obj.AGE_SUM_GEN (if s.hasData Obj.AGE_SUM_GEN then (s.getN Obj.AGE_SUM_GEN + 1) % 2 ^ 32 else 1 : Nat)

/-! ## The AVS loop (R210 to R213) -/

/-- The loop is enabled and not stopped. -/
def State.avsRuns (s : State) : Bool := s.bit Obj.AGE_CTRL 2 && !s.bit Obj.AGE_AVS_STATUS 2

/-- A new target is requested over AVSBus. DEDUCED (log entry 47): unsafe. -/
def State.avsWrite (s : State) (target : Nat) : State :=
  if s.getN Obj.AGE_VCORE_NOW = target then s else
  ((s.put Obj.AGE_VCORE_NOW target).withAge fun g => { g with write := some (target, 1) }).emit (.record 0x300 [target])

/-- The target within its limits. -/
def State.avsLimit (s : State) (mv : Int) : Nat := (clampInt (s.get Obj.AGE_AVS_VMIN) (s.get Obj.AGE_AVS_VMAX) mv).toNat

/-- AVSBus traffic starts, at an entry to CONFIG and at a wake: in CONFIG a lasting AVSBus fault is forgotten (R212, R361); the loop
runs while it is enabled (R211). -/
def State.avsEnter (s : State) : State :=
  let s1 := if s.devState = stConfig then s.setBit Obj.AGE_AVS_STATUS 2 false else s
  let s2 := s1.withAge fun g => { g with highSince := none, write := none }
  let s3 := (s2.setBit Obj.AGE_AVS_STATUS 0 s2.avsRuns).setBit Obj.PWR_STATUS 0 true
  if s3.bit Obj.AGE_CTRL 2 || s3.bit Obj.AGE_AVS_STATUS 2 then s3 else s3.avsWrite (s3.getN Obj.AGE_VCORE_FIXED)

/-- LUNAR: VDD_CORE goes to PWR_LUNAR_VCORE over AVSBus, and the loop and the traffic end (R211, R361, R364). -/
def State.avsSleep (s : State) : State :=
  let s1 := (s.setBit Obj.AGE_AVS_STATUS 0 false).setBit Obj.PWR_STATUS 0 false
  (s1.withAge fun g => { g with write := none }).emit (.record 0x300 [s.getN Obj.PWR_LUNAR_VCORE])

/-- The settled target while the die is hot (R213): Tj in 0.1 degree. -/
def State.avsHot (s : State) (settled : Bool) : State :=
  if !settled || s.get Obj.PWR_TJ < 1000 then s else
  let v := s.getN Obj.AGE_VCORE_NOW
  let s1 := s.put Obj.AGE_VCORE_HOT v
  let high := 750 < v
  let s2 := if high && !s1.bit Obj.AGE_AVS_STATUS 3 then s1.raise 364 else s1
  s2.setBit Obj.AGE_AVS_STATUS 3 high

/-- One evaluation, every 1 ms: the margin in ps and the drift in 0.01 % (R210, R211). DEDUCED (log entry 47): unsafe. -/
def State.avsEvaluate (s : State) (margin : Int) (drift : Nat) : State :=
  if !(2 ≤ s.devState && s.devState ≤ 6) then s else
  let s1 := (s.put Obj.AGE_CPM_MARGIN margin).put Obj.AGE_SI_DRIFT drift
  if !s.bit Obj.AGE_CTRL 2 then
    let s2 := (s1.setBit Obj.AGE_AVS_STATUS 0 false).setBit Obj.AGE_AVS_STATUS 1 false
    if s.bit Obj.AGE_AVS_STATUS 2 then s2 else s2.avsWrite (s2.getN Obj.AGE_VCORE_FIXED)
  else if s.bit Obj.AGE_AVS_STATUS 2 then s1.setBit Obj.AGE_AVS_STATUS 0 false
  else
    let s2 := s1.setBit Obj.AGE_AVS_STATUS 0 true
    let v := s2.get Obj.AGE_VCORE_NOW
    let limit := margin < s.get Obj.AGE_AVS_MARGIN_CRIT && v = s.get Obj.AGE_AVS_VMAX
    let s3 := if limit && !s2.bit Obj.AGE_AVS_STATUS 1 then s2.event 361 noSubject [] else s2
    let s4 := s3.setBit Obj.AGE_AVS_STATUS 1 limit
    let high := decide (s.get Obj.AGE_AVS_MARGIN_HI < margin)
    let since := if high then some (s4.age.highSince.getD s.now) else none
    let s5 := s4.withAge fun g => { g with highSince := since }
    if s5.age.write.isSome then s5
    else if margin < s.get Obj.AGE_AVS_MARGIN_LO then
      let t := s5.avsLimit (v + 10)
      if t = s5.getN Obj.AGE_VCORE_NOW then s5.avsHot true else (s5.avsWrite t).raise 360
    else if high && decide ((since.getD s.now) + 10000000000 ≤ s.now) then
      let s6 := s5.withAge fun g => { g with highSince := some s.now }
      let t := s6.avsLimit (v - 5)
      if t = s6.getN Obj.AGE_VCORE_NOW then s6.avsHot true else s6.avsWrite t
    else s5.avsHot true

/-- The read-back of an AVSBus write: `ok` when it was acknowledged and lies within 10 mV of the target (R212). -/
def State.avsReadback (s : State) (ok : Bool) : State :=
  match s.age.write with
  | none => s
  | some (t, attempt) =>
    let cleared := s.withAge fun g => { g with write := none }
    if ok then
      if attempt = 1 then cleared
      else (((cleared.bump Obj.AGE_AVS_RETRY_COUNT).raise 362).siteOutcome 0x09 362 noSubject [] false)
    else if attempt = 1 then (s.withAge fun g => { g with write := some (t, 2) }).emit (.record 0x300 [t])
    else
      let s1 := ((cleared.setBit Obj.AGE_AVS_STATUS 2 true).setBit Obj.AGE_AVS_STATUS 0 false).bump Obj.AGE_AVS_FAIL_COUNT
      (s1.raise 363).siteOutcome 0x09 363 noSubject [] true

/-- The selected submodule's readout (Table 9.6, 0x2870); none where there is no data. -/
def State.ageSelected (s : State) (sub : Nat) : Option Int :=
  match s.sm (s.getN Obj.AGE_SEL_SM) with
  | none => none
  | some m =>
    let a := m.age
    match sub with
    | 0x02 => a.cEst.map fun (c : Nat) => (c : Int)
    | 0x03 => SmAge.esrMean a
    | 0x04 => SmAge.esrRatio a
    | 0x05 => SmAge.vonDrift a
    | 0x06 => SmAge.platDrift a
    | 0x07 => some (SmAge.damage a)
    | 0x08 => some a.dtj
    | 0x09 => some a.ceil
    | 0x0A => some a.floor
    | 0x0B => some a.weight
    | 0x0C => some a.gen
    | _ => none

end Sys2Proof.Machine
end

