-- ==== Sys2Proof/Machine/Measure.lean ====
section
/-!
DEFINITION. The measurement chain (chapter 7): clock groups, the filter path of a channel, delays, validity, the snapshot at
T_up and the detectors.
-/

namespace Sys2Proof.Machine

/-- Changes one channel. -/
def State.withMea (s : State) (k : Nat) (f : MeaChannel → MeaChannel) : State :=
  { s with mea := { s.mea with channels := updateAt s.mea.channels k f } }

/-- The chain runs (R171). -/
def State.meaOn (s : State) : Bool := 2 ≤ s.devState && s.devState ≤ 6

/-! ## Configuration of a channel -/

/-- Clock group. -/
def State.meaGroup (s : State) (k : Nat) : Nat := field (s.getN (Obj.MEA_CH_CTRL k)) 1 2
/-- CIC order N. -/
def State.meaN (s : State) (k : Nat) : Nat := if s.bit (Obj.MEA_CH_CTRL k) 3 then 4 else 3
/-- CIC decimation R. -/
def State.meaR (s : State) (k : Nat) : Nat := s.getN (Obj.MEA_CIC_DEC k)
/-- Median position. -/
def State.meaMedPos (s : State) (k : Nat) : Nat := field (s.getN (Obj.MEA_CH_CTRL k)) 5 2
/-- Median length. -/
def State.meaMedLen (s : State) (k : Nat) : Nat := 3 + 2 * field (s.getN (Obj.MEA_CH_CTRL k)) 7 2
/-- Taps L of the FIR. -/
def State.meaL (s : State) (k : Nat) : Nat := field (s.getN (Obj.MEA_FIR_CFG k)) 0 7
/-- Decimation D of the FIR. -/
def State.meaD (s : State) (k : Nat) : Nat := 2 ^ field (s.getN (Obj.MEA_FIR_CFG k)) 8 2
/-- Coefficient bank. -/
def State.meaBank (s : State) (k : Nat) : Nat := field (s.getN (Obj.MEA_FIR_CFG k)) 10 3
/-- Median lengths at positions 1 and 2, 0 where the median is elsewhere. -/
def State.meaLmc (s : State) (k : Nat) : Nat := if s.meaMedPos k = 1 then s.meaMedLen k else 0
/-- At position 2. -/
def State.meaLmf (s : State) (k : Nat) : Nat := if s.meaMedPos k = 2 then s.meaMedLen k else 0
/-- First L coefficients of a bank. -/
def State.meaTaps (s : State) (b l : Nat) : List Int := (List.range l).map fun j => s.get (Obj.MEA_FIR_BANK b j)

/-! ## Clock groups (R153) -/

/-- The group has ENABLE. -/
def State.grpOn (s : State) (g : Nat) : Bool := s.bit (Obj.MEA_CLK_CTRL g) 0
/-- The group is sourced. -/
def State.grpSourced (s : State) (g : Nat) : Bool := s.bit (Obj.MEA_CLK_CTRL g) 1
/-- The group has a clock within range. -/
def State.grpOk (s : State) (g : Nat) : Bool :=
  s.grpOn g && !s.bit (Obj.MEA_CLK_STATUS g) 1 && !s.bit (Obj.MEA_CLK_STATUS g) 2

/-- t_clk of a group in ns: measured, or 100 ns before the first window (R512). -/
def State.grpClk (s : State) (g : Nat) : Rat :=
  if s.grpSourced g then (field (s.getN (Obj.MEA_CLK_CTRL g)) 2 7 : Nat)
  else match s.mea.periods.getD g none with
    | some p => (p : Rat) / 1048576
    | none => 100

/-- A measured period exists where one is needed. -/
def State.grpMeasured (s : State) (g : Nat) : Bool := s.grpSourced g || (s.mea.periods.getD g none).isSome

/-! ## Delays (R159, Table 7.2) -/

/-- Centroid c of a bank over L taps; none where the coefficients sum to 0. DESIGN CHOICE (log entry 52): safe. -/
def centroid (taps : List Int) : Option Rat :=
  let sum : Int := taps.foldl (· + ·) 0
  let moment := (taps.zipIdx).foldl (fun (t : Int) (e : Int × Nat) => t + e.1 * (e.2 : Int)) 0
  if sum = 0 then none else some ((moment : Rat) / (sum : Rat))

/-- The delays of the CIC and the median after it in clocks. -/
def State.meaFastClocks (s : State) (k : Nat) : Rat :=
  ((s.meaN k * (s.meaR k - 1) : Nat) : Rat) / 2 + (if s.meaLmc k = 0 then 0 else (((s.meaLmc k - 1) / 2 * s.meaR k : Nat) : Rat))

/-- The delays of the FIR and the median after it in clocks; a bank that sums to 0 has an open centroid. -/
def State.meaMainClocks (s : State) (k : Nat) : Rat :=
  let c := (centroid (s.meaTaps (s.meaBank k) (s.meaL k))).getD (s.free : Rat)
  c * s.meaR k + (if s.meaLmf k = 0 then 0 else (((s.meaLmf k - 1) / 2 * s.meaD k * s.meaR k : Nat) : Rat))

/-- Delay before availability of the fast output in ns. -/
def State.meaFastNs (s : State) (k : Nat) : Rat := (s.get (Obj.MEA_EXT_DELAY k) : Rat) + s.meaFastClocks k * s.grpClk (s.meaGroup k)
/-- Delay before availability of the main output in ns. -/
def State.meaMainNs (s : State) (k : Nat) : Rat := s.meaFastNs k + s.meaMainClocks k * s.grpClk (s.meaGroup k)
/-- Main output interval t_s in ns. -/
def State.meaTs (s : State) (k : Nat) : Rat := ((s.meaD k * s.meaR k : Nat) : Rat) * s.grpClk (s.meaGroup k)
/-- Fast output interval in ns. -/
def State.meaTsFast (s : State) (k : Nat) : Rat := (s.meaR k : Rat) * s.grpClk (s.meaGroup k)
/-- t_settle in ns (R164). -/
def State.meaSettle (s : State) (k : Nat) : Rat :=
  let r := s.meaR k
  ((s.meaN k * r + s.meaLmc k * r + s.meaL k * r + s.meaLmf k * s.meaD k * r : Nat) : Rat) * s.grpClk (s.meaGroup k) + 60

/-- A number of ns in 0.0625 ns. -/
def sixteenths (q : Rat) : Int := roundAway (q * 16)

/-- The entries of R159 and R177 follow the configuration and the measured periods. DESIGN CHOICE (log entry 52): safe. -/
def State.meaDelays (s : State) : State :=
  let s1 := (List.range 32).foldl (fun s k =>
    let main := s.meaMainNs k + 60
    let bank := s.meaTaps (s.meaBank k) (s.meaL k)
    (((((s.put (Obj.MEA_DELAY k) (saturateU 32 (sixteenths main))).put
      (Obj.MEA_FAST_DELAY k) (saturateU 32 (sixteenths (s.meaFastNs k + 30)))).put
      (Obj.MEA_T_S k) (sixteenths (s.meaTs k))).put (Obj.MEA_T_S_FAST k) (sixteenths (s.meaTsFast k))).put
      (Obj.MEA_SETTLE k) (roundAway (s.meaSettle k))).setBit (Obj.MEA_CH_STATUS k) 8 (bank ≠ bank.reverse)) s
  let s2 := (List.range 8).foldl (fun s b =>
    let users := (List.range 32).filter fun k => s.meaEnabled k && s.meaBank k = b
    let l := users.foldl (fun (m : Nat) k => max m (s.meaL k)) 0
    let taps := s.meaTaps b l
    let c := if l = 0 then 0 else saturateU 32 (roundAway (((centroid taps).getD (s.free : Rat)) * 65536))
    (s.put (Obj.MEA_FIR_CENTROID b) c).setBit (Obj.MEA_FIR_BANK_STATUS b) 0 (taps = taps.reverse)) s1
  match s2.roleChannel 13 with
  | some k => s2.put Obj.PRT_RESPONSE (saturateU 16 (roundAway (s2.meaFastNs k + 30 + s2.meaTsFast k + 120)))
  | none => s2

/-! ## Validity (R163) -/

/-- The causes of Table 7.6 that hold for a channel now, as bits of MEA_CH_STATUS. -/
def State.meaCauses (s : State) (k : Nat) : Nat :=
  let st := s.getN (Obj.MEA_CH_STATUS k)
  let beyond := if ((s.mea.channels[k]?).map (·.ovrInvalid)).getD true then st &&& 16 else 0
  (st &&& 0x2CE) ||| beyond

/-- The cause that is logged: STUCK before the others (Table 7.7), else the lowest status bit. -/
def meaCause (causes : Nat) : Nat := if bitOf causes 3 then 3 else ((List.range 10).find? fun b => bitOf causes b).getD 0

/-- The pole of a channel: false positive, true negative. -/
def State.meaPole (s : State) (k : Nat) : Option Bool :=
  match s.get (Obj.MEA_ROLE k) with
  | 13 => some false
  | 14 => some true
  | _ => none

/-- A channel with a cause is invalid: reported when it was valid. -/
def State.meaJudge (s : State) (k : Nat) : State :=
  let causes := s.meaCauses k
  if causes = 0 then s else
  let s1 := if !s.bit (Obj.MEA_CH_STATUS k) 0 then s else
    let s2 := (((s.setBit (Obj.MEA_CH_STATUS k) 0 false).setBit Obj.MEA_VALID_MAP k false).bump (Obj.MEA_INVALID_COUNT k)).event 288 k
      [meaCause causes]
    if s.get (Obj.MEA_ROLE k) = 0 then s2 else s2.cmtFire 13 s.time32 0
  match s1.meaPole k with
  | some neg => if s1.meaEnabled k then s1.prtPoleInvalid neg else s1
  | none => s1

/-- Sets or clears a cause of a channel. -/
def State.meaMark (s : State) (k b : Nat) (on : Bool) : State := (s.setBit (Obj.MEA_CH_STATUS k) b on).meaJudge k

/-- A channel's filters cleared. -/
def MeaChannel.cleared (c : MeaChannel) : MeaChannel :=
  { c with integ := List.replicate 4 0, comb := List.replicate 4 0, med1 := [], fir := [], firNew := 0, med2 := [],
           settleEnd := none, count := 0 }

/-- Settling begins when nothing holds it back: clock, stuck bitstream, measured period (R164, R512, Table 7.7). -/
def State.meaSettleBegin (s : State) (k : Nat) : State :=
  let g := s.meaGroup k
  let st := s.getN (Obj.MEA_CH_STATUS k)
  if bitOf st 1 && !bitOf st 2 && !bitOf st 3 && !bitOf st 7 && !bitOf st 9 && s.grpMeasured g then
    s.withMea k fun c => { c with settleEnd := some (s.now + ceilN (s.meaSettle k)) }
  else s

/-- A restart of a channel (R164). -/
def State.meaRestart (s : State) (k : Nat) : State :=
  if !s.meaOn || !s.meaEnabled k then s else
  ((s.withMea k MeaChannel.cleared).meaMark k 1 true).meaSettleBegin k

/-- The group's clock decides CLK_LOST of its channels. -/
def State.meaClockOne (s : State) (k : Nat) : State :=
  if !s.meaEnabled k then s else
  let lost := !s.grpOk (s.meaGroup k)
  let was := s.bit (Obj.MEA_CH_STATUS k) 2
  if lost && !was then s.meaMark k 2 true
  else if !lost && was then (s.setBit (Obj.MEA_CH_STATUS k) 2 false).meaRestart k
  else s

/-- All channels of a group. -/
def State.meaClock (s : State) (g : Nat) : State :=
  ((List.range 32).filter fun k => s.meaGroup k = g).foldl State.meaClockOne s

/-- ENABLE decides DISABLED of a channel; enabling restarts it. -/
def State.meaEnableOne (s : State) (k : Nat) : State :=
  let off := !s.meaEnabled k
  let was := s.bit (Obj.MEA_CH_STATUS k) 9
  if off then
    let s1 := (s.withMea k MeaChannel.cleared).meaMark k 9 true
    -- Only DISABLED is shown for a channel that is off.
    s1.put (Obj.MEA_CH_STATUS k) ((s1.getN (Obj.MEA_CH_STATUS k) &&& 0x180) + 512 : Nat)
  else
    let s1 := s.setBit (Obj.MEA_CH_STATUS k) 9 false
    let s2 := s1.meaClockOne k
    if was then s2.meaRestart k else s2

/-- A sourced clock follows the time PLL; an entry of a group is shown (R153). -/
def State.meaSourced (s : State) (g : Nat) : State :=
  if !s.meaOn || !s.grpOn g || !s.grpSourced g then s else
  let ok := s.pllDrives 2
  let was := s.bit (Obj.MEA_CLK_STATUS g) 1
  if !ok && !was then
    (((((s.setBit (Obj.MEA_CLK_STATUS g) 0 false).setBit (Obj.MEA_CLK_STATUS g) 1 true).bump (Obj.MEA_CLK_LOST_COUNT g)).put
      (Obj.MEA_CLK_FREQ g) 0).raise (292 + g)).meaClock g
  else if ok && (was || !s.bit (Obj.MEA_CLK_STATUS g) 0) then
    let d := field (s.getN (Obj.MEA_CLK_CTRL g)) 2 7
    (((s.setBit (Obj.MEA_CLK_STATUS g) 0 true).setBit (Obj.MEA_CLK_STATUS g) 1 false).put (Obj.MEA_CLK_FREQ g)
      (if d = 0 then 0 else roundAway (1000000000 / (d : Rat)))).meaClock g
  else s

/-- All sourced groups follow the time PLL. -/
def State.meaSources (s : State) : State := (List.range 4).foldl State.meaSourced s

/-- A group begins anew: at CONFIG, at a wake, or after a write of its control entry. -/
def State.meaGroupBegin (s : State) (g : Nat) : State :=
  let s1 := { s with mea := { s.mea with periods := s.mea.periods.set g none } }
  (((s1.put (Obj.MEA_CLK_STATUS g) 0).put (Obj.MEA_CLK_FREQ g) 0).meaSourced g)

/-- No edge of an accepted clock for 200 ns (R153). -/
def State.meaClkLost (s : State) (g : Nat) : State :=
  if 4 ≤ g ∨ !s.meaOn ∨ !s.grpOn g ∨ s.grpSourced g ∨ s.bit (Obj.MEA_CLK_STATUS g) 1 then s else
  let s1 := { s with mea := { s.mea with periods := s.mea.periods.set g none } }
  let s2 := ((s1.put (Obj.MEA_CLK_STATUS g) 2).put (Obj.MEA_CLK_FREQ g) 0).bump (Obj.MEA_CLK_LOST_COUNT g)
  ((s2.raise (292 + g)).meaClock g).meaDelays

/-- Edges return on an accepted clock: settling, and a new measuring window (R163, R512). -/
def State.meaClkBack (s : State) (g : Nat) : State :=
  if 4 ≤ g ∨ !s.meaOn ∨ !s.grpOn g ∨ s.grpSourced g ∨ !s.bit (Obj.MEA_CLK_STATUS g) 1 then s else
  (s.put (Obj.MEA_CLK_STATUS g) 1).meaClock g

/-- A measuring window of an accepted clock ends with a mean period in 2^-20 ns (R153, R512). -/
def State.meaWindow (s : State) (g period : Nat) : State :=
  if 4 ≤ g ∨ period = 0 ∨ !s.meaOn ∨ !s.grpOn g ∨ s.grpSourced g ∨ s.bit (Obj.MEA_CLK_STATUS g) 1 then s else
  let hz := roundAway ((1048576000000000 : Rat) / period)
  -- 10.00 MHz is a period of 100 ns, 25.00 MHz one of 40 ns.
  let range := 104857600 < period || period < 41943040
  let first := (s.mea.periods.getD g none).isNone
  let s1 := { s with mea := { s.mea with periods := s.mea.periods.set g (some period) } }
  let s2 := ((s1.setBit (Obj.MEA_CLK_STATUS g) 0 true).put (Obj.MEA_CLK_FREQ g) (saturateU 32 hz))
  let s3 := if range && !s2.bit (Obj.MEA_CLK_STATUS g) 2 then s2.raise 296 else s2
  let s4 := ((s3.setBit (Obj.MEA_CLK_STATUS g) 2 range).meaDelays).meaClock g
  if !first then s4 else
    ((List.range 32).filter fun k => s4.meaEnabled k && s4.meaGroup k = g).foldl (fun s k =>
      if ((s.mea.channels[k]?).map fun c => c.settleEnd.isNone).getD false then s.meaSettleBegin k else s) s4

/-- t_settle has passed (R164). -/
def State.meaSettled (s : State) (k : Nat) : State :=
  match s.mea.channels[k]? with
  | none => s
  | some c =>
    match c.settleEnd with
    | none => s
    | some t =>
      if s.now < t then s else
      ((s.withMea k fun c => { c with settleEnd := none }).setBit (Obj.MEA_CH_STATUS k) 1 false).setBit (Obj.MEA_CH_STATUS k) 6
        false

/-- 64 equal captures (R163). -/
def State.meaStuck (s : State) (k : Nat) : State :=
  if 32 ≤ k ∨ !s.meaOn ∨ !s.meaEnabled k ∨ !s.bit (Obj.MEA_CH_CTRL k) 9 ∨ s.bit (Obj.MEA_CH_STATUS k) 3 then s else
  ((s.bump (Obj.MEA_STUCK_COUNT k)).raise 291).meaMark k 3 true

/-- A stuck bitstream changes value (R163). -/
def State.meaUnstuck (s : State) (k : Nat) : State :=
  if !s.bit (Obj.MEA_CH_STATUS k) 3 then s else (s.setBit (Obj.MEA_CH_STATUS k) 3 false).meaRestart k

/-! ## Memory faults (R166) -/

/-- A channel's registers or delay line are bad: MEM_FAULT and a restart. -/
def State.meaMemFault (s : State) (k : Nat) : State :=
  if !s.meaOn || !s.meaEnabled k then s else
  (((s.bump Obj.MEA_PARITY_COUNT).raise 299).meaMark k 6 true).meaRestart k

/-- Enabled channels that use a bank. -/
def State.bankUsers (s : State) (b : Nat) : List Nat := (List.range 32).filter fun k => s.meaEnabled k && s.meaBank k = b

/-- A bank takes its coefficients from the image in the state store. -/
def State.bankReload (s : State) (b : Nat) (entries : List (Nat × Int)) : State :=
  (List.range 64).foldl (fun s j =>
    let key := Obj.MEA_FIR_BANK b j
    s.put key ((Store.find? entries key).getD (Obj.resetValue key))) s

/-- An uncorrectable error in a bank. `entries` is the image's store. -/
def State.bankFault (s : State) (b : Nat) (entries : List (Nat × Int)) : State :=
  let users := s.bankUsers b
  if bitOf s.mea.reloaded b then
    let s1 := { s with mea := { s.mea with reloaded := withBit s.mea.reloaded b false } }
    let s2 := (users.foldl (fun s k => s.meaMark k 7 true) s1).setBit (Obj.MEA_FIR_BANK_STATUS b) 1 true
    (s2.raise 300).siteOutcome 0x07 300 b [] true
  else if s.bit (Obj.MEA_FIR_BANK_STATUS b) 1 then s
  else
    let s1 := (users.foldl (fun s k => s.meaMark k 6 true) s).bankReload b entries
    let s2 := { s1 with mea := { s1.mea with reloaded := withBit s1.mea.reloaded b true } }
    (users.foldl (fun s k => (s.raise 299).meaRestart k) s2).meaDelays

/-- The first check of a reloaded bank finds it clean. -/
def State.bankClean (s : State) (b : Nat) : State :=
  if !bitOf s.mea.reloaded b then s else
  { s with mea := { s.mea with reloaded := withBit s.mea.reloaded b false } }.siteOutcome 0x07 299 b [] false

/-! ## Configuration -/

/-- A path-shaping value of a channel has changed (R154). -/
def State.meaConfigured (s : State) (k : Nat) : State := ((s.meaEnableOne k).meaRestart k).meaDelays

/-- The control entry of a group has changed. -/
def State.meaGroupConfigured (s : State) (g : Nat) : State :=
  let s1 := (s.meaGroupBegin g).meaClock g
  (((List.range 32).filter fun k => s1.meaGroup k = g).foldl State.meaRestart s1).meaDelays

/-- The coefficients of a bank have changed. -/
def State.meaBankConfigured (s : State) (b : Nat) : State := ((s.bankUsers b).foldl State.meaRestart s).meaDelays

/-- The settings of the detectors come into force: at T_up, and with a start of the chain (R170). DEDUCED (log entry 109): unsafe. -/
def State.meaDetectors (s : State) : State :=
  { s with mea := { s.mea with channels := s.mea.channels.mapIdx fun k c =>
      { c with ovrLim := s.get (Obj.MEA_OVR_LIM k), ovrInvalid := s.bit (Obj.MEA_CH_CTRL k) 10
               envTau := s.get (Obj.MEA_ENV_TAU k) } } }

/-- Entry to CONFIG, or a wake: groups begin, each enabled channel restarts, bank faults end (R171, R163). -/
def State.meaStart (s : State) : State :=
  let s0 := { s with mea := { s.mea with reloaded := 0, snap := [] } }.meaDetectors
  let s1 := (List.range 8).foldl (fun s b => s.setBit (Obj.MEA_FIR_BANK_STATUS b) 1 false) s0
  let s2 := (List.range 32).foldl (fun s k => s.put (Obj.MEA_CH_STATUS k) (if s.meaEnabled k then 0 else 512)) s1
  let s3 := (List.range 4).foldl State.meaGroupBegin s2
  let s4 := (List.range 4).foldl State.meaClock s3
  (((List.range 32).filter s4.meaEnabled).foldl State.meaRestart s4).meaDelays

/-- The chain stops: in RESET, BOOT and LUNAR (R171). -/
def State.meaStop (s : State) : State :=
  let s1 := { s with mea := { s.mea with
    snap := [], channels := s.mea.channels.map MeaChannel.cleared, periods := List.replicate 4 none, reloaded := 0 } }
  let s2 := (List.range 4).foldl (fun s g => (s.put (Obj.MEA_CLK_STATUS g) 0).put (Obj.MEA_CLK_FREQ g) 0) s1
  ((List.range 32).foldl (fun s k => s.setBit (Obj.MEA_CH_STATUS k) 0 false) s2).put Obj.MEA_VALID_MAP 0

/-! ## The filter path (R155 to R158) -/

/-- One bit through the integrators: each adds the new value of the one before. -/
def cicBit : List (BitVec 64) → BitVec 64 → List (BitVec 64)
  | [], _ => []
  | i :: rest, x => (i + x) :: cicBit rest (i + x)

/-- One value through the combs: the differences, and what each comb holds next. -/
def cicComb : List (BitVec 64) → BitVec 64 → BitVec 64 × List (BitVec 64)
  | [], x => (x, [])
  | c :: rest, x =>
    let r := cicComb rest (x - c)
    (r.1, x :: r.2)

/-- The CIC output y of R155 for a group of bits, and the registers after it. -/
def cicRun (n : Nat) (c : MeaChannel) (bits : List Bool) : Int × MeaChannel :=
  let integ := bits.foldl (fun r b => cicBit r (if b then 1 else 0)) (c.integ.take n)
  let out := cicComb (c.comb.take n) (integ.getLastD 0)
  (out.1.toInt, { c with integ := integ ++ c.integ.drop n, comb := out.2 ++ c.comb.drop n })

/-- Puts a value into its place in a rising list. -/
def intPlace (x : Int) : List Int → List Int
  | [] => [x]
  | y :: rest => if x ≤ y then x :: y :: rest else y :: intPlace x rest

/-- The median of the latest `l` inputs, those before a restart counting as 0. -/
def medianOf (l : Nat) (inputs : List Int) : Int :=
  let w := inputs ++ List.replicate (l - inputs.length) 0
  ((w.foldr intPlace []).getD (l / 2) 0)

/-- A value in 2^-30 as a sample in 2^-23 after the offset (R158). -/
def meaScale (q30 offset : Int) : Int := clampInt (-8388607) 8388607 (roundAway ((q30 : Rat) / 128) - offset)

/-- A time-stamp in 2^-4 ns of TIME32 as TIME32 ns, rounded. -/
def stampNs (stamp : Nat) : Nat := (stamp + 8) / 16 % 2 ^ 32

/-- The time-stamp of a sample whose last bit is credited at `last` (R159). -/
def stampOf (last : Nat) (delay : Rat) : Nat := (((last : Int) - sixteenths delay) % (2 ^ 36 : Nat)).toNat

/-- A fast sample: R captured bits, oldest first, the last credited at `last` in 2^-4 ns of TIME32 (R155, R156, R158).
DESIGN CHOICE (log entry 53): safe. -/
def State.meaFast (s : State) (k : Nat) (bits : List Bool) (last : Nat) : State :=
  match s.mea.channels[k]? with
  | none => s
  | some c =>
    if !s.meaOn || !s.meaEnabled k || s.bit (Obj.MEA_CLK_STATUS (s.meaGroup k)) 1 || !s.grpOn (s.meaGroup k) ||
        bits.length ≠ s.meaR k then s else
    let n := s.meaN k
    let full : Int := ((s.meaR k) ^ n : Nat)
    let (y, c1) := cicRun n c (if s.bit (Obj.MEA_CH_CTRL k) 4 then bits.map (!·) else bits)
    let x := roundAway (((2 * y - full : Int) : Rat) * 1073741824 / full)
    let med1 := (x :: c1.med1).take (s.meaLmc k)
    let x1 := if s.meaLmc k = 0 then x else medianOf (s.meaLmc k) med1
    let s1 := s.withMea k fun _ => { c1 with
      med1 := med1, fir := (x1 :: c1.fir).take 64, firNew := c1.firNew + 1, last := last % 2 ^ 36 }
    let v := meaScale x1 (s.get (Obj.MEA_OFFSET k))
    let stamp := stampOf last (s.meaFastNs k)
    let valid := s1.meaCauses k = 0
    let s2 := match s1.meaPole k with
      | some neg => if valid then s1.prtPole neg v stamp else s1.prtPoleInvalid neg
      | none => s1
    let role := s.getN (Obj.MEA_ROLE k)
    let s3 := if valid && 7 ≤ role && role ≤ 12 then s2.prtArm (role - 7) (absQ (s.samplePu k v)) else s2
    s3.cmtSample (0x200 + k) v valid (stampNs stamp)

/-- The FIR over its delay line: products accumulated in 48 bits, scaled by 2^-16 (R157). -/
def firOut (taps line : List Int) : Int :=
  roundAway ((saturate 48 ((taps.zip line).foldl (fun (t : Int) e => t + e.1 * e.2) 0) : Rat) / 65536)

/-- The decay of the envelope over t_s with τ in us (R169). -/
def State.meaDecay (s : State) (k : Nat) (tau : Int) : Rat := trim (expQ (-(s.meaTs k) / (1000 * (max 1 tau : Int))))

/-- A main sample (R157, R158, R163, R169, R170). DESIGN CHOICE (log entry 53): safe. -/
def State.meaMain (s : State) (k : Nat) : State :=
  match s.mea.channels[k]? with
  | none => s
  | some c =>
    if !s.meaOn || !s.meaEnabled k || s.bit (Obj.MEA_CLK_STATUS (s.meaGroup k)) 1 || !s.grpOn (s.meaGroup k) ||
        c.firNew < s.meaD k then s else
    let f := firOut (s.meaTaps (s.meaBank k) (s.meaL k)) c.fir
    let med2 := (f :: c.med2).take (s.meaLmf k)
    let x := if s.meaLmf k = 0 then f else medianOf (s.meaLmf k) med2
    let v := meaScale x (s.get (Obj.MEA_OFFSET k))
    let stamp := stampOf c.last (s.meaMainNs k)
    let beyond := c.ovrLim * 8388608 ≤ 1000 * absInt v
    let was := s.bit (Obj.MEA_CH_STATUS k) 4
    let s1 := (s.setBit (Obj.MEA_CH_STATUS k) 4 beyond).setBit Obj.MEA_OVR_MAP k beyond
    let s2 := if beyond then s1.bump (Obj.MEA_OVR_COUNT k) else s1
    let s3 := if beyond && !was then s2.raise 290 else s2
    let valid := s3.meaCauses k = 0
    let s4 := if !valid then s3.meaJudge k
      else if s3.bit (Obj.MEA_CH_STATUS k) 0 then s3
      else ((s3.setBit (Obj.MEA_CH_STATUS k) 0 true).setBit Obj.MEA_VALID_MAP k true).raise 289
    let s5 := s4.withMea k fun c => { c with
      firNew := 0, med2 := med2, count := c.count + 1
      stream := (({ value := v, stamp := stamp, valid := valid, avail := s.now } : MeaSample) :: c.stream).take 65536
      env := if valid then (let d := trim (c.env * s.meaDecay k c.envTau); if d < (absInt v : Rat) then (absInt v : Rat) else d) else c.env }
    let role := s.getN (Obj.MEA_ROLE k)
    let s6 := if 7 ≤ role && role ≤ 12 then
        let age : Int := ((s.counter / 2 ^ 36 % 2 ^ 36 : Nat) - (stamp : Int)) % (2 ^ 36 : Nat)
        s5.armSample (role - 7) (if valid then some ((s.get (Obj.MEA_FS k) : Rat) * fromQ 23 v) else none)
          ((s.now : Int) - roundAway ((age : Rat) / 16)) (roundAway (s.meaTs k))
      else s5
    s6.cmtSample (0x100 + k) v valid (stampNs stamp)

/-! ## The snapshot (R165) and the detectors (R167 to R170) -/

/-- The RMS over the window of `w` ns that ends at the stamp of the snapshot sample (R168). -/
def State.meaRms (s : State) (k : Nat) (stream : List MeaSample) (endStamp : Nat) (w : Rat) : Option Int :=
  let win := sixteenths w
  let ts := sixteenths (s.meaTs k)
  let back := fun (m : MeaSample) => ((endStamp : Int) - m.stamp) % (2 ^ 36 : Nat)
  let inside := (stream.takeWhile fun m => back m < 2 * win + 2 * ts).filter fun m => back m < win
  let good := inside.filter (·.valid)
  let weight := fun (m : MeaSample) => min ts (win - back m)
  let sum := good.foldl (fun (t : Int) m => t + weight m * (m.value * m.value)) 0
  let norm := good.foldl (fun (t : Int) m => t + weight m) 0
  if norm ≤ 0 ∨ 2 * (good.length : Int) * ts < win then none
  else some (saturateU 32 (roundAway (sqrtQ ((sum : Rat) / norm))))

/-- The greatest or least of the valid samples of the cycle. DESIGN CHOICE (log entry 54): safe. -/
def peakOf (f : Int → Int → Int) (l : List MeaSample) : Option Int :=
  match l.filter (·.valid) with
  | [] => none
  | m :: rest => some (rest.foldl (fun v x => f v x.value) m.value)

/-- The peaks of the cycle and since the clear (R167); without a valid sample the cycle's peaks are open.
DESIGN CHOICE (log entry 54): safe. -/
def State.meaPeaks (s : State) (k : Nat) (c : MeaChannel) : State :=
  let l := c.stream.filter fun m => s.mea.lastUp ≤ m.avail && m.avail < s.now
  let s1 := if c.peakClear then
      ((s.withMea k fun c => { c with peakClear := false }).put (Obj.MEA_PEAK_MAX k) (-8388608)).put (Obj.MEA_PEAK_MIN k) 8388607
    else s
  match peakOf max l, peakOf min l with
  | some hi, some lo =>
    (((s1.put (Obj.MEA_PEAK_CYC_MAX k) hi).put (Obj.MEA_PEAK_CYC_MIN k) lo).put
      (Obj.MEA_PEAK_MAX k) (max hi (s1.get (Obj.MEA_PEAK_MAX k)))).put (Obj.MEA_PEAK_MIN k) (min lo (s1.get (Obj.MEA_PEAK_MIN k)))
  | _, _ =>
    { (s1.put (Obj.MEA_PEAK_CYC_MAX k) (saturate 32 s1.free)).put (Obj.MEA_PEAK_CYC_MIN k)
        (saturate 32 (Config.freeValue (s1.freeCtr + 1))) with freeCtr := s1.freeCtr + 2 }

/-- The snapshot of one channel. -/
def State.meaSnapOne (s : State) (omega : Rat) (k : Nat) : State :=
  match s.mea.channels[k]? with
  | none => s
  | some c =>
    if !s.meaEnabled k then s else
    match c.stream.find? fun m => m.avail < s.now with
    | none => s.meaPeaks k c
    | some m =>
      let age : Int := ((s.counter / 2 ^ 36 % 2 ^ 36 : Nat) - (m.stamp : Int)) % (2 ^ 36 : Nat)
      let stale := s.get (Obj.MEA_DELAY k) + s.get (Obj.MEA_T_S k) + 1600 < age
      let s1 := if stale then s.raise 297 else s
      let s2 := s1.setBit (Obj.MEA_CH_STATUS k) 5 stale
      let valid := m.valid && !stale && s2.meaCauses k = 0
      let s3 := ((s2.put (Obj.MEA_VALUE k) m.value).put (Obj.MEA_VALUE_PHYS k)
        (toQ 32 0 ((s.get (Obj.MEA_FS k) : Rat) * 1000 * fromQ 23 m.value))).put (Obj.MEA_TSTAMP k) (stampNs m.stamp)
      let s4 := if valid then { s3 with mea := { s3.mea with snap := s3.mea.snap ++ [(k, m.value, m.stamp)] } } else s3
      let s5 := if valid then
          let t := if c.badRun = 1 then s4.siteOutcome 0x06 288 k [] false else s4
          t.withMea k fun c => { c with badRun := 0 }
        else
          let t := if c.badRun = 1 then s4.siteOutcome 0x06 288 k [] true else s4
          t.withMea k fun c => { c with badRun := min 2 (c.badRun + 1) }
      let w : Rat := if s.bit (Obj.MEA_CH_CTRL k) 11 then 1000 * s.get (Obj.MEA_RMS_WIN k)
        else if omega ≤ 0 then 0 else 1000000000 / (omega * s.get Obj.SWG_F0)
      let s6 := match s5.meaRms k (c.stream.dropWhile fun m => s.now ≤ m.avail) m.stamp w with
        | some r => s5.put (Obj.MEA_RMS k) r
        | none => s5
      (s6.put (Obj.MEA_ENVELOPE k) (saturateU 32 (roundAway c.env))).meaPeaks k c

/-- The snapshot at T_up, with the detectors' results; `omega` sets the frequency-locked window (R165, R168). -/
def State.meaSnapshot (s : State) (omega : Rat) : State :=
  if !s.meaOn then s else
  let s1 := { s with mea := { s.mea with snap := [] } }
  let s2 := (List.range 32).foldl (fun s k => s.meaSnapOne omega k) s1
  { s2 with mea := { s2.mea with lastUp := s.now } }.meaDetectors

/-- MEA_PEAK_CLEAR: the channels whose bits are set clear their peaks at the next T_up. -/
def State.meaPeakClear (s : State) (bits : Nat) : State :=
  (List.range 32).foldl (fun s k => if bitOf bits k then s.withMea k fun c => { c with peakClear := true } else s) s

/-! ## The checks of a dictionary image (R157, R162, R177, R178) -/

/-- A channel's clock in ns at the worst end for a check (R512): `fast` 25.00 MHz, else 10.00 MHz. -/
def State.worstClk (s : State) (k : Nat) (fast : Bool) : Rat :=
  let g := s.meaGroup k
  if s.grpSourced g then (field (s.getN (Obj.MEA_CLK_CTRL g)) 2 7 : Nat) else if fast then 40 else 100

/-- The settings of a channel that R162 wants equal on both poles. -/
def State.poleSettings (s : State) (k : Nat) : List Int :=
  [s.meaGroup k, s.meaN k, s.meaR k, s.meaMedPos k, s.meaMedLen k, s.meaBank k, s.meaL k, s.meaD k, s.get (Obj.MEA_EXT_DELAY k),
    s.get (Obj.MEA_CAPTURE_DLY k)]

/-- One enabled channel passes the checks of R157 and R162. -/
def State.meaChannelOk (s : State) (k : Nat) : Bool :=
  let dr := s.meaD k * s.meaR k
  let role := s.getN (Obj.MEA_ROLE k)
  let dc := (s.meaTaps (s.meaBank k) (s.meaL k)).foldl (· + ·) 0
  -- 1.25 MSa/s is an interval of 800 ns.
  decide ((800 : Rat) ≤ (dr : Rat) * s.worstClk k true) && decide (32768 ≤ dc) && decide (dc ≤ 131072) &&
  field (s.getN (Obj.MEA_FIR_CFG k)) 8 2 ≠ 3 && s.meaMedPos k ≠ 3 && 1 ≤ s.meaL k && s.meaL k ≤ 64 && s.grpOn (s.meaGroup k) &&
  (role = 0 || role = 20 || (1 ≤ s.get (Obj.MEA_FS k) &&
    decide (2 * ((dr : Rat) * s.worstClk k false) ≤ (250 * s.getN Obj.ORB_PERIOD : Nat))))

/-- The measurement part of the image checks, on a state that holds the image's entries. -/
def State.meaImageOk (s : State) : Bool :=
  let all := List.range 32
  let enabled := all.filter s.meaEnabled
  let holders := fun (r : Nat) => all.filter fun k => s.getN (Obj.MEA_ROLE k) = r
  let roles := (List.range 19).map (· + 1)
  enabled.all s.meaChannelOk &&
  ((List.range 14).all fun r => match holders (r + 1) with
    | [k] => s.meaEnabled k
    | _ => false) &&
  (roles.all fun r => (holders r).length ≤ 1 && (holders r).all s.meaEnabled) &&
  (match holders 13, holders 14 with
    | [p], [n] =>
      s.poleSettings p = s.poleSettings n &&
      decide ((s.get (Obj.MEA_EXT_DELAY p) : Rat) + s.meaFastClocks p * s.worstClk p false + 30 +
        (s.meaR p : Rat) * s.worstClk p false + 120 ≤ 2000)
    | _, _ => false)

end Sys2Proof.Machine
end

