-- ==== Sys2Proof/Machine/Swing.lean ====
section
/-!
DEFINITION. The swing unit (chapter 3): bases, references, what it takes from the snapshot, the notch, the inertia budget, the swing
equation's parts, tracking, and the arm references. Every line is computed exactly and rounded once to its format (R56; log entry 11).
-/

namespace Sys2Proof.Machine

/-! ## Formats (Table 3.1) -/

/-- Signed Q4.28. DEDUCED (log entry 11): unsafe. -/
def q28 (q : Rat) : Int := toQ 32 28 q
/-- Signed Q2.30. -/
def q30 (q : Rat) : Int := toQ 32 30 q
/-- Signed Q4.60. -/
def q60 (q : Rat) : Int := toQ 64 60 q
/-- Signed Q2.62. -/
def q62 (q : Rat) : Int := toQ 64 62 q
/-- One pu of speed. -/
abbrev onePu : Int := 2 ^ 62
/-- The nearest multiple of 2^-n of a word with more fractional bits. -/
def cut (bits : Nat) (width : Nat) (v : Int) : Int := saturate width (roundAway ((v : Rat) / ((2 ^ bits : Nat) : Rat)))

/-- Changes the swing unit. -/
def State.withSwg (s : State) (f : Swg → Swg) : State := { s with swg := f s.swg }

/-- f0 in Hz. -/
def State.f0 (s : State) : Nat := s.getN Obj.SWG_F0

/-- The length of the present cycle in s. -/
def State.cycleSeconds (s : State) : Rat := (s.period : Rat) / 1000000000

/-- The length of the cycle k ahead in s. -/
def State.secondsAhead (s : State) (k : Nat) : Rat := ((s.lenAhead k : Nat) : Rat) / 4000000

/-! ## Bases (R55, R81) -/

/-- k_ac. -/
def State.kAc (s : State) : Rat := if s.vdcBase = 0 then 0 else sqrtQ 2 * s.vBase / (sqrtQ 3 * s.vdcBase)

/-- The coupling reactance x_c in pu (R81). -/
def State.xC (s : State) : Rat :=
  (if s.zBase = 0 then 0 else 2 * piQ * s.f0 * ((s.get Obj.SWG_L_ARM : Rat) / 2000000) / s.zBase) + milli (s.get Obj.FRT_X_EXTRA)

/-- The derived bases and x_c, computed when an image is accepted (R55, R81). DEDUCED (log entry 43): unsafe. -/
def State.swgBases (s : State) : State :=
  (((s.put Obj.SWG_I_BASE (saturateU 32 (roundAway s.iBase))).put Obj.SWG_Z_BASE (saturateU 32 (roundAway (s.zBase * 1000)))).put
    Obj.SWG_K_AC (saturateU 32 (roundAway (s.kAc * 1073741824)))).put Obj.FRT_X_C (saturateU 16 (roundAway (s.xC * 1000)))

/-! ## References (R57, R58) -/

/-- The legal ranges of Table 3.2, in the formats of its rows. -/
def refRange (row : Nat) : Int × Int :=
  let sym := fun (v : Int) => (-v, v)
  if row = 0 then sym (q28 (6 / 5))
  else if row = 1 then sym (q28 1)
  else if row = 2 then (q28 (4 / 5), q28 (6 / 5))
  else if row = 3 then (q30 (19 / 20), q30 (21 / 20))
  else if row ≤ 6 then sym (q30 (1 / 10))
  else if row ≤ 9 then sym (q28 (1 / 20))
  else sym (q30 (1 / 10))

/-- The fixed values of both groups. -/
def State.refFixed (s : State) : List Int :=
  [q28 (milli (s.get Obj.SWG_P_SET_FIX)), q28 (milli (s.get Obj.SWG_Q_SET_FIX)), q28 (milli (s.get Obj.SWG_V_SET_FIX)),
    q30 ((s.get Obj.SWG_W_SET_FIX : Rat) / 10000)] ++ List.replicate 12 0

/-- What the sources of both groups give at T_ref. -/
def State.refSet (s : State) : List Int :=
  let group := fun (src : Nat) => if src < 8 then (s.eng.harts[src]?.map (·.staged)).getD s.refFixed else s.refFixed
  let pwr := group (s.getN Obj.SWG_REF_SRC_PWR)
  -- A BRANCH takes P_set and Q_set from the root's record; without one it keeps the previous ones (R263, R35).
  let pq := if s.treeRole ≠ 2 then pwr.take 2 else match s.lnk.down with
    | some d => [d.pSet, d.qSet]
    | none => s.swg.staged.take 2
  pq ++ (pwr.drop 2).take 2 ++ ((group (s.getN Obj.SWG_REF_SRC_ARM)).drop 4).take 12

/-- The range check of a reference set (R58). -/
def refClamp (l : List Int) : List Int :=
  (List.range 16).map fun i => clampInt (refRange i).1 (refRange i).2 (l.getD i 0)

/-- The rows that the range check replaced, row i in bit i. -/
def refMask (l : List Int) : Nat :=
  ofFlags ((List.range 16).map fun i => decide (l.getD i 0 ≠ clampInt (refRange i).1 (refRange i).2 (l.getD i 0)))

/-- The staged set is checked between T_ref and T_up (R58). -/
def State.refStage (s : State) : State :=
  let l := s.refSet
  let mask := refMask l
  let s1 := s.withSwg fun g => { g with staged := refClamp l }
  let was := s.bit Obj.SWG_STATUS 8
  let s2 := s1.setBit Obj.SWG_STATUS 8 (mask ≠ 0)
  if mask = 0 then s2 else
    let s3 := (s2.bump Obj.SWG_REF_CLAMP_COUNT).put Obj.SWG_REF_CLAMP_LAST mask
    if was then s3 else s3.raise 197

/-- A reference in force as a rational: row 3 and the arm voltages in Q2.30, the others in Q4.28. -/
def State.ref (s : State) (row : Nat) : Rat :=
  fromQ (if row = 3 || (4 ≤ row && row ≤ 6) || 10 ≤ row then 30 else 28) (s.swg.refs.getD row 0)

/-! ## The snapshot (R59, R60) -/

/-- The value in pu and the time-stamp of a role in the snapshot; none when invalid. -/
def State.roleSample (s : State) (role : Nat) : Option (Rat × Nat) :=
  (s.roleChannel role).bind fun k =>
    (s.mea.snap.find? fun e => e.1 == k).map fun e => (s.roleFactor k * fromQ 23 e.2.1, e.2.2)

/-- The time from the latest boundary to a time-stamp, in s. -/
def State.sinceMark (s : State) (stamp : Nat) : Rat := (signed 36 (stamp + 2 ^ 36 - s.orb.mark % 2 ^ 36) : Rat) / 16000000000

/-- The internal angle at a time-stamp, in turns (R59). -/
def State.angleAt (s : State) (stamp : Nat) : Rat :=
  (s.swg.core.theta : Rat) / ((2 ^ 64 : Nat) : Rat) + fromQ 62 s.swg.core.omega * s.f0 * s.sinceMark stamp

/-- The vector of three phases from the role `first` on, each rotated at its own instant (R59). -/
def State.phaseVector (s : State) (first : Nat) : Option (Int × Int) :=
  match s.roleSample first, s.roleSample (first + 1), s.roleSample (first + 2) with
  | some u, some v, some w =>
    let part := fun (e : Rat × Nat) (k : Nat) =>
      let a := s.angleAt e.2 - (k : Rat) / 3
      (e.1 * cosTurn a, e.1 * sinTurn a)
    let pu := part u 0
    let pv := part v 1
    let pw := part w 2
    some (q28 (2 / 3 * (pu.1 + pv.1 + pw.1)), q28 (-(2 / 3) * (pu.2 + pv.2 + pw.2)))
  | _, _, _ => none

/-- u_dc in Q2.30 from both poles. -/
def State.poleVoltage (s : State) : Option Int :=
  match s.roleSample 13, s.roleSample 14 with
  | some p, some n => some (q30 ((p.1 - n.1) / 2))
  | _, _ => none

/-- The roles the swing unit uses: both voltages and currents, and the poles unless DC_FIXED. -/
def State.swgRoles (s : State) : List Nat := [1, 2, 3, 4, 5, 6] ++ (if s.bit Obj.SWG_CTRL 2 then [] else [13, 14])

/-- The magnitude of a vector in Q4.28. -/
def magnitude (d q : Int) : Rat := sqrtQ (fromQ 28 d * fromQ 28 d + fromQ 28 q * fromQ 28 q)

/-- One pass of the notch (R513): coefficients in Q2.62, states in Q4.60. -/
def notchStep (b0 b1 a2 : Rat) (st : Int × Int) (x : Int) : Int × (Int × Int) :=
  let xq := fromQ 28 x
  let y := q60 (b0 * xq + fromQ 60 st.1)
  let yq := fromQ 60 y
  (cut 32 32 y, (q60 (b1 * xq - b1 * yq + fromQ 60 st.2), q60 (b0 * xq - a2 * yq)))

/-- The notch on P_e and Q_e; its states are held at zero while it is disabled (R513). -/
def State.notch (s : State) : State :=
  if !s.bit Obj.SWG_CTRL 0 then s.withSwg fun g =>
    { g with p := g.pRaw, q := g.qRaw, next := { g.next with notchP := (0, 0), notchQ := (0, 0) } }
  else
    let k := tanQ (piQ * (2 * fromQ 62 s.swg.core.omega * s.f0) * s.cycleSeconds)
    let quality : Rat := 707 / 1000
    let a0 := 1 + k / quality + k * k
    let b0 := fromQ 62 (q62 ((1 + k * k) / a0))
    let b1 := fromQ 62 (q62 (2 * (k * k - 1) / a0))
    let a2 := fromQ 62 (q62 ((1 - k / quality + k * k) / a0))
    let p := notchStep b0 b1 a2 s.swg.core.notchP s.swg.pRaw
    let q := notchStep b0 b1 a2 s.swg.core.notchQ s.swg.qRaw
    s.withSwg fun g => { g with p := p.1, q := q.1, next := { g.next with notchP := p.2, notchQ := q.2 } }

/-- Measurements of the cycle: powers, currents, u_dc, and the hold of R60. -/
def State.swgMeasure (s : State) : State :=
  let bad := s.swgRoles.filter fun r => (s.roleSample r).isNone
  let mask := bad.foldl (fun m r => withBit m r true) 0
  let s0 := s.withSwg fun g => { g with next := g.core, bad := mask, uDc := if s.bit Obj.SWG_CTRL 2 then 2 ^ 30 else g.uDc }
  let s1 := match mask, s.phaseVector 1, s.phaseVector 4 with
    | 0, some v, some i =>
      let p := q28 (fromQ 28 v.1 * fromQ 28 i.1 + fromQ 28 v.2 * fromQ 28 i.2)
      let q := q28 (fromQ 28 v.2 * fromQ 28 i.1 - fromQ 28 v.1 * fromQ 28 i.2)
      s0.withSwg fun g => { g with
        pRaw := p, qRaw := q, iD := i.1, iQ := i.2, vD := v.1, vQ := v.2
        uDc := if s.bit Obj.SWG_CTRL 2 then 2 ^ 30 else (s.poleVoltage).getD g.uDc }
    | _, _, _ => s0.bump Obj.SWG_MEAS_HELD_COUNT
  let again := decide (mask &&& s.swg.bad ≠ 0)
  let s2 := (s1.withSwg fun g => { g with lasting := again }).setBit Obj.SWG_STATUS 9 (mask ≠ 0)
  let s3 := if again && !s.swg.lasting then s2.raise 201 else s2
  let on := (again && s3.devState = stRun && s3.owner) || (mask ≠ 0 && s3.devState = stTrip && s3.causeActive causeMeasurement)
  let s4 := s3.setCause causeMeasurement on
  (if again && s4.devRole = roleStandby then s4.setRole roleStale 0 else s4).notch

/-! ## The inertia budget (R68 to R72) -/

/-- E_usable and E_stored of the valve in J. -/
def State.energy (s : State) : Nat × Nat :=
  let sum := fun (f : Arm → Nat) => (saturateU 48 ((s.age.arms.map f).foldl (· + ·) 0 : Nat)).toNat
  (sum (·.eUsable), sum (·.eStored))

/-- H_max in us for a usable energy in J (R68). -/
def State.hMax (s : State) (e : Nat) : Nat :=
  let d : Nat := 2 * s.getN Obj.SWG_S_BASE * 1000 * s.getN Obj.SWG_ROCOF_DESIGN * s.getN Obj.SWG_TAU_DC
  if d = 0 then 0 else (saturateU 32 (roundAway ((e * s.f0 * 10 ^ 12 : Nat) / (d : Rat)))).toNat

/-- H_max_f after a cycle (R69, R71): `valid` says whether the sum is valid, `h` is H_max on the latest valid sum. -/
def State.hNext (s : State) (valid : Bool) (h : Nat) : Nat × Nat :=
  let old := s.swg.next.hMaxF
  let credit := s.swg.hRest + s.period
  let rise := min (h - old) (credit / 10000)
  if s.swg.hWaits then (h, 0)
  else if h ≤ old then (h, 0)
  else if !valid then (old, 0)
  else (old + rise, credit % 10000)

/-- The budget of the cycle. DEDUCED (log entry 41): unsafe. -/
def State.swgBudget (s : State) : State :=
  let valid := s.age.eValid
  let sums := s.energy
  let e := if valid then some sums.1 else s.swg.eLast
  let s1 := match e with
    | none => s
    | some j0 =>
      -- A ROOT adds what its tree reports, in kJ (R263).
      let j := j0 + (1000 * s.treeEnergy).toNat
      let h := s.hNext valid (s.hMax j)
      (s.put Obj.SWG_E_USABLE (saturateU 32 (roundAway ((j : Rat) / 1000)))).withSwg fun g => { g with
        eLast := e, hWaits := false, hRest := h.2, next := { g.next with hMaxF := h.1 } }
  let hf := s1.swg.next.hMaxF
  let hSet := s1.getN Obj.SWG_H_SET * 1000
  let hEff := min hSet hf
  let clamped := hf < hSet
  let low := hf < s1.getN Obj.SWG_H_WARN * 1000
  let gone := hf < 50000
  let st := s1.getN Obj.SWG_STATUS
  let s2 := (((s1.withSwg fun g => { g with hEff := hEff }).put Obj.SWG_H_EFF (saturateU 32 (roundAway ((hEff : Rat) / 1000)))).put
    Obj.SWG_H_MAX (saturateU 32 (roundAway ((hf : Rat) / 1000)))).put Obj.SWG_E_STORED
      (saturateU 32 (roundAway ((sums.2 : Rat) / 1000)))
  let s3 := s2.put Obj.SWG_STATUS
    (withBit (withBit (withBit (withBit st 3 clamped) 4 low) 5 !valid) 12 gone : Nat)
  let s4 := if clamped then s3.bump Obj.SWG_H_CLAMP_CYCLES else s3
  let s5 := if clamped && !bitOf st 3 then s4.raise 192 else if !clamped && bitOf st 3 then s4.raise 193 else s4
  let s6 := if low && !bitOf st 4 then s5.raise 194 else s5
  let s7 := if valid then s6 else
    let t := s6.bump Obj.SWG_BUDGET_HELD_CYCLES
    if bitOf st 5 then t else t.raise 198
  let on := gone && ((s7.devState = stRun && s7.owner) || (s7.devState = stTrip && s7.causeActive causeInertia))
  let s8 := if gone && (!bitOf st 12 || (on && !s7.causeActive causeInertia)) then s7.raise 202 else s7
  s8.setCause causeInertia on

/-! ## Parts of the swing equation (R61, R73) -/

/-- The time constant filter factor T / (tau + T), tau in ms. -/
def State.alpha (s : State) (ms : Nat) : Rat :=
  let t : Rat := s.period
  if t = 0 then 0 else t / (1000000 * ms + t)

/-- The sign of a rational as a rational. -/
def signQ (q : Rat) : Rat := if q < 0 then -1 else if q = 0 then 0 else 1

/-- The mechanical power of the droop in Q4.28, for a speed reference and a speed (R61, R63). -/
def State.droopPower (s : State) (w : Rat) : Int :=
  let dw := s.ref 3 - w
  let db : Rat := if s.f0 = 0 then 0 else (s.get Obj.SWG_PF_DEADBAND : Rat) / (1000 * s.f0)
  let dw1 := if absQ dw ≤ db then 0 else dw - signQ dw * db
  let r : Rat := (s.get Obj.SWG_PF_DROOP : Rat) / 10000
  q28 (s.ref 0 + (if r = 0 then 0 else dw1 / r))

/-- The limits of the speed in Q2.62 (R62). -/
def State.wLimits (s : State) : Int × Int :=
  (q62 ((s.get Obj.SWG_W_MIN : Rat) / 10000), q62 ((s.get Obj.SWG_W_MAX : Rat) / 10000))

/-- The angle one cycle on at a speed, in 2^-64 turn. -/
def State.thetaNext (s : State) (w : Int) : Nat :=
  ((s.swg.core.theta + roundAway (fromQ 62 w * s.f0 * s.cycleSeconds * ((2 ^ 64 : Nat) : Rat))) % (2 ^ 64 : Nat)).toNat

/-- Q_f for which the EMF equation gives E (R75); unchanged with a droop of 0. -/
def State.qfFor (s : State) (e : Int) (old : Int) : Int :=
  let r : Rat := (s.get Obj.SWG_QV_DROOP : Rat) / 10000
  if r = 0 then old else q60 (s.ref 1 - (fromQ 28 e - s.ref 2) / r)

/-- The EMF magnitude of R61 before its limits, and its limits, in Q4.28. -/
def State.emfOf (s : State) (qf : Int) : Int :=
  let r : Rat := (s.get Obj.SWG_QV_DROOP : Rat) / 10000
  q28 (s.ref 2 + r * (s.ref 1 - fromQ 60 qf))

/-- The limits of the EMF magnitude. -/
def State.emfLimits (s : State) : Int × Int := (q28 (milli (s.get Obj.SWG_E_MIN)), q28 (milli (s.get Obj.SWG_E_MAX)))

/-- A cycle of tracking (R73). -/
def State.swgTrack (s : State) : State :=
  let g := s.swg
  let mag := magnitude g.vD g.vQ
  let seen := decide (milli (s.get Obj.SWG_TRACK_VMIN) ≤ mag)
  let turn := if seen then atan2Turn (fromQ 28 g.vQ) (fromQ 28 g.vD) else 0
  let e := turn * 2 * piQ
  let kp : Rat := if s.f0 = 0 then 0 else 20 / (s.f0 : Rat)
  let lim := s.wLimits
  let wi := clampInt lim.1 lim.2 (q62 (fromQ 62 g.omegaI + 10 * piQ * kp * e * s.cycleSeconds))
  let w := clampInt lim.1 lim.2 (q62 (fromQ 62 wi + kp * e))
  let good := seen && decide (absQ turn < 1 / 180)
  let s1 := s.withSwg fun g => { g with
    omegaI := wi
    lockFor := if good then g.lockFor + s.period else 0
    locked := g.locked && good
    next := { g.next with theta := s.thetaNext g.core.omega, omega := w, omegaF := w } }
  let s2 := { s1 with frt := { s1.frt with core := { s1.frt.core with emf := g.vD } } }
  if g.locked && !good then s2.raise 199 else s2

/-- Tracking conditions have held for 20 ms: lock (R73). -/
def State.trackLock (s : State) : State :=
  if (s.devState = stLinkup || s.devState = stBlocked || s.devState = stTrip) && 20000000 ≤ s.swg.lockFor && !s.swg.locked then
    ((s.withSwg fun g => { g with locked := true }).setBit Obj.SWG_STATUS 1 true).raise 199
  else s

/-! ## Arm references (R64 to R66) -/

/-- The converter voltage of the internal frame behind the virtual impedance, in pu (R65). -/
def State.virtualVoltage (s : State) : Rat × Rat :=
  let i := (fromQ 28 s.swg.iD, fromQ 28 s.swg.iQ)
  let w := fromQ 62 s.swg.next.omega
  let rv := milli (s.get Obj.SWG_RV)
  let xv := milli (s.get Obj.SWG_XV)
  (fromQ 28 (q28 (fromQ 28 s.frt.core.emf - rv * i.1 + xv * w * i.2)), fromQ 28 (q28 (-(rv * i.2) - xv * w * i.1)))

/-- k_L for the cycle after next (R66). -/
def State.kL (s : State) : Rat :=
  let t := s.secondsAhead 2
  if t = 0 || s.vdcBase = 0 then 0 else (s.get Obj.SWG_L_ARM : Rat) / 1000000 * s.iBase / (t * s.vdcBase)

/-- The output angle in turns (R64). -/
def State.thetaOut (s : State) : Rat :=
  (s.swg.next.theta : Rat) / ((2 ^ 64 : Nat) : Rat) +
    fromQ 62 s.swg.next.omega * s.f0 * (s.secondsAhead 1 + s.secondsAhead 2 / 2)

/-- The six arm references from a converter voltage in pu (R66). -/
def State.armRefs (s : State) (v : Rat × Rat) : List Int :=
  let th := s.thetaOut
  let x := [0, 1, 2].map fun (k : Nat) =>
    let a := th - (k : Rat) / 3
    fromQ 28 (q28 (v.1 * cosTurn a - v.2 * sinTurn a))
  let top := x.foldl max (x.getD 0 0)
  let bottom := x.foldl min (x.getD 0 0)
  let cm : Rat := if s.bit Obj.SWG_CTRL 1 then -(top + bottom) / 2 else 0
  let u := fromQ 30 s.swg.uDc / 2
  let kAc := s.kAc
  let kL := s.kL
  (List.range 6).map fun (a : Nat) =>
    let leg := a / 2
    let circ := s.ref (4 + leg) + kL * s.ref (7 + leg)
    let vx := kAc * (x.getD leg 0 + cm)
    clampInt (-(q30 (1999 / 1000))) (q30 (1999 / 1000)) (q30 (u + (if a % 2 = 0 then -vx else vx) - circ + s.ref (10 + a)))

/-! ## Clearing and entry -/

/-- Cleared states (R73, R513). -/
def SwingStream.cleared : SwingStream :=
  { theta := 0, omega := onePu, omegaF := onePu, qf := 0, notchP := (0, 0), notchQ := (0, 0), hMaxF := 0 }

/-- Every entry to LINKUP: cleared states, the budget restarts (R69, R73). -/
def State.swgLinkup (s : State) : State :=
  let s1 := s.withSwg fun g => { g with
    core := SwingStream.cleared, next := SwingStream.cleared, omegaI := onePu
    pRaw := 0, qRaw := 0, p := 0, q := 0, iD := 0, iQ := 0, vD := 0, vQ := 0, uDc := 0
    bad := 0, lasting := false, hWaits := true, hRest := 0, eLast := none, hEff := 0
    lockFor := 0, locked := false, first := false, handStart := false }
  let s2 := { s1 with frt := { s1.frt with core := { s1.frt.core with emf := 0, seq := [] }, mags := [] } }
  ((s2.put Obj.SWG_H_MAX 0).put Obj.SWG_H_EFF 0).setBit Obj.SWG_STATUS 1 false

/-- CONFIG: idle, states cleared, arm references zero (Table 3.6). -/
def State.swgIdle (s : State) : State :=
  let s1 := s.swgLinkup.withSwg fun g => { g with armRef := List.replicate 6 0 }
  let st := s1.getN Obj.SWG_STATUS
  let s2 := (s1.put Obj.SWG_STATUS (ofFlags ((List.range 14).map fun b => (b = 11 || b = 13) && bitOf st b))).put Obj.SWG_THETA 0
  (((s2.put Obj.SWG_OMEGA (2 ^ 30)).put Obj.SWG_OMEGA_F (2 ^ 30)).put Obj.SWG_E 0).forAll (List.range 6) fun s a =>
    s.put (Obj.SWG_ARM_REF a) 0

/-- The live entries of one cycle, published together (R79). -/
def State.swgPublish (s : State) : State :=
  let g := s.swg
  let s1 := ((((s.put Obj.SWG_THETA (g.next.theta / 2 ^ 32 : Nat)).put Obj.SWG_OMEGA (cut 32 32 g.next.omega)).put Obj.SWG_OMEGA_F
    (cut 32 32 g.next.omegaF)).put Obj.SWG_E s.frt.core.emf).put Obj.SWG_P_E g.pRaw
  let s2 := (((s1.put Obj.SWG_Q_E g.qRaw).put Obj.SWG_I_D g.iD).put Obj.SWG_I_Q g.iQ).put Obj.SWG_U_DC g.uDc
  s2.forAll (List.range 6) fun s a => s.put (Obj.SWG_ARM_REF a) (g.armRef.getD a 0)

end Sys2Proof.Machine
end

