-- ==== Sys2Proof/Machine/Ride.lean ====
section
/-!
DEFINITION. Fault ride-through, dead-grid energisation and synchronisation (chapter 4), and the run of the swing unit at T_up that
joins them with the swing equation (R61, R73, R80).
-/

namespace Sys2Proof.Machine

/-- BLK_PHASE values (Table 4.4). -/
abbrev blkNone : Nat := 0
/-- DEAD_CHECK. -/
abbrev blkDead : Nat := 1
/-- RAMP. -/
abbrev blkRamp : Nat := 2
/-- HOLD. -/
abbrev blkHold : Nat := 3
/-- HANDOVER. -/
abbrev blkHand : Nat := 4
/-- DROOP. -/
abbrev blkDroop : Nat := 5

/-- Changes the ride-through unit. -/
def State.withFrt (s : State) (f : Frt → Frt) : State := { s with frt := f s.frt }

/-- Changes the streamed part. -/
def State.withRide (s : State) (f : RideStream → RideStream) : State := s.withFrt fun r => { r with core := f r.core }

/-- BLK_PHASE. -/
def State.blkPhase (s : State) : Nat := s.frt.core.phase

/-- The frequency hold of DEAD_CHECK, RAMP and HOLD (R92). -/
def State.blkHolds (s : State) : Bool := 1 ≤ s.blkPhase && s.blkPhase ≤ 3

/-- A bit of FRT_STATUS as it stands. -/
def State.frtBit (s : State) (b : Nat) (on : Bool) : State := s.withFrt fun r => { r with status := withBit r.status b on }

/-- The black-start phase changes: source 217, logged (R92). -/
def State.blkEnter (s : State) (phase : Nat) : State :=
  if s.blkPhase = phase then s else
  let old := s.blkPhase
  ((s.withRide fun r => { r with phase := phase }).put Obj.BLK_PHASE phase).event 217 noSubject [old, phase]

/-! ## RIDE (R84 to R88) -/

/-- RIDE is set and recovery has not begun. -/
def State.limiting (s : State) : Bool := s.frt.core.ride && !s.frt.core.recover

/-- |v_t| in pu. -/
def State.vMag (s : State) : Rat := magnitude s.swg.vD s.swg.vQ

/-- |i| in pu. -/
def State.iMag (s : State) : Rat := magnitude s.swg.iD s.swg.iQ

/-- i_lim (R80). -/
def State.iLim (s : State) : Rat :=
  if s.blkPhase = blkRamp || s.blkPhase = blkHold then milli (s.get Obj.BLK_I_LIM) else milli (s.get Obj.FRT_I_LIM)

/-- v_av: the mean of |v_t| over the last 1 / (2 f0) (R85). -/
def State.vAvg (s : State) : Rat :=
  let l := s.frt.mags
  if l.isEmpty then 0 else ((l.foldl (fun (t : Int) (e : Nat × Int) => t + e.2) 0 : Int) : Rat) / (l.length : Nat) / 268435456

/-- p_av of the limiting phase in Q4.28 (R85, R86). -/
def State.pAvailable (s : State) : Int :=
  let v := q28 ((if s.vMag ≤ s.vAvg then s.vMag else s.vAvg) * s.iLim)
  match s.frt.core.pCap with
  | some c => min c v
  | none => v

/-- A condition of R84 holds: a new ride, or a refault of a ride that recovers. `why` is 1 for dz_t, 2 for saturation, 4 for a
dip. -/
def State.rideFault (s : State) (why : Nat) : State :=
  let r := s.frt.core
  if !r.ride then
    let s1 := s.withRide fun r => { r with
      ride := true, recover := false, omegaHold := s.swg.next.omegaF, pCap := none, clearFor := 0, rideFor := 0 }
    let s2 := (s1.withRide fun r => { r with pAv := s1.pAvailable }).put Obj.FRT_I_PEAK (saturateU 16 (roundAway (s.iMag * 1000)))
    let s3 := (((s2.frtBit 0 true).frtBit 5 false).raise 208).journalFull 208 noSubject [why] 0x0C false false
    ((s3.bump Obj.FRT_RIDE_COUNT).count 0x0C).cmtFire 9 s.time32 0
  else if r.recover then
    let s1 := s.withRide fun r => { r with recover := false, omegaHold := s.swg.next.omegaF, pCap := some r.pAv, clearFor := 0 }
    (((s1.withRide fun r => { r with pAv := s1.pAvailable }).frtBit 5 false).bump Obj.FRT_REFAULT_COUNT).raise 213
  else s.withRide fun r => { r with clearFor := 0 }

/-- Recovery begins when every cycle of FRT_CLEAR_TIME was clear (R86). -/
def State.rideClear (s : State) : State :=
  if s.devState = stRun && s.limiting && s.getN Obj.FRT_CLEAR_TIME * 1000000 ≤ s.frt.core.clearFor then
    ((s.withRide fun r => { r with recover := true }).frtBit 5 true).raise 212
  else s

/-- The ride time exceeds FRT_MAX_TIME in the limiting phase (R87); a recovery that is due wins. DESIGN CHOICE (log entry 57): unsafe. -/
def State.rideTimeout (s : State) : State :=
  let s0 := s.rideClear
  if s0.devState = stRun && s0.limiting && s0.getN Obj.FRT_MAX_TIME * 1000000 < s0.frt.core.rideFor && s0.owner &&
      !s0.causeActive causeFrtTimeout then
    (s0.eventCause causeFrtTimeout).raise 216
  else s0

/-- Exit from RUN (R88, Table 4.4): RIDE and the black-start phase end; synchronisation ends with its offsets (log entry 12). -/
def State.rideLeave (s : State) : State :=
  let s1 := s.withRide fun r => { r with ride := false, recover := false, pCap := none, clearFor := 0, rideFor := 0, pHand := 0 }
  let s2 := ((s1.frtBit 0 false).frtBit 5 false).frtBit 6 false
  let s3 := ((s2.put Obj.FRT_STATUS s2.frt.status).setBit Obj.DEV_RUN_FLAGS 1 false).put Obj.FRT_P_AV 0xFFFF
  let s4 := (s3.blkEnter blkNone).withFrt fun r => { r with release := none, wOff := 0, vOff := 0 }
  let s5 := ((s4.put Obj.BLK_SYNC_REQ 0).put Obj.BLK_SYNC_W_OFFSET 0).put Obj.BLK_SYNC_V_OFFSET 0
  (s5.put Obj.BLK_STATUS (s5.getN Obj.BLK_STATUS &&& 0x18 : Nat)).put Obj.BLK_HAND_OFFSET 0

/-- Entry to RUN (R75, R88, R92): `black` is the mode BLACKSTART. -/
def State.runEnter (s : State) (black : Bool) : State :=
  let s0 := (s.withFrt fun r => { r with
    runAt := s.now, dip := false, deadFor := 0, holdFor := 0, pauseFor := 0,
    core := { r.core with dz := 0, ride := false, recover := false, pCap := none, clearFor := 0, rideFor := 0, pHand := 0 } }).setBit
      Obj.SWG_STATUS 13 false
  let s1 := ((s0.setBit Obj.DEV_RUN_FLAGS 0 black).put Obj.BLK_PAUSE_TIME 0).put Obj.BLK_HAND_OFFSET 0
  let wSet := 2 ^ 32 * s1.swg.refs.getD 3 (2 ^ 30)
  let base := fun (s : State) (w : Int) => s.withSwg fun g => { g with
    core := { g.core with omega := w, omegaF := w }, next := { g.next with omega := w, omegaF := w }
    first := true, handStart := false, lockFor := 0, locked := false }
  if black then
    let s2 := ((base s1 wSet).withRide fun r => { r with emf := 0 }).put Obj.BLK_E_NOW 0
    s2.blkEnter blkDead
  else if s1.swg.locked then s1.withSwg fun g => { g with
    core := { g.core with omegaF := g.core.omega }, next := { g.next with omegaF := g.next.omega }
    first := true, handStart := false, lockFor := 0, locked := false }
  else
    let s2 := (base s1 wSet).withRide fun r => { r with emf := q28 s.vMag }
    ((s2.setBit Obj.SWG_STATUS 13 true).bump Obj.SWG_START_UNLOCKED_COUNT).raise 200

/-- Exit from RUN for the swing unit: tracking starts from the last state (R75). DEDUCED (log entry 12): unsafe. -/
def State.runLeave (s : State) : State :=
  (s.withSwg fun g => { g with omegaI := g.next.omega, lockFor := 0, locked := false, first := false, handStart := false }).rideLeave

/-! ## Sequences (R89) -/

/-- The terminal voltage in the stationary frame at its time-stamp, in Q4.28. -/
def State.stationary (s : State) (stamp : Nat) : Int × Int :=
  let a := s.angleAt stamp
  let c := cosTurn a
  let n := sinTurn a
  (q28 (fromQ 28 s.swg.vD * c - fromQ 28 s.swg.vQ * n), q28 (fromQ 28 s.swg.vD * n + fromQ 28 s.swg.vQ * c))

/-- The value at an instant between the stored values that bracket it; `l` newest first, instants in 2^-4 ns of TIME32. -/
def interpolate (at_ : Nat) : List (Nat × Int × Int) → Option (Rat × Rat)
  | (t1, x1, y1) :: (t0, x0, y0) :: rest =>
    if signed 36 (at_ + 2 ^ 36 - t1 % 2 ^ 36) ≤ 0 ∧ 0 ≤ signed 36 (at_ + 2 ^ 36 - t0 % 2 ^ 36) then
      let d := signed 36 (t1 + 2 ^ 36 - t0 % 2 ^ 36)
      let f : Rat := if d = 0 then 0 else (signed 36 (at_ + 2 ^ 36 - t0 % 2 ^ 36) : Rat) / (d : Rat)
      some (fromQ 28 x0 + f * fromQ 28 (x1 - x0), fromQ 28 y0 + f * fromQ 28 (y1 - y0))
    else interpolate at_ ((t0, x0, y0) :: rest)
  | _ => none

/-- A quarter period at f0 in 2^-4 ns. -/
def State.quarterPeriod (s : State) : Nat := if s.f0 = 0 then 0 else (roundAway ((4000000000 : Rat) / s.f0)).toNat

/-- Keeps the values of the last quarter period and one more. -/
def keepQuarter (q now : Nat) : List (Nat × Int × Int) → List (Nat × Int × Int)
  | [] => []
  | e :: rest =>
    if signed 36 (now + 2 ^ 36 - e.1 % 2 ^ 36) ≤ q then e :: keepQuarter q now rest else [e]

/-- The terminal voltage of the cycle enters the extractor and the history of |v_t|. -/
def State.frtHistory (s : State) : State :=
  let span := if s.f0 = 0 then 0 else 500000000 / s.f0
  let s1 := s.withFrt fun r => { r with
    mags := ((s.now, q28 s.vMag) :: r.mags).filter fun e => s.now < e.1 + span }
  match s.swg.bad, s.roleSample 1 with
  | 0, some u =>
    let v := s.stationary u.2
    s1.withRide fun r => { r with seq := keepQuarter s.quarterPeriod u.2 ((u.2, v.1, v.2) :: r.seq) }
  | _, _ => s1

/-- v_t1 and v_t2 in the internal frame; none before a quarter period of RUN (R89). -/
def State.sequences (s : State) : Option ((Rat × Rat) × (Rat × Rat)) :=
  if s.devState ≠ stRun || s.now < s.frt.runAt + s.quarterPeriod / 16 then none else
  match s.frt.core.seq with
  | [] => none
  | (t, x, y) :: rest =>
    (interpolate ((t + 2 ^ 36 - s.quarterPeriod) % 2 ^ 36) ((t, x, y) :: rest)).map fun o =>
      let v := (fromQ 28 x, fromQ 28 y)
      let pos := ((v.1 - o.2) / 2, (v.2 + o.1) / 2)
      let neg := ((v.1 + o.2) / 2, (v.2 - o.1) / 2)
      let a := s.angleAt t
      let c := cosTurn a
      let n := sinTurn a
      let rot := fun (p : Rat × Rat) => (p.1 * c + p.2 * n, p.2 * c - p.1 * n)
      (rot pos, rot neg)

/-- The magnitude of a rational vector. -/
def norm (v : Rat × Rat) : Rat := sqrtQ (v.1 * v.1 + v.2 * v.2)

/-- Magnitudes as read, and the unbalance (R89). -/
def State.frtSequences (s : State) : State :=
  let per := fun (q : Rat) => saturateU 16 (roundAway (q * 1000))
  let s1 := (s.put Obj.FRT_I_MAG (per s.iMag)).put Obj.FRT_V_AVG (per s.vAvg)
  match s.sequences with
  | none => s1.frtBit 7 false
  | some (pos, neg) =>
    let on := decide (milli (s.get Obj.FRT_UNBAL_DET) * norm pos < norm neg)
    let s2 := ((s1.put Obj.FRT_V_POS (per (norm pos))).put Obj.FRT_V_NEG (per (norm neg))).frtBit 7 on
    if on && !bitOf s.frt.status 7 then s2.raise 215 else s2

/-! ## The limiter (R80) -/

/-- dz_t of the cycle in Q4.28. -/
def State.dzTarget (s : State) : Int :=
  let excess := s.iMag - milli (s.get Obj.FRT_I_TH)
  if excess ≤ 0 then 0 else q28 ((s.get Obj.FRT_TVI_GAIN : Rat) / 100 * excess)

/-- Stage 1: dz rises at once and decays with tau_tvi. -/
def State.dzNext (s : State) : Int :=
  let tau : Rat := (s.get Obj.FRT_TVI_DECAY : Rat) / 1000
  let d := if tau = 0 then 0 else q28 (fromQ 28 s.frt.core.dz * expQ (-(s.cycleSeconds / tau)))
  max s.dzTarget d

/-- What the limiter answers: the voltage in pu, whether stage 2 saturates, whether suppression acts. -/
structure Limited where
  v : Rat × Rat
  sat : Bool
  neg : Bool
deriving DecidableEq, Repr

/-- Both stages on the converter voltage of R65 (R80, R90). -/
def State.limiter (s : State) (v0 : Rat × Rat) : Limited :=
  let i := (fromQ 28 s.swg.iD, fromQ 28 s.swg.iQ)
  let vt := (fromQ 28 s.swg.vD, fromQ 28 s.swg.vQ)
  let w := fromQ 62 s.swg.next.omega
  let xr : Rat := (s.get Obj.FRT_TVI_XR : Rat) / 10
  let root := sqrtQ (1 + xr * xr)
  let dz := fromQ 28 s.frt.core.dz
  let dr := dz / root
  let dx := dz * xr / root
  let v := (v0.1 - dr * i.1 + dx * w * i.2, v0.2 - dr * i.2 - dx * w * i.1)
  let xw := s.xC * w
  let dv := (v.1 - vt.1, v.2 - vt.2)
  -- Rotated by -90 degrees: (d, q) becomes (q, -d).
  let iRef := if xw = 0 then (0, 0) else (dv.2 / xw, -(dv.1 / xw))
  let m := norm iRef
  let lim := s.iLim
  if lim < m then
    let f := lim / m
    let is := (iRef.1 * f, iRef.2 * f)
    let rad := milli (s.get Obj.FRT_R_AD)
    { v := (vt.1 - xw * is.2 + rad * (is.1 - i.1), vt.2 + xw * is.1 + rad * (is.2 - i.2)), sat := true, neg := false }
  else
    match s.bit Obj.FRT_CTRL 0, s.sequences with
    | true, some (_, neg) => { v := (v.1 + neg.1, v.2 + neg.2), sat := false, neg := true }
    | _, _ => { v := v, sat := false, neg := false }

/-- One cycle of the recovery ramp of p_av (R86). -/
def State.recoveryRamp (s : State) : State :=
  if s.frt.core.ride && s.frt.core.recover then s.withRide fun r => { r with
      pAv := saturate 32 (r.pAv + q28 ((s.get Obj.FRT_P_RAMP : Rat) / 100 * s.cycleSeconds)) }
  else s

/-- Before the equation: dips, dz_t, and RIDE from them (R84); a refault takes the ramped value of its cycle (R86). -/
def State.rideDetect (s : State) : State :=
  let low := decide (s.vMag < milli (s.get Obj.FRT_V_DET))
  let dz := if s.blkPhase = blkDead then 0 else s.dzTarget
  let twice := low && s.frt.dip && !s.blkHolds
  let was := decide (0 < s.frt.core.dz)
  let s1 := ((s.frtBit 3 low).frtBit 4 twice).withFrt fun r => { r with dip := low && !s.blkHolds }
  let s2 := if 0 < dz then s1.bump Obj.FRT_TVI_CYCLES else s1
  let s3 := if 0 < dz && (!bitOf s.frt.status 9) then s2.raise 210 else s2
  -- Bit 9 is the model's own note of dz_t in the cycle before; it is not published.
  let s4 := s3.frtBit 9 (0 < dz)
  let s5 := if s.blkPhase = blkDead then s4 else s4.withRide fun r => { r with dz := s.dzNext }
  let s6 := s5.frtBit 1 (0 < s5.frt.core.dz || (was && s.blkPhase = blkDead))
  if 0 < dz || twice then s6.recoveryRamp.rideFault ((if 0 < dz then 1 else 0) + (if twice then 4 else 0)) else s6

/-- p_av of the cycle, before the equation: it follows the voltage in the limiting phase and ramps in recovery (R85, R86). -/
def State.ridePower (s : State) : State :=
  if s.limiting then s.withRide fun r => { r with pAv := s.pAvailable } else s.recoveryRamp

/-- A cycle outside RUN: the limiter does not run, and only the terminal voltage is looked at (R88, Table 4.9). -/
def State.rideIdle (s : State) : State :=
  let low := decide (s.vMag < milli (s.get Obj.FRT_V_DET))
  s.withFrt fun r => { r with status := ofFlags [false, bitOf r.status 1, false, low, false, false, false, false, false] }

/-- After the limiter: RIDE from saturation, its end, the clear interval, times and reports (R84, R86, R87). `pm` is |p_m| in
Q4.28. -/
def State.rideAfter (s : State) (sat neg : Bool) (pm : Int) : State :=
  let was := bitOf s.frt.status 2
  let s1 := ((s.frtBit 2 sat).frtBit 8 neg)
  let s2 := if sat then s1.bump Obj.FRT_SAT_CYCLES else s1
  let s3 := if sat && !was then s2.raise 211 else s2
  let s4 := if sat then s3.rideFault 2 else s3
  let s5 := if s4.frt.core.ride && s4.frt.core.recover && absInt pm ≤ s4.frt.core.pAv then
      ((s4.withRide fun r => { r with ride := false, recover := false, pCap := none }).frtBit 0 false |>.frtBit 5 false).raise 209
    else s4
  let clear := !sat && decide (s.iMag ≤ milli (s.get Obj.FRT_I_TH)) && decide (milli (s.get Obj.FRT_V_CLEAR) ≤ s.vMag)
  let counted := s.frt.core.ride || s5.frt.core.ride
  let total := s.frt.core.rideFor + s.period
  let s6 := if s5.frt.core.ride then s5.withRide fun r => { r with
      rideFor := if s.frt.core.ride then total else 0
      clearFor := if s5.limiting && clear then r.clearFor + s.period else 0 } else s5
  let ms := (if s.frt.core.ride then total else 0) / 1000000
  let s7 := if counted then
      (s6.put Obj.FRT_LONGEST_RIDE (max (s6.get Obj.FRT_LONGEST_RIDE) ms)).put Obj.FRT_I_PEAK
        (max (s6.get Obj.FRT_I_PEAK) (saturateU 16 (roundAway (s.iMag * 1000)))) else s6
  let s8 := if s7.limiting then s7.put Obj.FRT_RIDE_TIME ms else s7
  (s8.put Obj.FRT_P_AV (if s8.frt.core.ride then saturateU 16 (roundAway (fromQ 28 s8.frt.core.pAv * 1000)) else 0xFFFF)).put
    Obj.FRT_DZ (saturateU 16 (roundAway (fromQ 28 s8.frt.core.dz * 1000)))

/-! ## Synchronisation (R96, R97) -/

/-- Synchronisation is active: BLK_SYNC_REQ reads 1. -/
def State.syncOn (s : State) : Bool := s.get Obj.BLK_SYNC_REQ = 1

/-- The offsets begin to fall to 0 over BLK_SYNC_RELEASE. DEDUCED (log entry 12): unsafe. -/
def State.syncRelease (s : State) : State :=
  (((s.put Obj.BLK_SYNC_REQ 0).setBit Obj.BLK_STATUS 2 false).withFrt fun r => { r with release := some (r.wOff, r.vOff) })

/-- Writing 1 to BLK_SYNC_REQ is accepted (R96). -/
def State.syncAllowed (s : State) : Bool :=
  s.devState = stRun && s.owner && !(1 ≤ s.blkPhase && s.blkPhase ≤ 4) &&
    (s.roleChannel 17).isSome && (s.roleChannel 18).isSome && (s.roleChannel 19).isSome

/-- Synchronisation starts. -/
def State.syncStart (s : State) : State :=
  let s1 := s.withFrt fun r => { r with
    delta := none, freqErr := 0, readyFor := 0, closeFor := 0, syncFor := 0, readySeen := false, release := none }
  (s1.put Obj.BLK_SYNC_REQ 1).put Obj.BLK_STATUS
    (withBit (withBit (withBit (withBit (s1.getN Obj.BLK_STATUS) 1 true) 2 false) 3 false) 4 false : Nat)

/-- A turn in (-1/2, 1/2]. -/
def wrapTurn (q : Rat) : Rat := q - ((q - 1 / 2).ceil : Rat)

/-- Moves a value towards a target by at most a step. -/
def approach (v target step : Int) : Int := if v < target then min target (v + step) else max target (v - step)

/-- The offsets in force as read. -/
def State.syncShow (s : State) : State :=
  (s.put Obj.BLK_SYNC_W_OFFSET s.frt.wOff).put Obj.BLK_SYNC_V_OFFSET s.frt.vOff

/-- The synchronisation part of a cycle: errors, conditions, offsets. -/
def State.syncRun (s : State) : State :=
  if s.syncOn then
    match s.phaseVector 17 with
    | none => s.withFrt fun r => { r with syncFor := r.syncFor + s.period, readyFor := 0, closeFor := 0 }
    | some g =>
      let turn := wrapTurn (atan2Turn (fromQ 28 g.2) (fromQ 28 g.1) - atan2Turn (fromQ 28 s.swg.vQ) (fromQ 28 s.swg.vD))
      let d := roundAway (turn * 4294967296)
      let t := s.cycleSeconds
      let rate : Rat := match s.frt.delta with
        | some o => if t = 0 || s.f0 = 0 then 0 else wrapTurn (((d - o : Int) : Rat) / 4294967296) / (t * s.f0)
        | none => fromQ 40 s.frt.freqErr
      let f := roundAway ((fromQ 40 s.frt.freqErr + t / (1 / 10 + t) * (rate - fromQ 40 s.frt.freqErr)) * 1099511627776)
      let dv := magnitude g.1 g.2 - s.vMag
      let deg := absQ turn * 360
      let ready := decide (deg < (s.get Obj.BLK_SYNC_ANG : Rat) / 10) &&
        decide (absQ (fromQ 40 f) < (s.get Obj.BLK_SYNC_DF : Rat) / 10000) && decide (absQ dv < milli (s.get Obj.BLK_SYNC_DV))
      let close := decide (deg < 1) && decide (absQ dv < 1 / 100)
      let tau := milli (s.get Obj.BLK_SYNC_TAU)
      let lim : Rat := (s.get Obj.BLK_SYNC_DF_MAX : Rat) / 10000
      let w := q30 (clampQ (-lim) lim (if tau = 0 || s.f0 = 0 then 0 else turn / (s.f0 * tau)))
      let v := clampInt (-(q28 (1 / 10))) (q28 (1 / 10))
        (approach s.frt.vOff (q28 dv) (q28 (milli (s.get Obj.BLK_SYNC_V_RATE) * t)))
      let frozen := s.frt.core.ride
      let s1 := s.withFrt fun r => { r with
        delta := some d, freqErr := f, syncFor := r.syncFor + s.period
        readyFor := if ready then r.readyFor + s.period else 0
        closeFor := if close && r.readySeen then r.closeFor + s.period else 0
        wOff := if frozen then r.wOff else w, vOff := if frozen then r.vOff else v }
      let s2 := if ready then s1 else s1.setBit Obj.BLK_STATUS 2 false
      (((s2.put Obj.BLK_SYNC_ANG_ERR (roundAway (turn * 3600))).put Obj.BLK_SYNC_FREQ_ERR
        (saturate 16 (roundAway (fromQ 40 f * 10000)))).put Obj.BLK_SYNC_V_ERR (saturate 16 (roundAway (dv * 1000)))).syncShow
  else
    match s.frt.release with
    | none => s
    | some (w0, v0) =>
      if s.frt.core.ride then s else
      let n := s.getN Obj.BLK_SYNC_RELEASE * 1000000
      let step := fun (v : Int) => if n = 0 then absInt v else absInt (roundAway ((v : Rat) * s.period / n))
      let w := approach s.frt.wOff 0 (max 1 (step w0))
      let v := approach s.frt.vOff 0 (max 1 (step v0))
      let s1 := (s.withFrt fun r => { r with wOff := w, vOff := v }).syncShow
      if w = 0 && v = 0 then (s1.withFrt fun r => { r with release := none }).setBit Obj.BLK_STATUS 1 false else s1

/-- The ready conditions have held for BLK_SYNC_DWELL (R97). -/
def State.syncDwell (s : State) : State :=
  if s.syncOn && !s.bit Obj.BLK_STATUS 2 && s.getN Obj.BLK_SYNC_DWELL * 1000000 ≤ s.frt.readyFor then
    ((s.withFrt fun r => { r with readySeen := true }).setBit Obj.BLK_STATUS 2 true).raise 219
  else s

/-- The breaker counts as closed (R97). -/
def State.syncClosed (s : State) : State :=
  if s.syncOn && s.frt.readySeen && 20000000 ≤ s.frt.closeFor then
    ((s.setBit Obj.BLK_STATUS 3 true).raise 220).syncRelease
  else s

/-- Ready has not been reached in time (R97). -/
def State.syncTimeout (s : State) : State :=
  if s.syncOn && !s.frt.readySeen && s.getN Obj.BLK_SYNC_TIMEOUT * 1000000000 ≤ s.frt.syncFor then
    ((s.setBit Obj.BLK_STATUS 4 true).raise 221).syncRelease
  else s

/-! ## Black start (R92 to R95) -/

/-- A cause of R93: trips an owner, source 222. -/
def State.blkTrip (s : State) (cause : Nat) : State :=
  if s.owner && !s.causeActive cause then (s.eventCause cause).raise 222 else s

/-- The first DEAD_CHECK cycle with a live bus, and the time in DEAD_CHECK and HOLD (R92, R93). -/
def State.blkObserve (s : State) : State :=
  if s.blkPhase = blkDead then
    let s1 := s.withFrt fun r => { r with deadFor := r.deadFor + s.period }
    if milli (s.get Obj.BLK_DEAD_V) ≤ s.vMag then s1.blkTrip causeLiveBus else s1
  else if s.blkPhase = blkHold then s.withFrt fun r => { r with holdFor := r.holdFor + s.period }
  else s

/-- The end of DEAD_CHECK (R92, R93): an owner decides, a standby follows its partner's phase. -/
def State.blkDeadEnd (s : State) : State :=
  if s.devState = stRun && s.blkPhase = blkDead && s.devRole ≠ roleStandby && !s.causeActive causeLiveBus &&
      s.getN Obj.BLK_DEAD_TIME * 1000000 ≤ s.frt.deadFor then
    if fromQ 30 s.swg.uDc < milli (s.get Obj.BLK_UDC_MIN) then s.blkTrip causeNoDc
    else (s.blkEnter blkRamp).withRide fun r => { r with emf := 0 }
  else s

/-- The end of HOLD (R92, R95). -/
def State.blkHoldEnd (s : State) : State :=
  if s.devState = stRun && s.blkPhase = blkHold && s.devRole ≠ roleStandby &&
      s.getN Obj.BLK_HOLD_TIME * 1000000 ≤ s.frt.holdFor then
    (s.blkEnter blkHand).withSwg fun g => { g with handStart := true }
  else s

/-- The accumulated pause exceeds BLK_PAUSE_MAX (R93). -/
def State.blkStall (s : State) : State :=
  if s.devState = stRun && s.blkPhase = blkRamp && s.getN Obj.BLK_PAUSE_MAX * 1000000 < s.frt.pauseFor then
    s.blkTrip causeRampStall
  else s

/-- The ramp after a cycle: E advances, or the pause counts (R94). -/
def State.blkRampStep (s : State) (sat : Bool) : State :=
  if s.blkPhase ≠ blkRamp then s.setBit Obj.BLK_STATUS 0 false
  else if sat || s.frt.core.ride then
    let was := s.bit Obj.BLK_STATUS 0
    let s1 := (s.withFrt fun r => { r with pauseFor := r.pauseFor + s.period }).setBit Obj.BLK_STATUS 0 true
    let s2 := s1.put Obj.BLK_PAUSE_TIME (saturateU 32 (s1.frt.pauseFor / 1000 : Nat))
    if was then s2 else s2.raise 218
  else
    let vSet := s.swg.refs.getD 2 0
    let e := s.frt.core.emf + q28 ((s.get Obj.BLK_E_RAMP : Rat) / 100 * s.cycleSeconds)
    let s1 := (s.withRide fun r => { r with emf := min vSet e }).setBit Obj.BLK_STATUS 0 false
    if vSet ≤ e then (s1.withFrt fun r => { r with holdFor := 0 }).blkEnter blkHold else s1

/-! ## The run at T_up -/

/-- The references in force: the staged set with the synchronisation offsets, held within Table 3.2 (R58, R96). -/
def State.refsInForce (s : State) : State :=
  let l := s.swg.staged
  let add := fun (row : Nat) (d : Int) => clampInt (refRange row).1 (refRange row).2 (l.getD row 0 + d)
  let refs := [l.getD 0 0, l.getD 1 0, add 2 s.frt.vOff, add 3 s.frt.wOff] ++ l.drop 4
  let s1 := s.withSwg fun g => { g with refs := refs }
  (((s1.put Obj.SWG_P_SET_NOW (refs.getD 0 0)).put Obj.SWG_Q_SET_NOW (refs.getD 1 0)).put Obj.SWG_V_SET_NOW (refs.getD 2 0)).put
    Obj.SWG_W_SET_NOW (refs.getD 3 0)

/-- What the swing equation starts from in its first cycle of RUN in NORMAL (R75) and in its first cycle of HANDOVER (R95). -/
def State.equationStart (s : State) : State :=
  let wSet := 2 ^ 32 * s.swg.refs.getD 3 (2 ^ 30)
  let s1 := if s.swg.handStart then s.withSwg fun g => { g with
      core := { g.core with omega := wSet, omegaF := wSet }, next := { g.next with omega := wSet, omegaF := wSet } } else s
  if s1.swg.handStart || (s1.swg.first && s1.blkPhase = blkNone) then
    s1.withSwg fun g => { g with next := { g.next with qf := s1.qfFor s1.frt.core.emf g.next.qf } }
  else s1

/-- The hand-over offset of the cycle, for a droop power p_m in Q4.28 (R95). -/
def State.handOffset (s : State) (pm : Int) : State :=
  if s.swg.handStart then
    let p := saturate 32 (s.swg.p - pm)
    (s.withRide fun r => { r with pHand := p }).put Obj.BLK_HAND_OFFSET p
  else if s.blkPhase = blkHand && !s.frt.core.ride then
    let p := approach s.frt.core.pHand 0 (q28 ((s.get Obj.BLK_HAND_RATE : Rat) / 100 * s.cycleSeconds))
    (s.withRide fun r => { r with pHand := p }).put Obj.BLK_HAND_OFFSET p
  else s

/-- The swing equation of one cycle (R61, R62, R85): answers the state and p_m with its offset, before the limit of RIDE. -/
def State.equation (s : State) : State × Int :=
  let s0 := s.equationStart
  let w := s0.swg.core.omega
  let pm0 := s0.droopPower (fromQ 62 w)
  let s1 := s0.handOffset pm0
  let pm := saturate 32 (pm0 + s1.frt.core.pHand)
  let pr := if s1.frt.core.ride then clampInt (-s1.frt.core.pAv) s1.frt.core.pAv pm else pm
  let frozen := s1.limiting
  let held := s1.swg.hEff = 0
  let wf := if frozen || held then s1.swg.core.omegaF
    else q62 (fromQ 62 s1.swg.core.omegaF + s1.alpha (s1.getN Obj.SWG_TAU_D) * fromQ 62 (w - s1.swg.core.omegaF))
  let damp := (s1.get Obj.SWG_D : Rat) / 100 * fromQ 62 (w - wf)
  let raw := if held then w else
    q62 (fromQ 62 w + s1.cycleSeconds * 500000 / (s1.swg.hEff : Rat) * (fromQ 28 pr - fromQ 28 s1.swg.p - damp))
  let lim := s1.wLimits
  let band := q62 ((s1.get Obj.FRT_W_BAND : Rat) / 10000)
  let lo := s1.frt.core.omegaHold - band
  let hi := s1.frt.core.omegaHold + band
  let wLim := decide (raw < lim.1) || decide (lim.2 < raw)
  let atBand := frozen && (decide (raw < lo) || decide (hi < raw))
  let w1 := if frozen then clampInt lo hi raw else raw
  let wNext := clampInt lim.1 lim.2 w1
  let qf := if frozen || s1.swg.first || s1.swg.handStart then s1.swg.next.qf
    else q60 (fromQ 60 s1.swg.core.qf + s1.alpha (s1.getN Obj.SWG_TAU_Q) * (fromQ 28 s1.swg.q - fromQ 60 s1.swg.core.qf))
  let e0 := s1.emfOf qf
  let el := s1.emfLimits
  let eLim := decide (e0 < el.1) || decide (el.2 < e0)
  let st := s1.getN Obj.SWG_STATUS
  let s2 := s1.withSwg fun g => { g with
    next := { g.next with theta := s1.thetaNext w, omega := wNext, omegaF := wf, qf := qf }, first := false, handStart := false }
  let s3 := (s2.withRide fun r => { r with emf := clampInt el.1 el.2 e0 }).put Obj.SWG_STATUS
    (withBit (withBit st 6 wLim) 7 eLim : Nat)
  let s4 := if wLim then (if bitOf st 6 then s3 else s3.raise 195).bump Obj.SWG_W_LIMIT_CYCLES else s3
  let s5 := if eLim then (if bitOf st 7 then s4 else s4.raise 196).bump Obj.SWG_E_LIMIT_CYCLES else s4
  let s6 := if atBand then (if bitOf s.frt.status 6 then s5 else s5.raise 214).bump Obj.FRT_W_BAND_CYCLES else s5
  let s7 := s6.frtBit 6 atBand
  (if s7.blkPhase = blkHand && s7.frt.core.pHand = 0 then s7.blkEnter blkDroop else s7, pm)

/-- The frequency hold of DEAD_CHECK, RAMP and HOLD: omega is omega_set exactly and theta integrates it (R92, R94). Answers the
state and the droop power. -/
def State.frequencyHold (s : State) : State × Int :=
  let wSet := 2 ^ 32 * s.swg.refs.getD 3 (2 ^ 30)
  let s1 := (s.withSwg fun g => { g with
    next := { g.next with theta := s.thetaNext wSet, omega := wSet, omegaF := wSet }, first := false, handStart := false }).put
      Obj.SWG_STATUS (withBit (withBit (s.getN Obj.SWG_STATUS) 6 false) 7 false : Nat)
  let e := if s.blkPhase = blkHold then s.swg.refs.getD 2 0 else if s.blkPhase = blkDead then 0 else s.frt.core.emf
  ((s1.withRide fun r => { r with emf := e }).frtBit 6 false, s.droopPower (fromQ 62 wSet))

/-- A cycle of a BRANCH: the root's state, or its own propagation of it, goes on by one cycle (R263). -/
def State.follow (s : State) : State × Int :=
  let w := s.swg.core.omega
  (s.withSwg fun g => { g with
    next := { g.next with theta := s.thetaNext w, omega := w, omegaF := g.core.omegaF }, first := false, handStart := false },
   s.droopPower (fromQ 62 w))

/-- One cycle of RUN. -/
def State.swgRun (s : State) : State :=
  let s1 := s.blkObserve.rideDetect.ridePower
  let r := if s1.treeRole = 2 then s1.follow else if s1.blkHolds then s1.frequencyHold else s1.equation
  let v := r.1.virtualVoltage
  let ph := s1.blkPhase
  let l : Limited := if ph = blkDead then { v := v, sat := false, neg := false } else r.1.limiter v
  let s2 := r.1.rideAfter l.sat l.neg r.2
  let s3 := s2.blkRampStep l.sat
  let s4 := if ph = blkRamp || ph = blkHold then
    s3.put Obj.BLK_E_NOW (saturateU 16 (roundAway (fromQ 28 s3.frt.core.emf * 1000))) else s3
  s4.withSwg fun g => { g with armRef := r.1.armRefs l.v }

/-- T_up for the swing unit: on the snapshot and the sums latched (R67). -/
def State.swgUp (s : State) : State :=
  if s.devState < 3 || 6 < s.devState then s else
  let s1 := s.swgMeasure.swgBudget.frtHistory.frtSequences
  let s2 := (if s1.devState = stRun then s1.syncRun else s1).refsInForce
  let run := s2.devState = stRun
  let s3 := if run then s2.swgRun else
    let t := if s2.treeRole = 2 then s2.follow.1 else s2.swgTrack
    t.rideIdle.withSwg fun g => { g with armRef := t.armRefs t.virtualVoltage }
  let st := s3.getN Obj.SWG_STATUS
  let st1 := withBit (withBit (withBit st 0 !run) 1 (!run && s3.swg.locked)) 2 (run && !s3.blkHolds)
  let st2 := withBit st1 10 s3.swg.fromPartner
  let st3 := if run then st2 else withBit (withBit st2 6 false) 7 false
  s3.put Obj.SWG_STATUS st3

/-- T_fin: FRT_STATUS and RIDE are published with the swing state (R84). -/
def State.frtPublish (s : State) : State :=
  (s.put Obj.FRT_STATUS (s.frt.status % 512 : Nat)).setBit Obj.DEV_RUN_FLAGS 1 s.frt.core.ride

/-- The boundary: the computed state comes into force, or the partner's (R74, R88). -/
def State.swgBoundary (s : State) (partner : Option (SwingStream × RideStream)) : State :=
  match partner with
  | some (g, r) =>
    let s1 := s.withSwg fun x => { x with core := g, next := g, fromPartner := true, first := false }
    let s2 := s1.blkEnter r.phase
    s2.withRide fun _ => r
  | none => s.withSwg fun x => { x with core := x.next, fromPartner := false }

end Sys2Proof.Machine
end

