-- ==== Sys2Proof/Machine/Red.lean ====
section
/-!
DEFINITION. The redundancy supervisor and the cross-link (chapter 12): Tide, claims, the streamed state, change records, the
mirror compare, resynchronisation and the swap drill.
-/

namespace Sys2Proof.Machine

/-- Changes the redundancy supervisor. -/
def State.withRed (s : State) (f : Red → Red) : State := { s with red := f s.red }

/-- This unit is unit B. -/
def State.sideB (s : State) : Bool := s.get Obj.DEV_UNIT = 1

/-- The side of this unit as OBEYS names it. -/
def State.side (s : State) : Nat := if s.sideB then 2 else 1

/-- Configured with a partner and not declared without one (R315). -/
def State.partnered (s : State) : Bool := s.hasPartner && s.get Obj.RED_PARTNER_ABSENT = 0

/-- The partner's latest Tide. -/
def State.tide (s : State) : Option Tide := s.red.head.map (·.tide)

/-- The partner is found, and is lost, as RED_STATUS shows it. -/
def State.partnerSeen (s : State) : Bool := s.bit Obj.RED_STATUS 0
/-- The partner has been declared lost (R301). -/
def State.partnerLost (s : State) : Bool := s.bit Obj.RED_STATUS 3

/-- The role the partner showed last. -/
def State.partnerRole (s : State) : Option Nat := s.tide.map (·.role)

/-- Does this unit assert Tide (Table 1.7, R22)? -/
def State.assertsTide (s : State) : Bool := 3 ≤ s.devState && s.devState ≤ 6 && s.orbRunning && !s.orb.silent

/-- The trip indication (R22, R23). -/
def State.tripIndication (s : State) : Bool := s.devState = stTrip && s.getN Obj.PRT_TRIP_FIRST ≠ causeOverrun

/-! ## Change records (R309) -/

/-- Records pass to a partner that is STANDBY and not lost. -/
def State.recordsPass (s : State) : Bool :=
  s.hasPartner && !s.partnerLost && (s.partnerRole = some roleStandby || s.bit Obj.RED_STATUS 9)

/-- A change of durable state at the owning unit. DEDUCED (log entry 65): unsafe. -/
def State.change (s : State) (c : Change) (boundary : Nat) : State :=
  if !s.owner || !s.hasPartner then s else
  let gen := s.getN Obj.RED_STATE_GEN + 1
  let s1 := s.put Obj.RED_STATE_GEN gen
  if s1.recordsPass then
    s1.withRed fun r => { r with records := r.records ++ [{ record := { gen := gen, boundary := boundary, change := c }, sent := [] }] }
  else s1

/-- Records that a cycle's BODY sends: unsent ones, and once more those without acknowledgement after two cycles; at most 42. -/
def dueRecords (now : Nat) (l : List SentRecord) : List SentRecord :=
  (l.filter fun r => match r.sent with
    | [] => true
    | [c] => 2 ≤ (now + 2 ^ 32 - c % 2 ^ 32) % 2 ^ 32
    | _ => false).take 42

/-- A record is lasting: unacknowledged two cycles after its second sending. -/
def lostRecord (now : Nat) (r : SentRecord) : Bool :=
  match r.sent with
  | c :: _ :: _ => 2 ≤ (now + 2 ^ 32 - c % 2 ^ 32) % 2 ^ 32
  | _ => false

/-- The change records of the BODY of this cycle. -/
def State.sendRecords (s : State) : State :=
  let lost := s.red.records.filter (lostRecord s.orbCount)
  let s1 := if lost.isEmpty then s else
    (s.withRed fun r => { r with recordLost := true, records := r.records.filter fun x => !lostRecord s.orbCount x }).siteOutcome 0x0D
      (Config.unlistedCode 9) noSubject [] true
  let due := (dueRecords s.orbCount s1.red.records).map fun r => r.record.gen
  let s2 := s1.withRed fun r => { r with records := r.records.map fun x =>
    if x.record.gen ∈ due then { x with sent := s.orbCount :: x.sent } else x }
  if due.isEmpty then s2 else s2.emit (.record 0x23 (due.map Int.ofNat))

/-- The partner acknowledges up to a generation (R309). -/
def State.acknowledged (s : State) (gen : Nat) : State :=
  let done := s.red.records.filter fun r => r.record.gen ≤ gen
  let again := (done.filter fun r => 2 ≤ r.sent.length).length
  let s1 := s.withRed fun r => { r with records := r.records.filter fun x => gen < x.record.gen }
  (List.range again).foldl (fun s _ => ((s.bump Obj.RED_RECORD_RESEND).raise 139).retryTransient 0x0D) s1

/-- Applies one change; `commit` gives a dictionary entry its value with all that follows from it. -/
def State.applyChange (s : State) (commit : State → Nat → Int → State) (c : Change) : State :=
  match c with
  | .cls n cls => s.withSm n fun m => { m with cls := cls }
  | .plan p gen none => (s.withAge fun g => { g with plan := some p, accepted := none }).put Obj.AGE_PLAN_GEN gen
  | .plan p gen (some b) => (s.withAge fun g => { g with
      accepted := some { plan := p, gen := gen, allowed := true, sender := none, boundary := some b } }).put Obj.AGE_PLAN_PENDING 1
  | .descriptor n d v => s.gpfSetDesc n d v
  | .entry key _ v => commit s key v
  | .epoch e => s.put Obj.RED_EPOCH e
  | .step d => s.applyStep d s.orbCount

/-- Received records whose boundary has come take effect, unless the unit owns the valve (R309). -/
def State.recordsApply (s : State) (commit : State → Nat → Int → State) : State :=
  let due := s.red.toApply.filter fun r => !orbLater r.boundary s.orbCount
  let s1 := s.withRed fun r => { r with toApply := r.toApply.filter fun x => orbLater x.boundary s.orbCount }
  if s.owner then s1 else due.foldl (fun s r => s.applyChange commit r.change) s1

/-! ## Resynchronisation (R313, R314) -/

/-- A resynchronisation is in progress on this unit. -/
def State.resyncOn (s : State) : Bool := s.red.attempt ≠ 0

/-- A phase begins: source 142. -/
def State.resyncPhase (s : State) (p : Nat) : State :=
  (((s.withRed fun r => { r with phaseAt := s.now }).put Obj.RED_RESYNC_PHASE p).raise 142).journal 142 noSubject [p]

/-- States in which a resynchronisation may start. -/
def State.resyncState (s : State) : Bool := s.devState = stLinkup || s.devState = stBlocked || s.devState = stRun

/-- A resynchronisation starts; the unit asserts Tide again (R50). -/
def State.resyncStart (s : State) : State :=
  let s1 := s.withRed fun r => { r with
    attempt := 1, startAt := s.now, image := none, blockBad := false, wanted := false, retryAt := none, toApply := [] }
  ((({ s1 with orb := { s1.orb with silent := false } }).setBit Obj.RED_STATUS 9 true).put Obj.RED_RESYNC_PROGRESS 0).resyncPhase 1

/-- A write of 1 to RED_RESYNC_REQ is accepted. -/
def State.resyncAllowed (s : State) : Bool := s.resyncState && s.devRole = roleStale && !s.resyncOn

/-- An automatic start that is due (R313). -/
def State.resyncAuto (s : State) : State :=
  let due := s.red.wanted || (match s.red.retryAt with
    | some t => decide (t ≤ s.now)
    | none => false)
  if due && s.resyncAllowed && s.bit Obj.RED_CTRL 1 && s.hasPartner then s.resyncStart else s

/-- An attempt fails: the second follows at once, its failure is lasting (R314). -/
def State.resyncFail (s : State) : State :=
  if !s.resyncOn then s
  else if s.red.attempt = 1 then
    ((s.withRed fun r => { r with attempt := 2, image := none, blockBad := false, toApply := [] }).put
      Obj.RED_RESYNC_PROGRESS 0).resyncPhase 1
  else
    let s1 := (s.withRed fun r => { r with
      attempt := 0, image := none, toApply := [], retryAt := some (s.now + 60000000000) }).resyncPhase 7
    (((s1.setBit Obj.RED_STATUS 9 false).bump Obj.RED_RESYNC_FAIL).raise 144).siteOutcome 0x0F 144 noSubject [] true

/-- Between two STALE units this one is the source (R313). -/
def State.resyncSource (s : State) (t : Tide) : Bool :=
  t.role = roleStale && (t.stateGen < s.getN Obj.RED_STATE_GEN || (t.stateGen = s.getN Obj.RED_STATE_GEN && !s.sideB))

/-- The image comes into force with the buffered records (CATCH_UP). -/
def State.resyncInstall (s : State) (commit : State → Nat → Int → State) (img : DurableImage) : State :=
  let s1 := img.entries.foldl (fun s (e : Nat × Int) => commit s e.1 e.2) s
  let s2 := img.classes.foldl (fun s (e : Nat × Nat) => s.withSm e.1 fun m => { m with cls := e.2 }) s1
  let s3 := s2.withGpf fun g => { g with tuned := img.descriptors }
  let s4 := img.ageing.records.foldl (fun s (e : Nat × SmAge) => s.withSm e.1 fun m => { m with age := e.2 }) s3
  let s5 := match img.ageing.plan with
    | some (p, gen) => (s4.withAge fun g => { g with plan := some p }).put Obj.AGE_PLAN_GEN gen
    | none => s4
  let last : Nat := (s5.red.toApply.map (·.gen)).foldl Nat.max img.gen
  let s6 := (s5.put Obj.RED_STATE_GEN last).put Obj.RED_EPOCH img.epoch
  (s6.withRed fun r => { r with applied := last }).recordsApply commit

/-- STALE is cleared (Table 12.4, DONE). -/
def State.resyncDone (s : State) (t : Tide) : State :=
  let role := if t.role ≤ 1 then roleStandby
    else if t.role = roleStale && !s.resyncSource t then roleStandby else roleActive
  let second := decide (s.red.attempt = 2)
  let s1 := s.withRed fun r => { r with attempt := 0, image := none, claimed := none, ownedBefore := role = roleActive, eclipse := none }
  let s2 := (((s1.resyncPhase 6).raise 143).bump Obj.RED_RESYNC_COUNT).put Obj.RED_RESYNC_TIME
    (saturateU 32 ((s.now - s.red.startAt) / 1000 : Nat))
  let s3 := (s2.setBit Obj.RED_STATUS 9 false).setRole role 0
  let s4 := if second then s3.siteOutcome 0x0F 143 noSubject [] false else s3
  if role = roleStandby then s4.setBit Obj.ORB_STATUS 6 false else (s4.setCause causePartnerTrip false)

/-- The phase under way completes (Table 12.4). `equal` is the comparison of VERIFY. DEDUCED (log entry 66): safe. -/
def State.resyncNext (s : State) (commit : State → Nat → Int → State) (equal : Bool) : State :=
  match s.tide with
  | none => s
  | some t =>
    if !s.resyncOn || !s.partnerSeen || s.devRole ≠ roleStale then s else
    match s.getN Obj.RED_RESYNC_PHASE with
    | 1 => if t.role ≤ 1 || (t.role = roleStale && t.resyncRequest) then s.resyncPhase 2 else s
    | 2 => s.resyncPhase 3
    | 3 => if s.red.image.isSome || s.resyncSource t then s.resyncPhase 4 else s
    | 4 =>
      let s1 := match s.red.image with
        | some img => if s.resyncSource t then s else s.resyncInstall commit img
        | none => s
      s1.resyncPhase 5
    | 5 => if equal then s.resyncDone t else s.resyncFail
    | _ => s

/-- The time limit of a phase in ns (Table 12.4). -/
def State.resyncLimit (s : State) : Nat :=
  match s.getN Obj.RED_RESYNC_PHASE with
  | 1 => 100000000
  | 2 => s.period
  | 3 => 2000000000
  | 4 => 100000000
  | _ => 2 * s.period

/-- A phase has timed out. DEDUCED (log entry 66): safe. -/
def State.resyncTimeout (s : State) : State :=
  if s.resyncOn && s.red.phaseAt + s.resyncLimit ≤ s.now then s.resyncFail else s

/-- A BULK frame (R310, R313). -/
def State.bulk (s : State) (b : Bulk) : State :=
  match b with
  | .block ok img =>
    if !s.resyncOn || s.getN Obj.RED_RESYNC_PHASE ≠ 3 then s
    else if ok then
      let s1 := s.put Obj.RED_RESYNC_PROGRESS (min (s.get Obj.RED_RESYNC_PROGRESS + 8) 0xFFFF)
      s1.withRed fun r => { r with blockBad := false, image := match img with
        | some i => some i
        | none => r.image }
    else if s.red.blockBad then s.resyncFail
    else s.withRed fun r => { r with blockBad := true }
  | .plan p gen =>
    if s.devRole ≠ roleStandby then s else
    (s.withAge fun g => { g with
      accepted := some { plan := p, gen := gen, allowed := true, sender := none, boundary := none } }).emit (.record 0x24 [gen])
  | .planAck gen => s.withRed fun r => { r with planAcked := some gen }
  | .identities p ids =>
    if s.devState ≠ stLinkup then s else (s.withPair p fun q => { q with partnerIds := some ids }).identityCheck p

/-! ## Claims (R302 to R306) -/

/-- The partner is lost (R301, R303). DEDUCED (log entry 64): unsafe. -/
def State.declareLost (s : State) : State :=
  let st := withBit (withBit (s.getN Obj.RED_STATUS) 0 false) 3 true
  let s1 := ((s.put Obj.RED_STATUS st).raise 131).resyncFail
  let inService := s1.devState = stBlocked || s1.devState = stRun
  if !inService || s1.red.trip then s1
  else if s1.devRole = roleStale then
    match s1.partnerRole with
    | some r => if r ≤ 1 then s1.eventCause causePartnerLost else s1
    | none => s1
  else if s1.devRole = roleStandby || s1.devRole = roleActive then
    (s1.withRed fun r => { r with claimAt := some (s1.orbAfter (if s1.sideB then 2 else 0)), claimSwap := false }).setBit
      Obj.RED_STATUS 4 true
  else s1

/-- The epoch after another, 0 skipped (R302). -/
def nextEpoch (e : Nat) : Nat := if (e + 1) % 65536 = 0 then 1 else (e + 1) % 65536

/-- The claim falls due at this boundary (R303, R304). DEDUCED (log entry 64): unsafe. -/
def State.claim (s : State) : State :=
  let s0 := (s.withRed fun r => { r with claimAt := none, claimSwap := false }).setBit Obj.RED_STATUS 4 false
  let swapGone := s.red.claimSwap && !(s.red.headHit && ((s.tide).map (·.swap)).getD false)
  if swapGone || !(s.devRole = roleStandby || s.devRole = roleActive) ||
      !(s.devState = stBlocked || s.devState = stRun) then s0 else
  let renewal := s.devRole = roleActive
  let epoch := nextEpoch (s.getN Obj.RED_EPOCH)
  let s1 := (s0.put Obj.RED_EPOCH epoch).put Obj.RED_LAST_TAKEOVER_ORB s.orbCount
  let s2 := if renewal then s1 else ((s1.setRole roleActive 0).bump Obj.RED_TAKEOVER_COUNT).count 0x09
  -- Table 12.6: a pending plan whose boundary was never announced is dropped and falls due again.
  let s2 := if !renewal && s2.age.accepted.any (fun d => d.boundary.isNone) then
      (s2.withAge fun g => { g with accepted := none }).replanDue else s2
  let s3 := s2.withRed fun r => { r with
    claimed := some s.orbCount, withdrawTo := none, ownedBefore := renewal, obeyed := false
    eclipse := if renewal then r.eclipse else some 0
    swapCheck := if s.red.claimSwap then some (s.orbAfter 1) else r.swapCheck }
  let s4 := (s3.raise 132).journalFull 132 noSubject (bytesOf epoch 2) (if renewal then 0xFF else 0x09) false false
  ((s4.cmtFire 11 s.time32 0).change (.epoch epoch) s.orbCount).demandFlush

/-- The unit does not own the valve: it withdraws, and takes the other role at the next boundary (R306).
DEDUCED (log entry 111): unsafe. -/
def State.withdraw (s : State) : State :=
  let owned := s.red.ownedBefore || s.red.obeyed
  let s1 := s.withRed fun r => { r with claimed := none, eclipse := none, swapCheck := none }
  let s2 := ((s1.bump Obj.RED_WITHDRAW_COUNT).count 0x0A).raise 135
  if owned then (s2.raise 136).withRed fun r => { r with withdrawTo := some roleStale }
  else s2.withRed fun r => { r with withdrawTo := some roleStandby }

/-- The boundary from which a unit that withdraws no longer acts as the owner (R306). DEDUCED (log entry 111): unsafe. -/
def State.withdrawn (s : State) : State :=
  match s.red.withdrawTo with
  | none => s
  | some role =>
    let s1 := s.withRed fun r => { r with withdrawTo := none }
    if s.devRole = roleActive then s1.setRole role 0 else s1

/-! ## Swap drill (R317, R318) -/

/-- RED_SWAP_REQ is accepted. -/
def State.swapAllowed (s : State) : Bool :=
  s.devRole = roleActive && (s.devState = stBlocked || s.devState = stRun) && !s.frt.core.ride &&
    s.partnerRole = some roleStandby && ((s.tide).map (·.hot)).getD false && s.red.headHit &&
    s.orb.stretchAt.isNone && s.orb.returnAt.isNone && s.age.accepted.isNone && s.age.submitted.isNone &&
    s.red.swapAt.isNone && !s.red.swapDue && s.red.swapCheck.isNone

/-- T_up of the cycle after the handover's claim: the list, and how the swap ends. -/
def State.swapEnd (s : State) : State :=
  let bad := (s.age.sms.filter fun m => match m.got, m.status with
    | true, some st => bitOf st 7 || field st 3 2 = 3 - s.side
    | _, _ => false).map (·.n)
  let revert := !bad.isEmpty && s.bit Obj.RED_CTRL 2
  let s1 := s.withRed fun r => { r with
    swapCheck := none, swapBad := bad, swapAt := if revert then some (s.orbAfter 2) else r.swapAt }
  let gen := if s.hasData Obj.RED_SWAP_GEN then s.get Obj.RED_SWAP_GEN else 0
  let s2 := ((s1.put Obj.RED_SWAP_RESULT (if bad.isEmpty then 1 else if revert then 2 else 3)).put Obj.RED_SWAP_GEN
    ((gen + 1) % 4294967296)).put Obj.RED_SWAP_BAD_COUNT bad.length
  let s3 := if bad.isEmpty then s2.raise 145 else if revert then s2.raise 146 else s2
  (s3.setBit Obj.RED_STATUS 10 revert).count 0x0B

/-- The handover boundary of the requester: it takes STANDBY without losing ownership. -/
def State.swapGive (s : State) : State :=
  let s1 := (s.withRed fun r => { r with swapAt := none, claimed := none, eclipse := none }).setBit Obj.RED_STATUS 10 false
  if s.devRole = roleActive then
    (s1.withRed fun r => { r with gaveAt := some s.orbCount }).setRole roleStandby 0
  else s1

/-! ## Scoring (R301, R308) -/

/-- One path is scored: hits and misses in a row, lost and restored. -/
def State.scorePath (s : State) (i : Nat) (hit : Bool) : State :=
  let ok := s.bit Obj.RED_STATUS (1 + i)
  let hits := if hit then s.red.hits.getD i 0 + 1 else 0
  let misses := if hit then 0 else min 255 (s.getN (Obj.RED_PATH_MISS i) + 1)
  let was := s.red.hit.getD i false
  let s1 := (s.withRed fun r => { r with hits := r.hits.set i (min hits 16), hit := r.hit.set i hit }).put (Obj.RED_PATH_MISS i) misses
  let s2 := if !hit && was then s1.raise 128 else s1
  if hit && !ok && 16 ≤ hits then (s2.setBit Obj.RED_STATUS (1 + i) true).raise 130
  else if !hit && ok && 3 ≤ misses then
    ((s2.setBit Obj.RED_STATUS (1 + i) false).raise 129).bump (Obj.RED_PATH_LOST_COUNT i)
  else s2

/-- A HEAD that a STANDBY unit misses (R308). -/
def State.headMissed (s : State) (pin : Bool) : State :=
  let s1 := ((s.bump Obj.RED_STREAM_MISS_TRANSIENT).raise 137)
  let run := if pin then s1.red.headMiss + 1 else 0
  if 2 ≤ run then
    let s2 := ((s1.withRed fun r => { r with headMiss := 0 }).bump Obj.RED_STREAM_MISS_LASTING).raise 138
    (s2.siteOutcome 0x0C 138 noSubject [] true).setRole roleStale 0
  else s1.withRed fun r => { r with headMiss := run }

/-- Both paths are scored for the cycle whose boundary lay at device time `prev` with ORB_COUNT `cycle` (R301). -/
def State.redScore (s : State) (prev cycle : Nat) : State :=
  let xl := s.red.headNew && (match s.red.head with
    | some h => h.cycle = cycle
    | none => false)
  let near := s.red.pulses.filter fun p => prev ≤ p.1 + 500 && p.1 ≤ prev + 500 &&
    ((500 ≤ p.2 && p.2 ≤ 1500) || (2500 ≤ p.2 && p.2 ≤ 3500))
  let pin := !near.isEmpty
  let long := near.any fun p => 2500 ≤ p.2
  let seen := s.partnerSeen
  let s1 := s.withRed fun r => { r with
    headNew := false, headHit := xl, pulses := r.pulses.filter fun p => prev + 500 < p.1 }
  let s2 := ((s1.scorePath 0 xl).scorePath 1 pin).setBit Obj.RED_STATUS 7 xl
  let trip := (xl && ((s.tide).map (·.trip)).getD false) || long
  let s3 := if xl || pin then
      let s2 := if trip && !s.red.trip then s2.raise 147 else s2
      (s2.withRed fun r => { r with trip := trip }).setBit Obj.RED_STATUS 11 trip
    else s2
  let s4 := s3.setCause causePartnerTrip (s3.red.trip && (s3.devRole = roleStandby || s3.devRole = roleStale))
  let s5 := if s4.devRole = roleStandby && !s4.partnerLost then
      if xl then
        let t := if s4.red.headMiss ≠ 0 then s4.retryTransient 0x0C else s4
        t.withRed fun r => { r with headMiss := 0 }
      else s4.headMissed pin
    else s4
  let found := s5.bit Obj.RED_STATUS 1 || s5.bit Obj.RED_STATUS 2
  if found && !seen then
    let s6 := s5.put Obj.RED_STATUS (withBit (withBit (s5.getN Obj.RED_STATUS) 0 true) 3 false : Nat)
    match s6.tide, s6.red.claimAt, s6.red.claimSwap with
    | some t, some _, false => if t.role = roleActive && !s6.red.trip then
        (s6.withRed fun r => { r with claimAt := none }).setBit Obj.RED_STATUS 4 false else s6
    | _, _, _ => s6
  else if !found && seen then s5.declareLost
  else s5

/-! ## The boundary -/

/-- The states that the partner streams for the cycle that begins (R74, R88, R308). -/
def State.partnerStates (s : State) : Option (SwingStream × RideStream) :=
  match s.red.head with
  | some h => if s.devRole = roleStandby && s.devState = stRun && s.red.headHit && !s.partnerLost && h.tide.state = stRun
    then some (h.swing, h.ride) else none
  | none => none

/-- The mirror area of the boundary (R387). -/
def State.mirrorBoundary (s : State) : State :=
  match s.red.head with
  | some h =>
    if s.devRole = roleStandby && s.red.headHit then
      { s with eng := { s.eng with mirrorIn := h.firmware.take 256, mirrorCycle := h.cycle, mirrorValid := true } }
    else { s with eng := { s.eng with mirrorValid := false } }
  | none => { s with eng := { s.eng with mirrorValid := false } }

/-- HOT and MIRROR_CLEAN (R312). -/
def State.hotShow (s : State) : State :=
  let clean := s.devRole = roleStandby && 1000 ≤ s.red.compared - s.red.cleanFrom
  let equal := s.get Obj.RED_STATE_GEN = s.get Obj.RED_PARTNER_GEN
  s.put Obj.RED_STATUS
    (withBit (withBit (s.getN Obj.RED_STATUS) 8 clean) 12 (clean && equal && s.red.headHit) : Nat)

/-- The boundary for the redundancy supervisor; ORB_COUNT has advanced. `prev` is the device time of the boundary before, or none
at the first one. -/
def State.redBoundary (s : State) (commit : State → Nat → Int → State) (prev : Option Nat) : State :=
  if !s.hasPartner then s else
  let s0 := s.withdrawn
  let s1 := match prev with
    | some t => s0.redScore t ((s.orbCount + 2 ^ 32 - 1) % 2 ^ 32)
    | none => s0
  let s2 := s1.recordsApply commit
  let s3 := match s2.red.claimAt with
    | some c => if orbLater c s2.orbCount then s2 else s2.claim
    | none => s2
  let s4 := match s3.red.swapAt with
    | some c => if orbLater c s3.orbCount then s3 else s3.swapGive
    | none => s3
  let up := ofFlags [s4.lanUp 48, s4.lanUp 49]
  let s5 := ((s4.withRed fun r => { r with bodyLanes := up }).mirrorBoundary).hotShow
  -- R305: from the loss on, a STANDBY takes what the nodes still hold.
  if s5.partnerLost && s5.devRole = roleStandby then
    s5.withAge fun g => { g with sms := g.sms.map fun m => { m with codeNext := m.obeyed } }
  else s5

/-- TIDE_OUT at a boundary: the width of the pulse in ns (R301). -/
def State.tideOut (s : State) : State :=
  if s.assertsTide then s.emit (.record 0x30 [if s.tripIndication then 3000 else 1000]) else s

/-! ## T_up (R306, R307) -/

/-- What the halves of the cycle say of ownership. -/
def State.redUp (s : State) : State :=
  let sts := s.age.sms.filterMap fun m => if m.got then m.status else none
  let conflict := sts.any fun st => bitOf st 5
  let other := sts.any fun st => bitOf st 6
  let s0 := s.put Obj.RED_STATUS (withBit (withBit (s.getN Obj.RED_STATUS) 5 conflict) 6 other : Nat)
  let settled := match s.red.claimed with
    | some c => orbLater s.orbCount c
    | none => true
  let s1 : State := if s.devRole = roleActive && settled then
      if other || (conflict && s.sideB) then s0.withdraw
      else if conflict then (s0.bump Obj.RED_CONFLICT_COUNT).raise 134
      else if sts.any (fun st => field st 3 2 = s.side) then s0.withRed fun r => { r with obeyed := true }
      else s0
    else s0
  let worst : Nat := (s1.age.sms.map (·.holding)).foldl Nat.max 0
  let s2 : State := match s1.red.eclipse with
    | some e =>
      if s1.devRole = roleActive && settled then
        let e1 := max e worst
        let t := (s1.withRed fun r => { r with eclipse := some e1 }).put Obj.RED_LAST_ECLIPSE (min e1 255)
        if !sts.isEmpty && sts.all (fun st => field st 3 2 = s.side) then
          (t.withRed fun r => { r with eclipse := none }).raise 133 else t
      else s1
    | none => s1
  if s2.red.swapCheck = some s.orbCount then s2.swapEnd else s2

/-! ## T_fin: what is sent (R298, R300, R312) -/

/-- The Tide record this unit sends. -/
def State.ownTide (s : State) : Tide :=
  { state := s.devState, role := s.devRole, runFlags := s.getN Obj.DEV_RUN_FLAGS, epoch := s.getN Obj.RED_EPOCH
    trip := s.tripIndication, partnerLost := s.partnerLost, claiming := s.bit Obj.RED_STATUS 4
    stretch := s.orb.stretchAt = some (s.orbAfter 2) || s.orb.cancelNow, ret := s.orb.returnAt = some (s.orbAfter 2)
    swap := s.red.swapAt.isSome, resyncRequest := s.resyncOn && s.devRole = roleStale, sideB := s.sideB
    recordLost := s.red.recordLost, hot := s.bit Obj.RED_STATUS 12, stateGen := s.getN Obj.RED_STATE_GEN
    genAck := s.red.applied
    planApply := ((s.age.accepted).bind (·.boundary)).getD 0xFFFFFFFF, swapAt := s.red.swapAt.getD 0xFFFFFFFF }

/-- The words of a Tide record, as fields of Table 12.2 in order. -/
def Tide.words (t : Tide) : List Int :=
  [t.state, t.role, t.runFlags, t.epoch,
   (ofFlags [t.trip, t.partnerLost, t.claiming, t.stretch, t.ret, t.swap, t.resyncRequest, t.sideB, t.recordLost, t.hot] : Nat),
   t.stateGen, t.genAck, t.planApply, t.swapAt]

/-- The arm record of this unit's own cycle (R312): digest over bytes 0 to 3 of the downward halves in ascending order. -/
def State.armRecord (s : State) (a : Nat) : ArmRecord :=
  let sms := s.armSms a
  let arm := s.age.arms[a]?
  { digest := crc32c (sms.flatMap fun m => bytesOf m.half 4), n := s.get (Obj.MOD_N_INS a), edge := s.getN (Obj.MOD_EDGE_SM a)
    held := s.getN (Obj.RNK_HELD a), sigma := (arm.map (·.sigma)).getD (-1), carry := (arm.map (·.carry)).getD 0 }

/-- T_fin: HEAD and BODY leave (R298), a swap request is announced (R317). `act` is what the Orbit sequencer announces now. -/
def State.redFin (s : State) : State :=
  if !s.hasPartner || !s.assertsTide || s.orb.overrun.isSome then s else
  let s1 := if s.red.swapDue then
      (s.withRed fun r => { r with swapDue := false, swapAt := some (s.orbAfter 2) }).setBit Obj.RED_STATUS 10 true else s
  let recs := (List.range 6).map s1.armRecord
  let s2 := s1.withRed fun r => { r with own := ((s.orbCount, recs) :: r.own).take 4 }
  let s3 := { s2 with orb := { s2.orb with headSent := true } }
  let s4 := ((s3.emit (.head s.orbCount s.devRole s.tripIndication)).emit (.record 0x20 (Tide.words s3.ownTide))).emit
    (.record 0x21 (recs.flatMap fun r => [(r.digest : Int), r.n, (r.edge : Int), (r.held : Int)]))
  s4.sendRecords

/-! ## Reception -/

/-- A HEAD arrives with valid checks on a cross-link lane (R297, R299, R308). DESIGN CHOICE (log entry 105): safe. -/
def State.headReceive (s : State) (h : Head) : State :=
  if !s.hasPartner || s.devState < 3 || 6 < s.devState then s else
  let names := (h.launch + 250 * h.length) % 2 ^ 32
  -- R299: a HEAD that arrives after the boundary it names counts as missing.
  if signed 32 (s.time32 + 2 ^ 32 - names) ≥ 0 then s
  else if s.red.headNew && ((s.red.head).map (·.cycle)) = some h.cycle then s else
  let t := h.tide
  let info := t.state % 256 + 256 * (t.role % 256) + 65536 * (t.runFlags % 65536)
  let s1 := if s.red.head.isNone || s.getN Obj.RED_PARTNER_INFO ≠ info then s.raise 148 else s
  let s2 := ((s1.withRed fun r => { r with head := some h, headNew := true }).put Obj.RED_PARTNER_INFO info).put
    Obj.RED_PARTNER_GEN t.stateGen
  let s3 := if t.role ≤ 1 && !s2.owner then s2.put Obj.RED_EPOCH t.epoch else s2
  let s4 := s3.acknowledged t.genAck
  let s5 := if t.role = roleStale then s4.withRed fun r => { r with recordLost := false }
    else if t.recordLost && s4.devRole = roleStandby then s4.setRole roleStale 0 else s4
  let follows := !s5.owner && (t.role ≤ 1 || (t.role = roleStale && s5.devRole = roleStale && !t.sideB && s5.sideB))
  let s6 := if follows then s5.withRed fun r => { r with follow := some (names, (h.cycle + 1) % 2 ^ 32, h.next) } else s5
  let at_ := (h.cycle + 2) % 2 ^ 32
  let s7 := if t.stretch then
      if s6.orb.returnAt.isSome && s6.treeRole = 0 then
        { s6 with orb := { s6.orb with returnAt := none } }.setBit Obj.ORB_STATUS 3 false
      else { s6 with orb := { s6.orb with stretchAt := some at_ } }.setBit Obj.ORB_STATUS 2 true
    else if t.ret then { s6 with orb := { s6.orb with returnAt := some at_ } }.setBit Obj.ORB_STATUS 3 true
    else s6
  let s8 := if t.swap && t.role = roleActive && s7.devRole = roleStandby && s7.red.claimAt.isNone then
      let revert := match s7.red.gaveAt with
        | some g => (s7.orbCount + 2 ^ 32 - g) % 2 ^ 32 < 6
        | none => false
      s7.withRed fun r => { r with claimAt := some t.swapAt, claimSwap := !revert }
    else s7
  let s9 := if t.planApply ≠ 0xFFFFFFFF && s8.devRole = roleStandby then
      s8.withAge fun g => { g with accepted := g.accepted.map fun d =>
        if d.boundary.isNone then { d with boundary := some t.planApply } else d }
    else s8
  if t.resyncRequest && s9.owner then s9.emit (.record 0x25 [s9.orbAfter 1]) else s9

/-- An arm has no unexplained difference in this cycle: one of the cycle before was a transient outcome of site 0x0E (R312, R456).
DEDUCED (log entry 112): unsafe. -/
def State.mirrorPassed (s : State) (cycle a : Nat) : State :=
  let last := fun (u : Option (Nat × List Nat)) => match u with
    | some (c, l) => (c + 1) % 2 ^ 32 = cycle && decide (a ∈ l)
    | none => false
  if last s.red.unexplained || last s.red.before then s.siteOutcome 0x0E 140 a [] false else s

/-- One arm of the partner's BODY is compared (R312). -/
def State.mirrorArm (s : State) (cycle a : Nat) (theirs own : ArmRecord) : State :=
  if theirs.digest = own.digest && theirs.n = own.n && theirs.edge = own.edge then s.mirrorPassed cycle a
  else if theirs.held ≠ 0 || own.held ≠ 0 then
    let s := s.mirrorPassed cycle a
    if s.red.explained = some cycle then s else
      (s.withRed fun r => { r with explained := some cycle }).bump Obj.RED_MIRROR_EXPLAINED
  else
    let same := match s.red.unexplained with
      | some (c, _) => decide (c = cycle)
      | none => false
    let s1 := if same then s else
      let prev := match s.red.unexplained with
        | some (c, l) => if (c + 1) % 2 ^ 32 = cycle then some (c, l) else none
        | none => none
      let t := (s.withRed fun r => { r with unexplained := some (cycle, []), before := prev }).bump Obj.RED_MIRROR_UNEXPLAINED
      if prev.isNone then t.raise 140 else t
    let twice := match s1.red.before with
      | some (_, l) => decide (a ∈ l)
      | none => false
    let s2 := (s1.withRed fun r => { r with
      unexplained := r.unexplained.map fun u => (u.1, u.2 ++ [a]), cleanFrom := r.compared }).bump (Obj.RED_MIRROR_ARM a)
    if twice then
      ((s2.raise 141).siteOutcome 0x0E 141 a (bytesOf cycle 4) true).setRole roleStale 0
    else s2

/-- A record waits for its boundary; a step of the counter waits in the time unit, which applies it there (R309, R332, R336).
DEDUCED (log entry 116): unsafe. -/
def State.recordHold (s : State) (r : ChangeRecord) : State :=
  match r.change with
  | .step d =>
    if orbLater r.boundary s.orbCount then
      (s.withTim fun t => { t with pendingStep := some (d, r.boundary) }).setBit Obj.TIM_STATUS 6 true
    else s.withRed fun x => { x with toApply := x.toApply ++ [r] }
  | _ => s.withRed fun x => { x with toApply := x.toApply ++ [r] }

/-- Change records of a BODY: taken in order (R309); a STALE unit buffers them from the snapshot on (Table 12.4). -/
def State.recordsTake (s : State) (l : List ChangeRecord) : State :=
  if s.devRole = roleStandby then
    l.foldl (fun s r => if r.gen = s.red.applied + 1 then
      ((s.withRed fun d => { d with applied := r.gen }).recordHold r).put Obj.RED_STATE_GEN r.gen else s) s
  else if s.devRole = roleStale && s.resyncOn && 2 ≤ s.getN Obj.RED_RESYNC_PHASE then
    let s1 := s.withRed fun d => { d with toApply := d.toApply ++ l }
    if 4096 < s1.red.toApply.length then s1.resyncFail else s1
  else s

/-- A BODY arrives with valid checks (R128, R309, R312). -/
def State.bodyReceive (s : State) (commit : State → Nat → Int → State) (b : Body) : State :=
  if !s.hasPartner || s.devState < 3 || 6 < s.devState then s else
  let s1 := s.recordsTake b.records
  let s1 := s1.recordsApply commit
  if s1.devRole ≠ roleStandby || s1.partnerLost then s1 else
  let seen := match s1.red.bodyOf with
    | some (c, l) => if c = b.cycle then l else []
    | none => []
  let arms := (seen ++ b.arms.map (·.1)).eraseDups
  let full := (List.range 6).all fun a => decide (a ∈ arms)
  let s2 := s1.withRed fun r => { r with bodyOf := some (b.cycle, arms) }
  let own := (s2.red.own.find? fun e => e.1 == b.cycle).map (·.2)
  let s3 := match own with
    | none => s2
    | some l =>
      let t := if full && seen.length < 6 then s2.withRed fun r => { r with compared := r.compared + 1 } else s2
      b.arms.foldl (fun s (e : Nat × ArmRecord) => match l[e.1]? with
        | some o => if s.devRole = roleStandby then s.mirrorArm b.cycle e.1 e.2 o else s
        | none => s) t
  -- R128: complete by T_ref of the cycle after.
  if s3.devRole = roleStandby && s3.devState = stRun && s3.orb.phase = 0 && (b.cycle + 1) % 2 ^ 32 = s3.orbCount then
    let s4 := b.arms.foldl (fun s (e : Nat × ArmRecord) =>
      s.withArm e.1 fun r => { r with sigma := e.2.sigma, carry := e.2.carry }) s3
    let take := fun (m : Sm) => match b.codes.find? (fun c => c.1 == m.n) with
      | some c => { m with codeNext := c.2 }
      | none => m
    s4.withAge fun g => { g with sms := g.sms.map take }
  else s3

/-- A cross-link lane's latency (R297). DEDUCED (log entry 61): unsafe. -/
def State.xlLatency (s : State) (lane roundTrip turnaround : Nat) : State :=
  if s.devState ≠ stLinkup || 2 ≤ lane || !s.hasPartner then s else
  let l := (roundTrip - turnaround) / 2
  let s1 := s.withRed fun r => { r with latency := r.latency.set lane (some l) }
  let known := s1.red.latency.filterMap id
  let s2 := s1.put Obj.RED_XL_LATENCY (min 0xFFFE (known.foldl Nat.max 0 : Nat))
  if known.length = 2 && known.all fun x => 600 < x then s2.raise 153 else s2

/-- A cross-link lane may carry HEAD and BODY: one within 0.60 us is needed to leave LINKUP. DEDUCED (log entry 61): unsafe. -/
def State.xlOk (s : State) : Bool := !s.partnered || s.red.latency.any (fun l => match l with
  | some x => decide (x ≤ 600)
  | none => false)

/-- A TIDE_IN pulse of `width` ns has ended (R301). -/
def State.tidePulse (s : State) (width : Nat) : State :=
  if s.hasPartner && 3 ≤ s.devState && s.devState ≤ 6 then
    s.withRed fun r => { r with pulses := r.pulses ++ [(s.now - width, width)] }
  else s

/-! ## RED_PARTNER_ABSENT (R315) and LINKUP -/

/-- The device counts as configured without a partner. -/
def State.absentSet (s : State) : State :=
  (((s.put Obj.RED_PARTNER_ABSENT 1).setBit Obj.RED_STATUS 13 true).setRole roleAlone 0).setCause causePartnerTrip false

/-- The device takes ACTIVE and becomes the source of its partner. -/
def State.absentClear (s : State) : State :=
  (((s.put Obj.RED_PARTNER_ABSENT 0).setBit Obj.RED_STATUS 13 false).setRole roleActive 0).withRed fun r =>
    { r with ownedBefore := true, obeyed := true }

/-- A fresh supervisor. -/
def Red.fresh (r : Red) : Red :=
  { r with
    head := none, headNew := false, headHit := false, pulses := [], hits := [0, 0], hit := [false, false], trip := false
    claimAt := none, claimSwap := false, claimed := none, ownedBefore := false, obeyed := false, eclipse := none, withdrawTo := none
    headMiss := 0
    records := [], recordLost := false, toApply := [], own := [], bodyOf := none, compared := 0, cleanFrom := 0
    unexplained := none, before := none, explained := none, swapDue := false, swapAt := none, swapCheck := none, gaveAt := none
    attempt := 0, image := none, blockBad := false, planAcked := none, follow := none, latency := [none, none], bodyLanes := 0 }

/-- Entry to LINKUP: the role of R21, the paths not yet found. -/
def State.redLinkup (s : State) : State :=
  let s1 := (s.withRed Red.fresh).put Obj.RED_STATUS ((s.getN Obj.RED_STATUS &&& 0x2000 : Nat))
  let s2 := ((s1.put (Obj.RED_PATH_MISS 0) 0).put (Obj.RED_PATH_MISS 1) 0).put Obj.RED_XL_LATENCY 0xFFFF
  let s3 := (s2.put Obj.RED_RESYNC_PHASE 0).setCause causePartnerTrip false
  let s4 := s3.setRole (if s3.partnered then roleStale else roleAlone) 0
  if s4.partnered then s4.withRed fun r => { r with wanted := true } else s4

/-- Entry to CONFIG: RED_PARTNER_ABSENT returns to 0 (R315). -/
def State.redIdle (s : State) : State :=
  ((s.withRed Red.fresh).put Obj.RED_PARTNER_ABSENT 0).put Obj.RED_STATUS 0

/-- The changes of durable state that a command made at the owning unit, from the state before to the state after (R309); the
dictionary's own are recorded where they are committed. DEDUCED (log entry 65): unsafe. -/
def State.recordChanges (before s : State) : State :=
  if !s.owner || !s.hasPartner || before.age.sms.length ≠ s.age.sms.length then s else
  let cls := (before.age.sms.zip s.age.sms).filter fun p => p.1.cls ≠ p.2.cls
  let s1 := cls.foldl (fun s p => s.change (.cls p.2.n p.2.cls) s.orbCount) s
  let desc := s.gpf.tuned.filter fun e => !(before.gpf.tuned.any fun o => o == e)
  let s2 := desc.foldl (fun s (e : Nat × Nat) => s.change (.descriptor (e.1 / 16) (e.1 % 16) e.2) s.orbCount) s1
  let s3 := match s.age.accepted with
    | some d => if before.age.accepted.isSome then s2 else s2.change (.plan d.plan d.gen d.boundary) s.orbCount
    | none => s2
  match s.age.plan with
  | some p => if before.age.plan = some p then s3 else s3.change (.plan p (s.planGen) none) s.orbCount
  | none => s3

end Sys2Proof.Machine
end

