-- ==== Sys2Proof/Machine/Orbit.lean ====
section
/-!
DEFINITION. The Orbit cycle (chapter 2): the boundary and the four deadlines, with everything that every unit does at each of
them (Table 2.2), the stretch and the return (R42 to R47), and the published banks (R383, R384).
-/

namespace Sys2Proof.Machine

/-- Changes the Orbit record. -/
def State.withOrb (s : State) (f : Orb → Orb) : State := { s with orb := f s.orb }

/-- The announced count, if any, is reached at ORB_COUNT `now`. -/
def reachedAt (now : Nat) (o : Option Nat) : Bool := match o with
  | some c => !orbLater c now
  | none => false

/-! ## The published banks -/

/-- A node table entry of 16 bytes as a number (Table 15.5), of a submodule whose slot was held when `held` is set. -/
def Sm.tableEntry (m : Sm) : Nat :=
  let slow := if m.got then field m.up 40 24 + 2 ^ 24 * field m.up 32 6 + 2 ^ 31 * field m.up 38 1 else 0
  m.v % 65536 + 2 ^ 16 * (m.status.getD 0) + 2 ^ 32 * m.cls + 2 ^ 40 * (m.codeNext % 8 + if m.got then 0 else 128) + 2 ^ 64 * slow

/-- The bulk entry that Comet packs from a node table entry (Table 16.2 to 16.4, R401). -/
def Sm.bulkEntry (m : Sm) : Nat :=
  let st := m.status.getD 0
  m.v % 65536 + 2 ^ 16 * (m.codeNext % 8) + (if m.got then 0 else 2 ^ 19) + 2 ^ 20 * field st 3 2 + 2 ^ 22 * field st 1 1 +
    2 ^ 23 * field st 0 1 + 2 ^ 24 * m.cls

/-- T_up: the node table bank of the next cycle is written, and Comet's bulk channel takes it (R383, R401). -/
def State.nodeTableWrite (s : State) : State :=
  let n := s.orbAfter 1
  let bank := s.age.sms.map fun m => (m.n, m.tableEntry)
  let s1 := { s with eng := { s.eng with nodeTable := s.eng.nodeTable.set (n % 2) bank } }
  s1.cmtBulk (fun i => match s.sm i with
    | some m => m.bulkEntry
    | none => 0) n

/-- The words of one arm record of the PUB bank (Table 15.7), with their offsets in the bank. -/
def State.pubArm (s : State) (a : Nat) : List (Nat × Int) :=
  let b := 0x80 + 0x30 * a
  let r := s.age.arms[a]?
  let nat := fun (v : Nat) => (v : Int)
  let i := match s.armCurrent a with
    | some x => q28 x
    | none => 0
  [(b, nat (unsigned 16 (s.get (Obj.MOD_N_INS a)) + 65536 * s.getN (Obj.RNK_SWITCHINGS a))), (b + 4, s.get (Obj.MOD_REMAINDER a)),
   (b + 8, nat (s.getN (Obj.MOD_EDGE_SM a) + 65536 * s.getN (Obj.RNK_ARM_STATUS a))), (b + 12, s.get (Obj.MOD_EDGE_TIME a)),
   (b + 16, s.get (Obj.MOD_V_AVG a)),
   (b + 20, nat (s.getN (Obj.RNK_AVAIL a) + 65536 * unsigned 8 (s.get (Obj.RNK_DIR a)))),
   (b + 24, s.get (Obj.RNK_E_STORED_ARM a)), (b + 28, s.get (Obj.RNK_E_USABLE_ARM a)),
   (b + 32, nat (s.getN (Obj.MOD_ARM_STATUS a) + 65536 * (r.map (·.nFb)).getD 0)), (b + 36, i)]

/-- The words of the swing unit in the PUB bank (Table 15.6). -/
def State.pubSwing (s : State) : List (Nat × Int) :=
  let nat := fun (v : Nat) => (v : Int)
  [(0x008, s.get Obj.SWG_THETA), (0x00C, s.get Obj.SWG_OMEGA), (0x010, s.get Obj.SWG_OMEGA_F), (0x014, s.get Obj.SWG_E),
   (0x018, s.get Obj.SWG_P_E), (0x01C, s.get Obj.SWG_Q_E), (0x020, s.get Obj.SWG_I_D), (0x024, s.get Obj.SWG_I_Q),
   (0x028, s.get Obj.SWG_U_DC), (0x02C, s.get Obj.SWG_E_USABLE), (0x030, s.get Obj.SWG_E_STORED), (0x034, s.get Obj.SWG_H_MAX),
   (0x038, s.get Obj.SWG_H_EFF), (0x03C, s.get Obj.SWG_STATUS)] ++
  ((List.range 6).map fun a => (0x040 + 4 * a, s.get (Obj.SWG_ARM_REF a))) ++
  [(0x058, nat (s.getN Obj.FRT_STATUS + 65536 * s.blkPhase)),
   (0x05C, nat (s.devState + 256 * s.devRole + 65536 * s.getN Obj.DEV_RUN_FLAGS))]

/-- A bank with some words replaced. -/
def pubMerge (bank words : List (Nat × Int)) : List (Nat × Int) :=
  bank.filter (fun w => !(words.any fun x => x.1 == w.1)) ++ words

/-- T_fin: the PUB bank of the next cycle is written (R384). DEDUCED (log entry 38): unsafe. -/
def State.pubWrite (s : State) : State :=
  let n := s.orbAfter 1
  let ok := 3 ≤ s.devState && s.devState ≤ 6 && s.orb.overrun.isNone
  let fresh := if ok then s.pubSwing ++ [(0x060, s.get Obj.RNK_STATUS)] ++ (List.range 6).flatMap s.pubArm else []
  let words := fresh ++ [(0x004, if ok then 3 else 0), (0x000, (n : Int))]
  { s with eng := { s.eng with pub := s.eng.pub.modify (n % 2) fun b => pubMerge b words } }

/-- Comet's published sources take the bank of the cycle that begins (Table 16.1). -/
def State.pubSampled (s : State) : State :=
  let bank := s.eng.pub.getD (s.orbCount % 2) []
  let word := fun (o : Nat) => ((bank.find? fun w => w.1 == o).map (·.2)).getD 0
  let valid := unsigned 32 (word 4)
  let top := (List.range 23).map fun i => (0x300 + (i + 2), word (4 * (i + 2)), bitOf valid (if i + 2 = 0x18 then 1 else 0))
  let arm := fun a => (List.range 10).map fun f => (0x400 + 0x10 * a + f, word (0x80 + 0x30 * a + 4 * f), bitOf valid 1)
  if word 0 = s.orbCount then s.cmtPublished (top ++ (List.range 6).flatMap arm) else s

/-! ## Launch (R36, R227 to R233) -/

/-- The header of a frame of a pair's port at this boundary; `type` 1 CONTROL, 3 SYNC, 4 ENUMERATE, 5 DELAY.
DESIGN CHOICE (log entry 25): safe. -/
def State.header (s : State) (p : Nat) (odd : Bool) (type count : Nat) (line : Bool) : FrameHeader :=
  { type := type, pair := p, dir := if odd then 1 else 0, side := if s.sideB then 1 else 0
    role := if s.orb.silent then roleStale else s.devRole, mode := if line then 1 else 0
    trip := if s.devState = stTrip then 1 else 0, arm := s.pairArm p, epoch := s.getN Obj.RED_EPOCH, cycle := s.orbCount
    launch := s.getN Obj.ORB_BOUNDARY_TIME
    depart := (Config.freeValue (s.freeCtr + 2 * p + (if odd then 1 else 0)) % 419).toNat
    len := s.getN Obj.ORB_PERIOD_NOW, next := s.lenAhead 1, count := count
    first := if type = 1 && odd then s.pairNodes p - 1 else 0, size := 16 }

/-- The CONTROL frame of one port of a pair. -/
def State.controlFrame (s : State) (p : Nat) (odd : Bool) : Out :=
  let placed := ((s.pair p).map (·.placed)).getD false
  let slots := slotPositions (s.pairNodes p) odd placed (s.getN (Obj.LNK_PAIR_SPLIT p))
  let halves := slots.map fun pos => downHalf p pos s.orbCount (((s.sm (s.globalOf p pos)).map (·.half)).getD 0)
  let h := (s.header p odd 1 slots.length (s.pairMode p = pairLine)).bytes
  .frame (2 * p + if odd then 1 else 0) h halves (crc32c (h ++ halves.flatMap fun x => bytesOf x 6))

/-- The frame of a port in LINKUP: ENUMERATE and DELAY when their step of R246 comes, SYNC else; none before its lane is
trained. DEDUCED (log entry 28): unsafe. -/
def State.linkupFrame (s : State) (p : Nat) (odd : Bool) : State :=
  let port := 2 * p + if odd then 1 else 0
  match s.pair p with
  | none => s
  | some q =>
    if !s.lanUp port then s else
    let bit := if odd then 1 else 0
    let head := fun type count => (s.header p odd type count (s.pairMode p = pairLine)).bytes
    if !bitOf q.steps 2 && odd = q.evenFound.isSome && !bitOf q.asked bit then
      (s.emit (.frame port (head 4 320) [] 0)).withPair p fun q => { q with asked := withBit q.asked bit true }
    else if bitOf q.steps 5 && !bitOf q.steps 6 && !bitOf q.asked 2 then
      let n := s.pairNodes p
      let h := head 5 n
      let s1 := s.emit (.frame port h [] (crc32c (h ++ List.replicate (16 * n) 0)))
      if odd then s1.withPair p fun q => { q with asked := withBit q.asked 2 true } else s1
    else let h := head 3 0; s.emit (.frame port h [] (crc32c h))

/-- The alignment of a pair that waited for the first step is written; before the boundary of a step every node gets ALIGN_COMMIT
(R332). DEDUCED (log entry 114): unsafe. -/
def State.alignFrames (s : State) (p : Nat) : State :=
  let linkup := decide (s.devState = stLinkup)
  let waits := ((s.pair p).map (fun q => !q.align.isEmpty)).getD false
  let ahead := s.tim.pendingStep.any fun d => d.2 = s.orbAfter 1
  if linkup && waits && s.stepped then s.alignWrite p
  else if ahead && (linkup && s.stepDone p 6 && !waits || s.devState = stBlocked) then s.alignCommit p
  else s

/-- The frames of the boundary: CONTROL in BLOCKED, RUN and TRIP, those of `linkupFrame` in LINKUP (Table 10.3).
DEDUCED (log entry 28): unsafe. -/
def State.launch (s : State) : State :=
  let control := 4 ≤ s.devState && s.devState ≤ 6
  let one := fun (s : State) (p : Nat) =>
    if control then
      ((s.emit (s.controlFrame p false)).emit (s.controlFrame p true)).withPair p fun q => { q with back := 128 }
    else if s.devState = stLinkup then
      ((s.linkupFrame p false).linkupFrame p true).withPair p fun q => { q with back := 0 }
    else s
  let s1 := s.valvePairs.foldl (fun s p => (one s p).alignFrames p) s
  { s1 with freeCtr := s1.freeCtr + 48 }

/-! ## The boundary (R30, R31, R43 to R49) -/

/-- May the sequencer start at this boundary: LINKUP; a follower needs its owner's HEAD if it has seen its partner, a BRANCH the
instant that ORB_SYNC gave it (R30, R299, R344). -/
def State.orbMayStart (s : State) : Bool :=
  s.devState = stLinkup &&
  (s.owner || s.red.head.isNone || s.red.follow.isSome || !s.sideB) &&
  (s.treeRole ≠ 2 || s.tim.orbStart.isSome)

/-- The ORB_COUNT of the cycle that begins. DEDUCED (log entry 37): unsafe. -/
def State.nextCount (s : State) : Nat :=
  match s.red.follow with
  | some (_, c, _) => if s.owner then s.orbAfter 1 else c
  | none => if !s.orbRunning && s.treeRole = 2 then ((s.lnk.down.map (·.orb)).getD s.orbCount + 1) % 2 ^ 32 else s.orbAfter 1

/-- The length of the cycle that begins, and what changes with it (R43, R46). -/
def State.lengthTake (s : State) (start : Bool) : State :=
  if start then
    let normal := s.getN Obj.ORB_PERIOD
    let len := match s.red.follow with
      | some (_, _, l) => if s.owner then normal else l
      | none => normal
    (s.put Obj.ORB_PERIOD_NOW len).setBit Obj.ORB_STATUS 1 (len ≠ normal && len = s.getN Obj.ORB_DEG_PERIOD)
  else if reachedAt s.orbCount s.orb.stretchAt then
    let was := s.bit Obj.ORB_STATUS 1
    let s1 := (s.put Obj.ORB_PERIOD_NOW (s.get Obj.ORB_DEG_PERIOD)).put Obj.ORB_STATUS
      (withBit (withBit (s.getN Obj.ORB_STATUS) 1 true) 2 false : Nat)
    let s2 := s1.withOrb fun o => { o with stretchAt := none, heldPairs := 0, missDegraded := List.replicate 24 0 }
    if was then s2 else (((s2.bump Obj.ORB_STRETCH_COUNT).count 0x0E).raise 164).cmtFire 12 s2.time32 0
  else if reachedAt s.orbCount s.orb.returnAt then
    let s1 := (s.put Obj.ORB_PERIOD_NOW (s.get Obj.ORB_PERIOD)).put Obj.ORB_STATUS
      (withBit (withBit (s.getN Obj.ORB_STATUS) 1 false) 3 false : Nat)
    let s2 := (s1.withOrb fun o => { o with returnAt := none, missNormal := List.replicate 24 0 }).raise 165
    s2.valvePairs.foldl (fun s p => if s.pairMode p = pairLine && s.bit (Obj.LNK_PAIR_STATUS p) 5 then s.ringReturn p else s) s2
  else if s.bit Obj.ORB_STATUS 1 then s
  else
    -- A healed line in normal cycles: marked at one boundary, back on its ring at the next but one it was announced for (R252).
    s.valvePairs.foldl (fun s p =>
      let ready := s.pairMode p = pairLine && s.bit (Obj.LNK_PAIR_STATUS p) 5
      if !ready then s
      else if ((s.pair p).map (·.returning)).getD false then s.ringReturn p
      else s.withPair p fun q => { q with returning := true }) s

/-- The deadlines of the cycle (R32). -/
def State.deadlines (s : State) : State :=
  let t := s.period
  (((s.put Obj.ORB_T_REF (t - 3500 : Nat)).put Obj.ORB_T_UP (t - 2900 : Nat)).put Obj.ORB_T_FIN (t - 1000 : Nat)).put
    Obj.ORB_T_READY (t - 400 : Nat)

/-- Outside RUN every submodule is commanded code 0 (R24), whatever was computed before. -/
def State.codesBlocked (s : State) : State :=
  if s.devState = stRun then s else
  s.withAge fun g => { g with sms := g.sms.map fun m =>
    { m with codeAfter := 0, edgeAfter := none, half := s.downWord { m with codeAfter := 0 } 0 none } }

/-- What speaks of the latest cycle begins afresh: CONFLICT_SEEN, OTHER_OWNS_SEEN, HOPS_MISMATCH, RECORD_LATE (Table 10.18).
DEDUCED (log entry 38): unsafe. -/
def State.cycleFlags (s : State) : State :=
  let s1 := s.put Obj.LNK_STATUS (withBit (withBit (s.getN Obj.LNK_STATUS) 4 false) 5 false : Nat)
  let s2 := s1.valvePairs.foldl (fun s p => s.setBit (Obj.LNK_PAIR_STATUS p) 8 false) s1
  s2.cascGroups.foldl (fun s g => s.setBit (Obj.LNK_CASC_STATUS g) 3 false) s2

/-- A boundary can come now: the sequencer may start, or the cycle has passed T_ready. -/
def State.boundaryComes (s : State) : Bool := if s.orbRunning then decide (s.orb.phase = 4) else s.orbMayStart

/-- A cycle boundary: ORB_COUNT, the length in force, and what every unit does there (R30, R31, Table 2.2). -/
def State.boundary (s : State) (commit : State → Nat → Int → State) (staged : State → State)
    (headers : List (Nat × Nat)) : State :=
  let start := !s.orbRunning
  if !s.boundaryComes then s
  else
    let prev := if start then none else some s.orb.boundary
    let silent := s.orb.silent || (s.orb.overrun.isSome && s.overrunActs)
    let overran := s.orb.overrun.isSome
    let s1 := (s.put Obj.ORB_COUNT s.nextCount).lengthTake start
    let s2 := (s1.setBit Obj.ORB_STATUS 0 true).stepAtBoundary
    let s3 := (s2.put Obj.ORB_BOUNDARY_TIME s2.time32).deadlines
    let s4 := s3.withOrb fun o => { o with
      boundary := s3.now, mark := s3.counter / 2 ^ 36, phase := 0
      past := if start then [] else (o.boundary :: o.past).take 2
      needSeen := o.needLate, needLate := false, overrun := none, headSent := false, cancelNow := false, marginSeen := false
      silent := silent }
    let s5 := (s4.withRed fun r => { r with follow := none }).withTim fun t => { t with orbStart := none }
    let s6 := if overran then s5.carUnqueue (s5.orbAfter 1) else s5
    let s7 := staged ((s6.labelCheck.planApply).redBoundary commit prev)
    let s8 := (s7.swgBoundary s7.partnerStates).cycleFlags.cascBoundary.lanBoundary headers
    let s9 := s8.carBoundary.genBoundary.pagesClear.codesBlocked.smsBoundary
    let s10 := (s9.launch.tideOut.pubSampled).noteNeed
    s10.raise 160

/-! ## T_ref (R33, R35, R57, R58, R76, R263) -/

/-- The engine has registered reference outputs (R57). -/
def State.refRegistered (s : State) (e : Nat) : Bool :=
  (s.getN Obj.SWG_REF_SRC_PWR = e && s.treeRole ≠ 2) || s.getN Obj.SWG_REF_SRC_ARM = e

/-- The references of one engine at T_ref: staged, or the previous set reused. -/
def State.refClose (s : State) (e : Nat) : State :=
  match s.eng.harts[e]? with
  | none => s
  | some h =>
    if !s.refRegistered e then s.withHart e fun h => { h with missed := false }
    else if h.pageDone && h.pageCycle = s.orbCount then
      s.withHart e fun h => { h with staged := h.page, missed := false }
    else
      let s1 := ((s.bump Obj.ORB_REF_LATE_COUNT).setBit Obj.ORB_STATUS 7 true).raise 162
      let s2 := s1.withHart e fun h => { h with missed := true }
      if h.missed then s2.overrun 1 e else s2

/-- A BRANCH takes the root's state for the cycle, or keeps its propagation of the one before (R263). DEDUCED (log entry 33): unsafe. -/
def State.branchRef (s : State) : State :=
  if s.treeRole ≠ 2 then s else
  match s.lnk.down with
  | none => s.cascMissed
  | some d =>
    let wide := fun (v : Int) => 2 ^ 32 * v
    let s1 := s.withSwg fun g => { g with
      core := { g.core with theta := unsigned 32 d.theta * 2 ^ 32, omega := wide d.omega, omegaF := wide d.omegaF } }
    (s1.withRide fun r => { r with emf := d.emf }).withOrb fun o => { o with treeMiss := 0 }

/-- Staged tunables take effect unless they are held (R76). DEDUCED (log entry 42): unsafe. -/
def State.tunablesApply (s : State) : State :=
  if s.get Obj.SWG_PARAM_HOLD = 1 then s else
  let s1 := s.dict.tunables.foldl (fun s (e : Nat × Int) => s.put e.1 e.2) s
  { s1 with dict := { s1.dict with tunables := [] } }.setBit Obj.SWG_STATUS 11 false

/-- T_ref. DESIGN CHOICE (log entry 39): unsafe. -/
def State.tRef (s : State) : State :=
  if !s.orbRunning || s.orb.phase ≠ 0 then s else
  let s1 := s.setBit Obj.ORB_STATUS 7 false
  let s2 := ((List.range 8).foldl State.refClose s1).branchRef
  (s2.tunablesApply.refStage).withOrb fun o => { o with phase := 1 }

/-! ## T_up (R33, R42, R45, R47) -/

/-- A port of a pair must have had its frame back: it serves nodes, or its split is not known. -/
def State.portDue (s : State) (p : Nat) (odd : Bool) : Bool :=
  let known := ((s.pair p).map (·.splitKnown)).getD false
  if s.pairMode p ≠ pairLine || !known then true
  else
    let k := s.getN (Obj.LNK_PAIR_SPLIT p)
    if odd then decide (k < s.pairNodes p) else decide (0 < k)

/-- Has a pair missed T_up: a frame launched at the boundary that is not back. -/
def State.pairMissed (s : State) (p : Nat) : Bool :=
  let back := ((s.pair p).map (·.back)).getD 0
  bitOf back 7 && ((s.portDue p false && !bitOf back 0) || (s.portDue p true && !bitOf back 1))

/-- Misses of one pair at T_up: in a row in ring mode against the normal T_up (R42), in degraded cycles (R47). -/
def State.pairClose (s : State) (p : Nat) : State :=
  let missed := s.pairMissed p
  let worst : Nat := ((s.pair p).map fun q => q.portLatency.foldl Nat.max 0).getD 0
  let long := missed || (s.bit Obj.ORB_STATUS 1 && decide (tUp (s.getN Obj.ORB_PERIOD) < worst))
  let run := if s.pairMode p = pairRing && long then s.orb.missNormal.getD p 0 + 1 else 0
  let s1 := s.withOrb fun o => { o with missNormal := o.missNormal.set p run }
  if s.bit Obj.ORB_STATUS 1 then
    let deg := if missed then s.orb.missDegraded.getD p 0 + 1 else 0
    let s2 := s1.withOrb fun o => { o with missDegraded := o.missDegraded.set p deg }
    if 2 ≤ deg then s2.overrun 2 p else s2
  else if 2 ≤ run then s1.withOrb fun o => { o with heldPairs := withBit o.heldPairs p true }
  else s1

/-- T_up: the missing-slot decision, the snapshot and the sums, and the fixed-function chain (Table 2.2).
DESIGN CHOICE (log entry 39): unsafe. -/
def State.tUpstream (s : State) : State :=
  if !s.orbRunning || s.orb.phase ≠ 1 then s else
  let s1 := if 4 ≤ s.devState && s.devState ≤ 6 then s.valvePairs.foldl State.pairClose s else s
  let s2 := s1.slotsClose.gpfAckCheck.meaSnapshot (fromQ 62 s1.swg.core.omega)
  let sigmas := s2.age.arms.map (·.sigma)
  let s3 := if 3 ≤ s2.devState && s2.devState ≤ 6 then s2.rankLatch.redUp.cascRoot else s2
  let s4 := s3.swgUp
  let runs := s4.devState = stRun && s4.blkPhase ≠ blkDead
  let s5 := if 3 ≤ s4.devState && s4.devState ≤ 6 then
      (s4.rankCompute runs (s4.swg.armRef.map fun v => fromQ 30 v) sigmas).nodeTableWrite else s4
  let s6 := s5.withOrb fun o => { o with phase := 2 }
  (s6.noteNeed).raise 161

/-! ## T_fin (R42 to R47, R384) -/

/-- A boundary is announced. -/
def State.announce (s : State) (ret : Bool) : State :=
  let b := s.orbAfter 2
  let s1 := if ret then (s.withOrb fun o => { o with returnAt := some b }).setBit Obj.ORB_STATUS 3 true
    else (s.withOrb fun o => { o with stretchAt := some b }).setBit Obj.ORB_STATUS 2 true
  s1.raise 163

/-- What the sequencer decides at T_fin (R43, R46, R47). A BRANCH leaves the return to its root. -/
def State.decideNeeds (s : State) : State :=
  let need := s.orb.needSeen
  let degraded := s.bit Obj.ORB_STATUS 1
  let pending := s.orb.returnAt = some (s.orbAfter 1)
  let announced := s.orb.stretchAt.isSome || s.orb.returnAt.isSome
  if need && pending && s.treeRole = 0 then
    (s.withOrb fun o => { o with returnAt := none, cancelNow := true }).setBit Obj.ORB_STATUS 3 false
  else if need && pending then s.announce false
  else if need && !degraded && !announced then s.announce false
  else if !need && degraded && !announced && s.treeRole ≠ 2 then s.announce true
  else s

/-- The up record of this device (Table 10.13). -/
def State.ownUp (s : State) : CascUp :=
  { p := s.get Obj.SWG_P_E, q := s.get Obj.SWG_Q_E, eUsable := s.get Obj.SWG_E_USABLE, eStored := s.get Obj.SWG_E_STORED
    hMax := s.get Obj.SWG_H_MAX, state := s.devState, role := s.devRole, runFlags := s.getN Obj.DEV_RUN_FLAGS
    orb := s.orbCount, device := Config.treeDevice.toNat, trip := s.getN Obj.PRT_TRIP_ACTIVE }

/-- A BRANCH launches its record and those it received from below in the cycle before (R262). -/
def State.cascSendUp (s : State) : State :=
  match s.treeRole, s.cascUpGroup with
  | 2, some g =>
    if s.cascAlive g then ((s.ownUp :: s.lnk.upsBefore).take 63).foldl (fun s u => s.emit (.record 0x201 (CascUp.words u))) s else s
  | _, _ => s

/-- T_fin; `unfinished` names fixed-function windows that have not finished (0 swing, 1 modulators, 2 rank engine, 3 frames). -/
def State.tFin (s : State) (unfinished : Nat) : State :=
  if !s.orbRunning || s.orb.phase ≠ 2 then s else
  let s1 := (List.range 4).foldl (fun s d => if bitOf unfinished d then s.overrun 3 d else s) s
  let s2 := s1.noteNeed.decideNeeds
  let s3 := (s2.setBit Obj.ORB_STATUS 4 (s2.get Obj.ORB_DEG_FORCE = 1)).withOrb fun o => { o with phase := 3, needLate := false }
  let s4 := s3.lenMismatch.noteNeed
  let s5 := s4.valvePairs.foldl (fun s p => s.withPair p fun q => { q with
    placed := s.pairMode p = pairLine && q.splitKnown }) s4
  let s6 := if 3 ≤ s5.devState && s5.devState ≤ 6 then s5.swgPublish.frtPublish else s5
  let s7 := s6.pubWrite
  let s8 := if s7.devRole = roleActive then { s7 with eng := { s7.eng with mirrorCaptured := s7.eng.mirrorOut } } else s7
  s8.redFin.cascSendUp

/-- T_ready: frames not in their port buffers (R48). -/
def State.tReady (s : State) (missing : List Nat) : State :=
  if !s.orbRunning || s.orb.phase ≠ 3 then s else
  let s1 := missing.foldl (fun s p => if p < 24 then s.overrun 4 p else s) s
  s1.withOrb fun o => { o with phase := 4 }

/-! ## The root's record (R262, R263, R43) -/

/-- The root's record of the cycle, 2.50 us after its boundary. -/
def State.rootRecord (s : State) : CascDown :=
  let next := s.orbAfter 1
  { theta := s.get Obj.SWG_THETA, omega := s.get Obj.SWG_OMEGA, omegaF := s.get Obj.SWG_OMEGA_F, emf := s.get Obj.SWG_E
    pSet := s.get Obj.SWG_P_SET_NOW, qSet := s.get Obj.SWG_Q_SET_NOW, orb := s.orbCount
    flags := ofFlags [s.devState = stTrip, s.orb.stretchAt = some next, s.orb.returnAt = some next] }

/-- The root launches it on every downward group. -/
def State.rootLaunch (s : State) : State :=
  if s.treeRole = 1 && s.orbRunning && 3 ≤ s.devState && s.devState ≤ 6 then s.cascSendDown s.rootRecord else s

/-- A branch receives the root's record with the boundary label of its header (R262, R263, R344, R43): forwarded within 200 ns,
and used at T_ref if it is of this cycle and in time. DEDUCED (log entry 33): unsafe. -/
def State.downReceive (s : State) (d : CascDown) (label : Nat) : State :=
  if s.treeRole ≠ 2 || s.devState < 3 || 6 < s.devState then s else
  let s1 := (s.cascSendDown d).withTim fun t => { t with rootLabel := some label }
  if !s.orbRunning then s1.withLnk fun l => { l with down := some d }
  else if d.orb ≠ s.orbCount then s1
  else
    let s2 := if s.orb.phase = 0 then s1.withLnk fun l => { l with down := some d } else s1
    let next := s.orbAfter 1
    if bitOf d.flags 1 then (s2.withOrb fun o => { o with stretchAt := some next }).setBit Obj.ORB_STATUS 2 true
    else if bitOf d.flags 2 then (s2.withOrb fun o => { o with returnAt := some next }).setBit Obj.ORB_STATUS 3 true
    else s2

/-! ## Stopping -/

/-- The sequencer stops: outside LINKUP, BLOCKED, RUN and TRIP it does not run (Table 1.7). -/
def State.orbStop (s : State) : State :=
  let st := s.getN Obj.ORB_STATUS
  let s1 := s.put Obj.ORB_STATUS (st &&& 0x160 : Nat)
  (s1.withOrb fun o => { o with
    phase := 0, stretchAt := none, returnAt := none, needSeen := false, needLate := false, heldPairs := 0, treeMiss := 0
    missNormal := List.replicate 24 0, missDegraded := List.replicate 24 0, overrun := none, silent := false, headSent := false
    cancelNow := false, marginSeen := false, past := [] }).carStop

/-- ORB_MARGIN_CLEAR (R51). -/
def State.marginClear (s : State) : State := (s.put Obj.ORB_MARGIN_MIN 0x7FFFFFFF).setBit Obj.ORB_STATUS 8 false

end Sys2Proof.Machine
end

