-- ==== Sys2Proof/Machine/States.lean ====
section
/-!
DEFINITION. The device's states (R19 to R24, Table 1.6): what leaving and entering each of them does, the entry to TRIP and its
latch (R188 to R191), the conditions of LINKUP (R487), following the partner (R311), and the fuses that the first BLOCKED
programs (R481).
-/

namespace Sys2Proof.Machine

/-- FAULT_N is asserted in every state but BLOCKED and RUN (Table 1.7). -/
def State.faultN (s : State) : Bool := !(s.devState = stBlocked || s.devState = stRun)

/-! ## Fuses (R481) -/

/-- The value the anti-rollback counter should have. -/
def State.otpFloor (s : State) : Nat := max s.otp.antiRollback s.boot.floor

/-- The slots that the running image revokes, but for its own, not yet revoked. -/
def State.otpRevoke (s : State) : Nat :=
  ofFlags ((List.range 4).map fun i => bitOf s.boot.revoke i && i ≠ s.boot.keySlot && !bitOf s.otp.revoked i)

/-- The first entry to BLOCKED after a reset, or the next one after a lasting failure, begins the programming.
DEDUCED (log entry 102): unsafe. -/
def State.otpStart (s : State) : State :=
  if !s.boot.otpDue || s.boot.otpAttempt ≠ 0 then s else
  if s.otp.antiRollback < s.otpFloor || s.otpRevoke ≠ 0 then { s with boot := { s.boot with otpAttempt := 1 } }
  else { s with boot := { s.boot with otpDue := false } }

/-- Programming ends and is read back: bit 0 of `failed` the counter, bit 1 the revocation. DEDUCED (log entry 102): unsafe. -/
def State.otpDone (s : State) (failed : Nat) : State :=
  if s.boot.otpAttempt = 0 then s else
  let old := s.otp.antiRollback
  let raise := old < s.otpFloor
  let mask := s.otpRevoke
  let s1 := if raise && !bitOf failed 0 then
      { s with otp := { s.otp with antiRollback := s.otpFloor } }.journal 0x0223 noSubject [old, s.otpFloor] else s
  let s2 := if mask ≠ 0 && !bitOf failed 1 then
      { s1 with otp := { s1.otp with revoked := s1.otp.revoked ||| mask } }.journal 0x0224 noSubject [mask] else s1
  let bad1 := raise && bitOf failed 0
  let bad2 := mask ≠ 0 && bitOf failed 1
  if !bad1 && !bad2 then { s2 with boot := { s2.boot with otpAttempt := 0, otpDue := false } }
  else if s.boot.otpAttempt = 1 then { s2 with boot := { s2.boot with otpAttempt := 2 } }
  else
    let s3 := if bad1 then s2.journalFull 0x0225 noSubject [1] 0xFF false true else s2
    let s4 := if bad2 then s3.journalFull 0x0225 noSubject [2] 0xFF false true else s3
    { s4 with boot := { s4.boot with otpAttempt := 0 } }

/-! ## Leaving and entering states -/

/-- The role that a device holds outside LINKUP, BLOCKED, RUN and TRIP: a lone device is ALONE, one of a pair owns nothing (R21). -/
def State.restRole (s : State) : State := s.setRole (if s.hasPartner then roleStale else roleAlone) 0

/-- What leaving the present state does: RUN ends its ride and its synchronisation, BLOCKED its forced choppers (R75, R184). -/
def State.leaveState (s : State) : State :=
  if s.devState = stRun then s.runLeave
  else if s.devState = stBlocked then
    s.forAll (List.range 4) fun s k => if s.bit (Obj.PRT_DCH_CTRL k) 3 then (s.setBit (Obj.PRT_DCH_CTRL k) 3 false).dchEval k else s
  else s

/-- Entry to LINKUP: every unit begins afresh (R246, R73, R113, R135, R196, R270, R21); CAN settings take effect (R433). -/
def State.enterLinkup (s : State) : State :=
  let s1 := ((s.leaveState.setState stLinkup 0).orbStop.smsLinkup.linkLinkup.lanLinkup).carLinkup.swgLinkup.gpfLinkup.redLinkup
  { s1 with dict := { s1.dict with nodeIds := (List.range 2).map fun p => s1.getN (Obj.CAN_NODE_ID p) } }

/-- The outward side stops: Orbit, lanes, swing unit and redundancy supervisor (Tables 1.7, 3.6). -/
def State.quiet (s : State) : State :=
  let s1 := s.orbStop.lanAllOff.swgIdle.redIdle
  (s1.setCause causePartnerTrip false).restRole

/-- Entry to CONFIG from LINKUP, BLOCKED or LUNAR. -/
def State.enterConfig (s : State) : State := (s.leaveState.setState stConfig 0).quiet

/-- Entry to BLOCKED from LINKUP or RUN. -/
def State.enterBlocked (s : State) : State :=
  let first := s.devState = stLinkup
  let s1 := (s.leaveState.setState stBlocked 0).otpStart
  if first then s1.ageBlocked else s1

/-- Entry to RUN (R20, R75, R92). -/
def State.enterRun (s : State) (black : Bool) : State := 
  (s.leaveState.setStateCounted stRun 0 (if black then 0x0D else 0xFF)).runEnter black

/-! ## The entry to TRIP (R189) and the latch (R190, R191) -/

/-- The active causes as bytes. -/
def State.activeBytes (s : State) : List Nat := bytesOf (s.getN Obj.PRT_TRIP_ACTIVE) 4

/-- The active trip causes take the device from BLOCKED or RUN to TRIP; `first` is the lowest of them. -/
def State.enterTrip (s : State) (first : Nat) : State :=
  let urgent := s.devState = stRun && s.owner && ((List.range 18).any fun c => urgentCause c && s.causeActive c)
  let overrun := s.causeActive causeOverrun
  let s0 := s.put Obj.PRT_STATUS (withBit (s.getN Obj.PRT_STATUS) 4 false : Nat)
  let s1 := if urgent then s0.sendUrgent else s0
  let s2 := s1.leaveState.setState stTrip first
  let s3 := if overrun && s2.devRole = roleActive then s2.setRole roleStale 0 else s2
  let s4 := ((s3.put Obj.PRT_TRIP_FIRST first).put Obj.PRT_TRIP_TIME s3.time32).bump Obj.PRT_TRIP_COUNT
  let s5 := (s4.put Obj.PRT_TRIP_LATCHED (s4.getN Obj.PRT_TRIP_LATCHED ||| s4.getN Obj.PRT_TRIP_ACTIVE : Nat)).setBit Obj.PRT_STATUS 5 true
  let s6 := ((s5.count 5).raise 320).journalFull 320 noSubject (first :: s5.activeBytes) 5 false false
  ((s6.emcy (0xFF00 + first)).cmtFire 8 s6.time32 0).demandFlush

/-- Whatever state the device is in, a cause that is active takes it to TRIP from BLOCKED or RUN, and is latched in TRIP. -/
def State.tripServe (s : State) : State :=
  if s.devState = stBlocked || s.devState = stRun then
    match s.firstCause with
    | some c => s.enterTrip c
    | none => s
  else if s.devState = stTrip then
    let l := s.getN Obj.PRT_TRIP_LATCHED
    let n := l ||| s.getN Obj.PRT_TRIP_ACTIVE
    if n = l then s else s.put Obj.PRT_TRIP_LATCHED n
  else s

/-- A filtered falling edge of ARM_EN, dated to the ball edge that began it (R190). DEDUCED (log entry 110): unsafe. -/
def State.armFall (s : State) : State :=
  if s.pins.armEn ≠ some true then s else
  let s1 := { s with pins := { s.pins with armEn := some false, armFell := s.now } }.endEvents s.now
  (s1.setCause causeArmEn true).raise 331

/-- TRIP is cleared (R190). -/
def State.tripClear (s : State) : State :=
  let s1 := ((s.put Obj.PRT_TRIP_LATCHED 0).setBit Obj.PRT_STATUS 5 false).raise 322
  let s2 := (s1.setStateCounted stBlocked 0 6).otpStart.emcy 0
  (s2.setBit Obj.ORB_STATUS 6 false).withOrb fun o => { o with silent := false }

/-- A filtered rising edge of ARM_EN (R190, R191). DEDUCED (log entry 110): unsafe. -/
def State.armRise (s : State) : State :=
  if s.pins.armEn = some true then s else
  let low := s.now - s.pins.armFell
  let s1 := { s with pins := { s.pins with armEn := some true } }
  let s2 := (s1.setCause causeArmEn false).put Obj.PRT_ARMEN_LOW_TIME (min (low / 1000) 0xFFFFFFFF : Nat)
  if s2.devState ≠ stTrip then s2
  else if 20000 ≤ low && s2.get Obj.PRT_TRIP_ACTIVE = 0 then s2.tripClear
  else
    ((s2.bump Obj.PRT_CLEAR_REFUSED_COUNT).count 7).raise 321 |>.journalFull 321 noSubject
      (s2.activeBytes ++ bytesOf (low / 1000) 4) 7 false false

/-! ## LINKUP to BLOCKED, and with the partner (R487, R311) -/

/-- A valve pair meets its conditions: enumerated, identities matched, rates equal, descriptors read back, within R38. -/
def State.pairReady (s : State) (p : Nat) : Bool :=
  let st := s.getN (Obj.LNK_PAIR_STATUS p)
  bitOf st 0 && !bitOf st 2 && !bitOf st 6 && !s.bit (Obj.LAN_STATUS (2 * p)) 3 && !s.bit (Obj.LAN_STATUS (2 * p + 1)) 3 && s.pairFits p &&
  (!s.partnered || ((s.pair p).bind (·.partnerIds)).isSome)

/-- Every condition of Table 1.6 for BLOCKED holds. -/
def State.linkupDone (s : State) : Bool :=
  s.devState = stLinkup && s.orbRunning && s.valvePairs.all s.pairReady && (s.treeRole = 0 || s.bit Obj.LNK_STATUS 3) && s.stepped &&
  s.xlOk

/-- The conditions of Table 1.6 for RUN apart from the role: ARM_EN high, no cause active, the degraded set present. -/
def State.runReady (s : State) : Bool := s.pins.armEn = some true && s.get Obj.PRT_TRIP_ACTIVE = 0 && s.degPresent

/-- A STANDBY or STALE unit follows its partner into RUN (R311). -/
def State.followRun (s : State) : State :=
  match s.tide with
  | some t =>
    if s.devState = stBlocked && !s.owner && t.state = stRun && s.pins.armEn = some true && s.get Obj.PRT_TRIP_ACTIVE = 0 then
      (s.enterRun (bitOf t.runFlags 0)).bump Obj.DEV_REQ_COUNT
    else s
  | none => s

/-- A STANDBY or STALE unit follows its partner into BLOCKED (R311). -/
def State.followBlocked (s : State) : State :=
  match s.tide with
  | some t => if s.devState = stRun && !s.owner && t.state = stBlocked then s.enterBlocked.bump Obj.DEV_REQ_COUNT else s
  | none => s

end Sys2Proof.Machine
end

