-- ==== Sys2Proof/Machine/Logbook.lean ====
section
/-!
DEFINITION. The logbook beside its shared operations of Ops.lean (chapter 18): the end of a flush (R462), the restoration (R464),
the export (R465) and the samples of each second (R455, R457).
-/

namespace Sys2Proof.Machine

/-- Changes the logbook machinery. -/
def State.withLog (s : State) (f : LogUnit → LogUnit) : State := { s with log := f s.log }

/-! ## Flushes (R462) -/

/-- The snapshot ring as LOG_GOOD_SLOTS and FLASH_WORN show it. -/
def State.slotsShow (s : State) : State :=
  (s.put Obj.LOG_GOOD_SLOTS s.goodSlots).setBit Obj.LOG_STATUS 2 (decide (s.goodSlots < 2))

/-- A slot is marked bad. -/
def State.slotBad (s : State) (i : Nat) : State :=
  ({ s with flash := { s.flash with slots := updateAt s.flash.slots i fun f => { f with good := false, snap := none } } }).slotsShow

/-- Programming of a slot ends, verified or not (R462). -/
def State.flushDone (s : State) (ok : Bool) : State :=
  match s.log.programming with
  | none => s
  | some (slot, snap, attempt) =>
    let idle := (s.withLog fun l => { l with programming := none, failedSlot := none }).setBit Obj.LOG_STATUS 1 false
    if ok then
      let s1 := { idle with flash := { idle.flash with
        slots := updateAt idle.flash.slots slot fun f => { f with snap := some snap } } }.bump Obj.LOG_FLUSH_COUNT
      let s2 := if attempt = 1 then s1 else s1.siteOutcome 0x15 (Config.unlistedCode 3) slot [] false
      let s3 := (s2.raise 498).journal 0x0210 noSubject (bytesOf slot 4 ++ bytesOf snap.lastSeq 4)
      s3.serveFlush
    else if attempt = 1 then
      match s.goodAfter slot with
      | some next =>
        { s.withLog fun l => { l with programming := some (next, snap, 2), failedSlot := some slot } with
          flash := { s.flash with slots := updateAt s.flash.slots next fun f => { f with erases := f.erases + 1, snap := none } } }
      | none => idle.slotBad slot
    else
      let s1 := (idle.slotBad slot).forAll s.log.failedSlot.toList State.slotBad
      (s1.raise 499).siteOutcome 0x15 499 slot [] true

/-- Ten minutes after the flush before began a periodic one is due. -/
def State.flushPeriodic (s : State) : State :=
  if s.devState < stConfig || s.devState = stLunar then s
  else if s.log.lastBegin.any fun b => decide (s.now < b + 600000000000) then s
  else (s.withLog fun l => { l with periodic := true }).serveFlush

/-! ## Restoration (R464) -/

/-- Record a follows record b in SEQ. -/
def seqAfter (a b : Nat) : Bool := orbLater a b

/-- Restores counters and histograms from the newest slot that checks, `bad` naming those that do not, and replays the journal after
it; the counts since the reset stand on top. DEDUCED (log entry 99): unsafe. -/
def State.logRestore (s : State) (bad : List Nat) : State :=
  let held := (List.range 28).filterMap fun i =>
    if i ∈ bad then none else (s.flash.slots[i]?.bind (·.snap)).map fun p => (i, p)
  let best := held.foldl (fun (b : Option (Nat × Snapshot)) e =>
    if b.any fun x => decide (e.2.number ≤ x.2.number) then b else some e) none
  let s1 := match best with
    | none => s
    | some (_, p) => p.counters.foldl (fun s (e : Nat × Int) => s.add64 e.1 e.2) s
  let old := s.flash.journal.filter fun r => !seqAfter r.seq s.log.bootSeq
  let after := match best with
    | none => old
    | some (_, p) => old.filter fun r => seqAfter r.seq p.lastSeq
  let s2 := after.foldl (fun s r => if r.counter = 0xFF then s else s.count r.counter) s1
  let slot := (best.map (·.1)).getD 0xFFFFFFFF
  let s3 := ((s2.setBit Obj.LOG_STATUS 0 true).put Obj.LOG_PART_BASE ((Config.flashMiB - 32) * 1048576 : Nat)).slotsShow
  (s3.journal 0x0212 noSubject (bytesOf slot 4 ++ bytesOf after.length 4)).raise 503

/-- The snapshots whose header and CRC check, newest first. -/
def State.goodSnaps (s : State) (bad : List Nat) : List Snapshot :=
  let l := (List.range 28).filterMap fun i => if i ∈ bad then none else s.flash.slots[i]?.bind (·.snap)
  sortBy (fun a b => b.number ≤ a.number) l

/-! ## Export (R465) -/

/-- An export is frozen. -/
def State.exportFreeze (s : State) : State :=
  let gen : Nat := if s.hasData Obj.LOG_EXPORT_GEN then (s.getN Obj.LOG_EXPORT_GEN + 1) % 2 ^ 32 else 1
  let s1 := s.withLog fun l => { l with exported := some (s.freeze, s.flash.journal) }
  ((s1.put Obj.LOG_EXPORT_GEN gen).journal 0x0213 noSubject (bytesOf gen 4)).raise 501

/-- The export's 5,115,904 bytes: the header and the snapshot image are not laid out to the byte by the manual, the journal ring is
its records in SEQ order, and what an empty record reads is left open too. -/
def State.exportBytes (s : State) : Option (List Nat) :=
  s.log.exported.map fun e =>
    let ring := (e.2.reverse).flatMap JournalRecord.bytes
    let free := fun i => (Config.exportByte (s.getN Obj.LOG_EXPORT_GEN) i).toNat
    (List.range (4096 + 1048576)).map free ++ ring ++
      (List.range (4063232 - ring.length)).map fun i => free (4096 + 1048576 + ring.length + i)

/-- The journal record selected by LOG_JOURNAL_SEL. -/
def State.journalSelected (s : State) : Option (List Nat) :=
  (s.flash.journal.find? fun r => r.seq = s.getN Obj.LOG_JOURNAL_SEL).map JournalRecord.bytes

/-! ## Each second (R455, R457) -/

/-- The nominal voltage of a rail in mV (Table 14.7); VDD_CORE's is its target. -/
def State.railNominal (s : State) (i : Nat) : Nat :=
  if i = 0 then s.coreTarget else [750, 800, 900, 1200, 1050, 500, 1800, 1800, 3300].getD i 1

/-- A histogram sample of a rail's deviation in %. -/
def State.railHistogram (s : State) (i : Nat) : State :=
  let n : Rat := s.railNominal i
  s.histogram (1 + i) (-31 / 4) (1 / 4) (if n = 0 then 0 else ((s.get (Obj.PWR_RAIL_MV i) : Rat) - n) * 100 / n)

/-- Sampled once a second: the latest values of chapter 14's counters in 0.001 ppm (REF25 and REF156 while present) and the
histograms 0 to 13. DEDUCED (log entry 74): unsafe. -/
def State.secondSamples (s : State) (ref25 : Option Int) (xo : Int) (ref156 : Option Int) : State :=
  let s1 := match ref25 with
    | some e => (s.put Obj.CLK_REF25_ERR (saturate 32 e)).histogram 10 (-62) 2 (milli e)
    | none => s
  let s2 := (s1.put Obj.CLK_XO_CORR (saturate 32 xo)).histogram 11 (-62) 2 (milli xo)
  let s3 := match ref156 with
    | some e => (s2.put Obj.CLK_REF156_ERR (saturate 32 e)).histogram 12 (-62) 2 (milli e)
    | none => s2
  let s4 := s3.histogram 0 (-85 / 2) (5 / 2) ((s3.get Obj.PWR_TJ : Rat) / 10)
  let s5 := s4.forAll (List.range 9) State.railHistogram
  if s5.timState = 1 || s5.timState = 2 then s5.histogram 13 (-155) 5 (s5.get Obj.TIM_OFFSET : Rat) else s5

/-- The counters of seconds (Table 18.1). DEDUCED (log entry 74): unsafe. -/
def State.secondCounts (s : State) : State :=
  let s1 := s.count 0x02
  if s.devState = stRun then s1.count 0x03 else s1

end Sys2Proof.Machine
end

