-- ==== Sys2Proof/Machine/Judge.lean ====
section
/-!
DEFINITION. How the dictionary server judges a request (R422, R428, Table 17.2): lengths and types, states and busy entries, and the
ranges that one row of an object table cannot say alone.
-/

namespace Sys2Proof.Machine

/-- Abort codes of Table 17.3. -/
abbrev abTimeout : Nat := 0x05040000
/-- Attempt to read a write-only entry. -/
abbrev abReadWo : Nat := 0x06010001
/-- Attempt to write a read-only entry. -/
abbrev abWriteRo : Nat := 0x06010002
/-- Object does not exist. -/
abbrev abNoObject : Nat := 0x06020000
/-- Data type or length does not match. -/
abbrev abLength : Nat := 0x06070010
/-- DOMAIN longer than the transport or the entry allows. -/
abbrev abDomain : Nat := 0x06070012
/-- Subindex does not exist. -/
abbrev abNoSub : Nat := 0x06090011
/-- Value out of range. -/
abbrev abRange : Nat := 0x06090030
/-- Data cannot be stored or transferred. -/
abbrev abStore : Nat := 0x08000020
/-- Not possible in the present device state, role, ownership or session. -/
abbrev abState : Nat := 0x08000022
/-- No data available. -/
abbrev abNoData : Nat := 0x08000024

/-- A refusal: abort code and reason code (Table 17.2). -/
structure Refused where
  abort : Nat
  reason : Nat
deriving DecidableEq, Repr

/-! ## Types (Table 17.1) -/

/-- The bytes of a type of fixed length; none for a DOMAIN. -/
def ObjType.length : ObjType → Option Nat
  | .bool => some 1
  | .i8 => some 1
  | .i16 => some 2
  | .i32 => some 4
  | .i64 => some 8
  | .u8 => some 1
  | .u16 => some 2
  | .u32 => some 4
  | .u64 => some 8
  | .time32 => some 4
  | .visibleString n => some n
  | .octetString n => some n
  | .domain _ => none

/-- The type's code. -/
def ObjType.code : ObjType → Nat
  | .bool => 0x0001
  | .i8 => 0x0002
  | .i16 => 0x0003
  | .i32 => 0x0004
  | .u8 => 0x0005
  | .u16 => 0x0006
  | .u32 => 0x0007
  | .visibleString _ => 0x0009
  | .octetString _ => 0x000A
  | .domain _ => 0x000F
  | .i64 => 0x0015
  | .u64 => 0x001B
  | .time32 => 0x0040

/-- Is the type two's complement? -/
def ObjType.isSigned : ObjType → Bool
  | .i8 => true
  | .i16 => true
  | .i32 => true
  | .i64 => true
  | _ => false

/-- The value that data of the type's length hold (R422). -/
def ObjType.value (ty : ObjType) (data : List Nat) : Int :=
  if ObjType.isSigned ty then signed (8 * data.length) (ofBytes data) else ofBytes data

/-- The bytes of a value of the type. -/
def ObjType.bytes (ty : ObjType) (v : Int) : List Nat :=
  let n := (ObjType.length ty).getD 0
  bytesOf (unsigned (8 * n) v) n

/-- Step 4: a length fits the type; a DOMAIN its maximum, AGE_PLAN_SUBMIT its own length (R216). -/
def lengthRefused (row : ObjRow) (key length : Nat) : Option Refused :=
  match ObjType.length row.type, row.type with
  | some n, _ => if length = n then none else some ⟨abLength, 3⟩
  | none, .domain most =>
    if key = Obj.AGE_PLAN_SUBMIT && length ≠ planLength then some ⟨abLength, 3⟩
    else if most < length then some ⟨abDomain, 3⟩
    else none
  | none, _ => none

/-! ## Ranges (step 8) -/

/-- The latest written value of an entry: staged or held, else in force (R76). -/
def State.latest (s : State) (key : Nat) : Int := (Store.find? s.dict.tunables key).getD (s.get key)

/-- A value lies in the range of its row; a BOOLEAN is 0 or 1. -/
def ObjRow.inRange (row : ObjRow) (v : Int) : Bool :=
  (row.type ≠ .bool || v = 0 || v = 1) &&
  match row.range with
  | .any => true
  | .span lo hi => lo ≤ v && v ≤ hi
  | .spanOr lo hi other => (lo ≤ v && v ≤ hi) || v = other
  | .oneOf l => decide (v ∈ l)

/-- An analog source code of Table 16.1. -/
def cmtAnalogCode (v : Nat) : Bool :=
  v = 0 || (0x100 ≤ v && v ≤ 0x11F) || (0x200 ≤ v && v ≤ 0x21F) || (0x302 ≤ v && v ≤ 0x318) ||
  (0x400 ≤ v && v ≤ 0x45F && v % 16 ≤ 9)

/-- A boolean source code of Table 16.2. -/
def cmtBoolCode (v : Nat) : Bool :=
  v ≤ 0x06 || (0x08 ≤ v && v ≤ 0x31) || (0x38 ≤ v && v ≤ 0x6F) || (0x70 ≤ v && v ≤ 0x75) ||
  (0x78 ≤ v && v ≤ 0x7E) || (0x80 ≤ v && v ≤ 0xA3) || (0xA8 ≤ v && v ≤ 0xAD) || (0xB0 ≤ v && v ≤ 0xB5)

/-- The unit of a family of entries of one index: subindex - 1. -/
abbrev unitOf (key : Nat) : Nat := key % 256 - 1

/-- The field encodings of an entry that are reserved, and the fields with a range of their own. -/
def fieldsOk (key v : Nat) : Bool :=
  match key / 256 with
  | 0x2510 => field v 0 2 ≠ 1 || unitOf key < 6
  | 0x2511 => (field v 0 5 ≤ 17 || field v 0 5 = 31) && (field v 8 5 ≤ 17 || field v 8 5 = 31)
  | 0x251B => field v 2 3 ≤ 5
  | 0x2601 => 40 ≤ field v 2 7 && field v 2 7 ≤ 100
  | 0x2610 => field v 5 2 ≠ 3
  | 0x2612 => 1 ≤ field v 0 7 && field v 0 7 ≤ 64 && field v 8 2 ≠ 3
  | 0x2711 => field v 1 2 ≠ 3
  | 0x2920 => field v 0 6 ≤ 47 && field v 6 2 ≠ 3
  | 0x2A10 => unitOf key < 48 || v = 1
  | 0x2A14 => tapsWordOk v
  | 0x2A16 => loopbackOk (unitOf key) v
  | 0x2D01 => pllFreqAllowed (unitOf key) (field v 4 12) && field v 0 2 ≠ 3
  | 0x2F10 => cmtAnalogCode v
  | 0x2F20 => cmtBoolCode v
  | _ => true

/-- Ranges that depend on another entry, judged against its most recently written value. -/
def State.relationOk (s : State) (key : Nat) (v : Int) : Bool :=
  if key = Obj.ORB_DEG_PERIOD then s.get Obj.ORB_PERIOD ≤ v
  else if key = Obj.FRT_I_LIM then s.latest Obj.FRT_I_TH + 50 ≤ v
  else if key = Obj.FRT_I_TH then v + 50 ≤ s.latest Obj.FRT_I_LIM
  else if key = Obj.FRT_V_CLEAR then s.latest Obj.FRT_V_DET ≤ v
  else if key = Obj.FRT_V_DET then v ≤ s.latest Obj.FRT_V_CLEAR
  else if key / 256 = 0x2516 then v.toNat % 2 ^ 20 < s.getN (Obj.CAR_PERIOD (unitOf key))
  else if key / 256 = 0x2627 then
    let k := unitOf key
    decide (8 * s.meaTs k ≤ (v : Rat) * 1000) && decide ((v : Rat) * 1000 ≤ 65536 * s.meaTs k)
  else if key = Obj.AGE_AVS_VMAX then s.get Obj.AGE_AVS_VMIN ≤ v
  else if key = Obj.AGE_AVS_MARGIN_HI then s.get Obj.AGE_AVS_MARGIN_LO + 20 < v
  else if key = Obj.AGE_AVS_MARGIN_CRIT then v ≤ s.get Obj.AGE_AVS_MARGIN_LO
  else if key = Obj.TIM_ORB_SYNC_DELAY then v ≤ s.get Obj.TIM_ORB_SYNC_LEAD - 200
  else if key / 256 = 0x2C53 then v < s.get (Obj.TIM_GEN_PERIOD (unitOf key))
  else if key = Obj.TIM_SET_TIME then s.get Obj.TIM_SOURCE ≠ 1 || v % 1000000000 = 0
  else if key = Obj.CMT_RING_SIZE then v % 64 = 0 && Config.cometRingFits v
  else if key = Obj.CMT_BULK_FIRST then v + s.get Obj.CMT_BULK_COUNT ≤ 7680
  else if key = Obj.CMT_BULK_COUNT then s.get Obj.CMT_BULK_FIRST + v ≤ 7680
  else if key = Obj.CMT_MEAS_TO then s.get Obj.CMT_MEAS_FROM ≤ v
  else if key = Obj.CMT_MEAS_FROM then v ≤ s.get Obj.CMT_MEAS_TO
  else if key / 256 = 0x1E00 || key / 256 = 0x1E01 then
    if key % 256 = 3 then v ≤ s.get (key + 1) else if key % 256 = 4 then s.get (key - 1) ≤ v else true
  else if key = Obj.ICU_SW_SET then 504 ≤ v && v ≤ 511
  else true

/-- The value as the device takes it: bits of reserved fields are ignored (R6). -/
def ObjRow.masked (row : ObjRow) (v : Int) : Int := if row.mask = 0 then v else ((v.toNat &&& row.mask : Nat) : Int)

/-- Step 8. -/
def State.valueOk (s : State) (row : ObjRow) (key : Nat) (v : Int) : Bool :=
  ObjRow.inRange row v && fieldsOk key v.toNat && s.relationOk key v

/-! ## States and busy entries (step 7) -/

/-- Comet's settings that are written while it is IDLE. -/
def cmtIdleKey (key : Nat) : Bool :=
  decide (key ∈ [Obj.CMT_CTRL, Obj.CMT_COMA_BLOCKS, Obj.CMT_TAIL_BLOCKS, Obj.CMT_TRIG_EN, Obj.CMT_BULK_FIRST, Obj.CMT_BULK_COUNT,
    Obj.CMT_BULK_DEC]) || (0x2F10 ≤ key / 256 && key / 256 ≤ 0x2F30)

/-- The device states, one bit each, in which this change of the entry may be made: a row whose fields differ in their states gives
those of the fields that change. DEDUCED (log entry 73): unsafe. -/
def State.fieldStates (s : State) (row : ObjRow) (key : Nat) (v : Int) : Nat :=
  let diff := s.getN key ^^^ v.toNat
  match key / 256 with
  | 0x2510 => if field diff 0 4 ≠ 0 then 4 else row.states
  | 0x251B => if field diff 0 12 ≠ 0 then 20 else row.states
  | 0x2610 => if field diff 0 10 ≠ 0 then 4 else 60
  | 0x2711 => if bitOf diff 3 && bitOf v.toNat 3 then 16 else row.states
  | 0x2B00 => if key = Obj.RED_PARTNER_ABSENT then (if v = 1 then 24 else 48) else row.states
  | 0x2D01 => if unitOf key ≤ 3 then 4 else 92
  | n => if 0x2E20 ≤ n && n ≤ 0x2E2F && (bitOf diff 1 || field diff 8 10 ≠ 0) then 4 else row.states

/-- The entry is busy: Comet is not IDLE, the pulse generator is not OFF, or the PLL is relocking (R358).
DEDUCED (log entry 73): unsafe. -/
def State.entryBusy (s : State) (key : Nat) (v : Int) : Bool :=
  let n := key / 256
  if cmtIdleKey key then s.cmtState ≠ 0
  else if n = 0x2C50 then
    field (s.getN key) 0 2 ≠ 0 && field (s.getN key ^^^ v.toNat) 2 9 ≠ 0
  else if 0x2C51 ≤ n && n ≤ 0x2C53 then field (s.getN (Obj.TIM_GEN_CTRL (unitOf key))) 0 2 ≠ 0
  else if n = 0x2D01 then s.bit (Obj.CLK_PLL_STATUS (unitOf key)) 2
  else false

/-- Step 7: the device state allows the write, and the entry is not busy. DEDUCED (log entry 90): unsafe. -/
def State.stateAllows (s : State) (row : ObjRow) (key : Nat) (v : Int) : Bool :=
  bitOf (s.fieldStates row key v) s.devState && !s.entryBusy key v

/-! ## Roles and mirroring (steps 5 and 6) -/

/-- The least role of a write: DEV_STATE_REQ asks it by its value (Table 17.4). -/
def leastRole (row : ObjRow) (key : Nat) (v : Int) : Nat :=
  if key = Obj.DEV_STATE_REQ then (if v = 2 || v = 3 then 2 else 1) else row.role

/-- A write of the entry is mirrored now (R449). -/
def State.mirrors (s : State) (row : ObjRow) : Bool := row.mirrored && s.partnered && 3 ≤ s.devState

/-- Is the entry a tunable that R76 stages (Tables 3.8, 4.7 and 5.10)? -/
def tunableKey (key : Nat) : Bool :=
  0x220000 ≤ key && key < 0x250000 && key ≠ Obj.SWG_PARAM_HOLD &&
  match Obj.rowOf key with
  | some r => r.states = 60 && r.access = .rw
  | none => false

end Sys2Proof.Machine
end

