-- ==== Sys2Proof/Machine/Image.lean ====
section
/-!
DEFINITION. Dictionary images (R444 to R448): the checks that an image passes, its load, its store and the live image; and the boot
directory that the store rewrites (R477).
-/

namespace Sys2Proof.Machine

/-! ## Cross-checks of an image (R445, step 3) -/

/-- The full scale of a quantity of R178 in its per-unit value: 0 q_pos, 1 q_neg, 2 q_p2p. -/
def State.prtFullScale (s : State) (src : Nat) : Rat :=
  let one := fun (role : Nat) => match s.roleChannel role with
    | some k => s.roleFactor k
    | none => 0
  match src with
  | 0 => one 13
  | 1 => one 14
  | _ => if one 13 < one 14 then one 13 else one 14

/-- The thresholds of R178. -/
def State.prtImageOk (s : State) : Bool :=
  let lim := fun (src : Nat) => 19 / 20 * s.prtFullScale src
  let on := (List.range 4).filter s.dchEnabled
  on.all (fun k => s.get (Obj.PRT_OV1_ON k) + 50 ≤ s.get Obj.PRT_OV2) &&
  on.all (fun k => decide (milli (s.get (Obj.PRT_OV1_ON k)) < lim (s.dchSrc k))) &&
  ((List.range 3).all fun src => !s.bit Obj.PRT_CTRL src || decide (milli (s.get Obj.PRT_OV2) < lim src)) &&
  (!s.bit Obj.PRT_CTRL 4 || ((List.range 6).all fun a => match s.roleChannel (7 + a) with
    | some k => decide (milli (s.get Obj.PRT_ARM_OC) < 19 / 20 * s.roleFactor k)
    | none => true))

/-- R10: no arm above 1,280 submodules, none without one. -/
def State.mappingOk (s : State) : Bool := (List.range 6).all fun a => 1 ≤ s.armNodes a && s.armNodes a ≤ 1280

/-- R134: pins are named once, complementary channels name both, unpinned modes none. -/
def State.routesOk (s : State) : Bool :=
  let main := fun (k : Nat) => field (s.getN (Obj.CAR_ROUTE k)) 0 5
  let aux := fun (k : Nat) => field (s.getN (Obj.CAR_ROUTE k)) 8 5
  let all := List.range 24
  let named := (all.flatMap fun k => [main k, aux k]).filter (· ≠ 31)
  decide named.Nodup && named.all (· ≤ 17) &&
  all.all fun k => (s.carMode k ≠ 3 || aux k ≠ 31) && (2 ≤ s.carMode k || (main k = 31 && aux k = 31))

/-- R390 and R374 on one source: targets, class, and engines that are enabled. -/
def State.sourceOk (s : State) (src : Nat) : Bool :=
  let c := s.srcCfg src
  let targets := (List.range 10).filter fun t => bitOf c (8 + t)
  let gated := targets.all fun t => t < 8 && !s.bit Obj.ENG_ENABLE t
  (s.get Obj.ICU_MODE ≠ 0 || src / 32 = 5 || targets.length ≤ 1) &&
  (!bitOf c 1 || (!bitOf c 16 && !bitOf c 17)) &&
  (!bitOf c 0 || targets.isEmpty || !gated)

/-- An engine named as a source of references is enabled (R374). -/
def State.refSourceOk (s : State) (key : Nat) : Bool := s.get key = 255 || s.bit Obj.ENG_ENABLE (s.getN key)

/-- An entry and whether its check passes. -/
def check (key : Nat) (ok : Bool) : Nat × Bool := (key, ok)

/-- The cross-checks in the order of their entries: an entry, and whether its check passes. -/
def State.crossChecks (s : State) : List (Nat × Bool) :=
  [check (Obj.SWG_S_BASE) (s.get Obj.SWG_S_BASE ≠ 0), check (Obj.SWG_V_BASE) (s.get Obj.SWG_V_BASE ≠ 0), check (Obj.SWG_F0) (s.get Obj.SWG_F0 ≠ 0),
   check (Obj.SWG_VDC_BASE) (s.get Obj.SWG_VDC_BASE ≠ 0), check (Obj.SWG_L_ARM) (s.get Obj.SWG_L_ARM ≠ 0),
   check (Obj.SWG_REF_SRC_PWR) (s.refSourceOk Obj.SWG_REF_SRC_PWR), check (Obj.SWG_REF_SRC_ARM) (s.refSourceOk Obj.SWG_REF_SRC_ARM)] ++
  ((List.range 6).map fun a => check (Obj.MOD_ARM_CTRL a) (!s.bit (Obj.MOD_ARM_CTRL a) 0 || s.carMode a = 1)) ++
  ((List.range 18).map fun k => check (Obj.CAR_CH_CTRL (6 + k)) (s.carMode (6 + k) ≠ 1)) ++
  [check (Obj.CAR_ROUTE 0) (s.routesOk), check (Obj.MEA_CH_CTRL 0) (s.meaImageOk), check (Obj.PRT_OV2) (s.prtImageOk)] ++
  [check (Obj.GPF_BAND_EDGE 0) ((List.range 14).all fun i => s.get (Obj.GPF_BAND_EDGE i) < s.get (Obj.GPF_BAND_EDGE (i + 1)))] ++
  ((List.range 6).map fun a => check (Obj.AGE_C_NOM a) (s.get (Obj.AGE_C_NOM a) ≠ 0)) ++
  [check (Obj.LNK_PAIR_NODES 0) (s.mappingOk), check (Obj.LNK_CASC_CFG 0) (s.cascOk)] ++
  ((List.range 50).map fun k => check (Obj.LAN_TX_INIT k) (tapsWordOk (s.getN (Obj.LAN_TX_INIT k)))) ++
  [check (Obj.TIM_SOURCE) (decide (s.get Obj.TIM_SOURCE = 2) == decide (s.treeRole = 2))] ++
  ((List.range 512).map fun src => check (Obj.ICU_SRC_CFG (src / 32) (src % 32)) (s.sourceOk src)) ++
  [check (Obj.CMT_RING_SIZE) (Config.cometRingFits (s.get Obj.CMT_RING_SIZE))]

/-! ## Applying the records -/

/-- What an image's load begins from: every setting at its default; the band tables keep their values of OTP (R355). -/
def State.imageBase (s : State) : State :=
  let kept := s.objs.filter fun e => match Obj.rowOf e.1 with
    | some r => r.access ≠ .rw || (0x2D10 ≤ e.1 / 256 && e.1 / 256 ≤ 0x2D15)
    | none => true
  let s1 := { s with objs := kept, dict := { s.dict with tunables := [] } }
  if s.get Obj.DEV_UNIT = 1 then (s1.put (Obj.CAN_NODE_ID 0) 17).put (Obj.CAN_NODE_ID 1) 17 else s1

/-- One record as a write from the Service role in CONFIG under steps 1 to 8 of Table 17.2. A record naming a command sets nothing. -/
def State.imageRecord (s : State) (key length : Nat) (v : Int) : State × Option Refused :=
  if !Obj.indexExists (key / 256) then (s, some ⟨abNoObject, 1⟩) else
  match Obj.rowOf key with
  | none => (s, some ⟨abNoSub, 1⟩)
  | some row =>
    if row.access = .ro then (s, some ⟨abWriteRo, 2⟩) else
    match lengthRefused row key length with
    | some r => (s, some r)
    | none =>
      if !(bitOf (s.fieldStates row key v) stConfig) || s.entryBusy key v then (s, some ⟨abState, 6⟩)
      else if !s.valueOk row key (ObjRow.masked row v) then (s, some ⟨abRange, 7⟩)
      else if row.access = .wo then (s, none)
      else (s.put key (ObjRow.masked row v), none)

/-- Records in ascending index and subindex up to the first that fails. DEDUCED (log entry 94): unsafe. -/
def State.imageRecords (s : State) : List (Nat × Nat × Int) → State × Option (Nat × Refused)
  | [] => (s, none)
  | (key, length, v) :: rest =>
    match s.imageRecord key length v with
    | (_, some r) => (s, some (key, r))
    | (s1, none) => s1.imageRecords rest

/-- Lanes of cascade groups sleep by themselves where no record says otherwise: their default differs (Table 11.11).
DEDUCED (log entry 63): unsafe. -/
def State.sleepDefaults (s : State) (records : List (Nat × Nat × Int)) : State :=
  s.forAll ((List.range 48).filter fun k => s.cascLane k && records.all fun e => e.1 ≠ Obj.LAN_SLEEP_CFG k) fun s k =>
    s.put (Obj.LAN_SLEEP_CFG k) 1

/-- R480 on the key slot: 2 or 3, or 0 or 1 while neither of those is programmed; programmed and not revoked. -/
def State.imageSlotOk (s : State) (slot : Nat) : Bool :=
  slot ≤ 3 && bitOf s.otp.programmed slot && !bitOf s.otp.revoked slot && (2 ≤ slot || field s.otp.programmed 2 2 = 0)

/-- The configuration that an image gives, or its first failure: entry (0 for the header) and refusal (R445, R480).
DEDUCED (log entry 94): unsafe. -/
def State.imageCheck (s : State) (img : DictImage) : State × Option (Nat × Refused) :=
  if !img.verified || !s.imageSlotOk img.slot then (s, some (0, ⟨abStore, 8⟩))
  else if (img.product ≠ 0x07680008 && img.product ≠ 0x07680004) || img.layout / 65536 ≠ 1 then (s, some (0, ⟨abRange, 8⟩))
  else
    match s.imageBase.imageRecords (sortBy (fun a b => a.1 ≤ b.1) img.records) with
    | (s1, some e) => (s1, some e)
    | (s0, none) =>
      let s1 := s0.sleepDefaults img.records
      match s1.crossChecks.find? fun c => !c.2 with
      | some c => (s1, some (c.1, ⟨abRange, 8⟩))
      | none => (s1, none)

/-- What follows from a new configuration: derived bases, switching caps, channels, pins and PLLs. -/
def State.configured (s old : State) : State :=
  let s1 := s.swgBases.swCaps.degShow
  let s2 := (List.range 24).foldl (fun s k => if s.bit (Obj.CAR_CH_CMD k) 0 then (s.carModeSet k).carSetCommit k true else s.carModeSet k) s1
  let s3 := if s2.meaOn then s2.meaStart else s2
  let s4 := (List.range 6).foldl (fun s p =>
    if s.get (Obj.CLK_PLL_CTRL p) = old.get (Obj.CLK_PLL_CTRL p) then s
    else (s.put (Obj.CLK_PLL_CTRL p) (old.get (Obj.CLK_PLL_CTRL p))).pllCtrl p (s.getN (Obj.CLK_PLL_CTRL p))) s3
  let s5 := (List.range 8).foldl (fun s e =>
    if s.bit Obj.ENG_ENABLE e = old.bit Obj.ENG_ENABLE e then s else s.engLoad e (s.getN (Obj.ENG_IMAGE_ID e))) s4
  s5.prtExtFollow.restRole

/-- Loads an image in CONFIG: accepted, with its source, or refused as a whole (R445). DESIGN CHOICE (log entry 93): safe. -/
def State.imageLoad (s : State) (img : DictImage) (source : Nat) : State × Option Refused :=
  match s.imageCheck img with
  | (_, some (key, r)) =>
    let s1 := (s.put Obj.DEV_IMAGE_FIRST_FAIL (key * 256 + r.reason : Nat)).put Obj.DEV_IMAGE_FAIL_ABORT r.abort
    ((s1.put Obj.DEV_IMAGE_STATUS 2).raise 453, some r)
  | (s1, none) =>
    let s2 := { s1 with
      dict := { s1.dict with image := some img, live := true }
      gpf := { s1.gpf with base := img.descriptors, tuned := [] } }
    let s3 := ((s2.put Obj.DEV_IMAGE_STATUS 1).put Obj.DEV_IMAGE_ID img.checkWord).put Obj.DEV_IMAGE_SOURCE source
    let s4 := s3.put Obj.ORB_DEG_SET_ID (((img.degraded).map fun d => d.1).getD 0 : Nat)
    ((s4.configured s).raise 452, none)

/-! ## The boot directory (R477) -/

/-- The copy in force with its number. -/
def State.dirCopy (s : State) : Option (Nat × Directory) :=
  match s.flash.dirs.getD 0 none, s.flash.dirs.getD 1 none with
  | some a, some b => if orbLater b.seq a.seq then some (1, b) else some (0, a)
  | some a, none => some (0, a)
  | none, some b => some (1, b)
  | none, none => none

/-- The directory in force; with neither copy valid bank 0 is preferred for both and every bank counts as valid. -/
def State.directory (s : State) : Directory :=
  (s.dirCopy.map (·.2)).getD { seq := 0, preferredFw := 0, preferredDict := 0, valid := 15 }

/-- The copy not in force is rewritten with the next sequence number. -/
def State.dirRewrite (s : State) (f : Directory → Directory) : State :=
  let d := f s.directory
  let other := match s.dirCopy with
    | some (0, _) => 1
    | _ => 0
  { s with flash := { s.flash with dirs := s.flash.dirs.set other (some { d with seq := (s.directory.seq + 1) % 2 ^ 32 }) } }

/-- The check words of the banks as DEV_IMAGE_BANKS shows them, 0 for an invalid one. -/
def State.banksShow (s : State) : State :=
  let word := fun (b : Nat) => if bitOf s.directory.valid (2 + b) then ((s.flash.banks.getD b none).map (·.checkWord)).getD 0 else 0
  s.put Obj.DEV_IMAGE_BANKS (word 0 + 2 ^ 32 * word 1 : Nat)

/-! ## The load at CONFIG (R446) -/

/-- One bank with its two attempts; `reads` says of each whether the bank was read without error. -/
def State.bankLoad (s : State) (bank : Nat) (reads : List Bool) : State × Bool :=
  let try_ := fun (s : State) (ok : Bool) =>
    match s.flash.banks.getD bank none, ok with
    | some img, true =>
      match s.imageLoad img (bank + 1) with
      | (s1, none) => (s1, true)
      | (s1, some _) => (s1, false)
    | _, _ => ((s.put Obj.DEV_IMAGE_STATUS 2).raise 453, false)
  match try_ s (reads.getD 0 true) with
  | (s1, true) => (s1, true)
  | (s1, false) =>
    match try_ s1 (reads.getD 1 true) with
    | (s2, true) => (s2.siteOutcome 0x11 (Config.unlistedCode 4) bank [] false, true)
    | (s2, false) => (s2.siteOutcome 0x11 453 bank [] true, false)

/-- The load at the entry to CONFIG from BOOT: the preferred bank, then the other, each with two attempts. -/
def State.imageBoot (s : State) (reads : List Bool) : State :=
  let first := s.directory.preferredDict % 2
  match s.banksShow.bankLoad first (reads.take 2) with
  | (s1, true) => { s1 with boot := { s1.boot with dictBank := first } }
  | (s1, false) =>
    match s1.bankLoad (1 - first) (reads.drop 2) with
    | (s2, true) => { (s2.bump Obj.DEV_IMAGE_FALLBACK_COUNT).raise 454 with boot := { s2.boot with dictBank := 1 - first } }
    | (s2, false) => { s2.put Obj.DEV_IMAGE_STATUS 0 with boot := { s2.boot with dictBank := 0xFF } }

/-! ## The live configuration (R447, R448) -/

/-- The default of an entry on this unit: the node-IDs default to 16 plus the unit (R434); none reads 0.
DEDUCED (log entry 63): unsafe. -/
def State.defaultOf (s : State) (key : Nat) : Int :=
  if key / 256 = 0x2A17 && s.cascLane (key % 256 - 1) then 1
  else if key = Obj.CAN_NODE_ID 0 || key = Obj.CAN_NODE_ID 1 then 16 + s.get Obj.DEV_UNIT
  else if Obj.resetValue key = Obj.absent then 0 else Obj.resetValue key

/-- Entries of the live configuration: settings that may be written in CONFIG and differ from their defaults, the latest write of
each. DEDUCED (log entry 95): unsafe. -/
def State.liveRecords (s : State) : List (Nat × Nat × Int) :=
  let nodeIds := [Obj.CAN_NODE_ID 0, Obj.CAN_NODE_ID 1] ++ ((List.range 48).filter s.cascLane).map Obj.LAN_SLEEP_CFG
  let ids := (nodeIds.filter fun k => s.get k ≠ s.defaultOf k).map fun k => (k, 1, s.get k)
  let all := s.dict.tunables.foldl (fun (l : List (Nat × Int)) e => Store.write l e.1 e.2 (Obj.resetValue e.1)) s.objs
  ids ++ (all.filter fun e => decide (e.1 ∉ nodeIds)).filterMap fun e => match Obj.rowOf e.1 with
    | some r => if r.access = .rw && bitOf r.states stConfig then (ObjType.length r.type).map fun n => (e.1, n, e.2) else none
    | none => none

/-- Descriptors in force that differ from the dictionary's base, the tuned ones folded in. -/
def State.liveDescriptors (s : State) : List (Nat × Nat) :=
  s.gpf.tuned ++ s.gpf.base.filter fun e => (pairGet s.gpf.tuned e.1).isNone

/-- The image that a store would write now. Its check word, bytes of a hash, is left open. DEDUCED (log entry 95): unsafe. -/
def State.liveImage (s : State) : DictImage :=
  { checkWord := unsigned 32 s.free
    product := Config.productCode.toNat
    layout := s.getN Obj.DEV_DICT_LAYOUT
    slot := (s.dict.image.map (·.slot)).getD 2
    verified := true
    size := Config.imageSize s.freeCtr
    records := s.liveRecords
    degraded := s.dict.image.bind (·.degraded)
    descriptors := s.liveDescriptors
    ageing := some s.freeze.ageing }

/-- Once a second, while the live configuration has changed, a new generation completes (R448). -/
def State.imageGen (s : State) : State :=
  if !s.dict.live || s.dict.image.isNone then s else
  let gen : Nat := if s.hasData Obj.DEV_IMAGE_GEN then (s.getN Obj.DEV_IMAGE_GEN + 1) % 2 ^ 32 else 1
  { (s.put Obj.DEV_IMAGE_GEN gen).usedFree with dict := { s.dict with readImage := some s.liveImage, live := false } }

/-- The bytes of the present generation of DEV_IMAGE_READ. DESIGN CHOICE (log entry 93): safe. -/
def State.imageBytes (s : State) : Option (List Nat) :=
  s.dict.readImage.map fun img => (List.range img.size).map fun i => (Config.imageByte (s.getN Obj.DEV_IMAGE_GEN) i).toNat

/-- The bank that a store writes: the one not in force; with neither in force, the one not preferred. -/
def State.storeBank (s : State) : Nat :=
  if s.get Obj.DEV_IMAGE_SOURCE = 1 then 1
  else if s.get Obj.DEV_IMAGE_SOURCE = 2 then 0
  else 1 - s.directory.preferredDict % 2

/-- A store begins: the values are frozen and a flush is demanded (R447, R462). -/
def State.storeBegin (s : State) (route : Route) : State :=
  let job : ImageStore := { bank := s.storeBank, attempt := 1, image := s.liveImage, route := route }
  let s1 := { s.usedFree with dict := { s.dict with storing := some job } }
  (s1.put Obj.DEV_IMAGE_STATUS 4).freezeNow.demandFlush

/-- The store and its verify end; answers how the write is answered: none while it goes on. -/
def State.storeDone (s : State) (ok : Bool) : State × Option (Route × Nat) :=
  match s.dict.storing with
  | none => (s, none)
  | some j =>
    let status : Int := if s.dict.image.isSome then 1 else 0
    let idle := { s with dict := { s.dict with storing := none } }.put Obj.DEV_IMAGE_STATUS status
    if ok then
      let s1 := { idle with flash := { idle.flash with banks := idle.flash.banks.set j.bank (some j.image) } }
      let s2 := (s1.dirRewrite fun d => { d with preferredDict := j.bank, valid := withBit d.valid (2 + j.bank) true }).banksShow
      let s3 := if j.attempt = 1 then s2 else s2.siteOutcome 0x12 (Config.unlistedCode 5) j.bank [] false
      (s3.raise 455, some (j.route, 0))
    else if j.attempt = 1 then
      ({ s with dict := { s.dict with storing := some { j with attempt := 2 } } }, none)
    else
      let s1 := { idle with flash := { idle.flash with banks := idle.flash.banks.set j.bank none } }
      let s2 := (s1.dirRewrite fun d => { d with valid := withBit d.valid (2 + j.bank) false }).banksShow
      ((s2.raise 456).siteOutcome 0x12 456 j.bank [] true, some (j.route, abStore))

end Sys2Proof.Machine
end

