-- ==== Sys2Proof/Machine/Sha.lean ====
section
/-!
DEFINITION. SHA-256 (FIPS 180-4) and HMAC (RFC 2104), which R425 names for the response to a challenge.
-/

namespace Sys2Proof.Machine

/-- The round constants. -/
def shaK : List Nat :=
  [0x428a2f98, 0x71374491, 0xb5c0fbcf, 0xe9b5dba5, 0x3956c25b, 0x59f111f1, 0x923f82a4, 0xab1c5ed5,
   0xd807aa98, 0x12835b01, 0x243185be, 0x550c7dc3, 0x72be5d74, 0x80deb1fe, 0x9bdc06a7, 0xc19bf174,
   0xe49b69c1, 0xefbe4786, 0x0fc19dc6, 0x240ca1cc, 0x2de92c6f, 0x4a7484aa, 0x5cb0a9dc, 0x76f988da,
   0x983e5152, 0xa831c66d, 0xb00327c8, 0xbf597fc7, 0xc6e00bf3, 0xd5a79147, 0x06ca6351, 0x14292967,
   0x27b70a85, 0x2e1b2138, 0x4d2c6dfc, 0x53380d13, 0x650a7354, 0x766a0abb, 0x81c2c92e, 0x92722c85,
   0xa2bfe8a1, 0xa81a664b, 0xc24b8b70, 0xc76c51a3, 0xd192e819, 0xd6990624, 0xf40e3585, 0x106aa070,
   0x19a4c116, 0x1e376c08, 0x2748774c, 0x34b0bcb5, 0x391c0cb3, 0x4ed8aa4a, 0x5b9cca4f, 0x682e6ff3,
   0x748f82ee, 0x78a5636f, 0x84c87814, 0x8cc70208, 0x90befffa, 0xa4506ceb, 0xbef9a3f7, 0xc67178f2]

/-- The initial hash value. -/
def shaInit : List Nat :=
  [0x6a09e667, 0xbb67ae85, 0x3c6ef372, 0xa54ff53a, 0x510e527f, 0x9b05688c, 0x1f83d9ab, 0x5be0cd19]

/-- Rotation of a 32-bit word to the right. -/
def rotr (x n : Nat) : Nat := x / 2 ^ n + x % 2 ^ n * 2 ^ (32 - n)

/-- The complement of a 32-bit word. -/
def not32 (x : Nat) : Nat := 0xFFFFFFFF - x

/-- The next word of the schedule from the sixteen before it, newest first. -/
def shaNext (w : List Nat) : Nat :=
  let a := w.getD 14 0
  let b := w.getD 1 0
  let s0 := rotr a 7 ^^^ rotr a 18 ^^^ (a / 8)
  let s1 := rotr b 17 ^^^ rotr b 19 ^^^ (b / 1024)
  (w.getD 15 0 + s0 + w.getD 6 0 + s1) % 2 ^ 32

/-- The schedule of n more words, newest first. -/
def shaSchedule (w : List Nat) : Nat → List Nat
  | 0 => w
  | n + 1 => shaSchedule (shaNext w :: w) n

/-- One round on the eight working variables. -/
def shaRound (v : List Nat) (k w : Nat) : List Nat :=
  match v with
  | [a, b, c, d, e, f, g, h] =>
    let s1 := rotr e 6 ^^^ rotr e 11 ^^^ rotr e 25
    let ch := (e &&& f) ^^^ (not32 e &&& g)
    let t1 := h + s1 + ch + k + w
    let s0 := rotr a 2 ^^^ rotr a 13 ^^^ rotr a 22
    let maj := (a &&& b) ^^^ (a &&& c) ^^^ (b &&& c)
    [(t1 + s0 + maj) % 2 ^ 32, a, b, c, (d + t1) % 2 ^ 32, e, f, g]
  | _ => v

/-- A big-endian word of four bytes. -/
def beWord (b : List Nat) : Nat := b.foldl (fun v x => 256 * v + x % 256) 0

/-- The n first words of a block, newest first. -/
def shaWords : List Nat → Nat → List Nat → List Nat
  | _, 0, acc => acc
  | b, n + 1, acc => shaWords (b.drop 4) n (beWord (b.take 4) :: acc)

/-- One block of 64 bytes. -/
def shaBlock (h : List Nat) (b : List Nat) : List Nat :=
  let w := (shaSchedule (shaWords b 16 []) 48).reverse
  let v := (shaK.zip w).foldl (fun v e => shaRound v e.1 e.2) h
  (h.zip v).map fun e => (e.1 + e.2) % 2 ^ 32

/-- The blocks of a padded message. -/
def shaBlocks (h : List Nat) : List Nat → Nat → List Nat
  | _, 0 => h
  | m, n + 1 => shaBlocks (shaBlock h (m.take 64)) (m.drop 64) n

/-- A number as n bytes, most significant first. -/
def beBytes (v n : Nat) : List Nat := (bytesOf v n).reverse

/-- SHA-256 of bytes. PRESUMED (log entry 19): unsafe. -/
def sha256 (m : List Nat) : List Nat :=
  let zeros := (119 - m.length % 64) % 64
  let p := m ++ [0x80] ++ List.replicate zeros 0 ++ beBytes (8 * m.length) 8
  (shaBlocks shaInit p (p.length / 64)).flatMap fun w => beBytes w 4

/-- HMAC-SHA-256 under a key of at most 64 bytes. PRESUMED (log entry 19): unsafe. -/
def hmacSha256 (key m : List Nat) : List Nat :=
  let k := key ++ List.replicate (64 - key.length) 0
  sha256 (k.map (· ^^^ 0x5C) ++ sha256 (k.map (· ^^^ 0x36) ++ m))

end Sys2Proof.Machine
end

