-- ==== Sys2Proof/Machine/Dictionary.lean ====
section
/-!
DEFINITION. The dictionary server (chapter 17): sessions and authentication (R424 to R427), the conditions and the commit of every
writable entry (R429 to R431), mirroring (R449), refusals (R428) and reads.
-/

namespace Sys2Proof.Machine

/-- The dictionary is served: in CONFIG, LINKUP, BLOCKED, RUN and TRIP (Table 1.7). -/
def State.dictServed (s : State) : Bool := 2 ≤ s.devState && s.devState ≤ 6

/-! ## Sessions -/

/-- Changes the dictionary servers. -/
def State.withDict (s : State) (f : Dict → Dict) : State := { s with dict := f s.dict }

/-- The session that a request belongs to. -/
def Sender.owns (f : Sender) (e : Session) : Bool := e.channel = f.channel && e.id = f.session

/-- The session of a sender. -/
def State.session (s : State) (f : Sender) : Option Session := s.dict.sessions.find? (Sender.owns f)

/-- Changes a sender's session. -/
def State.withSession (s : State) (f : Sender) (g : Session → Session) : State :=
  s.withDict fun d => { d with sessions := d.sessions.map fun e => if Sender.owns f e then g e else e }

/-- The role of a sender: of its session; a core has none (R424). -/
def State.roleOf (s : State) (f : Sender) : Nat := ((s.session f).map (·.role)).getD 0

/-- A request is heard from a sender (R424). -/
def State.heard (s : State) (f : Sender) : State := s.withSession f fun e => { e with lastRequest := s.now }

/-- A fresh session. -/
def Session.fresh (channel id now : Nat) : Session :=
  { channel := channel, id := id, role := 0, lastRequest := now, lastDatagram := now, challenge := none, challengeGen := 0
    transfer := none, answers := [] }

/-- TDS_SESSIONS_OPEN follows the open sessions. -/
def State.sessionsShow (s : State) : State :=
  s.put Obj.TDS_SESSIONS_OPEN (s.dict.sessions.filter fun e => e.channel = 2 || e.channel = 3).length

/-- A TDS session closes with its transfer (R440). -/
def State.sessionClose (s : State) (f : Sender) : State :=
  if (s.session f).isNone then s else
  ((s.withDict fun d => { d with sessions := d.sessions.filter fun e => !Sender.owns f e }).sessionsShow).raise 457

/-- Every session of a port closes. -/
def State.portClose (s : State) (channel : Nat) : State :=
  (s.dict.sessions.filter (·.channel = channel)).foldl (fun s e => s.sessionClose ⟨channel, e.id⟩) s

/-! ## Answers and refusals (R428) -/

/-- The answer of a request leaves: abort code or 0, with the data of a read. A TDS answer is stored under its SEQ (R441). -/
def State.reply (s : State) (r : Route) (abort : Nat) (data : List Nat) : State :=
  match r with
  | .plain => s.emit (if abort = 0 then .done else .abort abort)
  | .usdo port => if s.canOpen port then s.emit (.usdo port (0x580 + s.dict.nodeIds.getD port 16) abort data) else s
  | .tds port session seq op =>
    let o := Out.tds port session op seq abort abort false data
    (s.withSession ⟨port, session⟩ fun e => { e with answers := ((seq, o) :: e.answers).take 16 }).emit o

/-- DEV_REFUSAL_CHANNEL's value for a sender. -/
def channelOf (f : Sender) : Nat := if f.channel ≤ 5 then f.channel else 4

/-- A refusal is recorded, counted and raised (R428). -/
def State.refuse (s : State) (f : Sender) (index sub : Nat) (r : Refused) : State :=
  let s1 := ((s.put Obj.DEV_REFUSAL_ABORT r.abort).put Obj.DEV_REFUSAL_INDEX index).put Obj.DEV_REFUSAL_SUBINDEX sub
  let s2 := ((s1.put Obj.DEV_REFUSAL_REASON r.reason).put Obj.DEV_REFUSAL_CHANNEL (channelOf f)).put Obj.DEV_REFUSAL_TIME s.time32
  ((s2.bump Obj.DEV_REFUSAL_COUNT).count 0x15).raise 448 |>.journalFull 448 noSubject
    (bytesOf r.abort 4 ++ bytesOf index 2 ++ [sub % 256, r.reason, channelOf f]) 0x15 false false

/-! ## Authentication (R425 to R427) -/

/-- A channel is locked out (R426). -/
def State.lockedOut (s : State) (channel : Nat) : Bool := decide (channel ∈ s.dict.locked)

/-- A challenge is drawn for a session. -/
def State.authRequest (s : State) (f : Sender) (role : Nat) : State :=
  let c : Challenge := { bytes := (Config.randomWord s.freeCtr).toNat, role := role, time := s.now, used := false }
  (s.withSession f fun e => { e with challenge := some c, challengeGen := (e.challengeGen + 1) % 2 ^ 32 }).usedFree

/-- The response that R425 asks for. -/
def State.authExpected (s : State) (f : Sender) (c : Challenge) : List Nat :=
  hmacSha256 ((s.dict.keys.getD (c.role - 1) []).map (·.toNat))
    (bytesOf c.bytes 16 ++ [c.role, f.channel] ++ bytesOf (Config.serialNumber.toNat) 4 ++ bytesOf f.session 4)

/-- The role whose key is all zeros is disabled. -/
def State.keyZero (s : State) (role : Nat) : Bool := (s.dict.keys.getD (role - 1) []).all (· = 0)

/-- A response that grants its role: on the session's own unused challenge, within 30 s, under a key that is not zero. -/
def State.authOk (s : State) (f : Sender) (data : List Nat) : Bool :=
  match (s.session f).bind (·.challenge) with
  | none => false
  | some c => !c.used && decide (s.now ≤ c.time + 30000000000) && !s.keyZero c.role && decide (data = s.authExpected f c)

/-- The role of the challenge is granted. DEDUCED (log entry 101): unsafe. -/
def State.authGrant (s : State) (f : Sender) : State :=
  (s.withSession f fun e => { e with
    role := (e.challenge.map (·.role)).getD 0, challenge := e.challenge.map fun c => { c with used := true } }).raise 449

/-- A failed response: the challenge is used up, the failure counted and logged, and the fifth within 60 s locks the channel. -/
def State.authFail (s : State) (f : Sender) : State :=
  let s1 := s.withSession f fun e => { e with challenge := e.challenge.map fun c => { c with used := true } }
  let s2 := ((s1.bump Obj.DEV_AUTH_FAIL_COUNT).count 0x1C).raise 450
  let s3 := s2.journalFull 450 f.channel [] 0x1C false false
  let recent := (f.channel, s.now) :: s3.dict.failures.filter fun e => decide (s.now < e.2 + 60000000000)
  let s4 := s3.withDict fun d => { d with failures := recent }
  if 5 ≤ (recent.filter (·.1 = f.channel)).length && !s4.lockedOut f.channel then
    (s4.withDict fun d => { d with locked := f.channel :: d.locked }).raise 451
  else s4

/-- A session's role ends. -/
def State.roleDrop (s : State) (f : Sender) : State := s.withSession f fun e => { e with role := 0 }

/-- A role key is written: stored in both copies, and every session that holds the role loses it (R427). -/
def State.keyWrite (s : State) (role : Nat) (data : List Nat) : State :=
  let key := data.map fun b => BitVec.ofNat 8 b
  let s1 := { s with flash := { s.flash with keys := s.flash.keys.set (role - 1) key } }
  s1.withDict fun d => { d with
    keys := d.keys.set (role - 1) key
    sessions := d.sessions.map fun e => if e.role = role then { e with role := 0 } else e }

/-! ## Step 9: the conditions of each entry's own rule -/

/-- An open upload of an entry on any session. -/
def State.uploading (s : State) (key : Nat) : Bool :=
  s.dict.sessions.any fun e => e.transfer.any fun t => t.upload && t.key = key

/-- The condition of R431 that a state request fails, as its reason code. DEDUCED (log entry 75): unsafe. -/
def State.stateReason (s : State) (v : Int) : Option Nat :=
  if v = 2 then (if s.devState = stLinkup || s.devState = stBlocked then none else some 0x20)
  else if v = 3 then
    if s.devState ≠ stConfig then some 0x20 else if s.dict.image.isNone then some 0x21 else none
  else if v = 4 then (if s.devState = stRun then none else some 0x20)
  else if s.devState ≠ stBlocked then some 0x20
  else if s.pins.armEn ≠ some true then some 0x22
  else if s.get Obj.PRT_TRIP_ACTIVE ≠ 0 then some 0x23
  else if !s.degPresent then some 0x24
  else if !s.owner then some 0x25
  else none

/-- What an entry's own rule says against a write now; `img` is the image that a DOMAIN write carries. -/
def State.condition (s : State) (f : Sender) (key : Nat) (v : Int) (data : List Nat) (img : Option DictImage) : Option Refused :=
  let refused := fun (ok : Bool) => if ok then none else some (⟨abState, 8⟩ : Refused)
  let one := fun (ok : Bool) => refused (v ≠ 1 || ok)
  if key = Obj.DEV_STATE_REQ then (s.stateReason v).map fun r => ⟨abState, r⟩
  else if key = Obj.DEV_AUTH_REQ then refused ((s.session f).isSome && !s.lockedOut f.channel)
  else if key = Obj.DEV_AUTH_RESPONSE then refused (s.authOk f data)
  else if key = Obj.DEV_IMAGE then
    if s.dict.storing.isSome then some ⟨abState, 8⟩ else
    match img with
    | none => some ⟨abStore, 8⟩
    | some i => ((s.imageCheck i).2).map fun e => ⟨e.2.abort, 8⟩
  else if key = Obj.DEV_IMAGE_STORE then
    if v ≠ 1 then none
    else if s.dict.storing.isSome then some ⟨abState, 8⟩
    else if 8388608 < ((s.dict.image.map (·.size)).getD 0) then some ⟨abStore, 8⟩
    else none
  else if key = Obj.BLK_SYNC_REQ then one s.syncAllowed
  else if key = Obj.RNK_REINSTATE then refused (s.reinstateAllowed v.toNat)
  else if key / 256 = 0x2711 then refused (!bitOf v.toNat 3 || s.bit key 3 || bitOf v.toNat 0)
  else if key = Obj.LAN_EYE_START then one s.eyeAllowed
  else if key = Obj.RED_RESYNC_REQ then one s.resyncAllowed
  else if key = Obj.RED_SWAP_REQ then one s.swapAllowed
  else if key = Obj.TIM_SET_TIME then refused !s.stepped
  else if key = Obj.TIM_REEPOCH_REQ then one s.reepochAllowed
  else if key = Obj.PWR_SLEEP_REQ then one s.sleepAllowed
  else if key / 256 = 0x2E06 then one (s.bit Obj.ENG_ENABLE (unitOf key))
  else if key = Obj.CMT_ARM then one s.cmtArm.2
  else if key = Obj.CMT_REC_RELEASE then
    match (s.cmtRelease v.toNat).2 with
    | some a => some ⟨a, if a = abNoData then 9 else 8⟩
    | none => none
  else if key = Obj.LOG_EXPORT_REQ then one (!s.uploading 0x30000C)
  else none

/-- What the entry's own rule does on its refusal (R426, R331, R411, R445). -/
def State.refusalEffect (s : State) (f : Sender) (key : Nat) (img : Option DictImage) : State :=
  if key = Obj.DEV_AUTH_RESPONSE then s.authFail f
  else if key = Obj.TIM_SET_TIME || key = Obj.TIM_REEPOCH_REQ then s.bump Obj.TIM_STEP_REFUSED
  else if key = Obj.CMT_ARM then s.cmtArm.1
  else if key = Obj.DEV_IMAGE && s.dict.storing.isNone then
    match img with
    | some i => (s.imageLoad i 3).1
    | none => ((s.put Obj.DEV_IMAGE_FIRST_FAIL 8).put Obj.DEV_IMAGE_FAIL_ABORT abStore).put Obj.DEV_IMAGE_STATUS 2 |>.raise 453
  else s

/-! ## The commit (R429) -/

/-- An accepted state request begins its transition (R431). DEDUCED (log entry 75): unsafe. -/
def State.stateBegin (s : State) (v : Int) : State :=
  let s1 := s.bump Obj.DEV_REQ_COUNT
  if v = 2 then s1.enterConfig.avsEnter
  else if v = 3 then s1.enterLinkup
  else if v = 4 then s1.enterBlocked
  else s1.enterRun (v = 21)

/-- TIM_SET_TIME: the value of the first step; with source FREE the step itself (R331). -/
def State.setTimeCommit (s : State) (v : Int) : State :=
  let s1 := s.withTim fun t => { t with setTime := some v.toNat }
  if s.get Obj.TIM_SOURCE = 3 && s.tim.pendingStep.isNone then s1.makeStep (v - s.nowExt) else s1

/-- TIM_REEPOCH_REQ: the step at its boundary, mirrored as a change record (R336). -/
def State.reepochCommit (s : State) : State :=
  let b := s.boundaryAhead
  let d := -s.tim.lastOffset
  let s1 := s.reepoch b
  if s.orbRunning then s1.change (.step d) b else s1

/-- The effect of a write that is more than the entry's new value, on the unit that the entry configures; the entry holds it. -/
def State.configureUnit (s : State) (key : Nat) (v : Int) : State :=
  let k := unitOf key
  match key / 256 with
  | 0x1E00 => if key % 256 = 1 && v = 1 then s.setBit (Obj.CAN_STATUS 0) 3 false else s
  | 0x1E01 => if key % 256 = 1 && v = 1 then s.setBit (Obj.CAN_STATUS 1) 3 false else s
  | 0x2100 => if key = Obj.ORB_DEG_FORCE then s.noteNeed else if key ≤ Obj.ORB_DEG_PERIOD then s.swCaps.degShow else s
  | 0x2200 => s.swgBases
  | 0x2311 => s.swgBases
  | 0x2601 => s.meaGroupConfigured k
  | 0x2610 => s.meaConfigured k
  | 0x2611 => s.meaConfigured k
  | 0x2612 => s.meaConfigured k
  | 0x2613 => s.meaConfigured k
  | 0x2614 => s.meaConfigured k
  | 0x2615 => s.meaConfigured k
  | 0x2616 => s.meaConfigured k
  | 0x2617 => s.meaConfigured k
  | 0x2700 => s.prtExtFollow
  | 0x2711 => (s.forAll [k] fun s k =>
      if !s.dchEnabled k && s.bit (Obj.PRT_DCH_CTRL k) 3 then s.setBit (Obj.PRT_DCH_CTRL k) 3 false else s).dchEval k
  | 0x2E00 => (List.range 8).foldl (fun s e =>
      if s.bit Obj.ENG_ENABLE e = decide (s.get (Obj.ENG_STATE e) ≠ 0) then s else s.engLoad e (s.getN (Obj.ENG_IMAGE_ID e))) s
  | n => if 0x2640 ≤ n && n ≤ 0x2647 then s.meaBankConfigured (n - 0x2640) else s

/-- A plan is submitted (R215, R216): refused as PENDING while one is being checked, and on an ACTIVE unit with a STANDBY partner sent
to it at once (R310). -/
def State.planOffer (s : State) (plan : Plan) (gen : Nat) (agent : Bool) (route : Option Route) : State :=
  let s1 := s.planSubmit plan gen agent route
  if s.age.submitted.isSome then
    match route with
    | some r => s1.reply r abState []
    | none => s1
  else if s.devRole = roleActive && s.partnerRole = some roleStandby then
    let rows := plan.rows.flatMap fun r => [r.n, r.ceil, r.floor, r.weight, r.action]
    (s1.withRed fun r => { r with planAcked := none }).emit (.record 0x310 ((gen :: plan.derate ++ rows).map fun (n : Nat) => (n : Int)))
  else s1

/-- The abort that answers a plan's outcome (R216). -/
def planAbort (code : Nat) : Nat := if code = 0 then 0 else if code ≤ 3 then abState else abRange

/-- The checks of a submitted plan end; one that would be accepted waits for the acknowledgement of a STANDBY partner (R217, R310). -/
def State.planChecked (s : State) : State :=
  let waits := s.devRole = roleActive && s.partnerRole = some roleStandby && s.age.submitted.any fun d =>
    (s.planCheck d).isNone && s.red.planAcked ≠ some d.gen
  if waits then s else
  match s.planCheckDone with
  | (s1, some (code, some route)) => s1.reply route (planAbort code) []
  | (s1, _) => s1

/-- A write-only entry: the command it stands for. -/
def State.command (s : State) (f : Sender) (route : Route) (key : Nat) (v : Int) (data : List Nat) (img : Option DictImage) : State :=
  let on := fun (g : State → State) => if v = 1 then g s else s
  if key = Obj.DEV_STATE_REQ then s.stateBegin v
  else if key = Obj.DEV_AUTH_REQ then s.authRequest f v.toNat
  else if key = Obj.DEV_AUTH_RESPONSE then s.authGrant f
  else if key = Obj.DEV_AUTH_LOGOUT then on fun s => s.roleDrop f
  else if key / 256 = 0x2011 then s.keyWrite (key % 256) data
  else if key = Obj.DEV_IMAGE then
    match img with
    | some i => (s.imageLoad i 3).1
    | none => s
  else if key = Obj.DEV_IMAGE_STORE then on fun s => s.storeBegin route
  else if key = Obj.AGE_PLAN_SUBMIT then
    let p := planOfBytes data
    s.planOffer p.1 p.2 true (some route)
  else if key = Obj.ORB_MARGIN_CLEAR then on State.marginClear
  else if key = Obj.RNK_REINSTATE then s.reinstate v.toNat
  else if key = Obj.MEA_PEAK_CLEAR then s.meaPeakClear v.toNat
  else if key = Obj.PRT_SOFT_TRIP then on fun s => s.eventCause causeSoft
  else if key = Obj.PRT_OV_PEAK_CLEAR then on fun s => (List.range 3).foldl (fun s i => s.put (Obj.PRT_OV_PEAK i) 0) s
  else if key = Obj.AGE_REPLAN_REQ then on State.replanDue
  else if key = Obj.LAN_EYE_START then on State.eyeStart
  else if key = Obj.LAN_EYE_ABORT then on State.eyeAbort
  else if key = Obj.RED_RESYNC_REQ then on State.resyncStart
  else if key = Obj.RED_SWAP_REQ then on fun s => s.withRed fun r => { r with swapDue := true }
  else if key = Obj.TIM_SET_TIME then s.setTimeCommit v
  else if key = Obj.TIM_REEPOCH_REQ then on State.reepochCommit
  else if key = Obj.CLK_PLL_RELOCK then s.pllRetry v.toNat
  else if key = Obj.PWR_SLEEP_REQ then on State.sleepAccept
  else if key = Obj.PWR_EXTREMES_CLEAR then on State.extremesClear
  else if key = Obj.ENG_REF_SLACK_CLEAR then on fun s => (List.range 8).foldl (fun s e => s.put (Obj.ENG_REF_SLACK_MIN e) 0x7FFFFFFF) s
  else if key / 256 = 0x2E06 then on fun s => s.engLoad (unitOf key) (s.getN (Obj.ENG_IMAGE_ID (unitOf key)))
  else if key = Obj.ICU_SW_SET then s.raise v.toNat
  else if key / 256 = 0x2E32 then s.icuClear (unitOf key) v.toNat
  else if key = Obj.CMT_ARM then on fun s => s.cmtArm.1
  else if key = Obj.CMT_ABORT then on State.cmtAbort
  else if key = Obj.CMT_FORCE_TRIG then on State.cmtSoft
  else if key = Obj.CMT_REC_RELEASE then (s.cmtRelease v.toNat).1
  else if key = Obj.LOG_EXPORT_REQ then on State.exportFreeze
  else if key = Obj.LOG_FLUSH_REQ then on State.demandFlush
  else s

/-- An entry that may be read and written takes a value, with what follows from it on its unit. -/
def State.setEntry (s : State) (key : Nat) (v : Int) : State :=
  let k := unitOf key
  if tunableKey key then
    let s1 := s.withDict fun d => { d with tunables := (d.tunables.filter (·.1 ≠ key)) ++ [(key, v)] }
    let s2 := if s1.get Obj.SWG_PARAM_HOLD = 1 then s1.setBit Obj.SWG_STATUS 11 true else s1
    if key = Obj.RNK_SW_RATE then (((s2.put key v).swCaps).put key (s2.get key)) else s2
  else if key = Obj.SWG_PARAM_HOLD then
    let s1 := s.put key v
    s1.setBit Obj.SWG_STATUS 11 (v = 1 && !s1.dict.tunables.isEmpty)
  else match key / 256 with
  | 0x2350 => if key = Obj.BLK_SYNC_REQ then (if v = 1 then s.syncStart else if s.syncOn then s.syncRelease else s) else s.put key v
  | 0x2510 =>
    let s1 := s.put key v
    if field (s.getN key ^^^ v.toNat) 0 4 ≠ 0 then s1.carModeSet k else s1
  | 0x2512 => s.carShadowWrite k 0 v.toNat
  | 0x2513 => s.carShadowWrite k 1 v.toNat
  | 0x2514 => s.carShadowWrite k 2 v.toNat
  | 0x2515 => s.carShadowWrite k 3 v.toNat
  | 0x2516 => s.carShadowWrite k 4 v.toNat
  | 0x2519 =>
    let s1 := if bitOf v.toNat 1 then s.carClearSticky k else s
    if bitOf v.toNat 0 then s1.carCommit k else s1
  | 0x2711 => 
    let s1 := if bitOf v.toNat 3 && !s.bit key 3 then s.raise 329 else s
    (s1.put key v).configureUnit key v
  | 0x2B00 =>
    if key = Obj.RED_PARTNER_ABSENT then
      (if v = 1 then s.absentSet else if s.get key = 1 then s.absentClear else s)
    else if key = Obj.RED_CTRL then (s.put key v).restRole
    else s.put key v
  | 0x2C50 => (s.put key (withField v.toNat 0 2 (field (s.getN key) 0 2) : Nat)).forAll [k] fun s k =>
      if field v.toNat 0 2 = field (s.getN key) 0 2 then s else s.genArm k (field v.toNat 0 2)
  | 0x2A16 => s.loopback k v.toNat
  | 0x2D01 => s.pllCtrl k v.toNat
  | 0x1E10 => if 2 ≤ key % 256 && s.get key ≠ v then (s.put key v).portClose 2 else s.put key v
  | 0x1E11 => if 2 ≤ key % 256 && s.get key ≠ v then (s.put key v).portClose 3 else s.put key v
  | n =>
    if 0x2E20 ≤ n && n ≤ 0x2E2F then s.icuConfigure (32 * (n - 0x2E20) + k) v.toNat
    else (s.put key v).configureUnit key v

/-- The commit of a mirrored or other read-write entry, as change records and resynchronisation use it. -/
def State.commitEntry (s : State) (key : Nat) (v : Int) : State :=
  { s.setEntry key v with dict := { (s.setEntry key v).dict with live := true } }

/-- The commit of a write. -/
def State.commitWrite (s : State) (f : Sender) (route : Route) (row : ObjRow) (key : Nat) (v : Int) (data : List Nat)
    (img : Option DictImage) : State :=
  if row.access = .wo then s.command f route key v data img else s.commitEntry key (ObjRow.masked row v)

/-- Writes whose answer leaves when their work ends (R216, R447). -/
def answersLater (key : Nat) (v : Int) : Bool := key = Obj.AGE_PLAN_SUBMIT || (key = Obj.DEV_IMAGE_STORE && v = 1)

/-! ## Judging (Table 17.2) -/

/-- Steps 5 to 9, judged at the request and again at the commit. -/
def State.judgeState (s : State) (f : Sender) (row : ObjRow) (key : Nat) (v : Int) (data : List Nat) (img : Option DictImage) :
    Option Refused :=
  if s.roleOf f < leastRole row key v then some ⟨abState, 4⟩
  else if s.mirrors row && !s.owner then some ⟨abState, 5⟩
  else if !s.stateAllows row key v then some ⟨abState, 6⟩
  else if !s.valueOk row key (ObjRow.masked row v) then some ⟨abRange, 7⟩
  else s.condition f key (ObjRow.masked row v) data img

/-- The longest DOMAIN of a transport: 65,536 bytes by segmented USDO (R434), 256 MiB by bulk download (R443). -/
def transportMax (r : Route) : Nat := match r with
  | .usdo _ => 65536
  | _ => 268435456

/-- Steps 1 to 9 on a write of `length` bytes. -/
def State.judgeWrite (s : State) (f : Sender) (route : Route) (index sub length : Nat) (data : List Nat) (img : Option DictImage) :
    Option Refused :=
  if !Obj.indexExists index then some ⟨abNoObject, 1⟩ else
  match Obj.find? index sub with
  | none => some ⟨abNoSub, 1⟩
  | some row =>
    if row.access = .ro then some ⟨abWriteRo, 2⟩ else
    let key := 256 * index + sub
    match lengthRefused row key length with
    | some r => some r
    | none =>
      if transportMax route < length then some ⟨abDomain, 3⟩
      else s.judgeState f row key (ObjType.value row.type data) data img

/-! ## Writes -/

/-- A refused write asks for a step of the counter: TIM_SET_TIME after the first step, or TIM_REEPOCH_REQ (R331, R336).
DEDUCED (log entry 115): unsafe. -/
def State.stepAsked (s : State) (key : Nat) (data : List Nat) : Bool :=
  (key = Obj.TIM_SET_TIME && s.stepped) || (key = Obj.TIM_REEPOCH_REQ && data = [1])

/-- A refused write: its record, what its rule does, and the answer. DEDUCED (log entry 115): unsafe. -/
def State.refuseWrite (s : State) (f : Sender) (route : Route) (index sub : Nat) (r : Refused) (data : List Nat)
    (img : Option DictImage) : State :=
  let key := 256 * index + sub
  let s1 := if r.reason = 8 then s.refusalEffect f key img
    else if r.abort = abState && s.stepAsked key data then s.bump Obj.TIM_STEP_REFUSED else s
  (s1.refuse f index sub r).reply route r.abort []

/-- The write of an entry (R428 to R430, R449): judged, and committed at once or, on an ACTIVE unit with a STANDBY partner, staged
for its boundary with its change record. -/
def State.requestWrite (s : State) (f : Sender) (route : Route) (index sub : Nat) (data : List Nat) (img : Option DictImage) : State :=
  if !s.dictServed then s else
  let s := s.heard f
  let length := match img with
    | some i => i.size
    | none => data.length
  match s.judgeWrite f route index sub length data img, Obj.find? index sub with
  | some r, _ => s.refuseWrite f route index sub r data img
  | none, none => s
  | none, some row =>
    let key := 256 * index + sub
    let v := ObjType.value row.type data
    if s.mirrors row && s.devRole = roleActive && s.partnerRole = some roleStandby && s.orbRunning then
      let b := s.boundaryAhead
      let w : StagedWrite := { sender := f, route := route, key := key, length := length, value := v, boundary := b }
      (s.withDict fun d => { d with staged := d.staged ++ [w] }).change (.entry key length (ObjRow.masked row v)) b
    else
      let s1 := s.commitWrite f route row key v data img
      if answersLater key v then s1 else s1.reply route 0 []

/-- Mirrored writes at the boundary: committed where their boundary has come, judged again; refused once the unit is not ACTIVE
(R449). DEDUCED (log entry 92): unsafe. -/
def State.stagedCommit (s : State) (w : StagedWrite) : State :=
  match Obj.rowOf w.key with
  | none => s
  | some row =>
    if s.devRole ≠ roleActive then s.refuseWrite w.sender w.route (w.key / 256) (w.key % 256) ⟨abState, 5⟩ [] none
    else match s.judgeState w.sender row w.key w.value [] none with
      | some r => s.refuseWrite w.sender w.route (w.key / 256) (w.key % 256) r [] none
      | none => (s.commitWrite w.sender w.route row w.key w.value [] none).reply w.route 0 []

/-- The boundary's staged writes; all of them are refused on a unit that is no longer ACTIVE. DEDUCED (log entry 42): unsafe. -/
def State.stagedDue (s : State) : State :=
  let due := s.dict.staged.filter fun w => s.devRole ≠ roleActive || !orbLater w.boundary s.orbCount
  let s1 := s.withDict fun d => { d with staged := d.staged.filter fun w => decide (w ∉ due) }
  due.foldl State.stagedCommit s1

end Sys2Proof.Machine
end

