-- ==== Sys2Proof/Machine/Read.lean ====
section
/-!
DEFINITION. Reads of the object dictionary (Table 17.2 steps 1 to 4 and 10, R430, R432): the entries that read live state of a unit,
and how a read is judged and answered.
-/

namespace Sys2Proof.Machine

/-- TDS runs on an Ethernet channel: served, the port is on, and its address is not 0 (R438). -/
def State.tdsOpen (s : State) (channel : Nat) : Bool :=
  (channel = 2 || channel = 3) && s.dictServed && s.served && s.get (Obj.ETH_MODE (channel - 2)) ≠ 0 &&
  s.get (Obj.ETH_IP (channel - 2)) ≠ 0

/-- ETH_STATUS as read: link, SGMII in use, TDS serving (Table 17.12). -/
def State.ethStatus (s : State) (port : Nat) : Nat :=
  ofFlags [s.bit (Obj.ETH_STATUS port) 0, s.bit (Obj.ETH_STATUS port) 0 && s.get (Obj.ETH_MODE port) = 2, s.tdsOpen (port + 2)]

/-- LNK_PAIR_BASE, the selected descriptor, the ageing summaries and the selected submodule: entries read from unit state by index
0x2521 to 0x29FF; none for another key. -/
def State.readValve (s : State) (key : Nat) : Option Int :=
  let i := unitOf key
  let used := (s.sm (s.getN Obj.GPF_SEL_SM)).isSome
  match key / 256 with
  | 0x2521 => some (s.carCounter i : Nat)
  | 0x271B => some ((s.dchAccrue i).get key)
  | 0x2760 =>
    let n := s.getN Obj.GPF_SEL_SM
    if key % 256 = 3 then some (if used then (s.gpfDesc n (s.getN Obj.GPF_SEL_DESC) : Nat) else Obj.absent)
    else if key % 256 = 4 then some (ofFlags [decide (n ∈ s.gpf.atBound), decide (n ∈ s.gpf.frozen)] : Nat)
    else none
  | 0x2841 => some ((s.armSms i).filter (·.cls = clsRetired)).length
  | 0x2870 => if key % 256 = 1 then none else some (orAbsent (s.ageSelected (key % 256)))
  | 0x2912 => some (s.pairBase i : Nat)
  | _ => none

/-- Comet's live and record entries (Table 16.11). -/
def State.readComet (s : State) (key : Nat) : Option Int :=
  let rec_ := fun (f : CmtRecord → Int) => some (orAbsent (s.cmtSelected.map f))
  if key = Obj.CMT_CAPACITY then some (s.cmtCapacity : Nat)
  else if key = Obj.CMT_RATE_CFG then some s.cmtRate
  else if key = Obj.CMT_COMA_TIME then some (s.cmtCover (s.getN Obj.CMT_COMA_BLOCKS))
  else if key = Obj.CMT_TAIL_TIME then some (s.cmtCover (s.getN Obj.CMT_TAIL_BLOCKS))
  else if key = Obj.CMT_REC_GEN then rec_ fun r => r.number
  else if key = Obj.CMT_REC_TRIG_TIME then rec_ fun r => r.trigTime
  else if key = Obj.CMT_REC_TRIG_SRC then rec_ fun r => r.trigSrc
  else if key = Obj.CMT_REC_FLAGS then rec_ fun r => r.flags
  else if key = Obj.CMT_REC_SIZE then rec_ fun r => (4096 + 64 * r.blocks.length : Nat)
  else if 0x2F50 ≤ key / 256 && key / 256 ≤ 0x2F56 then
    rec_ fun r => (r.anMeas.getD (unitOf key) []).getD (key / 256 - 0x2F50) 0
  else none

/-- Entries of the device, its clocks, time, engines and lanes that are computed at the read. -/
def State.readDevice (s : State) (f : Sender) (key : Nat) : Option Int :=
  let i := unitOf key
  let session := fun (g : Session → Int) => some (((s.session f).map g).getD 0)
  if key = Obj.ERROR_REGISTER then some (s.errorRegister : Nat)
  else if key = Obj.DEV_UPTIME then some (s.uptime / 1000 : Nat)
  else if key = Obj.DEV_AUTH_ROLE then session fun e => e.role
  else if key = Obj.DEV_AUTH_GEN then some (orAbsent ((s.session f).bind fun e => e.challenge.map fun _ => (e.challengeGen : Int)))
  else if key = Obj.LAN_EYE_PROGRESS then some s.eyeProgress
  else if key / 256 = 0x2A1E then (if s.bit (Obj.LAN_LOOPBACK i) 3 then some (unsigned 32 s.free : Nat) else none)
  else if key = Obj.TIM_NOW then some (s.time32 : Nat)
  else if key = Obj.TIM_NOW64 then some (if s.bit Obj.TIM_STATUS 1 then Obj.absent else (s.nowExt : Nat))
  else if key = Obj.TIM_HOLDOVER_TIME then some s.holdTime
  else if key = Obj.CLK_HOLDOVER_TIME then some s.holdoverSeconds
  else if key / 256 = 0x2E02 then
    some (ofFlags [s.getN Obj.SWG_REF_SRC_PWR = i && s.treeRole ≠ 2, s.getN Obj.SWG_REF_SRC_ARM = i] : Nat)
  else if key = Obj.ETH_STATUS 0 || key = Obj.ETH_STATUS 1 then some (s.ethStatus (key / 256 - 0x1E10) : Nat)
  else if key / 256 = 0x2E30 then some (s.icuPendingMap i : Nat)
  else if key / 256 = 0x2E31 then some (s.icuActiveMap i : Nat)
  else if 0x4000 ≤ key / 256 && key / 256 ≤ 0x5DFF then some (s.smEntry (key / 256 - 0x4000) (key % 256))
  else none

/-- The value of an entry of fixed numeric type as a read finds it: staged tunables read as last written (R76). -/
def State.readValue (s : State) (f : Sender) (key : Nat) : Int :=
  match s.readValve key with
  | some v => v
  | none => match s.readComet key with
    | some v => v
    | none => match s.readDevice f key with
      | some v => v
      | none => s.latest key

/-- Strings and DOMAIN entries as a read finds them: none without data. -/
def State.readBytes (s : State) (f : Sender) (key : Nat) : Option (List Nat) :=
  if key = Obj.DEVICE_NAME then some [75, 88, 55, 54, 56, 48]
  else if key = Obj.HW_VERSION then some [65, 49]
  else if key = Obj.SW_VERSION then some s.boot.version
  else if key = Obj.DEV_AUTH_CHALLENGE then
    ((s.session f).bind (·.challenge)).map fun c => bytesOf c.bytes 16
  else if key = Obj.DEV_IMAGE_READ then s.imageBytes
  else if key = Obj.AGE_PLAN_IN_FORCE then s.age.plan.map fun p => s.planBytes p (s.getN Obj.AGE_PLAN_GEN)
  else if key = Obj.LAN_EYE_RESULT then s.lan.result.map Eye.bytes
  else if key = Obj.RED_SWAP_BAD_LIST then
    (if s.hasData Obj.RED_SWAP_GEN then some (s.red.swapBad.flatMap fun n => bytesOf n 2) else none)
  else if key = Obj.CMT_RECORD then
    s.cmtSelected.map fun r => CmtRecord.header r ++ r.blocks.flatMap fun b => CmtBlock.bytes b r
  else if key = Obj.CMT_MEAS_BOOL then s.cmtSelected.map CmtRecord.boolBytes
  else if key = Obj.LOG_EXPORT then s.exportBytes
  else if key = Obj.LOG_JOURNAL_REC then s.journalSelected
  else none

/-- An entry's type is a number. -/
def ObjType.isNumber : ObjType → Bool
  | .visibleString _ => false
  | .octetString _ => false
  | .domain _ => false
  | _ => true

/-- The data of an entry as a read finds them; none where it has no data. -/
def State.entryBytes (s : State) (f : Sender) (row : ObjRow) (key : Nat) : Option (List Nat) :=
  if ObjType.isNumber row.type then
    let v := s.readValue f key
    if v = Obj.absent then none else some (ObjType.bytes row.type v)
  else s.readBytes f key

/-- A read is judged (Table 17.2); `most` is the longest answer of the service. -/
def State.judgeRead (s : State) (f : Sender) (index sub most : Nat) : Except Refused (List Nat) :=
  if !Obj.indexExists index then .error ⟨abNoObject, 1⟩ else
  match Obj.find? index sub with
  | none => .error ⟨abNoSub, 1⟩
  | some row =>
    if row.access = .wo then .error ⟨abReadWo, 2⟩ else
    match s.entryBytes f row (256 * index + sub) with
    | none => .error ⟨abNoData, 9⟩
    | some data => if most < data.length then .error ⟨abDomain, 3⟩ else .ok data

/-- Reads that take a free value. -/
def State.readUses (s : State) (index : Nat) : State := if index = 0x2A1E then s.usedFree else s

/-- A read of one entry: answered with its data, or refused and recorded (R428). -/
def State.requestRead (s : State) (f : Sender) (route : Route) (index sub most : Nat) : State :=
  if !s.dictServed then s else
  let s := s.heard f
  match s.judgeRead f index sub most with
  | .error r => (s.refuse f index sub r).reply route r.abort []
  | .ok data => (s.readUses index).reply route 0 data

end Sys2Proof.Machine
end

