-- ==== Sys2Proof/Machine/Transport.lean ====
section
/-!
DEFINITION. The transports of the dictionary: CANopen FD on CAN0 and CAN1 (R433 to R437) and TDS on ETH0 and ETH1 (R438 to R443). A
CAN port is the session of its channel 0 or 1; a TDS port is channel 2 or 3.
-/

namespace Sys2Proof.Machine

/-! ## Transfers -/

/-- The generation that a read of a result DOMAIN returns (R432). -/
def State.resultGen (s : State) (key : Nat) : Nat :=
  if key = Obj.CMT_RECORD || key = Obj.CMT_MEAS_BOOL then ((s.cmtSelected).map (·.number)).getD 0
  else if key = Obj.LOG_EXPORT then s.getN Obj.LOG_EXPORT_GEN
  else if key = Obj.DEV_IMAGE_READ then s.getN Obj.DEV_IMAGE_GEN
  else if key = Obj.AGE_PLAN_IN_FORCE then s.getN Obj.AGE_PLAN_GEN
  else if key = Obj.LAN_EYE_RESULT then ((s.lan.result).map (·.gen)).getD 0
  else if key = Obj.RED_SWAP_BAD_LIST then s.getN Obj.RED_SWAP_GEN
  else 0

/-- A transfer that reads `data`. -/
def State.uploadOf (s : State) (key seq window first : Nat) (data : List Nat) : Transfer :=
  { upload := true, key := key, generation := s.resultGen key, total := data.length, crc := crc32c data, window := window
    next := first, acked := first, resent := false, resentTo := 0, seq := seq, data := data }

/-- A transfer that writes `total` bytes. -/
def downloadOf (key seq window total crc : Nat) : Transfer :=
  { upload := false, key := key, generation := 0, total := total, crc := crc, window := window
    next := 0, acked := 0, resent := false, resentTo := 0, seq := seq, data := [] }

/-- The transfer of a sender's session. -/
def State.transferOf (s : State) (f : Sender) : Option Transfer := (s.session f).bind (·.transfer)

/-- Gives a session a transfer, or ends it. -/
def State.setTransfer (s : State) (f : Sender) (t : Option Transfer) : State := s.withSession f fun e => { e with transfer := t }

/-- What the beginning of a download is judged by: steps 1 to 7 (R443). -/
def State.judgeDownload (s : State) (f : Sender) (route : Route) (index sub length : Nat) : Option Refused :=
  if !Obj.indexExists index then some ⟨abNoObject, 1⟩ else
  match Obj.find? index sub with
  | none => some ⟨abNoSub, 1⟩
  | some row =>
    if row.access = .ro then some ⟨abWriteRo, 2⟩ else
    let key := 256 * index + sub
    match lengthRefused row key length with
    | some r => some r
    | none =>
      if transportMax route < length then some ⟨abDomain, 3⟩
      else if s.roleOf f < leastRole row key 0 then some ⟨abState, 4⟩
      else if s.mirrors row && !s.owner then some ⟨abState, 5⟩
      else if !s.stateAllows row key (s.get key) then some ⟨abState, 6⟩
      else none

/-- The image that the bytes of a download of DEV_IMAGE spell. -/
def imageOf (key length : Nat) (img : Option DictImage) : Option DictImage :=
  if key = Obj.DEV_IMAGE then img.filter fun i => i.size = length else none

/-! ## CANopen FD (R433 to R437) -/

/-- The session of a CAN port. -/
abbrev canSender (port : Nat) : Sender := ⟨port, 0⟩

/-- A request on a port ends an open transfer there with an abort (R435). PRESUMED (log entry 82): unsafe. -/
def State.usdoRequest (s : State) (port : Nat) : State :=
  match s.transferOf (canSender port) with
  | none => s
  | some _ => (s.setTransfer (canSender port) none).reply (.usdo port) abState []

/-- An expedited download. PRESUMED (log entry 82): unsafe. -/
def State.usdoDownload (s : State) (port index sub : Nat) (data : List Nat) : State :=
  if !s.canOpen port then s else
  (s.usdoRequest port).requestWrite (canSender port) (.usdo port) index sub data none

/-- A segmented download is initiated. DEDUCED (log entry 83): unsafe. -/
def State.usdoDownloadStart (s : State) (port index sub length : Nat) : State :=
  if !s.canOpen port then s else
  let s1 := (s.usdoRequest port).heard (canSender port)
  match s1.judgeDownload (canSender port) (.usdo port) index sub length with
  | some r => (s1.refuse (canSender port) index sub r).reply (.usdo port) r.abort []
  | none => (s1.setTransfer (canSender port) (some (downloadOf (256 * index + sub) 0 0 length 0))).reply (.usdo port) 0 []

/-- A download segment; the last commits the whole as one write (R430). A segment without a download is ignored.
DEDUCED (log entry 83): unsafe. -/
def State.usdoDownloadSegment (s : State) (port : Nat) (data : List Nat) (last : Bool) (img : Option DictImage) : State :=
  if !s.canOpen port then s else
  match s.transferOf (canSender port) with
  | none => s
  | some t =>
    if t.upload then s else
    let all := t.data ++ data
    let s1 := s.heard (canSender port)
    let index := t.key / 256
    let sub := t.key % 256
    if t.total < all.length || (last && all.length ≠ t.total) then
      ((s1.setTransfer (canSender port) none).refuse (canSender port) index sub ⟨abLength, 3⟩).reply (.usdo port) abLength []
    else if last then
      (s1.setTransfer (canSender port) none).requestWrite (canSender port) (.usdo port) index sub all (imageOf t.key all.length img)
    else (s1.setTransfer (canSender port) (some { t with data := all })).reply (.usdo port) 0 []

/-- The data of one frame. -/
def usdoRoom : Nat := Config.usdoRoom.toNat + 1

/-- An upload is requested: answered at once where the data fit the frame (`expedited`; always up to 8 bytes), else opened as a
transfer of the data as they are now (R432), answered with its length. -/
def State.usdoUpload (s : State) (port index sub : Nat) (expedited : Bool) : State :=
  if !s.canOpen port then s else
  let f := canSender port
  let s1 := (s.usdoRequest port).heard f
  match s1.judgeRead f index sub 65536 with
  | .error r => (s1.refuse f index sub r).reply (.usdo port) r.abort []
  | .ok data =>
    let s2 := s1.readUses index
    if expedited && (data.length ≤ 8 || data.length ≤ usdoRoom) then s2.reply (.usdo port) 0 data
    else (s2.setTransfer f (some (s2.uploadOf (256 * index + sub) 0 0 0 data))).reply (.usdo port) 0 (bytesOf data.length 4)

/-- An upload segment is requested: the next data; the last ends the transfer. -/
def State.usdoUploadSegment (s : State) (port : Nat) : State :=
  if !s.canOpen port then s else
  let f := canSender port
  match s.transferOf f with
  | none => s
  | some t =>
    if !t.upload then s else
    let rest := t.data.drop usdoRoom
    let s1 := s.heard f
    let s2 := if rest.isEmpty then s1.setTransfer f none else s1.setTransfer f (some { t with data := rest, next := t.next + 1 })
    s2.reply (.usdo port) 0 (t.data.take usdoRoom)

/-- An abort transfer message ends the open transfer; nothing of it is committed. -/
def State.usdoAbort (s : State) (port : Nat) : State :=
  if s.canOpen port then s.setTransfer (canSender port) none else s

/-- Neither side has sent for 1 s (R435). DEDUCED (log entry 7): safe. -/
def State.usdoTimeout (s : State) (port : Nat) : State :=
  match s.transferOf (canSender port) with
  | none => s
  | some _ => (s.setTransfer (canSender port) none).reply (.usdo port) abTimeout []

/-- A frame that the port ignores and counts: NMT, and unsupported USDO services (R434, R436). -/
def State.canIgnored (s : State) (port : Nat) : State := if s.canOpen port then s.bump (Obj.CAN_IGNORED port) else s

/-- The boot-up message at the entry to CONFIG from BOOT (R436). -/
def State.canBootUp (s : State) : State := (s.canSend 0 0x700 [0]).canSend 1 0x700 [0]

/-- The heartbeat of a port, unless it is off (R436). -/
def State.heartbeat (s : State) (port : Nat) : State :=
  if s.get Obj.HEARTBEAT_TIME = 0 then s else s.canSend port 0x700 [5]

/-- A port reaches bus-off: a second one within 10 s holds the port (R437). Bit 2 shows the bus-off. -/
def State.canBusOff (s : State) (port : Nat) : State :=
  if 2 ≤ port || s.devState < stConfig || s.devState = stLunar || s.bit (Obj.CAN_STATUS port) 3 then s else
  let again := (s.dict.busOff.getD port none).any fun t => s.now < t + 10000000000
  if again then
    let s1 := (s.setBit (Obj.CAN_STATUS port) 3 true).withDict fun d => { d with busOff := d.busOff.set port none }
    ((s1.setTransfer (canSender port) none).raise (460 + port)).siteOutcome 0x14 (460 + port) port [] true
  else (s.setBit (Obj.CAN_STATUS port) 2 true).withDict fun d => { d with busOff := d.busOff.set port (some s.now) }

/-- 10 s have passed without a further bus-off: transient (R437). -/
def State.canQuiet (s : State) (port : Nat) : State :=
  match s.dict.busOff.getD port none with
  | none => s
  | some _ =>
    let s1 := (s.setBit (Obj.CAN_STATUS port) 2 false).withDict fun d => { d with busOff := d.busOff.set port none }
    (s1.bump (Obj.CAN_BUSOFF_COUNT port)).siteOutcome 0x14 (460 + port) port [] false

/-! ## TDS sessions (R438 to R441) -/

/-- A datagram that is dropped and counted (R439). -/
def State.tdsBad (s : State) (channel : Nat) : State := if s.tdsOpen channel then s.bump Obj.TDS_BAD_HEADER else s

/-- An answer of a request on this SEQ is still to come (R216, R447, R449). DEDUCED (log entry 84): unsafe. -/
def State.tdsAwaited (s : State) (f : Sender) (seq : Nat) : Bool :=
  let mine := fun (r : Route) => match r with
    | .tds port session q _ => port = f.channel && session = f.session && q = seq
    | _ => false
  s.dict.staged.any (fun w => mine w.route) || s.dict.storing.any (fun j => mine j.route) ||
  s.age.submitted.any fun d => d.sender.any mine

/-- OPEN: a session with a random non-zero identifier, at most 8 (R440). A draw that is 0 or in use gives the next number that is not. -/
def State.tdsNewId (s : State) : Nat :=
  let draw := (Config.randomWord s.freeCtr).toNat % 2 ^ 32
  let used := s.dict.sessions.map (·.id)
  ((List.range 10).find? fun i => draw + i ≠ 0 && decide (draw + i ∉ used)).map (draw + ·) |>.getD (draw + 1)

/-- OPEN. -/
def State.tdsSessionOpen (s : State) (channel seq : Nat) : State :=
  if !s.tdsOpen channel then s else
  if 8 ≤ (s.dict.sessions.filter fun e => e.channel = 2 || e.channel = 3).length then
    s.reply (.tds channel 0 seq 0x01) abState []
  else
    let id := s.tdsNewId
    let s1 := (s.usedFree.withDict fun d => { d with sessions := d.sessions ++ [Session.fresh channel id s.now] }).sessionsShow
    (s1.raise 457).reply (.tds channel id seq 0x01) 0 []

/-- A request within a session: dropped and counted without the session, answered from the store when it has been answered, dropped
when its SEQ is below the stored range or its answer is still to come; else performed (R439, R441). DEDUCED (log entry 84): unsafe. -/
def State.tdsRequest (s : State) (f : Sender) (seq : Nat) (act : State → State) : State :=
  if !s.tdsOpen f.channel then s else
  match s.session f with
  | none => s.tdsBad f.channel
  | some e =>
    let s1 := s.withSession f fun e => { e with lastDatagram := s.now, lastRequest := s.now }
    match e.answers.find? fun a => a.1 = seq with
    | some a => (s1.bump Obj.TDS_DUPLICATES).emit a.2
    | none =>
      let stored := e.answers.map (·.1)
      if (!stored.isEmpty && stored.all fun q => seq < q) || s.tdsAwaited f seq then s1 else act s1

/-- KEEPALIVE. -/
def State.tdsKeepalive (s : State) (f : Sender) (seq : Nat) : State :=
  s.tdsRequest f seq fun s => s.reply (.tds f.channel f.session seq 0x03) 0 []

/-- CLOSE: answered, then closed. -/
def State.tdsClose (s : State) (f : Sender) (seq : Nat) : State :=
  s.tdsRequest f seq fun s => (s.reply (.tds f.channel f.session seq 0x02) 0 []).sessionClose f

/-- READ: a DOMAIN above 1,408 bytes is refused. -/
def State.tdsRead (s : State) (f : Sender) (seq index sub : Nat) : State :=
  s.tdsRequest f seq fun s => s.requestRead f (.tds f.channel f.session seq 0x10) index sub 1408

/-- WRITE. -/
def State.tdsWrite (s : State) (f : Sender) (seq index sub : Nat) (data : List Nat) (img : Option DictImage) : State :=
  s.tdsRequest f seq fun s =>
    s.requestWrite f (.tds f.channel f.session seq 0x11) index sub data (imageOf (256 * index + sub) data.length img)

/-- The subindices of an index that can be read, with their data (Table 17.7). DEDUCED (log entry 87): unsafe. -/
def State.indexData (s : State) (f : Sender) (index : Nat) : List (Nat × List Nat) :=
  (List.range 256).filterMap fun sub => match s.judgeRead f index sub 1408 with
    | .ok data => some (sub, data)
    | .error _ => none

/-- READ_INDEX: every subindex from one generation or cycle (R432). DEDUCED (log entry 87): unsafe. -/
def State.tdsReadIndex (s : State) (f : Sender) (seq index : Nat) : State :=
  s.tdsRequest f seq fun s =>
    let r := Route.tds f.channel f.session seq 0x12
    if !Obj.indexExists index then (s.refuse f index 0 ⟨abNoObject, 1⟩).reply r abNoObject [] else
    let data := (s.indexData f index).flatMap fun e => [e.1] ++ bytesOf e.2.length 2 ++ e.2
    if 1408 < data.length then (s.refuse f index 0 ⟨abDomain, 3⟩).reply r abDomain []
    else (s.readUses index).reply r 0 data

/-- Least and greatest value of a type, 0 for strings and DOMAINs. -/
def ObjType.limits (ty : ObjType) : Int × Int :=
  match ObjType.length ty with
  | some n =>
    if !(ObjType.isNumber ty) then (0, 0)
    else if ty = .bool then (0, 1)
    else if ObjType.isSigned ty then (-(2 ^ (8 * n - 1) : Nat), (2 ^ (8 * n - 1) : Nat) - 1)
    else (0, (2 ^ (8 * n) : Nat) - 1)
  | none => (0, 0)

/-- Least and greatest value of an entry. -/
def ObjRow.limits (row : ObjRow) : Int × Int :=
  match row.range with
  | .any => ObjType.limits row.type
  | .span lo hi => (lo, hi)
  | .spanOr lo hi other => (min lo other, max hi other)
  | .oneOf l => (l.foldl min (l.headD 0), l.foldl max (l.headD 0))

/-- The number under which the access byte of DESCRIBE is asked for. DESIGN CHOICE (log entry 88): safe. -/
def accessIndex : Access → Nat
  | .ro => 0
  | .wo => 1
  | .rw => 2
  | .rww => 3

/-- The payload of a DESCRIBE response (Table 17.7); an entry without a default has 0. -/
def State.describeBytes (s : State) (row : ObjRow) (key : Nat) : List Nat :=
  let b := ObjRow.limits row
  bytesOf (ObjType.code row.type) 2 ++ [(Config.accessByte (accessIndex row.access)).toNat, row.role] ++ bytesOf row.states 2 ++
    [if row.mirrored then 1 else 0, 0] ++ bytesOf (unsigned 64 b.1) 8 ++ bytesOf (unsigned 64 b.2) 8 ++ bytesOf (unsigned 64 (s.defaultOf key)) 8

/-- DESCRIBE. -/
def State.tdsDescribe (s : State) (f : Sender) (seq index sub : Nat) : State :=
  s.tdsRequest f seq fun s =>
    let r := Route.tds f.channel f.session seq 0x13
    if !Obj.indexExists index then (s.refuse f index sub ⟨abNoObject, 1⟩).reply r abNoObject [] else
    match Obj.find? index sub with
    | none => (s.refuse f index sub ⟨abNoSub, 1⟩).reply r abNoSub []
    | some row => s.reply r 0 (s.describeBytes row (256 * index + sub))

/-! ## Bulk transfers (R442, R443) -/

/-- Chunks of 1,408 bytes. DEDUCED (log entry 86): unsafe. -/
def chunksOf (total : Nat) : Nat := (total + 1407) / 1408

/-- Bulk transfers that the device carries. -/
def State.bulkOpen (s : State) : Nat :=
  (s.dict.sessions.filter fun e => (e.channel = 2 || e.channel = 3) && e.transfer.isSome).length

/-- May a session start a transfer: it has none, and the device carries fewer than four. -/
def State.bulkRoom (s : State) (f : Sender) : Bool := (s.transferOf f).isNone && s.bulkOpen < 4

/-- Sends the chunks from `lo` up to but not including `hi`. -/
def State.sendChunks (s : State) (f : Sender) (t : Transfer) (lo hi : Nat) : State :=
  ((List.range (hi - lo)).map (lo + ·)).foldl (fun s c =>
    s.emit (.tds f.channel f.session 0x21 t.seq 0 c (decide (c + 1 = chunksOf t.total)) ((t.data.drop (1408 * c)).take 1408))) s

/-- Sends what the window allows; an upload whose chunks are all acknowledged is complete (R442). DEDUCED (log entry 86): unsafe. -/
def State.bulkPump (s : State) (f : Sender) : State :=
  match s.transferOf f with
  | none => s
  | some t =>
    let count := chunksOf t.total
    if count ≤ t.acked then (s.setTransfer f none).raise 458
    else
      let hi := max t.next (min (t.acked + t.window) count)
      (s.sendChunks f t t.next hi).setTransfer f (some { t with next := hi })

/-- UP_START. DEDUCED (log entry 85): unsafe. -/
def State.tdsUpStart (s : State) (f : Sender) (seq index sub first window : Nat) : State :=
  s.tdsRequest f seq fun s =>
    let r := Route.tds f.channel f.session seq 0x20
    match s.judgeRead f index sub (2 ^ 64) with
    | .error e => (s.refuse f index sub e).reply r e.abort []
    | .ok data =>
      if !s.bulkRoom f then (s.refuse f index sub ⟨abState, 6⟩).reply r abState []
      else if window < 1 || 64 < window then (s.refuse f index sub ⟨abRange, 7⟩).reply r abRange []
      else
        let t := s.uploadOf (256 * index + sub) seq window (min first (chunksOf data.length)) data
        let head := bytesOf t.total 8 ++ bytesOf t.crc 4 ++ bytesOf t.generation 4 ++ bytesOf (chunksOf t.total) 4 ++ bytesOf 0 4
        (((s.readUses index).setTransfer f (some t)).reply r 0 head).bulkPump f

/-- UP_ACK: acknowledges every chunk below `next`; a chunk that had timed out once is a transient loss (R442). -/
def State.tdsUpAck (s : State) (f : Sender) (seq next : Nat) : State :=
  s.tdsRequest f seq fun s =>
    match s.transferOf f with
    | none => s
    | some t =>
      if !t.upload || next ≤ t.acked || t.next < next then s else
      let s1 := if t.resent then (s.bump Obj.TDS_BULK_RESEND).siteOutcome 0x13 459 noSubject [] false else s
      (s1.setTransfer f (some { t with acked := next, resent := false })).bulkPump f

/-- A chunk has been unacknowledged for 50 ms: it is sent again with every chunk after it, and after its second sending the loss is
lasting (R442). -/
def State.tdsChunkTimeout (s : State) (f : Sender) : State :=
  match s.transferOf f with
  | none => s
  | some t =>
    if !t.upload || t.next ≤ t.acked then s
    else if t.acked < t.resentTo then
      let s1 := ((s.setTransfer f none).bump Obj.TDS_BULK_FAIL).raise 459
      (s1.siteOutcome 0x13 459 noSubject [] true).emit (.tds f.channel f.session 0x20 t.seq abTimeout abTimeout false [])
    else
      (s.sendChunks f t t.acked t.next).setTransfer f (some { t with resent := true, resentTo := t.next })

/-- DOWN_START. DEDUCED (log entry 85): unsafe. -/
def State.tdsDownStart (s : State) (f : Sender) (seq index sub length crc window : Nat) : State :=
  s.tdsRequest f seq fun s =>
    let r := Route.tds f.channel f.session seq 0x23
    match s.judgeDownload f r index sub length with
    | some e => (s.refuse f index sub e).reply r e.abort []
    | none =>
      if !s.bulkRoom f then (s.refuse f index sub ⟨abState, 6⟩).reply r abState []
      else if window < 1 || 64 < window then (s.refuse f index sub ⟨abRange, 7⟩).reply r abRange []
      else (s.setTransfer f (some (downloadOf (256 * index + sub) seq window length crc))).reply r 0 []

/-- DOWN_DATA: the chunk that is expected is taken; every chunk is answered with the next one expected (R443). -/
def State.tdsDownData (s : State) (f : Sender) (seq chunk : Nat) (data : List Nat) : State :=
  s.tdsRequest f seq fun s =>
    match s.transferOf f with
    | none => s
    | some t =>
      if t.upload then s else
      let t1 := if chunk = t.next then { t with data := t.data ++ data, next := t.next + 1 } else t
      (s.setTransfer f (some t1)).emit (.tds f.channel f.session 0x25 seq 0 t1.next false [])

/-- DOWN_END: length and CRC are checked; a match commits the whole as one write (R429, R443). -/
def State.tdsDownEnd (s : State) (f : Sender) (seq : Nat) (img : Option DictImage) : State :=
  s.tdsRequest f seq fun s =>
    let r := Route.tds f.channel f.session seq 0x26
    match s.transferOf f with
    | none => s.reply r abState []
    | some t =>
      if t.upload then s.reply r abState [] else
      let s1 := s.setTransfer f none
      if t.data.length ≠ t.total || crc32c t.data ≠ t.crc then s1.reply r abStore []
      else (s1.requestWrite f r (t.key / 256) (t.key % 256) t.data (imageOf t.key t.total img)).raise 458

/-- CANCEL: the transfer ends with nothing committed. -/
def State.tdsCancel (s : State) (f : Sender) (seq : Nat) : State :=
  s.tdsRequest f seq fun s => (s.setTransfer f none).reply (.tds f.channel f.session seq 0x27) 0 []

/-- A TDS session without a valid datagram for TDS_IDLE closes (R440). -/
def State.tdsIdle (s : State) (f : Sender) : State :=
  match s.session f with
  | none => s
  | some e =>
    if (f.channel = 2 || f.channel = 3) && decide (e.lastDatagram + 1000000000 * s.getN Obj.TDS_IDLE ≤ s.now) then s.sessionClose f
    else s

/-! ## Sessions and roles that time out (R424, R426) -/

/-- A session without a request for DEV_AUTH_IDLE loses its role. -/
def State.authIdle (s : State) (f : Sender) : State :=
  match s.session f with
  | none => s
  | some e => if e.lastRequest + 1000000000 * s.getN Obj.DEV_AUTH_IDLE ≤ s.now then s.roleDrop f else s

/-- The 60 s lockout of a channel ends. -/
def State.lockoutEnd (s : State) (channel : Nat) : State :=
  s.withDict fun d => { d with locked := d.locked.filter (· ≠ channel), failures := d.failures.filter (·.1 ≠ channel) }

/-! ## Ethernet (R438, R440) -/

/-- An Ethernet port carries IP: served, switched on, with an address. -/
abbrev State.ethOpen (s : State) (port : Nat) : Bool := s.tdsOpen (port + 2)

/-- An ARP request for an address is answered with the port's own. -/
def State.arp (s : State) (port target : Nat) : State :=
  if s.ethOpen port && s.getN (Obj.ETH_IP port) = target then
    s.emit (.eth port 0 (bytesOf (s.getN (Obj.ETH_MAC port)) 6 ++ bytesOf target 4))
  else s

/-- An ICMP echo request to the port's address is answered with its data. -/
def State.icmp (s : State) (port target : Nat) (data : List Nat) : State :=
  if s.ethOpen port && s.getN (Obj.ETH_IP port) = target then s.emit (.eth port 1 data) else s

/-- A port's link comes up or goes down; down counts, and closes the port's sessions with their transfers (R440). -/
def State.ethLink (s : State) (port : Nat) (up : Bool) : State :=
  if 2 ≤ port || !s.dictServed || s.bit (Obj.ETH_STATUS port) 0 = up then s else
  let s1 := (s.setBit (Obj.ETH_STATUS port) 0 up).raise (462 + port)
  if up then s1 else (s1.bump (Obj.ETH_LINK_DOWN_COUNT port)).portClose (port + 2)

/-! ## The debug UART and JTAG (R466, R467) -/

/-- "R iiii ss": answered with the value in hexadecimal, or with "A" and the abort code. A refused read is recorded as one of the
debug bridge's channel 5. -/
def State.uartRead (s : State) (index sub : Nat) : State :=
  let f : Sender := ⟨5, 0⟩
  if !s.dictServed then s else
  match s.judgeRead f index sub 65536 with
  | .error r => (s.refuse f index sub r).uartLine ([65, 32] ++ hexOf (bytesOf r.abort 4).reverse ++ [13, 10])
  | .ok data => (s.readUses index).uartLine (hexOf data.reverse ++ [13, 10])

end Sys2Proof.Machine
end

