-- ==== Sys2Proof/Machine/Boot.lean ====
section
/-!
DEFINITION. Reset, boot and the entry to CONFIG (chapter 19: R471 to R486), the entry to LUNAR and the wake (R365 to R368), and JTAG
(R291, R467).
-/

namespace Sys2Proof.Machine

/-! ## Resets (R472, R474) -/

/-- Every reset clears the logic and memory of the device but for OTP, flash and AON; levels at the pins, the straps sampled at the
release and the model's own fields stay. -/
def State.cleared (s : State) : State :=
  let seq := (s.flash.journal.head?.map (·.seq)).getD 0
  let r : State := { State.reset with
    pending := s.pending, out := s.out, now := s.now, freeCtr := s.freeCtr, aon := s.aon, flash := s.flash, otp := s.otp
    pins := { s.pins with armEn := none, armFell := s.now } }
  { r with
    boot := { r.boot with poreset := s.boot.poreset, asserted := s.boot.asserted, jtagHold := s.boot.jtagHold, bootSel := s.boot.bootSel }
    log := { r.log with seq := seq, bootSeq := seq, creditAt := s.now }
    tim := { r.tim with since := s.now } }

/-- A line of a boot stage: stage, bank, attempt, reason (R485). DESIGN CHOICE (log entry 97): safe. -/
def State.bootLine (s : State) (stage bank attempt reason : Nat) : State :=
  s.uartLine ([66, 32] ++ hexOf [stage] ++ [32] ++ hexOf [bank] ++ [32] ++ hexOf [attempt] ++ [32] ++ hexOf [reason] ++ [13, 10])

/-- A boot event kept for the journal. -/
def State.bootRecord (s : State) (code : Nat) (data : List Nat) : State :=
  { s with aon := { s.aon with records := s.aon.records ++ [{ code := code, uptime := s.uptime, data := data }] } }

/-- The bank that the boot prefers (R473). -/
def State.bootPreferred (s : State) : Nat :=
  if s.boot.bootSel = 1 then 0 else if s.boot.bootSel = 2 then 1 else s.directory.preferredFw % 2

/-- Boot begins after a reset: device time, counter and watchdog start anew; SERVICE_HOLD holds it (R472, R473). -/
def State.bootBegin (s : State) (unitB : Bool) : State :=
  let s1 := s.cleared
  let id : Int := if unitB then 17 else 16
  let s2 := (((s1.put Obj.DEV_STATE stBoot).put Obj.DEV_UNIT (if unitB then 1 else 0)).put (Obj.CAN_NODE_ID 0) id).put (Obj.CAN_NODE_ID 1) id
  let hold := s2.boot.bootSel = 3
  let s3 := { s2 with
    boot := { s2.boot with released := s2.now, watchdog := !hold, held := hold, bank := s2.bootPreferred }
    dict := { s2.dict with nodeIds := [id.toNat, id.toNat], uartAt := s2.now } }
  let s4 := s3.bootLine (Config.stageCode 0).toNat s3.boot.bank 1 0
  if hold then s4.bootRecord 0x0226 [] else s4

/-- This unit's side as the strap gave it. -/
def State.strapB (s : State) : Bool := s.getN Obj.DEV_UNIT = 1

/-- PORESET_N has been low for `low` ns; 1.0 us resets the device. A loss of the supplies clears the AON register too (R472, R474). -/
def State.poresetAssert (s : State) (low : Nat) (powerLost : Bool) : State :=
  if low < 1000 then s else
  let s1 := { s with
    boot := { s.boot with poreset := true, jtagHold := false, asserted := if s.boot.poreset then s.boot.asserted else s.now - low }
    aon := if powerLost then { s.aon with records := [], watchdogBoots := [0, 0], wakeLatch := 0 } else s.aon }
  { s1.cleared with aon := { s1.aon with cause := 0x0200 } }

/-- PORESET_N is released with these straps: BOOT (R472, R473). -/
def State.poresetRelease (s : State) (unitB : Bool) (bootSel : Nat) : State :=
  if !s.boot.poreset then s else
  let low := (s.now - s.boot.asserted) / 1000000
  let s1 := { s with
    boot := { s.boot with poreset := false, bootSel := bootSel % 4 }
    aon := { s.aon with cause := 0x0200, lowTime := min low 0xFFFFFFFF } }
  s1.bootBegin unitB

/-- A reset without PORESET_N: the cause is kept in AON and the device boots afresh with the straps sampled before (R474, Table 1.6). -/
def State.resetWith (s : State) (cause : Nat) : State :=
  { s with aon := { s.aon with cause := cause } }.bootBegin s.strapB

/-- The 2.0 s that boot may take have not passed (R475). -/
def State.bootInTime (s : State) : Bool := s.devState = stBoot && decide (s.now < s.boot.released + 2000000000)

/-- The service watchdog expires (R475); before CONFIG the expiry counts against the bank (R482). -/
def State.watchdogExpiry (s : State) : State :=
  if !s.boot.watchdog || s.devState = stLunar || s.boot.poreset || s.boot.jtagHold || s.bootInTime then s else
  let n := s.aon.watchdogBoots.getD s.boot.bank 0
  let s1 := if s.devState = stBoot then
      { s with aon := { s.aon with watchdogBoots := s.aon.watchdogBoots.set s.boot.bank (n + 1) } }
    else s
  s1.resetWith 0x0201

/-- A lockstep mismatch of a service core pair (R373); in RESET and LUNAR the pairs do not run. -/
def State.lockstep (s : State) : State :=
  if s.devState = stReset || s.devState = stLunar then s else s.resetWith 0x0202

/-- A boundary-scan test instruction is loaded: RESET while it is (R291). DEDUCED (log entry 100): unsafe. -/
def State.jtagTest (s : State) : State :=
  if s.boot.poreset then s else
  let s1 := { s with boot := { s.boot with jtagHold := true }, aon := { s.aon with cause := 0x0203 } }
  s1.cleared.put Obj.DEV_UNIT (s.get Obj.DEV_UNIT)

/-- BYPASS or IDCODE is loaded again: the device boots afresh. DESIGN CHOICE (log entry 106): safe. -/
def State.jtagRelease (s : State) : State :=
  if !s.boot.jtagHold then s else { s with boot := { s.boot with jtagHold := false } }.bootBegin s.strapB

/-! ## The firmware (R478 to R484) -/

/-- Checks 1 to 9 of Table 19.5: the reason of the first that fails, 0 for none. -/
def State.stageOne (s : State) (f : FirmwareImage) : Nat :=
  if !f.magic then 1
  else if !bitOf f.products (if Config.isP8 then 1 else 0) then 2
  else if 2 ≤ f.keySlot || !bitOf s.otp.programmed f.keySlot || bitOf s.otp.revoked f.keySlot then 3
  else if !f.keyHash then 4
  else if !f.signature then 5
  else if f.svn < s.otp.antiRollback || f.svn < f.floor then 6
  else if !f.partHash then 7
  else if !f.partRead then 8
  else if 2 ≤ s.aon.watchdogBoots.getD s.boot.bank 0 then 9
  else 0

/-- Checks 8 and 10 on the later parts. -/
def stageTwo (f : FirmwareImage) : Nat := if !f.laterRead then 8 else if !f.laterHash then 7 else 0

/-- A firmware bank has failed for good: the other bank, or BOOT held (R482, R484). DEDUCED (log entry 96): unsafe. -/
def State.bankFailed (s : State) : State :=
  if s.boot.otherFailed then { s with boot := { s.boot with held := true, watchdog := false } }
  else { s with boot := { s.boot with bank := 1 - s.boot.bank, stage := 1, attempt := 1, otherFailed := true } }

/-- A bank has verified; one that is not preferred is recorded as 0x0222. -/
def State.bankVerified (s : State) (f : FirmwareImage) : State :=
  let s1 := { s with boot := { s.boot with
    verified := some s.boot.bank, svn := f.svn, floor := f.floor, revoke := f.revoke, keySlot := f.keySlot
    version := (f.version.map (· % 256)).take 32, engines := f.engines } }
  if s.boot.bank = s.bootPreferred then s1 else s1.bootRecord 0x0222 [s.boot.bank]

/-- One attempt at the stage under way of the bank under way: two attempts at each stage, and a bank that is skipped gets one.
DEDUCED (log entry 96): unsafe. -/
def State.bankAttempt (s : State) (f : FirmwareImage) : State :=
  if s.devState ≠ stBoot || s.boot.held || s.boot.verified.isSome then s else
  let stage := s.boot.stage
  let reason := if stage = 1 then s.stageOne f else stageTwo f
  let s0 := s.bootLine stage s.boot.bank s.boot.attempt reason
  let s1 := { s0 with boot := { s0.boot with attempts := s0.boot.attempts + 1 } }
  if reason = 0 then
    if stage = 1 then
      let s2 := { s1 with boot := { s1.boot with stage := 2, attempt := 1 }, cmt := { s1.cmt with dram := true } }
      s2.pllBoot.quadStart
    else s1.bankVerified f
  else
    let s2 := s1.bootRecord 0x0221 [s.boot.bank, stage, reason]
    if s.boot.attempt = 1 && reason ≠ 9 then { s2 with boot := { s2.boot with attempt := 2 } } else s2.bankFailed

/-! ## The entry to CONFIG (R486) -/

/-- The role keys as the copies of the key sector give them: `copies` has a bit per copy that authenticates (R477). -/
def State.keysRead (s : State) (copies : Nat) : State :=
  let keys := if copies % 4 = 0 then List.replicate 3 (List.replicate 32 0) else s.flash.keys
  { s with dict := { s.dict with keys := keys } }

/-- The reset cause is journalled, counted, and shown (R474). DEDUCED (log entry 98): unsafe. -/
def State.journalCause (s : State) : State :=
  let code := s.aon.cause
  let counter := if code = 0x0200 then 0x01 else if code = 0x0201 then 0x26 else if code = 0x0202 then 0x27 else 0xFF
  let s1 := if counter = 0xFF then s else s.count counter
  (s1.put Obj.LOG_RESET_CAUSE code).journalAt 0 code noSubject (bytesOf (if code = 0x0200 then s.aon.lowTime else 0) 4) counter false false

/-- The boot events enter the journal (R485). DEDUCED (log entry 98): unsafe. -/
def State.journalBoot (s : State) : State :=
  let s1 := s.aon.records.foldl (fun s (r : BootRecord) => s.journalAt r.uptime r.code noSubject r.data 0xFF false false) s
  let b := s1.boot
  let s2 := s1.journal 0x0220 noSubject [b.verified.getD 0, b.svn, s1.otp.antiRollback, b.attempts, b.bootSel, b.dictBank]
  { s2 with aon := { s2.aon with records := [], watchdogBoots := [0, 0] } }

/-- Every engine is loaded with its image, or gated (R374). DEDUCED (log entry 91): unsafe. -/
def State.enginesLoad (s : State) : State := s.forAll (List.range 8) fun s e => s.engLoad e (s.boot.engines.getD e 0)

/-- Boot completes (R486): `reads` are the outcomes of the dictionary image reads, `badSlots` the snapshot slots that do not check,
`copies` the key copies that authenticate. -/
def State.bootComplete (s : State) (reads : List Bool) (badSlots : List Nat) (copies : Nat) : State :=
  if s.devState ≠ stBoot || s.boot.held || s.boot.verified.isNone then s else
  let s1 := (s.pllAllDone.put Obj.DEV_STATE stConfig).put Obj.DEV_STATE_SINCE s.time32
  let s2 := (((s1.put Obj.RED_PARTNER_ABSENT 0).keysRead copies).imageBoot reads)
  let old := s2.goodSnaps badSlots
  let s3 := (s2.logRestore badSlots).ageRestore ((old.head?).map (·.ageing)) ((old[1]?).map (·.ageing))
    ((s2.dict.image).bind (·.ageing)) (s2.flash.slots.all fun f => f.snap.isNone)
  let s4 := (s3.journalCause.journalBoot).event 496 noSubject [stBoot, stConfig, 0]
  let s5 := s4.enginesLoad.restRole.swgIdle.meaStart.avsEnter
  let s6 := s5.bootLine (Config.stageCode 1).toNat (s5.boot.verified.getD 0) 1 0
  s6.canBootUp.demandFlush

/-! ## LUNAR (R364 to R368) -/

/-- Engines are halted and power-gated. DESIGN CHOICE (log entry 24): unsafe. -/
def State.enginesGate (s : State) : State :=
  s.forAll (List.range 8) fun s e => (s.withHart e Hart.restarted).put (Obj.ENG_STATE e) 0

/-- What is not retained is cleared: cluster SRAM with the station words, buffers and mirror areas (Table 14.10, R368). -/
def State.sramClear (s : State) : State :=
  let s1 := s.forAll (List.range 16) fun s i => s.put (Obj.DEV_STATION_WORDS i) 0
  { s1 with eng := { s1.eng with
    pub := [[], []], nodeTable := [[], []], mirrorOut := List.replicate 256 0, mirrorIn := List.replicate 256 0
    mirrorCaptured := List.replicate 256 0, mirrorValid := false } }

/-- Every TDS session closes, and CAN transfers end. -/
def State.sessionsEnd (s : State) : State :=
  let s1 := (s.portClose 2).portClose 3
  s1.withDict fun d => { d with sessions := d.sessions.map fun e => { e with transfer := none } }

/-- Firmware signals ready: the commit point, at which a latched wake aborts the entry; else everything of Table 14.11 stops. -/
def State.sleepReady (s : State) : State :=
  if s.clk.sleep ≠ 1 then s
  else if s.aon.wakeLatch ≠ 0 then s.sleepAborted
  else
    let s1 := s.leaveState.orbStop.lanAllOff.swgIdle.enginesGate
    let s2 := (s1.withRed Red.fresh).put Obj.RED_STATUS (s1.getN Obj.RED_STATUS &&& 0x2000 : Nat)
    s2.cmtSleep.meaStop.icuSleep.timSleep.sleepCommit

/-- LUNAR is entered; the sessions close (R440), and a wake after the commit point begins at once.
DESIGN CHOICE (log entry 103): unsafe. -/
def State.lunarEnter (s : State) : State := if s.clk.sleep = 2 then s.avsSleep.sessionsEnd.lunarEntered else s

/-- A wake completes in CONFIG, or in LINKUP for a device that entered from BLOCKED; a unit of a pair is STALE (R21, R368). -/
def State.wakeComplete (s : State) : State :=
  if s.clk.sleep ≠ 4 then s else
  let s1 := s.wakeDone.sramClear.cmtDramBack
  let s2 := if s.clk.fromBlocked then s1.enterLinkup else s1.enterConfig
  (s2.enginesLoad.meaStart.avsEnter).serveFlush

/-! ## JTAG (R467) -/

/-- A byte of the logbook partition: journal records lie in their ring at SEQ modulo its size; the rest is not laid out. -/
def State.partitionByte (s : State) (offset : Nat) : Nat :=
  let slot := (offset - 0x20000) / 64
  let held := if 0x20000 ≤ offset && slot < 63488 then s.flash.journal.find? fun r => r.seq % 63488 = slot else none
  match held with
  | some r => (JournalRecord.bytes r).getD (offset % 64) 0
  | none => (Config.partitionByte s.freeCtr offset).toNat

/-- LOGREAD: served in RESET while the TAP runs, and in BOOT held; the TAP reads 0 otherwise. DEDUCED (log entry 100): unsafe. -/
def State.logRead (s : State) (offset length : Nat) : State :=
  let open_ := (s.devState = stReset && !s.boot.poreset) || (s.devState = stBoot && s.boot.held)
  if open_ then (s.emit (.jtag ((List.range length).map fun i => s.partitionByte (offset + i)))).usedFree
  else s.emit (.jtag (List.replicate length 0))

/-- DEBUG: without data a challenge for the Service role is drawn on the debug bridge; with the response core debug opens, and the
grant is journalled as 449; a failed one counts as R426 says. DEDUCED (log entry 101): unsafe. -/
def State.debugOpen (s : State) (data : List Nat) : State :=
  let f : Sender := ⟨5, 0⟩
  if !s.dictServed then s.emit (.jtag [])
  else if data.isEmpty then
    if s.lockedOut 5 then s.emit (.jtag []) else
    let s1 := s.authRequest f 3
    s1.emit (.jtag (((s1.session f).bind (·.challenge)).map (fun c => bytesOf c.bytes 16) |>.getD []))
  else if s.authOk f data then
    let s1 := (s.authGrant f).withDict fun d => { d with debug := true }
    (s1.journal 449 5 []).emit (.jtag [1])
  else (s.authFail f).emit (.jtag [0])

end Sys2Proof.Machine
end

