-- ==== Sys2Proof/Machine/Settle.lean ====
section
/-!
DEFINITION. What follows every command: active trip causes take their effect (R189), chopper pins and carrier masks follow state and
role, changes of durable state become change records (R309), and Comet sees the levels of its boolean channels (R400, R409). Every
meaning ends in `State.done`.
-/

namespace Sys2Proof.Machine

/-! ## Signals (Table 16.2) -/

/-- TIDE_OUT is high: the pulse of the latest boundary is not over (R301). -/
def State.tideHigh (s : State) : Bool :=
  s.assertsTide && decide (s.offset < if s.tripIndication then 3000 else 1000)

/-- The level of the signal of a boolean source code. TIDE_IN, PPS_IN and ORB_SYNC_IN (0x72, 0x74, 0x75) rest low: their pulses and edges
are recorded by the commands that bring them (`State.cmtInput`). DEDUCED (log entry 78): unsafe. -/
def State.signal (s : State) (code : Nat) : Bool :=
  let channel := fun (k : Nat) (f : CarChannel → Bool) => (s.car.channels[k]?).any f
  if code = 0 then false
  else if code ≤ 0x06 then channel (code - 1) (·.internal)
  else if code < 0x08 then false
  else if code ≤ 0x1F then channel (code - 0x08) (·.raw)
  else if code ≤ 0x31 then s.carPin (code - 0x20)
  else if code < 0x38 then false
  else if code ≤ 0x3B then (s.dchPins (code - 0x38)).1
  else if code ≤ 0x3F then (s.dchPins (code - 0x3C)).2
  else if code ≤ 0x5F then bitOf s.pins.gpio (code - 0x40)
  else if code ≤ 0x6F then (s.tim.genFall.getD (code - 0x60) none).isSome
  else if code = 0x70 then s.pins.armEn = some true
  else if code = 0x71 then !s.faultN
  else if code = 0x73 then s.tideHigh
  else if code = 0x78 then s.orbRunning && decide (s.offset < 5)
  else if code = 0x79 then bitOf s.frt.status 0
  else if code = 0x7A then s.bit Obj.ORB_STATUS 1
  else if code = 0x7B then s.devState = stTrip
  else if code = 0x7C then s.devState = stRun
  else if code = 0x7D then s.owner
  else if code = 0x7E then s.bit Obj.RED_STATUS 4
  else if 0x80 ≤ code && code ≤ 0x9F then s.bit (Obj.MEA_CH_STATUS (code - 0x80)) 0
  else if 0xA0 ≤ code && code ≤ 0xA3 then s.bit (Obj.PRT_DCH_STATUS (code - 0xA0)) 0
  else if 0xA8 ≤ code && code ≤ 0xAD then field (s.getN (Obj.MOD_ARM_STATUS (code - 0xA8))) 0 2 ≠ 0
  else if 0xB0 ≤ code && code ≤ 0xB5 then s.bit (Obj.RNK_ARM_STATUS (code - 0xB0)) 3
  else false

/-- The pattern state S: the level of every boolean channel. -/
def State.cmtPattern (s : State) : Nat := ofFlags ((List.range 64).map fun i => s.signal (s.getN (Obj.CMT_BOOL_SRC i)))

/-- M of R409. -/
def State.cmtMatch (s : State) (levels : Nat) : Bool :=
  s.get Obj.CMT_PAT_CARE ≠ 0 && (levels ^^^ s.getN Obj.CMT_PAT_VALUE) &&& s.getN Obj.CMT_PAT_CARE = 0

/-- The time counter in 2^-40 ns at an instant in 2^-7 ns of device time. -/
def State.counterAt (s : State) (inst : Int) : Nat :=
  ((s.tim.base + (inst - 128 * s.tim.since) * (2 ^ 40 + s.get Obj.TIM_RATE_ADJ) / 128) % (2 ^ 72 : Nat)).toNat

/-- TIME32 and fraction in 2^-16 ns of an instant. DEDUCED (log entry 79): unsafe. -/
def State.stampAt (s : State) (inst : Int) : Nat × Nat := (s.counterAt inst / 2 ^ 40, s.counterAt inst / 2 ^ 24 % 2 ^ 16)

/-- T_up of the cycle that decided the present stretch or return, two cycles ago, in ns of device time (Table 16.2, R43). -/
def State.decidedAt (s : State) : Nat :=
  let quarters := s.getN (if s.bit Obj.ORB_STATUS 1 then Obj.ORB_PERIOD else Obj.ORB_DEG_PERIOD)
  ((s.orb.past.getD 1 s.orb.boundary : Nat) + tUp quarters).toNat

/-- When an edge of a source is dated, and whether with the tap: `fine` is the instant of a carrier command.
DEDUCED (log entry 79): unsafe. -/
def State.edgeStamp (s : State) (code : Nat) (fine : Option Int) : (Nat × Nat) × Bool :=
  match fine with
  | some inst => if 1 ≤ code && code ≤ 0x31 then (s.stampAt inst, s.carLocked) else ((s.time32, 0), false)
  | none => if code = 0x7A then (((s.stampAt (128 * (s.decidedAt : Int))).1, 0), false) else ((s.time32, 0), false)

/-- Sources whose pulses a boundary records itself. -/
def pulseCode (code : Nat) : Bool := code = 0x73 || code = 0x78

/-- Comet sees the levels of its channels: changes become edges, and the match of the pattern is followed; IDLE, it only keeps the
levels (R400, R409). -/
def State.cmtSee (s : State) (fine : Option Int) : State :=
  if s.cmtState = 0 then s.withCmt fun c => { c with levels := s.cmtPattern } else
  let old := s.cmt.levels
  let new := s.cmtPattern
  let s1 := s.withCmt fun c => { c with levels := new }
  let s2 := if old = new then s1 else
    s1.forAll (List.range 64) fun s i =>
      let code := s.getN (Obj.CMT_BOOL_SRC i)
      if bitOf old i = bitOf new i || pulseCode code then s else
      let st := s.edgeStamp code fine
      s.cmtEdge i (bitOf new i) st.1.1 st.1.2 st.2
  let s3 := if s2.cmtMatch new then s2 else s2.withCmt fun c => { c with patternFalse := true }
  let began := s3.cmtMatch new && !s3.cmtMatch old
  let s4 := if began then s3.withCmt fun c => { c with matchAt := match fine with
      | some inst => s3.stampAt inst
      | none => (s3.time32, 0) } else s3
  s4.cmtTrigger

/-- The pulses that a boundary gives: the strobe of 5 ns and, as far as the unit asserts Tide, TIDE_OUT. -/
def State.cmtPulses (s : State) : State :=
  if s.cmtState = 0 || !s.orbRunning then s else
  s.forAll (List.range 64) fun s i =>
    let code := s.getN (Obj.CMT_BOOL_SRC i)
    let width := if code = 0x78 then 5 else if s.tripIndication then 3000 else 1000
    if code = 0x78 || (code = 0x73 && s.assertsTide) then
      (s.cmtEdge i true s.time32 0 false).cmtEdge i false ((s.time32 + width) % 2 ^ 32) 0 false
    else s

/-- A rising edge, and the falling edge where it is known, of an input that comes as a pulse: TIME32 of each.
DEDUCED (log entry 78): unsafe. -/
def State.cmtInput (s : State) (code rise : Nat) (fall : Option Nat) : State :=
  if s.cmtState = 0 then s else
  s.forAll (List.range 64) fun s i =>
    if s.getN (Obj.CMT_BOOL_SRC i) ≠ code then s else
    let s1 := s.cmtEdge i true (rise % 2 ^ 32) 0 false
    match fall with
    | some f => s1.cmtEdge i false (f % 2 ^ 32) 0 false
    | none => s1

/-! ## The end of a command -/

/-- A value as an entry of its type holds it: its low bits (R422); the reading of an entry without data stands. -/
def Obj.fit (key : Nat) (v : Int) : Int :=
  if v = Obj.absent then v else
  match Obj.rowOf key with
  | none => v
  | some row =>
    match ObjType.length row.type with
    | none => v
    | some n => if ObjType.isSigned row.type then signed (8 * n) (unsigned (8 * n) v) else (unsigned (8 * n) v : Nat)

/-- Lists an entry ahead of a store whose keys lie above it; else writes it. -/
def Store.lead (l : List (Nat × Int)) (key : Nat) (v dflt : Int) : List (Nat × Int) :=
  match l with
  | [] => if v = dflt then [] else [(key, v)]
  | (k, w) :: rest => if key < k then (if v = dflt then (k, w) :: rest else (key, v) :: (k, w) :: rest) else
      Store.write ((k, w) :: rest) key v dflt

/-- The registers hold as many bits as their types give them, and the store is in its canonical form. -/
def State.fit (s : State) : State :=
  { s with objs := s.objs.foldr (fun e l => Store.lead l e.1 (Obj.fit e.1 e.2) (Obj.resetValue e.1)) [] }

/-- Every listed entry holds a value of its type. -/
def State.objsFit (s : State) : Bool := s.objs.all fun e => decide (Obj.fit e.1 e.2 = e.2)

/-- What follows every command, from the state before it; the registers hold their width before causes and pins read them.
DEDUCED (log entry 14): unsafe. -/
def State.settleAt (before s : State) (fine : Option Int) : State :=
  let s1 := (before.recordChanges s.meaSources).fit
  let s2 := s1.tripServe.dchDrive.carMasks
  (s2.cmtSee fine).fit

/-- What follows a command that makes no edge of the delay lines. DEDUCED (log entry 14): unsafe. -/
def State.settle (before s : State) : State := State.settleAt before s none

/-- A command of device time t: it lands, has its effect, and is settled. -/
def State.done (s : State) (t : Nat) (act : State → State) : Host.Outcome State Fault Refusal :=
  .next (State.settle (s.land t) (act (s.land t)))

/-- A command of the carrier unit that makes edges at an instant. -/
def State.doneAt (s : State) (t : Nat) (fine : State → Option Int) (act : State → State) : Host.Outcome State Fault Refusal :=
  .next (State.settleAt (s.land t) (act (s.land t)) (fine (s.land t)))

end Sys2Proof.Machine
end

