-- ==== Sys2Proof/Machine/Writes.lean ====
section
/-!
DEFINITION. The two ways a request reaches an entry that has a command of its own: as a dictionary write of its value (R429), or
through a register block of a core (R149, R388, R411).
-/

namespace Sys2Proof.Machine

/-- A dictionary write of one value to an entry, judged and committed as any other (R428, R429). -/
def State.writeEntry (s : State) (f : Sender) (key : Nat) (v : Int) : State :=
  match Obj.rowOf key with
  | none => s
  | some row => s.requestWrite f .plain (key / 256) (key % 256) (ObjType.bytes row.type v) none

/-- The hart that writes through a register block: channel 16 + h stands for hart h. DESIGN CHOICE (log entry 20): unsafe. -/
def hartOf (f : Sender) : Option Nat := if 16 ≤ f.channel && f.channel < 26 then some (f.channel - 16) else none

/-- A core and its register blocks run: the engines while they are loaded and not halted, the service cores in every state but RESET
and LUNAR (R373, R374). -/
def State.hartRuns (s : State) (h : Nat) : Bool :=
  if h < 8 then s.engRuns h else h < 10 && s.devState ≠ stReset && s.devState ≠ stLunar

/-- A write to a unit's register: through the block of a running core it acts at once; from elsewhere it is a dictionary write. -/
def State.blockWrite (s : State) (f : Sender) (key : Nat) (v : Int) (act : State → Nat → State) : State :=
  match hartOf f with
  | some h => if s.hartRuns h then act s h else s
  | none => s.writeEntry f key v

end Sys2Proof.Machine
end

