-- ==== Sys2Proof/Machine/CmdAge.lean ====
section
/-!
DEFINITION. The commands of ageing, margins and the core voltage (chapter 9).
-/

namespace Sys2Proof.Machine

/-- An evaluation of the AVS loop: the margin in ps and the drift in 0.01 % that the monitors report (R210, R211). -/
def execAvsEvaluation (t : Nat) (margin : Int) (drift : Nat) (s : State) : Host.Outcome State Fault Refusal :=
  s.done t fun s => s.avsEvaluate margin drift

/-- The read-back of an AVSBus write: acknowledged and within 10 mV, or not (R212). -/
def execAvsReadbackCheck (t : Nat) (ok : Bool) (s : State) : Host.Outcome State Fault Refusal := s.done t fun s => s.avsReadback ok

/-- AGE_REPLAN_PERIOD after the previous plan was applied (R214). -/
def execAgeReplanPeriodExpiry (t : Nat) (s : State) : Host.Outcome State Fault Refusal :=
  s.done t fun s =>
    let due := s.age.appliedAt.any fun a => decide (a + s.getN Obj.AGE_REPLAN_PERIOD * 3600000000000 ≤ s.now)
    if due && !s.bit Obj.AGE_STATUS 4 then s.replanDue else s

/-- 1 is written to AGE_REPLAN_REQ (R214). -/
def execAgeReplanReq (t : Nat) (f : Sender) (s : State) : Host.Outcome State Fault Refusal :=
  s.done t fun s => s.writeEntry f Obj.AGE_REPLAN_REQ 1

/-- A core writes SUBMIT: what the plan buffer then holds, and the generation written (R215). -/
def execPlanSubmit (t : Nat) (f : Sender) (plan : Plan) (gen : Nat) (s : State) : Host.Outcome State Fault Refusal :=
  s.done t fun s =>
    match hartOf f with
    | some h => if s.hartRuns h then s.planOffer plan gen true none else s
    | none => s

/-- A download of AGE_PLAN_SUBMIT (R216). -/
def execAgePlanSubmit (t : Nat) (f : Sender) (data : List Nat) (s : State) : Host.Outcome State Fault Refusal :=
  s.done t fun s => s.requestWrite f .plain (Obj.AGE_PLAN_SUBMIT / 256) (Obj.AGE_PLAN_SUBMIT % 256) data none

/-- The checks of the submitted plan end (R217). -/
def execPlanCheckDone (t : Nat) (s : State) : Host.Outcome State Fault Refusal := s.done t State.planChecked

end Sys2Proof.Machine
end

