-- ==== Sys2Proof/Machine/CmdBoot.lean ====
section
/-!
DEFINITION. The commands of reset, boot and the debug ports (chapters 18, 19; R291, R373).
-/

namespace Sys2Proof.Machine

/-- PORESET_N has been held low for `low` ns (R472). -/
def execPoresetNAssert (t low : Nat) (powerLost : Bool) (s : State) : Host.Outcome State Fault Refusal :=
  s.done t fun s => s.poresetAssert low powerLost

/-- PORESET_N is released with these levels on UNIT_SEL and BOOT_SEL (R472, R473). -/
def execPoresetNRelease (t : Nat) (unitB : Bool) (bootSel : Nat) (s : State) : Host.Outcome State Fault Refusal :=
  s.done t fun s => s.poresetRelease unitB bootSel

/-- An attempt at a firmware bank ends (R479, R482, R484). -/
def execFirmwareBankAttempt (t : Nat) (image : FirmwareImage) (s : State) : Host.Outcome State Fault Refusal :=
  s.done t fun s => s.bankAttempt image

/-- Boot completes (R486). -/
def execEnterConfig (t : Nat) (reads : List Bool) (badSlots : List Nat) (copies : Nat) (s : State) :
    Host.Outcome State Fault Refusal :=
  s.done t fun s => s.bootComplete reads badSlots copies

/-- The service watchdog expires (R475). -/
def execServiceWatchdogExpiry (t : Nat) (s : State) : Host.Outcome State Fault Refusal := s.done t State.watchdogExpiry

/-- A service core pair disagrees (R373). -/
def execLockstepMismatch (t : Nat) (s : State) : Host.Outcome State Fault Refusal := s.done t State.lockstep

/-- A boundary-scan test instruction is loaded (R291). -/
def execJtagTestInstruction (t : Nat) (s : State) : Host.Outcome State Fault Refusal := s.done t State.jtagTest

/-- BYPASS or IDCODE is loaded after it (R291). -/
def execJtagResetRelease (t : Nat) (s : State) : Host.Outcome State Fault Refusal := s.done t State.jtagRelease

/-- Fuse programming ends; bit 0 of `failed` the counter, bit 1 the revocation (R481). -/
def execOtpProgramDone (t failed : Nat) (s : State) : Host.Outcome State Fault Refusal := s.done t fun s => s.otpDone failed

/-- LOGREAD of a range of the logbook partition (R467). -/
def execJtagLogread (t offset length : Nat) (s : State) : Host.Outcome State Fault Refusal :=
  s.done t fun s => s.logRead offset length

/-- DEBUG: a challenge is asked for, or answered (R467). -/
def execJtagDebug (t : Nat) (data : List Nat) (s : State) : Host.Outcome State Fault Refusal := s.done t fun s => s.debugOpen data

/-- A read command on the debug UART (R466). -/
def execUartReadCommand (t index sub : Nat) (s : State) : Host.Outcome State Fault Refusal := s.done t fun s => s.uartRead index sub

end Sys2Proof.Machine
end

