-- ==== Sys2Proof/Machine/CmdCan.lean ====
section
/-!
DEFINITION. The commands of CAN0 and CAN1 (chapter 17, R433 to R437).
-/

namespace Sys2Proof.Machine

/-- A USDO expedited download (R434). -/
def execUsdoExpeditedDownload (t port index sub : Nat) (data : List Nat) (s : State) : Host.Outcome State Fault Refusal :=
  s.done t fun s => s.usdoDownload port index sub data

/-- A USDO segmented download of a length is initiated (R434). -/
def execUsdoSegmentedDownload (t port index sub length : Nat) (s : State) : Host.Outcome State Fault Refusal :=
  s.done t fun s => s.usdoDownloadStart port index sub length

/-- A USDO download segment; `img` is the image that a completed download of DEV_IMAGE spells (R430). -/
def execUsdoDownloadSegment (t port : Nat) (data : List Nat) (last : Bool) (img : Option DictImage) (s : State) :
    Host.Outcome State Fault Refusal :=
  s.done t fun s => s.usdoDownloadSegment port data last img

/-- A USDO expedited upload (R434). -/
def execUsdoExpeditedUpload (t port index sub : Nat) (s : State) : Host.Outcome State Fault Refusal :=
  s.done t fun s => s.usdoUpload port index sub true

/-- A USDO segmented upload is initiated (R434). -/
def execUsdoSegmentedUpload (t port index sub : Nat) (s : State) : Host.Outcome State Fault Refusal :=
  s.done t fun s => s.usdoUpload port index sub false

/-- A USDO upload segment is requested (R432). -/
def execUsdoUploadSegment (t port : Nat) (s : State) : Host.Outcome State Fault Refusal := s.done t fun s => s.usdoUploadSegment port

/-- A USDO abort transfer message (R434). -/
def execUsdoAbort (t port : Nat) (s : State) : Host.Outcome State Fault Refusal := s.done t fun s => s.usdoAbort port

/-- The open transfer of a port has been silent for 1 s (R435). -/
def State.usdoSilent (s : State) (port : Nat) : Bool :=
  (s.session (canSender port)).any fun e => decide (e.lastRequest + 1000000000 ≤ s.now)

/-- A USDO transfer times out (R435). -/
def execUsdoSegmentTimeout (t port : Nat) (s : State) : Host.Outcome State Fault Refusal :=
  s.done t fun s => if port < 2 && s.usdoSilent port then s.usdoTimeout port else s

/-- An NMT command arrives (R436). -/
def execNmtCommand (t port : Nat) (s : State) : Host.Outcome State Fault Refusal := s.done t fun s => s.canIgnored port

/-- The heartbeat period of a port ends (R436). -/
def execHeartbeatTimer (t port : Nat) (s : State) : Host.Outcome State Fault Refusal := s.done t fun s => s.heartbeat port

/-- A port reaches bus-off (R437). -/
def execCanBusOff (t port : Nat) (s : State) : Host.Outcome State Fault Refusal := s.done t fun s => s.canBusOff port

/-- 10 s have passed since the bus-off of a port. -/
def State.busOffQuiet (s : State) (port : Nat) : Bool :=
  (s.dict.busOff.getD port none).any fun b => decide (b + 10000000000 ≤ s.now)

/-- 10 s without a further bus-off (R437). -/
def execCanBusOffQuiet (t port : Nat) (s : State) : Host.Outcome State Fault Refusal :=
  s.done t fun s => if s.busOffQuiet port then s.canQuiet port else s

end Sys2Proof.Machine
end

