-- ==== Sys2Proof/Machine/CmdCarrier.lean ====
section
/-!
DEFINITION. The commands of the carrier unit (chapter 6). An event of a channel happens when its instant, which the channel's own
registers give, has come at the command's time; a command ahead of it has no effect.
-/

namespace Sys2Proof.Machine

/-- An instant has come. -/
def State.reached (s : State) (inst : Int) : Bool := decide (inst ≤ s.nowFine)

/-- A field of a channel. -/
def State.ofChannel {α : Type} (s : State) (k : Nat) (f : CarChannel → Option α) : Option α := (s.car.channels[k]?).bind f

/-- The instant of a channel's next reload, and whether the phase is loaded: its own period end, or a synchronisation pulse, which
wins on the same clock (R137, R142). -/
def State.carReloadAt (s : State) (k : Nat) : Option (Int × Bool) :=
  s.ofChannel k fun c =>
    if !s.carPwm k then none else
    match c.sync with
    | some inst => if inst < c.ends + 320 then some (inst, true) else some (c.ends, false)
    | none => some (c.ends, false)

/-- The channel reloads if the instant has come. -/
def State.carReloadDue (s : State) (k : Nat) : State :=
  match s.carReloadAt k with
  | some (inst, phased) => if s.reached inst then s.carReload k inst phased else s
  | none => s

/-- The counter reaches its period end (R137, R138). -/
def execCarrierReload (t k : Nat) (s : State) : Host.Outcome State Fault Refusal :=
  s.doneAt t (fun s => (s.carReloadAt k).map (·.1)) fun s => s.carReloadDue k

/-- A synchronisation pulse reaches a channel (R142). -/
def State.carSyncPulse (s : State) (k : Nat) : State :=
  match s.ofChannel k fun c => c.sync with
  | some inst => if s.carPwm k && s.reached inst then s.carReload k inst true else s
  | none => s

/-- The pulse of a chain, of an Orbit boundary or of the time unit reloads the channel with its phase (R142). -/
def execCarrierSyncPulse (t k : Nat) (s : State) : Host.Outcome State Fault Refusal :=
  s.doneAt t (fun s => s.ofChannel k fun c => c.sync) fun s => s.carSyncPulse k

/-- The instant of the falling edge of a channel's period; none where it makes none (R137). -/
def State.carDutyAt (s : State) (k : Nat) : Option Int :=
  s.ofChannel k fun c =>
    if s.carPwm k && !c.dutyDone && c.duty < 64 * c.period then some (s.carEdgeTime c.start c.duty) else none

/-- The counter reaches the active duty. -/
def State.carDutyDue (s : State) (k : Nat) : State :=
  match s.carDutyAt k with
  | some inst =>
    if s.reached inst then ((s.withChannel k fun c => { c with dutyDone := true }).carFine k).carFall k inst else s
  | none => s

/-- The raw output falls at the active duty (R137). -/
def execCarrierDutyEdge (t k : Nat) (s : State) : Host.Outcome State Fault Refusal :=
  s.doneAt t (fun s => s.carDutyAt k) fun s => s.carDutyDue k

/-- The delayed rises of a channel that have come (R141). -/
def State.carDeadDue (s : State) (k : Nat) : State :=
  let due := fun (o : Option Int) => o.any fun i => s.reached i
  s.withChannel k fun c => { c with
    main := c.main || due c.mainDue, mainDue := if due c.mainDue then none else c.mainDue
    comp := c.comp || due c.compDue, compDue := if due c.compDue then none else c.compDue }

/-- DT after a raw edge the delayed output rises (R141). -/
def execDeadTimeElapsed (t k : Nat) (s : State) : Host.Outcome State Fault Refusal :=
  s.doneAt t (fun s => s.ofChannel k fun c => match c.mainDue with
    | some i => some i
    | none => c.compDue) fun s => s.carDeadDue k

/-- The instant of a compare trigger: CMPA, or CMPB with `second`; none where the period gives none (R143). -/
def State.carCompareAt (s : State) (k : Nat) (second : Bool) : Option Int :=
  s.ofChannel k fun c =>
    let v := if second then c.cmpb else c.cmpa
    let gone := if second then c.doneB else c.doneA
    if s.bit (Obj.CAR_CH_STATUS k) 0 && !gone && v < 64 * c.period then
      some (if v = 0 then c.start + (320 * c.loaded : Nat) else s.carEdgeTime c.start v)
    else none

/-- The trigger goes to Comet, to the channel's interrupt source and to the auxiliary pin as the channel's control enables, on the
pin as a pulse of CAR_TRIG_WIDTH clocks under the mask (R143, R148, Table 6.9). -/
def State.carCompare (s : State) (k : Nat) (second : Bool) (inst : Int) : State :=
  let ctrl := s.getN (Obj.CAR_CH_CTRL k)
  let b := if second then 1 else 0
  let s1 := s.withChannel k fun c => if second then { c with doneB := true } else { c with doneA := true }
  let stamp := s.stampAt inst
  let s2 := if bitOf ctrl (5 + b) then s1.cmtFire 6 stamp.1 stamp.2 else s1
  let s3 := (s2.carIrq k (13 + b)).carFine k
  let masked := s.bit (Obj.CAR_CH_STATUS k) 2
  let pin := field (s.getN (Obj.CAR_ROUTE k)) 8 5
  if bitOf ctrl (7 + b) && s.carMode k = 2 && pin < 18 && !masked && s.pins.io18 then
    (s3.emit (.pin (32 + pin) true)).emit (.pin (32 + pin) false)
  else s3

/-- A compare trigger (R143). -/
def execCarrierCompareTrigger (t k : Nat) (second : Bool) (s : State) : Host.Outcome State Fault Refusal :=
  s.doneAt t (fun s => s.carCompareAt k second) fun s =>
    match s.carCompareAt k second with
    | some inst => if s.reached inst then s.carCompare k second inst else s
    | none => s

/-- The first queued edge of the present cycle of a bound channel, and its instant (R135). -/
def State.carBoundAt (s : State) (k : Nat) : Option (Nat × Int) :=
  s.ofChannel k fun c =>
    if s.carMode k = 1 && s.orbRunning then
      (c.queue.find? fun q => q.1 = s.orbCount).map fun q => (q.2, s.carEdgeTime c.start q.2)
    else none

/-- The internal output toggles. -/
def State.carToggle (s : State) (k : Nat) : State :=
  match s.carBoundAt k with
  | some (edge, inst) =>
    if s.reached inst then
      ((s.withChannel k fun c => { c with internal := !c.internal, queue := c.queue.erase (s.orbCount, edge) }).put
        (Obj.CAR_DUTY_NOW k) edge).carFine k
    else s
  | none => s

/-- A bound counter passes its queued edge (R135). -/
def execBoundEdgeToggle (t k : Nat) (s : State) : Host.Outcome State Fault Refusal :=
  s.doneAt t (fun s => (s.carBoundAt k).map (·.2)) fun s => s.carToggle k

/-- COMMIT is set in CAR_CH_CMD (R138, R149). -/
def execCarCommit (t : Nat) (f : Sender) (k : Nat) (s : State) : Host.Outcome State Fault Refusal :=
  s.done t fun s => if 24 ≤ k then s else s.blockWrite f (Obj.CAR_CH_CMD k) 1 fun s _ => s.carCommit k

/-- CLEAR_STICKY is set in CAR_CH_CMD (R149, R151). -/
def execCarClearSticky (t : Nat) (f : Sender) (k : Nat) (s : State) : Host.Outcome State Fault Refusal :=
  s.done t fun s => if 24 ≤ k then s else s.blockWrite f (Obj.CAR_CH_CMD k) 2 fun s _ => s.carClearSticky k

/-- A shadow register is written: 0 period, 1 duty, 2 CMPA, 3 CMPB, 4 phase, whose bits 31:24 are reserved (R6, R138 to R140,
R149). -/
def execCarShadowWrite (t : Nat) (f : Sender) (k reg v : Nat) (s : State) : Host.Outcome State Fault Refusal :=
  s.done t fun s => if 24 ≤ k || 5 ≤ reg then s else
    s.blockWrite f (carShadow reg k) v fun s _ => s.carShadowWrite k reg (if reg = 4 then v % 2 ^ 24 else v % 2 ^ 32)

/-- A commutation mask ends after CAR_COMM_HOLD (R145). -/
def execCarCommHoldExpiry (t k : Nat) (s : State) : Host.Outcome State Fault Refusal :=
  s.done t fun s => if 24 ≤ k then s else s.carMaskOne k

/-- The delay line's calibration locks; with the carrier PLL back it ends the CLOCK mask (R136, R144). -/
def execDelayLineLock (t : Nat) (s : State) : Host.Outcome State Fault Refusal :=
  s.done t fun s => if s.pllDrives 3 then (s.setBit Obj.CAR_UNIT_STATUS 0 true).setBit Obj.CAR_UNIT_STATUS 1 false else s

/-- The delay line's calibration is lost (R136). -/
def execDelayLineUnlock (t : Nat) (s : State) : Host.Outcome State Fault Refusal :=
  s.done t fun s => if s.carLocked then
    ((s.setBit Obj.CAR_UNIT_STATUS 0 false).bump Obj.CAR_DL_UNLOCK_COUNT).raise 283 else s

end Sys2Proof.Machine
end

