-- ==== Sys2Proof/Machine/CmdClock.lean ====
section
/-!
DEFINITION. The commands of the clock and power units (chapter 14).
-/

namespace Sys2Proof.Machine

/-- What the clock unit does unless the device is in RESET. DESIGN CHOICE (log entry 72): unsafe. -/
def State.clocked (s : State) (act : State → State) : State := if s.devState = stReset then s else act s

/-- REF25 is lost (R351). -/
def execRef25Lost (t : Nat) (s : State) : Host.Outcome State Fault Refusal := s.done t fun s => s.clocked State.ref25Lost

/-- REF25 has qualified for 1 s (R351). -/
def execRef25Qualified (t : Nat) (s : State) : Host.Outcome State Fault Refusal := s.done t fun s => s.clocked State.ref25Qualified

/-- The frequency error has stayed below 0.01 ppm for 1 s (R351). -/
def execDpllLock (t : Nat) (s : State) : Host.Outcome State Fault Refusal :=
  s.done t fun s => s.clocked fun s => if s.dpll = 1 then s.dpllEnter 2 else s

/-- The crystal is lost (R352). -/
def execXoLost (t : Nat) (s : State) : Host.Outcome State Fault Refusal := s.done t fun s => s.clocked State.crystalLost

/-- The crystal oscillates again (R351). -/
def execCrystalRestored (t : Nat) (s : State) : Host.Outcome State Fault Refusal := s.done t fun s => s.clocked State.crystalBack

/-- REF156 is lost (R353). -/
def execRef156Lost (t : Nat) (s : State) : Host.Outcome State Fault Refusal := s.done t fun s => s.clocked fun s => s.ref156 true

/-- REF156 has qualified for 1 s (R353). -/
def execRef156Requalified (t : Nat) (s : State) : Host.Outcome State Fault Refusal :=
  s.done t fun s => s.clocked fun s => s.ref156 false

/-- Analog PLL p loses lock (R356, R359). -/
def execPllLockLoss (t p : Nat) (s : State) : Host.Outcome State Fault Refusal :=
  s.done t fun s => s.clocked fun s => if p < 6 then s.pllLoss p else s

/-- A relock, start or change ends in lock: analog PLLs 0 to 5, quad PLLs 6 to 18 (R357, R358). -/
def execPllRelockDone (t p : Nat) (s : State) : Host.Outcome State Fault Refusal :=
  s.done t fun s => s.clocked fun s => if p < 6 then s.pllDone p else if p < 19 then s.quadDone (p - 6) else s

/-- 500 us pass without lock: lasting (R357); during a wake the device goes to RESET (R368). -/
def execPllRelockTimeout (t p : Nat) (s : State) : Host.Outcome State Fault Refusal :=
  s.done t fun s => s.clocked fun s =>
    if p < 6 then
      (if s.clk.sleep = 4 && s.pllBusy p then (s.pllTimeout p).resetWith 0x0204 else s.pllTimeout p)
    else if p < 19 then s.quadTimeout (p - 6) else s

/-- CLK_PLL_CTRL of a PLL is written (R358). -/
def execClkPllCtrlChange (t : Nat) (f : Sender) (p v : Nat) (s : State) : Host.Outcome State Fault Refusal :=
  s.done t fun s => if p < 6 then s.writeEntry f (Obj.CLK_PLL_CTRL p) v else s

/-- CLK_PLL_RELOCK is written (R357). -/
def execClkPllRelock (t : Nat) (f : Sender) (mask : Nat) (s : State) : Host.Outcome State Fault Refusal :=
  s.done t fun s => s.writeEntry f Obj.CLK_PLL_RELOCK mask

/-- BYP200 is measured against the crystal (R359). -/
def execByp200Check (t khz : Nat) (s : State) : Host.Outcome State Fault Refusal := s.done t fun s => s.clocked fun s => s.byp200 khz

/-- The rails in mV, Tj in 0.1 degC and the regulator's current in mA are sampled (R360, R361). -/
def execRailMonitorSample (t : Nat) (mv : List Nat) (tj : Int) (current : Nat) (s : State) : Host.Outcome State Fault Refusal :=
  s.done t fun s => s.clocked fun s => s.railsSampled mv tj current

/-- 1 is written to PWR_EXTREMES_CLEAR (R360). -/
def execPwrExtremesClear (t : Nat) (f : Sender) (s : State) : Host.Outcome State Fault Refusal :=
  s.done t fun s => s.writeEntry f Obj.PWR_EXTREMES_CLEAR 1

/-- 1 is written to PWR_SLEEP_REQ (R365). -/
def execPwrSleepReq (t : Nat) (f : Sender) (s : State) : Host.Outcome State Fault Refusal :=
  s.done t fun s => s.writeEntry f Obj.PWR_SLEEP_REQ 1

/-- The service firmware signals ready: the commit point (R365, R366). -/
def execSleepFirmwareReady (t : Nat) (s : State) : Host.Outcome State Fault Refusal := s.done t State.sleepReady

/-- PWR_SLEEP_GRACE passes without ready (R365, R369). -/
def execSleepGraceExpiry (t : Nat) (s : State) : Host.Outcome State Fault Refusal := s.done t State.graceExpired

/-- The hardware sequence of the entry to LUNAR is complete (R365). -/
def execLunarEntryDone (t : Nat) (s : State) : Host.Outcome State Fault Refusal := s.done t State.lunarEnter

/-- A wake source of Table 14.12, by its bit, fires (R367). -/
def execWakeEvent (t src : Nat) (s : State) : Host.Outcome State Fault Refusal :=
  s.done t fun s => if src < 8 then s.wakeEvent src else s

/-- PWR_WAKE_TIMER seconds have passed since the commit point (R367). -/
def State.wakeTimerDue (s : State) : Bool :=
  2 ≤ s.clk.sleep && decide (s.clk.commitAt + s.getN Obj.PWR_WAKE_TIMER * 1000000000 ≤ s.now)

/-- The wake timer expires (R367). -/
def execWakeTimerExpiry (t : Nat) (s : State) : Host.Outcome State Fault Refusal :=
  s.done t fun s => if s.wakeTimerDue then s.wakeEvent 6 else s

/-- The wake sequence is complete (R368). -/
def execWakeComplete (t : Nat) (s : State) : Host.Outcome State Fault Refusal := s.done t State.wakeComplete

/-- The DRAM has left self-refresh and is retrained (R359). -/
def execDramRetrainDone (t : Nat) (s : State) : Host.Outcome State Fault Refusal :=
  s.done t fun s => if s.pllDrives 5 then s.cmtDramBack else s

/-- A crossing, by its number, discards a unit (R350). -/
def execCrossingFault (t subject : Nat) (s : State) : Host.Outcome State Fault Refusal :=
  s.done t fun s => s.clocked fun s => s.crossingFault subject

end Sys2Proof.Machine
end

