-- ==== Sys2Proof/Machine/CmdComet.lean ====
section
/-!
DEFINITION. The commands of Comet (chapter 16).
-/

namespace Sys2Proof.Machine

/-- An arm: CMT_ARM, or command 1 of the CMT block (R411). -/
def execCmtArm (t : Nat) (f : Sender) (s : State) : Host.Outcome State Fault Refusal :=
  s.done t fun s => s.blockWrite f Obj.CMT_ARM 1 fun s _ => s.cmtArm.1

/-- An abort: CMT_ABORT, or command 2 of the CMT block (R414). -/
def execCmtAbort (t : Nat) (f : Sender) (s : State) : Host.Outcome State Fault Refusal :=
  s.done t fun s => s.blockWrite f Obj.CMT_ABORT 1 fun s _ => s.cmtAbort

/-- A soft trigger: CMT_FORCE_TRIG, or command 3 of the CMT block (R408). -/
def execCmtForceTrig (t : Nat) (f : Sender) (s : State) : Host.Outcome State Fault Refusal :=
  s.done t fun s => s.blockWrite f Obj.CMT_FORCE_TRIG 1 fun s _ => s.cmtSoft

/-- The pattern trigger, dated at the first clock of the match; it needs a clock without match before it fires again (R409). -/
def State.cmtPatternFires (s : State) : State :=
  if s.cmtState = 1 && s.cmt.patternFalse && s.cmtMatch s.cmt.levels then
    (s.cmtFire 1 s.cmt.matchAt.1 s.cmt.matchAt.2).withCmt fun c => { c with patternFalse := false }
  else s

/-- The pattern has held for CMT_PAT_HOLD + 1 clocks (R409). -/
def execCmtPatternMatch (t : Nat) (s : State) : Host.Outcome State Fault Refusal := s.done t State.cmtPatternFires

/-- Blocks whose oldest entry has waited 1 ms are completed (R403). -/
def execCmtBlockAgeTimeout (t : Nat) (s : State) : Host.Outcome State Fault Refusal :=
  s.done t fun s => s.cmtComplete fun since => decide (since + 1000000 ≤ s.now)

/-- The last tail block is written: the record is stored (R413). -/
def execCmtTailEnd (t : Nat) (s : State) : Host.Outcome State Fault Refusal :=
  s.done t fun s => if s.cmtTailFull then s.cmtFinish false else s

/-- A record number is written to CMT_REC_RELEASE (R415). -/
def execCmtRecRelease (t : Nat) (f : Sender) (n : Nat) (s : State) : Host.Outcome State Fault Refusal :=
  s.done t fun s => s.writeEntry f Obj.CMT_REC_RELEASE n

end Sys2Proof.Machine
end

