-- ==== Sys2Proof/Machine/CmdDict.lean ====
section
/-!
DEFINITION. The commands of the dictionary server (chapter 17): authentication (R424 to R427), images (R444 to R447) and writes of
entries without a command of their own (R429).
-/

namespace Sys2Proof.Machine

/-- A role is written to DEV_AUTH_REQ (R425). -/
def execDevAuthReq (t : Nat) (f : Sender) (role : Nat) (s : State) : Host.Outcome State Fault Refusal :=
  s.done t fun s => s.writeEntry f Obj.DEV_AUTH_REQ role

/-- A response of 32 bytes is written to DEV_AUTH_RESPONSE (R425, R426). -/
def execDevAuthResponse (t : Nat) (f : Sender) (data : List Nat) (s : State) : Host.Outcome State Fault Refusal :=
  s.done t fun s => s.requestWrite f .plain (Obj.DEV_AUTH_RESPONSE / 256) (Obj.DEV_AUTH_RESPONSE % 256) data none

/-- 1 is written to DEV_AUTH_LOGOUT (R424). -/
def execDevAuthLogout (t : Nat) (f : Sender) (s : State) : Host.Outcome State Fault Refusal :=
  s.done t fun s => s.writeEntry f Obj.DEV_AUTH_LOGOUT 1

/-- A session that holds a role has carried no request for DEV_AUTH_IDLE (R424). -/
def execAuthIdleTimeout (t : Nat) (f : Sender) (s : State) : Host.Outcome State Fault Refusal := s.done t fun s => s.authIdle f

/-- The failures of a channel are 60 s old. -/
def State.lockoutOver (s : State) (channel : Nat) : Bool :=
  s.dict.failures.all fun e => e.1 ≠ channel || decide (e.2 + 60000000000 ≤ s.now)

/-- The lockout of a channel ends (R426). -/
def execAuthLockoutExpiry (t channel : Nat) (s : State) : Host.Outcome State Fault Refusal :=
  s.done t fun s => if s.lockoutOver channel then s.lockoutEnd channel else s

/-- A key of 32 bytes is written to DEV_AUTH_KEY of a role (R427). -/
def execDevAuthKeyWrite (t : Nat) (f : Sender) (role : Nat) (data : List Nat) (s : State) : Host.Outcome State Fault Refusal :=
  s.done t fun s => s.requestWrite f .plain 0x2011 role data none

/-- An image is written to DEV_IMAGE (R445). -/
def execDevImageLoad (t : Nat) (f : Sender) (img : DictImage) (s : State) : Host.Outcome State Fault Refusal :=
  s.done t fun s => s.requestWrite f .plain (Obj.DEV_IMAGE / 256) (Obj.DEV_IMAGE % 256) [] (some img)

/-- 1 is written to DEV_IMAGE_STORE (R447). -/
def execDevImageStore (t : Nat) (f : Sender) (s : State) : Host.Outcome State Fault Refusal :=
  s.done t fun s => s.writeEntry f Obj.DEV_IMAGE_STORE 1

/-- Programming and verification of a stored image end, and its writer is answered (R447). -/
def State.imageStored (s : State) (ok : Bool) : State :=
  let r := s.storeDone ok
  match r.2 with
  | some (route, abort) => r.1.reply route abort []
  | none => r.1

/-- Programming and verification of a stored image end, verified or not (R447). -/
def execImageStoreDone (t : Nat) (ok : Bool) (s : State) : Host.Outcome State Fault Refusal := s.done t fun s => s.imageStored ok

/-- Bytes are written to an entry (R429). -/
def execRegisterWrite (t : Nat) (f : Sender) (index sub : Nat) (data : List Nat) (s : State) :
    Host.Outcome State Fault Refusal :=
  s.done t fun s => s.requestWrite f .plain index sub data none

end Sys2Proof.Machine
end

