-- ==== Sys2Proof/Machine/CmdEngine.lean ====
section
/-!
DEFINITION. The commands of the engines, the service cores and the interrupt controller (chapter 15). Where a command's outcome
depends on a CSR that only instructions write (mkorctl, mkorfctl, mkorfvec), the command brings the value that the CSR holds; an
answer that a core reads leaves as `Out.core`.
-/

namespace Sys2Proof.Machine

/-- An instruction of a running engine acts. -/
def State.onEngine (s : State) (e : Nat) (act : State → State) : State := if s.engRuns e then act s else s

/-- A hart that executes anything else has left its stalled KOR.WAIT, which issues afresh after the handler (R377). -/
def State.stallLeft (s : State) (h : Nat) : State := s.withHart h fun h => { h with waiting := none }

/-- An Xkor instruction other than KOR.FRET, with mkorctl as the engine holds it: illegal in user mode unless allowed (R376). -/
def State.kor (s : State) (e ctl : Nat) (user : Bool) (act : State → State) : State :=
  s.onEngine e fun s =>
    let s1 := (s.stallLeft e).withHart e fun h => { h with korctl := ctl % 2 }
    if s1.korAllowed e user then act s1 else s1.takeException e 2

/-- KOR.WAIT with the event and offset of rs1 (R376, R377). -/
def execKorWait (t e ctl : Nat) (user : Bool) (ev off : Nat) (s : State) : Host.Outcome State Fault Refusal :=
  s.done t fun s => s.kor e ctl user fun s => s.korWait e (ev % 16) (off % 2 ^ 32)

/-- The awaited strobe reaches the engine (R377). -/
def execKorWaitComplete (t e : Nat) (s : State) : Host.Outcome State Fault Refusal :=
  s.done t fun s => s.onEngine e fun s => s.korWaitDone e

/-- KOR.REFDONE; rd is 0 in time and 1 late (R385). -/
def execKorRefdone (t e ctl : Nat) (user : Bool) (s : State) : Host.Outcome State Fault Refusal :=
  s.done t fun s => s.kor e ctl user fun s =>
    let r := s.refDone e
    r.1.emit (.core e (r.2 : Nat))

/-- KOR.OFS: ns since the boundary in bits 31:0, ORB_COUNT in bits 63:32 (R376). -/
def execKorOfs (t e ctl : Nat) (user : Bool) (s : State) : Host.Outcome State Fault Refusal :=
  s.done t fun s => s.kor e ctl user fun s => s.emit (.core e (s.offset % 2 ^ 32 + 2 ^ 32 * s.orbCount : Nat))

/-- KOR.FRET (R393). -/
def execKorFret (t e : Nat) (s : State) : Host.Outcome State Fault Refusal :=
  s.done t fun s => s.onEngine e fun s => s.korFret e

/-- A write to DONE of a reference page: 1 acts as KOR.REFDONE on the engine's own page, 0 is ignored (R385). -/
def execRefPageDoneWrite (t e page v : Nat) (s : State) : Host.Outcome State Fault Refusal :=
  s.done t fun s => s.onEngine e fun s =>
    if e ≠ page then s.bump Obj.ENG_REF_FOREIGN else if v % 2 = 1 then (s.refDone e).1 else s

/-- A write to staging register `reg` of a reference page (R385). -/
def execReferencePageWrite (t e page reg : Nat) (v : Int) (s : State) : Host.Outcome State Fault Refusal :=
  s.done t fun s => s.onEngine e fun s => s.pageWrite e page reg v

/-- 1 is written to ENG_REF_SLACK_CLEAR (R385). -/
def execEngRefSlackClear (t : Nat) (f : Sender) (s : State) : Host.Outcome State Fault Refusal :=
  s.done t fun s => s.writeEntry f Obj.ENG_REF_SLACK_CLEAR 1

/-- An exception in fast mode, or one whose vector is invalid, halts the engine (R375). -/
def execEngineExceptionHalt (t e cause : Nat) (s : State) : Host.Outcome State Fault Refusal :=
  s.done t fun s => s.onEngine e fun s => s.engHalt e cause ((s.eng.harts[e]?).any (·.fast))

/-- 1 is written to ENG_RESTART of an engine (R375). -/
def execEngRestart (t : Nat) (f : Sender) (e : Nat) (s : State) : Host.Outcome State Fault Refusal :=
  s.done t fun s => if e < 8 then s.writeEntry f (Obj.ENG_RESTART e) 1 else s

/-! ## The interrupt controller -/

/-- Sources that the chapters reserve: they never fire. -/
def reservedSources : List (Nat × Nat) :=
  [(116, 127), (154, 159), (168, 191), (203, 207), (223, 223), (245, 255), (285, 287), (301, 319), (336, 351), (366, 383),
   (424, 447), (464, 479), (495, 495)]

/-- A source of R388 that may fire. -/
def sourceExists (src : Nat) : Bool := decide (src < 512) && !(reservedSources.any fun r => decide (r.1 ≤ src ∧ src ≤ r.2))

/-- The event of a source (R389). -/
def execInterruptSourceFire (t src : Nat) (s : State) : Host.Outcome State Fault Refusal :=
  s.done t fun s => if sourceExists src && s.devState ≠ stReset then s.raise src else s

/-- A running target reads its claim register (R390). -/
def execInterruptClaim (t target : Nat) (s : State) : Host.Outcome State Fault Refusal :=
  s.done t fun s =>
    if s.hartRuns target then
      let r := (s.stallLeft target).icuClaim target
      r.1.emit (.core target (r.2 : Nat))
    else s

/-- A running target writes its claim register (R391). -/
def execInterruptComplete (t target source : Nat) (s : State) : Host.Outcome State Fault Refusal :=
  s.done t fun s => if s.hartRuns target then (s.stallLeft target).icuComplete target source else s

/-- A fast source is granted to an engine that has mkorfctl.FEN and mkorfvec as given, at its pc (R393). -/
def execFastInterruptGrant (t e : Nat) (fen : Bool) (vec pc : Nat) (s : State) : Host.Outcome State Fault Refusal :=
  s.done t fun s => s.onEngine e fun s =>
    (s.withHart e fun h => { h with fen := fen, fvec := vec / 64 * 64 }).fastGrant e pc

/-- The hold-off of a group expires (R392). -/
def execIcuHoldoffExpiry (t g : Nat) (s : State) : Host.Outcome State Fault Refusal :=
  s.done t fun s => s.withIcu fun i => { i with holdoff := i.holdoff.filter fun h => h.1 ≠ g || decide (s.now < h.2) }

/-- A write to the ICU block that is ignored (R388, R395). -/
def State.icuForeign (s : State) : State := s.bump Obj.ICU_FOREIGN_WRITE

/-- A number is written to ICU_SW_SET or the software set register (R395). -/
def execIcuSwSet (t : Nat) (f : Sender) (n : Nat) (s : State) : Host.Outcome State Fault Refusal :=
  s.done t fun s => s.blockWrite f Obj.ICU_SW_SET n fun s _ => if 504 ≤ n && n ≤ 511 then s.raise n else s.icuForeign

/-- Bits are written to the pending-clear register of a group (R389); an engine's write is ignored (R388). -/
def execIcuPendingClear (t : Nat) (f : Sender) (g bits : Nat) (s : State) : Host.Outcome State Fault Refusal :=
  s.done t fun s =>
    if 16 ≤ g then s else
    s.blockWrite f (Obj.ICU_PENDING_CLEAR g) (bits % 2 ^ 32 : Nat) fun s h => if h < 8 then s.icuForeign else s.icuClear g bits

/-- ENABLE and PRIORITY of a configuration word. -/
abbrev icuOwnBits : Nat := 0x1D

/-- A configuration word is written through the ICU block: an engine writes ENABLE and PRIORITY of the sources that name it, and its
other changes are ignored and counted (R388); a service core writes the word. -/
def State.icuBlockWrite (s : State) (h src v : Nat) : State :=
  if 8 ≤ h then s.icuConfigure src (v &&& 0x3FF1F)
  else
    let old := s.srcCfg src
    if !bitOf old (8 + h) then s.icuForeign
    else
      let new := (old &&& 0x3FF02) ||| (v &&& icuOwnBits)
      let s1 := s.icuConfigure src new
      if (v &&& 0x3FF02) = (old &&& 0x3FF02) then s1 else s1.icuForeign

/-- ICU_SRC_CFG of a source is written (R388, R394). -/
def execIcuSrcCfgWrite (t : Nat) (f : Sender) (src v : Nat) (s : State) : Host.Outcome State Fault Refusal :=
  s.done t fun s =>
    if 512 ≤ src then s else
    s.blockWrite f (Obj.ICU_SRC_CFG (src / 32) (src % 32)) (v % 2 ^ 32 : Nat) fun s h => s.icuBlockWrite h src v

/-! ## Memory errors and access faults -/

/-- The access that a memory error ends: an access fault in the requesting core; a unit that is no core has none. -/
def State.memoryFault (s : State) (h : Nat) (store : Bool) : State :=
  if s.hartRuns h then s.takeException h (accessCause (if store then 1 else 0)) else s

/-- An ECC error of an SRAM: of the engine's own local SRAM, or of another; requested by hart h, or by another unit (h = 10) (R381). -/
def State.sramError (s : State) (h : Nat) (own store correctable : Bool) (address : Nat) : State :=
  if correctable then
    (if own && h < 8 then s.bump (Obj.ENG_SRAM_CORR h) else s.count 0x16)
  else
    (s.sramUncorr h address).memoryFault h store

/-- An ECC error of an SRAM (R381). -/
def execSramEccError (t h : Nat) (own store correctable : Bool) (address : Nat) (s : State) : Host.Outcome State Fault Refusal :=
  s.done t fun s => s.sramError h own store correctable address

/-- A DRAM error: corrected, scrubbed and read again (R382), or uncorrectable, which also stops Comet's spilling (R407). -/
def State.dramError (s : State) (h : Nat) (store correctable clean : Bool) (address : Nat) : State :=
  if correctable then
    if clean then (s.bump Obj.ENG_DRAM_CORR).siteOutcome 0x0B (Config.unlistedCode 7) noSubject [] false
    else (s.bump Obj.ENG_DRAM_LASTING).siteOutcome 0x0B (Config.unlistedCode 7) noSubject (bytesOf (address / 4096 * 4096) 8) true
  else
    ((s.count 0x18).journalFull (Config.unlistedCode 8) h (bytesOf address 8) 0x18 false false).cmtDramLost.memoryFault h store

/-- A DRAM error; `clean`: the re-read finds none (R382). -/
def execDramEccError (t h : Nat) (store correctable clean : Bool) (address : Nat) (s : State) : Host.Outcome State Fault Refusal :=
  s.done t fun s => s.dramError h store correctable clean address

/-- A core makes an access that the map or its block refuses (kind 0 load, 1 store, 2 fetch), or one to DRAM while it is not
available: an access fault without effect (R379, R380, Table 14.6). -/
def execAccessFault (t h address size kind : Nat) (s : State) : Host.Outcome State Fault Refusal :=
  s.done t fun s =>
    let dark := decide (0x100000000 ≤ address) && !s.pllDrives 5
    if s.hartRuns h && kind < 3 && (!s.accessAllowed h address size kind || dark) then s.takeException h (accessCause kind) else s

end Sys2Proof.Machine
end

