-- ==== Sys2Proof/Machine/CmdLane.lean ====
section
/-!
DEFINITION. The commands of the serial lanes (chapter 11). A lane number above 49 names no lane: such a command has no effect.
-/

namespace Sys2Proof.Machine

/-- Milliseconds after which a lane state times out (Table 11.3). -/
def laneLimit (st : Nat) : Option Nat :=
  if st = lanCap then some 10
  else if st = lanSwitch then some 2
  else if st = lanTrain then some 30
  else if st = lanVerify ∨ st = lanRelock then some 1
  else none

/-- The lane has been in its state for ms milliseconds. -/
def State.laneFor (s : State) (k ms : Nat) : Bool := (s.lane k).any fun l => decide (l.stateAt + ms * 1000000 ≤ s.now)

/-- The timeout of the lane's state expires (R271, R272, R280). -/
def execLaneStateTimeout (t k : Nat) (s : State) : Host.Outcome State Fault Refusal :=
  s.done t fun s =>
    match laneLimit (s.lanState k) with
    | some ms => if s.laneFor k ms then s.lanTimeout k else s
    | none => s

/-- 1 ms of VERIFY has passed without an error (R271). -/
def execLaneVerifyPass (t k : Nat) (s : State) : Host.Outcome State Fault Refusal :=
  s.done t fun s => if s.lanState k = lanVerify && s.laneFor k 1 then (s.lanVerified k).laneUp k else s

/-- 100 ms in DOWN (R272). -/
def execLaneDownRetry (t k : Nat) (s : State) : Host.Outcome State Fault Refusal :=
  s.done t fun s => if s.laneFor k 100 then s.lanRetry k else s

/-- A CAP set with its D2 and D3 (R273, R274). -/
def execLaneCapReceive (t k d2 d3 : Nat) (s : State) : Host.Outcome State Fault Refusal := s.done t fun s => s.lanCap k d2 d3

/-- A RATE_GO set with its D2 (R273, R274). -/
def execLaneRateGoReceive (t k d2 : Nat) (s : State) : Host.Outcome State Fault Refusal := s.done t fun s => s.lanRateGo k d2

/-- A TAP_REQ set with its D2 and sequence number (R277). -/
def execLaneTapReqReceive (t k d2 seq : Nat) (s : State) : Host.Outcome State Fault Refusal :=
  s.done t fun s => s.lanTapReq k d2 seq

/-- A TAP_STATUS set with its D2 and sequence number (R277, R278). -/
def execLaneTapStatusReceive (t k d2 seq : Nat) (s : State) : Host.Outcome State Fault Refusal :=
  s.done t fun s => s.lanTapStatus k d2 seq

/-- A SLEEP set (R289). -/
def execLaneSleepReceive (t k : Nat) (s : State) : Host.Outcome State Fault Refusal := s.done t fun s => s.lanSleep k

/-- Block lock is gained (R279). A lane that returns to ACTIVE from RELOCK joins its cascade group again (R264). -/
def execLaneBlockLock (t k : Nat) (s : State) : Host.Outcome State Fault Refusal :=
  s.done t fun s =>
    let s1 := s.lanLock k
    if !s.lanUp k && s1.lanUp k then s1.laneUp k else s1

/-- Lock is lost: an ACTIVE lane goes to RELOCK, with HI_BER shown where too many invalid sync headers count as the loss; before
that the attempt fails (R272, R279). -/
def execLaneLockLoss (t k : Nat) (hiBer : Bool) (s : State) : Host.Outcome State Fault Refusal :=
  s.done t fun s =>
    if s.lanUp k then (let s1 := s.laneLost k; if hiBer then s1.setBit (Obj.LAN_STATUS k) 1 true else s1) else s.lanLostEarly k

/-- An idle transmit direction sleeps (R288, R289). -/
def execLaneTxSleep (t k : Nat) (s : State) : Host.Outcome State Fault Refusal := s.done t fun s => s.lanTxSleep k

/-- A sleeping transmit direction wakes (R289). -/
def execLaneTxWake (t k : Nat) (s : State) : Host.Outcome State Fault Refusal := s.done t fun s => s.lanTxWake k

/-- A sleeping receive direction saw no wake, or no lock after it, in time (R290). -/
def execLaneRxWakeTimeout (t k : Nat) (s : State) : Host.Outcome State Fault Refusal :=
  s.done t fun s => if s.bit (Obj.LAN_STATUS k) 5 then s.laneLost k else s

/-- The minute of a lane (R282). -/
def execLaneBerMinute (t k : Nat) (s : State) : Host.Outcome State Fault Refusal := s.done t fun s => s.lanMinute k

/-- 1 is written to LAN_EYE_START (R283). -/
def execLanEyeStart (t : Nat) (f : Sender) (s : State) : Host.Outcome State Fault Refusal :=
  s.done t fun s => s.writeEntry f Obj.LAN_EYE_START 1

/-- 1 is written to LAN_EYE_ABORT (R284). -/
def execLanEyeAbort (t : Nat) (f : Sender) (s : State) : Host.Outcome State Fault Refusal :=
  s.done t fun s => s.writeEntry f Obj.LAN_EYE_ABORT 1

/-- All points are scanned: the points with a count other than 0 (R283). -/
def execEyeScanComplete (t : Nat) (counts : List (Nat × Nat)) (s : State) : Host.Outcome State Fault Refusal :=
  s.done t fun s => if 8192 ≤ s.eyeProgress then s.eyeDone counts else s

/-- LAN_LOOPBACK of a lane is written (R287). -/
def execLanLoopbackSelect (t : Nat) (f : Sender) (k v : Nat) (s : State) : Host.Outcome State Fault Refusal :=
  s.done t fun s => if k < 50 then s.writeEntry f (Obj.LAN_LOOPBACK k) v else s

/-- The eye height of a transmit setting, in vertical steps, is known (R278). -/
def execTrainEvaluationDone (t k : Nat) (height : Int) (s : State) : Host.Outcome State Fault Refusal :=
  s.done t fun s => s.lanEvaluated k height

/-- A quad PLL loses lock, and every lane of the quad with it (R359, R293). -/
def execQuadPllLockLoss (t q : Nat) (s : State) : Host.Outcome State Fault Refusal := s.done t fun s => s.quadLost q

end Sys2Proof.Machine
end

