-- ==== Sys2Proof/Machine/CmdLink.lean ====
section
/-!
DEFINITION. The commands of the link engine (chapter 10), but for those of the cascade.
-/

namespace Sys2Proof.Machine

/-- A CONTROL frame comes back at the even or odd port of a pair: its cycle, FCRC, HOPS, LOOPED and upward halves in slot order
(R229, R37). -/
def execFrameReturn (t pair : Nat) (odd : Bool) (cycle : Nat) (fcrcOk : Bool) (hops : Nat) (looped : Bool) (halves : List Nat)
    (s : State) : Host.Outcome State Fault Refusal :=
  s.done t fun s => s.frameBack pair odd cycle fcrcOk hops looped halves

/-- An ENUMERATE frame comes back, whole or not, with what its nodes wrote (R246). -/
def execEnumerationFrameReturn (t pair : Nat) (odd looped whole : Bool) (records : List NodeRecord) (s : State) :
    Host.Outcome State Fault Refusal :=
  s.done t fun s => s.enumBack pair odd looped whole records

/-- The DELAY frames are back: the loop time, a, b, r and r' of every node in 0.0625 ns, the latency in ns (R248). -/
def execDelayFrameReturn (t pair : Nat) (loop : Int) (nodes : List (Int × Int × Int × Int)) (latency : Nat) (whole : Bool)
    (s : State) : Host.Outcome State Fault Refusal :=
  s.done t fun s => s.linkDelay pair loop nodes latency whole

/-- Every node of a pair has stayed aligned for 1,000 cycles (R246). -/
def execAlignmentDone (t pair : Nat) (s : State) : Host.Outcome State Fault Refusal := s.done t fun s => s.linkAligned pair

/-- A management record comes back with a result (0xFF where it did not, or its check failed) and the value read (R258): what it was
for is 0 POSITION, 1 ALIGN, 2 HOLD_TIMEOUT, 3 a descriptor write, 4 its read-back, 5 a tuning update or its read-back, 6 any other. -/
def State.mgmtBack (s : State) (p purpose pos desc result value : Nat) : State :=
  if !s.valvePair p || 6 < purpose then s
  else if result = 0 then
    if purpose = 4 then s.descReadBack p pos desc value
    else
      let s1 := s.recordDone p purpose pos desc
      if purpose = 5 then s1.gpfReadBack (s.globalOf p pos) desc value else s1
  else
    let r := s.recordFailed p purpose pos desc
    if r.2 && purpose = 5 then r.1.gpfRecordLost (s.globalOf p pos) desc else r.1

/-- A management record returns (R258). -/
def execMgmtRecordReturn (t pair purpose pos desc result value : Nat) (s : State) : Host.Outcome State Fault Refusal :=
  s.done t fun s => s.mgmtBack pair purpose pos desc result value

/-- An urgent block of this unit comes back at a port (R244). -/
def execUrgentBlockReturned (t : Nat) (s : State) : Host.Outcome State Fault Refusal := s.done t State.urgentReturned

end Sys2Proof.Machine
end

