-- ==== Sys2Proof/Machine/CmdLog.lean ====
section
/-!
DEFINITION. The commands of the logbook (chapter 18).
-/

namespace Sys2Proof.Machine

/-- 10 minutes after the previous flush began (R462). -/
def execLogPeriodicFlush (t : Nat) (s : State) : Host.Outcome State Fault Refusal := s.done t State.flushPeriodic

/-- 1 is written to LOG_FLUSH_REQ (R462). -/
def execLogFlushReq (t : Nat) (f : Sender) (s : State) : Host.Outcome State Fault Refusal :=
  s.done t fun s => s.writeEntry f Obj.LOG_FLUSH_REQ 1

/-- Programming of a slot ends, verified or not (R462). -/
def execLogFlushDone (t : Nat) (ok : Bool) (s : State) : Host.Outcome State Fault Refusal := s.done t fun s => s.flushDone ok

/-- The limits of R462 allow a flush that was held back. -/
def execFlushSpacingExpiry (t : Nat) (s : State) : Host.Outcome State Fault Refusal := s.done t State.serveFlush

/-- What each second brings beside counters and histograms, while the dictionary is served: the power estimate (R363), the ageing
summaries (R221), the chopper on-times (R183) and the image as it stands (R448). -/
def State.secondOthers (s : State) : State :=
  if s.devState < stConfig || s.devState = stLunar then s else
  ((s.powerEstimate.ageSummaries).forAll (List.range 4) State.dchAccrue).imageGen

/-- The second: REF25 against the crystal, the crystal's correction and REF156 against SYSREF, in 0.001 ppm, where present (R457). -/
def execLogSecondTick (t : Nat) (ref25 : Option Int) (xo : Int) (ref156 : Option Int) (s : State) :
    Host.Outcome State Fault Refusal :=
  s.done t fun s => if s.boot.poreset then s else ((s.secondCounts).secondSamples ref25 xo ref156).secondOthers

/-- 1 is written to LOG_EXPORT_REQ (R465). -/
def execLogExportReq (t : Nat) (f : Sender) (s : State) : Host.Outcome State Fault Refusal :=
  s.done t fun s => s.writeEntry f Obj.LOG_EXPORT_REQ 1

end Sys2Proof.Machine
end

