-- ==== Sys2Proof/Machine/CmdMeasure.lean ====
section
/-!
DEFINITION. The commands of the measurement chain (chapter 7).
-/

namespace Sys2Proof.Machine

/-- A channel gives a main sample (R157, R158). -/
def execMeaMainSample (t k : Nat) (s : State) : Host.Outcome State Fault Refusal := s.done t fun s => s.meaMain k

/-- A channel gives a fast sample: the R captured bits, oldest first, the last credited at `last` in 2^-4 ns of TIME32 (R156, R158). -/
def execMeaFastSample (t k : Nat) (bits : List Bool) (last : Nat) (s : State) : Host.Outcome State Fault Refusal :=
  s.done t fun s => s.meaFast k bits last

/-- No edge of a group's clock for 200 ns (R153). -/
def execSdmClkLost (t g : Nat) (s : State) : Host.Outcome State Fault Refusal := s.done t fun s => s.meaClkLost g

/-- Edges return on a lost clock (R163). -/
def execSdmClkRestored (t g : Nat) (s : State) : Host.Outcome State Fault Refusal := s.done t fun s => s.meaClkBack g

/-- A window of an accepted clock ends with a mean period in 2^-20 ns (R153). -/
def execSdmClkWindowEnd (t g period : Nat) (s : State) : Host.Outcome State Fault Refusal := s.done t fun s => s.meaWindow g period

/-- 64 equal captures (R163). -/
def execSdmStuckDetect (t k : Nat) (s : State) : Host.Outcome State Fault Refusal := s.done t fun s => s.meaStuck k

/-- A stuck bitstream changes value (R163). -/
def execStuckBitstreamEnd (t k : Nat) (s : State) : Host.Outcome State Fault Refusal := s.done t fun s => s.meaUnstuck k

/-- t_settle has passed (R164). -/
def execMeaSettleEnd (t k : Nat) (s : State) : Host.Outcome State Fault Refusal := s.done t fun s => s.meaSettled k

/-- An error in the memories of the chain (R166, R381): a corrected one, a parity error of channel `index`, an uncorrectable one of
its delay line or of bank `index`, or the first check of a reloaded bank that finds it clean. -/
def State.meaMemory (s : State) (kind : MeaError) (index : Nat) : State :=
  match kind with
  | .corrected => ((s.bump Obj.MEA_ECC_CORR_COUNT).raise 298).count 0x16
  | .parity => s.meaMemFault index
  | .delayLine => (s.unitUncorr index).meaMemFault index
  | .bank =>
    if 8 ≤ index then s else
    (s.unitUncorr index).bankFault index ((s.dict.image.map fun i => i.records.map fun r => (r.1, r.2.2)).getD [])
  | .bankClean => s.bankClean index

/-- A parity or ECC error in channel memory (R166). -/
def execMeaMemoryError (t : Nat) (kind : MeaError) (index : Nat) (s : State) : Host.Outcome State Fault Refusal :=
  s.done t fun s => if s.meaOn then s.meaMemory kind index else s

/-- Channel bits are written to MEA_PEAK_CLEAR (R167). -/
def execMeaPeakClear (t : Nat) (f : Sender) (bits : Nat) (s : State) : Host.Outcome State Fault Refusal :=
  s.done t fun s => s.writeEntry f Obj.MEA_PEAK_CLEAR bits

end Sys2Proof.Machine
end

