-- ==== Sys2Proof/Machine/CmdOrbit.lean ====
section
/-!
DEFINITION. The commands of the Orbit cycle (chapter 2) and of the cascade tree (R262, R263).
-/

namespace Sys2Proof.Machine

/-- A cycle boundary. `headers` gives per lane with faulty sync headers in the cycle that ends how many there were (R281). -/
def execOrbitBoundary (t : Nat) (headers : List (Nat × Nat)) (s : State) : Host.Outcome State Fault Refusal :=
  s.done t fun s => if s.boundaryComes then (s.boundary State.commitEntry State.stagedDue headers).cmtPulses else s

/-- T_ref (R35). -/
def execTRefDeadline (t : Nat) (s : State) : Host.Outcome State Fault Refusal := s.done t State.tRef

/-- T_up (R33). -/
def execTUpDeadline (t : Nat) (s : State) : Host.Outcome State Fault Refusal := s.done t State.tUpstream

/-- T_fin; `unfinished` has a bit per window that has not finished (R42, R48). -/
def execTFinDeadline (t unfinished : Nat) (s : State) : Host.Outcome State Fault Refusal := s.done t fun s => s.tFin unfinished

/-- T_ready; `missing` names the ring pairs whose frames are not in their buffers (R48). -/
def execTReadyDeadline (t : Nat) (missing : List Nat) (s : State) : Host.Outcome State Fault Refusal :=
  s.done t fun s => s.tReady missing

/-- ORB_DEG_FORCE is written (R42). -/
def execOrbDegForceWrite (t : Nat) (f : Sender) (force : Bool) (s : State) : Host.Outcome State Fault Refusal :=
  s.done t fun s => s.writeEntry f Obj.ORB_DEG_FORCE (if force then 1 else 0)

/-- 1 is written to ORB_MARGIN_CLEAR (R51). -/
def execOrbMarginClear (t : Nat) (f : Sender) (s : State) : Host.Outcome State Fault Refusal :=
  s.done t fun s => s.writeEntry f Obj.ORB_MARGIN_CLEAR 1

/-- The root launches its record (R262). -/
def execCascadeDownLaunch (t : Nat) (s : State) : Host.Outcome State Fault Refusal := s.done t State.rootLaunch

/-- A branch receives the root's record, with the boundary label of its header (R263). -/
def execCascadeDownReceive (t : Nat) (record : CascDown) (label : Nat) (s : State) : Host.Outcome State Fault Refusal :=
  s.done t fun s => s.downReceive record label

/-- A frame of up records is received on a group (R263). -/
def execCascadeUpReceive (t group : Nat) (records : List CascUp) (s : State) : Host.Outcome State Fault Refusal :=
  s.done t fun s => s.cascUps group records

/-- A cascade frame comes back at LINKUP: its trip, the turnaround it reports, the latency beyond and the devices below (R261). -/
def execCascadeRoundtripReturn (t group trip turn beyond devices : Nat) (s : State) : Host.Outcome State Fault Refusal :=
  s.done t fun s => s.cascRoundTrip group trip turn beyond devices

end Sys2Proof.Machine
end

