-- ==== Sys2Proof/Machine/CmdProtection.lean ====
section
/-!
DEFINITION. The commands of the protection unit and of the choppers (chapter 8).
-/

namespace Sys2Proof.Machine

/-- A phase of a chopper's gate profile ends (R180). -/
def execDchPhaseEnd (t k : Nat) (s : State) : Host.Outcome State Fault Refusal := s.done t fun s => s.dchPhaseEnd k

/-- A minimum on or off time of a chopper expires (R179). -/
def execDchMinTimeExpiry (t k : Nat) (s : State) : Host.Outcome State Fault Refusal := s.done t fun s => s.dchEval k

/-- PRT_BLIND_MAX has passed with a pole invalid, the negative one with `neg` (R183). -/
def execPrtBlindMaxExpiry (t : Nat) (neg : Bool) (s : State) : Host.Outcome State Fault Refusal :=
  s.done t fun s => s.prtBlindExpiry neg

/-- FORCE is set in PRT_DCH_CTRL beside the bits that stand there (R184). -/
def execDchForceSet (t : Nat) (f : Sender) (k : Nat) (s : State) : Host.Outcome State Fault Refusal :=
  s.done t fun s => if 4 ≤ k then s else
    s.writeEntry f (Obj.PRT_DCH_CTRL k) (withBit (s.getN (Obj.PRT_DCH_CTRL k)) 3 true : Nat)

/-- 1 is written to PRT_OV_PEAK_CLEAR (R176). -/
def execPrtOvPeakClear (t : Nat) (f : Sender) (s : State) : Host.Outcome State Fault Refusal :=
  s.done t fun s => s.writeEntry f Obj.PRT_OV_PEAK_CLEAR 1

end Sys2Proof.Machine
end

