-- ==== Sys2Proof/Machine/CmdRank.lean ====
section
/-!
DEFINITION. The commands of the rank engine (chapter 5).
-/

namespace Sys2Proof.Machine

/-- A submodule number is written to RNK_REINSTATE (R111). -/
def execRnkReinstate (t : Nat) (f : Sender) (n : Nat) (s : State) : Host.Outcome State Fault Refusal :=
  s.done t fun s => s.writeEntry f Obj.RNK_REINSTATE n

/-- An ECC error in sort memory: of arm 0 to 5, or in the energy accumulators as arm 6 (R123, R126). -/
def execSortMemoryEcc (t arm : Nat) (corrected : Bool) (s : State) : Host.Outcome State Fault Refusal :=
  s.done t fun s => s.sortError arm corrected

end Sys2Proof.Machine
end

