-- ==== Sys2Proof/Machine/CmdRed.lean ====
section
/-!
DEFINITION. The commands of the redundancy supervisor (chapter 12).
-/

namespace Sys2Proof.Machine

/-- A cross-link lane carries HEAD and BODY: it is ACTIVE, and its latency is not known to exceed 0.60 us (R297). -/
def State.xlCarries (s : State) (lane : Nat) : Bool :=
  decide (lane < 2) && s.lanUp (48 + lane) && (s.red.latency.getD lane none).all fun l => decide (l ≤ 600)

/-- A HEAD arrives on a cross-link lane; `valid`: HCRC, FCRC and RCRC hold (R301, R308). -/
def execXlHeadReceive (t lane : Nat) (valid : Bool) (head : Head) (s : State) : Host.Outcome State Fault Refusal :=
  s.done t fun s => if valid && s.xlCarries lane then s.headReceive head else s

/-- A BODY arrives on a cross-link lane; `valid`: its checks hold (R298, R312). -/
def execXlBodyReceive (t lane : Nat) (valid : Bool) (body : Body) (s : State) : Host.Outcome State Fault Refusal :=
  s.done t fun s => if valid && s.xlCarries lane then s.bodyReceive State.commitEntry body else s

/-- A BULK arrives on a cross-link lane (R310, R313). -/
def execXlBulkReceive (t lane : Nat) (bulk : Bulk) (s : State) : Host.Outcome State Fault Refusal :=
  s.done t fun s => if lane < 2 && s.lanUp (48 + lane) && s.hasPartner then s.bulk bulk else s

/-- A HEAD that the partner returned at LINKUP: the round trip and the turnaround in ns (R297). -/
def execXlLatencyMeasure (t lane roundTrip turnaround : Nat) (s : State) : Host.Outcome State Fault Refusal :=
  s.done t fun s => s.xlLatency lane roundTrip turnaround

/-- The claim hold-off is over (R303). -/
def State.holdoffOver (s : State) : Bool :=
  s.orbRunning && s.red.claimAt.any fun c => !orbLater c s.orbCount

/-- The claim hold-off ends (R303, R304); the boundary itself claims in the same way. -/
def execClaimHoldoffExpiry (t : Nat) (s : State) : Host.Outcome State Fault Refusal :=
  s.done t fun s => if s.holdoffOver then s.claim else s

/-- A change record has waited two cycles for its acknowledgement. -/
def State.recordOverdue (s : State) : Bool :=
  s.red.records.any fun r => lostRecord s.orbCount r || (!r.sent.isEmpty && !(dueRecords s.orbCount [r]).isEmpty)

/-- Unacknowledged change records are sent once more, and then declared lost (R309). -/
def execChangeRecordTimeout (t : Nat) (s : State) : Host.Outcome State Fault Refusal :=
  s.done t fun s => if s.recordOverdue then s.sendRecords else s

/-- 1 is written to RED_RESYNC_REQ (R313). -/
def execRedResyncReq (t : Nat) (f : Sender) (s : State) : Host.Outcome State Fault Refusal :=
  s.done t fun s => s.writeEntry f Obj.RED_RESYNC_REQ 1

/-- An automatic resynchronisation falls due (R313). -/
def execAutoResyncTimer (t : Nat) (s : State) : Host.Outcome State Fault Refusal := s.done t State.resyncAuto

/-- A resynchronisation phase completes; `equal` is what the comparison of VERIFY found (R313). -/
def execResyncPhaseDone (t : Nat) (equal : Bool) (s : State) : Host.Outcome State Fault Refusal :=
  s.done t fun s => s.resyncNext State.commitEntry equal

/-- A resynchronisation phase times out (R314). -/
def execResyncPhaseTimeout (t : Nat) (s : State) : Host.Outcome State Fault Refusal := s.done t State.resyncTimeout

/-- 1 is written to RED_PARTNER_ABSENT (R315). -/
def execRedPartnerAbsentSet (t : Nat) (f : Sender) (s : State) : Host.Outcome State Fault Refusal :=
  s.done t fun s => s.writeEntry f Obj.RED_PARTNER_ABSENT 1

/-- 0 is written to RED_PARTNER_ABSENT (R315). -/
def execRedPartnerAbsentClear (t : Nat) (f : Sender) (s : State) : Host.Outcome State Fault Refusal :=
  s.done t fun s => s.writeEntry f Obj.RED_PARTNER_ABSENT 0

/-- 1 is written to RED_SWAP_REQ (R317). -/
def execRedSwapReq (t : Nat) (f : Sender) (s : State) : Host.Outcome State Fault Refusal :=
  s.done t fun s => s.writeEntry f Obj.RED_SWAP_REQ 1

/-- The width of a valid Tide pulse in ns (R301). -/
def tideWidth (width : Nat) : Bool := decide ((500 ≤ width ∧ width ≤ 1500) ∨ (2500 ≤ width ∧ width ≤ 3500))

/-- A pulse on TIDE_IN ends after `width` ns: it is kept for the score, Comet records its edges, and a valid one is wake source 1
(R301, R367). -/
def execTideInPulse (t width : Nat) (s : State) : Host.Outcome State Fault Refusal :=
  s.done t fun s =>
    let s1 := (s.tidePulse width).cmtInput 0x72 (s.time32 + 2 ^ 32 - width % 2 ^ 32) (some s.time32)
    if tideWidth width then s1.wakeEvent 1 else s1

end Sys2Proof.Machine
end

