-- ==== Sys2Proof/Machine/CmdState.lean ====
section
/-!
DEFINITION. The commands of the device's states (R19 to R24, R431, R487, R311) and of its trip inputs (R188 to R191).
-/

namespace Sys2Proof.Machine

/-- 0x02 is written to DEV_STATE_REQ (R431). -/
def execStateReqConfig (t : Nat) (f : Sender) (s : State) : Host.Outcome State Fault Refusal :=
  s.done t fun s => s.writeEntry f Obj.DEV_STATE_REQ 0x02

/-- 0x03 is written to DEV_STATE_REQ (R431). -/
def execStateReqLinkup (t : Nat) (f : Sender) (s : State) : Host.Outcome State Fault Refusal :=
  s.done t fun s => s.writeEntry f Obj.DEV_STATE_REQ 0x03

/-- 0x05 is written to DEV_STATE_REQ (R431). -/
def execStateReqRunNormal (t : Nat) (f : Sender) (s : State) : Host.Outcome State Fault Refusal :=
  s.done t fun s => s.writeEntry f Obj.DEV_STATE_REQ 0x05

/-- 0x15 is written to DEV_STATE_REQ (R431). -/
def execStateReqRunBlackstart (t : Nat) (f : Sender) (s : State) : Host.Outcome State Fault Refusal :=
  s.done t fun s => s.writeEntry f Obj.DEV_STATE_REQ 0x15

/-- 0x04 is written to DEV_STATE_REQ (R431). -/
def execStateReqBlocked (t : Nat) (f : Sender) (s : State) : Host.Outcome State Fault Refusal :=
  s.done t fun s => s.writeEntry f Obj.DEV_STATE_REQ 0x04

/-- BLOCKED is entered once every condition of LINKUP holds (R487). -/
def execLinkupComplete (t : Nat) (s : State) : Host.Outcome State Fault Refusal :=
  s.done t fun s => if s.linkupDone then s.enterBlocked else s

/-- A unit that does not own the valve follows its partner into RUN (R311). -/
def execFollowPartnerRun (t : Nat) (s : State) : Host.Outcome State Fault Refusal := s.done t State.followRun

/-- And into BLOCKED (R311). -/
def execFollowPartnerBlocked (t : Nat) (s : State) : Host.Outcome State Fault Refusal := s.done t State.followBlocked

/-- ARM_EN falls, filtered (R190). -/
def execArmEnFilteredFall (t : Nat) (s : State) : Host.Outcome State Fault Refusal := s.done t State.armFall

/-- ARM_EN rises, filtered (R190, R191). -/
def execArmEnFilteredRise (t : Nat) (s : State) : Host.Outcome State Fault Refusal := s.done t State.armRise

/-- 1 is written to PRT_SOFT_TRIP (R188). -/
def execPrtSoftTrip (t : Nat) (f : Sender) (s : State) : Host.Outcome State Fault Refusal :=
  s.done t fun s => s.writeEntry f Obj.PRT_SOFT_TRIP 1

/-- A GPIO input takes a level. -/
def State.gpioSet (s : State) (line : Nat) (level : Bool) : State :=
  if line < 32 then ({ s with pins := { s.pins with gpio := withBit s.pins.gpio line level } }).prtExtFollow else s

/-- The GPIO that PRT_EXT_GPIO names reaches its trip level (R188). -/
def execPrtExtTrip (t : Nat) (s : State) : Host.Outcome State Fault Refusal :=
  s.done t fun s => s.gpioSet (field (s.getN Obj.PRT_EXT_GPIO) 0 5) (s.bit Obj.PRT_EXT_GPIO 5)

/-- A GPIO input changes level (R145, R188). -/
def execGpioInputChange (t line : Nat) (level : Bool) (s : State) : Host.Outcome State Fault Refusal :=
  s.done t fun s => s.gpioSet line level

/-- The rail of an I/O bank falls below its operating minimum or returns: 0 VDDIO33, 1 VDDIO18 (R496). -/
def execIoBankRailLoss (t bank : Nat) (ok : Bool) (s : State) : Host.Outcome State Fault Refusal :=
  s.done t fun s => if bank = 0 then { s with pins := { s.pins with io33 := ok } }
    else if bank = 1 then { s with pins := { s.pins with io18 := ok } } else s

end Sys2Proof.Machine
end

