-- ==== Sys2Proof/Machine/CmdSwing.lean ====
section
/-!
DEFINITION. The commands of the swing unit, of the ride-through and of the black start (chapters 3 and 4).
-/

namespace Sys2Proof.Machine

/-- 1 is written to SWG_PARAM_HOLD (R76). -/
def execSwgParamHoldSet (t : Nat) (f : Sender) (s : State) : Host.Outcome State Fault Refusal :=
  s.done t fun s => s.writeEntry f Obj.SWG_PARAM_HOLD 1

/-- 0 is written to SWG_PARAM_HOLD (R76). -/
def execSwgParamHoldRelease (t : Nat) (f : Sender) (s : State) : Host.Outcome State Fault Refusal :=
  s.done t fun s => s.writeEntry f Obj.SWG_PARAM_HOLD 0

/-- The tracking conditions have held for 20 ms (R73). -/
def execTrackLockTimer (t : Nat) (s : State) : Host.Outcome State Fault Refusal := s.done t State.trackLock

/-- FRT_CLEAR_TIME has passed clear (R86). -/
def execFrtClearTimeExpiry (t : Nat) (s : State) : Host.Outcome State Fault Refusal := s.done t State.rideClear

/-- FRT_MAX_TIME is exceeded (R87). -/
def execFrtMaxTimeExpiry (t : Nat) (s : State) : Host.Outcome State Fault Refusal := s.done t State.rideTimeout

/-- DEAD_CHECK ends (R92, R93). -/
def execBlkDeadTimeExpiry (t : Nat) (s : State) : Host.Outcome State Fault Refusal := s.done t State.blkDeadEnd

/-- HOLD ends (R92, R95). -/
def execBlkHoldTimeExpiry (t : Nat) (s : State) : Host.Outcome State Fault Refusal := s.done t State.blkHoldEnd

/-- BLK_PAUSE_MAX is exceeded (R93). -/
def execBlkPauseMaxExpiry (t : Nat) (s : State) : Host.Outcome State Fault Refusal := s.done t State.blkStall

/-- 1 is written to BLK_SYNC_REQ (R96). -/
def execBlkSyncStart (t : Nat) (f : Sender) (s : State) : Host.Outcome State Fault Refusal :=
  s.done t fun s => s.writeEntry f Obj.BLK_SYNC_REQ 1

/-- 0 is written to BLK_SYNC_REQ (R97). -/
def execBlkSyncStop (t : Nat) (f : Sender) (s : State) : Host.Outcome State Fault Refusal :=
  s.done t fun s => s.writeEntry f Obj.BLK_SYNC_REQ 0

/-- The ready conditions have held for BLK_SYNC_DWELL (R97). -/
def execBlkSyncDwellExpiry (t : Nat) (s : State) : Host.Outcome State Fault Refusal := s.done t State.syncDwell

/-- The breaker counts as closed (R97). -/
def execBlkSyncCloseConfirm (t : Nat) (s : State) : Host.Outcome State Fault Refusal := s.done t State.syncClosed

/-- BLK_SYNC_TIMEOUT passes (R97). -/
def execBlkSyncTimeout (t : Nat) (s : State) : Host.Outcome State Fault Refusal := s.done t State.syncTimeout

end Sys2Proof.Machine
end

