-- ==== Sys2Proof/Machine/CmdTds.lean ====
section
/-!
DEFINITION. The commands of ETH0 and ETH1 (chapter 17, R438 to R443). A sender names the port (channel 2 or 3) and the session; `seq`
is the SEQ of the datagram.
-/

namespace Sys2Proof.Machine

/-- OPEN (R440). -/
def execTdsOpen (t channel seq : Nat) (s : State) : Host.Outcome State Fault Refusal :=
  s.done t fun s => s.tdsSessionOpen channel seq

/-- CLOSE (R440). -/
def execTdsClose (t : Nat) (f : Sender) (seq : Nat) (s : State) : Host.Outcome State Fault Refusal :=
  s.done t fun s => s.tdsClose f seq

/-- KEEPALIVE (R440). -/
def execTdsKeepalive (t : Nat) (f : Sender) (seq : Nat) (s : State) : Host.Outcome State Fault Refusal :=
  s.done t fun s => s.tdsKeepalive f seq

/-- READ (R428, R439). -/
def execTdsRead (t : Nat) (f : Sender) (seq index sub : Nat) (s : State) : Host.Outcome State Fault Refusal :=
  s.done t fun s => s.tdsRead f seq index sub

/-- WRITE; `img` is the image that the data of a write of DEV_IMAGE spell (R428, R429). -/
def execTdsWrite (t : Nat) (f : Sender) (seq index sub : Nat) (data : List Nat) (img : Option DictImage) (s : State) :
    Host.Outcome State Fault Refusal :=
  s.done t fun s => s.tdsWrite f seq index sub data img

/-- READ_INDEX (R432). -/
def execTdsReadIndex (t : Nat) (f : Sender) (seq index : Nat) (s : State) : Host.Outcome State Fault Refusal :=
  s.done t fun s => s.tdsReadIndex f seq index

/-- DESCRIBE (R439). -/
def execTdsDescribe (t : Nat) (f : Sender) (seq index sub : Nat) (s : State) : Host.Outcome State Fault Refusal :=
  s.done t fun s => s.tdsDescribe f seq index sub

/-- UP_START from a chunk on, with a window (R442). -/
def execTdsUpStart (t : Nat) (f : Sender) (seq index sub first window : Nat) (s : State) : Host.Outcome State Fault Refusal :=
  s.done t fun s => s.tdsUpStart f seq index sub first window

/-- UP_ACK with the next chunk expected (R442). -/
def execTdsUpAck (t : Nat) (f : Sender) (seq next : Nat) (s : State) : Host.Outcome State Fault Refusal :=
  s.done t fun s => s.tdsUpAck f seq next

/-- DOWN_START with length, CRC-32C and window (R443). -/
def execTdsDownStart (t : Nat) (f : Sender) (seq index sub length crc window : Nat) (s : State) :
    Host.Outcome State Fault Refusal :=
  s.done t fun s => s.tdsDownStart f seq index sub length crc window

/-- DOWN_DATA: a chunk (R443). -/
def execTdsDownData (t : Nat) (f : Sender) (seq chunk : Nat) (data : List Nat) (s : State) : Host.Outcome State Fault Refusal :=
  s.done t fun s => s.tdsDownData f seq chunk data

/-- DOWN_END; `img` is the image that a download of DEV_IMAGE spells (R443). -/
def execTdsDownEnd (t : Nat) (f : Sender) (seq : Nat) (img : Option DictImage) (s : State) : Host.Outcome State Fault Refusal :=
  s.done t fun s => s.tdsDownEnd f seq img

/-- CANCEL (R441). -/
def execTdsCancel (t : Nat) (f : Sender) (seq : Nat) (s : State) : Host.Outcome State Fault Refusal :=
  s.done t fun s => s.tdsCancel f seq

/-- A chunk has been unacknowledged for 50 ms (R442). -/
def execTdsChunkTimeout (t : Nat) (f : Sender) (s : State) : Host.Outcome State Fault Refusal :=
  s.done t fun s => if f.channel = 2 || f.channel = 3 then s.tdsChunkTimeout f else s

/-- A session has had no valid datagram for TDS_IDLE (R440). -/
def execTdsIdleTimeout (t : Nat) (f : Sender) (s : State) : Host.Outcome State Fault Refusal := s.done t fun s => s.tdsIdle f

/-- A datagram with a bad header or an unknown session (R439). -/
def execTdsBadDatagram (t channel : Nat) (s : State) : Host.Outcome State Fault Refusal := s.done t fun s => s.tdsBad channel

/-- An ARP request for an address (R438). -/
def execArpRequest (t port target : Nat) (s : State) : Host.Outcome State Fault Refusal :=
  s.done t fun s => if port < 2 then s.arp port target else s

/-- An ICMP echo request to an address (R438). -/
def execIcmpEchoRequest (t port target : Nat) (data : List Nat) (s : State) : Host.Outcome State Fault Refusal :=
  s.done t fun s => if port < 2 then s.icmp port target data else s

/-- The link of a port comes up or goes down (R440). -/
def execEthLinkChange (t port : Nat) (up : Bool) (s : State) : Host.Outcome State Fault Refusal :=
  s.done t fun s => s.ethLink port up

end Sys2Proof.Machine
end

