-- ==== Sys2Proof/Machine/CmdTime.lean ====
section
/-!
DEFINITION. The commands of the time unit (chapter 13).
-/

namespace Sys2Proof.Machine

/-- The servo, the inputs and the outputs of the time unit work: not in RESET, and not in LUNAR, where only the counter runs (R326). -/
def State.timWorks (s : State) : Bool := s.devState ≠ stReset && s.devState ≠ stLunar

/-- PTP messages of a port are heard (R328). -/
def State.ptpHeard (s : State) (port : Nat) : Bool := decide (port < 2) && s.timWorks && s.served && s.ptpOn port

/-- The counter wraps to 0 (R322); in LUNAR the wraps are counted (R326). -/
def execTimeCounterWrap (t : Nat) (s : State) : Host.Outcome State Fault Refusal :=
  s.done t fun s =>
    if s.devState = stReset then s else
    let s1 := s.raise 392
    if s.devState = stLunar then s1.bump Obj.TIM_LUNAR_WRAPS else s1

/-- A core writes the shadow pair of the time register block (R324). -/
def execTimeShadowWrite (t hart v : Nat) (s : State) : Host.Outcome State Fault Refusal :=
  s.done t fun s =>
    if !s.hartRuns hart then s else
    (s.withTim fun u => { u with shadow := v % 2 ^ 64 }).setBit Obj.TIM_STATUS 1 false

/-- The age of the shadow exceeds 2.0 s (R324). -/
def State.shadowOld (s : State) : Bool :=
  decide (2000000000 < (s.time32 + 2 ^ 32 - s.tim.shadow % 2 ^ 32) % 2 ^ 32)

/-- The shadow is found too old (R324). -/
def execExtStaleTimeout (t : Nat) (s : State) : Host.Outcome State Fault Refusal :=
  s.done t fun s =>
    if !s.timWorks || !s.shadowOld || s.bit Obj.TIM_STATUS 1 then s else
    ((s.setBit Obj.TIM_STATUS 1 true).bump Obj.TIM_EXT_STALE_COUNT).event 391 noSubject []

/-- A message outside Table 13.1 (R328). -/
def State.ptpIgnored (s : State) : State := s.bump Obj.TIM_PTP_IGNORED

/-- A Sync (with its Follow_Up): its receive stamp as TIME32 and 2^-4 ns, and its origin with the correction in 2^-4 ns; `inTable`: it
keeps to Table 13.1 (R328, R331, R333). -/
def execPtpSyncReceive (t port : Nat) (inTable : Bool) (stamp frac : Nat) (origin : Int) (s : State) :
    Host.Outcome State Fault Refusal :=
  s.done t fun s =>
    if !s.ptpHeard port then s
    else if !inTable then s.ptpIgnored
    else s.ptpSync port (s.syncOffset port stamp frac origin)

/-- An Announce: the grandmaster, its dataset in the order of comparison and currentUtcOffset (R328, R329). -/
def execPtpAnnounceReceive (t port : Nat) (inTable : Bool) (identity : Nat) (dataset : List Nat) (utc : Int) (s : State) :
    Host.Outcome State Fault Refusal :=
  s.done t fun s =>
    if !s.ptpHeard port then s
    else if !inTable then s.ptpIgnored
    else
      let m : Master := { identity := identity % 2 ^ 64, dataset := dataset }
      let s1 := (s.withTim fun u => { u with masters := u.masters.set port (some m) }).ptpSelect
      if s1.getN Obj.TIM_PTP_PORT = port then s1.put Obj.TIM_UTC_OFFSET (signed 16 (unsigned 16 utc)) else s1

/-- The announce receipt timeout of a port: its master is gone, and without another the source is lost (R329, R334). -/
def State.announceGone (s : State) (port : Nat) : State :=
  let used := decide (s.getN Obj.TIM_PTP_PORT = port)
  let s1 := (s.withTim fun u => { u with masters := u.masters.set port none }).ptpSelect
  if used && s1.getN Obj.TIM_PTP_PORT = 0xFF then s1.timLost else s1

/-- The announce receipt timeout of a port expires (R334). -/
def execPtpAnnounceTimeout (t port : Nat) (s : State) : Host.Outcome State Fault Refusal :=
  s.done t fun s =>
    if s.ptpHeard port && (s.tim.masters.getD port none).isSome then s.announceGone port else s

/-- The second of peer delay: a Pdelay_Req on each enabled port (R328). -/
def execPtpPdelayTimer (t : Nat) (s : State) : Host.Outcome State Fault Refusal :=
  s.done t fun s => s.forAll [0, 1] fun s port => if s.ptpHeard port then s.emit (.eth port 2 [2, s.time32]) else s

/-- A neighbour's Pdelay_Req: answered with Pdelay_Resp and Pdelay_Resp_Follow_Up (R328). -/
def execPtpPdelayReqReceive (t port : Nat) (inTable : Bool) (seq requester : Nat) (s : State) :
    Host.Outcome State Fault Refusal :=
  s.done t fun s =>
    if !s.ptpHeard port then s
    else if !inTable then s.ptpIgnored
    else (s.emit (.eth port 2 [3, seq, requester, s.time32])).emit (.eth port 2 [10, seq, requester, s.time32])

/-- The mean peer delay of a port in 2^-4 ns, from the four stamps at the planes with the corrections of the connector (R329). -/
def State.peerDelay (s : State) (port : Nat) (t1 t2 t3 t4 : Int) : Int :=
  let out := t1 + s.get (Obj.TIM_ETH_TX_DELAY port)
  let back := t4 - s.get (Obj.TIM_ETH_RX_DELAY port)
  roundAway ((((back - out) - (t3 - t2) : Int) : Rat) / 2)

/-- A Pdelay response with its follow-up: the stamps t1 to t4 in 2^-4 ns (R328, R329). -/
def execPtpPdelayRespReceive (t port : Nat) (inTable : Bool) (t1 t2 t3 t4 : Int) (s : State) :
    Host.Outcome State Fault Refusal :=
  s.done t fun s =>
    if !s.ptpHeard port then s
    else if !inTable then s.ptpIgnored
    else
      (s.put (Obj.TIM_PEER_DELAY port) (saturateU 32 (s.peerDelay port t1 t2 t3 t4))).withTim fun u =>
        { u with peerValid := u.peerValid.set port true }

/-- An edge on PPS_IN now (R342). -/
def execPpsInEdge (t : Nat) (s : State) : Host.Outcome State Fault Refusal :=
  s.done t fun s => if s.timWorks then (s.cmtInput 0x74 s.time32 none).ppsEdge else s

/-- A second after the latest qualified edge has passed without one (R342). -/
def State.ppsOverdue (s : State) : Bool := s.tim.ppsPrev.any fun p => decide (p + 1000010000 < s.nowExt)

/-- A second expected and not qualified (R342). -/
def execPpsInMiss (t : Nat) (s : State) : Host.Outcome State Fault Refusal :=
  s.done t fun s => if s.timWorks && s.ppsOverdue then s.ppsMiss else s

/-- An edge on ORB_SYNC_IN now (R344). -/
def execOrbSyncInEdge (t : Nat) (s : State) : Host.Outcome State Fault Refusal :=
  s.done t fun s => if s.timWorks then (s.cmtInput 0x75 s.time32 none).orbSyncEdge else s

/-- A cycle of a branch passes without a usable edge (R344). -/
def execOrbSyncMiss (t : Nat) (s : State) : Host.Outcome State Fault Refusal :=
  s.done t fun s =>
    if s.timWorks && s.get Obj.LNK_TREE_ROLE = 2 && s.get Obj.TIM_SOURCE = 2 && s.stepped && s.orbRunning then s.orbSyncMiss
    else s

/-- TIM_SET_TIME is written (R331). -/
def execTimSetTime (t : Nat) (f : Sender) (v : Nat) (s : State) : Host.Outcome State Fault Refusal :=
  s.done t fun s => s.writeEntry f Obj.TIM_SET_TIME v

/-- 1 is written to TIM_REEPOCH_REQ (R331, R336). -/
def execTimReepochReq (t : Nat) (f : Sender) (s : State) : Host.Outcome State Fault Refusal :=
  s.done t fun s => s.writeEntry f Obj.TIM_REEPOCH_REQ 1

/-- A core writes an entry of a launch queue (R337). -/
def execLaunchQueueWrite (t hart port time buffer length : Nat) (dropLate : Bool) (s : State) :
    Host.Outcome State Fault Refusal :=
  s.done t fun s =>
    if s.hartRuns hart then s.launchQueue port (time % 2 ^ 32) (buffer % 2 ^ 32) (length % 2048) dropLate else s

/-- A port comes to the launch of its next timed frame (R337, R338). -/
def execTimedFrameLaunch (t port : Nat) (s : State) : Host.Outcome State Fault Refusal :=
  s.done t fun s => if s.timWorks && s.served && port < 2 then s.launchServe port else s

/-- MODE of a generator is written (R339, R340). -/
def execPulseGeneratorArm (t : Nat) (f : Sender) (g mode : Nat) (s : State) : Host.Outcome State Fault Refusal :=
  s.done t fun s =>
    if g < 16 && mode < 4 then
      s.writeEntry f (Obj.TIM_GEN_CTRL g) (withField (s.getN (Obj.TIM_GEN_CTRL g)) 0 2 mode : Nat)
    else s

/-- A generator reaches the time of its next edge (R339, R341). -/
def execPulseGeneratorEdge (t g : Nat) (s : State) : Host.Outcome State Fault Refusal :=
  s.done t fun s => if g < 16 && s.timWorks then s.genEdge g else s

end Sys2Proof.Machine
end

