-- ==== Sys2Proof/Machine/Dispatch.lean ====
section
/-!
DEFINITION. One arm per command, each a direct call of that command's meaning.
-/

namespace Sys2Proof.Machine

/-- The effect of a command on everything but the queue. DESIGN CHOICE (log entry 8): safe. -/
def exec (i : Instr) (s : State) : Host.Outcome State Fault Refusal :=
  match i with
  | .poresetNAssert t low powerLost => Sys2Proof.Machine.execPoresetNAssert t low powerLost s
  | .poresetNRelease t unitB bootSel => Sys2Proof.Machine.execPoresetNRelease t unitB bootSel s
  | .firmwareBankAttempt t image => Sys2Proof.Machine.execFirmwareBankAttempt t image s
  | .enterConfig t reads badSlots copies => Sys2Proof.Machine.execEnterConfig t reads badSlots copies s
  | .serviceWatchdogExpiry t => Sys2Proof.Machine.execServiceWatchdogExpiry t s
  | .lockstepMismatch t => Sys2Proof.Machine.execLockstepMismatch t s
  | .jtagTestInstruction t => Sys2Proof.Machine.execJtagTestInstruction t s
  | .stateReqConfig t f => Sys2Proof.Machine.execStateReqConfig t f s
  | .stateReqLinkup t f => Sys2Proof.Machine.execStateReqLinkup t f s
  | .stateReqRunNormal t f => Sys2Proof.Machine.execStateReqRunNormal t f s
  | .stateReqRunBlackstart t f => Sys2Proof.Machine.execStateReqRunBlackstart t f s
  | .stateReqBlocked t f => Sys2Proof.Machine.execStateReqBlocked t f s
  | .linkupComplete t => Sys2Proof.Machine.execLinkupComplete t s
  | .followPartnerRun t => Sys2Proof.Machine.execFollowPartnerRun t s
  | .followPartnerBlocked t => Sys2Proof.Machine.execFollowPartnerBlocked t s
  | .armEnFilteredFall t => Sys2Proof.Machine.execArmEnFilteredFall t s
  | .armEnFilteredRise t => Sys2Proof.Machine.execArmEnFilteredRise t s
  | .prtSoftTrip t f => Sys2Proof.Machine.execPrtSoftTrip t f s
  | .prtExtTrip t => Sys2Proof.Machine.execPrtExtTrip t s
  | .orbitBoundary t headers => Sys2Proof.Machine.execOrbitBoundary t headers s
  | .tRefDeadline t => Sys2Proof.Machine.execTRefDeadline t s
  | .tUpDeadline t => Sys2Proof.Machine.execTUpDeadline t s
  | .tFinDeadline t unfinished => Sys2Proof.Machine.execTFinDeadline t unfinished s
  | .tReadyDeadline t missing => Sys2Proof.Machine.execTReadyDeadline t missing s
  | .orbDegForceWrite t f force => Sys2Proof.Machine.execOrbDegForceWrite t f force s
  | .orbMarginClear t f => Sys2Proof.Machine.execOrbMarginClear t f s
  | .frameReturn t pair odd cycle fcrcOk hops looped halves => Sys2Proof.Machine.execFrameReturn t pair odd cycle fcrcOk hops looped halves s
  | .swgParamHoldSet t f => Sys2Proof.Machine.execSwgParamHoldSet t f s
  | .swgParamHoldRelease t f => Sys2Proof.Machine.execSwgParamHoldRelease t f s
  | .trackLockTimer t => Sys2Proof.Machine.execTrackLockTimer t s
  | .frtClearTimeExpiry t => Sys2Proof.Machine.execFrtClearTimeExpiry t s
  | .frtMaxTimeExpiry t => Sys2Proof.Machine.execFrtMaxTimeExpiry t s
  | .blkDeadTimeExpiry t => Sys2Proof.Machine.execBlkDeadTimeExpiry t s
  | .blkHoldTimeExpiry t => Sys2Proof.Machine.execBlkHoldTimeExpiry t s
  | .blkPauseMaxExpiry t => Sys2Proof.Machine.execBlkPauseMaxExpiry t s
  | .blkSyncStart t f => Sys2Proof.Machine.execBlkSyncStart t f s
  | .blkSyncStop t f => Sys2Proof.Machine.execBlkSyncStop t f s
  | .blkSyncDwellExpiry t => Sys2Proof.Machine.execBlkSyncDwellExpiry t s
  | .blkSyncCloseConfirm t => Sys2Proof.Machine.execBlkSyncCloseConfirm t s
  | .blkSyncTimeout t => Sys2Proof.Machine.execBlkSyncTimeout t s
  | .rnkReinstate t f n => Sys2Proof.Machine.execRnkReinstate t f n s
  | .sortMemoryEcc t arm corrected => Sys2Proof.Machine.execSortMemoryEcc t arm corrected s
  | .carrierReload t k => Sys2Proof.Machine.execCarrierReload t k s
  | .carrierCompareTrigger t k second => Sys2Proof.Machine.execCarrierCompareTrigger t k second s
  | .carrierSyncPulse t k => Sys2Proof.Machine.execCarrierSyncPulse t k s
  | .boundEdgeToggle t k => Sys2Proof.Machine.execBoundEdgeToggle t k s
  | .carCommit t f k => Sys2Proof.Machine.execCarCommit t f k s
  | .carClearSticky t f k => Sys2Proof.Machine.execCarClearSticky t f k s
  | .carShadowWrite t f k reg v => Sys2Proof.Machine.execCarShadowWrite t f k reg v s
  | .carCommHoldExpiry t k => Sys2Proof.Machine.execCarCommHoldExpiry t k s
  | .delayLineLock t => Sys2Proof.Machine.execDelayLineLock t s
  | .delayLineUnlock t => Sys2Proof.Machine.execDelayLineUnlock t s
  | .meaMainSample t k => Sys2Proof.Machine.execMeaMainSample t k s
  | .meaFastSample t k bits last => Sys2Proof.Machine.execMeaFastSample t k bits last s
  | .sdmClkLost t g => Sys2Proof.Machine.execSdmClkLost t g s
  | .sdmClkWindowEnd t g period => Sys2Proof.Machine.execSdmClkWindowEnd t g period s
  | .sdmStuckDetect t k => Sys2Proof.Machine.execSdmStuckDetect t k s
  | .meaSettleEnd t k => Sys2Proof.Machine.execMeaSettleEnd t k s
  | .meaMemoryError t kind index => Sys2Proof.Machine.execMeaMemoryError t kind index s
  | .meaPeakClear t f bits => Sys2Proof.Machine.execMeaPeakClear t f bits s
  | .dchPhaseEnd t k => Sys2Proof.Machine.execDchPhaseEnd t k s
  | .dchMinTimeExpiry t k => Sys2Proof.Machine.execDchMinTimeExpiry t k s
  | .prtBlindMaxExpiry t neg => Sys2Proof.Machine.execPrtBlindMaxExpiry t neg s
  | .dchForceSet t f k => Sys2Proof.Machine.execDchForceSet t f k s
  | .prtOvPeakClear t f => Sys2Proof.Machine.execPrtOvPeakClear t f s
  | .avsEvaluation t margin drift => Sys2Proof.Machine.execAvsEvaluation t margin drift s
  | .avsReadbackCheck t ok => Sys2Proof.Machine.execAvsReadbackCheck t ok s
  | .ageReplanPeriodExpiry t => Sys2Proof.Machine.execAgeReplanPeriodExpiry t s
  | .ageReplanReq t f => Sys2Proof.Machine.execAgeReplanReq t f s
  | .planSubmit t f plan gen => Sys2Proof.Machine.execPlanSubmit t f plan gen s
  | .agePlanSubmit t f data => Sys2Proof.Machine.execAgePlanSubmit t f data s
  | .planCheckDone t => Sys2Proof.Machine.execPlanCheckDone t s
  | .enumerationFrameReturn t pair odd looped whole records => Sys2Proof.Machine.execEnumerationFrameReturn t pair odd looped whole records s
  | .delayFrameReturn t pair loop nodes latency whole => Sys2Proof.Machine.execDelayFrameReturn t pair loop nodes latency whole s
  | .alignmentDone t pair => Sys2Proof.Machine.execAlignmentDone t pair s
  | .mgmtRecordReturn t pair purpose pos desc result value => Sys2Proof.Machine.execMgmtRecordReturn t pair purpose pos desc result value s
  | .urgentBlockReturned t => Sys2Proof.Machine.execUrgentBlockReturned t s
  | .cascadeDownLaunch t => Sys2Proof.Machine.execCascadeDownLaunch t s
  | .cascadeDownReceive t record label => Sys2Proof.Machine.execCascadeDownReceive t record label s
  | .cascadeUpReceive t group records => Sys2Proof.Machine.execCascadeUpReceive t group records s
  | .cascadeRoundtripReturn t group trip turn beyond devices => Sys2Proof.Machine.execCascadeRoundtripReturn t group trip turn beyond devices s
  | .laneStateTimeout t k => Sys2Proof.Machine.execLaneStateTimeout t k s
  | .laneVerifyPass t k => Sys2Proof.Machine.execLaneVerifyPass t k s
  | .laneDownRetry t k => Sys2Proof.Machine.execLaneDownRetry t k s
  | .laneCapReceive t k d2 d3 => Sys2Proof.Machine.execLaneCapReceive t k d2 d3 s
  | .laneRateGoReceive t k d2 => Sys2Proof.Machine.execLaneRateGoReceive t k d2 s
  | .laneTapReqReceive t k d2 seq => Sys2Proof.Machine.execLaneTapReqReceive t k d2 seq s
  | .laneTapStatusReceive t k d2 seq => Sys2Proof.Machine.execLaneTapStatusReceive t k d2 seq s
  | .laneSleepReceive t k => Sys2Proof.Machine.execLaneSleepReceive t k s
  | .laneBlockLock t k => Sys2Proof.Machine.execLaneBlockLock t k s
  | .laneLockLoss t k hiBer => Sys2Proof.Machine.execLaneLockLoss t k hiBer s
  | .laneTxSleep t k => Sys2Proof.Machine.execLaneTxSleep t k s
  | .laneTxWake t k => Sys2Proof.Machine.execLaneTxWake t k s
  | .laneRxWakeTimeout t k => Sys2Proof.Machine.execLaneRxWakeTimeout t k s
  | .laneBerMinute t k => Sys2Proof.Machine.execLaneBerMinute t k s
  | .lanEyeStart t f => Sys2Proof.Machine.execLanEyeStart t f s
  | .lanEyeAbort t f => Sys2Proof.Machine.execLanEyeAbort t f s
  | .eyeScanComplete t counts => Sys2Proof.Machine.execEyeScanComplete t counts s
  | .lanLoopbackSelect t f k v => Sys2Proof.Machine.execLanLoopbackSelect t f k v s
  | .xlHeadReceive t lane valid head => Sys2Proof.Machine.execXlHeadReceive t lane valid head s
  | .xlBodyReceive t lane valid body => Sys2Proof.Machine.execXlBodyReceive t lane valid body s
  | .xlBulkReceive t lane bulk => Sys2Proof.Machine.execXlBulkReceive t lane bulk s
  | .xlLatencyMeasure t lane roundTrip turnaround => Sys2Proof.Machine.execXlLatencyMeasure t lane roundTrip turnaround s
  | .claimHoldoffExpiry t => Sys2Proof.Machine.execClaimHoldoffExpiry t s
  | .changeRecordTimeout t => Sys2Proof.Machine.execChangeRecordTimeout t s
  | .redResyncReq t f => Sys2Proof.Machine.execRedResyncReq t f s
  | .autoResyncTimer t => Sys2Proof.Machine.execAutoResyncTimer t s
  | .resyncPhaseDone t equal => Sys2Proof.Machine.execResyncPhaseDone t equal s
  | .resyncPhaseTimeout t => Sys2Proof.Machine.execResyncPhaseTimeout t s
  | .redPartnerAbsentSet t f => Sys2Proof.Machine.execRedPartnerAbsentSet t f s
  | .redPartnerAbsentClear t f => Sys2Proof.Machine.execRedPartnerAbsentClear t f s
  | .redSwapReq t f => Sys2Proof.Machine.execRedSwapReq t f s
  | .timeCounterWrap t => Sys2Proof.Machine.execTimeCounterWrap t s
  | .timeShadowWrite t hart v => Sys2Proof.Machine.execTimeShadowWrite t hart v s
  | .extStaleTimeout t => Sys2Proof.Machine.execExtStaleTimeout t s
  | .ptpSyncReceive t port inTable stamp frac origin => Sys2Proof.Machine.execPtpSyncReceive t port inTable stamp frac origin s
  | .ptpAnnounceReceive t port inTable identity dataset utc => Sys2Proof.Machine.execPtpAnnounceReceive t port inTable identity dataset utc s
  | .ptpAnnounceTimeout t port => Sys2Proof.Machine.execPtpAnnounceTimeout t port s
  | .ptpPdelayTimer t => Sys2Proof.Machine.execPtpPdelayTimer t s
  | .ptpPdelayReqReceive t port inTable seq requester => Sys2Proof.Machine.execPtpPdelayReqReceive t port inTable seq requester s
  | .ptpPdelayRespReceive t port inTable t1 t2 t3 t4 => Sys2Proof.Machine.execPtpPdelayRespReceive t port inTable t1 t2 t3 t4 s
  | .ppsInEdge t => Sys2Proof.Machine.execPpsInEdge t s
  | .ppsInMiss t => Sys2Proof.Machine.execPpsInMiss t s
  | .orbSyncInEdge t => Sys2Proof.Machine.execOrbSyncInEdge t s
  | .orbSyncMiss t => Sys2Proof.Machine.execOrbSyncMiss t s
  | .timSetTime t f v => Sys2Proof.Machine.execTimSetTime t f v s
  | .timReepochReq t f => Sys2Proof.Machine.execTimReepochReq t f s
  | .launchQueueWrite t hart port time buffer length dropLate => Sys2Proof.Machine.execLaunchQueueWrite t hart port time buffer length dropLate s
  | .timedFrameLaunch t port => Sys2Proof.Machine.execTimedFrameLaunch t port s
  | .pulseGeneratorArm t f g mode => Sys2Proof.Machine.execPulseGeneratorArm t f g mode s
  | .pulseGeneratorEdge t g => Sys2Proof.Machine.execPulseGeneratorEdge t g s
  | .ref25Lost t => Sys2Proof.Machine.execRef25Lost t s
  | .ref25Qualified t => Sys2Proof.Machine.execRef25Qualified t s
  | .dpllLock t => Sys2Proof.Machine.execDpllLock t s
  | .xoLost t => Sys2Proof.Machine.execXoLost t s
  | .ref156Lost t => Sys2Proof.Machine.execRef156Lost t s
  | .ref156Requalified t => Sys2Proof.Machine.execRef156Requalified t s
  | .pllLockLoss t p => Sys2Proof.Machine.execPllLockLoss t p s
  | .pllRelockDone t p => Sys2Proof.Machine.execPllRelockDone t p s
  | .pllRelockTimeout t p => Sys2Proof.Machine.execPllRelockTimeout t p s
  | .clkPllCtrlChange t f p v => Sys2Proof.Machine.execClkPllCtrlChange t f p v s
  | .clkPllRelock t f mask => Sys2Proof.Machine.execClkPllRelock t f mask s
  | .byp200Check t khz => Sys2Proof.Machine.execByp200Check t khz s
  | .railMonitorSample t mv tj current => Sys2Proof.Machine.execRailMonitorSample t mv tj current s
  | .pwrExtremesClear t f => Sys2Proof.Machine.execPwrExtremesClear t f s
  | .pwrSleepReq t f => Sys2Proof.Machine.execPwrSleepReq t f s
  | .sleepFirmwareReady t => Sys2Proof.Machine.execSleepFirmwareReady t s
  | .sleepGraceExpiry t => Sys2Proof.Machine.execSleepGraceExpiry t s
  | .lunarEntryDone t => Sys2Proof.Machine.execLunarEntryDone t s
  | .wakeEvent t src => Sys2Proof.Machine.execWakeEvent t src s
  | .wakeTimerExpiry t => Sys2Proof.Machine.execWakeTimerExpiry t s
  | .wakeComplete t => Sys2Proof.Machine.execWakeComplete t s
  | .korWait t e ctl user ev off => Sys2Proof.Machine.execKorWait t e ctl user ev off s
  | .korWaitComplete t e => Sys2Proof.Machine.execKorWaitComplete t e s
  | .korRefdone t e ctl user => Sys2Proof.Machine.execKorRefdone t e ctl user s
  | .korOfs t e ctl user => Sys2Proof.Machine.execKorOfs t e ctl user s
  | .korFret t e => Sys2Proof.Machine.execKorFret t e s
  | .refPageDoneWrite t e page v => Sys2Proof.Machine.execRefPageDoneWrite t e page v s
  | .engRefSlackClear t f => Sys2Proof.Machine.execEngRefSlackClear t f s
  | .engineExceptionHalt t e cause => Sys2Proof.Machine.execEngineExceptionHalt t e cause s
  | .engRestart t f e => Sys2Proof.Machine.execEngRestart t f e s
  | .interruptSourceFire t src => Sys2Proof.Machine.execInterruptSourceFire t src s
  | .interruptClaim t target => Sys2Proof.Machine.execInterruptClaim t target s
  | .interruptComplete t target source => Sys2Proof.Machine.execInterruptComplete t target source s
  | .fastInterruptGrant t e fen vec pc => Sys2Proof.Machine.execFastInterruptGrant t e fen vec pc s
  | .icuHoldoffExpiry t g => Sys2Proof.Machine.execIcuHoldoffExpiry t g s
  | .icuSwSet t f n => Sys2Proof.Machine.execIcuSwSet t f n s
  | .icuPendingClear t f g bits => Sys2Proof.Machine.execIcuPendingClear t f g bits s
  | .icuSrcCfgWrite t f src v => Sys2Proof.Machine.execIcuSrcCfgWrite t f src v s
  | .sramEccError t h own store correctable address => Sys2Proof.Machine.execSramEccError t h own store correctable address s
  | .dramEccError t h store correctable clean address => Sys2Proof.Machine.execDramEccError t h store correctable clean address s
  | .cmtArm t f => Sys2Proof.Machine.execCmtArm t f s
  | .cmtAbort t f => Sys2Proof.Machine.execCmtAbort t f s
  | .cmtForceTrig t f => Sys2Proof.Machine.execCmtForceTrig t f s
  | .cmtPatternMatch t => Sys2Proof.Machine.execCmtPatternMatch t s
  | .cmtBlockAgeTimeout t => Sys2Proof.Machine.execCmtBlockAgeTimeout t s
  | .cmtTailEnd t => Sys2Proof.Machine.execCmtTailEnd t s
  | .cmtRecRelease t f n => Sys2Proof.Machine.execCmtRecRelease t f n s
  | .usdoExpeditedDownload t port index sub data => Sys2Proof.Machine.execUsdoExpeditedDownload t port index sub data s
  | .usdoSegmentedDownload t port index sub length => Sys2Proof.Machine.execUsdoSegmentedDownload t port index sub length s
  | .usdoDownloadSegment t port data last img => Sys2Proof.Machine.execUsdoDownloadSegment t port data last img s
  | .usdoExpeditedUpload t port index sub => Sys2Proof.Machine.execUsdoExpeditedUpload t port index sub s
  | .usdoSegmentedUpload t port index sub => Sys2Proof.Machine.execUsdoSegmentedUpload t port index sub s
  | .usdoUploadSegment t port => Sys2Proof.Machine.execUsdoUploadSegment t port s
  | .usdoAbort t port => Sys2Proof.Machine.execUsdoAbort t port s
  | .usdoSegmentTimeout t port => Sys2Proof.Machine.execUsdoSegmentTimeout t port s
  | .nmtCommand t port => Sys2Proof.Machine.execNmtCommand t port s
  | .heartbeatTimer t port => Sys2Proof.Machine.execHeartbeatTimer t port s
  | .canBusOff t port => Sys2Proof.Machine.execCanBusOff t port s
  | .canBusOffQuiet t port => Sys2Proof.Machine.execCanBusOffQuiet t port s
  | .tdsOpen t channel seq => Sys2Proof.Machine.execTdsOpen t channel seq s
  | .tdsClose t f seq => Sys2Proof.Machine.execTdsClose t f seq s
  | .tdsKeepalive t f seq => Sys2Proof.Machine.execTdsKeepalive t f seq s
  | .tdsRead t f seq index sub => Sys2Proof.Machine.execTdsRead t f seq index sub s
  | .tdsWrite t f seq index sub data img => Sys2Proof.Machine.execTdsWrite t f seq index sub data img s
  | .tdsReadIndex t f seq index => Sys2Proof.Machine.execTdsReadIndex t f seq index s
  | .tdsDescribe t f seq index sub => Sys2Proof.Machine.execTdsDescribe t f seq index sub s
  | .tdsUpStart t f seq index sub first window => Sys2Proof.Machine.execTdsUpStart t f seq index sub first window s
  | .tdsUpAck t f seq next => Sys2Proof.Machine.execTdsUpAck t f seq next s
  | .tdsDownStart t f seq index sub length crc window => Sys2Proof.Machine.execTdsDownStart t f seq index sub length crc window s
  | .tdsDownData t f seq chunk data => Sys2Proof.Machine.execTdsDownData t f seq chunk data s
  | .tdsDownEnd t f seq img => Sys2Proof.Machine.execTdsDownEnd t f seq img s
  | .tdsCancel t f seq => Sys2Proof.Machine.execTdsCancel t f seq s
  | .tdsChunkTimeout t f => Sys2Proof.Machine.execTdsChunkTimeout t f s
  | .tdsIdleTimeout t f => Sys2Proof.Machine.execTdsIdleTimeout t f s
  | .tdsBadDatagram t channel => Sys2Proof.Machine.execTdsBadDatagram t channel s
  | .arpRequest t port target => Sys2Proof.Machine.execArpRequest t port target s
  | .icmpEchoRequest t port target data => Sys2Proof.Machine.execIcmpEchoRequest t port target data s
  | .ethLinkChange t port up => Sys2Proof.Machine.execEthLinkChange t port up s
  | .devAuthReq t f role => Sys2Proof.Machine.execDevAuthReq t f role s
  | .devAuthResponse t f data => Sys2Proof.Machine.execDevAuthResponse t f data s
  | .devAuthLogout t f => Sys2Proof.Machine.execDevAuthLogout t f s
  | .authIdleTimeout t f => Sys2Proof.Machine.execAuthIdleTimeout t f s
  | .authLockoutExpiry t channel => Sys2Proof.Machine.execAuthLockoutExpiry t channel s
  | .devAuthKeyWrite t f role data => Sys2Proof.Machine.execDevAuthKeyWrite t f role data s
  | .devImageLoad t f img => Sys2Proof.Machine.execDevImageLoad t f img s
  | .devImageStore t f => Sys2Proof.Machine.execDevImageStore t f s
  | .imageStoreDone t ok => Sys2Proof.Machine.execImageStoreDone t ok s
  | .registerWrite t f index sub data => Sys2Proof.Machine.execRegisterWrite t f index sub data s
  | .logPeriodicFlush t => Sys2Proof.Machine.execLogPeriodicFlush t s
  | .logFlushReq t f => Sys2Proof.Machine.execLogFlushReq t f s
  | .logFlushDone t ok => Sys2Proof.Machine.execLogFlushDone t ok s
  | .logSecondTick t ref25 xo ref156 => Sys2Proof.Machine.execLogSecondTick t ref25 xo ref156 s
  | .logExportReq t f => Sys2Proof.Machine.execLogExportReq t f s
  | .uartReadCommand t index sub => Sys2Proof.Machine.execUartReadCommand t index sub s
  | .jtagLogread t offset length => Sys2Proof.Machine.execJtagLogread t offset length s
  | .jtagDebug t data => Sys2Proof.Machine.execJtagDebug t data s
  | .quadPllLockLoss t q => Sys2Proof.Machine.execQuadPllLockLoss t q s
  | .crystalRestored t => Sys2Proof.Machine.execCrystalRestored t s
  | .sdmClkRestored t g => Sys2Proof.Machine.execSdmClkRestored t g s
  | .stuckBitstreamEnd t k => Sys2Proof.Machine.execStuckBitstreamEnd t k s
  | .tideInPulse t width => Sys2Proof.Machine.execTideInPulse t width s
  | .gpioInputChange t line level => Sys2Proof.Machine.execGpioInputChange t line level s
  | .jtagResetRelease t => Sys2Proof.Machine.execJtagResetRelease t s
  | .otpProgramDone t failed => Sys2Proof.Machine.execOtpProgramDone t failed s
  | .flushSpacingExpiry t => Sys2Proof.Machine.execFlushSpacingExpiry t s
  | .dramRetrainDone t => Sys2Proof.Machine.execDramRetrainDone t s
  | .carrierDutyEdge t k => Sys2Proof.Machine.execCarrierDutyEdge t k s
  | .deadTimeElapsed t k => Sys2Proof.Machine.execDeadTimeElapsed t k s
  | .crossingFault t subject => Sys2Proof.Machine.execCrossingFault t subject s
  | .accessFault t h address size kind => Sys2Proof.Machine.execAccessFault t h address size kind s
  | .referencePageWrite t e page reg v => Sys2Proof.Machine.execReferencePageWrite t e page reg v s
  | .ioBankRailLoss t bank ok => Sys2Proof.Machine.execIoBankRailLoss t bank ok s
  | .trainEvaluationDone t k height => Sys2Proof.Machine.execTrainEvaluationDone t k height s

end Sys2Proof.Machine
end

