-- ==== Sys2Proof/Safety.lean ====
section
/-!
DEFINITION. What a sound state is, and what it means that the block goes on, in the terms that claims use.
-/

namespace Sys2Proof.Machine

/-- The dictionary store is sound: its keys rise, it lists no entry at its reset value, and every listed entry fits its type. -/
def State.storeSound (s : State) : Bool := s.objsWf && s.objsFit

/-- The outputs are safe: in BLOCKED and RUN no trip cause is active, chopper pins are low where state and role do not drive them, and
the carrier pins are low outside RUN or without ownership (R188, R189, R144, Table 1.7). -/
def State.outputsSafe (s : State) : Bool :=
  (!(s.devState = stBlocked || s.devState = stRun) || s.firstCause.isNone) &&
    (s.dchDrives || (List.range 4).all fun k => decide (s.dchPins k = (false, false))) &&
    (!s.carBlock || (List.range 18).all fun p => !s.carPin p)

/-- An entry of the logbook's range, 0x3000 to 0x30FF (Table 17.11). -/
def isLogEntry (key : Nat) : Bool := decide (0x300000 ≤ key) && decide (key < 0x310000)

/-- Every entry outside the logbook's range and a list of keys reads in b as in a. -/
def State.entriesBut (a b : State) (keys : List Nat) : Prop := ∀ key, isLogEntry key = false → key ∉ keys → b.get key = a.get key

/-- Every entry outside the logbook's range and a list of indices reads in b as in a. -/
def State.otherIndices (a b : State) (indices : List Nat) : Prop :=
  ∀ key, isLogEntry key = false → key / 256 ∉ indices → b.get key = a.get key

/-- A write of a value to an entry at device time t passes every check of Table 17.2, and commits at once: it is not staged for the
partner (R428, R429, R449). -/
def State.takesWrite (s : State) (t : Nat) (f : Sender) (key : Nat) (v : Int) : Bool :=
  let s1 := (s.land t).heard f
  match Obj.rowOf key with
  | none => false
  | some row =>
    let data := ObjType.bytes row.type v
    s1.dictServed && (s1.judgeWrite f .plain (key / 256) (key % 256) data.length data none).isNone &&
      !(s1.mirrors row && s1.devRole = roleActive && s1.partnerRole = some roleStandby && s1.orbRunning)

/-- A write reaches its unit: from the register block of a running core, or as an accepted dictionary write (R149, R388, R411). -/
def State.reachesUnit (s : State) (t : Nat) (f : Sender) (key : Nat) (v : Int) : Bool :=
  match hartOf f with
  | some h => s.hartRuns h
  | none => s.takesWrite t f key v

/-- A TDS request of a session on a serving port is new: neither answered before, nor below the stored answers, nor awaiting its
answer (R441). -/
def State.tdsTakes (s : State) (t : Nat) (f : Sender) (seq : Nat) : Bool :=
  let s1 := s.land t
  s1.tdsOpen f.channel && !s1.tdsAwaited f seq &&
    match s1.session f with
    | none => false
    | some e => (e.answers.all fun a => a.1 ≠ seq) && (e.answers.isEmpty || e.answers.any fun a => a.1 < seq)

/-- The state in which a TDS request that lands at device time t is judged. -/
def State.tdsHeard (s : State) (t : Nat) (f : Sender) : State :=
  ((s.land t).withSession f fun e => { e with lastDatagram := (s.land t).now, lastRequest := (s.land t).now })

/-- The indices whose read-write entries act on their unit beyond taking the value, tunables apart. -/
def actingIndices : List Nat :=
  [0x1E00, 0x1E01, 0x1E10, 0x1E11, 0x2100, 0x2200, 0x2311, 0x2350, 0x2510, 0x2512, 0x2513, 0x2514, 0x2515, 0x2516, 0x2519, 0x2601,
    0x2610, 0x2611, 0x2612, 0x2613, 0x2614, 0x2615, 0x2616, 0x2617, 0x2640, 0x2641, 0x2642, 0x2643, 0x2644, 0x2645, 0x2646, 0x2647,
    0x2700, 0x2711, 0x2A16, 0x2B00, 0x2C50, 0x2D01, 0x2E00] ++ (List.range 16).map (0x2E20 + ·)

/-- Every entry outside a list of keys reads in b as in a. -/
def State.onlyEntries (a b : State) (keys : List Nat) : Prop := ∀ key, key ∉ keys → b.get key = a.get key

/-- A source is pending in each of its copies (R389, R390). -/
abbrev State.sourcePending (s : State) (src : Nat) : Prop := ∀ c ∈ s.srcCopies src, (src, c) ∈ s.icu.pending

end Sys2Proof.Machine
end

