-- ==== Sys2Proof/Certificates/Slice0/Obligations.lean ====
section
/-!
DEFINITION. The statements for the provers. Where a statement says that a command answers, it says so as
`exec c s = .next (State.settle (s.land t) u)`: the command lands at device time t, `u` is the state after its own effect, and what
follows every command (`State.settle`: trip causes, chopper pins, carrier masks, change records, Comet's levels, register widths) is
the subject of the statements SettleLeavesTheRestAlone, ActiveCauseTrips and RegistersHoldTheirWidth.
-/

open Sys2Proof Sys2Proof.Machine

/-- A request for CONFIG from LINKUP or BLOCKED, for LINKUP from CONFIG with an accepted image, for BLOCKED from RUN, and for RUN from BLOCKED with ARM_EN high, no trip cause active, the degraded set present and the valve owned, each of a sender with the least role of Table 17.4, begins its transition at once and increments DEV_REQ_COUNT; the answer says done. -/
def Obligations.StateRequestsBegin : Prop :=
  ∀ (s : State) (t : Nat) (f : Sender), 
    (2 ≤ s.roleOf f → s.devState = stLinkup ∨ s.devState = stBlocked → 
      ∃ u, exec (.stateReqConfig t f) s = .next (State.settle (s.land t) u) ∧
        u.devState = stConfig ∧
        u.get Obj.DEV_REQ_COUNT = min (s.get Obj.DEV_REQ_COUNT + 1) 0xFFFFFFFF ∧
        u.out.getLast? = some Out.done) ∧
    (2 ≤ s.roleOf f → s.devState = stConfig → s.dict.image.isSome = true → 
      ∃ u, exec (.stateReqLinkup t f) s = .next (State.settle (s.land t) u) ∧
        u.devState = stLinkup ∧
        u.get Obj.DEV_REQ_COUNT = min (s.get Obj.DEV_REQ_COUNT + 1) 0xFFFFFFFF ∧
        u.out.getLast? = some Out.done ∧
        u.dict.nodeIds = [s.getN (Obj.CAN_NODE_ID 0), s.getN (Obj.CAN_NODE_ID 1)]) ∧
    (1 ≤ s.roleOf f → s.devState = stRun → 
      ∃ u, exec (.stateReqBlocked t f) s = .next (State.settle (s.land t) u) ∧
        u.devState = stBlocked ∧
        u.get Obj.DEV_REQ_COUNT = min (s.get Obj.DEV_REQ_COUNT + 1) 0xFFFFFFFF ∧
        u.out.getLast? = some Out.done) ∧
    (1 ≤ s.roleOf f → s.devState = stBlocked → s.pins.armEn = some true → s.get Obj.PRT_TRIP_ACTIVE = 0 → s.degPresent = true → s.owner = true → 
      ∃ u, exec (.stateReqRunNormal t f) s = .next (State.settle (s.land t) u) ∧
        u.devState = stRun ∧
        u.bit Obj.DEV_RUN_FLAGS 0 = false ∧
        u.get Obj.DEV_REQ_COUNT = min (s.get Obj.DEV_REQ_COUNT + 1) 0xFFFFFFFF ∧
        u.out.getLast? = some Out.done) ∧
    (1 ≤ s.roleOf f → s.devState = stBlocked → s.pins.armEn = some true → s.get Obj.PRT_TRIP_ACTIVE = 0 → s.degPresent = true → s.owner = true → 
      ∃ u, exec (.stateReqRunBlackstart t f) s = .next (State.settle (s.land t) u) ∧
        u.devState = stRun ∧
        u.bit Obj.DEV_RUN_FLAGS 0 = true ∧
        u.get Obj.DEV_REQ_COUNT = min (s.get Obj.DEV_REQ_COUNT + 1) 0xFFFFFFFF ∧
        u.out.getLast? = some Out.done)

/-- A state request of a sender with the least role that R20 does not allow from the present state, or whose condition fails, is refused with abort 0x0800_0022 and the reason of Table 17.4: 0x20 for the state, 0x21 without an accepted image, 0x22 for ARM_EN, 0x23 for an active trip cause, 0x24 without the degraded set and 0x25 for the role; the refusal is recorded, counted and raised as source 448, and the state and role stay. -/
def Obligations.StateRequestsRefused : Prop :=
  ∀ (s : State) (t : Nat) (f : Sender), 2 ≤ s.devState → s.devState ≤ 6 → 
    (2 ≤ s.roleOf f → s.devState ≠ stLinkup → s.devState ≠ stBlocked → 
      ∃ u, exec (.stateReqConfig t f) s = .next (State.settle (s.land t) u) ∧
        u.get Obj.DEV_REFUSAL_REASON = 0x20 ∧
        u.out.getLast? = some (Out.abort 0x08000022) ∧
        u.get Obj.DEV_REFUSAL_ABORT = 0x08000022 ∧
        u.get Obj.DEV_REFUSAL_INDEX = 0x2002 ∧
        u.get Obj.DEV_REFUSAL_SUBINDEX = 1 ∧
        u.get Obj.DEV_REFUSAL_COUNT = min (s.get Obj.DEV_REFUSAL_COUNT + 1) 0xFFFFFFFF ∧
        u.sourcePending 448 ∧
        s.entriesBut u [Obj.DEV_REFUSAL_ABORT, Obj.DEV_REFUSAL_INDEX, Obj.DEV_REFUSAL_SUBINDEX, Obj.DEV_REFUSAL_REASON, Obj.DEV_REFUSAL_CHANNEL, Obj.DEV_REFUSAL_TIME, Obj.DEV_REFUSAL_COUNT] ∧
        u = { s.land t with objs := u.objs, icu := u.icu, log := u.log, flash := u.flash, dict := u.dict, out := u.out }) ∧
    (2 ≤ s.roleOf f → s.devState ≠ stConfig → 
      ∃ u, exec (.stateReqLinkup t f) s = .next (State.settle (s.land t) u) ∧
        u.get Obj.DEV_REFUSAL_REASON = 0x20 ∧
        u.out.getLast? = some (Out.abort 0x08000022) ∧
        u.get Obj.DEV_REFUSAL_ABORT = 0x08000022 ∧
        u.get Obj.DEV_REFUSAL_INDEX = 0x2002 ∧
        u.get Obj.DEV_REFUSAL_SUBINDEX = 1 ∧
        u.get Obj.DEV_REFUSAL_COUNT = min (s.get Obj.DEV_REFUSAL_COUNT + 1) 0xFFFFFFFF ∧
        u.sourcePending 448 ∧
        s.entriesBut u [Obj.DEV_REFUSAL_ABORT, Obj.DEV_REFUSAL_INDEX, Obj.DEV_REFUSAL_SUBINDEX, Obj.DEV_REFUSAL_REASON, Obj.DEV_REFUSAL_CHANNEL, Obj.DEV_REFUSAL_TIME, Obj.DEV_REFUSAL_COUNT] ∧
        u = { s.land t with objs := u.objs, icu := u.icu, log := u.log, flash := u.flash, dict := u.dict, out := u.out }) ∧
    (2 ≤ s.roleOf f → s.devState = stConfig → s.dict.image = none → 
      ∃ u, exec (.stateReqLinkup t f) s = .next (State.settle (s.land t) u) ∧
        u.get Obj.DEV_REFUSAL_REASON = 0x21 ∧
        u.out.getLast? = some (Out.abort 0x08000022) ∧
        u.get Obj.DEV_REFUSAL_ABORT = 0x08000022 ∧
        u.get Obj.DEV_REFUSAL_INDEX = 0x2002 ∧
        u.get Obj.DEV_REFUSAL_SUBINDEX = 1 ∧
        u.get Obj.DEV_REFUSAL_COUNT = min (s.get Obj.DEV_REFUSAL_COUNT + 1) 0xFFFFFFFF ∧
        u.sourcePending 448 ∧
        s.entriesBut u [Obj.DEV_REFUSAL_ABORT, Obj.DEV_REFUSAL_INDEX, Obj.DEV_REFUSAL_SUBINDEX, Obj.DEV_REFUSAL_REASON, Obj.DEV_REFUSAL_CHANNEL, Obj.DEV_REFUSAL_TIME, Obj.DEV_REFUSAL_COUNT] ∧
        u = { s.land t with objs := u.objs, icu := u.icu, log := u.log, flash := u.flash, dict := u.dict, out := u.out }) ∧
    (1 ≤ s.roleOf f → s.devState ≠ stRun → 
      ∃ u, exec (.stateReqBlocked t f) s = .next (State.settle (s.land t) u) ∧
        u.get Obj.DEV_REFUSAL_REASON = 0x20 ∧
        u.out.getLast? = some (Out.abort 0x08000022) ∧
        u.get Obj.DEV_REFUSAL_ABORT = 0x08000022 ∧
        u.get Obj.DEV_REFUSAL_INDEX = 0x2002 ∧
        u.get Obj.DEV_REFUSAL_SUBINDEX = 1 ∧
        u.get Obj.DEV_REFUSAL_COUNT = min (s.get Obj.DEV_REFUSAL_COUNT + 1) 0xFFFFFFFF ∧
        u.sourcePending 448 ∧
        s.entriesBut u [Obj.DEV_REFUSAL_ABORT, Obj.DEV_REFUSAL_INDEX, Obj.DEV_REFUSAL_SUBINDEX, Obj.DEV_REFUSAL_REASON, Obj.DEV_REFUSAL_CHANNEL, Obj.DEV_REFUSAL_TIME, Obj.DEV_REFUSAL_COUNT] ∧
        u = { s.land t with objs := u.objs, icu := u.icu, log := u.log, flash := u.flash, dict := u.dict, out := u.out }) ∧
    (1 ≤ s.roleOf f → s.devState ≠ stBlocked → 
      ∃ u, exec (.stateReqRunNormal t f) s = .next (State.settle (s.land t) u) ∧
        u.get Obj.DEV_REFUSAL_REASON = 0x20 ∧
        u.out.getLast? = some (Out.abort 0x08000022) ∧
        u.get Obj.DEV_REFUSAL_ABORT = 0x08000022 ∧
        u.get Obj.DEV_REFUSAL_INDEX = 0x2002 ∧
        u.get Obj.DEV_REFUSAL_SUBINDEX = 1 ∧
        u.get Obj.DEV_REFUSAL_COUNT = min (s.get Obj.DEV_REFUSAL_COUNT + 1) 0xFFFFFFFF ∧
        u.sourcePending 448 ∧
        s.entriesBut u [Obj.DEV_REFUSAL_ABORT, Obj.DEV_REFUSAL_INDEX, Obj.DEV_REFUSAL_SUBINDEX, Obj.DEV_REFUSAL_REASON, Obj.DEV_REFUSAL_CHANNEL, Obj.DEV_REFUSAL_TIME, Obj.DEV_REFUSAL_COUNT] ∧
        u = { s.land t with objs := u.objs, icu := u.icu, log := u.log, flash := u.flash, dict := u.dict, out := u.out }) ∧
    (1 ≤ s.roleOf f → s.devState = stBlocked → s.pins.armEn ≠ some true → 
      ∃ u, exec (.stateReqRunNormal t f) s = .next (State.settle (s.land t) u) ∧
        u.get Obj.DEV_REFUSAL_REASON = 0x22 ∧
        u.out.getLast? = some (Out.abort 0x08000022) ∧
        u.get Obj.DEV_REFUSAL_ABORT = 0x08000022 ∧
        u.get Obj.DEV_REFUSAL_INDEX = 0x2002 ∧
        u.get Obj.DEV_REFUSAL_SUBINDEX = 1 ∧
        u.get Obj.DEV_REFUSAL_COUNT = min (s.get Obj.DEV_REFUSAL_COUNT + 1) 0xFFFFFFFF ∧
        u.sourcePending 448 ∧
        s.entriesBut u [Obj.DEV_REFUSAL_ABORT, Obj.DEV_REFUSAL_INDEX, Obj.DEV_REFUSAL_SUBINDEX, Obj.DEV_REFUSAL_REASON, Obj.DEV_REFUSAL_CHANNEL, Obj.DEV_REFUSAL_TIME, Obj.DEV_REFUSAL_COUNT] ∧
        u = { s.land t with objs := u.objs, icu := u.icu, log := u.log, flash := u.flash, dict := u.dict, out := u.out }) ∧
    (1 ≤ s.roleOf f → s.devState = stBlocked → s.pins.armEn = some true → s.get Obj.PRT_TRIP_ACTIVE ≠ 0 → 
      ∃ u, exec (.stateReqRunBlackstart t f) s = .next (State.settle (s.land t) u) ∧
        u.get Obj.DEV_REFUSAL_REASON = 0x23 ∧
        u.out.getLast? = some (Out.abort 0x08000022) ∧
        u.get Obj.DEV_REFUSAL_ABORT = 0x08000022 ∧
        u.get Obj.DEV_REFUSAL_INDEX = 0x2002 ∧
        u.get Obj.DEV_REFUSAL_SUBINDEX = 1 ∧
        u.get Obj.DEV_REFUSAL_COUNT = min (s.get Obj.DEV_REFUSAL_COUNT + 1) 0xFFFFFFFF ∧
        u.sourcePending 448 ∧
        s.entriesBut u [Obj.DEV_REFUSAL_ABORT, Obj.DEV_REFUSAL_INDEX, Obj.DEV_REFUSAL_SUBINDEX, Obj.DEV_REFUSAL_REASON, Obj.DEV_REFUSAL_CHANNEL, Obj.DEV_REFUSAL_TIME, Obj.DEV_REFUSAL_COUNT] ∧
        u = { s.land t with objs := u.objs, icu := u.icu, log := u.log, flash := u.flash, dict := u.dict, out := u.out }) ∧
    (1 ≤ s.roleOf f → s.devState = stBlocked → s.pins.armEn = some true → s.get Obj.PRT_TRIP_ACTIVE = 0 → s.degPresent = false → 
      ∃ u, exec (.stateReqRunNormal t f) s = .next (State.settle (s.land t) u) ∧
        u.get Obj.DEV_REFUSAL_REASON = 0x24 ∧
        u.out.getLast? = some (Out.abort 0x08000022) ∧
        u.get Obj.DEV_REFUSAL_ABORT = 0x08000022 ∧
        u.get Obj.DEV_REFUSAL_INDEX = 0x2002 ∧
        u.get Obj.DEV_REFUSAL_SUBINDEX = 1 ∧
        u.get Obj.DEV_REFUSAL_COUNT = min (s.get Obj.DEV_REFUSAL_COUNT + 1) 0xFFFFFFFF ∧
        u.sourcePending 448 ∧
        s.entriesBut u [Obj.DEV_REFUSAL_ABORT, Obj.DEV_REFUSAL_INDEX, Obj.DEV_REFUSAL_SUBINDEX, Obj.DEV_REFUSAL_REASON, Obj.DEV_REFUSAL_CHANNEL, Obj.DEV_REFUSAL_TIME, Obj.DEV_REFUSAL_COUNT] ∧
        u = { s.land t with objs := u.objs, icu := u.icu, log := u.log, flash := u.flash, dict := u.dict, out := u.out }) ∧
    (1 ≤ s.roleOf f → s.devState = stBlocked → s.pins.armEn = some true → s.get Obj.PRT_TRIP_ACTIVE = 0 → s.degPresent = true → s.owner = false → 
      ∃ u, exec (.stateReqRunBlackstart t f) s = .next (State.settle (s.land t) u) ∧
        u.get Obj.DEV_REFUSAL_REASON = 0x25 ∧
        u.out.getLast? = some (Out.abort 0x08000022) ∧
        u.get Obj.DEV_REFUSAL_ABORT = 0x08000022 ∧
        u.get Obj.DEV_REFUSAL_INDEX = 0x2002 ∧
        u.get Obj.DEV_REFUSAL_SUBINDEX = 1 ∧
        u.get Obj.DEV_REFUSAL_COUNT = min (s.get Obj.DEV_REFUSAL_COUNT + 1) 0xFFFFFFFF ∧
        u.sourcePending 448 ∧
        s.entriesBut u [Obj.DEV_REFUSAL_ABORT, Obj.DEV_REFUSAL_INDEX, Obj.DEV_REFUSAL_SUBINDEX, Obj.DEV_REFUSAL_REASON, Obj.DEV_REFUSAL_CHANNEL, Obj.DEV_REFUSAL_TIME, Obj.DEV_REFUSAL_COUNT] ∧
        u = { s.land t with objs := u.objs, icu := u.icu, log := u.log, flash := u.flash, dict := u.dict, out := u.out })

/-- In LINKUP, when every condition of Table 1.6 holds, the device enters BLOCKED. A STANDBY or STALE unit in BLOCKED with ARM_EN high and no cause active enters RUN when its partner's Tide shows RUN, in BLACKSTART as the Tide says, and one in RUN enters BLOCKED when it shows BLOCKED; DEV_REQ_COUNT counts both. -/
def Obligations.StatesFollowTheirConditions : Prop :=
  ∀ (s : State) (t : Nat), 
    ((s.land t).linkupDone = true → 
      ∃ u, exec (.linkupComplete t) s = .next (State.settle (s.land t) u) ∧
        u.devState = stBlocked) ∧
    ((s.land t).linkupDone = false → 
      ∃ u, exec (.linkupComplete t) s = .next (State.settle (s.land t) u) ∧
        u = s.land t) ∧
    (∀ (d : Tide), s.tide = some d → d.state = stRun → s.devState = stBlocked → s.owner = false → s.pins.armEn = some true → s.get Obj.PRT_TRIP_ACTIVE = 0 → 
      ∃ u, exec (.followPartnerRun t) s = .next (State.settle (s.land t) u) ∧
        u.devState = stRun ∧
        u.bit Obj.DEV_RUN_FLAGS 0 = bitOf d.runFlags 0 ∧
        u.get Obj.DEV_REQ_COUNT = min (s.get Obj.DEV_REQ_COUNT + 1) 0xFFFFFFFF) ∧
    (∀ (d : Tide), s.tide = some d → d.state = stBlocked → s.devState = stRun → s.owner = false → 
      ∃ u, exec (.followPartnerBlocked t) s = .next (State.settle (s.land t) u) ∧
        u.devState = stBlocked ∧
        u.get Obj.DEV_REQ_COUNT = min (s.get Obj.DEV_REQ_COUNT + 1) 0xFFFFFFFF)

/-- A filtered fall of ARM_EN makes cause ARM_EN_LOW active with source 331; a rise clears it and records the low time, and in TRIP, after at least 20 us and with no other cause active, clears the latch into BLOCKED with source 322, and is refused, counted and logged otherwise. PRT_SOFT_TRIP raises event cause SOFT; the level of the GPIO that PRT_EXT_GPIO names makes EXT_TRIP active or inactive, with source 330 when it becomes active. -/
def Obligations.TripInputs : Prop :=
  ∀ (s : State) (t : Nat), 
    (s.pins.armEn = some true → 
      ∃ u, exec (.armEnFilteredFall t) s = .next (State.settle (s.land t) u) ∧
        u.pins.armEn = some false ∧
        u.causeActive causeArmEn = true ∧
        (u.prt.events = s.prt.events.filter (fun e => (s.land t).now ≤ e.2)) ∧
        u.sourcePending 331 ∧
        s.onlyEntries u [Obj.PRT_TRIP_ACTIVE, Obj.PRT_TRIP_LATCHED] ∧
        u = { s.land t with objs := u.objs, pins := u.pins, prt := u.prt, icu := u.icu }) ∧
    (s.pins.armEn ≠ some true → s.devState ≠ stTrip → 
      ∃ u, exec (.armEnFilteredRise t) s = .next (State.settle (s.land t) u) ∧
        u.pins.armEn = some true ∧
        u.causeActive causeArmEn = false ∧
        u.get Obj.PRT_ARMEN_LOW_TIME = min (((s.land t).now - s.pins.armFell) / 1000) 0xFFFFFFFF ∧
        s.onlyEntries u [Obj.PRT_TRIP_ACTIVE, Obj.PRT_ARMEN_LOW_TIME] ∧
        u = { s.land t with objs := u.objs, pins := u.pins }) ∧
    (s.pins.armEn ≠ some true → s.devState = stTrip → s.pins.armFell + 20000 ≤ (s.land t).now → withBit (s.getN Obj.PRT_TRIP_ACTIVE) causeArmEn false = 0 → 
      ∃ u, exec (.armEnFilteredRise t) s = .next (State.settle (s.land t) u) ∧
        u.pins.armEn = some true ∧
        u.devState = stBlocked ∧
        u.get Obj.PRT_TRIP_LATCHED = 0 ∧
        u.get Obj.PRT_TRIP_ACTIVE = 0 ∧
        u.sourcePending 322) ∧
    (s.pins.armEn ≠ some true → s.devState = stTrip → (s.land t).now < s.pins.armFell + 20000 ∨ withBit (s.getN Obj.PRT_TRIP_ACTIVE) causeArmEn false ≠ 0 → 
      ∃ u, exec (.armEnFilteredRise t) s = .next (State.settle (s.land t) u) ∧
        u.pins.armEn = some true ∧
        u.devState = stTrip ∧
        u.get Obj.PRT_TRIP_LATCHED = s.get Obj.PRT_TRIP_LATCHED ∧
        u.get Obj.PRT_CLEAR_REFUSED_COUNT = min (s.get Obj.PRT_CLEAR_REFUSED_COUNT + 1) 0xFFFFFFFF ∧
        u.sourcePending 321 ∧
        s.entriesBut u [Obj.PRT_TRIP_ACTIVE, Obj.PRT_ARMEN_LOW_TIME, Obj.PRT_CLEAR_REFUSED_COUNT] ∧
        u = { s.land t with objs := u.objs, pins := u.pins, icu := u.icu, log := u.log, flash := u.flash, dict := u.dict, out := u.out }) ∧
    (∀ (f : Sender), s.takesWrite t f Obj.PRT_SOFT_TRIP 1 = true → 
      ∃ u, exec (.prtSoftTrip t f) s = .next (State.settle (s.land t) u) ∧
        u.causeActive causeSoft = true ∧
        (causeSoft, (s.land t).now) ∈ u.prt.events ∧
        u.out = [Out.done] ∧
        s.onlyEntries u [Obj.PRT_TRIP_ACTIVE, Obj.PRT_TRIP_LATCHED] ∧
        u = { s.land t with objs := u.objs, prt := u.prt, dict := u.dict, out := u.out }) ∧
    (
      ∃ u, exec (.prtExtTrip t) s = .next (State.settle (s.land t) u) ∧
        bitOf u.pins.gpio (field (s.getN Obj.PRT_EXT_GPIO) 0 5) = s.bit Obj.PRT_EXT_GPIO 5 ∧
        u.causeActive causeExt = u.prtExt ∧
        (u.prtExt = true → s.causeActive causeExt = false → u.sourcePending 330) ∧
        s.onlyEntries u [Obj.PRT_TRIP_ACTIVE, Obj.PRT_TRIP_LATCHED] ∧
        u = { s.land t with objs := u.objs, pins := u.pins, icu := u.icu }) ∧
    (∀ (line : Nat) (level : Bool), line < 32 → 
      ∃ u, exec (.gpioInputChange t line level) s = .next (State.settle (s.land t) u) ∧
        u.pins.gpio = withBit s.pins.gpio line level ∧
        u.causeActive causeExt = u.prtExt ∧
        s.onlyEntries u [Obj.PRT_TRIP_ACTIVE, Obj.PRT_TRIP_LATCHED] ∧
        u = { s.land t with objs := u.objs, pins := u.pins, icu := u.icu }) ∧
    (∀ (bank : Nat) (ok : Bool), bank < 2 → 
      ∃ u, exec (.ioBankRailLoss t bank ok) s = .next (State.settle (s.land t) u) ∧
        ((if bank = 0 then u.pins.io33 else u.pins.io18) = ok) ∧
        s.onlyEntries u [] ∧
        u = { s.land t with objs := u.objs, pins := u.pins })

/-- A write that a check of Table 17.2 refuses leaves every entry but the refusal record as it was, records abort, entry, reason, channel and time, counts, and raises source 448; a write outside the states that serve the dictionary has no effect; an accepted write of a read-write configuration entry without an action of its own gives the entry its value, reserved bits cleared, and is answered; on an ACTIVE unit with a STANDBY partner and the sequencer running, a mirrored write is staged with its change record and leaves the entry as it was. -/
def Obligations.WritesAreJudgedAndCommitted : Prop :=
  ∀ (s : State) (t : Nat) (f : Sender) (index sub : Nat) (data : List Nat), 
    (∀ (r : Refused), (s.land t).dictServed = true → ((s.land t).heard f).judgeWrite f .plain index sub data.length data none = some r → r.reason ≠ 8 → 
      ∃ u, exec (.registerWrite t f index sub data) s = .next (State.settle (s.land t) u) ∧
        u.get Obj.DEV_REFUSAL_ABORT = r.abort ∧
        u.get Obj.DEV_REFUSAL_INDEX = index ∧
        u.get Obj.DEV_REFUSAL_SUBINDEX = sub ∧
        u.get Obj.DEV_REFUSAL_REASON = r.reason ∧
        u.get Obj.DEV_REFUSAL_CHANNEL = channelOf f ∧
        u.get Obj.DEV_REFUSAL_TIME = (s.land t).time32 ∧
        u.get Obj.DEV_REFUSAL_COUNT = min (s.get Obj.DEV_REFUSAL_COUNT + 1) 0xFFFFFFFF ∧
        u.sourcePending 448 ∧
        u.out.getLast? = some (Out.abort r.abort) ∧
        s.entriesBut u [Obj.DEV_REFUSAL_ABORT, Obj.DEV_REFUSAL_INDEX, Obj.DEV_REFUSAL_SUBINDEX, Obj.DEV_REFUSAL_REASON, Obj.DEV_REFUSAL_CHANNEL, Obj.DEV_REFUSAL_TIME, Obj.DEV_REFUSAL_COUNT] ∧
        u = { s.land t with objs := u.objs, icu := u.icu, log := u.log, flash := u.flash, dict := u.dict, out := u.out }) ∧
    ((s.land t).dictServed = false → 
      ∃ u, exec (.registerWrite t f index sub data) s = .next (State.settle (s.land t) u) ∧
        u = s.land t) ∧
    (∀ (acc : Access) (ty : ObjType) (mask : Nat) (mir : Bool), (Obj.find? index sub).map (fun r => (r.access, r.type, r.mask, r.mirrored)) = some (acc, ty, mask, mir) → acc ≠ .wo → index ∉ actingIndices → tunableKey (256 * index + sub) = false → (s.land t).dictServed = true → ((s.land t).heard f).judgeWrite f .plain index sub data.length data none = none → (mir && s.partnered && decide (3 ≤ s.devState) && s.devRole = roleActive && s.partnerRole = some roleStandby && s.orbRunning) = false → 
      ∃ u, exec (.registerWrite t f index sub data) s = .next (State.settle (s.land t) u) ∧
        (u.get (256 * index + sub) = (if mask = 0 then ObjType.value ty data else ((ObjType.value ty data).toNat &&& mask : Nat))) ∧
        u.out = [Out.done] ∧
        s.onlyEntries u [256 * index + sub] ∧
        u = { s.land t with objs := u.objs, dict := u.dict, out := u.out }) ∧
    (∀ (acc : Access) (ty : ObjType) (mask : Nat) (mir : Bool) (b : Nat), (Obj.find? index sub).map (fun r => (r.access, r.type, r.mask, r.mirrored)) = some (acc, ty, mask, mir) → acc ≠ .wo → (s.land t).dictServed = true → ((s.land t).heard f).judgeWrite f .plain index sub data.length data none = none → mir = true → s.partnered = true → 3 ≤ s.devState → s.devRole = roleActive → s.partnerRole = some roleStandby → s.orbRunning = true → b = (s.land t).boundaryAhead → 
      ∃ u, exec (.registerWrite t f index sub data) s = .next (State.settle (s.land t) u) ∧
        u.get (256 * index + sub) = s.get (256 * index + sub) ∧
        u.dict.staged = s.dict.staged ++ [{ sender := f, route := .plain, key := 256 * index + sub, length := data.length, value := ObjType.value ty data, boundary := b }] ∧
        s.onlyEntries u [Obj.RED_STATE_GEN] ∧
        u = { s.land t with objs := u.objs, dict := u.dict, red := u.red, out := u.out })

/-- A write of DEV_AUTH_REQ draws a fresh challenge for the session; the right response to its own unused challenge within 30 s, under a key that is not zero, grants the role with source 449 and uses the challenge up; any other response leaves the role, uses the challenge up, counts, raises 450 and is refused, and the fifth of a channel within 60 s locks it out with source 451. Logout, the idle limit and the rewriting of its role's key take the role; a lockout ends 60 s after the failures. -/
def Obligations.SessionsGainAndLoseRoles : Prop :=
  ∀ (s : State) (t : Nat) (f : Sender), 
    (∀ (role : Nat), (s.land t).dictServed = true → (s.session f).isSome = true → s.lockedOut f.channel = false → 1 ≤ role → role ≤ 3 → 
      ∃ u, exec (.devAuthReq t f role) s = .next (State.settle (s.land t) u) ∧
        (u.session f).bind (·.challenge) = some { bytes := (Config.randomWord s.freeCtr).toNat, role := role, time := (s.land t).now, used := false } ∧
        ((u.session f).map (·.challengeGen) = (s.session f).map fun e => (e.challengeGen + 1) % 2 ^ 32) ∧
        u.roleOf f = s.roleOf f ∧
        u.out.getLast? = some Out.done ∧
        s.onlyEntries u [] ∧
        u = { s.land t with objs := u.objs, dict := u.dict, freeCtr := u.freeCtr, out := u.out }) ∧
    (∀ (ch : Challenge), (s.land t).dictServed = true → (s.session f).bind (·.challenge) = some ch → ch.used = false → (s.land t).now ≤ ch.time + 30000000000 → s.keyZero ch.role = false → 
      ∃ u, exec (.devAuthResponse t f ((s.land t).authExpected f ch)) s = .next (State.settle (s.land t) u) ∧
        u.roleOf f = ch.role ∧
        (u.session f).bind (·.challenge) = some { ch with used := true } ∧
        u.sourcePending 449 ∧
        u.out.getLast? = some Out.done ∧
        s.onlyEntries u [] ∧
        u = { s.land t with objs := u.objs, dict := u.dict, icu := u.icu, out := u.out }) ∧
    (∀ (data : List Nat), (s.land t).dictServed = true → data.length = 32 → (s.session f).isSome = true → (s.land t).authOk f data = false → 
      ∃ u, exec (.devAuthResponse t f data) s = .next (State.settle (s.land t) u) ∧
        u.roleOf f = s.roleOf f ∧
        ((u.session f).bind (·.challenge) = ((s.session f).bind (·.challenge)).map fun c => { c with used := true }) ∧
        u.get Obj.DEV_AUTH_FAIL_COUNT = min (s.get Obj.DEV_AUTH_FAIL_COUNT + 1) 0xFFFFFFFF ∧
        u.sourcePending 450 ∧
        u.get Obj.DEV_REFUSAL_REASON = 8 ∧
        u.out.getLast? = some (Out.abort 0x08000022) ∧
        (4 ≤ (s.dict.failures.filter fun e => e.1 = f.channel ∧ (s.land t).now < e.2 + 60000000000).length → u.lockedOut f.channel = true) ∧
        s.entriesBut u [Obj.DEV_REFUSAL_ABORT, Obj.DEV_REFUSAL_INDEX, Obj.DEV_REFUSAL_SUBINDEX, Obj.DEV_REFUSAL_REASON, Obj.DEV_REFUSAL_CHANNEL, Obj.DEV_REFUSAL_TIME, Obj.DEV_REFUSAL_COUNT, Obj.DEV_AUTH_FAIL_COUNT] ∧
        u = { s.land t with objs := u.objs, icu := u.icu, log := u.log, flash := u.flash, dict := u.dict, out := u.out }) ∧
    ((s.land t).dictServed = true → 
      ∃ u, exec (.devAuthLogout t f) s = .next (State.settle (s.land t) u) ∧
        u.roleOf f = 0 ∧
        u.out.getLast? = some Out.done ∧
        s.onlyEntries u [] ∧
        u = { s.land t with objs := u.objs, dict := u.dict, out := u.out }) ∧
    (∀ (e : Session), s.session f = some e → e.lastRequest + 1000000000 * s.getN Obj.DEV_AUTH_IDLE ≤ (s.land t).now → 
      ∃ u, exec (.authIdleTimeout t f) s = .next (State.settle (s.land t) u) ∧
        u.roleOf f = 0 ∧
        s.onlyEntries u [] ∧
        u = { s.land t with objs := u.objs, dict := u.dict }) ∧
    ((s.land t).lockoutOver f.channel = true → 
      ∃ u, exec (.authLockoutExpiry t f.channel) s = .next (State.settle (s.land t) u) ∧
        u.lockedOut f.channel = false ∧
        (u.dict.failures = s.dict.failures.filter (fun e => e.1 ≠ f.channel)) ∧
        s.onlyEntries u [] ∧
        u = { s.land t with objs := u.objs, dict := u.dict }) ∧
    (∀ (role : Nat) (data : List Nat), s.devState = stConfig → s.roleOf f = 3 → 1 ≤ role → role ≤ 3 → data.length = 32 → s.dict.keys.length = 3 → s.flash.keys.length = 3 → 
      ∃ u, exec (.devAuthKeyWrite t f role data) s = .next (State.settle (s.land t) u) ∧
        u.dict.keys[role - 1]? = some (data.map (BitVec.ofNat 8 ·)) ∧
        u.flash.keys[role - 1]? = some (data.map (BitVec.ofNat 8 ·)) ∧
        (∀ e ∈ u.dict.sessions, e.role ≠ role) ∧
        u.out.getLast? = some Out.done ∧
        s.onlyEntries u [] ∧
        u = { s.land t with objs := u.objs, dict := u.dict, flash := u.flash, out := u.out })

/-- An image that passes every check of R445 is in force with source 452, DEV_IMAGE_STATUS 1, its check word and source 3; one that fails a check leaves the image in force as it was and records the first failing entry and abort with source 453. DEV_IMAGE_STORE begins a store; when the bank verifies it holds the image, the store ends with source 455 and the writer is answered; the first failure is tried again and the second invalidates the bank with source 456 and abort 0x0800_0020. -/
def Obligations.ImagesLoadAndStore : Prop :=
  ∀ (s : State) (t : Nat), 
    (∀ (f : Sender) (img : DictImage), (s.land t).dictServed = true → ((s.land t).heard f).judgeWrite f .plain (Obj.DEV_IMAGE / 256) (Obj.DEV_IMAGE % 256) img.size [] (some img) = none → 
      ∃ u, exec (.devImageLoad t f img) s = .next (State.settle (s.land t) u) ∧
        u.dict.image = some img ∧
        u.dict.live = true ∧
        u.get Obj.DEV_IMAGE_STATUS = 1 ∧
        u.get Obj.DEV_IMAGE_ID = img.checkWord ∧
        u.get Obj.DEV_IMAGE_SOURCE = 3 ∧
        u.sourcePending 452 ∧
        u.out.getLast? = some Out.done) ∧
    (∀ (f : Sender) (img : DictImage) (key : Nat) (r : Refused), (s.land t).dictServed = true → ((s.land t).heard f).judgeWrite f .plain (Obj.DEV_IMAGE / 256) (Obj.DEV_IMAGE % 256) img.size [] (some img) = some ⟨r.abort, 8⟩ → s.dict.storing = none → (((s.land t).heard f).imageCheck img).2 = some (key, r) → 
      ∃ u, exec (.devImageLoad t f img) s = .next (State.settle (s.land t) u) ∧
        u.dict.image = s.dict.image ∧
        u.get Obj.DEV_IMAGE_STATUS = 2 ∧
        u.get Obj.DEV_IMAGE_FIRST_FAIL = (256 * key + r.reason : Nat) ∧
        u.get Obj.DEV_IMAGE_FAIL_ABORT = r.abort ∧
        u.sourcePending 453 ∧
        u.out.getLast? = some (Out.abort r.abort) ∧
        s.entriesBut u [Obj.DEV_REFUSAL_ABORT, Obj.DEV_REFUSAL_INDEX, Obj.DEV_REFUSAL_SUBINDEX, Obj.DEV_REFUSAL_REASON, Obj.DEV_REFUSAL_CHANNEL, Obj.DEV_REFUSAL_TIME, Obj.DEV_REFUSAL_COUNT, Obj.DEV_IMAGE_STATUS, Obj.DEV_IMAGE_FIRST_FAIL, Obj.DEV_IMAGE_FAIL_ABORT] ∧
        u = { s.land t with objs := u.objs, icu := u.icu, log := u.log, flash := u.flash, dict := u.dict, out := u.out }) ∧
    (∀ (f : Sender), s.takesWrite t f Obj.DEV_IMAGE_STORE 1 = true → 
      ∃ u, exec (.devImageStore t f) s = .next (State.settle (s.land t) u) ∧
        u.dict.storing.isSome = true ∧
        u.dict.storing.map (·.attempt) = some 1 ∧
        u.get Obj.DEV_IMAGE_STATUS = 4 ∧
        s.entriesBut u [Obj.DEV_IMAGE_STATUS] ∧
        u = { s.land t with objs := u.objs, freeCtr := u.freeCtr, icu := u.icu, log := u.log, flash := u.flash, dict := u.dict, out := u.out }) ∧
    (∀ (j : ImageStore), s.dict.storing = some j → j.route = .plain → j.bank < s.flash.banks.length → 
      ∃ u, exec (.imageStoreDone t true) s = .next (State.settle (s.land t) u) ∧
        u.flash.banks[j.bank]? = some (some j.image) ∧
        u.dict.storing = none ∧
        u.sourcePending 455 ∧
        u.out.getLast? = some Out.done) ∧
    (∀ (j : ImageStore), s.dict.storing = some j → j.attempt = 1 → 
      ∃ u, exec (.imageStoreDone t false) s = .next (State.settle (s.land t) u) ∧
        u.dict.storing = some { j with attempt := 2 } ∧
        s.onlyEntries u [] ∧
        u = { s.land t with objs := u.objs, dict := u.dict }) ∧
    (∀ (j : ImageStore), s.dict.storing = some j → j.attempt = 2 → j.route = .plain → j.bank < s.flash.banks.length → 
      ∃ u, exec (.imageStoreDone t false) s = .next (State.settle (s.land t) u) ∧
        u.flash.banks[j.bank]? = some none ∧
        u.dict.storing = none ∧
        u.sourcePending 456 ∧
        u.out.getLast? = some (Out.abort 0x08000020))

/-- On an open CAN port an expedited download is answered as its write is judged; a segmented download that passes steps 1 to 7 opens a transfer, takes segments, and commits the whole as one write with the last; uploads answer with the data, at once or segment by segment; an abort message ends the transfer; a request during a transfer ends it with abort 0x0800_0022 and is served; a transfer on which neither side sends for 1 s is aborted with 0x0504_0000. -/
def Obligations.UsdoServices : Prop :=
  ∀ (s : State) (t port : Nat), s.canOpen port = true → 
    (∀ (index sub : Nat) (data : List Nat) (r : Refused), s.transferOf (canSender port) = none → ((s.land t).heard (canSender port)).judgeWrite (canSender port) (.usdo port) index sub data.length data none = some r → r.reason ≠ 8 → 
      ∃ u, exec (.usdoExpeditedDownload t port index sub data) s = .next (State.settle (s.land t) u) ∧
        u.out.getLast? = some (.usdo port (0x580 + s.dict.nodeIds.getD port 16) r.abort []) ∧
        u.get Obj.DEV_REFUSAL_ABORT = r.abort ∧
        u.get Obj.DEV_REFUSAL_INDEX = index ∧
        u.get Obj.DEV_REFUSAL_SUBINDEX = sub ∧
        u.get Obj.DEV_REFUSAL_REASON = r.reason ∧
        s.entriesBut u [Obj.DEV_REFUSAL_ABORT, Obj.DEV_REFUSAL_INDEX, Obj.DEV_REFUSAL_SUBINDEX, Obj.DEV_REFUSAL_REASON, Obj.DEV_REFUSAL_CHANNEL, Obj.DEV_REFUSAL_TIME, Obj.DEV_REFUSAL_COUNT] ∧
        u = { s.land t with objs := u.objs, icu := u.icu, log := u.log, flash := u.flash, dict := u.dict, out := u.out }) ∧
    (∀ (role : Nat), s.transferOf (canSender port) = none → 1 ≤ role → role ≤ 3 → s.lockedOut port = false → (s.session (canSender port)).isSome = true → 
      ∃ u, exec (.usdoExpeditedDownload t port 0x2010 1 [role]) s = .next (State.settle (s.land t) u) ∧
        ((u.session (canSender port)).bind (·.challenge)).map (·.role) = some role ∧
        u.out.getLast? = some (.usdo port (0x580 + s.dict.nodeIds.getD port 16) 0 []) ∧
        s.onlyEntries u [] ∧
        u = { s.land t with objs := u.objs, dict := u.dict, freeCtr := u.freeCtr, out := u.out }) ∧
    (∀ (index sub : Nat) (data : List Nat) (tr : Transfer), s.transferOf (canSender port) = some tr → 
      ∃ u, exec (.usdoExpeditedDownload t port index sub data) s = .next (State.settle (s.land t) u) ∧
        u.transferOf (canSender port) = none ∧
        u.out.head? = some (.usdo port (0x580 + s.dict.nodeIds.getD port 16) 0x08000022 [])) ∧
    (∀ (index sub length : Nat), s.transferOf (canSender port) = none → (s.session (canSender port)).isSome = true → ((s.land t).heard (canSender port)).judgeDownload (canSender port) (.usdo port) index sub length = none → 
      ∃ u, exec (.usdoSegmentedDownload t port index sub length) s = .next (State.settle (s.land t) u) ∧
        u.transferOf (canSender port) = some (downloadOf (256 * index + sub) 0 0 length 0) ∧
        u.out.getLast? = some (.usdo port (0x580 + s.dict.nodeIds.getD port 16) 0 []) ∧
        s.onlyEntries u [] ∧
        u = { s.land t with objs := u.objs, dict := u.dict, out := u.out }) ∧
    (∀ (data : List Nat) (img : Option DictImage) (tr : Transfer), s.transferOf (canSender port) = some tr → tr.upload = false → (tr.data ++ data).length ≤ tr.total → 
      ∃ u, exec (.usdoDownloadSegment t port data false img) s = .next (State.settle (s.land t) u) ∧
        u.transferOf (canSender port) = some { tr with data := tr.data ++ data } ∧
        u.out.getLast? = some (.usdo port (0x580 + s.dict.nodeIds.getD port 16) 0 []) ∧
        s.onlyEntries u [] ∧
        u = { s.land t with objs := u.objs, dict := u.dict, out := u.out }) ∧
    (∀ (data : List Nat) (img : Option DictImage) (tr : Transfer), s.transferOf (canSender port) = some tr → tr.upload = false → (tr.data ++ data).length ≠ tr.total → 
      ∃ u, exec (.usdoDownloadSegment t port data true img) s = .next (State.settle (s.land t) u) ∧
        u.transferOf (canSender port) = none ∧
        u.out.getLast? = some (.usdo port (0x580 + s.dict.nodeIds.getD port 16) 0x06070010 []) ∧
        s.entriesBut u [Obj.DEV_REFUSAL_ABORT, Obj.DEV_REFUSAL_INDEX, Obj.DEV_REFUSAL_SUBINDEX, Obj.DEV_REFUSAL_REASON, Obj.DEV_REFUSAL_CHANNEL, Obj.DEV_REFUSAL_TIME, Obj.DEV_REFUSAL_COUNT] ∧
        u = { s.land t with objs := u.objs, icu := u.icu, log := u.log, flash := u.flash, dict := u.dict, out := u.out }) ∧
    (∀ (index sub : Nat) (data : List Nat), s.transferOf (canSender port) = none → (((s.land t).heard (canSender port)).judgeRead (canSender port) index sub 65536).toOption = some data → data.length ≤ 8 → 
      ∃ u, exec (.usdoExpeditedUpload t port index sub) s = .next (State.settle (s.land t) u) ∧
        u.out.getLast? = some (.usdo port (0x580 + s.dict.nodeIds.getD port 16) 0 data) ∧
        s.onlyEntries u [] ∧
        u = { s.land t with objs := u.objs, dict := u.dict, freeCtr := u.freeCtr, out := u.out }) ∧
    (∀ (index sub : Nat) (data : List Nat), s.transferOf (canSender port) = none → (s.session (canSender port)).isSome = true → (((s.land t).heard (canSender port)).judgeRead (canSender port) index sub 65536).toOption = some data → 
      ∃ u, exec (.usdoSegmentedUpload t port index sub) s = .next (State.settle (s.land t) u) ∧
        ((u.transferOf (canSender port)).map (fun tr => (tr.upload, tr.key, tr.data)) = some (true, 256 * index + sub, data)) ∧
        u.out.getLast? = some (.usdo port (0x580 + s.dict.nodeIds.getD port 16) 0 (bytesOf data.length 4)) ∧
        s.onlyEntries u [] ∧
        u = { s.land t with objs := u.objs, dict := u.dict, freeCtr := u.freeCtr, out := u.out }) ∧
    (∀ (tr : Transfer), s.transferOf (canSender port) = some tr → tr.upload = true → 
      ∃ u, exec (.usdoUploadSegment t port) s = .next (State.settle (s.land t) u) ∧
        (u.transferOf (canSender port) = (if (tr.data.drop usdoRoom).isEmpty then none else some { tr with data := tr.data.drop usdoRoom, next := tr.next + 1 })) ∧
        u.out.getLast? = some (.usdo port (0x580 + s.dict.nodeIds.getD port 16) 0 (tr.data.take usdoRoom)) ∧
        s.onlyEntries u [] ∧
        u = { s.land t with objs := u.objs, dict := u.dict, out := u.out }) ∧
    (
      ∃ u, exec (.usdoAbort t port) s = .next (State.settle (s.land t) u) ∧
        u.transferOf (canSender port) = none ∧
        s.onlyEntries u [] ∧
        u = { s.land t with objs := u.objs, dict := u.dict }) ∧
    (∀ (tr : Transfer), s.transferOf (canSender port) = some tr → (s.land t).usdoSilent port = true → port < 2 → 
      ∃ u, exec (.usdoSegmentTimeout t port) s = .next (State.settle (s.land t) u) ∧
        u.transferOf (canSender port) = none ∧
        u.out.getLast? = some (.usdo port (0x580 + s.dict.nodeIds.getD port 16) 0x05040000 []) ∧
        s.onlyEntries u [] ∧
        u = { s.land t with objs := u.objs, dict := u.dict, out := u.out })

/-- An open CAN port ignores and counts NMT commands and sends its heartbeat; a bus-off is shown, and 10 s without another make it transient and counted; a second one within 10 s holds the port with source 460 or 461. -/
def Obligations.CanPorts : Prop :=
  ∀ (s : State) (t port : Nat), port < 2 → 
    (s.canOpen port = true → 
      ∃ u, exec (.nmtCommand t port) s = .next (State.settle (s.land t) u) ∧
        u.get (Obj.CAN_IGNORED port) = min (s.get (Obj.CAN_IGNORED port) + 1) 0xFFFFFFFF ∧
        s.onlyEntries u [Obj.CAN_IGNORED port] ∧
        u = { s.land t with objs := u.objs }) ∧
    (s.canOpen port = true → s.get Obj.HEARTBEAT_TIME ≠ 0 → 
      ∃ u, exec (.heartbeatTimer t port) s = .next (State.settle (s.land t) u) ∧
        u.out = [.can port (0x700 + s.dict.nodeIds.getD port 16) [5]] ∧
        s.onlyEntries u [] ∧
        u = { s.land t with objs := u.objs, out := u.out }) ∧
    (2 ≤ s.devState → s.devState ≤ 6 → s.bit (Obj.CAN_STATUS port) 3 = false → s.dict.busOff[port]?.isSome = true → (s.dict.busOff.getD port none).any (fun b => decide ((s.land t).now < b + 10000000000)) = false → 
      ∃ u, exec (.canBusOff t port) s = .next (State.settle (s.land t) u) ∧
        u.bit (Obj.CAN_STATUS port) 2 = true ∧
        u.dict.busOff[port]? = some (some (s.land t).now) ∧
        s.onlyEntries u [Obj.CAN_STATUS port] ∧
        u = { s.land t with objs := u.objs, dict := u.dict }) ∧
    (∀ (b : Nat), 2 ≤ s.devState → s.devState ≤ 6 → s.bit (Obj.CAN_STATUS port) 3 = false → s.dict.busOff[port]? = some (some b) → (s.land t).now < b + 10000000000 → 
      ∃ u, exec (.canBusOff t port) s = .next (State.settle (s.land t) u) ∧
        u.bit (Obj.CAN_STATUS port) 3 = true ∧
        u.sourcePending (460 + port) ∧
        s.entriesBut u [Obj.CAN_STATUS port] ∧
        u = { s.land t with objs := u.objs, icu := u.icu, log := u.log, flash := u.flash, dict := u.dict, out := u.out }) ∧
    (∀ (b : Nat), s.dict.busOff[port]? = some (some b) → b + 10000000000 ≤ (s.land t).now → 
      ∃ u, exec (.canBusOffQuiet t port) s = .next (State.settle (s.land t) u) ∧
        u.bit (Obj.CAN_STATUS port) 2 = false ∧
        u.dict.busOff[port]? = some none ∧
        u.get (Obj.CAN_BUSOFF_COUNT port) = min (s.get (Obj.CAN_BUSOFF_COUNT port) + 1) 0xFFFFFFFF ∧
        s.entriesBut u [Obj.CAN_STATUS port, Obj.CAN_BUSOFF_COUNT port] ∧
        u = { s.land t with objs := u.objs, icu := u.icu, log := u.log, flash := u.flash, dict := u.dict, out := u.out })

/-- OPEN on a serving port gives a session with source 457, and a ninth session is refused with abort 0x0800_0022; KEEPALIVE is answered; CLOSE is answered and closes the session; a session without a datagram for TDS_IDLE closes; a request already answered is answered again from the store and counted; a bad datagram is counted. A link that goes down counts and closes the port's sessions, with source 462 or 463. ARP and echo requests to the port's address are answered. -/
def Obligations.TdsSessions : Prop :=
  ∀ (s : State) (t : Nat), 
    (∀ (channel seq : Nat), s.tdsOpen channel = true → (s.dict.sessions.filter fun e => e.channel = 2 || e.channel = 3).length < 8 → 
      ∃ u, exec (.tdsOpen t channel seq) s = .next (State.settle (s.land t) u) ∧
        (u.dict.sessions = s.dict.sessions ++ [{ Session.fresh channel s.tdsNewId (s.land t).now with answers := [(seq, .tds channel s.tdsNewId 0x01 seq 0 0 false [])] }] ∨ (s.session ⟨channel, s.tdsNewId⟩).isSome = true) ∧
        u.sourcePending 457 ∧
        u.out = [.tds channel s.tdsNewId 0x01 seq 0 0 false []] ∧
        s.onlyEntries u [Obj.TDS_SESSIONS_OPEN] ∧
        u = { s.land t with objs := u.objs, dict := u.dict, icu := u.icu, out := u.out, freeCtr := u.freeCtr }) ∧
    (∀ (channel seq : Nat), s.tdsOpen channel = true → 8 ≤ (s.dict.sessions.filter fun e => e.channel = 2 || e.channel = 3).length → 
      ∃ u, exec (.tdsOpen t channel seq) s = .next (State.settle (s.land t) u) ∧
        u.out = [.tds channel 0 0x01 seq 0x08000022 0x08000022 false []] ∧
        s.onlyEntries u [] ∧
        u = { s.land t with objs := u.objs, dict := u.dict, out := u.out }) ∧
    (∀ (f : Sender) (seq : Nat), s.tdsTakes t f seq = true → 
      ∃ u, exec (.tdsKeepalive t f seq) s = .next (State.settle (s.land t) u) ∧
        u.out.getLast? = some (.tds f.channel f.session 0x03 seq 0 0 false []) ∧
        s.onlyEntries u [] ∧
        u = { s.land t with objs := u.objs, dict := u.dict, out := u.out }) ∧
    (∀ (f : Sender) (seq q : Nat) (e : Session) (o : Out), s.tdsOpen f.channel = true → s.session f = some e → (e.answers.find? fun a => a.1 = seq) = some (q, o) → 
      ∃ u, exec (.tdsKeepalive t f seq) s = .next (State.settle (s.land t) u) ∧
        u.out = [o] ∧
        u.get Obj.TDS_DUPLICATES = min (s.get Obj.TDS_DUPLICATES + 1) 0xFFFFFFFF ∧
        s.onlyEntries u [Obj.TDS_DUPLICATES] ∧
        u = { s.land t with objs := u.objs, dict := u.dict, out := u.out }) ∧
    (∀ (f : Sender) (seq : Nat), s.tdsTakes t f seq = true → 
      ∃ u, exec (.tdsClose t f seq) s = .next (State.settle (s.land t) u) ∧
        u.session f = none ∧
        u.out.getLast? = some (.tds f.channel f.session 0x02 seq 0 0 false []) ∧
        u.sourcePending 457 ∧
        s.onlyEntries u [Obj.TDS_SESSIONS_OPEN] ∧
        u = { s.land t with objs := u.objs, dict := u.dict, icu := u.icu, out := u.out }) ∧
    (∀ (f : Sender) (e : Session), f.channel = 2 ∨ f.channel = 3 → s.session f = some e → e.lastDatagram + 1000000000 * s.getN Obj.TDS_IDLE ≤ (s.land t).now → 
      ∃ u, exec (.tdsIdleTimeout t f) s = .next (State.settle (s.land t) u) ∧
        u.session f = none ∧
        u.sourcePending 457 ∧
        s.onlyEntries u [Obj.TDS_SESSIONS_OPEN] ∧
        u = { s.land t with objs := u.objs, dict := u.dict, icu := u.icu }) ∧
    (∀ (channel : Nat), s.tdsOpen channel = true → 
      ∃ u, exec (.tdsBadDatagram t channel) s = .next (State.settle (s.land t) u) ∧
        u.get Obj.TDS_BAD_HEADER = min (s.get Obj.TDS_BAD_HEADER + 1) 0xFFFFFFFF ∧
        s.onlyEntries u [Obj.TDS_BAD_HEADER] ∧
        u = { s.land t with objs := u.objs }) ∧
    (∀ (port : Nat), port < 2 → s.dictServed = true → s.bit (Obj.ETH_STATUS port) 0 = false → 
      ∃ u, exec (.ethLinkChange t port true) s = .next (State.settle (s.land t) u) ∧
        u.bit (Obj.ETH_STATUS port) 0 = true ∧
        u.sourcePending (462 + port) ∧
        s.onlyEntries u [Obj.ETH_STATUS port] ∧
        u = { s.land t with objs := u.objs, icu := u.icu }) ∧
    (∀ (port : Nat), port < 2 → s.dictServed = true → s.bit (Obj.ETH_STATUS port) 0 = true → 
      ∃ u, exec (.ethLinkChange t port false) s = .next (State.settle (s.land t) u) ∧
        u.bit (Obj.ETH_STATUS port) 0 = false ∧
        u.get (Obj.ETH_LINK_DOWN_COUNT port) = min (s.get (Obj.ETH_LINK_DOWN_COUNT port) + 1) 0xFFFFFFFF ∧
        (∀ e ∈ u.dict.sessions, e.channel ≠ port + 2) ∧
        u.sourcePending (462 + port) ∧
        s.onlyEntries u [Obj.ETH_STATUS port, Obj.ETH_LINK_DOWN_COUNT port, Obj.TDS_SESSIONS_OPEN] ∧
        u = { s.land t with objs := u.objs, dict := u.dict, icu := u.icu }) ∧
    (∀ (port target : Nat), port < 2 → s.ethOpen port = true → s.getN (Obj.ETH_IP port) = target → 
      ∃ u, exec (.arpRequest t port target) s = .next (State.settle (s.land t) u) ∧
        u.out = [.eth port 0 (bytesOf (s.getN (Obj.ETH_MAC port)) 6 ++ bytesOf target 4)] ∧
        s.onlyEntries u [] ∧
        u = { s.land t with objs := u.objs, out := u.out }) ∧
    (∀ (port target : Nat) (data : List Nat), port < 2 → s.ethOpen port = true → s.getN (Obj.ETH_IP port) = target → 
      ∃ u, exec (.icmpEchoRequest t port target data) s = .next (State.settle (s.land t) u) ∧
        u.out = [.eth port 1 data] ∧
        s.onlyEntries u [] ∧
        u = { s.land t with objs := u.objs, out := u.out })

/-- A new READ of a session is answered with the entry's data or, recorded as a refusal, with the abort of Table 17.2; a new WRITE is judged and answered so; READ_INDEX answers every readable subindex with its length and data, and an unknown index with abort 0x0602_0000; DESCRIBE answers type, access, role, states, mirroring, limits and default. -/
def Obligations.TdsRequests : Prop :=
  ∀ (s : State) (t : Nat) (f : Sender) (seq : Nat), s.tdsTakes t f seq = true → 
    (∀ (index sub : Nat) (data : List Nat), ((((s.tdsHeard t f)).heard f).judgeRead f index sub 1408).toOption = some data → 
      ∃ u, exec (.tdsRead t f seq index sub) s = .next (State.settle (s.land t) u) ∧
        u.out.getLast? = some (.tds f.channel f.session 0x10 seq 0 0 false data) ∧
        s.onlyEntries u [] ∧
        u = { s.land t with objs := u.objs, dict := u.dict, freeCtr := u.freeCtr, out := u.out }) ∧
    (∀ (index sub : Nat), Obj.indexExists index = false → 
      ∃ u, exec (.tdsRead t f seq index sub) s = .next (State.settle (s.land t) u) ∧
        u.out.getLast? = some (.tds f.channel f.session 0x10 seq 0x06020000 0x06020000 false []) ∧
        u.get Obj.DEV_REFUSAL_ABORT = 0x06020000 ∧
        u.get Obj.DEV_REFUSAL_INDEX = index ∧
        u.get Obj.DEV_REFUSAL_REASON = 1 ∧
        s.entriesBut u [Obj.DEV_REFUSAL_ABORT, Obj.DEV_REFUSAL_INDEX, Obj.DEV_REFUSAL_SUBINDEX, Obj.DEV_REFUSAL_REASON, Obj.DEV_REFUSAL_CHANNEL, Obj.DEV_REFUSAL_TIME, Obj.DEV_REFUSAL_COUNT] ∧
        u = { s.land t with objs := u.objs, icu := u.icu, log := u.log, flash := u.flash, dict := u.dict, out := u.out }) ∧
    (∀ (role : Nat) (img : Option DictImage), 1 ≤ role → role ≤ 3 → s.lockedOut f.channel = false → 
      ∃ u, exec (.tdsWrite t f seq 0x2010 1 [role] img) s = .next (State.settle (s.land t) u) ∧
        u.out.getLast? = some (.tds f.channel f.session 0x11 seq 0 0 false []) ∧
        ((u.session f).bind (·.challenge)).map (·.role) = some role ∧
        s.onlyEntries u [] ∧
        u = { s.land t with objs := u.objs, dict := u.dict, freeCtr := u.freeCtr, out := u.out }) ∧
    (∀ (index sub : Nat) (data : List Nat) (img : Option DictImage), (Obj.find? index sub).map (·.access) = some .ro → 
      ∃ u, exec (.tdsWrite t f seq index sub data img) s = .next (State.settle (s.land t) u) ∧
        u.out.getLast? = some (.tds f.channel f.session 0x11 seq 0x06010002 0x06010002 false []) ∧
        u.get Obj.DEV_REFUSAL_REASON = 2 ∧
        s.entriesBut u [Obj.DEV_REFUSAL_ABORT, Obj.DEV_REFUSAL_INDEX, Obj.DEV_REFUSAL_SUBINDEX, Obj.DEV_REFUSAL_REASON, Obj.DEV_REFUSAL_CHANNEL, Obj.DEV_REFUSAL_TIME, Obj.DEV_REFUSAL_COUNT] ∧
        u = { s.land t with objs := u.objs, icu := u.icu, log := u.log, flash := u.flash, dict := u.dict, out := u.out }) ∧
    (∀ (index : Nat) (data : List Nat), Obj.indexExists index = true → data = ((((s.tdsHeard t f)).indexData f index).flatMap fun e => [e.1] ++ bytesOf e.2.length 2 ++ e.2) → data.length ≤ 1408 → 
      ∃ u, exec (.tdsReadIndex t f seq index) s = .next (State.settle (s.land t) u) ∧
        u.out.getLast? = some (.tds f.channel f.session 0x12 seq 0 0 false data) ∧
        s.onlyEntries u [] ∧
        u = { s.land t with objs := u.objs, dict := u.dict, freeCtr := u.freeCtr, out := u.out }) ∧
    (∀ (index : Nat), Obj.indexExists index = false → 
      ∃ u, exec (.tdsReadIndex t f seq index) s = .next (State.settle (s.land t) u) ∧
        u.out.getLast? = some (.tds f.channel f.session 0x12 seq 0x06020000 0x06020000 false []) ∧
        s.entriesBut u [Obj.DEV_REFUSAL_ABORT, Obj.DEV_REFUSAL_INDEX, Obj.DEV_REFUSAL_SUBINDEX, Obj.DEV_REFUSAL_REASON, Obj.DEV_REFUSAL_CHANNEL, Obj.DEV_REFUSAL_TIME, Obj.DEV_REFUSAL_COUNT] ∧
        u = { s.land t with objs := u.objs, icu := u.icu, log := u.log, flash := u.flash, dict := u.dict, out := u.out }) ∧
    (∀ (index sub : Nat), Obj.indexExists index = true → (Obj.find? index sub).isNone = true → 
      ∃ u, exec (.tdsDescribe t f seq index sub) s = .next (State.settle (s.land t) u) ∧
        u.out.getLast? = some (.tds f.channel f.session 0x13 seq 0x06090011 0x06090011 false []) ∧
        s.entriesBut u [Obj.DEV_REFUSAL_ABORT, Obj.DEV_REFUSAL_INDEX, Obj.DEV_REFUSAL_SUBINDEX, Obj.DEV_REFUSAL_REASON, Obj.DEV_REFUSAL_CHANNEL, Obj.DEV_REFUSAL_TIME, Obj.DEV_REFUSAL_COUNT] ∧
        u = { s.land t with objs := u.objs, icu := u.icu, log := u.log, flash := u.flash, dict := u.dict, out := u.out }) ∧
    (∀ (index sub role st : Nat) (ty : ObjType), (Obj.find? index sub).map (fun r => (r.type, r.role, r.states)) = some (ty, role, st) → 
      ∃ u, exec (.tdsDescribe t f seq index sub) s = .next (State.settle (s.land t) u) ∧
        (((u.out.getLast?).map fun o => match o with | .tds _ _ _ _ ab _ _ payload => (ab, payload.take 2, (payload.drop 3).take 3) | _ => (1, [], [])) = some (0, bytesOf (ObjType.code ty) 2, role :: bytesOf st 2)) ∧
        s.onlyEntries u [] ∧
        u = { s.land t with objs := u.objs, dict := u.dict, out := u.out })

/-- UP_START of a readable entry opens an upload and answers its length, CRC, generation and chunk count; an acknowledgement moves the window; 50 ms without one send the window again once, and then end the upload as failed with source 459; DOWN_START that passes steps 1 to 7 opens a download; the chunk that is expected is taken and every chunk is answered with the next one expected; DOWN_END with a wrong length or CRC is answered with abort 0x0800_0020 and ends the transfer; CANCEL ends it. -/
def Obligations.TdsBulkTransfers : Prop :=
  ∀ (s : State) (t : Nat) (f : Sender) (seq : Nat), 
    (∀ (index sub first window : Nat) (data : List Nat), s.tdsTakes t f seq = true → ((s.tdsHeard t f).judgeRead f index sub (2 ^ 64)).toOption = some data → s.transferOf f = none → s.bulkOpen < 4 → 1 ≤ window → window ≤ 64 → data ≠ [] → first = 0 → 
      ∃ u, exec (.tdsUpStart t f seq index sub first window) s = .next (State.settle (s.land t) u) ∧
        ((u.transferOf f).map (fun tr => (tr.upload, tr.key, tr.data)) = some (true, 256 * index + sub, data)) ∧
        ((u.transferOf f).map (fun tr => [tr.total, tr.window, tr.next, tr.acked]) = some [data.length, window, min window (chunksOf data.length), 0]) ∧
        u.out.head? = some (.tds f.channel f.session 0x20 seq 0 0 false (bytesOf data.length 8 ++ bytesOf (crc32c data) 4 ++ bytesOf (s.resultGen (256 * index + sub)) 4 ++ bytesOf (chunksOf data.length) 4 ++ bytesOf 0 4)) ∧
        s.onlyEntries u [] ∧
        u = { s.land t with objs := u.objs, dict := u.dict, freeCtr := u.freeCtr, out := u.out }) ∧
    (∀ (next : Nat) (tr : Transfer), s.tdsTakes t f seq = true → s.transferOf f = some tr → tr.upload = true → tr.resent = false → tr.acked < next → next ≤ tr.next → next < chunksOf tr.total → 
      ∃ u, exec (.tdsUpAck t f seq next) s = .next (State.settle (s.land t) u) ∧
        ((u.transferOf f).map (fun tr => (tr.acked, tr.next)) = some (next, max tr.next (min (next + tr.window) (chunksOf tr.total)))) ∧
        s.onlyEntries u [] ∧
        u = { s.land t with objs := u.objs, dict := u.dict, out := u.out }) ∧
    (∀ (next : Nat) (tr : Transfer), s.tdsTakes t f seq = true → s.transferOf f = some tr → tr.upload = true → tr.resent = false → tr.acked < next → next ≤ tr.next → chunksOf tr.total ≤ next → 
      ∃ u, exec (.tdsUpAck t f seq next) s = .next (State.settle (s.land t) u) ∧
        u.transferOf f = none ∧
        u.sourcePending 458 ∧
        s.onlyEntries u [] ∧
        u = { s.land t with objs := u.objs, dict := u.dict, icu := u.icu }) ∧
    (∀ (tr : Transfer), f.channel = 2 ∨ f.channel = 3 → s.transferOf f = some tr → tr.upload = true → tr.acked < tr.next → tr.resentTo ≤ tr.acked → 
      ∃ u, exec (.tdsChunkTimeout t f) s = .next (State.settle (s.land t) u) ∧
        u.transferOf f = some { tr with resent := true, resentTo := tr.next } ∧
        u.out.length = tr.next - tr.acked ∧
        s.onlyEntries u [] ∧
        u = { s.land t with objs := u.objs, dict := u.dict, out := u.out }) ∧
    (∀ (tr : Transfer), f.channel = 2 ∨ f.channel = 3 → s.transferOf f = some tr → tr.upload = true → tr.acked < tr.next → tr.acked < tr.resentTo → 
      ∃ u, exec (.tdsChunkTimeout t f) s = .next (State.settle (s.land t) u) ∧
        u.transferOf f = none ∧
        u.get Obj.TDS_BULK_FAIL = min (s.get Obj.TDS_BULK_FAIL + 1) 0xFFFFFFFF ∧
        u.sourcePending 459 ∧
        u.out.getLast? = some (.tds f.channel f.session 0x20 tr.seq 0x05040000 0x05040000 false []) ∧
        s.entriesBut u [Obj.TDS_BULK_FAIL] ∧
        u = { s.land t with objs := u.objs, icu := u.icu, log := u.log, flash := u.flash, dict := u.dict, out := u.out }) ∧
    (∀ (index sub length crc window : Nat), s.tdsTakes t f seq = true → (s.tdsHeard t f).judgeDownload f (.tds f.channel f.session seq 0x23) index sub length = none → s.transferOf f = none → s.bulkOpen < 4 → 1 ≤ window → window ≤ 64 → 
      ∃ u, exec (.tdsDownStart t f seq index sub length crc window) s = .next (State.settle (s.land t) u) ∧
        u.transferOf f = some (downloadOf (256 * index + sub) seq window length crc) ∧
        u.out.getLast? = some (.tds f.channel f.session 0x23 seq 0 0 false []) ∧
        s.onlyEntries u [] ∧
        u = { s.land t with objs := u.objs, dict := u.dict, out := u.out }) ∧
    (∀ (chunk : Nat) (data : List Nat) (tr : Transfer), s.tdsTakes t f seq = true → s.transferOf f = some tr → tr.upload = false → 
      ∃ u, exec (.tdsDownData t f seq chunk data) s = .next (State.settle (s.land t) u) ∧
        (chunk = tr.next → u.transferOf f = some { tr with data := tr.data ++ data, next := tr.next + 1 }) ∧
        (chunk ≠ tr.next → u.transferOf f = some tr) ∧
        (u.out = [.tds f.channel f.session 0x25 seq 0 (if chunk = tr.next then tr.next + 1 else tr.next) false []]) ∧
        s.onlyEntries u [] ∧
        u = { s.land t with objs := u.objs, dict := u.dict, out := u.out }) ∧
    (∀ (img : Option DictImage) (tr : Transfer), s.tdsTakes t f seq = true → s.transferOf f = some tr → tr.upload = false → tr.data.length ≠ tr.total ∨ crc32c tr.data ≠ tr.crc → 
      ∃ u, exec (.tdsDownEnd t f seq img) s = .next (State.settle (s.land t) u) ∧
        u.transferOf f = none ∧
        u.out.getLast? = some (.tds f.channel f.session 0x26 seq 0x08000020 0x08000020 false []) ∧
        s.onlyEntries u [] ∧
        u = { s.land t with objs := u.objs, dict := u.dict, out := u.out }) ∧
    (∀ (q role : Nat) (img : Option DictImage), s.tdsTakes t f seq = true → s.transferOf f = some { downloadOf 0x201001 q 8 1 (crc32c [role]) with data := [role] } → 1 ≤ role → role ≤ 3 → s.lockedOut f.channel = false → 
      ∃ u, exec (.tdsDownEnd t f seq img) s = .next (State.settle (s.land t) u) ∧
        u.transferOf f = none ∧
        u.out.getLast? = some (.tds f.channel f.session 0x26 seq 0 0 false []) ∧
        u.sourcePending 458 ∧
        ((u.session f).bind (·.challenge)).map (·.role) = some role ∧
        s.onlyEntries u [] ∧
        u = { s.land t with objs := u.objs, dict := u.dict, icu := u.icu, freeCtr := u.freeCtr, out := u.out }) ∧
    (s.tdsTakes t f seq = true → 
      ∃ u, exec (.tdsCancel t f seq) s = .next (State.settle (s.land t) u) ∧
        u.transferOf f = none ∧
        u.out.getLast? = some (.tds f.channel f.session 0x27 seq 0 0 false []) ∧
        s.onlyEntries u [] ∧
        u = { s.land t with objs := u.objs, dict := u.dict, out := u.out })

/-- PORESET_N low for 1.0 us and a boundary-scan test instruction put every entry at its reset value, the state in RESET; the release of PORESET_N samples the straps, restarts the time counter at 0, arms the watchdog but for SERVICE_HOLD, and enters BOOT; watchdog expiry (in BOOT no sooner than 2.0 s after the release), a lockstep mismatch and the end of a test instruction boot afresh with the straps sampled before. Flash and OTP stay, and the AON register keeps the cause. -/
def Obligations.ResetsClearTheDevice : Prop :=
  ∀ (s : State) (t : Nat), 
    (∀ (low : Nat) (lost : Bool), 1000 ≤ low → 
      ∃ u, exec (.poresetNAssert t low lost) s = .next (State.settle (s.land t) u) ∧
        u.devState = stReset ∧
        u.objs = State.reset.objs ∧
        u.boot.poreset = true ∧
        u.aon.cause = 0x0200 ∧
        u.flash = s.flash ∧ u.otp = s.otp ∧
        (lost = false → u.aon.records = s.aon.records)) ∧
    (∀ (low : Nat) (lost : Bool), low < 1000 → 
      ∃ u, exec (.poresetNAssert t low lost) s = .next (State.settle (s.land t) u) ∧
        u = s.land t) ∧
    (∀ (unitB : Bool) (sel : Nat), s.boot.poreset = true → sel < 4 → 
      ∃ u, exec (.poresetNRelease t unitB sel) s = .next (State.settle (s.land t) u) ∧
        u.devState = stBoot ∧
        (u.get Obj.DEV_UNIT = (if unitB then 1 else 0)) ∧
        (u.get (Obj.CAN_NODE_ID 0) = (if unitB then 17 else 16)) ∧
        u.boot.bootSel = sel ∧
        u.boot.watchdog = decide (sel ≠ 3) ∧
        u.boot.held = decide (sel = 3) ∧
        u.counter = 0 ∧
        u.aon.cause = 0x0200 ∧
        u.flash = s.flash ∧ u.otp = s.otp ∧
        State.reset.onlyEntries u [Obj.DEV_STATE, Obj.DEV_UNIT, Obj.CAN_NODE_ID 0, Obj.CAN_NODE_ID 1]) ∧
    (s.boot.watchdog = true → s.devState ≠ stLunar → s.boot.poreset = false → s.boot.jtagHold = false → (s.devState = stBoot → s.boot.released + 2000000000 ≤ (s.land t).now) → 
      ∃ u, exec (.serviceWatchdogExpiry t) s = .next (State.settle (s.land t) u) ∧
        u.devState = stBoot ∧
        u.aon.cause = 0x0201 ∧
        (u.get Obj.DEV_UNIT = (if s.get Obj.DEV_UNIT = 1 then 1 else 0)) ∧
        u.boot.bootSel = s.boot.bootSel ∧
        u.flash = s.flash ∧ u.otp = s.otp ∧
        (s.devState = stBoot → s.boot.bank < s.aon.watchdogBoots.length → u.aon.watchdogBoots[s.boot.bank]? = (s.aon.watchdogBoots[s.boot.bank]?).map (· + 1)) ∧
        State.reset.onlyEntries u [Obj.DEV_STATE, Obj.DEV_UNIT, Obj.CAN_NODE_ID 0, Obj.CAN_NODE_ID 1]) ∧
    (s.devState ≠ stReset → s.devState ≠ stLunar → 
      ∃ u, exec (.lockstepMismatch t) s = .next (State.settle (s.land t) u) ∧
        u.devState = stBoot ∧
        u.aon.cause = 0x0202 ∧
        u.boot.bootSel = s.boot.bootSel ∧
        u.flash = s.flash ∧ u.otp = s.otp ∧
        State.reset.onlyEntries u [Obj.DEV_STATE, Obj.DEV_UNIT, Obj.CAN_NODE_ID 0, Obj.CAN_NODE_ID 1]) ∧
    (s.boot.poreset = false → 
      ∃ u, exec (.jtagTestInstruction t) s = .next (State.settle (s.land t) u) ∧
        u.devState = stReset ∧
        u.boot.jtagHold = true ∧
        u.aon.cause = 0x0203 ∧
        u.get Obj.DEV_UNIT = s.get Obj.DEV_UNIT ∧
        u.flash = s.flash ∧ u.otp = s.otp ∧
        State.reset.onlyEntries u [Obj.DEV_UNIT]) ∧
    (s.boot.jtagHold = true → 
      ∃ u, exec (.jtagResetRelease t) s = .next (State.settle (s.land t) u) ∧
        u.devState = stBoot ∧
        u.boot.jtagHold = false ∧
        u.aon.cause = s.aon.cause ∧
        u.boot.bootSel = s.boot.bootSel ∧
        u.flash = s.flash ∧ u.otp = s.otp ∧
        State.reset.onlyEntries u [Obj.DEV_STATE, Obj.DEV_UNIT, Obj.CAN_NODE_ID 0, Obj.CAN_NODE_ID 1])

/-- In BOOT, a first-stage attempt that meets checks 1 to 9 of Table 19.5 goes on to the second stage, and a second-stage attempt that meets its checks verifies the bank with its SVN, floor, revocations and key slot; the first failed attempt at a stage is recorded with its reason and tried again; a bank that fails again gives way to the other one; the second bank to fail holds BOOT with the watchdog stopped. Once a bank has verified, boot completes in CONFIG with the reset cause shown and the AON records journalled away. -/
def Obligations.FirmwareBanksAndConfig : Prop :=
  ∀ (s : State) (t : Nat), s.devState = stBoot → s.boot.held = false → 
    (∀ (f : FirmwareImage), s.boot.verified = none → s.boot.stage = 1 → f.magic = true → bitOf f.products (if Config.isP8 then 1 else 0) = true → f.keySlot < 2 → bitOf s.otp.programmed f.keySlot = true → bitOf s.otp.revoked f.keySlot = false → f.keyHash = true → f.signature = true → s.otp.antiRollback ≤ f.svn → f.floor ≤ f.svn → f.partHash = true → f.partRead = true → s.aon.watchdogBoots.getD s.boot.bank 0 < 2 → 
      ∃ u, exec (.firmwareBankAttempt t f) s = .next (State.settle (s.land t) u) ∧
        u.boot.stage = 2 ∧
        u.boot.attempt = 1 ∧
        u.boot.bank = s.boot.bank ∧
        u.aon.records = s.aon.records ∧
        u.devState = stBoot) ∧
    (∀ (f : FirmwareImage), s.boot.verified = none → s.boot.stage = 2 → f.laterRead = true → f.laterHash = true → 
      ∃ u, exec (.firmwareBankAttempt t f) s = .next (State.settle (s.land t) u) ∧
        u.boot.verified = some s.boot.bank ∧
        u.boot.svn = f.svn ∧
        u.boot.floor = f.floor ∧
        u.boot.revoke = f.revoke ∧
        u.boot.keySlot = f.keySlot ∧
        (s.boot.bank = s.bootPreferred → u.aon.records = s.aon.records) ∧
        s.onlyEntries u [Obj.LOG_UART_DROPPED] ∧
        u = { s.land t with objs := u.objs, boot := u.boot, aon := u.aon, dict := u.dict, out := u.out }) ∧
    (∀ (f : FirmwareImage), s.boot.verified = none → s.boot.attempt = 1 → s.boot.stage = 2 → f.laterRead = false ∨ f.laterHash = false → 
      ∃ u, exec (.firmwareBankAttempt t f) s = .next (State.settle (s.land t) u) ∧
        u.boot.attempt = 2 ∧
        u.boot.bank = s.boot.bank ∧
        ((u.aon.records.getLast?).map (fun r => (r.code, r.data)) = some (0x0221, [s.boot.bank, 2, if f.laterRead then 7 else 8])) ∧
        s.onlyEntries u [Obj.LOG_UART_DROPPED] ∧
        u = { s.land t with objs := u.objs, boot := u.boot, aon := u.aon, dict := u.dict, out := u.out }) ∧
    (∀ (f : FirmwareImage), s.boot.verified = none → s.boot.attempt = 2 → s.boot.stage = 2 → f.laterRead = false ∨ f.laterHash = false → s.boot.otherFailed = false → 
      ∃ u, exec (.firmwareBankAttempt t f) s = .next (State.settle (s.land t) u) ∧
        u.boot.attempt = 1 ∧
        u.boot.stage = 1 ∧
        u.boot.bank = 1 - s.boot.bank ∧
        u.boot.otherFailed = true ∧
        u.boot.held = false ∧
        s.onlyEntries u [Obj.LOG_UART_DROPPED] ∧
        u = { s.land t with objs := u.objs, boot := u.boot, aon := u.aon, dict := u.dict, out := u.out }) ∧
    (∀ (f : FirmwareImage), s.boot.verified = none → s.boot.stage = 1 → s.boot.attempt = 2 → f.magic = false → s.boot.otherFailed = true → 
      ∃ u, exec (.firmwareBankAttempt t f) s = .next (State.settle (s.land t) u) ∧
        u.boot.held = true ∧
        u.boot.watchdog = false ∧
        u.devState = stBoot ∧
        s.onlyEntries u [Obj.LOG_UART_DROPPED] ∧
        u = { s.land t with objs := u.objs, boot := u.boot, aon := u.aon, dict := u.dict, out := u.out }) ∧
    (∀ (reads : List Bool) (bad : List Nat) (copies : Nat), s.boot.verified.isSome = true → 
      ∃ u, exec (.enterConfig t reads bad copies) s = .next (State.settle (s.land t) u) ∧
        u.devState = stConfig ∧
        u.get Obj.LOG_RESET_CAUSE = s.aon.cause ∧
        u.aon.records = [] ∧
        u.aon.watchdogBoots = [0, 0])

/-- Programming that reads back sets the anti-rollback counter to the floor of the running image and adds its revocations; a first failure is tried again, and a second leaves the fuses and waits for the next entry to BLOCKED. LOGREAD outside its states reads 0 and in its states the partition; DEBUG with the right response for the Service role opens core debug; the debug UART answers a read of an unknown entry with its abort code. -/
def Obligations.FusesAndDebugPorts : Prop :=
  ∀ (s : State) (t : Nat), 
    (∀ (failed : Nat), s.boot.otpAttempt ≠ 0 → bitOf failed 0 = false → bitOf failed 1 = false → 
      ∃ u, exec (.otpProgramDone t failed) s = .next (State.settle (s.land t) u) ∧
        u.otp.antiRollback = s.otpFloor ∧
        u.otp.revoked = (s.otp.revoked ||| s.otpRevoke) ∧
        u.boot.otpAttempt = 0 ∧
        u.boot.otpDue = false ∧
        s.entriesBut u [] ∧
        u = { s.land t with objs := u.objs, otp := u.otp, boot := u.boot, icu := u.icu, log := u.log, flash := u.flash, dict := u.dict, out := u.out }) ∧
    (∀ (failed : Nat), s.boot.otpAttempt = 1 → bitOf failed 0 = true → bitOf failed 1 = true → s.otp.antiRollback < s.otpFloor → 
      ∃ u, exec (.otpProgramDone t failed) s = .next (State.settle (s.land t) u) ∧
        u.otp = s.otp ∧
        u.boot.otpAttempt = 2 ∧
        s.entriesBut u [] ∧
        u = { s.land t with objs := u.objs, otp := u.otp, boot := u.boot, icu := u.icu, log := u.log, flash := u.flash, dict := u.dict, out := u.out }) ∧
    (∀ (failed : Nat), s.boot.otpAttempt = 2 → bitOf failed 0 = true → bitOf failed 1 = true → s.otp.antiRollback < s.otpFloor → 
      ∃ u, exec (.otpProgramDone t failed) s = .next (State.settle (s.land t) u) ∧
        u.otp = s.otp ∧
        u.boot.otpAttempt = 0 ∧
        u.boot.otpDue = s.boot.otpDue ∧
        s.entriesBut u [] ∧
        u = { s.land t with objs := u.objs, otp := u.otp, boot := u.boot, icu := u.icu, log := u.log, flash := u.flash, dict := u.dict, out := u.out }) ∧
    (∀ (offset length : Nat), s.devState ≠ stReset → s.devState ≠ stBoot → 
      ∃ u, exec (.jtagLogread t offset length) s = .next (State.settle (s.land t) u) ∧
        u.out = [.jtag (List.replicate length 0)] ∧
        s.onlyEntries u [] ∧
        u = { s.land t with objs := u.objs, out := u.out }) ∧
    (∀ (offset length : Nat), s.devState = stBoot → s.boot.held = true → 
      ∃ u, exec (.jtagLogread t offset length) s = .next (State.settle (s.land t) u) ∧
        (u.out = [.jtag ((List.range length).map fun i => s.partitionByte (offset + i))]) ∧
        s.onlyEntries u [] ∧
        u = { s.land t with objs := u.objs, out := u.out, freeCtr := u.freeCtr }) ∧
    (∀ (ch : Challenge), (s.land t).dictServed = true → ((s.land t).session ⟨5, 0⟩).bind (·.challenge) = some ch → ch.used = false → (s.land t).now ≤ ch.time + 30000000000 → (s.land t).keyZero ch.role = false → 
      ∃ u, exec (.jtagDebug t ((s.land t).authExpected ⟨5, 0⟩ ch)) s = .next (State.settle (s.land t) u) ∧
        u.dict.debug = true ∧
        u.out.getLast? = some (.jtag [1]) ∧
        ((u.session ⟨5, 0⟩).map (·.role)) = some ch.role ∧
        s.entriesBut u [] ∧
        u = { s.land t with objs := u.objs, icu := u.icu, log := u.log, flash := u.flash, dict := u.dict, out := u.out }) ∧
    (∀ (index sub : Nat), (s.land t).dictServed = true → Obj.rowOf (256 * index + sub) = none → (Obj.rowOf (256 * index)).isNone = true → sub = 0 → s.dict.uartFill = 0 → 
      ∃ u, exec (.uartReadCommand t index sub) s = .next (State.settle (s.land t) u) ∧
        u.out.getLast? = some (.uart ([65, 32] ++ hexOf (bytesOf 0x06020000 4).reverse ++ [13, 10])))

/-- At a period end that no earlier pulse overtakes, and at a pulse that has reached it, a PWM channel whose writes are not in the window of R139 restarts its counter there, with the phase at a pulse; where COMMIT is set its active registers take the shadow registers together, PERIOD_NOW and DUTY_NOW show them and COMMIT is cleared; else the active registers stay. The raw output is high from there exactly where the duty is not yet passed. -/
def Obligations.CarrierReloads : Prop :=
  ∀ (s : State) (t k : Nat) (c d : CarChannel), s.car.channels[k]? = some c → k < 24 → s.carPwm k = true → c.late = [] → c.lateCommit = false → d = (if s.bit (Obj.CAR_CH_CMD k) 0 = true then { c with period := s.getN (Obj.CAR_PERIOD k), duty := s.getN (Obj.CAR_DUTY k), cmpa := s.getN (Obj.CAR_CMPA k), cmpb := s.getN (Obj.CAR_CMPB k), phase := s.getN (Obj.CAR_PHASE k) } else c) → 
    (c.sync = none → c.ends ≤ (s.land t).nowFine → 
      ∃ u, exec (.carrierReload t k) s = .next (State.settleAt (s.land t) u (some c.ends)) ∧
        u.bit (Obj.CAR_CH_CMD k) 0 = false ∧
        (s.bit (Obj.CAR_CH_CMD k) 0 = true → u.get (Obj.CAR_PERIOD_NOW k) = s.get (Obj.CAR_PERIOD k) ∧ u.get (Obj.CAR_DUTY_NOW k) = s.get (Obj.CAR_DUTY k)) ∧
        ((u.car.channels[k]?).map (fun e => (e.start, e.raw, e.sync)) = some (c.ends, decide (0 < d.duty), none)) ∧
        ((u.car.channels[k]?).map (fun e => [e.period, e.duty, e.cmpa, e.cmpb, e.phase]) = some [d.period, d.duty, d.cmpa, d.cmpb, d.phase])) ∧
    (∀ (inst : Int), c.sync = some inst → inst ≤ (s.land t).nowFine → 
      ∃ u, exec (.carrierSyncPulse t k) s = .next (State.settleAt (s.land t) u (some inst)) ∧
        u.bit (Obj.CAR_CH_CMD k) 0 = false ∧
        ((u.car.channels[k]?).map (fun e => (e.start, e.raw, e.sync)) = some (inst - (320 * (d.phase % 2 ^ 20) : Nat), decide (64 * (d.phase % 2 ^ 20) < d.duty), none)) ∧
        ((u.car.channels[k]?).map (fun e => [e.period, e.duty, e.cmpa, e.cmpb, e.phase]) = some [d.period, d.duty, d.cmpa, d.cmpb, d.phase]))

/-- When the counter of a PWM channel reaches its active duty the raw output falls once a period; a delayed rise that is due makes its output high; a compare value that the counter reaches fires its trigger once a period, with the channel interrupt where it is enabled; a bound channel toggles its internal output at the edge that is queued for the present cycle and takes it from the queue. -/
def Obligations.CarrierEdgesAndTriggers : Prop :=
  ∀ (s : State) (t k : Nat) (c : CarChannel), s.car.channels[k]? = some c → k < 24 → 
    (s.carPwm k = true → c.dutyDone = false → c.duty < 64 * c.period → s.carEdgeTime c.start c.duty ≤ (s.land t).nowFine → 
      ∃ u, exec (.carrierDutyEdge t k) s = .next (State.settleAt (s.land t) u (some (s.carEdgeTime c.start c.duty))) ∧
        ((u.car.channels[k]?).map (fun e => (e.raw, e.main, e.dutyDone)) = some (false, false, true)) ∧
        s.onlyEntries u [Obj.CAR_CH_STATUS k] ∧
        u = { s.land t with objs := u.objs, car := u.car }) ∧
    (∀ (inst : Int), c.mainDue = some inst → inst ≤ (s.land t).nowFine → 
      ∃ u, exec (.deadTimeElapsed t k) s = .next (State.settleAt (s.land t) u (some inst)) ∧
        ((u.car.channels[k]?).map (fun e => (e.main, e.mainDue)) = some (true, none)) ∧
        s.onlyEntries u [] ∧
        u = { s.land t with objs := u.objs, car := u.car }) ∧
    (∀ (inst : Int), c.mainDue = none → c.compDue = some inst → inst ≤ (s.land t).nowFine → 
      ∃ u, exec (.deadTimeElapsed t k) s = .next (State.settleAt (s.land t) u (some inst)) ∧
        ((u.car.channels[k]?).map (fun e => (e.comp, e.compDue)) = some (true, none)) ∧
        s.onlyEntries u [] ∧
        u = { s.land t with objs := u.objs, car := u.car }) ∧
    (∀ (second : Bool), s.bit (Obj.CAR_CH_STATUS k) 0 = true → (if second then c.doneB else c.doneA) = false → (if second then c.cmpb else c.cmpa) < 64 * c.period → s.carEdgeTime c.start (if second then c.cmpb else c.cmpa) ≤ (s.land t).nowFine → 
      ∃ u, exec (.carrierCompareTrigger t k second) s = .next (State.settleAt (s.land t) u (some (s.carEdgeTime c.start (if second then c.cmpb else c.cmpa)))) ∧
        ((u.car.channels[k]?).map (fun e => if second then e.doneB else e.doneA) = some true) ∧
        (s.bit (Obj.CAR_CH_CTRL k) (13 + if second then 1 else 0) = true → u.sourcePending (256 + k))) ∧
    (∀ (edge : Nat) (rest : List (Nat × Nat)), s.carMode k = 1 → s.orbRunning = true → c.queue = (s.orbCount, edge) :: rest → s.carEdgeTime c.start edge ≤ (s.land t).nowFine → 
      ∃ u, exec (.boundEdgeToggle t k) s = .next (State.settleAt (s.land t) u (some (s.carEdgeTime c.start edge))) ∧
        u.car.channels[k]? = some { c with internal := !c.internal, queue := rest } ∧
        s.onlyEntries u [Obj.CAR_CH_STATUS k, Obj.CAR_DUTY_NOW k] ∧
        u = { s.land t with objs := u.objs, car := u.car })

/-- A write from a running core, or an accepted dictionary write, outside the window of R139: COMMIT sets COMMIT and COMMIT_PENDING of a PWM channel; CLEAR_STICKY clears the sticky bits of its status; a shadow register takes the value, and the duty sets COMMIT with auto-commit on. On a bound channel a write of COMMIT, period, duty or phase is ignored and counted, with source 284. -/
def Obligations.CarrierWrites : Prop :=
  ∀ (s : State) (t k : Nat) (f : Sender) (c : CarChannel), s.car.channels[k]? = some c → k < 24 → 
    (s.reachesUnit t f (Obj.CAR_CH_CMD k) 1 = true → s.carMode k ≠ 1 → (s.land t).carWindow k = false → 
      ∃ u, exec (.carCommit t f k) s = .next (State.settle (s.land t) u) ∧
        u.bit (Obj.CAR_CH_CMD k) 0 = true ∧
        u.bit (Obj.CAR_CH_STATUS k) 1 = true ∧
        s.onlyEntries u [Obj.CAR_CH_CMD k, Obj.CAR_CH_STATUS k] ∧
        u = { s.land t with objs := u.objs, dict := u.dict, out := u.out }) ∧
    (s.reachesUnit t f (Obj.CAR_CH_CMD k) 1 = true → s.carPwm k = true → (s.land t).carWindow k = true → 
      ∃ u, exec (.carCommit t f k) s = .next (State.settle (s.land t) u) ∧
        (u.car.channels[k]?).map (·.lateCommit) = some true ∧
        u.bit (Obj.CAR_CH_STATUS k) 5 = true ∧
        u.get Obj.CAR_LATE_WRITE_COUNT = min (s.get Obj.CAR_LATE_WRITE_COUNT + 1) 0xFFFFFFFF ∧
        s.onlyEntries u [Obj.CAR_CH_STATUS k, Obj.CAR_LATE_WRITE_COUNT] ∧
        u = { s.land t with objs := u.objs, car := u.car, dict := u.dict, out := u.out }) ∧
    (s.reachesUnit t f (Obj.CAR_CH_CMD k) 1 = true → s.carMode k = 1 → 
      ∃ u, exec (.carCommit t f k) s = .next (State.settle (s.land t) u) ∧
        u.bit (Obj.CAR_CH_STATUS k) 7 = true ∧
        u.get Obj.CAR_BOUND_WRITE_COUNT = min (s.get Obj.CAR_BOUND_WRITE_COUNT + 1) 0xFFFFFFFF ∧
        u.sourcePending 284 ∧
        s.onlyEntries u [Obj.CAR_CH_STATUS k, Obj.CAR_BOUND_WRITE_COUNT] ∧
        u = { s.land t with objs := u.objs, icu := u.icu, dict := u.dict, out := u.out }) ∧
    (s.reachesUnit t f (Obj.CAR_CH_CMD k) 2 = true → s.carMode k ≠ 1 → 
      ∃ u, exec (.carClearSticky t f k) s = .next (State.settle (s.land t) u) ∧
        u.bit (Obj.CAR_CH_STATUS k) 4 = false ∧
        u.bit (Obj.CAR_CH_STATUS k) 5 = false ∧
        u.bit (Obj.CAR_CH_STATUS k) 7 = false ∧
        s.onlyEntries u [Obj.CAR_CH_STATUS k] ∧
        u = { s.land t with objs := u.objs, dict := u.dict, out := u.out }) ∧
    (∀ (reg v : Nat), reg < 5 → v < 2 ^ 32 → s.reachesUnit t f (carShadow reg k) v = true → s.carMode k ≠ 1 → (s.land t).carWindow k = false → 
      ∃ u, exec (.carShadowWrite t f k reg v) s = .next (State.settle (s.land t) u) ∧
        (u.getN (carShadow reg k) = (if reg = 4 then v % 2 ^ 24 else v)) ∧
        (reg = 1 → s.bit (Obj.CAR_CH_CTRL k) 4 = true → u.bit (Obj.CAR_CH_CMD k) 0 = true) ∧
        s.onlyEntries u [carShadow reg k, Obj.CAR_CH_CMD k, Obj.CAR_CH_STATUS k] ∧
        u = { s.land t with objs := u.objs, dict := u.dict, out := u.out }) ∧
    (∀ (reg v : Nat), reg = 0 ∨ reg = 1 ∨ reg = 4 → v < 2 ^ 32 → s.reachesUnit t f (carShadow reg k) v = true → s.carMode k = 1 → 
      ∃ u, exec (.carShadowWrite t f k reg v) s = .next (State.settle (s.land t) u) ∧
        u.bit (Obj.CAR_CH_STATUS k) 7 = true ∧
        u.get Obj.CAR_BOUND_WRITE_COUNT = min (s.get Obj.CAR_BOUND_WRITE_COUNT + 1) 0xFFFFFFFF ∧
        u.sourcePending 284 ∧
        s.onlyEntries u [Obj.CAR_CH_STATUS k, Obj.CAR_BOUND_WRITE_COUNT] ∧
        u = { s.land t with objs := u.objs, icu := u.icu, dict := u.dict, out := u.out })

/-- At the end of a commutation hold a PWM channel shows the mask sources that are still active, and stays masked until its reload; the lock of the delay line, with the carrier PLL driving, sets its status bit and lifts the CLOCK mask; the loss of the lock clears it, counts and raises source 283. -/
def Obligations.CarrierMasksAndDelayLine : Prop :=
  ∀ (s : State) (t : Nat), 
    (∀ (k : Nat) (c : CarChannel), k < 24 → s.carPwm k = true → s.car.channels[k]? = some c → (s.land t).carSources k = 0 → 
      ∃ u, exec (.carCommHoldExpiry t k) s = .next (State.settle (s.land t) u) ∧
        ((u.car.channels[k]?).map (fun e => (e.sources, e.masked)) = some (0, c.masked)) ∧
        s.onlyEntries u [Obj.CAR_CH_STATUS k] ∧
        u = { s.land t with objs := u.objs, car := u.car }) ∧
    (s.pllDrives 3 = true → 
      ∃ u, exec (.delayLineLock t) s = .next (State.settle (s.land t) u) ∧
        u.bit Obj.CAR_UNIT_STATUS 0 = true ∧
        u.bit Obj.CAR_UNIT_STATUS 1 = false ∧
        s.onlyEntries u [Obj.CAR_UNIT_STATUS] ∧
        u = { s.land t with objs := u.objs }) ∧
    (s.carLocked = true → 
      ∃ u, exec (.delayLineUnlock t) s = .next (State.settle (s.land t) u) ∧
        u.bit Obj.CAR_UNIT_STATUS 0 = false ∧
        u.get Obj.CAR_DL_UNLOCK_COUNT = min (s.get Obj.CAR_DL_UNLOCK_COUNT + 1) 0xFFFFFFFF ∧
        u.sourcePending 283 ∧
        s.onlyEntries u [Obj.CAR_UNIT_STATUS, Obj.CAR_DL_UNLOCK_COUNT] ∧
        u = { s.land t with objs := u.objs, icu := u.icu })

/-- At a boundary of a lone owner outside a cascade tree ORB_COUNT goes on by one modulo 2^32, the cycle begins at that instant in its first phase, and source 160 is raised; a stretch announced for it takes ORB_DEG_PERIOD and sets ORB_STATUS bit 1, a return ORB_PERIOD, and else the length stays; the first boundary takes ORB_PERIOD. A boundary that cannot come has no effect. An accepted write of ORB_DEG_FORCE sets it and is a need of a stretch while the sequencer runs; one of ORB_MARGIN_CLEAR resets ORB_MARGIN_MIN and ORB_STATUS bit 8. -/
def Obligations.BoundariesCountCycles : Prop :=
  ∀ (s : State) (t : Nat) (headers : List (Nat × Nat)), 
    ((s.land t).boundaryComes = false → 
      ∃ u, exec (.orbitBoundary t headers) s = .next (State.settle (s.land t) u) ∧
        u = s.land t) ∧
    ((s.land t).boundaryComes = true → s.hasPartner = false → s.owner = true → s.treeRole = 0 → s.dict.staged = [] → s.tim.pendingStep = none → 
      ∃ u, exec (.orbitBoundary t headers) s = .next (State.settle (s.land t) u) ∧
        u.orbRunning = true ∧
        u.orbCount = s.orbAfter 1 ∧
        u.orb.phase = 0 ∧
        u.orb.boundary = (s.land t).now ∧
        u.get Obj.ORB_BOUNDARY_TIME = (s.land t).time32 ∧
        u.sourcePending 160 ∧
        (s.orbRunning = false → u.get Obj.ORB_PERIOD_NOW = s.getN Obj.ORB_PERIOD) ∧
        (s.orbRunning = true → reachedAt (s.orbAfter 1) s.orb.stretchAt = true → u.get Obj.ORB_PERIOD_NOW = s.get Obj.ORB_DEG_PERIOD ∧ u.bit Obj.ORB_STATUS 1 = true) ∧
        (s.orbRunning = true → reachedAt (s.orbAfter 1) s.orb.stretchAt = false → reachedAt (s.orbAfter 1) s.orb.returnAt = true → u.get Obj.ORB_PERIOD_NOW = s.get Obj.ORB_PERIOD ∧ u.bit Obj.ORB_STATUS 1 = false) ∧
        (s.orbRunning = true → reachedAt (s.orbAfter 1) s.orb.stretchAt = false → reachedAt (s.orbAfter 1) s.orb.returnAt = false → u.get Obj.ORB_PERIOD_NOW = s.get Obj.ORB_PERIOD_NOW)) ∧
    (∀ (f : Sender) (force : Bool), s.takesWrite t f Obj.ORB_DEG_FORCE (if force then 1 else 0) = true → 
      ∃ u, exec (.orbDegForceWrite t f force) s = .next (State.settle (s.land t) u) ∧
        (u.get Obj.ORB_DEG_FORCE = (if force then 1 else 0)) ∧
        (force = true → s.orbRunning = true → u.orb.needLate = true) ∧
        u.out = [Out.done] ∧
        s.onlyEntries u [Obj.ORB_DEG_FORCE] ∧
        u = { s.land t with objs := u.objs, orb := u.orb, dict := u.dict, out := u.out }) ∧
    (∀ (f : Sender), s.takesWrite t f Obj.ORB_MARGIN_CLEAR 1 = true → 
      ∃ u, exec (.orbMarginClear t f) s = .next (State.settle (s.land t) u) ∧
        u.get Obj.ORB_MARGIN_MIN = Obj.resetValue Obj.ORB_MARGIN_MIN ∧
        u.bit Obj.ORB_STATUS 8 = false ∧
        u.out = [Out.done] ∧
        s.onlyEntries u [Obj.ORB_MARGIN_MIN, Obj.ORB_STATUS] ∧
        u = { s.land t with objs := u.objs, dict := u.dict, out := u.out })

/-- At T_ref an engine that closed its reference page for the cycle has it staged, one that did not is missed and counted with source 162, and tunables take effect unless held; T_up ends the second phase with source 161; at T_fin a need seen in normal cycles announces a stretch two cycles on with source 163, and degraded cycles without need a return; at T_ready a frame that is not in its buffer overruns the cycle with cause 4 and the pair, source 166. A deadline out of its order has no effect. -/
def Obligations.DeadlinesOfTheCycle : Prop :=
  ∀ (s : State) (t : Nat), 
    (s.orbRunning = false ∨ s.orb.phase ≠ 0 → 
      ∃ u, exec (.tRefDeadline t) s = .next (State.settle (s.land t) u) ∧
        u = s.land t) ∧
    (∀ (e : Nat) (h : Hart), s.orbRunning = true → s.orb.phase = 0 → e < 8 → s.refRegistered e = true → s.eng.harts[e]? = some h → h.pageDone = true → h.pageCycle = s.orbCount → 
      ∃ u, exec (.tRefDeadline t) s = .next (State.settle (s.land t) u) ∧
        u.orb.phase = 1 ∧
        ((u.eng.harts[e]?).map (fun x => (x.staged, x.missed)) = some (h.page, false)) ∧
        (s.get Obj.SWG_PARAM_HOLD ≠ 1 → u.dict.tunables = [])) ∧
    (∀ (e : Nat) (h : Hart), s.orbRunning = true → s.orb.phase = 0 → e < 8 → s.refRegistered e = true → s.eng.harts[e]? = some h → h.pageDone = false ∨ h.pageCycle ≠ s.orbCount → 
      ∃ u, exec (.tRefDeadline t) s = .next (State.settle (s.land t) u) ∧
        u.orb.phase = 1 ∧
        ((u.eng.harts[e]?).map (fun x => (x.staged, x.missed)) = some (h.staged, true)) ∧
        (s.dict.tunables = [] ∨ s.get Obj.SWG_PARAM_HOLD = 1 → u.bit Obj.ORB_STATUS 7 = true) ∧
        u.sourcePending 162) ∧
    (s.orbRunning = true → s.orb.phase = 1 → 
      ∃ u, exec (.tUpDeadline t) s = .next (State.settle (s.land t) u) ∧
        u.orb.phase = 2 ∧
        u.sourcePending 161) ∧
    (s.orbRunning = false ∨ s.orb.phase ≠ 1 → 
      ∃ u, exec (.tUpDeadline t) s = .next (State.settle (s.land t) u) ∧
        u = s.land t) ∧
    (s.orbRunning = true → s.orb.phase = 2 → s.orb.needSeen = true → s.bit Obj.ORB_STATUS 1 = false → s.orb.stretchAt = none → s.orb.returnAt = none → 
      ∃ u, exec (.tFinDeadline t 0) s = .next (State.settle (s.land t) u) ∧
        u.orb.phase = 3 ∧
        u.orb.stretchAt = some (s.orbAfter 2) ∧
        u.bit Obj.ORB_STATUS 2 = true ∧
        u.sourcePending 163) ∧
    (s.orbRunning = true → s.orb.phase = 2 → s.orb.needSeen = false → s.ownNeed = false → s.bit Obj.ORB_STATUS 1 = true → s.orb.stretchAt = none → s.orb.returnAt = none → s.treeRole ≠ 2 → 
      ∃ u, exec (.tFinDeadline t 0) s = .next (State.settle (s.land t) u) ∧
        u.orb.phase = 3 ∧
        u.orb.returnAt = some (s.orbAfter 2) ∧
        u.bit Obj.ORB_STATUS 3 = true ∧
        u.sourcePending 163) ∧
    (s.orbRunning = true → s.orb.phase = 3 → 
      ∃ u, exec (.tReadyDeadline t []) s = .next (State.settle (s.land t) u) ∧
        u.orb.phase = 4 ∧
        s.onlyEntries u [] ∧
        u = { s.land t with objs := u.objs, orb := u.orb }) ∧
    (∀ (p : Nat), s.orbRunning = true → s.orb.phase = 3 → p < 24 → s.orb.overrun = none → 
      ∃ u, exec (.tReadyDeadline t [p]) s = .next (State.settle (s.land t) u) ∧
        u.orb.phase = 4 ∧
        u.orb.overrun = some (0x400 + p) ∧
        u.get Obj.ORB_OVERRUN_CAUSE = (0x400 + p : Nat) ∧
        u.get Obj.ORB_OVERRUN_COUNT = min (s.get Obj.ORB_OVERRUN_COUNT + 1) 0xFFFFFFFF ∧
        u.bit Obj.ORB_STATUS 6 = true ∧
        u.sourcePending 166)

/-- The running root sends its record on every live downward group; a branch takes the root's record of the present cycle before T_ref and the stretch or return that its flags announce for the next boundary; up records of a downward group join those of the cycle; a round trip gives the hop half of it less the turnaround, within 2.00 us, else source 114. -/
def Obligations.CascadeRecords : Prop :=
  ∀ (s : State) (t : Nat), 
    (s.treeRole = 1 → s.orbRunning = true → 3 ≤ s.devState → s.devState ≤ 6 → 
      ∃ u, exec (.cascadeDownLaunch t) s = .next (State.settle (s.land t) u) ∧
        (u.out = (s.cascGroups.filter fun g => !s.cascUpward g && s.cascAlive g).map fun _ => Out.record 0x200 (CascDown.words s.rootRecord)) ∧
        s.onlyEntries u [] ∧
        u = { s.land t with objs := u.objs, out := u.out }) ∧
    (∀ (d : CascDown) (label : Nat), s.treeRole = 2 → s.orbRunning = true → 3 ≤ s.devState → s.devState ≤ 6 → d.orb = s.orbCount → s.orb.phase = 0 → 
      ∃ u, exec (.cascadeDownReceive t d label) s = .next (State.settle (s.land t) u) ∧
        u.lnk.down = some d ∧
        u.tim.rootLabel = some label ∧
        (bitOf d.flags 1 = true → u.orb.stretchAt = some (s.orbAfter 1) ∧ u.bit Obj.ORB_STATUS 2 = true) ∧
        (bitOf d.flags 1 = false → bitOf d.flags 2 = true → u.orb.returnAt = some (s.orbAfter 1) ∧ u.bit Obj.ORB_STATUS 3 = true) ∧
        s.onlyEntries u [Obj.ORB_STATUS] ∧
        u = { s.land t with objs := u.objs, orb := u.orb, lnk := u.lnk, tim := u.tim, out := u.out }) ∧
    (∀ (g : Nat) (records : List CascUp), s.cascOn g = true → s.cascUpward g = false → 
      ∃ u, exec (.cascadeUpReceive t g records) s = .next (State.settle (s.land t) u) ∧
        u.lnk.ups = s.lnk.ups ++ records ∧
        s.onlyEntries u [] ∧
        u = { s.land t with objs := u.objs, lnk := u.lnk }) ∧
    (∀ (g trip turn beyond devices : Nat), s.cascOn g = true → g < 8 → g < s.lnk.paths.length → 
      ∃ u, exec (.cascadeRoundtripReturn t g trip turn beyond devices) s = .next (State.settle (s.land t) u) ∧
        u.get (Obj.LNK_CASC_LATENCY g) = (min ((trip - turn) / 2) 0xFFFF : Nat) ∧
        u.bit (Obj.LNK_CASC_STATUS g) 1 = decide ((trip - turn) / 2 ≤ 2000) ∧
        u.lnk.paths[g]? = some (some ((trip - turn) / 2 + beyond, devices + 2)) ∧
        (2000 < (trip - turn) / 2 → u.sourcePending 114) ∧
        s.onlyEntries u [Obj.LNK_CASC_LATENCY g, Obj.LNK_CASC_STATUS g, Obj.LNK_STATUS] ∧
        u = { s.land t with objs := u.objs, lnk := u.lnk, icu := u.icu })

/-- A CONTROL frame of the present cycle that is back in time marks its port, gives the latency from its boundary and passes its slots on; a bad FCRC counts with source 101, and a wrong number of hops with source 111. An ENUMERATE frame that is not whole fails the step, which is tried twice; one that finds more nodes than configured is refused; DELAY frames give the pair its latency; alignment, written after the first step of the counter, sets its bit; a management record is done, repeated once with a transient, or lost with source 104; an urgent block that returns raises source 102. -/
def Obligations.FramesAndPairs : Prop :=
  ∀ (s : State) (t p : Nat), 
    (∀ (odd : Bool) (q : Pair), s.valvePair p = true → 4 ≤ s.devState → s.devState ≤ 6 → s.orb.phase < 2 → s.pairMode p = pairRing → s.pair p = some q → q.portLatency.length = 2 → 
      ∃ u, exec (.frameReturn t p odd s.orbCount true (s.pairNodes p) false []) s = .next (State.settle (s.land t) u) ∧
        ((u.pair p).map (fun q => bitOf q.back (if odd then 1 else 0)) = some true) ∧
        ((u.pair p).map (fun q => q.portLatency[if odd then 1 else 0]?) = some (some (min ((s.land t).now - s.orb.boundary) 0xFFFE))) ∧
        u.get (Obj.LNK_PAIR_FRAME_ERR p) = s.get (Obj.LNK_PAIR_FRAME_ERR p)) ∧
    (∀ (odd : Bool) (halves : List Nat), s.valvePair p = true → 4 ≤ s.devState → s.devState ≤ 6 → 2 ≤ s.orb.phase → s.pairMode p = pairRing → p < s.lnk.pairs.length → 
      ∃ u, exec (.frameReturn t p odd s.orbCount false (s.pairNodes p) false halves) s = .next (State.settle (s.land t) u) ∧
        u.get (Obj.LNK_PAIR_FRAME_ERR p) = min (s.get (Obj.LNK_PAIR_FRAME_ERR p) + 1) 0xFFFFFFFF ∧
        u.sourcePending 101 ∧
        (u.pair p).map (·.back) = (s.pair p).map (·.back) ∧
        s.onlyEntries u [Obj.LNK_PAIR_FRAME_ERR p, Obj.ORB_PAIR_LATENCY p, Obj.ORB_MARGIN_MIN, Obj.ORB_STATUS] ∧
        u = { s.land t with objs := u.objs, orb := u.orb, lnk := u.lnk, lan := u.lan, icu := u.icu }) ∧
    (∀ (odd looped : Bool) (records : List NodeRecord) (q : Pair), s.devState = stLinkup → s.valvePair p = true → s.stepDone p 2 = false → s.pair p = some q → 
      ∃ u, exec (.enumerationFrameReturn t p odd looped false records) s = .next (State.settle (s.land t) u) ∧
        (u.pair p).map (·.tries) = some (q.tries + 1) ∧
        (q.tries = 1 → u.sourcePending 106) ∧
        s.entriesBut u [] ∧
        u = { s.land t with objs := u.objs, lnk := u.lnk, icu := u.icu, log := u.log, flash := u.flash, dict := u.dict, out := u.out }) ∧
    (∀ (records : List NodeRecord) (q : Pair), s.devState = stLinkup → s.valvePair p = true → s.stepDone p 2 = false → s.pair p = some q → q.evenFound = none → 
      ∃ u, exec (.enumerationFrameReturn t p false true true records) s = .next (State.settle (s.land t) u) ∧
        ((u.pair p).map (fun q => (q.evenFound, q.ids.length)) = some (some records.length, records.length)) ∧
        s.onlyEntries u [] ∧
        u = { s.land t with objs := u.objs, lnk := u.lnk, age := u.age, icu := u.icu, log := u.log, flash := u.flash, dict := u.dict, out := u.out }) ∧
    (∀ (loop : Int) (nodes : List (Int × Int × Int × Int)) (latency : Nat) (q : Pair), s.devState = stLinkup → s.stepDone p 2 = true → s.stepDone p 6 = false → s.pair p = some q → 
      ∃ u, exec (.delayFrameReturn t p loop nodes latency false) s = .next (State.settle (s.land t) u) ∧
        (u.pair p).map (·.tries) = some (q.tries + 1) ∧
        s.entriesBut u [] ∧
        u = { s.land t with objs := u.objs, lnk := u.lnk, icu := u.icu, log := u.log, flash := u.flash, dict := u.dict, out := u.out }) ∧
    (∀ (loop : Int) (nodes : List (Int × Int × Int × Int)) (latency : Nat), s.devState = stLinkup → s.stepDone p 2 = true → s.stepDone p 6 = false → nodes.length = s.getN (Obj.LNK_PAIR_FOUND p) → p < 24 → p < s.lnk.pairs.length → 
      ∃ u, exec (.delayFrameReturn t p loop nodes latency true) s = .next (State.settle (s.land t) u) ∧
        u.get (Obj.ORB_PAIR_LATENCY p) = (min latency 0xFFFE : Nat) ∧
        u.stepDone p 6 = true ∧
        ((u.pair p).map (fun q => (q.segments.length, q.portLatency)) = some (nodes.length + 1, [latency, latency])) ∧
        s.onlyEntries u [Obj.ORB_PAIR_LATENCY p, Obj.ORB_PAIR_LINE_WORST p, Obj.LNK_PAIR_STATUS p, Obj.LNK_STATUS, Obj.ORB_STATUS, Obj.LAN_STATUS (2 * p), Obj.LAN_STATUS (2 * p + 1), Obj.LAN_LAST_EVENT (2 * p), Obj.LAN_LAST_EVENT (2 * p + 1)] ∧
        u = { s.land t with objs := u.objs, lnk := u.lnk, icu := u.icu, out := u.out, freeCtr := u.freeCtr }) ∧
    (s.devState = stLinkup → s.stepDone p 6 = true → s.stepDone p 7 = false → p < 24 → s.stepped = true → (s.pair p).map (·.align) = some [] → 
      ∃ u, exec (.alignmentDone t p) s = .next (State.settle (s.land t) u) ∧
        u.bit (Obj.LNK_PAIR_STATUS p) 1 = true ∧
        u.stepDone p 7 = true ∧
        s.onlyEntries u [Obj.LNK_PAIR_STATUS p, Obj.LNK_STATUS] ∧
        u = { s.land t with objs := u.objs, lnk := u.lnk, icu := u.icu, out := u.out }) ∧
    (∀ (pos desc value : Nat) (q : Pair), s.valvePair p = true → s.pair p = some q → recordKey 6 pos desc ∉ q.recordsFailed → 
      ∃ u, exec (.mgmtRecordReturn t p 6 pos desc 0 value) s = .next (State.settle (s.land t) u) ∧
        ((u.pair p).map (fun q => (q.recordsFailed, decide (recordKey 6 pos desc ∈ q.recordsDone))) = some (q.recordsFailed, true)) ∧
        s.onlyEntries u [] ∧
        u = { s.land t with objs := u.objs, lnk := u.lnk }) ∧
    (∀ (purpose pos desc result value : Nat) (q : Pair), s.valvePair p = true → purpose ≤ 6 → result ≠ 0 → s.pair p = some q → recordKey purpose pos desc ∉ q.recordsFailed → 
      ∃ u, exec (.mgmtRecordReturn t p purpose pos desc result value) s = .next (State.settle (s.land t) u) ∧
        (u.pair p).map (·.recordsFailed) = some (recordKey purpose pos desc :: q.recordsFailed) ∧
        u.out = [.record 2 [p, purpose, pos, desc]] ∧
        s.onlyEntries u [] ∧
        u = { s.land t with objs := u.objs, lnk := u.lnk, out := u.out }) ∧
    (∀ (pos desc result value : Nat) (q : Pair), s.valvePair p = true → result ≠ 0 → s.pair p = some q → recordKey 6 pos desc ∈ q.recordsFailed → 
      ∃ u, exec (.mgmtRecordReturn t p 6 pos desc result value) s = .next (State.settle (s.land t) u) ∧
        u.get Obj.LNK_MGMT_FAIL = min (s.get Obj.LNK_MGMT_FAIL + 1) 0xFFFFFFFF ∧
        u.sourcePending 104 ∧
        ((u.pair p).map (fun q => decide (recordKey 6 pos desc ∈ q.recordsFailed)) = some false) ∧
        s.entriesBut u [Obj.LNK_MGMT_FAIL] ∧
        u = { s.land t with objs := u.objs, lnk := u.lnk, icu := u.icu, log := u.log, flash := u.flash, dict := u.dict, out := u.out }) ∧
    (
      ∃ u, exec (.urgentBlockReturned t) s = .next (State.settle (s.land t) u) ∧
        u.sourcePending 102 ∧
        s.onlyEntries u [] ∧
        u = { s.land t with objs := u.objs, icu := u.icu })

/-- Writing 1 to SWG_PARAM_HOLD holds staged tunables, and writing 0 shows none held; tracking conditions held for 20 ms outside RUN gain lock with source 199; in the limiting phase FRT_CLEAR_TIME of clear cycles begins recovery with source 212; a ride time beyond FRT_MAX_TIME raises trip cause FRT_TIMEOUT with source 216 in role ALONE or ACTIVE and has no effect in the others, and a recovery that is due wins. -/
def Obligations.HoldTrackingAndRide : Prop :=
  ∀ (s : State) (t : Nat), 
    (∀ (f : Sender), s.takesWrite t f Obj.SWG_PARAM_HOLD 1 = true → 
      ∃ u, exec (.swgParamHoldSet t f) s = .next (State.settle (s.land t) u) ∧
        u.get Obj.SWG_PARAM_HOLD = 1 ∧
        u.bit Obj.SWG_STATUS 11 = !s.dict.tunables.isEmpty ∧
        u.dict.tunables = s.dict.tunables ∧
        u.out = [Out.done] ∧
        s.onlyEntries u [Obj.SWG_PARAM_HOLD, Obj.SWG_STATUS] ∧
        u = { s.land t with objs := u.objs, dict := u.dict, out := u.out }) ∧
    (∀ (f : Sender), s.takesWrite t f Obj.SWG_PARAM_HOLD 0 = true → 
      ∃ u, exec (.swgParamHoldRelease t f) s = .next (State.settle (s.land t) u) ∧
        u.get Obj.SWG_PARAM_HOLD = 0 ∧
        u.bit Obj.SWG_STATUS 11 = false ∧
        u.dict.tunables = s.dict.tunables ∧
        u.out = [Out.done] ∧
        s.onlyEntries u [Obj.SWG_PARAM_HOLD, Obj.SWG_STATUS] ∧
        u = { s.land t with objs := u.objs, dict := u.dict, out := u.out }) ∧
    (s.devState = stLinkup ∨ s.devState = stBlocked ∨ s.devState = stTrip → 20000000 ≤ s.swg.lockFor → s.swg.locked = false → 
      ∃ u, exec (.trackLockTimer t) s = .next (State.settle (s.land t) u) ∧
        u.swg.locked = true ∧
        u.bit Obj.SWG_STATUS 1 = true ∧
        u.sourcePending 199 ∧
        s.onlyEntries u [Obj.SWG_STATUS] ∧
        u = { s.land t with objs := u.objs, swg := u.swg, icu := u.icu }) ∧
    (s.devState = stRun → s.limiting = true → s.getN Obj.FRT_CLEAR_TIME * 1000000 ≤ s.frt.core.clearFor → 
      ∃ u, exec (.frtClearTimeExpiry t) s = .next (State.settle (s.land t) u) ∧
        u.frt.core.recover = true ∧
        u.frt.core.ride = true ∧
        bitOf u.frt.status 5 = true ∧
        u.sourcePending 212 ∧
        s.onlyEntries u [] ∧
        u = { s.land t with objs := u.objs, frt := u.frt, icu := u.icu }) ∧
    (s.devState = stRun → s.limiting = true → s.frt.core.clearFor < s.getN Obj.FRT_CLEAR_TIME * 1000000 → s.getN Obj.FRT_MAX_TIME * 1000000 < s.frt.core.rideFor → s.owner = true → s.causeActive causeFrtTimeout = false → 
      ∃ u, exec (.frtMaxTimeExpiry t) s = .next (State.settle (s.land t) u) ∧
        u.causeActive causeFrtTimeout = true ∧
        u.frt = s.frt ∧
        u.sourcePending 216 ∧
        s.onlyEntries u [Obj.PRT_TRIP_ACTIVE] ∧
        u = { s.land t with objs := u.objs, prt := u.prt, icu := u.icu }) ∧
    (s.owner = false → s.limiting = false ∨ s.frt.core.clearFor < s.getN Obj.FRT_CLEAR_TIME * 1000000 → 
      ∃ u, exec (.frtMaxTimeExpiry t) s = .next (State.settle (s.land t) u) ∧
        u = s.land t) ∧
    (s.devState = stRun → s.limiting = true → s.getN Obj.FRT_CLEAR_TIME * 1000000 ≤ s.frt.core.clearFor → 
      ∃ u, exec (.frtMaxTimeExpiry t) s = .next (State.settle (s.land t) u) ∧
        u.frt.core.recover = true ∧
        u.causeActive causeFrtTimeout = s.causeActive causeFrtTimeout ∧
        u.sourcePending 212 ∧
        s.onlyEntries u [] ∧
        u = { s.land t with objs := u.objs, frt := u.frt, icu := u.icu })

/-- In an owner of RUN the end of DEAD_CHECK enters RAMP with E at 0 when the DC voltage suffices, and else raises trip cause BLK_NO_DC; the end of HOLD enters HANDOVER; a ramp pause beyond BLK_PAUSE_MAX raises BLK_RAMP_STALL, each with source 222 and each phase change with 217. BLK_SYNC_REQ starts and ends synchronisation; ready held for BLK_SYNC_DWELL raises source 219, closing held for 20 ms counts the breaker closed with 220 and ends it, and a timeout before ready ends it with 221; the offsets then fall from where they stand. -/
def Obligations.BlackStartAndSynchronisation : Prop :=
  ∀ (s : State) (t : Nat), 
    (s.devState = stRun → s.blkPhase = blkDead → s.devRole ≠ roleStandby → s.causeActive causeLiveBus = false → s.getN Obj.BLK_DEAD_TIME * 1000000 ≤ s.frt.deadFor → milli (s.get Obj.BLK_UDC_MIN) ≤ fromQ 30 s.swg.uDc → 
      ∃ u, exec (.blkDeadTimeExpiry t) s = .next (State.settle (s.land t) u) ∧
        u.blkPhase = blkRamp ∧
        u.get Obj.BLK_PHASE = blkRamp ∧
        u.frt.core.emf = 0 ∧
        u.sourcePending 217 ∧
        s.entriesBut u [Obj.BLK_PHASE] ∧
        u = { s.land t with objs := u.objs, frt := u.frt, icu := u.icu, log := u.log, flash := u.flash, dict := u.dict, out := u.out }) ∧
    (s.devState = stRun → s.blkPhase = blkDead → s.owner = true → s.causeActive causeLiveBus = false → s.causeActive causeNoDc = false → s.getN Obj.BLK_DEAD_TIME * 1000000 ≤ s.frt.deadFor → fromQ 30 s.swg.uDc < milli (s.get Obj.BLK_UDC_MIN) → 
      ∃ u, exec (.blkDeadTimeExpiry t) s = .next (State.settle (s.land t) u) ∧
        u.causeActive causeNoDc = true ∧
        u.blkPhase = blkDead ∧
        u.sourcePending 222 ∧
        s.onlyEntries u [Obj.PRT_TRIP_ACTIVE] ∧
        u = { s.land t with objs := u.objs, prt := u.prt, icu := u.icu }) ∧
    (s.devState = stRun → s.blkPhase = blkHold → s.devRole ≠ roleStandby → s.getN Obj.BLK_HOLD_TIME * 1000000 ≤ s.frt.holdFor → 
      ∃ u, exec (.blkHoldTimeExpiry t) s = .next (State.settle (s.land t) u) ∧
        u.blkPhase = blkHand ∧
        u.get Obj.BLK_PHASE = blkHand ∧
        u.swg.handStart = true ∧
        u.sourcePending 217 ∧
        s.entriesBut u [Obj.BLK_PHASE] ∧
        u = { s.land t with objs := u.objs, frt := u.frt, swg := u.swg, icu := u.icu, log := u.log, flash := u.flash, dict := u.dict, out := u.out }) ∧
    (s.devState = stRun → s.blkPhase = blkRamp → s.owner = true → s.causeActive causeRampStall = false → s.getN Obj.BLK_PAUSE_MAX * 1000000 < s.frt.pauseFor → 
      ∃ u, exec (.blkPauseMaxExpiry t) s = .next (State.settle (s.land t) u) ∧
        u.causeActive causeRampStall = true ∧
        u.sourcePending 222 ∧
        s.onlyEntries u [Obj.PRT_TRIP_ACTIVE] ∧
        u = { s.land t with objs := u.objs, prt := u.prt, icu := u.icu }) ∧
    (∀ (f : Sender), s.takesWrite t f Obj.BLK_SYNC_REQ 1 = true → 
      ∃ u, exec (.blkSyncStart t f) s = .next (State.settle (s.land t) u) ∧
        u.syncOn = true ∧
        u.bit Obj.BLK_STATUS 1 = true ∧
        u.bit Obj.BLK_STATUS 2 = false ∧
        u.frt.readySeen = false ∧
        u.frt.syncFor = 0 ∧
        u.frt.release = none ∧
        u.out = [Out.done] ∧
        s.onlyEntries u [Obj.BLK_SYNC_REQ, Obj.BLK_STATUS] ∧
        u = { s.land t with objs := u.objs, frt := u.frt, dict := u.dict, out := u.out }) ∧
    (∀ (f : Sender), s.takesWrite t f Obj.BLK_SYNC_REQ 0 = true → s.syncOn = true → 
      ∃ u, exec (.blkSyncStop t f) s = .next (State.settle (s.land t) u) ∧
        u.syncOn = false ∧
        u.frt.release = some (s.frt.wOff, s.frt.vOff) ∧
        u.bit Obj.BLK_STATUS 2 = false ∧
        u.out = [Out.done] ∧
        s.onlyEntries u [Obj.BLK_SYNC_REQ, Obj.BLK_STATUS] ∧
        u = { s.land t with objs := u.objs, frt := u.frt, dict := u.dict, out := u.out }) ∧
    (s.syncOn = true → s.bit Obj.BLK_STATUS 2 = false → s.getN Obj.BLK_SYNC_DWELL * 1000000 ≤ s.frt.readyFor → 
      ∃ u, exec (.blkSyncDwellExpiry t) s = .next (State.settle (s.land t) u) ∧
        u.bit Obj.BLK_STATUS 2 = true ∧
        u.frt.readySeen = true ∧
        u.sourcePending 219 ∧
        s.onlyEntries u [Obj.BLK_STATUS] ∧
        u = { s.land t with objs := u.objs, frt := u.frt, icu := u.icu }) ∧
    (s.syncOn = true → s.frt.readySeen = true → 20000000 ≤ s.frt.closeFor → 
      ∃ u, exec (.blkSyncCloseConfirm t) s = .next (State.settle (s.land t) u) ∧
        u.syncOn = false ∧
        u.bit Obj.BLK_STATUS 3 = true ∧
        u.frt.release = some (s.frt.wOff, s.frt.vOff) ∧
        u.sourcePending 220 ∧
        s.onlyEntries u [Obj.BLK_SYNC_REQ, Obj.BLK_STATUS] ∧
        u = { s.land t with objs := u.objs, frt := u.frt, icu := u.icu }) ∧
    (s.syncOn = true → s.frt.readySeen = false → s.getN Obj.BLK_SYNC_TIMEOUT * 1000000000 ≤ s.frt.syncFor → 
      ∃ u, exec (.blkSyncTimeout t) s = .next (State.settle (s.land t) u) ∧
        u.syncOn = false ∧
        u.bit Obj.BLK_STATUS 4 = true ∧
        u.frt.release = some (s.frt.wOff, s.frt.vOff) ∧
        u.sourcePending 221 ∧
        s.onlyEntries u [Obj.BLK_SYNC_REQ, Obj.BLK_STATUS] ∧
        u = { s.land t with objs := u.objs, frt := u.frt, icu := u.icu })

/-- Outside RESET: the loss of REF25 takes LOCKED, and ACQUIRING once it has been LOCKED, to HOLDOVER with the count of holdovers and source 480, and ACQUIRING that was never LOCKED to FREE; a qualified REF25 takes FREE and HOLDOVER to ACQUIRING, HOLDOVER with its duration recorded and source 481; the lock takes ACQUIRING to LOCKED; the return of the crystal takes NO_CLOCK to FREE. Nothing else changes but the logbook where the event is logged. -/
def Obligations.ReferencesSteerTheDpll : Prop :=
  ∀ (s : State) (t : Nat), s.devState ≠ stReset → 
    (s.dpll = 2 ∨ (s.dpll = 1 ∧ s.clk.wasLocked = true) → 
      ∃ u, exec (.ref25Lost t) s = .next (State.settle (s.land t) u) ∧
        u.dpll = 3 ∧
        u.bit Obj.CLK_STATUS 8 = false ∧
        u.bit Obj.CLK_STATUS 6 = false ∧
        u.get Obj.CLK_HOLDOVER_COUNT = min (s.get Obj.CLK_HOLDOVER_COUNT + 1) 0xFFFFFFFF ∧
        u.clk = { s.clk with holdSince := some (max s.now t) } ∧
        u.sourcePending 480 ∧
        s.entriesBut u [Obj.CLK_DPLL_STATE, Obj.CLK_STATUS, Obj.CLK_HOLDOVER_COUNT] ∧
        u = { s.land t with objs := u.objs, clk := u.clk, icu := u.icu, log := u.log, flash := u.flash, dict := u.dict, out := u.out }) ∧
    (s.dpll = 1 → s.clk.wasLocked = false → 
      ∃ u, exec (.ref25Lost t) s = .next (State.settle (s.land t) u) ∧
        u.dpll = 0 ∧
        u.bit Obj.CLK_STATUS 8 = false ∧
        u.bit Obj.CLK_STATUS 6 = false ∧
        s.onlyEntries u [Obj.CLK_DPLL_STATE, Obj.CLK_STATUS] ∧
        u = { s.land t with objs := u.objs, clk := u.clk }) ∧
    (s.dpll = 0 → 
      ∃ u, exec (.ref25Qualified t) s = .next (State.settle (s.land t) u) ∧
        u.dpll = 1 ∧
        u.bit Obj.CLK_STATUS 8 = true ∧
        u.bit Obj.CLK_STATUS 6 = false ∧
        s.onlyEntries u [Obj.CLK_DPLL_STATE, Obj.CLK_STATUS] ∧
        u = { s.land t with objs := u.objs }) ∧
    (s.dpll = 3 → 
      ∃ u, exec (.ref25Qualified t) s = .next (State.settle (s.land t) u) ∧
        u.dpll = 1 ∧
        u.bit Obj.CLK_STATUS 8 = true ∧
        u.clk.holdSince = none ∧
        u.get Obj.CLK_HOLDOVER_TIME = (s.land t).holdoverSeconds ∧
        u.sourcePending 481 ∧
        s.entriesBut u [Obj.CLK_DPLL_STATE, Obj.CLK_STATUS, Obj.CLK_HOLDOVER_TIME] ∧
        u = { s.land t with objs := u.objs, clk := u.clk, icu := u.icu, log := u.log, flash := u.flash, dict := u.dict, out := u.out }) ∧
    (s.dpll = 1 → 
      ∃ u, exec (.dpllLock t) s = .next (State.settle (s.land t) u) ∧
        u.dpll = 2 ∧
        u.bit Obj.CLK_STATUS 6 = true ∧
        u.clk = { s.clk with wasLocked := true } ∧
        s.onlyEntries u [Obj.CLK_DPLL_STATE, Obj.CLK_STATUS] ∧
        u = { s.land t with objs := u.objs, clk := u.clk }) ∧
    (s.dpll = 4 → 
      ∃ u, exec (.crystalRestored t) s = .next (State.settle (s.land t) u) ∧
        u.dpll = 0 ∧
        u.bit Obj.CLK_STATUS 7 = false ∧
        u.clk = { s.clk with wasLocked := false } ∧
        s.onlyEntries u [Obj.CLK_DPLL_STATE, Obj.CLK_STATUS] ∧
        u = { s.land t with objs := u.objs, clk := u.clk })

/-- Outside RESET: the loss of the crystal sets XO_LOST, takes the DPLL to NO_CLOCK and leaves no analog PLL driving its domain; the loss of REF156 switches every quad PLL to the fallback, and its return back, each time with source 483; a BYP200 measurement is shown, with BYP200_FAULT where it lies outside 170 to 230 MHz; a crossing that discards a unit is counted, raised and logged. -/
def Obligations.LossesOfReferenceAndBypass : Prop :=
  ∀ (s : State) (t : Nat), s.devState ≠ stReset → 
    (s.bit Obj.CLK_STATUS 7 = false → 
      ∃ u, exec (.xoLost t) s = .next (State.settle (s.land t) u) ∧
        u.dpll = 4 ∧
        u.bit Obj.CLK_STATUS 7 = true ∧
        (∀ p ∈ List.range 6, u.pllDrives p = false)) ∧
    (s.bit Obj.CLK_STATUS 9 = false → 
      ∃ u, exec (.ref156Lost t) s = .next (State.settle (s.land t) u) ∧
        u.bit Obj.CLK_STATUS 9 = true ∧
        (∀ q ∈ List.range 13, u.bit (Obj.CLK_QUAD_STATUS q) 1 = true) ∧
        u.sourcePending 483 ∧
        s.entriesBut u (Obj.CLK_STATUS :: (List.range 13).map Obj.CLK_QUAD_STATUS) ∧
        u = { s.land t with objs := u.objs, icu := u.icu, log := u.log, flash := u.flash, dict := u.dict, out := u.out }) ∧
    (s.bit Obj.CLK_STATUS 9 = true → 
      ∃ u, exec (.ref156Requalified t) s = .next (State.settle (s.land t) u) ∧
        u.bit Obj.CLK_STATUS 9 = false ∧
        (∀ q ∈ List.range 13, u.bit (Obj.CLK_QUAD_STATUS q) 1 = false) ∧
        u.sourcePending 483 ∧
        s.entriesBut u (Obj.CLK_STATUS :: (List.range 13).map Obj.CLK_QUAD_STATUS) ∧
        u = { s.land t with objs := u.objs, icu := u.icu, log := u.log, flash := u.flash, dict := u.dict, out := u.out }) ∧
    (∀ (khz : Nat), 
      ∃ u, exec (.byp200Check t khz) s = .next (State.settle (s.land t) u) ∧
        u.get Obj.CLK_BYP200_FREQ = khz ∧
        (u.bit Obj.CLK_STATUS 10 = decide (khz < 170000 ∨ 230000 < khz)) ∧
        (s.bit Obj.CLK_STATUS 10 = false → (khz < 170000 ∨ 230000 < khz) → u.sourcePending 489) ∧
        s.onlyEntries u [Obj.CLK_BYP200_FREQ, Obj.CLK_STATUS] ∧
        u = { s.land t with objs := u.objs, icu := u.icu }) ∧
    (∀ (subject : Nat), 
      ∃ u, exec (.crossingFault t subject) s = .next (State.settle (s.land t) u) ∧
        u.get Obj.CLK_CDC_FAULT_COUNT = min (s.get Obj.CLK_CDC_FAULT_COUNT + 1) 0xFFFFFFFF ∧
        u.sourcePending 488 ∧
        s.entriesBut u [Obj.CLK_CDC_FAULT_COUNT] ∧
        u = { s.land t with objs := u.objs, icu := u.icu, log := u.log, flash := u.flash, dict := u.dict, out := u.out })

/-- Outside RESET: an analog PLL that loses lock is counted, raises source 484 and is put on BYP200 while it relocks, and the time PLL takes the carrier PLL with it where that was locked; the end of a relock lets it drive its domain again unless BYPASS holds it; 500 us without lock make the failure lasting, counted with source 486, and during a wake take the device to RESET. A quad PLL that loses lock is counted with source 487; its relock and its lasting failure raise 485 and 486. -/
def Obligations.PllsLockAndLoseLock : Prop :=
  ∀ (s : State) (t : Nat), s.devState ≠ stReset → 
    (∀ (p : Nat), p < 6 → p ≠ 2 → s.bit (Obj.CLK_PLL_STATUS p) 0 = true → 
      ∃ u, exec (.pllLockLoss t p) s = .next (State.settle (s.land t) u) ∧
        u.pllDrives p = false ∧
        u.pllBusy p = true ∧
        u.get (Obj.CLK_PLL_LOSS_COUNT p) = min (s.get (Obj.CLK_PLL_LOSS_COUNT p) + 1) 0xFFFFFFFF ∧
        u.sourcePending 484) ∧
    (s.bit (Obj.CLK_PLL_STATUS 2) 0 = true → s.bit (Obj.CLK_PLL_STATUS 3) 0 = true → 
      ∃ u, exec (.pllLockLoss t 2) s = .next (State.settle (s.land t) u) ∧
        u.pllDrives 2 = false ∧
        u.pllBusy 2 = true ∧
        u.pllDrives 3 = false ∧
        u.pllBusy 3 = true) ∧
    (∀ (p : Nat), p < 6 → s.pllBusy p = true → s.bit (Obj.CLK_PLL_STATUS p) 4 = false → s.bit (Obj.CLK_PLL_CTRL p) 2 = false → 
      ∃ u, exec (.pllRelockDone t p) s = .next (State.settle (s.land t) u) ∧
        u.pllDrives p = true ∧
        u.pllBusy p = false ∧
        u.bit Obj.CLK_STATUS p = true ∧
        s.entriesBut u [Obj.CLK_PLL_STATUS p, Obj.CLK_STATUS, Obj.PRT_STATUS, Obj.CLK_PLL_RELOCK_TRANSIENT p] ∧
        u = { s.land t with objs := u.objs, clk := u.clk, icu := u.icu, log := u.log, flash := u.flash, dict := u.dict, out := u.out }) ∧
    (∀ (p : Nat), p < 6 → s.clk.sleep ≠ 4 → s.pllBusy p = true → 
      ∃ u, exec (.pllRelockTimeout t p) s = .next (State.settle (s.land t) u) ∧
        u.pllDrives p = false ∧
        u.pllBusy p = false ∧
        u.bit (Obj.CLK_PLL_STATUS p) 3 = true ∧
        u.get (Obj.CLK_PLL_LASTING p) = min (s.get (Obj.CLK_PLL_LASTING p) + 1) 0xFFFFFFFF ∧
        u.sourcePending 486 ∧
        s.entriesBut u [Obj.CLK_PLL_STATUS p, Obj.CLK_PLL_LASTING p] ∧
        u = { s.land t with objs := u.objs, clk := u.clk, icu := u.icu, log := u.log, flash := u.flash, dict := u.dict, out := u.out }) ∧
    (∀ (p : Nat), p < 6 → s.clk.sleep = 4 → s.pllBusy p = true → 
      ∃ u, exec (.pllRelockTimeout t p) s = .next (State.settle (s.land t) u) ∧
        u.devState = stBoot ∧
        u.aon.cause = 0x0204) ∧
    (∀ (q : Nat), q < 13 → s.bit (Obj.CLK_QUAD_STATUS q) 0 = true → 
      ∃ u, exec (.quadPllLockLoss t q) s = .next (State.settle (s.land t) u) ∧
        u.bit (Obj.CLK_QUAD_STATUS q) 0 = false ∧
        u.get (Obj.CLK_QUAD_LOSS_COUNT q) = min (s.get (Obj.CLK_QUAD_LOSS_COUNT q) + 1) 0xFFFFFFFF ∧
        u.sourcePending 487) ∧
    (∀ (q : Nat), q < 13 → s.clk.quadRelock.getD q false = true → 
      ∃ u, exec (.pllRelockDone t (6 + q)) s = .next (State.settle (s.land t) u) ∧
        u.bit (Obj.CLK_QUAD_STATUS q) 0 = true ∧
        u.sourcePending 485 ∧
        s.entriesBut u [Obj.CLK_QUAD_STATUS q] ∧
        u = { s.land t with objs := u.objs, clk := u.clk, icu := u.icu, log := u.log, flash := u.flash, dict := u.dict, out := u.out }) ∧
    (∀ (q : Nat), q < 13 → s.clk.quadRelock.getD q false = true → 
      ∃ u, exec (.pllRelockTimeout t (6 + q)) s = .next (State.settle (s.land t) u) ∧
        u.clk.quadRelock.getD q false = false ∧
        u.sourcePending 486 ∧
        s.entriesBut u [] ∧
        u = { s.land t with objs := u.objs, clk := u.clk, icu := u.icu, log := u.log, flash := u.flash, dict := u.dict, out := u.out })

/-- An accepted write of CLK_PLL_CTRL that changes it holds the value and puts the PLL through bypass, the time PLL taking the carrier PLL with it; one of CLK_PLL_RELOCK starts every lasting PLL that it names; PWR_EXTREMES_CLEAR restarts the extremes; PWR_SLEEP_REQ accepts the request, with source 492, empty wake latches and cause. Each is answered. -/
def Obligations.ClockAndPowerWrites : Prop :=
  ∀ (s : State) (t : Nat) (f : Sender), 
    (∀ (p v : Nat), p < 6 → v < 65536 → v / 8 % 2 = 0 → s.getN (Obj.CLK_PLL_CTRL p) ≠ v → s.takesWrite t f (Obj.CLK_PLL_CTRL p) v = true → 
      ∃ u, exec (.clkPllCtrlChange t f p v) s = .next (State.settle (s.land t) u) ∧
        u.getN (Obj.CLK_PLL_CTRL p) = v ∧
        u.pllBusy p = true ∧
        u.pllDrives p = false ∧
        (p = 2 → u.pllBusy 3 = true) ∧
        Out.done ∈ u.out) ∧
    (∀ (mask : Nat), mask < 64 → s.takesWrite t f Obj.CLK_PLL_RELOCK mask = true → 
      ∃ u, exec (.clkPllRelock t f mask) s = .next (State.settle (s.land t) u) ∧
        (∀ p ∈ List.range 6, bitOf mask p = true → s.bit (Obj.CLK_PLL_STATUS p) 3 = true → u.pllBusy p = true ∧ u.bit (Obj.CLK_PLL_STATUS p) 3 = false) ∧
        Out.done ∈ u.out) ∧
    (s.takesWrite t f Obj.PWR_EXTREMES_CLEAR 1 = true → 
      ∃ u, exec (.pwrExtremesClear t f) s = .next (State.settle (s.land t) u) ∧
        (∀ i ∈ List.range 9, u.get (Obj.PWR_RAIL_HIGH i) = 0 ∧ u.get (Obj.PWR_RAIL_LOW i) = 0xFFFF) ∧
        u.get Obj.PWR_TJ_HIGH = -32768 ∧
        u.get Obj.PWR_TJ_LOW = 32767 ∧
        u.out = [.done] ∧
        s.onlyEntries u ([Obj.PWR_TJ_HIGH, Obj.PWR_TJ_LOW] ++ (List.range 9).map Obj.PWR_RAIL_HIGH ++ (List.range 9).map Obj.PWR_RAIL_LOW) ∧
        u = { s.land t with objs := u.objs, dict := u.dict, out := u.out }) ∧
    (s.takesWrite t f Obj.PWR_SLEEP_REQ 1 = true → 
      ∃ u, exec (.pwrSleepReq t f) s = .next (State.settle (s.land t) u) ∧
        u.get Obj.PWR_SLEEP_STATUS = 1 ∧
        u.get Obj.PWR_WAKE_CAUSE = 0 ∧
        u.bit Obj.PWR_STATUS 3 = true ∧
        u.clk.sleep = 1 ∧
        u.aon.wakeLatch = 0 ∧
        Out.done ∈ u.out ∧
        u.sourcePending 492 ∧
        s.entriesBut u [Obj.PWR_SLEEP_STATUS, Obj.PWR_WAKE_CAUSE, Obj.PWR_STATUS] ∧
        u = { s.land t with objs := u.objs, clk := u.clk, aon := u.aon, icu := u.icu, log := u.log, flash := u.flash, dict := u.dict, out := u.out })

/-- A latched wake at the commit point aborts the sleep with the latches as the cause; else the commit point is passed with the Orbit sequencer stopped. The grace ends a request that is not ready with the status TIMEOUT. Past the commit point the device enters LUNAR; an enabled wake source is latched before the commit point and starts the wake in LUNAR, as does the wake timer; the wake ends in LINKUP for a device that slept from BLOCKED and else in CONFIG. The rails and the temperature are shown with their extremes; a retrained DRAM is available to Comet again. -/
def Obligations.SleepAndWake : Prop :=
  ∀ (s : State) (t : Nat), 
    (s.clk.sleep = 1 → s.aon.wakeLatch ≠ 0 → 
      ∃ u, exec (.sleepFirmwareReady t) s = .next (State.settle (s.land t) u) ∧
        u.clk.sleep = 0 ∧
        u.get Obj.PWR_SLEEP_STATUS = 3 ∧
        u.get Obj.PWR_WAKE_CAUSE = s.aon.wakeLatch ∧
        u.get Obj.PWR_SLEEP_ABORT_COUNT = min (s.get Obj.PWR_SLEEP_ABORT_COUNT + 1) 0xFFFFFFFF ∧
        u.sourcePending 493 ∧
        s.entriesBut u [Obj.PWR_SLEEP_STATUS, Obj.PWR_WAKE_CAUSE, Obj.PWR_STATUS, Obj.PWR_SLEEP_ABORT_COUNT] ∧
        u = { s.land t with objs := u.objs, clk := u.clk, icu := u.icu, log := u.log, flash := u.flash, dict := u.dict, out := u.out }) ∧
    (s.clk.sleep = 1 → s.aon.wakeLatch = 0 → 
      ∃ u, exec (.sleepFirmwareReady t) s = .next (State.settle (s.land t) u) ∧
        u.clk.sleep = 2 ∧
        u.clk.commitAt = max s.now t ∧
        u.bit Obj.PWR_STATUS 3 = false ∧
        (∀ p ∈ List.range 6, u.pllDrives p = false) ∧
        u.orbRunning = false) ∧
    (s.clk.sleep = 1 → s.aon.wakeLatch = 0 → 
      ∃ u, exec (.sleepGraceExpiry t) s = .next (State.settle (s.land t) u) ∧
        u.clk.sleep = 0 ∧
        u.get Obj.PWR_SLEEP_STATUS = 4 ∧
        u.bit Obj.PWR_STATUS 3 = false ∧
        u.sourcePending 493 ∧
        s.onlyEntries u [Obj.PWR_SLEEP_STATUS, Obj.PWR_STATUS] ∧
        u = { s.land t with objs := u.objs, clk := u.clk, icu := u.icu }) ∧
    (s.clk.sleep = 2 → s.clk.wakeDue = false → s.devState ≠ stLunar → 
      ∃ u, exec (.lunarEntryDone t) s = .next (State.settle (s.land t) u) ∧
        u.devState = stLunar ∧
        u.clk.sleep = 3 ∧
        u.clk.lunarAt = max s.now t ∧
        u.get Obj.PWR_LUNAR_COUNT = min (s.get Obj.PWR_LUNAR_COUNT + 1) 0xFFFFFFFF) ∧
    (∀ (src : Nat), src < 8 → s.clk.sleep = 1 → bitOf s.wakeEnabled src = true → 
      ∃ u, exec (.wakeEvent t src) s = .next (State.settle (s.land t) u) ∧
        u.aon.wakeLatch = withBit s.aon.wakeLatch src true ∧
        s.onlyEntries u [] ∧
        u = { s.land t with objs := u.objs, aon := u.aon }) ∧
    (∀ (src : Nat), src < 8 → s.clk.sleep = 3 → bitOf s.wakeEnabled src = true → 
      ∃ u, exec (.wakeEvent t src) s = .next (State.settle (s.land t) u) ∧
        u.clk.sleep = 4 ∧
        u.clk.wakeAt = max s.now t ∧
        u.bit Obj.PWR_WAKE_CAUSE src = true ∧
        (∀ p ∈ List.range 6, u.pllBusy p = true)) ∧
    (s.clk.sleep = 3 → bitOf s.wakeEnabled 6 = true → s.clk.commitAt + s.getN Obj.PWR_WAKE_TIMER * 1000000000 ≤ max s.now t → 
      ∃ u, exec (.wakeTimerExpiry t) s = .next (State.settle (s.land t) u) ∧
        u.clk.sleep = 4 ∧
        u.bit Obj.PWR_WAKE_CAUSE 6 = true) ∧
    (s.clk.sleep = 4 → s.devState = stLunar → 
      ∃ u, exec (.wakeComplete t) s = .next (State.settle (s.land t) u) ∧
        (u.devState = (if s.clk.fromBlocked then stLinkup else stConfig)) ∧
        u.clk.sleep = 0 ∧
        u.get Obj.PWR_SLEEP_STATUS = 2) ∧
    (∀ (mv : List Nat) (tj : Int) (current : Nat), s.devState ≠ stReset → mv.length = 9 → -32768 ≤ tj ∧ tj ≤ 32767 → 
      ∃ u, exec (.railMonitorSample t mv tj current) s = .next (State.settle (s.land t) u) ∧
        (∀ i ∈ List.range 9, u.get (Obj.PWR_RAIL_MV i) = mv.getD i 0) ∧
        u.get Obj.PWR_TJ = tj ∧
        u.get Obj.PWR_TJ_HIGH = max (s.get Obj.PWR_TJ_HIGH) tj ∧
        u.get Obj.PWR_TJ_LOW = min (s.get Obj.PWR_TJ_LOW) tj ∧
        (u.bit Obj.PWR_STATUS 2 = decide (tj < -400 ∨ 1100 < tj))) ∧
    (s.pllDrives 5 = true → 
      ∃ u, exec (.dramRetrainDone t) s = .next (State.settle (s.land t) u) ∧
        u.cmt = { s.cmt with dram := true, spilled := s.cmt.written } ∧
        s.onlyEntries u [] ∧
        u = { s.land t with objs := u.objs, cmt := u.cmt })

/-- A fast sample takes R captured bits through the CIC of order N, scaled to full scale in 2^-30, into the FIR, with the credited time of its last bit; a median after the CIC takes its place where it stands there. A main sample is the FIR over its line, the median over it where that stands there, scaled and less the offset, stamped with the credited time less the delay; it is beyond the range where |y| reaches the limit in use (MEA_OVR_LIM as its detectors last took it), and the channel is valid exactly where no cause of Table 7.6 holds. The end of settling clears SETTLING and MEM_FAULT; an accepted MEA_PEAK_CLEAR marks the channels of its bits and no other. -/
def Obligations.SamplesOfTheChain : Prop :=
  ∀ (s : State) (t : Nat), 
    (∀ (k : Nat) (c : MeaChannel) (bits : List Bool) (last : Nat) (x : Int), s.meaOn = true → k < 32 → s.meaEnabled k = true → s.bit (Obj.MEA_CLK_STATUS (s.meaGroup k)) 1 = false → s.grpOn (s.meaGroup k) = true → s.mea.channels[k]? = some c → bits.length = s.meaR k → roundAway (((2 * (cicRun (s.meaN k) c (if s.bit (Obj.MEA_CH_CTRL k) 4 then bits.map (!·) else bits)).1 - (((s.meaR k) ^ (s.meaN k) : Nat) : Int) : Int) : Rat) * 1073741824 / ((((s.meaR k) ^ (s.meaN k) : Nat) : Int) : Rat)) = x → 
      ∃ u, exec (.meaFastSample t k bits last) s = .next (State.settle (s.land t) u) ∧
        ((u.mea.channels[k]?).map (fun m => (m.firNew, m.last, m.fir.head?)) = some (c.firNew + 1, last % 2 ^ 36, some (if s.meaLmc k = 0 then x else medianOf (s.meaLmc k) ((x :: c.med1).take (s.meaLmc k))))) ∧
        (∀ j, j ≠ k → u.mea.channels[j]? = s.mea.channels[j]?) ∧
        s.otherIndices u [0x2700, 0x2719, 0x271A, 0x271B, 0x2720, 0x2F00] ∧
        u = { s.land t with objs := u.objs, mea := u.mea, prt := u.prt, icu := u.icu, cmt := u.cmt }) ∧
    (∀ (k : Nat) (c : MeaChannel) (y : Int), s.meaOn = true → k < 32 → s.meaEnabled k = true → s.bit (Obj.MEA_CLK_STATUS (s.meaGroup k)) 1 = false → s.grpOn (s.meaGroup k) = true → s.mea.channels[k]? = some c → s.meaD k ≤ c.firNew → meaScale (if s.meaLmf k = 0 then firOut (s.meaTaps (s.meaBank k) (s.meaL k)) c.fir else medianOf (s.meaLmf k) ((firOut (s.meaTaps (s.meaBank k) (s.meaL k)) c.fir :: c.med2).take (s.meaLmf k))) (s.get (Obj.MEA_OFFSET k)) = y → 
      ∃ u, exec (.meaMainSample t k) s = .next (State.settle (s.land t) u) ∧
        ((u.mea.channels[k]?).map (fun m => (m.firNew, m.count, m.stream.head?.map (fun x => (x.value, x.stamp, x.avail)))) = some (0, c.count + 1, some (y, stampOf c.last (s.meaMainNs k), (s.land t).now))) ∧
        u.bit (Obj.MEA_CH_STATUS k) 4 = decide (c.ovrLim * 8388608 ≤ 1000 * absInt y) ∧
        u.bit (Obj.MEA_CH_STATUS k) 0 = decide (u.meaCauses k = 0) ∧
        s.otherIndices u [0x2600, 0x261D, 0x262A, 0x262B, 0x2719, 0x2800, 0x2F00] ∧
        u = { s.land t with objs := u.objs, mea := u.mea, age := u.age, prt := u.prt, cmt := u.cmt, freeCtr := u.freeCtr, icu := u.icu, log := u.log, flash := u.flash, dict := u.dict, out := u.out }) ∧
    (∀ (k : Nat) (c : MeaChannel) (e : Nat), k < 32 → s.mea.channels[k]? = some c → c.settleEnd = some e → e ≤ (s.land t).now → 
      ∃ u, exec (.meaSettleEnd t k) s = .next (State.settle (s.land t) u) ∧
        u.bit (Obj.MEA_CH_STATUS k) 1 = false ∧
        u.bit (Obj.MEA_CH_STATUS k) 6 = false ∧
        (u.mea.channels[k]?).map (·.settleEnd) = some none ∧
        s.onlyEntries u [Obj.MEA_CH_STATUS k] ∧
        u = { s.land t with objs := u.objs, mea := u.mea }) ∧
    (∀ (f : Sender) (bits : Nat), s.takesWrite t f Obj.MEA_PEAK_CLEAR bits = true → bits < 2 ^ 32 → 
      ∃ u, exec (.meaPeakClear t f bits) s = .next (State.settle (s.land t) u) ∧
        (∀ k ∈ List.range 32, bitOf bits k = true → (u.mea.channels[k]?).map (·.peakClear) = (s.mea.channels[k]?).map fun _ => true) ∧
        (∀ k ∈ List.range 32, bitOf bits k = false → u.mea.channels[k]? = s.mea.channels[k]?) ∧
        u.out = [Out.done] ∧
        s.onlyEntries u [] ∧
        u = { s.land t with objs := u.objs, mea := u.mea, dict := u.dict, out := u.out })

/-- While the chain runs: an accepted clock without edges is lost, its channels with it, counted with source 292 + g; its edges returning end the loss and the channels settle; the end of a window gives the frequency and judges the range of 10.00 to 25.00 MHz with source 296; 64 equal captures on a channel that watches for them make it stuck, counted with source 291, and a change of value restarts it; a parity or delay-line error restarts the channel with source 299; the first uncorrectable error of a bank reloads it from the image, an error of the reloaded bank is a lasting fault with source 300, and a clean check ends the watch; a corrected error counts with source 298. -/
def Obligations.FaultsOfTheChain : Prop :=
  ∀ (s : State) (t : Nat), 
    (∀ (g : Nat), g < 4 → s.meaOn = true → s.grpOn g = true → s.grpSourced g = false → s.bit (Obj.MEA_CLK_STATUS g) 1 = false → 
      ∃ u, exec (.sdmClkLost t g) s = .next (State.settle (s.land t) u) ∧
        u.get (Obj.MEA_CLK_STATUS g) = 2 ∧
        u.get (Obj.MEA_CLK_FREQ g) = 0 ∧
        u.get (Obj.MEA_CLK_LOST_COUNT g) = min (s.get (Obj.MEA_CLK_LOST_COUNT g) + 1) 0xFFFFFFFF ∧
        (∀ k ∈ List.range 32, s.meaEnabled k = true → s.meaGroup k = g → u.bit (Obj.MEA_CH_STATUS k) 2 = true) ∧
        u.sourcePending (292 + g) ∧
        s.otherIndices u [0x2600, 0x261D, 0x262A, 0x2719, 0x2618, 0x2619, 0x261A, 0x261B, 0x261C, 0x2648, 0x2649, 0x2710, 0x2602, 0x2603, 0x2604] ∧
        u = { s.land t with objs := u.objs, mea := u.mea, prt := u.prt, cmt := u.cmt, icu := u.icu, log := u.log, flash := u.flash, dict := u.dict, out := u.out }) ∧
    (∀ (g : Nat), g < 4 → s.meaOn = true → s.grpOn g = true → s.grpSourced g = false → s.bit (Obj.MEA_CLK_STATUS g) 1 = true → 
      ∃ u, exec (.sdmClkRestored t g) s = .next (State.settle (s.land t) u) ∧
        u.get (Obj.MEA_CLK_STATUS g) = 1 ∧
        (∀ k ∈ List.range 32, s.meaEnabled k = true → s.meaGroup k = g → s.bit (Obj.MEA_CH_STATUS k) 2 = true → u.bit (Obj.MEA_CH_STATUS k) 2 = false ∧ u.bit (Obj.MEA_CH_STATUS k) 1 = true) ∧
        s.otherIndices u [0x2600, 0x261D, 0x262A, 0x2719, 0x2603] ∧
        u = { s.land t with objs := u.objs, mea := u.mea, prt := u.prt, cmt := u.cmt, icu := u.icu, log := u.log, flash := u.flash, dict := u.dict, out := u.out }) ∧
    (∀ (g period : Nat), g < 4 → 0 < period → s.meaOn = true → s.grpOn g = true → s.grpSourced g = false → s.bit (Obj.MEA_CLK_STATUS g) 1 = false → 
      ∃ u, exec (.sdmClkWindowEnd t g period) s = .next (State.settle (s.land t) u) ∧
        u.get (Obj.MEA_CLK_FREQ g) = saturateU 32 (roundAway ((1048576000000000 : Rat) / period)) ∧
        u.bit (Obj.MEA_CLK_STATUS g) 0 = true ∧
        (u.bit (Obj.MEA_CLK_STATUS g) 2 = decide (104857600 < period ∨ period < 41943040)) ∧
        (s.bit (Obj.MEA_CLK_STATUS g) 2 = false → (104857600 < period ∨ period < 41943040) → u.sourcePending 296) ∧
        (g < s.mea.periods.length → u.mea.periods.getD g none = some period) ∧
        s.otherIndices u [0x2600, 0x261D, 0x262A, 0x2719, 0x2618, 0x2619, 0x261A, 0x261B, 0x261C, 0x2648, 0x2649, 0x2710, 0x2602, 0x2603] ∧
        u = { s.land t with objs := u.objs, mea := u.mea, prt := u.prt, cmt := u.cmt, icu := u.icu, log := u.log, flash := u.flash, dict := u.dict, out := u.out }) ∧
    (∀ (k : Nat), k < 32 → s.meaOn = true → s.meaEnabled k = true → s.bit (Obj.MEA_CH_CTRL k) 9 = true → s.bit (Obj.MEA_CH_STATUS k) 3 = false → 
      ∃ u, exec (.sdmStuckDetect t k) s = .next (State.settle (s.land t) u) ∧
        u.bit (Obj.MEA_CH_STATUS k) 3 = true ∧
        u.bit (Obj.MEA_CH_STATUS k) 0 = false ∧
        u.get (Obj.MEA_STUCK_COUNT k) = min (s.get (Obj.MEA_STUCK_COUNT k) + 1) 0xFFFFFFFF ∧
        u.sourcePending 291 ∧
        s.otherIndices u [0x2600, 0x261D, 0x262A, 0x2719, 0x262C] ∧
        u = { s.land t with objs := u.objs, prt := u.prt, cmt := u.cmt, icu := u.icu, log := u.log, flash := u.flash, dict := u.dict, out := u.out }) ∧
    (∀ (k : Nat), k < 32 → s.meaOn = true → s.meaEnabled k = true → s.bit (Obj.MEA_CH_STATUS k) 3 = true → 
      ∃ u, exec (.stuckBitstreamEnd t k) s = .next (State.settle (s.land t) u) ∧
        u.bit (Obj.MEA_CH_STATUS k) 3 = false ∧
        u.bit (Obj.MEA_CH_STATUS k) 1 = true ∧
        u.bit (Obj.MEA_CH_STATUS k) 0 = false ∧
        ((u.mea.channels[k]?).map (fun m => (m.fir, m.count)) = (s.mea.channels[k]?).map fun _ => ([], 0)) ∧
        s.otherIndices u [0x2600, 0x261D, 0x262A, 0x2719] ∧
        u = { s.land t with objs := u.objs, mea := u.mea, prt := u.prt, cmt := u.cmt, icu := u.icu, log := u.log, flash := u.flash, dict := u.dict, out := u.out }) ∧
    (∀ (index : Nat), s.meaOn = true → 
      ∃ u, exec (.meaMemoryError t .corrected index) s = .next (State.settle (s.land t) u) ∧
        u.get Obj.MEA_ECC_CORR_COUNT = min (s.get Obj.MEA_ECC_CORR_COUNT + 1) 0xFFFFFFFF ∧
        u.sourcePending 298 ∧
        s.entriesBut u [Obj.MEA_ECC_CORR_COUNT] ∧
        u = { s.land t with objs := u.objs, icu := u.icu, log := u.log, flash := u.flash, dict := u.dict, out := u.out }) ∧
    (∀ (line : Bool) (k : Nat), s.meaOn = true → k < 32 → s.meaEnabled k = true → 
      ∃ u, exec (.meaMemoryError t (if line then .delayLine else .parity) k) s = .next (State.settle (s.land t) u) ∧
        u.get Obj.MEA_PARITY_COUNT = min (s.get Obj.MEA_PARITY_COUNT + 1) 0xFFFFFFFF ∧
        u.bit (Obj.MEA_CH_STATUS k) 6 = true ∧
        u.bit (Obj.MEA_CH_STATUS k) 1 = true ∧
        u.bit (Obj.MEA_CH_STATUS k) 0 = false ∧
        u.sourcePending 299 ∧
        s.otherIndices u [0x2600, 0x261D, 0x262A, 0x2719] ∧
        u = { s.land t with objs := u.objs, mea := u.mea, prt := u.prt, cmt := u.cmt, freeCtr := u.freeCtr, icu := u.icu, log := u.log, flash := u.flash, dict := u.dict, out := u.out }) ∧
    (∀ (b : Nat), s.meaOn = true → b < 8 → bitOf s.mea.reloaded b = false → s.bit (Obj.MEA_FIR_BANK_STATUS b) 1 = false → 
      ∃ u, exec (.meaMemoryError t .bank b) s = .next (State.settle (s.land t) u) ∧
        bitOf u.mea.reloaded b = true ∧
        (∀ k ∈ s.bankUsers b, u.bit (Obj.MEA_CH_STATUS k) 6 = true) ∧
        (∀ j ∈ List.range 64, u.get (Obj.MEA_FIR_BANK b j) = (Store.find? ((s.dict.image.map fun i => i.records.map fun r => (r.1, r.2.2)).getD []) (Obj.MEA_FIR_BANK b j)).getD (Obj.resetValue (Obj.MEA_FIR_BANK b j))) ∧
        s.otherIndices u [0x2600, 0x261D, 0x262A, 0x2719, 0x2618, 0x2619, 0x261A, 0x261B, 0x261C, 0x2648, 0x2649, 0x2710, 0x2640 + b] ∧
        u = { s.land t with objs := u.objs, mea := u.mea, prt := u.prt, cmt := u.cmt, freeCtr := u.freeCtr, icu := u.icu, log := u.log, flash := u.flash, dict := u.dict, out := u.out }) ∧
    (∀ (b : Nat), s.meaOn = true → b < 8 → bitOf s.mea.reloaded b = true → 
      ∃ u, exec (.meaMemoryError t .bank b) s = .next (State.settle (s.land t) u) ∧
        bitOf u.mea.reloaded b = false ∧
        (∀ k ∈ s.bankUsers b, u.bit (Obj.MEA_CH_STATUS k) 7 = true ∧ u.bit (Obj.MEA_CH_STATUS k) 0 = false) ∧
        u.bit (Obj.MEA_FIR_BANK_STATUS b) 1 = true ∧
        u.sourcePending 300 ∧
        s.otherIndices u [0x2600, 0x261D, 0x262A, 0x2719, 0x2649] ∧
        u = { s.land t with objs := u.objs, mea := u.mea, prt := u.prt, cmt := u.cmt, freeCtr := u.freeCtr, icu := u.icu, log := u.log, flash := u.flash, dict := u.dict, out := u.out }) ∧
    (∀ (b : Nat), s.meaOn = true → bitOf s.mea.reloaded b = true → 
      ∃ u, exec (.meaMemoryError t .bankClean b) s = .next (State.settle (s.land t) u) ∧
        u.mea = { s.mea with reloaded := withBit s.mea.reloaded b false } ∧
        s.entriesBut u [] ∧
        u = { s.land t with objs := u.objs, mea := u.mea, icu := u.icu, log := u.log, flash := u.flash, dict := u.dict, out := u.out })

/-- A chopper whose pins it drives goes from pre-charge to slope to hold while its demand stands, a slope of length 0 skipped; in hold without demand and past its minimum on time it turns off with source 324; at rest with demand and past its minimum off time it turns on with source 323. PRT_BLIND_MAX of an invalid pole makes the trip cause PRT_DC_BLIND active and ends the comparator demands behind it. FORCE raises source 329. An accepted PRT_OV_PEAK_CLEAR clears the three peaks. -/
def Obligations.ChoppersAndPeaks : Prop :=
  ∀ (s : State) (t : Nat), 
    (∀ (k : Nat) (c : Chopper) (n : Nat), k < 4 → s.prt.choppers[k]? = some c → c.driven = true → c.phase = 1 → c.phaseEnd ≤ 128 * (s.land t).now + 127 → s.dchDemand k c = true → s.dchCounts (s.getN (Obj.PRT_DCH_SLOPE k)) = n → 
      ∃ u, exec (.dchPhaseEnd t k) s = .next (State.settle (s.land t) u) ∧
        ((u.prt.choppers[k]?).map (fun x => (x.phase, x.phaseEnd)) = some (if n = 0 then 3 else 2, c.phaseEnd + n)) ∧
        s.onlyEntries u [Obj.PRT_DCH_STATUS k] ∧
        u = { s.land t with objs := u.objs, prt := u.prt }) ∧
    (∀ (k : Nat) (c : Chopper), k < 4 → s.prt.choppers[k]? = some c → c.driven = true → c.phase = 2 → c.phaseEnd ≤ 128 * (s.land t).now + 127 → s.dchDemand k c = true → 
      ∃ u, exec (.dchPhaseEnd t k) s = .next (State.settle (s.land t) u) ∧
        ((u.prt.choppers[k]?).map (fun x => (x.phase, x.onAt)) = some (3, c.onAt)) ∧
        u.dchPins k = (s.pins.io33, false) ∧
        s.onlyEntries u [Obj.PRT_DCH_STATUS k] ∧
        u = { s.land t with objs := u.objs, prt := u.prt }) ∧
    (∀ (k : Nat) (c : Chopper) (n : Nat), k < 4 → s.prt.choppers[k]? = some c → c.driven = true → c.phase = 2 → c.phaseEnd ≤ 128 * (s.land t).now + 127 → s.dchDemand k c = false → (s.land t).within c.onAt (s.getN (Obj.PRT_DCH_MIN_ON k)) = false → s.dchCounts (s.getN (Obj.PRT_DCH_OFF_SLOPE k)) = n → 
      ∃ u, exec (.dchPhaseEnd t k) s = .next (State.settle (s.land t) u) ∧
        ((u.prt.choppers[k]?).map (fun x => (x.phase, x.offAt)) = some (if n = 0 then 0 else 4, some (s.land t).now)) ∧
        u.sourcePending 324 ∧
        s.entriesBut u [Obj.PRT_DCH_STATUS k, Obj.PRT_DCH_ON_TIME k] ∧
        u = { s.land t with objs := u.objs, prt := u.prt, icu := u.icu, log := u.log, flash := u.flash, dict := u.dict, out := u.out }) ∧
    (∀ (k : Nat) (c : Chopper), k < 4 → s.prt.choppers[k]? = some c → c.phase = 4 → c.phaseEnd ≤ 128 * (s.land t).now + 127 → s.dchDemand k c = false → 
      ∃ u, exec (.dchPhaseEnd t k) s = .next (State.settle (s.land t) u) ∧
        (u.prt.choppers[k]?).map (·.phase) = some 0 ∧
        u.dchPins k = (false, false) ∧
        s.onlyEntries u [Obj.PRT_DCH_STATUS k] ∧
        u = { s.land t with objs := u.objs, prt := u.prt }) ∧
    (∀ (k : Nat) (c : Chopper), k < 4 → s.prt.choppers[k]? = some c → c.driven = true → c.phase = 0 → s.dchDemand k c = true → (s.land t).within c.offAt (s.getN (Obj.PRT_DCH_MIN_OFF k)) = false → 
      ∃ u, exec (.dchMinTimeExpiry t k) s = .next (State.settle (s.land t) u) ∧
        ((u.prt.choppers[k]?).map (fun x => (x.phase, x.onAt, x.phaseEnd)) = some (1, some (s.land t).now, 128 * (s.land t).now + s.dchCounts (s.getN (Obj.PRT_DCH_PRE k)))) ∧
        u.get (Obj.PRT_DCH_ON_COUNT k) = min (s.get (Obj.PRT_DCH_ON_COUNT k) + 1) 0xFFFFFFFF ∧
        u.sourcePending 323 ∧
        s.entriesBut u [Obj.PRT_DCH_STATUS k, Obj.PRT_DCH_ON_COUNT k] ∧
        u = { s.land t with objs := u.objs, prt := u.prt, icu := u.icu, log := u.log, flash := u.flash, dict := u.dict, out := u.out }) ∧
    (∀ (k : Nat) (c : Chopper), k < 4 → s.prt.choppers[k]? = some c → c.driven = true → c.phase = 0 → s.dchDemand k c = true → (s.land t).within c.offAt (s.getN (Obj.PRT_DCH_MIN_OFF k)) = true → 
      ∃ u, exec (.dchMinTimeExpiry t k) s = .next (State.settle (s.land t) u) ∧
        u.prt = s.prt ∧
        u.bit (Obj.PRT_DCH_STATUS k) 5 = true ∧
        s.onlyEntries u [Obj.PRT_DCH_STATUS k] ∧
        u = { s.land t with objs := u.objs }) ∧
    (∀ (neg : Bool) (b : Nat), (if neg then s.prt.blindNeg else s.prt.blindPos) = some b → b + 1000 * s.getN Obj.PRT_BLIND_MAX ≤ (s.land t).now → ((List.range 4).any fun k => s.dchEnabled k && s.dchBehind neg k) = true → 
      ∃ u, exec (.prtBlindMaxExpiry t neg) s = .next (State.settle (s.land t) u) ∧
        u.causeActive causeBlind = true ∧
        (∀ k ∈ List.range 4, s.dchEnabled k = true → s.dchBehind neg k = true → (u.prt.choppers[k]?).map (·.comparator) = (s.prt.choppers[k]?).map fun _ => false) ∧
        s.otherIndices u [0x2700, 0x2719, 0x271A, 0x271B] ∧
        u = { s.land t with objs := u.objs, prt := u.prt, icu := u.icu }) ∧
    (∀ (f : Sender) (k : Nat), k < 4 → s.takesWrite t f (Obj.PRT_DCH_CTRL k) (withBit (s.getN (Obj.PRT_DCH_CTRL k)) 3 true : Nat) = true → s.bit (Obj.PRT_DCH_CTRL k) 3 = false → 
      ∃ u, exec (.dchForceSet t f k) s = .next (State.settle (s.land t) u) ∧
        u.bit (Obj.PRT_DCH_CTRL k) 3 = true ∧
        u.sourcePending 329 ∧
        u.out = [Out.done] ∧
        s.otherIndices u [0x2711, 0x2719, 0x271A, 0x271B] ∧
        u = { s.land t with objs := u.objs, prt := u.prt, dict := u.dict, icu := u.icu, out := u.out }) ∧
    (∀ (f : Sender), s.takesWrite t f Obj.PRT_OV_PEAK_CLEAR 1 = true → 
      ∃ u, exec (.prtOvPeakClear t f) s = .next (State.settle (s.land t) u) ∧
        (∀ i ∈ List.range 3, u.get (Obj.PRT_OV_PEAK i) = 0) ∧
        u.out = [Out.done] ∧
        s.onlyEntries u [Obj.PRT_OV_PEAK 0, Obj.PRT_OV_PEAK 1, Obj.PRT_OV_PEAK 2] ∧
        u = { s.land t with objs := u.objs, dict := u.dict, out := u.out })

/-- In CONFIG to TRIP an evaluation shows the margin and the drift. With the loop running and no write under way, a margin below AGE_AVS_MARGIN_LO requests 10 mV more within the limits with source 360, and one above AGE_AVS_MARGIN_HI for 10 s requests 5 mV less; with AVS_EN clear the fixed voltage is requested. A good read-back ends the write, counted with source 362 after a second attempt; a bad one repeats the write once, and the second stops the loop, counted with source 363. -/
def Obligations.CoreVoltage : Prop :=
  ∀ (s : State) (t : Nat), 
    (∀ (margin : Int) (drift v : Nat), 2 ≤ s.devState → s.devState ≤ 6 → s.avsRuns = true → s.age.write = none → margin < s.get Obj.AGE_AVS_MARGIN_LO → s.avsLimit (s.get Obj.AGE_VCORE_NOW + 10) = v → v ≠ s.getN Obj.AGE_VCORE_NOW → 
      ∃ u, exec (.avsEvaluation t margin drift) s = .next (State.settle (s.land t) u) ∧
        u.getN Obj.AGE_VCORE_NOW = v ∧
        u.age.write = some (v, 1) ∧
        u.get Obj.AGE_CPM_MARGIN = margin ∧
        u.get Obj.AGE_SI_DRIFT = drift ∧
        Out.record 0x300 [(v : Int)] ∈ u.out ∧
        u.sourcePending 360 ∧
        s.entriesBut u [Obj.AGE_CPM_MARGIN, Obj.AGE_SI_DRIFT, Obj.AGE_AVS_STATUS, Obj.AGE_VCORE_NOW] ∧
        u = { s.land t with objs := u.objs, age := u.age, icu := u.icu, log := u.log, flash := u.flash, dict := u.dict, out := u.out }) ∧
    (∀ (margin : Int) (drift v h : Nat), 2 ≤ s.devState → s.devState ≤ 6 → s.avsRuns = true → s.age.write = none → s.get Obj.AGE_AVS_MARGIN_LO ≤ margin → s.get Obj.AGE_AVS_MARGIN_HI < margin → s.age.highSince = some h → h + 10000000000 ≤ (s.land t).now → s.avsLimit (s.get Obj.AGE_VCORE_NOW - 5) = v → v ≠ s.getN Obj.AGE_VCORE_NOW → 
      ∃ u, exec (.avsEvaluation t margin drift) s = .next (State.settle (s.land t) u) ∧
        u.getN Obj.AGE_VCORE_NOW = v ∧
        u.age.write = some (v, 1) ∧
        u.age.highSince = some (s.land t).now ∧
        u.get Obj.AGE_CPM_MARGIN = margin ∧
        u.get Obj.AGE_SI_DRIFT = drift ∧
        Out.record 0x300 [(v : Int)] ∈ u.out ∧
        s.entriesBut u [Obj.AGE_CPM_MARGIN, Obj.AGE_SI_DRIFT, Obj.AGE_AVS_STATUS, Obj.AGE_VCORE_NOW] ∧
        u = { s.land t with objs := u.objs, age := u.age, icu := u.icu, log := u.log, flash := u.flash, dict := u.dict, out := u.out }) ∧
    (∀ (margin : Int) (drift : Nat), 2 ≤ s.devState → s.devState ≤ 6 → s.bit Obj.AGE_CTRL 2 = false → s.bit Obj.AGE_AVS_STATUS 2 = false → 
      ∃ u, exec (.avsEvaluation t margin drift) s = .next (State.settle (s.land t) u) ∧
        u.getN Obj.AGE_VCORE_NOW = s.getN Obj.AGE_VCORE_FIXED ∧
        u.bit Obj.AGE_AVS_STATUS 0 = false ∧
        u.get Obj.AGE_CPM_MARGIN = margin ∧
        u.get Obj.AGE_SI_DRIFT = drift ∧
        s.onlyEntries u [Obj.AGE_CPM_MARGIN, Obj.AGE_SI_DRIFT, Obj.AGE_AVS_STATUS, Obj.AGE_VCORE_NOW] ∧
        u = { s.land t with objs := u.objs, age := u.age, out := u.out }) ∧
    (∀ (v : Nat), s.age.write = some (v, 1) → 
      ∃ u, exec (.avsReadbackCheck t true) s = .next (State.settle (s.land t) u) ∧
        u.age = { s.age with write := none } ∧
        s.onlyEntries u [] ∧
        u = { s.land t with objs := u.objs, age := u.age }) ∧
    (∀ (v : Nat), s.age.write = some (v, 2) → 
      ∃ u, exec (.avsReadbackCheck t true) s = .next (State.settle (s.land t) u) ∧
        u.age = { s.age with write := none } ∧
        u.get Obj.AGE_AVS_RETRY_COUNT = min (s.get Obj.AGE_AVS_RETRY_COUNT + 1) 0xFFFFFFFF ∧
        u.sourcePending 362 ∧
        s.entriesBut u [Obj.AGE_AVS_RETRY_COUNT] ∧
        u = { s.land t with objs := u.objs, age := u.age, icu := u.icu, log := u.log, flash := u.flash, dict := u.dict, out := u.out }) ∧
    (∀ (v : Nat), s.age.write = some (v, 1) → 
      ∃ u, exec (.avsReadbackCheck t false) s = .next (State.settle (s.land t) u) ∧
        u.age = { s.age with write := some (v, 2) } ∧
        u.out = [Out.record 0x300 [(v : Int)]] ∧
        s.onlyEntries u [] ∧
        u = { s.land t with objs := u.objs, age := u.age, out := u.out }) ∧
    (∀ (v : Nat), s.age.write = some (v, 2) → 
      ∃ u, exec (.avsReadbackCheck t false) s = .next (State.settle (s.land t) u) ∧
        u.age = { s.age with write := none } ∧
        u.bit Obj.AGE_AVS_STATUS 2 = true ∧
        u.bit Obj.AGE_AVS_STATUS 0 = false ∧
        u.get Obj.AGE_AVS_FAIL_COUNT = min (s.get Obj.AGE_AVS_FAIL_COUNT + 1) 0xFFFFFFFF ∧
        u.sourcePending 363 ∧
        s.entriesBut u [Obj.AGE_AVS_FAIL_COUNT, Obj.AGE_AVS_STATUS] ∧
        u = { s.land t with objs := u.objs, age := u.age, icu := u.icu, log := u.log, flash := u.flash, dict := u.dict, out := u.out })

/-- A re-plan falls due by its period or on request, with source 354. A plan submitted by a running core or by a download is put under check with its generation; one submitted while another is under check is refused as PENDING. A plan that fails a check is refused with the code and arm of the first, counted with source 353; an accepted one applies at the boundary ahead. An accepted RNK_REINSTATE takes the submodule into AVAILABLE and counts. A corrected error of sort memory raises source 244; an uncorrectable one of an arm is an overrun with cause 3 and detail 2. -/
def Obligations.PlansAndReinstatement : Prop :=
  ∀ (s : State) (t : Nat), 
    (∀ (a : Nat), s.age.appliedAt = some a → a + s.getN Obj.AGE_REPLAN_PERIOD * 3600000000000 ≤ (s.land t).now → s.bit Obj.AGE_STATUS 4 = false → 
      ∃ u, exec (.ageReplanPeriodExpiry t) s = .next (State.settle (s.land t) u) ∧
        u.bit Obj.AGE_STATUS 4 = true ∧
        u.sourcePending 354 ∧
        s.onlyEntries u [Obj.AGE_STATUS] ∧
        u = { s.land t with objs := u.objs, icu := u.icu }) ∧
    (∀ (f : Sender), s.takesWrite t f Obj.AGE_REPLAN_REQ 1 = true → 
      ∃ u, exec (.ageReplanReq t f) s = .next (State.settle (s.land t) u) ∧
        u.bit Obj.AGE_STATUS 4 = true ∧
        u.sourcePending 354 ∧
        u.out = [Out.done] ∧
        s.onlyEntries u [Obj.AGE_STATUS] ∧
        u = { s.land t with objs := u.objs, icu := u.icu, dict := u.dict, out := u.out }) ∧
    (∀ (f : Sender) (h : Nat) (plan : Plan) (gen : Nat), hartOf f = some h → s.hartRuns h = true → s.age.submitted = none → 
      ∃ u, exec (.planSubmit t f plan gen) s = .next (State.settle (s.land t) u) ∧
        u.age = { s.age with submitted := some { plan := plan, gen := gen, allowed := s.planState, sender := none, boundary := none } } ∧
        s.onlyEntries u [] ∧
        u = { s.land t with objs := u.objs, age := u.age, red := u.red, out := u.out }) ∧
    (∀ (f : Sender) (h : Nat) (plan : Plan) (gen : Nat) (d : PlanDue), hartOf f = some h → s.hartRuns h = true → s.age.submitted = some d → 
      ∃ u, exec (.planSubmit t f plan gen) s = .next (State.settle (s.land t) u) ∧
        u.get Obj.AGE_PLAN_RESULT = 2 + 256 * 7 ∧
        u.get Obj.AGE_PLAN_REFUSED_COUNT = min (s.get Obj.AGE_PLAN_REFUSED_COUNT + 1) 0xFFFFFFFF ∧
        u.sourcePending 353 ∧
        s.entriesBut u [Obj.AGE_PLAN_RESULT, Obj.AGE_PLAN_REFUSED_COUNT] ∧
        u = { s.land t with objs := u.objs, icu := u.icu, log := u.log, flash := u.flash, dict := u.dict, out := u.out }) ∧
    (∀ (f : Sender) (data : List Nat), data.length = planLength → (s.land t).dictServed = true → ((s.land t).heard f).judgeWrite f .plain 0x2800 0x0C planLength data none = none → s.age.submitted = none → 
      ∃ u, exec (.agePlanSubmit t f data) s = .next (State.settle (s.land t) u) ∧
        u.age = { s.age with submitted := some { plan := (planOfBytes data).1, gen := (planOfBytes data).2, allowed := s.planState, sender := some .plain, boundary := none } } ∧
        s.onlyEntries u [] ∧
        u = { s.land t with objs := u.objs, age := u.age, red := u.red, dict := u.dict, out := u.out }) ∧
    (∀ (d : PlanDue) (code arm : Nat), s.age.submitted = some d → (s.land t).planCheck d = some (code, arm) → code ≠ 0 → 
      ∃ u, exec (.planCheckDone t) s = .next (State.settle (s.land t) u) ∧
        u.age = { s.age with submitted := none } ∧
        u.get Obj.AGE_PLAN_RESULT = code + 256 * arm ∧
        u.get Obj.AGE_PLAN_REFUSED_COUNT = min (s.get Obj.AGE_PLAN_REFUSED_COUNT + 1) 0xFFFFFFFF ∧
        u.sourcePending 353 ∧
        s.entriesBut u [Obj.AGE_PLAN_RESULT, Obj.AGE_PLAN_REFUSED_COUNT] ∧
        u = { s.land t with objs := u.objs, age := u.age, icu := u.icu, log := u.log, flash := u.flash, dict := u.dict, out := u.out }) ∧
    (∀ (d : PlanDue), s.age.submitted = some d → (s.land t).planCheck d = none → s.devRole = roleAlone → 
      ∃ u, exec (.planCheckDone t) s = .next (State.settle (s.land t) u) ∧
        u.age.submitted = none ∧
        (u.age.accepted.map (fun x => (x.gen, x.boundary)) = some (d.gen, some s.boundaryAhead)) ∧
        u.get Obj.AGE_PLAN_PENDING = 1 ∧
        u.bit Obj.AGE_STATUS 4 = false ∧
        u.get Obj.AGE_PLAN_RESULT = 256 * 7 ∧
        s.onlyEntries u [Obj.AGE_PLAN_RESULT, Obj.AGE_PLAN_PENDING, Obj.AGE_STATUS] ∧
        u = { s.land t with objs := u.objs, age := u.age, dict := u.dict, out := u.out }) ∧
    (∀ (f : Sender) (n : Nat) (m : Sm), s.takesWrite t f Obj.RNK_REINSTATE n = true → n < 7680 → s.sm n = some m → 
      ∃ u, exec (.rnkReinstate t f n) s = .next (State.settle (s.land t) u) ∧
        ((u.sm n).map (fun x => (x.cls, x.fresh, x.gap)) = some (clsAvailable, true, 0)) ∧
        u.get Obj.RNK_REINSTATE_COUNT = min (s.get Obj.RNK_REINSTATE_COUNT + 1) 0xFFFFFFFF ∧
        Out.done ∈ u.out ∧
        s.entriesBut u [Obj.RNK_REINSTATE_COUNT] ∧
        u = { s.land t with objs := u.objs, age := u.age, icu := u.icu, log := u.log, flash := u.flash, dict := u.dict, out := u.out }) ∧
    (∀ (arm : Nat), arm ≤ 6 → 
      ∃ u, exec (.sortMemoryEcc t arm true) s = .next (State.settle (s.land t) u) ∧
        u.get (Obj.LOG_CNT 0x15) = min (s.get (Obj.LOG_CNT 0x15) + 1) 0xFFFFFFFFFFFFFFFF ∧
        u.sourcePending 244 ∧
        s.onlyEntries u [Obj.LOG_CNT 0x15] ∧
        u = { s.land t with objs := u.objs, age := u.age, icu := u.icu }) ∧
    (∀ (arm : Nat), arm < 6 → s.orbRunning = true → s.orb.overrun = none → s.devRole = roleAlone → 
      ∃ u, exec (.sortMemoryEcc t arm false) s = .next (State.settle (s.land t) u) ∧
        u.orb.overrun = some 0x302 ∧
        u.get Obj.ORB_OVERRUN_CAUSE = 0x302 ∧
        u.bit Obj.ORB_STATUS 6 = true ∧
        u.sourcePending 166 ∧
        s.entriesBut u [Obj.ORB_OVERRUN_CAUSE, Obj.ORB_OVERRUN_COUNT, Obj.ORB_STATUS, Obj.PRT_TRIP_ACTIVE, Obj.PRT_TRIP_LATCHED] ∧
        u = { s.land t with objs := u.objs, age := u.age, orb := u.orb, prt := u.prt, cmt := u.cmt, freeCtr := u.freeCtr, icu := u.icu, log := u.log, flash := u.flash, dict := u.dict, out := u.out })

/-- A first attempt that times out, loses lock after RATE_SWITCH or receives a set out of place is followed at once by a second from CAP_EXCHANGE at 3.125 Gb/s; a second that times out ends in DOWN, counted, with the failed state recorded and the event source raised, and from DOWN the lane tries again after 100 ms. The 16th identical CAP set is acknowledged where both offers have a rate in common, and with none NO_COMMON is set; the 16th ACK received after ACK was sent brings RATE_GO and RATE_SWITCH; block lock there brings TRAIN with the initial taps. A tap request is applied once within the limits and answered, a repeated one answered as before; a request of the receiver follows each evaluation; RX_READY of both sides for 32 sets brings VERIFY, and VERIFY passed ACTIVE with the time of the bring-up. -/
def Obligations.LanesComeUp : Prop :=
  ∀ (s : State) (t : Nat), 
    (∀ (k : Nat) (l : Lane) (ms : Nat), k < 50 → s.lane k = some l → l.attempt = 1 → 1 ≤ s.lanState k → s.lanState k ≤ 4 → laneLimit (s.lanState k) = some ms → l.stateAt + ms * 1000000 ≤ (s.land t).now → 
      ∃ u, exec (.laneStateTimeout t k) s = .next (State.settle (s.land t) u) ∧
        u.lanState k = Sys2Proof.Machine.lanCap ∧
        u.get (Obj.LAN_RATE_NOW k) = 4 ∧
        ((u.lane k).map (fun x => (x.attempt, x.startAt, x.stateAt, x.ackSent)) = some (2, (s.land t).now, (s.land t).now, false)) ∧
        u.out = [Out.lane k 0xC1 (s.get (Obj.LAN_RATE_SET k) + 512)] ∧
        s.onlyEntries u [Obj.LAN_STATE k, Obj.LAN_STATUS k, Obj.LAN_ACTIVE_MAP, Obj.LAN_RATE_NOW k] ∧
        u = { s.land t with objs := u.objs, lan := u.lan, out := u.out }) ∧
    (∀ (k : Nat) (l : Lane) (ms : Nat), k < 50 → s.lane k = some l → l.attempt ≠ 1 → 1 ≤ s.lanState k → s.lanState k ≤ 4 → laneLimit (s.lanState k) = some ms → l.stateAt + ms * 1000000 ≤ (s.land t).now → 
      ∃ u, exec (.laneStateTimeout t k) s = .next (State.settle (s.land t) u) ∧
        u.lanState k = lanDown ∧
        u.get (Obj.LAN_RATE_NOW k) = 0xFF ∧
        u.get (Obj.LAN_TRAIN_FAIL k) = min (s.get (Obj.LAN_TRAIN_FAIL k) + 1) 0xFFFFFFFF ∧
        u.get (Obj.LAN_LAST_EVENT k) = 2 ∧
        field (u.getN (Obj.LAN_STATUS k)) 7 4 = s.lanState k ∧
        u.sourcePending (lockSource k + 1) ∧
        s.entriesBut u [Obj.LAN_STATE k, Obj.LAN_STATUS k, Obj.LAN_ACTIVE_MAP, Obj.LAN_RATE_NOW k, Obj.LAN_TRAIN_FAIL k, Obj.LAN_LAST_EVENT k] ∧
        u = { s.land t with objs := u.objs, lan := u.lan, icu := u.icu, log := u.log, flash := u.flash, dict := u.dict, out := u.out }) ∧
    (∀ (k : Nat) (l : Lane), k < 50 → s.lane k = some l → s.lanState k = lanDown → l.stateAt + 100000000 ≤ (s.land t).now → 
      ∃ u, exec (.laneDownRetry t k) s = .next (State.settle (s.land t) u) ∧
        u.lanState k = Sys2Proof.Machine.lanCap ∧
        u.get (Obj.LAN_RATE_NOW k) = 4 ∧
        ((u.lane k).map (fun x => (x.attempt, x.startAt, x.stateAt, x.ackSent)) = some (1, (s.land t).now, (s.land t).now, false)) ∧
        u.out = [Out.lane k 0xC1 (s.get (Obj.LAN_RATE_SET k) + 512)] ∧
        s.onlyEntries u [Obj.LAN_STATE k, Obj.LAN_STATUS k, Obj.LAN_ACTIVE_MAP, Obj.LAN_RATE_NOW k] ∧
        u = { s.land t with objs := u.objs, lan := u.lan, out := u.out }) ∧
    (∀ (k : Nat) (l : Lane) (d2 d3 : Nat), 32 ≤ d2 ∨ 4 ≤ d3 → k < 50 → s.lane k = some l → 
      ∃ u, exec (.laneCapReceive t k d2 d3) s = .next (State.settle (s.land t) u) ∧
        u.get (Obj.LAN_SH_ERRORS k) = min (s.get (Obj.LAN_SH_ERRORS k) + 1) 0xFFFFFFFF ∧
        s.onlyEntries u [Obj.LAN_SH_ERRORS k] ∧
        u = { s.land t with objs := u.objs }) ∧
    (∀ (k : Nat) (l : Lane) (d2 d3 r : Nat), k < 50 → s.lane k = some l → s.lanState k = Sys2Proof.Machine.lanCap → d2 < 32 → d3 < 4 → l.capSeen = d2 + 256 * d3 → 15 ≤ l.capRun → bitOf d3 0 = false → l.ackSent = false → s.lanCommon k d2 = some r → 
      ∃ u, exec (.laneCapReceive t k d2 d3) s = .next (State.settle (s.land t) u) ∧
        ((u.lane k).map (fun x => (x.ackSent, x.rate, x.capRun)) = some (true, r, l.capRun + 1)) ∧
        u.out = [Out.lane k 0xC1 (s.get (Obj.LAN_RATE_SET k) + 768)] ∧
        u.get (Obj.LAN_PARTNER_CAPS k) = d2 ∧
        u.bit (Obj.LAN_STATUS k) 6 = bitOf d3 1 ∧
        u.bit (Obj.LAN_STATUS k) 2 = false ∧
        s.onlyEntries u [Obj.LAN_PARTNER_CAPS k, Obj.LAN_STATUS k] ∧
        u = { s.land t with objs := u.objs, lan := u.lan, out := u.out }) ∧
    (∀ (k : Nat) (l : Lane) (d2 d3 : Nat), k < 50 → s.lane k = some l → s.lanState k = Sys2Proof.Machine.lanCap → d2 < 32 → d3 < 4 → l.capSeen = d2 + 256 * d3 → 15 ≤ l.capRun → l.ackSent = false → s.lanCommon k d2 = none → s.bit (Obj.LAN_STATUS k) 2 = false → 
      ∃ u, exec (.laneCapReceive t k d2 d3) s = .next (State.settle (s.land t) u) ∧
        (u.lane k).map (·.ackSent) = some false ∧
        u.bit (Obj.LAN_STATUS k) 2 = true ∧
        u.get (Obj.LAN_LAST_EVENT k) = 7 ∧
        u.sourcePending (lockSource k + 1) ∧
        s.onlyEntries u [Obj.LAN_PARTNER_CAPS k, Obj.LAN_STATUS k, Obj.LAN_LAST_EVENT k] ∧
        u = { s.land t with objs := u.objs, lan := u.lan, icu := u.icu }) ∧
    (∀ (k : Nat) (l : Lane) (d2 d3 r : Nat), k < 50 → s.lane k = some l → s.lanState k = Sys2Proof.Machine.lanCap → d2 < 32 → d3 < 4 → bitOf d3 0 = true → 15 ≤ l.ackRun → l.ackSent = true → s.lanCommon k d2 = some r → 
      ∃ u, exec (.laneCapReceive t k d2 d3) s = .next (State.settle (s.land t) u) ∧
        u.lanState k = lanSwitch ∧
        u.get (Obj.LAN_RATE_NOW k) = l.rate ∧
        u.out = [Out.lane k 0xC2 l.rate] ∧
        s.onlyEntries u [Obj.LAN_STATE k, Obj.LAN_STATUS k, Obj.LAN_ACTIVE_MAP, Obj.LAN_RATE_NOW k, Obj.LAN_PARTNER_CAPS k] ∧
        u = { s.land t with objs := u.objs, lan := u.lan, out := u.out }) ∧
    (∀ (k : Nat) (l : Lane), k < 50 → s.lane k = some l → s.lanState k = Sys2Proof.Machine.lanCap ∧ l.ackSent = true ∨ s.lanState k = lanSwitch → l.rate < 8 → 
      ∃ u, exec (.laneRateGoReceive t k l.rate) s = .next (State.settle (s.land t) u) ∧
        u = s.land t) ∧
    (∀ (k : Nat) (l : Lane) (d2 : Nat), k < 50 → s.lane k = some l → 1 ≤ s.lanState k → s.lanState k ≤ 4 → d2 < 8 → d2 ≠ l.rate → l.attempt = 1 → 
      ∃ u, exec (.laneRateGoReceive t k d2) s = .next (State.settle (s.land t) u) ∧
        u.lanState k = Sys2Proof.Machine.lanCap ∧
        u.get (Obj.LAN_RATE_NOW k) = 4 ∧
        ((u.lane k).map (fun x => (x.attempt, x.startAt, x.stateAt, x.ackSent)) = some (2, (s.land t).now, (s.land t).now, false)) ∧
        u.out = [Out.lane k 0xC1 (s.get (Obj.LAN_RATE_SET k) + 512)] ∧
        s.onlyEntries u [Obj.LAN_STATE k, Obj.LAN_STATUS k, Obj.LAN_ACTIVE_MAP, Obj.LAN_RATE_NOW k] ∧
        u = { s.land t with objs := u.objs, lan := u.lan, out := u.out }) ∧
    (∀ (k : Nat) (l : Lane), k < 50 → s.lane k = some l → s.lanState k = lanSwitch → 
      ∃ u, exec (.laneBlockLock t k) s = .next (State.settle (s.land t) u) ∧
        u.lanState k = lanTrain ∧
        u.get (Obj.LAN_TX_TAPS k) = s.get (Obj.LAN_TX_INIT k) ∧
        u.get (Obj.LAN_REQ_COUNT k) = 0 ∧
        u.bit (Obj.LAN_STATUS k) 0 = true ∧
        ((u.lane k).map (fun x => (x.answered, x.ready, x.waiting, x.flat, x.move)) = some (none, false, false, 0, 0)) ∧
        s.onlyEntries u [Obj.LAN_STATE k, Obj.LAN_STATUS k, Obj.LAN_ACTIVE_MAP, Obj.LAN_TX_TAPS k, Obj.LAN_REQ_COUNT k] ∧
        u = { s.land t with objs := u.objs, lan := u.lan }) ∧
    (∀ (k : Nat) (l : Lane) (d2 seq : Nat), k < 50 → s.lane k = some l → s.lanState k = lanTrain → bitOf d2 7 = false → bitOf d2 6 = false → l.answered.map (·.1) ≠ some seq → 
      ∃ u, exec (.laneTapReqReceive t k d2 seq) s = .next (State.settle (s.land t) u) ∧
        u.get (Obj.LAN_TX_TAPS k) = (tapApply d2 (s.getN (Obj.LAN_TX_TAPS k)) (s.getN (Obj.LAN_TX_INIT k))).1 ∧
        (u.lane k).map (·.answered) = some (some (seq, (tapApply d2 (s.getN (Obj.LAN_TX_TAPS k)) (s.getN (Obj.LAN_TX_INIT k))).2)) ∧
        u.out = [Out.lane k 0xC4 ((tapApply d2 (s.getN (Obj.LAN_TX_TAPS k)) (s.getN (Obj.LAN_TX_INIT k))).2 + 256 * seq : Nat)] ∧
        s.onlyEntries u [Obj.LAN_TX_TAPS k] ∧
        u = { s.land t with objs := u.objs, lan := u.lan, out := u.out }) ∧
    (∀ (k : Nat) (l : Lane) (d2 seq st : Nat), k < 50 → s.lane k = some l → s.lanState k = lanTrain → bitOf d2 7 = false → bitOf d2 6 = false → l.answered = some (seq, st) → 
      ∃ u, exec (.laneTapReqReceive t k d2 seq) s = .next (State.settle (s.land t) u) ∧
        u.out = [Out.lane k 0xC4 (st + 256 * seq : Nat)] ∧
        s.onlyEntries u [] ∧
        u = { s.land t with objs := u.objs, lan := u.lan, out := u.out }) ∧
    (∀ (k : Nat) (l : Lane) (d2 seq : Nat), k < 50 → s.lane k = some l → s.lanState k = lanTrain → bitOf d2 7 = false → bitOf d2 6 = true → l.ready = true → 31 ≤ l.readyRun → 
      ∃ u, exec (.laneTapReqReceive t k d2 seq) s = .next (State.settle (s.land t) u) ∧
        u.lanState k = lanVerify ∧
        s.onlyEntries u [Obj.LAN_TX_TAPS k, Obj.LAN_STATE k, Obj.LAN_ACTIVE_MAP] ∧
        u = { s.land t with objs := u.objs, lan := u.lan, out := u.out }) ∧
    (∀ (k : Nat) (l : Lane) (d2 : Nat), k < 50 → s.lane k = some l → s.lanState k = lanTrain → d2 < 64 → l.waiting = true → 
      ∃ u, exec (.laneTapStatusReceive t k d2 l.seq) s = .next (State.settle (s.land t) u) ∧
        ((u.lane k).map (fun x => (x.waiting, x.made)) = some (false, decide (field d2 ([4, 4, 0, 0, 2, 2].getD l.move 4) 2 = 1))) ∧
        s.onlyEntries u [] ∧
        u = { s.land t with objs := u.objs, lan := u.lan }) ∧
    (∀ (k : Nat) (l : Lane) (height : Int), k < 50 → s.lane k = some l → s.lanState k = lanTrain → l.ready = false → l.waiting = false → l.trial = false → l.flat < 6 → s.getN (Obj.LAN_REQ_COUNT k) < 64 → 
      ∃ u, exec (.trainEvaluationDone t k height) s = .next (State.settle (s.land t) u) ∧
        ((u.lane k).map (fun x => (x.waiting, x.trial, x.base, x.seq)) = some (true, true, height, (l.seq + 1) % 256)) ∧
        u.out = [Out.lane k 0xC3 (moveBits l.move false + 256 * ((l.seq + 1) % 256) : Nat)] ∧
        u.get (Obj.LAN_REQ_COUNT k) = min (s.get (Obj.LAN_REQ_COUNT k) + 1) 0xFFFFFFFF ∧
        s.onlyEntries u [Obj.LAN_REQ_COUNT k] ∧
        u = { s.land t with objs := u.objs, lan := u.lan, out := u.out }) ∧
    (∀ (k : Nat) (l : Lane) (height : Int), k < 50 → s.lane k = some l → s.lanState k = lanTrain → l.ready = false → l.waiting = false → l.trial = true → l.made = true → height ≤ l.base → s.getN (Obj.LAN_REQ_COUNT k) < 64 → 
      ∃ u, exec (.trainEvaluationDone t k height) s = .next (State.settle (s.land t) u) ∧
        ((u.lane k).map (fun x => (x.waiting, x.trial, x.flat, x.move)) = some (true, false, l.flat + 1, (l.move + 1) % 6)) ∧
        u.out = [Out.lane k 0xC3 (moveBits l.move true + 256 * ((l.seq + 1) % 256) : Nat)] ∧
        s.onlyEntries u [Obj.LAN_REQ_COUNT k] ∧
        u = { s.land t with objs := u.objs, lan := u.lan, out := u.out }) ∧
    (∀ (k : Nat) (l : Lane) (height : Int), k < 50 → s.lane k = some l → s.lanState k = lanTrain → l.ready = false → l.waiting = false → l.trial = false → 6 ≤ l.flat ∨ 64 ≤ s.getN (Obj.LAN_REQ_COUNT k) → 
      ∃ u, exec (.trainEvaluationDone t k height) s = .next (State.settle (s.land t) u) ∧
        ((u.lane k).map (fun x => (x.ready, x.readyRun)) = some (true, 0)) ∧
        u.bit (Obj.LAN_STATUS k) 11 = decide (l.flat < 6) ∧
        u.out = [Out.lane k 0xC3 64] ∧
        s.onlyEntries u [Obj.LAN_STATUS k] ∧
        u = { s.land t with objs := u.objs, lan := u.lan, out := u.out }) ∧
    (∀ (k : Nat) (l : Lane), k < 50 → s.lane k = some l → s.lanState k = lanVerify → l.stateAt + 1000000 ≤ (s.land t).now → 
      ∃ u, exec (.laneVerifyPass t k) s = .next (State.settle (s.land t) u) ∧
        u.lanState k = lanActive ∧
        u.get (Obj.LAN_BRINGUP_TIME k) = saturateU 32 (((s.land t).now - l.startAt) / 1000 : Nat) ∧
        u.get (Obj.LAN_CLEAN_CYCLES k) = 0 ∧
        (l.attempt = 2 → u.get (Obj.LAN_TRAIN_RETRY k) = min (s.get (Obj.LAN_TRAIN_RETRY k) + 1) 0xFFFFFFFF) ∧
        u.sourcePending (lockSource k + 1) ∧
        s.otherIndices u [0x2A00, 0x2A11, 0x2A13, 0x2A18, 0x2A1C, 0x2A1F, 0x2A23, 0x2921, 0x2923] ∧
        u = { s.land t with objs := u.objs, lan := u.lan, icu := u.icu, log := u.log, flash := u.flash, dict := u.dict, out := u.out })

/-- An ACTIVE lane that loses lock enters RELOCK, counted, with its lock source, and the ring pair it belongs to enters line mode; lock regained makes it ACTIVE again, counted as transient; 1 ms without is lasting and ends in DOWN with event 3. A lane before ACTIVE that loses lock in TRAIN or VERIFY fails its attempt. Sleep is shown for each direction where the lane may sleep, and a sleeping receiver that does not wake has lost lock. Once a minute the error rate enters the histogram. A scan starts on the selected lane, ends with its result and event 4 or is aborted with event 5. LAN_LOOPBACK selects LOOPBACK, TEST or DISABLED. -/
def Obligations.LanesRunAndAreTested : Prop :=
  ∀ (s : State) (t : Nat), 
    (∀ (k : Nat) (hiBer : Bool), k < 50 → s.lanState k = lanActive → 
      ∃ u, exec (.laneLockLoss t k hiBer) s = .next (State.settle (s.land t) u) ∧
        u.lanState k = lanRelock ∧
        u.get (Obj.LAN_LOCK_LOSS k) = min (s.get (Obj.LAN_LOCK_LOSS k) + 1) 0xFFFFFFFF ∧
        u.get (Obj.LAN_CLEAN_CYCLES k) = 0 ∧
        (k < 48 → s.valvePair (k / 2) = true → s.pairMode (k / 2) = pairRing → u.pairMode (k / 2) = pairLine) ∧
        (hiBer = true → u.bit (Obj.LAN_STATUS k) 1 = true) ∧
        u.sourcePending (lockSource k) ∧
        s.otherIndices u [0x2A00, 0x2A11, 0x2A13, 0x2A18, 0x2A1A, 0x2A23, 0x2A40, 0x2900, 0x2913, 0x2914, 0x2916, 0x2918, 0x2921, 0x2923] ∧
        u = { s.land t with objs := u.objs, lan := u.lan, lnk := u.lnk, orb := u.orb, icu := u.icu }) ∧
    (∀ (k : Nat) (l : Lane) (hiBer : Bool), k < 50 → s.lane k = some l → s.lanState k = lanTrain ∨ s.lanState k = lanVerify → l.attempt = 1 → 
      ∃ u, exec (.laneLockLoss t k hiBer) s = .next (State.settle (s.land t) u) ∧
        u.lanState k = Sys2Proof.Machine.lanCap ∧
        u.get (Obj.LAN_RATE_NOW k) = 4 ∧
        ((u.lane k).map (fun x => (x.attempt, x.startAt, x.stateAt, x.ackSent)) = some (2, (s.land t).now, (s.land t).now, false)) ∧
        u.out = [Out.lane k 0xC1 (s.get (Obj.LAN_RATE_SET k) + 512)] ∧
        s.onlyEntries u [Obj.LAN_STATE k, Obj.LAN_STATUS k, Obj.LAN_ACTIVE_MAP, Obj.LAN_RATE_NOW k] ∧
        u = { s.land t with objs := u.objs, lan := u.lan, out := u.out }) ∧
    (∀ (k : Nat), k < 50 → s.lanState k = lanActive → s.bit (Obj.LAN_STATUS k) 5 = true → 
      ∃ u, exec (.laneRxWakeTimeout t k) s = .next (State.settle (s.land t) u) ∧
        u.lanState k = lanRelock ∧
        u.bit (Obj.LAN_STATUS k) 5 = false ∧
        u.get (Obj.LAN_LOCK_LOSS k) = min (s.get (Obj.LAN_LOCK_LOSS k) + 1) 0xFFFFFFFF ∧
        u.sourcePending (lockSource k) ∧
        s.otherIndices u [0x2A00, 0x2A11, 0x2A13, 0x2A18, 0x2A1A, 0x2A23, 0x2A40, 0x2900, 0x2913, 0x2914, 0x2916, 0x2918, 0x2921, 0x2923] ∧
        u = { s.land t with objs := u.objs, lan := u.lan, lnk := u.lnk, orb := u.orb, icu := u.icu }) ∧
    (∀ (k : Nat), k < 50 → s.lanState k = lanRelock → 
      ∃ u, exec (.laneBlockLock t k) s = .next (State.settle (s.land t) u) ∧
        u.lanState k = lanActive ∧
        u.bit (Obj.LAN_STATUS k) 0 = true ∧
        u.get (Obj.LAN_RELOCK_TRANSIENT k) = min (s.get (Obj.LAN_RELOCK_TRANSIENT k) + 1) 0xFFFFFFFF ∧
        u.sourcePending (lockSource k) ∧
        s.otherIndices u [0x2A00, 0x2A11, 0x2A13, 0x2A1B, 0x2A23, 0x2921, 0x2923] ∧
        u = { s.land t with objs := u.objs, lan := u.lan, icu := u.icu, log := u.log, flash := u.flash, dict := u.dict, out := u.out }) ∧
    (∀ (k : Nat) (l : Lane), k < 50 → s.lane k = some l → s.lanState k = lanRelock → l.stateAt + 1000000 ≤ (s.land t).now → 
      ∃ u, exec (.laneStateTimeout t k) s = .next (State.settle (s.land t) u) ∧
        u.lanState k = lanDown ∧
        u.get (Obj.LAN_RATE_NOW k) = 0xFF ∧
        u.get (Obj.LAN_LAST_EVENT k) = 3 ∧
        u.sourcePending (lockSource k + 1) ∧
        s.entriesBut u [Obj.LAN_STATE k, Obj.LAN_STATUS k, Obj.LAN_ACTIVE_MAP, Obj.LAN_RATE_NOW k, Obj.LAN_LAST_EVENT k] ∧
        u = { s.land t with objs := u.objs, lan := u.lan, icu := u.icu, log := u.log, flash := u.flash, dict := u.dict, out := u.out }) ∧
    (∀ (k : Nat), k < 50 → s.lanState k = lanActive → s.lanSleeps k = true → 
      ∃ u, exec (.laneSleepReceive t k) s = .next (State.settle (s.land t) u) ∧
        u.bit (Obj.LAN_STATUS k) 5 = true ∧
        u.lanState k = lanActive ∧
        s.onlyEntries u [Obj.LAN_STATUS k, Obj.LAN_EYE_STATUS, Obj.LAN_LAST_EVENT k] ∧
        u = { s.land t with objs := u.objs, lan := u.lan, icu := u.icu }) ∧
    (∀ (k : Nat), k < 50 → s.lanState k = lanActive → s.lanSleeps k = true → s.bit (Obj.LAN_SLEEP_CFG k) 0 = true → s.bit (Obj.LAN_STATUS k) 4 = false → 
      ∃ u, exec (.laneTxSleep t k) s = .next (State.settle (s.land t) u) ∧
        u.bit (Obj.LAN_STATUS k) 4 = true ∧
        u.get (Obj.LAN_SLEEP_COUNT k) = min (s.get (Obj.LAN_SLEEP_COUNT k) + 1) 0xFFFFFFFF ∧
        u.out = [Out.lane k 0xC5 0] ∧
        s.onlyEntries u [Obj.LAN_STATUS k, Obj.LAN_SLEEP_COUNT k] ∧
        u = { s.land t with objs := u.objs, out := u.out }) ∧
    (∀ (k : Nat), k < 50 → s.bit (Obj.LAN_STATUS k) 4 = true → 
      ∃ u, exec (.laneTxWake t k) s = .next (State.settle (s.land t) u) ∧
        u.bit (Obj.LAN_STATUS k) 4 = false ∧
        u.out = [Out.lane k 0 1] ∧
        s.onlyEntries u [Obj.LAN_STATUS k] ∧
        u = { s.land t with objs := u.objs, out := u.out }) ∧
    (∀ (k : Nat) (l : Lane) (j : Nat), k < 50 → s.lane k = some l → s.lanState k = lanActive → berBin l.headers (60 * laneRate (s.getN (Obj.LAN_RATE_NOW k))) = j → 
      ∃ u, exec (.laneBerMinute t k) s = .next (State.settle (s.land t) u) ∧
        u.get (Obj.LOG_HIST (15 + k) j) = min (s.get (Obj.LOG_HIST (15 + k) j) + 1) 0xFFFFFFFFFFFFFFFF ∧
        (u.lane k).map (·.headers) = some 0 ∧
        s.onlyEntries u [Obj.LOG_HIST (15 + k) j] ∧
        u = { s.land t with objs := u.objs, lan := u.lan }) ∧
    (∀ (f : Sender), s.takesWrite t f Obj.LAN_EYE_START 1 = true → 
      ∃ u, exec (.lanEyeStart t f) s = .next (State.settle (s.land t) u) ∧
        (u.lan.scan.map (fun e => (e.lane, e.rate, e.dwell, e.taps)) = some (s.getN Obj.LAN_EYE_LANE, s.getN (Obj.LAN_RATE_NOW (s.getN Obj.LAN_EYE_LANE)), s.getN Obj.LAN_EYE_DWELL, s.getN (Obj.LAN_TX_TAPS (s.getN Obj.LAN_EYE_LANE)))) ∧
        u.get Obj.LAN_EYE_STATUS = 1 ∧
        u.get Obj.LAN_EYE_PROGRESS = 0 ∧
        u.out = [Out.done] ∧
        s.onlyEntries u [Obj.LAN_EYE_STATUS, Obj.LAN_EYE_PROGRESS] ∧
        u = { s.land t with objs := u.objs, lan := u.lan, dict := u.dict, out := u.out }) ∧
    (∀ (f : Sender) (e : Eye), s.takesWrite t f Obj.LAN_EYE_ABORT 1 = true → s.lan.scan = some e → e.lane < 50 → 
      ∃ u, exec (.lanEyeAbort t f) s = .next (State.settle (s.land t) u) ∧
        u.lan.scan = none ∧
        u.get Obj.LAN_EYE_STATUS = 3 ∧
        u.get (Obj.LAN_LAST_EVENT e.lane) = 5 ∧
        u.sourcePending (lockSource e.lane + 1) ∧
        u.out = [Out.done] ∧
        s.onlyEntries u [Obj.LAN_EYE_STATUS, Obj.LAN_LAST_EVENT e.lane] ∧
        u = { s.land t with objs := u.objs, lan := u.lan, icu := u.icu, dict := u.dict, out := u.out }) ∧
    (∀ (counts : List (Nat × Nat)) (e : Eye) (g : Nat), s.lan.scan = some e → e.lane < 50 → 8192 ≤ (s.land t).eyeProgress → (if s.hasData Obj.LAN_EYE_GEN then s.getN Obj.LAN_EYE_GEN else 0) = g → 
      ∃ u, exec (.eyeScanComplete t counts) s = .next (State.settle (s.land t) u) ∧
        u.lan.scan = none ∧
        (u.lan.result.map (fun r => (r.lane, r.gen, r.dwell)) = some (e.lane, (g + 1) % 2 ^ 32, e.dwell)) ∧
        (u.lan.result.map (fun r => ((r.width : Int), (r.height : Int))) = some (u.get Obj.LAN_EYE_WIDTH, u.get Obj.LAN_EYE_HEIGHT)) ∧
        u.get Obj.LAN_EYE_STATUS = 2 ∧
        u.get Obj.LAN_EYE_GEN = ((g + 1) % 2 ^ 32 : Nat) ∧
        u.get Obj.LAN_EYE_PROGRESS = 8192 ∧
        u.get (Obj.LAN_LAST_EVENT e.lane) = 4 ∧
        u.sourcePending (lockSource e.lane + 1) ∧
        s.onlyEntries u [Obj.LAN_EYE_STATUS, Obj.LAN_EYE_PROGRESS, Obj.LAN_EYE_GEN, Obj.LAN_EYE_WIDTH, Obj.LAN_EYE_HEIGHT, Obj.LAN_LAST_EVENT e.lane] ∧
        u = { s.land t with objs := u.objs, lan := u.lan, icu := u.icu }) ∧
    (∀ (f : Sender) (k v : Nat), k < 50 → v < 256 → s.takesWrite t f (Obj.LAN_LOOPBACK k) v = true → 
      ∃ u, exec (.lanLoopbackSelect t f k v) s = .next (State.settle (s.land t) u) ∧
        u.getN (Obj.LAN_LOOPBACK k) = v ∧
        (u.lanState k = (if v % 32 = 0 then lanDisabled else if v % 8 ≠ 0 then 8 else 9)) ∧
        (v % 32 ≠ 0 → u.getN (Obj.LAN_RATE_NOW k) = v / 32 ∧ u.get (Obj.LAN_TX_TAPS k) = s.get (Obj.LAN_TX_INIT k)) ∧
        u.out = [Out.done] ∧
        s.otherIndices u [0x2A00, 0x2A11, 0x2A12, 0x2A13, 0x2A15, 0x2A16, 0x2A1E, 0x2A23, 0x2A40] ∧
        u = { s.land t with objs := u.objs, lan := u.lan, icu := u.icu, dict := u.dict, freeCtr := u.freeCtr, out := u.out })

/-- On a lane that carries them: a valid HEAD that arrives before the boundary it names becomes the partner's latest, shows its state, role and flags and its generation, gives a unit that does not own the valve the epoch of the owner and the next boundary to follow, and announces a stretch two cycles after its own; a HEAD that arrives at or after that boundary, or that fails its checks, counts as missing. A STANDBY takes the next change record in order and keeps it for its boundary, and an unexplained difference of an arm is counted with source 140. Blocks of the image advance the progress, a bad one is sent again and a second fails the attempt; a plan and its acknowledgement are kept. The latency is half the round trip less the turnaround, shown as the larger. A pulse of TIDE_IN is kept for the score, and a valid one wakes the device. -/
def Obligations.CrossLinkReceives : Prop :=
  ∀ (s : State) (t : Nat), 
    (∀ (lane : Nat) (head : Head), s.xlCarries lane = true → s.hasPartner = true → 3 ≤ s.devState → s.devState ≤ 6 → signed 32 ((s.land t).time32 + 2 ^ 32 - (head.launch + 250 * head.length) % 2 ^ 32) < 0 → s.red.headNew = false → 
      ∃ u, exec (.xlHeadReceive t lane true head) s = .next (State.settle (s.land t) u) ∧
        u.red.head = some head ∧
        u.red.headNew = true ∧
        u.get Obj.RED_PARTNER_INFO = (head.tide.state % 256 + 256 * (head.tide.role % 256) + 65536 * (head.tide.runFlags % 65536) : Nat) ∧
        u.get Obj.RED_PARTNER_GEN = head.tide.stateGen ∧
        (s.owner = false → head.tide.role ≤ 1 → u.get Obj.RED_EPOCH = head.tide.epoch ∧ u.red.follow = some ((head.launch + 250 * head.length) % 2 ^ 32, (head.cycle + 1) % 2 ^ 32, head.next)) ∧
        (head.tide.stretch = true → s.orb.returnAt = none → u.orb.stretchAt = some ((head.cycle + 2) % 2 ^ 32) ∧ u.bit Obj.ORB_STATUS 2 = true) ∧
        (s.red.head = none → u.sourcePending 148) ∧
        s.otherIndices u [0x2001, 0x2100, 0x2B00, 0x2B20] ∧
        u = { s.land t with objs := u.objs, red := u.red, orb := u.orb, age := u.age, icu := u.icu, log := u.log, flash := u.flash, dict := u.dict, out := u.out }) ∧
    (∀ (lane : Nat) (valid : Bool) (head : Head), valid = false ∨ s.hasPartner = false ∨ 0 ≤ signed 32 ((s.land t).time32 + 2 ^ 32 - (head.launch + 250 * head.length) % 2 ^ 32) → 
      ∃ u, exec (.xlHeadReceive t lane valid head) s = .next (State.settle (s.land t) u) ∧
        u = s.land t) ∧
    (∀ (lane n : Nat) (r : ChangeRecord), s.xlCarries lane = true → s.hasPartner = true → 3 ≤ s.devState → s.devState ≤ 6 → s.devRole = roleStandby → s.red.toApply = [] → r.gen = s.red.applied + 1 → orbLater r.boundary s.orbCount = true → 
      ∃ u, exec (.xlBodyReceive t lane true { cycle := n, arms := [], codes := [], records := [r] }) s = .next (State.settle (s.land t) u) ∧
        u.red.applied = r.gen ∧
        (match r.change with
        | .step d => u.tim.pendingStep = some (d, r.boundary) ∧ u.bit Obj.TIM_STATUS 6 = true
        | _ => u.red.toApply = [r] ∧ u.tim = s.tim) ∧
        u.get Obj.RED_STATE_GEN = r.gen ∧
        s.onlyEntries u [Obj.RED_STATE_GEN, Obj.TIM_STATUS] ∧
        u = { s.land t with objs := u.objs, red := u.red, tim := u.tim }) ∧
    (∀ (lane n a : Nat) (x o : ArmRecord) (l : List ArmRecord), s.xlCarries lane = true → s.hasPartner = true → 3 ≤ s.devState → s.devState ≤ 6 → s.devRole = roleStandby → s.partnerLost = false → s.red.toApply = [] → a < 6 → (s.red.own.find? fun e => e.1 == n).map (·.2) = some l → l[a]? = some o → x.digest ≠ o.digest → x.held = 0 → o.held = 0 → s.red.unexplained = none → 
      ∃ u, exec (.xlBodyReceive t lane true { cycle := n, arms := [(a, x)], codes := [], records := [] }) s = .next (State.settle (s.land t) u) ∧
        u.get Obj.RED_MIRROR_UNEXPLAINED = min (s.get Obj.RED_MIRROR_UNEXPLAINED + 1) 0xFFFFFFFF ∧
        u.get (Obj.RED_MIRROR_ARM a) = min (s.get (Obj.RED_MIRROR_ARM a) + 1) 0xFFFFFFFF ∧
        u.sourcePending 140 ∧
        u.red.unexplained = some (n, [a]) ∧
        s.onlyEntries u [Obj.RED_MIRROR_UNEXPLAINED, Obj.RED_MIRROR_ARM a] ∧
        u = { s.land t with objs := u.objs, red := u.red, age := u.age, icu := u.icu }) ∧
    (∀ (lane : Nat) (img : Option DurableImage), lane < 2 → s.lanUp (48 + lane) = true → s.hasPartner = true → s.resyncOn = true → s.getN Obj.RED_RESYNC_PHASE = 3 → 
      ∃ u, exec (.xlBulkReceive t lane (.block true img)) s = .next (State.settle (s.land t) u) ∧
        u.get Obj.RED_RESYNC_PROGRESS = min (s.get Obj.RED_RESYNC_PROGRESS + 8) 0xFFFF ∧
        u.red.blockBad = false ∧
        (u.red.image = (if img.isSome then img else s.red.image)) ∧
        s.onlyEntries u [Obj.RED_RESYNC_PROGRESS] ∧
        u = { s.land t with objs := u.objs, red := u.red }) ∧
    (∀ (lane : Nat) (img : Option DurableImage), lane < 2 → s.lanUp (48 + lane) = true → s.hasPartner = true → s.resyncOn = true → s.getN Obj.RED_RESYNC_PHASE = 3 → s.red.blockBad = false → 
      ∃ u, exec (.xlBulkReceive t lane (.block false img)) s = .next (State.settle (s.land t) u) ∧
        u.red = { s.red with blockBad := true } ∧
        s.onlyEntries u [] ∧
        u = { s.land t with objs := u.objs, red := u.red }) ∧
    (∀ (lane : Nat) (img : Option DurableImage), lane < 2 → s.lanUp (48 + lane) = true → s.hasPartner = true → s.red.attempt = 1 → s.getN Obj.RED_RESYNC_PHASE = 3 → s.red.blockBad = true → 
      ∃ u, exec (.xlBulkReceive t lane (.block false img)) s = .next (State.settle (s.land t) u) ∧
        u.red.attempt = 2 ∧
        u.get Obj.RED_RESYNC_PHASE = 1 ∧
        u.get Obj.RED_RESYNC_PROGRESS = 0 ∧
        u.sourcePending 142 ∧
        s.entriesBut u [Obj.RED_RESYNC_PHASE, Obj.RED_RESYNC_PROGRESS] ∧
        u = { s.land t with objs := u.objs, red := u.red, icu := u.icu, log := u.log, flash := u.flash, dict := u.dict, out := u.out }) ∧
    (∀ (lane gen : Nat), lane < 2 → s.lanUp (48 + lane) = true → s.hasPartner = true → 
      ∃ u, exec (.xlBulkReceive t lane (.planAck gen)) s = .next (State.settle (s.land t) u) ∧
        u.red = { s.red with planAcked := some gen } ∧
        s.onlyEntries u [] ∧
        u = { s.land t with objs := u.objs, red := u.red }) ∧
    (∀ (lane gen : Nat) (p : Plan), lane < 2 → s.lanUp (48 + lane) = true → s.hasPartner = true → s.devRole = roleStandby → 
      ∃ u, exec (.xlBulkReceive t lane (.plan p gen)) s = .next (State.settle (s.land t) u) ∧
        u.age = { s.age with accepted := some { plan := p, gen := gen, allowed := true, sender := none, boundary := none } } ∧
        u.out = [Out.record 0x24 [(gen : Int)]] ∧
        s.onlyEntries u [] ∧
        u = { s.land t with objs := u.objs, age := u.age, out := u.out }) ∧
    (∀ (lane trip turn : Nat) (l : List (Option Nat)), s.devState = stLinkup → lane < 2 → s.hasPartner = true → s.red.latency.set lane (some ((trip - turn) / 2)) = l → 
      ∃ u, exec (.xlLatencyMeasure t lane trip turn) s = .next (State.settle (s.land t) u) ∧
        u.red = { s.red with latency := l } ∧
        u.get Obj.RED_XL_LATENCY = min 0xFFFE ((l.filterMap id).foldl Nat.max 0 : Nat) ∧
        ((l.filterMap id).length = 2 → (∀ x ∈ l.filterMap id, 600 < x) → u.sourcePending 153) ∧
        s.onlyEntries u [Obj.RED_XL_LATENCY] ∧
        u = { s.land t with objs := u.objs, red := u.red, icu := u.icu }) ∧
    (∀ (width : Nat), s.hasPartner = true → 3 ≤ s.devState → s.devState ≤ 6 → s.clk.sleep = 0 ∨ tideWidth width = false → 
      ∃ u, exec (.tideInPulse t width) s = .next (State.settle (s.land t) u) ∧
        u.red = { s.red with pulses := s.red.pulses ++ [((s.land t).now - width, width)] } ∧
        s.otherIndices u [0x2F00] ∧
        u = { s.land t with objs := u.objs, red := u.red, cmt := u.cmt, icu := u.icu }) ∧
    (∀ (width : Nat), tideWidth width = true → bitOf s.wakeEnabled 1 = true → s.clk.sleep = 3 → 
      ∃ u, exec (.tideInPulse t width) s = .next (State.settle (s.land t) u) ∧
        u.clk.sleep = 4 ∧
        u.clk.wakeAt = max s.now t ∧
        u.bit Obj.PWR_WAKE_CAUSE 1 = true)

/-- At the end of its hold-off a STANDBY in BLOCKED or RUN takes the valve: role ACTIVE, the next epoch, the takeover counted and source 132. A change record without acknowledgement for two cycles is sent once more, and after two more is lost. A resynchronisation starts by request or by its timer in phase 1 with source 142, goes on as each phase completes, installs the image, and ends in role STANDBY beside an owner with source 143; a timeout, or a comparison that fails, is followed by a second attempt, whose failure is lasting with source 144 and the next start 60 s on. RED_PARTNER_ABSENT gives role ALONE, and cleared role ACTIVE; an accepted RED_SWAP_REQ waits for T_fin. -/
def Obligations.ClaimsAndResynchronisation : Prop :=
  ∀ (s : State) (t : Nat), 
    (∀ (n : Nat), s.orbRunning = true → s.red.claimAt = some n → orbLater n s.orbCount = false → s.red.claimSwap = false → s.devRole = roleStandby → s.devState = stBlocked ∨ s.devState = stRun → 
      ∃ u, exec (.claimHoldoffExpiry t) s = .next (State.settle (s.land t) u) ∧
        u.devRole = roleActive ∧
        u.get Obj.RED_EPOCH = nextEpoch (s.getN Obj.RED_EPOCH) ∧
        u.get Obj.RED_LAST_TAKEOVER_ORB = s.orbCount ∧
        u.get Obj.RED_TAKEOVER_COUNT = min (s.get Obj.RED_TAKEOVER_COUNT + 1) 0xFFFFFFFF ∧
        (u.red.claimAt, u.red.claimed, u.red.eclipse) = (none, some s.orbCount, some 0) ∧
        u.bit Obj.RED_STATUS 4 = false ∧
        u.sourcePending 132 ∧
        s.entriesBut u [Obj.RED_STATUS, Obj.RED_EPOCH, Obj.RED_LAST_TAKEOVER_ORB, Obj.RED_TAKEOVER_COUNT, Obj.RED_STATE_GEN, Obj.DEV_ROLE, Obj.AGE_STATUS] ∧
        u = { s.land t with objs := u.objs, red := u.red, cmt := u.cmt, age := u.age, icu := u.icu, log := u.log, flash := u.flash, dict := u.dict, out := u.out }) ∧
    (s.holdoffOver = false → 
      ∃ u, exec (.claimHoldoffExpiry t) s = .next (State.settle (s.land t) u) ∧
        u = s.land t) ∧
    (∀ (r : SentRecord) (n : Nat), s.red.records = [r] → r.sent = [n] → 2 ≤ (s.orbCount + 2 ^ 32 - n % 2 ^ 32) % 2 ^ 32 → 
      ∃ u, exec (.changeRecordTimeout t) s = .next (State.settle (s.land t) u) ∧
        u.red = { s.red with records := [{ r with sent := [s.orbCount, n] }] } ∧
        u.out = [Out.record 0x23 [(r.record.gen : Int)]] ∧
        s.onlyEntries u [] ∧
        u = { s.land t with objs := u.objs, red := u.red, out := u.out }) ∧
    (∀ (r : SentRecord) (n m : Nat), s.red.records = [r] → r.sent = [n, m] → 2 ≤ (s.orbCount + 2 ^ 32 - n % 2 ^ 32) % 2 ^ 32 → 
      ∃ u, exec (.changeRecordTimeout t) s = .next (State.settle (s.land t) u) ∧
        u.red = { s.red with records := [], recordLost := true } ∧
        u.get (Obj.LOG_RETRY_LASTING 12) = min (s.get (Obj.LOG_RETRY_LASTING 12) + 1) 0xFFFFFFFFFFFFFFFF ∧
        s.entriesBut u [] ∧
        u = { s.land t with objs := u.objs, red := u.red, icu := u.icu, log := u.log, flash := u.flash, dict := u.dict, out := u.out }) ∧
    (∀ (f : Sender), s.takesWrite t f Obj.RED_RESYNC_REQ 1 = true → 
      ∃ u, exec (.redResyncReq t f) s = .next (State.settle (s.land t) u) ∧
        u.get Obj.RED_RESYNC_PHASE = 1 ∧
        (u.red.attempt, u.red.startAt, u.red.wanted) = (1, (s.land t).now, false) ∧
        u.red.image = none ∧
        u.bit Obj.RED_STATUS 9 = true ∧
        u.get Obj.RED_RESYNC_PROGRESS = 0 ∧
        u.orb.silent = false ∧
        u.sourcePending 142 ∧
        Out.done ∈ u.out ∧
        s.entriesBut u [Obj.RED_STATUS, Obj.RED_RESYNC_PHASE, Obj.RED_RESYNC_PROGRESS] ∧
        u = { s.land t with objs := u.objs, red := u.red, orb := u.orb, icu := u.icu, log := u.log, flash := u.flash, dict := u.dict, out := u.out }) ∧
    (s.red.wanted = true → s.resyncAllowed = true → s.bit Obj.RED_CTRL 1 = true → s.hasPartner = true → 
      ∃ u, exec (.autoResyncTimer t) s = .next (State.settle (s.land t) u) ∧
        u.get Obj.RED_RESYNC_PHASE = 1 ∧
        (u.red.attempt, u.red.startAt, u.red.wanted) = (1, (s.land t).now, false) ∧
        u.red.image = none ∧
        u.bit Obj.RED_STATUS 9 = true ∧
        u.get Obj.RED_RESYNC_PROGRESS = 0 ∧
        u.orb.silent = false ∧
        u.sourcePending 142 ∧
        s.entriesBut u [Obj.RED_STATUS, Obj.RED_RESYNC_PHASE, Obj.RED_RESYNC_PROGRESS] ∧
        u = { s.land t with objs := u.objs, red := u.red, orb := u.orb, icu := u.icu, log := u.log, flash := u.flash, dict := u.dict, out := u.out }) ∧
    (∀ (d : Tide), s.tide = some d → s.resyncOn = true → s.partnerSeen = true → s.devRole = roleStale → s.getN Obj.RED_RESYNC_PHASE = 1 → d.role ≤ 1 → 
      ∃ u, exec (.resyncPhaseDone t true) s = .next (State.settle (s.land t) u) ∧
        u.get Obj.RED_RESYNC_PHASE = 2 ∧
        u.sourcePending 142 ∧
        s.entriesBut u [Obj.RED_RESYNC_PHASE] ∧
        u = { s.land t with objs := u.objs, red := u.red, icu := u.icu, log := u.log, flash := u.flash, dict := u.dict, out := u.out }) ∧
    (∀ (d : Tide), s.tide = some d → s.resyncOn = true → s.partnerSeen = true → s.devRole = roleStale → s.getN Obj.RED_RESYNC_PHASE = 2 → 
      ∃ u, exec (.resyncPhaseDone t true) s = .next (State.settle (s.land t) u) ∧
        u.get Obj.RED_RESYNC_PHASE = 3 ∧
        u.sourcePending 142 ∧
        s.entriesBut u [Obj.RED_RESYNC_PHASE] ∧
        u = { s.land t with objs := u.objs, red := u.red, icu := u.icu, log := u.log, flash := u.flash, dict := u.dict, out := u.out }) ∧
    (∀ (d : Tide), s.tide = some d → s.resyncOn = true → s.partnerSeen = true → s.devRole = roleStale → s.getN Obj.RED_RESYNC_PHASE = 3 → s.red.image.isSome = true ∨ s.resyncSource d = true → 
      ∃ u, exec (.resyncPhaseDone t true) s = .next (State.settle (s.land t) u) ∧
        u.get Obj.RED_RESYNC_PHASE = 4 ∧
        u.sourcePending 142 ∧
        s.entriesBut u [Obj.RED_RESYNC_PHASE] ∧
        u = { s.land t with objs := u.objs, red := u.red, icu := u.icu, log := u.log, flash := u.flash, dict := u.dict, out := u.out }) ∧
    (∀ (d : Tide) (img : DurableImage), s.tide = some d → s.resyncOn = true → s.partnerSeen = true → s.devRole = roleStale → s.getN Obj.RED_RESYNC_PHASE = 4 → s.red.image = some img → s.resyncSource d = false → img.entries = [] → s.red.toApply = [] → 
      ∃ u, exec (.resyncPhaseDone t true) s = .next (State.settle (s.land t) u) ∧
        u.get Obj.RED_RESYNC_PHASE = 5 ∧
        u.get Obj.RED_EPOCH = img.epoch ∧
        u.get Obj.RED_STATE_GEN = img.gen ∧
        u.red.applied = img.gen ∧
        u.gpf.tuned = img.descriptors ∧
        u.sourcePending 142 ∧
        s.entriesBut u [Obj.RED_RESYNC_PHASE, Obj.RED_EPOCH, Obj.RED_STATE_GEN, Obj.AGE_PLAN_GEN] ∧
        u = { s.land t with objs := u.objs, red := u.red, gpf := u.gpf, age := u.age, icu := u.icu, log := u.log, flash := u.flash, dict := u.dict, out := u.out }) ∧
    (∀ (d : Tide), s.tide = some d → s.resyncOn = true → s.partnerSeen = true → s.devRole = roleStale → s.getN Obj.RED_RESYNC_PHASE = 5 → d.role ≤ 1 → 
      ∃ u, exec (.resyncPhaseDone t true) s = .next (State.settle (s.land t) u) ∧
        u.devRole = roleStandby ∧
        u.get Obj.RED_RESYNC_PHASE = 6 ∧
        u.red.attempt = 0 ∧
        u.get Obj.RED_RESYNC_COUNT = min (s.get Obj.RED_RESYNC_COUNT + 1) 0xFFFFFFFF ∧
        u.get Obj.RED_RESYNC_TIME = saturateU 32 (((s.land t).now - s.red.startAt) / 1000 : Nat) ∧
        u.bit Obj.RED_STATUS 9 = false ∧
        u.sourcePending 143 ∧
        s.entriesBut u [Obj.RED_RESYNC_PHASE, Obj.RED_RESYNC_COUNT, Obj.RED_RESYNC_TIME, Obj.RED_STATUS, Obj.DEV_ROLE, Obj.ORB_STATUS] ∧
        u = { s.land t with objs := u.objs, red := u.red, icu := u.icu, log := u.log, flash := u.flash, dict := u.dict, out := u.out }) ∧
    (∀ (d : Tide), s.tide = some d → s.resyncOn = true → s.partnerSeen = true → s.devRole = roleStale → s.getN Obj.RED_RESYNC_PHASE = 5 → s.red.attempt = 1 → 
      ∃ u, exec (.resyncPhaseDone t false) s = .next (State.settle (s.land t) u) ∧
        u.red.attempt = 2 ∧
        u.get Obj.RED_RESYNC_PHASE = 1 ∧
        u.get Obj.RED_RESYNC_PROGRESS = 0 ∧
        u.sourcePending 142 ∧
        s.entriesBut u [Obj.RED_RESYNC_PHASE, Obj.RED_RESYNC_PROGRESS] ∧
        u = { s.land t with objs := u.objs, red := u.red, icu := u.icu, log := u.log, flash := u.flash, dict := u.dict, out := u.out }) ∧
    (s.red.attempt = 1 → s.red.phaseAt + s.resyncLimit ≤ (s.land t).now → 
      ∃ u, exec (.resyncPhaseTimeout t) s = .next (State.settle (s.land t) u) ∧
        u.red.attempt = 2 ∧
        u.get Obj.RED_RESYNC_PHASE = 1 ∧
        u.get Obj.RED_RESYNC_PROGRESS = 0 ∧
        u.sourcePending 142 ∧
        s.entriesBut u [Obj.RED_RESYNC_PHASE, Obj.RED_RESYNC_PROGRESS] ∧
        u = { s.land t with objs := u.objs, red := u.red, icu := u.icu, log := u.log, flash := u.flash, dict := u.dict, out := u.out }) ∧
    (s.red.attempt = 2 → s.red.phaseAt + s.resyncLimit ≤ (s.land t).now → 
      ∃ u, exec (.resyncPhaseTimeout t) s = .next (State.settle (s.land t) u) ∧
        u.red.attempt = 0 ∧
        u.red.retryAt = some ((s.land t).now + 60000000000) ∧
        u.get Obj.RED_RESYNC_PHASE = 7 ∧
        u.get Obj.RED_RESYNC_FAIL = min (s.get Obj.RED_RESYNC_FAIL + 1) 0xFFFFFFFF ∧
        u.bit Obj.RED_STATUS 9 = false ∧
        u.sourcePending 144 ∧
        s.entriesBut u [Obj.RED_RESYNC_PHASE, Obj.RED_RESYNC_FAIL, Obj.RED_STATUS] ∧
        u = { s.land t with objs := u.objs, red := u.red, icu := u.icu, log := u.log, flash := u.flash, dict := u.dict, out := u.out }) ∧
    (∀ (f : Sender), s.takesWrite t f Obj.RED_PARTNER_ABSENT 1 = true → 
      ∃ u, exec (.redPartnerAbsentSet t f) s = .next (State.settle (s.land t) u) ∧
        u.get Obj.RED_PARTNER_ABSENT = 1 ∧
        u.devRole = roleAlone ∧
        u.bit Obj.RED_STATUS 13 = true ∧
        u.causeActive causePartnerTrip = false ∧
        Out.done ∈ u.out ∧
        s.entriesBut u [Obj.RED_PARTNER_ABSENT, Obj.RED_STATUS, Obj.DEV_ROLE, Obj.PRT_TRIP_ACTIVE] ∧
        u = { s.land t with objs := u.objs, icu := u.icu, log := u.log, flash := u.flash, dict := u.dict, out := u.out }) ∧
    (∀ (f : Sender), s.takesWrite t f Obj.RED_PARTNER_ABSENT 0 = true → s.get Obj.RED_PARTNER_ABSENT = 1 → 
      ∃ u, exec (.redPartnerAbsentClear t f) s = .next (State.settle (s.land t) u) ∧
        u.get Obj.RED_PARTNER_ABSENT = 0 ∧
        u.devRole = roleActive ∧
        u.bit Obj.RED_STATUS 13 = false ∧
        Out.done ∈ u.out ∧
        s.entriesBut u [Obj.RED_PARTNER_ABSENT, Obj.RED_STATUS, Obj.DEV_ROLE] ∧
        u = { s.land t with objs := u.objs, red := u.red, icu := u.icu, log := u.log, flash := u.flash, dict := u.dict, out := u.out }) ∧
    (∀ (f : Sender), s.takesWrite t f Obj.RED_SWAP_REQ 1 = true → 
      ∃ u, exec (.redSwapReq t f) s = .next (State.settle (s.land t) u) ∧
        u.red = { s.red with swapDue := true } ∧
        u.out = [Out.done] ∧
        s.onlyEntries u [] ∧
        u = { s.land t with objs := u.objs, red := u.red, dict := u.dict, out := u.out })

/-- A wrap raises source 392 and is counted in LUNAR. A running core writes the shadow, which clears EXT_STALE; a shadow older than 2.0 s sets it, counted with source 391. On a port that hears PTP, a message outside Table 13.1 is counted; a Sync of the port in use makes the first step where it is automatic, in LOCKED steers the rate as R333 says, and beyond 1 ms freezes it in DISCONTINUITY with source 389; an Announce sets the master of its port, the port and grandmaster in use following with source 390 and the UTC offset; its timeout on the port in use takes LOCKED or ACQUIRING to HOLDOVER with source 387; peer delay is asked for, answered and taken from the four stamps. -/
def Obligations.TheCounterIsDisciplined : Prop :=
  ∀ (s : State) (t : Nat), 
    (s.devState ≠ stReset → s.devState ≠ stLunar → 
      ∃ u, exec (.timeCounterWrap t) s = .next (State.settle (s.land t) u) ∧
        u.sourcePending 392 ∧
        s.onlyEntries u [] ∧
        u = { s.land t with objs := u.objs, icu := u.icu }) ∧
    (s.devState = stLunar → 
      ∃ u, exec (.timeCounterWrap t) s = .next (State.settle (s.land t) u) ∧
        u.get Obj.TIM_LUNAR_WRAPS = min (s.get Obj.TIM_LUNAR_WRAPS + 1) 0xFFFFFFFF ∧
        u.sourcePending 392 ∧
        s.onlyEntries u [Obj.TIM_LUNAR_WRAPS] ∧
        u = { s.land t with objs := u.objs, icu := u.icu }) ∧
    (∀ (h v : Nat), s.hartRuns h = true → 
      ∃ u, exec (.timeShadowWrite t h v) s = .next (State.settle (s.land t) u) ∧
        u.tim = { s.tim with shadow := v % 2 ^ 64 } ∧
        u.bit Obj.TIM_STATUS 1 = false ∧
        s.onlyEntries u [Obj.TIM_STATUS] ∧
        u = { s.land t with objs := u.objs, tim := u.tim }) ∧
    (s.timWorks = true → (s.land t).shadowOld = true → s.bit Obj.TIM_STATUS 1 = false → 
      ∃ u, exec (.extStaleTimeout t) s = .next (State.settle (s.land t) u) ∧
        u.bit Obj.TIM_STATUS 1 = true ∧
        u.get Obj.TIM_EXT_STALE_COUNT = min (s.get Obj.TIM_EXT_STALE_COUNT + 1) 0xFFFFFFFF ∧
        u.sourcePending 391 ∧
        s.entriesBut u [Obj.TIM_STATUS, Obj.TIM_EXT_STALE_COUNT] ∧
        u = { s.land t with objs := u.objs, icu := u.icu, log := u.log, flash := u.flash, dict := u.dict, out := u.out }) ∧
    (∀ (port stamp frac : Nat) (origin : Int), s.ptpHeard port = true → 
      ∃ u, exec (.ptpSyncReceive t port false stamp frac origin) s = .next (State.settle (s.land t) u) ∧
        u.get Obj.TIM_PTP_IGNORED = min (s.get Obj.TIM_PTP_IGNORED + 1) 0xFFFFFFFF ∧
        s.onlyEntries u [Obj.TIM_PTP_IGNORED] ∧
        u = { s.land t with objs := u.objs }) ∧
    (∀ (port stamp frac : Nat) (origin o : Int), s.ptpHeard port = true → s.getN Obj.TIM_PTP_PORT = port → s.syncOffset port stamp frac origin = o → s.timState = 0 → s.bit Obj.TIM_CTRL 0 = true → s.tim.peerValid.getD port false = true → s.tim.pendingStep = none → s.orbRunning = false → 
      ∃ u, exec (.ptpSyncReceive t port true stamp frac origin) s = .next (State.settle (s.land t) u) ∧
        u.get Obj.TIM_LAST_STEP = round250 (-o) ∧
        u.get Obj.TIM_STEP_ORB = 0xFFFFFFFF ∧
        u.stepped = true ∧
        u.sourcePending 384 ∧
        u.timState = 1 ∧
        u.get Obj.TIM_OFFSET = saturate 32 o ∧
        u.tim.shadow = ((s.tim.shadow : Int) + round250 (-o)).toNat ∧
        s.otherIndices u [0x2C00, 0x2F00] ∧
        u = { s.land t with objs := u.objs, tim := u.tim, cmt := u.cmt, icu := u.icu, log := u.log, flash := u.flash, dict := u.dict, out := u.out }) ∧
    (∀ (port stamp frac : Nat) (origin o : Int) (n : Nat) (p f : Rat), s.ptpHeard port = true → s.getN Obj.TIM_PTP_PORT = port → s.syncOffset port stamp frac origin = o → s.timState = 2 → absInt o ≤ 1000000 → absInt o ≤ s.get Obj.TIM_LOCK_LIMIT → s.tim.lastSample = some n → clampQ (-((s.get Obj.TIM_SLEW_MAX : Rat) * 100)) ((s.get Obj.TIM_SLEW_MAX : Rat) * 100) (-(o : Rat) / ((s.get Obj.TIM_SERVO_TAU : Rat) / 1000)) = p → clampQ (-500000) 500000 ((s.get Obj.TIM_FREQ_EST : Rat) * 1000000000 / two40 - (o : Rat) * ((((s.land t).now - n : Nat) : Rat) / 1000000000) / (4 * ((s.get Obj.TIM_SERVO_TAU : Rat) / 1000) * ((s.get Obj.TIM_SERVO_TAU : Rat) / 1000))) = f → 
      ∃ u, exec (.ptpSyncReceive t port true stamp frac origin) s = .next (State.settle (s.land t) u) ∧
        u.timState = 2 ∧
        u.get Obj.TIM_FREQ_EST = roundAway (f * two40 / 1000000000) ∧
        u.get Obj.TIM_RATE_ADJ = roundAway (clampQ (-1000000) 1000000 (f + p) * two40 / 1000000000) ∧
        u.get Obj.TIM_OFFSET = saturate 32 o ∧
        (u.tim.lastSample, u.tim.lastOffset, u.tim.outRun) = (some (s.land t).now, o, 0) ∧
        s.onlyEntries u [Obj.TIM_OFFSET, Obj.TIM_FREQ_EST, Obj.TIM_RATE_ADJ, Obj.TIM_STATUS] ∧
        u = { s.land t with objs := u.objs, tim := u.tim, icu := u.icu }) ∧
    (∀ (port stamp frac : Nat) (origin o : Int), s.ptpHeard port = true → s.getN Obj.TIM_PTP_PORT = port → s.syncOffset port stamp frac origin = o → 1 ≤ s.timState → s.timState ≤ 3 → 1000000 < absInt o → 
      ∃ u, exec (.ptpSyncReceive t port true stamp frac origin) s = .next (State.settle (s.land t) u) ∧
        u.timState = 4 ∧
        u.get Obj.TIM_DISCONT_COUNT = min (s.get Obj.TIM_DISCONT_COUNT + 1) 0xFFFFFFFF ∧
        u.get Obj.TIM_RATE_ADJ = s.get Obj.TIM_FREQ_EST ∧
        u.get Obj.TIM_OFFSET = saturate 32 o ∧
        u.tim.lastOffset = o ∧
        u.sourcePending 389 ∧
        s.otherIndices u [0x2C00] ∧
        u = { s.land t with objs := u.objs, tim := u.tim, icu := u.icu, log := u.log, flash := u.flash, dict := u.dict, out := u.out }) ∧
    (∀ (identity : Nat) (dataset : List Nat) (utc : Int) (m : Option Master), s.ptpHeard 0 = true → s.tim.masters = [m, none] → 
      ∃ u, exec (.ptpAnnounceReceive t 0 true identity dataset utc) s = .next (State.settle (s.land t) u) ∧
        u.tim = { s.tim with masters := [some { identity := identity % 2 ^ 64, dataset := dataset }, none] } ∧
        u.get Obj.TIM_PTP_PORT = 0 ∧
        u.get Obj.TIM_GM_IDENTITY = (identity % 2 ^ 64 : Nat) ∧
        u.get Obj.TIM_UTC_OFFSET = signed 16 (unsigned 16 utc) ∧
        (s.getN Obj.TIM_PTP_PORT ≠ 0xFF → s.getN Obj.TIM_PTP_PORT ≠ 0 ∨ s.getN Obj.TIM_GM_IDENTITY ≠ identity % 2 ^ 64 → u.get Obj.TIM_GM_CHANGES = min (s.get Obj.TIM_GM_CHANGES + 1) 0xFFFFFFFF ∧ u.sourcePending 390) ∧
        s.onlyEntries u [Obj.TIM_PTP_PORT, Obj.TIM_GM_IDENTITY, Obj.TIM_GM_CHANGES, Obj.TIM_UTC_OFFSET] ∧
        u = { s.land t with objs := u.objs, tim := u.tim, icu := u.icu }) ∧
    (∀ (port identity : Nat) (dataset : List Nat) (utc : Int), s.ptpHeard port = true → s.tim.masters.length = 2 → 
      ∃ u, exec (.ptpAnnounceReceive t port true identity dataset utc) s = .next (State.settle (s.land t) u) ∧
        u.tim.masters = s.tim.masters.set port (some { identity := identity % 2 ^ 64, dataset := dataset }) ∧
        u.getN Obj.TIM_PTP_PORT = u.bestPort ∧
        s.onlyEntries u [Obj.TIM_PTP_PORT, Obj.TIM_GM_IDENTITY, Obj.TIM_GM_CHANGES, Obj.TIM_UTC_OFFSET] ∧
        u = { s.land t with objs := u.objs, tim := u.tim, icu := u.icu }) ∧
    (∀ (m : Master), s.ptpHeard 0 = true → s.tim.masters = [some m, none] → s.getN Obj.TIM_PTP_PORT = 0 → s.timState = 1 ∨ s.timState = 2 → 
      ∃ u, exec (.ptpAnnounceTimeout t 0) s = .next (State.settle (s.land t) u) ∧
        u.tim.masters = [none, none] ∧
        u.get Obj.TIM_PTP_PORT = 0xFF ∧
        u.timState = 3 ∧
        u.get Obj.TIM_RATE_ADJ = s.get Obj.TIM_FREQ_EST ∧
        u.sourcePending 387 ∧
        s.entriesBut u [Obj.TIM_PTP_PORT, Obj.TIM_GM_IDENTITY, Obj.TIM_STATE, Obj.TIM_RATE_ADJ, Obj.TIM_HOLDOVER_TIME] ∧
        u = { s.land t with objs := u.objs, tim := u.tim, icu := u.icu, log := u.log, flash := u.flash, dict := u.dict, out := u.out }) ∧
    (
      ∃ u, exec (.ptpPdelayTimer t) s = .next (State.settle (s.land t) u) ∧
        (u.out = ([0, 1].filter s.ptpHeard).map fun p => Out.eth p 2 [2, (s.land t).time32]) ∧
        s.onlyEntries u [] ∧
        u = { s.land t with objs := u.objs, out := u.out }) ∧
    (∀ (port seq req : Nat), s.ptpHeard port = true → 
      ∃ u, exec (.ptpPdelayReqReceive t port true seq req) s = .next (State.settle (s.land t) u) ∧
        u.out = [Out.eth port 2 [3, seq, req, (s.land t).time32], Out.eth port 2 [10, seq, req, (s.land t).time32]] ∧
        s.onlyEntries u [] ∧
        u = { s.land t with objs := u.objs, out := u.out }) ∧
    (∀ (port : Nat) (t1 t2 t3 t4 : Int), s.ptpHeard port = true → 
      ∃ u, exec (.ptpPdelayRespReceive t port true t1 t2 t3 t4) s = .next (State.settle (s.land t) u) ∧
        u.get (Obj.TIM_PEER_DELAY port) = saturateU 32 (s.peerDelay port t1 t2 t3 t4) ∧
        u.tim = { s.tim with peerValid := s.tim.peerValid.set port true } ∧
        s.onlyEntries u [Obj.TIM_PEER_DELAY port] ∧
        u = { s.land t with objs := u.objs, tim := u.tim })

/-- An edge of PPS_IN within 10 us of a second after the one before qualifies, as the first does, and gives its offset; an expected second without one counts with source 396, and a second such loses the source PPS_IN. At a BRANCH with source ORB_SYNC an edge places the root's boundary, makes the first step and the start, and is a sample within 1,000 ns; three misses in a row lose the source. TIM_SET_TIME holds the value of the first step, with source FREE making it; an accepted re-epoch is pending for the boundary ahead. A frame queued 200 ns or more ahead waits for its time and leaves with its stamp; a late one counts, or is dropped, and a full queue takes none. A generator armed 200 ns or more ahead waits for START, rises for WIDTH at its time, falls, and a ONE_SHOT is then OFF. -/
def Obligations.TimedEventsAndTheirSources : Prop :=
  ∀ (s : State) (t : Nat), 
    (s.timWorks = true → s.tim.ppsPrev.all (fun p => decide (absInt (((s.land t).nowExt : Int) - p - 1000000000) ≤ 10000)) = true → s.get Obj.TIM_SOURCE ≠ 1 → 
      ∃ u, exec (.ppsInEdge t) s = .next (State.settle (s.land t) u) ∧
        u.get Obj.TIM_PPS_IN_OFFSET = saturate 32 ((((s.land t).nowExt : Int) - s.get Obj.TIM_PPS_IN_DELAY) - nearestSecond (((s.land t).nowExt : Int) - s.get Obj.TIM_PPS_IN_DELAY)) ∧
        (u.tim.ppsPrev, u.tim.ppsFails) = (some (s.land t).nowExt, 0) ∧
        u.bit Obj.TIM_STATUS 4 = true ∧
        s.otherIndices u [0x2C20, 0x2C00, 0x2F00] ∧
        u = { s.land t with objs := u.objs, tim := u.tim, cmt := u.cmt, icu := u.icu }) ∧
    (∀ (p : Nat), s.timWorks = true → s.tim.ppsPrev = some p → 10000 < absInt (((s.land t).nowExt : Int) - p - 1000000000) → 
      ∃ u, exec (.ppsInEdge t) s = .next (State.settle (s.land t) u) ∧
        s.otherIndices u [0x2F00] ∧
        u = { s.land t with objs := u.objs, cmt := u.cmt, icu := u.icu }) ∧
    (∀ (v : Nat), s.timWorks = true → s.tim.ppsPrev = none → s.get Obj.TIM_SOURCE = 1 → s.timState = 0 → s.tim.setTime = some v → s.tim.pendingStep = none → s.orbRunning = false → 
      ∃ u, exec (.ppsInEdge t) s = .next (State.settle (s.land t) u) ∧
        u.get Obj.TIM_LAST_STEP = round250 ((v : Int) + s.get Obj.TIM_PPS_IN_DELAY - (s.land t).nowExt) ∧
        u.get Obj.TIM_STEP_ORB = 0xFFFFFFFF ∧
        u.stepped = true ∧
        u.sourcePending 384 ∧
        u.timState = 1 ∧
        s.otherIndices u [0x2C20, 0x2C00, 0x2F00] ∧
        u = { s.land t with objs := u.objs, tim := u.tim, cmt := u.cmt, icu := u.icu, log := u.log, flash := u.flash, dict := u.dict, out := u.out }) ∧
    (∀ (p : Nat), s.timWorks = true → (s.land t).ppsOverdue = true → s.tim.ppsPrev = some p → s.tim.ppsFails = 0 → 
      ∃ u, exec (.ppsInMiss t) s = .next (State.settle (s.land t) u) ∧
        u.get Obj.TIM_PPS_IN_MISS = min (s.get Obj.TIM_PPS_IN_MISS + 1) 0xFFFFFFFF ∧
        u.bit Obj.TIM_STATUS 4 = false ∧
        u.tim = { s.tim with ppsPrev := some (p + 1000000000), ppsFails := 1 } ∧
        u.sourcePending 396 ∧
        s.onlyEntries u [Obj.TIM_PPS_IN_MISS, Obj.TIM_STATUS] ∧
        u = { s.land t with objs := u.objs, tim := u.tim, icu := u.icu }) ∧
    (s.timWorks = true → (s.land t).ppsOverdue = true → s.tim.ppsFails = 1 → s.get Obj.TIM_SOURCE = 1 → s.timState = 1 ∨ s.timState = 2 → 
      ∃ u, exec (.ppsInMiss t) s = .next (State.settle (s.land t) u) ∧
        u.timState = 3 ∧
        u.tim.ppsPrev = none ∧
        u.get Obj.TIM_RATE_ADJ = s.get Obj.TIM_FREQ_EST ∧
        u.sourcePending 396 ∧
        u.sourcePending 387 ∧
        s.entriesBut u [Obj.TIM_PPS_IN_MISS, Obj.TIM_STATUS, Obj.TIM_STATE, Obj.TIM_RATE_ADJ, Obj.TIM_HOLDOVER_TIME] ∧
        u = { s.land t with objs := u.objs, tim := u.tim, icu := u.icu, log := u.log, flash := u.flash, dict := u.dict, out := u.out }) ∧
    (∀ (o : Int), s.timWorks = true → s.get Obj.LNK_TREE_ROLE = 2 → s.get Obj.TIM_SOURCE = 2 → s.stepped = true → s.orbRunning = true → (if absInt ((((s.land t).now : Int) + (s.get Obj.TIM_ORB_SYNC_LEAD - s.get Obj.TIM_ORB_SYNC_DELAY)) - ((s.orb.boundary + s.period : Nat) : Int)) ≤ absInt ((((s.land t).now : Int) + (s.get Obj.TIM_ORB_SYNC_LEAD - s.get Obj.TIM_ORB_SYNC_DELAY)) - s.orb.boundary) then (((s.land t).now : Int) + (s.get Obj.TIM_ORB_SYNC_LEAD - s.get Obj.TIM_ORB_SYNC_DELAY)) - ((s.orb.boundary + s.period : Nat) : Int) else (((s.land t).now : Int) + (s.get Obj.TIM_ORB_SYNC_LEAD - s.get Obj.TIM_ORB_SYNC_DELAY)) - s.orb.boundary) = o → absInt o ≤ 1000 → 
      ∃ u, exec (.orbSyncInEdge t) s = .next (State.settle (s.land t) u) ∧
        u.get Obj.TIM_ORB_SYNC_ERR = o ∧
        u.get Obj.TIM_OFFSET = saturate 32 o ∧
        u.bit Obj.TIM_STATUS 5 = true ∧
        u.tim.orbMisses = 0 ∧
        s.otherIndices u [0x2C00, 0x2C30, 0x2F00] ∧
        u = { s.land t with objs := u.objs, tim := u.tim, cmt := u.cmt, icu := u.icu, log := u.log, flash := u.flash, dict := u.dict, out := u.out }) ∧
    (∀ (label : Nat), s.timWorks = true → s.get Obj.LNK_TREE_ROLE = 2 → s.get Obj.TIM_SOURCE = 2 → s.stepped = false → s.tim.rootLabel = some label → s.orbRunning = false → 
      ∃ u, exec (.orbSyncInEdge t) s = .next (State.settle (s.land t) u) ∧
        u.get Obj.TIM_LAST_STEP = round250 ((label : Int) - (((s.land t).nowExt : Int) + (s.get Obj.TIM_ORB_SYNC_LEAD - s.get Obj.TIM_ORB_SYNC_DELAY))) ∧
        u.get Obj.TIM_STEP_ORB = 0xFFFFFFFF ∧
        u.stepped = true ∧
        u.sourcePending 384 ∧
        u.tim.orbStart = some (((s.land t).now : Int) + (s.get Obj.TIM_ORB_SYNC_LEAD - s.get Obj.TIM_ORB_SYNC_DELAY)).toNat ∧
        u.tim.rootLabel = none ∧
        s.otherIndices u [0x2C00, 0x2F00] ∧
        u = { s.land t with objs := u.objs, tim := u.tim, cmt := u.cmt, icu := u.icu, log := u.log, flash := u.flash, dict := u.dict, out := u.out }) ∧
    (s.timWorks = true → s.get Obj.LNK_TREE_ROLE = 2 → s.get Obj.TIM_SOURCE = 2 → s.stepped = true → s.orbRunning = true → 
      ∃ u, exec (.orbSyncMiss t) s = .next (State.settle (s.land t) u) ∧
        u.get Obj.TIM_ORB_SYNC_MISS_COUNT = min (s.get Obj.TIM_ORB_SYNC_MISS_COUNT + 1) 0xFFFFFFFF ∧
        u.bit Obj.TIM_STATUS 5 = false ∧
        u.tim.orbMisses = s.tim.orbMisses + 1 ∧
        u.sourcePending 397 ∧
        (s.tim.orbMisses = 2 → u.sourcePending 398 ∧ (s.timState = 1 ∨ s.timState = 2 → u.timState = 3)) ∧
        s.otherIndices u [0x2C00, 0x2C30] ∧
        u = { s.land t with objs := u.objs, tim := u.tim, icu := u.icu, log := u.log, flash := u.flash, dict := u.dict, out := u.out }) ∧
    (∀ (f : Sender) (v : Nat), v < 2 ^ 64 → s.takesWrite t f Obj.TIM_SET_TIME v = true → s.get Obj.TIM_SOURCE ≠ 3 → 
      ∃ u, exec (.timSetTime t f v) s = .next (State.settle (s.land t) u) ∧
        u.tim = { s.tim with setTime := some v } ∧
        u.out = [Out.done] ∧
        s.onlyEntries u [] ∧
        u = { s.land t with objs := u.objs, tim := u.tim, dict := u.dict, out := u.out }) ∧
    (∀ (f : Sender) (v : Nat), v < 2 ^ 64 → s.takesWrite t f Obj.TIM_SET_TIME v = true → s.get Obj.TIM_SOURCE = 3 → s.tim.pendingStep = none → s.orbRunning = false → 
      ∃ u, exec (.timSetTime t f v) s = .next (State.settle (s.land t) u) ∧
        u.get Obj.TIM_LAST_STEP = round250 ((v : Int) - (s.land t).nowExt) ∧
        u.get Obj.TIM_STEP_ORB = 0xFFFFFFFF ∧
        u.stepped = true ∧
        u.sourcePending 384 ∧
        u.timState = 5 ∧
        Out.done ∈ u.out ∧
        s.otherIndices u [0x2C00, 0x2F00] ∧
        u = { s.land t with objs := u.objs, tim := u.tim, cmt := u.cmt, icu := u.icu, log := u.log, flash := u.flash, dict := u.dict, out := u.out }) ∧
    (∀ (f : Sender), s.takesWrite t f Obj.TIM_REEPOCH_REQ 1 = true → s.orbRunning = true → 
      ∃ u, exec (.timReepochReq t f) s = .next (State.settle (s.land t) u) ∧
        u.tim = { s.tim with pendingStep := some (-s.tim.lastOffset, s.boundaryAhead) } ∧
        u.bit Obj.TIM_STATUS 6 = true ∧
        u.get Obj.TIM_EPOCH_COUNT = min (s.get Obj.TIM_EPOCH_COUNT + 1) 0xFFFFFFFF ∧
        Out.done ∈ u.out ∧
        s.entriesBut u [Obj.TIM_STATUS, Obj.TIM_EPOCH_COUNT, Obj.RED_STATE_GEN] ∧
        u = { s.land t with objs := u.objs, tim := u.tim, red := u.red, icu := u.icu, log := u.log, flash := u.flash, dict := u.dict, out := u.out }) ∧
    (∀ (h port time buffer length : Nat) (q : List Launch) (dropLate : Bool) (d : Nat), s.hartRuns h = true → s.stepped = true → port < 2 → s.tim.queues[port]? = some q → q.length < 16 → time < 2 ^ 32 → buffer < 2 ^ 32 → length < 2048 → (s.land t).ahead time = some d → 200 ≤ d → 
      ∃ u, exec (.launchQueueWrite t h port time buffer length dropLate) s = .next (State.settle (s.land t) u) ∧
        u.tim = { s.tim with queues := s.tim.queues.set port (q ++ [{ time := time, buffer := buffer, length := length, dropLate := dropLate, late := false }]) } ∧
        s.onlyEntries u [] ∧
        u = { s.land t with objs := u.objs, tim := u.tim }) ∧
    (∀ (h port time buffer length : Nat) (q : List Launch), s.hartRuns h = true → s.stepped = true → port < 2 → s.tim.queues[port]? = some q → q.length < 16 → time < 2 ^ 32 → buffer < 2 ^ 32 → length < 2048 → ((s.land t).ahead time).all (fun d => decide (d < 200)) = true → 
      ∃ u, exec (.launchQueueWrite t h port time buffer length false) s = .next (State.settle (s.land t) u) ∧
        u.tim = { s.tim with queues := s.tim.queues.set port (q ++ [{ time := time, buffer := buffer, length := length, dropLate := false, late := true }]) } ∧
        u.get Obj.TIM_LATE_COUNT = min (s.get Obj.TIM_LATE_COUNT + 1) 0xFFFFFFFF ∧
        u.get (Obj.LOG_CNT 0x12) = min (s.get (Obj.LOG_CNT 0x12) + 1) 0xFFFFFFFFFFFFFFFF ∧
        u.sourcePending 393 ∧
        s.onlyEntries u [Obj.TIM_LATE_COUNT, Obj.LOG_CNT 0x12] ∧
        u = { s.land t with objs := u.objs, tim := u.tim, icu := u.icu }) ∧
    (∀ (h port time buffer length : Nat) (q : List Launch), s.hartRuns h = true → s.stepped = true → port < 2 → s.tim.queues[port]? = some q → q.length < 16 → time < 2 ^ 32 → buffer < 2 ^ 32 → length < 2048 → ((s.land t).ahead time).all (fun d => decide (d < 200)) = true → 
      ∃ u, exec (.launchQueueWrite t h port time buffer length true) s = .next (State.settle (s.land t) u) ∧
        u.get Obj.TIM_DROP_COUNT = min (s.get Obj.TIM_DROP_COUNT + 1) 0xFFFFFFFF ∧
        u.tim.launched.head? = some (port, time, false, true, true, (s.land t).time32) ∧
        u.sourcePending 394 ∧
        s.onlyEntries u [Obj.TIM_DROP_COUNT] ∧
        u = { s.land t with objs := u.objs, tim := u.tim, icu := u.icu }) ∧
    (∀ (h port time buffer length : Nat) (dropLate : Bool), s.hartRuns h = true → s.stepped = true → port < 2 → 16 ≤ (s.tim.queues.getD port []).length → 
      ∃ u, exec (.launchQueueWrite t h port time buffer length dropLate) s = .next (State.settle (s.land t) u) ∧
        u.get Obj.TIM_QUEUE_FULL_COUNT = min (s.get Obj.TIM_QUEUE_FULL_COUNT + 1) 0xFFFFFFFF ∧
        s.onlyEntries u [Obj.TIM_QUEUE_FULL_COUNT] ∧
        u = { s.land t with objs := u.objs }) ∧
    (∀ (port : Nat) (e : Launch), s.timWorks = true → s.served = true → port < 2 → (s.land t).launchNext port = some e → e.late = true ∨ (s.land t).ahead e.time = some 0 → s.tim.busyUntil.getD port 0 ≤ (s.land t).now → 
      ∃ u, exec (.timedFrameLaunch t port) s = .next (State.settle (s.land t) u) ∧
        u.out = [Out.eth port 3 [e.buffer, e.length]] ∧
        u.tim.launched.head? = some (port, e.time, true, e.late, false, (s.land t).time32) ∧
        s.onlyEntries u [] ∧
        u = { s.land t with objs := u.objs, tim := u.tim, out := u.out }) ∧
    (∀ (port : Nat) (e : Launch), s.timWorks = true → s.served = true → port < 2 → (s.land t).launchNext port = some e → e.late = false → e.dropLate = false → (s.land t).ahead e.time = some 0 → (s.land t).now < s.tim.busyUntil.getD port 0 → 
      ∃ u, exec (.timedFrameLaunch t port) s = .next (State.settle (s.land t) u) ∧
        u.get Obj.TIM_LATE_COUNT = min (s.get Obj.TIM_LATE_COUNT + 1) 0xFFFFFFFF ∧
        u.sourcePending 393 ∧
        s.onlyEntries u [Obj.TIM_LATE_COUNT, Obj.LOG_CNT 0x12] ∧
        u = { s.land t with objs := u.objs, tim := u.tim, icu := u.icu }) ∧
    (∀ (f : Sender) (g d : Nat), g < 16 → s.takesWrite t f (Obj.TIM_GEN_CTRL g) (withField (s.getN (Obj.TIM_GEN_CTRL g)) 0 2 1 : Nat) = true → field (s.getN (Obj.TIM_GEN_CTRL g)) 0 2 ≠ 1 → (s.land t).ahead (s.getN (Obj.TIM_GEN_START g)) = some d → 200 ≤ d → 
      ∃ u, exec (.pulseGeneratorArm t f g 1) s = .next (State.settle (s.land t) u) ∧
        field (u.getN (Obj.TIM_GEN_CTRL g)) 0 2 = 1 ∧
        u.getN (Obj.TIM_GEN_NEXT g) = s.getN (Obj.TIM_GEN_START g) ∧
        u.get (Obj.TIM_GEN_STATUS g) = 1 ∧
        u.out = [Out.done] ∧
        s.onlyEntries u [Obj.TIM_GEN_CTRL g, Obj.TIM_GEN_STATUS g, Obj.TIM_GEN_NEXT g] ∧
        u = { s.land t with objs := u.objs, dict := u.dict, out := u.out }) ∧
    (∀ (f : Sender) (g : Nat), g < 16 → s.takesWrite t f (Obj.TIM_GEN_CTRL g) (withField (s.getN (Obj.TIM_GEN_CTRL g)) 0 2 0 : Nat) = true → field (s.getN (Obj.TIM_GEN_CTRL g)) 0 2 ≠ 0 → 
      ∃ u, exec (.pulseGeneratorArm t f g 0) s = .next (State.settle (s.land t) u) ∧
        field (u.getN (Obj.TIM_GEN_CTRL g)) 0 2 = 0 ∧
        u.tim = { s.tim with genFall := s.tim.genFall.set g none } ∧
        u.get (Obj.TIM_GEN_STATUS g) = 0 ∧
        u.out = [Out.done] ∧
        s.onlyEntries u [Obj.TIM_GEN_CTRL g, Obj.TIM_GEN_STATUS g] ∧
        u = { s.land t with objs := u.objs, tim := u.tim, dict := u.dict, out := u.out }) ∧
    (∀ (g : Nat), s.timWorks = true → g < 16 → s.tim.genFall[g]? = some none → s.genMode g ≠ 0 → (s.land t).ahead (s.getN (Obj.TIM_GEN_NEXT g)) = some 0 → 
      ∃ u, exec (.pulseGeneratorEdge t g) s = .next (State.settle (s.land t) u) ∧
        u.tim.genFall[g]? = some (some (((s.land t).time32 + s.genWidth g) % 2 ^ 32)) ∧
        (s.genMode g = 2 → u.getN (Obj.TIM_GEN_NEXT g) = (s.getN (Obj.TIM_GEN_NEXT g) + s.getN (Obj.TIM_GEN_PERIOD g)) % 2 ^ 32) ∧
        (u.out = (s.genPin g).toList.map fun p => Out.pin p true) ∧
        s.onlyEntries u [Obj.TIM_GEN_NEXT g] ∧
        u = { s.land t with objs := u.objs, tim := u.tim, car := u.car, cmt := u.cmt, icu := u.icu, out := u.out }) ∧
    (∀ (g n : Nat), s.timWorks = true → g < 16 → s.tim.genFall[g]? = some (some n) → (s.land t).ahead n = some 0 → s.genMode g = 1 → 
      ∃ u, exec (.pulseGeneratorEdge t g) s = .next (State.settle (s.land t) u) ∧
        u.tim = { s.tim with genFall := s.tim.genFall.set g none } ∧
        field (u.getN (Obj.TIM_GEN_CTRL g)) 0 2 = 0 ∧
        u.bit (Obj.TIM_GEN_STATUS g) 0 = false ∧
        (u.out = (s.genPin g).toList.map fun p => Out.pin p false) ∧
        s.onlyEntries u [Obj.TIM_GEN_CTRL g, Obj.TIM_GEN_STATUS g] ∧
        u = { s.land t with objs := u.objs, tim := u.tim, out := u.out })

/-- KOR.WAIT stalls the engine until its instant, answers PASSED and counts where the instant is behind it or the sequencer stands, and takes an illegal-instruction exception for events 5 to 15; the strobe completes it with ORB_COUNT and BEYOND. KOR.REFDONE before T_ref closes the page for the cycle and answers 0, later it counts and answers 1; both enter the slack. KOR.OFS answers offset and ORB_COUNT. In user mode the three need bit 0 of mkorctl. KOR.FRET outside fast mode is illegal; in fast mode it completes the source and returns to mkorfepc. A write to another engine's page is counted only. An exception halts an engine with its cause and local interrupt 16 + e at both service core pairs; an accepted ENG_RESTART loads and releases it. -/
def Obligations.EnginesRunTheirInstructions : Prop :=
  ∀ (s : State) (t : Nat), 
    (∀ (e ctl : Nat) (user : Bool) (ev off : Nat), s.engRuns e = true → s.eng.harts.length = 10 → user = false ∨ ctl % 2 = 1 → ev < 5 → off < 2 ^ 32 → s.orbRunning = true → ev = 1 ∨ (ev = 0 ∧ s.period ≤ off) ∨ (s.land t).offset < s.korOffset ev off → 
      ∃ u, exec (.korWait t e ctl user ev off) s = .next (State.settle (s.land t) u) ∧
        (u.eng = { s.eng with harts := updateAt s.eng.harts e fun h => { h with korctl := ctl % 2, waiting := some (ev, off, decide (ev = 0 ∧ s.period ≤ off), s.orbCount) } }) ∧
        u.out = [] ∧
        s.onlyEntries u [] ∧
        u = { s.land t with objs := u.objs, eng := u.eng }) ∧
    (∀ (e ctl : Nat) (user : Bool) (ev off : Nat), s.engRuns e = true → s.eng.harts.length = 10 → user = false ∨ ctl % 2 = 1 → ev < 5 → off < 2 ^ 32 → s.orbRunning = false ∨ (ev ≠ 1 ∧ ¬(ev = 0 ∧ s.period ≤ off) ∧ s.korOffset ev off ≤ (s.land t).offset) → 
      ∃ u, exec (.korWait t e ctl user ev off) s = .next (State.settle (s.land t) u) ∧
        u.get (Obj.ENG_WAIT_PASSED e) = min (s.get (Obj.ENG_WAIT_PASSED e) + 1) 0xFFFFFFFF ∧
        (u.eng = { s.eng with harts := updateAt s.eng.harts e fun h => { h with korctl := ctl % 2 } }) ∧
        u.out = [Out.core e ((s.orbCount + 2 ^ 63 : Nat) : Int)] ∧
        s.onlyEntries u [Obj.ENG_WAIT_PASSED e] ∧
        u = { s.land t with objs := u.objs, eng := u.eng, out := u.out }) ∧
    (∀ (e ctl : Nat) (user : Bool) (ev off : Nat), s.engRuns e = true → s.eng.harts.length = 10 → user = false ∨ ctl % 2 = 1 → (s.eng.harts[e]?).map (·.fast) = some false → 5 ≤ ev → ev < 16 → 
      ∃ u, exec (.korWait t e ctl user ev off) s = .next (State.settle (s.land t) u) ∧
        (u.eng = { s.eng with harts := updateAt s.eng.harts e fun h => { h with korctl := ctl % 2 } }) ∧
        u.out = [Out.exception e 2] ∧
        s.onlyEntries u [] ∧
        u = { s.land t with objs := u.objs, eng := u.eng, out := u.out }) ∧
    (∀ (e ev off count : Nat) (beyond : Bool), s.engRuns e = true → (s.eng.harts[e]?).bind (·.waiting) = some (ev, off, beyond, count) → s.orbCount ≠ count ∨ (ev ≠ 1 ∧ beyond = false ∧ s.korOffset ev off ≤ (s.land t).offset) → 
      ∃ u, exec (.korWaitComplete t e) s = .next (State.settle (s.land t) u) ∧
        (u.eng = { s.eng with harts := updateAt s.eng.harts e fun h => { h with waiting := none } }) ∧
        (u.out = [Out.core e ((s.orbCount + (if beyond then 2 ^ 62 else 0) : Nat) : Int)]) ∧
        s.onlyEntries u [] ∧
        u = { s.land t with objs := u.objs, eng := u.eng, out := u.out }) ∧
    (∀ (e ctl : Nat) (user : Bool), s.engRuns e = true → s.eng.harts.length = 10 → user = false ∨ ctl % 2 = 1 → s.orbRunning = true → ((s.land t).offset : Int) < s.get Obj.ORB_T_REF → 
      ∃ u, exec (.korRefdone t e ctl user) s = .next (State.settle (s.land t) u) ∧
        (u.eng = { s.eng with harts := updateAt s.eng.harts e fun h => { h with korctl := ctl % 2, pageDone := true, pageCycle := s.orbCount } }) ∧
        u.get (Obj.ENG_REF_SLACK_MIN e) = min (s.get (Obj.ENG_REF_SLACK_MIN e)) (s.get Obj.ORB_T_REF - (s.land t).offset) ∧
        u.out = [Out.core e 0] ∧
        s.onlyEntries u [Obj.ENG_REF_SLACK_MIN e] ∧
        u = { s.land t with objs := u.objs, eng := u.eng, out := u.out }) ∧
    (∀ (e ctl : Nat) (user : Bool), s.engRuns e = true → s.eng.harts.length = 10 → user = false ∨ ctl % 2 = 1 → s.orbRunning = true → s.get Obj.ORB_T_REF ≤ (s.land t).offset → 
      ∃ u, exec (.korRefdone t e ctl user) s = .next (State.settle (s.land t) u) ∧
        (u.eng = { s.eng with harts := updateAt s.eng.harts e fun h => { h with korctl := ctl % 2 } }) ∧
        u.get (Obj.ENG_REF_LATE_DONE e) = min (s.get (Obj.ENG_REF_LATE_DONE e) + 1) 0xFFFFFFFF ∧
        u.get (Obj.ENG_REF_SLACK_MIN e) = min (s.get (Obj.ENG_REF_SLACK_MIN e)) (s.get Obj.ORB_T_REF - (s.land t).offset) ∧
        u.out = [Out.core e 1] ∧
        s.onlyEntries u [Obj.ENG_REF_SLACK_MIN e, Obj.ENG_REF_LATE_DONE e] ∧
        u = { s.land t with objs := u.objs, eng := u.eng, out := u.out }) ∧
    (∀ (e ctl : Nat) (user : Bool), s.engRuns e = true → s.eng.harts.length = 10 → user = false ∨ ctl % 2 = 1 → 
      ∃ u, exec (.korOfs t e ctl user) s = .next (State.settle (s.land t) u) ∧
        (u.eng = { s.eng with harts := updateAt s.eng.harts e fun h => { h with korctl := ctl % 2 } }) ∧
        u.out = [Out.core e ((s.land t).offset % 2 ^ 32 + 2 ^ 32 * s.orbCount : Nat)] ∧
        s.onlyEntries u [] ∧
        u = { s.land t with objs := u.objs, eng := u.eng, out := u.out }) ∧
    (∀ (e ctl : Nat), s.engRuns e = true → (s.eng.harts[e]?).map (·.fast) = some false → ctl % 2 = 0 → 
      ∃ u, exec (.korOfs t e ctl true) s = .next (State.settle (s.land t) u) ∧
        (u.eng = { s.eng with harts := updateAt s.eng.harts e fun h => { h with korctl := ctl % 2 } }) ∧
        u.out = [Out.exception e 2] ∧
        s.onlyEntries u [] ∧
        u = { s.land t with objs := u.objs, eng := u.eng, out := u.out }) ∧
    (∀ (e : Nat), s.engRuns e = true → (s.eng.harts[e]?).map (·.fast) = some false → 
      ∃ u, exec (.korFret t e) s = .next (State.settle (s.land t) u) ∧
        u.out = [Out.exception e 2] ∧
        s.onlyEntries u [] ∧
        u = { s.land t with objs := u.objs, out := u.out }) ∧
    (∀ (e : Nat) (h : Hart), s.engRuns e = true → s.eng.harts[e]? = some h → h.fast = true → (h.fcause, e) ∈ s.icu.active → s.icu.pending = [] → 
      ∃ u, exec (.korFret t e) s = .next (State.settle (s.land t) u) ∧
        u.icu = { s.icu with active := s.icu.active.filter (· ≠ (h.fcause, e)) } ∧
        u.get (Obj.ENG_FAST_MAX e) = max (s.get (Obj.ENG_FAST_MAX e)) (((s.land t).now - h.fastAt : Nat) : Int) ∧
        (u.eng = { s.eng with harts := updateAt s.eng.harts e fun h => { h with fast := false, fcause := 0x3FF } }) ∧
        u.out = [Out.core e h.fepc] ∧
        s.onlyEntries u [Obj.ENG_FAST_MAX e] ∧
        u = { s.land t with objs := u.objs, eng := u.eng, icu := u.icu, out := u.out }) ∧
    (∀ (e : Nat), s.engRuns e = true → s.orbRunning = true → ((s.land t).offset : Int) < s.get Obj.ORB_T_REF → 
      ∃ u, exec (.refPageDoneWrite t e e 1) s = .next (State.settle (s.land t) u) ∧
        (u.eng = { s.eng with harts := updateAt s.eng.harts e fun h => { h with pageDone := true, pageCycle := s.orbCount } }) ∧
        u.get (Obj.ENG_REF_SLACK_MIN e) = min (s.get (Obj.ENG_REF_SLACK_MIN e)) (s.get Obj.ORB_T_REF - (s.land t).offset) ∧
        s.onlyEntries u [Obj.ENG_REF_SLACK_MIN e] ∧
        u = { s.land t with objs := u.objs, eng := u.eng }) ∧
    (∀ (e page v : Nat), s.engRuns e = true → e ≠ page → 
      ∃ u, exec (.refPageDoneWrite t e page v) s = .next (State.settle (s.land t) u) ∧
        u.get (Obj.ENG_REF_FOREIGN) = min (s.get (Obj.ENG_REF_FOREIGN) + 1) 0xFFFFFFFF ∧
        s.onlyEntries u [Obj.ENG_REF_FOREIGN] ∧
        u = { s.land t with objs := u.objs }) ∧
    (∀ (e reg : Nat) (v : Int), s.engRuns e = true → reg < 16 → -(2 ^ 31) ≤ v → v < 2 ^ 31 → 
      ∃ u, exec (.referencePageWrite t e e reg v) s = .next (State.settle (s.land t) u) ∧
        (u.eng = { s.eng with harts := updateAt s.eng.harts e fun h => { h with page := h.page.set reg v } }) ∧
        s.onlyEntries u [] ∧
        u = { s.land t with objs := u.objs, eng := u.eng }) ∧
    (∀ (e page reg : Nat) (v : Int), s.engRuns e = true → e ≠ page → 
      ∃ u, exec (.referencePageWrite t e page reg v) s = .next (State.settle (s.land t) u) ∧
        u.get (Obj.ENG_REF_FOREIGN) = min (s.get (Obj.ENG_REF_FOREIGN) + 1) 0xFFFFFFFF ∧
        s.onlyEntries u [Obj.ENG_REF_FOREIGN] ∧
        u = { s.land t with objs := u.objs }) ∧
    (∀ (f : Sender), s.takesWrite t f Obj.ENG_REF_SLACK_CLEAR 1 = true → 
      ∃ u, exec (.engRefSlackClear t f) s = .next (State.settle (s.land t) u) ∧
        (∀ e ∈ List.range 8, u.get (Obj.ENG_REF_SLACK_MIN e) = 0x7FFFFFFF) ∧
        u.out = [Out.done] ∧
        s.onlyEntries u ((List.range 8).map Obj.ENG_REF_SLACK_MIN) ∧
        u = { s.land t with objs := u.objs, dict := u.dict, out := u.out }) ∧
    (∀ (e cause : Nat) (h : Hart), s.engRuns e = true → s.eng.harts[e]? = some h → 
      ∃ u, exec (.engineExceptionHalt t e cause) s = .next (State.settle (s.land t) u) ∧
        u.get (Obj.ENG_STATE e) = 3 ∧
        (u.get (Obj.ENG_FAULT_CAUSE e) = (cause % 256 + (if h.fast then 256 else 0) + 2 ^ 31 : Nat)) ∧
        (u.eng = { s.eng with harts := updateAt s.eng.harts e fun h => { h with waiting := none } }) ∧
        Out.core 8 (16 + e : Nat) ∈ u.out ∧
        Out.core 9 (16 + e : Nat) ∈ u.out ∧
        s.entriesBut u [Obj.ENG_STATE e, Obj.ENG_FAULT_CAUSE e] ∧
        u = { s.land t with objs := u.objs, eng := u.eng, icu := u.icu, log := u.log, flash := u.flash, dict := u.dict, out := u.out }) ∧
    (∀ (f : Sender) (e : Nat), e < 8 → s.takesWrite t f (Obj.ENG_RESTART e) 1 = true → 
      ∃ u, exec (.engRestart t f e) s = .next (State.settle (s.land t) u) ∧
        s.bit Obj.ENG_ENABLE e = true ∧
        u.get (Obj.ENG_STATE e) = 2 ∧
        u.eng = { s.eng with harts := updateAt s.eng.harts e Hart.restarted } ∧
        u.out = [Out.done] ∧
        s.onlyEntries u [Obj.ENG_STATE e, Obj.ENG_IMAGE_ID e] ∧
        u = { s.land t with objs := u.objs, eng := u.eng, dict := u.dict, out := u.out })

/-- An existing source that fires becomes pending in each of its copies. A claim that finds a source makes it active for the claiming target and no longer pending there, and starts its group's hold-off; one that finds none answers 0x3FF and is counted. A completion ends the source's active state for its target, and a stray one is counted. A fast grant enters the handler with source, pc and time. Numbers 504 to 511 of the software set register fire those sources, pending-clear removes the sources it names, and a configuration word takes what its writer may write: the rest is ignored and counted. -/
def Obligations.InterruptsAreHeldAndDelivered : Prop :=
  ∀ (s : State) (t : Nat), 
    (∀ (src : Nat), sourceExists src = true → s.devState ≠ 0 → 
      ∃ u, exec (.interruptSourceFire t src) s = .next (State.settle (s.land t) u) ∧
        u.sourcePending src ∧
        (∀ p ∈ s.icu.pending, p ∈ u.icu.pending) ∧
        (∀ p ∈ u.icu.pending, p ∈ s.icu.pending ∨ p.1 = src) ∧
        u.icu = { s.icu with pending := u.icu.pending } ∧
        s.onlyEntries u [] ∧
        u = { s.land t with objs := u.objs, icu := u.icu }) ∧
    (∀ (target src : Nat), s.hartRuns target = true → s.get Obj.ICU_MODE = 0 → (s.land t).icuTop target = some src → 
      ∃ u, exec (.interruptClaim t target) s = .next (State.settle (s.land t) u) ∧
        (src, target) ∈ u.icu.active ∧
        (src, (s.srcCopy src target)) ∉ u.icu.pending ∧
        (∀ p ∈ s.icu.pending, p = (src, (s.srcCopy src target)) ∨ p ∈ u.icu.pending) ∧
        (∀ p ∈ s.icu.active, p ∈ u.icu.active) ∧
        (s.getN (Obj.ICU_HOLDOFF (src / 32)) ≠ 0 → (src / 32, (s.land t).now + 100 * s.getN (Obj.ICU_HOLDOFF (src / 32))) ∈ u.icu.holdoff) ∧
        u.out = [Out.core target (src : Nat)] ∧
        s.onlyEntries u [Obj.ICU_MASK_RACE_COUNT] ∧
        u = { s.land t with objs := u.objs, icu := u.icu, out := u.out }) ∧
    (∀ (target : Nat), s.hartRuns target = true → (s.land t).icuTop target = none → 
      ∃ u, exec (.interruptClaim t target) s = .next (State.settle (s.land t) u) ∧
        u.get (Obj.ICU_SPURIOUS_COUNT target) = min (s.get (Obj.ICU_SPURIOUS_COUNT target) + 1) 0xFFFFFFFF ∧
        u.out = [Out.core target 0x3FF] ∧
        (u.icu.pending, u.icu.active) = (s.icu.pending, s.icu.active) ∧
        s.onlyEntries u [Obj.ICU_SPURIOUS_COUNT target, Obj.ICU_CLAIM_LOST target] ∧
        u = { s.land t with objs := u.objs, icu := u.icu, out := u.out }) ∧
    (∀ (target src : Nat), s.hartRuns target = true → (src, target) ∈ s.icu.active → 
      ∃ u, exec (.interruptComplete t target src) s = .next (State.settle (s.land t) u) ∧
        u.icu = { s.icu with active := s.icu.active.filter (· ≠ (src, target)) } ∧
        s.onlyEntries u [] ∧
        u = { s.land t with objs := u.objs, icu := u.icu }) ∧
    (∀ (target src : Nat), s.hartRuns target = true → (src, target) ∉ s.icu.active → 
      ∃ u, exec (.interruptComplete t target src) s = .next (State.settle (s.land t) u) ∧
        u.get (Obj.ICU_STRAY_COMPLETE) = min (s.get (Obj.ICU_STRAY_COMPLETE) + 1) 0xFFFFFFFF ∧
        u.get (Obj.LOG_CNT 0x13) = min (s.get (Obj.LOG_CNT 0x13) + 1) 0xFFFFFFFFFFFFFFFF ∧
        s.onlyEntries u [Obj.ICU_STRAY_COMPLETE, Obj.LOG_CNT 0x13] ∧
        u = { s.land t with objs := u.objs }) ∧
    (∀ (e vec pc src : Nat) (h : Hart), s.engRuns e = true → s.eng.harts[e]? = some h → h.fast = false → (s.land t).icuFast e = some src → 
      ∃ u, exec (.fastInterruptGrant t e true vec pc) s = .next (State.settle (s.land t) u) ∧
        (u.eng = { s.eng with harts := updateAt s.eng.harts e fun h => { h with fen := true, fvec := vec / 64 * 64, fast := true, fcause := src, fepc := pc, fastAt := (s.land t).now, waiting := none } }) ∧
        (src, e) ∈ u.icu.active ∧
        (src, s.srcCopy src e) ∉ u.icu.pending ∧
        s.onlyEntries u [Obj.ICU_MASK_RACE_COUNT] ∧
        u = { s.land t with objs := u.objs, eng := u.eng, icu := u.icu }) ∧
    (∀ (e vec pc : Nat), s.engRuns e = true → 
      ∃ u, exec (.fastInterruptGrant t e false vec pc) s = .next (State.settle (s.land t) u) ∧
        (u.eng = { s.eng with harts := updateAt s.eng.harts e fun h => { h with fen := false, fvec := vec / 64 * 64 } }) ∧
        s.onlyEntries u [] ∧
        u = { s.land t with objs := u.objs, eng := u.eng }) ∧
    (∀ (g time : Nat), (g, time) ∈ s.icu.holdoff → time ≤ (s.land t).now → (∀ p ∈ s.icu.holdoff, p.1 = g → p.2 = time) → 
      ∃ u, exec (.icuHoldoffExpiry t g) s = .next (State.settle (s.land t) u) ∧
        (u.icu = { s.icu with holdoff := s.icu.holdoff.filter fun p => p.1 ≠ g }) ∧
        s.onlyEntries u [] ∧
        u = { s.land t with objs := u.objs, icu := u.icu }) ∧
    (∀ (f : Sender) (n : Nat), s.reachesUnit t f Obj.ICU_SW_SET n = true → 504 ≤ n → n ≤ 511 → 
      ∃ u, exec (.icuSwSet t f n) s = .next (State.settle (s.land t) u) ∧
        u.sourcePending n ∧
        s.onlyEntries u [] ∧
        u = { s.land t with objs := u.objs, icu := u.icu, dict := u.dict, out := u.out }) ∧
    (∀ (f : Sender) (h n : Nat), hartOf f = some h → s.hartRuns h = true → n < 504 ∨ 511 < n → 
      ∃ u, exec (.icuSwSet t f n) s = .next (State.settle (s.land t) u) ∧
        u.get (Obj.ICU_FOREIGN_WRITE) = min (s.get (Obj.ICU_FOREIGN_WRITE) + 1) 0xFFFFFFFF ∧
        s.onlyEntries u [Obj.ICU_FOREIGN_WRITE] ∧
        u = { s.land t with objs := u.objs }) ∧
    (∀ (f : Sender) (g bits : Nat), g < 16 → bits < 2 ^ 32 → (hartOf f).all (fun h => decide (8 ≤ h)) = true → s.reachesUnit t f (Obj.ICU_PENDING_CLEAR g) bits = true → 
      ∃ u, exec (.icuPendingClear t f g bits) s = .next (State.settle (s.land t) u) ∧
        (u.icu = { s.icu with pending := s.icu.pending.filter fun p => !(p.1 / 32 == g && bitOf bits (p.1 % 32)) }) ∧
        s.onlyEntries u [] ∧
        u = { s.land t with objs := u.objs, icu := u.icu, dict := u.dict, out := u.out }) ∧
    (∀ (f : Sender) (g bits h : Nat), g < 16 → hartOf f = some h → h < 8 → s.hartRuns h = true → 
      ∃ u, exec (.icuPendingClear t f g bits) s = .next (State.settle (s.land t) u) ∧
        u.get (Obj.ICU_FOREIGN_WRITE) = min (s.get (Obj.ICU_FOREIGN_WRITE) + 1) 0xFFFFFFFF ∧
        s.onlyEntries u [Obj.ICU_FOREIGN_WRITE] ∧
        u = { s.land t with objs := u.objs }) ∧
    (∀ (f : Sender) (src v : Nat), src < 512 → v < 2 ^ 32 → hartOf f = none → s.takesWrite t f (Obj.ICU_SRC_CFG (src / 32) (src % 32)) v = true → 
      ∃ u, exec (.icuSrcCfgWrite t f src v) s = .next (State.settle (s.land t) u) ∧
        u.getN (Obj.ICU_SRC_CFG (src / 32) (src % 32)) = v ∧
        u.icu = { s.icu with masked := u.icu.masked } ∧
        (bitOf (s.srcCfg src) 0 = true → bitOf v 0 = false → (src, (s.land t).now + (if s.bit (Obj.CLK_PLL_STATUS 0) 1 then 40 else 8)) ∈ u.icu.masked) ∧
        u.out = [Out.done] ∧
        s.onlyEntries u [Obj.ICU_SRC_CFG (src / 32) (src % 32)] ∧
        u = { s.land t with objs := u.objs, icu := u.icu, dict := u.dict, out := u.out }) ∧
    (∀ (f : Sender) (src v h : Nat), src < 512 → hartOf f = some h → 8 ≤ h → s.hartRuns h = true → 
      ∃ u, exec (.icuSrcCfgWrite t f src v) s = .next (State.settle (s.land t) u) ∧
        u.getN (Obj.ICU_SRC_CFG (src / 32) (src % 32)) = v &&& 0x3FF1F ∧
        s.onlyEntries u [Obj.ICU_SRC_CFG (src / 32) (src % 32)] ∧
        u = { s.land t with objs := u.objs, icu := u.icu }) ∧
    (∀ (f : Sender) (src v h : Nat), src < 512 → hartOf f = some h → h < 8 → bitOf (s.srcCfg src) (8 + h) = true → s.hartRuns h = true → 
      ∃ u, exec (.icuSrcCfgWrite t f src v) s = .next (State.settle (s.land t) u) ∧
        u.getN (Obj.ICU_SRC_CFG (src / 32) (src % 32)) = (s.srcCfg src &&& 0x3FF02) ||| (v &&& 0x1D) ∧
        (v &&& 0x3FF02 ≠ s.srcCfg src &&& 0x3FF02 → u.get (Obj.ICU_FOREIGN_WRITE) = min (s.get (Obj.ICU_FOREIGN_WRITE) + 1) 0xFFFFFFFF) ∧
        s.onlyEntries u [Obj.ICU_SRC_CFG (src / 32) (src % 32), Obj.ICU_FOREIGN_WRITE] ∧
        u = { s.land t with objs := u.objs, icu := u.icu }) ∧
    (∀ (f : Sender) (src v h : Nat), src < 512 → hartOf f = some h → h < 8 → bitOf (s.srcCfg src) (8 + h) = false → s.hartRuns h = true → 
      ∃ u, exec (.icuSrcCfgWrite t f src v) s = .next (State.settle (s.land t) u) ∧
        u.get (Obj.ICU_FOREIGN_WRITE) = min (s.get (Obj.ICU_FOREIGN_WRITE) + 1) 0xFFFFFFFF ∧
        s.onlyEntries u [Obj.ICU_FOREIGN_WRITE] ∧
        u = { s.land t with objs := u.objs })

/-- A corrected SRAM error counts for its engine or in the logbook; a correctable DRAM error counts as transient or lasting by the re-read; an uncorrectable one is counted in the logbook and ends the access of a running core in an access fault. An access that the map refuses ends in the fault of its kind and changes nothing else. -/
def Obligations.MemoryErrorsAndRefusedAccesses : Prop :=
  ∀ (s : State) (t : Nat), 
    (∀ (h address : Nat) (store : Bool), h < 8 → 
      ∃ u, exec (.sramEccError t h true store true address) s = .next (State.settle (s.land t) u) ∧
        u.get (Obj.ENG_SRAM_CORR h) = min (s.get (Obj.ENG_SRAM_CORR h) + 1) 0xFFFFFFFF ∧
        s.onlyEntries u [Obj.ENG_SRAM_CORR h] ∧
        u = { s.land t with objs := u.objs }) ∧
    (∀ (h address : Nat) (store : Bool), 
      ∃ u, exec (.sramEccError t h false store true address) s = .next (State.settle (s.land t) u) ∧
        u.get (Obj.LOG_CNT 0x15) = min (s.get (Obj.LOG_CNT 0x15) + 1) 0xFFFFFFFFFFFFFFFF ∧
        s.onlyEntries u [Obj.LOG_CNT 0x15] ∧
        u = { s.land t with objs := u.objs }) ∧
    (∀ (h address : Nat) (own store : Bool), s.hartRuns h = true → (s.eng.harts[h]?).map (·.fast) = some false → 
      ∃ u, exec (.sramEccError t h own store false address) s = .next (State.settle (s.land t) u) ∧
        u.get (Obj.LOG_CNT 0x16) = min (s.get (Obj.LOG_CNT 0x16) + 1) 0xFFFFFFFFFFFFFFFF ∧
        (Out.exception h (if store then 7 else 5) ∈ u.out) ∧
        s.entriesBut u [] ∧
        u = { s.land t with objs := u.objs, icu := u.icu, log := u.log, flash := u.flash, dict := u.dict, out := u.out }) ∧
    (∀ (h address : Nat) (store : Bool), 
      ∃ u, exec (.dramEccError t h store true true address) s = .next (State.settle (s.land t) u) ∧
        u.get (Obj.ENG_DRAM_CORR) = min (s.get (Obj.ENG_DRAM_CORR) + 1) 0xFFFFFFFF ∧
        s.entriesBut u [Obj.ENG_DRAM_CORR] ∧
        u = { s.land t with objs := u.objs, icu := u.icu, log := u.log, flash := u.flash, dict := u.dict, out := u.out }) ∧
    (∀ (h address : Nat) (store : Bool), 
      ∃ u, exec (.dramEccError t h store true false address) s = .next (State.settle (s.land t) u) ∧
        u.get (Obj.ENG_DRAM_LASTING) = min (s.get (Obj.ENG_DRAM_LASTING) + 1) 0xFFFFFFFF ∧
        s.entriesBut u [Obj.ENG_DRAM_LASTING] ∧
        u = { s.land t with objs := u.objs, icu := u.icu, log := u.log, flash := u.flash, dict := u.dict, out := u.out }) ∧
    (∀ (h address : Nat) (store clean : Bool), s.hartRuns h = true → (s.eng.harts[h]?).map (·.fast) = some false → 
      ∃ u, exec (.dramEccError t h store false clean address) s = .next (State.settle (s.land t) u) ∧
        u.get (Obj.LOG_CNT 0x17) = min (s.get (Obj.LOG_CNT 0x17) + 1) 0xFFFFFFFFFFFFFFFF ∧
        (Out.exception h (if store then 7 else 5) ∈ u.out) ∧
        s.entriesBut u [] ∧
        u = { s.land t with objs := u.objs, icu := u.icu, log := u.log, flash := u.flash, dict := u.dict, out := u.out }) ∧
    (∀ (h address size kind : Nat), s.hartRuns h = true → (s.eng.harts[h]?).map (·.fast) = some false → kind < 3 → s.accessAllowed h address size kind = false → 
      ∃ u, exec (.accessFault t h address size kind) s = .next (State.settle (s.land t) u) ∧
        (u.out = [Out.exception h (if kind = 1 then 7 else if kind = 2 then 1 else 5)]) ∧
        s.onlyEntries u [] ∧
        u = { s.land t with objs := u.objs, out := u.out })

/-- An arm that passes Table 16.6 sets ARMED and ARMED_OK with everything of a capture empty, discards the oldest records it needs, and raises source 418; a refused one leaves its code, counts and raises 419. The soft trigger and a held pattern fire while ARMED. A block whose oldest entry has waited 1 ms is completed. When the tail is full the record is stored, counted and logged with source 417, Comet is IDLE, or armed again with REARM; an abort discards the coma, or stores the truncated record, with ABORTED and source 422. A released record leaves the store. -/
def Obligations.CometCapturesAndStores : Prop :=
  ∀ (s : State) (t : Nat), 
    (∀ (f : Sender), s.reachesUnit t f Obj.CMT_ARM 1 = true → (s.land t).cmtArmCheck = none → 
      ∃ u, exec (.cmtArm t f) s = .next (State.settle (s.land t) u) ∧
        u.cmtState = 1 ∧
        u.get Obj.CMT_STATUS = 1 ∧
        (u.get Obj.CMT_WRITTEN, u.get Obj.CMT_LOSS_BLOCKS, u.get Obj.CMT_EDGE_LOSS) = (0, 0, 0) ∧
        (u.cmt.blocks, u.cmt.partials, u.cmt.armIndex) = ([], [], s.cmt.written) ∧
        u.cmt.trigger = none ∧
        u.cmt.records = s.cmt.records.drop s.cmtDiscards ∧
        u.get Obj.CMT_REC_STORED = ((s.cmt.records.drop s.cmtDiscards).length : Nat) ∧
        u.sourcePending 418 ∧
        s.onlyEntries u [Obj.CMT_STATE, Obj.CMT_STATUS, Obj.CMT_WRITTEN, Obj.CMT_LOSS_BLOCKS, Obj.CMT_EDGE_LOSS, Obj.CMT_REC_STORED] ∧
        u = { s.land t with objs := u.objs, cmt := u.cmt, icu := u.icu, dict := u.dict, out := u.out }) ∧
    (∀ (f : Sender) (h code : Nat), hartOf f = some h → s.hartRuns h = true → (s.land t).cmtArmCheck = some code → 
      ∃ u, exec (.cmtArm t f) s = .next (State.settle (s.land t) u) ∧
        u.get Obj.CMT_STATUS = (code : Nat) ∧
        u.get Obj.CMT_ARM_REFUSED_COUNT = min (s.get Obj.CMT_ARM_REFUSED_COUNT + 1) 0xFFFFFFFF ∧
        u.sourcePending 419 ∧
        s.onlyEntries u [Obj.CMT_STATUS, Obj.CMT_ARM_REFUSED_COUNT] ∧
        u = { s.land t with objs := u.objs, icu := u.icu }) ∧
    (∀ (f : Sender), s.reachesUnit t f Obj.CMT_ABORT 1 = true → s.cmtState = 1 → 
      ∃ u, exec (.cmtAbort t f) s = .next (State.settle (s.land t) u) ∧
        u.cmtState = 0 ∧
        u.get Obj.CMT_STATUS = 8 ∧
        (u.cmt.blocks, u.cmt.partials, u.cmt.records) = ([], [], s.cmt.records) ∧
        u.sourcePending 422 ∧
        s.onlyEntries u [Obj.CMT_STATE, Obj.CMT_STATUS] ∧
        u = { s.land t with objs := u.objs, cmt := u.cmt, icu := u.icu, dict := u.dict, out := u.out }) ∧
    (∀ (f : Sender) (tr : CmtTrigger), s.reachesUnit t f Obj.CMT_ABORT 1 = true → s.cmtState = 2 → (s.land t).cmtTailFull = false → s.cmt.trigger = some tr → s.cmt.partials = [] → 
      ∃ u, exec (.cmtAbort t f) s = .next (State.settle (s.land t) u) ∧
        u.cmtState = 0 ∧
        u.get Obj.CMT_STATUS = 8 ∧
        ((u.cmt.records.getLast?).map (fun r => (r.number, bitOf r.flags 4)) = some (s.getN Obj.CMT_REC_COUNT + 1, true)) ∧
        u.get Obj.CMT_REC_STORED = ((s.cmt.records.length + 1 : Nat) : Int) ∧
        u.cmt.records.length = s.cmt.records.length + 1 ∧
        u.get Obj.CMT_REC_COUNT = ((s.getN Obj.CMT_REC_COUNT + 1 : Nat) : Int) ∧
        u.sourcePending 417 ∧
        u.sourcePending 422 ∧
        s.entriesBut u [Obj.CMT_STATE, Obj.CMT_STATUS, Obj.CMT_REC_COUNT, Obj.CMT_REC_STORED] ∧
        u = { s.land t with objs := u.objs, cmt := u.cmt, freeCtr := u.freeCtr, icu := u.icu, log := u.log, flash := u.flash, dict := u.dict, out := u.out }) ∧
    (∀ (f : Sender), s.reachesUnit t f Obj.CMT_FORCE_TRIG 1 = true → s.cmtState = 1 → s.cmt.comaFull = true ∨ s.bit Obj.CMT_CTRL 2 = false → 
      ∃ u, exec (.cmtForceTrig t f) s = .next (State.settle (s.land t) u) ∧
        u.cmt = { s.cmt with fired := s.cmt.fired ++ [(0, (s.land t).time32, 0)] } ∧
        s.onlyEntries u [] ∧
        u = { s.land t with objs := u.objs, cmt := u.cmt, dict := u.dict, out := u.out }) ∧
    (∀ (f : Sender), s.reachesUnit t f Obj.CMT_FORCE_TRIG 1 = true → s.cmtState = 0 ∨ (s.cmtState = 1 ∧ s.cmt.comaFull = false ∧ s.bit Obj.CMT_CTRL 2 = true) → 
      ∃ u, exec (.cmtForceTrig t f) s = .next (State.settle (s.land t) u) ∧
        s.onlyEntries u [] ∧
        u = { s.land t with objs := u.objs, dict := u.dict, out := u.out }) ∧
    (s.cmtState = 1 → s.cmt.patternFalse = true → s.cmtMatch s.cmt.levels = true → s.bit Obj.CMT_TRIG_EN 0 = true → s.cmt.comaFull = true ∨ s.bit Obj.CMT_CTRL 2 = false → 
      ∃ u, exec (.cmtPatternMatch t) s = .next (State.settle (s.land t) u) ∧
        u.cmt = { s.cmt with patternFalse := false, fired := s.cmt.fired ++ [(1, s.cmt.matchAt.1, s.cmt.matchAt.2)] } ∧
        s.onlyEntries u [] ∧
        u = { s.land t with objs := u.objs, cmt := u.cmt }) ∧
    (∀ (b : CmtBlock) (since : Nat), s.cmtState = 1 → s.cmt.partials = [(b, since)] → since + 1000000 ≤ (s.land t).now → s.cmt.written % 1024 ≠ 0 → s.get Obj.CMT_COMA_BLOCKS ≠ 0 → 0 ≤ s.get Obj.CMT_COMA_BLOCKS → 
      ∃ u, exec (.cmtBlockAgeTimeout t) s = .next (State.settle (s.land t) u) ∧
        u.cmt.partials = [] ∧
        u.cmt.written = s.cmt.written + 1 ∧
        ((u.cmt.blocks.head?).map (fun x => (x.entries, x.index, x.post)) = some (b.entries, s.cmt.written, s.cmt.trigger.isSome)) ∧
        u.get Obj.CMT_WRITTEN = min (s.get Obj.CMT_WRITTEN + 1) 0xFFFFFFFFFFFFFFFF ∧
        s.onlyEntries u [Obj.CMT_WRITTEN] ∧
        u = { s.land t with objs := u.objs, cmt := u.cmt, icu := u.icu }) ∧
    (∀ p ∈ s.cmt.partials, (s.land t).now < p.2 + 1000000 → 
      ∃ u, exec (.cmtBlockAgeTimeout t) s = .next (State.settle (s.land t) u) ∧
        s.onlyEntries u [] ∧
        u = { s.land t with objs := u.objs }) ∧
    (∀ (tr : CmtTrigger), (s.land t).cmtTailFull = true → s.cmt.trigger = some tr → s.bit Obj.CMT_CTRL 1 = false → 
      ∃ u, exec (.cmtTailEnd t) s = .next (State.settle (s.land t) u) ∧
        u.cmtState = 0 ∧
        u.get Obj.CMT_STATUS = 2 ∧
        ((u.cmt.records.getLast?).map (fun r => (r.number, bitOf r.flags 4, r.blocks)) = some (s.getN Obj.CMT_REC_COUNT + 1, false, s.cmt.blocks.reverse)) ∧
        u.get Obj.CMT_REC_STORED = ((s.cmt.records.length + 1 : Nat) : Int) ∧
        u.cmt.records.length = s.cmt.records.length + 1 ∧
        u.get Obj.CMT_REC_COUNT = ((s.getN Obj.CMT_REC_COUNT + 1 : Nat) : Int) ∧
        u.get (Obj.LOG_CNT 0x1C) = min (s.get (Obj.LOG_CNT 0x1C) + 1) 0xFFFFFFFFFFFFFFFF ∧
        u.sourcePending 417 ∧
        s.entriesBut u [Obj.CMT_STATE, Obj.CMT_STATUS, Obj.CMT_REC_COUNT, Obj.CMT_REC_STORED] ∧
        u = { s.land t with objs := u.objs, cmt := u.cmt, freeCtr := u.freeCtr, icu := u.icu, log := u.log, flash := u.flash, dict := u.dict, out := u.out }) ∧
    (∀ (tr : CmtTrigger), (s.land t).cmtTailFull = true → s.cmt.trigger = some tr → s.bit Obj.CMT_CTRL 1 = true → ((s.land t).cmtStore false).cmtArmCheck = none → 
      ∃ u, exec (.cmtTailEnd t) s = .next (State.settle (s.land t) u) ∧
        u.cmtState = 1 ∧
        u.get Obj.CMT_STATUS = 1 ∧
        u.sourcePending 417 ∧
        u.sourcePending 418 ∧
        s.entriesBut u [Obj.CMT_STATE, Obj.CMT_STATUS, Obj.CMT_REC_COUNT, Obj.CMT_REC_STORED, Obj.CMT_WRITTEN, Obj.CMT_LOSS_BLOCKS, Obj.CMT_EDGE_LOSS] ∧
        u = { s.land t with objs := u.objs, cmt := u.cmt, freeCtr := u.freeCtr, icu := u.icu, log := u.log, flash := u.flash, dict := u.dict, out := u.out }) ∧
    (∀ (f : Sender) (n : Nat), n < 2 ^ 32 → s.takesWrite t f Obj.CMT_REC_RELEASE n = true → 
      ∃ u, exec (.cmtRecRelease t f n) s = .next (State.settle (s.land t) u) ∧
        u.cmt = { s.cmt with records := s.cmt.records.filter (·.number ≠ n) } ∧
        n ∈ s.cmtNumbers ∧
        u.get Obj.CMT_REC_STORED = ((s.cmt.records.filter (·.number ≠ n)).length : Nat) ∧
        u.out = [Out.done] ∧
        s.onlyEntries u [Obj.CMT_REC_STORED] ∧
        u = { s.land t with objs := u.objs, cmt := u.cmt, dict := u.dict, out := u.out })

/-- Ten minutes after the previous flush began, on an accepted LOG_FLUSH_REQ, or when the limits of R462 allow one held back, a flush freezes the values and programs the next good slot; a demand that the limits forbid is held. A verified slot holds the snapshot, counted with source 498; the first failure takes the next slot, a second marks both bad with source 499. Each second counts POWERED_TIME, RUN time in RUN, and the references' errors. An accepted export request freezes the export, advances its generation and raises source 501. -/
def Obligations.TheLogbookIsFlushedAndExported : Prop :=
  ∀ (s : State) (t : Nat), 
    (∀ (slot : Nat), 2 ≤ s.devState → s.devState ≠ 7 → s.log.lastBegin.all (fun b => decide (b + 600000000000 ≤ (s.land t).now)) = true → s.log.demand = false → (s.land t).flushAllowed false = true → (s.land t).nextSlot = some slot → s.log.staged = none → 
      ∃ u, exec (.logPeriodicFlush t) s = .next (State.settle (s.land t) u) ∧
        (u.log.programming.map (fun p => (p.1, p.2.2)) = some (slot, 1)) ∧
        u.log.lastBegin = some (s.land t).now ∧
        (u.log.demand, u.log.periodic) = (false, false) ∧
        u.bit Obj.LOG_STATUS 1 = true ∧
        u.get Obj.LOG_LAST_FLUSH = (s.land t).time32 ∧
        u.flash.snapNumber = s.flash.snapNumber + 1 ∧
        s.entriesBut u [] ∧
        u = { s.land t with objs := u.objs, icu := u.icu, log := u.log, flash := u.flash, dict := u.dict, out := u.out }) ∧
    (∀ (b : Nat), s.log.lastBegin = some b → (s.land t).now < b + 600000000000 → 
      ∃ u, exec (.logPeriodicFlush t) s = .next (State.settle (s.land t) u) ∧
        s.onlyEntries u [] ∧
        u = { s.land t with objs := u.objs }) ∧
    (∀ (f : Sender) (slot : Nat), s.takesWrite t f Obj.LOG_FLUSH_REQ 1 = true → (s.land t).flushAllowed true = true → (s.land t).nextSlot = some slot → s.log.staged = none → 
      ∃ u, exec (.logFlushReq t f) s = .next (State.settle (s.land t) u) ∧
        (u.log.programming.map (fun p => (p.1, p.2.2)) = some (slot, 1)) ∧
        u.log.lastBegin = some (s.land t).now ∧
        (u.log.demand, u.log.periodic) = (false, false) ∧
        u.bit Obj.LOG_STATUS 1 = true ∧
        u.get Obj.LOG_LAST_FLUSH = (s.land t).time32 ∧
        u.flash.snapNumber = s.flash.snapNumber + 1 ∧
        s.entriesBut u [] ∧
        u = { s.land t with objs := u.objs, icu := u.icu, log := u.log, flash := u.flash, dict := u.dict, out := u.out }) ∧
    (∀ (f : Sender), s.takesWrite t f Obj.LOG_FLUSH_REQ 1 = true → (s.land t).flushAllowed true = false → s.log.periodic = false → 
      ∃ u, exec (.logFlushReq t f) s = .next (State.settle (s.land t) u) ∧
        u.log = { s.log with demand := true } ∧
        u.out = [Out.done] ∧
        s.onlyEntries u [] ∧
        u = { s.land t with objs := u.objs, log := u.log, dict := u.dict, out := u.out }) ∧
    (∀ (slot : Nat), s.log.demand = true → (s.land t).flushAllowed true = true → (s.land t).nextSlot = some slot → s.log.staged = none → 
      ∃ u, exec (.flushSpacingExpiry t) s = .next (State.settle (s.land t) u) ∧
        (u.log.programming.map (fun p => (p.1, p.2.2)) = some (slot, 1)) ∧
        u.log.lastBegin = some (s.land t).now ∧
        (u.log.demand, u.log.periodic) = (false, false) ∧
        u.bit Obj.LOG_STATUS 1 = true ∧
        u.get Obj.LOG_LAST_FLUSH = (s.land t).time32 ∧
        u.flash.snapNumber = s.flash.snapNumber + 1 ∧
        s.entriesBut u [] ∧
        u = { s.land t with objs := u.objs, icu := u.icu, log := u.log, flash := u.flash, dict := u.dict, out := u.out }) ∧
    (∀ (slot : Nat) (snap : Snapshot), s.log.programming = some (slot, snap, 1) → slot < s.flash.slots.length → (s.log.demand, s.log.periodic) = (false, false) → 
      ∃ u, exec (.logFlushDone t true) s = .next (State.settle (s.land t) u) ∧
        (u.flash.slots[slot]?).bind (·.snap) = some snap ∧
        u.log.programming = none ∧
        u.bit Obj.LOG_STATUS 1 = false ∧
        u.get Obj.LOG_FLUSH_COUNT = min (s.get Obj.LOG_FLUSH_COUNT + 1) 0xFFFFFFFF ∧
        u.sourcePending 498 ∧
        s.entriesBut u [] ∧
        u = { s.land t with objs := u.objs, icu := u.icu, log := u.log, flash := u.flash, dict := u.dict, out := u.out }) ∧
    (∀ (slot nxt : Nat) (snap : Snapshot), s.log.programming = some (slot, snap, 1) → s.goodAfter slot = some nxt → 
      ∃ u, exec (.logFlushDone t false) s = .next (State.settle (s.land t) u) ∧
        u.log.programming = some (nxt, snap, 2) ∧
        u.log.failedSlot = some slot ∧
        u.flash.journal = s.flash.journal ∧
        s.onlyEntries u [] ∧
        u = { s.land t with objs := u.objs, log := u.log, flash := u.flash }) ∧
    (∀ (slot first : Nat) (snap : Snapshot), s.log.programming = some (slot, snap, 2) → s.log.failedSlot = some first → slot < s.flash.slots.length → first < s.flash.slots.length → s.flash.slots.length = 28 → 
      ∃ u, exec (.logFlushDone t false) s = .next (State.settle (s.land t) u) ∧
        (u.flash.slots[slot]?).map (·.good) = some false ∧
        (u.flash.slots[first]?).map (·.good) = some false ∧
        u.sourcePending 499 ∧
        s.entriesBut u [] ∧
        u = { s.land t with objs := u.objs, icu := u.icu, log := u.log, flash := u.flash, dict := u.dict, out := u.out }) ∧
    (∀ (ref25 : Option Int) (xo : Int) (ref156 : Option Int), s.boot.poreset = false → s.devState = 1 → 
      ∃ u, exec (.logSecondTick t ref25 xo ref156) s = .next (State.settle (s.land t) u) ∧
        u.get (Obj.LOG_CNT 1) = min (s.get (Obj.LOG_CNT 1) + 1) 0xFFFFFFFFFFFFFFFF ∧
        u.get Obj.CLK_XO_CORR = saturate 32 xo ∧
        (∀ e ∈ ref25, u.get Obj.CLK_REF25_ERR = saturate 32 e) ∧
        (∀ e ∈ ref156, u.get Obj.CLK_REF156_ERR = saturate 32 e) ∧
        s.entriesBut u [Obj.CLK_XO_CORR, Obj.CLK_REF25_ERR, Obj.CLK_REF156_ERR] ∧
        u = { s.land t with objs := u.objs, icu := u.icu, log := u.log, flash := u.flash, dict := u.dict, out := u.out }) ∧
    (∀ (ref25 : Option Int) (xo : Int) (ref156 : Option Int), s.boot.poreset = false → s.devState = 5 → 
      ∃ u, exec (.logSecondTick t ref25 xo ref156) s = .next (State.settle (s.land t) u) ∧
        u.get (Obj.LOG_CNT 1) = min (s.get (Obj.LOG_CNT 1) + 1) 0xFFFFFFFFFFFFFFFF ∧
        u.get (Obj.LOG_CNT 2) = min (s.get (Obj.LOG_CNT 2) + 1) 0xFFFFFFFFFFFFFFFF ∧
        u.get Obj.CLK_XO_CORR = saturate 32 xo) ∧
    (∀ (f : Sender), s.takesWrite t f Obj.LOG_EXPORT_REQ 1 = true → 
      ∃ u, exec (.logExportReq t f) s = .next (State.settle (s.land t) u) ∧
        u.log.exported.map (·.2) = some s.flash.journal ∧
        (u.getN Obj.LOG_EXPORT_GEN = (if s.hasData Obj.LOG_EXPORT_GEN then (s.getN Obj.LOG_EXPORT_GEN + 1) % 2 ^ 32 else 1)) ∧
        u.sourcePending 501 ∧
        Out.done ∈ u.out ∧
        s.entriesBut u [] ∧
        u = { s.land t with objs := u.objs, icu := u.icu, log := u.log, flash := u.flash, dict := u.dict, out := u.out })

/-- A step with command c at the front of the queue answers exactly what exec answers for c on the state with the queue's rest; a command put in front is the one the next step runs. The model's choice (log entry 1): with an empty queue a step changes nothing. The table gives no row bits, so no word spells a command and withFetchWord leaves the state. -/
def Obligations.StepRunsFrontCommand : Prop :=
  (∀ (s : State) (c : Instr) (rest : List Instr), s.pending = c :: rest → step s = exec c { s with pending := rest }) ∧
  (∀ (s : State) (c : Instr), step (s.withCommand c) = exec c s) ∧ (∀ s : State, s.pending = [] → step s = .next s) ∧
  ∀ nbits w : Nat, decodeTableWord nbits w = none ∧ ∀ s : State, s.withFetchWord nbits w = s

/-- Right after reset no command waits, the device is in state RESET, nothing is journalled, no source is pending or active, and every dictionary entry reads its reset value, among them ORB_PERIOD 40, ORB_DEG_PERIOD 64, RED_CTRL 6, ENG_ENABLE 0xFF, PRT_OV2 1,300, LOG_UART_CTRL 1, the default arm mapping and DISABLED for every measurement channel. -/
def Obligations.ResetValues : Prop :=
  State.reset.pending = [] ∧ State.reset.devState = stReset ∧ State.reset.flash.journal = [] ∧
  (State.reset.icu.pending, State.reset.icu.active) = ([], []) ∧
  (∀ key, State.reset.get key = Obj.resetValue key) ∧
  State.reset.get Obj.ORB_PERIOD = 40 ∧ State.reset.get Obj.ORB_DEG_PERIOD = 64 ∧ State.reset.get Obj.RED_CTRL = 6 ∧
  State.reset.get Obj.ENG_ENABLE = 0xFF ∧ State.reset.get Obj.PRT_OV2 = 1300 ∧ State.reset.get Obj.LOG_UART_CTRL = 1 ∧
  (∀ p < 24, State.reset.get (Obj.LNK_PAIR_ARM p) = ((p / 4 : Nat) : Int)) ∧
  ∀ k < 32, State.reset.get (Obj.MEA_CH_STATUS k) = 0x200

/-- The reset state's dictionary store is sound and its outputs are safe. -/
def Obligations.ResetIsSound : Prop :=
  State.reset.storeSound = true ∧ State.reset.outputsSafe = true

/-- If the dictionary store of a state is sound (its keys rise, no entry is listed at its reset value, and every listed entry fits its type), a step that answers a next state keeps it sound; after any command it is sound whatever the store was before. -/
def Obligations.StepKeepsStoreSound : Prop :=
  (∀ s s' : State, s.storeSound = true → step s = .next s' → s'.storeSound = true) ∧
  ∀ s s' : State, s.pending ≠ [] → step s = .next s' → s'.storeSound = true

/-- After every step from a state with safe outputs, and after any command whatever the state before: in BLOCKED and RUN no trip cause is active (an active one has taken the device to TRIP), the DC chopper pins are low where state and role do not drive them, and every CAR_OUT pin is low outside RUN or without ownership. -/
def Obligations.StepKeepsOutputsSafe : Prop :=
  (∀ s s' : State, s.outputsSafe = true → step s = .next s' → s'.outputsSafe = true) ∧
  ∀ s s' : State, s.pending ≠ [] → step s = .next s' → s'.outputsSafe = true

/-- What follows every command, outside BLOCKED and RUN or with no trip cause active, leaves the queue, the clocks, the Orbit sequencer, lanes, links, time base, engines, ageing, swing unit, ride-through and gate profiles as the command left them, and every entry whose value fits its type outside the measurement, protection, carrier, redundancy, Comet and logbook ranges. -/
def Obligations.SettleLeavesTheRestAlone : Prop :=
  ∀ (before s : State) (fine : Option Int),
    (s.devState ≠ stBlocked ∧ s.devState ≠ stRun) ∨ (before.recordChanges s.meaSources).fit.firstCause = none →
    ((State.settleAt before s fine).pending = s.pending ∧ (State.settleAt before s fine).now = s.now ∧
      (State.settleAt before s fine).boot = s.boot ∧ (State.settleAt before s fine).aon = s.aon ∧
      (State.settleAt before s fine).otp = s.otp ∧ (State.settleAt before s fine).pins = s.pins ∧
      (State.settleAt before s fine).orb = s.orb ∧ (State.settleAt before s fine).clk = s.clk ∧
      (State.settleAt before s fine).lan = s.lan ∧ (State.settleAt before s fine).lnk = s.lnk ∧
      (State.settleAt before s fine).tim = s.tim ∧ (State.settleAt before s fine).eng = s.eng ∧
      (State.settleAt before s fine).age = s.age ∧ (State.settleAt before s fine).swg = s.swg ∧
      (State.settleAt before s fine).frt = s.frt ∧ (State.settleAt before s fine).gpf = s.gpf) ∧
    ∀ key, key / 65536 ∉ [0x25, 0x26, 0x27, 0x2B, 0x2F, 0x30] → Obj.fit key (s.get key) = s.get key →
      (State.settleAt before s fine).get key = s.get key

/-- When a command leaves the device in BLOCKED or RUN with trip causes active, it is in TRIP afterwards: PRT_TRIP_FIRST holds the lowest of them, PRT_TRIP_TIME the time, PRT_TRIP_COUNT one more, every active cause is latched, FAULT_N is asserted and source 320 is pending. -/
def Obligations.ActiveCauseTrips : Prop :=
  ∀ (before s : State) (fine : Option Int) (c : Nat), s.devState = stBlocked ∨ s.devState = stRun →
    (before.recordChanges s.meaSources).fit.firstCause = some c → 0 ≤ s.get Obj.PRT_TRIP_COUNT →
    s.get Obj.PRT_TRIP_COUNT < 2 ^ 32 →
    (State.settleAt before s fine).devState = stTrip ∧ (State.settleAt before s fine).get Obj.PRT_TRIP_FIRST = (c : Nat) ∧
      (State.settleAt before s fine).get Obj.PRT_TRIP_TIME = ((before.recordChanges s.meaSources).fit.time32 : Nat) ∧
      (State.settleAt before s fine).get Obj.PRT_TRIP_COUNT = min (s.get Obj.PRT_TRIP_COUNT + 1) 0xFFFFFFFF ∧
      (∀ b < 18, (before.recordChanges s.meaSources).fit.causeActive b = true →
        (State.settleAt before s fine).bit Obj.PRT_TRIP_LATCHED b = true) ∧
      (State.settleAt before s fine).faultN = true ∧ (State.settleAt before s fine).sourcePending 320

/-- At the end of every command each entry of a store in canonical form holds the value of its type in the low bits of what the command left, an entry without data stays so, and nothing but the dictionary store changes there. -/
def Obligations.RegistersHoldTheirWidth : Prop :=
  ∀ s : State, s.objsWf = true →
    (∀ key, s.fit.get key = Obj.fit key (s.get key)) ∧ s.fit = { s with objs := s.fit.objs } ∧ s.fit.storeSound = true ∧
    ∀ key (row : ObjRow) (n : Nat), Obj.rowOf key = some row → ObjType.length row.type = some n → s.get key ≠ Obj.absent →
      unsigned (8 * n) (s.fit.get key) = unsigned (8 * n) (s.get key)

/-- The source that a claim returns is presented to the claiming target, no source presented to it has a higher priority, and among those of equal priority it has the lowest number; a claim finds none exactly when none is presented. -/
def Obligations.AClaimReturnsTheBest : Prop :=
  ∀ (s : State) (t : Nat),
    (∀ src, s.icuTop t = some src → s.icuPresented src t = true ∧
      ∀ o, s.icuPresented o t = true →
        field (s.srcCfg o) 2 3 < field (s.srcCfg src) 2 3 ∨ (field (s.srcCfg o) 2 3 = field (s.srcCfg src) 2 3 ∧ src ≤ o)) ∧
    (s.icuTop t = none ↔ ∀ o, s.icuPresented o t = false)

/-- In ARMED, with no partial block left, the trigger sources that fired together make one trigger of the least code: Comet enters TAIL, the trigger holds its code, every source's bit, its time and ORB_COUNT, the record knows whether the coma was short, and source 416 is pending; without a source nothing changes. -/
def Obligations.ATriggerEndsTheComa : Prop :=
  ∀ (s : State),
    (s.cmt.fired = [] → s.cmtTrigger = s) ∧
    (s.cmtState = 1 → s.cmt.trigger = none → s.cmt.fired ≠ [] → s.cmt.partials = [] →
      let u := s.cmtTrigger
      u.cmtState = 2 ∧ u.cmt.fired = [] ∧ u.sourcePending 416 ∧
      (∃ tr, u.cmt.trigger = some tr ∧ (tr.code, tr.time % 2 ^ 32, tr.frac) ∈ (s.cmt.fired.map fun f => (f.1, f.2.1 % 2 ^ 32, f.2.2)) ++ [(1000, 0, 0)] ∧
        (∀ f ∈ s.cmt.fired, tr.code ≤ f.1 ∧ bitOf tr.mask f.1 = true) ∧ tr.orb = s.orbCount ∧ tr.levels = s.cmt.levels) ∧
      (u.cmt.comaShort = true ↔ s.cmt.written - s.cmt.armIndex < s.getN Obj.CMT_COMA_BLOCKS))

/-- An event journalled within the allowance of 4 records a second and a burst of 256 puts a record of the next SEQ with its code, state, role and counter at the head of the ring, which holds at most 63,488; one beyond it is dropped and counted, source 500 on the first of a run; the first admitted afterwards is preceded by record 0x0211 with the number dropped. -/
def Obligations.TheJournalAdmitsOrDrops : Prop :=
  ∀ (s : State) (code subject : Nat) (data : List Nat) (counter : Nat) (transient lasting : Bool),
    (∀ u, u = s.journalFull code subject data counter transient lasting →
    (recordCredit ≤ s.journalCredit → s.log.dropRun = 0 →
      (u.flash.journal.head?).map (fun r => (r.seq, r.code, r.state, r.role, r.counter, r.data)) =
        some ((s.log.seq + 1) % 2 ^ 32, code, s.devState, s.devRole, counter, subject % 256 :: subject / 256 % 256 :: data) ∧
      u.flash.journal.tail = s.flash.journal.take 63487 ∧
      u.get Obj.LOG_JOURNAL_SEQ = ((s.log.seq + 1) % 2 ^ 32 : Nat) ∧ u.log.credit = s.journalCredit - recordCredit) ∧
    (recordCredit ≤ s.journalCredit → s.log.dropRun ≠ 0 →
      u.flash.journal.map (·.code) = (code :: 0x0211 :: s.flash.journal.map (·.code)).take 63488 ∧ u.log.dropRun = 0 ∧
      u.log.seq = ((s.log.seq + 1) % 2 ^ 32 + 1) % 2 ^ 32) ∧
    (s.journalCredit < recordCredit →
      u.flash.journal = s.flash.journal ∧ u.get Obj.LOG_JOURNAL_DROPPED = min (s.get Obj.LOG_JOURNAL_DROPPED + 1) 0xFFFFFFFF ∧
      u.log.dropRun = s.log.dropRun + 1 ∧ u.log.seq = s.log.seq ∧ (s.log.dropRun = 0 → u.sourcePending 500)) ∧
    (s.flash.journal.length ≤ 63488 → u.flash.journal.length ≤ 63488))

/-- The global number of the submodule with index k in arm a is 1,280 * a + k: the submodules of an arm with n nodes are exactly those of index below n, no two positions share a number, and the entries of submodule record i lie at dictionary index 0x4000 plus its number. -/
def Obligations.SubmoduleNumbersAndRecords : Prop :=
  (∀ (s : State) (a n : Nat), n ∈ s.armSubmodules a ↔ ∃ k, k < s.armNodes a ∧ n = 1280 * a + k) ∧
  (∀ a k b j : Nat, k < 1280 → j < 1280 → 1280 * a + k = 1280 * b + j → a = b ∧ k = j) ∧
  ∀ a k : Nat, a < 6 → k < 1280 → Obj.SM_CAP_V_RAW (1280 * a + k) / 256 = 0x4000 + (1280 * a + k) ∧
    (Obj.rowOf (Obj.SM_CAP_V_RAW (1280 * a + k))).isSome = true ∧ (Obj.rowOf (Obj.SM_CLASS (1280 * a + k))).isSome = true ∧
    (Obj.rowOf (Obj.SM_CLASS 7680)).isSome = false

/-- ORB_PERIOD sets the normal cycle length in units of 0.25 us: the cycle in force when the sequencer starts at its owner is 250 ns times it. A write of 40 to 200 in CONFIG by a sender with its role is taken; a write in any other state that serves the dictionary is refused with abort 0x0800_0022, has no effect and is counted in the logbook, and a value outside the range with abort 0x0609_0030. -/
def Obligations.TheCycleLengthIsSetInConfig : Prop :=
  ∀ (s : State) (t v : Nat) (f : Sender), v < 65536 → 
    (2 ≤ s.roleOf f → s.devState = 2 → 40 ≤ v → v ≤ 200 → 
      ∃ u, exec (.registerWrite t f 0x2100 1 [v % 256, v / 256]) s = .next (State.settle (s.land t) u) ∧
        u.get Obj.ORB_PERIOD = (v : Nat) ∧
        u.out = [Out.done] ∧
        (u.owner = true → (u.lengthTake true).period = 250 * v) ∧
        s.otherIndices u [0x2100, 0x2420] ∧
        u = { s.land t with objs := u.objs, dict := u.dict, out := u.out }) ∧
    (2 ≤ s.roleOf f → s.devState ≠ 2 → 2 ≤ s.devState → s.devState ≤ 6 → 
      ∃ u, exec (.registerWrite t f 0x2100 1 [v % 256, v / 256]) s = .next (State.settle (s.land t) u) ∧
        u.out.getLast? = some (Out.abort 0x08000022) ∧
        u.get Obj.DEV_REFUSAL_ABORT = 0x08000022 ∧
        u.get (Obj.LOG_CNT 0x14) = min (s.get (Obj.LOG_CNT 0x14) + 1) 0xFFFFFFFFFFFFFFFF ∧
        u.get Obj.ORB_PERIOD = s.get Obj.ORB_PERIOD ∧
        s.entriesBut u [Obj.DEV_REFUSAL_ABORT, Obj.DEV_REFUSAL_INDEX, Obj.DEV_REFUSAL_SUBINDEX, Obj.DEV_REFUSAL_REASON, Obj.DEV_REFUSAL_CHANNEL, Obj.DEV_REFUSAL_TIME, Obj.DEV_REFUSAL_COUNT] ∧
        u = { s.land t with objs := u.objs, icu := u.icu, log := u.log, flash := u.flash, dict := u.dict, out := u.out }) ∧
    (2 ≤ s.roleOf f → s.devState = 2 → v < 40 ∨ 200 < v → 
      ∃ u, exec (.registerWrite t f 0x2100 1 [v % 256, v / 256]) s = .next (State.settle (s.land t) u) ∧
        u.out.getLast? = some (Out.abort 0x06090030) ∧
        u.get Obj.DEV_REFUSAL_ABORT = 0x06090030 ∧
        u.get (Obj.LOG_CNT 0x14) = min (s.get (Obj.LOG_CNT 0x14) + 1) 0xFFFFFFFFFFFFFFFF ∧
        u.get Obj.ORB_PERIOD = s.get Obj.ORB_PERIOD ∧
        s.entriesBut u [Obj.DEV_REFUSAL_ABORT, Obj.DEV_REFUSAL_INDEX, Obj.DEV_REFUSAL_SUBINDEX, Obj.DEV_REFUSAL_REASON, Obj.DEV_REFUSAL_CHANNEL, Obj.DEV_REFUSAL_TIME, Obj.DEV_REFUSAL_COUNT] ∧
        u = { s.land t with objs := u.objs, icu := u.icu, log := u.log, flash := u.flash, dict := u.dict, out := u.out })

/-- A completion for a source that is active for the writing target ends it there and nowhere else; one that is not active there is ignored and counted in ICU_STRAY_COMPLETE and in the logbook. A source that fired again while active is presented again after its completion, and a fast-class one re-enters the engine at KOR.FRET. -/
def Obligations.CompletionsAndRefiring : Prop :=
  ∀ (s : State) (t : Nat), 
    (∀ (target src : Nat), s.hartRuns target = true → (src, target) ∈ s.icu.active → 
      ∃ u, exec (.interruptComplete t target src) s = .next (State.settle (s.land t) u) ∧
        u.icu.active = s.icu.active.filter (· ≠ (src, target)) ∧
        u.icu.pending = s.icu.pending ∧
        s.onlyEntries u [] ∧
        u = { s.land t with objs := u.objs, icu := u.icu }) ∧
    (∀ (target src : Nat), s.hartRuns target = true → (src, target) ∉ s.icu.active → 
      ∃ u, exec (.interruptComplete t target src) s = .next (State.settle (s.land t) u) ∧
        u.get (Obj.ICU_STRAY_COMPLETE) = min (s.get (Obj.ICU_STRAY_COMPLETE) + 1) 0xFFFFFFFF ∧
        u.get (Obj.LOG_CNT 0x13) = min (s.get (Obj.LOG_CNT 0x13) + 1) 0xFFFFFFFFFFFFFFFF ∧
        u.icu = s.icu ∧
        s.onlyEntries u [Obj.ICU_STRAY_COMPLETE, Obj.LOG_CNT 0x13] ∧
        u = { s.land t with objs := u.objs }) ∧
    (∀ (target src : Nat), s.hartRuns target = true → (src, target) ∈ s.icu.active → (∀ p ∈ s.icu.active, p.1 = src → p = (src, target)) → ((s.land t).withIcu fun i => { i with active := [] }).icuPresented src target = true → 
      ∃ u, exec (.interruptComplete t target src) s = .next (State.settle (s.land t) u) ∧
        s.icuPresented src target = false ∧
        u.icuPresented src target = true) ∧
    (∀ (e : Nat) (h : Hart), s.engRuns e = true → s.eng.harts[e]? = some h → h.fast = true → h.fen = true → (h.fcause, e) ∈ s.icu.active → ((s.land t).withIcu fun i => { i with active := i.active.filter (· ≠ (h.fcause, e)) }).icuFast e = some h.fcause → 
      ∃ u, exec (.korFret t e) s = .next (State.settle (s.land t) u) ∧
        (u.eng = { s.eng with harts := updateAt s.eng.harts e fun h => { h with fast := true, fcause := h.fcause, fepc := h.fepc, fastAt := (s.land t).now, waiting := none } }) ∧
        (h.fcause, e) ∈ u.icu.active ∧
        (h.fcause, s.srcCopy h.fcause e) ∉ u.icu.pending ∧
        s.onlyEntries u [Obj.ENG_FAST_MAX e, Obj.ICU_MASK_RACE_COUNT] ∧
        u = { s.land t with objs := u.objs, eng := u.eng, icu := u.icu, out := u.out })
end

