-- ==== Sys2Proof/Laws/Store.lean ====
section
/-!
SUPPORT. The sparse stores: what a read gives after a write, and the canonical form that every write keeps.
-/

namespace Sys2Proof.Machine

/-- No listed key lies below k. -/
def Store.above (k : Nat) (l : List (Nat × Int)) : Prop := ∀ p ∈ l, k < p.1

theorem Store.rising_cons (k : Nat) (v : Int) (l : List (Nat × Int)) :
    Store.rising ((k, v) :: l) = true ↔ Store.above k l ∧ Store.rising l = true := by
  induction l generalizing k v with
  | nil => simp [Store.rising, Store.above]
  | cons p rest ih =>
    obtain ⟨k', w⟩ := p
    rw [Store.rising, Bool.and_eq_true, decide_eq_true_eq]
    constructor
    · rintro ⟨h, hr⟩
      refine ⟨?_, hr⟩
      intro q hq
      rcases List.mem_cons.1 hq with rfl | hq
      · exact h
      · exact Nat.lt_trans h (((ih k' w).1 hr).1 q hq)
    · rintro ⟨h, hr⟩
      exact ⟨h (k', w) (List.mem_cons_self ..), hr⟩

theorem Store.find?_none_of_above {k key : Nat} {l : List (Nat × Int)} (h : Store.above k l) (hk : key ≤ k) :
    Store.find? l key = none := by
  induction l with
  | nil => rfl
  | cons p rest ih =>
    obtain ⟨a, w⟩ := p
    have h1 : k < a := h (a, w) (List.mem_cons_self ..)
    have h2 : Store.above k rest := fun q hq => h q (List.mem_cons_of_mem _ hq)
    have h3 : a ≠ key := by omega
    simp [Store.find?, h3, ih h2]

theorem Store.above_erase {k : Nat} {l : List (Nat × Int)} (key : Nat) (h : Store.above k l) : Store.above k (Store.erase l key) :=
  fun p hp => h p (List.mem_filter.1 hp).1

theorem Store.above_insert {k : Nat} {l : List (Nat × Int)} {key : Nat} {v : Int} (h : Store.above k l) (hk : k < key) :
    Store.above k (Store.insert l key v) := by
  induction l with
  | nil => intro p hp; simp [Store.insert] at hp; simp [hp, hk]
  | cons q rest ih =>
    obtain ⟨a, w⟩ := q
    have h1 : k < a := h (a, w) (List.mem_cons_self ..)
    have h2 : Store.above k rest := fun q hq => h q (List.mem_cons_of_mem _ hq)
    intro p hp
    simp only [Store.insert] at hp
    split at hp
    · rcases List.mem_cons.1 hp with rfl | hp
      · exact hk
      · exact h p hp
    · rcases List.mem_cons.1 hp with rfl | hp
      · exact h1
      · exact ih h2 p hp

theorem Store.find?_erase_same (l : List (Nat × Int)) (key : Nat) : Store.find? (Store.erase l key) key = none := by
  induction l with
  | nil => rfl
  | cons p rest ih =>
    obtain ⟨a, w⟩ := p
    by_cases h : a = key
    · simpa [Store.erase, h] using ih
    · simpa [Store.erase, Store.find?, h] using ih

theorem Store.find?_erase_ne (l : List (Nat × Int)) {key other : Nat} (h : other ≠ key) :
    Store.find? (Store.erase l key) other = Store.find? l other := by
  induction l with
  | nil => rfl
  | cons p rest ih =>
    obtain ⟨a, w⟩ := p
    by_cases ha : a = key
    · have : a ≠ other := fun e => h (e ▸ ha)
      simp only [Store.find?, this, if_false, ← ih]
      simp [Store.erase, ha]
    · simp only [Store.erase, List.filter, ha, ne_eq, not_false_iff, decide_true, Store.find?] at *
      split <;> simp_all

theorem Store.find?_insert_same {l : List (Nat × Int)} {key : Nat} (v : Int) (h : Store.find? l key = none) :
    Store.find? (Store.insert l key v) key = some v := by
  induction l with
  | nil => simp [Store.insert, Store.find?]
  | cons p rest ih =>
    obtain ⟨a, w⟩ := p
    have ha : a ≠ key := by
      intro e; simp [Store.find?, e] at h
    have hr : Store.find? rest key = none := by simpa [Store.find?, ha] using h
    simp only [Store.insert]
    split
    · simp [Store.find?]
    · simp [Store.find?, ha, ih hr]

theorem Store.find?_insert_ne (l : List (Nat × Int)) {key other : Nat} (v : Int) (h : other ≠ key) :
    Store.find? (Store.insert l key v) other = Store.find? l other := by
  induction l with
  | nil => simp [Store.insert, Store.find?, h.symm]
  | cons p rest ih =>
    obtain ⟨a, w⟩ := p
    simp only [Store.insert]
    split
    · simp [Store.find?, h.symm]
    · simp only [Store.find?, ih]

/-- A read after a write of the same key gives what was written. -/
theorem Store.find?_write_same (l : List (Nat × Int)) (key : Nat) (v dflt : Int) :
    (Store.find? (Store.write l key v dflt) key).getD dflt = v := by
  unfold Store.write
  split
  · rename_i h; simp [Store.find?_erase_same, h]
  · simp [Store.find?_insert_same v (Store.find?_erase_same l key)]

/-- A write leaves every other key alone. -/
theorem Store.find?_write_ne (l : List (Nat × Int)) {key other : Nat} (v dflt : Int) (h : other ≠ key) :
    Store.find? (Store.write l key v dflt) other = Store.find? l other := by
  unfold Store.write
  split
  · exact Store.find?_erase_ne l h
  · rw [Store.find?_insert_ne _ v h, Store.find?_erase_ne l h]

theorem Store.rising_erase {l : List (Nat × Int)} (key : Nat) (h : Store.rising l = true) :
    Store.rising (Store.erase l key) = true := by
  induction l with
  | nil => rfl
  | cons p rest ih =>
    obtain ⟨a, w⟩ := p
    rw [Store.rising_cons] at h
    by_cases ha : a = key
    · simpa [Store.erase, ha] using ih h.2
    · have : Store.erase ((a, w) :: rest) key = (a, w) :: Store.erase rest key := by simp [Store.erase, ha]
      rw [this, Store.rising_cons]
      exact ⟨Store.above_erase key h.1, ih h.2⟩

theorem Store.rising_insert {l : List (Nat × Int)} {key : Nat} (v : Int) (h : Store.rising l = true)
    (hk : Store.find? l key = none) : Store.rising (Store.insert l key v) = true := by
  induction l with
  | nil => rfl
  | cons p rest ih =>
    obtain ⟨a, w⟩ := p
    have ha : a ≠ key := by
      intro e; simp [Store.find?, e] at hk
    have hr : Store.find? rest key = none := by simpa [Store.find?, ha] using hk
    have h' := (Store.rising_cons a w rest).1 h
    simp only [Store.insert]
    split
    · rename_i hlt
      rw [Store.rising_cons]
      refine ⟨?_, h⟩
      intro q hq
      rcases List.mem_cons.1 hq with rfl | hq
      · exact hlt
      · exact Nat.lt_trans hlt (h'.1 q hq)
    · rw [Store.rising_cons]
      exact ⟨Store.above_insert h'.1 (by omega), ih h'.2 hr⟩

theorem Store.mem_insert {l : List (Nat × Int)} {key : Nat} {v : Int} {p : Nat × Int} (h : p ∈ Store.insert l key v) :
    p = (key, v) ∨ p ∈ l := by
  induction l with
  | nil => simpa [Store.insert] using h
  | cons q rest ih =>
    obtain ⟨a, w⟩ := q
    simp only [Store.insert] at h
    split at h
    · rcases List.mem_cons.1 h with rfl | h
      · exact Or.inl rfl
      · exact Or.inr h
    · rcases List.mem_cons.1 h with rfl | h
      · exact Or.inr (List.mem_cons_self ..)
      · rcases ih h with h | h
        · exact Or.inl h
        · exact Or.inr (List.mem_cons_of_mem _ h)

/-- A write lists nothing but what it writes and what stood there under other keys. -/
theorem Store.mem_write {l : List (Nat × Int)} {key : Nat} {v dflt : Int} {p : Nat × Int} (h : p ∈ Store.write l key v dflt) :
    (p = (key, v) ∧ v ≠ dflt) ∨ (p ∈ l ∧ p.1 ≠ key) := by
  have er : ∀ p, p ∈ Store.erase l key → p ∈ l ∧ p.1 ≠ key := by
    intro p hp; simpa [Store.erase] using hp
  unfold Store.write at h
  split at h
  · exact Or.inr (er p h)
  · rename_i hv
    rcases Store.mem_insert h with rfl | h
    · exact Or.inl ⟨rfl, hv⟩
    · exact Or.inr (er p h)

theorem Store.rising_write {l : List (Nat × Int)} (key : Nat) (v dflt : Int) (h : Store.rising l = true) :
    Store.rising (Store.write l key v dflt) = true := by
  unfold Store.write
  split
  · exact Store.rising_erase key h
  · exact Store.rising_insert v (Store.rising_erase key h) (Store.find?_erase_same l key)

/-- A write keeps the canonical form. -/
theorem Store.wf_write {dflt : Nat → Int} {l : List (Nat × Int)} (key : Nat) (v : Int) (h : Store.wf dflt l = true) :
    Store.wf dflt (Store.write l key v (dflt key)) = true := by
  simp only [Store.wf, Bool.and_eq_true, List.all_eq_true, decide_eq_true_eq] at *
  refine ⟨Store.rising_write key v _ h.1, fun p hp => ?_⟩
  rcases Store.mem_write hp with ⟨rfl, hv⟩ | ⟨hp, -⟩
  · exact hv
  · exact h.2 p hp

/-- Reading an entry after a write of it. -/
@[simp] theorem State.get_put_same (s : State) (key : Nat) (v : Int) : (s.put key v).get key = v :=
  Store.find?_write_same s.objs key v (Obj.resetValue key)

/-- Reading another entry after a write. -/
theorem State.get_put_ne (s : State) {key other : Nat} (v : Int) (h : other ≠ key) : (s.put key v).get other = s.get other := by
  simp only [State.get, State.put, Store.find?_write_ne s.objs v (Obj.resetValue key) h]

/-- Reading any entry after a write. -/
theorem State.get_put (s : State) (key other : Nat) (v : Int) :
    (s.put key v).get other = if other = key then v else s.get other := by
  by_cases h : other = key
  · simp [h]
  · simp [h, State.get_put_ne s v h]

/-- A write of an entry keeps the store's canonical form. -/
theorem State.objsWf_put {s : State} (key : Nat) (v : Int) (h : s.objsWf = true) : (s.put key v).objsWf = true :=
  Store.wf_write key v h

/-! ## Zero-default stores -/

theorem Store.get0_put0_same (l : List (Nat × Int)) (key : Nat) (v : Int) : Store.get0 (Store.put0 l key v) key = v :=
  Store.find?_write_same l key v 0

theorem Store.get0_put0_ne (l : List (Nat × Int)) {key other : Nat} (v : Int) (h : other ≠ key) :
    Store.get0 (Store.put0 l key v) other = Store.get0 l other := by
  simp only [Store.get0, Store.put0, Store.find?_write_ne l v 0 h]

theorem Store.wf_put0 {l : List (Nat × Int)} (key : Nat) (v : Int) (h : Store.wf (fun _ => 0) l = true) :
    Store.wf (fun _ => 0) (Store.put0 l key v) = true :=
  Store.wf_write (dflt := fun _ => 0) key v h

/-! ## The end of a command -/

theorem Store.rising_lead {l : List (Nat × Int)} (key : Nat) (v dflt : Int) (h : Store.rising l = true) :
    Store.rising (Store.lead l key v dflt) = true := by
  cases l with
  | nil => simp only [Store.lead]; split <;> rfl
  | cons p rest =>
    obtain ⟨k, w⟩ := p
    simp only [Store.lead]
    split
    · rename_i hk
      split
      · exact h
      · rw [Store.rising_cons]
        refine ⟨?_, h⟩
        intro q hq
        rcases List.mem_cons.1 hq with rfl | hq
        · exact hk
        · exact Nat.lt_trans hk (((Store.rising_cons k w rest).1 h).1 q hq)
    · exact Store.rising_write key v dflt h

theorem Store.mem_lead {l : List (Nat × Int)} {key : Nat} {v dflt : Int} {p : Nat × Int} (h : p ∈ Store.lead l key v dflt) :
    (p = (key, v) ∧ v ≠ dflt) ∨ p ∈ l := by
  cases l with
  | nil =>
    simp only [Store.lead] at h
    split at h
    · cases h
    · rename_i hv; exact Or.inl ⟨by simpa using h, hv⟩
  | cons q rest =>
    obtain ⟨k, w⟩ := q
    simp only [Store.lead] at h
    split at h
    · split at h
      · exact Or.inr h
      · rename_i hv
        rcases List.mem_cons.1 h with rfl | h
        · exact Or.inl ⟨rfl, hv⟩
        · exact Or.inr h
    · rcases Store.mem_write h with h | h
      · exact Or.inl h
      · exact Or.inr h.1

end Sys2Proof.Machine
end

