-- ==== Sys2Proof/Laws/State.lean ====
section
/-!
SUPPORT. What each update of the state leaves alone: one lemma per field and update, and what a read of an entry gives after it.
-/

namespace Sys2Proof.Machine

@[simp] theorem State.land_pending (s : State) (t : Nat) : (s.land t).pending = s.pending := rfl
@[simp] theorem State.land_objs (s : State) (t : Nat) : (s.land t).objs = s.objs := rfl
@[simp] theorem State.land_freeCtr (s : State) (t : Nat) : (s.land t).freeCtr = s.freeCtr := rfl
@[simp] theorem State.land_boot (s : State) (t : Nat) : (s.land t).boot = s.boot := rfl
@[simp] theorem State.land_aon (s : State) (t : Nat) : (s.land t).aon = s.aon := rfl
@[simp] theorem State.land_flash (s : State) (t : Nat) : (s.land t).flash = s.flash := rfl
@[simp] theorem State.land_otp (s : State) (t : Nat) : (s.land t).otp = s.otp := rfl
@[simp] theorem State.land_pins (s : State) (t : Nat) : (s.land t).pins = s.pins := rfl
@[simp] theorem State.land_orb (s : State) (t : Nat) : (s.land t).orb = s.orb := rfl
@[simp] theorem State.land_clk (s : State) (t : Nat) : (s.land t).clk = s.clk := rfl
@[simp] theorem State.land_lan (s : State) (t : Nat) : (s.land t).lan = s.lan := rfl
@[simp] theorem State.land_lnk (s : State) (t : Nat) : (s.land t).lnk = s.lnk := rfl
@[simp] theorem State.land_prt (s : State) (t : Nat) : (s.land t).prt = s.prt := rfl
@[simp] theorem State.land_gpf (s : State) (t : Nat) : (s.land t).gpf = s.gpf := rfl
@[simp] theorem State.land_tim (s : State) (t : Nat) : (s.land t).tim = s.tim := rfl
@[simp] theorem State.land_eng (s : State) (t : Nat) : (s.land t).eng = s.eng := rfl
@[simp] theorem State.land_icu (s : State) (t : Nat) : (s.land t).icu = s.icu := rfl
@[simp] theorem State.land_dict (s : State) (t : Nat) : (s.land t).dict = s.dict := rfl
@[simp] theorem State.land_log (s : State) (t : Nat) : (s.land t).log = s.log := rfl
@[simp] theorem State.land_age (s : State) (t : Nat) : (s.land t).age = s.age := rfl
@[simp] theorem State.land_mea (s : State) (t : Nat) : (s.land t).mea = s.mea := rfl
@[simp] theorem State.land_swg (s : State) (t : Nat) : (s.land t).swg = s.swg := rfl
@[simp] theorem State.land_frt (s : State) (t : Nat) : (s.land t).frt = s.frt := rfl
@[simp] theorem State.land_red (s : State) (t : Nat) : (s.land t).red = s.red := rfl
@[simp] theorem State.land_cmt (s : State) (t : Nat) : (s.land t).cmt = s.cmt := rfl
@[simp] theorem State.land_car (s : State) (t : Nat) : (s.land t).car = s.car := rfl
@[simp] theorem State.get_land (s : State) (t : Nat) (key : Nat) : (s.land t).get key = s.get key := rfl
@[simp] theorem State.getN_land (s : State) (t : Nat) (key : Nat) : (s.land t).getN key = s.getN key := rfl
@[simp] theorem State.bit_land (s : State) (t : Nat) (key i : Nat) : (s.land t).bit key i = s.bit key i := rfl

@[simp] theorem State.put_pending (s : State) (k : Nat) (v : Int) : (s.put k v).pending = s.pending := rfl
@[simp] theorem State.put_out (s : State) (k : Nat) (v : Int) : (s.put k v).out = s.out := rfl
@[simp] theorem State.put_now (s : State) (k : Nat) (v : Int) : (s.put k v).now = s.now := rfl
@[simp] theorem State.put_freeCtr (s : State) (k : Nat) (v : Int) : (s.put k v).freeCtr = s.freeCtr := rfl
@[simp] theorem State.put_boot (s : State) (k : Nat) (v : Int) : (s.put k v).boot = s.boot := rfl
@[simp] theorem State.put_aon (s : State) (k : Nat) (v : Int) : (s.put k v).aon = s.aon := rfl
@[simp] theorem State.put_flash (s : State) (k : Nat) (v : Int) : (s.put k v).flash = s.flash := rfl
@[simp] theorem State.put_otp (s : State) (k : Nat) (v : Int) : (s.put k v).otp = s.otp := rfl
@[simp] theorem State.put_pins (s : State) (k : Nat) (v : Int) : (s.put k v).pins = s.pins := rfl
@[simp] theorem State.put_orb (s : State) (k : Nat) (v : Int) : (s.put k v).orb = s.orb := rfl
@[simp] theorem State.put_clk (s : State) (k : Nat) (v : Int) : (s.put k v).clk = s.clk := rfl
@[simp] theorem State.put_lan (s : State) (k : Nat) (v : Int) : (s.put k v).lan = s.lan := rfl
@[simp] theorem State.put_lnk (s : State) (k : Nat) (v : Int) : (s.put k v).lnk = s.lnk := rfl
@[simp] theorem State.put_prt (s : State) (k : Nat) (v : Int) : (s.put k v).prt = s.prt := rfl
@[simp] theorem State.put_gpf (s : State) (k : Nat) (v : Int) : (s.put k v).gpf = s.gpf := rfl
@[simp] theorem State.put_tim (s : State) (k : Nat) (v : Int) : (s.put k v).tim = s.tim := rfl
@[simp] theorem State.put_eng (s : State) (k : Nat) (v : Int) : (s.put k v).eng = s.eng := rfl
@[simp] theorem State.put_icu (s : State) (k : Nat) (v : Int) : (s.put k v).icu = s.icu := rfl
@[simp] theorem State.put_dict (s : State) (k : Nat) (v : Int) : (s.put k v).dict = s.dict := rfl
@[simp] theorem State.put_log (s : State) (k : Nat) (v : Int) : (s.put k v).log = s.log := rfl
@[simp] theorem State.put_age (s : State) (k : Nat) (v : Int) : (s.put k v).age = s.age := rfl
@[simp] theorem State.put_mea (s : State) (k : Nat) (v : Int) : (s.put k v).mea = s.mea := rfl
@[simp] theorem State.put_swg (s : State) (k : Nat) (v : Int) : (s.put k v).swg = s.swg := rfl
@[simp] theorem State.put_frt (s : State) (k : Nat) (v : Int) : (s.put k v).frt = s.frt := rfl
@[simp] theorem State.put_red (s : State) (k : Nat) (v : Int) : (s.put k v).red = s.red := rfl
@[simp] theorem State.put_cmt (s : State) (k : Nat) (v : Int) : (s.put k v).cmt = s.cmt := rfl
@[simp] theorem State.put_car (s : State) (k : Nat) (v : Int) : (s.put k v).car = s.car := rfl

@[simp] theorem State.add_pending (s : State) (k : Nat) (n : Int) : (s.add k n).pending = s.pending := rfl
@[simp] theorem State.add_out (s : State) (k : Nat) (n : Int) : (s.add k n).out = s.out := rfl
@[simp] theorem State.add_now (s : State) (k : Nat) (n : Int) : (s.add k n).now = s.now := rfl
@[simp] theorem State.add_freeCtr (s : State) (k : Nat) (n : Int) : (s.add k n).freeCtr = s.freeCtr := rfl
@[simp] theorem State.add_boot (s : State) (k : Nat) (n : Int) : (s.add k n).boot = s.boot := rfl
@[simp] theorem State.add_aon (s : State) (k : Nat) (n : Int) : (s.add k n).aon = s.aon := rfl
@[simp] theorem State.add_flash (s : State) (k : Nat) (n : Int) : (s.add k n).flash = s.flash := rfl
@[simp] theorem State.add_otp (s : State) (k : Nat) (n : Int) : (s.add k n).otp = s.otp := rfl
@[simp] theorem State.add_pins (s : State) (k : Nat) (n : Int) : (s.add k n).pins = s.pins := rfl
@[simp] theorem State.add_orb (s : State) (k : Nat) (n : Int) : (s.add k n).orb = s.orb := rfl
@[simp] theorem State.add_clk (s : State) (k : Nat) (n : Int) : (s.add k n).clk = s.clk := rfl
@[simp] theorem State.add_lan (s : State) (k : Nat) (n : Int) : (s.add k n).lan = s.lan := rfl
@[simp] theorem State.add_lnk (s : State) (k : Nat) (n : Int) : (s.add k n).lnk = s.lnk := rfl
@[simp] theorem State.add_prt (s : State) (k : Nat) (n : Int) : (s.add k n).prt = s.prt := rfl
@[simp] theorem State.add_gpf (s : State) (k : Nat) (n : Int) : (s.add k n).gpf = s.gpf := rfl
@[simp] theorem State.add_tim (s : State) (k : Nat) (n : Int) : (s.add k n).tim = s.tim := rfl
@[simp] theorem State.add_eng (s : State) (k : Nat) (n : Int) : (s.add k n).eng = s.eng := rfl
@[simp] theorem State.add_icu (s : State) (k : Nat) (n : Int) : (s.add k n).icu = s.icu := rfl
@[simp] theorem State.add_dict (s : State) (k : Nat) (n : Int) : (s.add k n).dict = s.dict := rfl
@[simp] theorem State.add_log (s : State) (k : Nat) (n : Int) : (s.add k n).log = s.log := rfl
@[simp] theorem State.add_age (s : State) (k : Nat) (n : Int) : (s.add k n).age = s.age := rfl
@[simp] theorem State.add_mea (s : State) (k : Nat) (n : Int) : (s.add k n).mea = s.mea := rfl
@[simp] theorem State.add_swg (s : State) (k : Nat) (n : Int) : (s.add k n).swg = s.swg := rfl
@[simp] theorem State.add_frt (s : State) (k : Nat) (n : Int) : (s.add k n).frt = s.frt := rfl
@[simp] theorem State.add_red (s : State) (k : Nat) (n : Int) : (s.add k n).red = s.red := rfl
@[simp] theorem State.add_cmt (s : State) (k : Nat) (n : Int) : (s.add k n).cmt = s.cmt := rfl
@[simp] theorem State.add_car (s : State) (k : Nat) (n : Int) : (s.add k n).car = s.car := rfl

@[simp] theorem State.add64_pending (s : State) (k : Nat) (n : Int) : (s.add64 k n).pending = s.pending := rfl
@[simp] theorem State.add64_out (s : State) (k : Nat) (n : Int) : (s.add64 k n).out = s.out := rfl
@[simp] theorem State.add64_now (s : State) (k : Nat) (n : Int) : (s.add64 k n).now = s.now := rfl
@[simp] theorem State.add64_freeCtr (s : State) (k : Nat) (n : Int) : (s.add64 k n).freeCtr = s.freeCtr := rfl
@[simp] theorem State.add64_boot (s : State) (k : Nat) (n : Int) : (s.add64 k n).boot = s.boot := rfl
@[simp] theorem State.add64_aon (s : State) (k : Nat) (n : Int) : (s.add64 k n).aon = s.aon := rfl
@[simp] theorem State.add64_flash (s : State) (k : Nat) (n : Int) : (s.add64 k n).flash = s.flash := rfl
@[simp] theorem State.add64_otp (s : State) (k : Nat) (n : Int) : (s.add64 k n).otp = s.otp := rfl
@[simp] theorem State.add64_pins (s : State) (k : Nat) (n : Int) : (s.add64 k n).pins = s.pins := rfl
@[simp] theorem State.add64_orb (s : State) (k : Nat) (n : Int) : (s.add64 k n).orb = s.orb := rfl
@[simp] theorem State.add64_clk (s : State) (k : Nat) (n : Int) : (s.add64 k n).clk = s.clk := rfl
@[simp] theorem State.add64_lan (s : State) (k : Nat) (n : Int) : (s.add64 k n).lan = s.lan := rfl
@[simp] theorem State.add64_lnk (s : State) (k : Nat) (n : Int) : (s.add64 k n).lnk = s.lnk := rfl
@[simp] theorem State.add64_prt (s : State) (k : Nat) (n : Int) : (s.add64 k n).prt = s.prt := rfl
@[simp] theorem State.add64_gpf (s : State) (k : Nat) (n : Int) : (s.add64 k n).gpf = s.gpf := rfl
@[simp] theorem State.add64_tim (s : State) (k : Nat) (n : Int) : (s.add64 k n).tim = s.tim := rfl
@[simp] theorem State.add64_eng (s : State) (k : Nat) (n : Int) : (s.add64 k n).eng = s.eng := rfl
@[simp] theorem State.add64_icu (s : State) (k : Nat) (n : Int) : (s.add64 k n).icu = s.icu := rfl
@[simp] theorem State.add64_dict (s : State) (k : Nat) (n : Int) : (s.add64 k n).dict = s.dict := rfl
@[simp] theorem State.add64_log (s : State) (k : Nat) (n : Int) : (s.add64 k n).log = s.log := rfl
@[simp] theorem State.add64_age (s : State) (k : Nat) (n : Int) : (s.add64 k n).age = s.age := rfl
@[simp] theorem State.add64_mea (s : State) (k : Nat) (n : Int) : (s.add64 k n).mea = s.mea := rfl
@[simp] theorem State.add64_swg (s : State) (k : Nat) (n : Int) : (s.add64 k n).swg = s.swg := rfl
@[simp] theorem State.add64_frt (s : State) (k : Nat) (n : Int) : (s.add64 k n).frt = s.frt := rfl
@[simp] theorem State.add64_red (s : State) (k : Nat) (n : Int) : (s.add64 k n).red = s.red := rfl
@[simp] theorem State.add64_cmt (s : State) (k : Nat) (n : Int) : (s.add64 k n).cmt = s.cmt := rfl
@[simp] theorem State.add64_car (s : State) (k : Nat) (n : Int) : (s.add64 k n).car = s.car := rfl

@[simp] theorem State.bump_pending (s : State) (k : Nat) : (s.bump k).pending = s.pending := rfl
@[simp] theorem State.bump_out (s : State) (k : Nat) : (s.bump k).out = s.out := rfl
@[simp] theorem State.bump_now (s : State) (k : Nat) : (s.bump k).now = s.now := rfl
@[simp] theorem State.bump_freeCtr (s : State) (k : Nat) : (s.bump k).freeCtr = s.freeCtr := rfl
@[simp] theorem State.bump_boot (s : State) (k : Nat) : (s.bump k).boot = s.boot := rfl
@[simp] theorem State.bump_aon (s : State) (k : Nat) : (s.bump k).aon = s.aon := rfl
@[simp] theorem State.bump_flash (s : State) (k : Nat) : (s.bump k).flash = s.flash := rfl
@[simp] theorem State.bump_otp (s : State) (k : Nat) : (s.bump k).otp = s.otp := rfl
@[simp] theorem State.bump_pins (s : State) (k : Nat) : (s.bump k).pins = s.pins := rfl
@[simp] theorem State.bump_orb (s : State) (k : Nat) : (s.bump k).orb = s.orb := rfl
@[simp] theorem State.bump_clk (s : State) (k : Nat) : (s.bump k).clk = s.clk := rfl
@[simp] theorem State.bump_lan (s : State) (k : Nat) : (s.bump k).lan = s.lan := rfl
@[simp] theorem State.bump_lnk (s : State) (k : Nat) : (s.bump k).lnk = s.lnk := rfl
@[simp] theorem State.bump_prt (s : State) (k : Nat) : (s.bump k).prt = s.prt := rfl
@[simp] theorem State.bump_gpf (s : State) (k : Nat) : (s.bump k).gpf = s.gpf := rfl
@[simp] theorem State.bump_tim (s : State) (k : Nat) : (s.bump k).tim = s.tim := rfl
@[simp] theorem State.bump_eng (s : State) (k : Nat) : (s.bump k).eng = s.eng := rfl
@[simp] theorem State.bump_icu (s : State) (k : Nat) : (s.bump k).icu = s.icu := rfl
@[simp] theorem State.bump_dict (s : State) (k : Nat) : (s.bump k).dict = s.dict := rfl
@[simp] theorem State.bump_log (s : State) (k : Nat) : (s.bump k).log = s.log := rfl
@[simp] theorem State.bump_age (s : State) (k : Nat) : (s.bump k).age = s.age := rfl
@[simp] theorem State.bump_mea (s : State) (k : Nat) : (s.bump k).mea = s.mea := rfl
@[simp] theorem State.bump_swg (s : State) (k : Nat) : (s.bump k).swg = s.swg := rfl
@[simp] theorem State.bump_frt (s : State) (k : Nat) : (s.bump k).frt = s.frt := rfl
@[simp] theorem State.bump_red (s : State) (k : Nat) : (s.bump k).red = s.red := rfl
@[simp] theorem State.bump_cmt (s : State) (k : Nat) : (s.bump k).cmt = s.cmt := rfl
@[simp] theorem State.bump_car (s : State) (k : Nat) : (s.bump k).car = s.car := rfl

@[simp] theorem State.setBit_pending (s : State) (k b : Nat) (on : Bool) : (s.setBit k b on).pending = s.pending := rfl
@[simp] theorem State.setBit_out (s : State) (k b : Nat) (on : Bool) : (s.setBit k b on).out = s.out := rfl
@[simp] theorem State.setBit_now (s : State) (k b : Nat) (on : Bool) : (s.setBit k b on).now = s.now := rfl
@[simp] theorem State.setBit_freeCtr (s : State) (k b : Nat) (on : Bool) : (s.setBit k b on).freeCtr = s.freeCtr := rfl
@[simp] theorem State.setBit_boot (s : State) (k b : Nat) (on : Bool) : (s.setBit k b on).boot = s.boot := rfl
@[simp] theorem State.setBit_aon (s : State) (k b : Nat) (on : Bool) : (s.setBit k b on).aon = s.aon := rfl
@[simp] theorem State.setBit_flash (s : State) (k b : Nat) (on : Bool) : (s.setBit k b on).flash = s.flash := rfl
@[simp] theorem State.setBit_otp (s : State) (k b : Nat) (on : Bool) : (s.setBit k b on).otp = s.otp := rfl
@[simp] theorem State.setBit_pins (s : State) (k b : Nat) (on : Bool) : (s.setBit k b on).pins = s.pins := rfl
@[simp] theorem State.setBit_orb (s : State) (k b : Nat) (on : Bool) : (s.setBit k b on).orb = s.orb := rfl
@[simp] theorem State.setBit_clk (s : State) (k b : Nat) (on : Bool) : (s.setBit k b on).clk = s.clk := rfl
@[simp] theorem State.setBit_lan (s : State) (k b : Nat) (on : Bool) : (s.setBit k b on).lan = s.lan := rfl
@[simp] theorem State.setBit_lnk (s : State) (k b : Nat) (on : Bool) : (s.setBit k b on).lnk = s.lnk := rfl
@[simp] theorem State.setBit_prt (s : State) (k b : Nat) (on : Bool) : (s.setBit k b on).prt = s.prt := rfl
@[simp] theorem State.setBit_gpf (s : State) (k b : Nat) (on : Bool) : (s.setBit k b on).gpf = s.gpf := rfl
@[simp] theorem State.setBit_tim (s : State) (k b : Nat) (on : Bool) : (s.setBit k b on).tim = s.tim := rfl
@[simp] theorem State.setBit_eng (s : State) (k b : Nat) (on : Bool) : (s.setBit k b on).eng = s.eng := rfl
@[simp] theorem State.setBit_icu (s : State) (k b : Nat) (on : Bool) : (s.setBit k b on).icu = s.icu := rfl
@[simp] theorem State.setBit_dict (s : State) (k b : Nat) (on : Bool) : (s.setBit k b on).dict = s.dict := rfl
@[simp] theorem State.setBit_log (s : State) (k b : Nat) (on : Bool) : (s.setBit k b on).log = s.log := rfl
@[simp] theorem State.setBit_age (s : State) (k b : Nat) (on : Bool) : (s.setBit k b on).age = s.age := rfl
@[simp] theorem State.setBit_mea (s : State) (k b : Nat) (on : Bool) : (s.setBit k b on).mea = s.mea := rfl
@[simp] theorem State.setBit_swg (s : State) (k b : Nat) (on : Bool) : (s.setBit k b on).swg = s.swg := rfl
@[simp] theorem State.setBit_frt (s : State) (k b : Nat) (on : Bool) : (s.setBit k b on).frt = s.frt := rfl
@[simp] theorem State.setBit_red (s : State) (k b : Nat) (on : Bool) : (s.setBit k b on).red = s.red := rfl
@[simp] theorem State.setBit_cmt (s : State) (k b : Nat) (on : Bool) : (s.setBit k b on).cmt = s.cmt := rfl
@[simp] theorem State.setBit_car (s : State) (k b : Nat) (on : Bool) : (s.setBit k b on).car = s.car := rfl

@[simp] theorem State.countBy_pending (s : State) (c : Nat) (n : Int) : (s.countBy c n).pending = s.pending := rfl
@[simp] theorem State.countBy_out (s : State) (c : Nat) (n : Int) : (s.countBy c n).out = s.out := rfl
@[simp] theorem State.countBy_now (s : State) (c : Nat) (n : Int) : (s.countBy c n).now = s.now := rfl
@[simp] theorem State.countBy_freeCtr (s : State) (c : Nat) (n : Int) : (s.countBy c n).freeCtr = s.freeCtr := rfl
@[simp] theorem State.countBy_boot (s : State) (c : Nat) (n : Int) : (s.countBy c n).boot = s.boot := rfl
@[simp] theorem State.countBy_aon (s : State) (c : Nat) (n : Int) : (s.countBy c n).aon = s.aon := rfl
@[simp] theorem State.countBy_flash (s : State) (c : Nat) (n : Int) : (s.countBy c n).flash = s.flash := rfl
@[simp] theorem State.countBy_otp (s : State) (c : Nat) (n : Int) : (s.countBy c n).otp = s.otp := rfl
@[simp] theorem State.countBy_pins (s : State) (c : Nat) (n : Int) : (s.countBy c n).pins = s.pins := rfl
@[simp] theorem State.countBy_orb (s : State) (c : Nat) (n : Int) : (s.countBy c n).orb = s.orb := rfl
@[simp] theorem State.countBy_clk (s : State) (c : Nat) (n : Int) : (s.countBy c n).clk = s.clk := rfl
@[simp] theorem State.countBy_lan (s : State) (c : Nat) (n : Int) : (s.countBy c n).lan = s.lan := rfl
@[simp] theorem State.countBy_lnk (s : State) (c : Nat) (n : Int) : (s.countBy c n).lnk = s.lnk := rfl
@[simp] theorem State.countBy_prt (s : State) (c : Nat) (n : Int) : (s.countBy c n).prt = s.prt := rfl
@[simp] theorem State.countBy_gpf (s : State) (c : Nat) (n : Int) : (s.countBy c n).gpf = s.gpf := rfl
@[simp] theorem State.countBy_tim (s : State) (c : Nat) (n : Int) : (s.countBy c n).tim = s.tim := rfl
@[simp] theorem State.countBy_eng (s : State) (c : Nat) (n : Int) : (s.countBy c n).eng = s.eng := rfl
@[simp] theorem State.countBy_icu (s : State) (c : Nat) (n : Int) : (s.countBy c n).icu = s.icu := rfl
@[simp] theorem State.countBy_dict (s : State) (c : Nat) (n : Int) : (s.countBy c n).dict = s.dict := rfl
@[simp] theorem State.countBy_log (s : State) (c : Nat) (n : Int) : (s.countBy c n).log = s.log := rfl
@[simp] theorem State.countBy_age (s : State) (c : Nat) (n : Int) : (s.countBy c n).age = s.age := rfl
@[simp] theorem State.countBy_mea (s : State) (c : Nat) (n : Int) : (s.countBy c n).mea = s.mea := rfl
@[simp] theorem State.countBy_swg (s : State) (c : Nat) (n : Int) : (s.countBy c n).swg = s.swg := rfl
@[simp] theorem State.countBy_frt (s : State) (c : Nat) (n : Int) : (s.countBy c n).frt = s.frt := rfl
@[simp] theorem State.countBy_red (s : State) (c : Nat) (n : Int) : (s.countBy c n).red = s.red := rfl
@[simp] theorem State.countBy_cmt (s : State) (c : Nat) (n : Int) : (s.countBy c n).cmt = s.cmt := rfl
@[simp] theorem State.countBy_car (s : State) (c : Nat) (n : Int) : (s.countBy c n).car = s.car := rfl

@[simp] theorem State.count_pending (s : State) (c : Nat) : (s.count c).pending = s.pending := rfl
@[simp] theorem State.count_out (s : State) (c : Nat) : (s.count c).out = s.out := rfl
@[simp] theorem State.count_now (s : State) (c : Nat) : (s.count c).now = s.now := rfl
@[simp] theorem State.count_freeCtr (s : State) (c : Nat) : (s.count c).freeCtr = s.freeCtr := rfl
@[simp] theorem State.count_boot (s : State) (c : Nat) : (s.count c).boot = s.boot := rfl
@[simp] theorem State.count_aon (s : State) (c : Nat) : (s.count c).aon = s.aon := rfl
@[simp] theorem State.count_flash (s : State) (c : Nat) : (s.count c).flash = s.flash := rfl
@[simp] theorem State.count_otp (s : State) (c : Nat) : (s.count c).otp = s.otp := rfl
@[simp] theorem State.count_pins (s : State) (c : Nat) : (s.count c).pins = s.pins := rfl
@[simp] theorem State.count_orb (s : State) (c : Nat) : (s.count c).orb = s.orb := rfl
@[simp] theorem State.count_clk (s : State) (c : Nat) : (s.count c).clk = s.clk := rfl
@[simp] theorem State.count_lan (s : State) (c : Nat) : (s.count c).lan = s.lan := rfl
@[simp] theorem State.count_lnk (s : State) (c : Nat) : (s.count c).lnk = s.lnk := rfl
@[simp] theorem State.count_prt (s : State) (c : Nat) : (s.count c).prt = s.prt := rfl
@[simp] theorem State.count_gpf (s : State) (c : Nat) : (s.count c).gpf = s.gpf := rfl
@[simp] theorem State.count_tim (s : State) (c : Nat) : (s.count c).tim = s.tim := rfl
@[simp] theorem State.count_eng (s : State) (c : Nat) : (s.count c).eng = s.eng := rfl
@[simp] theorem State.count_icu (s : State) (c : Nat) : (s.count c).icu = s.icu := rfl
@[simp] theorem State.count_dict (s : State) (c : Nat) : (s.count c).dict = s.dict := rfl
@[simp] theorem State.count_log (s : State) (c : Nat) : (s.count c).log = s.log := rfl
@[simp] theorem State.count_age (s : State) (c : Nat) : (s.count c).age = s.age := rfl
@[simp] theorem State.count_mea (s : State) (c : Nat) : (s.count c).mea = s.mea := rfl
@[simp] theorem State.count_swg (s : State) (c : Nat) : (s.count c).swg = s.swg := rfl
@[simp] theorem State.count_frt (s : State) (c : Nat) : (s.count c).frt = s.frt := rfl
@[simp] theorem State.count_red (s : State) (c : Nat) : (s.count c).red = s.red := rfl
@[simp] theorem State.count_cmt (s : State) (c : Nat) : (s.count c).cmt = s.cmt := rfl
@[simp] theorem State.count_car (s : State) (c : Nat) : (s.count c).car = s.car := rfl

@[simp] theorem State.emit_pending (s : State) (o : Out) : (s.emit o).pending = s.pending := rfl
@[simp] theorem State.emit_objs (s : State) (o : Out) : (s.emit o).objs = s.objs := rfl
@[simp] theorem State.emit_now (s : State) (o : Out) : (s.emit o).now = s.now := rfl
@[simp] theorem State.emit_freeCtr (s : State) (o : Out) : (s.emit o).freeCtr = s.freeCtr := rfl
@[simp] theorem State.emit_boot (s : State) (o : Out) : (s.emit o).boot = s.boot := rfl
@[simp] theorem State.emit_aon (s : State) (o : Out) : (s.emit o).aon = s.aon := rfl
@[simp] theorem State.emit_flash (s : State) (o : Out) : (s.emit o).flash = s.flash := rfl
@[simp] theorem State.emit_otp (s : State) (o : Out) : (s.emit o).otp = s.otp := rfl
@[simp] theorem State.emit_pins (s : State) (o : Out) : (s.emit o).pins = s.pins := rfl
@[simp] theorem State.emit_orb (s : State) (o : Out) : (s.emit o).orb = s.orb := rfl
@[simp] theorem State.emit_clk (s : State) (o : Out) : (s.emit o).clk = s.clk := rfl
@[simp] theorem State.emit_lan (s : State) (o : Out) : (s.emit o).lan = s.lan := rfl
@[simp] theorem State.emit_lnk (s : State) (o : Out) : (s.emit o).lnk = s.lnk := rfl
@[simp] theorem State.emit_prt (s : State) (o : Out) : (s.emit o).prt = s.prt := rfl
@[simp] theorem State.emit_gpf (s : State) (o : Out) : (s.emit o).gpf = s.gpf := rfl
@[simp] theorem State.emit_tim (s : State) (o : Out) : (s.emit o).tim = s.tim := rfl
@[simp] theorem State.emit_eng (s : State) (o : Out) : (s.emit o).eng = s.eng := rfl
@[simp] theorem State.emit_icu (s : State) (o : Out) : (s.emit o).icu = s.icu := rfl
@[simp] theorem State.emit_dict (s : State) (o : Out) : (s.emit o).dict = s.dict := rfl
@[simp] theorem State.emit_log (s : State) (o : Out) : (s.emit o).log = s.log := rfl
@[simp] theorem State.emit_age (s : State) (o : Out) : (s.emit o).age = s.age := rfl
@[simp] theorem State.emit_mea (s : State) (o : Out) : (s.emit o).mea = s.mea := rfl
@[simp] theorem State.emit_swg (s : State) (o : Out) : (s.emit o).swg = s.swg := rfl
@[simp] theorem State.emit_frt (s : State) (o : Out) : (s.emit o).frt = s.frt := rfl
@[simp] theorem State.emit_red (s : State) (o : Out) : (s.emit o).red = s.red := rfl
@[simp] theorem State.emit_cmt (s : State) (o : Out) : (s.emit o).cmt = s.cmt := rfl
@[simp] theorem State.emit_car (s : State) (o : Out) : (s.emit o).car = s.car := rfl
@[simp] theorem State.get_emit (s : State) (o : Out) (key : Nat) : (s.emit o).get key = s.get key := rfl
@[simp] theorem State.getN_emit (s : State) (o : Out) (key : Nat) : (s.emit o).getN key = s.getN key := rfl
@[simp] theorem State.bit_emit (s : State) (o : Out) (key i : Nat) : (s.emit o).bit key i = s.bit key i := rfl

@[simp] theorem State.raise_pending (s : State) (n : Nat) : (s.raise n).pending = s.pending := rfl
@[simp] theorem State.raise_objs (s : State) (n : Nat) : (s.raise n).objs = s.objs := rfl
@[simp] theorem State.raise_out (s : State) (n : Nat) : (s.raise n).out = s.out := rfl
@[simp] theorem State.raise_now (s : State) (n : Nat) : (s.raise n).now = s.now := rfl
@[simp] theorem State.raise_freeCtr (s : State) (n : Nat) : (s.raise n).freeCtr = s.freeCtr := rfl
@[simp] theorem State.raise_boot (s : State) (n : Nat) : (s.raise n).boot = s.boot := rfl
@[simp] theorem State.raise_aon (s : State) (n : Nat) : (s.raise n).aon = s.aon := rfl
@[simp] theorem State.raise_flash (s : State) (n : Nat) : (s.raise n).flash = s.flash := rfl
@[simp] theorem State.raise_otp (s : State) (n : Nat) : (s.raise n).otp = s.otp := rfl
@[simp] theorem State.raise_pins (s : State) (n : Nat) : (s.raise n).pins = s.pins := rfl
@[simp] theorem State.raise_orb (s : State) (n : Nat) : (s.raise n).orb = s.orb := rfl
@[simp] theorem State.raise_clk (s : State) (n : Nat) : (s.raise n).clk = s.clk := rfl
@[simp] theorem State.raise_lan (s : State) (n : Nat) : (s.raise n).lan = s.lan := rfl
@[simp] theorem State.raise_lnk (s : State) (n : Nat) : (s.raise n).lnk = s.lnk := rfl
@[simp] theorem State.raise_prt (s : State) (n : Nat) : (s.raise n).prt = s.prt := rfl
@[simp] theorem State.raise_gpf (s : State) (n : Nat) : (s.raise n).gpf = s.gpf := rfl
@[simp] theorem State.raise_tim (s : State) (n : Nat) : (s.raise n).tim = s.tim := rfl
@[simp] theorem State.raise_eng (s : State) (n : Nat) : (s.raise n).eng = s.eng := rfl
@[simp] theorem State.raise_dict (s : State) (n : Nat) : (s.raise n).dict = s.dict := rfl
@[simp] theorem State.raise_log (s : State) (n : Nat) : (s.raise n).log = s.log := rfl
@[simp] theorem State.raise_age (s : State) (n : Nat) : (s.raise n).age = s.age := rfl
@[simp] theorem State.raise_mea (s : State) (n : Nat) : (s.raise n).mea = s.mea := rfl
@[simp] theorem State.raise_swg (s : State) (n : Nat) : (s.raise n).swg = s.swg := rfl
@[simp] theorem State.raise_frt (s : State) (n : Nat) : (s.raise n).frt = s.frt := rfl
@[simp] theorem State.raise_red (s : State) (n : Nat) : (s.raise n).red = s.red := rfl
@[simp] theorem State.raise_cmt (s : State) (n : Nat) : (s.raise n).cmt = s.cmt := rfl
@[simp] theorem State.raise_car (s : State) (n : Nat) : (s.raise n).car = s.car := rfl
@[simp] theorem State.get_raise (s : State) (n : Nat) (key : Nat) : (s.raise n).get key = s.get key := rfl
@[simp] theorem State.getN_raise (s : State) (n : Nat) (key : Nat) : (s.raise n).getN key = s.getN key := rfl
@[simp] theorem State.bit_raise (s : State) (n : Nat) (key i : Nat) : (s.raise n).bit key i = s.bit key i := rfl

@[simp] theorem State.usedFree_pending (s : State) : (s.usedFree).pending = s.pending := rfl
@[simp] theorem State.usedFree_objs (s : State) : (s.usedFree).objs = s.objs := rfl
@[simp] theorem State.usedFree_out (s : State) : (s.usedFree).out = s.out := rfl
@[simp] theorem State.usedFree_now (s : State) : (s.usedFree).now = s.now := rfl
@[simp] theorem State.usedFree_boot (s : State) : (s.usedFree).boot = s.boot := rfl
@[simp] theorem State.usedFree_aon (s : State) : (s.usedFree).aon = s.aon := rfl
@[simp] theorem State.usedFree_flash (s : State) : (s.usedFree).flash = s.flash := rfl
@[simp] theorem State.usedFree_otp (s : State) : (s.usedFree).otp = s.otp := rfl
@[simp] theorem State.usedFree_pins (s : State) : (s.usedFree).pins = s.pins := rfl
@[simp] theorem State.usedFree_orb (s : State) : (s.usedFree).orb = s.orb := rfl
@[simp] theorem State.usedFree_clk (s : State) : (s.usedFree).clk = s.clk := rfl
@[simp] theorem State.usedFree_lan (s : State) : (s.usedFree).lan = s.lan := rfl
@[simp] theorem State.usedFree_lnk (s : State) : (s.usedFree).lnk = s.lnk := rfl
@[simp] theorem State.usedFree_prt (s : State) : (s.usedFree).prt = s.prt := rfl
@[simp] theorem State.usedFree_gpf (s : State) : (s.usedFree).gpf = s.gpf := rfl
@[simp] theorem State.usedFree_tim (s : State) : (s.usedFree).tim = s.tim := rfl
@[simp] theorem State.usedFree_eng (s : State) : (s.usedFree).eng = s.eng := rfl
@[simp] theorem State.usedFree_icu (s : State) : (s.usedFree).icu = s.icu := rfl
@[simp] theorem State.usedFree_dict (s : State) : (s.usedFree).dict = s.dict := rfl
@[simp] theorem State.usedFree_log (s : State) : (s.usedFree).log = s.log := rfl
@[simp] theorem State.usedFree_age (s : State) : (s.usedFree).age = s.age := rfl
@[simp] theorem State.usedFree_mea (s : State) : (s.usedFree).mea = s.mea := rfl
@[simp] theorem State.usedFree_swg (s : State) : (s.usedFree).swg = s.swg := rfl
@[simp] theorem State.usedFree_frt (s : State) : (s.usedFree).frt = s.frt := rfl
@[simp] theorem State.usedFree_red (s : State) : (s.usedFree).red = s.red := rfl
@[simp] theorem State.usedFree_cmt (s : State) : (s.usedFree).cmt = s.cmt := rfl
@[simp] theorem State.usedFree_car (s : State) : (s.usedFree).car = s.car := rfl
@[simp] theorem State.get_usedFree (s : State) (key : Nat) : (s.usedFree).get key = s.get key := rfl
@[simp] theorem State.getN_usedFree (s : State) (key : Nat) : (s.usedFree).getN key = s.getN key := rfl
@[simp] theorem State.bit_usedFree (s : State) (key i : Nat) : (s.usedFree).bit key i = s.bit key i := rfl

@[simp] theorem State.rebase_pending (s : State) : (s.rebase).pending = s.pending := rfl
@[simp] theorem State.rebase_objs (s : State) : (s.rebase).objs = s.objs := rfl
@[simp] theorem State.rebase_out (s : State) : (s.rebase).out = s.out := rfl
@[simp] theorem State.rebase_now (s : State) : (s.rebase).now = s.now := rfl
@[simp] theorem State.rebase_freeCtr (s : State) : (s.rebase).freeCtr = s.freeCtr := rfl
@[simp] theorem State.rebase_boot (s : State) : (s.rebase).boot = s.boot := rfl
@[simp] theorem State.rebase_aon (s : State) : (s.rebase).aon = s.aon := rfl
@[simp] theorem State.rebase_flash (s : State) : (s.rebase).flash = s.flash := rfl
@[simp] theorem State.rebase_otp (s : State) : (s.rebase).otp = s.otp := rfl
@[simp] theorem State.rebase_pins (s : State) : (s.rebase).pins = s.pins := rfl
@[simp] theorem State.rebase_orb (s : State) : (s.rebase).orb = s.orb := rfl
@[simp] theorem State.rebase_clk (s : State) : (s.rebase).clk = s.clk := rfl
@[simp] theorem State.rebase_lan (s : State) : (s.rebase).lan = s.lan := rfl
@[simp] theorem State.rebase_lnk (s : State) : (s.rebase).lnk = s.lnk := rfl
@[simp] theorem State.rebase_prt (s : State) : (s.rebase).prt = s.prt := rfl
@[simp] theorem State.rebase_gpf (s : State) : (s.rebase).gpf = s.gpf := rfl
@[simp] theorem State.rebase_eng (s : State) : (s.rebase).eng = s.eng := rfl
@[simp] theorem State.rebase_icu (s : State) : (s.rebase).icu = s.icu := rfl
@[simp] theorem State.rebase_dict (s : State) : (s.rebase).dict = s.dict := rfl
@[simp] theorem State.rebase_log (s : State) : (s.rebase).log = s.log := rfl
@[simp] theorem State.rebase_age (s : State) : (s.rebase).age = s.age := rfl
@[simp] theorem State.rebase_mea (s : State) : (s.rebase).mea = s.mea := rfl
@[simp] theorem State.rebase_swg (s : State) : (s.rebase).swg = s.swg := rfl
@[simp] theorem State.rebase_frt (s : State) : (s.rebase).frt = s.frt := rfl
@[simp] theorem State.rebase_red (s : State) : (s.rebase).red = s.red := rfl
@[simp] theorem State.rebase_cmt (s : State) : (s.rebase).cmt = s.cmt := rfl
@[simp] theorem State.rebase_car (s : State) : (s.rebase).car = s.car := rfl
@[simp] theorem State.get_rebase (s : State) (key : Nat) : (s.rebase).get key = s.get key := rfl
@[simp] theorem State.getN_rebase (s : State) (key : Nat) : (s.rebase).getN key = s.getN key := rfl
@[simp] theorem State.bit_rebase (s : State) (key i : Nat) : (s.rebase).bit key i = s.bit key i := rfl

@[simp] theorem State.withTim_pending (s : State) (f : Tim → Tim) : (s.withTim f).pending = s.pending := rfl
@[simp] theorem State.withTim_objs (s : State) (f : Tim → Tim) : (s.withTim f).objs = s.objs := rfl
@[simp] theorem State.withTim_out (s : State) (f : Tim → Tim) : (s.withTim f).out = s.out := rfl
@[simp] theorem State.withTim_now (s : State) (f : Tim → Tim) : (s.withTim f).now = s.now := rfl
@[simp] theorem State.withTim_freeCtr (s : State) (f : Tim → Tim) : (s.withTim f).freeCtr = s.freeCtr := rfl
@[simp] theorem State.withTim_boot (s : State) (f : Tim → Tim) : (s.withTim f).boot = s.boot := rfl
@[simp] theorem State.withTim_aon (s : State) (f : Tim → Tim) : (s.withTim f).aon = s.aon := rfl
@[simp] theorem State.withTim_flash (s : State) (f : Tim → Tim) : (s.withTim f).flash = s.flash := rfl
@[simp] theorem State.withTim_otp (s : State) (f : Tim → Tim) : (s.withTim f).otp = s.otp := rfl
@[simp] theorem State.withTim_pins (s : State) (f : Tim → Tim) : (s.withTim f).pins = s.pins := rfl
@[simp] theorem State.withTim_orb (s : State) (f : Tim → Tim) : (s.withTim f).orb = s.orb := rfl
@[simp] theorem State.withTim_clk (s : State) (f : Tim → Tim) : (s.withTim f).clk = s.clk := rfl
@[simp] theorem State.withTim_lan (s : State) (f : Tim → Tim) : (s.withTim f).lan = s.lan := rfl
@[simp] theorem State.withTim_lnk (s : State) (f : Tim → Tim) : (s.withTim f).lnk = s.lnk := rfl
@[simp] theorem State.withTim_prt (s : State) (f : Tim → Tim) : (s.withTim f).prt = s.prt := rfl
@[simp] theorem State.withTim_gpf (s : State) (f : Tim → Tim) : (s.withTim f).gpf = s.gpf := rfl
@[simp] theorem State.withTim_eng (s : State) (f : Tim → Tim) : (s.withTim f).eng = s.eng := rfl
@[simp] theorem State.withTim_icu (s : State) (f : Tim → Tim) : (s.withTim f).icu = s.icu := rfl
@[simp] theorem State.withTim_dict (s : State) (f : Tim → Tim) : (s.withTim f).dict = s.dict := rfl
@[simp] theorem State.withTim_log (s : State) (f : Tim → Tim) : (s.withTim f).log = s.log := rfl
@[simp] theorem State.withTim_age (s : State) (f : Tim → Tim) : (s.withTim f).age = s.age := rfl
@[simp] theorem State.withTim_mea (s : State) (f : Tim → Tim) : (s.withTim f).mea = s.mea := rfl
@[simp] theorem State.withTim_swg (s : State) (f : Tim → Tim) : (s.withTim f).swg = s.swg := rfl
@[simp] theorem State.withTim_frt (s : State) (f : Tim → Tim) : (s.withTim f).frt = s.frt := rfl
@[simp] theorem State.withTim_red (s : State) (f : Tim → Tim) : (s.withTim f).red = s.red := rfl
@[simp] theorem State.withTim_cmt (s : State) (f : Tim → Tim) : (s.withTim f).cmt = s.cmt := rfl
@[simp] theorem State.withTim_car (s : State) (f : Tim → Tim) : (s.withTim f).car = s.car := rfl
@[simp] theorem State.get_withTim (s : State) (f : Tim → Tim) (key : Nat) : (s.withTim f).get key = s.get key := rfl
@[simp] theorem State.getN_withTim (s : State) (f : Tim → Tim) (key : Nat) : (s.withTim f).getN key = s.getN key := rfl
@[simp] theorem State.bit_withTim (s : State) (f : Tim → Tim) (key i : Nat) : (s.withTim f).bit key i = s.bit key i := rfl

@[simp] theorem State.withSwg_pending (s : State) (f : Swg → Swg) : (s.withSwg f).pending = s.pending := rfl
@[simp] theorem State.withSwg_objs (s : State) (f : Swg → Swg) : (s.withSwg f).objs = s.objs := rfl
@[simp] theorem State.withSwg_out (s : State) (f : Swg → Swg) : (s.withSwg f).out = s.out := rfl
@[simp] theorem State.withSwg_now (s : State) (f : Swg → Swg) : (s.withSwg f).now = s.now := rfl
@[simp] theorem State.withSwg_freeCtr (s : State) (f : Swg → Swg) : (s.withSwg f).freeCtr = s.freeCtr := rfl
@[simp] theorem State.withSwg_boot (s : State) (f : Swg → Swg) : (s.withSwg f).boot = s.boot := rfl
@[simp] theorem State.withSwg_aon (s : State) (f : Swg → Swg) : (s.withSwg f).aon = s.aon := rfl
@[simp] theorem State.withSwg_flash (s : State) (f : Swg → Swg) : (s.withSwg f).flash = s.flash := rfl
@[simp] theorem State.withSwg_otp (s : State) (f : Swg → Swg) : (s.withSwg f).otp = s.otp := rfl
@[simp] theorem State.withSwg_pins (s : State) (f : Swg → Swg) : (s.withSwg f).pins = s.pins := rfl
@[simp] theorem State.withSwg_orb (s : State) (f : Swg → Swg) : (s.withSwg f).orb = s.orb := rfl
@[simp] theorem State.withSwg_clk (s : State) (f : Swg → Swg) : (s.withSwg f).clk = s.clk := rfl
@[simp] theorem State.withSwg_lan (s : State) (f : Swg → Swg) : (s.withSwg f).lan = s.lan := rfl
@[simp] theorem State.withSwg_lnk (s : State) (f : Swg → Swg) : (s.withSwg f).lnk = s.lnk := rfl
@[simp] theorem State.withSwg_prt (s : State) (f : Swg → Swg) : (s.withSwg f).prt = s.prt := rfl
@[simp] theorem State.withSwg_gpf (s : State) (f : Swg → Swg) : (s.withSwg f).gpf = s.gpf := rfl
@[simp] theorem State.withSwg_tim (s : State) (f : Swg → Swg) : (s.withSwg f).tim = s.tim := rfl
@[simp] theorem State.withSwg_eng (s : State) (f : Swg → Swg) : (s.withSwg f).eng = s.eng := rfl
@[simp] theorem State.withSwg_icu (s : State) (f : Swg → Swg) : (s.withSwg f).icu = s.icu := rfl
@[simp] theorem State.withSwg_dict (s : State) (f : Swg → Swg) : (s.withSwg f).dict = s.dict := rfl
@[simp] theorem State.withSwg_log (s : State) (f : Swg → Swg) : (s.withSwg f).log = s.log := rfl
@[simp] theorem State.withSwg_age (s : State) (f : Swg → Swg) : (s.withSwg f).age = s.age := rfl
@[simp] theorem State.withSwg_mea (s : State) (f : Swg → Swg) : (s.withSwg f).mea = s.mea := rfl
@[simp] theorem State.withSwg_frt (s : State) (f : Swg → Swg) : (s.withSwg f).frt = s.frt := rfl
@[simp] theorem State.withSwg_red (s : State) (f : Swg → Swg) : (s.withSwg f).red = s.red := rfl
@[simp] theorem State.withSwg_cmt (s : State) (f : Swg → Swg) : (s.withSwg f).cmt = s.cmt := rfl
@[simp] theorem State.withSwg_car (s : State) (f : Swg → Swg) : (s.withSwg f).car = s.car := rfl
@[simp] theorem State.get_withSwg (s : State) (f : Swg → Swg) (key : Nat) : (s.withSwg f).get key = s.get key := rfl
@[simp] theorem State.getN_withSwg (s : State) (f : Swg → Swg) (key : Nat) : (s.withSwg f).getN key = s.getN key := rfl
@[simp] theorem State.bit_withSwg (s : State) (f : Swg → Swg) (key i : Nat) : (s.withSwg f).bit key i = s.bit key i := rfl

@[simp] theorem State.withFrt_pending (s : State) (f : Frt → Frt) : (s.withFrt f).pending = s.pending := rfl
@[simp] theorem State.withFrt_objs (s : State) (f : Frt → Frt) : (s.withFrt f).objs = s.objs := rfl
@[simp] theorem State.withFrt_out (s : State) (f : Frt → Frt) : (s.withFrt f).out = s.out := rfl
@[simp] theorem State.withFrt_now (s : State) (f : Frt → Frt) : (s.withFrt f).now = s.now := rfl
@[simp] theorem State.withFrt_freeCtr (s : State) (f : Frt → Frt) : (s.withFrt f).freeCtr = s.freeCtr := rfl
@[simp] theorem State.withFrt_boot (s : State) (f : Frt → Frt) : (s.withFrt f).boot = s.boot := rfl
@[simp] theorem State.withFrt_aon (s : State) (f : Frt → Frt) : (s.withFrt f).aon = s.aon := rfl
@[simp] theorem State.withFrt_flash (s : State) (f : Frt → Frt) : (s.withFrt f).flash = s.flash := rfl
@[simp] theorem State.withFrt_otp (s : State) (f : Frt → Frt) : (s.withFrt f).otp = s.otp := rfl
@[simp] theorem State.withFrt_pins (s : State) (f : Frt → Frt) : (s.withFrt f).pins = s.pins := rfl
@[simp] theorem State.withFrt_orb (s : State) (f : Frt → Frt) : (s.withFrt f).orb = s.orb := rfl
@[simp] theorem State.withFrt_clk (s : State) (f : Frt → Frt) : (s.withFrt f).clk = s.clk := rfl
@[simp] theorem State.withFrt_lan (s : State) (f : Frt → Frt) : (s.withFrt f).lan = s.lan := rfl
@[simp] theorem State.withFrt_lnk (s : State) (f : Frt → Frt) : (s.withFrt f).lnk = s.lnk := rfl
@[simp] theorem State.withFrt_prt (s : State) (f : Frt → Frt) : (s.withFrt f).prt = s.prt := rfl
@[simp] theorem State.withFrt_gpf (s : State) (f : Frt → Frt) : (s.withFrt f).gpf = s.gpf := rfl
@[simp] theorem State.withFrt_tim (s : State) (f : Frt → Frt) : (s.withFrt f).tim = s.tim := rfl
@[simp] theorem State.withFrt_eng (s : State) (f : Frt → Frt) : (s.withFrt f).eng = s.eng := rfl
@[simp] theorem State.withFrt_icu (s : State) (f : Frt → Frt) : (s.withFrt f).icu = s.icu := rfl
@[simp] theorem State.withFrt_dict (s : State) (f : Frt → Frt) : (s.withFrt f).dict = s.dict := rfl
@[simp] theorem State.withFrt_log (s : State) (f : Frt → Frt) : (s.withFrt f).log = s.log := rfl
@[simp] theorem State.withFrt_age (s : State) (f : Frt → Frt) : (s.withFrt f).age = s.age := rfl
@[simp] theorem State.withFrt_mea (s : State) (f : Frt → Frt) : (s.withFrt f).mea = s.mea := rfl
@[simp] theorem State.withFrt_swg (s : State) (f : Frt → Frt) : (s.withFrt f).swg = s.swg := rfl
@[simp] theorem State.withFrt_red (s : State) (f : Frt → Frt) : (s.withFrt f).red = s.red := rfl
@[simp] theorem State.withFrt_cmt (s : State) (f : Frt → Frt) : (s.withFrt f).cmt = s.cmt := rfl
@[simp] theorem State.withFrt_car (s : State) (f : Frt → Frt) : (s.withFrt f).car = s.car := rfl
@[simp] theorem State.get_withFrt (s : State) (f : Frt → Frt) (key : Nat) : (s.withFrt f).get key = s.get key := rfl
@[simp] theorem State.getN_withFrt (s : State) (f : Frt → Frt) (key : Nat) : (s.withFrt f).getN key = s.getN key := rfl
@[simp] theorem State.bit_withFrt (s : State) (f : Frt → Frt) (key i : Nat) : (s.withFrt f).bit key i = s.bit key i := rfl

@[simp] theorem State.withDict_pending (s : State) (f : Dict → Dict) : (s.withDict f).pending = s.pending := rfl
@[simp] theorem State.withDict_objs (s : State) (f : Dict → Dict) : (s.withDict f).objs = s.objs := rfl
@[simp] theorem State.withDict_out (s : State) (f : Dict → Dict) : (s.withDict f).out = s.out := rfl
@[simp] theorem State.withDict_now (s : State) (f : Dict → Dict) : (s.withDict f).now = s.now := rfl
@[simp] theorem State.withDict_freeCtr (s : State) (f : Dict → Dict) : (s.withDict f).freeCtr = s.freeCtr := rfl
@[simp] theorem State.withDict_boot (s : State) (f : Dict → Dict) : (s.withDict f).boot = s.boot := rfl
@[simp] theorem State.withDict_aon (s : State) (f : Dict → Dict) : (s.withDict f).aon = s.aon := rfl
@[simp] theorem State.withDict_flash (s : State) (f : Dict → Dict) : (s.withDict f).flash = s.flash := rfl
@[simp] theorem State.withDict_otp (s : State) (f : Dict → Dict) : (s.withDict f).otp = s.otp := rfl
@[simp] theorem State.withDict_pins (s : State) (f : Dict → Dict) : (s.withDict f).pins = s.pins := rfl
@[simp] theorem State.withDict_orb (s : State) (f : Dict → Dict) : (s.withDict f).orb = s.orb := rfl
@[simp] theorem State.withDict_clk (s : State) (f : Dict → Dict) : (s.withDict f).clk = s.clk := rfl
@[simp] theorem State.withDict_lan (s : State) (f : Dict → Dict) : (s.withDict f).lan = s.lan := rfl
@[simp] theorem State.withDict_lnk (s : State) (f : Dict → Dict) : (s.withDict f).lnk = s.lnk := rfl
@[simp] theorem State.withDict_prt (s : State) (f : Dict → Dict) : (s.withDict f).prt = s.prt := rfl
@[simp] theorem State.withDict_gpf (s : State) (f : Dict → Dict) : (s.withDict f).gpf = s.gpf := rfl
@[simp] theorem State.withDict_tim (s : State) (f : Dict → Dict) : (s.withDict f).tim = s.tim := rfl
@[simp] theorem State.withDict_eng (s : State) (f : Dict → Dict) : (s.withDict f).eng = s.eng := rfl
@[simp] theorem State.withDict_icu (s : State) (f : Dict → Dict) : (s.withDict f).icu = s.icu := rfl
@[simp] theorem State.withDict_log (s : State) (f : Dict → Dict) : (s.withDict f).log = s.log := rfl
@[simp] theorem State.withDict_age (s : State) (f : Dict → Dict) : (s.withDict f).age = s.age := rfl
@[simp] theorem State.withDict_mea (s : State) (f : Dict → Dict) : (s.withDict f).mea = s.mea := rfl
@[simp] theorem State.withDict_swg (s : State) (f : Dict → Dict) : (s.withDict f).swg = s.swg := rfl
@[simp] theorem State.withDict_frt (s : State) (f : Dict → Dict) : (s.withDict f).frt = s.frt := rfl
@[simp] theorem State.withDict_red (s : State) (f : Dict → Dict) : (s.withDict f).red = s.red := rfl
@[simp] theorem State.withDict_cmt (s : State) (f : Dict → Dict) : (s.withDict f).cmt = s.cmt := rfl
@[simp] theorem State.withDict_car (s : State) (f : Dict → Dict) : (s.withDict f).car = s.car := rfl
@[simp] theorem State.get_withDict (s : State) (f : Dict → Dict) (key : Nat) : (s.withDict f).get key = s.get key := rfl
@[simp] theorem State.getN_withDict (s : State) (f : Dict → Dict) (key : Nat) : (s.withDict f).getN key = s.getN key := rfl
@[simp] theorem State.bit_withDict (s : State) (f : Dict → Dict) (key i : Nat) : (s.withDict f).bit key i = s.bit key i := rfl

@[simp] theorem State.withClk_pending (s : State) (f : Clk → Clk) : (s.withClk f).pending = s.pending := rfl
@[simp] theorem State.withClk_objs (s : State) (f : Clk → Clk) : (s.withClk f).objs = s.objs := rfl
@[simp] theorem State.withClk_out (s : State) (f : Clk → Clk) : (s.withClk f).out = s.out := rfl
@[simp] theorem State.withClk_now (s : State) (f : Clk → Clk) : (s.withClk f).now = s.now := rfl
@[simp] theorem State.withClk_freeCtr (s : State) (f : Clk → Clk) : (s.withClk f).freeCtr = s.freeCtr := rfl
@[simp] theorem State.withClk_boot (s : State) (f : Clk → Clk) : (s.withClk f).boot = s.boot := rfl
@[simp] theorem State.withClk_aon (s : State) (f : Clk → Clk) : (s.withClk f).aon = s.aon := rfl
@[simp] theorem State.withClk_flash (s : State) (f : Clk → Clk) : (s.withClk f).flash = s.flash := rfl
@[simp] theorem State.withClk_otp (s : State) (f : Clk → Clk) : (s.withClk f).otp = s.otp := rfl
@[simp] theorem State.withClk_pins (s : State) (f : Clk → Clk) : (s.withClk f).pins = s.pins := rfl
@[simp] theorem State.withClk_orb (s : State) (f : Clk → Clk) : (s.withClk f).orb = s.orb := rfl
@[simp] theorem State.withClk_lan (s : State) (f : Clk → Clk) : (s.withClk f).lan = s.lan := rfl
@[simp] theorem State.withClk_lnk (s : State) (f : Clk → Clk) : (s.withClk f).lnk = s.lnk := rfl
@[simp] theorem State.withClk_prt (s : State) (f : Clk → Clk) : (s.withClk f).prt = s.prt := rfl
@[simp] theorem State.withClk_gpf (s : State) (f : Clk → Clk) : (s.withClk f).gpf = s.gpf := rfl
@[simp] theorem State.withClk_tim (s : State) (f : Clk → Clk) : (s.withClk f).tim = s.tim := rfl
@[simp] theorem State.withClk_eng (s : State) (f : Clk → Clk) : (s.withClk f).eng = s.eng := rfl
@[simp] theorem State.withClk_icu (s : State) (f : Clk → Clk) : (s.withClk f).icu = s.icu := rfl
@[simp] theorem State.withClk_dict (s : State) (f : Clk → Clk) : (s.withClk f).dict = s.dict := rfl
@[simp] theorem State.withClk_log (s : State) (f : Clk → Clk) : (s.withClk f).log = s.log := rfl
@[simp] theorem State.withClk_age (s : State) (f : Clk → Clk) : (s.withClk f).age = s.age := rfl
@[simp] theorem State.withClk_mea (s : State) (f : Clk → Clk) : (s.withClk f).mea = s.mea := rfl
@[simp] theorem State.withClk_swg (s : State) (f : Clk → Clk) : (s.withClk f).swg = s.swg := rfl
@[simp] theorem State.withClk_frt (s : State) (f : Clk → Clk) : (s.withClk f).frt = s.frt := rfl
@[simp] theorem State.withClk_red (s : State) (f : Clk → Clk) : (s.withClk f).red = s.red := rfl
@[simp] theorem State.withClk_cmt (s : State) (f : Clk → Clk) : (s.withClk f).cmt = s.cmt := rfl
@[simp] theorem State.withClk_car (s : State) (f : Clk → Clk) : (s.withClk f).car = s.car := rfl
@[simp] theorem State.get_withClk (s : State) (f : Clk → Clk) (key : Nat) : (s.withClk f).get key = s.get key := rfl
@[simp] theorem State.getN_withClk (s : State) (f : Clk → Clk) (key : Nat) : (s.withClk f).getN key = s.getN key := rfl
@[simp] theorem State.bit_withClk (s : State) (f : Clk → Clk) (key i : Nat) : (s.withClk f).bit key i = s.bit key i := rfl

@[simp] theorem State.withGpf_pending (s : State) (f : Gpf → Gpf) : (s.withGpf f).pending = s.pending := rfl
@[simp] theorem State.withGpf_objs (s : State) (f : Gpf → Gpf) : (s.withGpf f).objs = s.objs := rfl
@[simp] theorem State.withGpf_out (s : State) (f : Gpf → Gpf) : (s.withGpf f).out = s.out := rfl
@[simp] theorem State.withGpf_now (s : State) (f : Gpf → Gpf) : (s.withGpf f).now = s.now := rfl
@[simp] theorem State.withGpf_freeCtr (s : State) (f : Gpf → Gpf) : (s.withGpf f).freeCtr = s.freeCtr := rfl
@[simp] theorem State.withGpf_boot (s : State) (f : Gpf → Gpf) : (s.withGpf f).boot = s.boot := rfl
@[simp] theorem State.withGpf_aon (s : State) (f : Gpf → Gpf) : (s.withGpf f).aon = s.aon := rfl
@[simp] theorem State.withGpf_flash (s : State) (f : Gpf → Gpf) : (s.withGpf f).flash = s.flash := rfl
@[simp] theorem State.withGpf_otp (s : State) (f : Gpf → Gpf) : (s.withGpf f).otp = s.otp := rfl
@[simp] theorem State.withGpf_pins (s : State) (f : Gpf → Gpf) : (s.withGpf f).pins = s.pins := rfl
@[simp] theorem State.withGpf_orb (s : State) (f : Gpf → Gpf) : (s.withGpf f).orb = s.orb := rfl
@[simp] theorem State.withGpf_clk (s : State) (f : Gpf → Gpf) : (s.withGpf f).clk = s.clk := rfl
@[simp] theorem State.withGpf_lan (s : State) (f : Gpf → Gpf) : (s.withGpf f).lan = s.lan := rfl
@[simp] theorem State.withGpf_lnk (s : State) (f : Gpf → Gpf) : (s.withGpf f).lnk = s.lnk := rfl
@[simp] theorem State.withGpf_prt (s : State) (f : Gpf → Gpf) : (s.withGpf f).prt = s.prt := rfl
@[simp] theorem State.withGpf_tim (s : State) (f : Gpf → Gpf) : (s.withGpf f).tim = s.tim := rfl
@[simp] theorem State.withGpf_eng (s : State) (f : Gpf → Gpf) : (s.withGpf f).eng = s.eng := rfl
@[simp] theorem State.withGpf_icu (s : State) (f : Gpf → Gpf) : (s.withGpf f).icu = s.icu := rfl
@[simp] theorem State.withGpf_dict (s : State) (f : Gpf → Gpf) : (s.withGpf f).dict = s.dict := rfl
@[simp] theorem State.withGpf_log (s : State) (f : Gpf → Gpf) : (s.withGpf f).log = s.log := rfl
@[simp] theorem State.withGpf_age (s : State) (f : Gpf → Gpf) : (s.withGpf f).age = s.age := rfl
@[simp] theorem State.withGpf_mea (s : State) (f : Gpf → Gpf) : (s.withGpf f).mea = s.mea := rfl
@[simp] theorem State.withGpf_swg (s : State) (f : Gpf → Gpf) : (s.withGpf f).swg = s.swg := rfl
@[simp] theorem State.withGpf_frt (s : State) (f : Gpf → Gpf) : (s.withGpf f).frt = s.frt := rfl
@[simp] theorem State.withGpf_red (s : State) (f : Gpf → Gpf) : (s.withGpf f).red = s.red := rfl
@[simp] theorem State.withGpf_cmt (s : State) (f : Gpf → Gpf) : (s.withGpf f).cmt = s.cmt := rfl
@[simp] theorem State.withGpf_car (s : State) (f : Gpf → Gpf) : (s.withGpf f).car = s.car := rfl
@[simp] theorem State.get_withGpf (s : State) (f : Gpf → Gpf) (key : Nat) : (s.withGpf f).get key = s.get key := rfl
@[simp] theorem State.getN_withGpf (s : State) (f : Gpf → Gpf) (key : Nat) : (s.withGpf f).getN key = s.getN key := rfl
@[simp] theorem State.bit_withGpf (s : State) (f : Gpf → Gpf) (key i : Nat) : (s.withGpf f).bit key i = s.bit key i := rfl

@[simp] theorem State.withOrb_pending (s : State) (f : Orb → Orb) : (s.withOrb f).pending = s.pending := rfl
@[simp] theorem State.withOrb_objs (s : State) (f : Orb → Orb) : (s.withOrb f).objs = s.objs := rfl
@[simp] theorem State.withOrb_out (s : State) (f : Orb → Orb) : (s.withOrb f).out = s.out := rfl
@[simp] theorem State.withOrb_now (s : State) (f : Orb → Orb) : (s.withOrb f).now = s.now := rfl
@[simp] theorem State.withOrb_freeCtr (s : State) (f : Orb → Orb) : (s.withOrb f).freeCtr = s.freeCtr := rfl
@[simp] theorem State.withOrb_boot (s : State) (f : Orb → Orb) : (s.withOrb f).boot = s.boot := rfl
@[simp] theorem State.withOrb_aon (s : State) (f : Orb → Orb) : (s.withOrb f).aon = s.aon := rfl
@[simp] theorem State.withOrb_flash (s : State) (f : Orb → Orb) : (s.withOrb f).flash = s.flash := rfl
@[simp] theorem State.withOrb_otp (s : State) (f : Orb → Orb) : (s.withOrb f).otp = s.otp := rfl
@[simp] theorem State.withOrb_pins (s : State) (f : Orb → Orb) : (s.withOrb f).pins = s.pins := rfl
@[simp] theorem State.withOrb_clk (s : State) (f : Orb → Orb) : (s.withOrb f).clk = s.clk := rfl
@[simp] theorem State.withOrb_lan (s : State) (f : Orb → Orb) : (s.withOrb f).lan = s.lan := rfl
@[simp] theorem State.withOrb_lnk (s : State) (f : Orb → Orb) : (s.withOrb f).lnk = s.lnk := rfl
@[simp] theorem State.withOrb_prt (s : State) (f : Orb → Orb) : (s.withOrb f).prt = s.prt := rfl
@[simp] theorem State.withOrb_gpf (s : State) (f : Orb → Orb) : (s.withOrb f).gpf = s.gpf := rfl
@[simp] theorem State.withOrb_tim (s : State) (f : Orb → Orb) : (s.withOrb f).tim = s.tim := rfl
@[simp] theorem State.withOrb_eng (s : State) (f : Orb → Orb) : (s.withOrb f).eng = s.eng := rfl
@[simp] theorem State.withOrb_icu (s : State) (f : Orb → Orb) : (s.withOrb f).icu = s.icu := rfl
@[simp] theorem State.withOrb_dict (s : State) (f : Orb → Orb) : (s.withOrb f).dict = s.dict := rfl
@[simp] theorem State.withOrb_log (s : State) (f : Orb → Orb) : (s.withOrb f).log = s.log := rfl
@[simp] theorem State.withOrb_age (s : State) (f : Orb → Orb) : (s.withOrb f).age = s.age := rfl
@[simp] theorem State.withOrb_mea (s : State) (f : Orb → Orb) : (s.withOrb f).mea = s.mea := rfl
@[simp] theorem State.withOrb_swg (s : State) (f : Orb → Orb) : (s.withOrb f).swg = s.swg := rfl
@[simp] theorem State.withOrb_frt (s : State) (f : Orb → Orb) : (s.withOrb f).frt = s.frt := rfl
@[simp] theorem State.withOrb_red (s : State) (f : Orb → Orb) : (s.withOrb f).red = s.red := rfl
@[simp] theorem State.withOrb_cmt (s : State) (f : Orb → Orb) : (s.withOrb f).cmt = s.cmt := rfl
@[simp] theorem State.withOrb_car (s : State) (f : Orb → Orb) : (s.withOrb f).car = s.car := rfl
@[simp] theorem State.get_withOrb (s : State) (f : Orb → Orb) (key : Nat) : (s.withOrb f).get key = s.get key := rfl
@[simp] theorem State.getN_withOrb (s : State) (f : Orb → Orb) (key : Nat) : (s.withOrb f).getN key = s.getN key := rfl
@[simp] theorem State.bit_withOrb (s : State) (f : Orb → Orb) (key i : Nat) : (s.withOrb f).bit key i = s.bit key i := rfl

@[simp] theorem State.withCmt_pending (s : State) (f : Cmt → Cmt) : (s.withCmt f).pending = s.pending := rfl
@[simp] theorem State.withCmt_objs (s : State) (f : Cmt → Cmt) : (s.withCmt f).objs = s.objs := rfl
@[simp] theorem State.withCmt_out (s : State) (f : Cmt → Cmt) : (s.withCmt f).out = s.out := rfl
@[simp] theorem State.withCmt_now (s : State) (f : Cmt → Cmt) : (s.withCmt f).now = s.now := rfl
@[simp] theorem State.withCmt_freeCtr (s : State) (f : Cmt → Cmt) : (s.withCmt f).freeCtr = s.freeCtr := rfl
@[simp] theorem State.withCmt_boot (s : State) (f : Cmt → Cmt) : (s.withCmt f).boot = s.boot := rfl
@[simp] theorem State.withCmt_aon (s : State) (f : Cmt → Cmt) : (s.withCmt f).aon = s.aon := rfl
@[simp] theorem State.withCmt_flash (s : State) (f : Cmt → Cmt) : (s.withCmt f).flash = s.flash := rfl
@[simp] theorem State.withCmt_otp (s : State) (f : Cmt → Cmt) : (s.withCmt f).otp = s.otp := rfl
@[simp] theorem State.withCmt_pins (s : State) (f : Cmt → Cmt) : (s.withCmt f).pins = s.pins := rfl
@[simp] theorem State.withCmt_orb (s : State) (f : Cmt → Cmt) : (s.withCmt f).orb = s.orb := rfl
@[simp] theorem State.withCmt_clk (s : State) (f : Cmt → Cmt) : (s.withCmt f).clk = s.clk := rfl
@[simp] theorem State.withCmt_lan (s : State) (f : Cmt → Cmt) : (s.withCmt f).lan = s.lan := rfl
@[simp] theorem State.withCmt_lnk (s : State) (f : Cmt → Cmt) : (s.withCmt f).lnk = s.lnk := rfl
@[simp] theorem State.withCmt_prt (s : State) (f : Cmt → Cmt) : (s.withCmt f).prt = s.prt := rfl
@[simp] theorem State.withCmt_gpf (s : State) (f : Cmt → Cmt) : (s.withCmt f).gpf = s.gpf := rfl
@[simp] theorem State.withCmt_tim (s : State) (f : Cmt → Cmt) : (s.withCmt f).tim = s.tim := rfl
@[simp] theorem State.withCmt_eng (s : State) (f : Cmt → Cmt) : (s.withCmt f).eng = s.eng := rfl
@[simp] theorem State.withCmt_icu (s : State) (f : Cmt → Cmt) : (s.withCmt f).icu = s.icu := rfl
@[simp] theorem State.withCmt_dict (s : State) (f : Cmt → Cmt) : (s.withCmt f).dict = s.dict := rfl
@[simp] theorem State.withCmt_log (s : State) (f : Cmt → Cmt) : (s.withCmt f).log = s.log := rfl
@[simp] theorem State.withCmt_age (s : State) (f : Cmt → Cmt) : (s.withCmt f).age = s.age := rfl
@[simp] theorem State.withCmt_mea (s : State) (f : Cmt → Cmt) : (s.withCmt f).mea = s.mea := rfl
@[simp] theorem State.withCmt_swg (s : State) (f : Cmt → Cmt) : (s.withCmt f).swg = s.swg := rfl
@[simp] theorem State.withCmt_frt (s : State) (f : Cmt → Cmt) : (s.withCmt f).frt = s.frt := rfl
@[simp] theorem State.withCmt_red (s : State) (f : Cmt → Cmt) : (s.withCmt f).red = s.red := rfl
@[simp] theorem State.withCmt_car (s : State) (f : Cmt → Cmt) : (s.withCmt f).car = s.car := rfl
@[simp] theorem State.get_withCmt (s : State) (f : Cmt → Cmt) (key : Nat) : (s.withCmt f).get key = s.get key := rfl
@[simp] theorem State.getN_withCmt (s : State) (f : Cmt → Cmt) (key : Nat) : (s.withCmt f).getN key = s.getN key := rfl
@[simp] theorem State.bit_withCmt (s : State) (f : Cmt → Cmt) (key i : Nat) : (s.withCmt f).bit key i = s.bit key i := rfl

@[simp] theorem State.withIcu_pending (s : State) (f : Icu → Icu) : (s.withIcu f).pending = s.pending := rfl
@[simp] theorem State.withIcu_objs (s : State) (f : Icu → Icu) : (s.withIcu f).objs = s.objs := rfl
@[simp] theorem State.withIcu_out (s : State) (f : Icu → Icu) : (s.withIcu f).out = s.out := rfl
@[simp] theorem State.withIcu_now (s : State) (f : Icu → Icu) : (s.withIcu f).now = s.now := rfl
@[simp] theorem State.withIcu_freeCtr (s : State) (f : Icu → Icu) : (s.withIcu f).freeCtr = s.freeCtr := rfl
@[simp] theorem State.withIcu_boot (s : State) (f : Icu → Icu) : (s.withIcu f).boot = s.boot := rfl
@[simp] theorem State.withIcu_aon (s : State) (f : Icu → Icu) : (s.withIcu f).aon = s.aon := rfl
@[simp] theorem State.withIcu_flash (s : State) (f : Icu → Icu) : (s.withIcu f).flash = s.flash := rfl
@[simp] theorem State.withIcu_otp (s : State) (f : Icu → Icu) : (s.withIcu f).otp = s.otp := rfl
@[simp] theorem State.withIcu_pins (s : State) (f : Icu → Icu) : (s.withIcu f).pins = s.pins := rfl
@[simp] theorem State.withIcu_orb (s : State) (f : Icu → Icu) : (s.withIcu f).orb = s.orb := rfl
@[simp] theorem State.withIcu_clk (s : State) (f : Icu → Icu) : (s.withIcu f).clk = s.clk := rfl
@[simp] theorem State.withIcu_lan (s : State) (f : Icu → Icu) : (s.withIcu f).lan = s.lan := rfl
@[simp] theorem State.withIcu_lnk (s : State) (f : Icu → Icu) : (s.withIcu f).lnk = s.lnk := rfl
@[simp] theorem State.withIcu_prt (s : State) (f : Icu → Icu) : (s.withIcu f).prt = s.prt := rfl
@[simp] theorem State.withIcu_gpf (s : State) (f : Icu → Icu) : (s.withIcu f).gpf = s.gpf := rfl
@[simp] theorem State.withIcu_tim (s : State) (f : Icu → Icu) : (s.withIcu f).tim = s.tim := rfl
@[simp] theorem State.withIcu_eng (s : State) (f : Icu → Icu) : (s.withIcu f).eng = s.eng := rfl
@[simp] theorem State.withIcu_dict (s : State) (f : Icu → Icu) : (s.withIcu f).dict = s.dict := rfl
@[simp] theorem State.withIcu_log (s : State) (f : Icu → Icu) : (s.withIcu f).log = s.log := rfl
@[simp] theorem State.withIcu_age (s : State) (f : Icu → Icu) : (s.withIcu f).age = s.age := rfl
@[simp] theorem State.withIcu_mea (s : State) (f : Icu → Icu) : (s.withIcu f).mea = s.mea := rfl
@[simp] theorem State.withIcu_swg (s : State) (f : Icu → Icu) : (s.withIcu f).swg = s.swg := rfl
@[simp] theorem State.withIcu_frt (s : State) (f : Icu → Icu) : (s.withIcu f).frt = s.frt := rfl
@[simp] theorem State.withIcu_red (s : State) (f : Icu → Icu) : (s.withIcu f).red = s.red := rfl
@[simp] theorem State.withIcu_cmt (s : State) (f : Icu → Icu) : (s.withIcu f).cmt = s.cmt := rfl
@[simp] theorem State.withIcu_car (s : State) (f : Icu → Icu) : (s.withIcu f).car = s.car := rfl
@[simp] theorem State.get_withIcu (s : State) (f : Icu → Icu) (key : Nat) : (s.withIcu f).get key = s.get key := rfl
@[simp] theorem State.getN_withIcu (s : State) (f : Icu → Icu) (key : Nat) : (s.withIcu f).getN key = s.getN key := rfl
@[simp] theorem State.bit_withIcu (s : State) (f : Icu → Icu) (key i : Nat) : (s.withIcu f).bit key i = s.bit key i := rfl

@[simp] theorem State.withLog_pending (s : State) (f : LogUnit → LogUnit) : (s.withLog f).pending = s.pending := rfl
@[simp] theorem State.withLog_objs (s : State) (f : LogUnit → LogUnit) : (s.withLog f).objs = s.objs := rfl
@[simp] theorem State.withLog_out (s : State) (f : LogUnit → LogUnit) : (s.withLog f).out = s.out := rfl
@[simp] theorem State.withLog_now (s : State) (f : LogUnit → LogUnit) : (s.withLog f).now = s.now := rfl
@[simp] theorem State.withLog_freeCtr (s : State) (f : LogUnit → LogUnit) : (s.withLog f).freeCtr = s.freeCtr := rfl
@[simp] theorem State.withLog_boot (s : State) (f : LogUnit → LogUnit) : (s.withLog f).boot = s.boot := rfl
@[simp] theorem State.withLog_aon (s : State) (f : LogUnit → LogUnit) : (s.withLog f).aon = s.aon := rfl
@[simp] theorem State.withLog_flash (s : State) (f : LogUnit → LogUnit) : (s.withLog f).flash = s.flash := rfl
@[simp] theorem State.withLog_otp (s : State) (f : LogUnit → LogUnit) : (s.withLog f).otp = s.otp := rfl
@[simp] theorem State.withLog_pins (s : State) (f : LogUnit → LogUnit) : (s.withLog f).pins = s.pins := rfl
@[simp] theorem State.withLog_orb (s : State) (f : LogUnit → LogUnit) : (s.withLog f).orb = s.orb := rfl
@[simp] theorem State.withLog_clk (s : State) (f : LogUnit → LogUnit) : (s.withLog f).clk = s.clk := rfl
@[simp] theorem State.withLog_lan (s : State) (f : LogUnit → LogUnit) : (s.withLog f).lan = s.lan := rfl
@[simp] theorem State.withLog_lnk (s : State) (f : LogUnit → LogUnit) : (s.withLog f).lnk = s.lnk := rfl
@[simp] theorem State.withLog_prt (s : State) (f : LogUnit → LogUnit) : (s.withLog f).prt = s.prt := rfl
@[simp] theorem State.withLog_gpf (s : State) (f : LogUnit → LogUnit) : (s.withLog f).gpf = s.gpf := rfl
@[simp] theorem State.withLog_tim (s : State) (f : LogUnit → LogUnit) : (s.withLog f).tim = s.tim := rfl
@[simp] theorem State.withLog_eng (s : State) (f : LogUnit → LogUnit) : (s.withLog f).eng = s.eng := rfl
@[simp] theorem State.withLog_icu (s : State) (f : LogUnit → LogUnit) : (s.withLog f).icu = s.icu := rfl
@[simp] theorem State.withLog_dict (s : State) (f : LogUnit → LogUnit) : (s.withLog f).dict = s.dict := rfl
@[simp] theorem State.withLog_age (s : State) (f : LogUnit → LogUnit) : (s.withLog f).age = s.age := rfl
@[simp] theorem State.withLog_mea (s : State) (f : LogUnit → LogUnit) : (s.withLog f).mea = s.mea := rfl
@[simp] theorem State.withLog_swg (s : State) (f : LogUnit → LogUnit) : (s.withLog f).swg = s.swg := rfl
@[simp] theorem State.withLog_frt (s : State) (f : LogUnit → LogUnit) : (s.withLog f).frt = s.frt := rfl
@[simp] theorem State.withLog_red (s : State) (f : LogUnit → LogUnit) : (s.withLog f).red = s.red := rfl
@[simp] theorem State.withLog_cmt (s : State) (f : LogUnit → LogUnit) : (s.withLog f).cmt = s.cmt := rfl
@[simp] theorem State.withLog_car (s : State) (f : LogUnit → LogUnit) : (s.withLog f).car = s.car := rfl
@[simp] theorem State.get_withLog (s : State) (f : LogUnit → LogUnit) (key : Nat) : (s.withLog f).get key = s.get key := rfl
@[simp] theorem State.getN_withLog (s : State) (f : LogUnit → LogUnit) (key : Nat) : (s.withLog f).getN key = s.getN key := rfl
@[simp] theorem State.bit_withLog (s : State) (f : LogUnit → LogUnit) (key i : Nat) : (s.withLog f).bit key i = s.bit key i := rfl

@[simp] theorem State.withLnk_pending (s : State) (f : Link → Link) : (s.withLnk f).pending = s.pending := rfl
@[simp] theorem State.withLnk_objs (s : State) (f : Link → Link) : (s.withLnk f).objs = s.objs := rfl
@[simp] theorem State.withLnk_out (s : State) (f : Link → Link) : (s.withLnk f).out = s.out := rfl
@[simp] theorem State.withLnk_now (s : State) (f : Link → Link) : (s.withLnk f).now = s.now := rfl
@[simp] theorem State.withLnk_freeCtr (s : State) (f : Link → Link) : (s.withLnk f).freeCtr = s.freeCtr := rfl
@[simp] theorem State.withLnk_boot (s : State) (f : Link → Link) : (s.withLnk f).boot = s.boot := rfl
@[simp] theorem State.withLnk_aon (s : State) (f : Link → Link) : (s.withLnk f).aon = s.aon := rfl
@[simp] theorem State.withLnk_flash (s : State) (f : Link → Link) : (s.withLnk f).flash = s.flash := rfl
@[simp] theorem State.withLnk_otp (s : State) (f : Link → Link) : (s.withLnk f).otp = s.otp := rfl
@[simp] theorem State.withLnk_pins (s : State) (f : Link → Link) : (s.withLnk f).pins = s.pins := rfl
@[simp] theorem State.withLnk_orb (s : State) (f : Link → Link) : (s.withLnk f).orb = s.orb := rfl
@[simp] theorem State.withLnk_clk (s : State) (f : Link → Link) : (s.withLnk f).clk = s.clk := rfl
@[simp] theorem State.withLnk_lan (s : State) (f : Link → Link) : (s.withLnk f).lan = s.lan := rfl
@[simp] theorem State.withLnk_prt (s : State) (f : Link → Link) : (s.withLnk f).prt = s.prt := rfl
@[simp] theorem State.withLnk_gpf (s : State) (f : Link → Link) : (s.withLnk f).gpf = s.gpf := rfl
@[simp] theorem State.withLnk_tim (s : State) (f : Link → Link) : (s.withLnk f).tim = s.tim := rfl
@[simp] theorem State.withLnk_eng (s : State) (f : Link → Link) : (s.withLnk f).eng = s.eng := rfl
@[simp] theorem State.withLnk_icu (s : State) (f : Link → Link) : (s.withLnk f).icu = s.icu := rfl
@[simp] theorem State.withLnk_dict (s : State) (f : Link → Link) : (s.withLnk f).dict = s.dict := rfl
@[simp] theorem State.withLnk_log (s : State) (f : Link → Link) : (s.withLnk f).log = s.log := rfl
@[simp] theorem State.withLnk_age (s : State) (f : Link → Link) : (s.withLnk f).age = s.age := rfl
@[simp] theorem State.withLnk_mea (s : State) (f : Link → Link) : (s.withLnk f).mea = s.mea := rfl
@[simp] theorem State.withLnk_swg (s : State) (f : Link → Link) : (s.withLnk f).swg = s.swg := rfl
@[simp] theorem State.withLnk_frt (s : State) (f : Link → Link) : (s.withLnk f).frt = s.frt := rfl
@[simp] theorem State.withLnk_red (s : State) (f : Link → Link) : (s.withLnk f).red = s.red := rfl
@[simp] theorem State.withLnk_cmt (s : State) (f : Link → Link) : (s.withLnk f).cmt = s.cmt := rfl
@[simp] theorem State.withLnk_car (s : State) (f : Link → Link) : (s.withLnk f).car = s.car := rfl
@[simp] theorem State.get_withLnk (s : State) (f : Link → Link) (key : Nat) : (s.withLnk f).get key = s.get key := rfl
@[simp] theorem State.getN_withLnk (s : State) (f : Link → Link) (key : Nat) : (s.withLnk f).getN key = s.getN key := rfl
@[simp] theorem State.bit_withLnk (s : State) (f : Link → Link) (key i : Nat) : (s.withLnk f).bit key i = s.bit key i := rfl

@[simp] theorem State.withRed_pending (s : State) (f : Red → Red) : (s.withRed f).pending = s.pending := rfl
@[simp] theorem State.withRed_objs (s : State) (f : Red → Red) : (s.withRed f).objs = s.objs := rfl
@[simp] theorem State.withRed_out (s : State) (f : Red → Red) : (s.withRed f).out = s.out := rfl
@[simp] theorem State.withRed_now (s : State) (f : Red → Red) : (s.withRed f).now = s.now := rfl
@[simp] theorem State.withRed_freeCtr (s : State) (f : Red → Red) : (s.withRed f).freeCtr = s.freeCtr := rfl
@[simp] theorem State.withRed_boot (s : State) (f : Red → Red) : (s.withRed f).boot = s.boot := rfl
@[simp] theorem State.withRed_aon (s : State) (f : Red → Red) : (s.withRed f).aon = s.aon := rfl
@[simp] theorem State.withRed_flash (s : State) (f : Red → Red) : (s.withRed f).flash = s.flash := rfl
@[simp] theorem State.withRed_otp (s : State) (f : Red → Red) : (s.withRed f).otp = s.otp := rfl
@[simp] theorem State.withRed_pins (s : State) (f : Red → Red) : (s.withRed f).pins = s.pins := rfl
@[simp] theorem State.withRed_orb (s : State) (f : Red → Red) : (s.withRed f).orb = s.orb := rfl
@[simp] theorem State.withRed_clk (s : State) (f : Red → Red) : (s.withRed f).clk = s.clk := rfl
@[simp] theorem State.withRed_lan (s : State) (f : Red → Red) : (s.withRed f).lan = s.lan := rfl
@[simp] theorem State.withRed_lnk (s : State) (f : Red → Red) : (s.withRed f).lnk = s.lnk := rfl
@[simp] theorem State.withRed_prt (s : State) (f : Red → Red) : (s.withRed f).prt = s.prt := rfl
@[simp] theorem State.withRed_gpf (s : State) (f : Red → Red) : (s.withRed f).gpf = s.gpf := rfl
@[simp] theorem State.withRed_tim (s : State) (f : Red → Red) : (s.withRed f).tim = s.tim := rfl
@[simp] theorem State.withRed_eng (s : State) (f : Red → Red) : (s.withRed f).eng = s.eng := rfl
@[simp] theorem State.withRed_icu (s : State) (f : Red → Red) : (s.withRed f).icu = s.icu := rfl
@[simp] theorem State.withRed_dict (s : State) (f : Red → Red) : (s.withRed f).dict = s.dict := rfl
@[simp] theorem State.withRed_log (s : State) (f : Red → Red) : (s.withRed f).log = s.log := rfl
@[simp] theorem State.withRed_age (s : State) (f : Red → Red) : (s.withRed f).age = s.age := rfl
@[simp] theorem State.withRed_mea (s : State) (f : Red → Red) : (s.withRed f).mea = s.mea := rfl
@[simp] theorem State.withRed_swg (s : State) (f : Red → Red) : (s.withRed f).swg = s.swg := rfl
@[simp] theorem State.withRed_frt (s : State) (f : Red → Red) : (s.withRed f).frt = s.frt := rfl
@[simp] theorem State.withRed_cmt (s : State) (f : Red → Red) : (s.withRed f).cmt = s.cmt := rfl
@[simp] theorem State.withRed_car (s : State) (f : Red → Red) : (s.withRed f).car = s.car := rfl
@[simp] theorem State.get_withRed (s : State) (f : Red → Red) (key : Nat) : (s.withRed f).get key = s.get key := rfl
@[simp] theorem State.getN_withRed (s : State) (f : Red → Red) (key : Nat) : (s.withRed f).getN key = s.getN key := rfl
@[simp] theorem State.bit_withRed (s : State) (f : Red → Red) (key i : Nat) : (s.withRed f).bit key i = s.bit key i := rfl

@[simp] theorem State.withAge_pending (s : State) (f : Age → Age) : (s.withAge f).pending = s.pending := rfl
@[simp] theorem State.withAge_objs (s : State) (f : Age → Age) : (s.withAge f).objs = s.objs := rfl
@[simp] theorem State.withAge_out (s : State) (f : Age → Age) : (s.withAge f).out = s.out := rfl
@[simp] theorem State.withAge_now (s : State) (f : Age → Age) : (s.withAge f).now = s.now := rfl
@[simp] theorem State.withAge_freeCtr (s : State) (f : Age → Age) : (s.withAge f).freeCtr = s.freeCtr := rfl
@[simp] theorem State.withAge_boot (s : State) (f : Age → Age) : (s.withAge f).boot = s.boot := rfl
@[simp] theorem State.withAge_aon (s : State) (f : Age → Age) : (s.withAge f).aon = s.aon := rfl
@[simp] theorem State.withAge_flash (s : State) (f : Age → Age) : (s.withAge f).flash = s.flash := rfl
@[simp] theorem State.withAge_otp (s : State) (f : Age → Age) : (s.withAge f).otp = s.otp := rfl
@[simp] theorem State.withAge_pins (s : State) (f : Age → Age) : (s.withAge f).pins = s.pins := rfl
@[simp] theorem State.withAge_orb (s : State) (f : Age → Age) : (s.withAge f).orb = s.orb := rfl
@[simp] theorem State.withAge_clk (s : State) (f : Age → Age) : (s.withAge f).clk = s.clk := rfl
@[simp] theorem State.withAge_lan (s : State) (f : Age → Age) : (s.withAge f).lan = s.lan := rfl
@[simp] theorem State.withAge_lnk (s : State) (f : Age → Age) : (s.withAge f).lnk = s.lnk := rfl
@[simp] theorem State.withAge_prt (s : State) (f : Age → Age) : (s.withAge f).prt = s.prt := rfl
@[simp] theorem State.withAge_gpf (s : State) (f : Age → Age) : (s.withAge f).gpf = s.gpf := rfl
@[simp] theorem State.withAge_tim (s : State) (f : Age → Age) : (s.withAge f).tim = s.tim := rfl
@[simp] theorem State.withAge_eng (s : State) (f : Age → Age) : (s.withAge f).eng = s.eng := rfl
@[simp] theorem State.withAge_icu (s : State) (f : Age → Age) : (s.withAge f).icu = s.icu := rfl
@[simp] theorem State.withAge_dict (s : State) (f : Age → Age) : (s.withAge f).dict = s.dict := rfl
@[simp] theorem State.withAge_log (s : State) (f : Age → Age) : (s.withAge f).log = s.log := rfl
@[simp] theorem State.withAge_mea (s : State) (f : Age → Age) : (s.withAge f).mea = s.mea := rfl
@[simp] theorem State.withAge_swg (s : State) (f : Age → Age) : (s.withAge f).swg = s.swg := rfl
@[simp] theorem State.withAge_frt (s : State) (f : Age → Age) : (s.withAge f).frt = s.frt := rfl
@[simp] theorem State.withAge_red (s : State) (f : Age → Age) : (s.withAge f).red = s.red := rfl
@[simp] theorem State.withAge_cmt (s : State) (f : Age → Age) : (s.withAge f).cmt = s.cmt := rfl
@[simp] theorem State.withAge_car (s : State) (f : Age → Age) : (s.withAge f).car = s.car := rfl
@[simp] theorem State.get_withAge (s : State) (f : Age → Age) (key : Nat) : (s.withAge f).get key = s.get key := rfl
@[simp] theorem State.getN_withAge (s : State) (f : Age → Age) (key : Nat) : (s.withAge f).getN key = s.getN key := rfl
@[simp] theorem State.bit_withAge (s : State) (f : Age → Age) (key i : Nat) : (s.withAge f).bit key i = s.bit key i := rfl

@[simp] theorem State.withHart_pending (s : State) (h : Nat) (f : Hart → Hart) : (s.withHart h f).pending = s.pending := rfl
@[simp] theorem State.withHart_objs (s : State) (h : Nat) (f : Hart → Hart) : (s.withHart h f).objs = s.objs := rfl
@[simp] theorem State.withHart_out (s : State) (h : Nat) (f : Hart → Hart) : (s.withHart h f).out = s.out := rfl
@[simp] theorem State.withHart_now (s : State) (h : Nat) (f : Hart → Hart) : (s.withHart h f).now = s.now := rfl
@[simp] theorem State.withHart_freeCtr (s : State) (h : Nat) (f : Hart → Hart) : (s.withHart h f).freeCtr = s.freeCtr := rfl
@[simp] theorem State.withHart_boot (s : State) (h : Nat) (f : Hart → Hart) : (s.withHart h f).boot = s.boot := rfl
@[simp] theorem State.withHart_aon (s : State) (h : Nat) (f : Hart → Hart) : (s.withHart h f).aon = s.aon := rfl
@[simp] theorem State.withHart_flash (s : State) (h : Nat) (f : Hart → Hart) : (s.withHart h f).flash = s.flash := rfl
@[simp] theorem State.withHart_otp (s : State) (h : Nat) (f : Hart → Hart) : (s.withHart h f).otp = s.otp := rfl
@[simp] theorem State.withHart_pins (s : State) (h : Nat) (f : Hart → Hart) : (s.withHart h f).pins = s.pins := rfl
@[simp] theorem State.withHart_orb (s : State) (h : Nat) (f : Hart → Hart) : (s.withHart h f).orb = s.orb := rfl
@[simp] theorem State.withHart_clk (s : State) (h : Nat) (f : Hart → Hart) : (s.withHart h f).clk = s.clk := rfl
@[simp] theorem State.withHart_lan (s : State) (h : Nat) (f : Hart → Hart) : (s.withHart h f).lan = s.lan := rfl
@[simp] theorem State.withHart_lnk (s : State) (h : Nat) (f : Hart → Hart) : (s.withHart h f).lnk = s.lnk := rfl
@[simp] theorem State.withHart_prt (s : State) (h : Nat) (f : Hart → Hart) : (s.withHart h f).prt = s.prt := rfl
@[simp] theorem State.withHart_gpf (s : State) (h : Nat) (f : Hart → Hart) : (s.withHart h f).gpf = s.gpf := rfl
@[simp] theorem State.withHart_tim (s : State) (h : Nat) (f : Hart → Hart) : (s.withHart h f).tim = s.tim := rfl
@[simp] theorem State.withHart_icu (s : State) (h : Nat) (f : Hart → Hart) : (s.withHart h f).icu = s.icu := rfl
@[simp] theorem State.withHart_dict (s : State) (h : Nat) (f : Hart → Hart) : (s.withHart h f).dict = s.dict := rfl
@[simp] theorem State.withHart_log (s : State) (h : Nat) (f : Hart → Hart) : (s.withHart h f).log = s.log := rfl
@[simp] theorem State.withHart_age (s : State) (h : Nat) (f : Hart → Hart) : (s.withHart h f).age = s.age := rfl
@[simp] theorem State.withHart_mea (s : State) (h : Nat) (f : Hart → Hart) : (s.withHart h f).mea = s.mea := rfl
@[simp] theorem State.withHart_swg (s : State) (h : Nat) (f : Hart → Hart) : (s.withHart h f).swg = s.swg := rfl
@[simp] theorem State.withHart_frt (s : State) (h : Nat) (f : Hart → Hart) : (s.withHart h f).frt = s.frt := rfl
@[simp] theorem State.withHart_red (s : State) (h : Nat) (f : Hart → Hart) : (s.withHart h f).red = s.red := rfl
@[simp] theorem State.withHart_cmt (s : State) (h : Nat) (f : Hart → Hart) : (s.withHart h f).cmt = s.cmt := rfl
@[simp] theorem State.withHart_car (s : State) (h : Nat) (f : Hart → Hart) : (s.withHart h f).car = s.car := rfl
@[simp] theorem State.get_withHart (s : State) (h : Nat) (f : Hart → Hart) (key : Nat) : (s.withHart h f).get key = s.get key := rfl
@[simp] theorem State.getN_withHart (s : State) (h : Nat) (f : Hart → Hart) (key : Nat) : (s.withHart h f).getN key = s.getN key := rfl
@[simp] theorem State.bit_withHart (s : State) (h : Nat) (f : Hart → Hart) (key i : Nat) : (s.withHart h f).bit key i = s.bit key i := rfl

@[simp] theorem State.withLane_pending (s : State) (k : Nat) (f : Lane → Lane) : (s.withLane k f).pending = s.pending := rfl
@[simp] theorem State.withLane_objs (s : State) (k : Nat) (f : Lane → Lane) : (s.withLane k f).objs = s.objs := rfl
@[simp] theorem State.withLane_out (s : State) (k : Nat) (f : Lane → Lane) : (s.withLane k f).out = s.out := rfl
@[simp] theorem State.withLane_now (s : State) (k : Nat) (f : Lane → Lane) : (s.withLane k f).now = s.now := rfl
@[simp] theorem State.withLane_freeCtr (s : State) (k : Nat) (f : Lane → Lane) : (s.withLane k f).freeCtr = s.freeCtr := rfl
@[simp] theorem State.withLane_boot (s : State) (k : Nat) (f : Lane → Lane) : (s.withLane k f).boot = s.boot := rfl
@[simp] theorem State.withLane_aon (s : State) (k : Nat) (f : Lane → Lane) : (s.withLane k f).aon = s.aon := rfl
@[simp] theorem State.withLane_flash (s : State) (k : Nat) (f : Lane → Lane) : (s.withLane k f).flash = s.flash := rfl
@[simp] theorem State.withLane_otp (s : State) (k : Nat) (f : Lane → Lane) : (s.withLane k f).otp = s.otp := rfl
@[simp] theorem State.withLane_pins (s : State) (k : Nat) (f : Lane → Lane) : (s.withLane k f).pins = s.pins := rfl
@[simp] theorem State.withLane_orb (s : State) (k : Nat) (f : Lane → Lane) : (s.withLane k f).orb = s.orb := rfl
@[simp] theorem State.withLane_clk (s : State) (k : Nat) (f : Lane → Lane) : (s.withLane k f).clk = s.clk := rfl
@[simp] theorem State.withLane_lnk (s : State) (k : Nat) (f : Lane → Lane) : (s.withLane k f).lnk = s.lnk := rfl
@[simp] theorem State.withLane_prt (s : State) (k : Nat) (f : Lane → Lane) : (s.withLane k f).prt = s.prt := rfl
@[simp] theorem State.withLane_gpf (s : State) (k : Nat) (f : Lane → Lane) : (s.withLane k f).gpf = s.gpf := rfl
@[simp] theorem State.withLane_tim (s : State) (k : Nat) (f : Lane → Lane) : (s.withLane k f).tim = s.tim := rfl
@[simp] theorem State.withLane_eng (s : State) (k : Nat) (f : Lane → Lane) : (s.withLane k f).eng = s.eng := rfl
@[simp] theorem State.withLane_icu (s : State) (k : Nat) (f : Lane → Lane) : (s.withLane k f).icu = s.icu := rfl
@[simp] theorem State.withLane_dict (s : State) (k : Nat) (f : Lane → Lane) : (s.withLane k f).dict = s.dict := rfl
@[simp] theorem State.withLane_log (s : State) (k : Nat) (f : Lane → Lane) : (s.withLane k f).log = s.log := rfl
@[simp] theorem State.withLane_age (s : State) (k : Nat) (f : Lane → Lane) : (s.withLane k f).age = s.age := rfl
@[simp] theorem State.withLane_mea (s : State) (k : Nat) (f : Lane → Lane) : (s.withLane k f).mea = s.mea := rfl
@[simp] theorem State.withLane_swg (s : State) (k : Nat) (f : Lane → Lane) : (s.withLane k f).swg = s.swg := rfl
@[simp] theorem State.withLane_frt (s : State) (k : Nat) (f : Lane → Lane) : (s.withLane k f).frt = s.frt := rfl
@[simp] theorem State.withLane_red (s : State) (k : Nat) (f : Lane → Lane) : (s.withLane k f).red = s.red := rfl
@[simp] theorem State.withLane_cmt (s : State) (k : Nat) (f : Lane → Lane) : (s.withLane k f).cmt = s.cmt := rfl
@[simp] theorem State.withLane_car (s : State) (k : Nat) (f : Lane → Lane) : (s.withLane k f).car = s.car := rfl
@[simp] theorem State.get_withLane (s : State) (k : Nat) (f : Lane → Lane) (key : Nat) : (s.withLane k f).get key = s.get key := rfl
@[simp] theorem State.getN_withLane (s : State) (k : Nat) (f : Lane → Lane) (key : Nat) : (s.withLane k f).getN key = s.getN key := rfl
@[simp] theorem State.bit_withLane (s : State) (k : Nat) (f : Lane → Lane) (key i : Nat) : (s.withLane k f).bit key i = s.bit key i := rfl

@[simp] theorem State.withPair_pending (s : State) (p : Nat) (f : Pair → Pair) : (s.withPair p f).pending = s.pending := rfl
@[simp] theorem State.withPair_objs (s : State) (p : Nat) (f : Pair → Pair) : (s.withPair p f).objs = s.objs := rfl
@[simp] theorem State.withPair_out (s : State) (p : Nat) (f : Pair → Pair) : (s.withPair p f).out = s.out := rfl
@[simp] theorem State.withPair_now (s : State) (p : Nat) (f : Pair → Pair) : (s.withPair p f).now = s.now := rfl
@[simp] theorem State.withPair_freeCtr (s : State) (p : Nat) (f : Pair → Pair) : (s.withPair p f).freeCtr = s.freeCtr := rfl
@[simp] theorem State.withPair_boot (s : State) (p : Nat) (f : Pair → Pair) : (s.withPair p f).boot = s.boot := rfl
@[simp] theorem State.withPair_aon (s : State) (p : Nat) (f : Pair → Pair) : (s.withPair p f).aon = s.aon := rfl
@[simp] theorem State.withPair_flash (s : State) (p : Nat) (f : Pair → Pair) : (s.withPair p f).flash = s.flash := rfl
@[simp] theorem State.withPair_otp (s : State) (p : Nat) (f : Pair → Pair) : (s.withPair p f).otp = s.otp := rfl
@[simp] theorem State.withPair_pins (s : State) (p : Nat) (f : Pair → Pair) : (s.withPair p f).pins = s.pins := rfl
@[simp] theorem State.withPair_orb (s : State) (p : Nat) (f : Pair → Pair) : (s.withPair p f).orb = s.orb := rfl
@[simp] theorem State.withPair_clk (s : State) (p : Nat) (f : Pair → Pair) : (s.withPair p f).clk = s.clk := rfl
@[simp] theorem State.withPair_lan (s : State) (p : Nat) (f : Pair → Pair) : (s.withPair p f).lan = s.lan := rfl
@[simp] theorem State.withPair_prt (s : State) (p : Nat) (f : Pair → Pair) : (s.withPair p f).prt = s.prt := rfl
@[simp] theorem State.withPair_gpf (s : State) (p : Nat) (f : Pair → Pair) : (s.withPair p f).gpf = s.gpf := rfl
@[simp] theorem State.withPair_tim (s : State) (p : Nat) (f : Pair → Pair) : (s.withPair p f).tim = s.tim := rfl
@[simp] theorem State.withPair_eng (s : State) (p : Nat) (f : Pair → Pair) : (s.withPair p f).eng = s.eng := rfl
@[simp] theorem State.withPair_icu (s : State) (p : Nat) (f : Pair → Pair) : (s.withPair p f).icu = s.icu := rfl
@[simp] theorem State.withPair_dict (s : State) (p : Nat) (f : Pair → Pair) : (s.withPair p f).dict = s.dict := rfl
@[simp] theorem State.withPair_log (s : State) (p : Nat) (f : Pair → Pair) : (s.withPair p f).log = s.log := rfl
@[simp] theorem State.withPair_age (s : State) (p : Nat) (f : Pair → Pair) : (s.withPair p f).age = s.age := rfl
@[simp] theorem State.withPair_mea (s : State) (p : Nat) (f : Pair → Pair) : (s.withPair p f).mea = s.mea := rfl
@[simp] theorem State.withPair_swg (s : State) (p : Nat) (f : Pair → Pair) : (s.withPair p f).swg = s.swg := rfl
@[simp] theorem State.withPair_frt (s : State) (p : Nat) (f : Pair → Pair) : (s.withPair p f).frt = s.frt := rfl
@[simp] theorem State.withPair_red (s : State) (p : Nat) (f : Pair → Pair) : (s.withPair p f).red = s.red := rfl
@[simp] theorem State.withPair_cmt (s : State) (p : Nat) (f : Pair → Pair) : (s.withPair p f).cmt = s.cmt := rfl
@[simp] theorem State.withPair_car (s : State) (p : Nat) (f : Pair → Pair) : (s.withPair p f).car = s.car := rfl
@[simp] theorem State.get_withPair (s : State) (p : Nat) (f : Pair → Pair) (key : Nat) : (s.withPair p f).get key = s.get key := rfl
@[simp] theorem State.getN_withPair (s : State) (p : Nat) (f : Pair → Pair) (key : Nat) : (s.withPair p f).getN key = s.getN key := rfl
@[simp] theorem State.bit_withPair (s : State) (p : Nat) (f : Pair → Pair) (key i : Nat) : (s.withPair p f).bit key i = s.bit key i := rfl

@[simp] theorem State.withMea_pending (s : State) (k : Nat) (f : MeaChannel → MeaChannel) : (s.withMea k f).pending = s.pending := rfl
@[simp] theorem State.withMea_objs (s : State) (k : Nat) (f : MeaChannel → MeaChannel) : (s.withMea k f).objs = s.objs := rfl
@[simp] theorem State.withMea_out (s : State) (k : Nat) (f : MeaChannel → MeaChannel) : (s.withMea k f).out = s.out := rfl
@[simp] theorem State.withMea_now (s : State) (k : Nat) (f : MeaChannel → MeaChannel) : (s.withMea k f).now = s.now := rfl
@[simp] theorem State.withMea_freeCtr (s : State) (k : Nat) (f : MeaChannel → MeaChannel) : (s.withMea k f).freeCtr = s.freeCtr := rfl
@[simp] theorem State.withMea_boot (s : State) (k : Nat) (f : MeaChannel → MeaChannel) : (s.withMea k f).boot = s.boot := rfl
@[simp] theorem State.withMea_aon (s : State) (k : Nat) (f : MeaChannel → MeaChannel) : (s.withMea k f).aon = s.aon := rfl
@[simp] theorem State.withMea_flash (s : State) (k : Nat) (f : MeaChannel → MeaChannel) : (s.withMea k f).flash = s.flash := rfl
@[simp] theorem State.withMea_otp (s : State) (k : Nat) (f : MeaChannel → MeaChannel) : (s.withMea k f).otp = s.otp := rfl
@[simp] theorem State.withMea_pins (s : State) (k : Nat) (f : MeaChannel → MeaChannel) : (s.withMea k f).pins = s.pins := rfl
@[simp] theorem State.withMea_orb (s : State) (k : Nat) (f : MeaChannel → MeaChannel) : (s.withMea k f).orb = s.orb := rfl
@[simp] theorem State.withMea_clk (s : State) (k : Nat) (f : MeaChannel → MeaChannel) : (s.withMea k f).clk = s.clk := rfl
@[simp] theorem State.withMea_lan (s : State) (k : Nat) (f : MeaChannel → MeaChannel) : (s.withMea k f).lan = s.lan := rfl
@[simp] theorem State.withMea_lnk (s : State) (k : Nat) (f : MeaChannel → MeaChannel) : (s.withMea k f).lnk = s.lnk := rfl
@[simp] theorem State.withMea_prt (s : State) (k : Nat) (f : MeaChannel → MeaChannel) : (s.withMea k f).prt = s.prt := rfl
@[simp] theorem State.withMea_gpf (s : State) (k : Nat) (f : MeaChannel → MeaChannel) : (s.withMea k f).gpf = s.gpf := rfl
@[simp] theorem State.withMea_tim (s : State) (k : Nat) (f : MeaChannel → MeaChannel) : (s.withMea k f).tim = s.tim := rfl
@[simp] theorem State.withMea_eng (s : State) (k : Nat) (f : MeaChannel → MeaChannel) : (s.withMea k f).eng = s.eng := rfl
@[simp] theorem State.withMea_icu (s : State) (k : Nat) (f : MeaChannel → MeaChannel) : (s.withMea k f).icu = s.icu := rfl
@[simp] theorem State.withMea_dict (s : State) (k : Nat) (f : MeaChannel → MeaChannel) : (s.withMea k f).dict = s.dict := rfl
@[simp] theorem State.withMea_log (s : State) (k : Nat) (f : MeaChannel → MeaChannel) : (s.withMea k f).log = s.log := rfl
@[simp] theorem State.withMea_age (s : State) (k : Nat) (f : MeaChannel → MeaChannel) : (s.withMea k f).age = s.age := rfl
@[simp] theorem State.withMea_swg (s : State) (k : Nat) (f : MeaChannel → MeaChannel) : (s.withMea k f).swg = s.swg := rfl
@[simp] theorem State.withMea_frt (s : State) (k : Nat) (f : MeaChannel → MeaChannel) : (s.withMea k f).frt = s.frt := rfl
@[simp] theorem State.withMea_red (s : State) (k : Nat) (f : MeaChannel → MeaChannel) : (s.withMea k f).red = s.red := rfl
@[simp] theorem State.withMea_cmt (s : State) (k : Nat) (f : MeaChannel → MeaChannel) : (s.withMea k f).cmt = s.cmt := rfl
@[simp] theorem State.withMea_car (s : State) (k : Nat) (f : MeaChannel → MeaChannel) : (s.withMea k f).car = s.car := rfl
@[simp] theorem State.get_withMea (s : State) (k : Nat) (f : MeaChannel → MeaChannel) (key : Nat) : (s.withMea k f).get key = s.get key := rfl
@[simp] theorem State.getN_withMea (s : State) (k : Nat) (f : MeaChannel → MeaChannel) (key : Nat) : (s.withMea k f).getN key = s.getN key := rfl
@[simp] theorem State.bit_withMea (s : State) (k : Nat) (f : MeaChannel → MeaChannel) (key i : Nat) : (s.withMea k f).bit key i = s.bit key i := rfl

@[simp] theorem State.withChannel_pending (s : State) (k : Nat) (f : CarChannel → CarChannel) : (s.withChannel k f).pending = s.pending := rfl
@[simp] theorem State.withChannel_objs (s : State) (k : Nat) (f : CarChannel → CarChannel) : (s.withChannel k f).objs = s.objs := rfl
@[simp] theorem State.withChannel_out (s : State) (k : Nat) (f : CarChannel → CarChannel) : (s.withChannel k f).out = s.out := rfl
@[simp] theorem State.withChannel_now (s : State) (k : Nat) (f : CarChannel → CarChannel) : (s.withChannel k f).now = s.now := rfl
@[simp] theorem State.withChannel_freeCtr (s : State) (k : Nat) (f : CarChannel → CarChannel) : (s.withChannel k f).freeCtr = s.freeCtr := rfl
@[simp] theorem State.withChannel_boot (s : State) (k : Nat) (f : CarChannel → CarChannel) : (s.withChannel k f).boot = s.boot := rfl
@[simp] theorem State.withChannel_aon (s : State) (k : Nat) (f : CarChannel → CarChannel) : (s.withChannel k f).aon = s.aon := rfl
@[simp] theorem State.withChannel_flash (s : State) (k : Nat) (f : CarChannel → CarChannel) : (s.withChannel k f).flash = s.flash := rfl
@[simp] theorem State.withChannel_otp (s : State) (k : Nat) (f : CarChannel → CarChannel) : (s.withChannel k f).otp = s.otp := rfl
@[simp] theorem State.withChannel_pins (s : State) (k : Nat) (f : CarChannel → CarChannel) : (s.withChannel k f).pins = s.pins := rfl
@[simp] theorem State.withChannel_orb (s : State) (k : Nat) (f : CarChannel → CarChannel) : (s.withChannel k f).orb = s.orb := rfl
@[simp] theorem State.withChannel_clk (s : State) (k : Nat) (f : CarChannel → CarChannel) : (s.withChannel k f).clk = s.clk := rfl
@[simp] theorem State.withChannel_lan (s : State) (k : Nat) (f : CarChannel → CarChannel) : (s.withChannel k f).lan = s.lan := rfl
@[simp] theorem State.withChannel_lnk (s : State) (k : Nat) (f : CarChannel → CarChannel) : (s.withChannel k f).lnk = s.lnk := rfl
@[simp] theorem State.withChannel_prt (s : State) (k : Nat) (f : CarChannel → CarChannel) : (s.withChannel k f).prt = s.prt := rfl
@[simp] theorem State.withChannel_gpf (s : State) (k : Nat) (f : CarChannel → CarChannel) : (s.withChannel k f).gpf = s.gpf := rfl
@[simp] theorem State.withChannel_tim (s : State) (k : Nat) (f : CarChannel → CarChannel) : (s.withChannel k f).tim = s.tim := rfl
@[simp] theorem State.withChannel_eng (s : State) (k : Nat) (f : CarChannel → CarChannel) : (s.withChannel k f).eng = s.eng := rfl
@[simp] theorem State.withChannel_icu (s : State) (k : Nat) (f : CarChannel → CarChannel) : (s.withChannel k f).icu = s.icu := rfl
@[simp] theorem State.withChannel_dict (s : State) (k : Nat) (f : CarChannel → CarChannel) : (s.withChannel k f).dict = s.dict := rfl
@[simp] theorem State.withChannel_log (s : State) (k : Nat) (f : CarChannel → CarChannel) : (s.withChannel k f).log = s.log := rfl
@[simp] theorem State.withChannel_age (s : State) (k : Nat) (f : CarChannel → CarChannel) : (s.withChannel k f).age = s.age := rfl
@[simp] theorem State.withChannel_mea (s : State) (k : Nat) (f : CarChannel → CarChannel) : (s.withChannel k f).mea = s.mea := rfl
@[simp] theorem State.withChannel_swg (s : State) (k : Nat) (f : CarChannel → CarChannel) : (s.withChannel k f).swg = s.swg := rfl
@[simp] theorem State.withChannel_frt (s : State) (k : Nat) (f : CarChannel → CarChannel) : (s.withChannel k f).frt = s.frt := rfl
@[simp] theorem State.withChannel_red (s : State) (k : Nat) (f : CarChannel → CarChannel) : (s.withChannel k f).red = s.red := rfl
@[simp] theorem State.withChannel_cmt (s : State) (k : Nat) (f : CarChannel → CarChannel) : (s.withChannel k f).cmt = s.cmt := rfl
@[simp] theorem State.get_withChannel (s : State) (k : Nat) (f : CarChannel → CarChannel) (key : Nat) : (s.withChannel k f).get key = s.get key := rfl
@[simp] theorem State.getN_withChannel (s : State) (k : Nat) (f : CarChannel → CarChannel) (key : Nat) : (s.withChannel k f).getN key = s.getN key := rfl
@[simp] theorem State.bit_withChannel (s : State) (k : Nat) (f : CarChannel → CarChannel) (key i : Nat) : (s.withChannel k f).bit key i = s.bit key i := rfl

@[simp] theorem State.withDch_pending (s : State) (k : Nat) (f : Chopper → Chopper) : (s.withDch k f).pending = s.pending := rfl
@[simp] theorem State.withDch_objs (s : State) (k : Nat) (f : Chopper → Chopper) : (s.withDch k f).objs = s.objs := rfl
@[simp] theorem State.withDch_out (s : State) (k : Nat) (f : Chopper → Chopper) : (s.withDch k f).out = s.out := rfl
@[simp] theorem State.withDch_now (s : State) (k : Nat) (f : Chopper → Chopper) : (s.withDch k f).now = s.now := rfl
@[simp] theorem State.withDch_freeCtr (s : State) (k : Nat) (f : Chopper → Chopper) : (s.withDch k f).freeCtr = s.freeCtr := rfl
@[simp] theorem State.withDch_boot (s : State) (k : Nat) (f : Chopper → Chopper) : (s.withDch k f).boot = s.boot := rfl
@[simp] theorem State.withDch_aon (s : State) (k : Nat) (f : Chopper → Chopper) : (s.withDch k f).aon = s.aon := rfl
@[simp] theorem State.withDch_flash (s : State) (k : Nat) (f : Chopper → Chopper) : (s.withDch k f).flash = s.flash := rfl
@[simp] theorem State.withDch_otp (s : State) (k : Nat) (f : Chopper → Chopper) : (s.withDch k f).otp = s.otp := rfl
@[simp] theorem State.withDch_pins (s : State) (k : Nat) (f : Chopper → Chopper) : (s.withDch k f).pins = s.pins := rfl
@[simp] theorem State.withDch_orb (s : State) (k : Nat) (f : Chopper → Chopper) : (s.withDch k f).orb = s.orb := rfl
@[simp] theorem State.withDch_clk (s : State) (k : Nat) (f : Chopper → Chopper) : (s.withDch k f).clk = s.clk := rfl
@[simp] theorem State.withDch_lan (s : State) (k : Nat) (f : Chopper → Chopper) : (s.withDch k f).lan = s.lan := rfl
@[simp] theorem State.withDch_lnk (s : State) (k : Nat) (f : Chopper → Chopper) : (s.withDch k f).lnk = s.lnk := rfl
@[simp] theorem State.withDch_gpf (s : State) (k : Nat) (f : Chopper → Chopper) : (s.withDch k f).gpf = s.gpf := rfl
@[simp] theorem State.withDch_tim (s : State) (k : Nat) (f : Chopper → Chopper) : (s.withDch k f).tim = s.tim := rfl
@[simp] theorem State.withDch_eng (s : State) (k : Nat) (f : Chopper → Chopper) : (s.withDch k f).eng = s.eng := rfl
@[simp] theorem State.withDch_icu (s : State) (k : Nat) (f : Chopper → Chopper) : (s.withDch k f).icu = s.icu := rfl
@[simp] theorem State.withDch_dict (s : State) (k : Nat) (f : Chopper → Chopper) : (s.withDch k f).dict = s.dict := rfl
@[simp] theorem State.withDch_log (s : State) (k : Nat) (f : Chopper → Chopper) : (s.withDch k f).log = s.log := rfl
@[simp] theorem State.withDch_age (s : State) (k : Nat) (f : Chopper → Chopper) : (s.withDch k f).age = s.age := rfl
@[simp] theorem State.withDch_mea (s : State) (k : Nat) (f : Chopper → Chopper) : (s.withDch k f).mea = s.mea := rfl
@[simp] theorem State.withDch_swg (s : State) (k : Nat) (f : Chopper → Chopper) : (s.withDch k f).swg = s.swg := rfl
@[simp] theorem State.withDch_frt (s : State) (k : Nat) (f : Chopper → Chopper) : (s.withDch k f).frt = s.frt := rfl
@[simp] theorem State.withDch_red (s : State) (k : Nat) (f : Chopper → Chopper) : (s.withDch k f).red = s.red := rfl
@[simp] theorem State.withDch_cmt (s : State) (k : Nat) (f : Chopper → Chopper) : (s.withDch k f).cmt = s.cmt := rfl
@[simp] theorem State.withDch_car (s : State) (k : Nat) (f : Chopper → Chopper) : (s.withDch k f).car = s.car := rfl
@[simp] theorem State.get_withDch (s : State) (k : Nat) (f : Chopper → Chopper) (key : Nat) : (s.withDch k f).get key = s.get key := rfl
@[simp] theorem State.getN_withDch (s : State) (k : Nat) (f : Chopper → Chopper) (key : Nat) : (s.withDch k f).getN key = s.getN key := rfl
@[simp] theorem State.bit_withDch (s : State) (k : Nat) (f : Chopper → Chopper) (key i : Nat) : (s.withDch k f).bit key i = s.bit key i := rfl

/-- The clock after a command has landed. -/
@[simp] theorem State.land_now (s : State) (t : Nat) : (s.land t).now = max s.now t := rfl
@[simp] theorem State.land_out (s : State) (t : Nat) : (s.land t).out = [] := rfl
@[simp] theorem State.emit_out (s : State) (o : Out) : (s.emit o).out = s.out ++ [o] := rfl
@[simp] theorem State.usedFree_freeCtr (s : State) : s.usedFree.freeCtr = s.freeCtr + 1 := rfl

/-- Reading after a count. -/
theorem State.get_add (s : State) (key other : Nat) (n : Int) :
    (s.add key n).get other = if other = key then min (s.get key + n) 0xFFFFFFFF else s.get other := State.get_put s key other _
theorem State.get_add64 (s : State) (key other : Nat) (n : Int) :
    (s.add64 key n).get other = if other = key then min (s.get key + n) 0xFFFFFFFFFFFFFFFF else s.get other :=
  State.get_put s key other _
theorem State.get_bump (s : State) (key other : Nat) :
    (s.bump key).get other = if other = key then min (s.get key + 1) 0xFFFFFFFF else s.get other := State.get_put s key other _
theorem State.get_setBit (s : State) (key b other : Nat) (on : Bool) :
    (s.setBit key b on).get other = if other = key then ((withBit (s.getN key) b on : Nat) : Int) else s.get other :=
  State.get_put s key other _
theorem State.get_countBy (s : State) (c other : Nat) (n : Int) :
    (s.countBy c n).get other =
      if other = Obj.LOG_CNT (c - 1) then min (s.get (Obj.LOG_CNT (c - 1)) + n) 0xFFFFFFFFFFFFFFFF else s.get other :=
  State.get_put s _ other _
theorem State.get_count (s : State) (c other : Nat) :
    (s.count c).get other =
      if other = Obj.LOG_CNT (c - 1) then min (s.get (Obj.LOG_CNT (c - 1)) + 1) 0xFFFFFFFFFFFFFFFF else s.get other :=
  State.get_put s _ other _

/-- Two states with the same store read alike. -/
theorem State.get_congr {a b : State} (h : a.objs = b.objs) (key : Nat) : a.get key = b.get key := by simp [State.get, h]

end Sys2Proof.Machine
end

