-- ==== Sys2Proof/Laws/Bits.lean ====
section
/-!
SUPPORT. Bits and fields of status words: what a bit reads after it, or another, has been given.
-/

namespace Sys2Proof.Machine

/-- Clearing a set bit by subtraction clears that bit alone. -/
theorem testBit_sub_pow {v b : Nat} (h : v.testBit b = true) (c : Nat) :
    (v - 2 ^ b).testBit c = if c = b then false else v.testBit c := by
  have hv : v = 2 ^ b * (v / 2 ^ b) + v % 2 ^ b := (Nat.div_add_mod v (2 ^ b)).symm
  have hr : v % 2 ^ b < 2 ^ b := Nat.mod_lt _ (Nat.two_pow_pos b)
  have hq : (v / 2 ^ b) % 2 = 1 := by
    have := h
    rw [Nat.testBit_eq_decide_div_mod_eq] at this
    simpa using this
  have hs : v - 2 ^ b = 2 ^ b * (v / 2 ^ b - 1) + v % 2 ^ b := by
    have h1 : 1 ≤ v / 2 ^ b := by
      rcases Nat.eq_zero_or_pos (v / 2 ^ b) with h0 | h0
      · rw [h0] at hq; cases hq
      · exact h0
    obtain ⟨q, hq'⟩ : ∃ q, v / 2 ^ b = q + 1 := ⟨v / 2 ^ b - 1, (Nat.sub_add_cancel h1).symm⟩
    rw [hq'] at hv ⊢
    have : 2 ^ b * (q + 1) = 2 ^ b * q + 2 ^ b := by rw [Nat.mul_add, Nat.mul_one]
    simp only [Nat.add_sub_cancel]
    omega
  rw [hs, Nat.testBit_two_pow_mul_add _ hr]
  have hvc : v.testBit c = if c < b then (v % 2 ^ b).testBit c else (v / 2 ^ b).testBit (c - b) := by
    conv => lhs; rw [hv]
    rw [Nat.testBit_two_pow_mul_add _ hr]
  rw [hvc]
  by_cases hcb : c < b
  · have : c ≠ b := by omega
    simp [hcb, this]
  · simp only [hcb, if_false]
    obtain ⟨q, hq'⟩ : ∃ q, v / 2 ^ b = 2 * q + 1 := ⟨v / 2 ^ b / 2, by omega⟩
    by_cases he : c = b
    · subst he
      simp [hq', Nat.testBit_zero]
    · obtain ⟨k, hk⟩ : ∃ k, c - b = k + 1 := ⟨c - b - 1, by omega⟩
      simp only [he, if_false, hk, hq', Nat.testBit_add_one]
      congr 1
      omega

/-- A bit of a number in which a bit has been given. -/
theorem bitOf_withBit (v b c : Nat) (on : Bool) : bitOf (withBit v b on) c = if c = b then on else bitOf v c := by
  unfold bitOf withBit
  cases on
  · simp only [Bool.false_eq_true, if_false]
    split
    · rename_i h; exact testBit_sub_pow h c
    · rename_i h
      by_cases hc : c = b
      · subst hc; simpa using h
      · simp [hc]
  · simp only [if_true, Nat.testBit_or, Nat.testBit_two_pow]
    by_cases hc : c = b
    · simp [hc]
    · have : b ≠ c := fun e => hc e.symm
      simp [hc, this]

/-- A bit of an entry in which a bit has been given. -/
theorem State.bit_setBit (s : State) (key b other c : Nat) (on : Bool) :
    (s.setBit key b on).bit other c = if other = key then (if c = b then on else s.bit key c) else s.bit other c := by
  unfold State.bit State.getN
  rw [State.get_setBit]
  by_cases h : other = key
  · simp [h, bitOf_withBit, State.getN]
  · simp [h]

/-- A bit of an entry after a write of an entry. -/
theorem State.bit_put (s : State) (key other c : Nat) (v : Int) :
    (s.put key v).bit other c = if other = key then bitOf v.toNat c else s.bit other c := by
  unfold State.bit State.getN
  rw [State.get_put]
  by_cases h : other = key <;> simp [h]

/-- The unsigned reading after a write. -/
theorem State.getN_put (s : State) (key other : Nat) (v : Int) :
    (s.put key v).getN other = if other = key then v.toNat else s.getN other := by
  unfold State.getN
  rw [State.get_put]
  by_cases h : other = key <;> simp [h]

/-- The unsigned reading after a bit has been given. -/
theorem State.getN_setBit (s : State) (key b other : Nat) (on : Bool) :
    (s.setBit key b on).getN other = if other = key then withBit (s.getN key) b on else s.getN other := by
  unfold State.getN
  rw [State.get_setBit]
  by_cases h : other = key <;> simp [h, State.getN]

/-- Bits after a count. -/
theorem State.bit_bump (s : State) (key other c : Nat) (h : other ≠ key) : (s.bump key).bit other c = s.bit other c := by
  simp [State.bit, State.getN, State.get_bump, h]

/-- Raising a source makes it pending in each of its copies. -/
theorem State.pending_raise (s : State) (n c : Nat) (h : c ∈ s.srcCopies n) : (n, c) ∈ (s.raise n).icu.pending := by
  have key : ∀ (l : List Nat) (p : List (Nat × Nat)), (c ∈ l ∨ (n, c) ∈ p) →
      (n, c) ∈ l.foldl (fun l c => addPair l (n, c)) p := by
    intro l
    induction l with
    | nil => intro p hp; simpa using hp
    | cons a rest ih =>
      intro p hp
      refine ih _ ?_
      have keep : (n, c) ∈ p → (n, c) ∈ addPair p (n, a) := by
        intro h; unfold addPair; split <;> simp [h]
      rcases hp with hp | hp
      · rcases List.mem_cons.1 hp with rfl | hp
        · right; dsimp only; unfold addPair; split <;> simp_all
        · exact Or.inl hp
      · exact Or.inr (keep hp)
  exact key _ _ (Or.inl h)

/-- What was pending stays pending. -/
theorem State.pending_raise_keep (s : State) (n : Nat) {p : Nat × Nat} (h : p ∈ s.icu.pending) : p ∈ (s.raise n).icu.pending := by
  have key : ∀ (l : List Nat) (q : List (Nat × Nat)), p ∈ q → p ∈ l.foldl (fun l c => addPair l (n, c)) q := by
    intro l
    induction l with
    | nil => intro q hq; exact hq
    | cons a rest ih =>
      intro q hq
      refine ih _ ?_
      dsimp only
      unfold addPair
      split <;> simp [hq]
  exact key _ _ h

end Sys2Proof.Machine
end

