-- ==== Sys2Proof/Laws/Log.lean ====
section
/-!
SUPPORT. What the logbook's operations leave alone: a record, an outcome of a retry site or a flush changes entries of the logbook's
range only, and of the records beside the store those of the logbook, the flash, the interrupt controller, the debug UART and the
answers.
-/

namespace Sys2Proof.Machine

/-- A change that leaves every entry outside the logbook's range alone. -/
def State.SameEntries (a b : State) : Prop := ∀ key, isLogEntry key = false → b.get key = a.get key

/-- A change that leaves every record beside the store, the logbook, the flash, the interrupt controller, the dictionary servers and
the answers alone. -/
def State.SameUnits (a b : State) : Prop :=
  b = { a with objs := b.objs, log := b.log, flash := b.flash, icu := b.icu, out := b.out, dict := b.dict }

theorem State.SameEntries.refl (a : State) : a.SameEntries a := fun _ _ => rfl
theorem State.SameEntries.trans {a b c : State} (h : a.SameEntries b) (g : b.SameEntries c) : a.SameEntries c :=
  fun k hk => (g k hk).trans (h k hk)
theorem State.SameUnits.refl (a : State) : a.SameUnits a := rfl
theorem State.SameUnits.trans {a b c : State} (h : a.SameUnits b) (g : b.SameUnits c) : a.SameUnits c := by
  unfold State.SameUnits at *
  rw [g, h]

/-- Both. -/
def State.LogOnly (a b : State) : Prop := a.SameEntries b ∧ a.SameUnits b
theorem State.LogOnly.refl (a : State) : a.LogOnly a := ⟨.refl a, .refl a⟩
theorem State.LogOnly.trans {a b c : State} (h : a.LogOnly b) (g : b.LogOnly c) : a.LogOnly c :=
  ⟨h.1.trans g.1, h.2.trans g.2⟩

theorem State.LogOnly.ite {s a b : State} {c : Prop} [Decidable c] (h : s.LogOnly a) (g : s.LogOnly b) :
    s.LogOnly (if c then a else b) := by
  by_cases hc : c
  · rw [if_pos hc]; exact h
  · rw [if_neg hc]; exact g

theorem State.logOnly_put (s : State) {key : Nat} (v : Int) (h : isLogEntry key = true) : s.LogOnly (s.put key v) := by
  refine ⟨fun k hk => State.get_put_ne s v ?_, rfl⟩
  rintro rfl
  rw [h] at hk
  cases hk

theorem State.logOnly_parts (s : State) (l : LogUnit) (f : Flash) (i : Icu) (o : List Out) (d : Dict) :
    s.LogOnly { s with log := l, flash := f, icu := i, out := o, dict := d } := ⟨fun _ _ => rfl, rfl⟩

theorem State.logOnly_raise (s : State) (n : Nat) : s.LogOnly (s.raise n) := ⟨fun _ _ => rfl, rfl⟩

theorem State.logOnly_uartLine (s : State) (chars : List Nat) : s.LogOnly (s.uartLine chars) := by
  exact State.LogOnly.ite (.refl s) (State.LogOnly.ite (s.logOnly_put _ rfl) (s.logOnly_parts s.log s.flash s.icu _ _))

theorem State.logOnly_pushRecord (s : State) (uptime code : Nat) (data : List Nat) (counter : Nat) (transient lasting : Bool) :
    s.LogOnly (s.pushRecord uptime code data counter transient lasting) := by
  have h : ∀ (a : State) (l : LogUnit) (f : Flash) (v : Int),
      a.LogOnly ((({ a with log := l, flash := f } : State)).put Obj.LOG_JOURNAL_SEQ v) := fun a l f v =>
    State.LogOnly.trans (b := { a with log := l, flash := f }) ⟨fun _ _ => rfl, rfl⟩ (State.logOnly_put _ v rfl)
  exact State.LogOnly.ite ((h ..).trans (State.logOnly_uartLine _ _)) (h ..)

theorem State.logOnly_journalAt (s : State) (uptime code subject : Nat) (data : List Nat) (counter : Nat) (transient lasting : Bool) :
    s.LogOnly (s.journalAt uptime code subject data counter transient lasting) := by
  refine State.LogOnly.ite ?_ ?_
  · refine State.LogOnly.trans ?_ (State.logOnly_parts ((if s.log.dropRun = 0 then s.raise 500 else s).bump Obj.LOG_JOURNAL_DROPPED)
      _ _ _ _ _)
    exact State.LogOnly.trans (State.LogOnly.ite (s.logOnly_raise 500) (.refl s)) (State.logOnly_put _ _ rfl)
  · refine State.LogOnly.trans ?_ (State.logOnly_pushRecord _ _ _ _ _ _ _)
    refine State.LogOnly.ite (s.logOnly_parts _ _ _ _ _) ?_
    refine State.LogOnly.trans ?_ (State.logOnly_pushRecord _ _ _ _ _ _ _)
    exact s.logOnly_parts _ _ _ _ _

theorem State.logOnly_journalFull (s : State) (code subject : Nat) (data : List Nat) (counter : Nat) (transient lasting : Bool) :
    s.LogOnly (s.journalFull code subject data counter transient lasting) := State.logOnly_journalAt ..

theorem State.logOnly_event (s : State) (src subject : Nat) (data : List Nat) : s.LogOnly (s.event src subject data) :=
  (s.logOnly_raise src).trans (State.logOnly_journalFull ..)

theorem State.logOnly_freezeNow (s : State) : s.LogOnly s.freezeNow := by
  unfold State.freezeNow
  refine State.LogOnly.trans (b := { s with log := { s.log with staged := some s.freeze } }) ⟨fun _ _ => rfl, rfl⟩ ?_
  exact (State.logOnly_put _ _ rfl).trans (State.logOnly_put _ _ rfl)

theorem State.logOnly_beginFlush (s : State) (demanded : Bool) : s.LogOnly (s.beginFlush demanded) := by
  unfold State.beginFlush
  split
  · exact .refl s
  · have h0 : s.LogOnly (if s.log.staged.isSome = true then s else s.freezeNow) :=
      State.LogOnly.ite (.refl s) s.logOnly_freezeNow
    refine h0.trans ?_
    generalize (if s.log.staged.isSome = true then s else s.freezeNow) = a
    refine State.LogOnly.trans (b := _) ?_ (State.LogOnly.ite (State.LogOnly.trans (State.logOnly_put _ _ rfl) (State.logOnly_event _ _ _ _))
      (.refl _))
    refine State.LogOnly.trans ?_ (State.logOnly_put _ _ rfl)
    refine State.LogOnly.trans ?_ (State.logOnly_put _ _ rfl)
    exact ⟨fun _ _ => rfl, rfl⟩

theorem State.logOnly_serveFlush (s : State) : s.LogOnly s.serveFlush := by
  unfold State.serveFlush
  split
  · exact s.logOnly_beginFlush true
  · split
    · exact s.logOnly_beginFlush false
    · exact .refl s

theorem State.logOnly_demandFlush (s : State) : s.LogOnly s.demandFlush :=
  State.LogOnly.trans (b := { s with log := { s.log with demand := true } }) ⟨fun _ _ => rfl, rfl⟩ (State.logOnly_serveFlush _)

theorem State.logOnly_add64 (s : State) {key : Nat} (n : Int) (h : isLogEntry key = true) : s.LogOnly (s.add64 key n) :=
  s.logOnly_put _ h

theorem State.logOnly_siteOutcome (s : State) (site code subject : Nat) (data : List Nat) (lasting : Bool)
    (h : 1 ≤ site ∧ site ≤ 0x16) : s.LogOnly (s.siteOutcome site code subject data lasting) := by
  have ht : isLogEntry (Obj.LOG_RETRY_TRANSIENT (site - 1)) = true := by
    simp only [isLogEntry, Obj.LOG_RETRY_TRANSIENT, Bool.and_eq_true, decide_eq_true_eq]; omega
  have hl : isLogEntry (Obj.LOG_RETRY_LASTING (site - 1)) = true := by
    simp only [isLogEntry, Obj.LOG_RETRY_LASTING, Bool.and_eq_true, decide_eq_true_eq]; omega
  refine State.LogOnly.ite ?_ (State.LogOnly.ite ?_ (s.logOnly_put _ ht))
  · exact ((s.logOnly_put _ hl).trans (State.logOnly_demandFlush _)).trans (State.logOnly_journalFull ..)
  · exact (s.logOnly_put _ ht).trans (State.logOnly_journalFull ..)

@[simp] theorem State.journalFull_pending (s : State) (code subject : Nat) (data : List Nat) (counter : Nat) (transient lasting : Bool) : (s.journalFull code subject data counter transient lasting).pending = s.pending := by rw [(State.logOnly_journalFull s code subject data counter transient lasting).2]
@[simp] theorem State.journalFull_now (s : State) (code subject : Nat) (data : List Nat) (counter : Nat) (transient lasting : Bool) : (s.journalFull code subject data counter transient lasting).now = s.now := by rw [(State.logOnly_journalFull s code subject data counter transient lasting).2]
@[simp] theorem State.journalFull_freeCtr (s : State) (code subject : Nat) (data : List Nat) (counter : Nat) (transient lasting : Bool) : (s.journalFull code subject data counter transient lasting).freeCtr = s.freeCtr := by rw [(State.logOnly_journalFull s code subject data counter transient lasting).2]
@[simp] theorem State.journalFull_boot (s : State) (code subject : Nat) (data : List Nat) (counter : Nat) (transient lasting : Bool) : (s.journalFull code subject data counter transient lasting).boot = s.boot := by rw [(State.logOnly_journalFull s code subject data counter transient lasting).2]
@[simp] theorem State.journalFull_aon (s : State) (code subject : Nat) (data : List Nat) (counter : Nat) (transient lasting : Bool) : (s.journalFull code subject data counter transient lasting).aon = s.aon := by rw [(State.logOnly_journalFull s code subject data counter transient lasting).2]
@[simp] theorem State.journalFull_otp (s : State) (code subject : Nat) (data : List Nat) (counter : Nat) (transient lasting : Bool) : (s.journalFull code subject data counter transient lasting).otp = s.otp := by rw [(State.logOnly_journalFull s code subject data counter transient lasting).2]
@[simp] theorem State.journalFull_pins (s : State) (code subject : Nat) (data : List Nat) (counter : Nat) (transient lasting : Bool) : (s.journalFull code subject data counter transient lasting).pins = s.pins := by rw [(State.logOnly_journalFull s code subject data counter transient lasting).2]
@[simp] theorem State.journalFull_orb (s : State) (code subject : Nat) (data : List Nat) (counter : Nat) (transient lasting : Bool) : (s.journalFull code subject data counter transient lasting).orb = s.orb := by rw [(State.logOnly_journalFull s code subject data counter transient lasting).2]
@[simp] theorem State.journalFull_clk (s : State) (code subject : Nat) (data : List Nat) (counter : Nat) (transient lasting : Bool) : (s.journalFull code subject data counter transient lasting).clk = s.clk := by rw [(State.logOnly_journalFull s code subject data counter transient lasting).2]
@[simp] theorem State.journalFull_lan (s : State) (code subject : Nat) (data : List Nat) (counter : Nat) (transient lasting : Bool) : (s.journalFull code subject data counter transient lasting).lan = s.lan := by rw [(State.logOnly_journalFull s code subject data counter transient lasting).2]
@[simp] theorem State.journalFull_lnk (s : State) (code subject : Nat) (data : List Nat) (counter : Nat) (transient lasting : Bool) : (s.journalFull code subject data counter transient lasting).lnk = s.lnk := by rw [(State.logOnly_journalFull s code subject data counter transient lasting).2]
@[simp] theorem State.journalFull_prt (s : State) (code subject : Nat) (data : List Nat) (counter : Nat) (transient lasting : Bool) : (s.journalFull code subject data counter transient lasting).prt = s.prt := by rw [(State.logOnly_journalFull s code subject data counter transient lasting).2]
@[simp] theorem State.journalFull_gpf (s : State) (code subject : Nat) (data : List Nat) (counter : Nat) (transient lasting : Bool) : (s.journalFull code subject data counter transient lasting).gpf = s.gpf := by rw [(State.logOnly_journalFull s code subject data counter transient lasting).2]
@[simp] theorem State.journalFull_tim (s : State) (code subject : Nat) (data : List Nat) (counter : Nat) (transient lasting : Bool) : (s.journalFull code subject data counter transient lasting).tim = s.tim := by rw [(State.logOnly_journalFull s code subject data counter transient lasting).2]
@[simp] theorem State.journalFull_eng (s : State) (code subject : Nat) (data : List Nat) (counter : Nat) (transient lasting : Bool) : (s.journalFull code subject data counter transient lasting).eng = s.eng := by rw [(State.logOnly_journalFull s code subject data counter transient lasting).2]
@[simp] theorem State.journalFull_age (s : State) (code subject : Nat) (data : List Nat) (counter : Nat) (transient lasting : Bool) : (s.journalFull code subject data counter transient lasting).age = s.age := by rw [(State.logOnly_journalFull s code subject data counter transient lasting).2]
@[simp] theorem State.journalFull_mea (s : State) (code subject : Nat) (data : List Nat) (counter : Nat) (transient lasting : Bool) : (s.journalFull code subject data counter transient lasting).mea = s.mea := by rw [(State.logOnly_journalFull s code subject data counter transient lasting).2]
@[simp] theorem State.journalFull_swg (s : State) (code subject : Nat) (data : List Nat) (counter : Nat) (transient lasting : Bool) : (s.journalFull code subject data counter transient lasting).swg = s.swg := by rw [(State.logOnly_journalFull s code subject data counter transient lasting).2]
@[simp] theorem State.journalFull_frt (s : State) (code subject : Nat) (data : List Nat) (counter : Nat) (transient lasting : Bool) : (s.journalFull code subject data counter transient lasting).frt = s.frt := by rw [(State.logOnly_journalFull s code subject data counter transient lasting).2]
@[simp] theorem State.journalFull_red (s : State) (code subject : Nat) (data : List Nat) (counter : Nat) (transient lasting : Bool) : (s.journalFull code subject data counter transient lasting).red = s.red := by rw [(State.logOnly_journalFull s code subject data counter transient lasting).2]
@[simp] theorem State.journalFull_cmt (s : State) (code subject : Nat) (data : List Nat) (counter : Nat) (transient lasting : Bool) : (s.journalFull code subject data counter transient lasting).cmt = s.cmt := by rw [(State.logOnly_journalFull s code subject data counter transient lasting).2]
@[simp] theorem State.journalFull_car (s : State) (code subject : Nat) (data : List Nat) (counter : Nat) (transient lasting : Bool) : (s.journalFull code subject data counter transient lasting).car = s.car := by rw [(State.logOnly_journalFull s code subject data counter transient lasting).2]
theorem State.get_journalFull (s : State) (code subject : Nat) (data : List Nat) (counter : Nat) (transient lasting : Bool) {key : Nat} (h : isLogEntry key = false) : (s.journalFull code subject data counter transient lasting).get key = s.get key :=
  (State.logOnly_journalFull s code subject data counter transient lasting).1 key h

@[simp] theorem State.event_pending (s : State) (src subject : Nat) (data : List Nat) : (s.event src subject data).pending = s.pending := by rw [(State.logOnly_event s src subject data).2]
@[simp] theorem State.event_now (s : State) (src subject : Nat) (data : List Nat) : (s.event src subject data).now = s.now := by rw [(State.logOnly_event s src subject data).2]
@[simp] theorem State.event_freeCtr (s : State) (src subject : Nat) (data : List Nat) : (s.event src subject data).freeCtr = s.freeCtr := by rw [(State.logOnly_event s src subject data).2]
@[simp] theorem State.event_boot (s : State) (src subject : Nat) (data : List Nat) : (s.event src subject data).boot = s.boot := by rw [(State.logOnly_event s src subject data).2]
@[simp] theorem State.event_aon (s : State) (src subject : Nat) (data : List Nat) : (s.event src subject data).aon = s.aon := by rw [(State.logOnly_event s src subject data).2]
@[simp] theorem State.event_otp (s : State) (src subject : Nat) (data : List Nat) : (s.event src subject data).otp = s.otp := by rw [(State.logOnly_event s src subject data).2]
@[simp] theorem State.event_pins (s : State) (src subject : Nat) (data : List Nat) : (s.event src subject data).pins = s.pins := by rw [(State.logOnly_event s src subject data).2]
@[simp] theorem State.event_orb (s : State) (src subject : Nat) (data : List Nat) : (s.event src subject data).orb = s.orb := by rw [(State.logOnly_event s src subject data).2]
@[simp] theorem State.event_clk (s : State) (src subject : Nat) (data : List Nat) : (s.event src subject data).clk = s.clk := by rw [(State.logOnly_event s src subject data).2]
@[simp] theorem State.event_lan (s : State) (src subject : Nat) (data : List Nat) : (s.event src subject data).lan = s.lan := by rw [(State.logOnly_event s src subject data).2]
@[simp] theorem State.event_lnk (s : State) (src subject : Nat) (data : List Nat) : (s.event src subject data).lnk = s.lnk := by rw [(State.logOnly_event s src subject data).2]
@[simp] theorem State.event_prt (s : State) (src subject : Nat) (data : List Nat) : (s.event src subject data).prt = s.prt := by rw [(State.logOnly_event s src subject data).2]
@[simp] theorem State.event_gpf (s : State) (src subject : Nat) (data : List Nat) : (s.event src subject data).gpf = s.gpf := by rw [(State.logOnly_event s src subject data).2]
@[simp] theorem State.event_tim (s : State) (src subject : Nat) (data : List Nat) : (s.event src subject data).tim = s.tim := by rw [(State.logOnly_event s src subject data).2]
@[simp] theorem State.event_eng (s : State) (src subject : Nat) (data : List Nat) : (s.event src subject data).eng = s.eng := by rw [(State.logOnly_event s src subject data).2]
@[simp] theorem State.event_age (s : State) (src subject : Nat) (data : List Nat) : (s.event src subject data).age = s.age := by rw [(State.logOnly_event s src subject data).2]
@[simp] theorem State.event_mea (s : State) (src subject : Nat) (data : List Nat) : (s.event src subject data).mea = s.mea := by rw [(State.logOnly_event s src subject data).2]
@[simp] theorem State.event_swg (s : State) (src subject : Nat) (data : List Nat) : (s.event src subject data).swg = s.swg := by rw [(State.logOnly_event s src subject data).2]
@[simp] theorem State.event_frt (s : State) (src subject : Nat) (data : List Nat) : (s.event src subject data).frt = s.frt := by rw [(State.logOnly_event s src subject data).2]
@[simp] theorem State.event_red (s : State) (src subject : Nat) (data : List Nat) : (s.event src subject data).red = s.red := by rw [(State.logOnly_event s src subject data).2]
@[simp] theorem State.event_cmt (s : State) (src subject : Nat) (data : List Nat) : (s.event src subject data).cmt = s.cmt := by rw [(State.logOnly_event s src subject data).2]
@[simp] theorem State.event_car (s : State) (src subject : Nat) (data : List Nat) : (s.event src subject data).car = s.car := by rw [(State.logOnly_event s src subject data).2]
theorem State.get_event (s : State) (src subject : Nat) (data : List Nat) {key : Nat} (h : isLogEntry key = false) : (s.event src subject data).get key = s.get key :=
  (State.logOnly_event s src subject data).1 key h

@[simp] theorem State.demandFlush_pending (s : State) : (s.demandFlush).pending = s.pending := by rw [(State.logOnly_demandFlush s).2]
@[simp] theorem State.demandFlush_now (s : State) : (s.demandFlush).now = s.now := by rw [(State.logOnly_demandFlush s).2]
@[simp] theorem State.demandFlush_freeCtr (s : State) : (s.demandFlush).freeCtr = s.freeCtr := by rw [(State.logOnly_demandFlush s).2]
@[simp] theorem State.demandFlush_boot (s : State) : (s.demandFlush).boot = s.boot := by rw [(State.logOnly_demandFlush s).2]
@[simp] theorem State.demandFlush_aon (s : State) : (s.demandFlush).aon = s.aon := by rw [(State.logOnly_demandFlush s).2]
@[simp] theorem State.demandFlush_otp (s : State) : (s.demandFlush).otp = s.otp := by rw [(State.logOnly_demandFlush s).2]
@[simp] theorem State.demandFlush_pins (s : State) : (s.demandFlush).pins = s.pins := by rw [(State.logOnly_demandFlush s).2]
@[simp] theorem State.demandFlush_orb (s : State) : (s.demandFlush).orb = s.orb := by rw [(State.logOnly_demandFlush s).2]
@[simp] theorem State.demandFlush_clk (s : State) : (s.demandFlush).clk = s.clk := by rw [(State.logOnly_demandFlush s).2]
@[simp] theorem State.demandFlush_lan (s : State) : (s.demandFlush).lan = s.lan := by rw [(State.logOnly_demandFlush s).2]
@[simp] theorem State.demandFlush_lnk (s : State) : (s.demandFlush).lnk = s.lnk := by rw [(State.logOnly_demandFlush s).2]
@[simp] theorem State.demandFlush_prt (s : State) : (s.demandFlush).prt = s.prt := by rw [(State.logOnly_demandFlush s).2]
@[simp] theorem State.demandFlush_gpf (s : State) : (s.demandFlush).gpf = s.gpf := by rw [(State.logOnly_demandFlush s).2]
@[simp] theorem State.demandFlush_tim (s : State) : (s.demandFlush).tim = s.tim := by rw [(State.logOnly_demandFlush s).2]
@[simp] theorem State.demandFlush_eng (s : State) : (s.demandFlush).eng = s.eng := by rw [(State.logOnly_demandFlush s).2]
@[simp] theorem State.demandFlush_age (s : State) : (s.demandFlush).age = s.age := by rw [(State.logOnly_demandFlush s).2]
@[simp] theorem State.demandFlush_mea (s : State) : (s.demandFlush).mea = s.mea := by rw [(State.logOnly_demandFlush s).2]
@[simp] theorem State.demandFlush_swg (s : State) : (s.demandFlush).swg = s.swg := by rw [(State.logOnly_demandFlush s).2]
@[simp] theorem State.demandFlush_frt (s : State) : (s.demandFlush).frt = s.frt := by rw [(State.logOnly_demandFlush s).2]
@[simp] theorem State.demandFlush_red (s : State) : (s.demandFlush).red = s.red := by rw [(State.logOnly_demandFlush s).2]
@[simp] theorem State.demandFlush_cmt (s : State) : (s.demandFlush).cmt = s.cmt := by rw [(State.logOnly_demandFlush s).2]
@[simp] theorem State.demandFlush_car (s : State) : (s.demandFlush).car = s.car := by rw [(State.logOnly_demandFlush s).2]
theorem State.get_demandFlush (s : State) {key : Nat} (h : isLogEntry key = false) : (s.demandFlush).get key = s.get key :=
  (State.logOnly_demandFlush s).1 key h

@[simp] theorem State.serveFlush_pending (s : State) : (s.serveFlush).pending = s.pending := by rw [(State.logOnly_serveFlush s).2]
@[simp] theorem State.serveFlush_now (s : State) : (s.serveFlush).now = s.now := by rw [(State.logOnly_serveFlush s).2]
@[simp] theorem State.serveFlush_freeCtr (s : State) : (s.serveFlush).freeCtr = s.freeCtr := by rw [(State.logOnly_serveFlush s).2]
@[simp] theorem State.serveFlush_boot (s : State) : (s.serveFlush).boot = s.boot := by rw [(State.logOnly_serveFlush s).2]
@[simp] theorem State.serveFlush_aon (s : State) : (s.serveFlush).aon = s.aon := by rw [(State.logOnly_serveFlush s).2]
@[simp] theorem State.serveFlush_otp (s : State) : (s.serveFlush).otp = s.otp := by rw [(State.logOnly_serveFlush s).2]
@[simp] theorem State.serveFlush_pins (s : State) : (s.serveFlush).pins = s.pins := by rw [(State.logOnly_serveFlush s).2]
@[simp] theorem State.serveFlush_orb (s : State) : (s.serveFlush).orb = s.orb := by rw [(State.logOnly_serveFlush s).2]
@[simp] theorem State.serveFlush_clk (s : State) : (s.serveFlush).clk = s.clk := by rw [(State.logOnly_serveFlush s).2]
@[simp] theorem State.serveFlush_lan (s : State) : (s.serveFlush).lan = s.lan := by rw [(State.logOnly_serveFlush s).2]
@[simp] theorem State.serveFlush_lnk (s : State) : (s.serveFlush).lnk = s.lnk := by rw [(State.logOnly_serveFlush s).2]
@[simp] theorem State.serveFlush_prt (s : State) : (s.serveFlush).prt = s.prt := by rw [(State.logOnly_serveFlush s).2]
@[simp] theorem State.serveFlush_gpf (s : State) : (s.serveFlush).gpf = s.gpf := by rw [(State.logOnly_serveFlush s).2]
@[simp] theorem State.serveFlush_tim (s : State) : (s.serveFlush).tim = s.tim := by rw [(State.logOnly_serveFlush s).2]
@[simp] theorem State.serveFlush_eng (s : State) : (s.serveFlush).eng = s.eng := by rw [(State.logOnly_serveFlush s).2]
@[simp] theorem State.serveFlush_age (s : State) : (s.serveFlush).age = s.age := by rw [(State.logOnly_serveFlush s).2]
@[simp] theorem State.serveFlush_mea (s : State) : (s.serveFlush).mea = s.mea := by rw [(State.logOnly_serveFlush s).2]
@[simp] theorem State.serveFlush_swg (s : State) : (s.serveFlush).swg = s.swg := by rw [(State.logOnly_serveFlush s).2]
@[simp] theorem State.serveFlush_frt (s : State) : (s.serveFlush).frt = s.frt := by rw [(State.logOnly_serveFlush s).2]
@[simp] theorem State.serveFlush_red (s : State) : (s.serveFlush).red = s.red := by rw [(State.logOnly_serveFlush s).2]
@[simp] theorem State.serveFlush_cmt (s : State) : (s.serveFlush).cmt = s.cmt := by rw [(State.logOnly_serveFlush s).2]
@[simp] theorem State.serveFlush_car (s : State) : (s.serveFlush).car = s.car := by rw [(State.logOnly_serveFlush s).2]
theorem State.get_serveFlush (s : State) {key : Nat} (h : isLogEntry key = false) : (s.serveFlush).get key = s.get key :=
  (State.logOnly_serveFlush s).1 key h

@[simp] theorem State.freezeNow_pending (s : State) : (s.freezeNow).pending = s.pending := by rw [(State.logOnly_freezeNow s).2]
@[simp] theorem State.freezeNow_now (s : State) : (s.freezeNow).now = s.now := by rw [(State.logOnly_freezeNow s).2]
@[simp] theorem State.freezeNow_freeCtr (s : State) : (s.freezeNow).freeCtr = s.freeCtr := by rw [(State.logOnly_freezeNow s).2]
@[simp] theorem State.freezeNow_boot (s : State) : (s.freezeNow).boot = s.boot := by rw [(State.logOnly_freezeNow s).2]
@[simp] theorem State.freezeNow_aon (s : State) : (s.freezeNow).aon = s.aon := by rw [(State.logOnly_freezeNow s).2]
@[simp] theorem State.freezeNow_otp (s : State) : (s.freezeNow).otp = s.otp := by rw [(State.logOnly_freezeNow s).2]
@[simp] theorem State.freezeNow_pins (s : State) : (s.freezeNow).pins = s.pins := by rw [(State.logOnly_freezeNow s).2]
@[simp] theorem State.freezeNow_orb (s : State) : (s.freezeNow).orb = s.orb := by rw [(State.logOnly_freezeNow s).2]
@[simp] theorem State.freezeNow_clk (s : State) : (s.freezeNow).clk = s.clk := by rw [(State.logOnly_freezeNow s).2]
@[simp] theorem State.freezeNow_lan (s : State) : (s.freezeNow).lan = s.lan := by rw [(State.logOnly_freezeNow s).2]
@[simp] theorem State.freezeNow_lnk (s : State) : (s.freezeNow).lnk = s.lnk := by rw [(State.logOnly_freezeNow s).2]
@[simp] theorem State.freezeNow_prt (s : State) : (s.freezeNow).prt = s.prt := by rw [(State.logOnly_freezeNow s).2]
@[simp] theorem State.freezeNow_gpf (s : State) : (s.freezeNow).gpf = s.gpf := by rw [(State.logOnly_freezeNow s).2]
@[simp] theorem State.freezeNow_tim (s : State) : (s.freezeNow).tim = s.tim := by rw [(State.logOnly_freezeNow s).2]
@[simp] theorem State.freezeNow_eng (s : State) : (s.freezeNow).eng = s.eng := by rw [(State.logOnly_freezeNow s).2]
@[simp] theorem State.freezeNow_age (s : State) : (s.freezeNow).age = s.age := by rw [(State.logOnly_freezeNow s).2]
@[simp] theorem State.freezeNow_mea (s : State) : (s.freezeNow).mea = s.mea := by rw [(State.logOnly_freezeNow s).2]
@[simp] theorem State.freezeNow_swg (s : State) : (s.freezeNow).swg = s.swg := by rw [(State.logOnly_freezeNow s).2]
@[simp] theorem State.freezeNow_frt (s : State) : (s.freezeNow).frt = s.frt := by rw [(State.logOnly_freezeNow s).2]
@[simp] theorem State.freezeNow_red (s : State) : (s.freezeNow).red = s.red := by rw [(State.logOnly_freezeNow s).2]
@[simp] theorem State.freezeNow_cmt (s : State) : (s.freezeNow).cmt = s.cmt := by rw [(State.logOnly_freezeNow s).2]
@[simp] theorem State.freezeNow_car (s : State) : (s.freezeNow).car = s.car := by rw [(State.logOnly_freezeNow s).2]
theorem State.get_freezeNow (s : State) {key : Nat} (h : isLogEntry key = false) : (s.freezeNow).get key = s.get key :=
  (State.logOnly_freezeNow s).1 key h

end Sys2Proof.Machine
end

