-- ==== Sys2Proof/Laws/Settle.lean ====
section
/-!
SUPPORT. The shape of every meaning's answer, and what the operations at the end of a command leave alone.
-/

namespace Sys2Proof.Machine

/-- A meaning answers the settled state after its effect. -/
theorem State.done_eq (s : State) (t : Nat) (act : State → State) :
    s.done t act = .next (State.settle (s.land t) (act (s.land t))) := rfl

/-- A meaning that makes carrier edges answers the state settled at their instant. -/
theorem State.doneAt_eq (s : State) (t : Nat) (fine : State → Option Int) (act : State → State) :
    s.doneAt t fine act = .next (State.settleAt (s.land t) (act (s.land t)) (fine (s.land t))) := rfl

/-- What follows a command without carrier edges. -/
theorem State.settle_eq (before s : State) : State.settle before s = State.settleAt before s none := rfl

/-- A command at the front is run on the rest of the queue. -/
theorem step_cons (s : State) (c : Instr) (rest : List Instr) (h : s.pending = c :: rest) :
    step s = exec c { s with pending := rest } := by
  simp only [step, h]

/-- Fitting the registers changes the dictionary store alone. -/
theorem State.fit_eq (s : State) : s.fit = { s with objs := s.fit.objs } := rfl

@[simp] theorem State.fit_pending (s : State) : s.fit.pending = s.pending := rfl
@[simp] theorem State.fit_out (s : State) : s.fit.out = s.out := rfl
@[simp] theorem State.fit_now (s : State) : s.fit.now = s.now := rfl
@[simp] theorem State.fit_prt (s : State) : s.fit.prt = s.prt := rfl
@[simp] theorem State.fit_car (s : State) : s.fit.car = s.car := rfl
@[simp] theorem State.fit_icu (s : State) : s.fit.icu = s.icu := rfl
@[simp] theorem State.fit_cmt (s : State) : s.fit.cmt = s.cmt := rfl
@[simp] theorem State.fit_pins (s : State) : s.fit.pins = s.pins := rfl
@[simp] theorem State.fit_tim (s : State) : s.fit.tim = s.tim := rfl

/-- A reading without data stays so. -/
theorem Obj.fit_absent (key : Nat) : Obj.fit key Obj.absent = Obj.absent := by
  simp [Obj.fit]

end Sys2Proof.Machine
end

