-- ==== Sys2Proof/Laws/Sha.lean ====
section
/-!
SUPPORT. The length of a hash: 32 bytes, whatever the message.
-/

namespace Sys2Proof.Machine

/-- A round keeps eight working variables. -/
theorem shaRound_length {v : List Nat} (k w : Nat) (h : v.length = 8) : (shaRound v k w).length = 8 := by
  match v, h with
  | [_, _, _, _, _, _, _, _], _ => rfl

/-- Rounds keep eight working variables. -/
theorem shaRounds_length (l : List (Nat × Nat)) (v : List Nat) (h : v.length = 8) :
    (l.foldl (fun v e => shaRound v e.1 e.2) v).length = 8 := by
  induction l generalizing v with
  | nil => exact h
  | cons e rest ih => exact ih _ (shaRound_length e.1 e.2 h)

/-- A block keeps the eight words of the hash. -/
theorem shaBlock_length {h : List Nat} (b : List Nat) (hh : h.length = 8) : (shaBlock h b).length = 8 := by
  simp only [shaBlock, List.length_map, List.length_zip]
  rw [shaRounds_length _ h hh, hh]
  rfl

/-- So do all the blocks of a message. -/
theorem shaBlocks_length (n : Nat) (h m : List Nat) (hh : h.length = 8) : (shaBlocks h m n).length = 8 := by
  induction n generalizing h m with
  | zero => exact hh
  | succ n ih => exact ih _ _ (shaBlock_length _ hh)

/-- The number of bytes asked for. -/
theorem bytesOf_length (v n : Nat) : (bytesOf v n).length = n := by
  induction n generalizing v with
  | zero => rfl
  | succ n ih => simp [bytesOf, ih]

/-- Words of four bytes each. -/
theorem flatMap_beBytes_length (l : List Nat) : (l.flatMap fun w => beBytes w 4).length = 4 * l.length := by
  induction l with
  | nil => rfl
  | cons w rest ih =>
    have hw : (beBytes w 4).length = 4 := by simp [beBytes, bytesOf_length]
    rw [List.flatMap_cons, List.length_append, ih, hw, List.length_cons]
    omega

/-- A SHA-256 hash has 32 bytes. -/
theorem sha256_length (m : List Nat) : (sha256 m).length = 32 := by
  simp only [sha256, flatMap_beBytes_length]
  rw [shaBlocks_length _ _ _ (by rfl)]

/-- An HMAC-SHA-256 has 32 bytes. -/
@[simp] theorem hmacSha256_length (key m : List Nat) : (hmacSha256 key m).length = 32 := sha256_length _

/-- An HMAC-SHA-256 is not empty. -/
@[simp] theorem hmacSha256_ne_nil (key m : List Nat) : hmacSha256 key m ≠ [] := by
  intro h
  have := hmacSha256_length key m
  simp [h] at this

end Sys2Proof.Machine
end

