-- ==== Sys2Proof/WellFormed.lean ====
section
/-!
DEFINITION. Which commands are well formed: every operand names something the part has (a lane, a channel, a pair, an engine ...) or
fits its field. A command that is not well formed names nothing the part has; its meaning leaves the part as it is, but for a
dictionary request, which is refused by the dictionary's own checks.
-/

namespace Sys2Proof

/-- The channels of R424, or a hart of the ten (16 + h). DESIGN CHOICE (log entry 20): unsafe. -/
def senderOk (f : Sender) : Bool := decide (f.channel < 6) || (decide (16 ≤ f.channel) && decide (f.channel < 26))

/-- Carrier channels 0 to 23 (R132). -/
def carrierOk (k : Nat) : Bool := decide (k < 24)

/-- Arms 0 to 5, which are also the bound channels and the analog PLLs (R7, R135, R354). -/
def armOk (k : Nat) : Bool := decide (k < 6)

/-- Measurement channels 0 to 31 (R152). -/
def measureOk (k : Nat) : Bool := decide (k < 32)

/-- Clock groups and chopper channels 0 to 3 (R153, Table 8.11). -/
def groupOk (g : Nat) : Bool := decide (g < 4)

/-- Global submodule numbers (R8). -/
def submoduleOk (n : Nat) : Bool := decide (n < 7680)

/-- Ring pairs 0 to 23 (R269). -/
def pairOk (p : Nat) : Bool := decide (p < 24)

/-- Cascade groups 0 to 7 (R261). -/
def cascadeOk (g : Nat) : Bool := decide (g < 8)

/-- Lanes 0 to 49 (R269). -/
def laneOk (k : Nat) : Bool := decide (k < 50)

/-- Two of a kind: CAN or Ethernet ports, cross-link lanes, I/O banks. -/
def portOk (p : Nat) : Bool := decide (p < 2)

/-- Harts 0 to 9: engines and service cores, the targets of R388. -/
def hartOk (h : Nat) : Bool := decide (h < 10)

/-- Engines 0 to 7 (R372). -/
def engineOk (e : Nat) : Bool := decide (e < 8)

/-- Pulse generators and interrupt groups 0 to 15 (R339, R388). -/
def generatorOk (g : Nat) : Bool := decide (g < 16)

/-- Interrupt sources 0 to 511 (R388). -/
def sourceOk (n : Nat) : Bool := decide (n < 512)

/-- The TDS channels, ETH0 and ETH1 (R424). -/
def tdsPortOk (c : Nat) : Bool := c == 2 || c == 3

/-- One byte. -/
def byteOk (v : Nat) : Bool := decide (v < 256)

/-- Bytes. -/
def bytesOk (l : List Nat) : Bool := l.all byteOk

/-- An index of 16 bits and a subindex of 8 (R422). -/
def entryOk (index sub : Nat) : Bool := decide (index < 65536) && byteOk sub

/-- A command is well formed. DESIGN CHOICE (log entry 8): safe. -/
def Instr.wellFormed (i : Instr) : Bool :=
  match i with
  | .poresetNAssert _ _ _ => true
  | .poresetNRelease _ _ bootSel => decide (bootSel < 4)
  | .firmwareBankAttempt _ _ => true
  | .enterConfig _ _ _ _ => true
  | .serviceWatchdogExpiry _ => true
  | .lockstepMismatch _ => true
  | .jtagTestInstruction _ => true
  | .stateReqConfig _ f => senderOk f
  | .stateReqLinkup _ f => senderOk f
  | .stateReqRunNormal _ f => senderOk f
  | .stateReqRunBlackstart _ f => senderOk f
  | .stateReqBlocked _ f => senderOk f
  | .linkupComplete _ => true
  | .followPartnerRun _ => true
  | .followPartnerBlocked _ => true
  | .armEnFilteredFall _ => true
  | .armEnFilteredRise _ => true
  | .prtSoftTrip _ f => senderOk f
  | .prtExtTrip _ => true
  | .orbitBoundary _ _ => true
  | .tRefDeadline _ => true
  | .tUpDeadline _ => true
  | .tFinDeadline _ _ => true
  | .tReadyDeadline _ _ => true
  | .orbDegForceWrite _ f _ => senderOk f
  | .orbMarginClear _ f => senderOk f
  | .frameReturn _ pair _ _ _ _ _ _ => pairOk pair
  | .swgParamHoldSet _ f => senderOk f
  | .swgParamHoldRelease _ f => senderOk f
  | .trackLockTimer _ => true
  | .frtClearTimeExpiry _ => true
  | .frtMaxTimeExpiry _ => true
  | .blkDeadTimeExpiry _ => true
  | .blkHoldTimeExpiry _ => true
  | .blkPauseMaxExpiry _ => true
  | .blkSyncStart _ f => senderOk f
  | .blkSyncStop _ f => senderOk f
  | .blkSyncDwellExpiry _ => true
  | .blkSyncCloseConfirm _ => true
  | .blkSyncTimeout _ => true
  | .rnkReinstate _ f n => senderOk f && submoduleOk n
  | .sortMemoryEcc _ arm _ => armOk arm
  | .carrierReload _ k => carrierOk k
  | .carrierCompareTrigger _ k _ => carrierOk k
  | .carrierSyncPulse _ k => carrierOk k
  | .boundEdgeToggle _ k => armOk k
  | .carCommit _ f k => senderOk f && carrierOk k
  | .carClearSticky _ f k => senderOk f && carrierOk k
  | .carShadowWrite _ f k reg _ => senderOk f && carrierOk k && decide (reg < 5)
  | .carCommHoldExpiry _ k => carrierOk k
  | .delayLineLock _ => true
  | .delayLineUnlock _ => true
  | .meaMainSample _ k => measureOk k
  | .meaFastSample _ k _ _ => measureOk k
  | .sdmClkLost _ g => groupOk g
  | .sdmClkWindowEnd _ g _ => groupOk g
  | .sdmStuckDetect _ k => measureOk k
  | .meaSettleEnd _ k => measureOk k
  | .meaMemoryError _ _ _ => true
  | .meaPeakClear _ f _ => senderOk f
  | .dchPhaseEnd _ k => groupOk k
  | .dchMinTimeExpiry _ k => groupOk k
  | .prtBlindMaxExpiry _ _ => true
  | .dchForceSet _ f k => senderOk f && groupOk k
  | .prtOvPeakClear _ f => senderOk f
  | .avsEvaluation _ _ _ => true
  | .avsReadbackCheck _ _ => true
  | .ageReplanPeriodExpiry _ => true
  | .ageReplanReq _ f => senderOk f
  | .planSubmit _ f _ _ => senderOk f
  | .agePlanSubmit _ f data => senderOk f && bytesOk data
  | .planCheckDone _ => true
  | .enumerationFrameReturn _ pair _ _ _ _ => pairOk pair
  | .delayFrameReturn _ pair _ _ _ _ => pairOk pair
  | .alignmentDone _ pair => pairOk pair
  | .mgmtRecordReturn _ pair purpose _ _ _ _ => pairOk pair && decide (purpose < 7)
  | .urgentBlockReturned _ => true
  | .cascadeDownLaunch _ => true
  | .cascadeDownReceive _ _ _ => true
  | .cascadeUpReceive _ group _ => cascadeOk group
  | .cascadeRoundtripReturn _ group _ _ _ _ => cascadeOk group
  | .laneStateTimeout _ k => laneOk k
  | .laneVerifyPass _ k => laneOk k
  | .laneDownRetry _ k => laneOk k
  | .laneCapReceive _ k d2 _ => laneOk k && byteOk d2
  | .laneRateGoReceive _ k d2 => laneOk k && byteOk d2
  | .laneTapReqReceive _ k d2 _ => laneOk k && byteOk d2
  | .laneTapStatusReceive _ k d2 _ => laneOk k && byteOk d2
  | .laneSleepReceive _ k => laneOk k
  | .laneBlockLock _ k => laneOk k
  | .laneLockLoss _ k _ => laneOk k
  | .laneTxSleep _ k => laneOk k
  | .laneTxWake _ k => laneOk k
  | .laneRxWakeTimeout _ k => laneOk k
  | .laneBerMinute _ k => laneOk k
  | .lanEyeStart _ f => senderOk f
  | .lanEyeAbort _ f => senderOk f
  | .eyeScanComplete _ _ => true
  | .lanLoopbackSelect _ f k _ => senderOk f && laneOk k
  | .xlHeadReceive _ lane _ _ => portOk lane
  | .xlBodyReceive _ lane _ _ => portOk lane
  | .xlBulkReceive _ lane _ => portOk lane
  | .xlLatencyMeasure _ lane _ _ => portOk lane
  | .claimHoldoffExpiry _ => true
  | .changeRecordTimeout _ => true
  | .redResyncReq _ f => senderOk f
  | .autoResyncTimer _ => true
  | .resyncPhaseDone _ _ => true
  | .resyncPhaseTimeout _ => true
  | .redPartnerAbsentSet _ f => senderOk f
  | .redPartnerAbsentClear _ f => senderOk f
  | .redSwapReq _ f => senderOk f
  | .timeCounterWrap _ => true
  | .timeShadowWrite _ hart _ => hartOk hart
  | .extStaleTimeout _ => true
  | .ptpSyncReceive _ port _ _ _ _ => portOk port
  | .ptpAnnounceReceive _ port _ _ _ _ => portOk port
  | .ptpAnnounceTimeout _ port => portOk port
  | .ptpPdelayTimer _ => true
  | .ptpPdelayReqReceive _ port _ _ _ => portOk port
  | .ptpPdelayRespReceive _ port _ _ _ _ _ => portOk port
  | .ppsInEdge _ => true
  | .ppsInMiss _ => true
  | .orbSyncInEdge _ => true
  | .orbSyncMiss _ => true
  | .timSetTime _ f _ => senderOk f
  | .timReepochReq _ f => senderOk f
  | .launchQueueWrite _ hart port _ _ _ _ => hartOk hart && portOk port
  | .timedFrameLaunch _ port => portOk port
  | .pulseGeneratorArm _ f g mode => senderOk f && generatorOk g && decide (mode < 4)
  | .pulseGeneratorEdge _ g => generatorOk g
  | .ref25Lost _ => true
  | .ref25Qualified _ => true
  | .dpllLock _ => true
  | .xoLost _ => true
  | .ref156Lost _ => true
  | .ref156Requalified _ => true
  | .pllLockLoss _ p => armOk p
  | .pllRelockDone _ p => decide (p < 19)
  | .pllRelockTimeout _ p => decide (p < 19)
  | .clkPllCtrlChange _ f p _ => senderOk f && armOk p
  | .clkPllRelock _ f _ => senderOk f
  | .byp200Check _ _ => true
  | .railMonitorSample _ _ _ _ => true
  | .pwrExtremesClear _ f => senderOk f
  | .pwrSleepReq _ f => senderOk f
  | .sleepFirmwareReady _ => true
  | .sleepGraceExpiry _ => true
  | .lunarEntryDone _ => true
  | .wakeEvent _ src => decide (src < 8)
  | .wakeTimerExpiry _ => true
  | .wakeComplete _ => true
  | .korWait _ e _ _ _ _ => engineOk e
  | .korWaitComplete _ e => engineOk e
  | .korRefdone _ e _ _ => engineOk e
  | .korOfs _ e _ _ => engineOk e
  | .korFret _ e => engineOk e
  | .refPageDoneWrite _ e page _ => engineOk e && engineOk page
  | .engRefSlackClear _ f => senderOk f
  | .engineExceptionHalt _ e _ => engineOk e
  | .engRestart _ f e => senderOk f && engineOk e
  | .interruptSourceFire _ src => sourceOk src
  | .interruptClaim _ target => hartOk target
  | .interruptComplete _ target _ => hartOk target
  | .fastInterruptGrant _ e _ _ _ => engineOk e
  | .icuHoldoffExpiry _ g => generatorOk g
  | .icuSwSet _ f _ => senderOk f
  | .icuPendingClear _ f g _ => senderOk f && generatorOk g
  | .icuSrcCfgWrite _ f src _ => senderOk f && sourceOk src
  | .sramEccError _ h _ _ _ _ => decide (h < 11)
  | .dramEccError _ h _ _ _ _ => decide (h < 11)
  | .cmtArm _ f => senderOk f
  | .cmtAbort _ f => senderOk f
  | .cmtForceTrig _ f => senderOk f
  | .cmtPatternMatch _ => true
  | .cmtBlockAgeTimeout _ => true
  | .cmtTailEnd _ => true
  | .cmtRecRelease _ f _ => senderOk f
  | .usdoExpeditedDownload _ port index sub data => portOk port && entryOk index sub && bytesOk data
  | .usdoSegmentedDownload _ port index sub _ => portOk port && entryOk index sub
  | .usdoDownloadSegment _ port data _ _ => portOk port && bytesOk data
  | .usdoExpeditedUpload _ port index sub => portOk port && entryOk index sub
  | .usdoSegmentedUpload _ port index sub => portOk port && entryOk index sub
  | .usdoUploadSegment _ port => portOk port
  | .usdoAbort _ port => portOk port
  | .usdoSegmentTimeout _ port => portOk port
  | .nmtCommand _ port => portOk port
  | .heartbeatTimer _ port => portOk port
  | .canBusOff _ port => portOk port
  | .canBusOffQuiet _ port => portOk port
  | .tdsOpen _ channel _ => tdsPortOk channel
  | .tdsClose _ f _ => tdsPortOk f.channel
  | .tdsKeepalive _ f _ => tdsPortOk f.channel
  | .tdsRead _ f _ index sub => tdsPortOk f.channel && entryOk index sub
  | .tdsWrite _ f _ index sub data _ => tdsPortOk f.channel && entryOk index sub && bytesOk data
  | .tdsReadIndex _ f _ index => tdsPortOk f.channel && entryOk index 0
  | .tdsDescribe _ f _ index sub => tdsPortOk f.channel && entryOk index sub
  | .tdsUpStart _ f _ index sub _ _ => tdsPortOk f.channel && entryOk index sub
  | .tdsUpAck _ f _ _ => tdsPortOk f.channel
  | .tdsDownStart _ f _ index sub _ _ _ => tdsPortOk f.channel && entryOk index sub
  | .tdsDownData _ f _ _ data => tdsPortOk f.channel && bytesOk data
  | .tdsDownEnd _ f _ _ => tdsPortOk f.channel
  | .tdsCancel _ f _ => tdsPortOk f.channel
  | .tdsChunkTimeout _ f => tdsPortOk f.channel
  | .tdsIdleTimeout _ f => tdsPortOk f.channel
  | .tdsBadDatagram _ channel => tdsPortOk channel
  | .arpRequest _ port _ => portOk port
  | .icmpEchoRequest _ port _ data => portOk port && bytesOk data
  | .ethLinkChange _ port _ => portOk port
  | .devAuthReq _ f _ => senderOk f
  | .devAuthResponse _ f data => senderOk f && bytesOk data
  | .devAuthLogout _ f => senderOk f
  | .authIdleTimeout _ f => senderOk f
  | .authLockoutExpiry _ channel => decide (channel < 6)
  | .devAuthKeyWrite _ f role data => senderOk f && decide (1 ≤ role ∧ role ≤ 3) && bytesOk data
  | .devImageLoad _ f _ => senderOk f
  | .devImageStore _ f => senderOk f
  | .imageStoreDone _ _ => true
  | .registerWrite _ f index sub data => senderOk f && entryOk index sub && bytesOk data
  | .logPeriodicFlush _ => true
  | .logFlushReq _ f => senderOk f
  | .logFlushDone _ _ => true
  | .logSecondTick _ _ _ _ => true
  | .logExportReq _ f => senderOk f
  | .uartReadCommand _ index sub => entryOk index sub
  | .jtagLogread _ _ _ => true
  | .jtagDebug _ data => bytesOk data
  | .quadPllLockLoss _ q => decide (q < 13)
  | .crystalRestored _ => true
  | .sdmClkRestored _ g => groupOk g
  | .stuckBitstreamEnd _ k => measureOk k
  | .tideInPulse _ width => decide (0 < width)
  | .gpioInputChange _ line _ => decide (line < 32)
  | .jtagResetRelease _ => true
  | .otpProgramDone _ _ => true
  | .flushSpacingExpiry _ => true
  | .dramRetrainDone _ => true
  | .carrierDutyEdge _ k => carrierOk k
  | .deadTimeElapsed _ k => carrierOk k
  | .crossingFault _ _ => true
  | .accessFault _ h _ _ kind => hartOk h && decide (kind < 3)
  | .referencePageWrite _ e page reg _ => engineOk e && engineOk page && decide (reg < 16)
  | .ioBankRailLoss _ bank _ => portOk bank
  | .trainEvaluationDone _ k _ => laneOk k

end Sys2Proof
end

