-- ==== Sys2Proof/Tests/Slice0.lean ====
section
/-!
SUPPORT. The model's own tests: terms that WellFormed refuses, worked examples and check values of the manual, and for every statement
of Certificates/Slice0/Obligations.lean with hypotheses a theorem that a concrete state and operands meet them, clause by clause.
-/

namespace Sys2Proof.Tests

open Sys2Proof Sys2Proof.Machine

set_option Elab.async false

/-! ## States that the tests share -/

/-- A small state: reset with some entries given. -/
def probe (l : List (Nat × Int)) : State := l.foldl (fun s e => s.put e.1 e.2) State.reset
/-- A small state in which CAN0's session holds the Service role. -/
def granted (l : List (Nat × Int)) : State :=
  let s := probe ((Obj.DEV_STATE, 2) :: l)
  { s with dict := { s.dict with sessions := s.dict.sessions.map fun e => { e with role := 3 } } }
/-- A challenge for the Service role, drawn at device time 5. -/
def ask : Challenge := { bytes := 77, role := 3, time := 5, used := false }
/-- A small state in CONFIG in which a session of a sender has drawn that challenge, under keys of ones. -/
def challenged (f : Sender) : State :=
  let s := probe [(Obj.DEV_STATE, 2)]
  { s with dict := { s.dict with
    keys := List.replicate 3 (List.replicate 32 1)
    sessions := s.dict.sessions.map fun e => if Sender.owns f e then { e with challenge := some ask } else e } }
/-- An image without records, with a degraded coefficient set for the period 0 of an unconfigured device. -/
def smallImage : DictImage :=
  { checkWord := 0, product := 0, layout := 0, slot := 0, verified := true, size := 0, records := [], degraded := some (0, true, 80)
    descriptors := [], ageing := none }
/-- A small state in BLOCKED that meets the conditions of RUN, with the Service role on CAN0. -/
def runnable : State :=
  let s := (granted []).put Obj.DEV_STATE 4
  { s with pins := { s.pins with armEn := some true }
           dict := { s.dict with image := some { smallImage with degraded := some (0, true, s.getN Obj.ORB_DEG_PERIOD) } } }
/-- A small state in LINKUP of a unit without valve pairs that meets the conditions of BLOCKED. -/
def linked : State := probe [(Obj.DEV_STATE, 3), (Obj.ORB_STATUS, 1), (Obj.TIM_STATUS, 1)]
/-- A Tide of a unit in CONFIG. -/
def idleTide : Tide :=
  { state := 2, role := 1, runFlags := 0, epoch := 0, trip := false, partnerLost := false, claiming := false, stretch := false
    ret := false, swap := false, resyncRequest := false, sideB := false, recordLost := false, hot := false, stateGen := 0, genAck := 0
    planApply := 0, swapAt := 0 }
/-- A small STANDBY state whose partner's latest Tide is given. -/
def tided (d : Tide) : State :=
  let s := probe [(Obj.DEV_ROLE, 2)]
  let h : Head :=
    { cycle := 0, launch := 0, length := 80, next := 80, tide := d, swing := SwingStream.reset, ride := Frt.reset.core, firmware := [] }
  { s with red := { s.red with head := some h }, pins := { s.pins with armEn := some true } }
/-- A small ACTIVE state in BLOCKED with a STANDBY partner, the sequencer running, and the Service role on CAN0. -/
def paired : State :=
  let s := tided { idleTide with role := 2 }
  let s1 := (((s.put Obj.DEV_ROLE 1).put Obj.DEV_STATE 4).put Obj.RED_CTRL 1).put Obj.ORB_STATUS 1
  { s1 with dict := { s1.dict with sessions := s1.dict.sessions.map fun e => { e with role := 3 } } }
/-- A store under way at an attempt, asked for without a transport. -/
def storeJob (attempt : Nat) : ImageStore := { bank := 1, attempt := attempt, image := smallImage, route := .plain }
/-- A small state in CONFIG with that store. -/
def storing (attempt : Nat) : State :=
  let s := granted []
  { s with dict := { s.dict with storing := some (storeJob attempt) } }
/-- An image that passes every check: bases, one node per arm, and channels 0 to 13 with the roles 1 to 14 on clock group 0. -/
def goodImage : DictImage :=
  let six := List.range 6
  let pairs := six.flatMap fun a => [(Obj.LNK_PAIR_ARM a, 1, (a : Int)), (Obj.LNK_PAIR_NODES a, 2, 1), (Obj.AGE_C_NOM a, 4, 50000)]
  let channels := (List.range 14).flatMap fun k =>
    [(Obj.MEA_CH_CTRL k, 4, (0x609 : Int)), (Obj.MEA_CIC_DEC k, 2, 8), (Obj.MEA_FIR_CFG k, 2, 0x101), (Obj.MEA_ROLE k, 1, (k : Int) + 1), (Obj.MEA_FS k, 4, 1000000)]
  { smallImage with
    checkWord := 9, product := 0x07680008, layout := 0x10000, slot := 2, size := 100
    records := [(Obj.SWG_S_BASE, 4, 1000000), (Obj.SWG_V_BASE, 4, 400000), (Obj.SWG_F0, 1, 50), (Obj.SWG_VDC_BASE, 4, 640000),
      (Obj.SWG_L_ARM, 4, 50000), (Obj.MEA_CLK_CTRL 0, 2, 0xCB)] ++ pairs ++ channels }
/-- Session 7 of ETH0, with one answer stored. -/
def sessionSeven : Session := { Session.fresh 2 7 1 with answers := [(3, .done)] }
/-- A small state in CONFIG with both Ethernet ports serving and that session open. -/
def tdsState : State :=
  let s := probe [(Obj.DEV_STATE, 2), (Obj.ETH_MODE 0, 1), (Obj.ETH_IP 0, 5), (Obj.ETH_MODE 1, 1), (Obj.ETH_IP 1, 6), (Obj.ETH_STATUS 0, 1),
    (Obj.CLK_PLL_STATUS 4, 1)]
  { s with dict := { s.dict with sessions := s.dict.sessions ++ [sessionSeven] } }
/-- The same with a transfer under way in it. -/
def moving (tr : Transfer) : State := tdsState.setTransfer ⟨2, 7⟩ (some tr)
/-- An upload of `total` bytes of which the first `sent` chunks are sent. -/
def upload (total sent : Nat) : Transfer :=
  { downloadOf 0x30000C 1 8 total 0 with upload := true, next := sent, data := List.replicate total 0 }
/-- The same with the Service role held in the session. -/
def keyed : State := tdsState.withSession ⟨2, 7⟩ fun e => { e with role := 3 }
/-- The same with eight sessions open. -/
def fullSessions : State :=
  { tdsState with dict := { tdsState.dict with sessions := (List.range 8).map fun i => Session.fresh 2 (i + 1) 1 } }
/-- A core that has closed its reference page for cycle 0. -/
def readyHart : Hart := { Hart.reset with page := List.replicate 16 7, pageDone := true, pageCycle := 0 }
/-- A small state in LINKUP with one node on ring pair 0. -/
def pairState : State :=
  probe [(Obj.DEV_STATE, 3), (Obj.LNK_PAIR_ARM 0, 0), (Obj.LNK_PAIR_NODES 0, 1), (Obj.LNK_PAIR_MODE 0, 1), (Obj.ORB_STATUS, 1)]
/-- The session of CAN0. -/
abbrev svc : Sender := ⟨0, 0⟩

/-! ## Ill-formed commands -/

/-- A command with a sender operand that the part does not have. -/
theorem test_wellFormed_sender : Instr.wellFormed (.stateReqConfig 0 ⟨6, 0⟩) = false := by decide +kernel
/-- A command with a carrier operand that the part does not have. -/
theorem test_wellFormed_carrier : Instr.wellFormed (.carrierReload 0 24) = false := by decide +kernel
/-- A command with a arm operand that the part does not have. -/
theorem test_wellFormed_arm : Instr.wellFormed (.boundEdgeToggle 0 6) = false := by decide +kernel
/-- A command with a measure operand that the part does not have. -/
theorem test_wellFormed_measure : Instr.wellFormed (.meaMainSample 0 32) = false := by decide +kernel
/-- A command with a group operand that the part does not have. -/
theorem test_wellFormed_group : Instr.wellFormed (.dchPhaseEnd 0 4) = false := by decide +kernel
/-- A command with a submodule operand that the part does not have. -/
theorem test_wellFormed_submodule : Instr.wellFormed (.rnkReinstate 0 ⟨0, 0⟩ 7680) = false := by decide +kernel
/-- A command with a pair operand that the part does not have. -/
theorem test_wellFormed_pair : Instr.wellFormed (.alignmentDone 0 24) = false := by decide +kernel
/-- A command with a lane operand that the part does not have. -/
theorem test_wellFormed_lane : Instr.wellFormed (.laneBlockLock 0 50) = false := by decide +kernel
/-- A command with a port operand that the part does not have. -/
theorem test_wellFormed_port : Instr.wellFormed (.ethLinkChange 0 2 true) = false := by decide +kernel
/-- A command with a hart operand that the part does not have. -/
theorem test_wellFormed_hart : Instr.wellFormed (.interruptClaim 0 10) = false := by decide +kernel
/-- A command with a engine operand that the part does not have. -/
theorem test_wellFormed_engine : Instr.wellFormed (.korWaitComplete 0 8) = false := by decide +kernel
/-- A command with a generator operand that the part does not have. -/
theorem test_wellFormed_generator : Instr.wellFormed (.pulseGeneratorEdge 0 16) = false := by decide +kernel
/-- A command with a source operand that the part does not have. -/
theorem test_wellFormed_source : Instr.wellFormed (.interruptSourceFire 0 512) = false := by decide +kernel
/-- A command with a byte operand that the part does not have. -/
theorem test_wellFormed_byte : Instr.wellFormed (.laneRateGoReceive 0 3 256) = false := by decide +kernel
/-- A command with a bytes operand that the part does not have. -/
theorem test_wellFormed_bytes : Instr.wellFormed (.agePlanSubmit 0 ⟨0, 0⟩ [300]) = false := by decide +kernel
/-- A command with a entry operand that the part does not have. -/
theorem test_wellFormed_entry : Instr.wellFormed (.registerWrite 0 ⟨0, 0⟩ 65536 1 [0]) = false := by decide +kernel
/-- A command with a shadow operand that the part does not have. -/
theorem test_wellFormed_shadow : Instr.wellFormed (.carShadowWrite 0 ⟨0, 0⟩ 3 5 0) = false := by decide +kernel

/-! ## Check values and worked examples of the manual -/

/-- The digits 1 to 9 in ASCII, over which Table 10.1 gives check values. -/
abbrev digits : List Nat := [49, 50, 51, 52, 53, 54, 55, 56, 57]

/-- Table 10.1. -/
theorem test_crc16 : crc16 digits = 0x29B1 := by decide +kernel

/-- Table 10.1. -/
theorem test_crc32c : crc32c digits = 0xE3069283 := by decide +kernel

/-- The upward half of submodule 388 in the worked example of chapter 10: bytes 6 to 13, ahead of its UCRC. -/
theorem test_upward_half : bytesOf (upHalf 1 112 7654900 25666 9 52 0 0xFFFFFF) 8 = [0x42, 0x64, 0x09, 0x00, 0x34, 0xFF, 0xFF, 0xFF] ∧
    upCheck 1 112 7654900 (upHalf 1 112 7654900 25666 9 52 0 0xFFFFFF) = true := by decide +kernel

/-- The downward half of submodule 388 there: bytes 0 to 3, ahead of its DCRC. -/
theorem test_downward_half : bytesOf (downHalf 1 112 7654901 0x0288F789) 4 = [0x89, 0xF7, 0x88, 0x02] := by decide +kernel

/-- Marrowby East: 276 nodes on each of the four ring pairs of arm 0. -/
def marrowby : State := probe ((List.range 4).map fun p => (Obj.LNK_PAIR_NODES p, 276))

/-- The place of submodule 388 there: ring pair 1 at position 112. -/
theorem test_place_of_388 : marrowby.globalOf 1 112 = 388 := by decide +kernel

/-- The cap of the worked example of chapter 5: 4 at 10 us and a rate of 400. -/
theorem test_switch_cap : ((probe [(Obj.RNK_SW_RATE, 400)]).swCap 40, (probe [(Obj.RNK_SW_RATE, 50)]).swCap 40) = (4, 1) := by
  decide +kernel

/-- The deadlines of a cycle of 10 us in ns (R32). -/
theorem test_deadlines : let s := (probe [(Obj.ORB_PERIOD_NOW, 40)]).deadlines
    (s.get Obj.ORB_T_REF, s.get Obj.ORB_T_UP, s.get Obj.ORB_T_FIN, s.get Obj.ORB_T_READY) = (6500, 7100, 9000, 9600) := by
  decide +kernel

/-- A time just before the shadow, and one just after it (R324). -/
theorem test_extended_time : (extendTime (2 ^ 33) (2 ^ 32 - 5), extendTime (2 ^ 33 - 5) 7) = (2 ^ 33 - 5, 2 ^ 33 + 7) := by decide +kernel

/-- A cycle number is later by less than half of its range only (R30). -/
theorem test_later : (orbLater 0 0xFFFFFFFF, orbLater 5 5, orbLater 0x80000005 5) = (true, false, false) := by decide +kernel

/-- SHA-256 of "abc" (FIPS 180-4). -/
theorem test_sha256 : (sha256 [97, 98, 99]).take 4 = [0xBA, 0x78, 0x16, 0xBF] := by decide +kernel

/-- What a next state shows. -/
def after (o : Host.Outcome State Fault Refusal) (f : State → Bool) : Bool :=
  match o with
  | .next s => f s
  | _ => false

/-- The identity entries are read-only: abort 0x0601_0002 (R3). -/
theorem test_identity_is_read_only :
    after (exec (.registerWrite 9 svc 0x1018 2 [8, 0, 0x68, 7]) (granted [])) (fun u => u.out.getLast? = some (Out.abort 0x06010002)) = true := by
  decide +kernel

/-- A soft trip in RUN takes the device to TRIP with cause 6 (R188, R189, Table 8.4). -/
theorem test_soft_trip :
    after (exec (.prtSoftTrip 9 svc) ((granted []).put Obj.DEV_STATE 5)) (fun u => u.devState = stTrip && u.get Obj.PRT_TRIP_FIRST = 6) = true := by
  decide +kernel

/-- A software interrupt of SC0 fires, and its claim returns it (R390, R395). -/
theorem test_software_interrupt :
    after (exec (.icuSwSet 9 ⟨24, 0⟩ 504) (probe [(Obj.DEV_STATE, 5), (Obj.ICU_SRC_CFG 15 24, 0x1000D)])) (fun u =>
      after (exec (.interruptClaim 10 8) u) (fun w => w.out = [Out.core 8 504])) = true := by
  decide +kernel

/-- A reset clears the roles and leaves the device in RESET until PORESET_N rises (Table 1.6). -/
theorem test_poreset : after (exec (.poresetNAssert 9 2000 false) (granted [])) (fun u => u.devState = stReset && u.roleOf svc = 0) = true := by
  decide +kernel

/-- Channel 0 of the worked example of chapter 7: sourced clock of 50 ns, CIC of order 4 and R = 8, median of 3 after it, 15 equal taps,
D = 2, 40 ns outside. -/
def channelZero : State :=
  probe ([(Obj.MEA_CLK_CTRL 0, 0xCB), (Obj.MEA_CH_CTRL 0, 0x29), (Obj.MEA_CIC_DEC 0, 8), (Obj.MEA_FIR_CFG 0, 0x10F),
    (Obj.MEA_EXT_DELAY 0, 40)] ++ (List.range 15).map fun j => (Obj.MEA_FIR_BANK 0 j, 4369))

/-- MEA_DELAY, MEA_FAST_DELAY, MEA_T_S, MEA_SETTLE and MEA_FIR_CENTROID there. -/
theorem test_channel_zero : let s := channelZero.meaDelays
    (s.get (Obj.MEA_DELAY 0), s.get (Obj.MEA_FAST_DELAY 0), s.get (Obj.MEA_T_S 0), s.get (Obj.MEA_SETTLE 0),
      s.get (Obj.MEA_FIR_CENTROID 0)) = (64000, 18720, 12800, 8860, 458752) := by
  decide +kernel

/-! ## What meets the hypotheses of the statements -/

/-- States and operands that meet the hypotheses of StateRequestsBegin, clause by clause. -/
theorem witness_StateRequestsBegin :
    (let s : State := (let s := granted []; s.put Obj.DEV_STATE 4)
    let f : Sender := svc
    (2 ≤ s.roleOf f) ∧ (s.devState = stLinkup ∨ s.devState = stBlocked)) ∧
    (let s : State := (let s := granted []; ({ s with dict := { s.dict with image := some { checkWord := 0, product := 0, layout := 0, slot := 0, verified := true, size := 0, records := [], degraded := none, descriptors := [], ageing := none } } } : State))
    let f : Sender := svc
    (2 ≤ s.roleOf f) ∧ (s.devState = stConfig) ∧ (s.dict.image.isSome = true)) ∧
    (let s : State := (let s := granted []; s.put Obj.DEV_STATE 5)
    let f : Sender := svc
    (1 ≤ s.roleOf f) ∧ (s.devState = stRun)) ∧
    (let s : State := runnable
    let f : Sender := svc
    (1 ≤ s.roleOf f) ∧ (s.devState = stBlocked) ∧ (s.pins.armEn = some true) ∧ (s.get Obj.PRT_TRIP_ACTIVE = 0) ∧ (s.degPresent = true) ∧ (s.owner = true)) ∧
    (let s : State := runnable
    let f : Sender := svc
    (1 ≤ s.roleOf f) ∧ (s.devState = stBlocked) ∧ (s.pins.armEn = some true) ∧ (s.get Obj.PRT_TRIP_ACTIVE = 0) ∧ (s.degPresent = true) ∧ (s.owner = true)) :=
  ⟨by decide +kernel,
   by decide +kernel,
   by decide +kernel,
   by decide +kernel,
   by decide +kernel⟩

/-- States and operands that meet the hypotheses of StateRequestsRefused, clause by clause. -/
theorem witness_StateRequestsRefused :
    (let s : State := granted []
    let f : Sender := svc
    (2 ≤ s.devState) ∧ (s.devState ≤ 6) ∧ (2 ≤ s.roleOf f) ∧ (s.devState ≠ stLinkup) ∧ (s.devState ≠ stBlocked)) ∧
    (let s : State := (granted []).put Obj.DEV_STATE 3
    let f : Sender := svc
    (2 ≤ s.devState) ∧ (s.devState ≤ 6) ∧ (2 ≤ s.roleOf f) ∧ (s.devState ≠ stConfig)) ∧
    (let s : State := granted []
    let f : Sender := svc
    (2 ≤ s.devState) ∧ (s.devState ≤ 6) ∧ (2 ≤ s.roleOf f) ∧ (s.devState = stConfig) ∧ (s.dict.image = none)) ∧
    (let s : State := granted []
    let f : Sender := svc
    (2 ≤ s.devState) ∧ (s.devState ≤ 6) ∧ (1 ≤ s.roleOf f) ∧ (s.devState ≠ stRun)) ∧
    (let s : State := granted []
    let f : Sender := svc
    (2 ≤ s.devState) ∧ (s.devState ≤ 6) ∧ (1 ≤ s.roleOf f) ∧ (s.devState ≠ stBlocked)) ∧
    (let s : State := (granted []).put Obj.DEV_STATE 4
    let f : Sender := svc
    (2 ≤ s.devState) ∧ (s.devState ≤ 6) ∧ (1 ≤ s.roleOf f) ∧ (s.devState = stBlocked) ∧ (s.pins.armEn ≠ some true)) ∧
    (let s : State := runnable.put Obj.PRT_TRIP_ACTIVE 64
    let f : Sender := svc
    (2 ≤ s.devState) ∧ (s.devState ≤ 6) ∧ (1 ≤ s.roleOf f) ∧ (s.devState = stBlocked) ∧ (s.pins.armEn = some true) ∧ (s.get Obj.PRT_TRIP_ACTIVE ≠ 0)) ∧
    (let s : State := (let s := (granted []).put Obj.DEV_STATE 4; ({ s with pins := { s.pins with armEn := some true } } : State))
    let f : Sender := svc
    (2 ≤ s.devState) ∧ (s.devState ≤ 6) ∧ (1 ≤ s.roleOf f) ∧ (s.devState = stBlocked) ∧ (s.pins.armEn = some true) ∧ (s.get Obj.PRT_TRIP_ACTIVE = 0) ∧ (s.degPresent = false)) ∧
    (let s : State := runnable.put Obj.DEV_ROLE 2
    let f : Sender := svc
    (2 ≤ s.devState) ∧ (s.devState ≤ 6) ∧ (1 ≤ s.roleOf f) ∧ (s.devState = stBlocked) ∧ (s.pins.armEn = some true) ∧ (s.get Obj.PRT_TRIP_ACTIVE = 0) ∧ (s.degPresent = true) ∧ (s.owner = false)) :=
  ⟨by decide +kernel,
   by decide +kernel,
   by decide +kernel,
   by decide +kernel,
   by decide +kernel,
   by decide +kernel,
   by decide +kernel,
   by decide +kernel,
   by decide +kernel⟩

/-- States and operands that meet the hypotheses of StatesFollowTheirConditions, clause by clause. -/
theorem witness_StatesFollowTheirConditions :
    (let s : State := linked
    let t : Nat := 9
    ((s.land t).linkupDone = true)) ∧
    (let s : State := State.reset
    let t : Nat := 9
    ((s.land t).linkupDone = false)) ∧
    (let s : State := (tided { idleTide with state := 5, runFlags := 1 }).put Obj.DEV_STATE 4
    let d : Tide := { idleTide with state := 5, runFlags := 1 }
    (s.tide = some d) ∧ (d.state = stRun) ∧ (s.devState = stBlocked) ∧ (s.owner = false) ∧ (s.pins.armEn = some true) ∧ (s.get Obj.PRT_TRIP_ACTIVE = 0)) ∧
    (let s : State := (tided { idleTide with state := 4 }).put Obj.DEV_STATE 5
    let d : Tide := { idleTide with state := 4 }
    (s.tide = some d) ∧ (d.state = stBlocked) ∧ (s.devState = stRun) ∧ (s.owner = false)) :=
  ⟨by decide +kernel,
   by decide +kernel,
   by decide +kernel,
   by decide +kernel⟩

/-- States and operands that meet the hypotheses of TripInputs, clause by clause. -/
theorem witness_TripInputs :
    (let s : State := (let s := runnable; ({ s with prt := { s.prt with events := [(6, 3)] } } : State))
    (s.pins.armEn = some true)) ∧
    (let s : State := probe [(Obj.DEV_STATE, 4)]
    (s.pins.armEn ≠ some true) ∧ (s.devState ≠ stTrip)) ∧
    (let s : State := probe [(Obj.DEV_STATE, 6), (Obj.PRT_TRIP_ACTIVE, 2), (Obj.PRT_TRIP_LATCHED, 2)]
    let t : Nat := 90000
    (s.pins.armEn ≠ some true) ∧ (s.devState = stTrip) ∧ (s.pins.armFell + 20000 ≤ (s.land t).now) ∧ (withBit (s.getN Obj.PRT_TRIP_ACTIVE) causeArmEn false = 0)) ∧
    (let s : State := probe [(Obj.DEV_STATE, 6), (Obj.PRT_TRIP_ACTIVE, 2), (Obj.PRT_TRIP_LATCHED, 2)]
    let t : Nat := 19999
    (s.pins.armEn ≠ some true) ∧ (s.devState = stTrip) ∧ ((s.land t).now < s.pins.armFell + 20000 ∨ withBit (s.getN Obj.PRT_TRIP_ACTIVE) causeArmEn false ≠ 0)) ∧
    (let s : State := (granted []).put Obj.DEV_STATE 4
    let t : Nat := 9
    let f : Sender := svc
    (s.takesWrite t f Obj.PRT_SOFT_TRIP 1 = true)) ∧
    (let line : Nat := 7
    (line < 32)) ∧
    (let bank : Nat := 1
    (bank < 2)) :=
  ⟨by decide +kernel,
   by decide +kernel,
   by decide +kernel,
   by decide +kernel,
   by decide +kernel,
   by decide +kernel,
   by decide +kernel⟩

/-- States and operands that meet the hypotheses of WritesAreJudgedAndCommitted, clause by clause. -/
theorem witness_WritesAreJudgedAndCommitted :
    (let s : State := probe [(Obj.DEV_STATE, 2)]
    let t : Nat := 7
    let f : Sender := svc
    let index : Nat := 0x1018
    let sub : Nat := 1
    let data : List Nat := [0, 0, 0, 0]
    let r : Refused := ⟨0x06010002, 2⟩
    ((s.land t).dictServed = true) ∧ (((s.land t).heard f).judgeWrite f .plain index sub data.length data none = some r) ∧ (r.reason ≠ 8)) ∧
    (let s : State := State.reset
    let t : Nat := 7
    ((s.land t).dictServed = false)) ∧
    (let s : State := granted []
    let t : Nat := 7
    let f : Sender := svc
    let index : Nat := 0x1017
    let sub : Nat := 0
    let data : List Nat := [100, 0]
    let acc : Access := .rw
    let ty : ObjType := .u16
    let mask : Nat := 0
    let mir : Bool := false
    ((Obj.find? index sub).map (fun r => (r.access, r.type, r.mask, r.mirrored)) = some (acc, ty, mask, mir)) ∧ (acc ≠ .wo) ∧ (index ∉ actingIndices) ∧ (tunableKey (256 * index + sub) = false) ∧ ((s.land t).dictServed = true) ∧ (((s.land t).heard f).judgeWrite f .plain index sub data.length data none = none) ∧ ((mir && s.partnered && decide (3 ≤ s.devState) && s.devRole = roleActive && s.partnerRole = some roleStandby && s.orbRunning) = false)) ∧
    (let s : State := paired
    let t : Nat := 7
    let f : Sender := svc
    let index : Nat := 0x2100
    let sub : Nat := 8
    let data : List Nat := [100, 0]
    let acc : Access := .rw
    let ty : ObjType := .u16
    let mask : Nat := 0
    let mir : Bool := true
    let b : Nat := 3
    ((Obj.find? index sub).map (fun r => (r.access, r.type, r.mask, r.mirrored)) = some (acc, ty, mask, mir)) ∧ (acc ≠ .wo) ∧ ((s.land t).dictServed = true) ∧ (((s.land t).heard f).judgeWrite f .plain index sub data.length data none = none) ∧ (mir = true) ∧ (s.partnered = true) ∧ (3 ≤ s.devState) ∧ (s.devRole = roleActive) ∧ (s.partnerRole = some roleStandby) ∧ (s.orbRunning = true) ∧ (b = (s.land t).boundaryAhead)) :=
  ⟨by decide +kernel,
   by decide +kernel,
   by decide +kernel,
   by decide +kernel⟩

/-- States and operands that meet the hypotheses of SessionsGainAndLoseRoles, clause by clause. -/
theorem witness_SessionsGainAndLoseRoles :
    (let s : State := probe [(Obj.DEV_STATE, 2)]
    let t : Nat := 7
    let f : Sender := svc
    let role : Nat := 2
    ((s.land t).dictServed = true) ∧ ((s.session f).isSome = true) ∧ (s.lockedOut f.channel = false) ∧ (1 ≤ role) ∧ (role ≤ 3)) ∧
    (let s : State := challenged svc
    let t : Nat := 9
    let f : Sender := svc
    let ch : Challenge := ask
    ((s.land t).dictServed = true) ∧ ((s.session f).bind (·.challenge) = some ch) ∧ (ch.used = false) ∧ ((s.land t).now ≤ ch.time + 30000000000) ∧ (s.keyZero ch.role = false)) ∧
    (let s : State := (let s := probe [(Obj.DEV_STATE, 2)]; ({ s with dict := { s.dict with failures := [(0, 1), (0, 2), (0, 3), (0, 4), (1, 4)] } } : State))
    let t : Nat := 9
    let f : Sender := svc
    let data : List Nat := List.replicate 32 1
    ((s.land t).dictServed = true) ∧ (data.length = 32) ∧ ((s.session f).isSome = true) ∧ ((s.land t).authOk f data = false)) ∧
    (let s : State := granted []
    let t : Nat := 9
    ((s.land t).dictServed = true)) ∧
    (let s : State := granted []
    let t : Nat := 900000000000
    let f : Sender := svc
    let e : Session := { Session.reset 0 with role := 3 }
    (s.session f = some e) ∧ (e.lastRequest + 1000000000 * s.getN Obj.DEV_AUTH_IDLE ≤ (s.land t).now)) ∧
    (let s : State := (let s := probe [(Obj.DEV_STATE, 2)]; ({ s with dict := { s.dict with failures := [(0, 1)], locked := [0] } } : State))
    let t : Nat := 60000000001
    let f : Sender := svc
    ((s.land t).lockoutOver f.channel = true)) ∧
    (let s : State := granted []
    let f : Sender := svc
    let role : Nat := 3
    let data : List Nat := List.replicate 32 5
    (s.devState = stConfig) ∧ (s.roleOf f = 3) ∧ (1 ≤ role) ∧ (role ≤ 3) ∧ (data.length = 32) ∧ (s.dict.keys.length = 3) ∧ (s.flash.keys.length = 3)) :=
  ⟨by decide +kernel,
   by decide +kernel,
   by decide +kernel,
   by decide +kernel,
   by decide +kernel,
   by decide +kernel,
   by decide +kernel⟩

/-- States and operands that meet the hypotheses of ImagesLoadAndStore, clause by clause. -/
theorem witness_ImagesLoadAndStore :
    (let s : State := granted []
    let t : Nat := 9
    let f : Sender := svc
    let img : DictImage := goodImage
    ((s.land t).dictServed = true) ∧ (((s.land t).heard f).judgeWrite f .plain (Obj.DEV_IMAGE / 256) (Obj.DEV_IMAGE % 256) img.size [] (some img) = none)) ∧
    (let s : State := granted []
    let t : Nat := 9
    let f : Sender := svc
    let img : DictImage := smallImage
    let key : Nat := (((((granted []).land 9).heard svc).imageCheck smallImage).2.getD (0, ⟨0, 0⟩)).1
    let r : Refused := (((((granted []).land 9).heard svc).imageCheck smallImage).2.getD (0, ⟨0, 0⟩)).2
    ((s.land t).dictServed = true) ∧ (((s.land t).heard f).judgeWrite f .plain (Obj.DEV_IMAGE / 256) (Obj.DEV_IMAGE % 256) img.size [] (some img) = some ⟨r.abort, 8⟩) ∧ (s.dict.storing = none) ∧ ((((s.land t).heard f).imageCheck img).2 = some (key, r))) ∧
    (let s : State := granted []
    let t : Nat := 9
    let f : Sender := svc
    (s.takesWrite t f Obj.DEV_IMAGE_STORE 1 = true)) ∧
    (let s : State := storing 1
    let j : ImageStore := storeJob 1
    (s.dict.storing = some j) ∧ (j.route = .plain) ∧ (j.bank < s.flash.banks.length)) ∧
    (let s : State := storing 1
    let j : ImageStore := storeJob 1
    (s.dict.storing = some j) ∧ (j.attempt = 1)) ∧
    (let s : State := storing 2
    let j : ImageStore := storeJob 2
    (s.dict.storing = some j) ∧ (j.attempt = 2) ∧ (j.route = .plain) ∧ (j.bank < s.flash.banks.length)) :=
  ⟨by decide +kernel,
   by decide +kernel,
   by decide +kernel,
   by decide +kernel,
   by decide +kernel,
   by decide +kernel⟩

/-- States and operands that meet the hypotheses of UsdoServices, clause by clause. -/
theorem witness_UsdoServices :
    (let s : State := probe [(Obj.DEV_STATE, 2), (Obj.CAN_ENABLE 0, 1), (Obj.CLK_PLL_STATUS 4, 1)]
    let t : Nat := 7
    let port : Nat := 0
    let index : Nat := 0x1018
    let sub : Nat := 1
    let data : List Nat := [0, 0, 0, 0]
    let r : Refused := ⟨0x06010002, 2⟩
    (s.canOpen port = true) ∧ (s.transferOf (canSender port) = none) ∧ (((s.land t).heard (canSender port)).judgeWrite (canSender port) (.usdo port) index sub data.length data none = some r) ∧ (r.reason ≠ 8)) ∧
    (let s : State := probe [(Obj.DEV_STATE, 2), (Obj.CAN_ENABLE 0, 1), (Obj.CLK_PLL_STATUS 4, 1)]
    let port : Nat := 0
    let role : Nat := 2
    (s.canOpen port = true) ∧ (s.transferOf (canSender port) = none) ∧ (1 ≤ role) ∧ (role ≤ 3) ∧ (s.lockedOut port = false) ∧ ((s.session (canSender port)).isSome = true)) ∧
    (let s : State := (let s := probe [(Obj.DEV_STATE, 2), (Obj.CAN_ENABLE 0, 1), (Obj.CLK_PLL_STATUS 4, 1)]; s.setTransfer svc (some (downloadOf 0x201101 0 0 32 0)))
    let port : Nat := 0
    let tr : Transfer := downloadOf 0x201101 0 0 32 0
    (s.canOpen port = true) ∧ (s.transferOf (canSender port) = some tr)) ∧
    (let s : State := (let s := probe [(Obj.DEV_STATE, 2), (Obj.CAN_ENABLE 0, 1), (Obj.CLK_PLL_STATUS 4, 1)]; ({ s with dict := { s.dict with sessions := s.dict.sessions.map fun e => { e with role := 3 } } } : State))
    let t : Nat := 7
    let port : Nat := 0
    let index : Nat := 0x2011
    let sub : Nat := 1
    let length : Nat := 32
    (s.canOpen port = true) ∧ (s.transferOf (canSender port) = none) ∧ ((s.session (canSender port)).isSome = true) ∧ (((s.land t).heard (canSender port)).judgeDownload (canSender port) (.usdo port) index sub length = none)) ∧
    (let s : State := (let s := probe [(Obj.DEV_STATE, 2), (Obj.CAN_ENABLE 0, 1), (Obj.CLK_PLL_STATUS 4, 1)]; s.setTransfer svc (some (downloadOf 0x201101 0 0 32 0)))
    let port : Nat := 0
    let data : List Nat := [1, 2]
    let tr : Transfer := downloadOf 0x201101 0 0 32 0
    (s.canOpen port = true) ∧ (s.transferOf (canSender port) = some tr) ∧ (tr.upload = false) ∧ ((tr.data ++ data).length ≤ tr.total)) ∧
    (let s : State := (let s := probe [(Obj.DEV_STATE, 2), (Obj.CAN_ENABLE 0, 1), (Obj.CLK_PLL_STATUS 4, 1)]; s.setTransfer svc (some (downloadOf 0x201101 0 0 32 0)))
    let port : Nat := 0
    let data : List Nat := [1, 2]
    let tr : Transfer := downloadOf 0x201101 0 0 32 0
    (s.canOpen port = true) ∧ (s.transferOf (canSender port) = some tr) ∧ (tr.upload = false) ∧ ((tr.data ++ data).length ≠ tr.total)) ∧
    (let s : State := probe [(Obj.DEV_STATE, 2), (Obj.CAN_ENABLE 0, 1), (Obj.CLK_PLL_STATUS 4, 1)]
    let t : Nat := 7
    let port : Nat := 0
    let index : Nat := 0x2001
    let sub : Nat := 1
    let data : List Nat := [2]
    (s.canOpen port = true) ∧ (s.transferOf (canSender port) = none) ∧ ((((s.land t).heard (canSender port)).judgeRead (canSender port) index sub 65536).toOption = some data) ∧ (data.length ≤ 8)) ∧
    (let s : State := probe [(Obj.DEV_STATE, 2), (Obj.CAN_ENABLE 0, 1), (Obj.CLK_PLL_STATUS 4, 1)]
    let t : Nat := 7
    let port : Nat := 0
    let index : Nat := 0x2001
    let sub : Nat := 1
    let data : List Nat := [2]
    (s.canOpen port = true) ∧ (s.transferOf (canSender port) = none) ∧ ((s.session (canSender port)).isSome = true) ∧ ((((s.land t).heard (canSender port)).judgeRead (canSender port) index sub 65536).toOption = some data)) ∧
    (let s : State := (let s := probe [(Obj.DEV_STATE, 2), (Obj.CAN_ENABLE 0, 1), (Obj.CLK_PLL_STATUS 4, 1)]; s.setTransfer svc (some { downloadOf 0x201101 0 0 32 0 with upload := true, data := [1, 2, 3] }))
    let port : Nat := 0
    let tr : Transfer := { downloadOf 0x201101 0 0 32 0 with upload := true, data := [1, 2, 3] }
    (s.canOpen port = true) ∧ (s.transferOf (canSender port) = some tr) ∧ (tr.upload = true)) ∧
    (let s : State := (let s := probe [(Obj.DEV_STATE, 2), (Obj.CAN_ENABLE 0, 1), (Obj.CLK_PLL_STATUS 4, 1)]; s.setTransfer svc (some (downloadOf 0x201101 0 0 32 0)))
    let port : Nat := 0
    (s.canOpen port = true)) ∧
    (let s : State := (let s := probe [(Obj.DEV_STATE, 2), (Obj.CAN_ENABLE 0, 1), (Obj.CLK_PLL_STATUS 4, 1)]; s.setTransfer svc (some (downloadOf 0x201101 0 0 32 0)))
    let t : Nat := 1000000000
    let port : Nat := 0
    let tr : Transfer := downloadOf 0x201101 0 0 32 0
    (s.canOpen port = true) ∧ (s.transferOf (canSender port) = some tr) ∧ ((s.land t).usdoSilent port = true) ∧ (port < 2)) :=
  ⟨by decide +kernel,
   by decide +kernel,
   by decide +kernel,
   by decide +kernel,
   by decide +kernel,
   by decide +kernel,
   by decide +kernel,
   by decide +kernel,
   by decide +kernel,
   by decide +kernel,
   by decide +kernel⟩

/-- States and operands that meet the hypotheses of CanPorts, clause by clause. -/
theorem witness_CanPorts :
    (let s : State := probe [(Obj.DEV_STATE, 2), (Obj.CAN_ENABLE 0, 1), (Obj.CLK_PLL_STATUS 4, 1)]
    let port : Nat := 0
    (port < 2) ∧ (s.canOpen port = true)) ∧
    (let s : State := probe [(Obj.DEV_STATE, 2), (Obj.CAN_ENABLE 0, 1), (Obj.CLK_PLL_STATUS 4, 1)]
    let port : Nat := 0
    (port < 2) ∧ (s.canOpen port = true) ∧ (s.get Obj.HEARTBEAT_TIME ≠ 0)) ∧
    (let s : State := probe [(Obj.DEV_STATE, 2), (Obj.CAN_ENABLE 0, 1), (Obj.CLK_PLL_STATUS 4, 1)]
    let t : Nat := 7
    let port : Nat := 0
    (port < 2) ∧ (2 ≤ s.devState) ∧ (s.devState ≤ 6) ∧ (s.bit (Obj.CAN_STATUS port) 3 = false) ∧ (s.dict.busOff[port]?.isSome = true) ∧ ((s.dict.busOff.getD port none).any (fun b => decide ((s.land t).now < b + 10000000000)) = false)) ∧
    (let s : State := (let s := probe [(Obj.DEV_STATE, 2), (Obj.CAN_ENABLE 0, 1), (Obj.CLK_PLL_STATUS 4, 1)]; ({ s with dict := { s.dict with busOff := [some 5, none] } } : State))
    let t : Nat := 7
    let port : Nat := 0
    let b : Nat := 5
    (port < 2) ∧ (2 ≤ s.devState) ∧ (s.devState ≤ 6) ∧ (s.bit (Obj.CAN_STATUS port) 3 = false) ∧ (s.dict.busOff[port]? = some (some b)) ∧ ((s.land t).now < b + 10000000000)) ∧
    (let s : State := (let s := probe [(Obj.DEV_STATE, 2), (Obj.CAN_ENABLE 0, 1), (Obj.CLK_PLL_STATUS 4, 1)]; ({ s with dict := { s.dict with busOff := [some 5, none] } } : State))
    let t : Nat := 10000000005
    let port : Nat := 0
    let b : Nat := 5
    (port < 2) ∧ (s.dict.busOff[port]? = some (some b)) ∧ (b + 10000000000 ≤ (s.land t).now)) :=
  ⟨by decide +kernel,
   by decide +kernel,
   by decide +kernel,
   by decide +kernel,
   by decide +kernel⟩

/-- States and operands that meet the hypotheses of TdsSessions, clause by clause. -/
theorem witness_TdsSessions :
    (let s : State := tdsState
    let channel : Nat := 3
    (s.tdsOpen channel = true) ∧ ((s.dict.sessions.filter fun e => e.channel = 2 || e.channel = 3).length < 8)) ∧
    (let s : State := fullSessions
    let channel : Nat := 3
    (s.tdsOpen channel = true) ∧ (8 ≤ (s.dict.sessions.filter fun e => e.channel = 2 || e.channel = 3).length)) ∧
    (let s : State := tdsState
    let t : Nat := 9
    let f : Sender := ⟨2, 7⟩
    let seq : Nat := 4
    (s.tdsTakes t f seq = true)) ∧
    (let s : State := tdsState
    let f : Sender := ⟨2, 7⟩
    let seq : Nat := 3
    let q : Nat := 3
    let e : Session := sessionSeven
    let o : Out := .done
    (s.tdsOpen f.channel = true) ∧ (s.session f = some e) ∧ ((e.answers.find? fun a => a.1 = seq) = some (q, o))) ∧
    (let s : State := tdsState
    let t : Nat := 9
    let f : Sender := ⟨2, 7⟩
    let seq : Nat := 4
    (s.tdsTakes t f seq = true)) ∧
    (let s : State := tdsState
    let t : Nat := 3600000000000
    let f : Sender := ⟨2, 7⟩
    let e : Session := sessionSeven
    (f.channel = 2 ∨ f.channel = 3) ∧ (s.session f = some e) ∧ (e.lastDatagram + 1000000000 * s.getN Obj.TDS_IDLE ≤ (s.land t).now)) ∧
    (let s : State := tdsState
    let channel : Nat := 2
    (s.tdsOpen channel = true)) ∧
    (let s : State := tdsState
    let port : Nat := 1
    (port < 2) ∧ (s.dictServed = true) ∧ (s.bit (Obj.ETH_STATUS port) 0 = false)) ∧
    (let s : State := tdsState
    let port : Nat := 0
    (port < 2) ∧ (s.dictServed = true) ∧ (s.bit (Obj.ETH_STATUS port) 0 = true)) ∧
    (let s : State := tdsState
    let port : Nat := 0
    let target : Nat := 5
    (port < 2) ∧ (s.ethOpen port = true) ∧ (s.getN (Obj.ETH_IP port) = target)) ∧
    (let s : State := tdsState
    let port : Nat := 0
    let target : Nat := 5
    (port < 2) ∧ (s.ethOpen port = true) ∧ (s.getN (Obj.ETH_IP port) = target)) :=
  ⟨by decide +kernel,
   by decide +kernel,
   by decide +kernel,
   by decide +kernel,
   by decide +kernel,
   by decide +kernel,
   by decide +kernel,
   by decide +kernel,
   by decide +kernel,
   by decide +kernel,
   by decide +kernel⟩

/-- States and operands that meet the hypotheses of TdsRequests, clause by clause. -/
theorem witness_TdsRequests :
    (let s : State := tdsState
    let t : Nat := 9
    let f : Sender := ⟨2, 7⟩
    let seq : Nat := 4
    let index : Nat := 0x2001
    let sub : Nat := 1
    let data : List Nat := [2]
    (s.tdsTakes t f seq = true) ∧ (((((s.tdsHeard t f)).heard f).judgeRead f index sub 1408).toOption = some data)) ∧
    (let s : State := tdsState
    let t : Nat := 9
    let f : Sender := ⟨2, 7⟩
    let seq : Nat := 4
    let index : Nat := 0x1FFF
    (s.tdsTakes t f seq = true) ∧ (Obj.indexExists index = false)) ∧
    (let s : State := tdsState
    let t : Nat := 9
    let f : Sender := ⟨2, 7⟩
    let seq : Nat := 4
    let role : Nat := 2
    (s.tdsTakes t f seq = true) ∧ (1 ≤ role) ∧ (role ≤ 3) ∧ (s.lockedOut f.channel = false)) ∧
    (let s : State := tdsState
    let t : Nat := 9
    let f : Sender := ⟨2, 7⟩
    let seq : Nat := 4
    let index : Nat := 0x2001
    let sub : Nat := 1
    (s.tdsTakes t f seq = true) ∧ ((Obj.find? index sub).map (·.access) = some .ro)) ∧
    (let s : State := tdsState
    let t : Nat := 9
    let f : Sender := ⟨2, 7⟩
    let seq : Nat := 4
    let index : Nat := 0x2001
    let data : List Nat := (tdsState.tdsHeard 9 ⟨2, 7⟩).indexData ⟨2, 7⟩ 0x2001 |>.flatMap fun e => [e.1] ++ bytesOf e.2.length 2 ++ e.2
    (s.tdsTakes t f seq = true) ∧ (Obj.indexExists index = true) ∧ (data = ((((s.tdsHeard t f)).indexData f index).flatMap fun e => [e.1] ++ bytesOf e.2.length 2 ++ e.2)) ∧ (data.length ≤ 1408)) ∧
    (let s : State := tdsState
    let t : Nat := 9
    let f : Sender := ⟨2, 7⟩
    let seq : Nat := 4
    let index : Nat := 0x1FFF
    (s.tdsTakes t f seq = true) ∧ (Obj.indexExists index = false)) ∧
    (let s : State := tdsState
    let t : Nat := 9
    let f : Sender := ⟨2, 7⟩
    let seq : Nat := 4
    let index : Nat := 0x2001
    let sub : Nat := 200
    (s.tdsTakes t f seq = true) ∧ (Obj.indexExists index = true) ∧ ((Obj.find? index sub).isNone = true)) ∧
    (let s : State := tdsState
    let t : Nat := 9
    let f : Sender := ⟨2, 7⟩
    let seq : Nat := 4
    let index : Nat := 0x2100
    let sub : Nat := 1
    let role : Nat := 2
    let st : Nat := 4
    let ty : ObjType := .u16
    (s.tdsTakes t f seq = true) ∧ ((Obj.find? index sub).map (fun r => (r.type, r.role, r.states)) = some (ty, role, st))) :=
  ⟨by decide +kernel,
   by decide +kernel,
   by decide +kernel,
   by decide +kernel,
   by decide +kernel,
   by decide +kernel,
   by decide +kernel,
   by decide +kernel⟩

/-- States and operands that meet the hypotheses of TdsBulkTransfers, clause by clause. -/
theorem witness_TdsBulkTransfers :
    (let s : State := tdsState
    let t : Nat := 9
    let f : Sender := ⟨2, 7⟩
    let seq : Nat := 4
    let index : Nat := 0x2001
    let sub : Nat := 1
    let first : Nat := 0
    let window : Nat := 8
    let data : List Nat := [2]
    (s.tdsTakes t f seq = true) ∧ (((s.tdsHeard t f).judgeRead f index sub (2 ^ 64)).toOption = some data) ∧ (s.transferOf f = none) ∧ (s.bulkOpen < 4) ∧ (1 ≤ window) ∧ (window ≤ 64) ∧ (data ≠ []) ∧ (first = 0)) ∧
    (let s : State := moving (upload 3000 2)
    let t : Nat := 9
    let f : Sender := ⟨2, 7⟩
    let seq : Nat := 4
    let next : Nat := 1
    let tr : Transfer := upload 3000 2
    (s.tdsTakes t f seq = true) ∧ (s.transferOf f = some tr) ∧ (tr.upload = true) ∧ (tr.resent = false) ∧ (tr.acked < next) ∧ (next ≤ tr.next) ∧ (next < chunksOf tr.total)) ∧
    (let s : State := moving (upload 2000 2)
    let t : Nat := 9
    let f : Sender := ⟨2, 7⟩
    let seq : Nat := 4
    let next : Nat := 2
    let tr : Transfer := upload 2000 2
    (s.tdsTakes t f seq = true) ∧ (s.transferOf f = some tr) ∧ (tr.upload = true) ∧ (tr.resent = false) ∧ (tr.acked < next) ∧ (next ≤ tr.next) ∧ (chunksOf tr.total ≤ next)) ∧
    (let s : State := moving (upload 3000 2)
    let f : Sender := ⟨2, 7⟩
    let tr : Transfer := upload 3000 2
    (f.channel = 2 ∨ f.channel = 3) ∧ (s.transferOf f = some tr) ∧ (tr.upload = true) ∧ (tr.acked < tr.next) ∧ (tr.resentTo ≤ tr.acked)) ∧
    (let s : State := moving { upload 3000 2 with resentTo := 2 }
    let f : Sender := ⟨2, 7⟩
    let tr : Transfer := { upload 3000 2 with resentTo := 2 }
    (f.channel = 2 ∨ f.channel = 3) ∧ (s.transferOf f = some tr) ∧ (tr.upload = true) ∧ (tr.acked < tr.next) ∧ (tr.acked < tr.resentTo)) ∧
    (let s : State := keyed
    let t : Nat := 9
    let f : Sender := ⟨2, 7⟩
    let seq : Nat := 4
    let index : Nat := 0x2011
    let sub : Nat := 1
    let length : Nat := 32
    let window : Nat := 8
    (s.tdsTakes t f seq = true) ∧ ((s.tdsHeard t f).judgeDownload f (.tds f.channel f.session seq 0x23) index sub length = none) ∧ (s.transferOf f = none) ∧ (s.bulkOpen < 4) ∧ (1 ≤ window) ∧ (window ≤ 64)) ∧
    (let s : State := moving (downloadOf 0x201101 1 8 32 5)
    let t : Nat := 9
    let f : Sender := ⟨2, 7⟩
    let seq : Nat := 4
    let tr : Transfer := downloadOf 0x201101 1 8 32 5
    (s.tdsTakes t f seq = true) ∧ (s.transferOf f = some tr) ∧ (tr.upload = false)) ∧
    (let s : State := moving (downloadOf 0x201101 1 8 32 5)
    let t : Nat := 9
    let f : Sender := ⟨2, 7⟩
    let seq : Nat := 4
    let tr : Transfer := downloadOf 0x201101 1 8 32 5
    (s.tdsTakes t f seq = true) ∧ (s.transferOf f = some tr) ∧ (tr.upload = false) ∧ (tr.data.length ≠ tr.total ∨ crc32c tr.data ≠ tr.crc)) ∧
    (let s : State := moving { downloadOf 0x201001 1 8 1 (crc32c [2]) with data := [2] }
    let t : Nat := 9
    let f : Sender := ⟨2, 7⟩
    let seq : Nat := 4
    let q : Nat := 1
    let role : Nat := 2
    (s.tdsTakes t f seq = true) ∧ (s.transferOf f = some { downloadOf 0x201001 q 8 1 (crc32c [role]) with data := [role] }) ∧ (1 ≤ role) ∧ (role ≤ 3) ∧ (s.lockedOut f.channel = false)) ∧
    (let s : State := moving (downloadOf 0x201101 1 8 32 5)
    let t : Nat := 9
    let f : Sender := ⟨2, 7⟩
    let seq : Nat := 4
    (s.tdsTakes t f seq = true)) :=
  ⟨by decide +kernel,
   by decide +kernel,
   by decide +kernel,
   by decide +kernel,
   by decide +kernel,
   by decide +kernel,
   by decide +kernel,
   by decide +kernel,
   by decide +kernel,
   by decide +kernel⟩

/-- States and operands that meet the hypotheses of ResetsClearTheDevice, clause by clause. -/
theorem witness_ResetsClearTheDevice :
    (let low : Nat := 1000
    (1000 ≤ low)) ∧
    (let low : Nat := 999
    (low < 1000)) ∧
    (let s : State := probe [(Obj.CAR_PERIOD 1, 5)]
    let sel : Nat := 3
    (s.boot.poreset = true) ∧ (sel < 4)) ∧
    (let s : State := (let s := probe [(Obj.DEV_STATE, 1)]; ({ s with boot := { s.boot with poreset := false, stage := 1, watchdog := true } } : State))
    let t : Nat := 2000000000
    (s.boot.watchdog = true) ∧ (s.devState ≠ stLunar) ∧ (s.boot.poreset = false) ∧ (s.boot.jtagHold = false) ∧ ((s.devState = stBoot → s.boot.released + 2000000000 ≤ (s.land t).now))) ∧
    (let s : State := probe [(Obj.DEV_STATE, 5)]
    (s.devState ≠ stReset) ∧ (s.devState ≠ stLunar)) ∧
    (let s : State := (let s := probe [(Obj.DEV_STATE, 1)]; ({ s with boot := { s.boot with poreset := false, stage := 1, watchdog := true } } : State))
    (s.boot.poreset = false)) ∧
    (let s : State := (let s := State.reset; ({ s with boot := { s.boot with poreset := false, jtagHold := true } } : State))
    (s.boot.jtagHold = true)) :=
  ⟨by decide +kernel,
   by decide +kernel,
   by decide +kernel,
   by decide +kernel,
   by decide +kernel,
   by decide +kernel,
   by decide +kernel⟩

/-- States and operands that meet the hypotheses of FirmwareBanksAndConfig, clause by clause. -/
theorem witness_FirmwareBanksAndConfig :
    (let s : State := (let s := probe [(Obj.DEV_STATE, 1)]; ({ s with boot := { s.boot with poreset := false, stage := 1, watchdog := true } } : State))
    let f : FirmwareImage := { magic := true, products := 3, keySlot := 0, keyHash := true, signature := true, svn := 2, floor := 1, revoke := 2, version := [], partHash := true, partRead := true, laterHash := true, laterRead := true, engines := [] }
    (s.devState = stBoot) ∧ (s.boot.held = false) ∧ (s.boot.verified = none) ∧ (s.boot.stage = 1) ∧ (f.magic = true) ∧ (bitOf f.products (if Config.isP8 then 1 else 0) = true) ∧ (f.keySlot < 2) ∧ (bitOf s.otp.programmed f.keySlot = true) ∧ (bitOf s.otp.revoked f.keySlot = false) ∧ (f.keyHash = true) ∧ (f.signature = true) ∧ (s.otp.antiRollback ≤ f.svn) ∧ (f.floor ≤ f.svn) ∧ (f.partHash = true) ∧ (f.partRead = true) ∧ (s.aon.watchdogBoots.getD s.boot.bank 0 < 2)) ∧
    (let s : State := (let s := probe [(Obj.DEV_STATE, 1)]; ({ s with boot := { s.boot with poreset := false, stage := 2, watchdog := true } } : State))
    let f : FirmwareImage := { magic := true, products := 3, keySlot := 0, keyHash := true, signature := true, svn := 2, floor := 1, revoke := 2, version := [], partHash := true, partRead := true, laterHash := true, laterRead := true, engines := [] }
    (s.devState = stBoot) ∧ (s.boot.held = false) ∧ (s.boot.verified = none) ∧ (s.boot.stage = 2) ∧ (f.laterRead = true) ∧ (f.laterHash = true)) ∧
    (let s : State := (let s := probe [(Obj.DEV_STATE, 1)]; ({ s with boot := { s.boot with poreset := false, stage := 2, watchdog := true } } : State))
    let f : FirmwareImage := { magic := true, products := 3, keySlot := 0, keyHash := true, signature := true, svn := 2, floor := 1, revoke := 2, version := [], partHash := true, partRead := true, laterHash := true, laterRead := false, engines := [] }
    (s.devState = stBoot) ∧ (s.boot.held = false) ∧ (s.boot.verified = none) ∧ (s.boot.attempt = 1) ∧ (s.boot.stage = 2) ∧ (f.laterRead = false ∨ f.laterHash = false)) ∧
    (let s : State := (let s := probe [(Obj.DEV_STATE, 1)]; ({ s with boot := { s.boot with poreset := false, stage := 2, watchdog := true, attempt := 2 } } : State))
    let f : FirmwareImage := { magic := true, products := 3, keySlot := 0, keyHash := true, signature := true, svn := 2, floor := 1, revoke := 2, version := [], partHash := true, partRead := true, laterHash := true, laterRead := false, engines := [] }
    (s.devState = stBoot) ∧ (s.boot.held = false) ∧ (s.boot.verified = none) ∧ (s.boot.attempt = 2) ∧ (s.boot.stage = 2) ∧ (f.laterRead = false ∨ f.laterHash = false) ∧ (s.boot.otherFailed = false)) ∧
    (let s : State := (let s := probe [(Obj.DEV_STATE, 1)]; ({ s with boot := { s.boot with poreset := false, stage := 1, watchdog := true, attempt := 2, otherFailed := true } } : State))
    let f : FirmwareImage := { magic := false, products := 3, keySlot := 0, keyHash := true, signature := true, svn := 2, floor := 1, revoke := 2, version := [], partHash := true, partRead := true, laterHash := true, laterRead := true, engines := [] }
    (s.devState = stBoot) ∧ (s.boot.held = false) ∧ (s.boot.verified = none) ∧ (s.boot.stage = 1) ∧ (s.boot.attempt = 2) ∧ (f.magic = false) ∧ (s.boot.otherFailed = true)) ∧
    (let s : State := (let s := probe [(Obj.DEV_STATE, 1)]; ({ s with boot := { s.boot with poreset := false, stage := 2, watchdog := true, verified := some 0 } } : State))
    (s.devState = stBoot) ∧ (s.boot.held = false) ∧ (s.boot.verified.isSome = true)) :=
  ⟨by generalize Config.isP8 = b; revert b; decide +kernel,
   by decide +kernel,
   by decide +kernel,
   by decide +kernel,
   by decide +kernel,
   by decide +kernel⟩

/-- States and operands that meet the hypotheses of FusesAndDebugPorts, clause by clause. -/
theorem witness_FusesAndDebugPorts :
    (let s : State := (let s := probe [(Obj.DEV_STATE, 1)]; ({ s with boot := { s.boot with poreset := false, stage := 2, watchdog := true, otpAttempt := 1, floor := 3, revoke := 2, keySlot := 0 } } : State))
    let failed : Nat := 0
    (s.boot.otpAttempt ≠ 0) ∧ (bitOf failed 0 = false) ∧ (bitOf failed 1 = false)) ∧
    (let s : State := (let s := probe [(Obj.DEV_STATE, 1)]; ({ s with boot := { s.boot with poreset := false, stage := 2, watchdog := true, otpAttempt := 1, floor := 3 } } : State))
    let failed : Nat := 3
    (s.boot.otpAttempt = 1) ∧ (bitOf failed 0 = true) ∧ (bitOf failed 1 = true) ∧ (s.otp.antiRollback < s.otpFloor)) ∧
    (let s : State := (let s := probe [(Obj.DEV_STATE, 1)]; ({ s with boot := { s.boot with poreset := false, stage := 2, watchdog := true, otpAttempt := 2, floor := 3 } } : State))
    let failed : Nat := 3
    (s.boot.otpAttempt = 2) ∧ (bitOf failed 0 = true) ∧ (bitOf failed 1 = true) ∧ (s.otp.antiRollback < s.otpFloor)) ∧
    (let s : State := probe [(Obj.DEV_STATE, 5)]
    (s.devState ≠ stReset) ∧ (s.devState ≠ stBoot)) ∧
    (let s : State := (let s := probe [(Obj.DEV_STATE, 1)]; ({ s with boot := { s.boot with poreset := false, stage := 1, watchdog := true, held := true } } : State))
    (s.devState = stBoot) ∧ (s.boot.held = true)) ∧
    (let s : State := challenged ⟨5, 0⟩
    let t : Nat := 9
    let ch : Challenge := ask
    ((s.land t).dictServed = true) ∧ (((s.land t).session ⟨5, 0⟩).bind (·.challenge) = some ch) ∧ (ch.used = false) ∧ ((s.land t).now ≤ ch.time + 30000000000) ∧ ((s.land t).keyZero ch.role = false)) ∧
    (let s : State := probe [(Obj.DEV_STATE, 2)]
    let t : Nat := 9
    let index : Nat := 0x1FFF
    let sub : Nat := 0
    ((s.land t).dictServed = true) ∧ (Obj.rowOf (256 * index + sub) = none) ∧ ((Obj.rowOf (256 * index)).isNone = true) ∧ (sub = 0) ∧ (s.dict.uartFill = 0)) :=
  ⟨by decide +kernel,
   by decide +kernel,
   by decide +kernel,
   by decide +kernel,
   by decide +kernel,
   by decide +kernel,
   by decide +kernel⟩

/-- States and operands that meet the hypotheses of CarrierReloads, clause by clause. -/
theorem witness_CarrierReloads :
    (let s : State := (let s := probe [(Obj.DEV_STATE, 5), (Obj.CAR_CH_CTRL 7, 2), (Obj.CAR_CH_CMD 7, 1), (Obj.CAR_PERIOD 7, 4000), (Obj.CAR_DUTY 7, 64000)]; ({ s with car := { s.car with channels := s.car.channels.set 7 { CarChannel.reset with start := 0, period := 100, duty := 3200 } } } : State))
    let t : Nat := 300
    let k : Nat := 7
    let c : CarChannel := { CarChannel.reset with start := 0, period := 100, duty := 3200 }
    let d : CarChannel := { CarChannel.reset with start := 0, period := 4000, duty := 64000, cmpa := 0x3FFFFFFF, cmpb := 0x3FFFFFFF }
    (s.car.channels[k]? = some c) ∧ (k < 24) ∧ (s.carPwm k = true) ∧ (c.late = []) ∧ (c.lateCommit = false) ∧ (d = (if s.bit (Obj.CAR_CH_CMD k) 0 = true then { c with period := s.getN (Obj.CAR_PERIOD k), duty := s.getN (Obj.CAR_DUTY k), cmpa := s.getN (Obj.CAR_CMPA k), cmpb := s.getN (Obj.CAR_CMPB k), phase := s.getN (Obj.CAR_PHASE k) } else c)) ∧ (c.sync = none) ∧ (c.ends ≤ (s.land t).nowFine)) ∧
    (let s : State := (let s := probe [(Obj.DEV_STATE, 5), (Obj.CAR_CH_CTRL 7, 2)]; ({ s with car := { s.car with channels := s.car.channels.set 7 { CarChannel.reset with start := 0, period := 1000, duty := 3200, phase := 10, sync := some 6400 } } } : State))
    let t : Nat := 50
    let k : Nat := 7
    let c : CarChannel := { CarChannel.reset with start := 0, period := 1000, duty := 3200, phase := 10, sync := some 6400 }
    let d : CarChannel := { CarChannel.reset with start := 0, period := 1000, duty := 3200, phase := 10, sync := some 6400 }
    let inst : Int := 6400
    (s.car.channels[k]? = some c) ∧ (k < 24) ∧ (s.carPwm k = true) ∧ (c.late = []) ∧ (c.lateCommit = false) ∧ (d = (if s.bit (Obj.CAR_CH_CMD k) 0 = true then { c with period := s.getN (Obj.CAR_PERIOD k), duty := s.getN (Obj.CAR_DUTY k), cmpa := s.getN (Obj.CAR_CMPA k), cmpb := s.getN (Obj.CAR_CMPB k), phase := s.getN (Obj.CAR_PHASE k) } else c)) ∧ (c.sync = some inst) ∧ (inst ≤ (s.land t).nowFine)) :=
  ⟨by decide +kernel,
   by decide +kernel⟩

/-- States and operands that meet the hypotheses of CarrierEdgesAndTriggers, clause by clause. -/
theorem witness_CarrierEdgesAndTriggers :
    (let s : State := (let s := probe [(Obj.DEV_STATE, 5), (Obj.CAR_CH_CTRL 7, 2)]; ({ s with car := { s.car with channels := s.car.channels.set 7 { CarChannel.reset with start := 0, period := 100, duty := 3200, dutyDone := false, raw := true, main := true } } } : State))
    let t : Nat := 200
    let k : Nat := 7
    let c : CarChannel := { CarChannel.reset with start := 0, period := 100, duty := 3200, dutyDone := false, raw := true, main := true }
    (s.car.channels[k]? = some c) ∧ (k < 24) ∧ (s.carPwm k = true) ∧ (c.dutyDone = false) ∧ (c.duty < 64 * c.period) ∧ (s.carEdgeTime c.start c.duty ≤ (s.land t).nowFine)) ∧
    (let s : State := (let s := probe [(Obj.DEV_STATE, 5), (Obj.CAR_CH_CTRL 7, 2)]; ({ s with car := { s.car with channels := s.car.channels.set 7 { CarChannel.reset with mainDue := some 6400 } } } : State))
    let t : Nat := 200
    let k : Nat := 7
    let c : CarChannel := { CarChannel.reset with mainDue := some 6400 }
    let inst : Int := 6400
    (s.car.channels[k]? = some c) ∧ (k < 24) ∧ (c.mainDue = some inst) ∧ (inst ≤ (s.land t).nowFine)) ∧
    (let s : State := (let s := probe [(Obj.DEV_STATE, 5), (Obj.CAR_CH_CTRL 7, 2)]; ({ s with car := { s.car with channels := s.car.channels.set 7 { CarChannel.reset with compDue := some 6400 } } } : State))
    let t : Nat := 200
    let k : Nat := 7
    let c : CarChannel := { CarChannel.reset with compDue := some 6400 }
    let inst : Int := 6400
    (s.car.channels[k]? = some c) ∧ (k < 24) ∧ (c.mainDue = none) ∧ (c.compDue = some inst) ∧ (inst ≤ (s.land t).nowFine)) ∧
    (let s : State := (let s := probe [(Obj.DEV_STATE, 5), (Obj.CAR_CH_CTRL 7, 0x4002), (Obj.CAR_CH_STATUS 7, 1)]; ({ s with car := { s.car with channels := s.car.channels.set 7 { CarChannel.reset with start := 0, period := 100, cmpb := 640 } } } : State))
    let t : Nat := 200
    let k : Nat := 7
    let c : CarChannel := { CarChannel.reset with start := 0, period := 100, cmpb := 640 }
    let second : Bool := true
    (s.car.channels[k]? = some c) ∧ (k < 24) ∧ (s.bit (Obj.CAR_CH_STATUS k) 0 = true) ∧ ((if second then c.doneB else c.doneA) = false) ∧ ((if second then c.cmpb else c.cmpa) < 64 * c.period) ∧ (s.carEdgeTime c.start (if second then c.cmpb else c.cmpa) ≤ (s.land t).nowFine)) ∧
    (let s : State := (let s := probe [(Obj.DEV_STATE, 5), (Obj.CAR_CH_CTRL 3, 1), (Obj.ORB_STATUS, 1), (Obj.ORB_COUNT, 9)]; ({ s with car := { s.car with channels := s.car.channels.set 3 { CarChannel.reset with queue := [(9, 640), (10, 0)] } } } : State))
    let t : Nat := 200
    let k : Nat := 3
    let c : CarChannel := { CarChannel.reset with queue := [(9, 640), (10, 0)] }
    let edge : Nat := 640
    let rest : List (Nat × Nat) := [(10, 0)]
    (s.car.channels[k]? = some c) ∧ (k < 24) ∧ (s.carMode k = 1) ∧ (s.orbRunning = true) ∧ (c.queue = (s.orbCount, edge) :: rest) ∧ (s.carEdgeTime c.start edge ≤ (s.land t).nowFine)) :=
  ⟨by decide +kernel,
   by decide +kernel,
   by decide +kernel,
   by decide +kernel,
   by decide +kernel⟩

/-- States and operands that meet the hypotheses of CarrierWrites, clause by clause. -/
theorem witness_CarrierWrites :
    (let s : State := probe [(Obj.DEV_STATE, 5), (Obj.CAR_CH_CTRL 7, 2)]
    let t : Nat := 7
    let k : Nat := 7
    let f : Sender := ⟨24, 0⟩
    let c : CarChannel := CarChannel.reset
    (s.car.channels[k]? = some c) ∧ (k < 24) ∧ (s.reachesUnit t f (Obj.CAR_CH_CMD k) 1 = true) ∧ (s.carMode k ≠ 1) ∧ ((s.land t).carWindow k = false)) ∧
    (let s : State := (let s := probe [(Obj.DEV_STATE, 5), (Obj.CAR_CH_CTRL 7, 2)]; ({ s with car := { s.car with channels := s.car.channels.set 7 { CarChannel.reset with start := 0, period := 100 } } } : State))
    let t : Nat := 247
    let k : Nat := 7
    let f : Sender := ⟨24, 0⟩
    let c : CarChannel := { CarChannel.reset with start := 0, period := 100 }
    (s.car.channels[k]? = some c) ∧ (k < 24) ∧ (s.reachesUnit t f (Obj.CAR_CH_CMD k) 1 = true) ∧ (s.carPwm k = true) ∧ ((s.land t).carWindow k = true)) ∧
    (let s : State := probe [(Obj.DEV_STATE, 5), (Obj.CAR_CH_CTRL 3, 1)]
    let t : Nat := 7
    let k : Nat := 3
    let f : Sender := ⟨24, 0⟩
    let c : CarChannel := CarChannel.reset
    (s.car.channels[k]? = some c) ∧ (k < 24) ∧ (s.reachesUnit t f (Obj.CAR_CH_CMD k) 1 = true) ∧ (s.carMode k = 1)) ∧
    (let s : State := probe [(Obj.DEV_STATE, 5), (Obj.CAR_CH_CTRL 7, 2), (Obj.CAR_CH_STATUS 7, 0xB1)]
    let t : Nat := 7
    let k : Nat := 7
    let f : Sender := ⟨24, 0⟩
    let c : CarChannel := CarChannel.reset
    (s.car.channels[k]? = some c) ∧ (k < 24) ∧ (s.reachesUnit t f (Obj.CAR_CH_CMD k) 2 = true) ∧ (s.carMode k ≠ 1)) ∧
    (let s : State := probe [(Obj.DEV_STATE, 5), (Obj.CAR_CH_CTRL 7, 0x12)]
    let t : Nat := 7
    let k : Nat := 7
    let f : Sender := ⟨24, 0⟩
    let c : CarChannel := CarChannel.reset
    let reg : Nat := 1
    let v : Nat := 6400
    (s.car.channels[k]? = some c) ∧ (k < 24) ∧ (reg < 5) ∧ (v < 2 ^ 32) ∧ (s.reachesUnit t f (carShadow reg k) v = true) ∧ (s.carMode k ≠ 1) ∧ ((s.land t).carWindow k = false)) ∧
    (let s : State := probe [(Obj.DEV_STATE, 5), (Obj.CAR_CH_CTRL 3, 1)]
    let t : Nat := 7
    let k : Nat := 3
    let f : Sender := ⟨24, 0⟩
    let c : CarChannel := CarChannel.reset
    let reg : Nat := 0
    let v : Nat := 5
    (s.car.channels[k]? = some c) ∧ (k < 24) ∧ (reg = 0 ∨ reg = 1 ∨ reg = 4) ∧ (v < 2 ^ 32) ∧ (s.reachesUnit t f (carShadow reg k) v = true) ∧ (s.carMode k = 1)) :=
  ⟨by decide +kernel,
   by decide +kernel,
   by decide +kernel,
   by decide +kernel,
   by decide +kernel,
   by decide +kernel⟩

/-- States and operands that meet the hypotheses of CarrierMasksAndDelayLine, clause by clause. -/
theorem witness_CarrierMasksAndDelayLine :
    (let s : State := (let s := probe [(Obj.DEV_STATE, 5), (Obj.CAR_CH_CTRL 7, 2)]; ({ s with car := { s.car with channels := s.car.channels.set 7 { CarChannel.reset with sources := 1, masked := true } } } : State))
    let t : Nat := 7
    let k : Nat := 7
    let c : CarChannel := { CarChannel.reset with sources := 1, masked := true }
    (k < 24) ∧ (s.carPwm k = true) ∧ (s.car.channels[k]? = some c) ∧ ((s.land t).carSources k = 0)) ∧
    (let s : State := probe [(Obj.CLK_PLL_STATUS 3, 1), (Obj.CAR_UNIT_STATUS, 2)]
    (s.pllDrives 3 = true)) ∧
    (let s : State := probe [(Obj.CAR_UNIT_STATUS, 1)]
    (s.carLocked = true)) :=
  ⟨by decide +kernel,
   by decide +kernel,
   by decide +kernel⟩

/-- States and operands that meet the hypotheses of BoundariesCountCycles, clause by clause. -/
theorem witness_BoundariesCountCycles :
    (let s : State := State.reset
    let t : Nat := 9
    ((s.land t).boundaryComes = false)) ∧
    (let s : State := (let s := probe [(Obj.ORB_STATUS, 1), (Obj.DEV_STATE, 4), (Obj.ORB_COUNT, 0xFFFFFFFF), (Obj.ORB_PERIOD_NOW, 40)]; ({ s with orb := { s.orb with phase := 4, stretchAt := some 0 } } : State))
    let t : Nat := 9
    ((s.land t).boundaryComes = true) ∧ (s.hasPartner = false) ∧ (s.owner = true) ∧ (s.treeRole = 0) ∧ (s.dict.staged = []) ∧ (s.tim.pendingStep = none)) ∧
    (let s : State := (granted []).put Obj.DEV_STATE 4
    let t : Nat := 9
    let f : Sender := svc
    let force : Bool := true
    (s.takesWrite t f Obj.ORB_DEG_FORCE (if force then 1 else 0) = true)) ∧
    (let s : State := granted []
    let t : Nat := 9
    let f : Sender := svc
    (s.takesWrite t f Obj.ORB_MARGIN_CLEAR 1 = true)) :=
  ⟨by decide +kernel,
   by decide +kernel,
   by decide +kernel,
   by decide +kernel⟩

/-- States and operands that meet the hypotheses of DeadlinesOfTheCycle, clause by clause. -/
theorem witness_DeadlinesOfTheCycle :
    (let s : State := State.reset
    (s.orbRunning = false ∨ s.orb.phase ≠ 0)) ∧
    (let s : State := (let s := probe [(Obj.ORB_STATUS, 1), (Obj.SWG_REF_SRC_PWR, 3)]; ({ s with orb := { s.orb with phase := 0 }, eng := { s.eng with harts := s.eng.harts.set 3 readyHart } } : State))
    let e : Nat := 3
    let h : Hart := readyHart
    (s.orbRunning = true) ∧ (s.orb.phase = 0) ∧ (e < 8) ∧ (s.refRegistered e = true) ∧ (s.eng.harts[e]? = some h) ∧ (h.pageDone = true) ∧ (h.pageCycle = s.orbCount)) ∧
    (let s : State := (let s := probe [(Obj.ORB_STATUS, 1), (Obj.SWG_REF_SRC_PWR, 3)]; ({ s with orb := { s.orb with phase := 0 } } : State))
    let e : Nat := 3
    let h : Hart := Hart.reset
    (s.orbRunning = true) ∧ (s.orb.phase = 0) ∧ (e < 8) ∧ (s.refRegistered e = true) ∧ (s.eng.harts[e]? = some h) ∧ (h.pageDone = false ∨ h.pageCycle ≠ s.orbCount)) ∧
    (let s : State := (let s := probe [(Obj.ORB_STATUS, 1), (Obj.DEV_STATE, 4)]; ({ s with orb := { s.orb with phase := 1 } } : State))
    (s.orbRunning = true) ∧ (s.orb.phase = 1)) ∧
    (let s : State := State.reset
    (s.orbRunning = false ∨ s.orb.phase ≠ 1)) ∧
    (let s : State := (let s := probe [(Obj.ORB_STATUS, 1), (Obj.DEV_STATE, 4)]; ({ s with orb := { s.orb with phase := 2, needSeen := true } } : State))
    (s.orbRunning = true) ∧ (s.orb.phase = 2) ∧ (s.orb.needSeen = true) ∧ (s.bit Obj.ORB_STATUS 1 = false) ∧ (s.orb.stretchAt = none) ∧ (s.orb.returnAt = none)) ∧
    (let s : State := (let s := probe [(Obj.ORB_STATUS, 3), (Obj.DEV_STATE, 4)]; ({ s with orb := { s.orb with phase := 2 } } : State))
    (s.orbRunning = true) ∧ (s.orb.phase = 2) ∧ (s.orb.needSeen = false) ∧ (s.ownNeed = false) ∧ (s.bit Obj.ORB_STATUS 1 = true) ∧ (s.orb.stretchAt = none) ∧ (s.orb.returnAt = none) ∧ (s.treeRole ≠ 2)) ∧
    (let s : State := (let s := probe [(Obj.ORB_STATUS, 1), (Obj.DEV_STATE, 4)]; ({ s with orb := { s.orb with phase := 3 } } : State))
    (s.orbRunning = true) ∧ (s.orb.phase = 3)) ∧
    (let s : State := (let s := probe [(Obj.ORB_STATUS, 1), (Obj.DEV_STATE, 4)]; ({ s with orb := { s.orb with phase := 3 } } : State))
    let p : Nat := 5
    (s.orbRunning = true) ∧ (s.orb.phase = 3) ∧ (p < 24) ∧ (s.orb.overrun = none)) :=
  ⟨by decide +kernel,
   by decide +kernel,
   by decide +kernel,
   by decide +kernel,
   by decide +kernel,
   by decide +kernel,
   by decide +kernel,
   by decide +kernel,
   by decide +kernel⟩

/-- States and operands that meet the hypotheses of CascadeRecords, clause by clause. -/
theorem witness_CascadeRecords :
    (let s : State := probe [(Obj.LNK_TREE_ROLE, 1), (Obj.ORB_STATUS, 1), (Obj.DEV_STATE, 4)]
    (s.treeRole = 1) ∧ (s.orbRunning = true) ∧ (3 ≤ s.devState) ∧ (s.devState ≤ 6)) ∧
    (let s : State := (let s := probe [(Obj.ORB_STATUS, 1), (Obj.LNK_TREE_ROLE, 2), (Obj.DEV_STATE, 4), (Obj.ORB_COUNT, 9)]; ({ s with orb := { s.orb with phase := 0 } } : State))
    let d : CascDown := { theta := 1, omega := 2, omegaF := 3, emf := 4, pSet := 5, qSet := 6, orb := 9, flags := 2 }
    (s.treeRole = 2) ∧ (s.orbRunning = true) ∧ (3 ≤ s.devState) ∧ (s.devState ≤ 6) ∧ (d.orb = s.orbCount) ∧ (s.orb.phase = 0)) ∧
    (let s : State := probe [(Obj.LNK_CASC_CFG 2, 0x8000)]
    let g : Nat := 2
    (s.cascOn g = true) ∧ (s.cascUpward g = false)) ∧
    (let s : State := probe [(Obj.LNK_CASC_CFG 2, 0x8000)]
    let g : Nat := 2
    (s.cascOn g = true) ∧ (g < 8) ∧ (g < s.lnk.paths.length)) :=
  ⟨by decide +kernel,
   by decide +kernel,
   by decide +kernel,
   by decide +kernel⟩

/-- States and operands that meet the hypotheses of FramesAndPairs, clause by clause. -/
theorem witness_FramesAndPairs :
    (let s : State := (let s := pairState.put Obj.DEV_STATE 4; ({ s with orb := { s.orb with phase := 0 } } : State))
    let p : Nat := 0
    let q : Pair := Pair.reset
    (s.valvePair p = true) ∧ (4 ≤ s.devState) ∧ (s.devState ≤ 6) ∧ (s.orb.phase < 2) ∧ (s.pairMode p = pairRing) ∧ (s.pair p = some q) ∧ (q.portLatency.length = 2)) ∧
    (let s : State := (let s := pairState.put Obj.DEV_STATE 4; ({ s with orb := { s.orb with phase := 3 } } : State))
    let p : Nat := 0
    (s.valvePair p = true) ∧ (4 ≤ s.devState) ∧ (s.devState ≤ 6) ∧ (2 ≤ s.orb.phase) ∧ (s.pairMode p = pairRing) ∧ (p < s.lnk.pairs.length)) ∧
    (let s : State := (let s := pairState; s.withPair 0 fun q => { q with tries := 1 })
    let p : Nat := 0
    let q : Pair := { Pair.reset with tries := 1 }
    (s.devState = stLinkup) ∧ (s.valvePair p = true) ∧ (s.stepDone p 2 = false) ∧ (s.pair p = some q)) ∧
    (let s : State := pairState
    let p : Nat := 0
    let q : Pair := Pair.reset
    (s.devState = stLinkup) ∧ (s.valvePair p = true) ∧ (s.stepDone p 2 = false) ∧ (s.pair p = some q) ∧ (q.evenFound = none)) ∧
    (let s : State := (let s := pairState; s.withPair 0 fun q => { q with steps := 4 })
    let p : Nat := 0
    let q : Pair := { Pair.reset with steps := 4 }
    (s.devState = stLinkup) ∧ (s.stepDone p 2 = true) ∧ (s.stepDone p 6 = false) ∧ (s.pair p = some q)) ∧
    (let s : State := ((let s := pairState; s.withPair 0 fun q => { q with steps := 4 })).put (Obj.LNK_PAIR_FOUND 0) 1
    let p : Nat := 0
    let nodes : List (Int × Int × Int × Int) := [(100, 200, 30, 40)]
    (s.devState = stLinkup) ∧ (s.stepDone p 2 = true) ∧ (s.stepDone p 6 = false) ∧ (nodes.length = s.getN (Obj.LNK_PAIR_FOUND p)) ∧ (p < 24) ∧ (p < s.lnk.pairs.length)) ∧
    (let s : State := ((let s := pairState; s.withPair 0 fun q => { q with steps := 64, ids := [(3, 5)] })).put Obj.TIM_STATUS 1
    let p : Nat := 0
    (s.devState = stLinkup) ∧ (s.stepDone p 6 = true) ∧ (s.stepDone p 7 = false) ∧ (p < 24) ∧ (s.stepped = true) ∧ ((s.pair p).map (·.align) = some [])) ∧
    (let s : State := pairState
    let p : Nat := 0
    let pos : Nat := 0
    let desc : Nat := 1
    let q : Pair := Pair.reset
    (s.valvePair p = true) ∧ (s.pair p = some q) ∧ (recordKey 6 pos desc ∉ q.recordsFailed)) ∧
    (let s : State := pairState
    let p : Nat := 0
    let purpose : Nat := 3
    let pos : Nat := 0
    let desc : Nat := 1
    let result : Nat := 255
    let q : Pair := Pair.reset
    (s.valvePair p = true) ∧ (purpose ≤ 6) ∧ (result ≠ 0) ∧ (s.pair p = some q) ∧ (recordKey purpose pos desc ∉ q.recordsFailed)) ∧
    (let s : State := (let s := pairState; s.withPair 0 fun q => { q with recordsFailed := [recordKey 6 0 1] })
    let p : Nat := 0
    let pos : Nat := 0
    let desc : Nat := 1
    let result : Nat := 255
    let q : Pair := { Pair.reset with recordsFailed := [recordKey 6 0 1] }
    (s.valvePair p = true) ∧ (result ≠ 0) ∧ (s.pair p = some q) ∧ (recordKey 6 pos desc ∈ q.recordsFailed)) :=
  ⟨by decide +kernel,
   by decide +kernel,
   by decide +kernel,
   by decide +kernel,
   by decide +kernel,
   by decide +kernel,
   by decide +kernel,
   by decide +kernel,
   by decide +kernel,
   by decide +kernel⟩

/-- States and operands that meet the hypotheses of HoldTrackingAndRide, clause by clause. -/
theorem witness_HoldTrackingAndRide :
    (let s : State := (granted []).put Obj.DEV_STATE 4
    let t : Nat := 9
    let f : Sender := svc
    (s.takesWrite t f Obj.SWG_PARAM_HOLD 1 = true)) ∧
    (let s : State := ((granted []).put Obj.DEV_STATE 4).put Obj.SWG_PARAM_HOLD 1
    let t : Nat := 9
    let f : Sender := svc
    (s.takesWrite t f Obj.SWG_PARAM_HOLD 0 = true)) ∧
    (let s : State := (let s := probe [(Obj.DEV_STATE, 4)]; ({ s with swg := { s.swg with lockFor := 20000000 } } : State))
    (s.devState = stLinkup ∨ s.devState = stBlocked ∨ s.devState = stTrip) ∧ (20000000 ≤ s.swg.lockFor) ∧ (s.swg.locked = false)) ∧
    (let s : State := (let s := probe [(Obj.DEV_STATE, 5)]; ({ s with frt := { s.frt with core := { s.frt.core with ride := true, clearFor := 20000000 } } } : State))
    (s.devState = stRun) ∧ (s.limiting = true) ∧ (s.getN Obj.FRT_CLEAR_TIME * 1000000 ≤ s.frt.core.clearFor)) ∧
    (let s : State := (let s := probe [(Obj.DEV_STATE, 5)]; ({ s with frt := { s.frt with core := { s.frt.core with ride := true, rideFor := 3000000001 } } } : State))
    (s.devState = stRun) ∧ (s.limiting = true) ∧ (s.frt.core.clearFor < s.getN Obj.FRT_CLEAR_TIME * 1000000) ∧ (s.getN Obj.FRT_MAX_TIME * 1000000 < s.frt.core.rideFor) ∧ (s.owner = true) ∧ (s.causeActive causeFrtTimeout = false)) ∧
    (let s : State := (let s := probe [(Obj.DEV_STATE, 5), (Obj.DEV_ROLE, 2)]; ({ s with frt := { s.frt with core := { s.frt.core with ride := true, rideFor := 3000000001 } } } : State))
    (s.owner = false) ∧ (s.limiting = false ∨ s.frt.core.clearFor < s.getN Obj.FRT_CLEAR_TIME * 1000000)) ∧
    (let s : State := (let s := probe [(Obj.DEV_STATE, 5)]; ({ s with frt := { s.frt with core := { s.frt.core with ride := true, clearFor := 20000000, rideFor := 3000000001 } } } : State))
    (s.devState = stRun) ∧ (s.limiting = true) ∧ (s.getN Obj.FRT_CLEAR_TIME * 1000000 ≤ s.frt.core.clearFor)) :=
  ⟨by decide +kernel,
   by decide +kernel,
   by decide +kernel,
   by decide +kernel,
   by decide +kernel,
   by decide +kernel,
   by decide +kernel⟩

/-- States and operands that meet the hypotheses of BlackStartAndSynchronisation, clause by clause. -/
theorem witness_BlackStartAndSynchronisation :
    (let s : State := (let s := (let s := probe [(Obj.DEV_STATE, 5)]; ({ s with frt := { s.frt with deadFor := 100000000, core := { s.frt.core with phase := 1, emf := 5 } } } : State)); ({ s with swg := { s.swg with uDc := 2 ^ 30 } } : State))
    (s.devState = stRun) ∧ (s.blkPhase = blkDead) ∧ (s.devRole ≠ roleStandby) ∧ (s.causeActive causeLiveBus = false) ∧ (s.getN Obj.BLK_DEAD_TIME * 1000000 ≤ s.frt.deadFor) ∧ (milli (s.get Obj.BLK_UDC_MIN) ≤ fromQ 30 s.swg.uDc)) ∧
    (let s : State := (let s := probe [(Obj.DEV_STATE, 5)]; ({ s with frt := { s.frt with deadFor := 100000000, core := { s.frt.core with phase := 1 } } } : State))
    (s.devState = stRun) ∧ (s.blkPhase = blkDead) ∧ (s.owner = true) ∧ (s.causeActive causeLiveBus = false) ∧ (s.causeActive causeNoDc = false) ∧ (s.getN Obj.BLK_DEAD_TIME * 1000000 ≤ s.frt.deadFor) ∧ (fromQ 30 s.swg.uDc < milli (s.get Obj.BLK_UDC_MIN))) ∧
    (let s : State := (let s := probe [(Obj.DEV_STATE, 5)]; ({ s with frt := { s.frt with holdFor := 1000000000, core := { s.frt.core with phase := 3 } } } : State))
    (s.devState = stRun) ∧ (s.blkPhase = blkHold) ∧ (s.devRole ≠ roleStandby) ∧ (s.getN Obj.BLK_HOLD_TIME * 1000000 ≤ s.frt.holdFor)) ∧
    (let s : State := (let s := probe [(Obj.DEV_STATE, 5)]; ({ s with frt := { s.frt with pauseFor := 2000000001, core := { s.frt.core with phase := 2 } } } : State))
    (s.devState = stRun) ∧ (s.blkPhase = blkRamp) ∧ (s.owner = true) ∧ (s.causeActive causeRampStall = false) ∧ (s.getN Obj.BLK_PAUSE_MAX * 1000000 < s.frt.pauseFor)) ∧
    (let s : State := (granted [(Obj.MEA_CH_CTRL 1, 1), (Obj.MEA_ROLE 1, 17), (Obj.MEA_CH_CTRL 2, 1), (Obj.MEA_ROLE 2, 18), (Obj.MEA_CH_CTRL 3, 1), (Obj.MEA_ROLE 3, 19)]).put Obj.DEV_STATE 5
    let t : Nat := 9
    let f : Sender := svc
    (s.takesWrite t f Obj.BLK_SYNC_REQ 1 = true)) ∧
    (let s : State := ((granted [(Obj.BLK_SYNC_REQ, 1)]).put Obj.DEV_STATE 5)
    let t : Nat := 9
    let f : Sender := svc
    (s.takesWrite t f Obj.BLK_SYNC_REQ 0 = true) ∧ (s.syncOn = true)) ∧
    (let s : State := (let s := probe [(Obj.BLK_SYNC_REQ, 1)]; ({ s with frt := { s.frt with readyFor := 100000000 } } : State))
    (s.syncOn = true) ∧ (s.bit Obj.BLK_STATUS 2 = false) ∧ (s.getN Obj.BLK_SYNC_DWELL * 1000000 ≤ s.frt.readyFor)) ∧
    (let s : State := (let s := probe [(Obj.BLK_SYNC_REQ, 1)]; ({ s with frt := { s.frt with readySeen := true, closeFor := 20000000, wOff := 5 } } : State))
    (s.syncOn = true) ∧ (s.frt.readySeen = true) ∧ (20000000 ≤ s.frt.closeFor)) ∧
    (let s : State := (let s := probe [(Obj.BLK_SYNC_REQ, 1)]; ({ s with frt := { s.frt with syncFor := 60000000000 } } : State))
    (s.syncOn = true) ∧ (s.frt.readySeen = false) ∧ (s.getN Obj.BLK_SYNC_TIMEOUT * 1000000000 ≤ s.frt.syncFor)) :=
  ⟨by decide +kernel,
   by decide +kernel,
   by decide +kernel,
   by decide +kernel,
   by decide +kernel,
   by decide +kernel,
   by decide +kernel,
   by decide +kernel,
   by decide +kernel⟩

/-- States and operands that meet the hypotheses of ReferencesSteerTheDpll, clause by clause. -/
theorem witness_ReferencesSteerTheDpll :
    (let s : State := probe [(Obj.DEV_STATE, 2), (Obj.CLK_DPLL_STATE, 2), (Obj.CLK_STATUS, 0x140)]
    (s.devState ≠ stReset) ∧ (s.dpll = 2 ∨ (s.dpll = 1 ∧ s.clk.wasLocked = true))) ∧
    (let s : State := probe [(Obj.DEV_STATE, 2), (Obj.CLK_DPLL_STATE, 1)]
    (s.devState ≠ stReset) ∧ (s.dpll = 1) ∧ (s.clk.wasLocked = false)) ∧
    (let s : State := probe [(Obj.DEV_STATE, 2)]
    (s.devState ≠ stReset) ∧ (s.dpll = 0)) ∧
    (let s : State := probe [(Obj.DEV_STATE, 2), (Obj.CLK_DPLL_STATE, 3)]
    (s.devState ≠ stReset) ∧ (s.dpll = 3)) ∧
    (let s : State := probe [(Obj.DEV_STATE, 2), (Obj.CLK_DPLL_STATE, 1)]
    (s.devState ≠ stReset) ∧ (s.dpll = 1)) ∧
    (let s : State := probe [(Obj.DEV_STATE, 2), (Obj.CLK_DPLL_STATE, 4), (Obj.CLK_STATUS, 0x80)]
    (s.devState ≠ stReset) ∧ (s.dpll = 4)) :=
  ⟨by decide +kernel,
   by decide +kernel,
   by decide +kernel,
   by decide +kernel,
   by decide +kernel,
   by decide +kernel⟩

/-- States and operands that meet the hypotheses of LossesOfReferenceAndBypass, clause by clause. -/
theorem witness_LossesOfReferenceAndBypass :
    (let s : State := probe [(Obj.DEV_STATE, 2), (Obj.CLK_PLL_STATUS 0, 1), (Obj.CLK_PLL_STATUS 3, 1), (Obj.CLK_DPLL_STATE, 2)]
    (s.devState ≠ stReset) ∧ (s.bit Obj.CLK_STATUS 7 = false)) ∧
    (let s : State := probe [(Obj.DEV_STATE, 2)]
    (s.devState ≠ stReset) ∧ (s.bit Obj.CLK_STATUS 9 = false)) ∧
    (let s : State := probe [(Obj.DEV_STATE, 2), (Obj.CLK_STATUS, 0x200), (Obj.CLK_QUAD_STATUS 2, 3)]
    (s.devState ≠ stReset) ∧ (s.bit Obj.CLK_STATUS 9 = true)) ∧
    (let s : State := probe [(Obj.DEV_STATE, 2)]
    (s.devState ≠ stReset)) ∧
    (let s : State := probe [(Obj.DEV_STATE, 2)]
    (s.devState ≠ stReset)) :=
  ⟨by decide +kernel,
   by decide +kernel,
   by decide +kernel,
   by decide +kernel,
   by decide +kernel⟩

/-- States and operands that meet the hypotheses of PllsLockAndLoseLock, clause by clause. -/
theorem witness_PllsLockAndLoseLock :
    (let s : State := probe [(Obj.DEV_STATE, 2), (Obj.CLK_PLL_STATUS 3, 1)]
    let p : Nat := 3
    (s.devState ≠ stReset) ∧ (p < 6) ∧ (p ≠ 2) ∧ (s.bit (Obj.CLK_PLL_STATUS p) 0 = true)) ∧
    (let s : State := probe [(Obj.DEV_STATE, 2), (Obj.CLK_PLL_STATUS 2, 1), (Obj.CLK_PLL_STATUS 3, 1)]
    (s.devState ≠ stReset) ∧ (s.bit (Obj.CLK_PLL_STATUS 2) 0 = true) ∧ (s.bit (Obj.CLK_PLL_STATUS 3) 0 = true)) ∧
    (let s : State := (probe [(Obj.DEV_STATE, 2), (Obj.CLK_PLL_STATUS 3, 6)]).withClk fun k => { k with relock := [0, 0, 0, 2, 0, 0] }
    let p : Nat := 3
    (s.devState ≠ stReset) ∧ (p < 6) ∧ (s.pllBusy p = true) ∧ (s.bit (Obj.CLK_PLL_STATUS p) 4 = false) ∧ (s.bit (Obj.CLK_PLL_CTRL p) 2 = false)) ∧
    (let s : State := probe [(Obj.DEV_STATE, 2), (Obj.CLK_PLL_STATUS 0, 6)]
    let p : Nat := 0
    (s.devState ≠ stReset) ∧ (p < 6) ∧ (s.clk.sleep ≠ 4) ∧ (s.pllBusy p = true)) ∧
    (let s : State := (probe [(Obj.DEV_STATE, 7), (Obj.CLK_PLL_STATUS 0, 6)]).withClk fun k => { k with sleep := 4 }
    let p : Nat := 0
    (s.devState ≠ stReset) ∧ (p < 6) ∧ (s.clk.sleep = 4) ∧ (s.pllBusy p = true)) ∧
    (let s : State := probe [(Obj.DEV_STATE, 2), (Obj.CLK_QUAD_STATUS 4, 1)]
    let q : Nat := 4
    (s.devState ≠ stReset) ∧ (q < 13) ∧ (s.bit (Obj.CLK_QUAD_STATUS q) 0 = true)) ∧
    (let s : State := (probe [(Obj.DEV_STATE, 2)]).withClk fun k => { k with quadRelock := k.quadRelock.set 4 true }
    let q : Nat := 4
    (s.devState ≠ stReset) ∧ (q < 13) ∧ (s.clk.quadRelock.getD q false = true)) ∧
    (let s : State := (probe [(Obj.DEV_STATE, 2)]).withClk fun k => { k with quadRelock := k.quadRelock.set 4 true }
    let q : Nat := 4
    (s.devState ≠ stReset) ∧ (q < 13) ∧ (s.clk.quadRelock.getD q false = true)) :=
  ⟨by decide +kernel,
   by decide +kernel,
   by decide +kernel,
   by decide +kernel,
   by decide +kernel,
   by decide +kernel,
   by decide +kernel,
   by decide +kernel⟩

/-- States and operands that meet the hypotheses of ClockAndPowerWrites, clause by clause. -/
theorem witness_ClockAndPowerWrites :
    (let s : State := granted [(Obj.CLK_PLL_STATUS 0, 1)]
    let t : Nat := 7
    let f : Sender := svc
    let p : Nat := 0
    let v : Nat := 16 * 1200
    (p < 6) ∧ (v < 65536) ∧ (v / 8 % 2 = 0) ∧ (s.getN (Obj.CLK_PLL_CTRL p) ≠ v) ∧ (s.takesWrite t f (Obj.CLK_PLL_CTRL p) v = true)) ∧
    (let s : State := granted [(Obj.CLK_PLL_STATUS 4, 10), (Obj.CLK_PLL_STATUS 5, 10)]
    let t : Nat := 7
    let f : Sender := svc
    let mask : Nat := 0x30
    (mask < 64) ∧ (s.takesWrite t f Obj.CLK_PLL_RELOCK mask = true)) ∧
    (let s : State := granted [(Obj.PWR_RAIL_HIGH 2, 900), (Obj.PWR_TJ_HIGH, 600)]
    let t : Nat := 7
    let f : Sender := svc
    (s.takesWrite t f Obj.PWR_EXTREMES_CLEAR 1 = true)) ∧
    (let s : State := granted [(Obj.PWR_WAKE_EN, 0x40)]
    let t : Nat := 7
    let f : Sender := svc
    (s.takesWrite t f Obj.PWR_SLEEP_REQ 1 = true)) :=
  ⟨by decide +kernel,
   by decide +kernel,
   by decide +kernel,
   by decide +kernel⟩

/-- States and operands that meet the hypotheses of SleepAndWake, clause by clause. -/
theorem witness_SleepAndWake :
    (let s : State := (let s := probe [(Obj.DEV_STATE, 2)]; ({ s with aon := { s.aon with wakeLatch := 2 } } : State).withClk fun k => { k with sleep := 1 })
    (s.clk.sleep = 1) ∧ (s.aon.wakeLatch ≠ 0)) ∧
    (let s : State := (probe [(Obj.DEV_STATE, 2)]).withClk fun k => { k with sleep := 1 }
    (s.clk.sleep = 1) ∧ (s.aon.wakeLatch = 0)) ∧
    (let s : State := (probe [(Obj.DEV_STATE, 2)]).withClk fun k => { k with sleep := 1 }
    (s.clk.sleep = 1) ∧ (s.aon.wakeLatch = 0)) ∧
    (let s : State := (probe [(Obj.DEV_STATE, 2)]).withClk fun k => { k with sleep := 2 }
    (s.clk.sleep = 2) ∧ (s.clk.wakeDue = false) ∧ (s.devState ≠ stLunar)) ∧
    (let s : State := (probe [(Obj.DEV_STATE, 2), (Obj.PWR_WAKE_EN, 6)]).withClk fun k => { k with sleep := 1 }
    let src : Nat := 2
    (src < 8) ∧ (s.clk.sleep = 1) ∧ (bitOf s.wakeEnabled src = true)) ∧
    (let s : State := (probe [(Obj.DEV_STATE, 7), (Obj.PWR_WAKE_EN, 6)]).withClk fun k => { k with sleep := 3 }
    let src : Nat := 1
    (src < 8) ∧ (s.clk.sleep = 3) ∧ (bitOf s.wakeEnabled src = true)) ∧
    (let s : State := (probe [(Obj.DEV_STATE, 7), (Obj.PWR_WAKE_EN, 0x40), (Obj.PWR_WAKE_TIMER, 2)]).withClk fun k => { k with sleep := 3, commitAt := 5 }
    let t : Nat := 2000000005
    (s.clk.sleep = 3) ∧ (bitOf s.wakeEnabled 6 = true) ∧ (s.clk.commitAt + s.getN Obj.PWR_WAKE_TIMER * 1000000000 ≤ max s.now t)) ∧
    (let s : State := (probe [(Obj.DEV_STATE, 7)]).withClk fun k => { k with sleep := 4 }
    (s.clk.sleep = 4) ∧ (s.devState = stLunar)) ∧
    (let s : State := probe [(Obj.DEV_STATE, 2)]
    let mv : List Nat := [800, 800, 900, 1200, 1050, 500, 1800, 1800, 3300]
    let tj : Int := 1101
    (s.devState ≠ stReset) ∧ (mv.length = 9) ∧ (-32768 ≤ tj ∧ tj ≤ 32767)) ∧
    (let s : State := probe [(Obj.DEV_STATE, 2), (Obj.CLK_PLL_STATUS 5, 1)]
    (s.pllDrives 5 = true)) :=
  ⟨by decide +kernel,
   by decide +kernel,
   by decide +kernel,
   by decide +kernel,
   by decide +kernel,
   by decide +kernel,
   by decide +kernel,
   by decide +kernel,
   by decide +kernel,
   by decide +kernel⟩

/-- States and operands that meet the hypotheses of SamplesOfTheChain, clause by clause. -/
theorem witness_SamplesOfTheChain :
    (let s : State := probe [(Obj.DEV_STATE, 2), (Obj.MEA_CLK_CTRL 0, 0xCB), (Obj.MEA_CLK_STATUS 0, 1), (Obj.MEA_CH_CTRL 5, 1), (Obj.MEA_CIC_DEC 5, 8), (Obj.MEA_FIR_CFG 5, 0x101)]
    let k : Nat := 5
    let c : MeaChannel := MeaChannel.reset
    let bits : List Bool := List.replicate 8 true
    let x : Int := -570425344
    (s.meaOn = true) ∧ (k < 32) ∧ (s.meaEnabled k = true) ∧ (s.bit (Obj.MEA_CLK_STATUS (s.meaGroup k)) 1 = false) ∧ (s.grpOn (s.meaGroup k) = true) ∧ (s.mea.channels[k]? = some c) ∧ (bits.length = s.meaR k) ∧ (roundAway (((2 * (cicRun (s.meaN k) c (if s.bit (Obj.MEA_CH_CTRL k) 4 then bits.map (!·) else bits)).1 - (((s.meaR k) ^ (s.meaN k) : Nat) : Int) : Int) : Rat) * 1073741824 / ((((s.meaR k) ^ (s.meaN k) : Nat) : Int) : Rat)) = x)) ∧
    (let s : State := (probe [(Obj.DEV_STATE, 2), (Obj.MEA_CLK_CTRL 0, 0xCB), (Obj.MEA_CLK_STATUS 0, 1), (Obj.MEA_CH_CTRL 5, 1), (Obj.MEA_CIC_DEC 5, 8), (Obj.MEA_FIR_CFG 5, 0x101), (Obj.MEA_FIR_BANK 0 0, 65536), (Obj.MEA_CH_STATUS 5, 1)]).withMea 5 fun c => { c with fir := [12800], firNew := 2, last := 99 }
    let k : Nat := 5
    let c : MeaChannel := { MeaChannel.reset with fir := [12800], firNew := 2, last := 99 }
    let y : Int := 100
    (s.meaOn = true) ∧ (k < 32) ∧ (s.meaEnabled k = true) ∧ (s.bit (Obj.MEA_CLK_STATUS (s.meaGroup k)) 1 = false) ∧ (s.grpOn (s.meaGroup k) = true) ∧ (s.mea.channels[k]? = some c) ∧ (s.meaD k ≤ c.firNew) ∧ (meaScale (if s.meaLmf k = 0 then firOut (s.meaTaps (s.meaBank k) (s.meaL k)) c.fir else medianOf (s.meaLmf k) ((firOut (s.meaTaps (s.meaBank k) (s.meaL k)) c.fir :: c.med2).take (s.meaLmf k))) (s.get (Obj.MEA_OFFSET k)) = y)) ∧
    (let s : State := (probe [(Obj.DEV_STATE, 2), (Obj.MEA_CLK_CTRL 0, 0xCB), (Obj.MEA_CLK_STATUS 0, 1), (Obj.MEA_CH_CTRL 5, 1), (Obj.MEA_CIC_DEC 5, 8), (Obj.MEA_FIR_CFG 5, 0x101), (Obj.MEA_CH_STATUS 5, 0x42)]).withMea 5 fun c => { c with settleEnd := some 8 }
    let t : Nat := 9
    let k : Nat := 5
    let c : MeaChannel := { MeaChannel.reset with settleEnd := some 8 }
    let e : Nat := 8
    (k < 32) ∧ (s.mea.channels[k]? = some c) ∧ (c.settleEnd = some e) ∧ (e ≤ (s.land t).now)) ∧
    (let s : State := granted []
    let t : Nat := 9
    let f : Sender := svc
    let bits : Nat := 0x80000004
    (s.takesWrite t f Obj.MEA_PEAK_CLEAR bits = true) ∧ (bits < 2 ^ 32)) :=
  ⟨by decide +kernel,
   by decide +kernel,
   by decide +kernel,
   by decide +kernel⟩

/-- States and operands that meet the hypotheses of FaultsOfTheChain, clause by clause. -/
theorem witness_FaultsOfTheChain :
    (let s : State := probe [(Obj.DEV_STATE, 2), (Obj.MEA_CLK_CTRL 1, 1), (Obj.MEA_CLK_STATUS 1, 1), (Obj.MEA_CH_CTRL 5, 0x203), (Obj.MEA_CIC_DEC 5, 8), (Obj.MEA_FIR_CFG 5, 0x101)]
    let g : Nat := 1
    (g < 4) ∧ (s.meaOn = true) ∧ (s.grpOn g = true) ∧ (s.grpSourced g = false) ∧ (s.bit (Obj.MEA_CLK_STATUS g) 1 = false)) ∧
    (let s : State := probe [(Obj.DEV_STATE, 2), (Obj.MEA_CLK_CTRL 1, 1), (Obj.MEA_CLK_STATUS 1, 1), (Obj.MEA_CH_CTRL 5, 0x203), (Obj.MEA_CIC_DEC 5, 8), (Obj.MEA_FIR_CFG 5, 0x101), (Obj.MEA_CLK_STATUS 1, 2), (Obj.MEA_CH_STATUS 5, 4)]
    let g : Nat := 1
    (g < 4) ∧ (s.meaOn = true) ∧ (s.grpOn g = true) ∧ (s.grpSourced g = false) ∧ (s.bit (Obj.MEA_CLK_STATUS g) 1 = true)) ∧
    (let s : State := probe [(Obj.DEV_STATE, 2), (Obj.MEA_CLK_CTRL 1, 1), (Obj.MEA_CLK_STATUS 1, 1), (Obj.MEA_CH_CTRL 5, 0x203), (Obj.MEA_CIC_DEC 5, 8), (Obj.MEA_FIR_CFG 5, 0x101)]
    let g : Nat := 1
    let period : Nat := 104857601
    (g < 4) ∧ (0 < period) ∧ (s.meaOn = true) ∧ (s.grpOn g = true) ∧ (s.grpSourced g = false) ∧ (s.bit (Obj.MEA_CLK_STATUS g) 1 = false)) ∧
    (let s : State := probe [(Obj.DEV_STATE, 2), (Obj.MEA_CLK_CTRL 1, 1), (Obj.MEA_CLK_STATUS 1, 1), (Obj.MEA_CH_CTRL 5, 0x203), (Obj.MEA_CIC_DEC 5, 8), (Obj.MEA_FIR_CFG 5, 0x101), (Obj.MEA_CH_STATUS 5, 1)]
    let k : Nat := 5
    (k < 32) ∧ (s.meaOn = true) ∧ (s.meaEnabled k = true) ∧ (s.bit (Obj.MEA_CH_CTRL k) 9 = true) ∧ (s.bit (Obj.MEA_CH_STATUS k) 3 = false)) ∧
    (let s : State := probe [(Obj.DEV_STATE, 2), (Obj.MEA_CLK_CTRL 1, 1), (Obj.MEA_CLK_STATUS 1, 1), (Obj.MEA_CH_CTRL 5, 0x203), (Obj.MEA_CIC_DEC 5, 8), (Obj.MEA_FIR_CFG 5, 0x101), (Obj.MEA_CH_STATUS 5, 8)]
    let k : Nat := 5
    (k < 32) ∧ (s.meaOn = true) ∧ (s.meaEnabled k = true) ∧ (s.bit (Obj.MEA_CH_STATUS k) 3 = true)) ∧
    (let s : State := probe [(Obj.DEV_STATE, 2), (Obj.MEA_CLK_CTRL 0, 0xCB), (Obj.MEA_CLK_STATUS 0, 1), (Obj.MEA_CH_CTRL 5, 1), (Obj.MEA_CIC_DEC 5, 8), (Obj.MEA_FIR_CFG 5, 0x101)]
    (s.meaOn = true)) ∧
    (let s : State := probe [(Obj.DEV_STATE, 2), (Obj.MEA_CLK_CTRL 0, 0xCB), (Obj.MEA_CLK_STATUS 0, 1), (Obj.MEA_CH_CTRL 5, 1), (Obj.MEA_CIC_DEC 5, 8), (Obj.MEA_FIR_CFG 5, 0x101)]
    let k : Nat := 5
    (s.meaOn = true) ∧ (k < 32) ∧ (s.meaEnabled k = true)) ∧
    (let s : State := probe [(Obj.DEV_STATE, 2), (Obj.MEA_CLK_CTRL 0, 0xCB), (Obj.MEA_CLK_STATUS 0, 1), (Obj.MEA_CH_CTRL 5, 1), (Obj.MEA_CIC_DEC 5, 8), (Obj.MEA_FIR_CFG 5, 0x101), (Obj.MEA_FIR_BANK 0 3, 77)]
    let b : Nat := 0
    (s.meaOn = true) ∧ (b < 8) ∧ (bitOf s.mea.reloaded b = false) ∧ (s.bit (Obj.MEA_FIR_BANK_STATUS b) 1 = false)) ∧
    (let s : State := (let s := probe [(Obj.DEV_STATE, 2), (Obj.MEA_CLK_CTRL 0, 0xCB), (Obj.MEA_CLK_STATUS 0, 1), (Obj.MEA_CH_CTRL 5, 1), (Obj.MEA_CIC_DEC 5, 8), (Obj.MEA_FIR_CFG 5, 0x101)]; ({ s with mea := { s.mea with reloaded := 1 } } : State))
    let b : Nat := 0
    (s.meaOn = true) ∧ (b < 8) ∧ (bitOf s.mea.reloaded b = true)) ∧
    (let s : State := (let s := probe [(Obj.DEV_STATE, 2), (Obj.MEA_CLK_CTRL 0, 0xCB), (Obj.MEA_CLK_STATUS 0, 1), (Obj.MEA_CH_CTRL 5, 1), (Obj.MEA_CIC_DEC 5, 8), (Obj.MEA_FIR_CFG 5, 0x101)]; ({ s with mea := { s.mea with reloaded := 1 } } : State))
    let b : Nat := 0
    (s.meaOn = true) ∧ (bitOf s.mea.reloaded b = true)) :=
  ⟨by decide +kernel,
   by decide +kernel,
   by decide +kernel,
   by decide +kernel,
   by decide +kernel,
   by decide +kernel,
   by decide +kernel,
   by decide +kernel,
   by decide +kernel,
   by decide +kernel⟩

/-- States and operands that meet the hypotheses of ChoppersAndPeaks, clause by clause. -/
theorem witness_ChoppersAndPeaks :
    (let s : State := (probe [(Obj.DEV_STATE, 4), (Obj.PRT_DCH_CTRL 2, 9), (Obj.PRT_DCH_SLOPE 2, 7), (Obj.PRT_DCH_OFF_SLOPE 2, 9)]).withDch 2 fun c => { c with driven := true, phase := 1, phaseEnd := 1100 }
    let t : Nat := 9
    let k : Nat := 2
    let c : Chopper := { ((probe []).prt.choppers.getD 2 { comparator := false, phase := 0, phaseEnd := 0, onAt := none, offAt := none, driven := false, onRest := 0, onMark := 0 }) with driven := true, phase := 1, phaseEnd := 1100 }
    let n : Nat := 2240
    (k < 4) ∧ (s.prt.choppers[k]? = some c) ∧ (c.driven = true) ∧ (c.phase = 1) ∧ (c.phaseEnd ≤ 128 * (s.land t).now + 127) ∧ (s.dchDemand k c = true) ∧ (s.dchCounts (s.getN (Obj.PRT_DCH_SLOPE k)) = n)) ∧
    (let s : State := (probe [(Obj.DEV_STATE, 4), (Obj.PRT_DCH_CTRL 2, 9), (Obj.PRT_DCH_SLOPE 2, 7), (Obj.PRT_DCH_OFF_SLOPE 2, 9)]).withDch 2 fun c => { c with driven := true, phase := 2, phaseEnd := 1100 }
    let t : Nat := 9
    let k : Nat := 2
    let c : Chopper := { ((probe []).prt.choppers.getD 2 { comparator := false, phase := 0, phaseEnd := 0, onAt := none, offAt := none, driven := false, onRest := 0, onMark := 0 }) with driven := true, phase := 2, phaseEnd := 1100 }
    (k < 4) ∧ (s.prt.choppers[k]? = some c) ∧ (c.driven = true) ∧ (c.phase = 2) ∧ (c.phaseEnd ≤ 128 * (s.land t).now + 127) ∧ (s.dchDemand k c = true)) ∧
    (let s : State := (probe [(Obj.DEV_STATE, 4), (Obj.PRT_DCH_CTRL 2, 1), (Obj.PRT_DCH_SLOPE 2, 7), (Obj.PRT_DCH_OFF_SLOPE 2, 9)]).withDch 2 fun c => { c with driven := true, phase := 2, phaseEnd := 1100 }
    let t : Nat := 9
    let k : Nat := 2
    let c : Chopper := { ((probe []).prt.choppers.getD 2 { comparator := false, phase := 0, phaseEnd := 0, onAt := none, offAt := none, driven := false, onRest := 0, onMark := 0 }) with driven := true, phase := 2, phaseEnd := 1100 }
    let n : Nat := 2880
    (k < 4) ∧ (s.prt.choppers[k]? = some c) ∧ (c.driven = true) ∧ (c.phase = 2) ∧ (c.phaseEnd ≤ 128 * (s.land t).now + 127) ∧ (s.dchDemand k c = false) ∧ ((s.land t).within c.onAt (s.getN (Obj.PRT_DCH_MIN_ON k)) = false) ∧ (s.dchCounts (s.getN (Obj.PRT_DCH_OFF_SLOPE k)) = n)) ∧
    (let s : State := (probe [(Obj.DEV_STATE, 4), (Obj.PRT_DCH_CTRL 2, 1)]).withDch 2 fun c => { c with driven := true, phase := 4, phaseEnd := 1100 }
    let t : Nat := 9
    let k : Nat := 2
    let c : Chopper := { ((probe []).prt.choppers.getD 2 { comparator := false, phase := 0, phaseEnd := 0, onAt := none, offAt := none, driven := false, onRest := 0, onMark := 0 }) with driven := true, phase := 4, phaseEnd := 1100 }
    (k < 4) ∧ (s.prt.choppers[k]? = some c) ∧ (c.phase = 4) ∧ (c.phaseEnd ≤ 128 * (s.land t).now + 127) ∧ (s.dchDemand k c = false)) ∧
    (let s : State := (probe [(Obj.DEV_STATE, 4), (Obj.PRT_DCH_CTRL 2, 9), (Obj.PRT_DCH_SLOPE 2, 7), (Obj.PRT_DCH_OFF_SLOPE 2, 9)]).withDch 2 fun c => { c with driven := true, offAt := some 0 }
    let t : Nat := 60000000
    let k : Nat := 2
    let c : Chopper := { ((probe []).prt.choppers.getD 2 { comparator := false, phase := 0, phaseEnd := 0, onAt := none, offAt := none, driven := false, onRest := 0, onMark := 0 }) with driven := true, offAt := some 0 }
    (k < 4) ∧ (s.prt.choppers[k]? = some c) ∧ (c.driven = true) ∧ (c.phase = 0) ∧ (s.dchDemand k c = true) ∧ ((s.land t).within c.offAt (s.getN (Obj.PRT_DCH_MIN_OFF k)) = false)) ∧
    (let s : State := (probe [(Obj.DEV_STATE, 4), (Obj.PRT_DCH_CTRL 2, 9), (Obj.PRT_DCH_MIN_OFF 2, 100)]).withDch 2 fun c => { c with driven := true, offAt := some 9 }
    let t : Nat := 60
    let k : Nat := 2
    let c : Chopper := { ((probe []).prt.choppers.getD 2 { comparator := false, phase := 0, phaseEnd := 0, onAt := none, offAt := none, driven := false, onRest := 0, onMark := 0 }) with driven := true, offAt := some 9 }
    (k < 4) ∧ (s.prt.choppers[k]? = some c) ∧ (c.driven = true) ∧ (c.phase = 0) ∧ (s.dchDemand k c = true) ∧ ((s.land t).within c.offAt (s.getN (Obj.PRT_DCH_MIN_OFF k)) = true)) ∧
    (let s : State := (let s := (probe [(Obj.DEV_STATE, 4), (Obj.PRT_DCH_CTRL 2, 5)]).withDch 2 fun c => { c with driven := true, comparator := true }; ({ s with prt := { s.prt with blindPos := some 3 } } : State))
    let t : Nat := 900000000
    let neg : Bool := false
    let b : Nat := 3
    ((if neg then s.prt.blindNeg else s.prt.blindPos) = some b) ∧ (b + 1000 * s.getN Obj.PRT_BLIND_MAX ≤ (s.land t).now) ∧ (((List.range 4).any fun k => s.dchEnabled k && s.dchBehind neg k) = true)) ∧
    (let s : State := ((granted [(Obj.PRT_DCH_CTRL 2, 1)]).put Obj.DEV_STATE 4)
    let t : Nat := 9
    let f : Sender := svc
    let k : Nat := 2
    (k < 4) ∧ (s.takesWrite t f (Obj.PRT_DCH_CTRL k) (withBit (s.getN (Obj.PRT_DCH_CTRL k)) 3 true : Nat) = true) ∧ (s.bit (Obj.PRT_DCH_CTRL k) 3 = false)) ∧
    (let s : State := granted [(Obj.PRT_OV_PEAK 1, 7)]
    let t : Nat := 9
    let f : Sender := svc
    (s.takesWrite t f Obj.PRT_OV_PEAK_CLEAR 1 = true)) :=
  ⟨by decide +kernel,
   by decide +kernel,
   by decide +kernel,
   by decide +kernel,
   by decide +kernel,
   by decide +kernel,
   by decide +kernel,
   by decide +kernel,
   by decide +kernel⟩

/-- States and operands that meet the hypotheses of CoreVoltage, clause by clause. -/
theorem witness_CoreVoltage :
    (let s : State := probe [(Obj.DEV_STATE, 2), (Obj.AGE_CTRL, 4), (Obj.AGE_VCORE_NOW, 700)]
    let margin : Int := 1
    let v : Nat := 710
    (2 ≤ s.devState) ∧ (s.devState ≤ 6) ∧ (s.avsRuns = true) ∧ (s.age.write = none) ∧ (margin < s.get Obj.AGE_AVS_MARGIN_LO) ∧ (s.avsLimit (s.get Obj.AGE_VCORE_NOW + 10) = v) ∧ (v ≠ s.getN Obj.AGE_VCORE_NOW)) ∧
    (let s : State := (probe [(Obj.DEV_STATE, 2), (Obj.AGE_CTRL, 4), (Obj.AGE_VCORE_NOW, 700)]).withAge fun g => { g with highSince := some 4 }
    let t : Nat := 10000000004
    let margin : Int := 1000
    let v : Nat := 695
    let h : Nat := 4
    (2 ≤ s.devState) ∧ (s.devState ≤ 6) ∧ (s.avsRuns = true) ∧ (s.age.write = none) ∧ (s.get Obj.AGE_AVS_MARGIN_LO ≤ margin) ∧ (s.get Obj.AGE_AVS_MARGIN_HI < margin) ∧ (s.age.highSince = some h) ∧ (h + 10000000000 ≤ (s.land t).now) ∧ (s.avsLimit (s.get Obj.AGE_VCORE_NOW - 5) = v) ∧ (v ≠ s.getN Obj.AGE_VCORE_NOW)) ∧
    (let s : State := probe [(Obj.DEV_STATE, 2), (Obj.AGE_CTRL, 0), (Obj.AGE_VCORE_NOW, 700)]
    (2 ≤ s.devState) ∧ (s.devState ≤ 6) ∧ (s.bit Obj.AGE_CTRL 2 = false) ∧ (s.bit Obj.AGE_AVS_STATUS 2 = false)) ∧
    (let s : State := (probe [(Obj.DEV_STATE, 4)]).withAge fun g => { g with write := some (700, 1) }
    let v : Nat := 700
    (s.age.write = some (v, 1))) ∧
    (let s : State := (probe [(Obj.DEV_STATE, 4)]).withAge fun g => { g with write := some (700, 2) }
    let v : Nat := 700
    (s.age.write = some (v, 2))) ∧
    (let s : State := (probe [(Obj.DEV_STATE, 4)]).withAge fun g => { g with write := some (700, 1) }
    let v : Nat := 700
    (s.age.write = some (v, 1))) ∧
    (let s : State := (probe [(Obj.DEV_STATE, 4)]).withAge fun g => { g with write := some (700, 2) }
    let v : Nat := 700
    (s.age.write = some (v, 2))) :=
  ⟨by decide +kernel,
   by decide +kernel,
   by decide +kernel,
   by decide +kernel,
   by decide +kernel,
   by decide +kernel,
   by decide +kernel⟩

/-- States and operands that meet the hypotheses of PlansAndReinstatement, clause by clause. -/
theorem witness_PlansAndReinstatement :
    (let s : State := (probe [(Obj.DEV_STATE, 4)]).withAge fun g => { g with appliedAt := some 5 }
    let t : Nat := 3600000000000 * 100000
    let a : Nat := 5
    (s.age.appliedAt = some a) ∧ (a + s.getN Obj.AGE_REPLAN_PERIOD * 3600000000000 ≤ (s.land t).now) ∧ (s.bit Obj.AGE_STATUS 4 = false)) ∧
    (let s : State := (granted []).put Obj.DEV_STATE 4
    let t : Nat := 9
    let f : Sender := svc
    (s.takesWrite t f Obj.AGE_REPLAN_REQ 1 = true)) ∧
    (let s : State := probe [(Obj.DEV_STATE, 4)]
    let f : Sender := ⟨24, 0⟩
    let h : Nat := 8
    (hartOf f = some h) ∧ (s.hartRuns h = true) ∧ (s.age.submitted = none)) ∧
    (let s : State := (probe [(Obj.DEV_STATE, 4)]).withAge fun g => { g with submitted := some ({ plan := { rows := [], derate := List.replicate 6 1000 }, gen := 3, allowed := true, sender := none, boundary := none } : PlanDue) }
    let f : Sender := ⟨24, 0⟩
    let h : Nat := 8
    let plan : Plan := { rows := [], derate := List.replicate 6 1000 }
    let gen : Nat := 3
    let d : PlanDue := ({ plan := { rows := [], derate := List.replicate 6 1000 }, gen := 3, allowed := true, sender := none, boundary := none } : PlanDue)
    (hartOf f = some h) ∧ (s.hartRuns h = true) ∧ (s.age.submitted = some d)) ∧
    (let s : State := (granted []).put Obj.DEV_STATE 4
    let t : Nat := 9
    let f : Sender := svc
    let data : List Nat := List.replicate planLength 0
    (data.length = planLength) ∧ ((s.land t).dictServed = true) ∧ (((s.land t).heard f).judgeWrite f .plain 0x2800 0x0C planLength data none = none) ∧ (s.age.submitted = none)) ∧
    (let s : State := (probe [(Obj.DEV_STATE, 4)]).withAge fun g => { g with submitted := some ({ plan := { rows := [], derate := List.replicate 6 1000 }, gen := 3, allowed := true, sender := none, boundary := none } : PlanDue) }
    let t : Nat := 9
    let d : PlanDue := ({ plan := { rows := [], derate := List.replicate 6 1000 }, gen := 3, allowed := true, sender := none, boundary := none } : PlanDue)
    let code : Nat := 3
    let arm : Nat := 7
    (s.age.submitted = some d) ∧ ((s.land t).planCheck d = some (code, arm)) ∧ (code ≠ 0)) ∧
    (let s : State := (probe [(Obj.DEV_STATE, 4)]).withAge fun g => { g with submitted := some ({ plan := { rows := [], derate := List.replicate 6 1000 }, gen := 0, allowed := true, sender := none, boundary := none } : PlanDue) }
    let t : Nat := 9
    let d : PlanDue := ({ plan := { rows := [], derate := List.replicate 6 1000 }, gen := 0, allowed := true, sender := none, boundary := none } : PlanDue)
    (s.age.submitted = some d) ∧ ((s.land t).planCheck d = none) ∧ (s.devRole = roleAlone)) ∧
    (let s : State := ((granted [(Obj.LNK_PAIR_ARM 0, 0), (Obj.LNK_PAIR_NODES 0, 1)]).put Obj.DEV_STATE 4).withAge fun g => { g with sms := [{ (probe []).freshSm 0 with cls := clsFaulted, status := some 0 }] }
    let t : Nat := 9
    let f : Sender := svc
    let n : Nat := 0
    let m : Sm := { (probe []).freshSm 0 with cls := clsFaulted, status := some 0 }
    (s.takesWrite t f Obj.RNK_REINSTATE n = true) ∧ (n < 7680) ∧ (s.sm n = some m)) ∧
    (let arm : Nat := 2
    (arm ≤ 6)) ∧
    (let s : State := probe [(Obj.DEV_STATE, 4), (Obj.ORB_STATUS, 1)]
    let arm : Nat := 2
    (arm < 6) ∧ (s.orbRunning = true) ∧ (s.orb.overrun = none) ∧ (s.devRole = roleAlone)) :=
  ⟨by decide +kernel,
   by decide +kernel,
   by decide +kernel,
   by decide +kernel,
   by exact ⟨List.length_replicate, by decide +kernel, by decide +kernel, by decide +kernel⟩,
   by decide +kernel,
   by decide +kernel,
   by decide +kernel,
   by decide +kernel,
   by decide +kernel⟩

/-- States and operands that meet the hypotheses of LanesComeUp, clause by clause. -/
theorem witness_LanesComeUp :
    (let s : State := (probe [(Obj.DEV_STATE, 3), (Obj.LAN_STATE 5, 3)]).withLane 5 fun l => { l with attempt := 1 }
    let t : Nat := 30000000
    let k : Nat := 5
    let l : Lane := { Lane.reset with attempt := 1 }
    let ms : Nat := 30
    (k < 50) ∧ (s.lane k = some l) ∧ (l.attempt = 1) ∧ (1 ≤ s.lanState k) ∧ (s.lanState k ≤ 4) ∧ (laneLimit (s.lanState k) = some ms) ∧ (l.stateAt + ms * 1000000 ≤ (s.land t).now)) ∧
    (let s : State := (probe [(Obj.DEV_STATE, 3), (Obj.LAN_STATE 5, 2)]).withLane 5 fun l => { l with attempt := 2 }
    let t : Nat := 2000000
    let k : Nat := 5
    let l : Lane := { Lane.reset with attempt := 2 }
    let ms : Nat := 2
    (k < 50) ∧ (s.lane k = some l) ∧ (l.attempt ≠ 1) ∧ (1 ≤ s.lanState k) ∧ (s.lanState k ≤ 4) ∧ (laneLimit (s.lanState k) = some ms) ∧ (l.stateAt + ms * 1000000 ≤ (s.land t).now)) ∧
    (let s : State := (probe [(Obj.DEV_STATE, 3), (Obj.LAN_STATE 5, 7)]).withLane 5 fun l => { l with attempt := 2 }
    let t : Nat := 100000000
    let k : Nat := 5
    let l : Lane := { Lane.reset with attempt := 2 }
    (k < 50) ∧ (s.lane k = some l) ∧ (s.lanState k = lanDown) ∧ (l.stateAt + 100000000 ≤ (s.land t).now)) ∧
    (let s : State := (probe [(Obj.DEV_STATE, 3), (Obj.LAN_STATE 5, 1)]).withLane 5 fun l => { l with attempt := 2 }
    let k : Nat := 5
    let l : Lane := { Lane.reset with attempt := 2 }
    let d2 : Nat := 31
    let d3 : Nat := 4
    (32 ≤ d2 ∨ 4 ≤ d3) ∧ (k < 50) ∧ (s.lane k = some l)) ∧
    (let s : State := (probe [(Obj.DEV_STATE, 3), (Obj.LAN_STATE 5, 1), (Obj.LAN_RATE_SET 5, 6)]).withLane 5 fun l => { l with capSeen := 0x1F, capRun := 15 }
    let k : Nat := 5
    let l : Lane := { Lane.reset with capSeen := 0x1F, capRun := 15 }
    let d2 : Nat := 0x1F
    let d3 : Nat := 0
    let r : Nat := 1
    (k < 50) ∧ (s.lane k = some l) ∧ (s.lanState k = Sys2Proof.Machine.lanCap) ∧ (d2 < 32) ∧ (d3 < 4) ∧ (l.capSeen = d2 + 256 * d3) ∧ (15 ≤ l.capRun) ∧ (bitOf d3 0 = false) ∧ (l.ackSent = false) ∧ (s.lanCommon k d2 = some r)) ∧
    (let s : State := (probe [(Obj.DEV_STATE, 3), (Obj.LAN_STATE 5, 1), (Obj.LAN_RATE_SET 5, 6)]).withLane 5 fun l => { l with capSeen := 0x10, capRun := 15 }
    let k : Nat := 5
    let l : Lane := { Lane.reset with capSeen := 0x10, capRun := 15 }
    let d2 : Nat := 0x10
    let d3 : Nat := 0
    (k < 50) ∧ (s.lane k = some l) ∧ (s.lanState k = Sys2Proof.Machine.lanCap) ∧ (d2 < 32) ∧ (d3 < 4) ∧ (l.capSeen = d2 + 256 * d3) ∧ (15 ≤ l.capRun) ∧ (l.ackSent = false) ∧ (s.lanCommon k d2 = none) ∧ (s.bit (Obj.LAN_STATUS k) 2 = false)) ∧
    (let s : State := (probe [(Obj.DEV_STATE, 3), (Obj.LAN_STATE 5, 1), (Obj.LAN_RATE_SET 5, 6)]).withLane 5 fun l => { l with ackSent := true, rate := 1, ackRun := 15 }
    let k : Nat := 5
    let l : Lane := { Lane.reset with ackSent := true, rate := 1, ackRun := 15 }
    let d2 : Nat := 0x1F
    let d3 : Nat := 1
    let r : Nat := 1
    (k < 50) ∧ (s.lane k = some l) ∧ (s.lanState k = Sys2Proof.Machine.lanCap) ∧ (d2 < 32) ∧ (d3 < 4) ∧ (bitOf d3 0 = true) ∧ (15 ≤ l.ackRun) ∧ (l.ackSent = true) ∧ (s.lanCommon k d2 = some r)) ∧
    (let s : State := (probe [(Obj.DEV_STATE, 3), (Obj.LAN_STATE 5, 1)]).withLane 5 fun l => { l with ackSent := true, rate := 1 }
    let k : Nat := 5
    let l : Lane := { Lane.reset with ackSent := true, rate := 1 }
    (k < 50) ∧ (s.lane k = some l) ∧ (s.lanState k = Sys2Proof.Machine.lanCap ∧ l.ackSent = true ∨ s.lanState k = lanSwitch) ∧ (l.rate < 8)) ∧
    (let s : State := (probe [(Obj.DEV_STATE, 3), (Obj.LAN_STATE 5, 2)]).withLane 5 fun l => { l with attempt := 1, rate := 1 }
    let k : Nat := 5
    let l : Lane := { Lane.reset with attempt := 1, rate := 1 }
    let d2 : Nat := 0
    (k < 50) ∧ (s.lane k = some l) ∧ (1 ≤ s.lanState k) ∧ (s.lanState k ≤ 4) ∧ (d2 < 8) ∧ (d2 ≠ l.rate) ∧ (l.attempt = 1)) ∧
    (let s : State := (probe [(Obj.DEV_STATE, 3), (Obj.LAN_STATE 5, 2)]).withLane 5 fun l => { l with flat := 5 }
    let k : Nat := 5
    let l : Lane := { Lane.reset with flat := 5 }
    (k < 50) ∧ (s.lane k = some l) ∧ (s.lanState k = lanSwitch)) ∧
    (let s : State := (probe [(Obj.DEV_STATE, 3), (Obj.LAN_STATE 5, 3), (Obj.LAN_TX_TAPS 5, 0x8684), (Obj.LAN_TX_INIT 5, 0x8684)]).withLane 5 fun l => { l with answered := some (6, 0) }
    let k : Nat := 5
    let l : Lane := { Lane.reset with answered := some (6, 0) }
    let d2 : Nat := 0x10
    let seq : Nat := 7
    (k < 50) ∧ (s.lane k = some l) ∧ (s.lanState k = lanTrain) ∧ (bitOf d2 7 = false) ∧ (bitOf d2 6 = false) ∧ (l.answered.map (·.1) ≠ some seq)) ∧
    (let s : State := (probe [(Obj.DEV_STATE, 3), (Obj.LAN_STATE 5, 3)]).withLane 5 fun l => { l with answered := some (6, 3) }
    let k : Nat := 5
    let l : Lane := { Lane.reset with answered := some (6, 3) }
    let d2 : Nat := 0x10
    let seq : Nat := 6
    let st : Nat := 3
    (k < 50) ∧ (s.lane k = some l) ∧ (s.lanState k = lanTrain) ∧ (bitOf d2 7 = false) ∧ (bitOf d2 6 = false) ∧ (l.answered = some (seq, st))) ∧
    (let s : State := (probe [(Obj.DEV_STATE, 3), (Obj.LAN_STATE 5, 3)]).withLane 5 fun l => { l with ready := true, readyRun := 31 }
    let k : Nat := 5
    let l : Lane := { Lane.reset with ready := true, readyRun := 31 }
    let d2 : Nat := 0x40
    (k < 50) ∧ (s.lane k = some l) ∧ (s.lanState k = lanTrain) ∧ (bitOf d2 7 = false) ∧ (bitOf d2 6 = true) ∧ (l.ready = true) ∧ (31 ≤ l.readyRun)) ∧
    (let s : State := (probe [(Obj.DEV_STATE, 3), (Obj.LAN_STATE 5, 3)]).withLane 5 fun l => { l with waiting := true, seq := 9 }
    let k : Nat := 5
    let l : Lane := { Lane.reset with waiting := true, seq := 9 }
    let d2 : Nat := 0x10
    (k < 50) ∧ (s.lane k = some l) ∧ (s.lanState k = lanTrain) ∧ (d2 < 64) ∧ (l.waiting = true)) ∧
    (let s : State := (probe [(Obj.DEV_STATE, 3), (Obj.LAN_STATE 5, 3)]).withLane 5 fun l => { l with seq := 255 }
    let k : Nat := 5
    let l : Lane := { Lane.reset with seq := 255 }
    (k < 50) ∧ (s.lane k = some l) ∧ (s.lanState k = lanTrain) ∧ (l.ready = false) ∧ (l.waiting = false) ∧ (l.trial = false) ∧ (l.flat < 6) ∧ (s.getN (Obj.LAN_REQ_COUNT k) < 64)) ∧
    (let s : State := (probe [(Obj.DEV_STATE, 3), (Obj.LAN_STATE 5, 3)]).withLane 5 fun l => { l with trial := true, made := true, base := 30 }
    let k : Nat := 5
    let l : Lane := { Lane.reset with trial := true, made := true, base := 30 }
    let height : Int := 30
    (k < 50) ∧ (s.lane k = some l) ∧ (s.lanState k = lanTrain) ∧ (l.ready = false) ∧ (l.waiting = false) ∧ (l.trial = true) ∧ (l.made = true) ∧ (height ≤ l.base) ∧ (s.getN (Obj.LAN_REQ_COUNT k) < 64)) ∧
    (let s : State := (probe [(Obj.DEV_STATE, 3), (Obj.LAN_STATE 5, 3)]).withLane 5 fun l => { l with flat := 6 }
    let k : Nat := 5
    let l : Lane := { Lane.reset with flat := 6 }
    (k < 50) ∧ (s.lane k = some l) ∧ (s.lanState k = lanTrain) ∧ (l.ready = false) ∧ (l.waiting = false) ∧ (l.trial = false) ∧ (6 ≤ l.flat ∨ 64 ≤ s.getN (Obj.LAN_REQ_COUNT k))) ∧
    (let s : State := (probe [(Obj.DEV_STATE, 3), (Obj.LAN_STATE 5, 4)]).withLane 5 fun l => { l with attempt := 2, startAt := 7 }
    let t : Nat := 3240007
    let k : Nat := 5
    let l : Lane := { Lane.reset with attempt := 2, startAt := 7 }
    (k < 50) ∧ (s.lane k = some l) ∧ (s.lanState k = lanVerify) ∧ (l.stateAt + 1000000 ≤ (s.land t).now)) :=
  ⟨by decide +kernel,
   by decide +kernel,
   by decide +kernel,
   by decide +kernel,
   by decide +kernel,
   by decide +kernel,
   by decide +kernel,
   by decide +kernel,
   by decide +kernel,
   by decide +kernel,
   by decide +kernel,
   by decide +kernel,
   by decide +kernel,
   by decide +kernel,
   by decide +kernel,
   by decide +kernel,
   by decide +kernel,
   by decide +kernel⟩

/-- States and operands that meet the hypotheses of LanesRunAndAreTested, clause by clause. -/
theorem witness_LanesRunAndAreTested :
    (let s : State := (pairState.put (Obj.LAN_STATE 1) 5)
    let k : Nat := 1
    (k < 50) ∧ (s.lanState k = lanActive)) ∧
    (let s : State := (probe [(Obj.DEV_STATE, 3), (Obj.LAN_STATE 5, 3)]).withLane 5 fun l => { l with attempt := 1 }
    let k : Nat := 5
    let l : Lane := { Lane.reset with attempt := 1 }
    (k < 50) ∧ (s.lane k = some l) ∧ (s.lanState k = lanTrain ∨ s.lanState k = lanVerify) ∧ (l.attempt = 1)) ∧
    (let s : State := probe [(Obj.LAN_STATE 48, 5), (Obj.LAN_STATUS 48, 0x21)]
    let k : Nat := 48
    (k < 50) ∧ (s.lanState k = lanActive) ∧ (s.bit (Obj.LAN_STATUS k) 5 = true)) ∧
    (let s : State := probe [(Obj.LAN_STATE 48, 6)]
    let k : Nat := 48
    (k < 50) ∧ (s.lanState k = lanRelock)) ∧
    (let s : State := (probe [(Obj.DEV_STATE, 3), (Obj.LAN_STATE 5, 6)]).withLane 5 fun l => { l with attempt := 2 }
    let t : Nat := 1000000
    let k : Nat := 5
    let l : Lane := { Lane.reset with attempt := 2 }
    (k < 50) ∧ (s.lane k = some l) ∧ (s.lanState k = lanRelock) ∧ (l.stateAt + 1000000 ≤ (s.land t).now)) ∧
    (let s : State := probe [(Obj.LAN_STATE 48, 5)]
    let k : Nat := 48
    (k < 50) ∧ (s.lanState k = lanActive) ∧ (s.lanSleeps k = true)) ∧
    (let s : State := probe [(Obj.LAN_STATE 48, 5), (Obj.LAN_SLEEP_CFG 48, 1)]
    let k : Nat := 48
    (k < 50) ∧ (s.lanState k = lanActive) ∧ (s.lanSleeps k = true) ∧ (s.bit (Obj.LAN_SLEEP_CFG k) 0 = true) ∧ (s.bit (Obj.LAN_STATUS k) 4 = false)) ∧
    (let s : State := probe [(Obj.LAN_STATE 48, 5), (Obj.LAN_STATUS 48, 0x10)]
    let k : Nat := 48
    (k < 50) ∧ (s.bit (Obj.LAN_STATUS k) 4 = true)) ∧
    (let s : State := (probe [(Obj.DEV_STATE, 3), (Obj.LAN_STATE 5, 5)]).withLane 5 fun l => { l with headers := 3 }
    let k : Nat := 5
    let l : Lane := { Lane.reset with headers := 3 }
    let j : Nat := 14
    (k < 50) ∧ (s.lane k = some l) ∧ (s.lanState k = lanActive) ∧ (berBin l.headers (60 * laneRate (s.getN (Obj.LAN_RATE_NOW k))) = j)) ∧
    (let s : State := ((granted [(Obj.LAN_STATE 5, 5), (Obj.LAN_EYE_LANE, 5)]).put Obj.DEV_STATE 3)
    let t : Nat := 9
    let f : Sender := svc
    (s.takesWrite t f Obj.LAN_EYE_START 1 = true)) ∧
    (let s : State := (let s := (granted [(Obj.LAN_STATE 5, 5)]).put Obj.DEV_STATE 3; ({ s with lan := { s.lan with scan := some { lane := 5, rate := 0, dwell := 16, gen := 0, start := 0, taps := 0, startAt := 0, counts := [] } } } : State))
    let t : Nat := 9
    let f : Sender := svc
    let e : Eye := { lane := 5, rate := 0, dwell := 16, gen := 0, start := 0, taps := 0, startAt := 0, counts := [] }
    (s.takesWrite t f Obj.LAN_EYE_ABORT 1 = true) ∧ (s.lan.scan = some e) ∧ (e.lane < 50)) ∧
    (let s : State := (let s := (granted [(Obj.LAN_STATE 5, 5)]).put Obj.DEV_STATE 3; ({ s with lan := { s.lan with scan := some { lane := 5, rate := 0, dwell := 16, gen := 0, start := 0, taps := 0, startAt := 0, counts := [] } } } : State))
    let t : Nat := 60000000000
    let counts : List (Nat × Nat) := [(7, 9)]
    let e : Eye := { lane := 5, rate := 0, dwell := 16, gen := 0, start := 0, taps := 0, startAt := 0, counts := [] }
    let g : Nat := 0
    (s.lan.scan = some e) ∧ (e.lane < 50) ∧ (8192 ≤ (s.land t).eyeProgress) ∧ ((if s.hasData Obj.LAN_EYE_GEN then s.getN Obj.LAN_EYE_GEN else 0) = g)) ∧
    (let s : State := granted []
    let t : Nat := 9
    let f : Sender := svc
    let k : Nat := 5
    let v : Nat := 0x30
    (k < 50) ∧ (v < 256) ∧ (s.takesWrite t f (Obj.LAN_LOOPBACK k) v = true)) :=
  ⟨by decide +kernel,
   by decide +kernel,
   by decide +kernel,
   by decide +kernel,
   by decide +kernel,
   by decide +kernel,
   by decide +kernel,
   by decide +kernel,
   by decide +kernel,
   by decide +kernel,
   by decide +kernel,
   by decide +kernel,
   by decide +kernel⟩

/-- States and operands that meet the hypotheses of CrossLinkReceives, clause by clause. -/
theorem witness_CrossLinkReceives :
    (let s : State := (let s := (((tided { idleTide with role := 1 }).put Obj.DEV_STATE 4).put Obj.RED_CTRL 1).put (Obj.LAN_STATE 48) 5; ({ s with red := { s.red with headNew := false } } : State))
    let t : Nat := 9
    let lane : Nat := 0
    let head : Head := { cycle := 7, launch := 100, length := 40, next := 40, tide := { idleTide with role := 1, stretch := true, epoch := 9, stateGen := 3 }, swing := SwingStream.reset, ride := Frt.reset.core, firmware := [] }
    (s.xlCarries lane = true) ∧ (s.hasPartner = true) ∧ (3 ≤ s.devState) ∧ (s.devState ≤ 6) ∧ (signed 32 ((s.land t).time32 + 2 ^ 32 - (head.launch + 250 * head.length) % 2 ^ 32) < 0) ∧ (s.red.headNew = false)) ∧
    (let s : State := (let s := (((tided { idleTide with role := 1 }).put Obj.DEV_STATE 4).put Obj.RED_CTRL 1).put (Obj.LAN_STATE 48) 5; ({ s with red := { s.red with headNew := false } } : State))
    let t : Nat := 10100
    let valid : Bool := true
    let head : Head := { cycle := 7, launch := 100, length := 40, next := 40, tide := { idleTide with role := 1, stretch := true, epoch := 9, stateGen := 3 }, swing := SwingStream.reset, ride := Frt.reset.core, firmware := [] }
    (valid = false ∨ s.hasPartner = false ∨ 0 ≤ signed 32 ((s.land t).time32 + 2 ^ 32 - (head.launch + 250 * head.length) % 2 ^ 32))) ∧
    (let s : State := (let s := (((tided { idleTide with role := 1 }).put Obj.DEV_STATE 4).put Obj.RED_CTRL 1).put (Obj.LAN_STATE 48) 5; ({ s with red := { s.red with applied := 5 } } : State))
    let lane : Nat := 0
    let r : ChangeRecord := { gen := 6, boundary := 9, change := .epoch 3 }
    (s.xlCarries lane = true) ∧ (s.hasPartner = true) ∧ (3 ≤ s.devState) ∧ (s.devState ≤ 6) ∧ (s.devRole = roleStandby) ∧ (s.red.toApply = []) ∧ (r.gen = s.red.applied + 1) ∧ (orbLater r.boundary s.orbCount = true)) ∧
    (let s : State := (let s := (((tided { idleTide with role := 1 }).put Obj.DEV_STATE 4).put Obj.RED_CTRL 1).put (Obj.LAN_STATE 48) 5; ({ s with red := { s.red with own := [(3, List.replicate 6 { digest := 5, n := 3, edge := 1, held := 0, sigma := 1, carry := 0 })] } } : State))
    let lane : Nat := 0
    let n : Nat := 3
    let a : Nat := 2
    let x : ArmRecord := { digest := 6, n := 3, edge := 1, held := 0, sigma := 1, carry := 0 }
    let o : ArmRecord := { digest := 5, n := 3, edge := 1, held := 0, sigma := 1, carry := 0 }
    let l : List ArmRecord := List.replicate 6 { digest := 5, n := 3, edge := 1, held := 0, sigma := 1, carry := 0 }
    (s.xlCarries lane = true) ∧ (s.hasPartner = true) ∧ (3 ≤ s.devState) ∧ (s.devState ≤ 6) ∧ (s.devRole = roleStandby) ∧ (s.partnerLost = false) ∧ (s.red.toApply = []) ∧ (a < 6) ∧ ((s.red.own.find? fun e => e.1 == n).map (·.2) = some l) ∧ (l[a]? = some o) ∧ (x.digest ≠ o.digest) ∧ (x.held = 0) ∧ (o.held = 0) ∧ (s.red.unexplained = none)) ∧
    (let s : State := (let s := ((((tided { idleTide with role := 1 }).put Obj.DEV_STATE 4).put Obj.RED_CTRL 1).put (Obj.LAN_STATE 48) 5).put Obj.RED_RESYNC_PHASE 3; ({ s with red := { s.red with attempt := 1 } } : State))
    let lane : Nat := 0
    (lane < 2) ∧ (s.lanUp (48 + lane) = true) ∧ (s.hasPartner = true) ∧ (s.resyncOn = true) ∧ (s.getN Obj.RED_RESYNC_PHASE = 3)) ∧
    (let s : State := (let s := ((((tided { idleTide with role := 1 }).put Obj.DEV_STATE 4).put Obj.RED_CTRL 1).put (Obj.LAN_STATE 48) 5).put Obj.RED_RESYNC_PHASE 3; ({ s with red := { s.red with attempt := 1 } } : State))
    let lane : Nat := 0
    (lane < 2) ∧ (s.lanUp (48 + lane) = true) ∧ (s.hasPartner = true) ∧ (s.resyncOn = true) ∧ (s.getN Obj.RED_RESYNC_PHASE = 3) ∧ (s.red.blockBad = false)) ∧
    (let s : State := (let s := ((((tided { idleTide with role := 1 }).put Obj.DEV_STATE 4).put Obj.RED_CTRL 1).put (Obj.LAN_STATE 48) 5).put Obj.RED_RESYNC_PHASE 3; ({ s with red := { s.red with attempt := 1, blockBad := true } } : State))
    let lane : Nat := 0
    (lane < 2) ∧ (s.lanUp (48 + lane) = true) ∧ (s.hasPartner = true) ∧ (s.red.attempt = 1) ∧ (s.getN Obj.RED_RESYNC_PHASE = 3) ∧ (s.red.blockBad = true)) ∧
    (let s : State := (let s := (((tided { idleTide with role := 1 }).put Obj.DEV_STATE 4).put Obj.RED_CTRL 1).put (Obj.LAN_STATE 48) 5; ({ s with red := { s.red with attempt := 0 } } : State))
    let lane : Nat := 0
    (lane < 2) ∧ (s.lanUp (48 + lane) = true) ∧ (s.hasPartner = true)) ∧
    (let s : State := (let s := (((tided { idleTide with role := 1 }).put Obj.DEV_STATE 4).put Obj.RED_CTRL 1).put (Obj.LAN_STATE 48) 5; ({ s with red := { s.red with attempt := 0 } } : State))
    let lane : Nat := 0
    (lane < 2) ∧ (s.lanUp (48 + lane) = true) ∧ (s.hasPartner = true) ∧ (s.devRole = roleStandby)) ∧
    (let s : State := (let s := probe [(Obj.DEV_STATE, 3), (Obj.RED_CTRL, 1)]; ({ s with red := { s.red with latency := [some 700, none] } } : State))
    let lane : Nat := 1
    let trip : Nat := 1500
    let turn : Nat := 200
    let l : List (Option Nat) := [some 700, some 650]
    (s.devState = stLinkup) ∧ (lane < 2) ∧ (s.hasPartner = true) ∧ (s.red.latency.set lane (some ((trip - turn) / 2)) = l)) ∧
    (let s : State := (let s := (((tided { idleTide with role := 1 }).put Obj.DEV_STATE 4).put Obj.RED_CTRL 1).put (Obj.LAN_STATE 48) 5; ({ s with red := { s.red with attempt := 0 } } : State))
    let width : Nat := 1000
    (s.hasPartner = true) ∧ (3 ≤ s.devState) ∧ (s.devState ≤ 6) ∧ (s.clk.sleep = 0 ∨ tideWidth width = false)) ∧
    (let s : State := (probe [(Obj.DEV_STATE, 7), (Obj.PWR_WAKE_EN, 2)]).withClk fun k => { k with sleep := 3 }
    let width : Nat := 1000
    (tideWidth width = true) ∧ (bitOf s.wakeEnabled 1 = true) ∧ (s.clk.sleep = 3)) :=
  ⟨by decide +kernel,
   by decide +kernel,
   by decide +kernel,
   by decide +kernel,
   by decide +kernel,
   by decide +kernel,
   by decide +kernel,
   by decide +kernel,
   by decide +kernel,
   by decide +kernel,
   by decide +kernel,
   by decide +kernel⟩

/-- States and operands that meet the hypotheses of ClaimsAndResynchronisation, clause by clause. -/
theorem witness_ClaimsAndResynchronisation :
    (let s : State := (let s := (((((((tided { idleTide with role := 1 }).put Obj.DEV_STATE 4).put Obj.RED_CTRL 1).put (Obj.LAN_STATE 48) 5).put Obj.ORB_STATUS 1).put Obj.ORB_COUNT 4).put Obj.RED_STATUS 0x18).put Obj.RED_EPOCH 0xFFFF; ({ s with red := { s.red with claimAt := some 4 } } : State))
    let n : Nat := 4
    (s.orbRunning = true) ∧ (s.red.claimAt = some n) ∧ (orbLater n s.orbCount = false) ∧ (s.red.claimSwap = false) ∧ (s.devRole = roleStandby) ∧ (s.devState = stBlocked ∨ s.devState = stRun)) ∧
    (let s : State := (let s := (((((tided { idleTide with role := 1 }).put Obj.DEV_STATE 4).put Obj.RED_CTRL 1).put (Obj.LAN_STATE 48) 5).put Obj.ORB_STATUS 1).put Obj.ORB_COUNT 3; ({ s with red := { s.red with claimAt := some 4 } } : State))
    (s.holdoffOver = false)) ∧
    (let s : State := (let s := ((((tided { idleTide with role := 1 }).put Obj.DEV_STATE 4).put Obj.RED_CTRL 1).put (Obj.LAN_STATE 48) 5).put Obj.ORB_COUNT 5; ({ s with red := { s.red with records := [{ record := { gen := 6, boundary := 9, change := .epoch 3 }, sent := [3] }] } } : State))
    let r : SentRecord := { record := { gen := 6, boundary := 9, change := .epoch 3 }, sent := [3] }
    let n : Nat := 3
    (s.red.records = [r]) ∧ (r.sent = [n]) ∧ (2 ≤ (s.orbCount + 2 ^ 32 - n % 2 ^ 32) % 2 ^ 32)) ∧
    (let s : State := (let s := ((((tided { idleTide with role := 1 }).put Obj.DEV_STATE 4).put Obj.RED_CTRL 1).put (Obj.LAN_STATE 48) 5).put Obj.ORB_COUNT 5; ({ s with red := { s.red with records := [{ record := { gen := 6, boundary := 9, change := .epoch 3 }, sent := [3, 1] }] } } : State))
    let r : SentRecord := { record := { gen := 6, boundary := 9, change := .epoch 3 }, sent := [3, 1] }
    let n : Nat := 3
    let m : Nat := 1
    (s.red.records = [r]) ∧ (r.sent = [n, m]) ∧ (2 ≤ (s.orbCount + 2 ^ 32 - n % 2 ^ 32) % 2 ^ 32)) ∧
    (let s : State := ((granted [(Obj.DEV_ROLE, 3), (Obj.RED_CTRL, 1)]).put Obj.DEV_STATE 4)
    let t : Nat := 9
    let f : Sender := svc
    (s.takesWrite t f Obj.RED_RESYNC_REQ 1 = true)) ∧
    (let s : State := (let s := (((((tided { idleTide with role := 1 }).put Obj.DEV_STATE 4).put Obj.RED_CTRL 1).put (Obj.LAN_STATE 48) 5).put Obj.DEV_ROLE 3).put Obj.RED_CTRL 3; ({ s with red := { s.red with wanted := true } } : State))
    (s.red.wanted = true) ∧ (s.resyncAllowed = true) ∧ (s.bit Obj.RED_CTRL 1 = true) ∧ (s.hasPartner = true)) ∧
    (let s : State := (let s := ((((((tided { idleTide with role := 1 }).put Obj.DEV_STATE 4).put Obj.RED_CTRL 1).put (Obj.LAN_STATE 48) 5).put Obj.RED_STATUS 1).put Obj.RED_RESYNC_PHASE 1).put Obj.DEV_ROLE 3; ({ s with red := { s.red with attempt := 1 } } : State))
    let d : Tide := { idleTide with role := 1 }
    (s.tide = some d) ∧ (s.resyncOn = true) ∧ (s.partnerSeen = true) ∧ (s.devRole = roleStale) ∧ (s.getN Obj.RED_RESYNC_PHASE = 1) ∧ (d.role ≤ 1)) ∧
    (let s : State := (let s := ((((((tided { idleTide with role := 1 }).put Obj.DEV_STATE 4).put Obj.RED_CTRL 1).put (Obj.LAN_STATE 48) 5).put Obj.RED_STATUS 1).put Obj.RED_RESYNC_PHASE 2).put Obj.DEV_ROLE 3; ({ s with red := { s.red with attempt := 1 } } : State))
    let d : Tide := { idleTide with role := 1 }
    (s.tide = some d) ∧ (s.resyncOn = true) ∧ (s.partnerSeen = true) ∧ (s.devRole = roleStale) ∧ (s.getN Obj.RED_RESYNC_PHASE = 2)) ∧
    (let s : State := (let s := ((((((tided { idleTide with role := 1 }).put Obj.DEV_STATE 4).put Obj.RED_CTRL 1).put (Obj.LAN_STATE 48) 5).put Obj.RED_STATUS 1).put Obj.RED_RESYNC_PHASE 3).put Obj.DEV_ROLE 3; ({ s with red := { s.red with attempt := 1, image := some { gen := 5, epoch := 8, entries := [], classes := [], descriptors := [(16, 3)], ageing := { records := [], plan := none, siDrift := 0 } } } } : State))
    let d : Tide := { idleTide with role := 1 }
    (s.tide = some d) ∧ (s.resyncOn = true) ∧ (s.partnerSeen = true) ∧ (s.devRole = roleStale) ∧ (s.getN Obj.RED_RESYNC_PHASE = 3) ∧ (s.red.image.isSome = true ∨ s.resyncSource d = true)) ∧
    (let s : State := (let s := ((((((tided { idleTide with role := 1 }).put Obj.DEV_STATE 4).put Obj.RED_CTRL 1).put (Obj.LAN_STATE 48) 5).put Obj.RED_STATUS 1).put Obj.RED_RESYNC_PHASE 4).put Obj.DEV_ROLE 3; ({ s with red := { s.red with attempt := 1, image := some { gen := 5, epoch := 8, entries := [], classes := [], descriptors := [(16, 3)], ageing := { records := [], plan := none, siDrift := 0 } } } } : State))
    let d : Tide := { idleTide with role := 1 }
    let img : DurableImage := { gen := 5, epoch := 8, entries := [], classes := [], descriptors := [(16, 3)], ageing := { records := [], plan := none, siDrift := 0 } }
    (s.tide = some d) ∧ (s.resyncOn = true) ∧ (s.partnerSeen = true) ∧ (s.devRole = roleStale) ∧ (s.getN Obj.RED_RESYNC_PHASE = 4) ∧ (s.red.image = some img) ∧ (s.resyncSource d = false) ∧ (img.entries = []) ∧ (s.red.toApply = [])) ∧
    (let s : State := (let s := ((((((tided { idleTide with role := 1 }).put Obj.DEV_STATE 4).put Obj.RED_CTRL 1).put (Obj.LAN_STATE 48) 5).put Obj.RED_STATUS 1).put Obj.RED_RESYNC_PHASE 5).put Obj.DEV_ROLE 3; ({ s with red := { s.red with attempt := 1 } } : State))
    let d : Tide := { idleTide with role := 1 }
    (s.tide = some d) ∧ (s.resyncOn = true) ∧ (s.partnerSeen = true) ∧ (s.devRole = roleStale) ∧ (s.getN Obj.RED_RESYNC_PHASE = 5) ∧ (d.role ≤ 1)) ∧
    (let s : State := (let s := ((((((tided { idleTide with role := 1 }).put Obj.DEV_STATE 4).put Obj.RED_CTRL 1).put (Obj.LAN_STATE 48) 5).put Obj.RED_STATUS 1).put Obj.RED_RESYNC_PHASE 5).put Obj.DEV_ROLE 3; ({ s with red := { s.red with attempt := 1 } } : State))
    let d : Tide := { idleTide with role := 1 }
    (s.tide = some d) ∧ (s.resyncOn = true) ∧ (s.partnerSeen = true) ∧ (s.devRole = roleStale) ∧ (s.getN Obj.RED_RESYNC_PHASE = 5) ∧ (s.red.attempt = 1)) ∧
    (let s : State := (let s := ((((((tided { idleTide with role := 1 }).put Obj.DEV_STATE 4).put Obj.RED_CTRL 1).put (Obj.LAN_STATE 48) 5).put Obj.RED_STATUS 1).put Obj.RED_RESYNC_PHASE 1).put Obj.DEV_ROLE 3; ({ s with red := { s.red with attempt := 1 } } : State))
    let t : Nat := 100000000
    (s.red.attempt = 1) ∧ (s.red.phaseAt + s.resyncLimit ≤ (s.land t).now)) ∧
    (let s : State := (let s := ((((((tided { idleTide with role := 1 }).put Obj.DEV_STATE 4).put Obj.RED_CTRL 1).put (Obj.LAN_STATE 48) 5).put Obj.RED_STATUS 1).put Obj.RED_RESYNC_PHASE 1).put Obj.DEV_ROLE 3; ({ s with red := { s.red with attempt := 2 } } : State))
    let t : Nat := 100000000
    (s.red.attempt = 2) ∧ (s.red.phaseAt + s.resyncLimit ≤ (s.land t).now)) ∧
    (let s : State := ((granted [(Obj.DEV_ROLE, 3), (Obj.RED_CTRL, 1)]).put Obj.DEV_STATE 4)
    let t : Nat := 9
    let f : Sender := svc
    (s.takesWrite t f Obj.RED_PARTNER_ABSENT 1 = true)) ∧
    (let s : State := ((granted [(Obj.DEV_ROLE, 0), (Obj.RED_CTRL, 1), (Obj.RED_PARTNER_ABSENT, 1)]).put Obj.DEV_STATE 5)
    let t : Nat := 9
    let f : Sender := svc
    (s.takesWrite t f Obj.RED_PARTNER_ABSENT 0 = true) ∧ (s.get Obj.RED_PARTNER_ABSENT = 1)) ∧
    (let s : State := (let s := paired; ({ s with red := { s.red with headHit := true, head := s.red.head.map fun h => { h with tide := { idleTide with role := 2, hot := true } } } } : State))
    let t : Nat := 9
    let f : Sender := svc
    (s.takesWrite t f Obj.RED_SWAP_REQ 1 = true)) :=
  ⟨by decide +kernel,
   by decide +kernel,
   by decide +kernel,
   by decide +kernel,
   by decide +kernel,
   by decide +kernel,
   by decide +kernel,
   by decide +kernel,
   by decide +kernel,
   by decide +kernel,
   by decide +kernel,
   by decide +kernel,
   by decide +kernel,
   by decide +kernel,
   by decide +kernel,
   by decide +kernel,
   by decide +kernel⟩

/-- States and operands that meet the hypotheses of TheCounterIsDisciplined, clause by clause. -/
theorem witness_TheCounterIsDisciplined :
    (let s : State := (probe [(Obj.DEV_STATE, 2), (Obj.CLK_PLL_STATUS 4, 1)])
    (s.devState ≠ stReset) ∧ (s.devState ≠ stLunar)) ∧
    (let s : State := (probe [(Obj.DEV_STATE, 7), (Obj.CLK_PLL_STATUS 4, 1)])
    (s.devState = stLunar)) ∧
    (let s : State := (probe [(Obj.DEV_STATE, 2), (Obj.CLK_PLL_STATUS 4, 1), (Obj.TIM_STATUS, 3)])
    let h : Nat := 8
    (s.hartRuns h = true)) ∧
    (let s : State := (probe [(Obj.DEV_STATE, 2), (Obj.CLK_PLL_STATUS 4, 1), (Obj.TIM_STATUS, 1)])
    let t : Nat := 2000000001
    (s.timWorks = true) ∧ ((s.land t).shadowOld = true) ∧ (s.bit Obj.TIM_STATUS 1 = false)) ∧
    (let s : State := (probe [(Obj.DEV_STATE, 2), (Obj.CLK_PLL_STATUS 4, 1), (Obj.TIM_CTRL, 2)])
    let port : Nat := 0
    (s.ptpHeard port = true)) ∧
    (let s : State := ((probe [(Obj.DEV_STATE, 2), (Obj.CLK_PLL_STATUS 4, 1), (Obj.TIM_CTRL, 3), (Obj.TIM_PTP_PORT, 0), (Obj.TIM_STATE, 0)]).withTim fun u => { u with peerValid := [true, false] })
    let port : Nat := 0
    let stamp : Nat := 500
    let frac : Nat := 0
    let origin : Int := 16000
    let o : Int := -500
    (s.ptpHeard port = true) ∧ (s.getN Obj.TIM_PTP_PORT = port) ∧ (s.syncOffset port stamp frac origin = o) ∧ (s.timState = 0) ∧ (s.bit Obj.TIM_CTRL 0 = true) ∧ (s.tim.peerValid.getD port false = true) ∧ (s.tim.pendingStep = none) ∧ (s.orbRunning = false)) ∧
    (let s : State := ((probe [(Obj.DEV_STATE, 2), (Obj.CLK_PLL_STATUS 4, 1), (Obj.TIM_CTRL, 3), (Obj.TIM_PTP_PORT, 0), (Obj.TIM_STATE, 2), (Obj.TIM_SERVO_TAU, 1000), (Obj.TIM_SLEW_MAX, 1000)]).withTim fun u => { u with lastSample := some 9 })
    let t : Nat := 1000000009
    let port : Nat := 0
    let stamp : Nat := 500
    let frac : Nat := 0
    let origin : Int := 6400
    let o : Int := 100
    let n : Nat := 9
    let p : Rat := -100
    let f : Rat := -25
    (s.ptpHeard port = true) ∧ (s.getN Obj.TIM_PTP_PORT = port) ∧ (s.syncOffset port stamp frac origin = o) ∧ (s.timState = 2) ∧ (absInt o ≤ 1000000) ∧ (absInt o ≤ s.get Obj.TIM_LOCK_LIMIT) ∧ (s.tim.lastSample = some n) ∧ (clampQ (-((s.get Obj.TIM_SLEW_MAX : Rat) * 100)) ((s.get Obj.TIM_SLEW_MAX : Rat) * 100) (-(o : Rat) / ((s.get Obj.TIM_SERVO_TAU : Rat) / 1000)) = p) ∧ (clampQ (-500000) 500000 ((s.get Obj.TIM_FREQ_EST : Rat) * 1000000000 / two40 - (o : Rat) * ((((s.land t).now - n : Nat) : Rat) / 1000000000) / (4 * ((s.get Obj.TIM_SERVO_TAU : Rat) / 1000) * ((s.get Obj.TIM_SERVO_TAU : Rat) / 1000))) = f)) ∧
    (let s : State := (probe [(Obj.DEV_STATE, 2), (Obj.CLK_PLL_STATUS 4, 1), (Obj.TIM_CTRL, 3), (Obj.TIM_PTP_PORT, 0), (Obj.TIM_STATE, 2)])
    let port : Nat := 0
    let stamp : Nat := 1000001
    let frac : Nat := 0
    let origin : Int := 0
    let o : Int := 1000001
    (s.ptpHeard port = true) ∧ (s.getN Obj.TIM_PTP_PORT = port) ∧ (s.syncOffset port stamp frac origin = o) ∧ (1 ≤ s.timState) ∧ (s.timState ≤ 3) ∧ (1000000 < absInt o)) ∧
    (let s : State := (probe [(Obj.DEV_STATE, 2), (Obj.CLK_PLL_STATUS 4, 1), (Obj.TIM_CTRL, 2), (Obj.TIM_PTP_PORT, 0)])
    let m : Option Master := none
    (s.ptpHeard 0 = true) ∧ (s.tim.masters = [m, none])) ∧
    (let s : State := ((probe [(Obj.DEV_STATE, 2), (Obj.CLK_PLL_STATUS 4, 1), (Obj.TIM_CTRL, 6), (Obj.TIM_PTP_PORT, 0)]).withTim fun u => { u with masters := [some { identity := 5, dataset := [200] }, none] })
    let port : Nat := 1
    let identity : Nat := 77
    let dataset : List Nat := [128, 6]
    (s.ptpHeard port = true) ∧ (s.tim.masters.length = 2)) ∧
    (let s : State := ((probe [(Obj.DEV_STATE, 2), (Obj.CLK_PLL_STATUS 4, 1), (Obj.TIM_CTRL, 2), (Obj.TIM_PTP_PORT, 0), (Obj.TIM_STATE, 2)]).withTim fun u => { u with masters := [some { identity := 5, dataset := [200] }, none] })
    let m : Master := { identity := 5, dataset := [200] }
    (s.ptpHeard 0 = true) ∧ (s.tim.masters = [some m, none]) ∧ (s.getN Obj.TIM_PTP_PORT = 0) ∧ (s.timState = 1 ∨ s.timState = 2)) ∧
    (let s : State := (probe [(Obj.DEV_STATE, 2), (Obj.CLK_PLL_STATUS 4, 1), (Obj.TIM_CTRL, 6)])
    let port : Nat := 1
    (s.ptpHeard port = true)) ∧
    (let s : State := (probe [(Obj.DEV_STATE, 2), (Obj.CLK_PLL_STATUS 4, 1), (Obj.TIM_CTRL, 6)])
    let port : Nat := 1
    (s.ptpHeard port = true)) :=
  ⟨by decide +kernel,
   by decide +kernel,
   by decide +kernel,
   by decide +kernel,
   by decide +kernel,
   by decide +kernel,
   by decide +kernel,
   by decide +kernel,
   by decide +kernel,
   by decide +kernel,
   by decide +kernel,
   by decide +kernel,
   by decide +kernel⟩

/-- States and operands that meet the hypotheses of TimedEventsAndTheirSources, clause by clause. -/
theorem witness_TimedEventsAndTheirSources :
    (let s : State := ((probe [(Obj.DEV_STATE, 2), (Obj.CLK_PLL_STATUS 4, 1)]).withTim fun u => { u with ppsPrev := some 1000 })
    let t : Nat := 1000011000
    (s.timWorks = true) ∧ (s.tim.ppsPrev.all (fun p => decide (absInt (((s.land t).nowExt : Int) - p - 1000000000) ≤ 10000)) = true) ∧ (s.get Obj.TIM_SOURCE ≠ 1)) ∧
    (let s : State := ((probe [(Obj.DEV_STATE, 2), (Obj.CLK_PLL_STATUS 4, 1)]).withTim fun u => { u with ppsPrev := some 1000 })
    let t : Nat := 1000011001
    let p : Nat := 1000
    (s.timWorks = true) ∧ (s.tim.ppsPrev = some p) ∧ (10000 < absInt (((s.land t).nowExt : Int) - p - 1000000000))) ∧
    (let s : State := ((probe [(Obj.DEV_STATE, 2), (Obj.CLK_PLL_STATUS 4, 1), (Obj.TIM_SOURCE, 1), (Obj.TIM_STATE, 0)]).withTim fun u => { u with setTime := some 5000000000 })
    let v : Nat := 5000000000
    (s.timWorks = true) ∧ (s.tim.ppsPrev = none) ∧ (s.get Obj.TIM_SOURCE = 1) ∧ (s.timState = 0) ∧ (s.tim.setTime = some v) ∧ (s.tim.pendingStep = none) ∧ (s.orbRunning = false)) ∧
    (let s : State := ((probe [(Obj.DEV_STATE, 2), (Obj.CLK_PLL_STATUS 4, 1)]).withTim fun u => { u with ppsPrev := some 0 })
    let t : Nat := 1000010001
    let p : Nat := 0
    (s.timWorks = true) ∧ ((s.land t).ppsOverdue = true) ∧ (s.tim.ppsPrev = some p) ∧ (s.tim.ppsFails = 0)) ∧
    (let s : State := ((probe [(Obj.DEV_STATE, 2), (Obj.CLK_PLL_STATUS 4, 1), (Obj.TIM_SOURCE, 1), (Obj.TIM_STATE, 2)]).withTim fun u => { u with ppsPrev := some 0, ppsFails := 1 })
    let t : Nat := 1000010001
    (s.timWorks = true) ∧ ((s.land t).ppsOverdue = true) ∧ (s.tim.ppsFails = 1) ∧ (s.get Obj.TIM_SOURCE = 1) ∧ (s.timState = 1 ∨ s.timState = 2)) ∧
    (let s : State := (let s := (probe [(Obj.DEV_STATE, 2), (Obj.CLK_PLL_STATUS 4, 1), (Obj.LNK_TREE_ROLE, 2), (Obj.TIM_SOURCE, 2), (Obj.TIM_STATUS, 1), (Obj.TIM_STATE, 2), (Obj.ORB_STATUS, 1), (Obj.ORB_PERIOD_NOW, 40), (Obj.TIM_ORB_SYNC_LEAD, 1000), (Obj.TIM_ORB_SYNC_DELAY, 0)]); ({ s with orb := { s.orb with boundary := 0 } } : State))
    let t : Nat := 9020
    let o : Int := 20
    (s.timWorks = true) ∧ (s.get Obj.LNK_TREE_ROLE = 2) ∧ (s.get Obj.TIM_SOURCE = 2) ∧ (s.stepped = true) ∧ (s.orbRunning = true) ∧ ((if absInt ((((s.land t).now : Int) + (s.get Obj.TIM_ORB_SYNC_LEAD - s.get Obj.TIM_ORB_SYNC_DELAY)) - ((s.orb.boundary + s.period : Nat) : Int)) ≤ absInt ((((s.land t).now : Int) + (s.get Obj.TIM_ORB_SYNC_LEAD - s.get Obj.TIM_ORB_SYNC_DELAY)) - s.orb.boundary) then (((s.land t).now : Int) + (s.get Obj.TIM_ORB_SYNC_LEAD - s.get Obj.TIM_ORB_SYNC_DELAY)) - ((s.orb.boundary + s.period : Nat) : Int) else (((s.land t).now : Int) + (s.get Obj.TIM_ORB_SYNC_LEAD - s.get Obj.TIM_ORB_SYNC_DELAY)) - s.orb.boundary) = o) ∧ (absInt o ≤ 1000)) ∧
    (let s : State := ((probe [(Obj.DEV_STATE, 2), (Obj.CLK_PLL_STATUS 4, 1), (Obj.LNK_TREE_ROLE, 2), (Obj.TIM_SOURCE, 2)]).withTim fun u => { u with rootLabel := some 90000 })
    let label : Nat := 90000
    (s.timWorks = true) ∧ (s.get Obj.LNK_TREE_ROLE = 2) ∧ (s.get Obj.TIM_SOURCE = 2) ∧ (s.stepped = false) ∧ (s.tim.rootLabel = some label) ∧ (s.orbRunning = false)) ∧
    (let s : State := ((probe [(Obj.DEV_STATE, 2), (Obj.CLK_PLL_STATUS 4, 1), (Obj.LNK_TREE_ROLE, 2), (Obj.TIM_SOURCE, 2), (Obj.TIM_STATUS, 1), (Obj.TIM_STATE, 2), (Obj.ORB_STATUS, 1)]).withTim fun u => { u with orbMisses := 2 })
    (s.timWorks = true) ∧ (s.get Obj.LNK_TREE_ROLE = 2) ∧ (s.get Obj.TIM_SOURCE = 2) ∧ (s.stepped = true) ∧ (s.orbRunning = true)) ∧
    (let s : State := granted []
    let t : Nat := 9
    let f : Sender := svc
    let v : Nat := 2 ^ 60
    (v < 2 ^ 64) ∧ (s.takesWrite t f Obj.TIM_SET_TIME v = true) ∧ (s.get Obj.TIM_SOURCE ≠ 3)) ∧
    (let s : State := granted [(Obj.TIM_SOURCE, 3)]
    let t : Nat := 9
    let f : Sender := svc
    let v : Nat := 2 ^ 60
    (v < 2 ^ 64) ∧ (s.takesWrite t f Obj.TIM_SET_TIME v = true) ∧ (s.get Obj.TIM_SOURCE = 3) ∧ (s.tim.pendingStep = none) ∧ (s.orbRunning = false)) ∧
    (let s : State := (((granted [(Obj.TIM_STATE, 4), (Obj.ORB_STATUS, 1)]).put Obj.DEV_STATE 4).withTim fun u => { u with lastSample := some 0, lastOffset := 2000000 })
    let t : Nat := 9
    let f : Sender := svc
    (s.takesWrite t f Obj.TIM_REEPOCH_REQ 1 = true) ∧ (s.orbRunning = true)) ∧
    (let s : State := (probe [(Obj.DEV_STATE, 2), (Obj.CLK_PLL_STATUS 4, 1), (Obj.TIM_STATUS, 1)])
    let t : Nat := 9
    let h : Nat := 8
    let port : Nat := 1
    let time : Nat := 9000
    let buffer : Nat := 5
    let length : Nat := 60
    let q : List Launch := []
    let d : Nat := 8991
    (s.hartRuns h = true) ∧ (s.stepped = true) ∧ (port < 2) ∧ (s.tim.queues[port]? = some q) ∧ (q.length < 16) ∧ (time < 2 ^ 32) ∧ (buffer < 2 ^ 32) ∧ (length < 2048) ∧ ((s.land t).ahead time = some d) ∧ (200 ≤ d)) ∧
    (let s : State := (probe [(Obj.DEV_STATE, 2), (Obj.CLK_PLL_STATUS 4, 1), (Obj.TIM_STATUS, 1)])
    let t : Nat := 8801
    let h : Nat := 8
    let port : Nat := 1
    let time : Nat := 9000
    let buffer : Nat := 5
    let length : Nat := 60
    let q : List Launch := []
    (s.hartRuns h = true) ∧ (s.stepped = true) ∧ (port < 2) ∧ (s.tim.queues[port]? = some q) ∧ (q.length < 16) ∧ (time < 2 ^ 32) ∧ (buffer < 2 ^ 32) ∧ (length < 2048) ∧ (((s.land t).ahead time).all (fun d => decide (d < 200)) = true)) ∧
    (let s : State := (probe [(Obj.DEV_STATE, 2), (Obj.CLK_PLL_STATUS 4, 1), (Obj.TIM_STATUS, 1)])
    let t : Nat := 8801
    let h : Nat := 8
    let port : Nat := 1
    let time : Nat := 9000
    let buffer : Nat := 5
    let length : Nat := 60
    let q : List Launch := []
    (s.hartRuns h = true) ∧ (s.stepped = true) ∧ (port < 2) ∧ (s.tim.queues[port]? = some q) ∧ (q.length < 16) ∧ (time < 2 ^ 32) ∧ (buffer < 2 ^ 32) ∧ (length < 2048) ∧ (((s.land t).ahead time).all (fun d => decide (d < 200)) = true)) ∧
    (let s : State := ((probe [(Obj.DEV_STATE, 2), (Obj.CLK_PLL_STATUS 4, 1), (Obj.TIM_STATUS, 1)]).withTim fun u => { u with queues := [[], List.replicate 16 { time := 9000, buffer := 5, length := 60, dropLate := false, late := false }] })
    let h : Nat := 8
    let port : Nat := 1
    let time : Nat := 5
    let buffer : Nat := 5
    let length : Nat := 60
    let dropLate : Bool := true
    (s.hartRuns h = true) ∧ (s.stepped = true) ∧ (port < 2) ∧ (16 ≤ (s.tim.queues.getD port []).length)) ∧
    (let s : State := ((probe [(Obj.DEV_STATE, 2), (Obj.CLK_PLL_STATUS 4, 1), (Obj.TIM_STATUS, 1)]).withTim fun u => { u with queues := [[], [{ time := 9500, buffer := 5, length := 60, dropLate := false, late := false }, { time := 9000, buffer := 5, length := 60, dropLate := false, late := false }]] })
    let t : Nat := 9000
    let port : Nat := 1
    let e : Launch := { time := 9000, buffer := 5, length := 60, dropLate := false, late := false }
    (s.timWorks = true) ∧ (s.served = true) ∧ (port < 2) ∧ ((s.land t).launchNext port = some e) ∧ (e.late = true ∨ (s.land t).ahead e.time = some 0) ∧ (s.tim.busyUntil.getD port 0 ≤ (s.land t).now)) ∧
    (let s : State := ((probe [(Obj.DEV_STATE, 2), (Obj.CLK_PLL_STATUS 4, 1), (Obj.TIM_STATUS, 1)]).withTim fun u => { u with queues := [[], [{ time := 9000, buffer := 5, length := 60, dropLate := false, late := false }]], busyUntil := [0, 9100] })
    let t : Nat := 9000
    let port : Nat := 1
    let e : Launch := { time := 9000, buffer := 5, length := 60, dropLate := false, late := false }
    (s.timWorks = true) ∧ (s.served = true) ∧ (port < 2) ∧ ((s.land t).launchNext port = some e) ∧ (e.late = false) ∧ (e.dropLate = false) ∧ ((s.land t).ahead e.time = some 0) ∧ ((s.land t).now < s.tim.busyUntil.getD port 0)) ∧
    (let s : State := (granted [(Obj.TIM_GEN_START 3, 900)])
    let t : Nat := 9
    let f : Sender := svc
    let g : Nat := 3
    let d : Nat := 891
    (g < 16) ∧ (s.takesWrite t f (Obj.TIM_GEN_CTRL g) (withField (s.getN (Obj.TIM_GEN_CTRL g)) 0 2 1 : Nat) = true) ∧ (field (s.getN (Obj.TIM_GEN_CTRL g)) 0 2 ≠ 1) ∧ ((s.land t).ahead (s.getN (Obj.TIM_GEN_START g)) = some d) ∧ (200 ≤ d)) ∧
    (let s : State := (granted [(Obj.TIM_GEN_CTRL 3, 1), (Obj.TIM_GEN_STATUS 3, 1)])
    let t : Nat := 9
    let f : Sender := svc
    let g : Nat := 3
    (g < 16) ∧ (s.takesWrite t f (Obj.TIM_GEN_CTRL g) (withField (s.getN (Obj.TIM_GEN_CTRL g)) 0 2 0 : Nat) = true) ∧ (field (s.getN (Obj.TIM_GEN_CTRL g)) 0 2 ≠ 0)) ∧
    (let s : State := (probe [(Obj.DEV_STATE, 2), (Obj.CLK_PLL_STATUS 4, 1), (Obj.TIM_GEN_CTRL 3, 0x86), (Obj.TIM_GEN_NEXT 3, 900), (Obj.TIM_GEN_PERIOD 3, 1000), (Obj.TIM_GEN_WIDTH 3, 10)])
    let t : Nat := 900
    let g : Nat := 3
    (s.timWorks = true) ∧ (g < 16) ∧ (s.tim.genFall[g]? = some none) ∧ (s.genMode g ≠ 0) ∧ ((s.land t).ahead (s.getN (Obj.TIM_GEN_NEXT g)) = some 0)) ∧
    (let s : State := ((probe [(Obj.DEV_STATE, 2), (Obj.CLK_PLL_STATUS 4, 1), (Obj.TIM_GEN_CTRL 3, 0x85), (Obj.TIM_GEN_NEXT 3, 900)]).withTim fun u => { u with genFall := (List.replicate 16 none).set 3 (some 910) })
    let t : Nat := 910
    let g : Nat := 3
    let n : Nat := 910
    (s.timWorks = true) ∧ (g < 16) ∧ (s.tim.genFall[g]? = some (some n)) ∧ ((s.land t).ahead n = some 0) ∧ (s.genMode g = 1)) :=
  ⟨by decide +kernel,
   by decide +kernel,
   by decide +kernel,
   by decide +kernel,
   by decide +kernel,
   by decide +kernel,
   by decide +kernel,
   by decide +kernel,
   by decide +kernel,
   by decide +kernel,
   by decide +kernel,
   by decide +kernel,
   by decide +kernel,
   by decide +kernel,
   by decide +kernel,
   by decide +kernel,
   by decide +kernel,
   by decide +kernel,
   by decide +kernel,
   by decide +kernel,
   by decide +kernel⟩

/-- States and operands that meet the hypotheses of EnginesRunTheirInstructions, clause by clause. -/
theorem witness_EnginesRunTheirInstructions :
    (let s : State := (probe [(Obj.DEV_STATE, 5), (Obj.ENG_STATE 3, 2), (Obj.ORB_STATUS, 1), (Obj.ORB_COUNT, 70), (Obj.ORB_PERIOD_NOW, 40), (Obj.ORB_T_REF, 5000), (Obj.ORB_T_UP, 6500), (Obj.ORB_T_FIN, 8000)])
    let t : Nat := 500
    let e : Nat := 3
    let ctl : Nat := 0
    let user : Bool := false
    let ev : Nat := 2
    let off : Nat := 0
    (s.engRuns e = true) ∧ (s.eng.harts.length = 10) ∧ (user = false ∨ ctl % 2 = 1) ∧ (ev < 5) ∧ (off < 2 ^ 32) ∧ (s.orbRunning = true) ∧ (ev = 1 ∨ (ev = 0 ∧ s.period ≤ off) ∨ (s.land t).offset < s.korOffset ev off)) ∧
    (let s : State := (probe [(Obj.DEV_STATE, 5), (Obj.ENG_STATE 3, 2), (Obj.ORB_STATUS, 1), (Obj.ORB_COUNT, 70), (Obj.ORB_PERIOD_NOW, 40), (Obj.ORB_T_REF, 5000), (Obj.ORB_T_UP, 6500), (Obj.ORB_T_FIN, 8000)])
    let t : Nat := 5500
    let e : Nat := 3
    let ctl : Nat := 0
    let user : Bool := false
    let ev : Nat := 2
    let off : Nat := 0
    (s.engRuns e = true) ∧ (s.eng.harts.length = 10) ∧ (user = false ∨ ctl % 2 = 1) ∧ (ev < 5) ∧ (off < 2 ^ 32) ∧ (s.orbRunning = false ∨ (ev ≠ 1 ∧ ¬(ev = 0 ∧ s.period ≤ off) ∧ s.korOffset ev off ≤ (s.land t).offset))) ∧
    (let s : State := (probe [(Obj.DEV_STATE, 5), (Obj.ENG_STATE 3, 2), (Obj.ORB_STATUS, 1), (Obj.ORB_COUNT, 70), (Obj.ORB_PERIOD_NOW, 40), (Obj.ORB_T_REF, 5000), (Obj.ORB_T_UP, 6500), (Obj.ORB_T_FIN, 8000)])
    let e : Nat := 3
    let ctl : Nat := 0
    let user : Bool := false
    let ev : Nat := 5
    (s.engRuns e = true) ∧ (s.eng.harts.length = 10) ∧ (user = false ∨ ctl % 2 = 1) ∧ ((s.eng.harts[e]?).map (·.fast) = some false) ∧ (5 ≤ ev) ∧ (ev < 16)) ∧
    (let s : State := ((probe [(Obj.DEV_STATE, 5), (Obj.ENG_STATE 3, 2), (Obj.ORB_STATUS, 1), (Obj.ORB_COUNT, 70), (Obj.ORB_PERIOD_NOW, 40), (Obj.ORB_T_REF, 5000), (Obj.ORB_T_UP, 6500), (Obj.ORB_T_FIN, 8000)]).withHart 3 fun h => { h with waiting := some (2, 0, false, 70) })
    let t : Nat := 5000
    let e : Nat := 3
    let ev : Nat := 2
    let off : Nat := 0
    let count : Nat := 70
    let beyond : Bool := false
    (s.engRuns e = true) ∧ ((s.eng.harts[e]?).bind (·.waiting) = some (ev, off, beyond, count)) ∧ (s.orbCount ≠ count ∨ (ev ≠ 1 ∧ beyond = false ∧ s.korOffset ev off ≤ (s.land t).offset))) ∧
    (let s : State := (probe [(Obj.DEV_STATE, 5), (Obj.ENG_STATE 3, 2), (Obj.ORB_STATUS, 1), (Obj.ORB_COUNT, 70), (Obj.ORB_PERIOD_NOW, 40), (Obj.ORB_T_REF, 5000), (Obj.ORB_T_UP, 6500), (Obj.ORB_T_FIN, 8000)])
    let t : Nat := 4600
    let e : Nat := 3
    let ctl : Nat := 0
    let user : Bool := false
    (s.engRuns e = true) ∧ (s.eng.harts.length = 10) ∧ (user = false ∨ ctl % 2 = 1) ∧ (s.orbRunning = true) ∧ (((s.land t).offset : Int) < s.get Obj.ORB_T_REF)) ∧
    (let s : State := (probe [(Obj.DEV_STATE, 5), (Obj.ENG_STATE 3, 2), (Obj.ORB_STATUS, 1), (Obj.ORB_COUNT, 70), (Obj.ORB_PERIOD_NOW, 40), (Obj.ORB_T_REF, 5000), (Obj.ORB_T_UP, 6500), (Obj.ORB_T_FIN, 8000)])
    let t : Nat := 5000
    let e : Nat := 3
    let ctl : Nat := 0
    let user : Bool := false
    (s.engRuns e = true) ∧ (s.eng.harts.length = 10) ∧ (user = false ∨ ctl % 2 = 1) ∧ (s.orbRunning = true) ∧ (s.get Obj.ORB_T_REF ≤ (s.land t).offset)) ∧
    (let s : State := (probe [(Obj.DEV_STATE, 5), (Obj.ENG_STATE 3, 2), (Obj.ORB_STATUS, 1), (Obj.ORB_COUNT, 70), (Obj.ORB_PERIOD_NOW, 40), (Obj.ORB_T_REF, 5000), (Obj.ORB_T_UP, 6500), (Obj.ORB_T_FIN, 8000)])
    let e : Nat := 3
    let ctl : Nat := 1
    let user : Bool := true
    (s.engRuns e = true) ∧ (s.eng.harts.length = 10) ∧ (user = false ∨ ctl % 2 = 1)) ∧
    (let s : State := (probe [(Obj.DEV_STATE, 5), (Obj.ENG_STATE 3, 2), (Obj.ORB_STATUS, 1), (Obj.ORB_COUNT, 70), (Obj.ORB_PERIOD_NOW, 40), (Obj.ORB_T_REF, 5000), (Obj.ORB_T_UP, 6500), (Obj.ORB_T_FIN, 8000)])
    let e : Nat := 3
    let ctl : Nat := 0
    (s.engRuns e = true) ∧ ((s.eng.harts[e]?).map (·.fast) = some false) ∧ (ctl % 2 = 0)) ∧
    (let s : State := (probe [(Obj.DEV_STATE, 5), (Obj.ENG_STATE 3, 2), (Obj.ORB_STATUS, 1), (Obj.ORB_COUNT, 70), (Obj.ORB_PERIOD_NOW, 40), (Obj.ORB_T_REF, 5000), (Obj.ORB_T_UP, 6500), (Obj.ORB_T_FIN, 8000)])
    let e : Nat := 3
    (s.engRuns e = true) ∧ ((s.eng.harts[e]?).map (·.fast) = some false)) ∧
    (let s : State := ({ ((probe [(Obj.DEV_STATE, 5), (Obj.ENG_STATE 3, 2), (Obj.ORB_STATUS, 1), (Obj.ORB_COUNT, 70), (Obj.ORB_PERIOD_NOW, 40), (Obj.ORB_T_REF, 5000), (Obj.ORB_T_UP, 6500), (Obj.ORB_T_FIN, 8000)]).withHart 3 fun h => { h with fast := true, fcause := 161, fepc := 64, fastAt := 4000 }) with icu := { State.reset.icu with active := [(161, 3)] } } : State)
    let e : Nat := 3
    let h : Hart := { Hart.reset with fast := true, fcause := 161, fepc := 64, fastAt := 4000 }
    (s.engRuns e = true) ∧ (s.eng.harts[e]? = some h) ∧ (h.fast = true) ∧ ((h.fcause, e) ∈ s.icu.active) ∧ (s.icu.pending = [])) ∧
    (let s : State := (probe [(Obj.DEV_STATE, 5), (Obj.ENG_STATE 3, 2), (Obj.ORB_STATUS, 1), (Obj.ORB_COUNT, 70), (Obj.ORB_PERIOD_NOW, 40), (Obj.ORB_T_REF, 5000), (Obj.ORB_T_UP, 6500), (Obj.ORB_T_FIN, 8000)])
    let t : Nat := 4600
    let e : Nat := 3
    (s.engRuns e = true) ∧ (s.orbRunning = true) ∧ (((s.land t).offset : Int) < s.get Obj.ORB_T_REF)) ∧
    (let s : State := (probe [(Obj.DEV_STATE, 5), (Obj.ENG_STATE 3, 2), (Obj.ORB_STATUS, 1), (Obj.ORB_COUNT, 70), (Obj.ORB_PERIOD_NOW, 40), (Obj.ORB_T_REF, 5000), (Obj.ORB_T_UP, 6500), (Obj.ORB_T_FIN, 8000)])
    let e : Nat := 3
    let page : Nat := 4
    (s.engRuns e = true) ∧ (e ≠ page)) ∧
    (let s : State := (probe [(Obj.DEV_STATE, 5), (Obj.ENG_STATE 3, 2), (Obj.ORB_STATUS, 1), (Obj.ORB_COUNT, 70), (Obj.ORB_PERIOD_NOW, 40), (Obj.ORB_T_REF, 5000), (Obj.ORB_T_UP, 6500), (Obj.ORB_T_FIN, 8000)])
    let e : Nat := 3
    let reg : Nat := 15
    let v : Int := -(2 ^ 31)
    (s.engRuns e = true) ∧ (reg < 16) ∧ (-(2 ^ 31) ≤ v) ∧ (v < 2 ^ 31)) ∧
    (let s : State := (probe [(Obj.DEV_STATE, 5), (Obj.ENG_STATE 3, 2), (Obj.ORB_STATUS, 1), (Obj.ORB_COUNT, 70), (Obj.ORB_PERIOD_NOW, 40), (Obj.ORB_T_REF, 5000), (Obj.ORB_T_UP, 6500), (Obj.ORB_T_FIN, 8000)])
    let e : Nat := 3
    let page : Nat := 4
    (s.engRuns e = true) ∧ (e ≠ page)) ∧
    (let s : State := (granted [(Obj.ENG_REF_SLACK_MIN 3, 40)])
    let t : Nat := 5000
    let f : Sender := svc
    (s.takesWrite t f Obj.ENG_REF_SLACK_CLEAR 1 = true)) ∧
    (let s : State := ((probe [(Obj.DEV_STATE, 5), (Obj.ENG_STATE 3, 2), (Obj.ORB_STATUS, 1), (Obj.ORB_COUNT, 70), (Obj.ORB_PERIOD_NOW, 40), (Obj.ORB_T_REF, 5000), (Obj.ORB_T_UP, 6500), (Obj.ORB_T_FIN, 8000)]).withHart 3 fun h => { h with fast := true })
    let e : Nat := 3
    let h : Hart := { Hart.reset with fast := true }
    (s.engRuns e = true) ∧ (s.eng.harts[e]? = some h)) ∧
    (let s : State := (granted [(Obj.ENG_ENABLE, 8), (Obj.ENG_STATE 3, 3)])
    let t : Nat := 5000
    let f : Sender := svc
    let e : Nat := 3
    (e < 8) ∧ (s.takesWrite t f (Obj.ENG_RESTART e) 1 = true)) :=
  ⟨by decide +kernel,
   by decide +kernel,
   by decide +kernel,
   by decide +kernel,
   by decide +kernel,
   by decide +kernel,
   by decide +kernel,
   by decide +kernel,
   by decide +kernel,
   by decide +kernel,
   by decide +kernel,
   by decide +kernel,
   by decide +kernel,
   by decide +kernel,
   by decide +kernel,
   by decide +kernel,
   by decide +kernel⟩

/-- States and operands that meet the hypotheses of InterruptsAreHeldAndDelivered, clause by clause. -/
theorem witness_InterruptsAreHeldAndDelivered :
    (let s : State := (probe [(Obj.DEV_STATE, 5), (Obj.ICU_SRC_CFG 5 1, 0x80D)])
    let src : Nat := 161
    (sourceExists src = true) ∧ (s.devState ≠ 0)) ∧
    (let s : State := ({ probe [(Obj.DEV_STATE, 5), (Obj.ICU_HOLDOFF 1, 5), (Obj.ICU_SRC_CFG 1 8, 0x1000D)] with icu := { State.reset.icu with pending := [(40, 10)] } } : State)
    let t : Nat := 9
    let target : Nat := 8
    let src : Nat := 40
    (s.hartRuns target = true) ∧ (s.get Obj.ICU_MODE = 0) ∧ ((s.land t).icuTop target = some src)) ∧
    (let s : State := (probe [(Obj.DEV_STATE, 5)])
    let t : Nat := 9
    let target : Nat := 8
    (s.hartRuns target = true) ∧ ((s.land t).icuTop target = none)) ∧
    (let s : State := ({ probe [(Obj.DEV_STATE, 5)] with icu := { State.reset.icu with pending := [], active := [(40, 8)] } } : State)
    let target : Nat := 8
    let src : Nat := 40
    (s.hartRuns target = true) ∧ ((src, target) ∈ s.icu.active)) ∧
    (let s : State := (probe [(Obj.DEV_STATE, 5)])
    let target : Nat := 8
    let src : Nat := 40
    (s.hartRuns target = true) ∧ ((src, target) ∉ s.icu.active)) ∧
    (let s : State := ({ probe [(Obj.DEV_STATE, 5), (Obj.ENG_STATE 3, 2), (Obj.ICU_SRC_CFG 5 1, 0x80F)] with icu := { State.reset.icu with pending := [(161, 3)] } } : State)
    let t : Nat := 9
    let e : Nat := 3
    let src : Nat := 161
    let h : Hart := Hart.reset
    (s.engRuns e = true) ∧ (s.eng.harts[e]? = some h) ∧ (h.fast = false) ∧ ((s.land t).icuFast e = some src)) ∧
    (let s : State := (probe [(Obj.DEV_STATE, 5), (Obj.ENG_STATE 3, 2), (Obj.ICU_SRC_CFG 5 1, 0x80F)])
    let e : Nat := 3
    (s.engRuns e = true)) ∧
    (let s : State := ({ probe [(Obj.DEV_STATE, 5)] with icu := { State.reset.icu with pending := [], active := [], holdoff := [(1, 300), (2, 400)] } } : State)
    let t : Nat := 300
    let g : Nat := 1
    let time : Nat := 300
    ((g, time) ∈ s.icu.holdoff) ∧ (time ≤ (s.land t).now) ∧ ((∀ p ∈ s.icu.holdoff, p.1 = g → p.2 = time))) ∧
    (let s : State := (probe [(Obj.DEV_STATE, 5)])
    let t : Nat := 9
    let f : Sender := ⟨24, 0⟩
    let n : Nat := 504
    (s.reachesUnit t f Obj.ICU_SW_SET n = true) ∧ (504 ≤ n) ∧ (n ≤ 511)) ∧
    (let s : State := (probe [(Obj.DEV_STATE, 5)])
    let f : Sender := ⟨24, 0⟩
    let h : Nat := 8
    let n : Nat := 503
    (hartOf f = some h) ∧ (s.hartRuns h = true) ∧ (n < 504 ∨ 511 < n)) ∧
    (let s : State := ({ probe [(Obj.DEV_STATE, 5)] with icu := { State.reset.icu with pending := [(40, 10), (41, 10)] } } : State)
    let t : Nat := 9
    let f : Sender := ⟨24, 0⟩
    let g : Nat := 1
    let bits : Nat := 256
    (g < 16) ∧ (bits < 2 ^ 32) ∧ ((hartOf f).all (fun h => decide (8 ≤ h)) = true) ∧ (s.reachesUnit t f (Obj.ICU_PENDING_CLEAR g) bits = true)) ∧
    (let s : State := ({ probe [(Obj.DEV_STATE, 5), (Obj.ENG_STATE 3, 2)] with icu := { State.reset.icu with pending := [(40, 10)] } } : State)
    let f : Sender := ⟨19, 0⟩
    let g : Nat := 1
    let h : Nat := 3
    (g < 16) ∧ (hartOf f = some h) ∧ (h < 8) ∧ (s.hartRuns h = true)) ∧
    (let s : State := (granted [(Obj.ICU_SRC_CFG 1 8, 0x1000D)])
    let t : Nat := 9
    let f : Sender := svc
    let src : Nat := 40
    let v : Nat := 0x1000C
    (src < 512) ∧ (v < 2 ^ 32) ∧ (hartOf f = none) ∧ (s.takesWrite t f (Obj.ICU_SRC_CFG (src / 32) (src % 32)) v = true)) ∧
    (let s : State := (probe [(Obj.DEV_STATE, 5)])
    let f : Sender := ⟨24, 0⟩
    let src : Nat := 40
    let h : Nat := 8
    (src < 512) ∧ (hartOf f = some h) ∧ (8 ≤ h) ∧ (s.hartRuns h = true)) ∧
    (let s : State := (probe [(Obj.DEV_STATE, 5), (Obj.ENG_STATE 3, 2), (Obj.ICU_SRC_CFG 5 1, 0x80F)])
    let f : Sender := ⟨19, 0⟩
    let src : Nat := 161
    let h : Nat := 3
    (src < 512) ∧ (hartOf f = some h) ∧ (h < 8) ∧ (bitOf (s.srcCfg src) (8 + h) = true) ∧ (s.hartRuns h = true)) ∧
    (let s : State := (probe [(Obj.DEV_STATE, 5), (Obj.ENG_STATE 3, 2)])
    let f : Sender := ⟨19, 0⟩
    let src : Nat := 161
    let h : Nat := 3
    (src < 512) ∧ (hartOf f = some h) ∧ (h < 8) ∧ (bitOf (s.srcCfg src) (8 + h) = false) ∧ (s.hartRuns h = true)) :=
  ⟨by decide +kernel,
   by decide +kernel,
   by decide +kernel,
   by decide +kernel,
   by decide +kernel,
   by decide +kernel,
   by decide +kernel,
   by decide +kernel,
   by decide +kernel,
   by decide +kernel,
   by decide +kernel,
   by decide +kernel,
   by decide +kernel,
   by decide +kernel,
   by decide +kernel,
   by decide +kernel⟩

/-- States and operands that meet the hypotheses of MemoryErrorsAndRefusedAccesses, clause by clause. -/
theorem witness_MemoryErrorsAndRefusedAccesses :
    (let h : Nat := 3
    (h < 8)) ∧
    (let s : State := (probe [(Obj.DEV_STATE, 5), (Obj.ENG_STATE 3, 2)])
    let h : Nat := 3
    (s.hartRuns h = true) ∧ ((s.eng.harts[h]?).map (·.fast) = some false)) ∧
    (let s : State := (probe [(Obj.DEV_STATE, 5), (Obj.ENG_STATE 3, 2)])
    let h : Nat := 3
    (s.hartRuns h = true) ∧ ((s.eng.harts[h]?).map (·.fast) = some false)) ∧
    (let s : State := (probe [(Obj.DEV_STATE, 5), (Obj.ENG_STATE 3, 2)])
    let h : Nat := 3
    let address : Nat := 0x40000002
    let size : Nat := 4
    let kind : Nat := 1
    (s.hartRuns h = true) ∧ ((s.eng.harts[h]?).map (·.fast) = some false) ∧ (kind < 3) ∧ (s.accessAllowed h address size kind = false)) :=
  ⟨by decide +kernel,
   by decide +kernel,
   by decide +kernel,
   by decide +kernel⟩

/-- States and operands that meet the hypotheses of CometCapturesAndStores, clause by clause. -/
theorem witness_CometCapturesAndStores :
    (let s : State := ((probe [(Obj.DEV_STATE, 4), (Obj.CMT_BOOL_SRC 0, 0x70), (Obj.CMT_COMA_BLOCKS, 4), (Obj.CMT_TAIL_BLOCKS, 4), (Obj.CMT_WRITTEN, 7)]).withCmt fun c => { c with written := 7 })
    let t : Nat := 9
    let f : Sender := ⟨24, 0⟩
    (s.reachesUnit t f Obj.CMT_ARM 1 = true) ∧ ((s.land t).cmtArmCheck = none)) ∧
    (let s : State := (probe [(Obj.DEV_STATE, 4)])
    let t : Nat := 9
    let f : Sender := ⟨24, 0⟩
    let h : Nat := 8
    let code : Nat := 4
    (hartOf f = some h) ∧ (s.hartRuns h = true) ∧ ((s.land t).cmtArmCheck = some code)) ∧
    (let s : State := ((probe [(Obj.DEV_STATE, 4), (Obj.CMT_BOOL_SRC 0, 0x70), (Obj.CMT_COMA_BLOCKS, 4), (Obj.CMT_TAIL_BLOCKS, 4), (Obj.CMT_STATE, 1)]).withCmt fun c => { c with partials := [({ type := 1, channel := 0, loss := false, post := false, index := 0, entries := [{ time := 3, frac := 0, value := 9, valid := true, channel := 0, tap := false }], words := [] }, 3)] })
    let t : Nat := 9
    let f : Sender := ⟨24, 0⟩
    (s.reachesUnit t f Obj.CMT_ABORT 1 = true) ∧ (s.cmtState = 1)) ∧
    (let s : State := ((probe [(Obj.DEV_STATE, 4), (Obj.CMT_BOOL_SRC 0, 0x70), (Obj.CMT_COMA_BLOCKS, 4), (Obj.CMT_TAIL_BLOCKS, 4), (Obj.CMT_STATE, 2)]).withCmt fun c => { c with trigger := some { code := 0, mask := 1, time := 5, frac := 0, levels := 0, orb := 0, device := 5 }, tailDone := 1 })
    let t : Nat := 9
    let f : Sender := ⟨24, 0⟩
    let tr : CmtTrigger := { code := 0, mask := 1, time := 5, frac := 0, levels := 0, orb := 0, device := 5 }
    (s.reachesUnit t f Obj.CMT_ABORT 1 = true) ∧ (s.cmtState = 2) ∧ ((s.land t).cmtTailFull = false) ∧ (s.cmt.trigger = some tr) ∧ (s.cmt.partials = [])) ∧
    (let s : State := (probe [(Obj.DEV_STATE, 4), (Obj.CMT_BOOL_SRC 0, 0x70), (Obj.CMT_COMA_BLOCKS, 4), (Obj.CMT_TAIL_BLOCKS, 4), (Obj.CMT_STATE, 1)])
    let t : Nat := 9
    let f : Sender := ⟨24, 0⟩
    (s.reachesUnit t f Obj.CMT_FORCE_TRIG 1 = true) ∧ (s.cmtState = 1) ∧ (s.cmt.comaFull = true ∨ s.bit Obj.CMT_CTRL 2 = false)) ∧
    (let s : State := (probe [(Obj.DEV_STATE, 4), (Obj.CMT_BOOL_SRC 0, 0x70), (Obj.CMT_COMA_BLOCKS, 4), (Obj.CMT_TAIL_BLOCKS, 4), (Obj.CMT_STATE, 1), (Obj.CMT_CTRL, 4)])
    let t : Nat := 9
    let f : Sender := ⟨24, 0⟩
    (s.reachesUnit t f Obj.CMT_FORCE_TRIG 1 = true) ∧ (s.cmtState = 0 ∨ (s.cmtState = 1 ∧ s.cmt.comaFull = false ∧ s.bit Obj.CMT_CTRL 2 = true))) ∧
    (let s : State := ((probe [(Obj.DEV_STATE, 4), (Obj.CMT_BOOL_SRC 0, 0x70), (Obj.CMT_COMA_BLOCKS, 4), (Obj.CMT_TAIL_BLOCKS, 4), (Obj.CMT_STATE, 1), (Obj.CMT_TRIG_EN, 1), (Obj.CMT_PAT_VALUE, 1), (Obj.CMT_PAT_CARE, 1)]).withCmt fun c => { c with patternFalse := true, levels := 1, matchAt := (5, 6) })
    (s.cmtState = 1) ∧ (s.cmt.patternFalse = true) ∧ (s.cmtMatch s.cmt.levels = true) ∧ (s.bit Obj.CMT_TRIG_EN 0 = true) ∧ (s.cmt.comaFull = true ∨ s.bit Obj.CMT_CTRL 2 = false)) ∧
    (let s : State := ((probe [(Obj.DEV_STATE, 4), (Obj.CMT_BOOL_SRC 0, 0x70), (Obj.CMT_COMA_BLOCKS, 4), (Obj.CMT_TAIL_BLOCKS, 4), (Obj.CMT_STATE, 1)]).withCmt fun c => { c with written := 5, partials := [({ type := 1, channel := 0, loss := false, post := false, index := 0, entries := [{ time := 3, frac := 0, value := 9, valid := true, channel := 0, tap := false }], words := [] }, 3)] })
    let t : Nat := 1000003
    let b : CmtBlock := { type := 1, channel := 0, loss := false, post := false, index := 0, entries := [{ time := 3, frac := 0, value := 9, valid := true, channel := 0, tap := false }], words := [] }
    let since : Nat := 3
    (s.cmtState = 1) ∧ (s.cmt.partials = [(b, since)]) ∧ (since + 1000000 ≤ (s.land t).now) ∧ (s.cmt.written % 1024 ≠ 0) ∧ (s.get Obj.CMT_COMA_BLOCKS ≠ 0) ∧ (0 ≤ s.get Obj.CMT_COMA_BLOCKS)) ∧
    (let s : State := ((probe [(Obj.DEV_STATE, 4), (Obj.CMT_BOOL_SRC 0, 0x70), (Obj.CMT_COMA_BLOCKS, 4), (Obj.CMT_TAIL_BLOCKS, 4), (Obj.CMT_STATE, 1)]).withCmt fun c => { c with written := 5, partials := [({ type := 1, channel := 0, loss := false, post := false, index := 0, entries := [{ time := 3, frac := 0, value := 9, valid := true, channel := 0, tap := false }], words := [] }, 3)] })
    let t : Nat := 1000002
    (∀ p ∈ s.cmt.partials, (s.land t).now < p.2 + 1000000)) ∧
    (let s : State := ((probe [(Obj.DEV_STATE, 4), (Obj.CMT_BOOL_SRC 0, 0x70), (Obj.CMT_COMA_BLOCKS, 4), (Obj.CMT_TAIL_BLOCKS, 4), (Obj.CMT_STATE, 2)]).withCmt fun c => { c with trigger := some { code := 0, mask := 1, time := 5, frac := 0, levels := 0, orb := 0, device := 5 }, tailDone := 4 })
    let t : Nat := 9
    let tr : CmtTrigger := { code := 0, mask := 1, time := 5, frac := 0, levels := 0, orb := 0, device := 5 }
    ((s.land t).cmtTailFull = true) ∧ (s.cmt.trigger = some tr) ∧ (s.bit Obj.CMT_CTRL 1 = false)) ∧
    (let s : State := ((probe [(Obj.DEV_STATE, 4), (Obj.CMT_BOOL_SRC 0, 0x70), (Obj.CMT_COMA_BLOCKS, 4), (Obj.CMT_TAIL_BLOCKS, 4), (Obj.CMT_STATE, 2), (Obj.CMT_CTRL, 2)]).withCmt fun c => { c with trigger := some { code := 0, mask := 1, time := 5, frac := 0, levels := 0, orb := 0, device := 5 }, tailDone := 4 })
    let t : Nat := 9
    let tr : CmtTrigger := { code := 0, mask := 1, time := 5, frac := 0, levels := 0, orb := 0, device := 5 }
    ((s.land t).cmtTailFull = true) ∧ (s.cmt.trigger = some tr) ∧ (s.bit Obj.CMT_CTRL 1 = true) ∧ (((s.land t).cmtStore false).cmtArmCheck = none)) ∧
    (let s : State := (let s := granted [(Obj.CMT_REC_STORED, 1)]; s.withCmt fun c => { c with records := [s.cmtRecord false { code := 0, mask := 1, time := 5, frac := 0, levels := 0, orb := 0, device := 5 }] })
    let t : Nat := 9
    let f : Sender := svc
    let n : Nat := 1
    (n < 2 ^ 32) ∧ (s.takesWrite t f Obj.CMT_REC_RELEASE n = true)) :=
  ⟨by decide +kernel,
   by decide +kernel,
   by decide +kernel,
   by decide +kernel,
   by decide +kernel,
   by decide +kernel,
   by decide +kernel,
   by decide +kernel,
   by decide +kernel,
   by decide +kernel,
   by decide +kernel,
   by decide +kernel⟩

/-- States and operands that meet the hypotheses of TheLogbookIsFlushedAndExported, clause by clause. -/
theorem witness_TheLogbookIsFlushedAndExported :
    (let s : State := ({ probe [(Obj.DEV_STATE, 4)] with log := { State.reset.log with lastBegin := some 5 } } : State)
    let t : Nat := 600000000005
    let slot : Nat := 0
    (2 ≤ s.devState) ∧ (s.devState ≠ 7) ∧ (s.log.lastBegin.all (fun b => decide (b + 600000000000 ≤ (s.land t).now)) = true) ∧ (s.log.demand = false) ∧ ((s.land t).flushAllowed false = true) ∧ ((s.land t).nextSlot = some slot) ∧ (s.log.staged = none)) ∧
    (let s : State := ({ probe [(Obj.DEV_STATE, 4)] with log := { State.reset.log with lastBegin := some 5 } } : State)
    let t : Nat := 600000000004
    let b : Nat := 5
    (s.log.lastBegin = some b) ∧ ((s.land t).now < b + 600000000000)) ∧
    (let s : State := (granted [])
    let t : Nat := 70000000000
    let f : Sender := svc
    let slot : Nat := 0
    (s.takesWrite t f Obj.LOG_FLUSH_REQ 1 = true) ∧ ((s.land t).flushAllowed true = true) ∧ ((s.land t).nextSlot = some slot) ∧ (s.log.staged = none)) ∧
    (let s : State := ({ granted [] with log := { State.reset.log with lastBegin := some 5 } } : State)
    let t : Nat := 60000000004
    let f : Sender := svc
    (s.takesWrite t f Obj.LOG_FLUSH_REQ 1 = true) ∧ ((s.land t).flushAllowed true = false) ∧ (s.log.periodic = false)) ∧
    (let s : State := ({ probe [(Obj.DEV_STATE, 4)] with log := { State.reset.log with lastBegin := some 5, demand := true } } : State)
    let t : Nat := 60000000005
    let slot : Nat := 0
    (s.log.demand = true) ∧ ((s.land t).flushAllowed true = true) ∧ ((s.land t).nextSlot = some slot) ∧ (s.log.staged = none)) ∧
    (let s : State := ({ probe [(Obj.DEV_STATE, 4), (Obj.LOG_STATUS, 2)] with log := { State.reset.log with programming := some (3, State.reset.freeze, 1) } } : State)
    let slot : Nat := 3
    let snap : Snapshot := State.reset.freeze
    (s.log.programming = some (slot, snap, 1)) ∧ (slot < s.flash.slots.length) ∧ ((s.log.demand, s.log.periodic) = (false, false))) ∧
    (let s : State := ({ probe [(Obj.DEV_STATE, 4), (Obj.LOG_STATUS, 2)] with log := { State.reset.log with programming := some (3, State.reset.freeze, 1) } } : State)
    let slot : Nat := 3
    let nxt : Nat := 4
    let snap : Snapshot := State.reset.freeze
    (s.log.programming = some (slot, snap, 1)) ∧ (s.goodAfter slot = some nxt)) ∧
    (let s : State := ({ probe [(Obj.DEV_STATE, 4), (Obj.LOG_STATUS, 2)] with log := { State.reset.log with programming := some (4, State.reset.freeze, 2), failedSlot := some 3 } } : State)
    let slot : Nat := 4
    let first : Nat := 3
    let snap : Snapshot := State.reset.freeze
    (s.log.programming = some (slot, snap, 2)) ∧ (s.log.failedSlot = some first) ∧ (slot < s.flash.slots.length) ∧ (first < s.flash.slots.length) ∧ (s.flash.slots.length = 28)) ∧
    (let s : State := ({ probe [(Obj.DEV_STATE, 1)] with boot := { State.reset.boot with poreset := false } } : State)
    (s.boot.poreset = false) ∧ (s.devState = 1)) ∧
    (let s : State := ({ probe [(Obj.DEV_STATE, 5)] with boot := { State.reset.boot with poreset := false } } : State)
    (s.boot.poreset = false) ∧ (s.devState = 5)) ∧
    (let s : State := (granted [])
    let t : Nat := 9
    let f : Sender := svc
    (s.takesWrite t f Obj.LOG_EXPORT_REQ 1 = true)) :=
  ⟨by decide +kernel,
   by decide +kernel,
   by decide +kernel,
   by decide +kernel,
   by decide +kernel,
   by decide +kernel,
   by decide +kernel,
   by decide +kernel,
   by decide +kernel,
   by decide +kernel,
   by decide +kernel⟩

/-- States that meet the hypotheses of StepRunsFrontCommand. -/
theorem witness_StepRunsFrontCommand :
    (State.reset.withCommand (.logPeriodicFlush 9)).pending = [.logPeriodicFlush 9] ∧ State.reset.pending = [] := by
  decide +kernel

/-- A state whose step StepKeepsStoreSound speaks of. -/
theorem witness_StepKeepsStoreSound :
    State.reset.storeSound = true ∧ (State.reset.withCommand (.logPeriodicFlush 9)).pending ≠ [] ∧
    step (State.reset.withCommand (.logPeriodicFlush 9)) = exec (.logPeriodicFlush 9) State.reset := by
  refine ⟨by decide +kernel, by decide +kernel, rfl⟩

/-- A state whose step StepKeepsOutputsSafe speaks of. -/
theorem witness_StepKeepsOutputsSafe :
    State.reset.outputsSafe = true ∧ (State.reset.withCommand (.logPeriodicFlush 9)).pending ≠ [] ∧
    step (State.reset.withCommand (.logPeriodicFlush 9)) = exec (.logPeriodicFlush 9) State.reset := by
  refine ⟨by decide +kernel, by decide +kernel, rfl⟩

/-- A state that SettleLeavesTheRestAlone speaks of, in RUN without a cause, and an entry that fits. -/
theorem witness_SettleLeavesTheRestAlone :
    let s := probe [(Obj.DEV_STATE, 5)]
    (s.recordChanges s.meaSources).fit.firstCause = none ∧ Obj.ORB_PERIOD / 65536 ∉ [0x25, 0x26, 0x27, 0x2B, 0x2F, 0x30] ∧
      Obj.fit Obj.ORB_PERIOD (s.get Obj.ORB_PERIOD) = s.get Obj.ORB_PERIOD := by
  decide +kernel

/-- A state that meets the hypotheses of ActiveCauseTrips: RUN with the soft trip active. -/
theorem witness_ActiveCauseTrips :
    let s := probe [(Obj.DEV_STATE, 5), (Obj.PRT_TRIP_ACTIVE, 64)]
    s.devState = stRun ∧ (s.recordChanges s.meaSources).fit.firstCause = some 6 ∧ 0 ≤ s.get Obj.PRT_TRIP_COUNT ∧
      s.get Obj.PRT_TRIP_COUNT < 2 ^ 32 := by
  decide +kernel

/-- A state and an entry that meet the hypotheses of RegistersHoldTheirWidth. -/
theorem witness_RegistersHoldTheirWidth :
    let s := probe [(Obj.ORB_PERIOD, 70000)]
    s.objsWf = true ∧ ((Obj.rowOf Obj.ORB_PERIOD).bind fun r => ObjType.length r.type) = some 2 ∧
      s.get Obj.ORB_PERIOD ≠ Obj.absent ∧ s.fit.get Obj.ORB_PERIOD = 4464 := by
  decide +kernel

/-- A state in which a claim finds a source. -/
theorem witness_AClaimReturnsTheBest :
    let s : State := { probe [(Obj.ICU_SRC_CFG 1 8, 0x1000D), (Obj.ICU_SRC_CFG 1 9, 0x1000D)] with
      icu := { State.reset.icu with pending := [(41, 10), (40, 10)] } }
    s.icuTop 8 = some 40 ∧ s.icuPresented 41 8 = true := by
  decide +kernel

/-- A state that meets the hypotheses of ATriggerEndsTheComa. -/
theorem witness_ATriggerEndsTheComa :
    let s := (probe [(Obj.CMT_STATE, 1)]).withCmt fun c => { c with fired := [(3, 70, 0), (1, 60, 5)] }
    s.cmtState = 1 ∧ s.cmt.trigger = none ∧ s.cmt.fired ≠ [] ∧ s.cmt.partials = [] := by
  decide +kernel

/-- States that meet the hypotheses of TheJournalAdmitsOrDrops, clause by clause. -/
theorem witness_TheJournalAdmitsOrDrops :
    let s : State := { State.reset with log := { State.reset.log with credit := 0, dropRun := 0 }, now := 250000000 }
    let d : State := { s with log := { s.log with dropRun := 3 } }
    (recordCredit ≤ s.journalCredit ∧ s.log.dropRun = 0) ∧ (recordCredit ≤ d.journalCredit ∧ d.log.dropRun ≠ 0) ∧
      ({ d with now := 249999999 } : State).journalCredit < recordCredit ∧ s.flash.journal.length ≤ 63488 := by
  decide +kernel

/-- A state whose arm has a submodule, for SubmoduleNumbersAndRecords. -/
theorem witness_SubmoduleNumbersAndRecords :
    let s := probe [(Obj.LNK_PAIR_ARM 0, 5), (Obj.LNK_PAIR_NODES 0, 3)]
    1280 * 5 + 2 ∈ s.armSubmodules 5 ∧ (5 : Nat) < 6 ∧ (1279 : Nat) < 1280 := by
  decide +kernel

/-- States and operands that meet the hypotheses of TheCycleLengthIsSetInConfig, clause by clause. -/
theorem witness_TheCycleLengthIsSetInConfig :
    (let s : State := granted []
    let v : Nat := 40
    let f : Sender := svc
    (v < 65536) ∧ (2 ≤ s.roleOf f) ∧ (s.devState = 2) ∧ (40 ≤ v) ∧ (v ≤ 200)) ∧
    (let s : State := (granted []).put Obj.DEV_STATE 5
    let v : Nat := 50
    let f : Sender := svc
    (v < 65536) ∧ (2 ≤ s.roleOf f) ∧ (s.devState ≠ 2) ∧ (2 ≤ s.devState) ∧ (s.devState ≤ 6)) ∧
    (let s : State := granted []
    let v : Nat := 201
    let f : Sender := svc
    (v < 65536) ∧ (2 ≤ s.roleOf f) ∧ (s.devState = 2) ∧ (v < 40 ∨ 200 < v)) :=
  ⟨by decide +kernel,
   by decide +kernel,
   by decide +kernel⟩

/-- States and operands that meet the hypotheses of CompletionsAndRefiring, clause by clause. -/
theorem witness_CompletionsAndRefiring :
    (let s : State := ({ probe [(Obj.DEV_STATE, 5)] with icu := { State.reset.icu with pending := [], active := [(40, 8), (41, 8)] } } : State)
    let target : Nat := 8
    let src : Nat := 40
    (s.hartRuns target = true) ∧ ((src, target) ∈ s.icu.active)) ∧
    (let s : State := ({ probe [(Obj.DEV_STATE, 5)] with icu := { State.reset.icu with pending := [], active := [(41, 8)] } } : State)
    let target : Nat := 8
    let src : Nat := 40
    (s.hartRuns target = true) ∧ ((src, target) ∉ s.icu.active)) ∧
    (let s : State := ({ probe [(Obj.DEV_STATE, 5), (Obj.ICU_SRC_CFG 1 8, 0x1000D)] with icu := { State.reset.icu with pending := [(40, 10)], active := [(40, 8)] } } : State)
    let t : Nat := 9
    let target : Nat := 8
    let src : Nat := 40
    (s.hartRuns target = true) ∧ ((src, target) ∈ s.icu.active) ∧ ((∀ p ∈ s.icu.active, p.1 = src → p = (src, target))) ∧ (((s.land t).withIcu fun i => { i with active := [] }).icuPresented src target = true)) ∧
    (let s : State := (({ probe [(Obj.DEV_STATE, 5), (Obj.ENG_STATE 3, 2), (Obj.ICU_SRC_CFG 5 1, 0x80F)] with icu := { State.reset.icu with pending := [(161, 3)], active := [(161, 3)] } } : State).withHart 3 fun h => { h with fast := true, fen := true, fcause := 161, fepc := 64, fastAt := 4000 })
    let t : Nat := 5000
    let e : Nat := 3
    let h : Hart := { Hart.reset with fast := true, fen := true, fcause := 161, fepc := 64, fastAt := 4000 }
    (s.engRuns e = true) ∧ (s.eng.harts[e]? = some h) ∧ (h.fast = true) ∧ (h.fen = true) ∧ ((h.fcause, e) ∈ s.icu.active) ∧ (((s.land t).withIcu fun i => { i with active := i.active.filter (· ≠ (h.fcause, e)) }).icuFast e = some h.fcause)) :=
  ⟨by decide +kernel,
   by decide +kernel,
   by decide +kernel,
   by decide +kernel⟩

end Sys2Proof.Tests
end

section
/-!
PROOF. Submodule numbers and their records (R8): where the keys of the record entries lie in the dictionary, which of them the
object tables hold, and the numbers an arm's configured submodules have.
-/

namespace Sys2Proof.Proofs

open Sys2Proof Sys2Proof.Machine

/-! ## The submodule records of the dictionary (Table 10.14) -/

/-- The submodule records take the indices 0x4000 to 0x5DFF (Table 17.11). -/
theorem rowsAt_submoduleRecord {i : Nat} (hi : i < 7680) : Obj.rowsAt (0x4000 + i) = Obj.rows_10_14 := by
  have below (n : Nat) (hn : n ≤ 0x4000) : ¬ 0x4000 + i < n := by omega
  have hlast : 0x4000 + i < 0x5E00 := by omega
  simp [Obj.rowsAt, below, hlast]

/-- Beyond the last record the dictionary has no index (R452). -/
theorem rowsAt_beyond_submoduleRecords {i : Nat} (hi : 7680 ≤ i) : Obj.rowsAt (0x4000 + i) = [] := by
  have below (n : Nat) (hn : n ≤ 0x5E00) : ¬ 0x4000 + i < n := by omega
  simp [Obj.rowsAt, below]

/-- Every row of Table 10.14 covers the index of every record. -/
theorem rows_10_14_index : ∀ r ∈ Obj.rows_10_14, r.indexLo = 0x4000 ∧ r.indexHi = 0x5DFF := by
  decide

/-- No row of Table 10.14 reaches outside the subindices 0x01 to 0x24. -/
theorem rows_10_14_sub_bounds : ∀ r ∈ Obj.rows_10_14, 1 ≤ r.subLo ∧ r.subHi ≤ 0x24 := by
  decide

/-- Table 10.14 leaves no gap between its first and its last subindex. -/
theorem rows_10_14_sub_no_gap :
    ∀ sub < 0x25, 1 ≤ sub → ∃ r ∈ Obj.rows_10_14, r.subLo ≤ sub ∧ sub ≤ r.subHi := by
  decide

theorem rows_10_14_sub (sub : Nat) : (∃ r ∈ Obj.rows_10_14, r.subLo ≤ sub ∧ sub ≤ r.subHi) ↔ 1 ≤ sub ∧ sub ≤ 0x24 := by
  constructor
  · rintro ⟨r, hr, hlo, hhi⟩
    obtain ⟨hfirst, hlast⟩ := rows_10_14_sub_bounds r hr
    exact ⟨Nat.le_trans hfirst hlo, Nat.le_trans hhi hlast⟩
  · rintro ⟨hfirst, hlast⟩
    exact rows_10_14_sub_no_gap sub (Nat.lt_succ_of_le hlast) hfirst

theorem submoduleRecord_index {i sub : Nat} (hsub : sub < 256) : (0x400000 + sub + 256 * i) / 256 = 0x4000 + i := by
  omega

/-- The key of subindex `sub` in record `i` is in the dictionary exactly for the records of the 7,680 submodules and the
subindices of Table 10.14. -/
theorem rowOf_submoduleRecord_isSome {i sub : Nat} (hsub : sub < 256) :
    (Obj.rowOf (0x400000 + sub + 256 * i)).isSome = true ↔ i < 7680 ∧ 1 ≤ sub ∧ sub ≤ 0x24 := by
  have hsubindex : (0x400000 + sub + 256 * i) % 256 = sub := by omega
  rw [Obj.rowOf, Obj.find?, submoduleRecord_index hsub, hsubindex]
  by_cases hi : i < 7680
  · have hlast : 0x4000 + i ≤ 0x5DFF := by omega
    rw [rowsAt_submoduleRecord hi, ← rows_10_14_sub, List.find?_isSome]
    simp only [hi, true_and]
    refine exists_congr fun r => and_congr_right fun hr => ?_
    obtain ⟨hlo, hhi⟩ := rows_10_14_index r hr
    simp [hlo, hhi, hlast]
  · simp [rowsAt_beyond_submoduleRecords (Nat.le_of_not_lt hi), hi]

/-! ## The configured submodules of an arm -/

theorem mem_armSubmodules (s : State) (a n : Nat) :
    n ∈ s.armSubmodules a ↔ ∃ k, k < s.armNodes a ∧ n = 1280 * a + k := by
  simp [State.armSubmodules, eq_comm]

/-- Arm and index are the quotient and the remainder of the global number by 1,280. -/
theorem submoduleNumber_injective {a k b j : Nat} (hk : k < 1280) (hj : j < 1280)
    (h : 1280 * a + k = 1280 * b + j) : a = b ∧ k = j := by
  omega

/-- Settles O58: the numbers by the list `armSubmodules` makes, the records by which keys Table 10.14 holds. -/
theorem submoduleNumbersAndRecords : Obligations.SubmoduleNumbersAndRecords := by
  refine ⟨mem_armSubmodules, fun _ _ _ _ => submoduleNumber_injective, fun a k ha hk => ?_⟩
  have hn : 1280 * a + k < 7680 := by omega
  refine ⟨submoduleRecord_index (sub := 0x01) (by decide), ?capVRaw, ?smClass, ?beyond⟩
  case capVRaw => exact (rowOf_submoduleRecord_isSome (sub := 0x01) (by decide)).2 ⟨hn, by decide⟩
  case smClass => exact (rowOf_submoduleRecord_isSome (sub := 0x05) (by decide)).2 ⟨hn, by decide⟩
  case beyond =>
    rw [Bool.eq_false_iff, ne_eq, rowOf_submoduleRecord_isSome (i := 7680) (sub := 0x05) (by decide)]
    omega

end Sys2Proof.Proofs
end

section
/-!
PROOF. A dictionary write that passes every check of Table 17.2 (R428, R429), and what SWG_PARAM_HOLD does with it (R76).
-/

namespace Sys2Proof.Proofs

open Sys2Proof Sys2Proof.Machine

/-! ## A write that commits at once -/

@[simp] theorem get_heard (s : State) (f : Sender) (key : Nat) : (s.heard f).get key = s.get key := rfl

@[simp] theorem get_commitEntry (s : State) (key other : Nat) (v : Int) :
    (s.commitEntry key v).get other = (s.setEntry key v).get other := rfl

@[simp] theorem bit_commitEntry (s : State) (key other b : Nat) (v : Int) :
    (s.commitEntry key v).bit other b = (s.setEntry key v).bit other b := rfl

@[simp] theorem dictServed_heard (s : State) (f : Sender) : (s.heard f).dictServed = s.dictServed := rfl

/-- An accepted write of a read-write entry is committed in the state that has heard the request, and answers done (R428, R429). -/
theorem writeEntry_of_takesWrite {s : State} {t : Nat} {f : Sender} {key : Nat} {v : Int} {row : ObjRow}
    (hrow : Obj.rowOf key = some row) (hrw : row.access = .rw) (hnow : ∀ w, answersLater key w = false)
    (hwrite : s.takesWrite t f key v = true) :
    (s.land t).writeEntry f key v =
      (((s.land t).heard f).commitEntry key
        (ObjRow.masked row (ObjType.value row.type (ObjType.bytes row.type v)))).emit .done := by
  have hfind : Obj.find? (key / 256) (key % 256) = some row := hrow
  simp only [State.takesWrite, hrow, Bool.and_eq_true, Option.isNone_iff_eq_none, Bool.not_eq_true'] at hwrite
  obtain ⟨⟨hserved, hjudge⟩, hunstaged⟩ := hwrite
  rw [dictServed_heard] at hserved
  simp [State.writeEntry, State.requestWrite, State.commitWrite, State.reply, hrow, hfind, hrw, hserved, hjudge, hunstaged,
    hnow, Nat.div_add_mod]

/-! ## SWG_PARAM_HOLD -/

/-- SWG_PARAM_HOLD is read-write and holds the 0 or 1 that is written to it (Table 3.8). -/
theorem row_paramHold :
    ∃ row, Obj.rowOf Obj.SWG_PARAM_HOLD = some row ∧ row.access = .rw ∧
      ∀ v, v = 0 ∨ v = 1 → ObjRow.masked row (ObjType.value row.type (ObjType.bytes row.type v)) = v := by
  refine ⟨_, rfl, rfl, ?_⟩
  rintro _ (rfl | rfl) <;> decide

/-- SWG_STATUS bit 11 shows the tunables that wait while the hold is set (R76). -/
theorem setEntry_paramHold (s : State) (v : Int) :
    s.setEntry Obj.SWG_PARAM_HOLD v =
      (s.put Obj.SWG_PARAM_HOLD v).setBit Obj.SWG_STATUS 11 (decide (v = 1) && !s.dict.tunables.isEmpty) := rfl

/-- An accepted write of SWG_PARAM_HOLD keeps the staged tunables and shows in SWG_STATUS whether any is held (R76). -/
theorem paramHold_written {s : State} {t : Nat} {f : Sender} {v : Int} (hv : v = 0 ∨ v = 1)
    (hwrite : s.takesWrite t f Obj.SWG_PARAM_HOLD v = true) :
    ∃ u, (s.land t).writeEntry f Obj.SWG_PARAM_HOLD v = u ∧
      u.get Obj.SWG_PARAM_HOLD = v ∧
      u.bit Obj.SWG_STATUS 11 = (decide (v = 1) && !s.dict.tunables.isEmpty) ∧
      u.dict.tunables = s.dict.tunables ∧
      u.out = [Out.done] ∧
      s.onlyEntries u [Obj.SWG_PARAM_HOLD, Obj.SWG_STATUS] ∧
      u = { s.land t with objs := u.objs, dict := u.dict, out := u.out } := by
  obtain ⟨row, hrow, hrw, hval⟩ := row_paramHold
  have hwritten := writeEntry_of_takesWrite hrow hrw (fun _ => rfl) hwrite
  rw [hval v hv] at hwritten
  refine ⟨_, hwritten, ?hold, ?shown, rfl, rfl, ?others, rfl⟩
  case hold =>
    simp [setEntry_paramHold, State.get_setBit]
  case shown =>
    rw [State.bit_emit, bit_commitEntry, setEntry_paramHold, State.bit_setBit, if_pos rfl, if_pos rfl]
    rfl
  case others =>
    intro key hkey
    simp only [List.mem_cons, List.not_mem_nil, or_false, not_or] at hkey
    obtain ⟨hhold, hstatus⟩ := hkey
    simp [setEntry_paramHold, State.get_setBit, State.get_put, hhold, hstatus]

end Sys2Proof.Proofs
end

section
/-!
PROOF. The tracking lock (R73) and the two clocks of a ride through: the clear time that begins recovery (R86) and the longest ride
(R87).
-/

namespace Sys2Proof.Proofs

open Sys2Proof Sys2Proof.Machine

/-- A bit of an entry that a change leaves alone. -/
theorem bit_of_onlyEntries {a b : State} {keys : List Nat} (h : a.onlyEntries b keys) {key : Nat} (hkey : key ∉ keys) (i : Nat) :
    b.bit key i = a.bit key i := by
  rw [State.bit, State.getN, h key hkey, State.bit, State.getN]

theorem sourcePending_raise (s : State) (src : Nat) : (s.raise src).sourcePending src :=
  fun c hc => s.pending_raise src c hc

/-! ## Tracking lock -/

theorem trackLock_of_held {s : State} (hst : s.devState = stLinkup ∨ s.devState = stBlocked ∨ s.devState = stTrip)
    (hheld : 20000000 ≤ s.swg.lockFor) (hopen : s.swg.locked = false) :
    s.trackLock = ((s.withSwg fun g => { g with locked := true }).setBit Obj.SWG_STATUS 1 true).raise 199 := by
  simp [State.trackLock, hst, hheld, hopen, or_assoc]

/-! ## Recovery -/

/-- Every cycle of FRT_CLEAR_TIME was clear in the limiting phase of a ride in RUN (R86). -/
structure RecoveryDue (s : State) : Prop where
  run : s.devState = stRun
  limiting : s.limiting = true
  clear : s.getN Obj.FRT_CLEAR_TIME * 1000000 ≤ s.frt.core.clearFor

theorem rideClear_of_due {s : State} (h : RecoveryDue s) :
    s.rideClear = ((s.withRide fun r => { r with recover := true }).frtBit 5 true).raise 212 := by
  simp [State.rideClear, h.run, h.limiting, h.clear]

theorem rideClear_of_not_due {s : State} (h : ¬ RecoveryDue s) : s.rideClear = s := by
  refine if_neg fun hguard => h ?_
  simp only [Bool.and_eq_true, decide_eq_true_eq] at hguard
  obtain ⟨⟨hrun, hlimiting⟩, hclear⟩ := hguard
  exact ⟨hrun, hlimiting, hclear⟩

/-- Recovery has begun: no longer the limiting phase (R86). -/
theorem limiting_rideClear_of_due {s : State} (h : RecoveryDue s) : s.rideClear.limiting = false := by
  rw [rideClear_of_due h]
  exact Bool.and_false _

/-- What the begin of recovery changes (R86). -/
theorem rideClear_begins_recovery {s : State} (h : RecoveryDue s) :
    s.rideClear.frt.core.recover = true ∧
      s.rideClear.frt.core.ride = true ∧
      bitOf s.rideClear.frt.status 5 = true ∧
      s.rideClear.sourcePending 212 ∧
      s.onlyEntries s.rideClear [] ∧
      s.rideClear = { s with objs := s.rideClear.objs, frt := s.rideClear.frt, icu := s.rideClear.icu } := by
  obtain ⟨hride, -⟩ := Bool.and_eq_true_iff.1 h.limiting
  rw [rideClear_of_due h]
  exact ⟨rfl, hride, bitOf_withBit _ 5 5 true, sourcePending_raise _ _, fun _ _ => rfl, rfl⟩

/-! ## The longest ride -/

/-- A recovery that is due wins over the longest ride (R87). -/
theorem rideTimeout_of_due {s : State} (h : RecoveryDue s) : s.rideTimeout = s.rideClear := by
  simp [State.rideTimeout, limiting_rideClear_of_due h]

/-- A unit that does not own the valve raises no FRT_TIMEOUT (R87). -/
theorem rideTimeout_of_not_owner {s : State} (hdue : ¬ RecoveryDue s) (howner : s.owner = false) : s.rideTimeout = s := by
  simp [State.rideTimeout, rideClear_of_not_due hdue, howner]

theorem rideTimeout_of_exceeded {s : State} (hdue : ¬ RecoveryDue s) (hrun : s.devState = stRun) (hlimiting : s.limiting = true)
    (hmax : s.getN Obj.FRT_MAX_TIME * 1000000 < s.frt.core.rideFor) (howner : s.owner = true)
    (hcause : s.causeActive causeFrtTimeout = false) :
    s.rideTimeout = (s.eventCause causeFrtTimeout).raise 216 := by
  simp [State.rideTimeout, rideClear_of_not_due hdue, hrun, hlimiting, hmax, howner, hcause]

/-- Outside TRIP an event cause is listed with its time and becomes active; nothing is latched (R188, R189). -/
theorem eventCause_of_not_trip {s : State} (hst : s.devState ≠ stTrip) (c : Nat) :
    s.eventCause c =
      ({ s with prt := { s.prt with events := s.prt.events.filter (fun (e : Nat × Nat) => e.1 ≠ c) ++ [(c, s.now)] } }).setBit
        Obj.PRT_TRIP_ACTIVE c true := by
  simp only [State.eventCause, State.setCause]
  exact if_neg fun h => hst (of_decide_eq_true h)

theorem causeActive_eventCause {s : State} (hst : s.devState ≠ stTrip) (c : Nat) : (s.eventCause c).causeActive c = true := by
  rw [eventCause_of_not_trip hst, State.causeActive, State.bit_setBit, if_pos rfl, if_pos rfl]

theorem onlyEntries_eventCause {s : State} (hst : s.devState ≠ stTrip) (c : Nat) :
    s.onlyEntries (s.eventCause c) [Obj.PRT_TRIP_ACTIVE] := by
  intro key hkey
  rw [eventCause_of_not_trip hst, State.get_setBit, if_neg (List.ne_of_not_mem_cons hkey)]
  rfl

theorem eventCause_frame {s : State} (hst : s.devState ≠ stTrip) (c : Nat) :
    s.eventCause c = { s with objs := (s.eventCause c).objs, prt := (s.eventCause c).prt } := by
  rw [eventCause_of_not_trip hst]
  rfl

/-- Settles O24: each command's effect by the lemma of its case, the two clauses of a recovery that is due by one. -/
theorem holdTrackingAndRide : Obligations.HoldTrackingAndRide := by
  intro s t
  refine ⟨?hold, ?release, ?lock, ?recovery, ?exceeded, ?notOwner, ?recoveryWins⟩
  case hold =>
    intro f hwrite
    obtain ⟨u, rfl, hu⟩ := paramHold_written (.inr rfl) hwrite
    exact ⟨_, rfl, hu⟩
  case release =>
    intro f hwrite
    obtain ⟨u, rfl, hu⟩ := paramHold_written (.inl rfl) hwrite
    exact ⟨_, rfl, hu⟩
  case lock =>
    intro hst hheld hopen
    refine ⟨(s.land t).trackLock, rfl, ?_⟩
    rw [trackLock_of_held (s := s.land t) hst hheld hopen]
    refine ⟨rfl, by simp [State.bit_setBit], sourcePending_raise _ _, fun key hkey => ?_, rfl⟩
    rw [State.get_raise, State.get_setBit, if_neg (List.ne_of_not_mem_cons hkey)]
    rfl
  case recovery =>
    intro hrun hlimiting hclear
    exact ⟨(s.land t).rideClear, rfl, rideClear_begins_recovery (s := s.land t) ⟨hrun, hlimiting, hclear⟩⟩
  case exceeded =>
    intro hrun hlimiting hclear hmax howner hcause
    have hdue : ¬ RecoveryDue (s.land t) := fun h => absurd h.clear (Nat.not_le.2 hclear)
    have htrip : (s.land t).devState ≠ stTrip := fun h => absurd (hrun.symm.trans h) (by decide)
    refine ⟨(s.land t).rideTimeout, rfl, ?_⟩
    rw [rideTimeout_of_exceeded (s := s.land t) hdue hrun hlimiting hmax howner hcause]
    refine ⟨causeActive_eventCause htrip _, ?_, sourcePending_raise _ _, onlyEntries_eventCause htrip _, ?_⟩
    · rw [eventCause_frame htrip]; rfl
    · rw [eventCause_frame htrip]; rfl
  case notOwner =>
    intro howner hwait
    have hdue : ¬ RecoveryDue (s.land t) := by
      rintro ⟨-, hlimiting, hclear⟩
      rcases hwait with hrest | hshort
      · exact absurd (hrest.symm.trans hlimiting) (by decide)
      · exact absurd hclear (Nat.not_le.2 hshort)
    exact ⟨_, rfl, rideTimeout_of_not_owner hdue howner⟩
  case recoveryWins =>
    intro hrun hlimiting hclear
    have hdue : RecoveryDue (s.land t) := ⟨hrun, hlimiting, hclear⟩
    obtain ⟨hrecover, -, -, hpending, honly, hframe⟩ := rideClear_begins_recovery hdue
    refine ⟨(s.land t).rideTimeout, rfl, ?_⟩
    rw [rideTimeout_of_due hdue]
    exact ⟨hrecover, bit_of_onlyEntries honly List.not_mem_nil _, hpending, honly, hframe⟩

end Sys2Proof.Proofs
end

section
/-!
PROOF. The phases of the black start and the causes that end it (R92, R93, R95), and synchronisation to a live grid (R96, R97).
-/

namespace Sys2Proof.Proofs

open Sys2Proof Sys2Proof.Machine

/-! ## A source raised with a record of its event -/

theorem uartLine_icu (s : State) (chars : List Nat) : (s.uartLine chars).icu = s.icu := by
  simp only [State.uartLine, apply_ite State.icu, State.emit_icu, State.bump_icu, ite_self]

theorem pushRecord_icu (s : State) (uptime code : Nat) (data : List Nat) (counter : Nat) (transient lasting : Bool) :
    (s.pushRecord uptime code data counter transient lasting).icu = s.icu := by
  simp only [State.pushRecord, apply_ite State.icu, uartLine_icu, State.put_icu, ite_self]

/-- A dropped record raises source 500 at the first drop of a run; an admitted one raises nothing (R459). -/
theorem journalAt_icu (s : State) (uptime code subject : Nat) (data : List Nat) (counter : Nat) (transient lasting : Bool) :
    (s.journalAt uptime code subject data counter transient lasting).icu =
      if s.journalCredit < recordCredit then (if s.log.dropRun = 0 then (s.raise 500).icu else s.icu) else s.icu := by
  simp only [State.journalAt, apply_ite State.icu, pushRecord_icu, State.bump_icu, ite_self]

theorem pending_journalAt_keep (s : State) (uptime code subject : Nat) (data : List Nat) (counter : Nat) (transient lasting : Bool)
    {p : Nat × Nat} (h : p ∈ s.icu.pending) : p ∈ (s.journalAt uptime code subject data counter transient lasting).icu.pending := by
  rw [journalAt_icu]
  split
  · split
    · exact State.pending_raise_keep s 500 h
    · exact h
  · exact h

/-- A source outside group 5 is shared: its one copy is number 10 (R390). -/
theorem sourcePending_iff_of_shared (s : State) {src : Nat} (hshared : src / 32 ≠ 5) :
    s.sourcePending src ↔ (src, 10) ∈ s.icu.pending := by
  simp [State.sourcePending, State.srcCopies, hshared]

theorem sourcePending_event (s : State) {src : Nat} (hshared : src / 32 ≠ 5) (subject : Nat) (data : List Nat) :
    (s.event src subject data).sourcePending src := by
  have hraised := (sourcePending_iff_of_shared _ hshared).1 (sourcePending_raise s src)
  exact (sourcePending_iff_of_shared _ hshared).2 (pending_journalAt_keep _ _ _ _ _ _ _ _ hraised)

/-! ## Black start -/

theorem blkEnter_of_ne {s : State} {phase : Nat} (h : s.blkPhase ≠ phase) :
    s.blkEnter phase =
      ((s.withRide fun r => { r with phase := phase }).put Obj.BLK_PHASE phase).event 217 noSubject [s.blkPhase, phase] :=
  if_neg h

/-- What a change of the black-start phase does, and what it leaves alone (R92). -/
theorem blkEnter_changes_phase {s : State} {phase : Nat} (h : s.blkPhase ≠ phase) :
    (s.blkEnter phase).blkPhase = phase ∧
      (s.blkEnter phase).get Obj.BLK_PHASE = phase ∧
      (s.blkEnter phase).sourcePending 217 ∧
      s.entriesBut (s.blkEnter phase) [Obj.BLK_PHASE] ∧
      s.blkEnter phase =
        { s with objs := (s.blkEnter phase).objs, frt := (s.blkEnter phase).frt, icu := (s.blkEnter phase).icu
                 log := (s.blkEnter phase).log, flash := (s.blkEnter phase).flash, dict := (s.blkEnter phase).dict
                 out := (s.blkEnter phase).out } := by
  rw [blkEnter_of_ne h]
  refine ⟨?phase, ?shown, sourcePending_event _ (by decide) _ _, ?others, ?frame⟩
  case phase => rw [State.blkPhase, State.event_frt]; rfl
  case shown => rw [State.get_event _ _ _ _ (by decide), State.get_put_same]
  case others =>
    intro key hlog hkey
    rw [State.get_event _ _ _ _ hlog, State.get_put_ne _ _ (List.ne_of_not_mem_cons hkey)]
    rfl
  case frame =>
    have hunits := (State.logOnly_event ((s.withRide fun r => { r with phase := phase }).put Obj.BLK_PHASE phase) 217 noSubject
      [s.blkPhase, phase]).2
    rw [State.event_frt]
    exact hunits

/-- What a cause of R93 does in an owner outside TRIP in which it is not active yet. -/
theorem blkTrip_raises_cause {s : State} {cause : Nat} (hst : s.devState ≠ stTrip) (howner : s.owner = true)
    (hcause : s.causeActive cause = false) :
    (s.blkTrip cause).causeActive cause = true ∧
      (s.blkTrip cause).sourcePending 222 ∧
      s.onlyEntries (s.blkTrip cause) [Obj.PRT_TRIP_ACTIVE] ∧
      s.blkTrip cause =
        { s with objs := (s.blkTrip cause).objs, prt := (s.blkTrip cause).prt, icu := (s.blkTrip cause).icu } := by
  have htrip : s.blkTrip cause = (s.eventCause cause).raise 222 := by simp [State.blkTrip, howner, hcause]
  rw [htrip]
  refine ⟨causeActive_eventCause hst _, sourcePending_raise _ _, onlyEntries_eventCause hst _, ?_⟩
  rw [eventCause_frame hst]
  rfl

/-- The time in DEAD_CHECK has passed on a dead bus, in RUN and in a role that decides (R92, R93). -/
structure DeadCheckOver (s : State) : Prop where
  run : s.devState = stRun
  phase : s.blkPhase = blkDead
  role : s.devRole ≠ roleStandby
  bus : s.causeActive causeLiveBus = false
  time : s.getN Obj.BLK_DEAD_TIME * 1000000 ≤ s.frt.deadFor

theorem blkDeadEnd_of_over {s : State} (h : DeadCheckOver s) :
    s.blkDeadEnd =
      if fromQ 30 s.swg.uDc < milli (s.get Obj.BLK_UDC_MIN) then s.blkTrip causeNoDc
      else (s.blkEnter blkRamp).withRide fun r => { r with emf := 0 } :=
  if_pos (by simp [h.run, h.phase, h.role, h.bus, h.time])

theorem blkDeadEnd_of_dc {s : State} (h : DeadCheckOver s) (hdc : milli (s.get Obj.BLK_UDC_MIN) ≤ fromQ 30 s.swg.uDc) :
    s.blkDeadEnd = (s.blkEnter blkRamp).withRide fun r => { r with emf := 0 } :=
  (blkDeadEnd_of_over h).trans (if_neg (Rat.not_lt.2 hdc))

theorem blkDeadEnd_of_noDc {s : State} (h : DeadCheckOver s) (hdc : fromQ 30 s.swg.uDc < milli (s.get Obj.BLK_UDC_MIN)) :
    s.blkDeadEnd = s.blkTrip causeNoDc :=
  (blkDeadEnd_of_over h).trans (if_pos hdc)

theorem blkHoldEnd_of_over {s : State} (hrun : s.devState = stRun) (hphase : s.blkPhase = blkHold) (hrole : s.devRole ≠ roleStandby)
    (htime : s.getN Obj.BLK_HOLD_TIME * 1000000 ≤ s.frt.holdFor) :
    s.blkHoldEnd = (s.blkEnter blkHand).withSwg fun g => { g with handStart := true } :=
  if_pos (by simp [hrun, hphase, hrole, htime])

theorem blkStall_of_exceeded {s : State} (hrun : s.devState = stRun) (hphase : s.blkPhase = blkRamp)
    (hpause : s.getN Obj.BLK_PAUSE_MAX * 1000000 < s.frt.pauseFor) : s.blkStall = s.blkTrip causeRampStall :=
  if_pos (by simp [hrun, hphase, hpause])

/-- An owner is ALONE or ACTIVE, so not STANDBY. -/
theorem devRole_ne_standby_of_owner {s : State} (howner : s.owner = true) : s.devRole ≠ roleStandby := by
  intro hrole
  rw [State.owner, hrole] at howner
  exact absurd howner (by decide)

theorem devState_ne_trip_of_run {s : State} (hrun : s.devState = stRun) : s.devState ≠ stTrip := by
  rw [hrun]
  decide

/-! ## Synchronisation -/

theorem syncReq_ne_blkStatus : Obj.BLK_SYNC_REQ ≠ Obj.BLK_STATUS := by
  decide

/-- What the end of synchronisation does, and which entries it leaves alone (R97). -/
theorem syncRelease_ends (s : State) :
    s.syncRelease.syncOn = false ∧
      s.syncRelease.frt.release = some (s.frt.wOff, s.frt.vOff) ∧
      s.syncRelease.bit Obj.BLK_STATUS 2 = false ∧
      (∀ b, b ≠ 2 → s.syncRelease.bit Obj.BLK_STATUS b = s.bit Obj.BLK_STATUS b) ∧
      s.onlyEntries s.syncRelease [Obj.BLK_SYNC_REQ, Obj.BLK_STATUS] := by
  refine ⟨?off, rfl, ?ready, ?bits, ?others⟩
  case off =>
    have hreq : s.syncRelease.get Obj.BLK_SYNC_REQ = 0 := by
      rw [State.syncRelease, State.get_withFrt, State.get_setBit, if_neg syncReq_ne_blkStatus, State.get_put_same]
    exact decide_eq_false (by rw [hreq]; decide)
  case ready => rw [State.syncRelease, State.bit_withFrt, State.bit_setBit, if_pos rfl, if_pos rfl]
  case bits =>
    intro b hb
    rw [State.syncRelease, State.bit_withFrt, State.bit_setBit, if_pos rfl, if_neg hb, State.bit_put,
      if_neg syncReq_ne_blkStatus.symm]
  case others =>
    intro key hkey
    simp only [List.mem_cons, List.not_mem_nil, or_false, not_or] at hkey
    obtain ⟨hreq, hstatus⟩ := hkey
    rw [State.syncRelease, State.get_withFrt, State.get_setBit, if_neg hstatus, State.get_put_ne _ _ hreq]

/-- What the start of synchronisation shows, and which entries it leaves alone (R96). -/
theorem syncStart_shows (s : State) :
    s.syncStart.syncOn = true ∧
      s.syncStart.bit Obj.BLK_STATUS 1 = true ∧
      s.syncStart.bit Obj.BLK_STATUS 2 = false ∧
      s.onlyEntries s.syncStart [Obj.BLK_SYNC_REQ, Obj.BLK_STATUS] := by
  refine ⟨?on, ?active, ?ready, ?others⟩
  case on =>
    have hreq : s.syncStart.get Obj.BLK_SYNC_REQ = 1 := by
      rw [State.syncStart, State.get_put_ne _ _ syncReq_ne_blkStatus, State.get_put_same]
    exact decide_eq_true hreq
  case active =>
    rw [State.syncStart, State.bit_put, if_pos rfl, Int.toNat_natCast]
    simp only [bitOf_withBit]
    rfl
  case ready =>
    rw [State.syncStart, State.bit_put, if_pos rfl, Int.toNat_natCast]
    simp only [bitOf_withBit]
    rfl
  case others =>
    intro key hkey
    simp only [List.mem_cons, List.not_mem_nil, or_false, not_or] at hkey
    obtain ⟨hreq, hstatus⟩ := hkey
    rw [State.syncStart, State.get_put_ne _ _ hstatus, State.get_put_ne _ _ hreq, State.get_withFrt]

/-- BLK_SYNC_REQ is read-write and takes the 0 or 1 that is written to it (Table 4.7). -/
theorem row_syncReq :
    ∃ row, Obj.rowOf Obj.BLK_SYNC_REQ = some row ∧ row.access = .rw ∧
      ∀ v, v = 0 ∨ v = 1 → ObjRow.masked row (ObjType.value row.type (ObjType.bytes row.type v)) = v := by
  refine ⟨_, rfl, rfl, ?_⟩
  rintro _ (rfl | rfl) <;> decide

theorem setEntry_syncReq (s : State) (v : Int) :
    s.setEntry Obj.BLK_SYNC_REQ v = if v = 1 then s.syncStart else if s.syncOn then s.syncRelease else s := rfl

theorem writeEntry_syncReq {s : State} {t : Nat} {f : Sender} {v : Int} (hv : v = 0 ∨ v = 1)
    (hwrite : s.takesWrite t f Obj.BLK_SYNC_REQ v = true) :
    (s.land t).writeEntry f Obj.BLK_SYNC_REQ v = (((s.land t).heard f).commitEntry Obj.BLK_SYNC_REQ v).emit .done := by
  obtain ⟨row, hrow, hrw, hval⟩ := row_syncReq
  rw [writeEntry_of_takesWrite hrow hrw (fun _ => rfl) hwrite, hval v hv]

/-- An accepted write of 1 starts synchronisation in the state that has heard the request. -/
theorem writeEntry_syncReq_one {s : State} {t : Nat} {f : Sender} (hwrite : s.takesWrite t f Obj.BLK_SYNC_REQ 1 = true) :
    ∃ d, (s.land t).writeEntry f Obj.BLK_SYNC_REQ 1 = ({ ((s.land t).heard f).syncStart with dict := d } : State).emit .done :=
  ⟨_, writeEntry_syncReq (.inr rfl) hwrite⟩

/-- An accepted write of 0 ends synchronisation in the state that has heard the request. -/
theorem writeEntry_syncReq_zero {s : State} {t : Nat} {f : Sender} (hwrite : s.takesWrite t f Obj.BLK_SYNC_REQ 0 = true)
    (hon : s.syncOn = true) :
    ∃ d, (s.land t).writeEntry f Obj.BLK_SYNC_REQ 0 = ({ ((s.land t).heard f).syncRelease with dict := d } : State).emit .done := by
  have hset : ((s.land t).heard f).setEntry Obj.BLK_SYNC_REQ 0 = ((s.land t).heard f).syncRelease := by
    rw [setEntry_syncReq, if_neg (by decide)]
    exact if_pos hon
  refine ⟨{ ((s.land t).heard f).syncRelease.dict with live := true }, (writeEntry_syncReq (.inl rfl) hwrite).trans ?_⟩
  rw [State.commitEntry, hset]

theorem syncDwell_of_held {s : State} (hon : s.syncOn = true) (hready : s.bit Obj.BLK_STATUS 2 = false)
    (hheld : s.getN Obj.BLK_SYNC_DWELL * 1000000 ≤ s.frt.readyFor) :
    s.syncDwell = ((s.withFrt fun r => { r with readySeen := true }).setBit Obj.BLK_STATUS 2 true).raise 219 :=
  if_pos (by simp [hon, hready, hheld])

/-- Synchronisation ends with its outcome: a bit of BLK_STATUS and a source (R97). -/
def syncEnd (s : State) (b src : Nat) : State := ((s.setBit Obj.BLK_STATUS b true).raise src).syncRelease

theorem syncClosed_of_held {s : State} (hon : s.syncOn = true) (hready : s.frt.readySeen = true)
    (hheld : 20000000 ≤ s.frt.closeFor) : s.syncClosed = syncEnd s 3 220 :=
  if_pos (by simp [hon, hready, hheld])

theorem syncTimeout_of_passed {s : State} (hon : s.syncOn = true) (hready : s.frt.readySeen = false)
    (hpassed : s.getN Obj.BLK_SYNC_TIMEOUT * 1000000000 ≤ s.frt.syncFor) : s.syncTimeout = syncEnd s 4 221 :=
  if_pos (by simp [hon, hready, hpassed])

/-- What the end of synchronisation with an outcome does, and what it leaves alone (R97). -/
theorem syncEnd_reports (s : State) {b src : Nat} (hb : b ≠ 2) (hshared : src / 32 ≠ 5) :
    (syncEnd s b src).syncOn = false ∧
      (syncEnd s b src).bit Obj.BLK_STATUS b = true ∧
      (syncEnd s b src).frt.release = some (s.frt.wOff, s.frt.vOff) ∧
      (syncEnd s b src).sourcePending src ∧
      s.onlyEntries (syncEnd s b src) [Obj.BLK_SYNC_REQ, Obj.BLK_STATUS] ∧
      syncEnd s b src = { s with objs := (syncEnd s b src).objs, frt := (syncEnd s b src).frt, icu := (syncEnd s b src).icu } := by
  obtain ⟨hoff, hrelease, -, hbits, honly⟩ := syncRelease_ends ((s.setBit Obj.BLK_STATUS b true).raise src)
  refine ⟨hoff, ?outcome, hrelease, ?pending, ?others, rfl⟩
  case outcome =>
    rw [syncEnd, hbits b hb, State.bit_raise, State.bit_setBit, if_pos rfl, if_pos rfl]
  case pending =>
    have hraised := (sourcePending_iff_of_shared _ hshared).1 (sourcePending_raise (s.setBit Obj.BLK_STATUS b true) src)
    exact (sourcePending_iff_of_shared _ hshared).2 hraised
  case others =>
    intro key hkey
    have hstatus : key ≠ Obj.BLK_STATUS := List.ne_of_not_mem_cons (List.not_mem_of_not_mem_cons hkey)
    rw [syncEnd, honly key hkey, State.get_raise, State.get_setBit, if_neg hstatus]

/-- Settles O25: each command's effect by the lemma of its case, the two trips of the black start by one and the two ends of
synchronisation with an outcome by one. -/
theorem blackStartAndSynchronisation : Obligations.BlackStartAndSynchronisation := by
  intro s t
  refine ⟨?ramp, ?noDc, ?handover, ?stall, ?start, ?stop, ?ready, ?closed, ?timeout⟩
  case ramp =>
    intro hrun hphase hrole hbus htime hdc
    have hover : DeadCheckOver (s.land t) := ⟨hrun, hphase, hrole, hbus, htime⟩
    have hne : (s.land t).blkPhase ≠ blkRamp := fun h => absurd (hphase.symm.trans h) (by decide)
    obtain ⟨hnew, hshown, hpending, hothers, hframe⟩ := blkEnter_changes_phase hne
    refine ⟨(s.land t).blkDeadEnd, rfl, ?_⟩
    rw [blkDeadEnd_of_dc hover hdc]
    refine ⟨hnew, hshown, rfl, hpending, hothers, ?_⟩
    rw [hframe]
    rfl
  case noDc =>
    intro hrun hphase howner hbus hcause htime hdc
    have hover : DeadCheckOver (s.land t) := ⟨hrun, hphase, devRole_ne_standby_of_owner howner, hbus, htime⟩
    obtain ⟨hactive, hpending, honly, hframe⟩ :=
      blkTrip_raises_cause (s := s.land t) (devState_ne_trip_of_run hrun) howner hcause
    refine ⟨(s.land t).blkDeadEnd, rfl, ?_⟩
    rw [blkDeadEnd_of_noDc hover hdc]
    refine ⟨hactive, ?_, hpending, honly, hframe⟩
    rw [hframe]
    exact hphase
  case handover =>
    intro hrun hphase hrole htime
    have hne : (s.land t).blkPhase ≠ blkHand := fun h => absurd (hphase.symm.trans h) (by decide)
    obtain ⟨hnew, hshown, hpending, hothers, hframe⟩ := blkEnter_changes_phase hne
    refine ⟨(s.land t).blkHoldEnd, rfl, ?_⟩
    rw [blkHoldEnd_of_over (s := s.land t) hrun hphase hrole htime]
    refine ⟨hnew, hshown, rfl, hpending, hothers, ?_⟩
    rw [hframe]
    rfl
  case stall =>
    intro hrun hphase howner hcause hpause
    refine ⟨(s.land t).blkStall, rfl, ?_⟩
    rw [blkStall_of_exceeded (s := s.land t) hrun hphase hpause]
    exact blkTrip_raises_cause (s := s.land t) (devState_ne_trip_of_run hrun) howner hcause
  case start =>
    intro f hwrite
    obtain ⟨d, hwritten⟩ := writeEntry_syncReq_one hwrite
    obtain ⟨hon, hactive, hready, honly⟩ := syncStart_shows ((s.land t).heard f)
    refine ⟨(s.land t).writeEntry f Obj.BLK_SYNC_REQ 1, rfl, ?_⟩
    rw [hwritten]
    exact ⟨hon, hactive, hready, rfl, rfl, rfl, rfl, honly, rfl⟩
  case stop =>
    intro f hwrite hon
    obtain ⟨d, hwritten⟩ := writeEntry_syncReq_zero hwrite hon
    obtain ⟨hoff, hrelease, hready, -, honly⟩ := syncRelease_ends ((s.land t).heard f)
    refine ⟨(s.land t).writeEntry f Obj.BLK_SYNC_REQ 0, rfl, ?_⟩
    rw [hwritten]
    exact ⟨hoff, hrelease, hready, rfl, honly, rfl⟩
  case ready =>
    intro hon hready hheld
    refine ⟨(s.land t).syncDwell, rfl, ?_⟩
    rw [syncDwell_of_held (s := s.land t) hon hready hheld]
    refine ⟨by simp [State.bit_setBit], rfl, sourcePending_raise _ _, fun key hkey => ?_, rfl⟩
    rw [State.get_raise, State.get_setBit, if_neg (List.ne_of_not_mem_cons hkey)]
    rfl
  case closed =>
    intro hon hready hheld
    refine ⟨(s.land t).syncClosed, rfl, ?_⟩
    rw [syncClosed_of_held (s := s.land t) hon hready hheld]
    exact syncEnd_reports (s.land t) (by decide) (by decide)
  case timeout =>
    intro hon hready hpassed
    refine ⟨(s.land t).syncTimeout, rfl, ?_⟩
    rw [syncTimeout_of_passed (s := s.land t) hon hready hpassed]
    exact syncEnd_reports (s.land t) (by decide) (by decide)

end Sys2Proof.Proofs
end

section
/-!
PROOF. Sources that stay pending while records are logged and flushes begin (R389, R459, R462), and which entries a chain of changes
leaves alone.
-/

namespace Sys2Proof.Proofs

open Sys2Proof Sys2Proof.Machine

/-! ## Sources that stay pending -/

/-- Every copy of a source that is pending stays so. -/
def KeepsPending (a b : State) : Prop := ∀ p ∈ a.icu.pending, p ∈ b.icu.pending

theorem KeepsPending.trans {a b c : State} (h : KeepsPending a b) (g : KeepsPending b c) : KeepsPending a c :=
  fun p hp => g p (h p hp)

theorem KeepsPending.of_icu {a b : State} (h : b.icu = a.icu) : KeepsPending a b := fun _ hp => h ▸ hp

theorem KeepsPending.ite {s a b : State} {c : Prop} [Decidable c] (h : KeepsPending s a) (g : KeepsPending s b) :
    KeepsPending s (if c then a else b) := by
  split
  · exact h
  · exact g

theorem keepsPending_raise (s : State) (src : Nat) : KeepsPending s (s.raise src) :=
  fun _ hp => s.pending_raise_keep src hp

theorem keepsPending_journalFull (s : State) (code subject : Nat) (data : List Nat) (counter : Nat) (transient lasting : Bool) :
    KeepsPending s (s.journalFull code subject data counter transient lasting) :=
  fun _ hp => pending_journalAt_keep _ _ _ _ _ _ _ _ hp

theorem keepsPending_event (s : State) (src subject : Nat) (data : List Nat) : KeepsPending s (s.event src subject data) :=
  (keepsPending_raise s src).trans (keepsPending_journalFull _ _ _ _ _ _ _)

theorem keepsPending_beginFlush (s : State) (demanded : Bool) : KeepsPending s (s.beginFlush demanded) := by
  unfold State.beginFlush
  split
  · exact .of_icu rfl
  · extract_lets frozen snap flash log begun shown worst worn
    have hfrozen : frozen.icu = s.icu := by
      unfold frozen
      split <;> rfl
    have hworn : KeepsPending s (worn.setBit Obj.LOG_STATUS 4 true) := .of_icu hfrozen
    exact .ite (hworn.trans (keepsPending_event _ _ _ _)) (.of_icu hfrozen)

theorem keepsPending_demandFlush (s : State) : KeepsPending s s.demandFlush :=
  .ite (keepsPending_beginFlush { s with log := { s.log with demand := true } } true)
    (.ite (keepsPending_beginFlush { s with log := { s.log with demand := true } } false) (.of_icu rfl))

/-- A source stays pending in its copies while its configuration and the mode of the controller stay (R390). -/
theorem sourcePending_of_keepsPending {a b : State} {src : Nat} (h : a.sourcePending src) (hkeep : KeepsPending a b)
    (hmode : b.get Obj.ICU_MODE = a.get Obj.ICU_MODE)
    (hcfg : b.get (Obj.ICU_SRC_CFG (src / 32) (src % 32)) = a.get (Obj.ICU_SRC_CFG (src / 32) (src % 32))) :
    b.sourcePending src := by
  have hword : b.srcCfg src = a.srcCfg src := congrArg Int.toNat hcfg
  intro c hc
  rw [State.srcCopies, hmode, hword] at hc
  exact hkeep _ (h c hc)

/-! ## Entries that a chain of changes leaves alone -/

theorem entriesBut_trans {a b c : State} {keys : List Nat} (h : a.entriesBut b keys) (g : b.entriesBut c keys) :
    a.entriesBut c keys :=
  fun key hlog hkey => (g key hlog hkey).trans (h key hlog hkey)

theorem entriesBut_of_onlyEntries {a b : State} {changed keys : List Nat} (h : a.onlyEntries b changed) (hsub : changed ⊆ keys) :
    a.entriesBut b keys :=
  fun key _ hkey => h key fun hmem => hkey (hsub hmem)

/-- A bit of an entry outside the logbook's range, after a change of the logbook's entries alone. -/
theorem bit_of_logOnly {a b : State} (h : a.LogOnly b) {key : Nat} (hkey : isLogEntry key = false) (i : Nat) :
    b.bit key i = a.bit key i := by
  rw [State.bit, State.getN, h.1 key hkey, State.bit, State.getN]

end Sys2Proof.Proofs
end

section
/-!
PROOF. A dictionary write of a write-only entry that passes every check of Table 17.2 carries out the command that the entry stands
for (R428, R429).
-/

namespace Sys2Proof.Proofs

open Sys2Proof Sys2Proof.Machine

/-- An accepted write of a write-only entry is its command in the state that has heard the request, and answers done. -/
theorem writeEntry_command_of_takesWrite {s : State} {t : Nat} {f : Sender} {key : Nat} {v : Int} {row : ObjRow}
    (hrow : Obj.rowOf key = some row) (hwo : row.access = .wo) (hnow : ∀ w, answersLater key w = false)
    (hval : ObjType.value row.type (ObjType.bytes row.type v) = v) (hwrite : s.takesWrite t f key v = true) :
    (s.land t).writeEntry f key v =
      (((s.land t).heard f).command f .plain key v (ObjType.bytes row.type v) none).emit .done := by
  have hfind : Obj.find? (key / 256) (key % 256) = some row := hrow
  simp only [State.takesWrite, hrow, Bool.and_eq_true, Option.isNone_iff_eq_none, Bool.not_eq_true'] at hwrite
  obtain ⟨⟨hserved, hjudge⟩, hunstaged⟩ := hwrite
  rw [dictServed_heard] at hserved
  simp [State.writeEntry, State.requestWrite, State.commitWrite, State.reply, hrow, hfind, hwo, hserved, hjudge, hunstaged,
    hnow, hval, Nat.div_add_mod]

/-- AGE_REPLAN_REQ is write-only and holds a 1 (Table 9.6). -/
theorem row_replanReq :
    ∃ row, Obj.rowOf Obj.AGE_REPLAN_REQ = some row ∧ row.access = .wo ∧ ObjType.value row.type (ObjType.bytes row.type 1) = 1 :=
  ⟨_, rfl, rfl, rfl⟩

theorem ofBytes_bytesOf_two {n : Nat} (hn : n < 65536) : ofBytes (bytesOf n 2) = n := by
  simp only [bytesOf, ofBytes]
  omega

/-- RNK_REINSTATE is write-only and holds every submodule number (Table 5.10). -/
theorem row_reinstate :
    ∃ row, Obj.rowOf Obj.RNK_REINSTATE = some row ∧ row.access = .wo ∧
      ∀ n : Nat, n < 7680 → ObjType.value row.type (ObjType.bytes row.type n) = n := by
  refine ⟨_, rfl, rfl, fun n hn => ?_⟩
  have hbytes : unsigned 16 (n : Int) = n := by simp only [unsigned]; omega
  show ((ofBytes (bytesOf (unsigned 16 n) 2) : Nat) : Int) = n
  rw [hbytes, ofBytes_bytesOf_two (by omega)]

end Sys2Proof.Proofs
end

section
/-!
PROOF. Margin plans: the re-plan that falls due (R214), a submission (R215, R216, R310) and the end of its checks (R217, R218).
-/

namespace Sys2Proof.Proofs

open Sys2Proof Sys2Proof.Machine

/-! ## Re-planning -/

/-- A re-plan that falls due is shown and raised (R214). -/
theorem replanDue_shows (s : State) :
    s.replanDue.bit Obj.AGE_STATUS 4 = true ∧
      s.replanDue.sourcePending 354 ∧
      s.onlyEntries s.replanDue [Obj.AGE_STATUS] ∧
      s.replanDue = { s with objs := s.replanDue.objs, icu := s.replanDue.icu } := by
  refine ⟨?shown, sourcePending_raise _ _, fun key hkey => ?others, rfl⟩
  case shown => rw [State.replanDue, State.bit_raise, State.bit_setBit, if_pos rfl, if_pos rfl]
  case others => rw [State.replanDue, State.get_raise, State.get_setBit, if_neg (List.ne_of_not_mem_cons hkey)]

/-- AGE_REPLAN_PERIOD has passed since the plan in force was applied, and no re-plan is due yet (R214). -/
theorem exec_ageReplanPeriodExpiry_of_due {s : State} {t a : Nat} (happlied : s.age.appliedAt = some a)
    (hdue : a + s.getN Obj.AGE_REPLAN_PERIOD * 3600000000000 ≤ (s.land t).now) (hnot : s.bit Obj.AGE_STATUS 4 = false) :
    exec (.ageReplanPeriodExpiry t) s = .next (State.settle (s.land t) (s.land t).replanDue) := by
  have hpassed : ((s.land t).age.appliedAt.any fun a =>
      decide (a + (s.land t).getN Obj.AGE_REPLAN_PERIOD * 3600000000000 ≤ (s.land t).now)) = true := by
    rw [State.land_age, happlied, Option.any_some, State.getN_land]
    exact decide_eq_true hdue
  show execAgeReplanPeriodExpiry t s = _
  rw [execAgeReplanPeriodExpiry, State.done, hpassed, State.bit_land, hnot]
  rfl

/-- An accepted write of AGE_REPLAN_REQ makes a re-plan due in the state that has heard the request (R214). -/
theorem writeEntry_replanReq {s : State} {t : Nat} {f : Sender} (hwrite : s.takesWrite t f Obj.AGE_REPLAN_REQ 1 = true) :
    (s.land t).writeEntry f Obj.AGE_REPLAN_REQ 1 = ((s.land t).heard f).replanDue.emit .done := by
  obtain ⟨row, hrow, hwo, hval⟩ := row_replanReq
  rw [writeEntry_command_of_takesWrite hrow hwo (fun _ => rfl) hval hwrite]
  rfl

/-! ## Submission -/

/-- The plan that a submission of a running core or of a download puts under check, with its generation (R215). -/
def submission (s : State) (plan : Plan) (gen : Nat) (sender : Option Route) : PlanDue :=
  { plan := plan, gen := gen, allowed := s.planState, sender := sender, boundary := none }

theorem planSubmit_of_free {s : State} (hfree : s.age.submitted = none) (plan : Plan) (gen : Nat) (sender : Option Route) :
    s.planSubmit plan gen true sender =
      s.withAge fun g => { g with submitted := some (submission s plan gen sender) } := by
  simp [State.planSubmit, submission, hfree]

/-- A submission that finds no other under check is put under check, and sent to a STANDBY partner (R215, R310). -/
theorem planOffer_submits {s : State} (hfree : s.age.submitted = none) (plan : Plan) (gen : Nat) (sender : Option Route) :
    (s.planOffer plan gen true sender).age = { s.age with submitted := some (submission s plan gen sender) } ∧
      s.onlyEntries (s.planOffer plan gen true sender) [] ∧
      s.planOffer plan gen true sender =
        { s with objs := (s.planOffer plan gen true sender).objs, age := (s.planOffer plan gen true sender).age
                 red := (s.planOffer plan gen true sender).red, out := (s.planOffer plan gen true sender).out } := by
  have hnone : s.age.submitted.isSome = false := by rw [hfree]; rfl
  simp only [State.planOffer, planSubmit_of_free hfree, hnone, Bool.false_eq_true, if_false]
  split
  · exact ⟨rfl, fun _ _ => rfl, rfl⟩
  · exact ⟨rfl, fun _ _ => rfl, rfl⟩

/-- A core's submission while another is under check is refused as PENDING (R217). -/
theorem planOffer_of_pending {s : State} {d : PlanDue} (hpending : s.age.submitted = some d) (plan : Plan) (gen : Nat) :
    s.planOffer plan gen true none = s.planResult 2 7 := by
  simp [State.planOffer, State.planSubmit, hpending]

/-- A plan submitted through the register block of a running core. -/
theorem exec_planSubmit_of_runs {s : State} {f : Sender} {h : Nat} (hhart : hartOf f = some h) (hruns : s.hartRuns h = true)
    (t : Nat) (plan : Plan) (gen : Nat) :
    exec (.planSubmit t f plan gen) s = .next (State.settle (s.land t) ((s.land t).planOffer plan gen true none)) := by
  have hruns' : (s.land t).hartRuns h = true := hruns
  show execPlanSubmit t f plan gen s = _
  simp [execPlanSubmit, State.done, hhart, hruns']

theorem command_planSubmit (s : State) (f : Sender) (route : Route) (v : Int) (data : List Nat) (img : Option DictImage) :
    s.command f route Obj.AGE_PLAN_SUBMIT v data img =
      s.planOffer (planOfBytes data).1 (planOfBytes data).2 true (some route) := rfl

/-- AGE_PLAN_SUBMIT is write-only and not mirrored (Table 9.6). -/
theorem row_planSubmit :
    ∃ row, Obj.find? 0x2800 0x0C = some row ∧ row.access = .wo ∧ row.mirrored = false :=
  ⟨_, rfl, rfl, rfl⟩

/-- An accepted download of AGE_PLAN_SUBMIT is a submission in the state that has heard the request; its answer waits for the
checks (R216). -/
theorem requestWrite_planSubmit {s : State} {f : Sender} {data : List Nat} (hlen : data.length = planLength)
    (hserved : s.dictServed = true) (hjudge : (s.heard f).judgeWrite f .plain 0x2800 0x0C planLength data none = none) :
    s.requestWrite f .plain (Obj.AGE_PLAN_SUBMIT / 256) (Obj.AGE_PLAN_SUBMIT % 256) data none =
      (s.heard f).planOffer (planOfBytes data).1 (planOfBytes data).2 true (some .plain) := by
  obtain ⟨row, hfind, hwo, hplain⟩ := row_planSubmit
  have hunmirrored : (s.heard f).mirrors row = false := by rw [State.mirrors, hplain]; rfl
  have hlater : ∀ v, answersLater Obj.AGE_PLAN_SUBMIT v = true := fun _ => rfl
  show s.requestWrite f .plain 0x2800 0x0C data none = _
  simp only [State.requestWrite, hserved, hlen, hjudge, hfind, hunmirrored, State.commitWrite, hwo]
  simp only [Nat.reduceMul, Nat.reduceAdd, hlater, command_planSubmit]
  rfl

/-- A plan submitted by an accepted download. -/
theorem exec_agePlanSubmit_of_judged {s : State} {t : Nat} {f : Sender} {data : List Nat} (hlen : data.length = planLength)
    (hserved : (s.land t).dictServed = true)
    (hjudge : ((s.land t).heard f).judgeWrite f .plain 0x2800 0x0C planLength data none = none) :
    exec (.agePlanSubmit t f data) s =
      .next (State.settle (s.land t)
        (((s.land t).heard f).planOffer (planOfBytes data).1 (planOfBytes data).2 true (some .plain))) := by
  show execAgePlanSubmit t f data s = _
  rw [execAgePlanSubmit, State.done, requestWrite_planSubmit hlen hserved hjudge]

/-! ## The end of the checks -/

/-- A refusal shows its code and arm, is counted and raised (R217). -/
theorem planResult_refuses (s : State) {code : Nat} (hcode : code ≠ 0) (arm : Nat) :
    (s.planResult code arm).get Obj.AGE_PLAN_RESULT = code + 256 * arm ∧
      (s.planResult code arm).get Obj.AGE_PLAN_REFUSED_COUNT = min (s.get Obj.AGE_PLAN_REFUSED_COUNT + 1) 0xFFFFFFFF ∧
      (s.planResult code arm).sourcePending 353 ∧
      s.entriesBut (s.planResult code arm) [Obj.AGE_PLAN_RESULT, Obj.AGE_PLAN_REFUSED_COUNT] ∧
      s.SameUnits (s.planResult code arm) := by
  have hshown : s.planResult code arm =
      ((s.put Obj.AGE_PLAN_RESULT (code + 256 * arm)).bump Obj.AGE_PLAN_REFUSED_COUNT).event 353 noSubject
        (bytesOf (code + 256 * arm) 2) := if_neg hcode
  rw [hshown]
  refine ⟨?result, ?counted, sourcePending_event _ (by decide) _ _, fun key hlog hkey => ?others, ?frame⟩
  case result =>
    rw [State.get_event _ _ _ _ (by decide), State.get_bump, if_neg (by decide), State.get_put_same]
  case counted =>
    rw [State.get_event _ _ _ _ (by decide), State.get_bump, if_pos rfl, State.get_put_ne _ _ (by decide)]
  case others =>
    simp only [List.mem_cons, List.not_mem_nil, or_false, not_or] at hkey
    obtain ⟨hresult, hcount⟩ := hkey
    rw [State.get_event _ _ _ _ hlog, State.get_bump, if_neg hcount, State.get_put_ne _ _ hresult]
  case frame =>
    refine State.SameUnits.trans ?_ (State.logOnly_event _ _ _ _).2
    rfl

/-- The outcome of a plan's checks is answered where the submission awaits one (R216). -/
def answerPlan (s : State) (sender : Option Route) (abort : Nat) : State :=
  match sender with
  | some route => s.reply route abort []
  | none => s

/-- An answer reaches dictionary servers and outputs alone. -/
theorem reply_frame (s : State) (route : Route) (abort : Nat) (data : List Nat) :
    s.reply route abort data = { s with dict := (s.reply route abort data).dict, out := (s.reply route abort data).out } := by
  cases route with
  | plain => rfl
  | tds port session seq op => rfl
  | usdo port =>
    rw [State.reply]
    split <;> rfl

theorem answerPlan_frame (s : State) (sender : Option Route) (abort : Nat) :
    answerPlan s sender abort =
      { s with dict := (answerPlan s sender abort).dict, out := (answerPlan s sender abort).out } := by
  cases sender with
  | none => rfl
  | some route => exact reply_frame s route abort []

theorem planChecked_of_refused {s : State} {d : PlanDue} {code arm : Nat} (hsub : s.age.submitted = some d)
    (hcheck : s.planCheck d = some (code, arm)) :
    s.planChecked =
      answerPlan ((s.withAge fun g => { g with submitted := none }).planResult code arm) d.sender (planAbort code) := by
  have hdone : s.planCheckDone =
      ((s.withAge fun g => { g with submitted := none }).planResult code arm, some (code, d.sender)) := by
    simp [State.planCheckDone, hsub, hcheck]
  simp only [State.planChecked, hdone, hsub]
  cases d.sender <;> simp [answerPlan, hcheck]

/-- A plan that passes its checks, waiting for its boundary; each row keeps the class it was accepted for (R218). -/
def acceptedPlan (s : State) (d : PlanDue) : PlanDue :=
  { d with plan := { d.plan with rows := d.plan.rows.map fun r => { r with action := r.action + 8 * s.classOf r.n } }
           boundary := some s.boundaryAhead }

/-- An accepted plan waits for its boundary and ends the re-plan that was due (R217, R218). -/
def acceptPlan (s : State) (d : PlanDue) : State :=
  (((s.withAge fun g => { g with submitted := none, accepted := some (acceptedPlan s d) }).put Obj.AGE_PLAN_PENDING 1).setBit
    Obj.AGE_STATUS 4 false).put Obj.AGE_PLAN_RESULT (256 * 7)

theorem planChecked_of_accepted {s : State} {d : PlanDue} (hsub : s.age.submitted = some d) (hcheck : s.planCheck d = none)
    (hrole : s.devRole = roleAlone) : s.planChecked = answerPlan (acceptPlan s d) d.sender 0 := by
  have hdone : s.planCheckDone = (acceptPlan s d, some (0, d.sender)) := by
    simp [State.planCheckDone, hsub, hcheck]
    rfl
  have halone : s.devRole ≠ roleActive := by rw [hrole]; decide
  simp only [State.planChecked, hdone, halone]
  cases d.sender <;> rfl

theorem acceptPlan_shows (s : State) (d : PlanDue) :
    (acceptPlan s d).get Obj.AGE_PLAN_PENDING = 1 ∧
      (acceptPlan s d).bit Obj.AGE_STATUS 4 = false ∧
      (acceptPlan s d).get Obj.AGE_PLAN_RESULT = 256 * 7 ∧
      s.onlyEntries (acceptPlan s d) [Obj.AGE_PLAN_RESULT, Obj.AGE_PLAN_PENDING, Obj.AGE_STATUS] := by
  refine ⟨?pending, ?due, State.get_put_same _ _ _, fun key hkey => ?others⟩
  case pending =>
    rw [acceptPlan, State.get_put_ne _ _ (by decide), State.get_setBit, if_neg (by decide), State.get_put_same]
  case due =>
    rw [acceptPlan, State.bit_put, if_neg (by decide), State.bit_setBit, if_pos rfl, if_pos rfl]
  case others =>
    simp only [List.mem_cons, List.not_mem_nil, or_false, not_or] at hkey
    obtain ⟨hresult, hpending, hstatus⟩ := hkey
    rw [acceptPlan, State.get_put_ne _ _ hresult, State.get_setBit, if_neg hstatus, State.get_put_ne _ _ hpending,
      State.get_withAge]

end Sys2Proof.Proofs
end

section
/-!
PROOF. The declaration of an overrun by a unit without a partner (R48, R50), and errors of sort memory (R126).
-/

namespace Sys2Proof.Proofs

open Sys2Proof Sys2Proof.Machine

/-! ## What an overrun of a unit without a partner shows -/

/-- The units that an overrun of a unit without a partner, and what causes it, can change. -/
def OverrunUnits (a b : State) : Prop :=
  b = { a with objs := b.objs, age := b.age, orb := b.orb, prt := b.prt, cmt := b.cmt, freeCtr := b.freeCtr, icu := b.icu
               log := b.log, flash := b.flash, dict := b.dict, out := b.out }

theorem OverrunUnits.trans {a b c : State} (h : OverrunUnits a b) (g : OverrunUnits b c) : OverrunUnits a c := by
  unfold OverrunUnits at *
  rw [g, h]

theorem OverrunUnits.of_sameUnits {a b : State} (h : a.SameUnits b) : OverrunUnits a b := by
  unfold OverrunUnits
  rw [h]

/-- The entries outside the logbook that an overrun of a unit without a partner can change. -/
abbrev overrunKeys : List Nat :=
  [Obj.ORB_OVERRUN_CAUSE, Obj.ORB_OVERRUN_COUNT, Obj.ORB_STATUS, Obj.PRT_TRIP_ACTIVE, Obj.PRT_TRIP_LATCHED]

/-- An overrun with cause and detail `w` has been declared between two states, and no partner was concerned (R48, R50). -/
structure OverrunDeclared (s u : State) (w : Nat) : Prop where
  overrun : u.orb.overrun = some w
  shown : u.get Obj.ORB_OVERRUN_CAUSE = w
  status : u.bit Obj.ORB_STATUS 6 = true
  source : u.sourcePending 166
  others : s.entriesBut u overrunKeys
  units : OverrunUnits s u

theorem OverrunDeclared.devRole {s u : State} {w : Nat} (h : OverrunDeclared s u w) : u.devRole = s.devRole := by
  rw [State.devRole, State.getN, h.others Obj.DEV_ROLE (by decide) (by decide)]
  rfl

/-- What precedes an overrun and changes neither its entries nor other units. -/
theorem OverrunDeclared.of_before {a b u : State} {w : Nat} (h : OverrunDeclared b u w) (hentries : a.entriesBut b overrunKeys)
    (hunits : OverrunUnits a b) : OverrunDeclared a u w :=
  { h with others := entriesBut_trans hentries h.others, units := hunits.trans h.units }

/-- What follows an overrun and changes neither entries, sequencer nor interrupt controller. -/
theorem OverrunDeclared.of_after {s u v : State} {w : Nat} (h : OverrunDeclared s u w) (hobjs : v.objs = u.objs)
    (horb : v.orb = u.orb) (hicu : v.icu = u.icu) (hunits : OverrunUnits u v) : OverrunDeclared s v w := by
  have hget : ∀ key, v.get key = u.get key := State.get_congr hobjs
  refine ⟨horb ▸ h.overrun, (hget _).trans h.shown, ?status, ?source, fun key hlog hkey => ?others, h.units.trans hunits⟩
  case status =>
    rw [State.bit, State.getN, hget]
    exact h.status
  case source =>
    exact sourcePending_of_keepsPending h.source (.of_icu hicu) (hget _) (hget _)
  case others => exact (hget key).trans (h.others key hlog hkey)

/-- The trip cause of an overrun joins it (R50). -/
theorem OverrunDeclared.eventCause {s u : State} {w : Nat} (h : OverrunDeclared s u w) (hst : u.devState ≠ stTrip) (c : Nat) :
    OverrunDeclared s (u.eventCause c) w := by
  have honly := onlyEntries_eventCause hst c
  have hframe := eventCause_frame hst c
  have hicu : (u.eventCause c).icu = u.icu := by rw [hframe]
  refine ⟨?overrun, (honly _ (by decide)).trans h.shown, ?status, ?source, ?others, h.units.trans ?units⟩
  case overrun =>
    rw [hframe]
    exact h.overrun
  case status =>
    rw [bit_of_onlyEntries honly (by decide)]
    exact h.status
  case source =>
    exact sourcePending_of_keepsPending h.source (.of_icu hicu) (honly _ (by decide)) (honly _ (by decide))
  case others => exact entriesBut_trans h.others (entriesBut_of_onlyEntries honly (by decide))
  case units =>
    rw [OverrunUnits, hframe]

/-! ## The declaration -/

theorem cmtFire_frame (s : State) (code time frac : Nat) :
    s.cmtFire code time frac = { s with cmt := (s.cmtFire code time frac).cmt } := by
  simp only [State.cmtFire]
  split
  · rfl
  · split
    · split
      · split <;> rfl
      · rfl
    · rfl

theorem get_cmtFire (s : State) (code time frac key : Nat) : (s.cmtFire code time frac).get key = s.get key := by
  rw [cmtFire_frame]
  rfl

/-- The first overrun of a cycle is recorded and counted (R48). -/
def overrunCounted (s : State) (w : Nat) : State :=
  (({ s with orb := { s.orb with overrun := some w } }.put Obj.ORB_OVERRUN_CAUSE w).bump Obj.ORB_OVERRUN_COUNT).count 8

/-- The first overrun of a cycle is shown and raised (R48). -/
def overrunRaised (s : State) (w : Nat) : State := ((overrunCounted s w).setBit Obj.ORB_STATUS 6 true).raise 166

/-- The first overrun of a cycle before its consequences for state and role: logged, a trigger of Comet, a demand for a flush. -/
def overrunLogged (s : State) (cause detail : Nat) : State :=
  (((overrunRaised s (256 * cause + detail)).journalFull 166 noSubject [detail % 256, cause % 256] 8 false false).cmtFire 10
    (overrunCounted s (256 * cause + detail)).time32 0).demandFlush

theorem get_overrunLogged (s : State) (cause detail : Nat) {key : Nat} (hlog : isLogEntry key = false) :
    (overrunLogged s cause detail).get key = (overrunRaised s (256 * cause + detail)).get key := by
  rw [overrunLogged, State.get_demandFlush _ hlog, get_cmtFire, State.get_journalFull _ _ _ _ _ _ _ hlog]

theorem keepsPending_overrunLogged (s : State) (cause detail : Nat) :
    KeepsPending (overrunRaised s (256 * cause + detail)) (overrunLogged s cause detail) := by
  refine (keepsPending_journalFull _ 166 noSubject [detail % 256, cause % 256] 8 false false).trans
    (KeepsPending.trans (.of_icu ?_) (keepsPending_demandFlush _))
  rw [cmtFire_frame]

theorem overrunUnits_put (s : State) (key : Nat) (v : Int) : OverrunUnits s (s.put key v) := rfl

theorem overrunUnits_raise (s : State) (src : Nat) : OverrunUnits s (s.raise src) := rfl

theorem overrunUnits_overrunRaised (s : State) (w : Nat) : OverrunUnits s (overrunRaised s w) :=
  have hdeclared : OverrunUnits s { s with orb := { s.orb with overrun := some w } } := rfl
  ((((hdeclared.trans (overrunUnits_put _ _ _)).trans (overrunUnits_put _ _ _)).trans (overrunUnits_put _ _ _)).trans
    (overrunUnits_put _ _ _)).trans (overrunUnits_raise _ _)

theorem overrunUnits_overrunLogged (s : State) (cause detail : Nat) :
    OverrunUnits (overrunRaised s (256 * cause + detail)) (overrunLogged s cause detail) := by
  refine (OverrunUnits.of_sameUnits (State.logOnly_journalFull _ 166 noSubject [detail % 256, cause % 256] 8 false false).2).trans
    (OverrunUnits.trans ?_ (.of_sameUnits (State.logOnly_demandFlush _).2))
  rw [OverrunUnits, cmtFire_frame]

theorem overrunLogged_declares (s : State) (cause detail : Nat) :
    OverrunDeclared s (overrunLogged s cause detail) (256 * cause + detail) := by
  refine ⟨?overrun, ?shown, ?status, ?source, fun key hlog hkey => ?others, ?units⟩
  case overrun =>
    rw [overrunLogged, State.demandFlush_orb, cmtFire_frame, State.journalFull_orb]
    rfl
  case shown =>
    rw [get_overrunLogged _ _ _ (by decide), overrunRaised, State.get_raise, State.get_setBit, if_neg (by decide), overrunCounted,
      State.get_count, if_neg (by decide), State.get_bump, if_neg (by decide), State.get_put_same]
  case status =>
    rw [State.bit, State.getN, get_overrunLogged _ _ _ (by decide), overrunRaised, State.get_raise, State.get_setBit, if_pos rfl,
      Int.toNat_natCast, bitOf_withBit, if_pos rfl]
  case source =>
    exact sourcePending_of_keepsPending (sourcePending_raise _ _) (keepsPending_overrunLogged s cause detail)
      (get_overrunLogged _ _ _ (by decide)) (get_overrunLogged _ _ _ (by decide))
  case others =>
    simp only [List.mem_cons, List.not_mem_nil, or_false, not_or] at hkey
    obtain ⟨hcause, hcount, hstatus, -, -⟩ := hkey
    have hlife : key ≠ Obj.LOG_CNT (8 - 1) := fun h => absurd (h ▸ hlog) (by decide)
    rw [get_overrunLogged _ _ _ hlog, overrunRaised, State.get_raise, State.get_setBit, if_neg hstatus, overrunCounted,
      State.get_count, if_neg hlife, State.get_bump, if_neg hcount, State.get_put_ne _ _ hcause]
    rfl
  case units => exact (overrunUnits_overrunRaised s _).trans (overrunUnits_overrunLogged s cause detail)

/-- The trip cause OVERRUN of an owner outside TRIP (R50). -/
def overrunTrip (s : State) : State := if s.owner && s.devState ≠ stTrip then s.eventCause causeOverrun else s

theorem OverrunDeclared.trip {s u : State} {w : Nat} (h : OverrunDeclared s u w) : OverrunDeclared s (overrunTrip u) w := by
  rw [overrunTrip]
  split
  next hguard =>
    obtain ⟨-, hst⟩ := Bool.and_eq_true_iff.1 hguard
    exact h.eventCause (of_decide_eq_true hst) _
  next => exact h

/-- The first overrun of a cycle in a unit without a partner (R48, R50). -/
theorem overrun_of_alone {s : State} (hrun : s.orbRunning = true) (hfirst : s.orb.overrun = none) (hrole : s.devRole = roleAlone)
    (cause detail : Nat) :
    s.overrun cause detail =
      if s.overrunActs then overrunTrip (overrunLogged s cause detail) else overrunLogged s cause detail := by
  have halone : (overrunTrip (overrunLogged s cause detail)).devRole = roleAlone :=
    (overrunLogged_declares s cause detail).trip.devRole.trans hrole
  have hexpand : s.overrun cause detail =
      if !s.overrunActs then overrunLogged s cause detail
      else if (overrunTrip (overrunLogged s cause detail)).devRole = roleAlone then overrunTrip (overrunLogged s cause detail)
      else if (overrunTrip (overrunLogged s cause detail)).devRole = roleActive &&
        (overrunTrip (overrunLogged s cause detail)).devState ≠ stTrip then overrunTrip (overrunLogged s cause detail)
      else (overrunTrip (overrunLogged s cause detail)).setRole roleStale 0 := by
    simp only [State.overrun, hrun, hfirst]
    rfl
  rw [hexpand, if_pos halone]
  cases s.overrunActs <;> rfl

theorem overrun_declares {s : State} (hrun : s.orbRunning = true) (hfirst : s.orb.overrun = none) (hrole : s.devRole = roleAlone)
    (cause detail : Nat) : OverrunDeclared s (s.overrun cause detail) (256 * cause + detail) := by
  rw [overrun_of_alone hrun hfirst hrole]
  split
  · exact (overrunLogged_declares s cause detail).trip
  · exact overrunLogged_declares s cause detail

/-! ## Errors of sort memory -/

/-- A corrected error is counted and raised (R126). -/
theorem sortError_corrected (s : State) {arm : Nat} (harm : arm ≤ 6) :
    s.sortError arm true = ((s.count 0x16).raise 244).withAge fun g => { g with sortBad := g.sortBad ||| 64 } :=
  if_neg (Nat.not_lt.2 harm)

/-- An uncorrectable error of an arm overruns the cycle; the arm's selection fails with it (R126). -/
theorem sortError_uncorrectable (s : State) {arm : Nat} (harm : arm < 6) :
    s.sortError arm false =
      if s.orb.phase < 2 then
        ((s.unitUncorr arm).overrun 3 2).withAge fun g => { g with sortBad := withBit g.sortBad arm true }
      else if s.orb.phase = 2 && s.devState = stRun then ((s.unitUncorr arm).overrun 3 2).rankFailed arm
      else (s.unitUncorr arm).overrun 3 2 := by
  have hknown : ¬ 6 < arm := by omega
  have hnotSum : arm ≠ 6 := by omega
  simp only [State.sortError, hknown, hnotSum, if_false, Bool.false_eq_true]

theorem logOnly_sramUncorr (s : State) (subject address : Nat) : s.LogOnly (s.sramUncorr subject address) :=
  State.LogOnly.trans (s.logOnly_put _ rfl) (State.logOnly_journalFull _ _ _ _ _ _ _)

/-- An uncorrectable error of a unit's memory draws a free address and is logged with it. -/
theorem logOnly_unitUncorr (s : State) (subject : Nat) : s.usedFree.LogOnly (s.unitUncorr subject) :=
  logOnly_sramUncorr _ _ _

theorem rankFailed_keeps (s : State) (a : Nat) :
    (s.rankFailed a).objs = s.objs ∧ (s.rankFailed a).orb = s.orb ∧ (s.rankFailed a).icu = s.icu ∧
      OverrunUnits s (s.rankFailed a) :=
  ⟨rfl, rfl, rfl, rfl⟩

/-- An uncorrectable error of an arm in a unit without a partner is an overrun with cause 3 and detail 2 (R126, Table 2.8). -/
theorem sortError_declares_overrun {s : State} {arm : Nat} (harm : arm < 6) (hrun : s.orbRunning = true)
    (hfirst : s.orb.overrun = none) (hrole : s.devRole = roleAlone) : OverrunDeclared s (s.sortError arm false) 0x302 := by
  obtain ⟨hentries, hunits⟩ := logOnly_unitUncorr s arm
  have hrun' : (s.unitUncorr arm).orbRunning = true :=
    (bit_of_logOnly (logOnly_unitUncorr s arm) (by decide) 0).trans hrun
  have hfirst' : (s.unitUncorr arm).orb.overrun = none := by
    rw [hunits]
    exact hfirst
  have hrole' : (s.unitUncorr arm).devRole = roleAlone :=
    (congrArg Int.toNat (hentries Obj.DEV_ROLE (by decide))).trans hrole
  have hdeclared : OverrunDeclared s ((s.unitUncorr arm).overrun 3 2) 0x302 :=
    (overrun_declares hrun' hfirst' hrole' 3 2).of_before (fun key hlog _ => hentries key hlog)
      (OverrunUnits.trans (b := s.usedFree) rfl (.of_sameUnits hunits))
  rw [sortError_uncorrectable s harm]
  split
  · exact hdeclared.of_after rfl rfl rfl rfl
  · split
    · obtain ⟨hobjs, horb, hicu, hframe⟩ := rankFailed_keeps ((s.unitUncorr arm).overrun 3 2) arm
      exact hdeclared.of_after hobjs horb hicu hframe
    · exact hdeclared

end Sys2Proof.Proofs
end

section
/-!
PROOF. Reinstatement of a submodule (R111), and the statement about plans, reinstatement and errors of sort memory.
-/

namespace Sys2Proof.Proofs

open Sys2Proof Sys2Proof.Machine

/-! ## Reinstatement -/

/-- A change of a submodule's record that keeps its number is read back. -/
theorem sm_withSm (s : State) (n : Nat) {g : Sm → Sm} (hnumber : ∀ m, (g m).n = m.n) : (s.withSm n g).sm n = (s.sm n).map g := by
  have hkept : (fun m : Sm => m.n == n) ∘ (fun m => if m.n = n then g m else m) = fun m => m.n == n := by
    funext m
    by_cases hm : m.n = n <;> simp [hm, hnumber]
  show (List.find? (fun m => m.n == n) (s.age.sms.map fun m => if m.n = n then g m else m)) = (s.sm n).map g
  rw [List.find?_map, hkept]
  refine Option.map_congr fun m hm => if_pos ?_
  exact beq_iff_eq.1 (List.find?_some (p := fun m : Sm => m.n == n) hm)

theorem logOnly_classLog (s : State) (m : Sm) (new cause counter : Nat) : s.LogOnly (s.classLog m new cause counter) :=
  .ite ((s.logOnly_raise 236).trans (State.logOnly_journalFull _ _ _ _ _ _ _)) (State.logOnly_journalFull _ _ _ _ _ _ _)

/-- A reinstated submodule is AVAILABLE and eligible from the next cycle, and the reinstatement is counted and logged (R111, R113). -/
theorem reinstate_admits {s : State} {n : Nat} {m : Sm} (hsm : s.sm n = some m) :
    (s.reinstate n).sm n = some m.admitted ∧
      (s.reinstate n).get Obj.RNK_REINSTATE_COUNT = min (s.get Obj.RNK_REINSTATE_COUNT + 1) 0xFFFFFFFF ∧
      s.entriesBut (s.reinstate n) [Obj.RNK_REINSTATE_COUNT] ∧
      s.reinstate n =
        { s with objs := (s.reinstate n).objs, age := (s.reinstate n).age, icu := (s.reinstate n).icu
                 log := (s.reinstate n).log, flash := (s.reinstate n).flash, dict := (s.reinstate n).dict
                 out := (s.reinstate n).out } := by
  have hreinstate : s.reinstate n =
      ((s.withSm n Sm.admitted).bump Obj.RNK_REINSTATE_COUNT).classLog m clsAvailable 0 0xFF := by
    simp only [State.reinstate, hsm]
  have hlog : ((s.withSm n Sm.admitted).bump Obj.RNK_REINSTATE_COUNT).LogOnly (s.reinstate n) := by
    rw [hreinstate]
    exact logOnly_classLog _ _ _ _ _
  obtain ⟨hentries, hunits⟩ := hlog
  refine ⟨?admitted, ?counted, fun key hkey hne => ?others, ?frame⟩
  case admitted =>
    have hage : (s.reinstate n).age = (s.withSm n Sm.admitted).age := by
      rw [hunits]
      rfl
    rw [State.sm, hage, ← State.sm, sm_withSm s n (g := Sm.admitted) fun _ => rfl, hsm]
    rfl
  case counted =>
    rw [hentries _ (by decide), State.get_bump, if_pos rfl]
    rfl
  case others =>
    rw [hentries key hkey, State.get_bump, if_neg (List.ne_of_not_mem_cons hne)]
    rfl
  case frame =>
    rw [hunits]
    rfl

/-- An accepted write of RNK_REINSTATE reinstates in the state that has heard the request (R111). -/
theorem writeEntry_reinstate {s : State} {t : Nat} {f : Sender} {n : Nat} (hn : n < 7680)
    (hwrite : s.takesWrite t f Obj.RNK_REINSTATE n = true) :
    (s.land t).writeEntry f Obj.RNK_REINSTATE n = (((s.land t).heard f).reinstate n).emit .done := by
  obtain ⟨row, hrow, hwo, hval⟩ := row_reinstate
  rw [writeEntry_command_of_takesWrite hrow hwo (fun _ => rfl) (hval n hn) hwrite]
  rfl

/-! ## The statement -/

/-- Settles O35: each command's effect by the lemma of its case, the two submissions of a free checker by one. -/
theorem plansAndReinstatement : Obligations.PlansAndReinstatement := by
  intro s t
  refine ⟨?period, ?request, ?submit, ?pending, ?download, ?refused, ?accepted, ?reinstated, ?corrected, ?uncorrectable⟩
  case period =>
    intro a happlied hdue hnot
    exact ⟨_, exec_ageReplanPeriodExpiry_of_due happlied hdue hnot, replanDue_shows _⟩
  case request =>
    intro f hwrite
    obtain ⟨hshown, hpending, honly, -⟩ := replanDue_shows ((s.land t).heard f)
    refine ⟨(s.land t).writeEntry f Obj.AGE_REPLAN_REQ 1, rfl, ?_⟩
    rw [writeEntry_replanReq hwrite]
    exact ⟨hshown, hpending, rfl, honly, rfl⟩
  case submit =>
    intro f h plan gen hhart hruns hfree
    exact ⟨_, exec_planSubmit_of_runs hhart hruns t plan gen, planOffer_submits (s := s.land t) hfree plan gen none⟩
  case pending =>
    intro f h plan gen d hhart hruns hother
    refine ⟨_, exec_planSubmit_of_runs hhart hruns t plan gen, ?_⟩
    rw [planOffer_of_pending (s := s.land t) hother]
    exact planResult_refuses (s.land t) (code := 2) (by decide) 7
  case download =>
    intro f data hlen hserved hjudge hfree
    refine ⟨_, exec_agePlanSubmit_of_judged hlen hserved hjudge, ?_⟩
    generalize planOfBytes data = image
    obtain ⟨hage, honly, hframe⟩ := planOffer_submits (s := (s.land t).heard f) hfree image.1 image.2 (some .plain)
    refine ⟨hage, honly, ?_⟩
    rw [hframe]
    rfl
  case refused =>
    intro d code arm hsub hcheck hcode
    refine ⟨(s.land t).planChecked, rfl, ?_⟩
    rw [planChecked_of_refused (s := s.land t) hsub hcheck, answerPlan_frame]
    obtain ⟨hresult, hcounted, hpending, hothers, hunits⟩ :=
      planResult_refuses ((s.land t).withAge fun g => { g with submitted := none }) hcode arm
    refine ⟨?_, hresult, hcounted, hpending, hothers, ?_⟩
    · rw [hunits]
      rfl
    · rw [hunits]
      rfl
  case accepted =>
    intro d hsub hcheck hrole
    obtain ⟨hwaiting, hended, hresult, honly⟩ := acceptPlan_shows (s.land t) d
    refine ⟨(s.land t).planChecked, rfl, ?_⟩
    rw [planChecked_of_accepted (s := s.land t) hsub hcheck hrole, answerPlan_frame]
    exact ⟨rfl, rfl, hwaiting, hended, hresult, honly, rfl⟩
  case reinstated =>
    intro f n m hwrite hn hsm
    obtain ⟨hadmitted, hcounted, hothers, hframe⟩ := reinstate_admits (s := (s.land t).heard f) hsm
    refine ⟨(s.land t).writeEntry f Obj.RNK_REINSTATE n, rfl, ?_⟩
    rw [writeEntry_reinstate hn hwrite]
    refine ⟨congrArg (Option.map fun x : Sm => (x.cls, x.fresh, x.gap)) hadmitted, hcounted, List.mem_concat_self, hothers, ?_⟩
    rw [hframe]
    rfl
  case corrected =>
    intro arm harm
    refine ⟨(s.land t).sortError arm true, rfl, ?_⟩
    rw [sortError_corrected (s.land t) harm]
    refine ⟨?_, sourcePending_raise ((s.land t).count 0x16) 244, fun key hkey => ?_, rfl⟩
    · rw [State.get_withAge, State.get_raise, State.get_count, if_pos rfl]
      rfl
    · rw [State.get_withAge, State.get_raise, State.get_count, if_neg (List.ne_of_not_mem_cons hkey)]
      rfl
  case uncorrectable =>
    intro arm harm hrun hfirst hrole
    obtain ⟨hoverrun, hshown, hstatus, hsource, hothers, hunits⟩ :=
      sortError_declares_overrun (s := s.land t) harm hrun hfirst hrole
    exact ⟨(s.land t).sortError arm false, rfl, hoverrun, hshown, hstatus, hsource, hothers, hunits⟩

end Sys2Proof.Proofs
end

section
/-!
PROOF. Carrier channels: what a channel reads after a change of a channel, and the commutation holds and the delay line
(R136, R144 to R146).
-/

namespace Sys2Proof.Proofs

open Sys2Proof Sys2Proof.Machine

/-! ## A channel after a change -/

theorem channels_withChannel (s : State) (k : Nat) (g : CarChannel → CarChannel) :
    (s.withChannel k g).car.channels[k]? = (s.car.channels[k]?).map g :=
  List.getElem?_modify_eq g k s.car.channels

theorem channels_withChannel_ne (s : State) {j k : Nat} (h : j ≠ k) (g : CarChannel → CarChannel) :
    (s.withChannel j g).car.channels[k]? = s.car.channels[k]? :=
  List.getElem?_modify_ne g s.car.channels h

/-- What a change of a channel leaves alone in it, it leaves alone in every channel. -/
theorem map_channels_withChannel {β : Type} {p : CarChannel → β} {g : CarChannel → CarChannel} (hg : ∀ c, p (g c) = p c)
    (s : State) (j k : Nat) : ((s.withChannel j g).car.channels[k]?).map p = (s.car.channels[k]?).map p := by
  by_cases h : j = k
  · rw [h, channels_withChannel, Option.map_map]
    exact congrArg (Option.map · _) (funext hg)
  · rw [channels_withChannel_ne s h]

theorem onlyEntries_trans {a b c : State} {keys : List Nat} (h : a.onlyEntries b keys) (g : b.onlyEntries c keys) :
    a.onlyEntries c keys :=
  fun key hkey => (g key hkey).trans (h key hkey)

theorem onlyEntries_setBit (s : State) {key : Nat} {keys : List Nat} (h : key ∈ keys) (b : Nat) (on : Bool) :
    s.onlyEntries (s.setBit key b on) keys := by
  intro other hother
  rw [State.get_setBit, if_neg (ne_of_mem_of_not_mem h hother).symm]

theorem onlyEntries_bump (s : State) {key : Nat} {keys : List Nat} (h : key ∈ keys) : s.onlyEntries (s.bump key) keys := by
  intro other hother
  rw [State.get_bump, if_neg (ne_of_mem_of_not_mem h hother).symm]

theorem onlyEntries_raise (s : State) (src : Nat) (keys : List Nat) : s.onlyEntries (s.raise src) keys :=
  fun other _ => State.get_raise s src other

/-! ## Commutation holds -/

/-- What a PWM channel shows of its masks when none of its configurable sources is active: the mask of R145 stays until a reload. -/
theorem carMaskOne_of_no_source {s : State} {k : Nat} {c : CarChannel} (hpwm : s.carPwm k = true)
    (hc : s.car.channels[k]? = some c) (hnone : s.carSources k = 0) :
    s.carMaskOne k =
      ((s.withChannel k fun e => { e with
        sources := 0, masked := c.masked, forced := e.forced || (s.carBlock || s.bit Obj.CAR_UNIT_STATUS 1) }).setBit
          (Obj.CAR_CH_STATUS k) 2 (c.masked || c.forced || (s.carBlock || s.bit Obj.CAR_UNIT_STATUS 1))).setBit
        (Obj.CAR_CH_STATUS k) 3 (c.forced || (s.carBlock || s.bit Obj.CAR_UNIT_STATUS 1)) := by
  have hnews : (List.range 4).filter (fun b => bitOf 0 b && !bitOf c.sources b) = [] :=
    List.filter_eq_nil_iff.2 fun b _ => by rw [bitOf, Nat.zero_testBit, Bool.false_and]; exact Bool.false_ne_true
  simp only [State.carMaskOne, hc, hpwm, hnone, hnews, List.foldl_nil, if_true, ne_eq, not_true_eq_false, decide_false,
    Bool.or_false]

theorem carMaskOne_ends_hold {s : State} {k : Nat} {c : CarChannel} (hpwm : s.carPwm k = true)
    (hc : s.car.channels[k]? = some c) (hnone : s.carSources k = 0) :
    ((s.carMaskOne k).car.channels[k]?).map (fun e => (e.sources, e.masked)) = some (0, c.masked) ∧
      s.onlyEntries (s.carMaskOne k) [Obj.CAR_CH_STATUS k] ∧
      s.carMaskOne k = { s with objs := (s.carMaskOne k).objs, car := (s.carMaskOne k).car } := by
  rw [carMaskOne_of_no_source hpwm hc hnone]
  refine ⟨?channel, ?others, rfl⟩
  case channel => rw [State.setBit_car, State.setBit_car, channels_withChannel, hc]; rfl
  case others =>
    exact onlyEntries_trans (onlyEntries_setBit (s.withChannel k _) List.mem_cons_self _ _)
      (onlyEntries_setBit _ List.mem_cons_self _ _)

/-! ## The delay line -/

/-- The delay line locks with the carrier PLL driving (R136, R144). -/
theorem exec_delayLineLock_of_drives {s : State} (t : Nat) (hpll : s.pllDrives 3 = true) :
    exec (.delayLineLock t) s = .next (State.settle (s.land t)
      (((s.land t).setBit Obj.CAR_UNIT_STATUS 0 true).setBit Obj.CAR_UNIT_STATUS 1 false)) := by
  have hpll' : (s.land t).pllDrives 3 = true := hpll
  show execDelayLineLock t s = _
  rw [execDelayLineLock, State.done_eq, if_pos hpll']

/-- The delay line loses its lock (R136). -/
theorem exec_delayLineUnlock_of_locked {s : State} (t : Nat) (hlocked : s.carLocked = true) :
    exec (.delayLineUnlock t) s = .next (State.settle (s.land t)
      ((((s.land t).setBit Obj.CAR_UNIT_STATUS 0 false).bump Obj.CAR_DL_UNLOCK_COUNT).raise 283)) := by
  have hlocked' : (s.land t).carLocked = true := hlocked
  show execDelayLineUnlock t s = _
  rw [execDelayLineUnlock, State.done_eq, if_pos hlocked']

/-- Settles O19: a hold's end by the mask of a channel without a source, lock and unlock by the state each leaves. -/
theorem carrierMasksAndDelayLine : Obligations.CarrierMasksAndDelayLine := by
  intro s t
  refine ⟨?hold, ?lock, ?unlock⟩
  case hold =>
    intro k c hk hpwm hc hnone
    refine ⟨(s.land t).carMaskOne k, ?_, carMaskOne_ends_hold (s := s.land t) hpwm hc hnone⟩
    show execCarCommHoldExpiry t k s = _
    rw [execCarCommHoldExpiry, State.done_eq, if_neg (Nat.not_le.2 hk)]
  case lock =>
    intro hpll
    refine ⟨_, exec_delayLineLock_of_drives t hpll, ?locked, ?unmasked, ?others, rfl⟩
    case locked => rw [State.bit_setBit, if_pos rfl, if_neg (by decide), State.bit_setBit, if_pos rfl, if_pos rfl]
    case unmasked => rw [State.bit_setBit, if_pos rfl, if_pos rfl]
    case others =>
      exact onlyEntries_trans (onlyEntries_setBit (s.land t) List.mem_cons_self _ _)
        (onlyEntries_setBit _ List.mem_cons_self _ _)
  case unlock =>
    intro hlocked
    refine ⟨_, exec_delayLineUnlock_of_locked t hlocked, ?unlocked, ?counted, sourcePending_raise _ _, ?others, rfl⟩
    case unlocked =>
      rw [State.bit_raise, State.bit_bump _ _ _ _ (by decide), State.bit_setBit, if_pos rfl, if_pos rfl]
    case counted =>
      rw [State.get_raise, State.get_bump, if_pos rfl, State.get_setBit, if_neg (by decide), State.get_land]
    case others =>
      exact onlyEntries_trans
        (onlyEntries_trans (onlyEntries_setBit (s.land t) List.mem_cons_self _ _)
          (onlyEntries_bump _ (List.mem_cons_of_mem _ List.mem_cons_self)))
        (onlyEntries_raise _ _ _)

end Sys2Proof.Proofs
end

section
/-!
PROOF. Writes of a carrier channel, through the register block of a running core or the dictionary (R135, R138 to R140, R149).
-/

namespace Sys2Proof.Proofs

open Sys2Proof Sys2Proof.Machine

/-! ## A write that reaches its unit -/

/-- The register block of a running core acts at once (R149). -/
theorem blockWrite_of_runs {s : State} {f : Sender} {key h : Nat} {v : Int} (hsender : hartOf f = some h)
    (hruns : s.hartRuns h = true) (act : State → Nat → State) : s.blockWrite f key v act = act s h := by
  simp only [State.blockWrite, hsender, hruns, if_true]

/-- From elsewhere a write is a dictionary write (R429). -/
theorem blockWrite_of_elsewhere {s : State} {f : Sender} {key : Nat} {v : Int} (hsender : hartOf f = none)
    (act : State → Nat → State) : s.blockWrite f key v act = s.writeEntry f key v := by
  simp only [State.blockWrite, hsender]

theorem hartRuns_of_reachesUnit {s : State} {t h key : Nat} {f : Sender} {v : Int} (hsender : hartOf f = some h)
    (hreach : s.reachesUnit t f key v = true) : s.hartRuns h = true := by
  simpa only [State.reachesUnit, hsender] using hreach

theorem takesWrite_of_reachesUnit {s : State} {t key : Nat} {f : Sender} {v : Int} (hsender : hartOf f = none)
    (hreach : s.reachesUnit t f key v = true) : s.takesWrite t f key v = true := by
  simpa only [State.reachesUnit, hsender] using hreach

/-- A write that reaches its unit does there what a commit of its value does, whichever way it comes; beside that it leaves only
sessions and outputs changed (R149, R428, R429). -/
theorem blockWrite_of_reachesUnit {s : State} {t : Nat} {f : Sender} {key : Nat} {v : Int} {row : ObjRow} {act : State → State}
    (hrow : Obj.rowOf key = some row) (hrw : row.access = .rw) (hnow : ∀ w, answersLater key w = false)
    (hset : ∀ x : State, x.setEntry key (ObjRow.masked row (ObjType.value row.type (ObjType.bytes row.type v))) = act x)
    (hreach : s.reachesUnit t f key v = true) :
    ∃ d d' o, (s.land t).blockWrite f key v (fun s _ => act s) =
      { act { s.land t with dict := d } with dict := d', out := o } := by
  cases hsender : hartOf f with
  | some h =>
    have hruns : s.hartRuns h = true := hartRuns_of_reachesUnit hsender hreach
    have hlanded : (s.land t).hartRuns h = true := hruns
    refine ⟨s.dict, (act (s.land t)).dict, (act (s.land t)).out, ?_⟩
    rw [blockWrite_of_runs hsender hlanded]
    rfl
  | none =>
    have htakes := takesWrite_of_reachesUnit hsender hreach
    refine ⟨((s.land t).heard f).dict, { (act ((s.land t).heard f)).dict with live := true },
      (act ((s.land t).heard f)).out ++ [.done], ?_⟩
    rw [blockWrite_of_elsewhere hsender, writeEntry_of_takesWrite hrow hrw hnow htakes, State.commitEntry, hset]
    rfl

/-! ## The entries of a channel -/

/-- The entries of the channels are no tunables. -/
theorem tunableKey_carrier {key : Nat} (hlo : 0x251000 ≤ key) : tunableKey key = false := by
  have habove : ¬ key < 0x250000 := by omega
  simp [tunableKey, habove]

/-- Their writes answer at once. -/
theorem answersLater_carrier {key : Nat} (hlo : 0x251000 ≤ key) (hhi : key < 0x260000) (w : Int) : answersLater key w = false := by
  have hplan : key ≠ Obj.AGE_PLAN_SUBMIT := by rw [Obj.AGE_PLAN_SUBMIT]; omega
  have hstore : key ≠ Obj.DEV_IMAGE_STORE := by rw [Obj.DEV_IMAGE_STORE]; omega
  simp [answersLater, hplan, hstore]

theorem unitOf_carrier {index k : Nat} (hk : k < 24) : unitOf (256 * index + 1 + k) = k := by
  show (256 * index + 1 + k) % 256 - 1 = k
  omega

theorem ofBytes_bytesOf {n v : Nat} (h : v < 256 ^ n) : ofBytes (bytesOf v n) = v := by
  induction n generalizing v with
  | zero => simp_all [bytesOf, ofBytes]
  | succ n ih =>
    have hrest : v / 256 < 256 ^ n := Nat.div_lt_of_lt_mul (by rwa [← Nat.pow_succ'])
    rw [bytesOf, ofBytes, ih hrest, Nat.mod_mod, Nat.mod_add_div]

/-- An entry of 32 bits without sign holds every value of 32 bits. -/
theorem value_bytes_u32 {v : Nat} (hv : v < 2 ^ 32) : ObjType.value .u32 (ObjType.bytes .u32 v) = v := by
  have hbits : unsigned 32 (v : Int) = v := by simp only [unsigned]; omega
  show ((ofBytes (bytesOf (unsigned 32 v) 4) : Nat) : Int) = v
  rw [hbits, ofBytes_bytesOf hv]

/-- CAR_CH_CMD is read-write and holds COMMIT and CLEAR_STICKY (Table 6.8). -/
theorem row_chCmd {k : Nat} (hk : k < 24) :
    ∃ row, Obj.rowOf (Obj.CAR_CH_CMD k) = some row ∧ row.access = .rw ∧
      ∀ v, v = 1 ∨ v = 2 → ObjRow.masked row (ObjType.value row.type (ObjType.bytes row.type v)) = v := by
  have htable : ∀ k < 24, (Obj.rowOf (Obj.CAR_CH_CMD k)).map (fun r => (r.access, r.type, r.mask)) = some (.rw, .u8, 3) := by
    decide
  obtain ⟨row, hrow, hcolumns⟩ := Option.map_eq_some_iff.1 (htable k hk)
  simp only [Prod.mk.injEq] at hcolumns
  obtain ⟨hrw, htype, hmask⟩ := hcolumns
  refine ⟨row, hrow, hrw, ?_⟩
  simp only [ObjRow.masked, htype, hmask]
  rintro _ (rfl | rfl) <;> decide

/-- The shadow registers are read-write and hold 32 bits, the phase its 24 (Table 6.8). -/
theorem row_carShadow {reg k : Nat} (hreg : reg < 5) (hk : k < 24) :
    ∃ row, Obj.rowOf (carShadow reg k) = some row ∧ row.access = .rw ∧
      ∀ v : Nat, v < 2 ^ 32 → ObjRow.masked row (ObjType.value row.type (ObjType.bytes row.type v)) =
        (if reg = 4 then v % 2 ^ 24 else v : Nat) := by
  have htable : ∀ reg < 5, ∀ k < 24, (Obj.rowOf (carShadow reg k)).map (fun r => (r.access, r.type, r.mask)) =
      some (.rw, .u32, if reg = 4 then 2 ^ 24 - 1 else 0) := by
    decide
  obtain ⟨row, hrow, hcolumns⟩ := Option.map_eq_some_iff.1 (htable reg hreg k hk)
  simp only [Prod.mk.injEq] at hcolumns
  obtain ⟨hrw, htype, hmask⟩ := hcolumns
  refine ⟨row, hrow, hrw, fun v hv => ?_⟩
  rw [ObjRow.masked, htype, value_bytes_u32 hv, hmask]
  by_cases hphase : reg = 4
  · simp [hphase, Nat.and_two_pow_sub_one_eq_mod v 24]
  · simp [hphase]

theorem answersLater_chCmd {k : Nat} (hk : k < 24) : ∀ w, answersLater (Obj.CAR_CH_CMD k) w = false :=
  answersLater_carrier (by simp only [Obj.CAR_CH_CMD]; omega) (by simp only [Obj.CAR_CH_CMD]; omega)

theorem setEntry_chCmd (s : State) {k : Nat} (hk : k < 24) (v : Int) :
    s.setEntry (Obj.CAR_CH_CMD k) v =
      if bitOf v.toNat 0 then (if bitOf v.toNat 1 then s.carClearSticky k else s).carCommit k
      else if bitOf v.toNat 1 then s.carClearSticky k else s := by
  have hplain : tunableKey (Obj.CAR_CH_CMD k) = false := tunableKey_carrier (by simp only [Obj.CAR_CH_CMD]; omega)
  have hindex : Obj.CAR_CH_CMD k / 256 = 0x2519 := by simp only [Obj.CAR_CH_CMD]; omega
  have hhold : Obj.CAR_CH_CMD k ≠ Obj.SWG_PARAM_HOLD := by simp only [Obj.CAR_CH_CMD, Obj.SWG_PARAM_HOLD]; omega
  have hunit : unitOf (Obj.CAR_CH_CMD k) = k := unitOf_carrier (index := 0x2519) hk
  simp only [State.setEntry, hplain, hhold, hindex, hunit, if_false, Bool.false_eq_true]

theorem carShadow_eq {reg : Nat} (hreg : reg < 5) (k : Nat) : carShadow reg k = 256 * (0x2512 + reg) + 1 + k := by
  match reg, hreg with
  | 0, _ | 1, _ | 2, _ | 3, _ | 4, _ => rfl

theorem setEntry_carShadow (s : State) {reg k : Nat} (hreg : reg < 5) (hk : k < 24) (v : Int) :
    s.setEntry (carShadow reg k) v = s.carShadowWrite k reg v.toNat := by
  have hplain : tunableKey (carShadow reg k) = false := tunableKey_carrier (by rw [carShadow_eq hreg]; omega)
  have hindex : carShadow reg k / 256 = 0x2512 + reg := by rw [carShadow_eq hreg]; omega
  have hhold : carShadow reg k ≠ Obj.SWG_PARAM_HOLD := by rw [carShadow_eq hreg, Obj.SWG_PARAM_HOLD]; omega
  have hunit : unitOf (carShadow reg k) = k := by rw [carShadow_eq hreg]; exact unitOf_carrier hk
  simp only [State.setEntry, hplain, hhold, hindex, hunit, if_false, Bool.false_eq_true]
  match reg, hreg with
  | 0, _ | 1, _ | 2, _ | 3, _ | 4, _ => rfl

/-! ## What the writes do -/

theorem carSetCommit_shows (s : State) (k : Nat) (on : Bool) :
    (s.carSetCommit k on).bit (Obj.CAR_CH_CMD k) 0 = on ∧
      (s.carSetCommit k on).bit (Obj.CAR_CH_STATUS k) 1 = on ∧
      s.onlyEntries (s.carSetCommit k on) [Obj.CAR_CH_CMD k, Obj.CAR_CH_STATUS k] := by
  refine ⟨?commit, ?pending, ?others⟩
  case commit => rw [State.carSetCommit, State.bit_setBit, if_neg (by simp), State.bit_setBit, if_pos rfl, if_pos rfl]
  case pending => rw [State.carSetCommit, State.bit_setBit, if_pos rfl, if_pos rfl]
  case others => exact onlyEntries_trans (onlyEntries_setBit s (by simp) _ _) (onlyEntries_setBit _ (by simp) _ _)

/-- A write that a bound channel ignores is counted and raised (R135). -/
theorem carBoundWrite_counts (s : State) (k : Nat) :
    (s.carBoundWrite k).bit (Obj.CAR_CH_STATUS k) 7 = true ∧
      (s.carBoundWrite k).get Obj.CAR_BOUND_WRITE_COUNT = min (s.get Obj.CAR_BOUND_WRITE_COUNT + 1) 0xFFFFFFFF ∧
      (s.carBoundWrite k).sourcePending 284 ∧
      s.onlyEntries (s.carBoundWrite k) [Obj.CAR_CH_STATUS k, Obj.CAR_BOUND_WRITE_COUNT] := by
  have hother : Obj.CAR_CH_STATUS k ≠ Obj.CAR_BOUND_WRITE_COUNT := by
    simp only [Obj.CAR_CH_STATUS, Obj.CAR_BOUND_WRITE_COUNT]
    omega
  refine ⟨?shown, ?counted, sourcePending_raise _ _, ?others⟩
  case shown =>
    rw [State.carBoundWrite, State.bit_raise, State.bit_bump _ _ _ _ hother, State.bit_setBit, if_pos rfl, if_pos rfl]
  case counted =>
    rw [State.carBoundWrite, State.get_raise, State.get_bump, if_pos rfl, State.get_setBit, if_neg hother.symm]
  case others =>
    exact onlyEntries_trans
      (onlyEntries_trans (onlyEntries_setBit s (by simp) _ _) (onlyEntries_bump _ (by simp))) (onlyEntries_raise _ _ _)

/-- A write in the window of R139 is shown and counted. -/
theorem carLateMark_counts (s : State) (k : Nat) :
    (s.carLateMark k).bit (Obj.CAR_CH_STATUS k) 5 = true ∧
      (s.carLateMark k).get Obj.CAR_LATE_WRITE_COUNT = min (s.get Obj.CAR_LATE_WRITE_COUNT + 1) 0xFFFFFFFF ∧
      s.onlyEntries (s.carLateMark k) [Obj.CAR_CH_STATUS k, Obj.CAR_LATE_WRITE_COUNT] := by
  have hother : Obj.CAR_CH_STATUS k ≠ Obj.CAR_LATE_WRITE_COUNT := by
    simp only [Obj.CAR_CH_STATUS, Obj.CAR_LATE_WRITE_COUNT]
    omega
  refine ⟨?shown, ?counted, ?others⟩
  case shown => rw [State.carLateMark, State.bit_bump _ _ _ _ hother, State.bit_setBit, if_pos rfl, if_pos rfl]
  case counted => rw [State.carLateMark, State.get_bump, if_pos rfl, State.get_setBit, if_neg hother.symm]
  case others => exact onlyEntries_trans (onlyEntries_setBit s (by simp) _ _) (onlyEntries_bump _ (by simp))

theorem carMode_ne_one_of_pwm {s : State} {k : Nat} (h : s.carPwm k = true) : s.carMode k ≠ 1 := by
  have hmode : 2 ≤ s.carMode k := of_decide_eq_true h
  omega

theorem carCommit_of_bound {s : State} {k : Nat} (hmode : s.carMode k = 1) : s.carCommit k = s.carBoundWrite k :=
  if_pos hmode

theorem carCommit_of_window {s : State} {k : Nat} (hmode : s.carMode k ≠ 1) (hwindow : s.carWindow k = true) :
    s.carCommit k = (s.withChannel k fun c => { c with lateCommit := true }).carLateMark k := by
  rw [State.carCommit, if_neg hmode, if_pos hwindow]

theorem carCommit_of_free {s : State} {k : Nat} (hmode : s.carMode k ≠ 1) (hwindow : s.carWindow k = false) :
    s.carCommit k = s.carSetCommit k true := by
  rw [State.carCommit, if_neg hmode, hwindow, if_neg Bool.false_ne_true]

theorem carClearSticky_of_unbound {s : State} {k : Nat} (hmode : s.carMode k ≠ 1) :
    s.carClearSticky k =
      ((s.setBit (Obj.CAR_CH_STATUS k) 4 false).setBit (Obj.CAR_CH_STATUS k) 5 false).setBit (Obj.CAR_CH_STATUS k) 7 false :=
  if_neg hmode

/-- CLEAR_STICKY clears DUTY_CLAMP, LATE_WRITE and BOUND_WRITE (R151). -/
theorem carClearSticky_clears {s : State} {k : Nat} (hmode : s.carMode k ≠ 1) :
    (∀ b, b = 4 ∨ b = 5 ∨ b = 7 → (s.carClearSticky k).bit (Obj.CAR_CH_STATUS k) b = false) ∧
      s.onlyEntries (s.carClearSticky k) [Obj.CAR_CH_STATUS k] := by
  rw [carClearSticky_of_unbound hmode]
  constructor
  · simp only [State.bit_setBit, if_true]
    rintro _ (rfl | rfl | rfl) <;> rfl
  · exact onlyEntries_trans
      (onlyEntries_trans (onlyEntries_setBit s List.mem_cons_self _ _) (onlyEntries_setBit _ List.mem_cons_self _ _))
      (onlyEntries_setBit _ List.mem_cons_self _ _)

theorem carShadowWrite_of_bound {s : State} {k reg : Nat} (hmode : s.carMode k = 1) (hreg : reg = 0 ∨ reg = 1 ∨ reg = 4) (v : Nat) :
    s.carShadowWrite k reg v = s.carBoundWrite k := by
  have hignored : reg ≤ 1 ∨ 4 ≤ reg := by omega
  simp [State.carShadowWrite, hmode, hignored]

theorem carShadowWrite_of_free {s : State} {k : Nat} (hmode : s.carMode k ≠ 1) (hwindow : s.carWindow k = false) (reg v : Nat) :
    s.carShadowWrite k reg v =
      if reg = 1 && s.bit (Obj.CAR_CH_CTRL k) 4 then (s.put (carShadow reg k) v).carSetCommit k true
      else s.put (carShadow reg k) v := by
  simp [State.carShadowWrite, hmode, hwindow]

/-- A shadow register takes its value, and the duty commits with auto-commit on (R138, R140). -/
theorem carShadowWrite_takes {s : State} {k reg : Nat} (hmode : s.carMode k ≠ 1) (hwindow : s.carWindow k = false)
    (hreg : reg < 5) (v : Nat) :
    (s.carShadowWrite k reg v).getN (carShadow reg k) = v ∧
      (reg = 1 → s.bit (Obj.CAR_CH_CTRL k) 4 = true → (s.carShadowWrite k reg v).bit (Obj.CAR_CH_CMD k) 0 = true) ∧
      s.onlyEntries (s.carShadowWrite k reg v) [carShadow reg k, Obj.CAR_CH_CMD k, Obj.CAR_CH_STATUS k] := by
  have hput : s.onlyEntries (s.put (carShadow reg k) v) [carShadow reg k, Obj.CAR_CH_CMD k, Obj.CAR_CH_STATUS k] :=
    fun key hkey => State.get_put_ne s _ (List.ne_of_not_mem_cons hkey)
  have hshadow : (s.put (carShadow reg k) v).getN (carShadow reg k) = v := by
    rw [State.getN, State.get_put_same, Int.toNat_natCast]
  rw [carShadowWrite_of_free hmode hwindow]
  obtain ⟨hcommit, -, honly⟩ := carSetCommit_shows (s.put (carShadow reg k) v) k true
  split
  next hauto =>
    have hkept : carShadow reg k ∉ [Obj.CAR_CH_CMD k, Obj.CAR_CH_STATUS k] := by
      rw [carShadow_eq hreg]
      simp only [Obj.CAR_CH_CMD, Obj.CAR_CH_STATUS, List.mem_cons, List.not_mem_nil, or_false]
      omega
    refine ⟨?_, fun _ _ => hcommit, fun key hkey => ?_⟩
    · rw [State.getN, honly _ hkept]
      exact hshadow
    · rw [honly key (List.not_mem_of_not_mem_cons hkey), hput key hkey]
  next hauto =>
    refine ⟨hshadow, fun hduty hon => absurd ?_ hauto, hput⟩
    rw [hduty, hon]
    rfl

/-! ## The statement -/

/-- Sessions have no part in the window of R139. -/
theorem carWindow_withDict (s : State) (d : Dict) (k : Nat) : ({ s with dict := d } : State).carWindow k = s.carWindow k := by
  induction k with
  | zero => rfl
  | succ k ih =>
    rw [State.carWindow, ih, State.carWindow]
    rfl

/-- The state in which a write that reaches its unit acts: sessions apart, the one in which it has landed. -/
abbrev landedWith (s : State) (t : Nat) (d : Dict) : State := { s.land t with dict := d }

theorem exec_carCommit_of_reachesUnit {s : State} {t k : Nat} {f : Sender} (hk : k < 24)
    (hreach : s.reachesUnit t f (Obj.CAR_CH_CMD k) 1 = true) :
    ∃ d d' o, exec (.carCommit t f k) s =
      .next (State.settle (s.land t) { (landedWith s t d).carCommit k with dict := d', out := o }) := by
  obtain ⟨row, hrow, hrw, hval⟩ := row_chCmd hk
  obtain ⟨d, d', o, hacts⟩ := blockWrite_of_reachesUnit (act := fun s => s.carCommit k) hrow hrw (answersLater_chCmd hk)
    (fun x => by rw [hval 1 (.inl rfl), setEntry_chCmd x hk]; rfl) hreach
  refine ⟨d, d', o, ?_⟩
  show execCarCommit t f k s = _
  rw [execCarCommit, State.done_eq, if_neg (Nat.not_le.2 hk), hacts]

theorem exec_carClearSticky_of_reachesUnit {s : State} {t k : Nat} {f : Sender} (hk : k < 24)
    (hreach : s.reachesUnit t f (Obj.CAR_CH_CMD k) 2 = true) :
    ∃ d d' o, exec (.carClearSticky t f k) s =
      .next (State.settle (s.land t) { (landedWith s t d).carClearSticky k with dict := d', out := o }) := by
  obtain ⟨row, hrow, hrw, hval⟩ := row_chCmd hk
  obtain ⟨d, d', o, hacts⟩ := blockWrite_of_reachesUnit (act := fun s => s.carClearSticky k) hrow hrw
    (answersLater_chCmd hk) (fun x => by rw [hval 2 (.inr rfl), setEntry_chCmd x hk]; rfl) hreach
  refine ⟨d, d', o, ?_⟩
  show execCarClearSticky t f k s = _
  rw [execCarClearSticky, State.done_eq, if_neg (Nat.not_le.2 hk), hacts]

theorem exec_carShadowWrite_of_reachesUnit {s : State} {t k reg v : Nat} {f : Sender} (hk : k < 24) (hreg : reg < 5)
    (hv : v < 2 ^ 32) (hreach : s.reachesUnit t f (carShadow reg k) v = true) :
    ∃ d d' o, exec (.carShadowWrite t f k reg v) s =
      .next (State.settle (s.land t)
        { (landedWith s t d).carShadowWrite k reg (if reg = 4 then v % 2 ^ 24 else v) with dict := d', out := o }) := by
  obtain ⟨row, hrow, hrw, hval⟩ := row_carShadow hreg hk
  have hnow : ∀ w, answersLater (carShadow reg k) w = false :=
    answersLater_carrier (by rw [carShadow_eq hreg]; omega) (by rw [carShadow_eq hreg]; omega)
  obtain ⟨d, d', o, hacts⟩ := blockWrite_of_reachesUnit
    (act := fun s => s.carShadowWrite k reg (if reg = 4 then v % 2 ^ 24 else v)) hrow hrw hnow
    (fun x => by rw [hval v hv, setEntry_carShadow x hreg hk, Int.toNat_natCast]) hreach
  have hmodel : ¬ (decide (24 ≤ k) || decide (5 ≤ reg)) = true := by simp; omega
  refine ⟨d, d', o, ?_⟩
  show execCarShadowWrite t f k reg v s = _
  rw [execCarShadowWrite, State.done_eq, if_neg hmodel, Nat.mod_eq_of_lt hv, hacts]

/-- Settles O18: each command by the state in which it acts, and each outcome of a write by its lemma. -/
theorem carrierWrites : Obligations.CarrierWrites := by
  intro s t k f c hc hk
  refine ⟨?commit, ?late, ?commitBound, ?sticky, ?shadow, ?shadowBound⟩
  case commit =>
    intro hreach hmode hwindow
    obtain ⟨d, d', o, hexec⟩ := exec_carCommit_of_reachesUnit hk hreach
    obtain ⟨hcommit, hpending, honly⟩ := carSetCommit_shows (landedWith s t d) k true
    rw [carCommit_of_free (s := landedWith s t d) hmode ((carWindow_withDict _ d k).trans hwindow)] at hexec
    exact ⟨_, hexec, hcommit, hpending, honly, rfl⟩
  case late =>
    intro hreach hpwm hwindow
    obtain ⟨d, d', o, hexec⟩ := exec_carCommit_of_reachesUnit hk hreach
    rw [carCommit_of_window (s := landedWith s t d) (carMode_ne_one_of_pwm hpwm) ((carWindow_withDict _ d k).trans hwindow)]
      at hexec
    obtain ⟨hshown, hcounted, honly⟩ :=
      carLateMark_counts ((landedWith s t d).withChannel k fun c => { c with lateCommit := true }) k
    refine ⟨_, hexec, ?_, hshown, hcounted, honly, rfl⟩
    show Option.map _ (((landedWith s t d).withChannel k fun c => { c with lateCommit := true }).car.channels[k]?) = some true
    rw [channels_withChannel]
    show Option.map _ (Option.map _ (s.car.channels[k]?)) = some true
    rw [hc]
    rfl
  case commitBound =>
    intro hreach hmode
    obtain ⟨d, d', o, hexec⟩ := exec_carCommit_of_reachesUnit hk hreach
    obtain ⟨hshown, hcounted, hpending, honly⟩ := carBoundWrite_counts (landedWith s t d) k
    rw [carCommit_of_bound (s := landedWith s t d) hmode] at hexec
    exact ⟨_, hexec, hshown, hcounted, hpending, honly, rfl⟩
  case sticky =>
    intro hreach hmode
    obtain ⟨d, d', o, hexec⟩ := exec_carClearSticky_of_reachesUnit hk hreach
    obtain ⟨hcleared, honly⟩ := carClearSticky_clears (s := landedWith s t d) hmode
    refine ⟨_, hexec, hcleared 4 (.inl rfl), hcleared 5 (.inr (.inl rfl)), hcleared 7 (.inr (.inr rfl)), honly, ?_⟩
    rw [carClearSticky_of_unbound (s := landedWith s t d) hmode]
    rfl
  case shadow =>
    intro reg v hreg hv hreach hmode hwindow
    obtain ⟨d, d', o, hexec⟩ := exec_carShadowWrite_of_reachesUnit hk hreg hv hreach
    have hfree : (landedWith s t d).carWindow k = false := (carWindow_withDict _ d k).trans hwindow
    obtain ⟨htaken, hauto, honly⟩ :=
      carShadowWrite_takes (s := landedWith s t d) hmode hfree hreg (if reg = 4 then v % 2 ^ 24 else v)
    refine ⟨_, hexec, htaken, hauto, honly, ?_⟩
    rw [carShadowWrite_of_free (s := landedWith s t d) hmode hfree]
    split <;> rfl
  case shadowBound =>
    intro reg v hreg hv hreach hmode
    obtain ⟨d, d', o, hexec⟩ := exec_carShadowWrite_of_reachesUnit hk (by omega) hv hreach
    obtain ⟨hshown, hcounted, hpending, honly⟩ := carBoundWrite_counts (landedWith s t d) k
    rw [carShadowWrite_of_bound (s := landedWith s t d) hmode hreg] at hexec
    exact ⟨_, hexec, hshown, hcounted, hpending, honly, rfl⟩

end Sys2Proof.Proofs
end

section
/-!
PROOF. Reloads of a PWM channel, at its period end and at a synchronisation pulse (R137, R138, R142).
-/

namespace Sys2Proof.Proofs

open Sys2Proof Sys2Proof.Machine

/-! ## What follows a loaded counter leaves alone -/

/-- What a reload gives a channel: its counter, its raw output, the pulse it takes and its active registers. -/
def loadingOf (c : CarChannel) : Int × Bool × Option Int × List Nat :=
  (c.start, c.raw, c.sync, [c.period, c.duty, c.cmpa, c.cmpb, c.phase])

/-- What reloads channel `k` gave it stays, and entries but its status and its count of clamps. -/
structure KeepsLoading (k : Nat) (a b : State) : Prop where
  loading : (b.car.channels[k]?).map loadingOf = (a.car.channels[k]?).map loadingOf
  entries : a.onlyEntries b [Obj.CAR_CH_STATUS k, Obj.CAR_CLAMP_COUNT k]

theorem KeepsLoading.refl (k : Nat) (a : State) : KeepsLoading k a a := ⟨rfl, fun _ _ => rfl⟩

theorem KeepsLoading.trans {k : Nat} {a b c : State} (h : KeepsLoading k a b) (g : KeepsLoading k b c) : KeepsLoading k a c :=
  ⟨g.loading.trans h.loading, onlyEntries_trans h.entries g.entries⟩

theorem KeepsLoading.ite {k : Nat} {s a b : State} {p : Prop} [Decidable p] (h : KeepsLoading k s a) (g : KeepsLoading k s b) :
    KeepsLoading k s (if p then a else b) := by
  split
  · exact h
  · exact g

theorem keepsLoading_status (k : Nat) (s : State) (b : Nat) (on : Bool) :
    KeepsLoading k s (s.setBit (Obj.CAR_CH_STATUS k) b on) :=
  ⟨rfl, onlyEntries_setBit s (by simp) b on⟩

theorem keepsLoading_clampCount (k : Nat) (s : State) : KeepsLoading k s (s.bump (Obj.CAR_CLAMP_COUNT k)) :=
  ⟨rfl, onlyEntries_bump s (by simp)⟩

theorem keepsLoading_raise (k : Nat) (s : State) (src : Nat) : KeepsLoading k s (s.raise src) :=
  ⟨rfl, onlyEntries_raise s src _⟩

theorem keepsLoading_carIrq (k : Nat) (s : State) (j b : Nat) : KeepsLoading k s (s.carIrq j b) :=
  .ite (keepsLoading_raise k s _) (.refl k s)

theorem keepsLoading_withChannel {k : Nat} (s : State) {g : CarChannel → CarChannel} (hg : ∀ c, loadingOf (g c) = loadingOf c) :
    KeepsLoading k s (s.withChannel k g) :=
  ⟨map_channels_withChannel hg s k k, fun key _ => State.get_withChannel s k g key⟩

theorem keepsLoading_withChannel_ne {j k : Nat} (s : State) (h : j ≠ k) (g : CarChannel → CarChannel) :
    KeepsLoading k s (s.withChannel j g) :=
  ⟨by rw [channels_withChannel_ne s h], fun key _ => State.get_withChannel s j g key⟩

/-- Masks that lift at a reload (R146). -/
theorem keepsLoading_carLift (k : Nat) (s : State) : KeepsLoading k s (s.carLift k) := by
  unfold State.carLift
  split
  · exact .refl k s
  · extract_lets forced active lifted shown
    have hlifted : KeepsLoading k s lifted := .ite (keepsLoading_raise k s 282) (.refl k s)
    have hshown : KeepsLoading k s shown := hlifted.trans (keepsLoading_withChannel lifted fun _ => rfl)
    exact (hshown.trans (keepsLoading_status k _ _ _)).trans (keepsLoading_status k _ _ _)

/-! ## The raw output -/

/-- Of what a reload gives a channel, the raw output alone changes where it rises or stays high (R141). -/
theorem carRise_raises (s : State) (k : Nat) (inst : Int) :
    ((s.carRise k inst).car.channels[k]?).map loadingOf =
      ((s.car.channels[k]?).map loadingOf).map fun l => (l.1, true, l.2.2) := by
  rw [State.carRise, channels_withChannel, Option.map_map, Option.map_map]
  refine congrArg (Option.map · _) (funext fun c => ?_)
  simp only [Function.comp_apply]
  split <;> rfl

/-- So where it falls or stays low. -/
theorem carFall_lowers (s : State) (k : Nat) (inst : Int) :
    ((s.carFall k inst).car.channels[k]?).map loadingOf =
      ((s.car.channels[k]?).map loadingOf).map fun l => (l.1, false, l.2.2) := by
  rw [State.carFall, channels_withChannel, Option.map_map, Option.map_map]
  refine congrArg (Option.map · _) (funext fun c => ?_)
  simp only [Function.comp_apply]
  split <;> rfl

/-! ## The steps of a reload -/

/-- The count that a reload loads. -/
def reloadCount (c : CarChannel) (phased : Bool) : Nat := if phased then c.phase % 2 ^ 20 else 0

/-- The counter of a channel with active registers `c` is loaded at an instant. -/
def reloadCounter (s : State) (k : Nat) (c : CarChannel) (inst : Int) (load : Nat) : State :=
  s.withChannel k fun e => { e with
    start := inst - (320 * load : Nat), loaded := load,
    doneA := decide (0 < e.cmpa) && decide (e.cmpa < 64 * load), doneB := decide (0 < e.cmpb) && decide (e.cmpb < 64 * load),
    dutyDone := decide (e.duty ≤ 64 * load), clamped := decide (64 * c.period ≤ c.duty), sync := none }

/-- A clamped period is shown and counted, and raised where it begins (R137). -/
def reloadClamp (s : State) (k : Nat) (c : CarChannel) : State :=
  if decide (64 * c.period ≤ c.duty) then
    if c.clamped then (s.setBit (Obj.CAR_CH_STATUS k) 4 true).bump (Obj.CAR_CLAMP_COUNT k)
    else (((s.setBit (Obj.CAR_CH_STATUS k) 4 true).bump (Obj.CAR_CLAMP_COUNT k)).raise 280).carIrq k 15
  else s

/-- The raw output with which a period begins (R137). -/
def reloadOutput (s : State) (k : Nat) (c : CarChannel) (inst : Int) (load : Nat) : State :=
  if 64 * load < c.duty then s.carRise k inst else s.carFall k inst

/-- The reload reaches the next channel of a chain as a pulse (R142). -/
def reloadChain (s : State) (k : Nat) (inst : Int) : State :=
  if s.carPwm (k + 1) && s.carSync (k + 1) = 1 then s.withChannel (k + 1) fun e => { e with sync := some inst } else s

theorem keepsLoading_reloadClamp (k : Nat) (s : State) (c : CarChannel) : KeepsLoading k s (reloadClamp s k c) := by
  have hcounted := (keepsLoading_status k s 4 true).trans (keepsLoading_clampCount k _)
  exact .ite (.ite hcounted ((hcounted.trans (keepsLoading_raise k _ _)).trans (keepsLoading_carIrq k _ _ _))) (.refl k s)

theorem keepsLoading_reloadChain (k : Nat) (s : State) (inst : Int) : KeepsLoading k s (reloadChain s k inst) :=
  .ite (keepsLoading_withChannel_ne s (Nat.succ_ne_self k) _) (.refl k s)

theorem reloadOutput_decides (s : State) (k : Nat) (c : CarChannel) (inst : Int) (load : Nat) :
    ((reloadOutput s k c inst load).car.channels[k]?).map loadingOf =
      ((s.car.channels[k]?).map loadingOf).map fun l => (l.1, decide (64 * load < c.duty), l.2.2) := by
  unfold reloadOutput
  split
  next hhigh => rw [carRise_raises, decide_eq_true hhigh]
  next hlow => rw [carFall_lowers, decide_eq_false hlow]

theorem get_reloadOutput (s : State) (k : Nat) (c : CarChannel) (inst : Int) (load key : Nat) :
    (reloadOutput s k c inst load).get key = s.get key := by
  unfold reloadOutput
  split <;> rfl

/-- What follows a transfer, in a channel with active registers `c`. -/
def reloadFrom (s : State) (k : Nat) (c : CarChannel) (inst : Int) (load : Nat) : State :=
  reloadChain (((reloadOutput (reloadClamp (reloadCounter s k c inst load) k c) k c inst load).carLift k).carIrq k 12) k inst

theorem carReload_eq {s : State} {k : Nat} {c : CarChannel} (hc : ((s.carTransfer k).carLate k).car.channels[k]? = some c)
    (inst : Int) (phased : Bool) :
    s.carReload k inst phased =
      reloadFrom ((s.carTransfer k).carLate k) k c inst (reloadCount c phased) := by
  simp only [State.carReload, hc]
  rfl

theorem reloadFrom_loads {s : State} {k : Nat} {c : CarChannel} (hc : s.car.channels[k]? = some c) (inst : Int) (load : Nat) :
    ((reloadFrom s k c inst load).car.channels[k]?).map loadingOf =
        some (inst - (320 * load : Nat), decide (64 * load < c.duty), none, [c.period, c.duty, c.cmpa, c.cmpb, c.phase]) ∧
      s.onlyEntries (reloadFrom s k c inst load) [Obj.CAR_CH_STATUS k, Obj.CAR_CLAMP_COUNT k] := by
  have hclamp := keepsLoading_reloadClamp k (reloadCounter s k c inst load) c
  have hrest := ((keepsLoading_carLift k (reloadOutput (reloadClamp (reloadCounter s k c inst load) k c) k c inst load)).trans
    (keepsLoading_carIrq k _ k 12)).trans (keepsLoading_reloadChain k _ inst)
  refine ⟨?loading, fun key hkey => ?others⟩
  case loading =>
    rw [reloadFrom, hrest.loading, reloadOutput_decides, hclamp.loading, reloadCounter, channels_withChannel, hc]
    rfl
  case others =>
    rw [reloadFrom, hrest.entries key hkey, get_reloadOutput, hclamp.entries key hkey, reloadCounter, State.get_withChannel]

/-! ## The active registers -/

/-- The active registers that a reload uses: the shadow registers where COMMIT is set, else those it finds (R138). -/
def reloadRegisters (s : State) (k : Nat) (c : CarChannel) : CarChannel :=
  if s.bit (Obj.CAR_CH_CMD k) 0 = true then
    { c with
      period := s.getN (Obj.CAR_PERIOD k), duty := s.getN (Obj.CAR_DUTY k), cmpa := s.getN (Obj.CAR_CMPA k)
      cmpb := s.getN (Obj.CAR_CMPB k), phase := s.getN (Obj.CAR_PHASE k) }
  else c

/-- A transfer leaves COMMIT clear; where it was set, PERIOD_NOW and DUTY_NOW show the registers moved (R138). -/
theorem carTransfer_shows (s : State) (k : Nat) :
    (s.carTransfer k).bit (Obj.CAR_CH_CMD k) 0 = false ∧
      (s.bit (Obj.CAR_CH_CMD k) 0 = true → (s.carTransfer k).get (Obj.CAR_PERIOD_NOW k) = s.get (Obj.CAR_PERIOD k) ∧
        (s.carTransfer k).get (Obj.CAR_DUTY_NOW k) = s.get (Obj.CAR_DUTY k)) := by
  unfold State.carTransfer
  split
  next hcommit =>
    extract_lets moved
    obtain ⟨hcleared, -, honly⟩ := carSetCommit_shows
      ((moved.put (Obj.CAR_PERIOD_NOW k) (s.get (Obj.CAR_PERIOD k))).put (Obj.CAR_DUTY_NOW k) (s.get (Obj.CAR_DUTY k))) k false
    refine ⟨hcleared, fun _ => ⟨?_, ?_⟩⟩
    · rw [honly _ (by simp), State.get_put_ne _ _ (by simp), State.get_put_same]
    · rw [honly _ (by simp), State.get_put_same]
  next hcommit => exact ⟨Bool.eq_false_iff.2 hcommit, fun h => absurd h hcommit⟩

theorem carTransfer_moves {s : State} {k : Nat} {c : CarChannel} (hc : s.car.channels[k]? = some c) :
    (s.carTransfer k).car.channels[k]? = some (reloadRegisters s k c) := by
  unfold State.carTransfer reloadRegisters
  split
  · show (s.withChannel k _).car.channels[k]? = _
    rw [channels_withChannel, hc]
    rfl
  · exact hc

theorem reloadRegisters_late (s : State) (k : Nat) (c : CarChannel) :
    (reloadRegisters s k c).late = c.late ∧ (reloadRegisters s k c).lateCommit = c.lateCommit := by
  unfold reloadRegisters
  split <;> exact ⟨rfl, rfl⟩

/-- A reload without writes of the window of R139 completes none. -/
theorem carLate_of_none {s : State} {k : Nat} {c : CarChannel} (hc : s.car.channels[k]? = some c) (hlate : c.late = [])
    (hcommit : c.lateCommit = false) : s.carLate k = s.withChannel k fun e => { e with late := [], lateCommit := false } := by
  simp [State.carLate, hc, hlate, hcommit]

/-! ## A reload -/

/-- What a reload at an instant leaves: COMMIT clear, the counter loaded with a count, the active registers and what shows them. -/
structure Reloaded (s u : State) (k : Nat) (d : CarChannel) (inst : Int) (load : Nat) : Prop where
  uncommitted : u.bit (Obj.CAR_CH_CMD k) 0 = false
  shown : s.bit (Obj.CAR_CH_CMD k) 0 = true →
    u.get (Obj.CAR_PERIOD_NOW k) = s.get (Obj.CAR_PERIOD k) ∧ u.get (Obj.CAR_DUTY_NOW k) = s.get (Obj.CAR_DUTY k)
  counter : (u.car.channels[k]?).map (fun e => (e.start, e.raw, e.sync)) =
    some (inst - (320 * load : Nat), decide (64 * load < d.duty), none)
  registers : (u.car.channels[k]?).map (fun e => [e.period, e.duty, e.cmpa, e.cmpb, e.phase]) =
    some [d.period, d.duty, d.cmpa, d.cmpb, d.phase]

/-- A reload with no write of the window of R139 to complete (R137, R138, R142). -/
theorem carReload_reloads {s : State} {k : Nat} {c d : CarChannel} (hc : s.car.channels[k]? = some c) (hlate : c.late = [])
    (hcommit : c.lateCommit = false) (hd : d = reloadRegisters s k c) (inst : Int) (phased : Bool) :
    Reloaded s (s.carReload k inst phased) k d inst (reloadCount d phased) := by
  obtain ⟨hcleared, hshown⟩ := carTransfer_shows s k
  obtain ⟨hlate', hcommit'⟩ := reloadRegisters_late s k c
  rw [← hd, hlate] at hlate'
  rw [← hd, hcommit] at hcommit'
  have hmoved : (s.carTransfer k).car.channels[k]? = some d := hd ▸ carTransfer_moves hc
  have hcompleted := carLate_of_none hmoved hlate' hcommit'
  have hfound : ((s.carTransfer k).carLate k).car.channels[k]? = some d := by
    rw [hcompleted, channels_withChannel, hmoved, Option.map_some, ← hlate', ← hcommit']
  obtain ⟨hloading, hothers⟩ := reloadFrom_loads hfound inst (reloadCount d phased)
  rw [← carReload_eq hfound] at hloading hothers
  have hentries : (s.carTransfer k).onlyEntries (s.carReload k inst phased) [Obj.CAR_CH_STATUS k, Obj.CAR_CLAMP_COUNT k] := by
    intro key hkey
    rw [hothers key hkey, hcompleted, State.get_withChannel]
  refine ⟨?uncommitted, fun hset => ?shown, ?counter, ?registers⟩
  case uncommitted => rw [bit_of_onlyEntries hentries (by simp), hcleared]
  case shown =>
    rw [hentries _ (by simp), hentries _ (by simp)]
    exact hshown hset
  case counter =>
    have hpart := congrArg (Option.map fun l => (l.1, l.2.1, l.2.2.1)) hloading
    rwa [Option.map_map] at hpart
  case registers =>
    have hpart := congrArg (Option.map fun l => l.2.2.2) hloading
    rwa [Option.map_map] at hpart

/-! ## The statement -/

/-- A period ends that no pulse overtakes (R137). -/
theorem exec_carrierReload_of_ended {s : State} {t k : Nat} {c : CarChannel} (hc : s.car.channels[k]? = some c)
    (hpwm : s.carPwm k = true) (hsync : c.sync = none) (hended : c.ends ≤ (s.land t).nowFine) :
    exec (.carrierReload t k) s = .next (State.settleAt (s.land t) ((s.land t).carReload k c.ends false) (some c.ends)) := by
  have hpwm' : (s.land t).carPwm k = true := hpwm
  have hat : (s.land t).carReloadAt k = some (c.ends, false) := by
    simp [State.carReloadAt, State.ofChannel, hc, hpwm', hsync]
  show execCarrierReload t k s = _
  simp only [execCarrierReload, State.doneAt_eq, State.carReloadDue, hat, State.reached, hended, decide_true, if_true]
  rfl

/-- A pulse has reached the channel (R142). -/
theorem exec_carrierSyncPulse_of_reached {s : State} {t k : Nat} {c : CarChannel} {inst : Int} (hc : s.car.channels[k]? = some c)
    (hpwm : s.carPwm k = true) (hsync : c.sync = some inst) (hreached : inst ≤ (s.land t).nowFine) :
    exec (.carrierSyncPulse t k) s = .next (State.settleAt (s.land t) ((s.land t).carReload k inst true) (some inst)) := by
  have hpwm' : (s.land t).carPwm k = true := hpwm
  have hat : (s.land t).ofChannel k (fun c => c.sync) = some inst := by simp [State.ofChannel, hc, hsync]
  show execCarrierSyncPulse t k s = _
  simp only [execCarrierSyncPulse, State.doneAt_eq, State.carSyncPulse, hat, hpwm', State.reached, hreached, decide_true,
    Bool.and_self, if_true]

/-- Settles O16: both clauses by what a reload leaves, a period's end with count 0 and a pulse with the phase. -/
theorem carrierReloads : Obligations.CarrierReloads := by
  intro s t k c d hc hk hpwm hlate hcommit hd
  have hreload := carReload_reloads (s := s.land t) hc hlate hcommit hd
  refine ⟨fun hsync hended => ?ended, fun inst hsync hreached => ?pulse⟩
  case ended =>
    obtain ⟨huncommitted, hshown, hcounter, hregisters⟩ := hreload c.ends false
    refine ⟨_, exec_carrierReload_of_ended hc hpwm hsync hended, huncommitted, hshown, ?_, hregisters⟩
    rw [hcounter]
    simp [reloadCount]
  case pulse =>
    obtain ⟨huncommitted, -, hcounter, hregisters⟩ := hreload inst true
    exact ⟨_, exec_carrierSyncPulse_of_reached hc hpwm hsync hreached, huncommitted, hcounter, hregisters⟩

end Sys2Proof.Proofs
end

section
/-!
PROOF. What follows a command leaves the carrier unit as it is, its masks apart, and so the triggers of its channels (R143, R144).
-/

namespace Sys2Proof.Proofs

open Sys2Proof Sys2Proof.Machine

/-! ## Changes that leave the carrier unit alone -/

theorem foldl_car {α : Type} {f : State → α → State} (hf : ∀ s x, (f s x).car = s.car) (s : State) (l : List α) :
    (l.foldl f s).car = s.car := by
  induction l generalizing s with
  | nil => rfl
  | cons x rest ih => rw [List.foldl_cons, ih, hf]

theorem ite_car {s a b : State} {p : Prop} [Decidable p] (ha : a.car = s.car) (hb : b.car = s.car) :
    (if p then a else b).car = s.car := by
  rw [apply_ite State.car, ha, hb, ite_self]

@[simp] theorem cmtFire_car (s : State) (code time frac : Nat) : (s.cmtFire code time frac).car = s.car := by
  rw [cmtFire_frame]

/-! ### Choppers -/

@[simp] theorem dchAccrue_car (s : State) (k : Nat) : (s.dchAccrue k).car = s.car := by
  unfold State.dchAccrue
  split
  · rfl
  · split <;> rfl

@[simp] theorem dchTurnOff_car (s : State) (k : Nat) : (s.dchTurnOff k).car = s.car := dchAccrue_car s k

@[simp] theorem dchEval_car (s : State) (k : Nat) : (s.dchEval k).car = s.car := by
  unfold State.dchEval
  split
  · rfl
  · simp [State.dchTurnOn, apply_ite State.car]

@[simp] theorem dchBlind_car (s : State) : s.dchBlind.car = s.car := foldl_car (fun s _ => State.setBit_car s _ _ _) s _

@[simp] theorem prtPoleInvalid_car (s : State) (neg : Bool) : (s.prtPoleInvalid neg).car = s.car := by
  simp [State.prtPoleInvalid, apply_ite State.car]

theorem dchDrive_car (s : State) : s.dchDrive.car = s.car := by
  refine foldl_car (fun s k => ?_) s _
  split <;> simp [apply_ite State.car]

/-! ### Clocks of the measurement groups -/

@[simp] theorem meaJudge_car (s : State) (k : Nat) : (s.meaJudge k).car = s.car := by
  unfold State.meaJudge
  extract_lets causes shown s1
  split
  · rfl
  · have hreported : s1.car = s.car := by simp [s1, shown, apply_ite State.car]
    split <;> simp [apply_ite State.car, hreported]

@[simp] theorem meaRestart_car (s : State) (k : Nat) : (s.meaRestart k).car = s.car := by
  simp [State.meaRestart, State.meaSettleBegin, State.meaMark, apply_ite State.car]

@[simp] theorem meaClockOne_car (s : State) (k : Nat) : (s.meaClockOne k).car = s.car := by
  simp [State.meaClockOne, State.meaMark, apply_ite State.car]

@[simp] theorem meaSourced_car (s : State) (g : Nat) : (s.meaSourced g).car = s.car := by
  simp [State.meaSourced, State.meaClock, foldl_car meaClockOne_car, apply_ite State.car]

theorem meaSources_car (s : State) : s.meaSources.car = s.car := foldl_car meaSourced_car s _

/-! ### Changes of durable state -/

@[simp] theorem change_car (s : State) (c : Change) (boundary : Nat) : (s.change c boundary).car = s.car := by
  simp [State.change, apply_ite State.car]

theorem recordChanges_car (before s : State) : (before.recordChanges s).car = s.car := by
  unfold State.recordChanges
  split
  · rfl
  · extract_lets classes recorded tuned described planned
    have hclasses : recorded.car = s.car := foldl_car (fun s _ => change_car s _ _) s classes
    have hdescribed : described.car = s.car := (foldl_car (fun s _ => change_car s _ _) recorded tuned).trans hclasses
    have hplanned : planned.car = s.car := by
      unfold planned
      split <;> simp [apply_ite State.car, hdescribed]
    split <;> simp [apply_ite State.car, hplanned]

/-! ### Comet -/

@[simp] theorem cmtPush_car (s : State) (b : CmtBlock) : (s.cmtPush b).car = s.car := by
  simp [State.cmtPush, apply_ite State.car]

@[simp] theorem cmtTake_car (s : State) (b : CmtBlock) : (s.cmtTake b).car = s.car := by
  simp [State.cmtTake, State.cmtLose, apply_ite State.car]

@[simp] theorem cmtWrite_car (s : State) (b : CmtBlock) : (s.cmtWrite b).car = s.car := by
  simp [State.cmtWrite, apply_ite State.car]

@[simp] theorem cmtComplete_car (s : State) (due : Nat → Bool) : (s.cmtComplete due).car = s.car := by
  unfold State.cmtComplete
  rw [foldl_car (f := fun s (p : CmtBlock × Nat) => s.cmtWrite p.1) fun s p => cmtWrite_car s p.1, State.withCmt_car]

@[simp] theorem cmtEntry_car (s : State) (type channel : Nat) (words : List Nat) (e : CmtEntry) :
    (s.cmtEntry type channel words e).car = s.car := by
  unfold State.cmtEntry
  split
  · rfl
  · extract_lets isIt
    split <;> simp [apply_ite State.car]

@[simp] theorem cmtEdge_car (s : State) (i : Nat) (level : Bool) (time frac : Nat) (tap : Bool) :
    (s.cmtEdge i level time frac tap).car = s.car := by
  simp [State.cmtEdge, apply_ite State.car]

@[simp] theorem cmtTrigger_car (s : State) : s.cmtTrigger.car = s.car := by
  unfold State.cmtTrigger
  split
  · rfl
  · split
    · rfl
    · rw [State.raise_car, State.put_car, State.withCmt_car, cmtWrite_car, cmtComplete_car, State.withCmt_car]

theorem cmtSee_car (s : State) (fine : Option Int) : (s.cmtSee fine).car = s.car := by
  unfold State.cmtSee
  split
  · exact State.withCmt_car s _
  · extract_lets old new s1 s2 s3 began s4
    have hlevels : s1.car = s.car := State.withCmt_car s _
    have hedges : s2.car = s.car :=
      ite_car hlevels ((foldl_car (fun s i => ite_car rfl (cmtEdge_car s _ _ _ _ _)) s1 _).trans hlevels)
    have hmatch : s3.car = s.car := ite_car hedges hedges
    have hbegan : s4.car = s.car := ite_car hmatch hmatch
    exact (cmtTrigger_car s4).trans hbegan

/-! ### The entry to TRIP -/

@[simp] theorem blkEnter_car (s : State) (phase : Nat) : (s.blkEnter phase).car = s.car := by
  simp [State.blkEnter, State.withRide, apply_ite State.car]

@[simp] theorem leaveState_car (s : State) : s.leaveState.car = s.car := by
  unfold State.leaveState
  split
  · simp [State.runLeave, State.rideLeave, State.withRide, State.frtBit]
  · split
    · exact foldl_car (fun s k => by simp [apply_ite State.car]) s _
    · rfl

@[simp] theorem setState_trip_car (s : State) (cause : Nat) : (s.setState stTrip cause).car = s.car := by
  have hconfig : stTrip ≠ stConfig := by decide
  simp [State.setState, State.setStateCounted, hconfig, apply_ite State.car]

@[simp] theorem setRole_car (s : State) (new cause : Nat) : (s.setRole new cause).car = s.car := by
  simp [State.setRole, apply_ite State.car]

@[simp] theorem emcy_car (s : State) (code : Nat) : (s.emcy code).car = s.car := by
  simp [State.emcy, State.canSend, apply_ite State.car]

theorem enterTrip_car (s : State) (first : Nat) : (s.enterTrip first).car = s.car := by
  simp [State.enterTrip, State.sendUrgent, apply_ite State.car]

theorem tripServe_car (s : State) : s.tripServe.car = s.car := by
  unfold State.tripServe
  split
  · split
    · exact enterTrip_car s _
    · rfl
  · simp [apply_ite State.car]

/-! ## Triggers that have fired -/

/-- The masks of a channel have no part in its triggers (R143, R144). -/
theorem carMaskOne_doneA (s : State) (j k : Nat) :
    ((s.carMaskOne j).car.channels[k]?).map (·.doneA) = (s.car.channels[k]?).map (·.doneA) := by
  unfold State.carMaskOne
  split
  · rfl
  · split
    · rw [State.setBit_car, State.setBit_car]
      refine (map_channels_withChannel (fun _ => by rfl) _ j k).trans ?_
      rw [foldl_car fun s _ => (State.raise_car _ _).trans (State.bump_car s _)]
    · rw [State.setBit_car, State.setBit_car]
      exact map_channels_withChannel (fun _ => by rfl) s j k

theorem carMasks_doneA (s : State) (k : Nat) :
    (s.carMasks.car.channels[k]?).map (·.doneA) = (s.car.channels[k]?).map (·.doneA) := by
  have hchannels : ∀ (l : List Nat) (s : State),
      ((l.foldl State.carMaskOne s).car.channels[k]?).map (·.doneA) = (s.car.channels[k]?).map (·.doneA) := by
    intro l
    induction l with
    | nil => exact fun _ => rfl
    | cons j rest ih => exact fun s => (ih (s.carMaskOne j)).trans (carMaskOne_doneA s j k)
  rw [State.carMasks, hchannels, State.setBit_car]

/-- What follows a command fires no compare trigger. -/
theorem settleAt_doneA (before s : State) (fine : Option Int) (k : Nat) :
    ((State.settleAt before s fine).car.channels[k]?).map (·.doneA) = (s.car.channels[k]?).map (·.doneA) := by
  rw [State.settleAt, State.fit_car, cmtSee_car, carMasks_doneA, dchDrive_car, tripServe_car, State.fit_car, recordChanges_car,
    meaSources_car]

end Sys2Proof.Proofs
end

section
/-!
PROOF. A compare value of 0 in a channel whose reload loaded its phase (R142, R143), and the statement about edges and triggers.
-/

namespace Sys2Proof.Proofs

open Sys2Proof Sys2Proof.Machine

/-! ## A compare value of 0 -/

/-- CMPA of 0 triggers at the reload, also where the phase is loaded: by the loaded count after the counter's start (R143). -/
theorem carCompareAt_of_zero {s : State} {k : Nat} {c : CarChannel} (hc : s.car.channels[k]? = some c)
    (hruns : s.bit (Obj.CAR_CH_STATUS k) 0 = true) (hdone : c.doneA = false) (hzero : c.cmpa = 0) (hperiod : 0 < c.period) :
    s.carCompareAt k false = some (c.start + (320 * c.loaded : Nat)) := by
  simp [State.carCompareAt, State.ofChannel, hc, hruns, hdone, hzero, hperiod]

/-- A trigger whose instant is ahead does not fire. -/
theorem exec_carrierCompareTrigger_of_ahead {s : State} {t k : Nat} {second : Bool} {inst : Int}
    (hat : (s.land t).carCompareAt k second = some inst) (hahead : (s.land t).nowFine < inst) :
    exec (.carrierCompareTrigger t k second) s = .next (State.settleAt (s.land t) (s.land t) (some inst)) := by
  show execCarrierCompareTrigger t k second s = _
  simp [execCarrierCompareTrigger, State.doneAt_eq, hat, State.reached, Int.not_le.2 hahead]

/-- A running channel with CMPA of 0 whose counter was loaded with a phase of 50 and starts now: its trigger is 50 clocks ahead. -/
def phasedChannel : CarChannel := { CarChannel.reset with start := 0, period := 100, cmpa := 0, loaded := 50 }

/-- The part at device time 0 with that channel as channel 0. -/
def phasedState : State :=
  { State.reset.put (Obj.CAR_CH_STATUS 0) 1 with car := { State.reset.car with channels := State.reset.car.channels.set 0 phasedChannel } }

/-- The trigger command at device time 0 fires nothing in `phasedState`. -/
theorem exec_phasedState :
    exec (.carrierCompareTrigger 0 0 false) phasedState =
      .next (State.settleAt (phasedState.land 0) (phasedState.land 0) (some 16000)) :=
  exec_carrierCompareTrigger_of_ahead (carCompareAt_of_zero (c := phasedChannel) rfl (by decide) rfl rfl (by decide)) (by decide)

/-- Refutes O17: its clause about compare triggers takes a value of 0 to trigger at the counter's start, but where a reload has loaded
the phase the trigger comes at the reload, the loaded count later (R143). In `phasedState` the start has been reached and the trigger
has not, so the command leaves it unfired. -/
theorem not_carrierEdgesAndTriggers : ¬ Obligations.CarrierEdgesAndTriggers := by
  intro h
  obtain ⟨-, -, -, htrigger, -⟩ := h phasedState 0 0 phasedChannel rfl (by decide)
  obtain ⟨u, hexec, hfired, -⟩ := htrigger false (by decide) rfl (by decide) (by decide)
  have hsettled := Host.Outcome.next.inj (exec_phasedState.symm.trans hexec)
  have hunfired : some false = (u.car.channels[0]?).map (·.doneA) := by
    rw [← settleAt_doneA, ← hsettled, settleAt_doneA]
    rfl
  exact absurd (hunfired.trans hfired) (by decide)

end Sys2Proof.Proofs
end

section
/-!
PROOF. Trip inputs (R188, R190) and the latch (R191): the filtered edges of ARM_EN, the soft trip, the external trip and the rails
of the I/O banks.
-/

namespace Sys2Proof.Proofs

open Sys2Proof Sys2Proof.Machine

/-! ## Trip causes -/

/-- A cause that becomes inactive changes its bit of PRT_TRIP_ACTIVE alone. -/
theorem setCause_off (s : State) (c : Nat) : s.setCause c false = s.setBit Obj.PRT_TRIP_ACTIVE c false := rfl

/-- A cause that becomes active is latched in TRIP (R189). -/
theorem setCause_on (s : State) (c : Nat) :
    s.setCause c true =
      if s.devState = stTrip then (s.setBit Obj.PRT_TRIP_ACTIVE c true).setBit Obj.PRT_TRIP_LATCHED c true
      else s.setBit Obj.PRT_TRIP_ACTIVE c true := by
  simp [State.setCause]

/-- A cause changes entries alone. -/
theorem setCause_frame (s : State) (c : Nat) (on : Bool) : s.setCause c on = { s with objs := (s.setCause c on).objs } := by
  cases on with
  | false => rfl
  | true =>
    rw [setCause_on]
    split <;> rfl

theorem onlyEntries_setCause_off (s : State) (c : Nat) {keys : List Nat} (h : Obj.PRT_TRIP_ACTIVE ∈ keys) :
    s.onlyEntries (s.setCause c false) keys :=
  onlyEntries_setBit s h c false

theorem onlyEntries_setCause (s : State) (c : Nat) (on : Bool) :
    s.onlyEntries (s.setCause c on) [Obj.PRT_TRIP_ACTIVE, Obj.PRT_TRIP_LATCHED] := by
  cases on with
  | false => exact onlyEntries_setCause_off s c (by simp)
  | true =>
    rw [setCause_on]
    split
    · exact onlyEntries_trans (onlyEntries_setBit s (by simp) _ _) (onlyEntries_setBit _ (by simp) _ _)
    · exact onlyEntries_setBit s (by simp) _ _

theorem causeActive_setCause (s : State) (c : Nat) (on : Bool) : (s.setCause c on).causeActive c = on := by
  cases on with
  | false => rw [setCause_off, State.causeActive, State.bit_setBit, if_pos rfl, if_pos rfl]
  | true =>
    rw [setCause_on, State.causeActive]
    split
    · rw [State.bit_setBit, if_neg (by decide), State.bit_setBit, if_pos rfl, if_pos rfl]
    · rw [State.bit_setBit, if_pos rfl, if_pos rfl]

/-- A relation that every step of a chain keeps holds from its begin to its end. -/
theorem foldl_related {α : Type} {R : State → State → Prop} (hrefl : ∀ s, R s s) (htrans : ∀ {a b c}, R a b → R b c → R a c)
    {f : State → α → State} (l : List α) (hf : ∀ s, ∀ x ∈ l, R s (f s x)) (s : State) : R s (l.foldl f s) := by
  induction l generalizing s with
  | nil => exact hrefl s
  | cons x rest ih =>
    exact htrans (hf s x List.mem_cons_self) (ih (fun s y hy => hf s y (List.mem_cons_of_mem _ hy)) (f s x))

/-- Causes that end change PRT_TRIP_ACTIVE alone. -/
theorem endCauses_frame (s : State) (l : List (Nat × Nat)) :
    s.onlyEntries (l.foldl (fun s e => s.setCause e.1 false) s) [Obj.PRT_TRIP_ACTIVE] ∧
      l.foldl (fun s e => s.setCause e.1 false) s = { s with objs := (l.foldl (fun s e => s.setCause e.1 false) s).objs } := by
  refine foldl_related (R := fun a b => a.onlyEntries b [Obj.PRT_TRIP_ACTIVE] ∧ b = { a with objs := b.objs })
    (fun s => ⟨fun _ _ => rfl, rfl⟩) ?_ l (fun s e _ => ⟨onlyEntries_setCause_off s e.1 (by simp), rfl⟩) s
  rintro a b c ⟨hab, hframe⟩ ⟨hbc, hframe'⟩
  refine ⟨onlyEntries_trans hab hbc, ?_⟩
  rw [hframe', hframe]

/-- An ARM_EN low interval ends the event causes before it, and leaves the others (R188). -/
theorem endEvents_frame (s : State) (t0 : Nat) :
    s.onlyEntries (s.endEvents t0) [Obj.PRT_TRIP_ACTIVE] ∧
      s.endEvents t0 =
        { s with objs := (s.endEvents t0).objs, prt := { s.prt with events := s.prt.events.filter fun e => t0 ≤ e.2 } } :=
  endCauses_frame { s with prt := { s.prt with events := s.prt.events.filter fun e => t0 ≤ e.2 } } _

/-! ## ARM_EN falls -/

/-- The input low from now on. -/
def armLowered (s : State) : State := { s with pins := { s.pins with armEn := some false, armFell := s.now } }

theorem armFall_of_high {s : State} (hhigh : s.pins.armEn = some true) :
    s.armFall = (((armLowered s).endEvents s.now).setCause causeArmEn true).raise 331 := by
  simp [State.armFall, armLowered, hhigh]

/-- What a filtered fall of ARM_EN does, and what it leaves alone (R188, R190). -/
theorem armFall_shows {s : State} (hhigh : s.pins.armEn = some true) :
    s.armFall.pins.armEn = some false ∧
      s.armFall.causeActive causeArmEn = true ∧
      s.armFall.prt.events = s.prt.events.filter (fun e => s.now ≤ e.2) ∧
      s.armFall.sourcePending 331 ∧
      s.onlyEntries s.armFall [Obj.PRT_TRIP_ACTIVE, Obj.PRT_TRIP_LATCHED] ∧
      s.armFall = { s with objs := s.armFall.objs, pins := s.armFall.pins, prt := s.armFall.prt, icu := s.armFall.icu } := by
  obtain ⟨hended, hevents⟩ := endEvents_frame (armLowered s) s.now
  rw [armFall_of_high hhigh]
  refine ⟨?low, ?active, ?events, sourcePending_raise _ _, ?others, ?frame⟩
  case low =>
    rw [State.raise_pins, setCause_frame, hevents]
    rfl
  case active => exact (State.bit_raise _ _ _ _).trans (causeActive_setCause _ _ _)
  case events =>
    rw [State.raise_prt, setCause_frame, hevents]
    rfl
  case others =>
    intro key hkey
    have hactive : key ∉ [Obj.PRT_TRIP_ACTIVE] := fun h => hkey (List.mem_cons.2 (.inl (List.mem_singleton.1 h)))
    rw [State.get_raise, onlyEntries_setCause _ _ _ key hkey, hended key hactive]
    rfl
  case frame =>
    rw [setCause_frame, hevents]
    rfl


/-! ## TRIP is cleared -/

theorem emcy_frame (s : State) (code : Nat) : s.emcy code = { s with out := (s.emcy code).out } := by
  have hsent : ∀ (s : State) (port base : Nat) (data : List Nat),
      s.canSend port base data = { s with out := (s.canSend port base data).out } := by
    intro s port base data
    rw [State.canSend]
    split <;> rfl
  rw [State.emcy, hsent _ 1, hsent _ 0]

theorem get_emcy (s : State) (code key : Nat) : (s.emcy code).get key = s.get key := by
  rw [emcy_frame]
  rfl

theorem otpStart_frame (s : State) : s.otpStart = { s with boot := s.otpStart.boot } := by
  rw [State.otpStart]
  split
  · rfl
  · split <;> rfl

theorem get_otpStart (s : State) (key : Nat) : s.otpStart.get key = s.get key := by
  rw [otpStart_frame]
  rfl

/-- A source that is pending stays so in a shared copy. -/
theorem sourcePending_kept {a b : State} {src : Nat} (hshared : src / 32 ≠ 5) (h : a.sourcePending src) (hkeep : KeepsPending a b) :
    b.sourcePending src :=
  (sourcePending_iff_of_shared b hshared).2 (hkeep _ ((sourcePending_iff_of_shared a hshared).1 h))

/-- A change of state as far as it is shown: the new state and its time, before the record (R19). -/
def stateShown (s : State) (new : Nat) : State := (s.put Obj.DEV_STATE new).put Obj.DEV_STATE_SINCE s.time32

/-- A change of state that a lifetime counter counts, with its record (R19, Table 18.4). -/
def stateLogged (s : State) (new cause counter : Nat) : State :=
  (((stateShown s new).raise 496).count counter).journalFull 496 noSubject [s.devState, new, cause] counter false false

/-- To another state than CONFIG nothing but the record and a note of the ageing unit follows. -/
theorem setStateCounted_of_ne {s : State} {new counter : Nat} (hne : s.devState ≠ new) (hconfig : new ≠ stConfig)
    (hcounter : counter ≠ 0xFF) (cause : Nat) :
    s.setStateCounted new cause counter =
      (stateLogged s new cause counter).withAge fun g => { g with runEntry := new = stRun } := by
  simp only [State.setStateCounted, hne, hconfig, hcounter, if_false]
  rfl

theorem get_stateLogged (s : State) (new cause : Nat) {counter key : Nat}
    (hcounter : isLogEntry (Obj.LOG_CNT (counter - 1)) = true) (hkey : isLogEntry key = false) :
    (stateLogged s new cause counter).get key = (stateShown s new).get key := by
  have hother : key ≠ Obj.LOG_CNT (counter - 1) := fun h => absurd (h ▸ hkey) (by simp [hcounter])
  rw [stateLogged, State.get_journalFull _ _ _ _ _ _ _ hkey, State.get_count, if_neg hother, State.get_raise]

theorem keepsPending_stateLogged (s : State) (new cause counter : Nat) : KeepsPending s (stateLogged s new cause counter) := by
  have hraised : KeepsPending s ((stateShown s new).raise 496) := keepsPending_raise (stateShown s new) 496
  exact hraised.trans (keepsPending_journalFull (((stateShown s new).raise 496).count counter) _ _ _ _ _ _)

/-- What a change of state that a lifetime counter counts does, and what it leaves alone (R19). -/
theorem setStateCounted_enters {s : State} {new counter : Nat} (hne : s.devState ≠ new) (hconfig : new ≠ stConfig)
    (hcounter : counter ≠ 0xFF) (hlogged : isLogEntry (Obj.LOG_CNT (counter - 1)) = true) (cause : Nat) :
    (s.setStateCounted new cause counter).devState = new ∧
      s.entriesBut (s.setStateCounted new cause counter) [Obj.DEV_STATE, Obj.DEV_STATE_SINCE] ∧
      KeepsPending s (s.setStateCounted new cause counter) ∧
      (s.setStateCounted new cause counter).pins = s.pins := by
  have hget : ∀ key, isLogEntry key = false → (s.setStateCounted new cause counter).get key = (stateShown s new).get key := by
    intro key hkey
    rw [setStateCounted_of_ne hne hconfig hcounter, State.get_withAge, get_stateLogged s new cause hlogged hkey]
  refine ⟨?state, fun key hlog hkey => ?others, ?pending, ?pins⟩
  case state =>
    rw [State.devState, State.getN, hget _ (by decide), stateShown, State.get_put_ne _ _ (by decide), State.get_put_same,
      Int.toNat_natCast]
  case others =>
    simp only [List.mem_cons, List.not_mem_nil, or_false, not_or] at hkey
    obtain ⟨hstate, hsince⟩ := hkey
    rw [hget key hlog, stateShown, State.get_put_ne _ _ hsince, State.get_put_ne _ _ hstate]
  case pending =>
    refine (keepsPending_stateLogged s new cause counter).trans (.of_icu ?_)
    rw [setStateCounted_of_ne hne hconfig hcounter, State.withAge_icu]
  case pins =>
    rw [setStateCounted_of_ne hne hconfig hcounter, State.withAge_pins, stateLogged, State.journalFull_pins, State.count_pins,
      State.raise_pins]
    rfl

/-- The latch of TRIP cleared, before BLOCKED is entered (R190). -/
def latchCleared (s : State) : State := ((s.put Obj.PRT_TRIP_LATCHED 0).setBit Obj.PRT_STATUS 5 false).raise 322

/-- TRIP ends in BLOCKED with nothing latched, and source 322 says so (R190). -/
theorem tripClear_clears {s : State} (htrip : s.devState = stTrip) :
    s.tripClear.devState = stBlocked ∧
      s.tripClear.get Obj.PRT_TRIP_LATCHED = 0 ∧
      s.tripClear.get Obj.PRT_TRIP_ACTIVE = s.get Obj.PRT_TRIP_ACTIVE ∧
      s.tripClear.sourcePending 322 ∧
      s.tripClear.pins = s.pins := by
  have htrip' : (latchCleared s).devState = stTrip := by
    rw [← htrip, State.devState, State.getN, latchCleared, State.get_raise, State.get_setBit, if_neg (by decide),
      State.get_put_ne _ _ (by decide)]
    rfl
  obtain ⟨hstate, hentries, hpending, hpins⟩ := setStateCounted_enters (s := latchCleared s) (new := stBlocked) (counter := 6)
    (htrip' ▸ by decide) (by decide) (by decide) (by decide) 0
  have hcleared : s.tripClear =
      (((latchCleared s).setStateCounted stBlocked 0 6).otpStart.emcy 0 |>.setBit Obj.ORB_STATUS 6 false).withOrb
        fun o => { o with silent := false } := rfl
  have hget : ∀ key, key ≠ Obj.ORB_STATUS → s.tripClear.get key = ((latchCleared s).setStateCounted stBlocked 0 6).get key := by
    intro key hkey
    rw [hcleared, State.get_withOrb, State.get_setBit, if_neg hkey, get_emcy, get_otpStart]
  refine ⟨?state, ?latched, ?active, ?pending, ?pins⟩
  case state => exact (congrArg Int.toNat (hget Obj.DEV_STATE (by decide))).trans hstate
  case latched =>
    rw [hget _ (by decide), hentries _ (by decide) (by decide), latchCleared, State.get_raise, State.get_setBit,
      if_neg (by decide), State.get_put_same]
  case active =>
    rw [hget _ (by decide), hentries _ (by decide) (by decide), latchCleared, State.get_raise, State.get_setBit,
      if_neg (by decide), State.get_put_ne _ _ (by decide)]
  case pending =>
    refine sourcePending_kept (by decide) (sourcePending_raise _ 322) (hpending.trans (.of_icu ?_))
    rw [hcleared, State.withOrb_icu, State.setBit_icu, emcy_frame, otpStart_frame]
  case pins =>
    rw [hcleared, State.withOrb_pins, State.setBit_pins, emcy_frame, otpStart_frame]
    exact hpins

/-! ## ARM_EN rises -/

/-- A filtered rise of ARM_EN before its consequence in TRIP: the cause ends, and the low time is recorded (R190). -/
def armRaised (s : State) : State :=
  ({ s with pins := { s.pins with armEn := some true } }.setCause causeArmEn false).put Obj.PRT_ARMEN_LOW_TIME
    (min ((s.now - s.pins.armFell) / 1000) 0xFFFFFFFF : Nat)

theorem onlyEntries_armRaised (s : State) : s.onlyEntries (armRaised s) [Obj.PRT_TRIP_ACTIVE, Obj.PRT_ARMEN_LOW_TIME] := by
  intro key hkey
  simp only [List.mem_cons, List.not_mem_nil, or_false, not_or] at hkey
  obtain ⟨hactive, hlow⟩ := hkey
  rw [armRaised, State.get_put_ne _ _ hlow, setCause_off, State.get_setBit, if_neg hactive]
  rfl

theorem get_armRaised_active (s : State) :
    (armRaised s).get Obj.PRT_TRIP_ACTIVE = (withBit (s.getN Obj.PRT_TRIP_ACTIVE) causeArmEn false : Nat) := by
  rw [armRaised, State.get_put_ne _ _ (by decide), setCause_off, State.get_setBit, if_pos rfl]
  rfl

theorem devState_armRaised (s : State) : (armRaised s).devState = s.devState :=
  congrArg Int.toNat (onlyEntries_armRaised s Obj.DEV_STATE (by decide))

/-- A rise that finds the conditions for clearing TRIP not met is refused: counted, raised and logged (R191). -/
def clearRefused (s : State) (low : Nat) : State :=
  ((s.bump Obj.PRT_CLEAR_REFUSED_COUNT).count 7).raise 321 |>.journalFull 321 noSubject (s.activeBytes ++ bytesOf (low / 1000) 4) 7
    false false

theorem armRise_of_low {s : State} (hlow : s.pins.armEn ≠ some true) :
    s.armRise =
      if s.devState ≠ stTrip then armRaised s
      else if 20000 ≤ s.now - s.pins.armFell ∧ withBit (s.getN Obj.PRT_TRIP_ACTIVE) causeArmEn false = 0 then
        (armRaised s).tripClear
      else clearRefused (armRaised s) (s.now - s.pins.armFell) := by
  have hexpand : s.armRise =
      if (armRaised s).devState ≠ stTrip then armRaised s
      else if 20000 ≤ s.now - s.pins.armFell && (armRaised s).get Obj.PRT_TRIP_ACTIVE = 0 then (armRaised s).tripClear
      else clearRefused (armRaised s) (s.now - s.pins.armFell) := if_neg hlow
  rw [hexpand, devState_armRaised, get_armRaised_active]
  simp

theorem armRise_outside_trip {s : State} (hlow : s.pins.armEn ≠ some true) (htrip : s.devState ≠ stTrip) :
    s.armRise = armRaised s :=
  (armRise_of_low hlow).trans (if_pos htrip)

/-- After at least 20 us and with no other cause active a rise clears TRIP (R190). -/
theorem armRise_of_clear {s : State} (hlow : s.pins.armEn ≠ some true) (htrip : s.devState = stTrip)
    (htime : s.pins.armFell + 20000 ≤ s.now) (hnone : withBit (s.getN Obj.PRT_TRIP_ACTIVE) causeArmEn false = 0) :
    s.armRise = (armRaised s).tripClear :=
  (armRise_of_low hlow).trans ((if_neg (Classical.not_not.2 htrip)).trans (if_pos ⟨by omega, hnone⟩))

/-- Too early, or with another cause active, it is refused (R191). -/
theorem armRise_of_refused {s : State} (hlow : s.pins.armEn ≠ some true) (htrip : s.devState = stTrip)
    (hwhy : s.now < s.pins.armFell + 20000 ∨ withBit (s.getN Obj.PRT_TRIP_ACTIVE) causeArmEn false ≠ 0) :
    s.armRise = clearRefused (armRaised s) (s.now - s.pins.armFell) := by
  refine (armRise_of_low hlow).trans ((if_neg (Classical.not_not.2 htrip)).trans (if_neg ?_))
  rintro ⟨hlong, hnone⟩
  rcases hwhy with hearly | hother
  · omega
  · exact hother hnone

theorem clearRefused_shows (s : State) (low : Nat) :
    (clearRefused s low).get Obj.PRT_CLEAR_REFUSED_COUNT = min (s.get Obj.PRT_CLEAR_REFUSED_COUNT + 1) 0xFFFFFFFF ∧
      (clearRefused s low).sourcePending 321 ∧
      s.entriesBut (clearRefused s low) [Obj.PRT_CLEAR_REFUSED_COUNT] ∧
      s.SameUnits (clearRefused s low) := by
  have hlogged := State.logOnly_journalFull (((s.bump Obj.PRT_CLEAR_REFUSED_COUNT).count 7).raise 321) 321 noSubject
    (s.activeBytes ++ bytesOf (low / 1000) 4) 7 false false
  obtain ⟨hentries, hunits⟩ := hlogged
  refine ⟨?counted, ?pending, fun key hlog hkey => ?others, ?frame⟩
  case counted =>
    rw [clearRefused, hentries _ (by decide), State.get_raise, State.get_count, if_neg (by decide), State.get_bump, if_pos rfl]
  case pending =>
    exact sourcePending_kept (by decide) (sourcePending_raise ((s.bump Obj.PRT_CLEAR_REFUSED_COUNT).count 7) 321)
      (keepsPending_journalFull _ _ _ _ _ _ _)
  case others =>
    have hcounter : key ≠ Obj.LOG_CNT (7 - 1) := fun h => absurd (h ▸ hlog) (by decide)
    rw [clearRefused, hentries key hlog, State.get_raise, State.get_count, if_neg hcounter, State.get_bump,
      if_neg (List.ne_of_not_mem_cons hkey)]
  case frame =>
    refine State.SameUnits.trans ?_ hunits
    rfl


/-! ## The soft trip and the external trip -/

/-- PRT_SOFT_TRIP is write-only and holds a 1 (Table 8.9). -/
theorem row_softTrip :
    ∃ row, Obj.rowOf Obj.PRT_SOFT_TRIP = some row ∧ row.access = .wo ∧ ObjType.value row.type (ObjType.bytes row.type 1) = 1 :=
  ⟨_, rfl, rfl, rfl⟩

/-- An accepted write of PRT_SOFT_TRIP raises its event cause in the state that has heard the request (R188). -/
theorem writeEntry_softTrip {s : State} {t : Nat} {f : Sender} (hwrite : s.takesWrite t f Obj.PRT_SOFT_TRIP 1 = true) :
    (s.land t).writeEntry f Obj.PRT_SOFT_TRIP 1 = (((s.land t).heard f).eventCause causeSoft).emit .done := by
  obtain ⟨row, hrow, hwo, hval⟩ := row_softTrip
  rw [writeEntry_command_of_takesWrite hrow hwo (fun _ => rfl) hval hwrite]
  rfl

/-- An event cause is listed with its time and becomes active, in TRIP latched too (R188, R189). -/
theorem eventCause_shows (s : State) (c : Nat) :
    (s.eventCause c).causeActive c = true ∧
      (c, s.now) ∈ (s.eventCause c).prt.events ∧
      s.onlyEntries (s.eventCause c) [Obj.PRT_TRIP_ACTIVE, Obj.PRT_TRIP_LATCHED] ∧
      s.eventCause c = { s with objs := (s.eventCause c).objs, prt := (s.eventCause c).prt } := by
  refine ⟨causeActive_setCause _ c true, ?listed, onlyEntries_setCause _ c true, ?frame⟩
  case listed =>
    rw [State.eventCause, setCause_frame]
    exact List.mem_concat_self
  case frame =>
    rw [State.eventCause, setCause_frame]

/-- The external trip follows its input, and leaves the input as it is (R188). -/
theorem prtExtFollow_shows (s : State) :
    s.prtExtFollow.causeActive causeExt = s.prtExt ∧
      s.prtExtFollow.prtExt = s.prtExt ∧
      (s.prtExt = true → s.causeActive causeExt = false → s.prtExtFollow.sourcePending 330) ∧
      s.onlyEntries s.prtExtFollow [Obj.PRT_TRIP_ACTIVE, Obj.PRT_TRIP_LATCHED] ∧
      s.prtExtFollow = { s with objs := s.prtExtFollow.objs, icu := s.prtExtFollow.icu } := by
  have hfollows : s.prtExtFollow =
      (if s.prtExt && !s.causeActive causeExt then s.raise 330 else s).setCause causeExt s.prtExt := rfl
  have honly : s.onlyEntries s.prtExtFollow [Obj.PRT_TRIP_ACTIVE, Obj.PRT_TRIP_LATCHED] := by
    rw [hfollows]
    refine onlyEntries_trans ?_ (onlyEntries_setCause _ _ _)
    split
    · exact onlyEntries_raise s 330 _
    · exact fun _ _ => rfl
  have hframe : s.prtExtFollow = { s with objs := s.prtExtFollow.objs, icu := s.prtExtFollow.icu } := by
    rw [hfollows, setCause_frame]
    split <;> rfl
  refine ⟨?active, ?input, fun hon hoff => ?pending, honly, hframe⟩
  case active =>
    rw [hfollows]
    exact causeActive_setCause _ _ _
  case input =>
    have hpins : s.prtExtFollow.pins = s.pins := by rw [hframe]
    rw [State.prtExt, State.getN, honly _ (by decide), bit_of_onlyEntries honly (by decide), hpins]
    rfl
  case pending =>
    have hbegins : s.prtExtFollow = (s.raise 330).setCause causeExt s.prtExt := by rw [hfollows, hon, hoff]; rfl
    refine sourcePending_kept (by decide) (sourcePending_raise s 330) (.of_icu ?_)
    rw [hbegins, setCause_frame]

theorem field_lt (v lo width : Nat) : field v lo width < 2 ^ width :=
  Nat.mod_lt _ (Nat.two_pow_pos width)

/-- A GPIO input at a level. -/
def gpioAt (s : State) (line : Nat) (level : Bool) : State :=
  { s with pins := { s.pins with gpio := withBit s.pins.gpio line level } }

theorem gpioSet_of_line {s : State} {line : Nat} (hline : line < 32) (level : Bool) :
    s.gpioSet line level = (gpioAt s line level).prtExtFollow :=
  if_pos hline

/-- What a level of a GPIO input does, and what it leaves alone (R188). -/
theorem gpioSet_shows (s : State) {line : Nat} (hline : line < 32) (level : Bool) :
    (s.gpioSet line level).pins.gpio = withBit s.pins.gpio line level ∧
      (s.gpioSet line level).causeActive causeExt = (s.gpioSet line level).prtExt ∧
      ((s.gpioSet line level).prtExt = true → s.causeActive causeExt = false → (s.gpioSet line level).sourcePending 330) ∧
      s.onlyEntries (s.gpioSet line level) [Obj.PRT_TRIP_ACTIVE, Obj.PRT_TRIP_LATCHED] ∧
      s.gpioSet line level =
        { s with objs := (s.gpioSet line level).objs, pins := (s.gpioSet line level).pins, icu := (s.gpioSet line level).icu } := by
  obtain ⟨hactive, hinput, hpending, honly, hframe⟩ := prtExtFollow_shows (gpioAt s line level)
  rw [gpioSet_of_line hline]
  refine ⟨?gpio, hactive.trans hinput.symm, fun hon => hpending (hinput.symm.trans hon), honly, ?frame⟩
  case gpio => rw [hframe]; rfl
  case frame => rw [hframe]; rfl

/-! ## The rails of the I/O banks -/

theorem exec_ioBankRailLoss_io33 (s : State) (t : Nat) (ok : Bool) :
    exec (.ioBankRailLoss t 0 ok) s =
      .next (State.settle (s.land t) { s.land t with pins := { s.pins with io33 := ok } }) := rfl

theorem exec_ioBankRailLoss_io18 (s : State) (t : Nat) (ok : Bool) :
    exec (.ioBankRailLoss t 1 ok) s =
      .next (State.settle (s.land t) { s.land t with pins := { s.pins with io18 := ok } }) := rfl

/-! ## The statement -/

/-- Settles O4: each command's effect by the lemma of its case, a rise of ARM_EN by the three branches of `armRise`. -/
theorem tripInputs : Obligations.TripInputs := by
  intro s t
  refine ⟨?fall, ?rise, ?cleared, ?refused, ?soft, ?external, ?gpio, ?rail⟩
  case fall =>
    intro hhigh
    exact ⟨(s.land t).armFall, rfl, armFall_shows (s := s.land t) hhigh⟩
  case rise =>
    intro hlow htrip
    refine ⟨(s.land t).armRise, rfl, ?_⟩
    rw [armRise_outside_trip (s := s.land t) hlow htrip]
    refine ⟨rfl, ?_, State.get_put_same _ _ _, onlyEntries_armRaised (s.land t), rfl⟩
    rw [State.causeActive, armRaised, State.bit_put, if_neg (by decide)]
    exact causeActive_setCause _ causeArmEn false
  case cleared =>
    intro hlow htrip htime hnone
    obtain ⟨hstate, hlatched, hactive, hpending, hpins⟩ :=
      tripClear_clears (s := armRaised (s.land t)) ((devState_armRaised _).trans htrip)
    refine ⟨(s.land t).armRise, rfl, ?_⟩
    rw [armRise_of_clear (s := s.land t) hlow htrip htime hnone]
    refine ⟨congrArg Pins.armEn hpins, hstate, hlatched, ?_, hpending⟩
    rw [hactive, get_armRaised_active]
    exact congrArg Int.ofNat hnone
  case refused =>
    intro hlow htrip hwhy
    obtain ⟨hcounted, hpending, hentries, hunits⟩ :=
      clearRefused_shows (armRaised (s.land t)) ((s.land t).now - (s.land t).pins.armFell)
    have honly := onlyEntries_armRaised (s.land t)
    have hstate := (hentries Obj.DEV_STATE (by decide) (by decide)).trans (honly Obj.DEV_STATE (by decide))
    refine ⟨(s.land t).armRise, rfl, ?_⟩
    rw [armRise_of_refused (s := s.land t) hlow htrip hwhy]
    refine ⟨?high, (congrArg Int.toNat hstate).trans htrip, ?latched, ?counted, hpending, fun key hlog hkey => ?others, ?frame⟩
    case high =>
      rw [hunits]
      rfl
    case latched => exact (hentries _ (by decide) (by decide)).trans (honly _ (by decide))
    case counted => rw [hcounted, honly _ (by decide), State.get_land]
    case others =>
      simp only [List.mem_cons, List.not_mem_nil, or_false, not_or] at hkey
      obtain ⟨hactive, hlow, hcount⟩ := hkey
      exact (hentries key hlog (by simpa using hcount)).trans (honly key (by simp [hactive, hlow]))
    case frame =>
      rw [hunits]
      rfl
  case soft =>
    intro f hwrite
    obtain ⟨hactive, hlisted, honly, hframe⟩ := eventCause_shows ((s.land t).heard f) causeSoft
    refine ⟨(s.land t).writeEntry f Obj.PRT_SOFT_TRIP 1, rfl, ?_⟩
    rw [writeEntry_softTrip hwrite]
    refine ⟨hactive, hlisted, ?_, honly, ?_⟩
    · rw [hframe]; rfl
    · rw [hframe]; rfl
  case external =>
    obtain ⟨hgpio, hactive, hpending, honly, hframe⟩ :=
      gpioSet_shows (s.land t) (field_lt ((s.land t).getN Obj.PRT_EXT_GPIO) 0 5) ((s.land t).bit Obj.PRT_EXT_GPIO 5)
    refine ⟨(s.land t).gpioSet _ _, rfl, ?_, hactive, hpending, honly, hframe⟩
    rw [hgpio]
    exact (bitOf_withBit _ _ _ _).trans (if_pos rfl)
  case gpio =>
    intro line level hline
    obtain ⟨hgpio, hactive, -, honly, hframe⟩ := gpioSet_shows (s.land t) hline level
    exact ⟨(s.land t).gpioSet line level, rfl, hgpio, hactive, honly, hframe⟩
  case rail =>
    intro bank ok hbank
    match bank, hbank with
    | 0, _ => exact ⟨_, exec_ioBankRailLoss_io33 s t ok, rfl, fun _ _ => rfl, rfl⟩
    | 1, _ => exact ⟨_, exec_ioBankRailLoss_io18 s t ok, rfl, fun _ _ => rfl, rfl⟩

end Sys2Proof.Proofs
end

section
/-!
PROOF. The choppers: what a channel reads after a change, what it does on its demand (R179, R181), its turn-on and turn-off (R180,
R182), what its action can change beside it, and the end of the demands behind a blind pole (R183).
-/

namespace Sys2Proof.Proofs

open Sys2Proof Sys2Proof.Machine

/-! ## A channel after a change -/

theorem choppers_withDch (s : State) (k : Nat) (g : Chopper → Chopper) :
    (s.withDch k g).prt.choppers[k]? = (s.prt.choppers[k]?).map g :=
  List.getElem?_modify_eq g k s.prt.choppers

theorem choppers_withDch_ne (s : State) {j k : Nat} (h : j ≠ k) (g : Chopper → Chopper) :
    (s.withDch j g).prt.choppers[k]? = s.prt.choppers[k]? :=
  List.getElem?_modify_ne g s.prt.choppers h

/-- What the comparator of a channel asks for. -/
def comparatorOf (s : State) (k : Nat) : Option Bool := (s.prt.choppers[k]?).map (·.comparator)

theorem comparatorOf_withDch {g : Chopper → Chopper} (hg : ∀ c, (g c).comparator = c.comparator) (s : State) (j k : Nat) :
    comparatorOf (s.withDch j g) k = comparatorOf s k := by
  rw [comparatorOf, comparatorOf]
  by_cases h : j = k
  · rw [h, choppers_withDch, Option.map_map]
    exact congrArg (Option.map · _) (funext hg)
  · rw [choppers_withDch_ne s h]

/-! ## What a channel does on its demand -/

/-- The channel turns on or off where its demand asks for it and its minimum times allow it (R179, R181). -/
def dchActed (s : State) (k : Nat) (c : Chopper) : State :=
  if !c.driven then s
  else if c.phase = 0 && s.dchDemand k c && !s.within c.offAt (s.getN (Obj.PRT_DCH_MIN_OFF k)) then s.dchTurnOn k
  else if c.phase = 3 && !s.dchDemand k c && !s.within c.onAt (s.getN (Obj.PRT_DCH_MIN_ON k)) then s.dchTurnOff k
  else s

/-- A minimum time holds the channel back. -/
def dchHeld (s : State) (k : Nat) (c : Chopper) : Bool :=
  c.driven && ((c.phase = 0 && s.dchDemand k c && s.within c.offAt (s.getN (Obj.PRT_DCH_MIN_OFF k))) ||
    (c.phase = 3 && !s.dchDemand k c && s.within c.onAt (s.getN (Obj.PRT_DCH_MIN_ON k))))

/-- A channel acts on its demand and shows itself in its status; bit 5 says that a minimum time holds it back. -/
theorem dchEval_eq {s : State} {k : Nat} {c : Chopper} (hc : s.prt.choppers[k]? = some c) :
    ∃ v, s.dchEval k = (dchActed s k c).put (Obj.PRT_DCH_STATUS k) (withBit v 5 (dchHeld s k c) : Nat) := by
  simp only [State.dchEval, hc]
  exact ⟨_, rfl⟩

theorem dchActed_of_undriven {s : State} {k : Nat} {c : Chopper} (hdriven : c.driven = false) : dchActed s k c = s := by
  simp [dchActed, hdriven]

/-- Inside a slope, and in hold while the demand stands, a channel stays. -/
theorem dchActed_of_demand {s : State} {k : Nat} {c : Chopper} (hphase : c.phase ≠ 0) (hdemand : s.dchDemand k c = true) :
    dchActed s k c = s := by
  simp [dchActed, hphase, hdemand]

/-- At rest without demand a channel stays. -/
theorem dchActed_of_rest {s : State} {k : Nat} {c : Chopper} (hphase : c.phase = 0) (hdemand : s.dchDemand k c = false) :
    dchActed s k c = s := by
  simp [dchActed, hphase, hdemand]

/-- At rest with demand a channel stays within its minimum off time (R181). -/
theorem dchActed_of_minOff {s : State} {k : Nat} {c : Chopper} (hphase : c.phase = 0)
    (hmin : s.within c.offAt (s.getN (Obj.PRT_DCH_MIN_OFF k)) = true) : dchActed s k c = s := by
  simp [dchActed, hphase, hmin]

theorem dchHeld_of_minOff {s : State} {k : Nat} {c : Chopper} (hdriven : c.driven = true) (hphase : c.phase = 0)
    (hdemand : s.dchDemand k c = true) (hmin : s.within c.offAt (s.getN (Obj.PRT_DCH_MIN_OFF k)) = true) :
    dchHeld s k c = true := by
  simp [dchHeld, hdriven, hphase, hdemand, hmin]

theorem dchActed_turnsOn {s : State} {k : Nat} {c : Chopper} (hdriven : c.driven = true) (hphase : c.phase = 0)
    (hdemand : s.dchDemand k c = true) (hmin : s.within c.offAt (s.getN (Obj.PRT_DCH_MIN_OFF k)) = false) :
    dchActed s k c = s.dchTurnOn k := by
  simp [dchActed, hdriven, hphase, hdemand, hmin]

theorem dchActed_turnsOff {s : State} {k : Nat} {c : Chopper} (hdriven : c.driven = true) (hphase : c.phase = 3)
    (hdemand : s.dchDemand k c = false) (hmin : s.within c.onAt (s.getN (Obj.PRT_DCH_MIN_ON k)) = false) :
    dchActed s k c = s.dchTurnOff k := by
  simp [dchActed, hdriven, hphase, hdemand, hmin]

theorem dchActed_cases (s : State) (k : Nat) (c : Chopper) :
    dchActed s k c = s ∨ dchActed s k c = s.dchTurnOn k ∨ dchActed s k c = s.dchTurnOff k := by
  rw [dchActed]
  split
  · exact .inl rfl
  · split
    · exact .inr (.inl rfl)
    · split
      · exact .inr (.inr rfl)
      · exact .inl rfl

/-- A channel that stays shows its status and changes nothing else. -/
theorem dchEval_of_stays {s : State} {k : Nat} {c : Chopper} (hc : s.prt.choppers[k]? = some c) (hstays : dchActed s k c = s) :
    s.onlyEntries (s.dchEval k) [Obj.PRT_DCH_STATUS k] ∧ s.dchEval k = { s with objs := (s.dchEval k).objs } ∧
      (s.dchEval k).bit (Obj.PRT_DCH_STATUS k) 5 = dchHeld s k c := by
  obtain ⟨v, heval⟩ := dchEval_eq hc
  rw [heval, hstays]
  refine ⟨fun key hkey => State.get_put_ne s _ (List.ne_of_not_mem_cons hkey), rfl, ?_⟩
  rw [State.bit_put, if_pos rfl, Int.toNat_natCast, bitOf_withBit, if_pos rfl]

/-! ## Turn-on and turn-off -/

/-- A turn-on begins with its pre-charge; it is counted and raised (R180, R181). -/
theorem dchTurnOn_begins {s : State} {k : Nat} (hk : k < 4) :
    (s.dchTurnOn k).prt = (s.withDch k fun c => { c with
        phase := 1, phaseEnd := 128 * s.now + s.dchCounts (s.getN (Obj.PRT_DCH_PRE k)), onAt := some s.now, onMark := s.now }).prt ∧
      (s.dchTurnOn k).get (Obj.PRT_DCH_ON_COUNT k) = min (s.get (Obj.PRT_DCH_ON_COUNT k) + 1) 0xFFFFFFFF ∧
      (s.dchTurnOn k).sourcePending 323 ∧
      KeepsPending s (s.dchTurnOn k) ∧
      s.entriesBut (s.dchTurnOn k) [Obj.PRT_DCH_ON_COUNT k] ∧
      s.dchTurnOn k = { s with objs := (s.dchTurnOn k).objs, prt := (s.dchTurnOn k).prt, icu := (s.dchTurnOn k).icu } := by
  have hlife : Obj.PRT_DCH_ON_COUNT k ≠ Obj.LOG_CNT (0x23 - 1) := by
    simp only [Obj.PRT_DCH_ON_COUNT, Obj.LOG_CNT]
    omega
  refine ⟨rfl, ?counted, ?pending, keepsPending_raise (s.withDch k _) 323, fun key hlog hkey => ?others, rfl⟩
  case counted =>
    rw [State.dchTurnOn, State.get_count, if_neg hlife, State.get_bump, if_pos rfl, State.get_raise, State.get_withDch]
  case pending => exact sourcePending_kept (by decide) (sourcePending_raise (s.withDch k _) 323) (.of_icu rfl)
  case others =>
    have hcounter : key ≠ Obj.LOG_CNT (0x23 - 1) := fun h => absurd (h ▸ hlog) (by decide)
    rw [State.dchTurnOn, State.get_count, if_neg hcounter, State.get_bump, if_neg (List.ne_of_not_mem_cons hkey), State.get_raise,
      State.get_withDch]

/-- On time that is counted changes its entry and the logbook's counter, and of the channel what is not counted yet. -/
theorem dchAccrue_counts (s : State) (k : Nat) :
    s.entriesBut (s.dchAccrue k) [Obj.PRT_DCH_ON_TIME k] ∧
      (∀ j, comparatorOf (s.dchAccrue k) j = comparatorOf s j) ∧
      s.dchAccrue k = { s with objs := (s.dchAccrue k).objs, prt := (s.dchAccrue k).prt } := by
  unfold State.dchAccrue
  split
  · exact ⟨fun _ _ _ => rfl, fun _ => rfl, rfl⟩
  · split
    · refine ⟨fun key hlog hkey => ?_, fun j => ?_, rfl⟩
      · have hcounter : key ≠ Obj.LOG_CNT (0x24 - 1) := fun h => absurd (h ▸ hlog) (by decide)
        rw [State.get_countBy, if_neg hcounter, State.get_add, if_neg (List.ne_of_not_mem_cons hkey), State.get_withDch]
      · exact comparatorOf_withDch (fun _ => by rfl) s k j
    · exact ⟨fun _ _ _ => rfl, fun _ => rfl, rfl⟩

/-- A turn-off begins with its slope, or ends at once where the slope has no length; it is raised (R180, R181). -/
theorem dchTurnOff_begins (s : State) (k : Nat) :
    (∀ c, s.prt.choppers[k]? = some c → ((s.dchTurnOff k).prt.choppers[k]?).map (fun x => (x.phase, x.offAt)) =
        some (if s.dchCounts (s.getN (Obj.PRT_DCH_OFF_SLOPE k)) = 0 then 0 else 4, some s.now)) ∧
      (∀ j, comparatorOf (s.dchTurnOff k) j = comparatorOf s j) ∧
      (s.dchTurnOff k).sourcePending 324 ∧
      KeepsPending s (s.dchTurnOff k) ∧
      s.entriesBut (s.dchTurnOff k) [Obj.PRT_DCH_ON_TIME k] ∧
      s.dchTurnOff k = { s with objs := (s.dchTurnOff k).objs, prt := (s.dchTurnOff k).prt, icu := (s.dchTurnOff k).icu } := by
  obtain ⟨hentries, hkept, hframe⟩ := dchAccrue_counts s k
  have hicu : (s.dchAccrue k).icu = s.icu := by rw [hframe]
  refine ⟨fun c hc => ?channel, fun j => ?comparator, sourcePending_raise _ 324, ?pending, hentries, ?frame⟩
  case channel =>
    have hsome : comparatorOf (s.dchAccrue k) k = some c.comparator := (hkept k).trans (congrArg (Option.map _) hc)
    obtain ⟨c', hc', -⟩ := Option.map_eq_some_iff.1 hsome
    rw [State.dchTurnOff, State.raise_prt, choppers_withDch, hc']
    rfl
  case comparator =>
    exact (comparatorOf_withDch (fun _ => by rfl) (s.dchAccrue k) k j).trans (hkept j)
  case pending => exact KeepsPending.trans (.of_icu hicu) (keepsPending_raise ((s.dchAccrue k).withDch k _) 324)
  case frame =>
    rw [State.dchTurnOff, hframe]
    rfl

/-! ## What a channel's action can change -/

theorem otherIndices_of_entriesBut {a b : State} {keys indices : List Nat} (h : a.entriesBut b keys)
    (hsub : ∀ key ∈ keys, key / 256 ∈ indices) : a.otherIndices b indices :=
  fun key hlog hkey => h key hlog fun hmem => hkey (hsub key hmem)

theorem otherIndices_trans {a b c : State} {indices : List Nat} (h : a.otherIndices b indices) (g : b.otherIndices c indices) :
    a.otherIndices c indices :=
  fun key hlog hkey => (g key hlog hkey).trans (h key hlog hkey)

theorem otherIndices_mono {a b : State} {changed indices : List Nat} (h : a.otherIndices b changed) (hsub : changed ⊆ indices) :
    a.otherIndices b indices :=
  fun key hlog hkey => h key hlog fun hmem => hkey (hsub hmem)

/-- A change of status, counts and channels of the choppers that leaves every other unit alone; no pending source is lost. -/
structure ChopperChange (a b : State) : Prop where
  others : a.otherIndices b [0x2719, 0x271A, 0x271B]
  pending : KeepsPending a b
  frame : b = { a with objs := b.objs, prt := b.prt, icu := b.icu }

theorem ChopperChange.refl (s : State) : ChopperChange s s := ⟨fun _ _ _ => rfl, fun _ hp => hp, rfl⟩

theorem ChopperChange.trans {a b c : State} (h : ChopperChange a b) (g : ChopperChange b c) : ChopperChange a c := by
  refine ⟨otherIndices_trans h.others g.others, h.pending.trans g.pending, ?_⟩
  rw [g.frame, h.frame]

theorem chopperChange_withDch (s : State) (k : Nat) (g : Chopper → Chopper) : ChopperChange s (s.withDch k g) :=
  ⟨fun _ _ _ => rfl, .of_icu rfl, rfl⟩

theorem chopperChange_put_status (s : State) {k : Nat} (hk : k < 4) (v : Int) :
    ChopperChange s (s.put (Obj.PRT_DCH_STATUS k) v) := by
  refine ⟨fun key _ hkey => State.get_put_ne s v ?_, .of_icu rfl, rfl⟩
  rintro rfl
  refine hkey ?_
  have hindex : Obj.PRT_DCH_STATUS k / 256 = 0x2719 := by simp only [Obj.PRT_DCH_STATUS]; omega
  simp [hindex]

theorem chopperChange_turnOn (s : State) {k : Nat} (hk : k < 4) : ChopperChange s (s.dchTurnOn k) := by
  obtain ⟨-, -, -, hpending, hentries, hframe⟩ := dchTurnOn_begins (s := s) hk
  have hindex : Obj.PRT_DCH_ON_COUNT k / 256 = 0x271A := by simp only [Obj.PRT_DCH_ON_COUNT]; omega
  exact ⟨otherIndices_of_entriesBut hentries (by simp [hindex]), hpending, hframe⟩

theorem chopperChange_turnOff (s : State) {k : Nat} (hk : k < 4) : ChopperChange s (s.dchTurnOff k) := by
  obtain ⟨-, -, -, hpending, hentries, hframe⟩ := dchTurnOff_begins s k
  have hindex : Obj.PRT_DCH_ON_TIME k / 256 = 0x271B := by simp only [Obj.PRT_DCH_ON_TIME]; omega
  exact ⟨otherIndices_of_entriesBut hentries (by simp [hindex]), hpending, hframe⟩

theorem comparatorOf_turnOn (s : State) (k j : Nat) : comparatorOf (s.dchTurnOn k) j = comparatorOf s j :=
  comparatorOf_withDch (fun _ => by rfl) s k j

/-- A channel's action leaves every comparator as it is. -/
theorem dchEval_changes (s : State) {k : Nat} (hk : k < 4) :
    ChopperChange s (s.dchEval k) ∧ ∀ j, comparatorOf (s.dchEval k) j = comparatorOf s j := by
  cases hc : s.prt.choppers[k]? with
  | none =>
    have hstays : s.dchEval k = s := by simp only [State.dchEval, hc]
    rw [hstays]
    exact ⟨.refl s, fun _ => rfl⟩
  | some c =>
    obtain ⟨v, heval⟩ := dchEval_eq hc
    have hshown : ∀ a, ChopperChange s a → ChopperChange s (a.put (Obj.PRT_DCH_STATUS k) (withBit v 5 (dchHeld s k c) : Nat)) :=
      fun a h => h.trans (chopperChange_put_status a hk _)
    rw [heval]
    rcases dchActed_cases s k c with hacted | hacted | hacted
    · rw [hacted]
      exact ⟨hshown s (.refl s), fun _ => rfl⟩
    · rw [hacted]
      exact ⟨hshown _ (chopperChange_turnOn s hk), comparatorOf_turnOn s k⟩
    · rw [hacted]
      obtain ⟨-, hkept, -⟩ := dchTurnOff_begins s k
      exact ⟨hshown _ (chopperChange_turnOff s hk), hkept⟩

/-! ## A blind pole -/

/-- The demand of a channel's comparator ends, and the channel acts on it (R183). -/
def demandEnded (s : State) (k : Nat) : State := (s.withDch k fun c => { c with comparator := false }).dchEval k

theorem demandEnded_changes (s : State) {k : Nat} (hk : k < 4) : ChopperChange s (demandEnded s k) :=
  (chopperChange_withDch s k _).trans (dchEval_changes _ hk).1

theorem comparatorOf_demandEnded (s : State) {j : Nat} (hj : j < 4) (k : Nat) :
    comparatorOf (demandEnded s j) k = if j = k then (comparatorOf s k).map fun _ => false else comparatorOf s k := by
  rw [demandEnded, (dchEval_changes _ hj).2, comparatorOf]
  split
  next h =>
    rw [h, choppers_withDch, comparatorOf, Option.map_map, Option.map_map]
    rfl
  next h => rw [choppers_withDch_ne s h, comparatorOf]

theorem comparatorOf_demandsEnded {l : List Nat} (hl : ∀ j ∈ l, j < 4) (s : State) (k : Nat) :
    comparatorOf (l.foldl demandEnded s) k = if k ∈ l then (comparatorOf s k).map fun _ => false else comparatorOf s k := by
  induction l generalizing s with
  | nil => simp
  | cons j rest ih =>
    rw [List.foldl_cons, ih (fun i hi => hl i (List.mem_cons_of_mem _ hi)), comparatorOf_demandEnded s (hl j List.mem_cons_self)]
    by_cases hjk : j = k
    · subst hjk
      by_cases hmem : j ∈ rest <;> simp [hmem]
    · have hkj : k ≠ j := fun h => hjk h.symm
      simp [hjk, hkj]

/-- The enabled channels whose quantity depends on a pole. -/
def channelsBehind (s : State) (neg : Bool) : List Nat := (List.range 4).filter fun k => s.dchEnabled k && s.dchBehind neg k

/-- A pole has been invalid for PRT_BLIND_MAX. -/
def blindTripped (s : State) (neg : Bool) : State :=
  { s with prt := { s.prt with blindTrip := withBit s.prt.blindTrip (if neg then 1 else 0) true } }

theorem prtBlindExpiry_of_passed {s : State} {neg : Bool} {b : Nat}
    (hblind : (if neg then s.prt.blindNeg else s.prt.blindPos) = some b) (hpassed : b + 1000 * s.getN Obj.PRT_BLIND_MAX ≤ s.now)
    (hbehind : ((List.range 4).any fun k => s.dchEnabled k && s.dchBehind neg k) = true) :
    s.prtBlindExpiry neg = (blindTripped ((channelsBehind s neg).foldl demandEnded s) neg).setCause causeBlind true := by
  have hsome : (channelsBehind s neg).isEmpty = false := by
    obtain ⟨k, hk, henabled⟩ := List.any_eq_true.1 hbehind
    exact List.isEmpty_eq_false_iff_exists_mem.2 ⟨k, List.mem_filter.2 ⟨hk, henabled⟩⟩
  have hexpand : s.prtBlindExpiry neg =
      if s.now < b + 1000 * s.getN Obj.PRT_BLIND_MAX then s
      else if (channelsBehind s neg).isEmpty then s
      else (blindTripped ((channelsBehind s neg).foldl demandEnded s) neg).setCause causeBlind true := by
    simp only [State.prtBlindExpiry, hblind]
    rfl
  rw [hexpand, if_neg (Nat.not_lt.2 hpassed), hsome]
  rfl

/-- What PRT_BLIND_MAX of an invalid pole does, and what it leaves alone (R183). -/
theorem prtBlindExpiry_trips {s : State} {neg : Bool} {b : Nat}
    (hblind : (if neg then s.prt.blindNeg else s.prt.blindPos) = some b) (hpassed : b + 1000 * s.getN Obj.PRT_BLIND_MAX ≤ s.now)
    (hbehind : ((List.range 4).any fun k => s.dchEnabled k && s.dchBehind neg k) = true) :
    (s.prtBlindExpiry neg).causeActive causeBlind = true ∧
      (∀ k ∈ channelsBehind s neg, comparatorOf (s.prtBlindExpiry neg) k = (comparatorOf s k).map fun _ => false) ∧
      s.otherIndices (s.prtBlindExpiry neg) [0x2700, 0x2719, 0x271A, 0x271B] ∧
      s.prtBlindExpiry neg =
        { s with objs := (s.prtBlindExpiry neg).objs, prt := (s.prtBlindExpiry neg).prt, icu := (s.prtBlindExpiry neg).icu } := by
  have hbelow : ∀ k ∈ channelsBehind s neg, k < 4 := fun k hk => List.mem_range.1 (List.mem_filter.1 hk).1
  obtain ⟨hothers, -, hframe⟩ : ChopperChange s ((channelsBehind s neg).foldl demandEnded s) :=
    foldl_related .refl .trans _ (fun s k hk => demandEnded_changes s (hbelow k hk)) s
  have hended := comparatorOf_demandsEnded hbelow s
  rw [prtBlindExpiry_of_passed hblind hpassed hbehind]
  refine ⟨causeActive_setCause _ _ _, fun k hk => ?comparator, fun key hlog hkey => ?others, ?frame⟩
  case comparator =>
    rw [setCause_frame]
    exact (hended k).trans (if_pos hk)
  case others =>
    have hactive : key ∉ [Obj.PRT_TRIP_ACTIVE, Obj.PRT_TRIP_LATCHED] := by
      intro h
      simp only [List.mem_cons, List.not_mem_nil, or_false] at h
      rcases h with rfl | rfl <;> exact hkey (by decide)
    rw [onlyEntries_setCause _ _ _ key hactive]
    exact hothers key hlog fun h => hkey (List.mem_cons_of_mem _ h)
  case frame =>
    rw [setCause_frame, blindTripped, hframe]

end Sys2Proof.Proofs
end

section
/-!
PROOF. The phases of a chopper (R180), FORCE and the peaks as their commands make them (R176, R184), and the statement about
choppers and peaks.
-/

namespace Sys2Proof.Proofs

open Sys2Proof Sys2Proof.Machine

/-! ## The end of a phase -/

/-- In hold the pins of a driven channel show it while their rail stands (Tables 8.1, 8.2). -/
theorem dchPins_of_hold {s : State} {k : Nat} {c : Chopper} (hc : s.prt.choppers[k]? = some c) (hdriven : c.driven = true)
    (hphase : c.phase = 3) : s.dchPins k = (s.pins.io33, false) := by
  cases hrail : s.pins.io33 <;> simp [State.dchPins, hc, hdriven, hphase, hrail]

/-- Off, the pins of a channel are low. -/
theorem dchPins_of_off {s : State} {k : Nat} {c : Chopper} (hc : s.prt.choppers[k]? = some c) (hphase : c.phase = 0) :
    s.dchPins k = (false, false) := by
  simp [State.dchPins, hc, hphase]

/-- Pre-charge ends in the slope, or in hold where the slope has no length (R180). -/
def prechargeEnded (s : State) (k : Nat) (c : Chopper) : Chopper :=
  { c with
    phase := if s.dchCounts (s.getN (Obj.PRT_DCH_SLOPE k)) = 0 then 3 else 2
    phaseEnd := c.phaseEnd + s.dchCounts (s.getN (Obj.PRT_DCH_SLOPE k)) }

theorem dchPhaseEnd_of_precharge {s : State} {k : Nat} {c : Chopper} (hc : s.prt.choppers[k]? = some c) (hphase : c.phase = 1)
    (hdue : c.phaseEnd ≤ 128 * s.now + 127) :
    s.dchPhaseEnd k = (s.withDch k (prechargeEnded s k)).dchEval k := by
  simp only [State.dchPhaseEnd, hc, hphase, Nat.not_lt.2 hdue]
  rfl

theorem phase_prechargeEnded_ne_zero (s : State) (k : Nat) (c : Chopper) : (prechargeEnded s k c).phase ≠ 0 := by
  simp only [prechargeEnded]
  split <;> simp

theorem dchPhaseEnd_of_slope {s : State} {k : Nat} {c : Chopper} (hc : s.prt.choppers[k]? = some c) (hphase : c.phase = 2)
    (hdue : c.phaseEnd ≤ 128 * s.now + 127) :
    s.dchPhaseEnd k = (s.withDch k fun c => { c with phase := 3 }).dchEval k := by
  simp [State.dchPhaseEnd, hc, hphase, Nat.not_lt.2 hdue]

theorem dchPhaseEnd_of_offSlope {s : State} {k : Nat} {c : Chopper} (hc : s.prt.choppers[k]? = some c) (hphase : c.phase = 4)
    (hdue : c.phaseEnd ≤ 128 * s.now + 127) :
    s.dchPhaseEnd k = (s.withDch k fun c => { c with phase := 0 }).dchEval k := by
  simp [State.dchPhaseEnd, hc, hphase, Nat.not_lt.2 hdue]

/-- A channel that takes a phase and then stays shows its status and changes nothing else. -/
theorem dchEval_withDch_of_stays {s : State} {k : Nat} {c : Chopper} (hc : s.prt.choppers[k]? = some c) {g : Chopper → Chopper}
    (hstays : dchActed (s.withDch k g) k (g c) = s.withDch k g) :
    ((s.withDch k g).dchEval k).prt.choppers[k]? = some (g c) ∧
      s.onlyEntries ((s.withDch k g).dchEval k) [Obj.PRT_DCH_STATUS k] ∧
      ((s.withDch k g).dchEval k).pins = s.pins ∧
      (s.withDch k g).dchEval k =
        { s with objs := ((s.withDch k g).dchEval k).objs, prt := ((s.withDch k g).dchEval k).prt } := by
  have hg : (s.withDch k g).prt.choppers[k]? = some (g c) := by rw [choppers_withDch, hc, Option.map_some]
  obtain ⟨honly, hframe, -⟩ := dchEval_of_stays hg hstays
  refine ⟨?_, honly, ?_, ?_⟩
  · rw [hframe]
    exact hg
  · rw [hframe]
    rfl
  · rw [hframe]
    rfl

/-! ## A channel that turns on or off -/

theorem dchEval_turnsOn {s : State} {k : Nat} {c : Chopper} (hk : k < 4) (hc : s.prt.choppers[k]? = some c)
    (hdriven : c.driven = true) (hphase : c.phase = 0) (hdemand : s.dchDemand k c = true)
    (hmin : s.within c.offAt (s.getN (Obj.PRT_DCH_MIN_OFF k)) = false) :
    ((s.dchEval k).prt.choppers[k]?).map (fun x => (x.phase, x.onAt, x.phaseEnd)) =
        some (1, some s.now, 128 * s.now + s.dchCounts (s.getN (Obj.PRT_DCH_PRE k))) ∧
      (s.dchEval k).get (Obj.PRT_DCH_ON_COUNT k) = min (s.get (Obj.PRT_DCH_ON_COUNT k) + 1) 0xFFFFFFFF ∧
      (s.dchEval k).sourcePending 323 ∧
      s.entriesBut (s.dchEval k) [Obj.PRT_DCH_STATUS k, Obj.PRT_DCH_ON_COUNT k] ∧
      s.dchEval k = { s with objs := (s.dchEval k).objs, prt := (s.dchEval k).prt, icu := (s.dchEval k).icu } := by
  obtain ⟨v, heval⟩ := dchEval_eq hc
  obtain ⟨hprt, hcounted, hpending, -, hentries, hframe⟩ := dchTurnOn_begins (s := s) hk
  have hother : Obj.PRT_DCH_ON_COUNT k ≠ Obj.PRT_DCH_STATUS k := by
    simp only [Obj.PRT_DCH_ON_COUNT, Obj.PRT_DCH_STATUS]
    omega
  rw [heval, dchActed_turnsOn hdriven hphase hdemand hmin]
  refine ⟨?channel, ?counted, ?pending, fun key hlog hkey => ?others, ?frame⟩
  case channel =>
    rw [State.put_prt, hprt, choppers_withDch, hc]
    rfl
  case counted => rw [State.get_put_ne _ _ hother, hcounted]
  case pending => exact sourcePending_kept (by decide) hpending (.of_icu rfl)
  case others =>
    rw [State.get_put_ne _ _ (List.ne_of_not_mem_cons hkey), hentries key hlog (List.not_mem_of_not_mem_cons hkey)]
  case frame => exact congrArg (fun u : State => u.put (Obj.PRT_DCH_STATUS k) _) hframe

theorem dchEval_turnsOff {s : State} {k : Nat} {c : Chopper} (hc : s.prt.choppers[k]? = some c) (hdriven : c.driven = true)
    (hphase : c.phase = 3) (hdemand : s.dchDemand k c = false)
    (hmin : s.within c.onAt (s.getN (Obj.PRT_DCH_MIN_ON k)) = false) :
    ((s.dchEval k).prt.choppers[k]?).map (fun x => (x.phase, x.offAt)) =
        some (if s.dchCounts (s.getN (Obj.PRT_DCH_OFF_SLOPE k)) = 0 then 0 else 4, some s.now) ∧
      (s.dchEval k).sourcePending 324 ∧
      s.entriesBut (s.dchEval k) [Obj.PRT_DCH_STATUS k, Obj.PRT_DCH_ON_TIME k] ∧
      s.dchEval k = { s with objs := (s.dchEval k).objs, prt := (s.dchEval k).prt, icu := (s.dchEval k).icu } := by
  obtain ⟨v, heval⟩ := dchEval_eq hc
  obtain ⟨hchannel, -, hpending, -, hentries, hframe⟩ := dchTurnOff_begins s k
  rw [heval, dchActed_turnsOff hdriven hphase hdemand hmin]
  refine ⟨hchannel c hc, ?pending, fun key hlog hkey => ?others, ?frame⟩
  case pending => exact sourcePending_kept (by decide) hpending (.of_icu rfl)
  case others =>
    rw [State.get_put_ne _ _ (List.ne_of_not_mem_cons hkey), hentries key hlog (List.not_mem_of_not_mem_cons hkey)]
  case frame => exact congrArg (fun u : State => u.put (Obj.PRT_DCH_STATUS k) _) hframe

/-! ## FORCE -/

/-- In a chain of refusals, a write that none of them meets does not meet those after the first. -/
theorem later_of_not_refused {p : Prop} [Decidable p] {r : Refused} {later : Option Refused}
    (h : (if p then some r else later) = none) : later = none := by
  by_cases hp : p
  · rw [if_pos hp] at h
    nomatch h
  · rwa [if_neg hp] at h

theorem condition_of_judgeState {s : State} {f : Sender} {row : ObjRow} {key : Nat} {v : Int} {data : List Nat}
    {img : Option DictImage} (h : s.judgeState f row key v data img = none) :
    s.condition f key (ObjRow.masked row v) data img = none := by
  rw [State.judgeState] at h
  have hmirrored := later_of_not_refused h
  have hstate := later_of_not_refused hmirrored
  have hvalue := later_of_not_refused hstate
  exact later_of_not_refused hvalue

theorem judgeState_of_judgeWrite {s : State} {f : Sender} {route : Route} {index sub length : Nat} {data : List Nat}
    {img : Option DictImage} {row : ObjRow} (hfind : Obj.find? index sub = some row)
    (h : s.judgeWrite f route index sub length data img = none) :
    s.judgeState f row (256 * index + sub) (ObjType.value row.type data) data img = none := by
  rw [State.judgeWrite, hfind] at h
  have haccess := later_of_not_refused h
  have hlength := later_of_not_refused haccess
  dsimp only at hlength
  cases hrefused : lengthRefused row (256 * index + sub) length with
  | some r =>
    rw [hrefused] at hlength
    nomatch hlength
  | none =>
    rw [hrefused] at hlength
    exact later_of_not_refused hlength

/-- The entry's own rule has nothing against an accepted write (Table 17.2). -/
theorem condition_of_takesWrite {s : State} {t : Nat} {f : Sender} {key : Nat} {v : Int} {row : ObjRow}
    (hrow : Obj.rowOf key = some row) (hwrite : s.takesWrite t f key v = true) :
    ((s.land t).heard f).condition f key (ObjRow.masked row (ObjType.value row.type (ObjType.bytes row.type v)))
      (ObjType.bytes row.type v) none = none := by
  have hfind : Obj.find? (key / 256) (key % 256) = some row := hrow
  simp only [State.takesWrite, hrow, Bool.and_eq_true, Option.isNone_iff_eq_none] at hwrite
  obtain ⟨⟨-, hjudge⟩, -⟩ := hwrite
  have hstate := judgeState_of_judgeWrite hfind hjudge
  rw [Nat.div_add_mod] at hstate
  exact condition_of_judgeState hstate

/-- PRT_DCH_CTRL is read-write and keeps bit 3 of what is written to it (Table 8.11). -/
theorem row_dchCtrl {k : Nat} (hk : k < 4) :
    ∃ row, Obj.rowOf (Obj.PRT_DCH_CTRL k) = some row ∧ row.access = .rw ∧
      ∀ v : Nat, bitOf v 3 = true →
        bitOf (ObjRow.masked row (ObjType.value row.type (ObjType.bytes row.type v))).toNat 3 = true := by
  have htable : ∀ k < 4, (Obj.rowOf (Obj.PRT_DCH_CTRL k)).map (fun r => (r.access, r.type, r.mask)) = some (.rw, .u8, 0xF) := by
    decide
  obtain ⟨row, hrow, hcolumns⟩ := Option.map_eq_some_iff.1 (htable k hk)
  simp only [Prod.mk.injEq] at hcolumns
  obtain ⟨hrw, htype, hmask⟩ := hcolumns
  refine ⟨row, hrow, hrw, fun v hv => ?_⟩
  have hvalue : ObjType.value .u8 (ObjType.bytes .u8 v) = (v % 256 : Nat) := by
    show ((ofBytes (bytesOf (unsigned 8 v) 1) : Nat) : Int) = _
    have hbits : unsigned 8 (v : Int) = v % 256 := by simp only [unsigned]; omega
    rw [hbits, ofBytes_bytesOf (by omega)]
  have hmasked : (v % 256 &&& 0xF).testBit 3 = v.testBit 3 := by
    have hmask3 : Nat.testBit 0xF 3 = true := by decide
    rw [Nat.testBit_and, Nat.testBit_mod_two_pow v 8 3, hmask3]
    simp
  rw [ObjRow.masked, htype, hmask, hvalue]
  exact hmasked.trans hv

theorem condition_dchCtrl (s : State) (f : Sender) {k : Nat} (hk : k < 4) (v : Int) (data : List Nat) :
    s.condition f (Obj.PRT_DCH_CTRL k) v data none =
      if !bitOf v.toNat 3 || s.bit (Obj.PRT_DCH_CTRL k) 3 || bitOf v.toNat 0 then none else some ⟨abState, 8⟩ := by
  match k, hk with
  | 0, _ | 1, _ | 2, _ | 3, _ => rfl

theorem answersLater_dchCtrl {k : Nat} (hk : k < 4) : ∀ w, answersLater (Obj.PRT_DCH_CTRL k) w = false := by
  match k, hk with
  | 0, _ | 1, _ | 2, _ | 3, _ => exact fun _ => rfl

/-- FORCE set in an enabled channel is raised, and the channel acts on it (R184). -/
theorem setEntry_force {s : State} {k : Nat} (hk : k < 4) {v : Int} (hforce : bitOf v.toNat 3 = true)
    (henabled : bitOf v.toNat 0 = true) (hoff : s.bit (Obj.PRT_DCH_CTRL k) 3 = false) :
    s.setEntry (Obj.PRT_DCH_CTRL k) v = ((s.raise 329).put (Obj.PRT_DCH_CTRL k) v).dchEval k := by
  have hset : s.setEntry (Obj.PRT_DCH_CTRL k) v =
      ((if bitOf v.toNat 3 && !s.bit (Obj.PRT_DCH_CTRL k) 3 then s.raise 329 else s).put (Obj.PRT_DCH_CTRL k) v).configureUnit
        (Obj.PRT_DCH_CTRL k) v := by
    match k, hk with
    | 0, _ | 1, _ | 2, _ | 3, _ => rfl
  have hconfigure : ∀ a : State, a.dchEnabled k = true → a.configureUnit (Obj.PRT_DCH_CTRL k) v = a.dchEval k := by
    intro a ha
    have hexpand : a.configureUnit (Obj.PRT_DCH_CTRL k) v =
        (if !a.dchEnabled k && a.bit (Obj.PRT_DCH_CTRL k) 3 then a.setBit (Obj.PRT_DCH_CTRL k) 3 false else a).dchEval k := by
      match k, hk with
      | 0, _ | 1, _ | 2, _ | 3, _ => rfl
    rw [hexpand, ha]
    rfl
  rw [hset, hforce, hoff]
  refine hconfigure _ ?_
  rw [State.dchEnabled, State.bit_put, if_pos rfl, henabled]

/-- FORCE with the bits that stand in PRT_DCH_CTRL, in an enabled channel: raised, taken, and acted on. -/
def forced (s : State) (k : Nat) (v : Int) : State := ((s.raise 329).put (Obj.PRT_DCH_CTRL k) v).dchEval k

theorem forced_shows (s : State) {k : Nat} (hk : k < 4) {v : Int} (hforce : bitOf v.toNat 3 = true) :
    (forced s k v).bit (Obj.PRT_DCH_CTRL k) 3 = true ∧
      (forced s k v).sourcePending 329 ∧
      s.otherIndices (forced s k v) [0x2711, 0x2719, 0x271A, 0x271B] ∧
      forced s k v = { s with objs := (forced s k v).objs, prt := (forced s k v).prt, icu := (forced s k v).icu } := by
  obtain ⟨hothers, hpending, hframe⟩ := (dchEval_changes ((s.raise 329).put (Obj.PRT_DCH_CTRL k) v) hk).1
  have hindex : Obj.PRT_DCH_CTRL k / 256 = 0x2711 := by simp only [Obj.PRT_DCH_CTRL]; omega
  have hlog : isLogEntry (Obj.PRT_DCH_CTRL k) = false := by
    simp only [isLogEntry, Obj.PRT_DCH_CTRL, Bool.and_eq_false_iff, decide_eq_false_iff_not]
    omega
  refine ⟨?force, ?pending, fun key hkey hother => ?others, ?frame⟩
  case force =>
    rw [State.bit, State.getN, forced, hothers _ hlog (by simp [hindex]), State.get_put_same]
    exact hforce
  case pending =>
    exact sourcePending_kept (by decide) (sourcePending_raise s 329) (KeepsPending.trans (.of_icu rfl) hpending)
  case others =>
    have hne : key ≠ Obj.PRT_DCH_CTRL k := fun h => hother (by rw [h, hindex]; exact List.mem_cons_self)
    rw [forced, hothers key hkey fun h => hother (List.mem_cons_of_mem _ h), State.get_put_ne _ _ hne, State.get_raise]
  case frame =>
    rw [forced, hframe]
    rfl

/-- An accepted write of FORCE beside the bits that stand goes to an enabled channel, and is carried out in the state that has heard
the request (R184). -/
theorem writeEntry_force {s : State} {t : Nat} {f : Sender} {k : Nat} (hk : k < 4)
    (hwrite : s.takesWrite t f (Obj.PRT_DCH_CTRL k) (withBit (s.getN (Obj.PRT_DCH_CTRL k)) 3 true : Nat) = true)
    (hoff : s.bit (Obj.PRT_DCH_CTRL k) 3 = false) :
    ∃ v, bitOf v.toNat 3 = true ∧
      (s.land t).writeEntry f (Obj.PRT_DCH_CTRL k) (withBit (s.getN (Obj.PRT_DCH_CTRL k)) 3 true : Nat) =
        ((forced ((s.land t).heard f) k v).withDict fun d => { d with live := true }).emit .done := by
  obtain ⟨row, hrow, hrw, hkept⟩ := row_dchCtrl hk
  have hforce := hkept _ ((bitOf_withBit (s.getN (Obj.PRT_DCH_CTRL k)) 3 3 true).trans (if_pos rfl))
  have hcondition := condition_of_takesWrite hrow hwrite
  have hoff' : ((s.land t).heard f).bit (Obj.PRT_DCH_CTRL k) 3 = false := hoff
  rw [condition_dchCtrl _ _ hk, hforce, hoff'] at hcondition
  refine ⟨_, hforce, ?_⟩
  rw [writeEntry_of_takesWrite hrow hrw (answersLater_dchCtrl hk) hwrite, State.commitEntry,
    setEntry_force hk hforce (by simpa using hcondition) hoff']
  rfl

theorem exec_dchForceSet_of_channel {s : State} (t : Nat) (f : Sender) {k : Nat} (hk : k < 4) :
    exec (.dchForceSet t f k) s = .next (State.settle (s.land t)
      ((s.land t).writeEntry f (Obj.PRT_DCH_CTRL k) (withBit (s.getN (Obj.PRT_DCH_CTRL k)) 3 true : Nat))) := by
  show execDchForceSet t f k s = _
  rw [execDchForceSet, State.done_eq, if_neg (Nat.not_le.2 hk), State.getN_land]

/-! ## The peaks -/

/-- PRT_OV_PEAK_CLEAR is write-only and holds a 1 (Table 8.11). -/
theorem row_ovPeakClear :
    ∃ row, Obj.rowOf Obj.PRT_OV_PEAK_CLEAR = some row ∧ row.access = .wo ∧
      ObjType.value row.type (ObjType.bytes row.type 1) = 1 :=
  ⟨_, rfl, rfl, rfl⟩

/-- The three peaks cleared (R176). -/
def peaksCleared (s : State) : State := ((s.put (Obj.PRT_OV_PEAK 0) 0).put (Obj.PRT_OV_PEAK 1) 0).put (Obj.PRT_OV_PEAK 2) 0

theorem get_peaksCleared (s : State) (key : Nat) :
    (peaksCleared s).get key = if key ∈ [Obj.PRT_OV_PEAK 0, Obj.PRT_OV_PEAK 1, Obj.PRT_OV_PEAK 2] then 0 else s.get key := by
  simp only [peaksCleared, State.get_put, List.mem_cons, List.not_mem_nil, or_false]
  grind

theorem writeEntry_ovPeakClear {s : State} {t : Nat} {f : Sender} (hwrite : s.takesWrite t f Obj.PRT_OV_PEAK_CLEAR 1 = true) :
    (s.land t).writeEntry f Obj.PRT_OV_PEAK_CLEAR 1 = (peaksCleared ((s.land t).heard f)).emit .done := by
  obtain ⟨row, hrow, hwo, hval⟩ := row_ovPeakClear
  rw [writeEntry_command_of_takesWrite hrow hwo (fun _ => rfl) hval hwrite]
  rfl

/-! ## The statement -/

/-- Settles O33: the phases by what a channel does on its demand, the blind poles, FORCE and the peaks by the lemma of each. -/
theorem choppersAndPeaks : Obligations.ChoppersAndPeaks := by
  intro s t
  refine ⟨?precharge, ?slope, ?turnOff, ?offSlope, ?turnOn, ?minOff, ?blind, ?force, ?peaks⟩
  case precharge =>
    intro k c n hk hc hdriven hphase hdue hdemand hn
    refine ⟨(s.land t).dchPhaseEnd k, rfl, ?_⟩
    rw [dchPhaseEnd_of_precharge (s := s.land t) hc hphase hdue]
    obtain ⟨hchannel, honly, -, hframe⟩ :=
      dchEval_withDch_of_stays (s := s.land t) hc (g := prechargeEnded (s.land t) k)
        (dchActed_of_demand (phase_prechargeEnded_ne_zero _ _ _) hdemand)
    refine ⟨?_, honly, hframe⟩
    rw [hchannel, ← hn]
    rfl
  case slope =>
    intro k c hk hc hdriven hphase hdue hdemand
    refine ⟨(s.land t).dchPhaseEnd k, rfl, ?_⟩
    rw [dchPhaseEnd_of_slope (s := s.land t) hc hphase hdue]
    obtain ⟨hchannel, honly, hpins, hframe⟩ :=
      dchEval_withDch_of_stays (s := s.land t) hc (g := fun c => { c with phase := 3 })
        (dchActed_of_demand (by simp) hdemand)
    refine ⟨?_, ?_, honly, hframe⟩
    · rw [hchannel]
      rfl
    · rw [dchPins_of_hold hchannel hdriven rfl, hpins]
      rfl
  case turnOff =>
    intro k c n hk hc hdriven hphase hdue hdemand hmin hn
    refine ⟨(s.land t).dchPhaseEnd k, rfl, ?_⟩
    rw [dchPhaseEnd_of_slope (s := s.land t) hc hphase hdue]
    obtain ⟨hchannel, hpending, hothers, hframe⟩ :=
      dchEval_turnsOff (s := (s.land t).withDch k fun c => { c with phase := 3 }) (c := { c with phase := 3 })
        (by rw [choppers_withDch, State.land_prt, hc, Option.map_some]) hdriven rfl hdemand hmin
    refine ⟨?_, hpending, hothers, ?_⟩
    · rw [hchannel, ← hn]
      rfl
    · rw [hframe]
      rfl
  case offSlope =>
    intro k c hk hc hphase hdue hdemand
    refine ⟨(s.land t).dchPhaseEnd k, rfl, ?_⟩
    rw [dchPhaseEnd_of_offSlope (s := s.land t) hc hphase hdue]
    obtain ⟨hchannel, honly, -, hframe⟩ :=
      dchEval_withDch_of_stays (s := s.land t) hc (g := fun c => { c with phase := 0 }) (dchActed_of_rest rfl hdemand)
    refine ⟨?_, dchPins_of_off hchannel rfl, honly, hframe⟩
    rw [hchannel]
    rfl
  case turnOn =>
    intro k c hk hc hdriven hphase hdemand hmin
    obtain ⟨hchannel, hcounted, hpending, hothers, hframe⟩ :=
      dchEval_turnsOn (s := s.land t) hk hc hdriven hphase hdemand hmin
    refine ⟨(s.land t).dchEval k, rfl, hchannel, hcounted, hpending, hothers, ?_⟩
    rw [hframe]
  case minOff =>
    intro k c hk hc hdriven hphase hdemand hmin
    obtain ⟨honly, hframe, hheld⟩ := dchEval_of_stays (s := s.land t) hc (dchActed_of_minOff hphase hmin)
    refine ⟨(s.land t).dchEval k, rfl, ?_, ?_, honly, hframe⟩
    · rw [hframe]
      rfl
    · rw [hheld]
      exact dchHeld_of_minOff hdriven hphase hdemand hmin
  case blind =>
    intro neg b hblind hpassed hbehind
    obtain ⟨hactive, hended, hothers, hframe⟩ := prtBlindExpiry_trips (s := s.land t) hblind hpassed hbehind
    refine ⟨(s.land t).prtBlindExpiry neg, rfl, hactive, fun k hk henabled hbehind => ?_, hothers, hframe⟩
    have hmem : k ∈ channelsBehind (s.land t) neg :=
      List.mem_filter.2 ⟨hk, Bool.and_eq_true_iff.2 ⟨henabled, hbehind⟩⟩
    exact (hended k hmem).trans (Option.map_map _ _ _)
  case force =>
    intro f k hk hwrite hoff
    obtain ⟨v, hforce, hwritten⟩ := writeEntry_force hk hwrite hoff
    obtain ⟨hset, hpending, hothers, hframe⟩ := forced_shows ((s.land t).heard f) hk hforce
    refine ⟨_, exec_dchForceSet_of_channel t f hk, ?_⟩
    rw [hwritten]
    refine ⟨hset, hpending, ?_, hothers, ?_⟩
    · rw [State.emit_out, State.withDict_out, hframe]
      rfl
    · rw [hframe]
      rfl
  case peaks =>
    intro f hwrite
    refine ⟨(s.land t).writeEntry f Obj.PRT_OV_PEAK_CLEAR 1, rfl, ?_⟩
    rw [writeEntry_ovPeakClear hwrite]
    refine ⟨fun i hi => ?_, rfl, fun key hkey => ?_, rfl⟩
    · have hpeak : Obj.PRT_OV_PEAK i ∈ [Obj.PRT_OV_PEAK 0, Obj.PRT_OV_PEAK 1, Obj.PRT_OV_PEAK 2] := List.mem_map_of_mem hi
      rw [State.get_emit, get_peaksCleared, if_pos hpeak]
    · rw [State.get_emit, get_peaksCleared, if_neg hkey]
      rfl

end Sys2Proof.Proofs
end

section
/-!
PROOF. What follows a command in a state whose DEV_STATE is wider than its entry (R188, R422).
-/

namespace Sys2Proof.Proofs

open Sys2Proof Sys2Proof.Machine

/-- PRT_SOFT_TRIP is active, the note of an entry to RUN stands, and DEV_STATE holds 260: neither BLOCKED nor RUN, but BLOCKED in
the 8 bits of its entry. -/
def wideBlocked : State :=
  { (State.reset.put Obj.DEV_STATE 260).put Obj.PRT_TRIP_ACTIVE (2 ^ causeSoft) with
    age := { State.reset.age with runEntry := true } }

/-- `settleAt` fits the registers before the trip causes read them: that state enters TRIP, and the note of the ageing unit ends. -/
theorem settleAt_wideBlocked :
    (State.settleAt wideBlocked wideBlocked none).devState = stTrip ∧
      (State.settleAt wideBlocked wideBlocked none).age.runEntry = false := by
  decide +kernel

/-- Refutes O52: its premise "outside BLOCKED and RUN" reads the DEV_STATE that the command left, but trip causes act on the fitted
one. `wideBlocked` has 260, which is fitted to BLOCKED, and its active cause takes it to TRIP, which changes the ageing unit. -/
theorem not_settleLeavesTheRestAlone : ¬ Obligations.SettleLeavesTheRestAlone := by
  intro h
  obtain ⟨⟨-, -, -, -, -, -, -, -, -, -, -, -, hage, -⟩, -⟩ :=
    h wideBlocked wideBlocked none (.inl ⟨by decide, by decide⟩)
  have hnote : (State.settleAt wideBlocked wideBlocked none).age.runEntry = true := congrArg Age.runEntry hage
  exact absurd (settleAt_wideBlocked.2.symm.trans hnote) (by decide)

end Sys2Proof.Proofs
end

section
/-!
PROOF. The AVS loop: what an evaluation shows and requests (R210, R211).
-/

namespace Sys2Proof.Proofs

open Sys2Proof Sys2Proof.Machine

/-! ## A request over AVSBus -/

theorem avsWrite_of_new {s : State} {v : Nat} (hnew : s.getN Obj.AGE_VCORE_NOW ≠ v) :
    s.avsWrite v =
      ((s.put Obj.AGE_VCORE_NOW v).withAge fun g => { g with write := some (v, 1) }).emit (.record 0x300 [v]) :=
  if_neg hnew

/-- The target in force is not requested again. -/
theorem avsWrite_of_same {s : State} {v : Nat} (hsame : s.getN Obj.AGE_VCORE_NOW = v) : s.avsWrite v = s := if_pos hsame

theorem getN_avsWrite (s : State) (v : Nat) : (s.avsWrite v).getN Obj.AGE_VCORE_NOW = v := by
  by_cases hsame : s.getN Obj.AGE_VCORE_NOW = v
  · rw [avsWrite_of_same hsame, hsame]
  · rw [avsWrite_of_new hsame, State.getN_emit, State.getN_withAge, State.getN_put, if_pos rfl, Int.toNat_natCast]

theorem get_avsWrite_ne (s : State) (v : Nat) {key : Nat} (hkey : key ≠ Obj.AGE_VCORE_NOW) :
    (s.avsWrite v).get key = s.get key := by
  by_cases hsame : s.getN Obj.AGE_VCORE_NOW = v
  · rw [avsWrite_of_same hsame]
  · rw [avsWrite_of_new hsame, State.get_emit, State.get_withAge, State.get_put_ne _ _ hkey]

theorem avsWrite_frame (s : State) (v : Nat) :
    s.avsWrite v = { s with objs := (s.avsWrite v).objs, age := (s.avsWrite v).age, out := (s.avsWrite v).out } := by
  by_cases hsame : s.getN Obj.AGE_VCORE_NOW = v
  · rw [avsWrite_of_same hsame]
  · rw [avsWrite_of_new hsame]
    rfl

/-! ## What an evaluation shows -/

/-- The margin and the drift of an evaluation are shown (R210). -/
def avsMeasured (s : State) (margin : Int) (drift : Nat) : State := (s.put Obj.AGE_CPM_MARGIN margin).put Obj.AGE_SI_DRIFT drift

theorem get_avsMeasured_margin (s : State) (margin : Int) (drift : Nat) :
    (avsMeasured s margin drift).get Obj.AGE_CPM_MARGIN = margin := by
  rw [avsMeasured, State.get_put_ne _ _ (by decide), State.get_put_same]

theorem get_avsMeasured_drift (s : State) (margin : Int) (drift : Nat) :
    (avsMeasured s margin drift).get Obj.AGE_SI_DRIFT = drift := State.get_put_same _ _ _

theorem get_avsMeasured_ne (s : State) (margin : Int) (drift : Nat) {key : Nat} (hmargin : key ≠ Obj.AGE_CPM_MARGIN)
    (hdrift : key ≠ Obj.AGE_SI_DRIFT) : (avsMeasured s margin drift).get key = s.get key := by
  rw [avsMeasured, State.get_put_ne _ _ hdrift, State.get_put_ne _ _ hmargin]

/-- The loop is enabled, and shown as running (R211). -/
def avsShownRunning (s : State) (margin : Int) (drift : Nat) : State :=
  (avsMeasured s margin drift).setBit Obj.AGE_AVS_STATUS 0 true

/-- The margin is critical at the highest voltage (R211). -/
def avsCritical (s : State) (margin : Int) (drift : Nat) : Bool :=
  margin < s.get Obj.AGE_AVS_MARGIN_CRIT &&
    (avsShownRunning s margin drift).get Obj.AGE_VCORE_NOW = s.get Obj.AGE_AVS_VMAX

/-- Source 361 is raised and logged where a critical margin at the highest voltage begins (R211). -/
def avsWarned (s : State) (margin : Int) (drift : Nat) : State :=
  if avsCritical s margin drift && !(avsShownRunning s margin drift).bit Obj.AGE_AVS_STATUS 1 then
    (avsShownRunning s margin drift).event 361 noSubject []
  else avsShownRunning s margin drift

/-- What an evaluation of the running loop shows, before it decides about a request (R210, R211). -/
def avsMonitored (s : State) (margin : Int) (drift : Nat) : State :=
  (avsWarned s margin drift).setBit Obj.AGE_AVS_STATUS 1 (avsCritical s margin drift)

theorem logOnly_avsWarned (s : State) (margin : Int) (drift : Nat) :
    (avsShownRunning s margin drift).LogOnly (avsWarned s margin drift) := .ite (State.logOnly_event _ _ _ _) (.refl _)

theorem get_avsMonitored (s : State) (margin : Int) (drift : Nat) {key : Nat} (hlog : isLogEntry key = false)
    (hstatus : key ≠ Obj.AGE_AVS_STATUS) : (avsMonitored s margin drift).get key = (avsMeasured s margin drift).get key := by
  obtain ⟨hentries, -⟩ := logOnly_avsWarned s margin drift
  rw [avsMonitored, State.get_setBit, if_neg hstatus, hentries key hlog, avsShownRunning, State.get_setBit, if_neg hstatus]

theorem get_avsMonitored_ne (s : State) (margin : Int) (drift : Nat) {key : Nat} (hlog : isLogEntry key = false)
    (hkey : key ∉ [Obj.AGE_CPM_MARGIN, Obj.AGE_SI_DRIFT, Obj.AGE_AVS_STATUS]) :
    (avsMonitored s margin drift).get key = s.get key := by
  simp only [List.mem_cons, List.not_mem_nil, or_false, not_or] at hkey
  obtain ⟨hmargin, hdrift, hstatus⟩ := hkey
  rw [get_avsMonitored s margin drift hlog hstatus, get_avsMeasured_ne s margin drift hmargin hdrift]

theorem sameUnits_avsMonitored (s : State) (margin : Int) (drift : Nat) : s.SameUnits (avsMonitored s margin drift) := by
  obtain ⟨-, hunits⟩ := logOnly_avsWarned s margin drift
  have hshown : s.SameUnits (avsShownRunning s margin drift) := rfl
  exact (hshown.trans hunits).trans rfl

theorem avsMonitored_age (s : State) (margin : Int) (drift : Nat) : (avsMonitored s margin drift).age = s.age := by
  rw [sameUnits_avsMonitored s margin drift]

/-- Since when the margin has been high (R211). -/
def highSinceNow (s : State) (margin : Int) (since : Option Nat) : Option Nat :=
  if decide (s.get Obj.AGE_AVS_MARGIN_HI < margin) then some (since.getD s.now) else none

/-- An evaluation of the running loop, with the time it has noted for a high margin (R211). -/
def avsNoted (s : State) (margin : Int) (drift : Nat) (since : Option Nat) : State :=
  (avsMonitored s margin drift).withAge fun g => { g with highSince := since }

theorem getN_avsNoted_vcoreNow (s : State) (margin : Int) (drift : Nat) (since : Option Nat) :
    (avsNoted s margin drift since).getN Obj.AGE_VCORE_NOW = s.getN Obj.AGE_VCORE_NOW :=
  congrArg Int.toNat (get_avsMonitored_ne s margin drift (by decide) (by decide))

theorem avsLimit_avsNoted (s : State) (margin : Int) (drift : Nat) (since : Option Nat) (mv : Int) :
    (avsNoted s margin drift since).avsLimit mv = s.avsLimit mv := by
  rw [State.avsLimit, avsNoted, State.get_withAge, State.get_withAge, get_avsMonitored_ne s margin drift (by decide) (by decide),
    get_avsMonitored_ne s margin drift (by decide) (by decide), ← State.avsLimit]

/-- An evaluation of the running loop up to its decision (R210, R211). -/
def avsTimed (s : State) (margin : Int) (drift : Nat) : State :=
  avsNoted s margin drift (highSinceNow s margin (avsMonitored s margin drift).age.highSince)

theorem get_avsShownRunning_vcoreNow (s : State) (margin : Int) (drift : Nat) :
    (avsShownRunning s margin drift).get Obj.AGE_VCORE_NOW = s.get Obj.AGE_VCORE_NOW := by
  rw [avsShownRunning, State.get_setBit, if_neg (by decide), get_avsMeasured_ne s margin drift (by decide) (by decide)]

/-! ## What an evaluation requests -/

/-- A state in which an evaluation acts on the loop that runs, with no write under way (R211). -/
structure AvsReady (s : State) : Prop where
  from_config : 2 ≤ s.devState
  to_trip : s.devState ≤ 6
  runs : s.avsRuns = true
  free : s.age.write = none

/-- In CONFIG to TRIP the guard of an evaluation lets it pass (R210). -/
theorem not_outside_of_evaluated {s : State} (hlo : 2 ≤ s.devState) (hhi : s.devState ≤ 6) :
    ¬ (!(decide (2 ≤ s.devState) && decide (s.devState ≤ 6))) = true := by
  rw [decide_eq_true hlo, decide_eq_true hhi]
  decide

/-- The loop is enabled and not stopped. -/
theorem avsRuns_iff (s : State) : s.avsRuns = true ↔ s.bit Obj.AGE_CTRL 2 = true ∧ s.bit Obj.AGE_AVS_STATUS 2 = false := by
  rw [State.avsRuns, Bool.and_eq_true, Bool.not_eq_true']

/-- A write that is not under way does not end the evaluation. -/
theorem avsTimed_free {s : State} (hready : AvsReady s) (margin : Int) (drift : Nat) :
    ¬ (avsTimed s margin drift).age.write.isSome = true := by
  have hnone : (avsTimed s margin drift).age.write = none :=
    (congrArg Age.write (avsMonitored_age s margin drift)).trans hready.free
  rw [hnone]
  decide

/-- A target within the limits is requested where it is new, and `act` follows; otherwise the voltage has settled (R211, R213). -/
def avsRequest (w : State) (mv : Int) (act : State → State) : State :=
  if w.avsLimit mv = w.getN Obj.AGE_VCORE_NOW then w.avsHot true else act (w.avsWrite (w.avsLimit mv))

/-- The target of a request is the one that the first readings of the evaluation give. -/
theorem avsRequest_of_new {s : State} {step : Int} {v : Nat} (hlimit : s.avsLimit (s.get Obj.AGE_VCORE_NOW + step) = v)
    (hnew : v ≠ s.getN Obj.AGE_VCORE_NOW) (margin : Int) (drift : Nat) (since : Option Nat) (act : State → State) :
    avsRequest (avsNoted s margin drift since) ((avsShownRunning s margin drift).get Obj.AGE_VCORE_NOW + step) act =
      act ((avsNoted s margin drift since).avsWrite v) := by
  rw [avsRequest, get_avsShownRunning_vcoreNow, avsLimit_avsNoted, getN_avsNoted_vcoreNow, hlimit, if_neg hnew]

/-- The margin has been high for 10 s (R211). -/
def avsHighLong (s : State) (margin : Int) (drift : Nat) : Bool :=
  decide (s.get Obj.AGE_AVS_MARGIN_HI < margin) &&
    decide ((highSinceNow s margin (avsMonitored s margin drift).age.highSince).getD s.now + 10000000000 ≤ s.now)

/-- The decision of an evaluation with no write under way: 10 mV more, 5 mV less, or a settled voltage (R211). -/
def avsDecision (s : State) (margin : Int) (drift : Nat) : State :=
  if margin < s.get Obj.AGE_AVS_MARGIN_LO then
    avsRequest (avsTimed s margin drift) ((avsShownRunning s margin drift).get Obj.AGE_VCORE_NOW + 10) (State.raise · 360)
  else if avsHighLong s margin drift then
    avsRequest (avsNoted s margin drift (some s.now)) ((avsShownRunning s margin drift).get Obj.AGE_VCORE_NOW + -5) id
  else (avsTimed s margin drift).avsHot true

theorem avsEvaluate_of_ready {s : State} (hready : AvsReady s) (margin : Int) (drift : Nat) :
    s.avsEvaluate margin drift = avsDecision s margin drift := by
  obtain ⟨hen, hgoes⟩ := (avsRuns_iff s).1 hready.runs
  have henabled : ¬ (!s.bit Obj.AGE_CTRL 2) = true := by simp [hen]
  have hnotStopped : ¬ s.bit Obj.AGE_AVS_STATUS 2 = true := by simp [hgoes]
  exact (if_neg (not_outside_of_evaluated hready.from_config hready.to_trip)).trans <| (if_neg henabled).trans <|
    (if_neg hnotStopped).trans <| if_neg (avsTimed_free hready margin drift)

theorem avsEvaluate_of_low {s : State} {margin : Int} {v : Nat} (hready : AvsReady s) (hlow : margin < s.get Obj.AGE_AVS_MARGIN_LO)
    (hlimit : s.avsLimit (s.get Obj.AGE_VCORE_NOW + 10) = v) (hnew : v ≠ s.getN Obj.AGE_VCORE_NOW) (drift : Nat) :
    s.avsEvaluate margin drift = ((avsTimed s margin drift).avsWrite v).raise 360 := by
  rw [avsEvaluate_of_ready hready, avsDecision, if_pos hlow, avsTimed, avsRequest_of_new hlimit hnew]

/-- A margin that has been high for 10 s is counted anew from now (R211). -/
theorem avsEvaluate_of_high {s : State} {margin : Int} {v h : Nat} (hready : AvsReady s)
    (hnotLow : s.get Obj.AGE_AVS_MARGIN_LO ≤ margin) (hhigh : s.get Obj.AGE_AVS_MARGIN_HI < margin)
    (hsince : s.age.highSince = some h) (hlong : h + 10000000000 ≤ s.now)
    (hlimit : s.avsLimit (s.get Obj.AGE_VCORE_NOW - 5) = v) (hnew : v ≠ s.getN Obj.AGE_VCORE_NOW) (drift : Nat) :
    s.avsEvaluate margin drift = (avsNoted s margin drift (some s.now)).avsWrite v := by
  have hserved : avsHighLong s margin drift = true := by
    rw [avsHighLong, avsMonitored_age, hsince]
    simp [highSinceNow, hhigh, hlong]
  rw [avsEvaluate_of_ready hready, avsDecision, if_neg (Int.not_lt.2 hnotLow), if_pos hserved, avsRequest_of_new hlimit hnew, id]

/-- An evaluation has shown its margin and drift, and a new target has been requested (R210, R211). -/
structure AvsRequested (s u : State) (margin : Int) (drift v : Nat) (since : Option Nat) : Prop where
  target : u.getN Obj.AGE_VCORE_NOW = v
  write : u.age.write = some (v, 1)
  noted : u.age.highSince = since
  margin : u.get Obj.AGE_CPM_MARGIN = margin
  drift : u.get Obj.AGE_SI_DRIFT = drift
  record : Out.record 0x300 [(v : Int)] ∈ u.out
  others : s.entriesBut u [Obj.AGE_CPM_MARGIN, Obj.AGE_SI_DRIFT, Obj.AGE_AVS_STATUS, Obj.AGE_VCORE_NOW]
  units : u = { s with objs := u.objs, age := u.age, icu := u.icu, log := u.log, flash := u.flash, dict := u.dict, out := u.out }

/-- Whatever an evaluation has noted in the ageing unit, a new target is requested so. -/
theorem avsWrite_requests {s : State} {v : Nat} (hnew : v ≠ s.getN Obj.AGE_VCORE_NOW) (margin : Int) (drift : Nat)
    (since : Option Nat) : AvsRequested s ((avsNoted s margin drift since).avsWrite v) margin drift v since := by
  have hother : (avsNoted s margin drift since).getN Obj.AGE_VCORE_NOW ≠ v := fun hsame =>
    hnew (hsame.symm.trans (getN_avsNoted_vcoreNow s margin drift since))
  refine ⟨getN_avsWrite _ v, ?write, ?noted, ?margin, ?drift, ?record, fun key hlog hkey => ?others, ?units⟩
  case write =>
    rw [avsWrite_of_new hother]
    rfl
  case noted =>
    rw [avsWrite_of_new hother]
    rfl
  case margin =>
    rw [get_avsWrite_ne _ _ (by decide), avsNoted, State.get_withAge, get_avsMonitored s margin drift (by decide) (by decide),
      get_avsMeasured_margin]
  case drift =>
    rw [get_avsWrite_ne _ _ (by decide), avsNoted, State.get_withAge, get_avsMonitored s margin drift (by decide) (by decide),
      get_avsMeasured_drift]
  case record =>
    rw [avsWrite_of_new hother]
    exact List.mem_concat_self
  case others =>
    have hshown : key ∉ [Obj.AGE_CPM_MARGIN, Obj.AGE_SI_DRIFT, Obj.AGE_AVS_STATUS] := fun h =>
      hkey (List.mem_append_left [Obj.AGE_VCORE_NOW] h)
    have hvcore : key ≠ Obj.AGE_VCORE_NOW := fun h =>
      hkey (List.mem_append_right [Obj.AGE_CPM_MARGIN, Obj.AGE_SI_DRIFT, Obj.AGE_AVS_STATUS] (List.mem_singleton.2 h))
    rw [get_avsWrite_ne _ _ hvcore, avsNoted, State.get_withAge, get_avsMonitored_ne s margin drift hlog hshown]
  case units =>
    rw [avsWrite_frame, avsNoted, sameUnits_avsMonitored s margin drift]
    rfl

/-- Source 360 of a request leaves it as it is (R211). -/
theorem AvsRequested.raise {s u : State} {margin : Int} {drift v : Nat} {since : Option Nat}
    (h : AvsRequested s u margin drift v since) (src : Nat) : AvsRequested s (u.raise src) margin drift v since := by
  refine ⟨h.target, h.write, h.noted, h.margin, h.drift, h.record, h.others, ?_⟩
  rw [h.units]
  rfl

/-! ## The fixed voltage -/

/-- With AVS_EN clear the loop is shown as at rest (R211). -/
def avsAtRest (s : State) (margin : Int) (drift : Nat) : State :=
  ((avsMeasured s margin drift).setBit Obj.AGE_AVS_STATUS 0 false).setBit Obj.AGE_AVS_STATUS 1 false

theorem get_avsAtRest (s : State) (margin : Int) (drift : Nat) {key : Nat} (hstatus : key ≠ Obj.AGE_AVS_STATUS) :
    (avsAtRest s margin drift).get key = (avsMeasured s margin drift).get key := by
  rw [avsAtRest, State.get_setBit, if_neg hstatus, State.get_setBit, if_neg hstatus]

theorem avsEvaluate_of_disabled {s : State} (hlo : 2 ≤ s.devState) (hhi : s.devState ≤ 6) (hen : s.bit Obj.AGE_CTRL 2 = false)
    (hgoes : s.bit Obj.AGE_AVS_STATUS 2 = false) (margin : Int) (drift : Nat) :
    s.avsEvaluate margin drift = (avsAtRest s margin drift).avsWrite (s.getN Obj.AGE_VCORE_FIXED) := by
  have hfixed : (avsAtRest s margin drift).getN Obj.AGE_VCORE_FIXED = s.getN Obj.AGE_VCORE_FIXED := by
    rw [State.getN, get_avsAtRest s margin drift (by decide), get_avsMeasured_ne s margin drift (by decide) (by decide),
      ← State.getN]
  have hdisabled : (!s.bit Obj.AGE_CTRL 2) = true := by simp [hen]
  have hnotStopped : ¬ s.bit Obj.AGE_AVS_STATUS 2 = true := by simp [hgoes]
  exact (if_neg (not_outside_of_evaluated hlo hhi)).trans <| (if_pos hdisabled).trans <| (if_neg hnotStopped).trans <|
    congrArg (avsAtRest s margin drift).avsWrite hfixed

/-- The fixed voltage is requested, and nothing else changes (R211). -/
theorem avsAtRest_requests (s : State) (margin : Int) (drift v : Nat) :
    ((avsAtRest s margin drift).avsWrite v).getN Obj.AGE_VCORE_NOW = v ∧
      ((avsAtRest s margin drift).avsWrite v).bit Obj.AGE_AVS_STATUS 0 = false ∧
      ((avsAtRest s margin drift).avsWrite v).get Obj.AGE_CPM_MARGIN = margin ∧
      ((avsAtRest s margin drift).avsWrite v).get Obj.AGE_SI_DRIFT = drift ∧
      s.onlyEntries ((avsAtRest s margin drift).avsWrite v)
        [Obj.AGE_CPM_MARGIN, Obj.AGE_SI_DRIFT, Obj.AGE_AVS_STATUS, Obj.AGE_VCORE_NOW] ∧
      (avsAtRest s margin drift).avsWrite v =
        { s with objs := ((avsAtRest s margin drift).avsWrite v).objs, age := ((avsAtRest s margin drift).avsWrite v).age
                 out := ((avsAtRest s margin drift).avsWrite v).out } := by
  refine ⟨getN_avsWrite _ v, ?rest, ?margin, ?drift, fun key hkey => ?others, avsWrite_frame (avsAtRest s margin drift) v⟩
  case rest =>
    rw [State.bit, State.getN, get_avsWrite_ne _ _ (by decide), ← State.getN, ← State.bit, avsAtRest, State.bit_setBit, if_pos rfl,
      if_neg (by decide), State.bit_setBit, if_pos rfl, if_pos rfl]
  case margin => rw [get_avsWrite_ne _ _ (by decide), get_avsAtRest s margin drift (by decide), get_avsMeasured_margin]
  case drift => rw [get_avsWrite_ne _ _ (by decide), get_avsAtRest s margin drift (by decide), get_avsMeasured_drift]
  case others =>
    simp only [List.mem_cons, List.not_mem_nil, or_false, not_or] at hkey
    obtain ⟨hmargin, hdrift, hstatus, hvcore⟩ := hkey
    rw [get_avsWrite_ne _ _ hvcore, get_avsAtRest s margin drift hstatus, get_avsMeasured_ne s margin drift hmargin hdrift]

end Sys2Proof.Proofs
end

section
/-!
PROOF. The read-back of AVSBus writes (R212), and the statement about the AVS loop.
-/

namespace Sys2Proof.Proofs

open Sys2Proof Sys2Proof.Machine

/-! ## The read-back of a write -/

theorem keepsPending_siteOutcome (s : State) (site code subject : Nat) (data : List Nat) (lasting : Bool) :
    KeepsPending s (s.siteOutcome site code subject data lasting) := by
  have hcounted (key : Nat) : KeepsPending s (s.add64 key 1) := .of_icu rfl
  refine .ite ?lasting (.ite ?journalled (hcounted _))
  case lasting => exact ((hcounted _).trans (keepsPending_demandFlush _)).trans (keepsPending_journalFull _ _ _ _ _ _ _)
  case journalled => exact (hcounted _).trans (keepsPending_journalFull _ _ _ _ _ _ _)

/-- The write under way has ended. -/
def avsEnded (s : State) : State := s.withAge fun g => { g with write := none }

/-- Beyond the write under way, a read-back that ends it changes what its record in the logbook can change. -/
theorem frame_of_ended {s u : State} (h : (avsEnded s).SameUnits u) :
    u.age = { s.age with write := none } ∧
      u = { s with objs := u.objs, age := u.age, icu := u.icu, log := u.log, flash := u.flash, dict := u.dict, out := u.out } := by
  constructor
  · rw [h]
    rfl
  · rw [h]
    rfl

/-- An outcome of AVSBus's retry site: counted in an entry of the loop, raised and logged (R212, Table 18.2). -/
def avsOutcome (s : State) (counter src : Nat) (lasting : Bool) : State :=
  ((s.bump counter).raise src).siteOutcome 0x09 src noSubject [] lasting

theorem logOnly_avsOutcome (s : State) (counter src : Nat) (lasting : Bool) :
    (s.bump counter).LogOnly (avsOutcome s counter src lasting) :=
  (State.logOnly_raise _ _).trans (State.logOnly_siteOutcome _ _ _ _ _ _ (by decide))

/-- What an outcome of AVSBus's retry site shows (R212). -/
theorem avsOutcome_shows (s : State) {counter src : Nat} (hcounter : isLogEntry counter = false) (hshared : src / 32 ≠ 5)
    (lasting : Bool) :
    (avsOutcome s counter src lasting).get counter = min (s.get counter + 1) 0xFFFFFFFF ∧
      (avsOutcome s counter src lasting).sourcePending src ∧
      s.entriesBut (avsOutcome s counter src lasting) [counter] ∧
      s.SameUnits (avsOutcome s counter src lasting) := by
  obtain ⟨hentries, hunits⟩ := logOnly_avsOutcome s counter src lasting
  have hbumped : s.SameUnits (s.bump counter) := rfl
  refine ⟨?counted, ?pending, fun key hlog hkey => ?others, hbumped.trans hunits⟩
  case counted => rw [hentries counter hcounter, State.get_bump, if_pos rfl]
  case pending => exact sourcePending_kept hshared (sourcePending_raise _ src) (keepsPending_siteOutcome _ _ _ _ _ _)
  case others => rw [hentries key hlog, State.get_bump, if_neg (List.ne_of_not_mem_cons hkey)]

theorem avsReadback_good_of_first {s : State} {v : Nat} (hwrite : s.age.write = some (v, 1)) : s.avsReadback true = avsEnded s := by
  rw [State.avsReadback, hwrite]
  rfl

theorem avsReadback_good_of_second {s : State} {v : Nat} (hwrite : s.age.write = some (v, 2)) :
    s.avsReadback true = avsOutcome (avsEnded s) Obj.AGE_AVS_RETRY_COUNT 362 false := by
  rw [State.avsReadback, hwrite]
  exact (if_pos rfl).trans (if_neg (by decide))

theorem avsReadback_bad_of_first {s : State} {v : Nat} (hwrite : s.age.write = some (v, 1)) :
    s.avsReadback false = (s.withAge fun g => { g with write := some (v, 2) }).emit (.record 0x300 [v]) := by
  rw [State.avsReadback, hwrite]
  rfl

/-- A lasting failure stops the loop (R212). -/
def avsStopped (s : State) : State := ((avsEnded s).setBit Obj.AGE_AVS_STATUS 2 true).setBit Obj.AGE_AVS_STATUS 0 false

theorem avsReadback_bad_of_second {s : State} {v : Nat} (hwrite : s.age.write = some (v, 2)) :
    s.avsReadback false = avsOutcome (avsStopped s) Obj.AGE_AVS_FAIL_COUNT 363 true := by
  rw [State.avsReadback, hwrite]
  exact (if_neg Bool.false_ne_true).trans (if_neg (by decide))

theorem get_avsStopped_ne (s : State) {key : Nat} (hstatus : key ≠ Obj.AGE_AVS_STATUS) : (avsStopped s).get key = s.get key := by
  rw [avsStopped, State.get_setBit, if_neg hstatus, State.get_setBit, if_neg hstatus]
  rfl

/-- The second failed attempt stops the loop, is counted and raised (R212). -/
theorem avsStopped_outcome_shows (s : State) :
    (∀ i, (avsOutcome (avsStopped s) Obj.AGE_AVS_FAIL_COUNT 363 true).bit Obj.AGE_AVS_STATUS i =
        (avsStopped s).bit Obj.AGE_AVS_STATUS i) ∧
      (avsOutcome (avsStopped s) Obj.AGE_AVS_FAIL_COUNT 363 true).get Obj.AGE_AVS_FAIL_COUNT =
        min (s.get Obj.AGE_AVS_FAIL_COUNT + 1) 0xFFFFFFFF ∧
      (avsOutcome (avsStopped s) Obj.AGE_AVS_FAIL_COUNT 363 true).sourcePending 363 ∧
      s.entriesBut (avsOutcome (avsStopped s) Obj.AGE_AVS_FAIL_COUNT 363 true) [Obj.AGE_AVS_FAIL_COUNT, Obj.AGE_AVS_STATUS] ∧
      (avsEnded s).SameUnits (avsOutcome (avsStopped s) Obj.AGE_AVS_FAIL_COUNT 363 true) := by
  have hstopped : (avsEnded s).SameUnits (avsStopped s) := rfl
  obtain ⟨hcounted, hpending, hothers, hunits⟩ :=
    avsOutcome_shows (avsStopped s) (counter := Obj.AGE_AVS_FAIL_COUNT) (src := 363) (by decide) (by decide) true
  refine ⟨fun i => ?_, ?_, hpending, fun key hlog hkey => ?_, hstopped.trans hunits⟩
  · rw [State.bit, State.getN, hothers _ (by decide) (by decide), State.bit, State.getN]
  · rw [hcounted, get_avsStopped_ne s (by decide)]
  · simp only [List.mem_cons, List.not_mem_nil, or_false, not_or] at hkey
    obtain ⟨hcount, hstatus⟩ := hkey
    rw [hothers key hlog (mt List.mem_singleton.1 hcount), get_avsStopped_ne s hstatus]

/-! ## The statement -/

/-- Settles O34: the requests by what an evaluation shows before it decides, the two counted read-backs by the outcome of AVSBus's
retry site. -/
theorem coreVoltage : Obligations.CoreVoltage := by
  intro s t
  refine ⟨?low, ?high, ?fixed, ?good, ?goodSecond, ?bad, ?badSecond⟩
  case low =>
    intro margin drift v hlo hhi hruns hfree hlow hlimit hnew
    refine ⟨(s.land t).avsEvaluate margin drift, rfl, ?_⟩
    rw [avsEvaluate_of_low (s := s.land t) ⟨hlo, hhi, hruns, hfree⟩ hlow hlimit hnew]
    obtain ⟨htarget, hwrite, -, hmargin, hdrift, hrecord, hothers, hunits⟩ :=
      (avsWrite_requests (s := s.land t) hnew margin drift _).raise 360
    exact ⟨htarget, hwrite, hmargin, hdrift, hrecord, sourcePending_raise _ 360, hothers, hunits⟩
  case high =>
    intro margin drift v h hlo hhi hruns hfree hnotLow hhigh hsince hlong hlimit hnew
    refine ⟨(s.land t).avsEvaluate margin drift, rfl, ?_⟩
    rw [avsEvaluate_of_high (s := s.land t) ⟨hlo, hhi, hruns, hfree⟩ hnotLow hhigh hsince hlong hlimit hnew]
    obtain ⟨htarget, hwrite, hnoted, hmargin, hdrift, hrecord, hothers, hunits⟩ :=
      avsWrite_requests (s := s.land t) hnew margin drift (some (s.land t).now)
    exact ⟨htarget, hwrite, hnoted, hmargin, hdrift, hrecord, hothers, hunits⟩
  case fixed =>
    intro margin drift hlo hhi hen hgoes
    refine ⟨(s.land t).avsEvaluate margin drift, rfl, ?_⟩
    rw [avsEvaluate_of_disabled (s := s.land t) hlo hhi hen hgoes]
    exact avsAtRest_requests (s.land t) margin drift (s.getN Obj.AGE_VCORE_FIXED)
  case good =>
    intro v hwrite
    refine ⟨(s.land t).avsReadback true, rfl, ?_⟩
    rw [avsReadback_good_of_first (s := s.land t) hwrite]
    exact ⟨rfl, fun _ _ => rfl, rfl⟩
  case goodSecond =>
    intro v hwrite
    obtain ⟨hcounted, hpending, hothers, hunits⟩ := avsOutcome_shows (avsEnded (s.land t)) (counter := Obj.AGE_AVS_RETRY_COUNT)
      (src := 362) (by decide) (by decide) false
    obtain ⟨hage, hframe⟩ := frame_of_ended hunits
    refine ⟨(s.land t).avsReadback true, rfl, ?_⟩
    rw [avsReadback_good_of_second (s := s.land t) hwrite]
    exact ⟨hage, hcounted, hpending, hothers, hframe⟩
  case bad =>
    intro v hwrite
    refine ⟨(s.land t).avsReadback false, rfl, ?_⟩
    rw [avsReadback_bad_of_first (s := s.land t) hwrite]
    exact ⟨rfl, rfl, fun _ _ => rfl, rfl⟩
  case badSecond =>
    intro v hwrite
    obtain ⟨hstatus, hcounted, hpending, hothers, hunits⟩ := avsStopped_outcome_shows (s.land t)
    obtain ⟨hage, hframe⟩ := frame_of_ended hunits
    refine ⟨(s.land t).avsReadback false, rfl, ?_⟩
    rw [avsReadback_bad_of_second (s := s.land t) hwrite]
    refine ⟨hage, ?_, ?_, hcounted, hpending, hothers, hframe⟩
    · rw [hstatus, avsStopped, State.bit_setBit, if_pos rfl, if_neg (by decide), State.bit_setBit, if_pos rfl, if_pos rfl]
    · rw [hstatus, avsStopped, State.bit_setBit, if_pos rfl, if_pos rfl]

end Sys2Proof.Proofs
end

section
/-!
PROOF. The records of the cascade tree: the root's record sent downward and taken by a branch (R262, R263), up records joined to
those of the cycle, and the hop that a round trip gives (R261, R17).
-/

namespace Sys2Proof.Proofs

open Sys2Proof Sys2Proof.Machine

/-! ## The root's record on its way down -/

theorem foldl_emit {α : Type} (s : State) (l : List α) (o : Out) :
    l.foldl (fun s _ => s.emit o) s = { s with out := s.out ++ l.map fun _ => o } := by
  induction l generalizing s with
  | nil => rw [List.map_nil, List.append_nil, List.foldl_nil]
  | cons x rest ih =>
    rw [List.foldl_cons, ih, State.emit_out, List.append_assoc]
    rfl

/-- Sending a record down adds one answer for every live downward group, and changes nothing else (R262). -/
theorem cascSendDown_eq (s : State) (d : CascDown) :
    s.cascSendDown d =
      { s with out := s.out ++ (s.cascGroups.filter fun g => !s.cascUpward g && s.cascAlive g).map fun _ =>
                Out.record 0x200 (CascDown.words d) } :=
  foldl_emit s _ _

theorem rootLaunch_of_running {s : State} (hrole : s.treeRole = 1) (hrun : s.orbRunning = true) (hlo : 3 ≤ s.devState)
    (hhi : s.devState ≤ 6) : s.rootLaunch = s.cascSendDown s.rootRecord :=
  if_pos (by simp [hrole, hrun, hlo, hhi])

/-! ## The root's record at a branch -/

/-- The record and its label are forwarded and kept for T_ref (R262, R263, R344). -/
def downTaken (s : State) (d : CascDown) (label : Nat) : State :=
  ((s.cascSendDown d).withTim fun m => { m with rootLabel := some label }).withLnk fun l => { l with down := some d }

theorem downTaken_eq (s : State) (d : CascDown) (label : Nat) :
    downTaken s d label =
      { s with lnk := { s.lnk with down := some d }, tim := { s.tim with rootLabel := some label }
               out := (downTaken s d label).out } := by
  rw [downTaken, cascSendDown_eq]
  rfl

theorem orbAfter_downTaken (s : State) (d : CascDown) (label n : Nat) : (downTaken s d label).orbAfter n = s.orbAfter n := by
  rw [downTaken_eq]
  rfl

/-- The flags of the record announce a stretch or a return for the next boundary (R43, R46). -/
def downAnnounced (s : State) (flags : Nat) : State :=
  if bitOf flags 1 then (s.withOrb fun o => { o with stretchAt := some (s.orbAfter 1) }).setBit Obj.ORB_STATUS 2 true
  else if bitOf flags 2 then (s.withOrb fun o => { o with returnAt := some (s.orbAfter 1) }).setBit Obj.ORB_STATUS 3 true
  else s

theorem downReceive_of_present {s : State} {d : CascDown} (hrole : s.treeRole = 2) (hrun : s.orbRunning = true)
    (hlo : 3 ≤ s.devState) (hhi : s.devState ≤ 6) (horb : d.orb = s.orbCount) (hphase : s.orb.phase = 0) (label : Nat) :
    s.downReceive d label = downAnnounced (downTaken s d label) d.flags := by
  have hbranch : ¬ (s.treeRole ≠ 2 || s.devState < 3 || 6 < s.devState) = true := by simp [hrole, hlo, hhi]
  have hruns : ¬ (!s.orbRunning) = true := by simp [hrun]
  rw [State.downReceive, if_neg hbranch, if_neg hruns, if_neg (not_not_intro horb), if_pos hphase, downAnnounced,
    orbAfter_downTaken]
  rfl

theorem downAnnounced_stretch (s : State) {flags : Nat} (hstretch : bitOf flags 1 = true) :
    (downAnnounced s flags).orb.stretchAt = some (s.orbAfter 1) ∧ (downAnnounced s flags).bit Obj.ORB_STATUS 2 = true := by
  rw [downAnnounced, if_pos hstretch, State.bit_setBit, if_pos rfl, if_pos rfl]
  exact ⟨rfl, rfl⟩

theorem downAnnounced_return (s : State) {flags : Nat} (hstretch : bitOf flags 1 = false) (hreturn : bitOf flags 2 = true) :
    (downAnnounced s flags).orb.returnAt = some (s.orbAfter 1) ∧ (downAnnounced s flags).bit Obj.ORB_STATUS 3 = true := by
  rw [downAnnounced, if_neg (by simp [hstretch]), if_pos hreturn, State.bit_setBit, if_pos rfl, if_pos rfl]
  exact ⟨rfl, rfl⟩

/-- What the flags announce is kept in the sequencer and shown in ORB_STATUS. -/
theorem downAnnounced_frame (s : State) (flags : Nat) :
    s.onlyEntries (downAnnounced s flags) [Obj.ORB_STATUS] ∧
      downAnnounced s flags = { s with objs := (downAnnounced s flags).objs, orb := (downAnnounced s flags).orb } := by
  rw [downAnnounced]
  split
  · exact ⟨onlyEntries_setBit (s.withOrb _) List.mem_cons_self _ _, rfl⟩
  · split
    · exact ⟨onlyEntries_setBit (s.withOrb _) List.mem_cons_self _ _, rfl⟩
    · exact ⟨fun _ _ => rfl, rfl⟩

/-! ## Up records -/

theorem cascUps_of_downward {s : State} {g : Nat} (hon : s.cascOn g = true) (hdown : s.cascUpward g = false)
    (records : List CascUp) : s.cascUps g records = s.withLnk fun l => { l with ups := l.ups ++ records } :=
  if_neg (by simp [hon, hdown])

/-! ## The hop of a round trip -/

/-- A hop is shown with its latency and whether it is within 2.00 us (R261). -/
def hopShown (s : State) (g hop : Nat) : State :=
  (s.put (Obj.LNK_CASC_LATENCY g) (min hop 0xFFFF)).setBit (Obj.LNK_CASC_STATUS g) 1 (decide (hop ≤ 2000))

/-- The path through the hop is kept with its depth (R17). -/
def hopKept (s : State) (g hop beyond devices : Nat) : State :=
  (hopShown s g hop).withLnk fun l => { l with paths := l.paths.set g (some (hop + beyond, devices + 2)) }

/-- The hop is shown, its path kept, and TREE_OK follows (R17, R261). -/
def hopNoted (s : State) (g hop beyond devices : Nat) : State :=
  (hopKept s g hop beyond devices).treeShow (s.getN Obj.ORB_PERIOD)

theorem cascRoundTrip_of_on {s : State} {g : Nat} (hon : s.cascOn g = true) (trip turn beyond devices : Nat) :
    s.cascRoundTrip g trip turn beyond devices =
      if decide ((trip - turn) / 2 ≤ 2000) &&
          (s.cascUpward g || (hopNoted s g ((trip - turn) / 2) beyond devices).bit Obj.LNK_STATUS 3) then
        hopNoted s g ((trip - turn) / 2) beyond devices
      else (hopNoted s g ((trip - turn) / 2) beyond devices).raise 114 :=
  if_neg (by simp [hon])

theorem treeShow_frame (s : State) (quarters : Nat) :
    s.onlyEntries (s.treeShow quarters) [Obj.LNK_STATUS] ∧
      s.treeShow quarters = { s with objs := (s.treeShow quarters).objs } := by
  rw [State.treeShow]
  split
  · exact ⟨fun _ _ => rfl, rfl⟩
  · exact ⟨onlyEntries_setBit s List.mem_cons_self _ _, rfl⟩

theorem get_hopShown_latency (s : State) (g hop : Nat) :
    (hopShown s g hop).get (Obj.LNK_CASC_LATENCY g) = (min hop 0xFFFF : Nat) := by
  rw [hopShown, State.get_setBit, if_neg (by simp), State.get_put_same, Nat.cast_min]
  rfl

theorem bit_hopShown_ok (s : State) (g hop : Nat) :
    (hopShown s g hop).bit (Obj.LNK_CASC_STATUS g) 1 = decide (hop ≤ 2000) := by
  rw [hopShown, State.bit_setBit, if_pos rfl, if_pos rfl]

theorem hopShown_onlyEntries (s : State) (g hop : Nat) :
    s.onlyEntries (hopShown s g hop) [Obj.LNK_CASC_LATENCY g, Obj.LNK_CASC_STATUS g] := by
  intro key hkey
  simp only [List.mem_cons, List.not_mem_nil, or_false, not_or] at hkey
  obtain ⟨hlatency, hstatus⟩ := hkey
  rw [hopShown, State.get_setBit, if_neg hstatus, State.get_put_ne _ _ hlatency]

/-- What a noted hop shows and changes, whether or not source 114 goes with it. -/
structure HopNoted (s u : State) (g hop beyond devices : Nat) : Prop where
  latency : u.get (Obj.LNK_CASC_LATENCY g) = (min hop 0xFFFF : Nat)
  ok : u.bit (Obj.LNK_CASC_STATUS g) 1 = decide (hop ≤ 2000)
  path : u.lnk.paths[g]? = some (some (hop + beyond, devices + 2))
  others : s.onlyEntries u [Obj.LNK_CASC_LATENCY g, Obj.LNK_CASC_STATUS g, Obj.LNK_STATUS]
  units : u = { s with objs := u.objs, lnk := u.lnk, icu := u.icu }

theorem hopNoted_shows {s : State} {g : Nat} (hpath : g < s.lnk.paths.length) (hop beyond devices : Nat) :
    HopNoted s (hopNoted s g hop beyond devices) g hop beyond devices := by
  obtain ⟨hentries, hunits⟩ := treeShow_frame (hopKept s g hop beyond devices) (s.getN Obj.ORB_PERIOD)
  have hlatency : Obj.LNK_CASC_LATENCY g ∉ [Obj.LNK_STATUS] := by
    rw [List.mem_singleton, Obj.LNK_CASC_LATENCY, Obj.LNK_STATUS]
    omega
  have hstatus : Obj.LNK_CASC_STATUS g ∉ [Obj.LNK_STATUS] := by
    rw [List.mem_singleton, Obj.LNK_CASC_STATUS, Obj.LNK_STATUS]
    omega
  refine ⟨?latency, ?ok, ?path, fun key hkey => ?others, ?units⟩
  case latency => exact (hentries _ hlatency).trans (get_hopShown_latency s g hop)
  case ok => exact (bit_of_onlyEntries hentries hstatus 1).trans (bit_hopShown_ok s g hop)
  case path =>
    rw [hopNoted, hunits]
    exact List.getElem?_set_self hpath
  case others =>
    have hshown : key ∉ [Obj.LNK_CASC_LATENCY g, Obj.LNK_CASC_STATUS g] := fun h =>
      hkey (List.mem_append_left [Obj.LNK_STATUS] h)
    have htree : key ∉ [Obj.LNK_STATUS] := fun h =>
      hkey (List.mem_append_right [Obj.LNK_CASC_LATENCY g, Obj.LNK_CASC_STATUS g] h)
    exact (hentries key htree).trans (hopShown_onlyEntries s g hop key hshown)
  case units =>
    rw [hopNoted, hunits]
    rfl

theorem HopNoted.raise {s u : State} {g hop beyond devices : Nat} (h : HopNoted s u g hop beyond devices) (src : Nat) :
    HopNoted s (u.raise src) g hop beyond devices := by
  refine ⟨h.latency, h.ok, h.path, h.others, ?_⟩
  rw [h.units]
  rfl

/-- A round trip notes its hop, and one beyond 2.00 us raises source 114 (R261, R17). -/
theorem cascRoundTrip_notes {s : State} {g : Nat} (hon : s.cascOn g = true) (hpath : g < s.lnk.paths.length)
    (trip turn beyond devices : Nat) :
    HopNoted s (s.cascRoundTrip g trip turn beyond devices) g ((trip - turn) / 2) beyond devices ∧
      (2000 < (trip - turn) / 2 → (s.cascRoundTrip g trip turn beyond devices).sourcePending 114) := by
  have hnoted := hopNoted_shows hpath ((trip - turn) / 2) beyond devices
  rw [cascRoundTrip_of_on hon]
  split
  next hholds =>
    have hshort : (trip - turn) / 2 ≤ 2000 := of_decide_eq_true (Bool.and_eq_true_iff.1 hholds).1
    exact ⟨hnoted, fun hlong => absurd hshort (Nat.not_le.2 hlong)⟩
  next => exact ⟨hnoted.raise 114, fun _ => sourcePending_raise _ 114⟩

/-! ## The statement -/

/-- Settles O22: the root's record by the list of groups it is sent on, a branch's by what it keeps and what its flags announce, a
round trip by the hop it notes. -/
theorem cascadeRecords : Obligations.CascadeRecords := by
  intro s t
  refine ⟨?launch, ?receive, ?ups, ?roundTrip⟩
  case launch =>
    intro hrole hrun hlo hhi
    refine ⟨(s.land t).rootLaunch, rfl, ?_⟩
    rw [rootLaunch_of_running (s := s.land t) hrole hrun hlo hhi, cascSendDown_eq]
    exact ⟨rfl, fun _ _ => rfl, rfl⟩
  case receive =>
    intro d label hrole hrun hlo hhi horb hphase
    refine ⟨(s.land t).downReceive d label, rfl, ?_⟩
    rw [downReceive_of_present (s := s.land t) hrole hrun hlo hhi horb hphase]
    have htaken := downTaken_eq (s.land t) d label
    obtain ⟨hentries, hunits⟩ := downAnnounced_frame (downTaken (s.land t) d label) d.flags
    have hsame : s.onlyEntries (downTaken (s.land t) d label) [Obj.ORB_STATUS] := fun key _ => by
      rw [htaken]
      rfl
    have hnext : (downTaken (s.land t) d label).orbAfter 1 = s.orbAfter 1 := orbAfter_downTaken (s.land t) d label 1
    refine ⟨?down, ?label, fun hstretch => ?stretch, fun hstretch hreturn => ?ret, onlyEntries_trans hsame hentries, ?units⟩
    case down => rw [hunits, htaken]
    case label => rw [hunits, htaken]
    case stretch => exact hnext ▸ downAnnounced_stretch _ hstretch
    case ret => exact hnext ▸ downAnnounced_return _ hstretch hreturn
    case units => rw [hunits, htaken]
  case ups =>
    intro g records hon hdown
    refine ⟨(s.land t).cascUps g records, rfl, ?_⟩
    rw [cascUps_of_downward (s := s.land t) hon hdown]
    exact ⟨rfl, fun _ _ => rfl, rfl⟩
  case roundTrip =>
    intro g trip turn beyond devices hon _ hpath
    obtain ⟨⟨hlatency, hok, hnoted, hothers, hunits⟩, hlong⟩ :=
      cascRoundTrip_notes (s := s.land t) hon hpath trip turn beyond devices
    exact ⟨(s.land t).cascRoundTrip g trip turn beyond devices, rfl, hlatency, hok, hnoted, hlong, hothers, hunits⟩

end Sys2Proof.Proofs
end

section
/-!
PROOF. What the registers hold at the end of every command (R422): a reset value of the dictionary fits its type, so an entry that the
store does not list needs no fitting, and the store that fitting builds is sound. Every command ends in it.
-/

namespace Sys2Proof.Proofs

open Sys2Proof Sys2Proof.Machine

/-! ## Reset values fit their types -/

/-- A value lies in the range of its type (Table 17.1), or is the reading of an entry without data. -/
def valueFits (type : ObjType) (v : Int) : Bool :=
  decide (v = Obj.absent) ||
    match ObjType.length type with
    | none => true
    | some n =>
      if ObjType.isSigned type then -(2 ^ (8 * n - 1)) ≤ v && v < 2 ^ (8 * n - 1) else 0 ≤ v && v < 2 ^ (8 * n)

/-- Every entry of a row resets to a value of the row's type. -/
abbrev ResetsFit (r : ObjRow) : Prop :=
  ∀ i ≤ r.indexHi - r.indexLo, ∀ j ≤ r.subHi - r.subLo, valueFits r.type (r.reset i j) = true

/-- Where the reset value is the same for the whole row, that value decides. -/
theorem resetsFit_k (indexLo indexHi subLo subHi : Nat) (type : ObjType) (access : Access) (v : Int) (role states : Nat)
    (range : ObjRange) (mask : Nat) (mirrored : Bool) :
    ResetsFit ⟨indexLo, indexHi, subLo, subHi, type, access, Obj.k v, role, states, range, mask, mirrored⟩ ↔
      valueFits type v = true :=
  ⟨fun h => h 0 (Nat.zero_le _) 0 (Nat.zero_le _), fun h _ _ _ _ => h⟩

theorem valueFits_of_unsigned {type : ObjType} {n m : Nat} (hlen : ObjType.length type = some n)
    (hsign : ObjType.isSigned type = false) (hm : m < 2 ^ (8 * n)) : valueFits type m = true := by
  have hm' : (m : Int) < 2 ^ (8 * n) := by exact_mod_cast hm
  simp [valueFits, hlen, hsign, hm']

theorem valueFits_serialNumber : valueFits .u32 Config.serialNumber = true :=
  valueFits_of_unsigned rfl rfl Config.serialWord.isLt

theorem valueFits_productCode : valueFits .u32 Config.productCode = true := by
  unfold Config.productCode
  split <;> rfl

theorem valueFits_macAddress (port : Nat) : valueFits .u64 (Config.macAddress port) = true :=
  valueFits_of_unsigned rfl rfl (Nat.lt_trans (Config.macWord port).isLt (by decide))

theorem resetsFit_mac {r : ObjRow} (htype : r.type = .u64) (hreset : r.reset = fun i _ => Config.macAddress i) :
    ResetsFit r := by
  intro i _ j _
  rw [htype, hreset]
  exact valueFits_macAddress i

theorem resetsFit_17_12 : ∀ r ∈ Obj.rows_17_12, ResetsFit r := by
  have hmac : ResetsFit ⟨0x1E10, 0x1E11, 0x06, 0x06, .u64, .ro, fun i _ => Config.macAddress i, 0, 0, .any, 0, false⟩ :=
    resetsFit_mac rfl rfl
  simp only [Obj.rows_17_12, List.forall_mem_cons, resetsFit_k, valueFits_serialNumber, valueFits_productCode, eq_true hmac]
  decide

theorem resetsFit_17_13 : ∀ r ∈ Obj.rows_17_13, ResetsFit r := by
  simp only [Obj.rows_17_13, List.forall_mem_cons, resetsFit_k]
  decide

theorem resetsFit_2_10 : ∀ r ∈ Obj.rows_2_10, ResetsFit r := by
  simp only [Obj.rows_2_10, List.forall_mem_cons, resetsFit_k]
  decide

theorem resetsFit_3_8 : ∀ r ∈ Obj.rows_3_8, ResetsFit r := by
  simp only [Obj.rows_3_8, List.forall_mem_cons, resetsFit_k]
  decide

theorem resetsFit_4_7 : ∀ r ∈ Obj.rows_4_7, ResetsFit r := by
  simp only [Obj.rows_4_7, List.forall_mem_cons, resetsFit_k]
  decide

theorem resetsFit_5_10 : ∀ r ∈ Obj.rows_5_10, ResetsFit r := by
  simp only [Obj.rows_5_10, List.forall_mem_cons, resetsFit_k]
  decide

theorem resetsFit_6_8 : ∀ r ∈ Obj.rows_6_8, ResetsFit r := by
  simp only [Obj.rows_6_8, List.forall_mem_cons, resetsFit_k]
  decide

theorem resetsFit_7_9 : ∀ r ∈ Obj.rows_7_9, ResetsFit r := by
  simp only [Obj.rows_7_9, List.forall_mem_cons, resetsFit_k]
  decide

theorem resetsFit_8_9 : ∀ r ∈ Obj.rows_8_9, ResetsFit r := by
  simp only [Obj.rows_8_9, List.forall_mem_cons, resetsFit_k]
  decide

theorem resetsFit_9_6 : ∀ r ∈ Obj.rows_9_6, ResetsFit r := by
  simp only [Obj.rows_9_6, List.forall_mem_cons, resetsFit_k]
  iterate 30 refine ⟨by decide, ?_⟩
  decide

theorem resetsFit_10_14 : ∀ r ∈ Obj.rows_10_14, ResetsFit r := by
  simp only [Obj.rows_10_14, List.forall_mem_cons, resetsFit_k]
  decide

theorem resetsFit_10_17 : ∀ r ∈ Obj.rows_10_17, ResetsFit r := by
  simp only [Obj.rows_10_17, List.forall_mem_cons, resetsFit_k]
  decide

theorem resetsFit_11_11 : ∀ r ∈ Obj.rows_11_11, ResetsFit r := by
  simp only [Obj.rows_11_11, List.forall_mem_cons, resetsFit_k]
  decide

theorem resetsFit_12_8 : ∀ r ∈ Obj.rows_12_8, ResetsFit r := by
  simp only [Obj.rows_12_8, List.forall_mem_cons, resetsFit_k]
  decide

theorem resetsFit_13_7 : ∀ r ∈ Obj.rows_13_7, ResetsFit r := by
  simp only [Obj.rows_13_7, List.forall_mem_cons, resetsFit_k]
  decide

theorem resetsFit_14_15 : ∀ r ∈ Obj.rows_14_15, ResetsFit r := by
  simp only [Obj.rows_14_15, List.forall_mem_cons, resetsFit_k]
  decide

theorem resetsFit_15_14 : ∀ r ∈ Obj.rows_15_14, ResetsFit r := by
  simp only [Obj.rows_15_14, List.forall_mem_cons, resetsFit_k]
  decide

theorem resetsFit_16_11 : ∀ r ∈ Obj.rows_16_11, ResetsFit r := by
  simp only [Obj.rows_16_11, List.forall_mem_cons, resetsFit_k]
  decide

theorem resetsFit_18_10 : ∀ r ∈ Obj.rows_18_10, ResetsFit r := by
  simp only [Obj.rows_18_10, List.forall_mem_cons, resetsFit_k]
  decide

/-- Every entry of every row resets to a value of its type. -/
def TableFits (rows : List ObjRow) : Prop := ∀ r ∈ rows, ResetsFit r

theorem TableFits.ite {c : Prop} [Decidable c] {a b : List ObjRow} (ha : TableFits a) (hb : TableFits b) :
    TableFits (if c then a else b) := by
  split
  · exact ha
  · exact hb

theorem tableFits_rowsAt (index : Nat) : TableFits (Obj.rowsAt index) := by
  have hnone : TableFits [] := fun _ hr => absurd hr List.not_mem_nil
  exact .ite hnone <| .ite resetsFit_17_12 <| .ite resetsFit_17_13 <| .ite resetsFit_2_10 <| .ite resetsFit_3_8 <|
    .ite resetsFit_4_7 <| .ite resetsFit_5_10 <| .ite resetsFit_6_8 <| .ite resetsFit_7_9 <| .ite resetsFit_8_9 <|
    .ite resetsFit_9_6 <| .ite resetsFit_10_17 <| .ite resetsFit_11_11 <| .ite resetsFit_12_8 <| .ite resetsFit_13_7 <|
    .ite resetsFit_14_15 <| .ite resetsFit_15_14 <| .ite resetsFit_16_11 <| .ite resetsFit_18_10 <| .ite hnone <|
    .ite resetsFit_10_14 hnone

/-- A row that holds a key covers its index and subindex. -/
theorem rowOf_covers {key : Nat} {row : ObjRow} (hrow : Obj.rowOf key = some row) :
    row ∈ Obj.rowsAt (key / 256) ∧ key / 256 ≤ row.indexHi ∧ key % 256 ≤ row.subHi := by
  rw [Obj.rowOf, Obj.find?] at hrow
  have hcovers := List.find?_some hrow
  simp only [Bool.and_eq_true, decide_eq_true_eq] at hcovers
  obtain ⟨⟨⟨-, hindex⟩, -⟩, hsub⟩ := hcovers
  exact ⟨List.mem_of_find?_eq_some hrow, hindex, hsub⟩

theorem valueFits_resetValue {key : Nat} {row : ObjRow} (hrow : Obj.rowOf key = some row) :
    valueFits row.type (Obj.resetValue key) = true := by
  obtain ⟨hmem, hindex, hsub⟩ := rowOf_covers hrow
  simp only [Obj.resetValue, hrow]
  exact tableFits_rowsAt _ row hmem _ (Nat.sub_le_sub_right hindex _) _ (Nat.sub_le_sub_right hsub _)

/-! ## Fitting a value -/

theorem unsigned_eq (width : Nat) (v : Int) : (unsigned width v : Int) = v % 2 ^ width := by
  have hpos : (2 : Int) ^ width ≠ 0 := by positivity
  simp only [unsigned, Nat.cast_pow, Nat.cast_ofNat]
  exact Int.toNat_of_nonneg (Int.emod_nonneg v hpos)

theorem unsigned_unsigned (width : Nat) (v : Int) : unsigned width (unsigned width v : Int) = unsigned width v := by
  have h := unsigned_eq width (unsigned width v : Int)
  rw [unsigned_eq width v, Int.emod_emod_of_dvd _ dvd_rfl, ← unsigned_eq width v] at h
  exact_mod_cast h

/-- The signed reading differs from the unsigned one by a multiple of the modulus. -/
theorem signed_eq (width n : Nat) : ∃ q : Int, signed width n = n + q * 2 ^ width := by
  have hdiv : (n : Int) % 2 ^ width = n - 2 ^ width * (n / 2 ^ width) := Int.emod_def _ _
  simp only [signed]
  split
  · exact ⟨-(n / 2 ^ width), by push_cast; rw [hdiv]; ring⟩
  · exact ⟨-(n / 2 ^ width) - 1, by push_cast; rw [hdiv]; ring⟩

theorem unsigned_signed (width : Nat) (v : Int) : unsigned width (signed width (unsigned width v)) = unsigned width v := by
  obtain ⟨q, hq⟩ := signed_eq width (unsigned width v)
  have hmod : unsigned width ((unsigned width v : Int) + q * 2 ^ width) = unsigned width (unsigned width v : Int) := by
    simp only [unsigned, Nat.cast_pow, Nat.cast_ofNat, Int.add_mul_emod_self_right]
  rw [hq, hmod, unsigned_unsigned]

/-- A word of a width that lies in the range of its sign reads as it is. -/
theorem signed_unsigned_of_mem {width : Nat} {v : Int} (hlo : -2 ^ (width - 1) ≤ v) (hhi : v < 2 ^ (width - 1)) (hw : 0 < width) :
    signed width (unsigned width v) = v := by
  obtain ⟨w, rfl⟩ := Nat.exists_eq_add_of_lt hw
  simp only [Nat.zero_add, Nat.add_sub_cancel] at hlo hhi ⊢
  have hdouble : (2 : Int) ^ (w + 1) = 2 * 2 ^ w := by ring
  have hword : (unsigned (w + 1) v : Int) = if 0 ≤ v then v else v + 2 ^ (w + 1) := by
    rw [unsigned_eq]
    split
    · exact Int.emod_eq_of_lt (by assumption) (by omega)
    · rw [← Int.add_emod_right, Int.emod_eq_of_lt (by omega) (by omega)]
  have hmod : unsigned (w + 1) v % 2 ^ (w + 1) = unsigned (w + 1) v := by
    refine Nat.mod_eq_of_lt ?_
    have : (unsigned (w + 1) v : Int) < 2 ^ (w + 1) := by rw [hword]; split <;> omega
    exact_mod_cast this
  have hcut : (unsigned (w + 1) v < 2 ^ w) ↔ ((unsigned (w + 1) v : Int) < 2 ^ w) := by
    rw [← Nat.cast_lt (α := Int)]; push_cast; rfl
  simp only [signed, hmod, Nat.add_sub_cancel, hcut, hword]
  push_cast
  split_ifs <;> omega

/-- Fitting keeps the low bits that the type gives an entry (R422). -/
theorem unsigned_fit {key n : Nat} {row : ObjRow} {v : Int} (hrow : Obj.rowOf key = some row)
    (hlen : ObjType.length row.type = some n) (hdata : v ≠ Obj.absent) :
    unsigned (8 * n) (Obj.fit key v) = unsigned (8 * n) v := by
  simp only [Obj.fit, hdata, if_false, hrow, hlen]
  split
  · exact unsigned_signed _ _
  · exact unsigned_unsigned _ _

/-- A signed type has at least one byte. -/
theorem length_pos_of_signed {type : ObjType} {n : Nat} (hsign : ObjType.isSigned type = true)
    (hlen : ObjType.length type = some n) : 0 < n := by
  cases type <;> simp_all [ObjType.isSigned, ObjType.length] <;> omega

/-- A value in the range of its type needs no fitting. -/
theorem fit_of_valueFits {key : Nat} {row : ObjRow} {v : Int} (hrow : Obj.rowOf key = some row)
    (hfits : valueFits row.type v = true) : Obj.fit key v = v := by
  by_cases hdata : v = Obj.absent
  · rw [hdata, Obj.fit_absent]
  cases hlen : ObjType.length row.type with
  | none => simp [Obj.fit, hrow, hlen]
  | some n =>
    simp only [valueFits, hdata, decide_false, Bool.false_or, hlen] at hfits
    simp only [Obj.fit, hdata, if_false, hrow, hlen]
    split
    next hsign =>
      simp only [hsign, if_true, Bool.and_eq_true, decide_eq_true_eq] at hfits
      exact signed_unsigned_of_mem hfits.1 hfits.2 (Nat.mul_pos (by decide) (length_pos_of_signed hsign hlen))
    next hsign =>
      simp only [hsign, Bool.false_eq_true, if_false, Bool.and_eq_true, decide_eq_true_eq] at hfits
      rw [unsigned_eq, Int.emod_eq_of_lt hfits.1 hfits.2]

/-- A reset value needs no fitting. -/
theorem fit_resetValue (key : Nat) : Obj.fit key (Obj.resetValue key) = Obj.resetValue key := by
  cases hrow : Obj.rowOf key with
  | none => simp [Obj.fit, hrow]
  | some row => exact fit_of_valueFits hrow (valueFits_resetValue hrow)

/-- A value that has been fitted fits. -/
theorem fit_fit (key : Nat) (v : Int) : Obj.fit key (Obj.fit key v) = Obj.fit key v := by
  by_cases hfitted : Obj.fit key v = Obj.absent
  · rw [hfitted, Obj.fit_absent]
  by_cases hdata : v = Obj.absent
  · rw [hdata, Obj.fit_absent, Obj.fit_absent]
  cases hrow : Obj.rowOf key with
  | none => simp [Obj.fit, hrow]
  | some row =>
    cases hlen : ObjType.length row.type with
    | none => simp [Obj.fit, hrow, hlen]
    | some n =>
      have hbits := unsigned_fit hrow hlen hdata
      have hform : ∀ w, w ≠ Obj.absent → Obj.fit key w =
          if ObjType.isSigned row.type then signed (8 * n) (unsigned (8 * n) w) else (unsigned (8 * n) w : Nat) := by
        intro w hw
        simp only [Obj.fit, hw, if_false, hrow, hlen]
      rw [hform _ hfitted, hbits, ← hform v hdata]

/-! ## Fitting the store -/

/-- The fitted entries of a store, in canonical form. -/
def fitted (l : List (Nat × Int)) : List (Nat × Int) :=
  l.foldr (fun e l => Store.lead l e.1 (Obj.fit e.1 e.2) (Obj.resetValue e.1)) []

theorem fit_objs (s : State) : s.fit.objs = fitted s.objs := rfl

/-- What fitting lists is fitted, and no reset value. -/
theorem fitted_sound (l : List (Nat × Int)) :
    Store.rising (fitted l) = true ∧ ∀ p ∈ fitted l, p.2 ≠ Obj.resetValue p.1 ∧ Obj.fit p.1 p.2 = p.2 := by
  induction l with
  | nil => exact ⟨rfl, fun p hp => absurd hp List.not_mem_nil⟩
  | cons e rest ih =>
    obtain ⟨hrising, hsound⟩ := ih
    refine ⟨Store.rising_lead _ _ _ hrising, fun p hp => ?_⟩
    rcases Store.mem_lead hp with ⟨rfl, hother⟩ | hmem
    · exact ⟨hother, fit_fit _ _⟩
    · exact hsound p hmem

/-- Whatever the store was, it is sound once its registers have been fitted. -/
theorem storeSound_fit (s : State) : s.fit.storeSound = true := by
  obtain ⟨hrising, hsound⟩ := fitted_sound s.objs
  simp only [State.storeSound, State.objsWf, State.objsFit, Store.wf, Bool.and_eq_true, List.all_eq_true, decide_eq_true_eq,
    fit_objs]
  exact ⟨⟨hrising, fun p hp => (hsound p hp).1⟩, fun p hp => (hsound p hp).2⟩

/-- The entry that has been led into a store reads so. -/
theorem find?_lead_same {l : List (Nat × Int)} (hrising : Store.rising l = true) (key : Nat) (v dflt : Int) :
    (Store.find? (Store.lead l key v dflt) key).getD dflt = v := by
  cases l with
  | nil =>
    simp only [Store.lead]
    split
    next hv => simp [Store.find?, hv]
    next => simp [Store.find?]
  | cons e rest =>
    obtain ⟨k, w⟩ := e
    obtain ⟨habove, -⟩ := (Store.rising_cons k w rest).1 hrising
    simp only [Store.lead]
    split
    next hlt =>
      split
      next hv =>
        have hother : k ≠ key := Nat.ne_of_gt hlt
        rw [Store.find?, if_neg hother, Store.find?_none_of_above habove (Nat.le_of_lt hlt), hv]
        rfl
      next => simp [Store.find?]
    next => exact Store.find?_write_same _ key v dflt

/-- Every other entry reads as before. -/
theorem find?_lead_ne (l : List (Nat × Int)) {key other : Nat} (v dflt : Int) (hother : other ≠ key) :
    Store.find? (Store.lead l key v dflt) other = Store.find? l other := by
  cases l with
  | nil =>
    simp only [Store.lead]
    split
    · rfl
    · exact if_neg hother.symm
  | cons e rest =>
    obtain ⟨k, w⟩ := e
    simp only [Store.lead]
    split
    · split
      · rfl
      · exact if_neg hother.symm
    · exact Store.find?_write_ne _ v dflt hother

/-- Reading a fitted store: what the store listed first is fitted, and what it does not list has its reset value. -/
theorem find?_fitted (l : List (Nat × Int)) (key : Nat) :
    (Store.find? (fitted l) key).getD (Obj.resetValue key) = Obj.fit key ((Store.find? l key).getD (Obj.resetValue key)) := by
  induction l with
  | nil => exact (fit_resetValue key).symm
  | cons e rest ih =>
    obtain ⟨k, v⟩ := e
    have hlead : fitted ((k, v) :: rest) = Store.lead (fitted rest) k (Obj.fit k v) (Obj.resetValue k) := rfl
    rw [hlead]
    by_cases hkey : k = key
    · subst hkey
      rw [find?_lead_same (fitted_sound rest).1, Store.find?, if_pos rfl]
      rfl
    · rw [find?_lead_ne _ _ _ (Ne.symm hkey), ih, Store.find?, if_neg hkey]

theorem get_fit (s : State) (key : Nat) : s.fit.get key = Obj.fit key (s.get key) :=
  find?_fitted s.objs key

/-- Settles O54: a read of the fitted store, the low bits by how a value of each type is fitted. -/
theorem registersHoldTheirWidth : Obligations.RegistersHoldTheirWidth := by
  intro s _
  refine ⟨get_fit s, State.fit_eq s, storeSound_fit s, fun key row n hrow hlen hdata => ?_⟩
  rw [get_fit]
  exact unsigned_fit hrow hlen hdata

/-! ## Every command ends in a fitted store -/

/-- What a command answers has been fitted last. -/
theorem exec_ends_fitted (c : Instr) (s : State) : ∃ u : State, exec c s = .next u.fit := by
  cases c <;> exact ⟨_, rfl⟩

/-- Settles O50: a step on an empty queue changes nothing, and a command ends in a fitted store. -/
theorem stepKeepsStoreSound : Obligations.StepKeepsStoreSound := by
  have hcommand : ∀ s s' : State, s.pending ≠ [] → step s = .next s' → s'.storeSound = true := by
    intro s s' hqueue hstep
    obtain ⟨c, rest, hpending⟩ := List.exists_cons_of_ne_nil hqueue
    obtain ⟨u, hu⟩ := exec_ends_fitted c { s with pending := rest }
    rw [step_cons s c rest hpending, hu] at hstep
    cases hstep
    exact storeSound_fit u
  refine ⟨fun s s' hsound hstep => ?_, hcommand⟩
  by_cases hqueue : s.pending = []
  · have hidle : step s = .next s := by simp [step, hqueue]
    rw [hidle] at hstep
    cases hstep
    exact hsound
  · exact hcommand s s' hqueue hstep

/-- Settles O49: the store of the reset state is empty, and its outputs follow from the state RESET and the role ALONE. -/
theorem resetIsSound : Obligations.ResetIsSound := by
  refine ⟨rfl, ?_⟩
  decide

/-- Settles O47: a step is by its definition the front command on the queue's rest. -/
theorem stepRunsFrontCommand : Obligations.StepRunsFrontCommand :=
  ⟨step_cons, fun s c => step_cons (s.withCommand c) c s.pending rfl, fun s hidle => by simp [step, hidle],
    fun nbits w => ⟨rfl, fun s => rfl⟩⟩

end Sys2Proof.Proofs
end

section
/-!
PROOF. What a claim returns (R390): of the sources presented to a target the one of highest priority, the lowest number breaking ties.
-/

namespace Sys2Proof.Proofs

open Sys2Proof Sys2Proof.Machine

/-! ## Sorting by number -/

theorem mem_insertBy {le : Nat → Nat → Bool} {x y : Nat} (l : List Nat) : y ∈ insertBy le x l ↔ y = x ∨ y ∈ l := by
  induction l with
  | nil => simp [insertBy]
  | cons z rest ih =>
    rw [insertBy]
    split
    · simp
    · rw [List.mem_cons, ih, List.mem_cons]
      tauto

theorem mem_sortBy {le : Nat → Nat → Bool} {y : Nat} (l : List Nat) : y ∈ sortBy le l ↔ y ∈ l := by
  induction l with
  | nil => rfl
  | cons x rest ih => rw [List.mem_cons, ← ih]; exact mem_insertBy _

theorem rising_insertBy {x : Nat} {l : List Nat} (h : l.Pairwise (· ≤ ·)) :
    (insertBy (fun a b => decide (a ≤ b)) x l).Pairwise (· ≤ ·) := by
  induction l with
  | nil => exact List.pairwise_singleton _ _
  | cons y rest ih =>
    obtain ⟨hhead, hrest⟩ := List.pairwise_cons.1 h
    rw [insertBy]
    split
    next hle =>
      have hxy : x ≤ y := of_decide_eq_true hle
      refine List.pairwise_cons.2 ⟨fun z hz => ?_, h⟩
      rcases List.mem_cons.1 hz with rfl | hz
      · exact hxy
      · exact Nat.le_trans hxy (hhead z hz)
    next hle =>
      have hyx : y ≤ x := Nat.le_of_not_le fun h => hle (decide_eq_true h)
      refine List.pairwise_cons.2 ⟨fun z hz => ?_, ih hrest⟩
      rcases (mem_insertBy _).1 hz with rfl | hz
      · exact hyx
      · exact hhead z hz

theorem rising_sortBy (l : List Nat) : (sortBy (fun a b => decide (a ≤ b)) l).Pairwise (· ≤ ·) := by
  induction l with
  | nil => exact List.Pairwise.nil
  | cons x rest ih => exact rising_insertBy ih

/-! ## The best of a list -/

/-- The priority of a source (Table 15.12). -/
def priorityOf (s : State) (src : Nat) : Nat := field (s.srcCfg src) 2 3

/-- A source comes before another: a higher priority, or the same and no greater number. -/
def Precedes (s : State) (src other : Nat) : Prop :=
  priorityOf s other < priorityOf s src ∨ (priorityOf s other = priorityOf s src ∧ src ≤ other)

theorem Precedes.refl (s : State) (src : Nat) : Precedes s src src := .inr ⟨rfl, Nat.le_refl _⟩

theorem Precedes.trans {s : State} {a b c : Nat} (h : Precedes s a b) (g : Precedes s b c) : Precedes s a c := by
  unfold Precedes at *
  omega

/-- One step of the search. -/
def betterOf (s : State) (best : Option Nat) (src : Nat) : Option Nat :=
  match best with
  | none => some src
  | some b => if priorityOf s b < priorityOf s src then some src else some b

theorem icuBest_eq (s : State) (l : List Nat) : s.icuBest l = l.foldl (betterOf s) none := rfl

/-- From a best source with the rest of a rising list the search ends in one that precedes all of them. -/
theorem foldl_betterOf (s : State) {l : List Nat} {b : Nat} (h : (b :: l).Pairwise (· ≤ ·)) :
    ∃ src ∈ b :: l, l.foldl (betterOf s) (some b) = some src ∧ ∀ o ∈ b :: l, Precedes s src o := by
  induction l generalizing b with
  | nil => exact ⟨b, List.mem_cons_self, rfl, fun o ho => List.mem_singleton.1 ho ▸ .refl s _⟩
  | cons x rest ih =>
    obtain ⟨hb, hrest⟩ := List.pairwise_cons.1 h
    have hbx : b ≤ x := hb x List.mem_cons_self
    by_cases hlower : priorityOf s b < priorityOf s x
    · obtain ⟨src, hmem, hfound, hall⟩ := ih hrest
      refine ⟨src, List.mem_cons_of_mem _ hmem, ?_, fun o ho => ?_⟩
      · rw [List.foldl_cons, betterOf, if_pos hlower, hfound]
      · rcases List.mem_cons.1 ho with rfl | ho
        · exact (hall x List.mem_cons_self).trans (.inl hlower)
        · exact hall o ho
    · have hkept : (b :: rest).Pairwise (· ≤ ·) :=
        List.pairwise_cons.2 ⟨fun y hy => hb y (List.mem_cons_of_mem _ hy), (List.pairwise_cons.1 hrest).2⟩
      have hprecedes : Precedes s b x := by unfold Precedes; omega
      obtain ⟨src, hmem, hfound, hall⟩ := ih hkept
      refine ⟨src, ?_, ?_, fun o ho => ?_⟩
      · rcases List.mem_cons.1 hmem with rfl | hmem
        · exact List.mem_cons_self
        · exact List.mem_cons_of_mem _ (List.mem_cons_of_mem _ hmem)
      · rw [List.foldl_cons, betterOf, if_neg hlower, hfound]
      · rcases List.mem_cons.1 ho with rfl | ho
        · exact hall _ List.mem_cons_self
        · rcases List.mem_cons.1 ho with rfl | ho
          · exact (hall b List.mem_cons_self).trans hprecedes
          · exact hall o (List.mem_cons_of_mem _ ho)

/-- The best of a rising list precedes all of it; only an empty list has none. -/
theorem icuBest_of_rising (s : State) {l : List Nat} (h : l.Pairwise (· ≤ ·)) :
    (l = [] ∧ s.icuBest l = none) ∨ ∃ src ∈ l, s.icuBest l = some src ∧ ∀ o ∈ l, Precedes s src o := by
  cases l with
  | nil => exact .inl ⟨rfl, rfl⟩
  | cons b rest => exact .inr (foldl_betterOf s h)

/-! ## The claim -/

/-- The sources presented to a target, in rising order. -/
def presentedTo (s : State) (t : Nat) : List Nat :=
  sortBy (fun a b => decide (a ≤ b)) ((s.icu.pending.map (·.1)).eraseDups.filter fun src => s.icuPresented src t)

theorem icuTop_eq (s : State) (t : Nat) : s.icuTop t = s.icuBest (presentedTo s t) := rfl

/-- A presented source is pending in a copy (R390). -/
theorem pending_of_presented {s : State} {src t : Nat} (h : s.icuPresented src t = true) :
    src ∈ s.icu.pending.map (·.1) := by
  simp only [State.icuPresented, State.icuPending, Bool.and_eq_true, decide_eq_true_eq] at h
  obtain ⟨⟨⟨⟨⟨-, hpending⟩, -⟩, -⟩, -⟩, -⟩ := h
  exact List.mem_map.2 ⟨_, hpending, rfl⟩

theorem mem_presentedTo (s : State) (src t : Nat) : src ∈ presentedTo s t ↔ s.icuPresented src t = true := by
  rw [presentedTo, mem_sortBy, List.mem_filter, List.mem_eraseDups]
  exact ⟨And.right, fun h => ⟨pending_of_presented h, h⟩⟩

/-- Settles O55: the search over the presented sources in rising order. -/
theorem aClaimReturnsTheBest : Obligations.AClaimReturnsTheBest := by
  intro s t
  rw [icuTop_eq]
  have hrising : (presentedTo s t).Pairwise (· ≤ ·) := rising_sortBy _
  rcases icuBest_of_rising s hrising with ⟨hempty, hnone⟩ | ⟨best, hbest, hfound, hall⟩
  · refine ⟨fun src hsome => absurd (hnone.symm.trans hsome) (by simp), fun _ o => ?_, fun _ => hnone⟩
    rw [Bool.eq_false_iff, ne_eq, ← mem_presentedTo, hempty]
    exact List.not_mem_nil
  · refine ⟨fun src hsome => ?_, fun hnone => absurd (hfound.symm.trans hnone) (by simp), fun hnobody => ?_⟩
    · obtain rfl : best = src := Option.some.inj (hfound.symm.trans hsome)
      exact ⟨(mem_presentedTo s _ t).1 hbest, fun o ho => hall o ((mem_presentedTo s o t).2 ho)⟩
    · exact absurd ((mem_presentedTo s best t).1 hbest) (by simp [hnobody best])

end Sys2Proof.Proofs
end

section
/-!
PROOF. The journal (R459): what a record puts at the head of the ring, and what is dropped beyond the allowance.
-/

namespace Sys2Proof.Proofs

open Sys2Proof Sys2Proof.Machine

/-! ## Records -/

@[simp] theorem uartLine_flash (s : State) (chars : List Nat) : (s.uartLine chars).flash = s.flash := by
  simp only [State.uartLine, apply_ite State.flash, State.emit_flash, State.bump_flash, ite_self]

@[simp] theorem uartLine_log (s : State) (chars : List Nat) : (s.uartLine chars).log = s.log := by
  simp only [State.uartLine, apply_ite State.log, State.emit_log, State.bump_log, ite_self]

/-- A line of the debug UART counts at most its own loss. -/
theorem get_uartLine (s : State) (chars : List Nat) {key : Nat} (hkey : key ≠ Obj.LOG_UART_DROPPED) :
    (s.uartLine chars).get key = s.get key := by
  rw [State.uartLine]
  split
  · rfl
  · extract_lets fill after
    split
    · rw [State.get_bump, if_neg hkey]
    · rfl

/-- The record that an event makes in a state (Table 18.4). -/
def recordOf (s : State) (uptime code : Nat) (data : List Nat) (counter : Nat) (transient lasting : Bool) : JournalRecord :=
  { seq := (s.log.seq + 1) % 2 ^ 32
    boot := s.getN (Obj.LOG_CNT 0) % 2 ^ 32
    uptime := uptime
    time64 := s.time64
    orb := if s.orbRunning then s.orbCount else 0
    code := code
    state := s.devState
    role := s.devRole
    unitB := s.getN Obj.DEV_UNIT = 1
    transient := transient
    lasting := lasting
    counter := counter
    data := data }

/-- A record at the head of the ring, before its line for the debug UART. -/
def atHead (s : State) (r : JournalRecord) : State :=
  { s with
    log := { s.log with seq := r.seq }
    flash := { s.flash with journal := (r :: s.flash.journal).take 63488 } }.put Obj.LOG_JOURNAL_SEQ r.seq

theorem pushRecord_cases (s : State) (uptime code : Nat) (data : List Nat) (counter : Nat) (transient lasting : Bool) :
    let r := recordOf s uptime code data counter transient lasting
    s.pushRecord uptime code data counter transient lasting = atHead s r ∨
      ∃ chars, s.pushRecord uptime code data counter transient lasting = (atHead s r).uartLine chars := by
  by_cases hline : (atHead s (recordOf s uptime code data counter transient lasting)).bit Obj.LOG_UART_CTRL 0 = true
  · exact .inr ⟨_, if_pos hline⟩
  · exact .inl (if_neg hline)

@[simp] theorem pushRecord_flash (s : State) (uptime code : Nat) (data : List Nat) (counter : Nat) (transient lasting : Bool) :
    (s.pushRecord uptime code data counter transient lasting).flash =
      { s.flash with journal :=
          (recordOf s uptime code data counter transient lasting :: s.flash.journal).take 63488 } := by
  rcases pushRecord_cases s uptime code data counter transient lasting with h | ⟨chars, h⟩
  · rw [h]; rfl
  · rw [h, uartLine_flash]; rfl

@[simp] theorem pushRecord_log (s : State) (uptime code : Nat) (data : List Nat) (counter : Nat) (transient lasting : Bool) :
    (s.pushRecord uptime code data counter transient lasting).log = { s.log with seq := (s.log.seq + 1) % 2 ^ 32 } := by
  rcases pushRecord_cases s uptime code data counter transient lasting with h | ⟨chars, h⟩
  · rw [h]; rfl
  · rw [h, uartLine_log]; rfl

theorem get_pushRecord_seq (s : State) (uptime code : Nat) (data : List Nat) (counter : Nat) (transient lasting : Bool) :
    (s.pushRecord uptime code data counter transient lasting).get Obj.LOG_JOURNAL_SEQ = ((s.log.seq + 1) % 2 ^ 32 : Nat) := by
  rcases pushRecord_cases s uptime code data counter transient lasting with h | ⟨chars, h⟩
  · rw [h]; exact State.get_put_same _ _ _
  · rw [h, get_uartLine _ _ (by decide)]; exact State.get_put_same _ _ _

/-! ## Admitted and dropped events -/

/-- The data of a record: its subject, then the event's own (R460). -/
def withSubject (subject : Nat) (data : List Nat) : List Nat := subject % 256 :: subject / 256 % 256 :: data

/-- The allowance that a record leaves; a run of drops ends. -/
def charged (s : State) (credit : Nat) : State :=
  { s with log := { s.log with credit := credit, creditAt := s.now, dropRun := 0 } }

theorem charged_seq (s : State) (credit : Nat) : (charged s credit).log.seq = s.log.seq := rfl

theorem charged_credit (s : State) (credit : Nat) : (charged s credit).log.credit = credit := rfl

theorem charged_dropRun (s : State) (credit : Nat) : (charged s credit).log.dropRun = 0 := rfl

theorem charged_journal (s : State) (credit : Nat) : (charged s credit).flash.journal = s.flash.journal := rfl

/-- The record that tells of a run of drops (Table 18.5). -/
def runReported (s : State) (credit : Nat) : State :=
  let run := s.log.dropRun
  (charged s credit).pushRecord (charged s credit).uptime 0x0211
    [0xFF, 0xFF, run % 256, run / 256 % 256, run / 65536 % 256, run / 16777216 % 256] 0xFF false false

theorem journalFull_of_admitted {s : State} (hcredit : recordCredit ≤ s.journalCredit) (hrun : s.log.dropRun = 0)
    (code subject : Nat) (data : List Nat) (counter : Nat) (transient lasting : Bool) :
    s.journalFull code subject data counter transient lasting =
      (charged s (s.journalCredit - recordCredit)).pushRecord s.uptime code (withSubject subject data) counter transient lasting := by
  refine (if_neg (Nat.not_lt.2 hcredit)).trans ?_
  rw [if_pos hrun]
  rfl

theorem journalFull_after_drops {s : State} (hcredit : recordCredit ≤ s.journalCredit) (hrun : s.log.dropRun ≠ 0)
    (code subject : Nat) (data : List Nat) (counter : Nat) (transient lasting : Bool) :
    s.journalFull code subject data counter transient lasting =
      (runReported s (s.journalCredit - recordCredit)).pushRecord s.uptime code (withSubject subject data) counter transient lasting := by
  refine (if_neg (Nat.not_lt.2 hcredit)).trans ?_
  rw [if_neg hrun]
  rfl

/-- The first drop of a run raises source 500. -/
def dropNoted (s : State) : State := if s.log.dropRun = 0 then s.raise 500 else s

/-- An event beyond the allowance is counted. -/
def dropped (s : State) : State :=
  { (dropNoted s).bump Obj.LOG_JOURNAL_DROPPED with
    log := { (dropNoted s).log with
      credit := s.journalCredit, creditAt := (dropNoted s).now, dropRun := (dropNoted s).log.dropRun + 1 } }

theorem journalFull_of_dropped {s : State} (hcredit : s.journalCredit < recordCredit)
    (code subject : Nat) (data : List Nat) (counter : Nat) (transient lasting : Bool) :
    s.journalFull code subject data counter transient lasting = dropped s :=
  if_pos hcredit

theorem dropNoted_frame (s : State) : dropNoted s = { s with icu := (dropNoted s).icu } := by
  unfold dropNoted
  split <;> rfl

/-- The head of a ring that keeps n + 1 records, and what follows it. -/
theorem take_cons_take {α : Type} (x y : α) (l : List α) (n : Nat) :
    (x :: (y :: l).take (n + 1)).take (n + 1) = (x :: y :: l).take (n + 1) := by
  rw [List.take_succ_cons, List.take_take, Nat.min_eq_left (Nat.le_succ n), List.take_succ_cons]

theorem dropped_shows (s : State) :
    (dropped s).flash.journal = s.flash.journal ∧
      (dropped s).get Obj.LOG_JOURNAL_DROPPED = min (s.get Obj.LOG_JOURNAL_DROPPED + 1) 0xFFFFFFFF ∧
      (dropped s).log.dropRun = s.log.dropRun + 1 ∧ (dropped s).log.seq = s.log.seq ∧
      (s.log.dropRun = 0 → (dropped s).sourcePending 500) := by
  have hlog : (dropNoted s).log = s.log := by rw [dropNoted_frame]
  have hflash : (dropNoted s).flash = s.flash := by rw [dropNoted_frame]
  refine ⟨(congrArg Flash.journal hflash :), ?counted, (congrArg (LogUnit.dropRun · + 1) hlog :), (congrArg LogUnit.seq hlog :),
    fun hrun => ?pending⟩
  case counted =>
    have hget : (dropNoted s).get Obj.LOG_JOURNAL_DROPPED = s.get Obj.LOG_JOURNAL_DROPPED :=
      by
      rw [dropNoted_frame]; rfl
    rw [← hget]
    exact State.get_put_same _ _ _
  case pending =>
    have hraised : dropNoted s = s.raise 500 := if_pos hrun
    exact sourcePending_kept (by decide) (sourcePending_raise s 500) (.of_icu (congrArg State.icu hraised :))

/-- What a record that is admitted at once shows. -/
theorem pushRecord_charged (s : State) (credit uptime code : Nat) (data : List Nat) (counter : Nat) (transient lasting : Bool) :
    ∀ u, u = (charged s credit).pushRecord uptime code data counter transient lasting →
      (u.flash.journal.head?).map (fun r => (r.seq, r.code, r.state, r.role, r.counter, r.data)) =
          some ((s.log.seq + 1) % 2 ^ 32, code, s.devState, s.devRole, counter, data) ∧
        u.flash.journal.tail = s.flash.journal.take 63487 ∧
        u.get Obj.LOG_JOURNAL_SEQ = ((s.log.seq + 1) % 2 ^ 32 : Nat) ∧ u.log.credit = credit := by
  rintro _ rfl
  rw [pushRecord_flash, pushRecord_log, get_pushRecord_seq, charged_seq, charged_journal]
  simp only [List.take_succ_cons, List.head?_cons, Option.map_some, List.tail_cons, charged_credit, and_self, and_true]
  rfl

/-- What a record after a run of drops shows. -/
theorem pushRecord_runReported (s : State) (credit uptime code : Nat) (data : List Nat) (counter : Nat)
    (transient lasting : Bool) :
    ∀ u, u = (runReported s credit).pushRecord uptime code data counter transient lasting →
      u.flash.journal.map (·.code) = (code :: 0x0211 :: s.flash.journal.map (·.code)).take 63488 ∧ u.log.dropRun = 0 ∧
        u.log.seq = ((s.log.seq + 1) % 2 ^ 32 + 1) % 2 ^ 32 := by
  rintro _ rfl
  rw [pushRecord_flash, pushRecord_log, runReported, pushRecord_flash, pushRecord_log, charged_seq, charged_journal,
    charged_dropRun, take_cons_take, List.map_take]
  exact ⟨rfl, rfl, rfl⟩

/-- Settles O57: an event is admitted, admitted with the report of the drops before it, or dropped. -/
theorem theJournalAdmitsOrDrops : Obligations.TheJournalAdmitsOrDrops := by
  rintro s code subject data counter transient lasting _ rfl
  refine ⟨fun hcredit hrun => ?admitted, fun hcredit hrun => ?reported, fun hcredit => ?dropped, fun hlength => ?length⟩
  case admitted => exact pushRecord_charged s _ _ _ _ _ _ _ _ (journalFull_of_admitted hcredit hrun ..)
  case reported => exact pushRecord_runReported s _ _ _ _ _ _ _ _ (journalFull_after_drops hcredit hrun ..)
  case dropped =>
    rw [journalFull_of_dropped hcredit]
    exact dropped_shows s
  case length =>
    by_cases hcredit : s.journalCredit < recordCredit
    · rw [journalFull_of_dropped hcredit, (dropped_shows s).1]
      exact hlength
    · have hring : ∀ (a : State) (u c : Nat) (d : List Nat) (n : Nat) (x y : Bool),
          (a.pushRecord u c d n x y).flash.journal.length ≤ 63488 := by
        intro a u c d n x y
        rw [pushRecord_flash]
        exact List.length_take_le _ _
      by_cases hrun : s.log.dropRun = 0
      · rw [journalFull_of_admitted (Nat.not_lt.1 hcredit) hrun]
        exact hring ..
      · rw [journalFull_after_drops (Nat.not_lt.1 hcredit) hrun]
        exact hring ..

end Sys2Proof.Proofs
end

section
/-!
PROOF. Triggers of Comet (R408, R412), and the blocks that a command about their age completes (R403).
-/

namespace Sys2Proof.Proofs

open Sys2Proof Sys2Proof.Machine

/-! ## Blocks -/

/-- What writing a block leaves alone: the entries but the two counts of blocks, and the triggers that have fired. -/
structure BlockWritten (a b : State) : Prop where
  entries : a.onlyEntries b [Obj.CMT_WRITTEN, Obj.CMT_LOSS_BLOCKS]
  fired : b.cmt.fired = a.cmt.fired

theorem BlockWritten.refl (s : State) : BlockWritten s s := ⟨fun _ _ => rfl, rfl⟩

theorem BlockWritten.trans {a b c : State} (h : BlockWritten a b) (g : BlockWritten b c) : BlockWritten a c :=
  ⟨onlyEntries_trans h.entries g.entries, g.fired.trans h.fired⟩

theorem BlockWritten.ite {s a b : State} {p : Prop} [Decidable p] (ha : BlockWritten s a) (hb : BlockWritten s b) :
    BlockWritten s (if p then a else b) := by
  split
  · exact ha
  · exact hb

theorem blockWritten_put (s : State) {key : Nat} (hkey : key ∈ [Obj.CMT_WRITTEN, Obj.CMT_LOSS_BLOCKS]) (v : Int) :
    BlockWritten s (s.put key v) :=
  ⟨fun _ hother => State.get_put_ne s v fun h => hother (h ▸ hkey), rfl⟩

theorem blockWritten_push (s : State) (b : CmtBlock) : BlockWritten s (s.cmtPush b) := by
  unfold State.cmtPush
  extract_lets c loss b' w held kept kept' s1 s2
  have hs1 : BlockWritten s s1 := ⟨fun _ _ => rfl, rfl⟩
  have hs2 : BlockWritten s s2 := hs1.trans (blockWritten_put s1 (by decide) _)
  exact .ite (hs2.trans ⟨fun _ _ => rfl, rfl⟩) hs2

theorem blockWritten_take (s : State) (b : CmtBlock) : BlockWritten s (s.cmtTake b) := by
  refine .ite (.refl s) (.ite ?_ (blockWritten_push s b))
  exact .trans (b := s.withCmt fun c => { c with lossDue := true, lossSeen := true, lostBlocks := c.lostBlocks + 1 })
    ⟨fun _ _ => rfl, rfl⟩ (blockWritten_put _ (by decide) _)

theorem blockWritten_write (s : State) (b : CmtBlock) : BlockWritten s (s.cmtWrite b) :=
  .trans (.ite (blockWritten_take s _) (.refl s)) (blockWritten_take _ b)

theorem cmtComplete_of_none {s : State} (h : s.cmt.partials = []) (due : Nat → Bool) : s.cmtComplete due = s := by
  simp only [State.cmtComplete, State.withCmt, h, List.filter_nil, List.foldl_nil]
  rw [← h]

/-! ## Triggers that fired together -/

/-- The trigger codes of the manual lie below the code the search begins with. -/
theorem cmtLeast_spec (l : List (Nat × Nat × Nat)) :
    (cmtLeast l ∈ l ∨ cmtLeast l = (1000, 0, 0)) ∧ ∀ f ∈ l, (cmtLeast l).1 ≤ f.1 := by
  have hfold : ∀ (l : List (Nat × Nat × Nat)) (m : Nat × Nat × Nat),
      let r := l.foldl (fun m p => if p.1 < m.1 then p else m) m
      (r ∈ l ∨ r = m) ∧ r.1 ≤ m.1 ∧ ∀ f ∈ l, r.1 ≤ f.1 := by
    intro l
    induction l with
    | nil => exact fun m => ⟨.inr rfl, Nat.le_refl _, fun f hf => absurd hf List.not_mem_nil⟩
    | cons p rest ih =>
      intro m
      rw [List.foldl_cons]
      obtain ⟨hmem, hle, hall⟩ := ih (if p.1 < m.1 then p else m)
      refine ⟨?_, ?_, fun f hf => ?_⟩
      · rcases hmem with hmem | hmem
        · exact .inl (List.mem_cons_of_mem _ hmem)
        · rw [hmem]
          split
          · exact .inl List.mem_cons_self
          · exact .inr rfl
      · refine Nat.le_trans hle ?_
        split <;> omega
      · rcases List.mem_cons.1 hf with rfl | hf
        · refine Nat.le_trans hle ?_
          split <;> omega
        · exact hall f hf
  obtain ⟨hmem, -, hall⟩ := hfold l (1000, 0, 0)
  exact ⟨hmem, hall⟩

/-- The mask of triggers that fired together. -/
def firedMask (l : List (Nat × Nat × Nat)) : Nat := l.foldl (fun m p => m ||| 2 ^ p.1) 0

theorem bitOf_firedMask {l : List (Nat × Nat × Nat)} {f : Nat × Nat × Nat} (hf : f ∈ l) : bitOf (firedMask l) f.1 = true := by
  have hfold : ∀ (l : List (Nat × Nat × Nat)) (m : Nat), f ∈ l ∨ m.testBit f.1 = true →
      (l.foldl (fun m p => m ||| 2 ^ p.1) m).testBit f.1 = true := by
    intro l
    induction l with
    | nil =>
      rintro m (hf | hm)
      · exact absurd hf List.not_mem_nil
      · exact hm
    | cons p rest ih =>
      intro m hor
      refine ih _ ?_
      rcases hor with hf | hm
      · rcases List.mem_cons.1 hf with rfl | hf
        · exact .inr (by simp [Nat.testBit_or])
        · exact .inl hf
      · exact .inr (by simp [Nat.testBit_or, hm])
  exact hfold l 0 (.inl hf)

/-- The low 32 bits of an extended time are the TIME32 it extends (R324). -/
theorem extendTime_mod (shadow ts : Nat) : extendTime shadow ts % 2 ^ 32 = ts % 2 ^ 32 := by
  simp only [extendTime]
  split <;> omega

/-! ## The trigger -/

/-- The trigger that the fired sources make (R408). -/
def madeTrigger (s : State) : CmtTrigger :=
  let best := cmtLeast s.cmt.fired
  { code := best.1, mask := firedMask s.cmt.fired, time := s.extended best.2.1, frac := best.2.2
    levels := s.cmt.levels, orb := s.orbCount, device := s.now }

/-- The fired sources have been taken, and the TRIGGER marker is written (R403). -/
def markerWritten (s : State) : State :=
  (s.withCmt fun c => { c with fired := [] }).cmtWrite
    { type := 4, channel := 1, loss := false, post := false, index := 0, entries := [], words := [] }

/-- The tail begins (R412). -/
def tailBegun (s : State) : State :=
  (((markerWritten s).withCmt fun c => { c with
    trigger := some (madeTrigger s)
    comaShort := s.cmt.written - s.cmt.armIndex < (markerWritten s).getN Obj.CMT_COMA_BLOCKS
    comaKept := c.blocks.length
    tailDone := 0 }).put Obj.CMT_STATE 2).raise 416

theorem cmtTrigger_begins_tail {s : State} (hnone : s.cmt.trigger = none) (hfired : s.cmt.fired ≠ [])
    (hpartials : s.cmt.partials = []) : s.cmtTrigger = tailBegun s := by
  have hsome : ¬ s.cmt.fired.isEmpty = true := fun h => hfired (List.isEmpty_iff.1 h)
  have hcomplete : (s.withCmt fun c => { c with fired := [] }).cmtComplete (fun _ => true) =
      s.withCmt fun c => { c with fired := [] } := cmtComplete_of_none (s := s.withCmt fun c => { c with fired := [] }) hpartials _
  simp only [State.cmtTrigger, hsome, hnone, hcomplete]
  rfl

/-- Settles O56: the least of the fired codes makes the trigger, and the marker's block touches neither it nor the sources. -/
theorem aTriggerEndsTheComa : Obligations.ATriggerEndsTheComa := by
  intro s
  refine ⟨fun hnone => if_pos (List.isEmpty_iff.2 hnone), fun _ hnone hfired hpartials => ?_⟩
  have hwritten : BlockWritten (s.withCmt fun c => { c with fired := [] }) (markerWritten s) := blockWritten_write _ _
  obtain ⟨hmem, hleast⟩ := cmtLeast_spec s.cmt.fired
  rw [cmtTrigger_begins_tail hnone hfired hpartials]
  refine ⟨?state, hwritten.fired, sourcePending_raise _ _, ⟨madeTrigger s, rfl, ?member, ?sources, rfl, rfl⟩, ?short⟩
  case state => exact congrArg Int.toNat (State.get_put_same _ Obj.CMT_STATE 2 :)
  case member =>
    have htime : (madeTrigger s).time % 2 ^ 32 = (cmtLeast s.cmt.fired).2.1 % 2 ^ 32 := extendTime_mod _ _
    rw [htime]
    rcases hmem with hmem | hmem
    · exact List.mem_append_left _ (List.mem_map.2 ⟨_, hmem, rfl⟩)
    · refine List.mem_append_right _ (List.mem_singleton.2 ?_)
      simp only [madeTrigger, hmem, Nat.zero_mod]
  case sources => exact fun f hf => ⟨hleast f hf, bitOf_firedMask hf⟩
  case short =>
    have hcoma : (markerWritten s).getN Obj.CMT_COMA_BLOCKS = s.getN Obj.CMT_COMA_BLOCKS :=
      congrArg Int.toNat (hwritten.entries Obj.CMT_COMA_BLOCKS (by decide))
    rw [← hcoma]
    exact decide_eq_true_iff

end Sys2Proof.Proofs
end

section
/-!
PROOF. The statement about Comet's captures: its clause about blocks that have not waited 1 ms speaks of one partial block, and another
one may have (R403).
-/

namespace Sys2Proof.Proofs

open Sys2Proof Sys2Proof.Machine

/-! ## What follows a command in CONFIG without a partner and without a measurement clock -/

/-- No measurement group is on, no partner is configured, no chopper is driven, and Comet sees no boolean channel. -/
structure Quiet (s : State) : Prop where
  state : s.get Obj.DEV_STATE = stConfig
  groups : ∀ g < 4, s.grpOn g = false
  alone : s.hasPartner = false
  choppers : ∀ c ∈ s.prt.choppers, c.driven = false
  unseen : ∀ i < 64, s.get (Obj.CMT_BOOL_SRC i) = 0
  levels : s.cmt.levels = 0
  unfired : s.cmt.fired = []

theorem meaSources_of_groups_off {s : State} (h : ∀ g < 4, s.grpOn g = false) : s.meaSources = s := by
  refine foldl_related (R := fun a b => a = s → b = s) (fun _ => id) (fun f g ha => g (f ha)) _ (fun a g hg ha => ?_) s rfl
  rw [ha, State.meaSourced, h g (List.mem_range.1 hg)]
  simp

theorem recordChanges_of_alone {before s : State} (h : s.hasPartner = false) : before.recordChanges s = s := by
  simp [State.recordChanges, h]

theorem tripServe_of_config {s : State} (h : s.devState = stConfig) : s.tripServe = s := by
  simp [State.tripServe, h]

theorem dchDrive_of_undriven {s : State} (hdrives : s.dchDrives = false) (h : ∀ c ∈ s.prt.choppers, c.driven = false) :
    s.dchDrive = s := by
  refine List.foldl_fixed' (fun k => ?_) _
  split
  · rfl
  next c hc => rw [if_pos ((h c (List.mem_of_getElem? hc)).trans hdrives.symm)]

theorem carMaskOne_cmt (s : State) (k : Nat) : (s.carMaskOne k).cmt = s.cmt := by
  unfold State.carMaskOne
  split
  · rfl
  · split
    · rw [State.setBit_cmt, State.setBit_cmt, State.withChannel_cmt]
      exact foldl_related (R := fun a b => b.cmt = a.cmt) (fun _ => rfl) (fun h g => g.trans h) _
        (fun s _ _ => (State.raise_cmt _ _).trans (State.bump_cmt s _)) s
    · rfl

/-- Masks change entries of the carrier tables alone. -/
theorem get_carMaskOne (s : State) {k key : Nat} (hk : k < 24) (hkey : 0x260000 ≤ key) : (s.carMaskOne k).get key = s.get key := by
  have hstatus : key ≠ Obj.CAR_CH_STATUS k := by simp only [Obj.CAR_CH_STATUS]; omega
  have hcount : key ≠ Obj.CAR_MASK_COUNT k := by simp only [Obj.CAR_MASK_COUNT]; omega
  unfold State.carMaskOne
  split
  · rfl
  · split
    · rw [State.get_setBit, if_neg hstatus, State.get_setBit, if_neg hstatus, State.get_withChannel]
      refine foldl_related (R := fun a b => b.get key = a.get key) (fun _ => rfl) (fun h g => g.trans h) _ (fun s _ _ => ?_) s
      rw [State.get_raise, State.get_bump, if_neg hcount]
    · rw [State.get_setBit, if_neg hstatus, State.get_setBit, if_neg hstatus, State.get_withChannel]

theorem carMasks_cmt (s : State) : s.carMasks.cmt = s.cmt :=
  foldl_related (R := fun a b => b.cmt = a.cmt) (fun _ => rfl) (fun h g => g.trans h) _ (fun s k _ => carMaskOne_cmt s k)
    (s.setBit Obj.CAR_UNIT_STATUS 2 s.carBlock)

theorem get_carMasks (s : State) {key : Nat} (hkey : 0x260000 ≤ key) : s.carMasks.get key = s.get key := by
  have hunit : key ≠ Obj.CAR_UNIT_STATUS := by simp only [Obj.CAR_UNIT_STATUS]; omega
  have hmasks : s.carMasks.get key = (s.setBit Obj.CAR_UNIT_STATUS 2 s.carBlock).get key :=
    foldl_related (R := fun a b => b.get key = a.get key) (fun _ => rfl) (fun h g => g.trans h) _
      (fun s k hk => get_carMaskOne s (List.mem_range.1 hk) hkey) _
  rw [hmasks, State.get_setBit, if_neg hunit]

/-- Channels without a source are low. -/
theorem cmtPattern_of_unseen {s : State} (h : ∀ i < 64, s.getN (Obj.CMT_BOOL_SRC i) = 0) : s.cmtPattern = 0 := by
  have hlow : (List.range 64).map (fun i => s.signal (s.getN (Obj.CMT_BOOL_SRC i))) = (List.range 64).map fun _ => false :=
    List.map_congr_left fun i hi => by
      rw [h i (List.mem_range.1 hi), State.signal]
      exact if_pos rfl
  rw [State.cmtPattern, hlow]
  decide

theorem cmt_withCmt (s : State) (f : Cmt → Cmt) : (s.withCmt f).cmt = f s.cmt := rfl

/-- Comet that sees nothing new, with no source fired, keeps its partial blocks. -/
theorem cmtSee_partials {s : State} (hpattern : s.cmtPattern = 0) (hlevels : s.cmt.levels = 0) (hfired : s.cmt.fired = [])
    (fine : Option Int) : (s.cmtSee fine).cmt.partials = s.cmt.partials := by
  rw [State.cmtSee, hpattern]
  split
  · rfl
  · extract_lets old new s1 s2 s3 began s4
    have hs2 : s2 = s1 := if_pos hlevels
    have hs3 : s3.cmt.partials = s.cmt.partials ∧ s3.cmt.fired = [] := by
      unfold s3
      rw [hs2]
      split <;> exact ⟨rfl, hfired⟩
    have hs4 : s4.cmt.partials = s.cmt.partials ∧ s4.cmt.fired = [] := by
      unfold s4
      split
      · simpa only [cmt_withCmt] using hs3
      · exact hs3
    rw [State.cmtTrigger, if_pos (List.isEmpty_iff.2 hs4.2)]
    exact hs4.1

theorem fit_zero (key : Nat) : Obj.fit key 0 = 0 := by
  have hunsigned : ∀ n, unsigned n 0 = 0 := fun n => by simp [unsigned]
  have hsigned : ∀ n, signed n 0 = 0 := fun n => by simp [signed]
  rw [Obj.fit, if_neg (by decide)]
  split
  · rfl
  · split
    · rfl
    · simp only [hunsigned, hsigned, Nat.cast_zero, ite_self]

/-- What follows a command in such a state keeps Comet's partial blocks. -/
theorem settle_partials_of_quiet {before s : State} (h : Quiet s) : (State.settle before s).cmt.partials = s.cmt.partials := by
  have hstate : s.fit.devState = stConfig := by
    rw [State.devState, State.getN, get_fit, h.state]
    decide
  have hdrives : s.fit.dchDrives = false := by
    rw [State.dchDrives, hstate]
    rfl
  have hunseen : ∀ i < 64, s.fit.carMasks.getN (Obj.CMT_BOOL_SRC i) = 0 := by
    intro i hi
    have hkey : 0x260000 ≤ Obj.CMT_BOOL_SRC i := by simp only [Obj.CMT_BOOL_SRC]; omega
    rw [State.getN, get_carMasks _ hkey, get_fit, h.unseen i hi, fit_zero]
    rfl
  have hcmt : s.fit.carMasks.cmt = s.cmt := carMasks_cmt s.fit
  have hdrive : s.fit.dchDrive = s.fit := dchDrive_of_undriven hdrives h.choppers
  have hsee : (s.fit.carMasks.cmtSee none).cmt.partials = s.cmt.partials := by
    rw [cmtSee_partials (cmtPattern_of_unseen hunseen) (by rw [hcmt, h.levels]) (by rw [hcmt, h.unfired]), hcmt]
  rw [State.settle_eq, State.settleAt, meaSources_of_groups_off h.groups, recordChanges_of_alone h.alone]
  rw [tripServe_of_config hstate, hdrive, State.fit_cmt]
  exact hsee

/-! ## A block that has waited, and one that has not -/

/-- A partial block of an analog channel. -/
def partialBlock (channel : Nat) : CmtBlock :=
  { type := 1, channel := channel, loss := false, post := false, index := 0, entries := [], words := [] }

/-- Comet is ARMED in CONFIG with two partial blocks: at device time 1 ms one of them has waited 1 ms, and the other is new. -/
def armedState : State :=
  let s := (State.reset.put Obj.DEV_STATE stConfig).put Obj.CMT_STATE 1
  { s with cmt := { s.cmt with partials := [(partialBlock 0, 0), (partialBlock 1, 1000000)] } }

theorem partials_armedState : armedState.cmt.partials = [(partialBlock 0, 0), (partialBlock 1, 1000000)] := rfl

/-- So does every state that differs from it in its time alone and reads alike. -/
theorem quiet_of_armedState {u : State} (hentries : armedState.onlyEntries u [])
    (hunits : u = { armedState.land 1000000 with objs := u.objs }) : Quiet u := by
  have hget : ∀ key, u.get key = armedState.get key := fun key => hentries key List.not_mem_nil
  have hprt : u.prt = State.reset.prt := by rw [hunits]; rfl
  have hcmt : u.cmt = armedState.cmt := by rw [hunits]; rfl
  have hgroups : ∀ g < 4, armedState.grpOn g = false := by decide
  have hunseen : ∀ i < 64, armedState.get (Obj.CMT_BOOL_SRC i) = 0 := by decide +kernel
  refine ⟨?state, fun g hg => ?groups, ?alone, ?choppers, fun i hi => ?unseen, ?levels, ?unfired⟩
  case state => rw [hget]; decide
  case groups =>
    rw [State.grpOn, State.bit, State.getN, hget]
    exact hgroups g hg
  case alone =>
    rw [State.hasPartner, State.bit, State.getN, hget]
    decide
  case choppers => rw [hprt]; decide
  case unseen => rw [hget, hunseen i hi]
  case levels => rw [hcmt]; rfl
  case unfired => rw [hcmt]; rfl

/-- The effect of the command: the block that has waited 1 ms is completed. -/
def ageCompleted (s : State) : State := s.cmtComplete fun since => decide (since + 1000000 ≤ s.now)

theorem completed_armedState :
    (State.settle (armedState.land 1000000) (ageCompleted (armedState.land 1000000))).cmt.partials =
      [(partialBlock 1, 1000000)] := by
  decide +kernel

/-- Refutes O45: its clause about blocks that have not waited 1 ms holds the whole state for any one such block, but a command about the
age of blocks completes every block that has waited (R403). `armedState` holds one of each. -/
theorem not_cometCapturesAndStores : ¬ Obligations.CometCapturesAndStores := by
  intro h
  obtain ⟨-, -, -, -, -, -, -, -, hyoung, -⟩ := h armedState 1000000
  have hmem : (partialBlock 1, 1000000) ∈ armedState.cmt.partials := by
    rw [partials_armedState]
    exact .tail _ (.head _)
  have hyet : (armedState.land 1000000).now < 1000000 + 1000000 := by decide
  obtain ⟨u, hexec, hentries, hunits⟩ := hyoung (partialBlock 1, 1000000) hmem hyet
  have hsettled : State.settle (armedState.land 1000000) (ageCompleted (armedState.land 1000000)) =
      State.settle (armedState.land 1000000) u := Host.Outcome.next.inj hexec
  have hkept := settle_partials_of_quiet (before := armedState.land 1000000) (quiet_of_armedState hentries hunits)
  have hpartials : u.cmt.partials = armedState.cmt.partials := by rw [hunits]; rfl
  rw [hpartials, partials_armedState, ← hsettled, completed_armedState] at hkept
  exact absurd (congrArg List.length hkept) (by decide)

end Sys2Proof.Proofs
end

section
/-!
PROOF. The DPLL and its references (R351): what an entry of a state of Table 14.3 shows, by the state that it leaves.
-/

namespace Sys2Proof.Proofs

open Sys2Proof Sys2Proof.Machine

/-! ## What the clock unit does outside RESET -/

theorem clocked_of_running {s : State} (hst : s.devState ≠ stReset) (act : State → State) : s.clocked act = act s := if_neg hst

/-- A DPLL state is shown with its lock bit (Table 14.3). -/
def dpllShown (s : State) (st : Nat) : State :=
  ((s.put Obj.CLK_DPLL_STATE st).setBit Obj.CLK_STATUS 6 (st = 2)).withClk fun c =>
    { c with wasLocked := if st = 2 then true else if st = 0 then false else c.wasLocked }

/-- HOLDOVER begins: counted, timed and logged (R351). -/
def holdoverBegun (s : State) : State :=
  (((s.bump Obj.CLK_HOLDOVER_COUNT).count 0x11).withClk fun c => { c with holdSince := some s.now }).raise 480

/-- HOLDOVER ends with its duration (R351). -/
def holdoverEnded (s : State) : State :=
  (s.put Obj.CLK_HOLDOVER_TIME s.holdoverSeconds).withClk fun c => { c with holdSince := none }

theorem dpllEnter_plain {s : State} {st : Nat} (hne : s.dpll ≠ st) (hfrom : s.dpll ≠ 3) (hto : st ≠ 3) :
    s.dpllEnter st = dpllShown s st := by
  simp only [State.dpllEnter, hne, hfrom, hto, if_false]
  rfl

theorem dpllEnter_holdover {s : State} (hfrom : s.dpll ≠ 3) :
    s.dpllEnter 3 = (holdoverBegun (dpllShown s 3)).journalFull 480 noSubject [] 0x11 false false := by
  simp only [State.dpllEnter, hfrom, if_false, if_true]
  rfl

theorem dpllEnter_from_holdover {s : State} {st : Nat} (hfrom : s.dpll = 3) (hto : st ≠ 3) :
    s.dpllEnter st = dpllShown ((holdoverEnded s).event 481 noSubject []) st := by
  have hne : s.dpll ≠ st := fun h => hto (h.symm.trans hfrom)
  rw [State.dpllEnter, if_neg hne, if_pos hfrom, if_neg hto]
  rfl

theorem get_dpllShown (s : State) (st : Nat) {key : Nat} (hstate : key ≠ Obj.CLK_DPLL_STATE) (hstatus : key ≠ Obj.CLK_STATUS) :
    (dpllShown s st).get key = s.get key := by
  rw [dpllShown, State.get_withClk, State.get_setBit, if_neg hstatus, State.get_put, if_neg hstate]

theorem dpll_dpllShown (s : State) (st : Nat) : (dpllShown s st).dpll = st := by
  rw [State.dpll, dpllShown, State.getN_withClk, State.getN_setBit, if_neg (by decide), State.getN_put, if_pos rfl,
    Int.toNat_natCast]

theorem bit_dpllShown_lock (s : State) (st : Nat) : (dpllShown s st).bit Obj.CLK_STATUS 6 = decide (st = 2) := by
  rw [dpllShown, State.bit_withClk, State.bit_setBit, if_pos rfl, if_pos rfl]

theorem bit_dpllShown_status (s : State) (st : Nat) {i : Nat} (hi : i ≠ 6) :
    (dpllShown s st).bit Obj.CLK_STATUS i = s.bit Obj.CLK_STATUS i := by
  rw [dpllShown, State.bit_withClk, State.bit_setBit, if_pos rfl, if_neg hi, State.bit_put, if_neg (by decide)]

/-- An entry to a state other than HOLDOVER from one other than HOLDOVER shows the state and nothing else. -/
theorem onlyEntries_dpllShown (s : State) (st : Nat) : s.onlyEntries (dpllShown s st) [Obj.CLK_DPLL_STATE, Obj.CLK_STATUS] := by
  intro key hkey
  simp only [List.mem_cons, List.not_mem_nil, or_false, not_or] at hkey
  exact get_dpllShown s st hkey.1 hkey.2

/-- HOLDOVER is entered: what it shows (R351). -/
theorem dpllEnter_holdover_shows {s : State} (hfrom : s.dpll ≠ 3) :
    let u := s.dpllEnter 3
    u.dpll = 3 ∧ u.bit Obj.CLK_STATUS 6 = false ∧ u.bit Obj.CLK_STATUS 8 = s.bit Obj.CLK_STATUS 8 ∧
      u.get Obj.CLK_HOLDOVER_COUNT = min (s.get Obj.CLK_HOLDOVER_COUNT + 1) 0xFFFFFFFF ∧
      u.clk = { s.clk with holdSince := some s.now } ∧
      u.sourcePending 480 ∧
      s.entriesBut u [Obj.CLK_DPLL_STATE, Obj.CLK_STATUS, Obj.CLK_HOLDOVER_COUNT] ∧
      u = { s with objs := u.objs, clk := u.clk, icu := u.icu, log := u.log, flash := u.flash, dict := u.dict, out := u.out } := by
  intro u
  have hu : u = (holdoverBegun (dpllShown s 3)).journalFull 480 noSubject [] 0x11 false false := dpllEnter_holdover hfrom
  have hlog : (holdoverBegun (dpllShown s 3)).LogOnly u := hu ▸ State.logOnly_journalFull ..
  have hget : ∀ key, isLogEntry key = false →
      u.get key = if key = Obj.CLK_HOLDOVER_COUNT then min (s.get Obj.CLK_HOLDOVER_COUNT + 1) 0xFFFFFFFF
        else (dpllShown s 3).get key := by
    intro key hkey
    have hcount : key ≠ Obj.LOG_CNT (0x11 - 1) := fun h => absurd (h ▸ hkey) (by decide)
    rw [hlog.1 key hkey, holdoverBegun, State.get_raise, State.get_withClk, State.get_count, if_neg hcount, State.get_bump,
      get_dpllShown s 3 (by decide) (by decide)]
  have hstatus : u.get Obj.CLK_STATUS = (dpllShown s 3).get Obj.CLK_STATUS := by rw [hget _ (by decide), if_neg (by decide)]
  refine ⟨?state, ?lock, ?ref, ?count, ?clk, ?pending, fun key hkey hnot => ?others, ?frame⟩
  case state =>
    rw [State.dpll, State.getN, hget _ (by decide), if_neg (by decide)]
    exact dpll_dpllShown s 3
  case lock =>
    rw [State.bit, State.getN, hstatus]
    exact bit_dpllShown_lock s 3
  case ref =>
    rw [State.bit, State.getN, hstatus]
    exact bit_dpllShown_status s 3 (by decide)
  case count => rw [hget _ (by decide), if_pos rfl]
  case clk =>
    rw [hu, State.journalFull_clk]
    rfl
  case pending =>
    rw [hu]
    exact sourcePending_kept (by decide) (sourcePending_raise _ 480) (keepsPending_journalFull _ _ _ _ _ _ _)
  case others =>
    simp only [List.mem_cons, List.not_mem_nil, or_false, not_or] at hnot
    obtain ⟨hs, ht, hc⟩ := hnot
    rw [hget key hkey, if_neg hc, get_dpllShown s 3 hs ht]
  case frame =>
    rw [hlog.2]
    rfl

/-- HOLDOVER is left for another state: what it shows (R351). -/
theorem dpllEnter_from_holdover_shows {s : State} {st : Nat} (hfrom : s.dpll = 3) (hto : st ≠ 3) :
    let u := s.dpllEnter st
    u.dpll = st ∧ u.bit Obj.CLK_STATUS 8 = s.bit Obj.CLK_STATUS 8 ∧
      u.clk.holdSince = none ∧
      u.get Obj.CLK_HOLDOVER_TIME = s.holdoverSeconds ∧
      u.sourcePending 481 ∧
      s.entriesBut u [Obj.CLK_DPLL_STATE, Obj.CLK_STATUS, Obj.CLK_HOLDOVER_TIME] ∧
      u = { s with objs := u.objs, clk := u.clk, icu := u.icu, log := u.log, flash := u.flash, dict := u.dict, out := u.out } := by
  intro u
  have hu : u = dpllShown ((holdoverEnded s).event 481 noSubject []) st := dpllEnter_from_holdover hfrom hto
  have hlog : (holdoverEnded s).LogOnly ((holdoverEnded s).event 481 noSubject []) := State.logOnly_event ..
  have hget : ∀ key, isLogEntry key = false → key ≠ Obj.CLK_DPLL_STATE → key ≠ Obj.CLK_STATUS →
      u.get key = if key = Obj.CLK_HOLDOVER_TIME then s.holdoverSeconds else s.get key := by
    intro key hkey hs ht
    rw [hu, get_dpllShown _ st hs ht, hlog.1 key hkey, holdoverEnded, State.get_withClk, State.get_put]
  refine ⟨?state, ?ref, ?clk, ?time, ?pending, fun key hkey hnot => ?others, ?frame⟩
  case state => rw [hu, dpll_dpllShown]
  case ref =>
    rw [hu, bit_dpllShown_status _ _ (by decide), bit_of_logOnly hlog (by decide), holdoverEnded, State.bit_withClk, State.bit_put,
      if_neg (by decide)]
  case clk =>
    rw [hu, dpllShown]
    show ((holdoverEnded s).event 481 noSubject []).clk.holdSince = none
    rw [State.event_clk]
    rfl
  case time => rw [hget _ (by decide) (by decide) (by decide), if_pos rfl]
  case pending =>
    rw [hu]
    exact sourcePending_kept (by decide) (sourcePending_event _ (by decide) _ _) (.of_icu rfl)
  case others =>
    simp only [List.mem_cons, List.not_mem_nil, or_false, not_or] at hnot
    obtain ⟨hs, ht, hc⟩ := hnot
    rw [hget key hkey hs ht, if_neg hc]
  case frame =>
    rw [hu]
    show dpllShown _ st = _
    rw [dpllShown, hlog.2]
    rfl

/-! ## REF25 -/

/-- REF25's bit of CLK_STATUS leaves the DPLL's state alone. -/
theorem dpll_setRef25 (s : State) (on : Bool) : (s.setBit Obj.CLK_STATUS 8 on).dpll = s.dpll := by
  rw [State.dpll, State.getN_setBit, if_neg (by decide), State.dpll]

theorem ref25Lost_of_acquired {s : State} (h : s.dpll = 2 ∨ (s.dpll = 1 ∧ s.clk.wasLocked = true)) :
    s.ref25Lost = (s.setBit Obj.CLK_STATUS 8 false).dpllEnter 3 := by
  simp only [State.ref25Lost, dpll_setRef25, State.setBit_clk]
  rcases h with h | ⟨h, hlocked⟩
  · rw [if_pos h]
  · rw [if_neg (by rw [h]; decide), if_pos h]
    simp only [hlocked, if_true]

theorem ref25Lost_of_never_locked {s : State} (h : s.dpll = 1) (hlocked : s.clk.wasLocked = false) :
    s.ref25Lost = dpllShown (s.setBit Obj.CLK_STATUS 8 false) 0 := by
  simp only [State.ref25Lost, dpll_setRef25, State.setBit_clk, h, hlocked]
  exact dpllEnter_plain (by rw [dpll_setRef25, h]; decide) (by rw [dpll_setRef25, h]; decide) (by decide)

theorem ref25Qualified_of_waiting {s : State} (h : s.dpll = 0 ∨ s.dpll = 3) :
    s.ref25Qualified = (s.setBit Obj.CLK_STATUS 8 true).dpllEnter 1 := by
  have hne : s.dpll ≠ 4 := by omega
  simp only [State.ref25Qualified, if_neg hne, dpll_setRef25, if_pos h]

theorem onlyEntries_setStatus (s : State) (b : Nat) (on : Bool) {keys : List Nat} (h : Obj.CLK_STATUS ∈ keys) :
    s.onlyEntries (s.setBit Obj.CLK_STATUS b on) keys :=
  fun key hkey => by rw [State.get_setBit, if_neg fun heq : key = Obj.CLK_STATUS => hkey (heq ▸ h)]

/-- Settles O26: the bit of REF25 changes, then the DPLL enters its state of Table 14.3, and the three shapes of an entry (to HOLDOVER,
from HOLDOVER, neither) show what the statement asks. -/
theorem referencesSteerTheDpll : Obligations.ReferencesSteerTheDpll := by
  intro s t hst
  have hrun : (s.land t).devState ≠ stReset := hst
  refine ⟨fun h => ?lost, fun h hlocked => ?never, fun h => ?free, fun h => ?held, fun h => ?lock, fun h => ?crystal⟩
  case lost =>
    refine ⟨(s.land t).clocked State.ref25Lost, rfl, ?_⟩
    rw [clocked_of_running hrun, ref25Lost_of_acquired (s := s.land t) h]
    have hfrom : ((s.land t).setBit Obj.CLK_STATUS 8 false).dpll ≠ 3 := by
      rw [dpll_setRef25]
      show s.dpll ≠ 3
      omega
    obtain ⟨hstate, hlock, href, hcount, hclk, hpend, hothers, hframe⟩ := dpllEnter_holdover_shows hfrom
    refine ⟨hstate, ?_, hlock, ?_, hclk, hpend, ?_, ?_⟩
    · rw [href, State.bit_setBit, if_pos rfl, if_pos rfl]
    · rw [hcount, State.get_setBit, if_neg (by decide), State.get_land]
    · exact entriesBut_trans (entriesBut_of_onlyEntries (onlyEntries_setStatus (s.land t) 8 false (List.mem_singleton_self _))
        (by decide)) hothers
    · exact hframe
  case never =>
    refine ⟨(s.land t).clocked State.ref25Lost, rfl, ?_⟩
    rw [clocked_of_running hrun, ref25Lost_of_never_locked (s := s.land t) h hlocked]
    refine ⟨dpll_dpllShown _ _, ?_, bit_dpllShown_lock _ _, ?_, rfl⟩
    · rw [bit_dpllShown_status _ _ (by decide), State.bit_setBit, if_pos rfl, if_pos rfl]
    · exact onlyEntries_trans (onlyEntries_setStatus (s.land t) 8 false (by decide)) (onlyEntries_dpllShown _ _)
  case free =>
    refine ⟨(s.land t).clocked State.ref25Qualified, rfl, ?_⟩
    have hdpll : ((s.land t).setBit Obj.CLK_STATUS 8 true).dpll = 0 := by rw [dpll_setRef25]; exact h
    rw [clocked_of_running hrun, ref25Qualified_of_waiting (s := s.land t) (.inl h),
      dpllEnter_plain (by rw [hdpll]; decide) (by rw [hdpll]; decide) (by decide)]
    refine ⟨dpll_dpllShown _ _, ?_, bit_dpllShown_lock _ _, ?_, rfl⟩
    · rw [bit_dpllShown_status _ _ (by decide), State.bit_setBit, if_pos rfl, if_pos rfl]
    · exact onlyEntries_trans (onlyEntries_setStatus (s.land t) 8 true (by decide)) (onlyEntries_dpllShown _ _)
  case held =>
    refine ⟨(s.land t).clocked State.ref25Qualified, rfl, ?_⟩
    have hdpll : ((s.land t).setBit Obj.CLK_STATUS 8 true).dpll = 3 := by rw [dpll_setRef25]; exact h
    rw [clocked_of_running hrun, ref25Qualified_of_waiting (s := s.land t) (.inr h)]
    obtain ⟨hstate, href, hclk, htime, hpend, hothers, hframe⟩ := dpllEnter_from_holdover_shows (st := 1) hdpll (by decide)
    refine ⟨hstate, ?_, hclk, ?_, hpend, ?_, hframe⟩
    · rw [href, State.bit_setBit, if_pos rfl, if_pos rfl]
    · rw [htime, State.holdoverSeconds, State.holdoverSeconds, State.get_setBit, if_neg (by decide)]
      rfl
    · exact entriesBut_trans (entriesBut_of_onlyEntries (onlyEntries_setStatus (s.land t) 8 true (List.mem_singleton_self _))
        (by decide)) hothers
  case lock =>
    refine ⟨(s.land t).clocked fun s => if s.dpll = 1 then s.dpllEnter 2 else s, rfl, ?_⟩
    have hdpll : (s.land t).dpll = 1 := h
    rw [clocked_of_running hrun, if_pos hdpll, dpllEnter_plain (by rw [hdpll]; decide) (by rw [hdpll]; decide) (by decide)]
    exact ⟨dpll_dpllShown _ _, bit_dpllShown_lock _ _, rfl, onlyEntries_dpllShown (s.land t) 2, rfl⟩
  case crystal =>
    refine ⟨(s.land t).clocked State.crystalBack, rfl, ?_⟩
    have hdpll : ((s.land t).setBit Obj.CLK_STATUS 7 false).dpll = 4 := by
      rw [State.dpll, State.getN_setBit, if_neg (by decide)]
      exact h
    rw [clocked_of_running hrun, State.crystalBack, if_pos (show (s.land t).dpll = 4 from h),
      dpllEnter_plain (by rw [hdpll]; decide) (by rw [hdpll]; decide) (by decide)]
    refine ⟨dpll_dpllShown _ _, ?_, rfl, ?_, rfl⟩
    · rw [bit_dpllShown_status _ _ (by decide), State.bit_setBit, if_pos rfl, if_pos rfl]
    · exact onlyEntries_trans (onlyEntries_setStatus (s.land t) 7 false (by decide)) (onlyEntries_dpllShown _ _)

end Sys2Proof.Proofs
end

section
/-!
PROOF. The clock unit stands apart from the other units: what the loss of a clock does to the carrier unit, to Comet and to the cycle
leaves the entries and the record of chapter 14 alone (R48, R144, R356, R359).
-/

namespace Sys2Proof.Proofs

open Sys2Proof Sys2Proof.Machine

/-- Entries that state requests and images speak of: the CAN ports' settings, the count of requests and the image's status, check
word and source (R431, R445). -/
abbrev DeviceKey (key : Nat) : Prop := key < 0x1E1000 ∨ key = Obj.DEV_REQ_COUNT ∨ (0x200802 ≤ key ∧ key ≤ 0x200804)

/-- Entries that a change apart from the clock unit and the sequencer may touch: neither DEV_STATE, ORB_STATUS, chapter 14's nor
those that state requests and images speak of. -/
abbrev ApartKey (key : Nat) : Prop :=
  key ≠ Obj.DEV_STATE ∧ key ≠ Obj.ORB_STATUS ∧ (key < 0x2D0000 ∨ 0x2E0000 ≤ key) ∧ ¬ DeviceKey key

/-- A change that leaves DEV_STATE, the entries of state requests, the entries and the record of the clock and power units and device
time alone, and takes back no pending source; with `o` it leaves ORB_STATUS alone too. -/
structure Apart (o : Bool) (a b : State) : Prop where
  entries : ∀ key, 0x2D0000 ≤ key → key < 0x2E0000 → b.get key = a.get key
  device : ∀ key, DeviceKey key → b.get key = a.get key
  state : b.get Obj.DEV_STATE = a.get Obj.DEV_STATE
  orbit : o = true → b.get Obj.ORB_STATUS = a.get Obj.ORB_STATUS
  clk : b.clk = a.clk
  now : b.now = a.now
  pending : KeepsPending a b

section
variable {o : Bool}

theorem Apart.refl (s : State) : Apart o s s := ⟨fun _ _ _ => rfl, fun _ _ => rfl, rfl, fun _ => rfl, rfl, rfl, .of_icu rfl⟩

theorem Apart.trans {a b c : State} (h : Apart o a b) (g : Apart o b c) : Apart o a c :=
  ⟨fun key hlo hhi => (g.entries key hlo hhi).trans (h.entries key hlo hhi),
    fun key hkey => (g.device key hkey).trans (h.device key hkey), g.state.trans h.state, fun ho => (g.orbit ho).trans (h.orbit ho),
    g.clk.trans h.clk, g.now.trans h.now, h.pending.trans g.pending⟩

theorem Apart.ite {s a b : State} {c : Prop} [Decidable c] (h : Apart o s a) (g : Apart o s b) : Apart o s (if c then a else b) := by
  split
  · exact h
  · exact g

theorem Apart.bit {a b : State} (h : Apart o a b) {key : Nat} (hlo : 0x2D0000 ≤ key) (hhi : key < 0x2E0000) (i : Nat) :
    b.bit key i = a.bit key i := by
  rw [State.bit, State.getN, h.entries key hlo hhi, State.bit, State.getN]

theorem isLogEntry_of_lt {key : Nat} (hhi : key < 0x300000) : isLogEntry key = false := by
  simp only [isLogEntry, Bool.and_eq_false_iff, decide_eq_false_iff_not]
  omega

theorem isLogEntry_of_device {key : Nat} (hkey : DeviceKey key) : isLogEntry key = false :=
  isLogEntry_of_lt (by simp only [DeviceKey, Obj.DEV_REQ_COUNT] at hkey; omega)

theorem Apart.of_logOnly {a b : State} (h : a.LogOnly b) (hpend : KeepsPending a b) : Apart o a b := by
  refine ⟨fun key _ hhi => h.1 key (isLogEntry_of_lt (by omega)), fun key hkey => h.1 key (isLogEntry_of_device hkey),
    h.1 _ (by decide), fun _ => h.1 _ (by decide), ?_, ?_, hpend⟩
  · rw [h.2]
  · rw [h.2]

/-- What changes neither the store, the clock record, device time nor the interrupt controller. -/
theorem Apart.of_objs {a b : State} (hobjs : b.objs = a.objs) (hclk : b.clk = a.clk) (hicu : b.icu = a.icu) (hnow : b.now = a.now) :
    Apart o a b :=
  ⟨fun key _ _ => State.get_congr hobjs key, fun key _ => State.get_congr hobjs key, State.get_congr hobjs _,
    fun _ => State.get_congr hobjs _, hclk, hnow, .of_icu hicu⟩

/-! ## Updates of entries outside chapter 14 -/

theorem apartKey_of_outside {key : Nat} (h : 0x210005 < key ∧ key < 0x2D0000 ∨ 0x2E0000 ≤ key) : ApartKey key :=
  ⟨by simp only [Obj.DEV_STATE]; omega, by simp only [Obj.ORB_STATUS]; omega, by omega,
    by simp only [DeviceKey, Obj.DEV_REQ_COUNT]; omega⟩

/-- An entry of a table whose indices stay below chapter 14. -/
theorem apartKey_indexed {key base i : Nat} (hkey : key = base + i) (hbase : 0x210005 < base) (htop : base + i < 0x2D0000) :
    ApartKey key := apartKey_of_outside (.inl (by omega))

theorem apart_put (s : State) {key : Nat} (v : Int) (h : ApartKey key) : Apart o s (s.put key v) := by
  obtain ⟨hstate, horbit, hclock, hdevice⟩ := h
  exact ⟨fun other hlo hhi => State.get_put_ne _ _ (by omega), fun other hother => State.get_put_ne _ _ fun h => hdevice (h ▸ hother),
    State.get_put_ne _ _ (Ne.symm hstate),
    fun _ => State.get_put_ne _ _ (Ne.symm horbit), rfl, rfl, .of_icu rfl⟩

theorem apart_orbStatus (s : State) (v : Int) : Apart false s (s.put Obj.ORB_STATUS v) :=
  ⟨fun _ hlo _ => State.get_put_ne _ _ (by simp only [Obj.ORB_STATUS]; omega),
    fun _ hkey => State.get_put_ne _ _ fun h => absurd (h ▸ hkey) (by decide), State.get_put_ne _ _ (by decide), nofun, rfl, rfl,
    .of_icu rfl⟩

theorem apart_setBit (s : State) {key : Nat} (i : Nat) (on : Bool) (h : ApartKey key) : Apart o s (s.setBit key i on) :=
  apart_put s _ h

theorem apart_bump (s : State) {key : Nat} (h : ApartKey key) : Apart o s (s.bump key) := apart_put s _ h

theorem apart_count (s : State) (counter : Nat) : Apart o s (s.count counter) :=
  apart_put s _ (apartKey_of_outside (by simp only [Obj.LOG_CNT]; omega))

theorem apart_raise (s : State) (src : Nat) : Apart o s (s.raise src) :=
  ⟨fun _ _ _ => rfl, fun _ _ => rfl, rfl, fun _ => rfl, rfl, rfl, keepsPending_raise s src⟩

theorem apart_journalFull (s : State) (code subject : Nat) (data : List Nat) (counter : Nat) (transient lasting : Bool) :
    Apart o s (s.journalFull code subject data counter transient lasting) :=
  .of_logOnly (State.logOnly_journalFull ..) (keepsPending_journalFull _ _ _ _ _ _ _)

theorem apart_event (s : State) (src subject : Nat) (data : List Nat) : Apart o s (s.event src subject data) :=
  .of_logOnly (State.logOnly_event ..) (keepsPending_event _ _ _ _)

theorem apart_demandFlush (s : State) : Apart o s s.demandFlush :=
  .of_logOnly (State.logOnly_demandFlush s) (keepsPending_demandFlush s)

theorem apart_siteOutcome (s : State) (site code subject : Nat) (data : List Nat) (lasting : Bool)
    (h : 1 ≤ site ∧ site ≤ 0x16) : Apart o s (s.siteOutcome site code subject data lasting) :=
  .of_logOnly (State.logOnly_siteOutcome _ _ _ _ _ _ h) (keepsPending_siteOutcome _ _ _ _ _ _)

theorem apart_cmtFire (s : State) (code time frac : Nat) : Apart o s (s.cmtFire code time frac) := by
  rw [cmtFire_frame]
  exact .of_objs rfl rfl rfl rfl

/-! ## Consequences in other units -/

theorem apart_eventCause (s : State) (c : Nat) : Apart o s (s.eventCause c) := by
  unfold State.eventCause
  generalize hprt : ({ s with prt := _ } : State) = a
  have hnoted : Apart o s a := hprt ▸ .of_objs rfl rfl rfl rfl
  have hactive : Apart o s (a.setBit Obj.PRT_TRIP_ACTIVE c true) := hnoted.trans (apart_setBit a c true (by decide))
  exact .ite (hactive.trans (apart_setBit _ c true (by decide))) hactive

theorem apart_setRole (s : State) (new cause : Nat) : Apart o s (s.setRole new cause) := by
  have hlogged : Apart o s ((s.put Obj.DEV_ROLE new).event 497 noSubject [s.devRole, new, cause]) :=
    (apart_put s new (key := Obj.DEV_ROLE) (by decide)).trans (apart_event _ _ _ _)
  refine .ite (.refl s) (.ite ?stale (.ite ?standby hlogged))
  case stale => exact (hlogged.trans (apart_bump _ (key := Obj.RED_STALE_COUNT) (by decide))).trans (.of_objs rfl rfl rfl rfl)
  case standby => exact hlogged.trans (.of_objs rfl rfl rfl rfl)

theorem apart_overrunCounted (s : State) (w : Nat) : Apart o s (overrunCounted s w) := by
  unfold overrunCounted
  generalize hnoted : ({ s with orb := { s.orb with overrun := some w } } : State) = a
  have hapart : Apart o s a := hnoted ▸ .of_objs rfl rfl rfl rfl
  exact ((hapart.trans (apart_put a w (key := Obj.ORB_OVERRUN_CAUSE) (by decide))).trans
    (apart_bump _ (key := Obj.ORB_OVERRUN_COUNT) (by decide))).trans (apart_count _ 8)

/-- The first overrun of a cycle, with its consequences for state and role (R48, R50). -/
theorem apart_overrunLogged (s : State) (cause detail : Nat) : Apart false s (overrunLogged s cause detail) := by
  have hcounted := apart_overrunCounted (o := false) s (256 * cause + detail)
  exact (((((hcounted.trans (apart_orbStatus _ _)).trans (apart_raise _ 166)).trans
    (apart_journalFull _ _ _ _ _ _ _)).trans (apart_cmtFire _ _ _ _)).trans (apart_demandFlush _))

theorem apart_overrunTrip (s : State) : Apart o s (overrunTrip s) := .ite (apart_eventCause s _) (.refl s)

theorem apart_overrun (s : State) (cause detail : Nat) : Apart false s (s.overrun cause detail) := by
  by_cases hrun : s.orbRunning = true
  · cases hfirst : s.orb.overrun with
    | none =>
      have hlogged := apart_overrunLogged s cause detail
      have htrip := hlogged.trans (apart_overrunTrip (overrunLogged s cause detail))
      have hexpand : s.overrun cause detail =
          if !s.overrunActs then overrunLogged s cause detail
          else if (overrunTrip (overrunLogged s cause detail)).devRole = roleAlone then overrunTrip (overrunLogged s cause detail)
          else if (overrunTrip (overrunLogged s cause detail)).devRole = roleActive &&
            (overrunTrip (overrunLogged s cause detail)).devState ≠ stTrip then overrunTrip (overrunLogged s cause detail)
          else (overrunTrip (overrunLogged s cause detail)).setRole roleStale 0 := by
        simp only [State.overrun, hrun, hfirst]
        rfl
      rw [hexpand]
      exact .ite hlogged (.ite htrip (.ite htrip (htrip.trans (apart_setRole _ _ _))))
    | some w0 =>
      simp only [State.overrun, hrun, hfirst, Bool.not_true, Bool.false_eq_true, if_false]
      have hlogged := apart_journalFull (o := false) s 166 noSubject [detail % 256, cause % 256] 0xFF false false
      have hshown := hlogged.trans (apart_put _ (256 * cause + detail : Nat) (key := Obj.ORB_OVERRUN_CAUSE) (by decide))
      split
      · exact hshown.trans (.of_objs rfl rfl rfl rfl)
      · exact hlogged
  · rw [State.overrun, if_pos (by simpa using hrun)]
    exact .refl s

theorem apart_carMaskOne (s : State) {k : Nat} (hk : k < 24) : Apart o s (s.carMaskOne k) := by
  have hstatus : ApartKey (Obj.CAR_CH_STATUS k) := apartKey_indexed rfl (by decide) (by omega)
  have hcount : ApartKey (Obj.CAR_MASK_COUNT k) := apartKey_indexed rfl (by decide) (by omega)
  have hshown (a : State) (x y : Bool) :
      Apart o a ((a.setBit (Obj.CAR_CH_STATUS k) 2 x).setBit (Obj.CAR_CH_STATUS k) 3 y) :=
    (apart_setBit _ _ _ hstatus).trans (apart_setBit _ _ _ hstatus)
  have hchannel (a : State) (f : CarChannel → CarChannel) : Apart o a (a.withChannel k f) := .of_objs rfl rfl rfl rfl
  unfold State.carMaskOne
  split
  · exact .refl s
  · refine .ite ((Apart.trans ?news (hchannel _ _)).trans (hshown _ _ _)) ((hchannel s _).trans (hshown _ _ _))
    case news =>
      exact foldl_related Apart.refl Apart.trans _
        (fun a _ _ => (apart_bump a hcount).trans (apart_raise _ 281)) s

theorem apart_carMasks (s : State) : Apart o s s.carMasks :=
  (apart_setBit s 2 s.carBlock (by decide)).trans
    (foldl_related Apart.refl Apart.trans _ (fun a _ hk => apart_carMaskOne a (List.mem_range.1 hk)) _)

theorem apart_carClockLost (s : State) : Apart o s s.carClockLost := by
  have hmask : Apart o s (s.setBit Obj.CAR_UNIT_STATUS 1 true) := apart_setBit _ _ _ (by decide)
  refine Apart.trans (.ite ?unlocked hmask) (apart_carMasks _)
  exact (((hmask.trans (apart_setBit _ _ _ (by decide))).trans (apart_bump _ (by decide))).trans
    (apart_raise _ _))

theorem apart_cmtDramLost (s : State) : Apart o s s.cmtDramLost :=
  have hmarked : Apart o s (s.withCmt fun c => { c with dram := false }) := .of_objs rfl rfl rfl rfl
  .ite (hmarked.trans (apart_raise _ 421)) hmarked

/-- What a domain does on BYP200 concerns other units (Table 14.6). -/
theorem apart_domainBypassed (s : State) (p : Nat) : Apart true s (s.domainBypassed p) :=
  .ite ((apart_carClockLost s).trans (apart_setBit _ _ _ (by decide))) (.ite (apart_cmtDramLost s) (.refl s))

end

end Sys2Proof.Proofs
end

section
/-!
PROOF. The analog and quad PLLs (R356 to R359): what a lock attempt, its end and its failure show.
-/

namespace Sys2Proof.Proofs

open Sys2Proof Sys2Proof.Machine

/-! ## Status of an analog PLL -/

theorem pllDrives_congr {a b : State} {p : Nat} (h : b.get (Obj.CLK_PLL_STATUS p) = a.get (Obj.CLK_PLL_STATUS p)) :
    b.pllDrives p = a.pllDrives p := by
  rw [State.pllDrives, State.getN, h, State.pllDrives, State.getN]

theorem bit_congr {a b : State} {key : Nat} (h : b.get key = a.get key) (i : Nat) : b.bit key i = a.bit key i := by
  rw [State.bit, State.getN, h, State.bit, State.getN]

/-- A PLL without its lock bit does not drive its domain. -/
theorem pllDrives_of_unlocked {s : State} {p : Nat} (h : s.bit (Obj.CLK_PLL_STATUS p) 0 = false) : s.pllDrives p = false := by
  have heven : ¬ s.getN (Obj.CLK_PLL_STATUS p) % 2 = 1 := by
    rw [State.bit, bitOf, Nat.testBit_zero] at h
    exact of_decide_eq_false h
  refine decide_eq_false fun hone : s.getN (Obj.CLK_PLL_STATUS p) / 2 ^ 0 % 2 ^ 2 = 1 => ?_
  omega

/-- A lock attempt as far as the clock unit shows it, before what its domain does (R355 to R358). -/
def pllStarted (s : State) (p kind : Nat) : State :=
  ((s.put (Obj.CLK_PLL_STATUS p) (2 + 4 + if s.pllBand p then 0 else 16)).withClk fun c =>
    { c with relock := c.relock.set p kind }).pllShow p

theorem pllStart_eq (s : State) (p kind : Nat) : s.pllStart p kind = (pllStarted s p kind).domainBypassed p := rfl

theorem pllStatus_ne_status (p : Nat) : Obj.CLK_PLL_STATUS p ≠ Obj.CLK_STATUS := by
  simp only [Obj.CLK_PLL_STATUS, Obj.CLK_STATUS]
  omega

theorem get_pllStarted (s : State) (p kind : Nat) {key : Nat} (hstatus : key ≠ Obj.CLK_PLL_STATUS p) (hshow : key ≠ Obj.CLK_STATUS) :
    (pllStarted s p kind).get key = s.get key := by
  rw [pllStarted, State.pllShow, State.get_setBit, if_neg hshow, State.get_withClk, State.get_put, if_neg hstatus]

/-- The status of a PLL whose lock attempt has begun: on BYP200, busy, and refused where the band entry is not VALID. -/
theorem getN_pllStart_status (s : State) {p : Nat} (hp : p < 6) (kind : Nat) :
    (s.pllStart p kind).getN (Obj.CLK_PLL_STATUS p) = 2 + 4 + if s.pllBand p then 0 else 16 := by
  rw [State.getN, pllStart_eq, (apart_domainBypassed _ p).entries _ (by simp only [Obj.CLK_PLL_STATUS]; omega)
    (by simp only [Obj.CLK_PLL_STATUS]; omega), pllStarted, State.pllShow, State.get_setBit, if_neg (pllStatus_ne_status p),
    State.get_withClk, State.get_put_same]
  cases s.pllBand p <;> rfl

theorem pllStart_bypasses (s : State) {p : Nat} (hp : p < 6) (kind : Nat) :
    (s.pllStart p kind).pllDrives p = false ∧ (s.pllStart p kind).pllBusy p = true ∧
      (s.pllStart p kind).bit (Obj.CLK_PLL_STATUS p) 3 = false ∧ (s.pllStart p kind).bit (Obj.CLK_PLL_STATUS p) 0 = false := by
  simp only [State.pllDrives, State.pllBusy, State.bit, getN_pllStart_status s hp kind]
  cases s.pllBand p <;> decide

/-- A lock attempt leaves the other entries of chapter 14 alone. -/
theorem get_pllStart_ne (s : State) (p kind : Nat) {key : Nat} (hlo : 0x2D0000 ≤ key) (hhi : key < 0x2E0000)
    (hstatus : key ≠ Obj.CLK_PLL_STATUS p) (hshow : key ≠ Obj.CLK_STATUS) : (s.pllStart p kind).get key = s.get key := by
  rw [pllStart_eq, (apart_domainBypassed _ p).entries _ hlo hhi, get_pllStarted s p kind hstatus hshow]

/-- CLK_STATUS shows a lock attempt in the bit of its PLL. -/
theorem bit_pllStart_shown (s : State) {p i : Nat} (hi : i ≠ p) (kind : Nat) :
    (s.pllStart p kind).bit Obj.CLK_STATUS i = s.bit Obj.CLK_STATUS i := by
  rw [pllStart_eq, (apart_domainBypassed _ p).bit (by decide) (by decide), pllStarted, State.pllShow, State.bit_setBit,
    if_pos rfl, if_neg hi, State.bit_withClk, State.bit_put, if_neg (pllStatus_ne_status p).symm]

theorem clk_pllStart (s : State) (p kind : Nat) : (s.pllStart p kind).clk = { s.clk with relock := s.clk.relock.set p kind } := by
  rw [pllStart_eq, (apart_domainBypassed _ p).clk]
  rfl

theorem keepsPending_pllStart (s : State) (p kind : Nat) : KeepsPending s (s.pllStart p kind) := by
  have hstarted : KeepsPending s (pllStarted s p kind) := .of_icu rfl
  exact hstarted.trans (apart_domainBypassed _ p).pending

/-! ## A loss of lock -/

/-- A loss of lock is counted, raised and logged (R356, R359). -/
def pllLossNoted (s : State) (p : Nat) : State :=
  (((s.bump (Obj.CLK_PLL_LOSS_COUNT p)).count 0x0F).raise 484).journalFull 484 p [] 0x0F false false

theorem get_pllLossNoted (s : State) (p : Nat) {key : Nat} (hhi : key < 0x2E0000) :
    (pllLossNoted s p).get key =
      if key = Obj.CLK_PLL_LOSS_COUNT p then min (s.get (Obj.CLK_PLL_LOSS_COUNT p) + 1) 0xFFFFFFFF else s.get key := by
  have hcount : key ≠ Obj.LOG_CNT (0x0F - 1) := by simp only [Obj.LOG_CNT]; omega
  rw [pllLossNoted, State.get_journalFull _ _ _ _ _ _ _ (isLogEntry_of_lt (by omega)), State.get_raise, State.get_count,
    if_neg hcount, State.get_bump]

theorem pllLossNoted_pending (s : State) (p : Nat) : (pllLossNoted s p).sourcePending 484 :=
  sourcePending_kept (by decide) (sourcePending_raise _ 484) (keepsPending_journalFull _ _ _ _ _ _ _)

theorem keepsPending_pllLossNoted (s : State) (p : Nat) : KeepsPending s (pllLossNoted s p) := by
  have hcounted : KeepsPending s ((s.bump (Obj.CLK_PLL_LOSS_COUNT p)).count 0x0F) := .of_icu rfl
  exact (hcounted.trans (keepsPending_raise _ 484)).trans (keepsPending_journalFull _ _ _ _ _ _ _)

theorem pllLossOne_of_unlocked {s : State} {p : Nat} (h : s.bit (Obj.CLK_PLL_STATUS p) 0 = false) : s.pllLossOne p = s :=
  if_pos (by rw [h]; rfl)

/-- What a loss of lock does beyond the lock attempt concerns other units (R48, R356). -/
theorem pllLossOne_of_locked {s : State} {p : Nat} (h : s.bit (Obj.CLK_PLL_STATUS p) 0 = true) :
    Apart false ((pllLossNoted s p).pllStart p 2) (s.pllLossOne p) := by
  have hexpand : s.pllLossOne p =
      if p ≤ 3 then ((pllLossNoted s p).pllStart p 2).overrun 5 p else (pllLossNoted s p).pllStart p 2 :=
    if_neg (by rw [h]; decide)
  rw [hexpand]
  exact .ite (apart_overrun _ _ _) (.refl _)

/-- A PLL that loses lock is on BYP200 and busy, counted, with source 484 (R356, R359). -/
theorem pllLossOne_shows {s : State} {p : Nat} (hp : p < 6) (h : s.bit (Obj.CLK_PLL_STATUS p) 0 = true) :
    (s.pllLossOne p).pllDrives p = false ∧ (s.pllLossOne p).pllBusy p = true ∧
      (s.pllLossOne p).get (Obj.CLK_PLL_LOSS_COUNT p) = min (s.get (Obj.CLK_PLL_LOSS_COUNT p) + 1) 0xFFFFFFFF ∧
      (s.pllLossOne p).sourcePending 484 := by
  have hrest := pllLossOne_of_locked h
  have hstatus : (s.pllLossOne p).get (Obj.CLK_PLL_STATUS p) = ((pllLossNoted s p).pllStart p 2).get (Obj.CLK_PLL_STATUS p) :=
    hrest.entries _ (by simp only [Obj.CLK_PLL_STATUS]; omega) (by simp only [Obj.CLK_PLL_STATUS]; omega)
  obtain ⟨hdrives, hbusy, -, -⟩ := pllStart_bypasses (pllLossNoted s p) hp 2
  refine ⟨(pllDrives_congr hstatus).trans hdrives, (bit_congr hstatus 2).trans hbusy, ?count, ?pending⟩
  case count =>
    have hlo : 0x2D0000 ≤ Obj.CLK_PLL_LOSS_COUNT p := by simp only [Obj.CLK_PLL_LOSS_COUNT]; omega
    have hhi : Obj.CLK_PLL_LOSS_COUNT p < 0x2E0000 := by simp only [Obj.CLK_PLL_LOSS_COUNT]; omega
    rw [hrest.entries _ hlo hhi, get_pllStart_ne _ _ _ hlo hhi (by simp only [Obj.CLK_PLL_LOSS_COUNT, Obj.CLK_PLL_STATUS]; omega)
      (by simp only [Obj.CLK_PLL_LOSS_COUNT, Obj.CLK_STATUS]; omega), get_pllLossNoted _ _ hhi, if_pos rfl]
  case pending =>
    exact sourcePending_kept (by decide) (sourcePending_kept (by decide) (pllLossNoted_pending s p) (keepsPending_pllStart _ p 2))
      hrest.pending

/-- A loss of lock of one PLL leaves the others, and the entries of the DPLL, alone. -/
theorem get_pllLossOne_ne (s : State) {p : Nat} {key : Nat} (hlo : 0x2D0000 ≤ key) (hhi : key < 0x2E0000)
    (hstatus : key ≠ Obj.CLK_PLL_STATUS p) (hcount : key ≠ Obj.CLK_PLL_LOSS_COUNT p) (hshow : key ≠ Obj.CLK_STATUS) :
    (s.pllLossOne p).get key = s.get key := by
  cases hlock : s.bit (Obj.CLK_PLL_STATUS p) 0 with
  | false => rw [pllLossOne_of_unlocked hlock]
  | true =>
    rw [(pllLossOne_of_locked hlock).entries _ hlo hhi, get_pllStart_ne _ _ _ hlo hhi hstatus hshow, get_pllLossNoted _ _ hhi,
      if_neg hcount]

theorem bit_pllLossOne_shown (s : State) {p i : Nat} (hi : i ≠ p) :
    (s.pllLossOne p).bit Obj.CLK_STATUS i = s.bit Obj.CLK_STATUS i := by
  cases hlock : s.bit (Obj.CLK_PLL_STATUS p) 0 with
  | false => rw [pllLossOne_of_unlocked hlock]
  | true =>
    rw [(pllLossOne_of_locked hlock).bit (by decide) (by decide), bit_pllStart_shown _ hi]
    refine bit_congr ?_ i
    rw [get_pllLossNoted _ _ (by decide), if_neg (by simp only [Obj.CLK_PLL_LOSS_COUNT, Obj.CLK_STATUS]; omega)]

theorem keepsPending_pllLossOne (s : State) (p : Nat) : KeepsPending s (s.pllLossOne p) := by
  cases hlock : s.bit (Obj.CLK_PLL_STATUS p) 0 with
  | false =>
    rw [pllLossOne_of_unlocked hlock]
    exact .of_icu rfl
  | true =>
    exact ((keepsPending_pllLossNoted s p).trans (keepsPending_pllStart _ p 2)).trans (pllLossOne_of_locked hlock).pending

theorem get_pllLossOne_status (s : State) {p q : Nat} (hp : p < 6) (hq : q < 6) (hne : q ≠ p) :
    (s.pllLossOne p).get (Obj.CLK_PLL_STATUS q) = s.get (Obj.CLK_PLL_STATUS q) :=
  get_pllLossOne_ne s (by simp only [Obj.CLK_PLL_STATUS]; omega) (by simp only [Obj.CLK_PLL_STATUS]; omega)
    (by simp only [Obj.CLK_PLL_STATUS]; omega) (by simp only [Obj.CLK_PLL_STATUS, Obj.CLK_PLL_LOSS_COUNT]; omega)
    (pllStatus_ne_status q)

/-! ## The end of a lock attempt -/

/-- A lock attempt that ends in lock, as far as the clock unit shows it (R357, R358). -/
def pllDoneShown (s : State) (p : Nat) : State :=
  ((s.put (Obj.CLK_PLL_STATUS p) 1).withClk fun c => { c with relock := c.relock.set p 0 }).pllShow p

/-- The carrier's protection counts in full again (Table 14.6). -/
def pllDoneFreed (s : State) (p : Nat) : State :=
  if p = 3 then (pllDoneShown s p).setBit Obj.PRT_STATUS 3 false else pllDoneShown s p

theorem pllDone_of_busy {s : State} {p : Nat} (hbusy : s.pllBusy p = true) (hvalid : s.bit (Obj.CLK_PLL_STATUS p) 4 = false)
    (hfree : s.bit (Obj.CLK_PLL_CTRL p) 2 = false) :
    s.pllDone p = pllDoneFreed s p ∨
      s.pllDone p = (((pllDoneFreed s p).bump (Obj.CLK_PLL_RELOCK_TRANSIENT p)).raise 485).siteOutcome 0x0A 485 p [] false := by
  have hexpand : s.pllDone p =
      if s.clk.relock.getD p 0 = 2 then
        (((pllDoneFreed s p).bump (Obj.CLK_PLL_RELOCK_TRANSIENT p)).raise 485).siteOutcome 0x0A 485 p [] false
      else pllDoneFreed s p := by
    simp only [State.pllDone, hbusy, hvalid, hfree, pllDoneFreed]
    simp [pllDoneShown]
  rw [hexpand]
  split
  · exact .inr rfl
  · exact .inl rfl

end Sys2Proof.Proofs
end

section
/-!
PROOF. What a lost lane does concerns the lanes and their ring pairs, and leaves the clock unit alone (R251, R269, R279).
-/

namespace Sys2Proof.Proofs

open Sys2Proof Sys2Proof.Machine

/-! ## Changes of one lane -/

section
variable {o : Bool}

theorem apart_withLane (s : State) (k : Nat) (f : Lane → Lane) : Apart o s (s.withLane k f) := .of_objs rfl rfl rfl rfl

theorem apart_emit (s : State) (answer : Out) : Apart o s (s.emit answer) := .of_objs rfl rfl rfl rfl

theorem apart_lanEvent (s : State) {k : Nat} (hk : k < 50) (code : Nat) : Apart o s (s.lanEvent k code) :=
  (apart_raise s _).trans (apart_put _ _ (apartKey_indexed rfl (by decide) (by omega)))

theorem apart_lanEnter (s : State) {k : Nat} (hk : k < 50) (st : Nat) : Apart o s (s.lanEnter k st) := by
  have hstate : Apart o s (s.put (Obj.LAN_STATE k) st) := apart_put s _ (apartKey_indexed rfl (by decide) (by omega))
  exact (hstate.trans (apart_setBit _ k (st = lanActive) (key := Obj.LAN_ACTIVE_MAP) (by decide))).trans
    (apart_withLane _ _ _)

theorem apart_eyeAbort {s : State} {k : Nat} (hk : k < 50) (hscan : s.lan.scan.map (·.lane) = some k) :
    Apart o s s.eyeAbort := by
  unfold State.eyeAbort
  split
  next => exact .refl s
  next e he =>
    have hlane : e.lane = k := by simpa [he] using hscan
    generalize hended : ({ s with lan := { s.lan with scan := none } } : State) = a
    have hapart : Apart o s a := hended ▸ .of_objs rfl rfl rfl rfl
    exact (hapart.trans (apart_put a 3 (key := Obj.LAN_EYE_STATUS) (by decide))).trans
      (apart_lanEvent _ (hlane ▸ hk) 5)

theorem apart_eyeLeave (s : State) {k : Nat} (hk : k < 50) : Apart o s (s.eyeLeave k) := by
  unfold State.eyeLeave
  split
  next hscan => exact apart_eyeAbort hk hscan
  next => exact .refl s

theorem apart_lanClear (s : State) {k : Nat} (hk : k < 50) : Apart o s (s.lanClear k) :=
  apart_put s _ (apartKey_indexed rfl (by decide) (by omega))

theorem apart_lanAttempt (s : State) {k : Nat} (hk : k < 50) (attempt : Nat) : Apart o s (s.lanAttempt k attempt) := by
  have hstart : Apart o s (((s.lanClear k).lanEnter k lanCap).put (Obj.LAN_RATE_NOW k) 4) :=
    ((apart_lanClear s hk).trans (apart_lanEnter _ hk _)).trans (apart_put _ _ (apartKey_indexed rfl (by decide) (by omega)))
  exact (hstart.trans (apart_withLane _ _ _)).trans (apart_emit _ _)

theorem apart_lanFail (s : State) {k : Nat} (hk : k < 50) : Apart o s (s.lanFail k) := by
  unfold State.lanFail
  split
  · exact .refl s
  · refine .ite (.refl s) (.ite (apart_lanAttempt s hk 2) ?lasting)
    case lasting =>
      have hdown : Apart o s (((s.lanClear k).lanEnter k lanDown).put (Obj.LAN_RATE_NOW k) 0xFF) :=
        ((apart_lanClear s hk).trans (apart_lanEnter _ hk _)).trans (apart_put _ _ (apartKey_indexed rfl (by decide) (by omega)))
      have hshown := hdown.trans (apart_put _ (key := Obj.LAN_STATUS k)
        (withField ((((s.lanClear k).lanEnter k lanDown).put (Obj.LAN_RATE_NOW k) 0xFF).getN (Obj.LAN_STATUS k)) 7 4 (s.lanState k) : Nat)
        (apartKey_indexed rfl (by decide) (by omega)))
      exact ((hshown.trans (apart_bump _ (apartKey_indexed rfl (by decide) (by omega)))).trans (apart_lanEvent _ hk 2)).trans
        (apart_siteOutcome _ _ _ _ _ _ (by decide))

theorem apart_lanLost (s : State) {k : Nat} (hk : k < 50) : Apart o s (s.lanLost k) := by
  have hunlocked : Apart o s ((s.setBit (Obj.LAN_STATUS k) 0 false).setBit (Obj.LAN_STATUS k) 5 false) :=
    (apart_setBit s 0 false (apartKey_indexed rfl (by decide) (by omega))).trans
      (apart_setBit _ 5 false (apartKey_indexed rfl (by decide) (by omega)))
  have hrelock := hunlocked.trans (apart_lanEnter _ hk lanRelock)
  have hcounted := (hrelock.trans (apart_bump _ (key := Obj.LAN_LOCK_LOSS k) (apartKey_indexed rfl (by decide) (by omega)))).trans
    (apart_put _ 0 (key := Obj.LAN_CLEAN_CYCLES k) (apartKey_indexed rfl (by decide) (by omega)))
  exact .ite (.refl s) (((hcounted.trans (apart_raise _ _)).trans (apart_withLane _ _ _)).trans (apart_eyeLeave _ hk))

theorem apart_lanLostEarly (s : State) {k : Nat} (hk : k < 50) : Apart o s (s.lanLostEarly k) :=
  .ite (apart_lanFail s hk) (.ite (apart_setBit s _ _ (apartKey_indexed rfl (by decide) (by omega))) (.refl s))

/-! ## Ring pairs and cascade groups -/

theorem apart_linkShow (s : State) : Apart o s s.linkShow := apart_setBit s _ _ (by decide)

theorem apart_noteNeed (s : State) : Apart o s s.noteNeed := by
  unfold State.noteNeed
  split
  · exact .of_objs rfl rfl rfl rfl
  · exact .refl s

/-- A pair that leaves its ring, up to what it needs of the cycle (R251). -/
def lineShown (s : State) (p : Nat) : State :=
  let s1 := ((s.put (Obj.LNK_PAIR_MODE p) pairLine).put (Obj.LNK_PAIR_SPLIT p) 0).setBit (Obj.LNK_PAIR_STATUS p) 4 true
  (((s1.withPair p fun q => { q with splitKnown := false }).raise 96).bump (Obj.LNK_PAIR_LINE_COUNT p)).linkShow

/-- The pair whose normal cycle no longer fits is held (R42). -/
def lineHeld (s : State) (p : Nat) : State :=
  { s with orb := { s.orb with
    heldPairs := if s.bit Obj.ORB_STATUS 1 || !s.pairNeeds p then s.orb.heldPairs else withBit s.orb.heldPairs p true } }

/-- A pair that carries nodes is not on the way back to its ring (R251). -/
def lineStopped (s : State) (p : Nat) : State :=
  (s.withPair p fun q => { q with clean := 0, returning := false }).setBit (Obj.LNK_PAIR_STATUS p) 5 false

theorem lineEnter_eq {s : State} {p : Nat} (hp : s.valvePair p = true) :
    s.lineEnter p =
      if (lineStopped s p).pairMode p = pairRing then (lineHeld (lineShown (lineStopped s p) p) p).noteNeed else lineStopped s p :=
  if_neg (by rw [hp]; decide)

theorem lineEnter_of_unused {s : State} {p : Nat} (hp : s.valvePair p = false) : s.lineEnter p = s := if_pos (by rw [hp]; rfl)

theorem apart_lineShown (s : State) {p : Nat} (hp : p < 24) : Apart o s (lineShown s p) := by
  have hmode : Apart o s (((s.put (Obj.LNK_PAIR_MODE p) pairLine).put (Obj.LNK_PAIR_SPLIT p) 0).setBit (Obj.LNK_PAIR_STATUS p) 4 true) :=
    ((apart_put s _ (apartKey_indexed rfl (by decide) (by omega))).trans
      (apart_put _ 0 (apartKey_indexed rfl (by decide) (by omega)))).trans
      (apart_setBit _ 4 true (apartKey_indexed rfl (by decide) (by omega)))
  have hsplit (a : State) : Apart o a (a.withPair p fun q => { q with splitKnown := false }) := .of_objs rfl rfl rfl rfl
  exact ((((hmode.trans (hsplit _)).trans (apart_raise _ 96)).trans
    (apart_bump _ (key := Obj.LNK_PAIR_LINE_COUNT p) (apartKey_indexed rfl (by decide) (by omega)))).trans (apart_linkShow _))

theorem apart_lineEnter (s : State) {p : Nat} (hp : p < 24) : Apart o s (s.lineEnter p) := by
  cases hvalve : s.valvePair p with
  | false =>
    rw [lineEnter_of_unused hvalve]
    exact .refl s
  | true =>
    have hstopped : Apart o s (lineStopped s p) :=
      (Apart.of_objs (a := s) (b := s.withPair p fun q => { q with clean := 0, returning := false }) rfl rfl rfl rfl).trans
        (apart_setBit _ 5 false (key := Obj.LNK_PAIR_STATUS p) (apartKey_indexed rfl (by decide) (by omega)))
    have hheld (a : State) : Apart o a (lineHeld a p) := .of_objs rfl rfl rfl rfl
    rw [lineEnter_eq hvalve]
    exact .ite (((hstopped.trans (apart_lineShown _ hp)).trans (hheld _)).trans (apart_noteNeed _)) hstopped

theorem apart_cascTrained (s : State) (k : Nat) : Apart o s (s.cascTrained k) := by
  unfold State.cascTrained
  split
  next => exact .refl s
  next g hg =>
    have hgroup : g < 8 := List.mem_range.1 (List.mem_of_mem_filter (List.mem_of_find?_eq_some hg))
    have hshown : Apart o s (s.setBit (Obj.LNK_CASC_STATUS g) 0 (s.cascLocked g = s.cascWidth g)) :=
      apart_setBit s 0 _ (apartKey_indexed rfl (by decide) (by omega))
    exact .ite (hshown.trans (apart_put _ _ (apartKey_indexed rfl (by decide) (by omega)))) hshown

theorem apart_laneLost (s : State) {k : Nat} (hk : k < 50) : Apart o s (s.laneLost k) := by
  unfold State.laneLost
  refine .ite (apart_lanLostEarly s hk) ?_
  have hlost := apart_lanLost (o := o) s hk
  split
  next hpair => exact .ite (hlost.trans (apart_cascTrained _ k)) (hlost.trans (apart_lineEnter _ (by omega)))
  next => exact hlost

end

end Sys2Proof.Proofs
end

section
/-!
PROOF. The obligation about the PLLs: the end of a lock attempt, its failure, and the quad PLLs (R356 to R359, R368).
-/

namespace Sys2Proof.Proofs

open Sys2Proof Sys2Proof.Machine

/-! ## An outcome of the PLLs' retry site -/

/-- An outcome of retry site 0x0A: raised and logged (R357, Table 18.2). -/
def pllOutcome (s : State) (src subject : Nat) (lasting : Bool) : State := (s.raise src).siteOutcome 0x0A src subject [] lasting

theorem logOnly_pllOutcome (s : State) (src subject : Nat) (lasting : Bool) : s.LogOnly (pllOutcome s src subject lasting) :=
  (State.logOnly_raise s src).trans (State.logOnly_siteOutcome _ _ _ _ _ _ (by decide))

theorem pllOutcome_pending (s : State) {src : Nat} (hshared : src / 32 ≠ 5) (subject : Nat) (lasting : Bool) :
    (pllOutcome s src subject lasting).sourcePending src :=
  sourcePending_kept hshared (sourcePending_raise s src) (keepsPending_siteOutcome _ _ _ _ _ _)

/-! ## Lock -/

theorem get_pllDoneFreed (s : State) (p : Nat) {key : Nat} (hstatus : key ≠ Obj.CLK_PLL_STATUS p) (hshow : key ≠ Obj.CLK_STATUS)
    (hcarrier : key ≠ Obj.PRT_STATUS) : (pllDoneFreed s p).get key = s.get key := by
  have hshown : (pllDoneShown s p).get key = s.get key := by
    rw [pllDoneShown, State.pllShow, State.get_setBit, if_neg hshow, State.get_withClk, State.get_put, if_neg hstatus]
  unfold pllDoneFreed
  split
  · rw [State.get_setBit, if_neg hcarrier, hshown]
  · exact hshown

/-- A PLL that has locked drives its domain, and PLL_LOCKED shows it (R357). -/
theorem pllDoneFreed_shows (s : State) {p : Nat} (hp : p < 6) :
    (pllDoneFreed s p).pllDrives p = true ∧ (pllDoneFreed s p).pllBusy p = false ∧ (pllDoneFreed s p).bit Obj.CLK_STATUS p = true := by
  have hfreed : ∀ key, key ≠ Obj.PRT_STATUS → (pllDoneFreed s p).get key = (pllDoneShown s p).get key := by
    intro key hkey
    unfold pllDoneFreed
    split
    · rw [State.get_setBit, if_neg hkey]
    · rfl
  have hput : ((s.put (Obj.CLK_PLL_STATUS p) 1).withClk fun c => { c with relock := c.relock.set p 0 }).getN
      (Obj.CLK_PLL_STATUS p) = 1 := by
    rw [State.getN, State.get_withClk, State.get_put_same]
    rfl
  have hstatus : (pllDoneFreed s p).getN (Obj.CLK_PLL_STATUS p) = 1 := by
    rw [State.getN, hfreed _ (by simp only [Obj.CLK_PLL_STATUS, Obj.PRT_STATUS]; omega), pllDoneShown, State.pllShow,
      State.get_setBit, if_neg (pllStatus_ne_status p)]
    exact hput
  refine ⟨?drives, ?busy, ?shown⟩
  case drives =>
    rw [State.pllDrives, hstatus]
    rfl
  case busy =>
    rw [State.pllBusy, State.bit, hstatus]
    rfl
  case shown =>
    rw [bit_congr (hfreed _ (by decide)), pllDoneShown, State.pllShow, State.bit_setBit, if_pos rfl, if_pos rfl, State.pllDrives,
      hput]
    rfl

theorem pllDoneFreed_frame (s : State) (p : Nat) :
    pllDoneFreed s p = { s with objs := (pllDoneFreed s p).objs, clk := (pllDoneFreed s p).clk } := by
  unfold pllDoneFreed
  split <;> rfl

/-- What the lock of an analog PLL shows, and what it leaves alone (R357). -/
theorem pllDone_shows {s : State} {p : Nat} (hp : p < 6) (hbusy : s.pllBusy p = true)
    (hvalid : s.bit (Obj.CLK_PLL_STATUS p) 4 = false) (hfree : s.bit (Obj.CLK_PLL_CTRL p) 2 = false) :
    let u := s.pllDone p
    u.pllDrives p = true ∧ u.pllBusy p = false ∧ u.bit Obj.CLK_STATUS p = true ∧
      s.entriesBut u [Obj.CLK_PLL_STATUS p, Obj.CLK_STATUS, Obj.PRT_STATUS, Obj.CLK_PLL_RELOCK_TRANSIENT p] ∧
      u = { s with objs := u.objs, clk := u.clk, icu := u.icu, log := u.log, flash := u.flash, dict := u.dict, out := u.out } := by
  intro u
  obtain ⟨hdrives, hbusyFreed, hshown⟩ := pllDoneFreed_shows s hp
  have hothers : s.entriesBut (pllDoneFreed s p)
      [Obj.CLK_PLL_STATUS p, Obj.CLK_STATUS, Obj.PRT_STATUS, Obj.CLK_PLL_RELOCK_TRANSIENT p] := by
    intro key _ hkey
    simp only [List.mem_cons, List.not_mem_nil, or_false, not_or] at hkey
    obtain ⟨hstatus, hshow, hcarrier, -⟩ := hkey
    exact get_pllDoneFreed s p hstatus hshow hcarrier
  rcases pllDone_of_busy hbusy hvalid hfree with hu | hu
  · have hu' : u = pllDoneFreed s p := hu
    rw [hu']
    refine ⟨hdrives, hbusyFreed, hshown, hothers, ?_⟩
    rw [pllDoneFreed_frame]
  · have hu' : u = pllOutcome ((pllDoneFreed s p).bump (Obj.CLK_PLL_RELOCK_TRANSIENT p)) 485 p false := hu
    have hlog := logOnly_pllOutcome ((pllDoneFreed s p).bump (Obj.CLK_PLL_RELOCK_TRANSIENT p)) 485 p false
    have hget : ∀ key, isLogEntry key = false → key ≠ Obj.CLK_PLL_RELOCK_TRANSIENT p → u.get key = (pllDoneFreed s p).get key := by
      intro key hkey hne
      rw [hu', hlog.1 key hkey, State.get_bump, if_neg hne]
    have hstatus : u.get (Obj.CLK_PLL_STATUS p) = (pllDoneFreed s p).get (Obj.CLK_PLL_STATUS p) :=
      hget _ (isLogEntry_of_lt (by simp only [Obj.CLK_PLL_STATUS]; omega))
        (by simp only [Obj.CLK_PLL_STATUS, Obj.CLK_PLL_RELOCK_TRANSIENT]; omega)
    refine ⟨(pllDrives_congr hstatus).trans hdrives, (bit_congr hstatus 2).trans hbusyFreed,
      (bit_congr (hget _ (by decide) (by simp only [Obj.CLK_STATUS, Obj.CLK_PLL_RELOCK_TRANSIENT]; omega)) p).trans hshown, ?_, ?_⟩
    · intro key hlog' hkey
      have hne : key ≠ Obj.CLK_PLL_RELOCK_TRANSIENT p := fun h => hkey (by simp [h])
      exact (hget key hlog' hne).trans (hothers key hlog' hkey)
    · rw [hu', hlog.2, pllDoneFreed_frame]
      rfl

/-! ## Lasting failure -/

/-- No lock within 500 us, before its record (R357). -/
def pllGivenUp (s : State) (p : Nat) : State :=
  ((s.put (Obj.CLK_PLL_STATUS p) (2 + 8 + if s.bit (Obj.CLK_PLL_STATUS p) 4 then 16 else 0)).withClk fun c =>
    { c with relock := c.relock.set p 0 }).bump (Obj.CLK_PLL_LASTING p)

theorem pllTimeout_of_busy {s : State} {p : Nat} (hbusy : s.pllBusy p = true) :
    s.pllTimeout p = pllOutcome (pllGivenUp s p) 486 p true := by
  rw [State.pllTimeout, if_neg (by rw [hbusy]; decide)]
  rfl

/-- What a lasting failure shows, and what it leaves alone (R357). -/
theorem pllTimeout_shows {s : State} {p : Nat} (hp : p < 6) (hbusy : s.pllBusy p = true) :
    let u := s.pllTimeout p
    u.pllDrives p = false ∧ u.pllBusy p = false ∧ u.bit (Obj.CLK_PLL_STATUS p) 3 = true ∧
      u.get (Obj.CLK_PLL_LASTING p) = min (s.get (Obj.CLK_PLL_LASTING p) + 1) 0xFFFFFFFF ∧
      u.sourcePending 486 ∧
      s.entriesBut u [Obj.CLK_PLL_STATUS p, Obj.CLK_PLL_LASTING p] ∧
      u = { s with objs := u.objs, clk := u.clk, icu := u.icu, log := u.log, flash := u.flash, dict := u.dict, out := u.out } := by
  intro u
  have hu : u = pllOutcome (pllGivenUp s p) 486 p true := pllTimeout_of_busy hbusy
  have hlog := logOnly_pllOutcome (pllGivenUp s p) 486 p true
  have hlasting : Obj.CLK_PLL_LASTING p ≠ Obj.CLK_PLL_STATUS p := by simp only [Obj.CLK_PLL_STATUS, Obj.CLK_PLL_LASTING]; omega
  have hstatus : u.getN (Obj.CLK_PLL_STATUS p) = 2 + 8 + if s.bit (Obj.CLK_PLL_STATUS p) 4 then 16 else 0 := by
    rw [hu, State.getN, hlog.1 _ (isLogEntry_of_lt (by simp only [Obj.CLK_PLL_STATUS]; omega)), pllGivenUp, State.get_bump,
      if_neg hlasting.symm, State.get_withClk, State.get_put_same]
    cases s.bit (Obj.CLK_PLL_STATUS p) 4 <;> rfl
  refine ⟨?drives, ?busy, ?lasting, ?count, ?pending, fun key hkey hnot => ?others, ?frame⟩
  case drives =>
    rw [State.pllDrives, hstatus]
    cases s.bit (Obj.CLK_PLL_STATUS p) 4 <;> decide
  case busy =>
    rw [State.pllBusy, State.bit, hstatus]
    cases s.bit (Obj.CLK_PLL_STATUS p) 4 <;> decide
  case lasting =>
    rw [State.bit, hstatus]
    cases s.bit (Obj.CLK_PLL_STATUS p) 4 <;> decide
  case count =>
    rw [hu, hlog.1 _ (isLogEntry_of_lt (by simp only [Obj.CLK_PLL_LASTING]; omega)), pllGivenUp, State.get_bump, if_pos rfl,
      State.get_withClk, State.get_put, if_neg hlasting]
  case pending => exact hu ▸ pllOutcome_pending _ (by decide) _ _
  case others =>
    simp only [List.mem_cons, List.not_mem_nil, or_false, not_or] at hnot
    rw [hu, hlog.1 key hkey, pllGivenUp, State.get_bump, if_neg hnot.2, State.get_withClk, State.get_put, if_neg hnot.1]
  case frame =>
    rw [hu, hlog.2]
    rfl

/-! ## A reset of another cause than PORESET_N -/

theorem uartLine_aon (s : State) (chars : List Nat) : (s.uartLine chars).aon = s.aon := by
  rw [(State.logOnly_uartLine s chars).2]

/-- A reset without PORESET_N leaves the device in BOOT, and AON with its cause (R474). -/
theorem resetWith_boots (s : State) (cause : Nat) :
    (s.resetWith cause).devState = stBoot ∧ (s.resetWith cause).aon.cause = cause := by
  have hline (a : State) (n : Nat) (h : a.devState = stBoot) (haon : a.aon.cause = cause) :
      (a.bootLine n a.boot.bank 1 0).devState = stBoot ∧ (a.bootLine n a.boot.bank 1 0).aon.cause = cause := by
    refine ⟨?_, (congrArg (·.cause) (uartLine_aon a _)).trans haon⟩
    rw [State.devState, State.getN, State.bootLine, (State.logOnly_uartLine a _).1 _ (by decide)]
    exact h
  have hbegin (a : State) (hcause : a.aon.cause = cause) (unitB : Bool) :
      (a.bootBegin unitB).devState = stBoot ∧ (a.bootBegin unitB).aon.cause = cause := by
    unfold State.bootBegin
    extract_lets s1 id s2 hold bootOf dictOf s3 s4
    have hshown : s2.devState = stBoot := by
      rw [State.devState, State.getN, State.get_put_ne _ _ (by decide), State.get_put_ne _ _ (by decide),
        State.get_put_ne _ _ (by decide), State.get_put_same]
      rfl
    have hkept : s3.aon.cause = cause := hcause
    obtain ⟨hstate, haon⟩ := hline s3 (Config.stageCode 0).toNat hshown hkept
    split
    · exact ⟨hstate, haon⟩
    · exact ⟨hstate, haon⟩
  exact hbegin { s with aon := { s.aon with cause := cause } } rfl _

/-! ## Quad PLLs -/

/-- A quad PLL that has lost lock, before what its lanes do (R357, Table 14.14). -/
def quadUnlocked (s : State) (q : Nat) : State :=
  (((s.setBit (Obj.CLK_QUAD_STATUS q) 0 false).bump (Obj.CLK_QUAD_LOSS_COUNT q)).count 0x10).raise 487

theorem quadLoss_of_locked {s : State} {q : Nat} (h : s.bit (Obj.CLK_QUAD_STATUS q) 0 = true) :
    s.quadLoss q = ((quadUnlocked s q).journalFull 487 q [] 0x10 false false).withClk fun c =>
      { c with quadRelock := c.quadRelock.set q true } :=
  if_neg (by rw [h]; decide)

theorem get_quadLoss {s : State} {q : Nat} (h : s.bit (Obj.CLK_QUAD_STATUS q) 0 = true) {key : Nat} (hhi : key < 0x2E0000) :
    (s.quadLoss q).get key =
      if key = Obj.CLK_QUAD_LOSS_COUNT q then min (s.get (Obj.CLK_QUAD_LOSS_COUNT q) + 1) 0xFFFFFFFF
      else (s.setBit (Obj.CLK_QUAD_STATUS q) 0 false).get key := by
  have hne : Obj.CLK_QUAD_LOSS_COUNT q ≠ Obj.CLK_QUAD_STATUS q := by simp only [Obj.CLK_QUAD_LOSS_COUNT, Obj.CLK_QUAD_STATUS]; omega
  have hcount : key ≠ Obj.LOG_CNT (0x10 - 1) := by simp only [Obj.LOG_CNT]; omega
  rw [quadLoss_of_locked h, State.get_withClk, State.get_journalFull _ _ _ _ _ _ _ (isLogEntry_of_lt (by omega)), quadUnlocked,
    State.get_raise, State.get_count, if_neg hcount, State.get_bump, State.get_setBit, if_neg hne]

theorem quadLoss_pending {s : State} {q : Nat} (h : s.bit (Obj.CLK_QUAD_STATUS q) 0 = true) : (s.quadLoss q).sourcePending 487 := by
  rw [quadLoss_of_locked h]
  exact sourcePending_kept (by decide) (sourcePending_raise _ 487)
    ((keepsPending_journalFull (quadUnlocked s q) 487 q [] 0x10 false false).trans (.of_icu rfl))

/-- A lost quad takes its lanes with it, which is no concern of the clock unit (R269). -/
theorem apart_quadLost (s : State) (q : Nat) : Apart false (s.quadLoss q) (s.quadLost q) :=
  foldl_related Apart.refl Apart.trans _
    (fun a _ hk => apart_laneLost a (List.mem_range.1 (List.mem_of_mem_filter hk))) _

theorem quadLost_shows {s : State} {q : Nat} (hq : q < 13) (h : s.bit (Obj.CLK_QUAD_STATUS q) 0 = true) :
    (s.quadLost q).bit (Obj.CLK_QUAD_STATUS q) 0 = false ∧
      (s.quadLost q).get (Obj.CLK_QUAD_LOSS_COUNT q) = min (s.get (Obj.CLK_QUAD_LOSS_COUNT q) + 1) 0xFFFFFFFF ∧
      (s.quadLost q).sourcePending 487 := by
  have hlanes := apart_quadLost s q
  refine ⟨?status, ?count, sourcePending_kept (by decide) (quadLoss_pending h) hlanes.pending⟩
  case status =>
    rw [hlanes.bit (by simp only [Obj.CLK_QUAD_STATUS]; omega) (by simp only [Obj.CLK_QUAD_STATUS]; omega),
      bit_congr (get_quadLoss h (by simp only [Obj.CLK_QUAD_STATUS]; omega) |>.trans
        (if_neg (by simp only [Obj.CLK_QUAD_STATUS, Obj.CLK_QUAD_LOSS_COUNT]; omega))), State.bit_setBit, if_pos rfl, if_pos rfl]
  case count =>
    rw [hlanes.entries _ (by simp only [Obj.CLK_QUAD_LOSS_COUNT]; omega) (by simp only [Obj.CLK_QUAD_LOSS_COUNT]; omega),
      get_quadLoss h (by simp only [Obj.CLK_QUAD_LOSS_COUNT]; omega), if_pos rfl]

/-- A quad PLL in lock again, before its record (R357). -/
def quadLocked (s : State) (q : Nat) : State :=
  (s.setBit (Obj.CLK_QUAD_STATUS q) 0 true).withClk fun c =>
    { c with quadRelock := c.quadRelock.set q false, quadLasting := c.quadLasting.set q false }

/-- A quad PLL that does not relock, before its record (R357). -/
def quadGivenUp (s : State) (q : Nat) : State :=
  s.withClk fun c => { c with quadRelock := c.quadRelock.set q false, quadLasting := c.quadLasting.set q true }

theorem quadDone_of_relocking {s : State} {q : Nat} (h : s.clk.quadRelock.getD q false = true) :
    s.quadDone q = pllOutcome (quadLocked s q) 485 (6 + q) false := by
  rw [State.quadDone, if_neg (by rw [h]; decide)]
  rfl

theorem quadTimeout_of_relocking {s : State} {q : Nat} (h : s.clk.quadRelock.getD q false = true) :
    s.quadTimeout q = pllOutcome (quadGivenUp s q) 486 (6 + q) true := by
  rw [State.quadTimeout, if_neg (by rw [h]; decide)]
  rfl

/-! ## The obligation -/

theorem pllLoss_of_single (s : State) {p : Nat} (h : p ≠ 2) : s.pllLoss p = s.pllLossOne p := if_neg h

theorem pllLoss_of_time (s : State) : s.pllLoss 2 = (s.pllLossOne 2).pllLossOne 3 := by
  rw [State.pllLoss]
  exact if_pos rfl

/-- Settles O28: each loss of lock is one lock attempt, and what follows it in other units leaves chapter 14's entries alone. -/
theorem pllsLockAndLoseLock : Obligations.PllsLockAndLoseLock := by
  intro s t hst
  have hrun : (s.land t).devState ≠ stReset := hst
  refine ⟨fun p hp hsingle hlock => ?single, fun htime hcarrier => ?pair, fun p hp hbusy hvalid hfree => ?done,
    fun p hp hsleep hbusy => ?timeout, fun p hp hsleep hbusy => ?wake, fun q hq hlock => ?quadLoss, fun q hq hrelock => ?quadDone,
    fun q hq hrelock => ?quadTimeout⟩
  case single =>
    refine ⟨(s.land t).clocked fun s => if p < 6 then s.pllLoss p else s, rfl, ?_⟩
    rw [clocked_of_running hrun, if_pos hp, pllLoss_of_single _ hsingle]
    exact pllLossOne_shows (s := s.land t) hp hlock
  case pair =>
    refine ⟨(s.land t).clocked fun s => if 2 < 6 then s.pllLoss 2 else s, rfl, ?_⟩
    rw [clocked_of_running hrun, if_pos (by decide), pllLoss_of_time]
    obtain ⟨hdrives, hbusy, -, -⟩ := pllLossOne_shows (s := s.land t) (p := 2) (by decide) htime
    have hstill : ((s.land t).pllLossOne 2).bit (Obj.CLK_PLL_STATUS 3) 0 = true :=
      (bit_congr (get_pllLossOne_status _ (by decide) (by decide) (by decide)) 0).trans hcarrier
    obtain ⟨hdrives3, hbusy3, -, -⟩ := pllLossOne_shows (s := (s.land t).pllLossOne 2) (p := 3) (by decide) hstill
    have hkept := get_pllLossOne_status ((s.land t).pllLossOne 2) (p := 3) (q := 2) (by decide) (by decide) (by decide)
    exact ⟨(pllDrives_congr hkept).trans hdrives, (bit_congr hkept 2).trans hbusy, hdrives3, hbusy3⟩
  case done =>
    refine ⟨(s.land t).clocked fun s => if p < 6 then s.pllDone p else if p < 19 then s.quadDone (p - 6) else s, rfl, ?_⟩
    rw [clocked_of_running hrun, if_pos hp]
    exact pllDone_shows (s := s.land t) hp hbusy hvalid hfree
  case timeout =>
    refine ⟨_, rfl, ?_⟩
    beta_reduce
    rw [clocked_of_running hrun, if_pos hp, if_neg (by simp [hsleep, State.land])]
    exact pllTimeout_shows (s := s.land t) hp hbusy
  case wake =>
    refine ⟨_, rfl, ?_⟩
    have hwaking : ((s.land t).clk.sleep = 4 && (s.land t).pllBusy p) = true := by
      rw [Bool.and_eq_true]
      exact ⟨decide_eq_true hsleep, hbusy⟩
    beta_reduce
    rw [clocked_of_running hrun, if_pos hp, if_pos hwaking]
    exact resetWith_boots _ _
  case quadLoss =>
    refine ⟨(s.land t).quadLost q, rfl, ?_⟩
    exact quadLost_shows (s := s.land t) hq hlock
  case quadDone =>
    refine ⟨(s.land t).clocked fun s => if 6 + q < 6 then s.pllDone (6 + q) else if 6 + q < 19 then s.quadDone (6 + q - 6) else s,
      rfl, ?_⟩
    have hlog := logOnly_pllOutcome (quadLocked (s.land t) q) 485 (6 + q) false
    have hkey : isLogEntry (Obj.CLK_QUAD_STATUS q) = false := isLogEntry_of_lt (by simp only [Obj.CLK_QUAD_STATUS]; omega)
    rw [clocked_of_running hrun, if_neg (by omega), if_pos (by omega), Nat.add_sub_cancel_left,
      quadDone_of_relocking (s := s.land t) hrelock]
    refine ⟨?_, pllOutcome_pending _ (by decide) _ _, fun key hlogged hnot => ?_, ?_⟩
    · rw [bit_of_logOnly hlog hkey, quadLocked, State.bit_withClk, State.bit_setBit, if_pos rfl, if_pos rfl]
    · rw [hlog.1 key hlogged, quadLocked, State.get_withClk, State.get_setBit, if_neg fun h => hnot (by simp [h]), State.get_land]
    · rw [hlog.2]
      rfl
  case quadTimeout =>
    refine ⟨_, rfl, ?_⟩
    have hlog := logOnly_pllOutcome (quadGivenUp (s.land t) q) 486 (6 + q) true
    beta_reduce
    rw [clocked_of_running hrun, if_neg (by omega), if_pos (by omega), Nat.add_sub_cancel_left,
      quadTimeout_of_relocking (s := s.land t) hrelock]
    refine ⟨?_, pllOutcome_pending _ (by decide) _ _, fun key hlogged _ => hlog.1 key hlogged, ?_⟩
    · have hclk : (pllOutcome (quadGivenUp (s.land t) q) 486 (6 + q) true).clk = (quadGivenUp (s.land t) q).clk := by rw [hlog.2]
      rw [hclk]
      show ((s.clk.quadRelock.set q false).getD q false) = false
      rw [List.getD_eq_getElem?_getD, List.getElem?_set_self']
      cases s.clk.quadRelock[q]? <;> rfl
    · rw [hlog.2]
      rfl

end Sys2Proof.Proofs
end

section
/-!
PROOF. Losses of the crystal and of REF156, BYP200 and crossings (R350, R352, R353, R359).
-/

namespace Sys2Proof.Proofs

open Sys2Proof Sys2Proof.Machine

/-! ## The crystal -/

/-- A DPLL state that is entered is shown, whatever state it is entered from; CLK_STATUS changes in the lock bit alone (Table 14.3). -/
theorem dpllEnter_shows (s : State) (st : Nat) {i : Nat} (hi : i ≠ 6) :
    (s.dpllEnter st).dpll = st ∧ (s.dpllEnter st).bit Obj.CLK_STATUS i = s.bit Obj.CLK_STATUS i := by
  by_cases hsame : s.dpll = st
  · rw [State.dpllEnter, if_pos hsame]
    exact ⟨hsame, rfl⟩
  · by_cases hfrom : s.dpll = 3
    · have hto : st ≠ 3 := fun h => hsame (hfrom.trans h.symm)
      have hlog : (holdoverEnded s).LogOnly ((holdoverEnded s).event 481 noSubject []) := State.logOnly_event ..
      rw [dpllEnter_from_holdover hfrom hto]
      refine ⟨dpll_dpllShown _ _, ?_⟩
      rw [bit_dpllShown_status _ _ hi, bit_of_logOnly hlog (by decide), holdoverEnded, State.bit_withClk, State.bit_put,
        if_neg (by decide)]
    · by_cases hto : st = 3
      · subst hto
        have hlog : (holdoverBegun (dpllShown s 3)).LogOnly (s.dpllEnter 3) :=
          dpllEnter_holdover hfrom ▸ State.logOnly_journalFull ..
        have hkept : ∀ key, isLogEntry key = false → key ≠ Obj.CLK_HOLDOVER_COUNT →
            (s.dpllEnter 3).get key = (dpllShown s 3).get key := by
          intro key hkey hne
          have hcount : key ≠ Obj.LOG_CNT (0x11 - 1) := fun h => absurd (h ▸ hkey) (by decide)
          rw [hlog.1 key hkey, holdoverBegun, State.get_raise, State.get_withClk, State.get_count, if_neg hcount, State.get_bump,
            if_neg hne]
        refine ⟨?_, (bit_congr (hkept _ (by decide) (by decide)) i).trans (bit_dpllShown_status _ _ hi)⟩
        rw [State.dpll, State.getN, hkept _ (by decide) (by decide)]
        exact dpll_dpllShown s 3
      · rw [dpllEnter_plain hsame hfrom hto]
        exact ⟨dpll_dpllShown _ _, bit_dpllShown_status _ _ hi⟩

/-- Every analog PLL loses its reference in turn (R352). -/
theorem pllLossOne_drives (s : State) {p : Nat} (hp : p < 6) : (s.pllLossOne p).pllDrives p = false := by
  cases hlock : s.bit (Obj.CLK_PLL_STATUS p) 0 with
  | false =>
    rw [pllLossOne_of_unlocked hlock]
    exact pllDrives_of_unlocked hlock
  | true => exact (pllLossOne_shows hp hlock).1

/-- After a loss of lock of a list of PLLs none of them drives its domain, and the others are as before. -/
theorem pllLosses_drive {l : List Nat} (hl : ∀ p ∈ l, p < 6) (s : State) {q : Nat} (hq : q < 6)
    (h : q ∈ l ∨ s.pllDrives q = false) : (s.forAll l State.pllLossOne).pllDrives q = false := by
  induction l generalizing s with
  | nil =>
    rcases h with h | h
    · exact absurd h List.not_mem_nil
    · exact h
  | cons p l ih =>
    have hp : p < 6 := hl p List.mem_cons_self
    refine ih (fun r hr => hl r (List.mem_cons_of_mem p hr)) (s.pllLossOne p) ?_
    by_cases hqp : q = p
    · subst hqp
      exact .inr (pllLossOne_drives s hp)
    · rcases h with h | h
      · exact .inl ((List.mem_cons.1 h).resolve_left hqp)
      · exact .inr ((pllDrives_congr (get_pllLossOne_status s hp hq hqp)).trans h)

/-- The losses of lock leave the DPLL's state and the crystal's bit alone. -/
theorem pllLosses_keep {l : List Nat} (hl : ∀ p ∈ l, p < 6) (s : State) :
    (s.forAll l State.pllLossOne).dpll = s.dpll ∧
      (s.forAll l State.pllLossOne).bit Obj.CLK_STATUS 7 = s.bit Obj.CLK_STATUS 7 := by
  refine foldl_related (R := fun a b => b.dpll = a.dpll ∧ b.bit Obj.CLK_STATUS 7 = a.bit Obj.CLK_STATUS 7) (fun _ => ⟨rfl, rfl⟩)
    (fun h g => ⟨g.1.trans h.1, g.2.trans h.2⟩) l (fun a p hp => ⟨?_, bit_pllLossOne_shown a ?_⟩) s
  · rw [State.dpll, State.getN, get_pllLossOne_ne a (by decide) (by decide)
      (by simp only [Obj.CLK_DPLL_STATE, Obj.CLK_PLL_STATUS]; omega) (by simp only [Obj.CLK_DPLL_STATE, Obj.CLK_PLL_LOSS_COUNT]; omega)
      (by decide)]
    rfl
  · have := hl p hp
    omega

/-- The crystal is noted as lost, before the PLLs lose their reference (R352). -/
def crystalNoted (s : State) : State := ((s.setBit Obj.CLK_STATUS 7 true).dpllEnter 4).event 482 noSubject []

theorem crystalLost_shows {s : State} (h : s.bit Obj.CLK_STATUS 7 = false) :
    s.crystalLost.dpll = 4 ∧ s.crystalLost.bit Obj.CLK_STATUS 7 = true ∧ ∀ p ∈ List.range 6, s.crystalLost.pllDrives p = false := by
  have hlost : s.crystalLost = (crystalNoted s).forAll (List.range 6) State.pllLossOne := if_neg (by rw [h]; decide)
  have hrange : ∀ p ∈ List.range 6, p < 6 := fun p hp => List.mem_range.1 hp
  have hlog : ((s.setBit Obj.CLK_STATUS 7 true).dpllEnter 4).LogOnly (crystalNoted s) := State.logOnly_event ..
  obtain ⟨hentered, hbit⟩ := dpllEnter_shows (s.setBit Obj.CLK_STATUS 7 true) 4 (i := 7) (by decide)
  obtain ⟨hdpll, hcrystal⟩ := pllLosses_keep hrange (crystalNoted s)
  rw [hlost]
  refine ⟨hdpll.trans ?_, hcrystal.trans ?_, fun p hp => pllLosses_drive hrange _ (hrange p hp) (.inl hp)⟩
  · rw [State.dpll, State.getN, hlog.1 _ (by decide)]
    exact hentered
  · rw [bit_of_logOnly hlog (by decide), hbit, State.bit_setBit, if_pos rfl, if_pos rfl]

/-! ## REF156 -/

/-- Every quad PLL takes the reference that is left (R353). -/
def quadsSwitched (s : State) (lost : Bool) : State :=
  (s.setBit Obj.CLK_STATUS 9 lost).forAll (List.range 13) fun s q => s.setBit (Obj.CLK_QUAD_STATUS q) 1 lost

theorem ref156_of_change {s : State} {lost : Bool} (h : s.bit Obj.CLK_STATUS 9 ≠ lost) :
    s.ref156 lost = (quadsSwitched s lost).event 483 noSubject [if lost then 1 else 0] := if_neg h

/-- The reference bits of the quads follow, and nothing else. -/
theorem get_setQuads (l : List Nat) (s : State) (on : Bool) {key : Nat} (hkey : key ∉ l.map Obj.CLK_QUAD_STATUS) :
    (s.forAll l fun s q => s.setBit (Obj.CLK_QUAD_STATUS q) 1 on).get key = s.get key :=
  foldl_related (R := fun a b => b.get key = a.get key) (fun _ => rfl) (fun h g => g.trans h) l
    (fun a q hq => by rw [State.get_setBit, if_neg fun h : key = Obj.CLK_QUAD_STATUS q => hkey (h ▸ List.mem_map_of_mem hq)]) s

theorem bit_setQuads {l : List Nat} {q : Nat} (s : State) (on : Bool) (h : q ∈ l ∨ s.bit (Obj.CLK_QUAD_STATUS q) 1 = on) :
    (s.forAll l fun s q => s.setBit (Obj.CLK_QUAD_STATUS q) 1 on).bit (Obj.CLK_QUAD_STATUS q) 1 = on := by
  induction l generalizing s with
  | nil => exact h.resolve_left List.not_mem_nil
  | cons p l ih =>
    refine ih (s.setBit (Obj.CLK_QUAD_STATUS p) 1 on) ?_
    by_cases hqp : q = p
    · subst hqp
      exact .inr (by rw [State.bit_setBit, if_pos rfl, if_pos rfl])
    · rcases h with h | h
      · exact .inl ((List.mem_cons.1 h).resolve_left hqp)
      · refine .inr ?_
        rw [State.bit_setBit, if_neg fun heq => hqp (Nat.add_left_cancel heq)]
        exact h

theorem setQuads_frame (l : List Nat) (s : State) (on : Bool) :
    (s.forAll l fun s q => s.setBit (Obj.CLK_QUAD_STATUS q) 1 on) =
      { s with objs := (s.forAll l fun s q => s.setBit (Obj.CLK_QUAD_STATUS q) 1 on).objs } :=
  foldl_related (R := fun a b => b = { a with objs := b.objs }) (fun _ => rfl) (fun h g => by rw [g, h]) l (fun _ _ _ => rfl) s

/-- A change of REF156: every quad PLL on the reference that is left, and source 483 (R353). -/
theorem ref156_shows {s : State} {lost : Bool} (h : s.bit Obj.CLK_STATUS 9 ≠ lost) :
    let u := s.ref156 lost
    u.bit Obj.CLK_STATUS 9 = lost ∧ (∀ q ∈ List.range 13, u.bit (Obj.CLK_QUAD_STATUS q) 1 = lost) ∧ u.sourcePending 483 ∧
      s.entriesBut u (Obj.CLK_STATUS :: (List.range 13).map Obj.CLK_QUAD_STATUS) ∧
      u = { s with objs := u.objs, icu := u.icu, log := u.log, flash := u.flash, dict := u.dict, out := u.out } := by
  intro u
  have hu : u = (quadsSwitched s lost).event 483 noSubject [if lost then 1 else 0] := ref156_of_change h
  have hlog : (quadsSwitched s lost).LogOnly u := hu ▸ State.logOnly_event ..
  have hkeys : Obj.CLK_STATUS ∉ (List.range 13).map Obj.CLK_QUAD_STATUS := by decide
  refine ⟨?status, fun q hq => ?quads, ?pending, fun key hkey hnot => ?others, ?frame⟩
  case status =>
    rw [bit_of_logOnly hlog (by decide), quadsSwitched, bit_congr (get_setQuads _ _ _ hkeys), State.bit_setBit, if_pos rfl,
      if_pos rfl]
  case quads =>
    have hlt := List.mem_range.1 hq
    rw [bit_of_logOnly hlog (isLogEntry_of_lt (by simp only [Obj.CLK_QUAD_STATUS]; omega))]
    exact bit_setQuads _ _ (.inl hq)
  case pending => exact hu ▸ sourcePending_event _ (by decide) _ _
  case others =>
    obtain ⟨hstatus, hquads⟩ := not_or.1 (List.mem_cons.not.1 hnot)
    rw [hlog.1 key hkey, quadsSwitched, get_setQuads _ _ _ hquads, State.get_setBit, if_neg hstatus]
  case frame =>
    rw [hlog.2, quadsSwitched, setQuads_frame]
    rfl

/-! ## BYP200 and crossings -/

/-- BYP200 measured lies outside 170 to 230 MHz (R359). -/
def bypassFaulty (khz : Nat) : Bool := khz < 170000 || 230000 < khz

/-- A measurement of BYP200, before CLK_STATUS shows it. -/
def bypassMeasured (s : State) (khz : Nat) : State :=
  if bypassFaulty khz && !s.bit Obj.CLK_STATUS 10 then (s.put Obj.CLK_BYP200_FREQ khz).raise 489 else s.put Obj.CLK_BYP200_FREQ khz

theorem byp200_eq (s : State) (khz : Nat) :
    s.byp200 khz = (bypassMeasured s khz).setBit Obj.CLK_STATUS 10 (bypassFaulty khz) := rfl

theorem get_bypassMeasured (s : State) (khz key : Nat) :
    (bypassMeasured s khz).get key = if key = Obj.CLK_BYP200_FREQ then (khz : Int) else s.get key := by
  unfold bypassMeasured
  split
  · rw [State.get_raise, State.get_put]
  · rw [State.get_put]

theorem bypassMeasured_frame (s : State) (khz : Nat) :
    bypassMeasured s khz = { s with objs := (bypassMeasured s khz).objs, icu := (bypassMeasured s khz).icu } := by
  unfold bypassMeasured
  split <;> rfl

/-- A unit discarded at a crossing, before its record (R350). -/
def crossingNoted (s : State) : State := ((s.bump Obj.CLK_CDC_FAULT_COUNT).count 0x19).raise 488

/-- Settles O27: the losses fold the loss of one PLL over the six, and each of the other events is one change of CLK_STATUS with its
record. -/
theorem lossesOfReferenceAndBypass : Obligations.LossesOfReferenceAndBypass := by
  intro s t hst
  have hrun : (s.land t).devState ≠ stReset := hst
  refine ⟨fun h => ?crystal, fun h => ?lost, fun h => ?back, fun khz => ?bypass, fun subject => ?crossing⟩
  case crystal =>
    refine ⟨(s.land t).clocked State.crystalLost, rfl, ?_⟩
    rw [clocked_of_running hrun]
    exact crystalLost_shows (s := s.land t) h
  case lost =>
    refine ⟨(s.land t).clocked fun s => s.ref156 true, rfl, ?_⟩
    rw [clocked_of_running hrun]
    exact ref156_shows (s := s.land t) (lost := true) (by rw [State.bit_land, h]; decide)
  case back =>
    refine ⟨(s.land t).clocked fun s => s.ref156 false, rfl, ?_⟩
    rw [clocked_of_running hrun]
    exact ref156_shows (s := s.land t) (lost := false) (by rw [State.bit_land, h]; decide)
  case bypass =>
    refine ⟨(s.land t).clocked fun s => s.byp200 khz, rfl, ?_⟩
    rw [clocked_of_running hrun, byp200_eq]
    refine ⟨?_, ?_, fun hgood hout => ?_, fun key hkey => ?_, ?_⟩
    · rw [State.get_setBit, if_neg (by decide), get_bypassMeasured, if_pos rfl]
    · rw [State.bit_setBit, if_pos rfl, if_pos rfl, bypassFaulty, Bool.decide_or]
    · have hfaulty : (bypassFaulty khz && !(s.land t).bit Obj.CLK_STATUS 10) = true := by
        rw [State.bit_land, hgood, bypassFaulty, ← Bool.decide_or, decide_eq_true hout]
        rfl
      rw [bypassMeasured, if_pos hfaulty]
      exact sourcePending_kept (by decide) (sourcePending_raise _ 489) (.of_icu rfl)
    · simp only [List.mem_cons, List.not_mem_nil, or_false, not_or] at hkey
      rw [State.get_setBit, if_neg hkey.2, get_bypassMeasured, if_neg hkey.1, State.get_land]
    · rw [bypassMeasured_frame]
      rfl
  case crossing =>
    refine ⟨(s.land t).clocked fun s => s.crossingFault subject, rfl, ?_⟩
    have hlog : (crossingNoted (s.land t)).LogOnly ((s.land t).crossingFault subject) := State.logOnly_journalFull ..
    have hget : ∀ key, isLogEntry key = false → ((s.land t).crossingFault subject).get key =
        if key = Obj.CLK_CDC_FAULT_COUNT then min (s.get Obj.CLK_CDC_FAULT_COUNT + 1) 0xFFFFFFFF else s.get key := by
      intro key hkey
      have hcount : key ≠ Obj.LOG_CNT (0x19 - 1) := fun h => absurd (h ▸ hkey) (by decide)
      rw [hlog.1 key hkey, crossingNoted, State.get_raise, State.get_count, if_neg hcount, State.get_bump, State.get_land,
        State.get_land]
    rw [clocked_of_running hrun]
    refine ⟨?_, ?_, fun key hkey hnot => ?_, ?_⟩
    · rw [hget _ (by decide), if_pos rfl]
    · exact sourcePending_kept (by decide) (sourcePending_raise ((s.land t).bump Obj.CLK_CDC_FAULT_COUNT |>.count 0x19) 488)
        (keepsPending_journalFull _ _ _ _ _ _ _)
    · rw [hget key hkey, if_neg fun h => hnot (by simp [h])]
    · rw [hlog.2]
      rfl

end Sys2Proof.Proofs
end

section
/-!
PROOF. Accepted writes of the clock and power entries (R357, R358, R360, R365).
-/

namespace Sys2Proof.Proofs

open Sys2Proof Sys2Proof.Machine

/-! ## Changes of the store alone -/

/-- A change of entries alone. -/
def StoreOnly (a b : State) : Prop := b = { a with objs := b.objs }

theorem StoreOnly.refl (s : State) : StoreOnly s s := rfl

theorem StoreOnly.trans {a b c : State} (h : StoreOnly a b) (g : StoreOnly b c) : StoreOnly a c := by
  unfold StoreOnly at *
  rw [g, h]

theorem storeOnly_put (s : State) (key : Nat) (v : Int) : StoreOnly s (s.put key v) := rfl

/-! ## Rows -/

/-- CLK_PLL_CTRL is read-write and keeps every bit but bit 3 (Table 14.16). -/
theorem row_pllCtrl {p : Nat} (hp : p < 6) :
    ∃ row, Obj.rowOf (Obj.CLK_PLL_CTRL p) = some row ∧ row.access = .rw ∧
      ∀ v : Nat, v < 65536 → v / 8 % 2 = 0 → ObjRow.masked row (ObjType.value row.type (ObjType.bytes row.type v)) = v := by
  have htable : ∀ p < 6, (Obj.rowOf (Obj.CLK_PLL_CTRL p)).map (fun r => (r.access, r.type, r.mask)) = some (.rw, .u16, 0xFFF7) := by
    decide
  obtain ⟨row, hrow, hcolumns⟩ := Option.map_eq_some_iff.1 (htable p hp)
  simp only [Prod.mk.injEq] at hcolumns
  obtain ⟨hrw, htype, hmask⟩ := hcolumns
  refine ⟨row, hrow, hrw, fun v hv hbit => ?_⟩
  have hvalue : ObjType.value .u16 (ObjType.bytes .u16 v) = v := by
    have hbytes : unsigned 16 (v : Int) = v := by simp only [unsigned]; omega
    show ((ofBytes (bytesOf (unsigned 16 v) 2) : Nat) : Int) = v
    rw [hbytes, ofBytes_bytesOf_two hv]
  have hmasked : v &&& 0xFFF7 = v := by
    refine Nat.eq_of_testBit_eq fun i => ?_
    rw [Nat.testBit_and]
    by_cases hi : i = 3
    · subst hi
      have hzero : v.testBit 3 = false := by
        rw [Nat.testBit_eq_decide_div_mod_eq]
        simpa using hbit
      rw [hzero]
      rfl
    · by_cases hbig : 16 ≤ i
      · rw [Nat.testBit_lt_two_pow (lt_of_lt_of_le hv (Nat.pow_le_pow_right (n := 2) (i := 16) (by omega) hbig))]
        rfl
      · have hmaskbit : ∀ i < 16, i ≠ 3 → Nat.testBit 0xFFF7 i = true := by decide
        rw [hmaskbit i (by omega) hi, Bool.and_true]
  rw [ObjRow.masked, htype, hmask, hvalue, if_neg (by decide), Int.toNat_natCast, hmasked]

theorem answersLater_pllCtrl {p : Nat} (hp : p < 6) : ∀ w, answersLater (Obj.CLK_PLL_CTRL p) w = false := by
  match p, hp with
  | 0, _ | 1, _ | 2, _ | 3, _ | 4, _ | 5, _ => exact fun _ => rfl

/-- A write of CLK_PLL_CTRL is a change of the PLL (R358). -/
theorem setEntry_pllCtrl (s : State) {p : Nat} (hp : p < 6) (v : Nat) :
    s.setEntry (Obj.CLK_PLL_CTRL p) v = s.pllCtrl p v := by
  match p, hp with
  | 0, _ | 1, _ | 2, _ | 3, _ | 4, _ | 5, _ => rfl

/-- CLK_PLL_RELOCK is write-only and holds six bits (Table 14.16). -/
theorem row_pllRelock :
    ∃ row, Obj.rowOf Obj.CLK_PLL_RELOCK = some row ∧ row.access = .wo ∧
      ∀ mask : Nat, mask < 64 → ObjType.value row.type (ObjType.bytes row.type mask) = mask := by
  refine ⟨_, rfl, rfl, fun mask hmask => ?_⟩
  have hbytes : unsigned 8 (mask : Int) = mask := by simp only [unsigned]; omega
  show ((ofBytes (bytesOf (unsigned 8 mask) 1) : Nat) : Int) = mask
  rw [hbytes, ofBytes_bytesOf (by omega)]

/-- PWR_EXTREMES_CLEAR and PWR_SLEEP_REQ are write-only and hold a 1 (Table 14.17). -/
theorem row_extremesClear :
    ∃ row, Obj.rowOf Obj.PWR_EXTREMES_CLEAR = some row ∧ row.access = .wo ∧ ObjType.value row.type (ObjType.bytes row.type 1) = 1 :=
  ⟨_, rfl, rfl, rfl⟩

theorem row_sleepReq :
    ∃ row, Obj.rowOf Obj.PWR_SLEEP_REQ = some row ∧ row.access = .wo ∧ ObjType.value row.type (ObjType.bytes row.type 1) = 1 :=
  ⟨_, rfl, rfl, rfl⟩

/-! ## CLK_PLL_CTRL -/

theorem pllCtrl_of_change {s : State} {p v : Nat} (hne : s.getN (Obj.CLK_PLL_CTRL p) ≠ v) :
    s.pllCtrl p v =
      if p = 2 then ((s.put (Obj.CLK_PLL_CTRL p) v).pllStart p 3).pllStart 3 3 else (s.put (Obj.CLK_PLL_CTRL p) v).pllStart p 3 := by
  rw [State.pllCtrl, if_neg hne]

theorem pllCtrl_ne_status (p q : Nat) (hp : p < 6) : Obj.CLK_PLL_CTRL p ≠ Obj.CLK_PLL_STATUS q := by
  simp only [Obj.CLK_PLL_CTRL, Obj.CLK_PLL_STATUS]
  omega

/-- A change of CLK_PLL_CTRL holds the value, and the PLL passes through bypass (R358). -/
theorem pllCtrl_shows {s : State} {p v : Nat} (hp : p < 6) (hne : s.getN (Obj.CLK_PLL_CTRL p) ≠ v) :
    let u := s.pllCtrl p v
    u.getN (Obj.CLK_PLL_CTRL p) = v ∧ u.pllBusy p = true ∧ u.pllDrives p = false ∧ (p = 2 → u.pllBusy 3 = true) := by
  intro u
  have hlo : 0x2D0000 ≤ Obj.CLK_PLL_CTRL p := by simp only [Obj.CLK_PLL_CTRL]; omega
  have hhi : Obj.CLK_PLL_CTRL p < 0x2E0000 := by simp only [Obj.CLK_PLL_CTRL]; omega
  have hstatus : Obj.CLK_PLL_CTRL p ≠ Obj.CLK_STATUS := by simp only [Obj.CLK_PLL_CTRL, Obj.CLK_STATUS]; omega
  have hheld : ((s.put (Obj.CLK_PLL_CTRL p) v).pllStart p 3).getN (Obj.CLK_PLL_CTRL p) = v := by
    rw [State.getN, get_pllStart_ne _ _ _ hlo hhi (pllCtrl_ne_status p p hp) hstatus, State.get_put_same, Int.toNat_natCast]
  obtain ⟨hdrives, hbusy, -, -⟩ := pllStart_bypasses (s.put (Obj.CLK_PLL_CTRL p) v) hp 3
  have hu : u = _ := pllCtrl_of_change hne
  by_cases htime : p = 2
  · subst htime
    have hkept := get_pllStart_ne ((s.put (Obj.CLK_PLL_CTRL 2) v).pllStart 2 3) 3 3 (key := Obj.CLK_PLL_STATUS 2) (by decide) (by decide)
      (by decide) (by decide)
    rw [hu, if_pos rfl]
    refine ⟨?_, (bit_congr hkept 2).trans hbusy, (pllDrives_congr hkept).trans hdrives, fun _ => ?_⟩
    · rw [State.getN, get_pllStart_ne _ _ _ hlo hhi (pllCtrl_ne_status 2 3 hp) hstatus]
      exact hheld
    · exact (pllStart_bypasses _ (by decide) 3).2.1
  · rw [hu, if_neg htime]
    exact ⟨hheld, hbusy, hdrives, fun h => absurd h htime⟩

/-! ## CLK_PLL_RELOCK -/

/-- A lasting PLL tries again (R357). -/
def pllRetryOne (s : State) (p : Nat) : State := if s.bit (Obj.CLK_PLL_STATUS p) 3 then s.pllStart p 2 else s

theorem pllRetry_eq (s : State) (mask : Nat) :
    s.pllRetry mask = s.forAll ((List.range 6).filter fun p => bitOf mask p) pllRetryOne := rfl

theorem get_pllRetryOne_other (s : State) {p q : Nat} (hp : p < 6) (hq : q < 6) (hne : q ≠ p) :
    (pllRetryOne s p).get (Obj.CLK_PLL_STATUS q) = s.get (Obj.CLK_PLL_STATUS q) := by
  unfold pllRetryOne
  split
  · exact get_pllStart_ne s p 2 (by simp only [Obj.CLK_PLL_STATUS]; omega) (by simp only [Obj.CLK_PLL_STATUS]; omega)
      (by simp only [Obj.CLK_PLL_STATUS]; omega) (pllStatus_ne_status q)
  · rfl

/-- A PLL is starting again: busy and no longer lasting. -/
def Retrying (s : State) (q : Nat) : Prop := s.pllBusy q = true ∧ s.bit (Obj.CLK_PLL_STATUS q) 3 = false

theorem retrying_pllRetryOne {s : State} {q : Nat} (hq : q < 6) (h : s.bit (Obj.CLK_PLL_STATUS q) 3 = true) :
    Retrying (pllRetryOne s q) q := by
  rw [pllRetryOne, if_pos h]
  obtain ⟨-, hbusy, hlasting, -⟩ := pllStart_bypasses s hq 2
  exact ⟨hbusy, hlasting⟩

/-- Each lasting PLL of a list is starting again after the list has been gone through. -/
theorem retrying_of_list {l : List Nat} (hl : ∀ p ∈ l, p < 6) (s : State) {q : Nat} (hq : q < 6)
    (h : Retrying s q ∨ (q ∈ l ∧ s.bit (Obj.CLK_PLL_STATUS q) 3 = true)) : Retrying (s.forAll l pllRetryOne) q := by
  induction l generalizing s with
  | nil => exact h.resolve_right fun hmem => absurd hmem.1 List.not_mem_nil
  | cons p l ih =>
    have hp : p < 6 := hl p List.mem_cons_self
    refine ih (fun r hr => hl r (List.mem_cons_of_mem p hr)) (pllRetryOne s p) ?_
    by_cases hqp : q = p
    · subst hqp
      rcases h with ⟨hbusy, hnot⟩ | ⟨-, hlasting⟩
      · rw [pllRetryOne, if_neg (by rw [hnot]; decide)]
        exact .inl ⟨hbusy, hnot⟩
      · exact .inl (retrying_pllRetryOne hq hlasting)
    · have hkept := get_pllRetryOne_other s hp hq hqp
      rcases h with ⟨hbusy, hnot⟩ | ⟨hmem, hlasting⟩
      · exact .inl ⟨(bit_congr hkept 2).trans hbusy, (bit_congr hkept 3).trans hnot⟩
      · exact .inr ⟨(List.mem_cons.1 hmem).resolve_left hqp, (bit_congr hkept 3).trans hlasting⟩

/-! ## PWR_EXTREMES_CLEAR -/

/-- The extremes of one rail start again (R360). -/
def railCleared (s : State) (i : Nat) : State := (s.put (Obj.PWR_RAIL_HIGH i) 0).put (Obj.PWR_RAIL_LOW i) 0xFFFF

theorem get_railsCleared (l : List Nat) (hl : ∀ i ∈ l, i < 9) (s : State) (key : Nat) :
    (s.forAll l railCleared).get key =
      if key ∈ l.map Obj.PWR_RAIL_HIGH then 0 else if key ∈ l.map Obj.PWR_RAIL_LOW then 0xFFFF else s.get key := by
  induction l generalizing s with
  | nil => rfl
  | cons i l ih =>
    have hi := hl i List.mem_cons_self
    have hsplit : Obj.PWR_RAIL_LOW i ∉ l.map Obj.PWR_RAIL_HIGH ∧ Obj.PWR_RAIL_HIGH i ∉ l.map Obj.PWR_RAIL_LOW := by
      simp only [List.mem_map, not_exists, not_and, Obj.PWR_RAIL_HIGH, Obj.PWR_RAIL_LOW]
      constructor <;> intro j hj <;> have := hl j (List.mem_cons_of_mem i hj) <;> omega
    have hne : Obj.PWR_RAIL_HIGH i ≠ Obj.PWR_RAIL_LOW i := by simp only [Obj.PWR_RAIL_HIGH, Obj.PWR_RAIL_LOW]; omega
    have hstep : (s.forAll (i :: l) railCleared).get key = ((railCleared s i).forAll l railCleared).get key := rfl
    rw [hstep, ih fun j hj => hl j (List.mem_cons_of_mem i hj), railCleared, State.get_put, State.get_put]
    simp only [List.map_cons, List.mem_cons]
    by_cases hhigh : key = Obj.PWR_RAIL_HIGH i
    · subst hhigh
      simp [hsplit.2]
    · by_cases hlow : key = Obj.PWR_RAIL_LOW i
      · subst hlow
        simp [hsplit.1]
      · simp [hhigh, hlow]

theorem extremesClear_eq (s : State) :
    s.extremesClear = ((s.forAll (List.range 9) railCleared).put Obj.PWR_TJ_HIGH (-32768)).put Obj.PWR_TJ_LOW 32767 := by
  unfold State.extremesClear railCleared
  rfl

theorem storeOnly_extremesClear (s : State) : StoreOnly s s.extremesClear := by
  have hrails : StoreOnly s (s.forAll (List.range 9) railCleared) :=
    foldl_related .refl .trans _ (fun a i _ => (storeOnly_put a _ _).trans (storeOnly_put _ _ _)) s
  rw [extremesClear_eq]
  exact (hrails.trans (storeOnly_put _ _ _)).trans (storeOnly_put _ _ _)

/-! ## PWR_SLEEP_REQ -/

/-- An accepted sleep request, before the values are frozen (R365). -/
def sleepNoted (s : State) : State :=
  ({ ((((s.put Obj.PWR_SLEEP_STATUS 1).put Obj.PWR_WAKE_CAUSE 0).setBit Obj.PWR_STATUS 3 true).raise 492) with
      aon := { s.aon with wakeLatch := 0 } }).withClk fun c =>
    { c with sleep := 1, fromBlocked := s.devState = stBlocked, wakeDue := false }

theorem sleepAccept_logs (s : State) : (sleepNoted s).LogOnly s.sleepAccept ∧ KeepsPending (sleepNoted s) s.sleepAccept := by
  have hstate : (sleepNoted s).freezeNow.demandFlush = s.sleepAccept := by
    have hsame : ((((s.put Obj.PWR_SLEEP_STATUS 1).put Obj.PWR_WAKE_CAUSE 0).setBit Obj.PWR_STATUS 3 true).raise 492).devState =
        s.devState := by
      rw [State.devState, State.getN_raise, State.getN_setBit, if_neg (by decide), State.getN_put, if_neg (by decide),
        State.getN_put, if_neg (by decide), State.devState]
    rw [sleepNoted, ← hsame]
    rfl
  rw [← hstate]
  exact ⟨(State.logOnly_freezeNow _).trans (State.logOnly_demandFlush _),
    KeepsPending.trans (b := (sleepNoted s).freezeNow) (.of_icu rfl) (keepsPending_demandFlush _)⟩

theorem get_sleepNoted (s : State) (key : Nat) :
    (sleepNoted s).get key =
      if key = Obj.PWR_STATUS then ((withBit (s.getN Obj.PWR_STATUS) 3 true : Nat) : Int)
      else if key = Obj.PWR_WAKE_CAUSE then 0 else if key = Obj.PWR_SLEEP_STATUS then 1 else s.get key := by
  have hstatus : ((s.put Obj.PWR_SLEEP_STATUS 1).put Obj.PWR_WAKE_CAUSE 0).getN Obj.PWR_STATUS = s.getN Obj.PWR_STATUS := by
    rw [State.getN_put, if_neg (by decide), State.getN_put, if_neg (by decide)]
  show (((s.put Obj.PWR_SLEEP_STATUS 1).put Obj.PWR_WAKE_CAUSE 0).setBit Obj.PWR_STATUS 3 true).get key = _
  rw [State.get_setBit, hstatus, State.get_put, State.get_put]

/-! ## The obligation -/

/-- Settles O29: each accepted write is carried out in the state that has heard the request, and the answer is put behind what it
shows. -/
theorem clockAndPowerWrites : Obligations.ClockAndPowerWrites := by
  intro s t f
  have hanswered (a : State) : Out.done ∈ (a.emit .done).out := List.mem_append_right _ (List.mem_singleton_self _)
  refine ⟨fun p v hp hv hbit hne hwrite => ?ctrl, fun mask hmask hwrite => ?relock, fun hwrite => ?extremes, fun hwrite => ?sleep⟩
  case ctrl =>
    refine ⟨if p < 6 then (s.land t).writeEntry f (Obj.CLK_PLL_CTRL p) v else s.land t, rfl, ?_⟩
    obtain ⟨row, hrow, hrw, hval⟩ := row_pllCtrl hp
    rw [if_pos hp, writeEntry_of_takesWrite hrow hrw (answersLater_pllCtrl hp) hwrite, hval v hv hbit, State.commitEntry,
      setEntry_pllCtrl _ hp]
    obtain ⟨hheld, hbusy, hdrives, htime⟩ := pllCtrl_shows (s := (s.land t).heard f) hp hne
    exact ⟨hheld, hbusy, hdrives, htime, hanswered _⟩
  case relock =>
    refine ⟨(s.land t).writeEntry f Obj.CLK_PLL_RELOCK mask, rfl, ?_⟩
    obtain ⟨row, hrow, hwo, hval⟩ := row_pllRelock
    rw [writeEntry_command_of_takesWrite hrow hwo (fun _ => rfl) (hval mask hmask) hwrite]
    refine ⟨fun p hp hnamed hlasting => ?_, hanswered _⟩
    exact retrying_of_list (fun q hq => List.mem_range.1 (List.mem_of_mem_filter hq)) ((s.land t).heard f) (List.mem_range.1 hp)
      (.inr ⟨List.mem_filter.2 ⟨hp, hnamed⟩, hlasting⟩)
  case extremes =>
    refine ⟨(s.land t).writeEntry f Obj.PWR_EXTREMES_CLEAR 1, rfl, ?_⟩
    obtain ⟨row, hrow, hwo, hval⟩ := row_extremesClear
    rw [writeEntry_command_of_takesWrite hrow hwo (fun _ => rfl) hval hwrite]
    have hcommand : ((s.land t).heard f).command f .plain Obj.PWR_EXTREMES_CLEAR 1 (ObjType.bytes row.type 1) none =
        ((s.land t).heard f).extremesClear := rfl
    have hstore := storeOnly_extremesClear ((s.land t).heard f)
    have hget : ∀ key, ((s.land t).heard f).extremesClear.get key =
        if key = Obj.PWR_TJ_LOW then 32767 else if key = Obj.PWR_TJ_HIGH then -32768
        else if key ∈ (List.range 9).map Obj.PWR_RAIL_HIGH then 0 else if key ∈ (List.range 9).map Obj.PWR_RAIL_LOW then 0xFFFF
        else s.get key := by
      intro key
      rw [extremesClear_eq, State.get_put, State.get_put, get_railsCleared _ (fun i hi => List.mem_range.1 hi), get_heard,
        State.get_land]
    rw [hcommand]
    generalize ((s.land t).heard f).extremesClear = a at hstore hget
    refine ⟨fun i hi => ⟨?_, ?_⟩, ?_, ?_, ?_, fun key hkey => ?_, ?_⟩
    · rw [State.get_emit, hget]
      have hlt := List.mem_range.1 hi
      rw [if_neg (by simp only [Obj.PWR_RAIL_HIGH, Obj.PWR_TJ_LOW]; omega),
        if_neg (by simp only [Obj.PWR_RAIL_HIGH, Obj.PWR_TJ_HIGH]; omega), if_pos (List.mem_map_of_mem hi)]
    · rw [State.get_emit, hget]
      have hlt := List.mem_range.1 hi
      have hnot : Obj.PWR_RAIL_LOW i ∉ (List.range 9).map Obj.PWR_RAIL_HIGH := by
        simp only [List.mem_map, List.mem_range, not_exists, not_and, Obj.PWR_RAIL_HIGH, Obj.PWR_RAIL_LOW]
        intro j hj
        omega
      rw [if_neg (by simp only [Obj.PWR_RAIL_LOW, Obj.PWR_TJ_LOW]; omega),
        if_neg (by simp only [Obj.PWR_RAIL_LOW, Obj.PWR_TJ_HIGH]; omega), if_neg hnot, if_pos (List.mem_map_of_mem hi)]
    · rw [State.get_emit, hget, if_neg (by decide), if_pos rfl]
    · rw [State.get_emit, hget, if_pos rfl]
    · show a.out ++ [Out.done] = [Out.done]
      rw [hstore]
      rfl
    · simp only [List.mem_append, List.mem_cons, List.not_mem_nil, or_false, not_or] at hkey
      obtain ⟨⟨⟨hhigh, hlow⟩, hrailHigh⟩, hrailLow⟩ := hkey
      rw [State.get_emit, hget, if_neg hlow, if_neg hhigh, if_neg hrailHigh, if_neg hrailLow]
    · rw [hstore]
      rfl
  case sleep =>
    refine ⟨(s.land t).writeEntry f Obj.PWR_SLEEP_REQ 1, rfl, ?_⟩
    obtain ⟨row, hrow, hwo, hval⟩ := row_sleepReq
    rw [writeEntry_command_of_takesWrite hrow hwo (fun _ => rfl) hval hwrite]
    have hcommand : ((s.land t).heard f).command f .plain Obj.PWR_SLEEP_REQ 1 (ObjType.bytes row.type 1) none =
        ((s.land t).heard f).sleepAccept := rfl
    obtain ⟨hlog, hkeep⟩ := sleepAccept_logs ((s.land t).heard f)
    rw [hcommand]
    generalize ((s.land t).heard f).sleepAccept = a at hlog hkeep
    have hunits := hlog.2
    have hget : ∀ key, isLogEntry key = false → a.get key = (sleepNoted ((s.land t).heard f)).get key := hlog.1
    refine ⟨?_, ?_, ?_, ?_, ?_, hanswered _, ?_, fun key hkey hnot => ?_, ?_⟩
    · rw [State.get_emit, hget _ (by decide), get_sleepNoted, if_neg (by decide), if_neg (by decide), if_pos rfl]
    · rw [State.get_emit, hget _ (by decide), get_sleepNoted, if_neg (by decide), if_pos rfl]
    · rw [State.bit, State.getN, State.get_emit, hget _ (by decide), get_sleepNoted, if_pos rfl, Int.toNat_natCast, bitOf_withBit,
        if_pos rfl]
    · show a.clk.sleep = 1
      rw [hunits]
      rfl
    · show a.aon.wakeLatch = 0
      rw [hunits]
      rfl
    · have hraised : (sleepNoted ((s.land t).heard f)).sourcePending 492 :=
        sourcePending_kept (by decide) (sourcePending_raise _ 492) (.of_icu rfl)
      exact sourcePending_kept (by decide) hraised (hkeep.trans (.of_icu rfl))
    · simp only [List.mem_cons, List.not_mem_nil, or_false, not_or] at hnot
      obtain ⟨hsleep, hcause, hstatus⟩ := hnot
      rw [State.get_emit, hget key hkey, get_sleepNoted, if_neg hstatus, if_neg hcause, if_neg hsleep, get_heard, State.get_land]
    · rw [hunits]
      rfl

end Sys2Proof.Proofs
end

section
/-!
PROOF. Units that stop, start or begin afresh with a change of state stand apart from the clock unit: the lanes, the ring pairs, the
swing unit, Comet, the measurement chain, the engines and the time unit (Tables 1.7, 14.11).
-/

namespace Sys2Proof.Proofs

open Sys2Proof Sys2Proof.Machine

section
variable {o : Bool}

/-! ## Folds and updates of other units' records -/

theorem apart_foldl {α : Type} {f : State → α → State} {l : List α} (h : ∀ s, ∀ x ∈ l, Apart o s (f s x)) (s : State) :
    Apart o s (l.foldl f s) := foldl_related Apart.refl Apart.trans l h s

theorem apart_withSwg (s : State) (f : Swg → Swg) : Apart o s (s.withSwg f) := .of_objs rfl rfl rfl rfl

theorem apart_withRed (s : State) (f : Red → Red) : Apart o s (s.withRed f) := .of_objs rfl rfl rfl rfl

theorem apart_withCmt (s : State) (f : Cmt → Cmt) : Apart o s (s.withCmt f) := .of_objs rfl rfl rfl rfl

theorem apart_withAge (s : State) (f : Age → Age) : Apart o s (s.withAge f) := .of_objs rfl rfl rfl rfl

theorem apart_withTim (s : State) (f : Tim → Tim) : Apart o s (s.withTim f) := .of_objs rfl rfl rfl rfl

theorem apart_withGpf (s : State) (f : Gpf → Gpf) : Apart o s (s.withGpf f) := .of_objs rfl rfl rfl rfl

theorem apart_withLnk (s : State) (f : Link → Link) : Apart o s (s.withLnk f) := .of_objs rfl rfl rfl rfl

theorem apart_withPair (s : State) (p : Nat) (f : Pair → Pair) : Apart o s (s.withPair p f) := .of_objs rfl rfl rfl rfl

theorem apart_withHart (s : State) (h : Nat) (f : Hart → Hart) : Apart o s (s.withHart h f) := .of_objs rfl rfl rfl rfl

theorem apart_withMea (s : State) (k : Nat) (f : MeaChannel → MeaChannel) : Apart o s (s.withMea k f) := .of_objs rfl rfl rfl rfl

theorem apart_withChannel (s : State) (k : Nat) (f : CarChannel → CarChannel) : Apart o s (s.withChannel k f) := .of_objs rfl rfl rfl rfl

/-! ## Lanes -/

theorem apart_lanOff (s : State) {k : Nat} (hk : k < 50) : Apart o s (s.lanOff k) := by
  have hidle : Apart o s (((s.eyeLeave k).lanClear k).lanEnter k lanDisabled) :=
    ((apart_eyeLeave s hk).trans (apart_lanClear _ hk)).trans (apart_lanEnter _ hk _)
  exact .ite (.refl s) (hidle.trans (apart_put _ _ (apartKey_indexed rfl (by decide) (by omega))))

theorem apart_laneReset (s : State) {k : Nat} (hk : k < 50) : Apart o s ((s.put (Obj.LAN_LOOPBACK k) 0).lanOff k) :=
  (apart_put s 0 (apartKey_indexed rfl (by decide) (by omega))).trans (apart_lanOff _ hk)

theorem apart_lanAllOff (s : State) : Apart o s s.lanAllOff := by
  unfold State.lanAllOff State.forAll
  exact apart_foldl (fun a _ hk => apart_laneReset a (List.mem_range.1 hk)) s

theorem apart_lanLinkup (s : State) : Apart o s s.lanLinkup := by
  unfold State.lanLinkup State.forAll
  refine apart_foldl (fun a k hk => ?_) s
  have hlt := List.mem_range.1 hk
  exact .ite ((apart_laneReset a hlt).trans (apart_lanAttempt _ hlt 1)) (apart_laneReset a hlt)

/-! ## Ring pairs, carrier, gate profiles, submodules -/

theorem apart_linkLinkup (s : State) : Apart o s s.linkLinkup := by
  unfold State.linkLinkup State.forAll
  refine (((apart_foldl (fun a p hp => ?pairs) s).trans (apart_foldl (fun a g hg => ?groups) _)).trans
    (apart_put _ 0 (by decide))).trans (apart_withLnk _ _)
  case pairs =>
    have hlt := List.mem_range.1 hp
    exact ((((((apart_put a _ (apartKey_indexed rfl (by decide) (by omega))).trans
      (apart_put _ 0 (apartKey_indexed rfl (by decide) (by omega)))).trans
      (apart_put _ 0 (apartKey_indexed rfl (by decide) (by omega)))).trans
      (apart_put _ 0 (apartKey_indexed rfl (by decide) (by omega)))).trans
      (apart_put _ 0xFFFF (apartKey_indexed rfl (by decide) (by omega)))).trans
      (apart_put _ 0xFFFF (apartKey_indexed rfl (by decide) (by omega)))).trans (apart_withPair _ _ _)
  case groups =>
    have hlt := List.mem_range.1 hg
    exact ((apart_put a 0 (apartKey_indexed rfl (by decide) (by omega))).trans
      (apart_put _ 0xFFFF (apartKey_indexed rfl (by decide) (by omega)))).trans
      (apart_put _ 0 (apartKey_indexed rfl (by decide) (by omega)))

theorem apart_carStop (s : State) : Apart o s s.carStop :=
  apart_foldl (fun a k hk => .ite (apart_setBit a _ _ (apartKey_indexed rfl (by decide) (by have := List.mem_range.1 hk; omega)))
    (.refl a)) s

theorem apart_carLinkup (s : State) : Apart o s s.carLinkup := apart_foldl (fun a k _ => apart_withChannel a k _) s

theorem apart_gpfLinkup (s : State) : Apart o s s.gpfLinkup := (apart_withGpf s _).trans (apart_put _ 0 (by decide))

theorem apart_smsLinkup (s : State) : Apart o s s.smsLinkup := apart_withAge s _

/-! ## Swing unit -/

theorem apart_swgLinkup (s : State) : Apart o s s.swgLinkup := by
  unfold State.swgLinkup
  extract_lets s1 frtOf coreOf s2
  have hcleared : Apart o s s2 := .of_objs rfl rfl rfl rfl
  exact ((hcleared.trans (apart_put _ 0 (by decide))).trans (apart_put _ 0 (by decide))).trans (apart_setBit _ 1 false (by decide))

theorem apart_swgIdle (s : State) : Apart o s s.swgIdle := by
  unfold State.swgIdle
  extract_lets s1 st s2
  have hcleared : Apart o s s2 := (((apart_swgLinkup s).trans (apart_withSwg _ _)).trans (apart_put _ _ (by decide))).trans
    (apart_put _ 0 (by decide))
  have hzero := ((hcleared.trans (apart_put (key := Obj.SWG_OMEGA) _ (2 ^ 30) (by decide))).trans
    (apart_put (key := Obj.SWG_OMEGA_F) _ (2 ^ 30) (by decide))).trans (apart_put (key := Obj.SWG_E) _ 0 (by decide))
  exact hzero.trans (apart_foldl (fun a k hk => apart_put a 0
    (apartKey_indexed rfl (by decide) (by have := List.mem_range.1 hk; omega))) _)

end

end Sys2Proof.Proofs
end

section
/-!
PROOF. The measurement chain, Comet, the engines and the time unit at a change of state (Tables 1.7, 14.11): apart from the clock unit.
-/

namespace Sys2Proof.Proofs

open Sys2Proof Sys2Proof.Machine

section
variable {o : Bool}

/-! ## Choppers -/

theorem Apart.of_chopperChange {a b : State} (h : ChopperChange a b) : Apart o a b := by
  have hkept : ∀ key, key < 0x300000 → (key / 256 < 0x2719 ∨ 0x271B < key / 256) → b.get key = a.get key := by
    intro key hhi hindex
    refine h.others key (isLogEntry_of_lt hhi) ?_
    simp only [List.mem_cons, List.not_mem_nil, or_false, not_or]
    omega
  have hdevice : ∀ key, DeviceKey key → b.get key = a.get key := by
    intro key hkey
    simp only [DeviceKey, Obj.DEV_REQ_COUNT] at hkey
    exact hkept key (by omega) (by omega)
  refine ⟨fun key hlo hhi => hkept key (by omega) (by omega), hdevice,
    hkept _ (by decide) (by decide), fun _ => hkept _ (by decide) (by decide),
    ?_, ?_, h.pending⟩
  · rw [h.frame]
  · rw [h.frame]

theorem apart_dchEval (s : State) {k : Nat} (hk : k < 4) : Apart o s (s.dchEval k) := .of_chopperChange (dchEval_changes s hk).1

/-! ## The measurement chain -/

theorem apart_dchBlind (s : State) : Apart o s s.dchBlind := by
  refine apart_foldl (fun a k hk => ?_) s
  have hlt := List.mem_range.1 hk
  exact apart_setBit a _ _ (apartKey_indexed rfl (by decide) (by omega))

theorem apart_prtPoleInvalid (s : State) (neg : Bool) : Apart o s (s.prtPoleInvalid neg) := by
  unfold State.prtPoleInvalid
  extract_lets was prtOf s1 behind
  have hnoted : Apart o s s1 := .of_objs rfl rfl rfl rfl
  exact .ite (.refl s) (hnoted.trans (Apart.trans (.ite (apart_raise s1 326) (.refl s1)) (apart_dchBlind _)))

theorem apart_meaJudge (s : State) {k : Nat} (hk : k < 32) : Apart o s (s.meaJudge k) := by
  unfold State.meaJudge
  extract_lets causes s2 s1
  have hinvalid : Apart o s s2 :=
    (((apart_setBit s _ _ (apartKey_indexed rfl (by decide) (by omega))).trans
      (apart_setBit (key := Obj.MEA_VALID_MAP) _ _ _ (by decide))).trans
      (apart_bump (key := Obj.MEA_INVALID_COUNT k) _ (apartKey_indexed rfl (by decide) (by omega)))).trans (apart_event _ _ _ _)
  have hshown : Apart o s s1 := .ite (.refl s) (.ite hinvalid (hinvalid.trans (apart_cmtFire _ _ _ _)))
  refine .ite (.refl s) ?_
  split
  next neg _ => exact .ite (hshown.trans (apart_prtPoleInvalid _ neg)) hshown
  next => exact hshown

theorem apart_meaMark (s : State) {k : Nat} (hk : k < 32) (b : Nat) (on : Bool) : Apart o s (s.meaMark k b on) :=
  (apart_setBit s _ _ (apartKey_indexed rfl (by decide) (by omega))).trans (apart_meaJudge _ hk)

theorem apart_meaRestart (s : State) {k : Nat} (hk : k < 32) : Apart o s (s.meaRestart k) := by
  have hcleared : Apart o s ((s.withMea k MeaChannel.cleared).meaMark k 1 true) :=
    (apart_withMea s _ _).trans (apart_meaMark _ hk _ _)
  exact .ite (.refl s) (.ite (hcleared.trans (apart_withMea _ _ _)) hcleared)

theorem apart_meaClockOne (s : State) {k : Nat} (hk : k < 32) : Apart o s (s.meaClockOne k) :=
  .ite (.refl s) (.ite (apart_meaMark s hk _ _)
    (.ite ((apart_setBit s _ _ (apartKey_indexed rfl (by decide) (by omega))).trans (apart_meaRestart _ hk)) (.refl s)))

theorem apart_meaClock (s : State) (g : Nat) : Apart o s (s.meaClock g) :=
  apart_foldl (fun a _ hk => apart_meaClockOne a (List.mem_range.1 (List.mem_of_mem_filter hk))) s

theorem apart_meaSourced (s : State) {g : Nat} (hg : g < 4) : Apart o s (s.meaSourced g) := by
  have hstatus : ApartKey (Obj.MEA_CLK_STATUS g) := apartKey_indexed rfl (by decide) (by omega)
  have hlost : ApartKey (Obj.MEA_CLK_LOST_COUNT g) := apartKey_indexed rfl (by decide) (by omega)
  have hfreq : ApartKey (Obj.MEA_CLK_FREQ g) := apartKey_indexed rfl (by decide) (by omega)
  refine .ite (.refl s) (.ite ?lost (.ite ?back (.refl s)))
  case lost =>
    exact (((((apart_setBit s 0 false hstatus).trans (apart_setBit _ 1 true hstatus)).trans (apart_bump _ hlost)).trans
      (apart_put _ 0 hfreq)).trans (apart_raise _ _)).trans (apart_meaClock _ g)
  case back =>
    exact (((apart_setBit s 0 true hstatus).trans (apart_setBit _ 1 false hstatus)).trans (apart_put _ _ hfreq)).trans
      (apart_meaClock _ g)

theorem apart_meaGroupBegin (s : State) {g : Nat} (hg : g < 4) : Apart o s (s.meaGroupBegin g) := by
  unfold State.meaGroupBegin
  extract_lets meaOf s1
  have hbegun : Apart o s s1 := .of_objs rfl rfl rfl rfl
  exact ((hbegun.trans (apart_put _ 0 (apartKey_indexed rfl (by decide) (by omega)))).trans
    (apart_put _ 0 (apartKey_indexed rfl (by decide) (by omega)))).trans (apart_meaSourced _ hg)

/-- What the filters of one channel delay (R158). -/
def meaDelayShown (s : State) (k : Nat) : State :=
  let main := s.meaMainNs k + 60
  let bank := s.meaTaps (s.meaBank k) (s.meaL k)
  (((((s.put (Obj.MEA_DELAY k) (saturateU 32 (sixteenths main))).put
    (Obj.MEA_FAST_DELAY k) (saturateU 32 (sixteenths (s.meaFastNs k + 30)))).put
    (Obj.MEA_T_S k) (sixteenths (s.meaTs k))).put (Obj.MEA_T_S_FAST k) (sixteenths (s.meaTsFast k))).put
    (Obj.MEA_SETTLE k) (roundAway (s.meaSettle k))).setBit (Obj.MEA_CH_STATUS k) 8 (bank ≠ bank.reverse)

theorem apart_meaDelayShown (s : State) {k : Nat} (hk : k < 32) : Apart o s (meaDelayShown s k) :=
  (((((apart_put s _ (apartKey_indexed rfl (by decide) (by omega))).trans
    (apart_put _ _ (apartKey_indexed rfl (by decide) (by omega)))).trans
    (apart_put _ _ (apartKey_indexed rfl (by decide) (by omega)))).trans
    (apart_put _ _ (apartKey_indexed rfl (by decide) (by omega)))).trans
    (apart_put _ _ (apartKey_indexed rfl (by decide) (by omega)))).trans
    (apart_setBit _ _ _ (apartKey_indexed rfl (by decide) (by omega)))

theorem apart_meaDelays (s : State) : Apart o s s.meaDelays := by
  unfold State.meaDelays
  extract_lets s1 s2
  have hchannels : Apart o s s1 := apart_foldl (f := meaDelayShown) (fun a k hk => apart_meaDelayShown a (List.mem_range.1 hk)) s
  have hbanks : Apart o s1 s2 := by
    refine apart_foldl (fun a b hb => ?_) s1
    have hlt := List.mem_range.1 hb
    exact (apart_put a _ (apartKey_indexed rfl (by decide) (by omega))).trans
      (apart_setBit _ _ _ (apartKey_indexed rfl (by decide) (by omega)))
  split
  next => exact (hchannels.trans hbanks).trans (apart_put _ _ (by decide))
  next => exact hchannels.trans hbanks

theorem apart_meaStart (s : State) : Apart o s s.meaStart := by
  unfold State.meaStart
  extract_lets meaOf s0 s1 s2 s3 s4
  have h0 : Apart o s s0 := .of_objs rfl rfl rfl rfl
  have h1 : Apart o s0 s1 := by
    refine apart_foldl (fun a b hb => ?_) s0
    have hlt := List.mem_range.1 hb
    exact apart_setBit a _ _ (apartKey_indexed rfl (by decide) (by omega))
  have h2 : Apart o s1 s2 := by
    refine apart_foldl (fun a k hk => ?_) s1
    have hlt := List.mem_range.1 hk
    exact apart_put a _ (apartKey_indexed rfl (by decide) (by omega))
  have h3 : Apart o s2 s3 := apart_foldl (fun a g hg => apart_meaGroupBegin a (List.mem_range.1 hg)) s2
  have h4 : Apart o s3 s4 := apart_foldl (fun a g _ => apart_meaClock a g) s3
  have hrestarts := apart_foldl (o := o) (fun a k hk => apart_meaRestart a (List.mem_range.1 (List.mem_of_mem_filter hk)))
    (l := (List.range 32).filter s4.meaEnabled) s4
  exact (((((h0.trans h1).trans h2).trans h3).trans h4).trans hrestarts).trans (apart_meaDelays _)

theorem apart_meaStop (s : State) : Apart o s s.meaStop := by
  unfold State.meaStop
  extract_lets meaOf s1 s2
  have h1 : Apart o s s1 := .of_objs rfl rfl rfl rfl
  have h2 : Apart o s1 s2 := by
    refine apart_foldl (fun a g hg => ?_) s1
    have hlt := List.mem_range.1 hg
    exact (apart_put a _ (apartKey_indexed rfl (by decide) (by omega))).trans
      (apart_put _ _ (apartKey_indexed rfl (by decide) (by omega)))
  have hchannels := apart_foldl (o := o) (f := fun a k => a.setBit (Obj.MEA_CH_STATUS k) 0 false) (l := List.range 32) (fun a k hk => by
    have hlt := List.mem_range.1 hk
    exact apart_setBit a _ _ (apartKey_indexed rfl (by decide) (by omega))) s2
  exact ((h1.trans h2).trans hchannels).trans (apart_put _ 0 (by decide))

/-! ## Comet -/

theorem apart_cmtPush (s : State) (b : CmtBlock) : Apart o s (s.cmtPush b) := by
  unfold State.cmtPush
  extract_lets c loss b' w held kept kept' s1 s2
  have hwritten : Apart o s s2 := (apart_withCmt s _).trans (apart_put (key := Obj.CMT_WRITTEN) s1 _ (by decide))
  exact .ite ((hwritten.trans (apart_withCmt s2 _)).trans (apart_raise _ 423)) hwritten

theorem apart_cmtTake (s : State) (b : CmtBlock) : Apart o s (s.cmtTake b) :=
  .ite (.refl s) (.ite ((apart_withCmt s _).trans (apart_bump _ (by decide))) (apart_cmtPush s b))

theorem apart_cmtWrite (s : State) (b : CmtBlock) : Apart o s (s.cmtWrite b) :=
  Apart.trans (.ite (apart_cmtTake s _) (.refl s)) (apart_cmtTake _ b)

theorem apart_cmtComplete (s : State) (due : Nat → Bool) : Apart o s (s.cmtComplete due) :=
  (apart_withCmt s _).trans (apart_foldl (fun a p _ => apart_cmtWrite a p.1) _)

theorem apart_cmtArm (s : State) : Apart o s s.cmtArm.1 := by
  unfold State.cmtArm
  split
  next => exact ((apart_put s _ (by decide)).trans (apart_bump _ (by decide))).trans (apart_raise _ _)
  next =>
    extract_lets kept s1 v m s2 s3 s4
    have h2 : Apart o s s2 := (apart_withCmt s _).trans (apart_withCmt s1 _)
    have h3 : Apart o s s3 := .ite ((h2.trans (apart_withCmt s2 _)).trans (apart_raise _ 423)) h2
    have h4 : Apart o s s4 := (((h3.trans (apart_put (key := Obj.CMT_WRITTEN) s3 0 (by decide))).trans
      (apart_put (key := Obj.CMT_LOSS_BLOCKS) _ 0 (by decide))).trans
      (apart_put (key := Obj.CMT_EDGE_LOSS) _ 0 (by decide))).trans (apart_put (key := Obj.CMT_REC_STORED) _ _ (by decide))
    exact ((h4.trans (apart_put _ 1 (by decide))).trans (apart_put _ 1 (by decide))).trans (apart_raise _ 418)

theorem apart_cmtStore (s : State) (truncated : Bool) : Apart o s (s.cmtStore truncated) := by
  unfold State.cmtStore
  split
  next => exact .refl s
  next tr _ =>
    extract_lets r s1 s2 s3
    have h1 : Apart o s { s1 with freeCtr := s1.freeCtr + 96 } :=
      Apart.trans (b := s1) (apart_withCmt s _) (.of_objs rfl rfl rfl rfl)
    have h2 : Apart o s s2 := (h1.trans (apart_put (key := Obj.CMT_REC_COUNT) _ _ (by decide))).trans
      (apart_put (key := Obj.CMT_REC_STORED) _ _ (by decide))
    have h3 : Apart o s s3 := ((h2.trans (apart_put (key := Obj.CMT_STATE) _ 0 (by decide))).trans
      (apart_put (key := Obj.CMT_STATUS) _ 2 (by decide))).trans (apart_count _ 0x1D)
    exact (h3.trans (apart_raise _ 417)).trans (apart_journalFull _ _ _ _ _ _ _)

theorem apart_cmtFinish (s : State) (truncated : Bool) : Apart o s (s.cmtFinish truncated) :=
  .ite ((apart_cmtStore s truncated).trans (apart_cmtArm _)) (apart_cmtStore s truncated)

theorem apart_cmtAbort (s : State) : Apart o s s.cmtAbort := by
  have hdropped : Apart o s (((s.withCmt fun c => c.fresh).put Obj.CMT_STATE 0).put Obj.CMT_STATUS 8) :=
    ((apart_withCmt s _).trans (apart_put _ 0 (by decide))).trans (apart_put _ 8 (by decide))
  have hended : Apart o s (((s.cmtComplete fun _ => true).cmtFinish true).put Obj.CMT_STATUS 8) :=
    ((apart_cmtComplete s _).trans (apart_cmtFinish _ true)).trans (apart_put _ 8 (by decide))
  exact .ite (hdropped.trans (apart_raise _ 422))
    (.ite (.ite (apart_cmtFinish s false) (hended.trans (apart_raise _ 422))) (.refl s))

theorem apart_cmtSleep (s : State) : Apart o s s.cmtSleep :=
  ((apart_cmtAbort s).trans (apart_withCmt _ _)).trans (apart_put _ _ (by decide))

/-! ## Engines, interrupt controller and time unit -/

theorem apart_engLoad (s : State) {e : Nat} (he : e < 8) (id : Nat) : Apart o s (s.engLoad e id) := by
  have hstate : ApartKey (Obj.ENG_STATE e) := apartKey_of_outside (.inr (by simp only [Obj.ENG_STATE]; omega))
  have hid : ApartKey (Obj.ENG_IMAGE_ID e) := apartKey_of_outside (.inr (by simp only [Obj.ENG_IMAGE_ID]; omega))
  exact .ite (((apart_withHart s e _).trans (apart_put _ 2 hstate)).trans (apart_put _ id hid))
    ((apart_withHart s e _).trans (apart_put _ 0 hstate))

theorem apart_enginesLoad (s : State) : Apart o s s.enginesLoad := by
  unfold State.enginesLoad State.forAll
  exact apart_foldl (fun a _ he => apart_engLoad a (List.mem_range.1 he) _) s

theorem apart_enginesGate (s : State) : Apart o s s.enginesGate := by
  unfold State.enginesGate State.forAll
  refine apart_foldl (fun a e he => ?_) s
  have hstate : ApartKey (Obj.ENG_STATE e) := apartKey_of_outside (.inr (by simp only [Obj.ENG_STATE]; omega))
  exact (apart_withHart a e _).trans (apart_put _ 0 hstate)

/-- What was active becomes pending again (R396). -/
theorem apart_icuSleep (s : State) : Apart o s s.icuSleep := by
  refine ⟨fun _ _ _ => rfl, fun _ _ => rfl, rfl, fun _ => rfl, rfl, rfl, fun p hp => ?_⟩
  show p ∈ s.icu.active.foldl (fun l a => addPair l (a.1, s.srcCopy a.1 a.2)) s.icu.pending
  have hgrow : ∀ (l : List (Nat × Nat)) (acc : List (Nat × Nat)), p ∈ acc →
      p ∈ l.foldl (fun l a => addPair l (a.1, s.srcCopy a.1 a.2)) acc := by
    intro l
    induction l with
    | nil => exact fun _ h => h
    | cons a l ih =>
      intro acc h
      refine ih _ ?_
      beta_reduce
      unfold addPair
      split
      · exact h
      · exact List.mem_append_left _ h
  exact hgrow _ _ hp

theorem apart_timEnter (s : State) (st src : Nat) (data : List Nat) : Apart o s (s.timEnter st src data) := by
  unfold State.timEnter
  extract_lets s1 frozen s2
  have hshown : Apart o s s1 := apart_put s _ (by decide)
  have hheld : Apart o s s2 := by
    unfold s2
    split
    · exact .ite ((hshown.trans (apart_withTim _ _)).trans (apart_put _ 0 (by decide))) hshown
    · exact .ite hshown ((hshown.trans (apart_withTim _ _)).trans (apart_put _ _ (by decide)))
  exact ((hheld.trans (apart_withTim _ _)).trans (apart_raise _ _)).trans (apart_journalFull _ _ _ _ _ _ _)

theorem apart_setRate (s : State) (rate : Int) : Apart o s (s.setRate rate) := by
  have hbase : Apart o s s.rebase := .of_objs rfl rfl rfl rfl
  exact hbase.trans (apart_put _ _ (by decide))

theorem apart_timLost (s : State) : Apart o s s.timLost :=
  .ite ((apart_setRate s _).trans (apart_timEnter _ _ _ _)) (.refl s)

theorem apart_timSleep (s : State) : Apart o s s.timSleep :=
  .ite ((apart_put s 0 (by decide)).trans (apart_timLost _)) (apart_put s 0 (by decide))

end

end Sys2Proof.Proofs
end

section
/-!
PROOF. The entry to LUNAR and the wake (R364 to R368).
-/

namespace Sys2Proof.Proofs

open Sys2Proof Sys2Proof.Machine

/-! ## Changes of state and role -/

/-- An entry of a state shows it, and is apart from the clock unit otherwise (R19). -/
theorem apart_setStateCounted {s : State} {new : Nat} (hne : s.devState ≠ new) (cause counter : Nat) :
    Apart true (s.put Obj.DEV_STATE new) (s.setStateCounted new cause counter) := by
  have hshown : Apart true (s.put Obj.DEV_STATE new) (((s.put Obj.DEV_STATE new).put Obj.DEV_STATE_SINCE s.time32).raise 496) :=
    (apart_put _ _ (by decide)).trans (apart_raise _ 496)
  rw [State.setStateCounted, if_neg hne]
  have hcounted := hshown.trans (.ite (c := counter = 0xFF) (.refl _) (apart_count _ counter))
  have hlogged := hcounted.trans (apart_journalFull _ 496 noSubject [s.devState, new, cause] counter false false)
  have hnoted := hlogged.trans (apart_withAge _ fun g => { g with runEntry := new = stRun })
  exact .ite (hnoted.trans (apart_cmtAbort _)) hnoted

theorem apart_setState {s : State} {new : Nat} (hne : s.devState ≠ new) (cause : Nat) :
    Apart true (s.put Obj.DEV_STATE new) (s.setState new cause) := apart_setStateCounted hne cause 0xFF

theorem devState_of_apart {o : Bool} {a b : State} (h : Apart o a b) : b.devState = a.devState := by
  rw [State.devState, State.getN, h.state, State.devState, State.getN]

theorem devState_put (s : State) (new : Nat) : (s.put Obj.DEV_STATE new).devState = new := by
  rw [State.devState, State.getN, State.get_put_same, Int.toNat_natCast]

theorem Apart.weaken {a b : State} (h : Apart true a b) : Apart false a b :=
  ⟨h.entries, h.device, h.state, nofun, h.clk, h.now, h.pending⟩

/-- An entry that two states apart from each other take at once. -/
theorem Apart.put_both {o : Bool} {a b : State} (h : Apart o a b) (key : Nat) (v : Int) :
    Apart o (a.put key v) (b.put key v) := by
  refine ⟨fun k hlo hhi => ?_, fun k hk => ?_, ?_, fun ho => ?_, h.clk, h.now, h.pending⟩
  · rw [State.get_put, State.get_put, h.entries k hlo hhi]
  · rw [State.get_put, State.get_put, h.device k hk]
  · rw [State.get_put, State.get_put, h.state]
  · rw [State.get_put, State.get_put, h.orbit ho]

theorem apart_orbStop (s : State) : Apart false s s.orbStop := by
  have hstatus : Apart false s (s.put Obj.ORB_STATUS (s.getN Obj.ORB_STATUS &&& 0x160 : Nat)) := apart_orbStatus s _
  have hrecord (a : State) (f : Orb → Orb) : Apart false a (a.withOrb f) := .of_objs rfl rfl rfl rfl
  exact (hstatus.trans (hrecord _ _)).trans (apart_carStop _)

theorem apart_setCause {o : Bool} (s : State) (c : Nat) (on : Bool) : Apart o s (s.setCause c on) :=
  .ite ((apart_setBit s c on (by decide)).trans (apart_setBit _ c true (by decide))) (apart_setBit s c on (by decide))

theorem apart_redIdle {o : Bool} (s : State) : Apart o s s.redIdle :=
  ((apart_withRed s _).trans (apart_put _ 0 (by decide))).trans (apart_put _ 0 (by decide))

theorem apart_redLinkup {o : Bool} (s : State) : Apart o s s.redLinkup := by
  unfold State.redLinkup
  extract_lets s1 s2 s3 s4
  have h1 : Apart o s s1 := (apart_withRed s _).trans (apart_put _ _ (by decide))
  have h2 : Apart o s1 s2 := ((apart_put s1 0 (by decide)).trans (apart_put _ 0 (by decide))).trans (apart_put _ _ (by decide))
  have h3 : Apart o s2 s3 := (apart_put s2 0 (by decide)).trans (apart_setCause _ _ _)
  have h4 : Apart o s3 s4 := apart_setRole s3 _ _
  have hall := ((h1.trans h2).trans h3).trans h4
  exact .ite (hall.trans (apart_withRed _ _)) hall

/-! ## LINKUP and CONFIG -/

theorem apart_withRide {o : Bool} (s : State) (f : RideStream → RideStream) : Apart o s (s.withRide f) := .of_objs rfl rfl rfl rfl

theorem apart_withFrt {o : Bool} (s : State) (f : Frt → Frt) : Apart o s (s.withFrt f) := .of_objs rfl rfl rfl rfl

theorem apart_frtBit {o : Bool} (s : State) (i : Nat) (on : Bool) : Apart o s (s.frtBit i on) := apart_withFrt s _

theorem apart_blkEnter {o : Bool} (s : State) (phase : Nat) : Apart o s (s.blkEnter phase) :=
  .ite (.refl s) (((apart_withRide s _).trans (apart_put _ _ (by decide))).trans (apart_event _ _ _ _))

/-- RUN is left: the ride and the synchronisation end (R75, R88). -/
theorem apart_runLeave {o : Bool} (s : State) : Apart o s s.runLeave := by
  unfold State.runLeave State.rideLeave
  extract_lets s1 s2 s3 s4 s5
  have h1 : Apart o s s1 := (apart_withSwg s _).trans (apart_withRide _ _)
  have h2 : Apart o s1 s2 := ((apart_frtBit s1 _ _).trans (apart_frtBit _ _ _)).trans (apart_frtBit _ _ _)
  have h3 : Apart o s2 s3 :=
    ((apart_put s2 _ (by decide)).trans (apart_setBit _ 1 false (by decide))).trans (apart_put _ _ (by decide))
  have h4 : Apart o s3 s4 := (apart_blkEnter s3 _).trans (apart_withFrt _ _)
  have h5 : Apart o s4 s5 := ((apart_put s4 0 (by decide)).trans (apart_put _ 0 (by decide))).trans (apart_put _ 0 (by decide))
  exact (((((h1.trans h2).trans h3).trans h4).trans h5).trans (apart_put _ _ (by decide))).trans (apart_put _ 0 (by decide))

theorem apart_leaveState {o : Bool} (s : State) : Apart o s s.leaveState := by
  refine .ite (apart_runLeave s) (.ite ?forced (.refl s))
  refine apart_foldl (fun a k hk => ?_) s
  have hlt := List.mem_range.1 hk
  exact .ite ((apart_setBit a 3 false (apartKey_indexed rfl (by decide) (by omega))).trans (apart_dchEval _ hlt)) (.refl a)

/-- The present state is left and another entered (R19). -/
theorem apart_leaveCounted {s : State} {new : Nat} (h : s.devState ≠ new) (cause counter : Nat) :
    Apart true (s.put Obj.DEV_STATE new) (s.leaveState.setStateCounted new cause counter) := by
  have hleft : Apart true s s.leaveState := apart_leaveState s
  have hentered := apart_setStateCounted (s := s.leaveState) (new := new) (by rw [devState_of_apart hleft]; exact h) cause counter
  exact (hleft.put_both Obj.DEV_STATE new).trans hentered

theorem apart_leave {s : State} {new : Nat} (h : s.devState ≠ new) (cause : Nat) :
    Apart true (s.put Obj.DEV_STATE new) (s.leaveState.setState new cause) := apart_leaveCounted h cause 0xFF

/-- The entry to LINKUP before the CAN settings take effect. -/
def linkupBegun (s : State) : State :=
  ((s.leaveState.setState stLinkup 0).orbStop.smsLinkup.linkLinkup.lanLinkup).carLinkup.swgLinkup.gpfLinkup.redLinkup

theorem apart_linkupBegun {s : State} (h : s.devState ≠ stLinkup) : Apart false (s.put Obj.DEV_STATE stLinkup) (linkupBegun s) := by
  have houtward := ((((apart_leave h 0).weaken.trans (apart_orbStop _)).trans (apart_smsLinkup _)).trans (apart_linkLinkup _)).trans
    (apart_lanLinkup _)
  exact (((houtward.trans (apart_carLinkup _)).trans (apart_swgLinkup _)).trans (apart_gpfLinkup _)).trans (apart_redLinkup _)

theorem apart_enterLinkup {s : State} (h : s.devState ≠ stLinkup) : Apart false (s.put Obj.DEV_STATE stLinkup) s.enterLinkup :=
  (apart_linkupBegun h).trans (.of_objs rfl rfl rfl rfl)

theorem apart_enterConfig {s : State} (h : s.devState ≠ stConfig) : Apart false (s.put Obj.DEV_STATE stConfig) s.enterConfig := by
  have houtward := ((((apart_leave h 0).weaken.trans (apart_orbStop _)).trans (apart_lanAllOff _)).trans (apart_swgIdle _)).trans
    (apart_redIdle _)
  exact (houtward.trans (apart_setCause _ _ _)).trans (apart_setRole _ _ _)

/-! ## The wake -/

/-- A lock attempt that ends leaves DEV_STATE alone. -/
theorem get_pllDone_other (s : State) {p key : Nat} (hkey : isLogEntry key = false) (hcarrier : key ≠ Obj.PRT_STATUS)
    (hclock : key < 0x2D0000) : (s.pllDone p).get key = s.get key := by
  have hstatus : key ≠ Obj.CLK_PLL_STATUS p := by simp only [Obj.CLK_PLL_STATUS]; omega
  have hshow : key ≠ Obj.CLK_STATUS := by simp only [Obj.CLK_STATUS]; omega
  have htransient : key ≠ Obj.CLK_PLL_RELOCK_TRANSIENT p := by simp only [Obj.CLK_PLL_RELOCK_TRANSIENT]; omega
  unfold State.pllDone
  split
  next => rfl
  next =>
    extract_lets hold kind s1 s2 s3
    have h2 : s2.get key = s.get key := by
      show (s1.setBit Obj.CLK_STATUS p _).get key = _
      rw [State.get_setBit, if_neg hshow, State.get_withClk, State.get_put, if_neg hstatus]
    have h3 : s3.get key = s.get key := by
      unfold s3
      split
      · rw [State.get_setBit, if_neg hcarrier, h2]
      · exact h2
    split
    · refine ((logOnly_pllOutcome (s3.bump (Obj.CLK_PLL_RELOCK_TRANSIENT p)) 485 p false).1 key hkey).trans ?_
      rw [State.get_bump, if_neg htransient, h3]
    · exact h3

theorem get_pllAllDone_devState (s : State) : s.pllAllDone.get Obj.DEV_STATE = s.get Obj.DEV_STATE := by
  unfold State.pllAllDone State.forAll
  refine foldl_related (R := fun a b => b.get Obj.DEV_STATE = a.get Obj.DEV_STATE) (fun _ => rfl) (fun h g => g.trans h) _
    (fun a p _ => ?_) s
  split
  · exact get_pllDone_other a (by decide) (by decide) (by decide)
  · rfl

/-- What the clock unit shows of a wake that is complete (R368). -/
theorem wakeDone_shows (s : State) :
    s.wakeDone.get Obj.DEV_STATE = s.get Obj.DEV_STATE ∧ s.wakeDone.clk.sleep = 0 ∧ s.wakeDone.get Obj.PWR_SLEEP_STATUS = 2 := by
  refine ⟨?state, rfl, ?status⟩
  case state =>
    rw [State.wakeDone, State.get_raise, State.get_put_ne _ _ (by decide), State.get_put_ne _ _ (by decide), State.get_countBy,
      if_neg (by decide), State.get_put_ne _ _ (by decide), State.get_withClk, get_pllAllDone_devState]
  case status => rw [State.wakeDone, State.get_raise, State.get_put_same]

theorem apart_engines {o : Bool} (s : State) (e : Engines) : Apart o s { s with eng := e } := .of_objs rfl rfl rfl rfl

/-- What is not retained is cleared, which is no concern of the clock unit (R368). -/
theorem apart_sramClear {o : Bool} (s : State) : Apart o s s.sramClear := by
  unfold State.sramClear State.forAll
  extract_lets s1 engOf
  have hwords : Apart o s s1 := by
    refine apart_foldl (fun a i hi => ?_) s
    have hlt := List.mem_range.1 hi
    refine apart_put a 0 ⟨?_, ?_, ?_, ?_⟩
    · simp only [Obj.DEV_STATION_WORDS, Obj.DEV_STATE]
      omega
    · simp only [Obj.DEV_STATION_WORDS, Obj.ORB_STATUS]
      omega
    · simp only [Obj.DEV_STATION_WORDS]
      omega
    · simp only [DeviceKey, Obj.DEV_STATION_WORDS, Obj.DEV_REQ_COUNT]
      omega
  exact hwords.trans (apart_engines s1 _)

/-- AVSBus starts: of the clock unit's entries PWR_STATUS alone shows it (R361). -/
theorem avsEnter_keeps (s : State) :
    s.avsEnter.get Obj.DEV_STATE = s.get Obj.DEV_STATE ∧ s.avsEnter.get Obj.PWR_SLEEP_STATUS = s.get Obj.PWR_SLEEP_STATUS ∧
      s.avsEnter.get Obj.DEV_REQ_COUNT = s.get Obj.DEV_REQ_COUNT ∧ s.avsEnter.clk = s.clk := by
  unfold State.avsEnter
  extract_lets s1 s2 s3
  have h1 : Apart true s s1 := .ite (apart_setBit s 2 false (by decide)) (.refl s)
  have h2 : Apart true s2 (s2.setBit Obj.AGE_AVS_STATUS 0 s2.avsRuns) := apart_setBit s2 _ _ (by decide)
  have h3 := (h1.trans (apart_withAge s1 _)).trans h2
  have hwrite (a : State) (v : Nat) : Apart true a (a.avsWrite v) :=
    .ite (.refl a) (((apart_put a _ (by decide)).trans (apart_withAge _ _)).trans (apart_emit _ _))
  have hshown : s3.get Obj.DEV_STATE = s.get Obj.DEV_STATE ∧ s3.get Obj.PWR_SLEEP_STATUS = s.get Obj.PWR_SLEEP_STATUS ∧
      s3.get Obj.DEV_REQ_COUNT = s.get Obj.DEV_REQ_COUNT ∧ s3.clk = s.clk := by
    refine ⟨?_, ?_, ?_, h3.clk⟩
    · exact (State.get_put_ne _ _ (by decide)).trans h3.state
    · exact (State.get_put_ne _ _ (by decide)).trans (h3.entries _ (by decide) (by decide))
    · exact (State.get_put_ne _ _ (by decide)).trans (h3.device _ (.inr (.inl rfl)))
  obtain ⟨hstate, hsleep, hrequests, hclk⟩ := hshown
  split
  · exact ⟨hstate, hsleep, hrequests, hclk⟩
  · have hlast := hwrite s3 (s3.getN Obj.AGE_VCORE_FIXED)
    exact ⟨hlast.state.trans hstate, (hlast.entries _ (by decide) (by decide)).trans hsleep,
      (hlast.device _ (.inr (.inl rfl))).trans hrequests, hlast.clk.trans hclk⟩

/-- A wake completes in LINKUP for a device that slept from BLOCKED and else in CONFIG (R368). -/
theorem wakeComplete_shows {s : State} (hsleep : s.clk.sleep = 4) (hstate : s.devState = stLunar) :
    s.wakeComplete.devState = (if s.clk.fromBlocked then stLinkup else stConfig) ∧ s.wakeComplete.clk.sleep = 0 ∧
      s.wakeComplete.get Obj.PWR_SLEEP_STATUS = 2 := by
  rw [State.wakeComplete, if_neg (by rw [hsleep]; decide)]
  extract_lets s1 s2
  obtain ⟨hdoneState, hdoneSleep, hdoneStatus⟩ := wakeDone_shows s
  have hretained : Apart false s.wakeDone s1 := (apart_sramClear _).trans (apart_withCmt _ _)
  have hlunar : s1.devState = stLunar := by
    rw [devState_of_apart hretained, State.devState, State.getN, hdoneState]
    exact hstate
  have hentered : Apart false (s1.put Obj.DEV_STATE (if s.clk.fromBlocked then stLinkup else stConfig : Nat)) s2 := by
    unfold s2
    cases s.clk.fromBlocked
    · exact apart_enterConfig (by rw [hlunar]; decide)
    · exact apart_enterLinkup (by rw [hlunar]; decide)
  have hstarted := hentered.trans ((apart_enginesLoad s2).trans (apart_meaStart _))
  obtain ⟨havsState, havsSleep, -, havsClk⟩ := avsEnter_keeps s2.enginesLoad.meaStart
  have hflush := State.logOnly_serveFlush s2.enginesLoad.meaStart.avsEnter
  refine ⟨?_, ?_, ?_⟩
  · rw [State.devState, State.getN, hflush.1 _ (by decide), havsState, hstarted.state, State.get_put_same, Int.toNat_natCast]
  · rw [State.serveFlush_clk, havsClk, hstarted.clk, State.put_clk, hretained.clk, hdoneSleep]
  · rw [hflush.1 _ (by decide), havsSleep, hstarted.entries _ (by decide) (by decide), State.get_put_ne _ _ (by decide),
      hretained.entries _ (by decide) (by decide), hdoneStatus]

end Sys2Proof.Proofs
end

section
/-!
PROOF. The obligation about sleep and wake: the commit point, the wake sources, and the samples of the rails (R360, R365 to R368).
-/

namespace Sys2Proof.Proofs

open Sys2Proof Sys2Proof.Machine

/-! ## The end of a request -/

/-- A sleep request ends without LUNAR, before what an abort adds. -/
theorem get_sleepEnd (s : State) (status key : Nat) :
    (s.sleepEnd status).get key =
      if key = Obj.PWR_STATUS then ((withBit (s.getN Obj.PWR_STATUS) 3 false : Nat) : Int)
      else if key = Obj.PWR_SLEEP_STATUS then (status : Int) else s.get key := by
  have hstatus : (s.put Obj.PWR_SLEEP_STATUS status).getN Obj.PWR_STATUS = s.getN Obj.PWR_STATUS := by
    rw [State.getN_put, if_neg (by decide)]
  rw [State.sleepEnd, State.get_withClk, State.get_raise, State.get_setBit, hstatus, State.get_put]

theorem sleepEnd_shows (s : State) (status : Nat) :
    (s.sleepEnd status).bit Obj.PWR_STATUS 3 = false ∧ (s.sleepEnd status).sourcePending 493 := by
  constructor
  · rw [State.bit, State.getN, get_sleepEnd, if_pos rfl, Int.toNat_natCast, bitOf_withBit, if_pos rfl]
  · have hraised := sourcePending_raise ((s.put Obj.PWR_SLEEP_STATUS status).setBit Obj.PWR_STATUS 3 false) 493
    exact sourcePending_kept (by decide) hraised (.of_icu rfl)

/-- An abort of the sleep, before its record (R366). -/
def sleepAbortNoted (s : State) : State :=
  (((s.sleepEnd 3).put Obj.PWR_WAKE_CAUSE s.aon.wakeLatch).bump Obj.PWR_SLEEP_ABORT_COUNT).count 0x25

theorem get_sleepAbortNoted (s : State) {key : Nat} (hkey : isLogEntry key = false) :
    (sleepAbortNoted s).get key =
      if key = Obj.PWR_SLEEP_ABORT_COUNT then min (s.get Obj.PWR_SLEEP_ABORT_COUNT + 1) 0xFFFFFFFF
      else if key = Obj.PWR_WAKE_CAUSE then (s.aon.wakeLatch : Int) else (s.sleepEnd 3).get key := by
  have hcount : key ≠ Obj.LOG_CNT (0x25 - 1) := fun h => absurd (h ▸ hkey) (by decide)
  have hkept : ((s.sleepEnd 3).put Obj.PWR_WAKE_CAUSE s.aon.wakeLatch).get Obj.PWR_SLEEP_ABORT_COUNT =
      s.get Obj.PWR_SLEEP_ABORT_COUNT := by
    rw [State.get_put_ne _ _ (by decide), get_sleepEnd, if_neg (by decide), if_neg (by decide)]
  rw [sleepAbortNoted, State.get_count, if_neg hcount, State.get_bump, hkept, State.get_put]

/-- What an aborted sleep shows (R366). -/
theorem sleepAborted_shows (s : State) :
    let u := s.sleepAborted
    u.clk = { s.clk with sleep := 0 } ∧ u.get Obj.PWR_SLEEP_STATUS = 3 ∧ u.get Obj.PWR_WAKE_CAUSE = s.aon.wakeLatch ∧
      u.get Obj.PWR_SLEEP_ABORT_COUNT = min (s.get Obj.PWR_SLEEP_ABORT_COUNT + 1) 0xFFFFFFFF ∧
      u.sourcePending 493 ∧
      s.entriesBut u [Obj.PWR_SLEEP_STATUS, Obj.PWR_WAKE_CAUSE, Obj.PWR_STATUS, Obj.PWR_SLEEP_ABORT_COUNT] ∧
      u = { s with objs := u.objs, clk := u.clk, icu := u.icu, log := u.log, flash := u.flash, dict := u.dict, out := u.out } := by
  intro u
  have hlog : (sleepAbortNoted s).LogOnly u := State.logOnly_journalFull ..
  have hget : ∀ key, isLogEntry key = false → u.get key = _ := fun key hkey => (hlog.1 key hkey).trans (get_sleepAbortNoted s hkey)
  refine ⟨?clk, ?status, ?cause, ?count, ?pending, fun key hkey hnot => ?others, ?frame⟩
  case clk =>
    rw [hlog.2]
    rfl
  case status =>
    rw [hget _ (by decide), if_neg (by decide), if_neg (by decide), get_sleepEnd, if_neg (by decide), if_pos rfl]
    rfl
  case cause => rw [hget _ (by decide), if_neg (by decide), if_pos rfl]
  case count => rw [hget _ (by decide), if_pos rfl]
  case pending =>
    exact sourcePending_kept (by decide) (sleepEnd_shows s 3).2
      (KeepsPending.trans (b := sleepAbortNoted s) (.of_icu rfl) (keepsPending_journalFull _ _ _ _ _ _ _))
  case others =>
    simp only [List.mem_cons, List.not_mem_nil, or_false, not_or] at hnot
    obtain ⟨hsleep, hcause, hstatus, hcount⟩ := hnot
    rw [hget key hkey, if_neg hcount, if_neg hcause, get_sleepEnd, if_neg hstatus, if_neg hsleep]
  case frame =>
    rw [hlog.2]
    rfl

/-! ## The commit point -/

/-- A PLL that is stopped for LUNAR (Table 14.11). -/
def pllStopped (s : State) (p : Nat) : State := (s.put (Obj.CLK_PLL_STATUS p) 2).pllShow p

theorem sleepCommit_eq (s : State) :
    s.sleepCommit = (((s.setBit Obj.PWR_STATUS 3 false).withClk fun c => { c with sleep := 2, commitAt := s.now }).forAll
      (List.range 6) pllStopped).withClk fun c => { c with relock := List.replicate 6 0 } := rfl

theorem get_pllStopped (s : State) (p : Nat) {key : Nat} (hstatus : key ≠ Obj.CLK_PLL_STATUS p) (hshow : key ≠ Obj.CLK_STATUS) :
    (pllStopped s p).get key = s.get key := by
  rw [pllStopped, State.pllShow, State.get_setBit, if_neg hshow, State.get_put, if_neg hstatus]

theorem pllStopped_drives (s : State) (p : Nat) : (pllStopped s p).pllDrives p = false := by
  rw [State.pllDrives, State.getN, pllStopped, State.pllShow, State.get_setBit, if_neg (pllStatus_ne_status p), State.get_put_same]
  rfl

/-- After a list of PLLs is stopped, none of them drives its domain; other entries and records are as before. -/
theorem pllsStopped_drive (l : List Nat) (s : State) (q : Nat) (h : q ∈ l ∨ s.pllDrives q = false) :
    (s.forAll l pllStopped).pllDrives q = false := by
  induction l generalizing s with
  | nil => exact h.resolve_left List.not_mem_nil
  | cons p l ih =>
    refine ih (pllStopped s p) ?_
    by_cases hqp : q = p
    · exact .inr (hqp ▸ pllStopped_drives s q)
    · have hkept : (pllStopped s p).get (Obj.CLK_PLL_STATUS q) = s.get (Obj.CLK_PLL_STATUS q) :=
        get_pllStopped s p (by simp only [Obj.CLK_PLL_STATUS]; omega) (pllStatus_ne_status q)
      rcases h with h | h
      · exact .inl ((List.mem_cons.1 h).resolve_left hqp)
      · exact .inr ((pllDrives_congr hkept).trans h)

theorem get_pllsStopped (l : List Nat) (s : State) {key : Nat} (hkey : key < 0x2D0001 ∨ 0x2D0301 ≤ key) (hl : ∀ p ∈ l, p < 6) :
    (s.forAll l pllStopped).get key = s.get key := by
  refine foldl_related (R := fun a b => b.get key = a.get key) (fun _ => rfl) (fun h g => g.trans h) l (fun a p hp => ?_) s
  have hlt := hl p hp
  exact get_pllStopped a p (by simp only [Obj.CLK_PLL_STATUS]; omega) (by simp only [Obj.CLK_STATUS]; omega)

theorem storeOnly_pllsStopped (l : List Nat) (s : State) : StoreOnly s (s.forAll l pllStopped) :=
  foldl_related StoreOnly.refl StoreOnly.trans l (fun a _ _ => (storeOnly_put a _ _).trans (storeOnly_put _ _ _)) s

/-- What the commit point shows of the clock unit, and that the sequencer's entry stays (R365). -/
theorem sleepCommit_shows (s : State) :
    s.sleepCommit.clk.sleep = 2 ∧ s.sleepCommit.clk.commitAt = s.now ∧ s.sleepCommit.bit Obj.PWR_STATUS 3 = false ∧
      (∀ p ∈ List.range 6, s.sleepCommit.pllDrives p = false) ∧ s.sleepCommit.get Obj.ORB_STATUS = s.get Obj.ORB_STATUS := by
  have hrange : ∀ p ∈ List.range 6, p < 6 := fun p hp => List.mem_range.1 hp
  rw [sleepCommit_eq]
  generalize hnoted : ((s.setBit Obj.PWR_STATUS 3 false).withClk fun c => { c with sleep := 2, commitAt := s.now }) = a
  have hstore := storeOnly_pllsStopped (List.range 6) a
  have hclk : (a.forAll (List.range 6) pllStopped).clk = a.clk := by rw [hstore]
  have hsleep : a.clk.sleep = 2 := hnoted ▸ rfl
  have hcommit : a.clk.commitAt = s.now := hnoted ▸ rfl
  have hstatus : a.bit Obj.PWR_STATUS 3 = false := by
    rw [← hnoted, State.bit_withClk, State.bit_setBit, if_pos rfl, if_pos rfl]
  have horbit : a.get Obj.ORB_STATUS = s.get Obj.ORB_STATUS := by
    rw [← hnoted, State.get_withClk, State.get_setBit, if_neg (by decide)]
  refine ⟨?_, ?_, ?_, fun p hp => ?_, ?_⟩
  · show (a.forAll (List.range 6) pllStopped).clk.sleep = 2
    rw [hclk, hsleep]
  · show (a.forAll (List.range 6) pllStopped).clk.commitAt = s.now
    rw [hclk, hcommit]
  · exact (bit_congr (get_pllsStopped _ a (.inr (by decide)) hrange) 3).trans hstatus
  · exact pllsStopped_drive _ a p (.inl hp)
  · exact (get_pllsStopped _ a (.inl (by decide)) hrange).trans horbit

/-- Leaving a state takes no device time. -/
theorem leaveState_now (s : State) : s.leaveState.now = s.now := by
  unfold State.leaveState
  split
  · simp [State.runLeave, State.rideLeave, State.withRide, State.frtBit, State.blkEnter, apply_ite State.now]
  · split
    · refine foldl_related (R := fun a b => b.now = a.now) (fun _ => rfl) (fun h g => g.trans h) _ (fun a k hk => ?_) s
      split
      · exact (apart_dchEval (o := true) _ (List.mem_range.1 hk)).now
      · rfl
    · rfl

/-- The sequencer is stopped with its run bit clear. -/
theorem orbStop_shows (s : State) : s.orbStop.orbRunning = false ∧ s.orbStop.now = s.now := by
  refine ⟨?_, (apart_orbStop s).now⟩
  have hstopped (a : State) (ha : a.get Obj.ORB_STATUS = (s.getN Obj.ORB_STATUS &&& 0x160 : Nat)) : a.carStop.orbRunning = false := by
    rw [State.orbRunning, State.bit, State.getN, (apart_carStop (o := true) a).orbit rfl, ha, Int.toNat_natCast, bitOf,
      Nat.testBit_and]
    simp
  refine hstopped _ ?_
  exact State.get_put_same _ _ _

/-- The commit point is passed: everything of Table 14.11 stops (R365). -/
theorem sleepReady_commits {s : State} (hsleep : s.clk.sleep = 1) (hlatch : s.aon.wakeLatch = 0) :
    let u := s.sleepReady
    u.clk.sleep = 2 ∧ u.clk.commitAt = s.now ∧ u.bit Obj.PWR_STATUS 3 = false ∧ (∀ p ∈ List.range 6, u.pllDrives p = false) ∧
      u.orbRunning = false := by
  intro u
  obtain ⟨hrun, hnow⟩ := orbStop_shows s.leaveState
  have hfirst := ((apart_lanAllOff (o := true) s.leaveState.orbStop).trans (apart_swgIdle _)).trans (apart_enginesGate _)
  generalize hs1 : s.leaveState.orbStop.lanAllOff.swgIdle.enginesGate = s1 at hfirst
  have hred := (hfirst.trans (apart_withRed s1 Red.fresh)).trans
    (apart_put _ (s1.getN Obj.RED_STATUS &&& 0x2000 : Nat) (key := Obj.RED_STATUS) (by decide))
  have hrest := (((hred.trans (apart_cmtSleep _)).trans (apart_meaStop _)).trans (apart_icuSleep _)).trans (apart_timSleep _)
  have hu : u =
      ((((s1.withRed Red.fresh).put Obj.RED_STATUS (s1.getN Obj.RED_STATUS &&& 0x2000 : Nat)).cmtSleep.meaStop
        |>.icuSleep).timSleep).sleepCommit := by
    show s.sleepReady = _
    rw [State.sleepReady, if_neg (by rw [hsleep]; decide), if_neg (by rw [hlatch]; decide), hs1]
  obtain ⟨hsleep2, hcommit, hstatus, hdrives, horbit⟩ := sleepCommit_shows
    ((((s1.withRed Red.fresh).put Obj.RED_STATUS (s1.getN Obj.RED_STATUS &&& 0x2000 : Nat)).cmtSleep.meaStop.icuSleep).timSleep)
  rw [← hu] at hsleep2 hcommit hstatus hdrives horbit
  refine ⟨hsleep2, ?_, hstatus, hdrives, ?_⟩
  · rw [hcommit, hrest.now, hnow, leaveState_now]
  · rw [State.orbRunning, State.bit, State.getN, horbit, hrest.orbit rfl]
    exact hrun

end Sys2Proof.Proofs
end

section
/-!
PROOF. LUNAR is reached, a wake begins, the rails are sampled (R360, R364 to R368).
-/

namespace Sys2Proof.Proofs

open Sys2Proof Sys2Proof.Machine

/-! ## LUNAR -/

theorem apart_sessionClose {o : Bool} (s : State) (f : Sender) : Apart o s (s.sessionClose f) := by
  have hdropped (a : State) (g : Dict → Dict) : Apart o a (a.withDict g) := .of_objs rfl rfl rfl rfl
  exact .ite (.refl s) (((hdropped s _).trans (apart_put _ _ (by decide))).trans (apart_raise _ 457))

theorem apart_sessionsEnd {o : Bool} (s : State) : Apart o s s.sessionsEnd := by
  have hclose (a : State) (channel : Nat) : Apart o a (a.portClose channel) := apart_foldl (fun a e _ => apart_sessionClose a _) a
  exact ((hclose s 2).trans (hclose _ 3)).trans (.of_objs rfl rfl rfl rfl)

/-- AVSBus ends: of the clock unit's entries PWR_STATUS alone shows it (R361). -/
theorem avsSleep_keeps (s : State) {key : Nat} (havs : key ≠ Obj.AGE_AVS_STATUS) (hpower : key ≠ Obj.PWR_STATUS) :
    s.avsSleep.get key = s.get key := by
  rw [State.avsSleep, State.get_emit, State.get_withAge, State.get_setBit, if_neg hpower, State.get_setBit, if_neg havs]

/-- LUNAR is entered past the commit point with no wake due (R365). -/
theorem lunarEnter_shows {s : State} (hsleep : s.clk.sleep = 2) (hwake : s.clk.wakeDue = false) (hstate : s.devState ≠ stLunar) :
    s.lunarEnter.devState = stLunar ∧ s.lunarEnter.clk.sleep = 3 ∧ s.lunarEnter.clk.lunarAt = s.now ∧
      s.lunarEnter.get Obj.PWR_LUNAR_COUNT = min (s.get Obj.PWR_LUNAR_COUNT + 1) 0xFFFFFFFF := by
  have hended := apart_sessionsEnd (o := true) s.avsSleep
  have hclk : s.avsSleep.sessionsEnd.clk = s.clk := hended.clk
  have hnow : s.avsSleep.sessionsEnd.now = s.now := hended.now
  have hstill : s.avsSleep.sessionsEnd.devState ≠ stLunar := by
    rw [devState_of_apart hended, State.devState, State.getN, avsSleep_keeps s (by decide) (by decide)]
    exact hstate
  have hcount : s.avsSleep.sessionsEnd.get Obj.PWR_LUNAR_COUNT = s.get Obj.PWR_LUNAR_COUNT := by
    rw [hended.entries _ (by decide) (by decide), avsSleep_keeps s (by decide) (by decide)]
  rw [State.lunarEnter, if_pos hsleep]
  generalize s.avsSleep.sessionsEnd = a at hclk hnow hstill hcount
  have hentered := apart_setState hstill 0
  have hexpand : a.lunarEntered =
      ((a.setState stLunar 0).bump Obj.PWR_LUNAR_COUNT).withClk fun c => { c with sleep := 3, lunarAt := a.now } := by
    have hdue : (a.setState stLunar 0).clk.wakeDue = false := by
      rw [hentered.clk]
      show a.clk.wakeDue = false
      rw [hclk, hwake]
    rw [State.lunarEntered, if_neg (by rw [hclk, hsleep]; decide)]
    extract_lets s1 s2
    have hkept : s2.clk.wakeDue = (a.setState stLunar 0).clk.wakeDue := rfl
    exact if_neg (by rw [hkept, hdue]; decide)
  rw [hexpand]
  refine ⟨?_, rfl, ?_, ?_⟩
  · rw [State.devState, State.getN, State.get_withClk, State.get_bump, if_neg (by decide), hentered.state, State.get_put_same]
    rfl
  · exact hnow
  · rw [State.get_withClk, State.get_bump, if_pos rfl, hentered.entries _ (by decide) (by decide), State.get_put_ne _ _ (by decide),
      hcount]

/-! ## The wake begins -/

/-- Every PLL starts (R368). -/
def pllsStarted (s : State) (l : List Nat) : State := s.forAll l fun s p => s.pllStart p 1

theorem pllsStarted_busy {l : List Nat} (hl : ∀ p ∈ l, p < 6) (s : State) {q : Nat} (hq : q < 6) (h : q ∈ l ∨ s.pllBusy q = true) :
    (pllsStarted s l).pllBusy q = true := by
  induction l generalizing s with
  | nil => exact h.resolve_left List.not_mem_nil
  | cons p l ih =>
    have hp : p < 6 := hl p List.mem_cons_self
    refine ih (fun r hr => hl r (List.mem_cons_of_mem p hr)) (s.pllStart p 1) ?_
    by_cases hqp : q = p
    · subst hqp
      exact .inr (pllStart_bypasses s hq 1).2.1
    · have hkept : (s.pllStart p 1).get (Obj.CLK_PLL_STATUS q) = s.get (Obj.CLK_PLL_STATUS q) :=
        get_pllStart_ne s p 1 (by simp only [Obj.CLK_PLL_STATUS]; omega) (by simp only [Obj.CLK_PLL_STATUS]; omega)
          (by simp only [Obj.CLK_PLL_STATUS]; omega) (pllStatus_ne_status q)
      rcases h with h | h
      · exact .inl ((List.mem_cons.1 h).resolve_left hqp)
      · exact .inr ((bit_congr hkept 2).trans h)

theorem pllsStarted_keep {l : List Nat} (hl : ∀ p ∈ l, p < 6) (s : State) :
    (pllsStarted s l).clk.sleep = s.clk.sleep ∧ (pllsStarted s l).clk.wakeAt = s.clk.wakeAt ∧
      (pllsStarted s l).get Obj.PWR_WAKE_CAUSE = s.get Obj.PWR_WAKE_CAUSE := by
  refine foldl_related
    (R := fun a b => b.clk.sleep = a.clk.sleep ∧ b.clk.wakeAt = a.clk.wakeAt ∧ b.get Obj.PWR_WAKE_CAUSE = a.get Obj.PWR_WAKE_CAUSE)
    (fun _ => ⟨rfl, rfl, rfl⟩) (fun h g => ⟨g.1.trans h.1, g.2.1.trans h.2.1, g.2.2.trans h.2.2⟩) l (fun a p hp => ?_) s
  have hlt := hl p hp
  refine ⟨?_, ?_, get_pllStart_ne a p 1 (by decide) (by decide)
    (by simp only [Obj.CLK_PLL_STATUS, Obj.PWR_WAKE_CAUSE]; omega) (by decide)⟩
  · rw [clk_pllStart]
  · rw [clk_pllStart]

/-- A wake begins: every PLL starts through bypass (R368). -/
theorem wakeBegin_shows (s : State) :
    s.wakeBegin.clk.sleep = 4 ∧ s.wakeBegin.clk.wakeAt = s.now ∧ s.wakeBegin.get Obj.PWR_WAKE_CAUSE = s.get Obj.PWR_WAKE_CAUSE ∧
      ∀ p ∈ List.range 6, s.wakeBegin.pllBusy p = true := by
  have hrange : ∀ p ∈ List.range 6, p < 6 := fun p hp => List.mem_range.1 hp
  have hbegin : s.wakeBegin = pllsStarted ((s.emit (.record 0x300 [s.getN Obj.AGE_VCORE_NOW])).withClk fun c =>
      { c with sleep := 4, wakeAt := s.now, wakeDue := false }) (List.range 6) := rfl
  rw [hbegin]
  obtain ⟨hsleep, hat, hcause⟩ := pllsStarted_keep hrange ((s.emit (.record 0x300 [s.getN Obj.AGE_VCORE_NOW])).withClk fun c =>
      { c with sleep := 4, wakeAt := s.now, wakeDue := false })
  exact ⟨hsleep, hat, hcause, fun p hp => pllsStarted_busy hrange _ (hrange p hp) (.inl hp)⟩

theorem wakeEvent_latches {s : State} {src : Nat} (hen : bitOf s.wakeEnabled src = true) (hsleep : s.clk.sleep = 1) :
    s.wakeEvent src = { s with aon := { s.aon with wakeLatch := withBit s.aon.wakeLatch src true } } := by
  rw [State.wakeEvent, if_neg (by rw [hen]; decide), if_pos hsleep]

/-- In LUNAR an enabled source is noted as the cause, and the wake begins (R366, R367). -/
theorem wakeEvent_wakes {s : State} {src : Nat} (hen : bitOf s.wakeEnabled src = true) (hsleep : s.clk.sleep = 3) :
    s.wakeEvent src = (s.setBit Obj.PWR_WAKE_CAUSE src true).wakeBegin := by
  rw [State.wakeEvent, if_neg (by rw [hen]; decide), if_neg (by rw [hsleep]; decide), if_neg (by rw [hsleep]; decide)]
  extract_lets s1
  have hsame : s1.clk.sleep = 3 := hsleep
  rw [if_neg (by rw [hsame]; decide), if_pos hsame]

/-! ## Rails and temperature -/

/-- The values of one rail's sample, before its excursion (R360). -/
def railShown (s : State) (i mv : Nat) : State :=
  let s1 := s.put (Obj.PWR_RAIL_MV i) mv
  let s2 := s1.put (Obj.PWR_RAIL_HIGH i) (max (s1.get (Obj.PWR_RAIL_HIGH i)) mv)
  s2.put (Obj.PWR_RAIL_LOW i) (min (s2.get (Obj.PWR_RAIL_LOW i)) mv)

/-- One rail's sample changes its three entries, and of the others those of the logbook alone. -/
theorem get_railSample (s : State) (i mv : Nat) {key : Nat} (hkey : isLogEntry key = false) :
    (s.railSample i mv).get key = (railShown s i mv).get key := by
  unfold State.railSample
  extract_lets s1 s2 s3 out s4
  have h3 : s3 = railShown s i mv := rfl
  rw [State.get_withClk]
  unfold s4
  split
  · have hcount : key ≠ Obj.LOG_CNT (0x1A - 1) := fun h => absurd (h ▸ hkey) (by decide)
    rw [State.get_journalFull _ _ _ _ _ _ _ hkey, State.get_raise, State.get_count, if_neg hcount, h3]
  · rw [h3]

/-- The samples of the rails from the n-th on. -/
def railsShown (s : State) (mv : List Nat) (n : Nat) : State :=
  (mv.zipIdx n).foldl (fun s (e : Nat × Nat) => s.railSample e.2 e.1) s

theorem get_railsShown_outside (mv : List Nat) (n : Nat) (hn : n + mv.length ≤ 9) (s : State) {key : Nat} (hkey : isLogEntry key = false)
    (hout : ∀ i < 9, key ≠ Obj.PWR_RAIL_MV i ∧ key ≠ Obj.PWR_RAIL_HIGH i ∧ key ≠ Obj.PWR_RAIL_LOW i) :
    (railsShown s mv n).get key = s.get key := by
  induction mv generalizing s n with
  | nil => rfl
  | cons v mv ih =>
    rw [List.length_cons] at hn
    obtain ⟨hmv, hhigh, hlow⟩ := hout n (by omega)
    refine (ih (n + 1) (by omega) (s.railSample n v)).trans ?_
    rw [get_railSample s n v hkey, railShown, State.get_put, if_neg hlow, State.get_put, if_neg hhigh, State.get_put, if_neg hmv]

theorem get_railsShown_mv (mv : List Nat) (n : Nat) (hn : n + mv.length ≤ 9) (s : State) (j : Nat) (hj : j < 9) :
    (railsShown s mv n).get (Obj.PWR_RAIL_MV j) =
      if n ≤ j ∧ j < n + mv.length then ((mv.getD (j - n) 0 : Nat) : Int) else s.get (Obj.PWR_RAIL_MV j) := by
  induction mv generalizing s n with
  | nil => exact (if_neg (by simp only [List.length_nil]; omega)).symm
  | cons v mv ih =>
    rw [List.length_cons] at hn
    have hstep : (s.railSample n v).get (Obj.PWR_RAIL_MV j) = if j = n then (v : Int) else s.get (Obj.PWR_RAIL_MV j) := by
      have hlog : isLogEntry (Obj.PWR_RAIL_MV j) = false := isLogEntry_of_lt (by simp only [Obj.PWR_RAIL_MV]; omega)
      have hsame : (Obj.PWR_RAIL_MV j = Obj.PWR_RAIL_MV n) = (j = n) := by simp only [Obj.PWR_RAIL_MV, Nat.add_left_cancel_iff]
      rw [get_railSample s n v hlog, railShown, State.get_put, if_neg (by simp only [Obj.PWR_RAIL_MV, Obj.PWR_RAIL_LOW]; omega),
        State.get_put, if_neg (by simp only [Obj.PWR_RAIL_MV, Obj.PWR_RAIL_HIGH]; omega), State.get_put]
      simp only [hsame]
    refine (ih (n + 1) (by omega) (s.railSample n v)).trans ?_
    rw [hstep, List.length_cons]
    by_cases hjn : j = n
    · subst hjn
      rw [if_neg (by omega), if_pos rfl, if_pos (by omega), Nat.sub_self]
      rfl
    · by_cases hin : n + 1 ≤ j ∧ j < n + 1 + mv.length
      · have hsub : j - n = (j - (n + 1)) + 1 := by omega
        rw [if_pos hin, if_pos (by omega), hsub]
        rfl
      · rw [if_neg hin, if_neg hjn, if_neg (by omega)]

/-- The junction temperature with its extremes (R360). -/
def tempShown (s : State) (tj : Int) : State :=
  let s3 := s.put Obj.PWR_TJ tj
  let s4 := s3.put Obj.PWR_TJ_HIGH (max (s3.get Obj.PWR_TJ_HIGH) tj)
  s4.put Obj.PWR_TJ_LOW (min (s4.get Obj.PWR_TJ_LOW) tj)

theorem get_tempShown (s : State) (tj : Int) (key : Nat) :
    (tempShown s tj).get key =
      if key = Obj.PWR_TJ_LOW then min (s.get Obj.PWR_TJ_LOW) tj else if key = Obj.PWR_TJ_HIGH then max (s.get Obj.PWR_TJ_HIGH) tj
      else if key = Obj.PWR_TJ then tj else s.get key := by
  have hhigh : (s.put Obj.PWR_TJ tj).get Obj.PWR_TJ_HIGH = s.get Obj.PWR_TJ_HIGH := State.get_put_ne _ _ (by decide)
  have hlow (v : Int) : ((s.put Obj.PWR_TJ tj).put Obj.PWR_TJ_HIGH v).get Obj.PWR_TJ_LOW = s.get Obj.PWR_TJ_LOW := by
    rw [State.get_put_ne _ _ (by decide), State.get_put_ne _ _ (by decide)]
  unfold tempShown
  extract_lets s3 s4
  rw [State.get_put, hlow, State.get_put, hhigh, State.get_put]

/-- A temperature outside -40 to 110 degrees (R360). -/
def tempOut (tj : Int) : Bool := tj < -400 || 1100 < tj

/-- What a sample of the monitors shows (R360). -/
theorem get_railsSampled (s : State) {mv : List Nat} (hmv : mv.length = 9) (tj : Int) (current : Nat) {key : Nat}
    (hkey : isLogEntry key = false) (hstatus : key ≠ Obj.PWR_STATUS) (hcurrent : key ≠ Obj.PWR_CORE_CURRENT) :
    (s.railsSampled mv tj current).get key = (tempShown (railsShown s mv 0) tj).get key := by
  have htake : mv.take 9 = mv := List.take_of_length_le (by omega)
  unfold State.railsSampled
  extract_lets s1 s2 s3 s4 s5 out s6 s7
  have h1 : s1 = railsShown s mv 0 := by
    unfold s1 railsShown
    rw [htake]
  have h5 : s5.get key = (tempShown (railsShown s mv 0) tj).get key := by
    have hshown : s5 = tempShown s2 tj := rfl
    have hother : ∀ k, k ≠ Obj.PWR_STATUS → s2.get k = (railsShown s mv 0).get k := fun k hk => by
      unfold s2
      rw [State.get_setBit, if_neg hk, h1]
    rw [hshown, get_tempShown, get_tempShown, hother _ (by decide), hother _ (by decide), hother _ hstatus]
  have h6 : s6.get key = s5.get key := by
    unfold s6
    split
    · have hcount : key ≠ Obj.LOG_CNT (0x1B - 1) := fun h => absurd (h ▸ hkey) (by decide)
      rw [State.get_journalFull _ _ _ _ _ _ _ hkey, State.get_raise, State.get_count, if_neg hcount]
    · rfl
  have h7 : s7.get key = s6.get key := by
    unfold s7
    rw [State.get_setBit, if_neg hstatus]
  split
  · rw [State.get_put_ne _ _ hcurrent, h7, h6, h5]
  · rw [h7, h6, h5]

theorem bit_railsSampled_temp (s : State) (mv : List Nat) (tj : Int) (current : Nat) :
    (s.railsSampled mv tj current).bit Obj.PWR_STATUS 2 = tempOut tj := by
  unfold State.railsSampled
  extract_lets s1 s2 s3 s4 s5 out s6 s7
  have h7 : s7.bit Obj.PWR_STATUS 2 = tempOut tj := by
    unfold s7
    rw [State.bit_setBit, if_pos rfl, if_pos rfl]
    rfl
  split
  · rw [State.bit_put, if_neg (by decide), h7]
  · exact h7

/-! ## The obligation -/

/-- Settles O30: the commit point is the chain of units that stop, the wake the chain of units that start; each stands apart from the
clock unit. -/
theorem sleepAndWake : Obligations.SleepAndWake := by
  intro s t
  refine ⟨fun hsleep hlatch => ?abort, fun hsleep hlatch => ?commit, fun hsleep hlatch => ?grace, fun hsleep hwake hstate => ?lunar,
    fun src hsrc hsleep hen => ?latch, fun src hsrc hsleep hen => ?wake, fun hsleep hen hdue => ?timer, fun hsleep hstate => ?complete,
    fun mv tj current hst hmv _ => ?rails, fun hdrives => ?dram⟩
  case abort =>
    refine ⟨(s.land t).sleepReady, rfl, ?_⟩
    have habort : (s.land t).sleepReady = (s.land t).sleepAborted := by
      rw [State.sleepReady, if_neg (by rw [State.land_clk, hsleep]; decide), if_pos (by rw [State.land_aon]; exact hlatch)]
    rw [habort]
    obtain ⟨hclk, hstatus, hcause, hcount, hpend, hothers, hframe⟩ := sleepAborted_shows (s.land t)
    exact ⟨by rw [hclk], hstatus, hcause, hcount, hpend, hothers, hframe⟩
  case commit =>
    exact ⟨(s.land t).sleepReady, rfl, sleepReady_commits (s := s.land t) hsleep hlatch⟩
  case grace =>
    refine ⟨(s.land t).graceExpired, rfl, ?_⟩
    have hexpired : (s.land t).graceExpired = (s.land t).sleepEnd 4 := by
      rw [State.graceExpired, if_neg (by rw [State.land_clk, hsleep]; decide), if_neg (by rw [State.land_aon, hlatch]; decide)]
    rw [hexpired]
    obtain ⟨hbit, hpend⟩ := sleepEnd_shows (s.land t) 4
    refine ⟨rfl, ?_, hbit, hpend, fun key hkey => ?_, rfl⟩
    · rw [get_sleepEnd, if_neg (by decide), if_pos rfl]
      rfl
    · simp only [List.mem_cons, List.not_mem_nil, or_false, not_or] at hkey
      rw [get_sleepEnd, if_neg hkey.2, if_neg hkey.1, State.get_land]
  case lunar =>
    exact ⟨(s.land t).lunarEnter, rfl, lunarEnter_shows (s := s.land t) hsleep hwake hstate⟩
  case latch =>
    refine ⟨if src < 8 then (s.land t).wakeEvent src else s.land t, rfl, ?_⟩
    rw [if_pos hsrc, wakeEvent_latches (s := s.land t) hen hsleep]
    exact ⟨rfl, fun _ _ => rfl, rfl⟩
  case wake =>
    refine ⟨if src < 8 then (s.land t).wakeEvent src else s.land t, rfl, ?_⟩
    rw [if_pos hsrc, wakeEvent_wakes (s := s.land t) hen hsleep]
    obtain ⟨hbegun, hat, hcause, hbusy⟩ := wakeBegin_shows ((s.land t).setBit Obj.PWR_WAKE_CAUSE src true)
    refine ⟨hbegun, hat, ?_, hbusy⟩
    rw [bit_congr hcause, State.bit_setBit, if_pos rfl, if_pos rfl]
  case timer =>
    have hexpired : (s.land t).wakeTimerDue = true := by
      have hpast : 2 ≤ s.clk.sleep := by rw [hsleep]; decide
      rw [State.wakeTimerDue, Bool.and_eq_true]
      exact ⟨decide_eq_true hpast, decide_eq_true hdue⟩
    refine ⟨if (s.land t).wakeTimerDue then (s.land t).wakeEvent 6 else s.land t, rfl, ?_⟩
    rw [if_pos hexpired, wakeEvent_wakes (s := s.land t) hen hsleep]
    obtain ⟨hbegun, -, hcause, -⟩ := wakeBegin_shows ((s.land t).setBit Obj.PWR_WAKE_CAUSE 6 true)
    refine ⟨hbegun, ?_⟩
    rw [bit_congr hcause, State.bit_setBit, if_pos rfl, if_pos rfl]
  case complete =>
    exact ⟨(s.land t).wakeComplete, rfl, wakeComplete_shows (s := s.land t) hsleep hstate⟩
  case rails =>
    refine ⟨(s.land t).clocked fun s => s.railsSampled mv tj current, rfl, ?_⟩
    have hrun : (s.land t).devState ≠ stReset := hst
    have houtside : ∀ key, 0x2D2401 ≤ key → key < 0x2D2404 →
        ∀ i < 9, key ≠ Obj.PWR_RAIL_MV i ∧ key ≠ Obj.PWR_RAIL_HIGH i ∧ key ≠ Obj.PWR_RAIL_LOW i := by
      intro key hlo hhi i hi
      simp only [Obj.PWR_RAIL_MV, Obj.PWR_RAIL_HIGH, Obj.PWR_RAIL_LOW]
      omega
    have hrails (key : Nat) (hlo : 0x2D2401 ≤ key) (hhi : key < 0x2D2404) : (railsShown (s.land t) mv 0).get key = s.get key :=
      get_railsShown_outside mv 0 (by omega) _ (isLogEntry_of_lt (by omega)) (houtside key hlo hhi)
    rw [clocked_of_running hrun]
    refine ⟨fun i hi => ?_, ?_, ?_, ?_, ?_⟩
    · have hlt := List.mem_range.1 hi
      have hlog : isLogEntry (Obj.PWR_RAIL_MV i) = false := isLogEntry_of_lt (by simp only [Obj.PWR_RAIL_MV]; omega)
      rw [get_railsSampled _ hmv _ _ hlog (by simp only [Obj.PWR_RAIL_MV, Obj.PWR_STATUS]; omega)
        (by simp only [Obj.PWR_RAIL_MV, Obj.PWR_CORE_CURRENT]; omega), get_tempShown,
        if_neg (by simp only [Obj.PWR_RAIL_MV, Obj.PWR_TJ_LOW]; omega), if_neg (by simp only [Obj.PWR_RAIL_MV, Obj.PWR_TJ_HIGH]; omega),
        if_neg (by simp only [Obj.PWR_RAIL_MV, Obj.PWR_TJ]; omega), get_railsShown_mv mv 0 (by omega) _ i hlt, if_pos (by omega),
        Nat.sub_zero]
    · rw [get_railsSampled _ hmv _ _ (by decide) (by decide) (by decide), get_tempShown, if_neg (by decide), if_neg (by decide),
        if_pos rfl]
    · rw [get_railsSampled _ hmv _ _ (by decide) (by decide) (by decide), get_tempShown, if_neg (by decide), if_pos rfl,
        hrails _ (by decide) (by decide)]
    · rw [get_railsSampled _ hmv _ _ (by decide) (by decide) (by decide), get_tempShown, if_pos rfl,
        hrails _ (by decide) (by decide)]
    · rw [bit_railsSampled_temp, tempOut, Bool.decide_or]
  case dram =>
    refine ⟨if (s.land t).pllDrives 5 then (s.land t).cmtDramBack else s.land t, rfl, ?_⟩
    rw [if_pos (show (s.land t).pllDrives 5 = true from hdrives)]
    exact ⟨rfl, fun _ _ => rfl, rfl⟩

end Sys2Proof.Proofs
end

section
/-!
PROOF. Refusals (R428, Table 17.2): the session that a request belongs to, the record of a refusal, and state requests that are refused
(R431, Table 17.4).
-/

namespace Sys2Proof.Proofs

open Sys2Proof Sys2Proof.Machine

/-! ## The session of a sender -/

/-- A change of a session leaves whose it is. -/
abbrev KeepsOwner (g : Session → Session) : Prop := ∀ e, (g e).channel = e.channel ∧ (g e).id = e.id

theorem owns_of_keepsOwner {g : Session → Session} (hg : KeepsOwner g) (f : Sender) (e : Session) :
    Sender.owns f (g e) = Sender.owns f e := by
  obtain ⟨hchannel, hid⟩ := hg e
  rw [Sender.owns, Sender.owns, hchannel, hid]

theorem session_withSession (s : State) (f : Sender) {g : Session → Session} (hg : KeepsOwner g) :
    (s.withSession f g).session f = (s.session f).map g := by
  have hsame : (Sender.owns f ∘ fun e => if Sender.owns f e then g e else e) = Sender.owns f := by
    funext e
    show Sender.owns f (if Sender.owns f e then g e else e) = Sender.owns f e
    split
    · exact owns_of_keepsOwner hg f e
    · rfl
  show (s.dict.sessions.map fun e => if Sender.owns f e then g e else e).find? (Sender.owns f) = _
  rw [List.find?_map, hsame]
  show Option.map _ (s.session f) = _
  cases hfound : s.session f with
  | none => rfl
  | some e =>
    have howns : Sender.owns f e = true := List.find?_some hfound
    rw [Option.map_some, Option.map_some, if_pos howns]

theorem session_heard (s : State) (f : Sender) : (s.heard f).session f = (s.session f).map fun e => { e with lastRequest := s.now } :=
  session_withSession s f fun _ => ⟨rfl, rfl⟩

theorem roleOf_withSession (s : State) (f : Sender) {g : Session → Session} (hg : KeepsOwner g) (hrole : ∀ e, (g e).role = e.role) :
    (s.withSession f g).roleOf f = s.roleOf f := by
  rw [State.roleOf, session_withSession s f hg, State.roleOf, Option.map_map]
  exact congrArg (fun r : Option Nat => r.getD 0) (congrArg (fun h => (s.session f).map h) (funext hrole))

theorem roleOf_heard (s : State) (f : Sender) : (s.heard f).roleOf f = s.roleOf f :=
  roleOf_withSession s f (fun _ => ⟨rfl, rfl⟩) fun _ => rfl

/-! ## The record of a refusal -/

/-- The entries of the refusal record (R428). -/
def refusalKeys : List Nat :=
  [Obj.DEV_REFUSAL_ABORT, Obj.DEV_REFUSAL_INDEX, Obj.DEV_REFUSAL_SUBINDEX, Obj.DEV_REFUSAL_REASON, Obj.DEV_REFUSAL_CHANNEL,
    Obj.DEV_REFUSAL_TIME, Obj.DEV_REFUSAL_COUNT]

/-- The refusal record before it is counted, raised and logged. -/
def refusalNoted (s : State) (f : Sender) (index sub : Nat) (r : Refused) : State :=
  let s1 := ((s.put Obj.DEV_REFUSAL_ABORT r.abort).put Obj.DEV_REFUSAL_INDEX index).put Obj.DEV_REFUSAL_SUBINDEX sub
  ((s1.put Obj.DEV_REFUSAL_REASON r.reason).put Obj.DEV_REFUSAL_CHANNEL (channelOf f)).put Obj.DEV_REFUSAL_TIME s.time32

theorem get_refusalNoted (s : State) (f : Sender) (index sub : Nat) (r : Refused) (key : Nat) :
    (refusalNoted s f index sub r).get key =
      if key = Obj.DEV_REFUSAL_TIME then (s.time32 : Int) else if key = Obj.DEV_REFUSAL_CHANNEL then (channelOf f : Int)
      else if key = Obj.DEV_REFUSAL_REASON then (r.reason : Int) else if key = Obj.DEV_REFUSAL_SUBINDEX then (sub : Int)
      else if key = Obj.DEV_REFUSAL_INDEX then (index : Int) else if key = Obj.DEV_REFUSAL_ABORT then (r.abort : Int)
      else s.get key := by
  rw [refusalNoted, State.get_put, State.get_put, State.get_put, State.get_put, State.get_put, State.get_put]

theorem get_refuse (s : State) (f : Sender) (index sub : Nat) (r : Refused) {key : Nat} (hkey : isLogEntry key = false) :
    (s.refuse f index sub r).get key =
      if key = Obj.DEV_REFUSAL_COUNT then min (s.get Obj.DEV_REFUSAL_COUNT + 1) 0xFFFFFFFF
      else (refusalNoted s f index sub r).get key := by
  have hcounter : key ≠ Obj.LOG_CNT (0x15 - 1) := fun h => absurd (h ▸ hkey) (by decide)
  have hcount : (refusalNoted s f index sub r).get Obj.DEV_REFUSAL_COUNT = s.get Obj.DEV_REFUSAL_COUNT := by
    rw [get_refusalNoted, if_neg (by decide), if_neg (by decide), if_neg (by decide), if_neg (by decide), if_neg (by decide),
      if_neg (by decide)]
  have hrecord : s.refuse f index sub r =
      ((((refusalNoted s f index sub r).bump Obj.DEV_REFUSAL_COUNT).count 0x15).raise 448).journalFull 448 noSubject
        (bytesOf r.abort 4 ++ bytesOf index 2 ++ [sub % 256, r.reason, channelOf f]) 0x15 false false := rfl
  rw [hrecord, State.get_journalFull _ _ _ _ _ _ _ hkey, State.get_raise, State.get_count, if_neg hcounter, State.get_bump, hcount]

/-- A state in which a refusal of an entry stands recorded, counted and pending as source 448 (R428). -/
structure RefusalShown (s u : State) (f : Sender) (index sub : Nat) (r : Refused) : Prop where
  abort : u.get Obj.DEV_REFUSAL_ABORT = r.abort
  index : u.get Obj.DEV_REFUSAL_INDEX = index
  subindex : u.get Obj.DEV_REFUSAL_SUBINDEX = sub
  reason : u.get Obj.DEV_REFUSAL_REASON = r.reason
  channel : u.get Obj.DEV_REFUSAL_CHANNEL = channelOf f
  time : u.get Obj.DEV_REFUSAL_TIME = s.time32
  count : u.get Obj.DEV_REFUSAL_COUNT = min (s.get Obj.DEV_REFUSAL_COUNT + 1) 0xFFFFFFFF
  pending : u.sourcePending 448
  others : s.entriesBut u refusalKeys
  frame : u = { s with objs := u.objs, icu := u.icu, log := u.log, flash := u.flash, dict := u.dict, out := u.out }

theorem refuse_shows (s : State) (f : Sender) (index sub : Nat) (r : Refused) :
    RefusalShown s (s.refuse f index sub r) f index sub r := by
  have hshown {key : Nat} (hkey : isLogEntry key = false) (hcount : key ≠ Obj.DEV_REFUSAL_COUNT) :
      (s.refuse f index sub r).get key = (refusalNoted s f index sub r).get key := by
    rw [get_refuse s f index sub r hkey, if_neg hcount]
  have hlog := State.logOnly_journalFull ((((refusalNoted s f index sub r).bump Obj.DEV_REFUSAL_COUNT).count 0x15).raise 448) 448
    noSubject (bytesOf r.abort 4 ++ bytesOf index 2 ++ [sub % 256, r.reason, channelOf f]) 0x15 false false
  refine
    { abort := by rw [hshown (by decide) (by decide), get_refusalNoted]; rfl
      index := by rw [hshown (by decide) (by decide), get_refusalNoted]; rfl
      subindex := by rw [hshown (by decide) (by decide), get_refusalNoted]; rfl
      reason := by rw [hshown (by decide) (by decide), get_refusalNoted]; rfl
      channel := by rw [hshown (by decide) (by decide), get_refusalNoted]; rfl
      time := by rw [hshown (by decide) (by decide), get_refusalNoted]; rfl
      count := by rw [get_refuse _ _ _ _ _ (by decide)]; rfl
      pending := sourcePending_kept (by decide)
        (sourcePending_raise (((refusalNoted s f index sub r).bump Obj.DEV_REFUSAL_COUNT).count 0x15) 448)
        (keepsPending_journalFull _ _ _ _ _ _ _)
      others := fun key hkey hout => ?others
      frame := ?frame }
  case others =>
    simp only [refusalKeys, List.mem_cons, List.not_mem_nil, or_false, not_or] at hout
    obtain ⟨habort, hindex, hsub, hreason, hchannel, htime, hcount⟩ := hout
    rw [hshown hkey hcount, get_refusalNoted, if_neg htime, if_neg hchannel, if_neg hreason, if_neg hsub, if_neg hindex, if_neg habort]
  case frame =>
    have hrecord : s.refuse f index sub r =
        ((((refusalNoted s f index sub r).bump Obj.DEV_REFUSAL_COUNT).count 0x15).raise 448).journalFull 448 noSubject
          (bytesOf r.abort 4 ++ bytesOf index 2 ++ [sub % 256, r.reason, channelOf f]) 0x15 false false := rfl
    rw [hrecord, hlog.2]
    rfl

theorem RefusalShown.emit {s u : State} {f : Sender} {index sub : Nat} {r : Refused} (h : RefusalShown s u f index sub r) (o : Out) :
    RefusalShown s (u.emit o) f index sub r :=
  { h with frame := congrArg (fun v : State => v.emit o) h.frame }

/-- The sessions of the state that was refused do not show in the record. -/
theorem RefusalShown.of_dict {s u : State} {d : Dict} {f : Sender} {index sub : Nat} {r : Refused}
    (h : RefusalShown { s with dict := d } u f index sub r) : RefusalShown s u f index sub r :=
  ⟨h.abort, h.index, h.subindex, h.reason, h.channel, h.time, h.count, h.pending, h.others, h.frame⟩

/-- A write that is refused for another reason than its entry's own rule, and that asks for no step of the counter, is recorded and
answered; nothing else becomes of it (R428, R429). -/
theorem requestWrite_refused {s : State} {f : Sender} {index sub : Nat} {data : List Nat} {r : Refused} (hserved : s.dictServed = true)
    (hjudge : (s.heard f).judgeWrite f .plain index sub data.length data none = some r) (hreason : r.reason ≠ 8)
    (hstep : (s.heard f).stepAsked (256 * index + sub) data = false) :
    s.requestWrite f .plain index sub data none = ((s.heard f).refuse f index sub r).reply .plain r.abort [] := by
  have hrefused : (s.heard f).refuseWrite f .plain index sub r data none = ((s.heard f).refuse f index sub r).reply .plain r.abort [] := by
    rw [State.refuseWrite, if_neg hreason, hstep, Bool.and_false, if_neg (by decide)]
  rw [← hrefused, State.requestWrite, hserved, if_neg (by decide)]
  dsimp only
  rw [hjudge]

theorem getLast?_emit (s : State) (o : Out) : (s.emit o).out.getLast? = some o := List.getLast?_concat ..

/-! ## State requests -/

/-- The values that DEV_STATE_REQ takes (Table 17.4). -/
def stateRequests : List Int := [2, 3, 4, 5, 21]

theorem served_iff (s : State) : s.dictServed = true ↔ 2 ≤ s.devState ∧ s.devState ≤ 6 := by
  rw [State.dictServed, Bool.and_eq_true, decide_eq_true_iff, decide_eq_true_iff]

/-- A state request of a sender with its role is judged by R431 alone (Table 17.2). -/
theorem judgeWrite_stateRequest {s : State} {f : Sender} {v : Int} (hv : v ∈ stateRequests)
    (hrole : (if v = 2 ∨ v = 3 then 2 else 1) ≤ s.roleOf f) (hserved : s.dictServed = true) :
    s.judgeWrite f .plain 0x2002 1 1 (ObjType.bytes .u8 v) none = (s.stateReason v).map fun r => ⟨abState, r⟩ := by
  obtain ⟨hlo, hhi⟩ := (served_iff s).1 hserved
  obtain ⟨row, hrow, htype, haccess, hstates, hmirrored, hvalues⟩ : ∃ row, Obj.find? 0x2002 1 = some row ∧ row.type = .u8 ∧
      row.access = .wo ∧ row.states = 124 ∧ row.mirrored = false ∧
      ∀ v ∈ stateRequests, ObjType.value .u8 (ObjType.bytes .u8 v) = v ∧ ObjRow.masked row v = v ∧ ObjRow.inRange row v = true :=
    ⟨_, rfl, rfl, rfl, rfl, rfl, by decide⟩
  obtain ⟨hvalue, hmasked, hrange⟩ := hvalues v hv
  have hstate : bitOf 124 s.devState = true := by
    generalize s.devState = d at hlo hhi
    interval_cases d <;> decide
  have hleast : leastRole row Obj.DEV_STATE_REQ v = if v = 2 ∨ v = 3 then 2 else 1 := by
    simp only [leastRole, if_true, Bool.or_eq_true, decide_eq_true_eq]
  have hallows : s.stateAllows row Obj.DEV_STATE_REQ v = true := by
    have hfields : s.fieldStates row Obj.DEV_STATE_REQ v = row.states := rfl
    rw [State.stateAllows, hfields, hstates, hstate]
    rfl
  have hok : s.valueOk row Obj.DEV_STATE_REQ v = true := by
    rw [State.valueOk, hrange]
    rfl
  have hmirrors : s.mirrors row = false := by rw [State.mirrors, hmirrored]; rfl
  have hcondition : s.condition f Obj.DEV_STATE_REQ v (ObjType.bytes .u8 v) none = (s.stateReason v).map fun r => ⟨abState, r⟩ := rfl
  have hlength : lengthRefused row Obj.DEV_STATE_REQ 1 = none := by rw [lengthRefused, htype]; rfl
  have hkey : 256 * 0x2002 + 1 = Obj.DEV_STATE_REQ := rfl
  rw [State.judgeWrite, if_neg (by decide), hrow]
  dsimp only
  rw [if_neg (by rw [haccess]; decide), hkey, hlength]
  dsimp only
  rw [if_neg (by decide), htype, hvalue, State.judgeState, hmasked, hleast, if_neg (Nat.not_lt.2 hrole), hmirrors, hallows, hok,
    hcondition]
  rfl

/-- A state request that R431 refuses is recorded with its reason and answered; the state stays. -/
theorem stateRequest_refused {s : State} {t : Nat} {f : Sender} {v : Int} {reason : Nat} (hv : v ∈ stateRequests)
    (hrole : (if v = 2 ∨ v = 3 then 2 else 1) ≤ s.roleOf f) (hlo : 2 ≤ s.devState) (hhi : s.devState ≤ 6)
    (hreason : s.stateReason v = some reason) (hother : reason ≠ 8) :
    (s.land t).writeEntry f Obj.DEV_STATE_REQ v =
      (((s.land t).heard f).refuse f 0x2002 1 ⟨abState, reason⟩).emit (.abort abState) := by
  have hserved : (s.land t).dictServed = true := (served_iff _).2 ⟨hlo, hhi⟩
  have hsame : ((s.land t).heard f).stateReason v = s.stateReason v := rfl
  have hlength : (ObjType.bytes .u8 v).length = 1 := rfl
  have hjudge : ((s.land t).heard f).judgeWrite f .plain 0x2002 1 (ObjType.bytes .u8 v).length (ObjType.bytes .u8 v) none =
      some ⟨abState, reason⟩ := by
    rw [hlength, judgeWrite_stateRequest (s := (s.land t).heard f) hv (by rw [roleOf_heard]; exact hrole) hserved, hsame, hreason]
    rfl
  exact requestWrite_refused hserved hjudge hother rfl

/-- What every refused state request shows (R431, R428). -/
theorem refusedRequest_shows {s : State} {t : Nat} {f : Sender} {v : Int} {reason : Nat} (hv : v ∈ stateRequests)
    (hrole : (if v = 2 ∨ v = 3 then 2 else 1) ≤ s.roleOf f) (hlo : 2 ≤ s.devState) (hhi : s.devState ≤ 6)
    (hreason : s.stateReason v = some reason) (hother : reason ≠ 8) :
    let u := (s.land t).writeEntry f Obj.DEV_STATE_REQ v
    u.get Obj.DEV_REFUSAL_REASON = reason ∧ u.out.getLast? = some (Out.abort 0x08000022) ∧
      u.get Obj.DEV_REFUSAL_ABORT = 0x08000022 ∧ u.get Obj.DEV_REFUSAL_INDEX = 0x2002 ∧ u.get Obj.DEV_REFUSAL_SUBINDEX = 1 ∧
      u.get Obj.DEV_REFUSAL_COUNT = min (s.get Obj.DEV_REFUSAL_COUNT + 1) 0xFFFFFFFF ∧ u.sourcePending 448 ∧
      s.entriesBut u refusalKeys ∧
      u = { s.land t with objs := u.objs, icu := u.icu, log := u.log, flash := u.flash, dict := u.dict, out := u.out } := by
  intro u
  have hu : u = (((s.land t).heard f).refuse f 0x2002 1 ⟨abState, reason⟩).emit (.abort abState) :=
    stateRequest_refused hv hrole hlo hhi hreason hother
  have hshown : RefusalShown (s.land t) u f 0x2002 1 ⟨abState, reason⟩ :=
    hu ▸ ((refuse_shows ((s.land t).heard f) f 0x2002 1 ⟨abState, reason⟩).emit _).of_dict
  refine ⟨hshown.reason, ?_, hshown.abort, hshown.index, hshown.subindex, hshown.count, hshown.pending, hshown.others, hshown.frame⟩
  rw [hu]
  exact getLast?_emit _ _

/-- Table 17.4 on a request for RUN: its conditions are judged in their order. -/
theorem stateReason_run {s : State} {v : Int} (hv : v = 5 ∨ v = 21) :
    s.stateReason v = if s.devState ≠ stBlocked then some 0x20 else if s.pins.armEn ≠ some true then some 0x22
      else if s.get Obj.PRT_TRIP_ACTIVE ≠ 0 then some 0x23 else if !s.degPresent then some 0x24 else if !s.owner then some 0x25
      else none := by
  rw [State.stateReason, if_neg (by omega), if_neg (by omega), if_neg (by omega)]

/-- Settles O2: every refused state request shows the same, with the first reason of Table 17.4 that applies. -/
theorem stateRequestsRefused : Obligations.StateRequestsRefused := by
  intro s t f hlo hhi
  refine ⟨fun hrole hlinkup hblocked => ?config, fun hrole hconfig => ?linkup, fun hrole hconfig himage => ?image,
    fun hrole hrun => ?blocked, fun hrole hblocked => ?run, fun hrole hblocked harm => ?arm, fun hrole hblocked harm hcause => ?cause,
    fun hrole hblocked harm hcause hdeg => ?degraded, fun hrole hblocked harm hcause hdeg howner => ?owner⟩
  case config =>
    have hreason : s.stateReason 2 = some 0x20 := by
      rw [State.stateReason, if_pos rfl, decide_eq_false hlinkup, decide_eq_false hblocked]
      rfl
    exact ⟨_, rfl, refusedRequest_shows (by decide) hrole hlo hhi hreason (by decide)⟩
  case linkup =>
    have hreason : s.stateReason 3 = some 0x20 := by rw [State.stateReason, if_neg (by decide), if_pos rfl, if_pos hconfig]
    exact ⟨_, rfl, refusedRequest_shows (by decide) hrole hlo hhi hreason (by decide)⟩
  case image =>
    have hreason : s.stateReason 3 = some 0x21 := by
      rw [State.stateReason, if_neg (by decide), if_pos rfl, if_neg (not_not.2 hconfig), himage]
      rfl
    exact ⟨_, rfl, refusedRequest_shows (by decide) hrole hlo hhi hreason (by decide)⟩
  case blocked =>
    have hreason : s.stateReason 4 = some 0x20 := by
      rw [State.stateReason, if_neg (by decide), if_neg (by decide), if_pos rfl, if_neg hrun]
    exact ⟨_, rfl, refusedRequest_shows (by decide) hrole hlo hhi hreason (by decide)⟩
  case run =>
    have hreason : s.stateReason 5 = some 0x20 := by rw [stateReason_run (.inl rfl), if_pos hblocked]
    exact ⟨_, rfl, refusedRequest_shows (by decide) hrole hlo hhi hreason (by decide)⟩
  case arm =>
    have hreason : s.stateReason 5 = some 0x22 := by rw [stateReason_run (.inl rfl), if_neg (not_not.2 hblocked), if_pos harm]
    exact ⟨_, rfl, refusedRequest_shows (by decide) hrole hlo hhi hreason (by decide)⟩
  case cause =>
    have hreason : s.stateReason 21 = some 0x23 := by
      rw [stateReason_run (.inr rfl), if_neg (not_not.2 hblocked), if_neg (not_not.2 harm), if_pos hcause]
    exact ⟨_, rfl, refusedRequest_shows (by decide) hrole hlo hhi hreason (by decide)⟩
  case degraded =>
    have hreason : s.stateReason 5 = some 0x24 := by
      rw [stateReason_run (.inl rfl), if_neg (not_not.2 hblocked), if_neg (not_not.2 harm), if_neg (not_not.2 hcause), hdeg]
      rfl
    exact ⟨_, rfl, refusedRequest_shows (by decide) hrole hlo hhi hreason (by decide)⟩
  case owner =>
    have hreason : s.stateReason 21 = some 0x25 := by
      rw [stateReason_run (.inr rfl), if_neg (not_not.2 hblocked), if_neg (not_not.2 harm), if_neg (not_not.2 hcause), hdeg, howner]
      rfl
    exact ⟨_, rfl, refusedRequest_shows (by decide) hrole hlo hhi hreason (by decide)⟩

end Sys2Proof.Proofs
end

section
/-!
PROOF. The judging of writes (R428, R429): a refused request for a step of the counter is counted too, which the statement leaves out.
-/

namespace Sys2Proof.Proofs

open Sys2Proof Sys2Proof.Machine

/-- Comet that is IDLE follows the levels alone. -/
theorem get_cmtSee_of_idle {s : State} (h : s.cmtState = 0) (fine : Option Int) (key : Nat) : (s.cmtSee fine).get key = s.get key := by
  rw [State.cmtSee, if_pos h]
  exact State.get_withCmt ..

/-- What follows a command in a quiet state whose Comet is IDLE leaves an entry that reads 0 at 0. -/
theorem settle_get_of_quiet {before s : State} (h : Quiet s) (hidle : s.get Obj.CMT_STATE = 0) {key : Nat} (hkey : 0x260000 ≤ key)
    (hzero : s.get key = 0) : (State.settle before s).get key = 0 := by
  have hstate : s.fit.devState = stConfig := by
    rw [State.devState, State.getN, get_fit, h.state]
    decide
  have hdrives : s.fit.dchDrives = false := by
    rw [State.dchDrives, hstate]
    rfl
  have hdrive : s.fit.dchDrive = s.fit := dchDrive_of_undriven hdrives h.choppers
  have hcmt : s.fit.carMasks.cmtState = 0 := by
    rw [State.cmtState, State.getN, get_carMasks _ (by decide), get_fit, hidle, fit_zero]
    rfl
  have hsee : (s.fit.carMasks.cmtSee none).get key = 0 := by
    rw [get_cmtSee_of_idle hcmt, get_carMasks _ hkey, get_fit, hzero, fit_zero]
  rw [State.settle_eq, State.settleAt, meaSources_of_groups_off h.groups, recordChanges_of_alone h.alone]
  rw [tripServe_of_config hstate, hdrive, get_fit, hsee, fit_zero]

/-- A device in CONFIG, as the reset leaves it otherwise. -/
def configState : State := State.reset.put Obj.DEV_STATE stConfig

/-- A core, which has no role: its request for a re-epoch is refused with reason 4. -/
def coreSender : Sender := ⟨16, 0⟩

theorem reepoch_refused :
    ((configState.land 0).heard coreSender).judgeWrite coreSender .plain 0x2C00 0x0E 1 [1] none = some ⟨abState, 4⟩ := by
  decide +kernel

/-- The refused request is counted in TIM_STEP_REFUSED (R336). -/
theorem reepoch_counted :
    (State.settle (configState.land 0) ((configState.land 0).requestWrite coreSender .plain 0x2C00 0x0E [1] none)).get
      Obj.TIM_STEP_REFUSED = 1 := by
  decide +kernel

/-- A state that a refusal leaves as the statement says is quiet where the state before it was. -/
theorem quiet_of_refusal {a u : State} (ha : Quiet a) (hentries : a.entriesBut u refusalKeys) (hprt : u.prt = a.prt)
    (hcmt : u.cmt = a.cmt) : Quiet u := by
  have hclock : ∀ g < 4, isLogEntry (Obj.MEA_CLK_CTRL g) = false ∧ Obj.MEA_CLK_CTRL g ∉ refusalKeys := by decide
  have hsource : ∀ i < 64, isLogEntry (Obj.CMT_BOOL_SRC i) = false ∧ Obj.CMT_BOOL_SRC i ∉ refusalKeys := by decide +kernel
  refine ⟨?state, fun g hg => ?groups, ?alone, ?choppers, fun i hi => ?unseen, ?levels, ?unfired⟩
  case state => rw [hentries _ (by decide) (by decide), ha.state]
  case groups =>
    obtain ⟨hlog, hkey⟩ := hclock g hg
    rw [State.grpOn, bit_congr (hentries _ hlog hkey)]
    exact ha.groups g hg
  case alone =>
    rw [State.hasPartner, bit_congr (hentries _ (by decide) (by decide))]
    exact ha.alone
  case choppers => rw [hprt]; exact ha.choppers
  case unseen =>
    obtain ⟨hlog, hkey⟩ := hsource i hi
    rw [hentries _ hlog hkey, ha.unseen i hi]
  case levels => rw [hcmt, ha.levels]
  case unfired => rw [hcmt, ha.unfired]

theorem quiet_configState : Quiet configState :=
  ⟨by decide, by decide, by decide, by decide, by decide +kernel, rfl, rfl⟩

/-- Refutes O5: a request for a step of the counter that is refused for its role or the state is counted in TIM_STEP_REFUSED beside the
refusal record (R336), which the first clause holds unchanged. A core asks for a re-epoch in CONFIG. -/
theorem not_writesAreJudgedAndCommitted : ¬ Obligations.WritesAreJudgedAndCommitted := by
  intro h
  obtain ⟨hrefused, -, -, -⟩ := h configState 0 coreSender 0x2C00 0x0E [1]
  obtain ⟨u, hexec, -, -, -, -, -, -, -, -, -, hentries, hunits⟩ := hrefused ⟨abState, 4⟩ (by decide) reepoch_refused (by decide)
  have hsettled : State.settle (configState.land 0) ((configState.land 0).requestWrite coreSender .plain 0x2C00 0x0E [1] none) =
      State.settle (configState.land 0) u := Host.Outcome.next.inj hexec
  have hquiet : Quiet u := quiet_of_refusal quiet_configState hentries (by rw [hunits]; rfl) (by rw [hunits]; rfl)
  have hidle : u.get Obj.CMT_STATE = 0 := (hentries _ (by decide) (by decide)).trans (by decide)
  have hcounter : u.get Obj.TIM_STEP_REFUSED = 0 := (hentries _ (by decide) (by decide)).trans (by decide)
  have hkept := settle_get_of_quiet (before := configState.land 0) hquiet hidle (key := Obj.TIM_STEP_REFUSED) (by decide) hcounter
  rw [← hsettled, reepoch_counted] at hkept
  exact absurd hkept (by decide)

end Sys2Proof.Proofs
end

section
/-!
PROOF. The states that requests and the partner begin (R19, R20, R311, R431, R487).
-/

namespace Sys2Proof.Proofs

open Sys2Proof Sys2Proof.Machine

/-! ## BLOCKED and RUN -/

theorem apart_otpStart {o : Bool} (s : State) : Apart o s s.otpStart := by
  rw [otpStart_frame]
  exact .of_objs rfl rfl rfl rfl

theorem apart_ageBlocked {o : Bool} (s : State) : Apart o s s.ageBlocked :=
  .ite (.refl s) (((apart_withAge s _).trans (apart_setBit _ 4 true (by decide))).trans (apart_raise _ 354))

theorem apart_enterBlocked {s : State} (h : s.devState ≠ stBlocked) : Apart true (s.put Obj.DEV_STATE stBlocked) s.enterBlocked := by
  have hentered := (apart_leave h 0).trans (apart_otpStart _)
  exact .ite (hentered.trans (apart_ageBlocked _)) hentered

theorem get_blkEnter (s : State) (phase : Nat) {key : Nat} (hlog : isLogEntry key = false) (hkey : key ≠ Obj.BLK_PHASE) :
    (s.blkEnter phase).get key = s.get key := by
  by_cases h : s.blkPhase = phase
  · rw [State.blkEnter, if_pos h]
  · rw [blkEnter_of_ne h, State.get_event _ _ _ _ hlog, State.get_put, if_neg hkey]
    rfl

/-- The entry to RUN shows its mode (R75, R92). -/
theorem runEnter_shows (s : State) (black : Bool) :
    Apart true s (s.runEnter black) ∧ (s.runEnter black).bit Obj.DEV_RUN_FLAGS 0 = black := by
  unfold State.runEnter
  extract_lets s0 s1 wSet base s2 s3
  have h0 : Apart true s s0 := (apart_withFrt s _).trans (apart_setBit _ 13 false (by decide))
  have hflags : ∀ a : State, ∀ v : Int, Apart true a (a.put Obj.DEV_RUN_FLAGS v) := fun a v => apart_put a v (by decide)
  have h1 : Apart true s s1 :=
    ((h0.trans (hflags s0 _)).trans (apart_put _ 0 (by decide))).trans (apart_put _ 0 (by decide))
  have hbit : s1.bit Obj.DEV_RUN_FLAGS 0 = black := by
    unfold s1
    rw [State.bit_put, if_neg (by decide), State.bit_put, if_neg (by decide), State.bit_setBit, if_pos rfl, if_pos rfl]
  have hbase : ∀ w, Apart true s1 (base s1 w) := fun w => apart_withSwg s1 _
  split
  · have hstart : Apart true s1 s2 := ((hbase wSet).trans (apart_withRide _ _)).trans (apart_put _ 0 (by decide))
    have hkept : s2.get Obj.DEV_RUN_FLAGS = s1.get Obj.DEV_RUN_FLAGS := State.get_put_ne _ _ (by decide)
    exact ⟨(h1.trans hstart).trans (apart_blkEnter s2 _), 
      (bit_congr ((get_blkEnter s2 _ (by decide) (by decide)).trans hkept) 0).trans hbit⟩
  · split
    · exact ⟨h1.trans (apart_withSwg s1 _), hbit⟩
    · have hstart : Apart true s1 s3 := (hbase wSet).trans (apart_withRide _ _)
      have hkept : s3.get Obj.DEV_RUN_FLAGS = s1.get Obj.DEV_RUN_FLAGS := rfl
      refine ⟨(h1.trans hstart).trans (((apart_setBit s3 13 true (by decide)).trans (apart_bump _ (by decide))).trans
        (apart_raise _ 200)), (bit_congr ?_ 0).trans hbit⟩
      rw [State.get_raise, State.get_bump, if_neg (by decide), State.get_setBit, if_neg (by decide), hkept]

/-- RUN entered from another state (R20). -/
theorem enterRun_shows {s : State} (h : s.devState ≠ stRun) (black : Bool) :
    Apart true (s.put Obj.DEV_STATE stRun) (s.enterRun black) ∧ (s.enterRun black).bit Obj.DEV_RUN_FLAGS 0 = black := by
  obtain ⟨hrun, hbit⟩ := runEnter_shows (s.leaveState.setStateCounted stRun 0 (if black then 0x0D else 0xFF)) black
  exact ⟨(apart_leaveCounted h 0 _).trans hrun, hbit⟩

/-! ## Accepted state requests -/

/-- A state request that R431 takes begins its transition and is answered. -/
theorem stateRequest_begins {s : State} {t : Nat} {f : Sender} {v : Int} (hv : v ∈ stateRequests)
    (hrole : (if v = 2 ∨ v = 3 then 2 else 1) ≤ s.roleOf f) (hlo : 2 ≤ s.devState) (hhi : s.devState ≤ 6)
    (hreason : s.stateReason v = none) :
    (s.land t).writeEntry f Obj.DEV_STATE_REQ v = (((s.land t).heard f).stateBegin v).emit .done := by
  have hserved : ((s.land t).heard f).dictServed = true := (served_iff _).2 ⟨hlo, hhi⟩
  have hsame : ((s.land t).heard f).stateReason v = s.stateReason v := rfl
  obtain ⟨row, hrow, htype, haccess, hmirrored, hvalue⟩ : ∃ row, Obj.rowOf Obj.DEV_STATE_REQ = some row ∧ row.type = .u8 ∧
      row.access = .wo ∧ row.mirrored = false ∧ ∀ v ∈ stateRequests, ObjType.value .u8 (ObjType.bytes .u8 v) = v :=
    ⟨_, rfl, rfl, rfl, rfl, by decide⟩
  have hjudge : ((s.land t).heard f).judgeWrite f .plain (Obj.DEV_STATE_REQ / 256) (Obj.DEV_STATE_REQ % 256)
      (ObjType.bytes .u8 v).length (ObjType.bytes .u8 v) none = none := by
    have hrefused := judgeWrite_stateRequest (s := (s.land t).heard f) hv (by rw [roleOf_heard]; exact hrole) hserved
    rw [hsame, hreason] at hrefused
    exact hrefused
  have hmirrors : ((s.land t).heard f).mirrors row = false := by rw [State.mirrors, hmirrored]; rfl
  have htakes : s.takesWrite t f Obj.DEV_STATE_REQ v = true := by
    rw [State.takesWrite, hrow]
    dsimp only
    rw [htype, hserved, hjudge, hmirrors]
    rfl
  exact writeEntry_command_of_takesWrite hrow haccess (fun _ => rfl) (htype ▸ hvalue v hv) htakes

/-- A change apart from the clock unit keeps the state that was entered and the count of requests. -/
theorem entered_shows {o : Bool} {s u : State} {new : Nat} (h : Apart o (s.put Obj.DEV_STATE new) u) :
    u.devState = new ∧ u.get Obj.DEV_REQ_COUNT = s.get Obj.DEV_REQ_COUNT := by
  refine ⟨(devState_of_apart h).trans (devState_put s new), ?_⟩
  rw [h.device _ (.inr (.inl rfl)), State.get_put_ne _ _ (by decide)]

theorem devState_bump_requests (s : State) : (s.bump Obj.DEV_REQ_COUNT).devState = s.devState := by
  rw [State.devState, State.getN, State.get_bump, if_neg (by decide), State.devState, State.getN]

theorem requests_bumped (s : State) : (s.bump Obj.DEV_REQ_COUNT).get Obj.DEV_REQ_COUNT = min (s.get Obj.DEV_REQ_COUNT + 1) 0xFFFFFFFF := by
  rw [State.get_bump, if_pos rfl]

/-- An accepted request for RUN shows its mode. -/
theorem stateBegin_run {s : State} (hblocked : s.devState = stBlocked) {v : Int} (hv : v = 5 ∨ v = 21) :
    (s.stateBegin v).devState = stRun ∧ (s.stateBegin v).bit Obj.DEV_RUN_FLAGS 0 = decide (v = 21) ∧
      (s.stateBegin v).get Obj.DEV_REQ_COUNT = min (s.get Obj.DEV_REQ_COUNT + 1) 0xFFFFFFFF := by
  have hbegin : s.stateBegin v = (s.bump Obj.DEV_REQ_COUNT).enterRun (v = 21) := by
    rw [State.stateBegin, if_neg (by omega), if_neg (by omega), if_neg (by omega)]
  obtain ⟨hrun, hbit⟩ :=
    enterRun_shows (s := s.bump Obj.DEV_REQ_COUNT) (by rw [devState_bump_requests, hblocked]; decide) (decide (v = 21))
  obtain ⟨hstate, hcount⟩ := entered_shows hrun
  rw [hbegin]
  exact ⟨hstate, hbit, hcount.trans (requests_bumped s)⟩

theorem stateBegin_config {s : State} (hother : s.devState ≠ stConfig) :
    (s.stateBegin 2).devState = stConfig ∧ (s.stateBegin 2).get Obj.DEV_REQ_COUNT = min (s.get Obj.DEV_REQ_COUNT + 1) 0xFFFFFFFF := by
  have hbegin : s.stateBegin 2 = (s.bump Obj.DEV_REQ_COUNT).enterConfig.avsEnter := by rw [State.stateBegin, if_pos rfl]
  obtain ⟨hstate, hcount⟩ :=
    entered_shows (apart_enterConfig (s := s.bump Obj.DEV_REQ_COUNT) (by rw [devState_bump_requests]; exact hother))
  obtain ⟨havs, -, hrequests, -⟩ := avsEnter_keeps (s.bump Obj.DEV_REQ_COUNT).enterConfig
  rw [hbegin]
  refine ⟨?_, (hrequests.trans hcount).trans (requests_bumped s)⟩
  rw [State.devState, State.getN, havs]
  exact hstate

theorem stateBegin_linkup {s : State} (hother : s.devState ≠ stLinkup) :
    (s.stateBegin 3).devState = stLinkup ∧ (s.stateBegin 3).get Obj.DEV_REQ_COUNT = min (s.get Obj.DEV_REQ_COUNT + 1) 0xFFFFFFFF ∧
      (s.stateBegin 3).dict.nodeIds = [s.getN (Obj.CAN_NODE_ID 0), s.getN (Obj.CAN_NODE_ID 1)] := by
  have hbegin : s.stateBegin 3 = (s.bump Obj.DEV_REQ_COUNT).enterLinkup := by rw [State.stateBegin, if_neg (by decide), if_pos rfl]
  have hleft : (s.bump Obj.DEV_REQ_COUNT).devState ≠ stLinkup := by rw [devState_bump_requests]; exact hother
  obtain ⟨hstate, hcount⟩ := entered_shows (apart_enterLinkup hleft)
  have hnode (i : Nat) (hi : i < 2) : (linkupBegun (s.bump Obj.DEV_REQ_COUNT)).getN (Obj.CAN_NODE_ID i) = s.getN (Obj.CAN_NODE_ID i) := by
    have hlow : Obj.CAN_NODE_ID i < 0x1E1000 := by simp only [Obj.CAN_NODE_ID]; omega
    rw [State.getN, (apart_linkupBegun hleft).device _ (.inl hlow), State.get_put_ne _ _ (by simp only [Obj.DEV_STATE]; omega),
      State.get_bump, if_neg (by simp only [Obj.DEV_REQ_COUNT]; omega), State.getN]
  rw [hbegin]
  refine ⟨hstate, hcount.trans (requests_bumped s), ?_⟩
  rw [← hnode 0 (by decide), ← hnode 1 (by decide)]
  rfl

theorem stateBegin_blocked {s : State} (hrun : s.devState = stRun) :
    (s.stateBegin 4).devState = stBlocked ∧ (s.stateBegin 4).get Obj.DEV_REQ_COUNT = min (s.get Obj.DEV_REQ_COUNT + 1) 0xFFFFFFFF := by
  have hbegin : s.stateBegin 4 = (s.bump Obj.DEV_REQ_COUNT).enterBlocked := rfl
  obtain ⟨hstate, hcount⟩ :=
    entered_shows (apart_enterBlocked (s := s.bump Obj.DEV_REQ_COUNT) (by rw [devState_bump_requests, hrun]; decide))
  rw [hbegin]
  exact ⟨hstate, hcount.trans (requests_bumped s)⟩

/-- The answer of a request leaves the state it begins as it is. -/
theorem begun_shows {s u : State} {new : Nat} (hstate : s.devState = new) {n : Int} (hcount : s.get Obj.DEV_REQ_COUNT = n)
    (hu : u = s.emit .done) : u.devState = new ∧ u.get Obj.DEV_REQ_COUNT = n ∧ u.out.getLast? = some Out.done := by
  subst hu
  exact ⟨hstate, by rw [State.get_emit, hcount], getLast?_emit _ _⟩

/-- A request for RUN whose conditions hold (Table 17.4). -/
theorem runRequest_shows {s : State} {t : Nat} {f : Sender} {v : Int} (hv : v = 5 ∨ v = 21) (hrole : 1 ≤ s.roleOf f)
    (hstate : s.devState = stBlocked) (harm : s.pins.armEn = some true) (hcause : s.get Obj.PRT_TRIP_ACTIVE = 0)
    (hdeg : s.degPresent = true) (howner : s.owner = true) :
    ((s.land t).writeEntry f Obj.DEV_STATE_REQ v).devState = stRun ∧
      ((s.land t).writeEntry f Obj.DEV_STATE_REQ v).bit Obj.DEV_RUN_FLAGS 0 = decide (v = 21) ∧
      ((s.land t).writeEntry f Obj.DEV_STATE_REQ v).get Obj.DEV_REQ_COUNT = min (s.get Obj.DEV_REQ_COUNT + 1) 0xFFFFFFFF ∧
      ((s.land t).writeEntry f Obj.DEV_STATE_REQ v).out.getLast? = some Out.done := by
  have hreason : s.stateReason v = none := by
    rw [stateReason_run hv, if_neg (not_not.2 hstate), if_neg (not_not.2 harm), if_neg (not_not.2 hcause), hdeg, howner]
    rfl
  have hleast : (if v = 2 ∨ v = 3 then 2 else 1) ≤ s.roleOf f := by
    rw [if_neg (by omega)]
    exact hrole
  have hmember : v ∈ stateRequests := by
    rcases hv with rfl | rfl <;> decide
  have hbegins := stateRequest_begins (t := t) hmember hleast (by rw [hstate]; decide) (by rw [hstate]; decide) hreason
  obtain ⟨hentered, hbit, hcount⟩ := stateBegin_run (s := (s.land t).heard f) hstate hv
  obtain ⟨hstate', hcount', hanswer⟩ := begun_shows hentered hcount hbegins
  refine ⟨hstate', ?_, hcount', hanswer⟩
  rw [hbegins, State.bit_emit, hbit]

/-- Settles O1: an accepted request is the transition of Table 17.4, in the state that has heard it. -/
theorem stateRequestsBegin : Obligations.StateRequestsBegin := by
  intro s t f
  refine ⟨fun hrole hstate => ?config, fun hrole hstate himage => ?linkup, fun hrole hstate => ?blocked,
    fun hrole hstate harm hcause hdeg howner => ?normal, fun hrole hstate harm hcause hdeg howner => ?black⟩
  case config =>
    refine ⟨(s.land t).writeEntry f Obj.DEV_STATE_REQ 2, rfl, ?_⟩
    have hreason : s.stateReason 2 = none := by
      rw [State.stateReason, if_pos rfl, if_pos (by simpa using hstate)]
    have hleft : s.devState ≠ stConfig := by
      rcases hstate with h | h <;> rw [h] <;> decide
    have hserved : 2 ≤ s.devState ∧ s.devState ≤ 6 := by
      rcases hstate with h | h <;> rw [h] <;> decide
    obtain ⟨hentered, hcount⟩ := stateBegin_config (s := (s.land t).heard f) hleft
    exact begun_shows hentered hcount (stateRequest_begins (v := 2) (by decide) hrole hserved.1 hserved.2 hreason)
  case linkup =>
    refine ⟨(s.land t).writeEntry f Obj.DEV_STATE_REQ 3, rfl, ?_⟩
    have hreason : s.stateReason 3 = none := by
      rw [State.stateReason, if_neg (by decide), if_pos rfl, if_neg (not_not.2 hstate),
        if_neg (by rw [Option.isNone_iff_eq_none]; exact Option.isSome_iff_ne_none.1 himage)]
    have hbegins := stateRequest_begins (s := s) (t := t) (f := f) (v := 3) (by decide) hrole (by rw [hstate]) (by rw [hstate]; decide)
      hreason
    obtain ⟨hentered, hcount, hnodes⟩ := stateBegin_linkup (s := (s.land t).heard f)
      (show s.devState ≠ stLinkup by rw [hstate]; decide)
    obtain ⟨hstate', hcount', hanswer⟩ := begun_shows hentered hcount hbegins
    refine ⟨hstate', hcount', hanswer, ?_⟩
    rw [hbegins]
    exact hnodes
  case blocked =>
    refine ⟨(s.land t).writeEntry f Obj.DEV_STATE_REQ 4, rfl, ?_⟩
    have hreason : s.stateReason 4 = none := by
      rw [State.stateReason, if_neg (by decide), if_neg (by decide), if_pos rfl, if_pos hstate]
    obtain ⟨hentered, hcount⟩ := stateBegin_blocked (s := (s.land t).heard f) hstate
    exact begun_shows hentered hcount
      (stateRequest_begins (v := 4) (by decide) hrole (by rw [hstate]; decide) (by rw [hstate]; decide) hreason)
  case normal => exact ⟨_, rfl, runRequest_shows (.inl rfl) hrole hstate harm hcause hdeg howner⟩
  case black => exact ⟨_, rfl, runRequest_shows (.inr rfl) hrole hstate harm hcause hdeg howner⟩

/-! ## LINKUP completes, and the partner is followed -/

/-- What a unit does counts as a request of its partner (R311). -/
theorem followed_shows {o : Bool} {s u : State} {new : Nat} (h : Apart o (s.put Obj.DEV_STATE new) u) :
    (u.bump Obj.DEV_REQ_COUNT).devState = new ∧
      (u.bump Obj.DEV_REQ_COUNT).get Obj.DEV_REQ_COUNT = min (s.get Obj.DEV_REQ_COUNT + 1) 0xFFFFFFFF := by
  obtain ⟨hstate, hcount⟩ := entered_shows h
  exact ⟨(devState_bump_requests u).trans hstate, by rw [requests_bumped, hcount]⟩

/-- Settles O3: the entries to BLOCKED and RUN, begun by the conditions of LINKUP or by the partner's Tide. -/
theorem statesFollowTheirConditions : Obligations.StatesFollowTheirConditions := by
  intro s t
  refine ⟨fun hdone => ?complete, fun hnot => ?waits, fun d htide hrun hblocked howner harm hcause => ?run,
    fun d htide hblocked hrun howner => ?blocked⟩
  case complete =>
    refine ⟨if (s.land t).linkupDone then (s.land t).enterBlocked else s.land t, rfl, ?_⟩
    have hlinkup : (s.land t).devState = stLinkup := by
      simp only [State.linkupDone, Bool.and_eq_true, decide_eq_true_eq] at hdone
      exact hdone.1.1.1.1.1
    rw [if_pos hdone]
    exact (entered_shows (apart_enterBlocked (by rw [hlinkup]; decide))).1
  case waits =>
    refine ⟨if (s.land t).linkupDone then (s.land t).enterBlocked else s.land t, rfl, ?_⟩
    rw [if_neg (by rw [hnot]; decide)]
  case run =>
    refine ⟨(s.land t).followRun, rfl, ?_⟩
    have hfollow : (s.land t).followRun = ((s.land t).enterRun (bitOf d.runFlags 0)).bump Obj.DEV_REQ_COUNT := by
      have hseen : (s.land t).tide = some d := htide
      have hstate : (s.land t).devState = stBlocked := hblocked
      have hown : (s.land t).owner = false := howner
      rw [State.followRun, hseen]
      dsimp only
      rw [hstate, hown, hrun, State.land_pins, harm, State.get_land, hcause]
      rfl
    obtain ⟨hentered, hbit⟩ := enterRun_shows (s := s.land t) (show s.devState ≠ stRun by rw [hblocked]; decide) (bitOf d.runFlags 0)
    obtain ⟨hstate, hcount⟩ := followed_shows hentered
    have hflags : (((s.land t).enterRun (bitOf d.runFlags 0)).bump Obj.DEV_REQ_COUNT).get Obj.DEV_RUN_FLAGS =
        ((s.land t).enterRun (bitOf d.runFlags 0)).get Obj.DEV_RUN_FLAGS := by
      rw [State.get_bump, if_neg (by decide)]
    rw [hfollow]
    exact ⟨hstate, (bit_congr hflags 0).trans hbit, hcount⟩
  case blocked =>
    refine ⟨(s.land t).followBlocked, rfl, ?_⟩
    have hfollow : (s.land t).followBlocked = (s.land t).enterBlocked.bump Obj.DEV_REQ_COUNT := by
      have hseen : (s.land t).tide = some d := htide
      have hstate : (s.land t).devState = stRun := hrun
      have hown : (s.land t).owner = false := howner
      rw [State.followBlocked, hseen]
      dsimp only
      rw [hstate, hown, hblocked]
      rfl
    rw [hfollow]
    exact followed_shows (s := s.land t) (apart_enterBlocked (s := s.land t) (show s.devState ≠ stBlocked by rw [hrun]; decide))

end Sys2Proof.Proofs
end

section
/-!
PROOF. Sessions and roles (R424 to R427), and what the dictionary servers keep while an event is logged.
-/

namespace Sys2Proof.Proofs

open Sys2Proof Sys2Proof.Machine

/-! ## The logbook leaves sessions alone -/

/-- Of the dictionary servers a change touches the debug UART's buffer alone. -/
def KeepsDict (a b : State) : Prop := b.dict = { a.dict with uartFill := b.dict.uartFill, uartAt := b.dict.uartAt }

theorem KeepsDict.refl (s : State) : KeepsDict s s := rfl

theorem KeepsDict.trans {a b c : State} (h : KeepsDict a b) (g : KeepsDict b c) : KeepsDict a c := by
  unfold KeepsDict at h g ⊢
  rw [g, h]

theorem KeepsDict.of_dict {a b : State} (h : b.dict = a.dict) : KeepsDict a b := by
  unfold KeepsDict
  rw [h]

theorem KeepsDict.ite {s a b : State} {c : Prop} [Decidable c] (h : KeepsDict s a) (g : KeepsDict s b) :
    KeepsDict s (if c then a else b) := by
  split
  · exact h
  · exact g

theorem KeepsDict.sessions {a b : State} (h : KeepsDict a b) : b.dict.sessions = a.dict.sessions := by rw [h]

theorem KeepsDict.locked {a b : State} (h : KeepsDict a b) : b.dict.locked = a.dict.locked := by rw [h]

theorem KeepsDict.failures {a b : State} (h : KeepsDict a b) : b.dict.failures = a.dict.failures := by rw [h]

theorem KeepsDict.busOff {a b : State} (h : KeepsDict a b) : b.dict.busOff = a.dict.busOff := by rw [h]

theorem KeepsDict.image {a b : State} (h : KeepsDict a b) : b.dict.image = a.dict.image := by rw [h]

theorem KeepsDict.storing {a b : State} (h : KeepsDict a b) : b.dict.storing = a.dict.storing := by rw [h]

theorem KeepsDict.nodeIds {a b : State} (h : KeepsDict a b) : b.dict.nodeIds = a.dict.nodeIds := by rw [h]

theorem KeepsDict.session {a b : State} (h : KeepsDict a b) (f : Sender) : b.session f = a.session f := by
  rw [State.session, h.sessions, State.session]

theorem keepsDict_uartLine (s : State) (chars : List Nat) : KeepsDict s (s.uartLine chars) := by
  unfold State.uartLine
  exact .ite (.refl s) (.ite (.of_dict rfl) rfl)

theorem keepsDict_pushRecord (s : State) (uptime code : Nat) (data : List Nat) (counter : Nat) (transient lasting : Bool) :
    KeepsDict s (s.pushRecord uptime code data counter transient lasting) := by
  have hhead (r : JournalRecord) : KeepsDict s (atHead s r) := .of_dict rfl
  rcases pushRecord_cases s uptime code data counter transient lasting with h | ⟨chars, h⟩
  · rw [h]
    exact hhead _
  · rw [h]
    exact (hhead _).trans (keepsDict_uartLine _ _)

theorem keepsDict_journalFull (s : State) (code subject : Nat) (data : List Nat) (counter : Nat) (transient lasting : Bool) :
    KeepsDict s (s.journalFull code subject data counter transient lasting) := by
  have hcharged (credit : Nat) : KeepsDict s (charged s credit) := .of_dict rfl
  by_cases hcredit : s.journalCredit < recordCredit
  · have hnoted : (dropNoted s).dict = s.dict := by rw [dropNoted_frame]
    rw [journalFull_of_dropped hcredit]
    exact .of_dict hnoted
  · by_cases hrun : s.log.dropRun = 0
    · rw [journalFull_of_admitted (Nat.not_lt.1 hcredit) hrun]
      exact (hcharged _).trans (keepsDict_pushRecord _ _ _ _ _ _ _)
    · rw [journalFull_after_drops (Nat.not_lt.1 hcredit) hrun]
      exact ((hcharged _).trans (keepsDict_pushRecord _ _ _ _ _ _ _)).trans (keepsDict_pushRecord _ _ _ _ _ _ _)

theorem keepsDict_event (s : State) (src subject : Nat) (data : List Nat) : KeepsDict s (s.event src subject data) :=
  KeepsDict.trans (b := s.raise src) (.of_dict rfl) (keepsDict_journalFull _ _ _ _ _ _ _)

theorem keepsDict_beginFlush (s : State) (demanded : Bool) : KeepsDict s (s.beginFlush demanded) := by
  unfold State.beginFlush
  split
  · exact .refl s
  · extract_lets s0 snap flashOf logOf s1 s3 worst s4
    have h0 : s0.dict = s.dict := by
      unfold s0
      split <;> rfl
    have h4 : KeepsDict s s4 := by
      have hstarted : s1.dict = s0.dict := rfl
      have hshown : s3.dict = s1.dict := State.put_dict ..
      have hworst : s4.dict = s3.dict := State.put_dict ..
      exact .of_dict (((hworst.trans hshown).trans hstarted).trans h0)
    have hworn : KeepsDict s4 (s4.setBit Obj.LOG_STATUS 4 true) := .of_dict (State.setBit_dict ..)
    exact .ite ((h4.trans hworn).trans (keepsDict_event _ _ _ _)) h4

theorem keepsDict_serveFlush (s : State) : KeepsDict s s.serveFlush :=
  .ite (keepsDict_beginFlush s true) (.ite (keepsDict_beginFlush s false) (.refl s))

theorem keepsDict_demandFlush (s : State) : KeepsDict s s.demandFlush :=
  KeepsDict.trans (b := { s with log := { s.log with demand := true } }) (.of_dict rfl) (keepsDict_serveFlush _)

theorem keepsDict_siteOutcome (s : State) (site code subject : Nat) (data : List Nat) (lasting : Bool) :
    KeepsDict s (s.siteOutcome site code subject data lasting) := by
  have hcounted (key : Nat) : KeepsDict s (s.add64 key 1) := .of_dict rfl
  refine .ite ?lasting (.ite ((hcounted _).trans (keepsDict_journalFull _ _ _ _ _ _ _)) (hcounted _))
  exact ((hcounted _).trans (keepsDict_demandFlush _)).trans (keepsDict_journalFull _ _ _ _ _ _ _)

theorem keepsDict_refuse (s : State) (f : Sender) (index sub : Nat) (r : Refused) : KeepsDict s (s.refuse f index sub r) :=
  KeepsDict.trans (b := (((refusalNoted s f index sub r).bump Obj.DEV_REFUSAL_COUNT).count 0x15).raise 448) (.of_dict rfl)
    (keepsDict_journalFull _ _ _ _ _ _ _)

/-! ## Accepted and refused writes -/

/-- A write that passes steps 1 to 8 is judged by its entry's own rule (Table 17.2). -/
theorem judgeWrite_of_row {s : State} {f : Sender} {route : Route} {index sub length : Nat} {data : List Nat} {img : Option DictImage}
    {row : ObjRow} (hindex : Obj.indexExists index = true) (hrow : Obj.find? index sub = some row) (haccess : row.access ≠ .ro)
    (hlength : lengthRefused row (256 * index + sub) length = none) (hmost : length ≤ transportMax route)
    (hrole : leastRole row (256 * index + sub) (ObjType.value row.type data) ≤ s.roleOf f) (hmirrored : row.mirrored = false)
    (hstate : s.stateAllows row (256 * index + sub) (ObjType.value row.type data) = true)
    (hvalue : s.valueOk row (256 * index + sub) (ObjRow.masked row (ObjType.value row.type data)) = true) :
    s.judgeWrite f route index sub length data img =
      s.condition f (256 * index + sub) (ObjRow.masked row (ObjType.value row.type data)) data img := by
  have hmirrors : s.mirrors row = false := by rw [State.mirrors, hmirrored]; rfl
  rw [State.judgeWrite, hindex, if_neg (by decide), hrow]
  dsimp only
  rw [if_neg haccess, hlength]
  dsimp only
  rw [if_neg (Nat.not_lt.2 hmost), State.judgeState, if_neg (Nat.not_lt.2 hrole), hmirrors, hstate, hvalue]
  rfl

/-- An accepted write of a write-only entry that is not mirrored is its command, answered (R429). -/
theorem requestWrite_command {s : State} {f : Sender} {route : Route} {index sub : Nat} {data : List Nat} {row : ObjRow}
    (hserved : s.dictServed = true) (hrow : Obj.find? index sub = some row) (haccess : row.access = .wo) (hmirrored : row.mirrored = false)
    (hjudge : (s.heard f).judgeWrite f route index sub data.length data none = none)
    (hnow : answersLater (256 * index + sub) (ObjType.value row.type data) = false) :
    s.requestWrite f route index sub data none =
      ((s.heard f).command f route (256 * index + sub) (ObjType.value row.type data) data none).reply route 0 [] := by
  have hmirrors : (s.heard f).mirrors row = false := by rw [State.mirrors, hmirrored]; rfl
  rw [State.requestWrite, hserved, if_neg (by decide)]
  dsimp only
  rw [hjudge, hrow]
  dsimp only
  rw [hmirrors, Bool.false_and, Bool.false_and, Bool.false_and, if_neg (by decide), hnow, if_neg (by decide), State.commitWrite,
    if_pos haccess]

/-- A write that its entry's own rule refuses: the rule's effect, the record and the answer (R428). -/
theorem requestWrite_refused_by_rule {s : State} {f : Sender} {route : Route} {index sub : Nat} {data : List Nat} {img : Option DictImage}
    {abort : Nat} (hserved : s.dictServed = true)
    (hjudge : (s.heard f).judgeWrite f route index sub ((img.map (·.size)).getD data.length) data img = some ⟨abort, 8⟩) :
    s.requestWrite f route index sub data img =
      (((s.heard f).refusalEffect f (256 * index + sub) img).refuse f index sub ⟨abort, 8⟩).reply route abort [] := by
  have hrefused : (s.heard f).refuseWrite f route index sub ⟨abort, 8⟩ data img =
      (((s.heard f).refusalEffect f (256 * index + sub) img).refuse f index sub ⟨abort, 8⟩).reply route abort [] := by
    rw [State.refuseWrite, if_pos rfl]
  rw [← hrefused]
  cases img with
  | none =>
    have hlength : (s.heard f).judgeWrite f route index sub data.length data none = some ⟨abort, 8⟩ := hjudge
    rw [State.requestWrite, hserved, if_neg (by decide)]
    dsimp only
    rw [hlength]
  | some i =>
    have hlength : (s.heard f).judgeWrite f route index sub i.size data (some i) = some ⟨abort, 8⟩ := hjudge
    rw [State.requestWrite, hserved, if_neg (by decide)]
    dsimp only
    rw [hlength]

theorem bitOf_served {d : Nat} (hlo : 2 ≤ d) (hhi : d ≤ 6) : bitOf 124 d = true := by
  interval_cases d <;> decide

/-! ## Challenge and response -/

/-- The challenge that DEV_AUTH_REQ draws. -/
def drawn (s : State) (role : Nat) : Challenge :=
  { bytes := (Config.randomWord s.freeCtr).toNat, role := role, time := s.now, used := false }

/-- An accepted request for a role, by any transport (R425). -/
theorem requestWrite_authReq {s : State} {f : Sender} {route : Route} {role : Nat} (hroute : 1 ≤ transportMax route)
    (hserved : s.dictServed = true) (hsession : (s.session f).isSome = true) (hlocked : s.lockedOut f.channel = false) (hlo : 1 ≤ role)
    (hhi : role ≤ 3) :
    s.requestWrite f route 0x2010 1 [role] none = ((s.heard f).authRequest f role).reply route 0 [] := by
  obtain ⟨hstate2, hstate6⟩ := (served_iff s).1 hserved
  obtain ⟨row, hrow, htype, haccess, hstates, hmirrored, hrole, hrange⟩ : ∃ row, Obj.find? 0x2010 1 = some row ∧ row.type = .u8 ∧
      row.access = .wo ∧ row.states = 124 ∧ row.mirrored = false ∧ row.role = 0 ∧
      ∀ role : Nat, 1 ≤ role → role ≤ 3 →
        ObjType.value .u8 [role] = role ∧ ObjRow.masked row role = role ∧ ObjRow.inRange row role = true := by
    refine ⟨_, rfl, rfl, rfl, rfl, rfl, rfl, fun role hlo hhi => ?_⟩
    interval_cases role <;> decide
  obtain ⟨hvalue, hmasked, hinrange⟩ := hrange role hlo hhi
  have hcondition : (s.heard f).condition f Obj.DEV_AUTH_REQ role [role] none = none := by
    have hopen : ((s.heard f).session f).isSome = true := by rw [session_heard, Option.isSome_map, hsession]
    have hfree : (s.heard f).lockedOut f.channel = false := hlocked
    rw [State.condition, if_neg (by decide), if_pos rfl, hopen, hfree]
    rfl
  have hjudge : (s.heard f).judgeWrite f route 0x2010 1 [role].length [role] none = none := by
    show (s.heard f).judgeWrite f route 0x2010 1 1 [role] none = none
    rw [judgeWrite_of_row (row := row) rfl hrow (by rw [haccess]; decide) ?length hroute ?role hmirrored ?state ?value, htype, hvalue,
      hmasked]
    · exact hcondition
    · rw [lengthRefused, htype]
      rfl
    · rw [leastRole, if_neg (by decide), hrole]
      exact Nat.zero_le _
    · have hfields : (s.heard f).fieldStates row Obj.DEV_AUTH_REQ role = row.states := rfl
      rw [htype, hvalue]
      show (s.heard f).stateAllows row Obj.DEV_AUTH_REQ role = true
      rw [State.stateAllows, hfields, hstates]
      exact (Bool.and_true _).trans (bitOf_served hstate2 hstate6)
    · rw [htype, hvalue, hmasked, State.valueOk, hinrange]
      rfl
  have hcommand : (s.heard f).command f route Obj.DEV_AUTH_REQ role [role] none = (s.heard f).authRequest f role := by
    rw [State.command, if_neg (by decide), if_pos rfl, Int.toNat_natCast]
  rw [requestWrite_command hserved hrow haccess hmirrored hjudge rfl, htype, hvalue]
  exact congrArg (fun u : State => u.reply route 0 []) hcommand

/-- What a request for a role gives its session. -/
theorem authRequest_session (s : State) (f : Sender) (role : Nat) :
    ((s.heard f).authRequest f role).session f = (s.session f).map fun e =>
      { e with lastRequest := s.now, challenge := some (drawn s role), challengeGen := (e.challengeGen + 1) % 2 ^ 32 } := by
  have hdrawn : ((s.heard f).authRequest f role).session f = ((s.heard f).withSession f fun e =>
      { e with challenge := some (drawn s role), challengeGen := (e.challengeGen + 1) % 2 ^ 32 }).session f := rfl
  have hkeeps : KeepsOwner fun e =>
      { e with challenge := some (drawn s role), challengeGen := (e.challengeGen + 1) % 2 ^ 32 } := fun _ => ⟨rfl, rfl⟩
  rw [hdrawn, session_withSession _ f hkeeps, session_heard, Option.map_map]
  rfl

end Sys2Proof.Proofs
end

section
/-!
PROOF. Sessions gain and lose roles (R424 to R427).
-/

namespace Sys2Proof.Proofs

open Sys2Proof Sys2Proof.Machine

theorem roleOf_of_session {s : State} {f : Sender} {o : Option Session} (h : s.session f = o) : s.roleOf f = (o.map (·.role)).getD 0 := by
  rw [State.roleOf, h]

theorem keepsPending_refuse (s : State) (f : Sender) (index sub : Nat) (r : Refused) : KeepsPending s (s.refuse f index sub r) :=
  KeepsPending.trans (b := ((refusalNoted s f index sub r).bump Obj.DEV_REFUSAL_COUNT).count 0x15) (.of_icu rfl)
    ((keepsPending_raise _ 448).trans (keepsPending_journalFull _ _ _ _ _ _ _))

/-! ## Requests for a role -/

theorem bytes_role {role : Nat} (hlo : 1 ≤ role) (hhi : role ≤ 3) : ObjType.bytes .u8 role = [role] := by
  interval_cases role <;> decide

theorem writeEntry_authReq {s : State} {f : Sender} {role : Nat} (hserved : s.dictServed = true) (hsession : (s.session f).isSome = true)
    (hlocked : s.lockedOut f.channel = false) (hlo : 1 ≤ role) (hhi : role ≤ 3) :
    s.writeEntry f Obj.DEV_AUTH_REQ role = ((s.heard f).authRequest f role).emit .done := by
  have hrow : s.writeEntry f Obj.DEV_AUTH_REQ role = s.requestWrite f .plain 0x2010 1 (ObjType.bytes .u8 role) none := rfl
  rw [hrow, bytes_role hlo hhi, requestWrite_authReq (route := .plain) (by decide) hserved hsession hlocked hlo hhi]
  rfl

/-! ## Responses -/

theorem authOk_heard (s : State) (f : Sender) (data : List Nat) : (s.heard f).authOk f data = s.authOk f data := by
  have hchallenge : ((s.heard f).session f).bind (·.challenge) = (s.session f).bind (·.challenge) := by
    rw [session_heard]
    cases s.session f <;> rfl
  rw [State.authOk, State.authOk, hchallenge]
  rfl

/-- DEV_AUTH_RESPONSE takes 32 bytes from every sender, and R425 judges them. -/
theorem row_authResponse :
    ∃ row, Obj.find? 0x2010 3 = some row ∧ row.access = .wo ∧ row.mirrored = false ∧
      ∀ (s : State) (f : Sender) (data : List Nat), s.dictServed = true → data.length = 32 →
        s.judgeWrite f .plain 0x2010 3 32 data none = if s.authOk f data then none else some ⟨abState, 8⟩ := by
  obtain ⟨row, hrow, htype, haccess, hstates, hmirrored, hrole, hmask, hrange⟩ : ∃ row, Obj.find? 0x2010 3 = some row ∧
      row.type = .octetString 32 ∧ row.access = .wo ∧ row.states = 124 ∧ row.mirrored = false ∧ row.role = 0 ∧ row.mask = 0 ∧
      row.range = .any := ⟨_, rfl, rfl, rfl, rfl, rfl, rfl, rfl, rfl⟩
  refine ⟨row, hrow, haccess, hmirrored, fun s f data hserved hdata => ?_⟩
  obtain ⟨hstate2, hstate6⟩ := (served_iff s).1 hserved
  rw [judgeWrite_of_row (row := row) rfl hrow (by rw [haccess]; decide) ?length (by decide) ?role hmirrored ?state ?value]
  · rfl
  · rw [lengthRefused, htype]
    rfl
  · rw [leastRole, if_neg (by decide), hrole]
    exact Nat.zero_le _
  · generalize ObjType.value row.type data = v
    show s.stateAllows row Obj.DEV_AUTH_RESPONSE v = true
    have hfields : s.fieldStates row Obj.DEV_AUTH_RESPONSE v = row.states := rfl
    rw [State.stateAllows, hfields, hstates]
    exact (Bool.and_true _).trans (bitOf_served hstate2 hstate6)
  · generalize ObjRow.masked row (ObjType.value row.type data) = v
    rw [State.valueOk, ObjRow.inRange, hrange, htype]
    rfl

theorem response_granted {s : State} {f : Sender} {data : List Nat} (hserved : s.dictServed = true) (hdata : data.length = 32)
    (hok : s.authOk f data = true) :
    s.requestWrite f .plain 0x2010 3 data none = ((s.heard f).authGrant f).emit .done := by
  obtain ⟨row, hrow, haccess, hmirrored, hjudge⟩ := row_authResponse
  have hpasses : (s.heard f).judgeWrite f .plain 0x2010 3 data.length data none = none := by
    rw [hdata, hjudge (s.heard f) f data hserved hdata, authOk_heard, hok, if_pos rfl]
  rw [requestWrite_command hserved hrow haccess hmirrored hpasses rfl]
  rfl

theorem response_refused {s : State} {f : Sender} {data : List Nat} (hserved : s.dictServed = true) (hdata : data.length = 32)
    (hbad : s.authOk f data = false) :
    s.requestWrite f .plain 0x2010 3 data none =
      (((s.heard f).authFail f).refuse f 0x2010 3 ⟨abState, 8⟩).emit (.abort abState) := by
  obtain ⟨row, hrow, haccess, hmirrored, hjudge⟩ := row_authResponse
  have hrefused : (s.heard f).judgeWrite f .plain 0x2010 3 data.length data none = some ⟨abState, 8⟩ := by
    rw [hdata, hjudge (s.heard f) f data hserved hdata, authOk_heard, hbad]
    rfl
  rw [requestWrite_refused_by_rule (img := none) hserved hrefused]
  rfl

/-- A challenge is used up. -/
def usedUp (e : Session) : Session := { e with challenge := e.challenge.map fun c => { c with used := true } }

theorem keepsOwner_usedUp : KeepsOwner usedUp := fun _ => ⟨rfl, rfl⟩

/-- A failed response, logged. -/
def failLogged (s : State) (f : Sender) : State :=
  ((((s.withSession f usedUp).bump Obj.DEV_AUTH_FAIL_COUNT).count 0x1C).raise 450).journalFull 450 f.channel [] 0x1C false false

/-- The failures of the last 60 s, with the present one. -/
def recentFailures (s : State) (f : Sender) : List (Nat × Nat) :=
  (f.channel, s.now) :: s.dict.failures.filter fun e => decide (s.now < e.2 + 60000000000)

theorem keepsDict_failLogged (s : State) (f : Sender) : KeepsDict (s.withSession f usedUp) (failLogged s f) :=
  KeepsDict.trans (b := (((s.withSession f usedUp).bump Obj.DEV_AUTH_FAIL_COUNT).count 0x1C).raise 450) (.of_dict rfl)
    (keepsDict_journalFull _ _ _ _ _ _ _)

/-- The failure is remembered; the fifth of its channel within 60 s locks it out (R426). -/
theorem authFail_eq (s : State) (f : Sender) :
    s.authFail f =
      let s4 := (failLogged s f).withDict fun d => { d with failures := recentFailures s f }
      if 5 ≤ ((recentFailures s f).filter (·.1 = f.channel)).length && !s4.lockedOut f.channel then
        (s4.withDict fun d => { d with locked := f.channel :: d.locked }).raise 451
      else s4 := by
  have hfailures : (failLogged s f).dict.failures = s.dict.failures := (keepsDict_failLogged s f).failures
  rw [recentFailures, ← hfailures]
  rfl

theorem session_authFail (s : State) (f : Sender) : (s.authFail f).session f = (s.session f).map usedUp := by
  have hlogged : (failLogged s f).session f = (s.session f).map usedUp :=
    ((keepsDict_failLogged s f).session f).trans (session_withSession s f keepsOwner_usedUp)
  rw [authFail_eq]
  generalize failLogged s f = a at hlogged ⊢
  extract_lets s4
  split
  · exact hlogged
  · exact hlogged

theorem get_authFail (s : State) (f : Sender) {key : Nat} (hkey : isLogEntry key = false) :
    (s.authFail f).get key = if key = Obj.DEV_AUTH_FAIL_COUNT then min (s.get Obj.DEV_AUTH_FAIL_COUNT + 1) 0xFFFFFFFF else s.get key := by
  have hcounter : key ≠ Obj.LOG_CNT (0x1C - 1) := fun h => absurd (h ▸ hkey) (by decide)
  have hlogged : (failLogged s f).get key =
      if key = Obj.DEV_AUTH_FAIL_COUNT then min (s.get Obj.DEV_AUTH_FAIL_COUNT + 1) 0xFFFFFFFF else s.get key := by
    rw [failLogged, State.get_journalFull _ _ _ _ _ _ _ hkey, State.get_raise, State.get_count, if_neg hcounter, State.get_bump]
    rfl
  rw [authFail_eq, ← hlogged]
  generalize failLogged s f = a
  extract_lets s4
  split
  · rfl
  · rfl

theorem authFail_pending (s : State) (f : Sender) : (s.authFail f).sourcePending 450 := by
  have hlogged : (failLogged s f).sourcePending 450 :=
    sourcePending_kept (by decide) (sourcePending_raise _ 450) (keepsPending_journalFull _ _ _ _ _ _ _)
  rw [authFail_eq]
  generalize failLogged s f = a at hlogged ⊢
  extract_lets s4
  have hnoted : s4.sourcePending 450 := sourcePending_kept (by decide) hlogged (.of_icu rfl)
  split
  · exact sourcePending_kept (by decide) hnoted
      (KeepsPending.trans (b := s4.withDict fun d => { d with locked := f.channel :: d.locked }) (.of_icu rfl) (keepsPending_raise _ 451))
  · exact hnoted

theorem authFail_locks {s : State} {f : Sender}
    (h : 4 ≤ (s.dict.failures.filter fun e => e.1 = f.channel ∧ s.now < e.2 + 60000000000).length) :
    (s.authFail f).lockedOut f.channel = true := by
  have hfifth : 5 ≤ ((recentFailures s f).filter (·.1 = f.channel)).length := by
    have hsame : (s.dict.failures.filter fun e => decide (s.now < e.2 + 60000000000)).filter (fun e => decide (e.1 = f.channel)) =
        s.dict.failures.filter fun e => decide (e.1 = f.channel ∧ s.now < e.2 + 60000000000) := by
      rw [List.filter_filter]
      exact List.filter_congr fun e _ => by rw [Bool.decide_and]
    rw [recentFailures, List.filter_cons_of_pos (by exact decide_eq_true rfl), hsame, List.length_cons]
    omega
  rw [authFail_eq]
  generalize failLogged s f = a
  extract_lets s4
  split
  · exact decide_eq_true List.mem_cons_self
  next hnot =>
    cases hlocked : s4.lockedOut f.channel with
    | true => rfl
    | false => exact absurd (by rw [hlocked, decide_eq_true hfifth]; rfl) hnot

theorem authFail_frame (s : State) (f : Sender) :
    s.authFail f = { s with
      objs := (s.authFail f).objs, icu := (s.authFail f).icu, log := (s.authFail f).log, flash := (s.authFail f).flash
      dict := (s.authFail f).dict, out := (s.authFail f).out } := by
  have hlogged : failLogged s f = { s with
      objs := (failLogged s f).objs, icu := (failLogged s f).icu, log := (failLogged s f).log, flash := (failLogged s f).flash
      dict := (failLogged s f).dict, out := (failLogged s f).out } := by
    rw [failLogged, (State.logOnly_journalFull ..).2]
    rfl
  rw [authFail_eq]
  generalize failLogged s f = a at hlogged ⊢
  extract_lets s4
  have hnoted : s4 = { s with
      objs := s4.objs, icu := s4.icu, log := s4.log, flash := s4.flash, dict := s4.dict, out := s4.out } :=
    congrArg (fun a : State => a.withDict fun d => { d with failures := recentFailures s f }) hlogged
  split
  · exact congrArg (fun a : State => (a.withDict fun d => { d with locked := f.channel :: d.locked }).raise 451) hnoted
  · exact hnoted

/-! ## Logout, keys and lockouts -/

/-- DEV_AUTH_LOGOUT is open to every sender (R424). -/
theorem writeEntry_logout {s : State} {f : Sender} (hserved : s.dictServed = true) :
    s.writeEntry f Obj.DEV_AUTH_LOGOUT 1 = ((s.heard f).roleDrop f).emit .done := by
  obtain ⟨hstate2, hstate6⟩ := (served_iff s).1 hserved
  obtain ⟨row, hrow, htype, haccess, hstates, hmirrored, hrole, hvalue, hmasked, hrange⟩ : ∃ row, Obj.find? 0x2010 5 = some row ∧
      row.type = .bool ∧ row.access = .wo ∧ row.states = 124 ∧ row.mirrored = false ∧ row.role = 0 ∧ ObjType.value .bool [1] = 1 ∧
      ObjRow.masked row 1 = 1 ∧ ObjRow.inRange row 1 = true :=
    ⟨_, rfl, rfl, rfl, rfl, rfl, rfl, by decide, by decide, by decide⟩
  have hwrite : s.writeEntry f Obj.DEV_AUTH_LOGOUT 1 = s.requestWrite f .plain 0x2010 5 [1] none := rfl
  have hjudge : (s.heard f).judgeWrite f .plain 0x2010 5 [1].length [1] none = none := by
    show (s.heard f).judgeWrite f .plain 0x2010 5 1 [1] none = none
    rw [judgeWrite_of_row (row := row) rfl hrow (by rw [haccess]; decide) ?length (by decide) ?role hmirrored ?state ?value, htype, hvalue,
      hmasked]
    · rfl
    · rw [lengthRefused, htype]
      rfl
    · rw [leastRole, if_neg (by decide), hrole]
      exact Nat.zero_le _
    · rw [htype, hvalue]
      show (s.heard f).stateAllows row Obj.DEV_AUTH_LOGOUT 1 = true
      have hfields : (s.heard f).fieldStates row Obj.DEV_AUTH_LOGOUT 1 = row.states := rfl
      rw [State.stateAllows, hfields, hstates]
      exact (Bool.and_true _).trans (bitOf_served hstate2 hstate6)
    · rw [htype, hvalue, hmasked, State.valueOk, hrange]
      rfl
  rw [hwrite, requestWrite_command hserved hrow haccess hmirrored hjudge rfl, htype, hvalue]
  rfl

theorem roleOf_roleDrop (s : State) (f : Sender) : (s.roleDrop f).roleOf f = 0 := by
  have hsession : (s.roleDrop f).session f = (s.session f).map fun e => { e with role := 0 } :=
    session_withSession s f fun _ => ⟨rfl, rfl⟩
  rw [roleOf_of_session hsession]
  cases s.session f <;> rfl

/-- A role's key is written by the Service role in CONFIG (R427). -/
theorem requestWrite_key {s : State} {f : Sender} {role : Nat} {data : List Nat} (hstate : s.devState = stConfig)
    (hservice : s.roleOf f = 3) (hlo : 1 ≤ role) (hhi : role ≤ 3) (hdata : data.length = 32) :
    s.requestWrite f .plain 0x2011 role data none = ((s.heard f).keyWrite role data).emit .done := by
  have hserved : s.dictServed = true := (served_iff s).2 (by rw [hstate]; decide)
  obtain ⟨row, hrow, htype, haccess, hstates, hmirrored, hrole, hrange⟩ : ∃ row, Obj.find? 0x2011 role = some row ∧
      row.type = .octetString 32 ∧ row.access = .wo ∧ row.states = 4 ∧ row.mirrored = false ∧ row.role = 3 ∧ row.range = .any := by
    interval_cases role <;> exact ⟨_, rfl, rfl, rfl, rfl, rfl, rfl, rfl⟩
  have hjudge : (s.heard f).judgeWrite f .plain 0x2011 role data.length data none = none := by
    rw [hdata, judgeWrite_of_row (row := row) rfl hrow (by rw [haccess]; decide) ?length (by decide) ?role hmirrored ?state ?value]
    · generalize ObjRow.masked row (ObjType.value row.type data) = v
      interval_cases role <;> rfl
    · rw [lengthRefused, htype]
      rfl
    · rw [leastRole, if_neg (by simp only [Obj.DEV_STATE_REQ]; omega), hrole, roleOf_heard, hservice]
    · have hconfig : (s.heard f).devState = stConfig := hstate
      generalize ObjType.value row.type data = v
      have hfields : (s.heard f).fieldStates row (256 * 0x2011 + role) v = row.states := by
        interval_cases role <;> rfl
      have hidle : (s.heard f).entryBusy (256 * 0x2011 + role) v = false := by
        interval_cases role <;> rfl
      rw [State.stateAllows, hfields, hstates, hidle, hconfig]
      decide
    · generalize ObjRow.masked row (ObjType.value row.type data) = v
      rw [State.valueOk, ObjRow.inRange, hrange, htype]
      interval_cases role <;> rfl
  have hcommand (v : Int) : (s.heard f).command f .plain (256 * 0x2011 + role) v data none = (s.heard f).keyWrite role data := by
    interval_cases role <;> rfl
  have hnow (v : Int) : answersLater (256 * 0x2011 + role) v = false := by
    interval_cases role <;> rfl
  rw [requestWrite_command hserved hrow haccess hmirrored hjudge (hnow _), hcommand]
  rfl

/-! ## The obligation -/

/-- Settles O6: each clause is one change of the sender's session, with its record. -/
theorem sessionsGainAndLoseRoles : Obligations.SessionsGainAndLoseRoles := by
  intro s t f
  refine ⟨fun role hserved hsession hlocked hlo hhi => ?request, fun ch hserved hch hunused htime hkey => ?granted,
    fun data hserved hdata hsession hbad => ?failed, fun hserved => ?logout, fun e hsession hidle => ?idle, fun hover => ?lockout,
    fun role data hstate hrole hlo hhi hdata hkeys hflash => ?key⟩
  case request =>
    refine ⟨(s.land t).writeEntry f Obj.DEV_AUTH_REQ role, rfl, ?_⟩
    rw [writeEntry_authReq (s := s.land t) hserved hsession hlocked hlo hhi]
    have hdrawn := authRequest_session (s.land t) f role
    obtain ⟨e, hopen⟩ := Option.isSome_iff_exists.1 hsession
    have hlanded : (s.land t).session f = some e := hopen
    rw [hlanded] at hdrawn
    refine ⟨?_, ?_, ?_, getLast?_emit _ _, fun _ _ => rfl, rfl⟩
    · exact congrArg (fun o : Option Session => o.bind (·.challenge)) hdrawn
    · rw [hopen]
      exact congrArg (fun o : Option Session => o.map (·.challengeGen)) hdrawn
    · rw [roleOf_of_session hopen]
      exact (roleOf_of_session hdrawn).trans rfl
  case granted =>
    have hlanded : (s.land t).session f = s.session f := rfl
    have hok : (s.land t).authOk f ((s.land t).authExpected f ch) = true := by
      have hzero : (s.land t).keyZero ch.role = false := hkey
      rw [State.authOk, hlanded, hch]
      dsimp only
      rw [hunused, decide_eq_true htime, hzero, decide_eq_true rfl]
      rfl
    refine ⟨(s.land t).requestWrite f .plain 0x2010 3 ((s.land t).authExpected f ch) none, rfl, ?_⟩
    have hlength : ((s.land t).authExpected f ch).length = 32 := hmacSha256_length _ _
    rw [response_granted hserved hlength hok]
    obtain ⟨e, hopen, hchallenge⟩ := Option.bind_eq_some_iff.1 hch
    have hkeeps : KeepsOwner fun e : Session => { e with
        role := (e.challenge.map (·.role)).getD 0, challenge := e.challenge.map fun c => { c with used := true } } := fun _ => ⟨rfl, rfl⟩
    have hgranted : (((s.land t).heard f).authGrant f).session f = some { e with
        lastRequest := (s.land t).now, role := ch.role, challenge := some { ch with used := true } } := by
      have hgrant : (((s.land t).heard f).authGrant f).session f = (((s.land t).heard f).withSession f fun e => { e with
          role := (e.challenge.map (·.role)).getD 0, challenge := e.challenge.map fun c => { c with used := true } }).session f := rfl
      rw [hgrant, session_withSession _ f hkeeps, session_heard, hlanded, hopen]
      simp only [Option.map_some, hchallenge, Option.getD_some]
    refine ⟨roleOf_of_session hgranted, congrArg (fun o : Option Session => o.bind (·.challenge)) hgranted, ?_, getLast?_emit _ _,
      fun _ _ => rfl, rfl⟩
    exact sourcePending_kept (by decide) (sourcePending_raise (((s.land t).heard f).withSession f _) 449) (.of_icu rfl)
  case failed =>
    refine ⟨(s.land t).requestWrite f .plain 0x2010 3 data none, rfl, ?_⟩
    rw [response_refused hserved hdata hbad]
    have hfailed := session_authFail ((s.land t).heard f) f
    have hrefused := refuse_shows (((s.land t).heard f).authFail f) f 0x2010 3 ⟨abState, 8⟩
    have hdict := keepsDict_refuse (((s.land t).heard f).authFail f) f 0x2010 3 ⟨abState, 8⟩
    have hpending := authFail_pending ((s.land t).heard f) f
    have hget {key : Nat} (hkey : isLogEntry key = false) := get_authFail ((s.land t).heard f) f hkey
    have hframe := authFail_frame ((s.land t).heard f) f
    have hlocks := authFail_locks (s := (s.land t).heard f) (f := f)
    have hkeeps := keepsPending_refuse (((s.land t).heard f).authFail f) f 0x2010 3 ⟨abState, 8⟩
    generalize (((s.land t).heard f).authFail f).refuse f 0x2010 3 ⟨abState, 8⟩ = u at hrefused hdict hkeeps ⊢
    generalize ((s.land t).heard f).authFail f = a at hfailed hrefused hdict hpending hget hframe hlocks hkeeps
    have hsession' : (u.emit (.abort abState)).session f = (((s.land t).heard f).session f).map usedUp := (hdict.session f).trans hfailed
    rw [session_heard] at hsession'
    refine ⟨?_, ?_, ?_, ?_, hrefused.reason, getLast?_emit _ _, fun hfour => ?_, fun key hlog hout => ?_, ?_⟩
    · rw [roleOf_of_session hsession']
      show _ = (s.land t).roleOf f
      rw [State.roleOf]
      cases (s.land t).session f <;> rfl
    · rw [hsession']
      show _ = (((s.land t).session f).bind (·.challenge)).map _
      cases (s.land t).session f <;> rfl
    · rw [State.get_emit, hrefused.others _ (by decide) (by decide), hget (by decide), if_pos rfl]
      rfl
    · exact sourcePending_kept (by decide) hpending (hkeeps.trans (.of_icu rfl))
    · have hlocked := hlocks hfour
      rw [State.lockedOut, State.emit_dict, hdict.locked]
      exact hlocked
    · simp only [List.mem_cons, List.not_mem_nil, or_false, not_or] at hout
      obtain ⟨habort, hindex, hsub, hreason, hchannel, htime, hcount, hfail⟩ := hout
      have hrecord : key ∉ refusalKeys := by
        simp only [refusalKeys, List.mem_cons, List.not_mem_nil, or_false, not_or]
        exact ⟨habort, hindex, hsub, hreason, hchannel, htime, hcount⟩
      rw [State.get_emit, hrefused.others key hlog hrecord, hget hlog, if_neg hfail]
      rfl
    · rw [hframe] at hrefused
      exact congrArg (fun v : State => v.emit (.abort abState)) hrefused.frame
  case logout =>
    refine ⟨(s.land t).writeEntry f Obj.DEV_AUTH_LOGOUT 1, rfl, ?_⟩
    rw [writeEntry_logout hserved]
    exact ⟨roleOf_roleDrop _ f, getLast?_emit _ _, fun _ _ => rfl, rfl⟩
  case idle =>
    refine ⟨(s.land t).authIdle f, rfl, ?_⟩
    have hlanded : (s.land t).session f = some e := hsession
    have hdrop : (s.land t).authIdle f = (s.land t).roleDrop f := by
      rw [State.authIdle, hlanded]
      exact if_pos hidle
    rw [hdrop]
    exact ⟨roleOf_roleDrop _ f, fun _ _ => rfl, rfl⟩
  case lockout =>
    refine ⟨if (s.land t).lockoutOver f.channel then (s.land t).lockoutEnd f.channel else s.land t, rfl, ?_⟩
    rw [if_pos hover]
    refine ⟨?_, rfl, fun _ _ => rfl, rfl⟩
    exact decide_eq_false fun hmem => absurd (List.mem_filter.1 hmem).2 (by simp)
  case key =>
    refine ⟨(s.land t).requestWrite f .plain 0x2011 role data none, rfl, ?_⟩
    rw [requestWrite_key (s := s.land t) hstate hrole hlo hhi hdata]
    refine ⟨?_, ?_, fun e he => ?_, getLast?_emit _ _, fun _ _ => rfl, rfl⟩
    · have hslot : role - 1 < s.dict.keys.length := by rw [hkeys]; omega
      exact List.getElem?_set_self hslot
    · have hslot : role - 1 < s.flash.keys.length := by rw [hflash]; omega
      exact List.getElem?_set_self hslot
    · obtain ⟨e0, -, rfl⟩ := List.mem_map.1 he
      split
      · exact fun h => absurd h (by show (0 : Nat) ≠ role; omega)
      next hother => exact hother

end Sys2Proof.Proofs
end

section
/-!
PROOF. The CAN ports: NMT, heartbeat and bus-off (R436, R437).
-/

namespace Sys2Proof.Proofs

open Sys2Proof Sys2Proof.Machine

theorem canBusOff_cases {s : State} {port : Nat} (hport : port < 2) (hlo : 2 ≤ s.devState) (hhi : s.devState ≤ 6)
    (hheld : s.bit (Obj.CAN_STATUS port) 3 = false) :
    s.canBusOff port =
      if (s.dict.busOff.getD port none).any fun t => decide (s.now < t + 10000000000) then
        ((((s.setBit (Obj.CAN_STATUS port) 3 true).withDict fun d => { d with busOff := d.busOff.set port none }).setTransfer
          (canSender port) none).raise (460 + port)).siteOutcome 0x14 (460 + port) port [] true
      else (s.setBit (Obj.CAN_STATUS port) 2 true).withDict fun d => { d with busOff := d.busOff.set port (some s.now) } := by
  have hopen : (decide (2 ≤ port) || decide (s.devState < stConfig) || decide (s.devState = stLunar) ||
      s.bit (Obj.CAN_STATUS port) 3) = false := by
    rw [hheld, decide_eq_false (Nat.not_le.2 hport), decide_eq_false (Nat.not_lt.2 hlo), decide_eq_false (by simp only [stLunar]; omega)]
    rfl
  rw [State.canBusOff, hopen, if_neg (by decide)]

/-- A change of entries is seen outside the logbook as far as the logged change before it (R457). -/
theorem entriesBut_setBit (s : State) (key i : Nat) (on : Bool) : s.entriesBut (s.setBit key i on) [key] := fun other _ hout => by
  rw [State.get_setBit, if_neg (List.ne_of_not_mem_cons hout)]

/-- Settles O9: a port's frames and its bus-offs. -/
theorem canPorts : Obligations.CanPorts := by
  intro s t port hport
  refine ⟨fun hopen => ?nmt, fun hopen htime => ?heartbeat, fun hlo hhi hheld hslot hfirst => ?first,
    fun b hlo hhi hheld hslot hsecond => ?second, fun b hslot hquiet => ?quiet⟩
  case nmt =>
    refine ⟨(s.land t).canIgnored port, rfl, ?_⟩
    rw [State.canIgnored, if_pos (show (s.land t).canOpen port = true from hopen)]
    refine ⟨?_, fun key hkey => ?_, rfl⟩
    · rw [State.get_bump, if_pos rfl]
      rfl
    · rw [State.get_bump, if_neg (List.ne_of_not_mem_cons hkey)]
      rfl
  case heartbeat =>
    refine ⟨(s.land t).heartbeat port, rfl, ?_⟩
    rw [State.heartbeat, if_neg (by exact htime), State.canSend, if_pos (show (s.land t).canOpen port = true from hopen)]
    exact ⟨rfl, fun _ _ => rfl, rfl⟩
  case first =>
    refine ⟨(s.land t).canBusOff port, rfl, ?_⟩
    have hnot : ((s.land t).dict.busOff.getD port none).any (fun b => decide ((s.land t).now < b + 10000000000)) = false := hfirst
    rw [canBusOff_cases (s := s.land t) hport hlo hhi hheld, hnot, if_neg (by decide)]
    refine ⟨?_, ?_, fun key hkey => ?_, rfl⟩
    · show ((s.land t).setBit (Obj.CAN_STATUS port) 2 true).bit (Obj.CAN_STATUS port) 2 = true
      rw [State.bit_setBit, if_pos rfl, if_pos rfl]
    · obtain ⟨b, hb⟩ := Option.isSome_iff_exists.1 hslot
      obtain ⟨hlt, -⟩ := List.getElem?_eq_some_iff.1 hb
      exact List.getElem?_set_self hlt
    · show ((s.land t).setBit (Obj.CAN_STATUS port) 2 true).get key = s.get key
      rw [State.get_setBit, if_neg (List.ne_of_not_mem_cons hkey)]
      rfl
  case second =>
    refine ⟨(s.land t).canBusOff port, rfl, ?_⟩
    have hagain : ((s.land t).dict.busOff.getD port none).any (fun b => decide ((s.land t).now < b + 10000000000)) = true := by
      have hentry : (s.land t).dict.busOff.getD port none = some b := by
        rw [List.getD_eq_getElem?_getD]
        exact congrArg (fun o : Option (Option Nat) => o.getD none) hslot
      rw [hentry, Option.any_some]
      exact decide_eq_true hsecond
    rw [canBusOff_cases (s := s.land t) hport hlo hhi hheld, hagain, if_pos rfl]
    generalize hheldNow : (((s.land t).setBit (Obj.CAN_STATUS port) 3 true).withDict fun d =>
      { d with busOff := d.busOff.set port none }).setTransfer (canSender port) none = a
    have hlog := State.logOnly_siteOutcome (a.raise (460 + port)) 0x14 (460 + port) port [] true (by decide)
    have hget (key : Nat) : (a.raise (460 + port)).get key = ((s.land t).setBit (Obj.CAN_STATUS port) 3 true).get key := by
      rw [← hheldNow]
      rfl
    have hframe : a.raise (460 + port) = { s.land t with
        objs := (a.raise (460 + port)).objs, icu := (a.raise (460 + port)).icu, dict := (a.raise (460 + port)).dict } := by
      rw [← hheldNow]
      rfl
    have hshared : (460 + port) / 32 ≠ 5 := by omega
    have hstatus : isLogEntry (Obj.CAN_STATUS port) = false := isLogEntry_of_lt (by simp only [Obj.CAN_STATUS]; omega)
    refine ⟨?_, sourcePending_kept hshared (sourcePending_raise a _) (keepsPending_siteOutcome _ _ _ _ _ _), fun key hlogkey hkey => ?_, ?_⟩
    · rw [bit_congr (hlog.1 _ hstatus), bit_congr (hget _), State.bit_setBit, if_pos rfl, if_pos rfl]
    · rw [hlog.1 key hlogkey, hget, State.get_setBit, if_neg (List.ne_of_not_mem_cons hkey)]
      rfl
    · rw [hlog.2, hframe]
  case quiet =>
    have hentry : (s.land t).dict.busOff.getD port none = some b := by
      rw [List.getD_eq_getElem?_getD]
      exact congrArg (fun o : Option (Option Nat) => o.getD none) hslot
    have hover : (s.land t).busOffQuiet port = true := by
      rw [State.busOffQuiet, hentry, Option.any_some]
      exact decide_eq_true hquiet
    refine ⟨if (s.land t).busOffQuiet port then (s.land t).canQuiet port else s.land t, rfl, ?_⟩
    rw [if_pos hover, State.canQuiet, hentry]
    dsimp only
    generalize hcleared : (((s.land t).setBit (Obj.CAN_STATUS port) 2 false).withDict fun d =>
      { d with busOff := d.busOff.set port none }).bump (Obj.CAN_BUSOFF_COUNT port) = a
    have hlog := State.logOnly_siteOutcome a 0x14 (460 + port) port [] false (by decide)
    have hkept := keepsDict_siteOutcome a 0x14 (460 + port) port [] false
    have hother : Obj.CAN_BUSOFF_COUNT port ≠ Obj.CAN_STATUS port := by simp only [Obj.CAN_BUSOFF_COUNT, Obj.CAN_STATUS]; omega
    have hget (key : Nat) : a.get key = if key = Obj.CAN_BUSOFF_COUNT port then min (s.get (Obj.CAN_BUSOFF_COUNT port) + 1) 0xFFFFFFFF
        else ((s.land t).setBit (Obj.CAN_STATUS port) 2 false).get key := by
      have hcount : (((s.land t).setBit (Obj.CAN_STATUS port) 2 false).withDict fun d =>
          { d with busOff := d.busOff.set port none }).get (Obj.CAN_BUSOFF_COUNT port) = s.get (Obj.CAN_BUSOFF_COUNT port) := by
        show ((s.land t).setBit (Obj.CAN_STATUS port) 2 false).get _ = _
        rw [State.get_setBit, if_neg hother]
        rfl
      rw [← hcleared, State.get_bump, hcount]
      rfl
    have hframe : a = { s.land t with objs := a.objs, dict := a.dict } := by
      rw [← hcleared]
      rfl
    have hbusOff : a.dict.busOff = s.dict.busOff.set port none := by
      rw [← hcleared]
      rfl
    have hstatus : isLogEntry (Obj.CAN_STATUS port) = false := isLogEntry_of_lt (by simp only [Obj.CAN_STATUS]; omega)
    have hcountKey : isLogEntry (Obj.CAN_BUSOFF_COUNT port) = false := isLogEntry_of_lt (by simp only [Obj.CAN_BUSOFF_COUNT]; omega)
    refine ⟨?_, ?_, ?_, fun key hlogkey hkey => ?_, ?_⟩
    · rw [bit_congr (hlog.1 _ hstatus)]
      have hshown : a.get (Obj.CAN_STATUS port) = ((s.land t).setBit (Obj.CAN_STATUS port) 2 false).get (Obj.CAN_STATUS port) := by
        rw [hget, if_neg (Ne.symm hother)]
      rw [bit_congr hshown, State.bit_setBit, if_pos rfl, if_pos rfl]
    · obtain ⟨hlt, -⟩ := List.getElem?_eq_some_iff.1 hslot
      rw [hkept.busOff, hbusOff]
      exact List.getElem?_set_self hlt
    · rw [hlog.1 _ hcountKey, hget, if_pos rfl]
    · have hkeys := hkey
      simp only [List.mem_cons, List.not_mem_nil, or_false, not_or] at hkeys
      rw [hlog.1 key hlogkey, hget, if_neg hkeys.2, State.get_setBit, if_neg hkeys.1]
      rfl
    · rw [hlog.2, hframe]

end Sys2Proof.Proofs
end

section
/-!
PROOF. TDS sessions (R438 to R441).
-/

namespace Sys2Proof.Proofs

open Sys2Proof Sys2Proof.Machine

/-! ## Requests of a session -/

/-- A new request of a session on a serving port (R439, R441). -/
structure Takes (s : State) (t : Nat) (f : Sender) (seq : Nat) : Prop where
  served : s.tdsOpen f.channel = true
  session : (s.session f).isSome = true
  performed : ∀ act, (s.land t).tdsRequest f seq act = act (s.tdsHeard t f)

theorem takes_of_tdsTakes {s : State} {t : Nat} {f : Sender} {seq : Nat} (h : s.tdsTakes t f seq = true) : Takes s t f seq := by
  rw [State.tdsTakes, Bool.and_eq_true, Bool.and_eq_true] at h
  obtain ⟨⟨hopen, hawaited⟩, hsession⟩ := h
  cases hfound : (s.land t).session f with
  | none =>
    rw [hfound] at hsession
    nomatch hsession
  | some e =>
    rw [hfound, Bool.and_eq_true] at hsession
    obtain ⟨hnew, hstored⟩ := hsession
    have hunanswered : (e.answers.find? fun a => a.1 = seq) = none := by
      rw [List.find?_eq_none]
      intro a ha
      simpa using List.all_eq_true.1 hnew a ha
    have hbelow : (!(e.answers.map (·.1)).isEmpty && (e.answers.map (·.1)).all fun q => seq < q) = false := by
      rw [Bool.or_eq_true] at hstored
      rcases hstored with hempty | hlower
      · rw [List.isEmpty_iff.1 hempty]
        rfl
      · obtain ⟨a, ha, hlt⟩ := List.any_eq_true.1 hlower
        rw [Bool.and_eq_false_iff]
        refine .inr (List.all_eq_false.2 ⟨a.1, List.mem_map_of_mem ha, ?_⟩)
        have hless : a.1 < seq := of_decide_eq_true hlt
        exact fun hgreater => absurd (of_decide_eq_true hgreater) (Nat.not_lt.2 hless.le)
    refine ⟨hopen, ?_, fun act => ?_⟩
    · rw [show s.session f = some e from hfound]
      rfl
    · rw [State.tdsRequest, hopen, if_neg (by decide), hfound]
      dsimp only
      rw [hunanswered]
      dsimp only
      rw [hbelow, Bool.false_or, if_neg (by simpa using hawaited)]
      rfl

theorem session_tdsHeard (s : State) (t : Nat) (f : Sender) :
    (s.tdsHeard t f).session f =
      (s.session f).map fun e => { e with lastDatagram := (s.land t).now, lastRequest := (s.land t).now } :=
  session_withSession (s.land t) f fun _ => ⟨rfl, rfl⟩

/-! ## Sessions that open and close -/

/-- The store of an answer leaves whose the session is. -/
def answered (seq : Nat) (o : Out) (e : Session) : Session := { e with answers := ((seq, o) :: e.answers).take 16 }

theorem keepsOwner_answered (seq : Nat) (o : Out) : KeepsOwner (answered seq o) := fun _ => ⟨rfl, rfl⟩

theorem reply_tds (s : State) (f : Sender) (seq op abort : Nat) (data : List Nat) :
    s.reply (.tds f.channel f.session seq op) abort data =
      (s.withSession f (answered seq (.tds f.channel f.session op seq abort abort false data))).emit
        (.tds f.channel f.session op seq abort abort false data) := rfl

theorem session_replied (s : State) (f : Sender) (seq op abort : Nat) (data : List Nat) :
    (s.reply (.tds f.channel f.session seq op) abort data).session f =
      (s.session f).map (answered seq (.tds f.channel f.session op seq abort abort false data)) :=
  session_withSession s f (keepsOwner_answered _ _)

theorem getLast?_replied (s : State) (f : Sender) (seq op abort : Nat) (data : List Nat) :
    (s.reply (.tds f.channel f.session seq op) abort data).out.getLast? =
      some (.tds f.channel f.session op seq abort abort false data) := getLast?_emit _ _

/-- A session that is open closes: source 457, and the count of the open ones (R440). -/
theorem sessionClose_of_open {s : State} {f : Sender} (h : (s.session f).isSome = true) :
    s.sessionClose f =
      ((s.withDict fun d => { d with sessions := d.sessions.filter fun e => !Sender.owns f e }).sessionsShow).raise 457 := by
  rw [State.sessionClose, if_neg (by rw [Option.isNone_iff_eq_none]; exact Option.isSome_iff_ne_none.1 h)]

theorem sessionClose_shows {s : State} {f : Sender} (h : (s.session f).isSome = true) :
    (s.sessionClose f).session f = none ∧ (s.sessionClose f).sourcePending 457 ∧
      s.onlyEntries (s.sessionClose f) [Obj.TDS_SESSIONS_OPEN] ∧ (s.sessionClose f).out = s.out ∧
      s.sessionClose f = { s with
        objs := (s.sessionClose f).objs, dict := (s.sessionClose f).dict, icu := (s.sessionClose f).icu } := by
  rw [sessionClose_of_open h]
  refine ⟨?_, sourcePending_raise _ 457, fun key hkey => ?_, rfl, rfl⟩
  · show (s.dict.sessions.filter fun e => !Sender.owns f e).find? (Sender.owns f) = none
    rw [List.find?_eq_none]
    intro e he
    simpa using (List.mem_filter.1 he).2
  · rw [State.get_raise]
    exact State.get_put_ne _ _ (List.ne_of_not_mem_cons hkey)

/-- Closing a session leaves no session but those that were there and are another's. -/
theorem mem_sessions_sessionClose {s : State} {f : Sender} {e : Session} (h : e ∈ (s.sessionClose f).dict.sessions) :
    e ∈ s.dict.sessions ∧ Sender.owns f e = false := by
  cases hopen : s.session f with
  | none =>
    have hkept : s.sessionClose f = s := by rw [State.sessionClose, hopen]; rfl
    rw [hkept] at h
    exact ⟨h, by simpa using List.find?_eq_none.1 hopen e h⟩
  | some e0 =>
    rw [sessionClose_of_open (by rw [hopen]; rfl)] at h
    obtain ⟨hmem, hother⟩ := List.mem_filter.1 h
    exact ⟨hmem, by simpa using hother⟩

theorem mem_sessions_closeAll (channel : Nat) (l : List Session) (s : State) {e : Session}
    (h : e ∈ (l.foldl (fun s e => s.sessionClose ⟨channel, e.id⟩) s).dict.sessions) :
    e ∈ s.dict.sessions ∧ ∀ e0 ∈ l, Sender.owns ⟨channel, e0.id⟩ e = false := by
  induction l generalizing s with
  | nil => exact ⟨h, fun _ h0 => absurd h0 List.not_mem_nil⟩
  | cons e1 l ih =>
    obtain ⟨hmem, hothers⟩ := ih (s.sessionClose ⟨channel, e1.id⟩) h
    obtain ⟨hbefore, hother⟩ := mem_sessions_sessionClose hmem
    refine ⟨hbefore, fun e0 h0 => ?_⟩
    rcases List.mem_cons.1 h0 with rfl | h0
    · exact hother
    · exact hothers e0 h0

/-- After a port has closed no session of its channel is open (R440). -/
theorem portClose_empties (s : State) (channel : Nat) : ∀ e ∈ (s.portClose channel).dict.sessions, e.channel ≠ channel := by
  intro e he hchannel
  obtain ⟨hmem, hothers⟩ := mem_sessions_closeAll channel _ s he
  have hself := hothers e (List.mem_filter.2 ⟨hmem, decide_eq_true hchannel⟩)
  rw [Sender.owns, hchannel, decide_eq_true rfl, decide_eq_true rfl] at hself
  nomatch hself

/-- What closing sessions may touch. -/
structure SessionChange (s u : State) : Prop where
  others : s.onlyEntries u [Obj.TDS_SESSIONS_OPEN]
  pending : KeepsPending s u
  frame : u = { s with objs := u.objs, dict := u.dict, icu := u.icu }

theorem SessionChange.refl (s : State) : SessionChange s s := ⟨fun _ _ => rfl, .of_icu rfl, rfl⟩

theorem SessionChange.trans {a b c : State} (h : SessionChange a b) (g : SessionChange b c) : SessionChange a c := by
  refine ⟨fun key hkey => (g.others key hkey).trans (h.others key hkey), h.pending.trans g.pending, ?_⟩
  have hframe := g.frame
  rw [h.frame] at hframe
  exact hframe

theorem sessionChange_sessionClose (s : State) (f : Sender) : SessionChange s (s.sessionClose f) := by
  cases hopen : s.session f with
  | none =>
    have hkept : s.sessionClose f = s := by rw [State.sessionClose, hopen]; rfl
    rw [hkept]
    exact .refl s
  | some e0 =>
    obtain ⟨-, -, hothers, -, hframe⟩ := sessionClose_shows (s := s) (f := f) (by rw [hopen]; rfl)
    refine ⟨hothers, ?_, hframe⟩
    rw [sessionClose_of_open (by rw [hopen]; rfl)]
    exact KeepsPending.trans (b := (s.withDict fun d => { d with sessions := d.sessions.filter fun e => !Sender.owns f e }).sessionsShow)
      (.of_icu rfl) (keepsPending_raise _ 457)

theorem sessionChange_portClose (s : State) (channel : Nat) : SessionChange s (s.portClose channel) :=
  foldl_related SessionChange.refl SessionChange.trans _ (fun a e _ => sessionChange_sessionClose a ⟨channel, e.id⟩) s

/-! ## The obligation -/

/-- OPEN on a serving port with room (R440). -/
theorem tdsSessionOpen_of_room {s : State} {channel seq : Nat} (hopen : s.tdsOpen channel = true)
    (hroom : (s.dict.sessions.filter fun e => e.channel = 2 || e.channel = 3).length < 8) :
    s.tdsSessionOpen channel seq =
      (((s.usedFree.withDict fun d => { d with sessions := d.sessions ++ [Session.fresh channel s.tdsNewId s.now] }).sessionsShow).raise
        457).reply (.tds channel s.tdsNewId seq 0x01) 0 [] := by
  rw [State.tdsSessionOpen, hopen, if_neg (by decide), if_neg (Nat.not_le.2 hroom)]

theorem map_of_unowned {f : Sender} {l : List Session} (h : l.find? (Sender.owns f) = none) (g : Session → Session) :
    (l.map fun e => if Sender.owns f e then g e else e) = l := by
  refine (List.map_congr_left fun e he => ?_).trans (List.map_id l)
  exact if_neg (List.find?_eq_none.1 h e he)

/-- Settles O10: sessions open, answer and close. -/
theorem tdsSessions : Obligations.TdsSessions := by
  intro s t
  refine ⟨fun channel seq hopen hroom => ?opens, fun channel seq hopen hfull => ?full, fun f seq htakes => ?keepalive,
    fun f seq q e o hopen hsession hstored => ?again, fun f seq htakes => ?close, fun f e hport hsession hidle => ?idle,
    fun channel hopen => ?bad, fun port hport hserved hdown => ?up, fun port hport hserved hup => ?down,
    fun port target hport hopen htarget => ?arp, fun port target data hport hopen htarget => ?echo⟩
  case opens =>
    refine ⟨(s.land t).tdsSessionOpen channel seq, rfl, ?_⟩
    have hid : (s.land t).tdsNewId = s.tdsNewId := rfl
    rw [tdsSessionOpen_of_room (s := s.land t) hopen hroom, hid]
    refine ⟨?_, ?_, rfl, fun key hkey => ?_, rfl⟩
    · cases hfound : s.session ⟨channel, s.tdsNewId⟩ with
      | some e => exact .inr rfl
      | none =>
        refine .inl ?_
        have hold := map_of_unowned (f := ⟨channel, s.tdsNewId⟩) hfound
          (answered seq (.tds channel s.tdsNewId 0x01 seq 0 0 false []))
        have hmine : Sender.owns ⟨channel, s.tdsNewId⟩ (Session.fresh channel s.tdsNewId (s.land t).now) = true := by
          rw [Sender.owns, Bool.and_eq_true]
          exact ⟨decide_eq_true rfl, decide_eq_true rfl⟩
        show (s.dict.sessions ++ [Session.fresh channel s.tdsNewId (s.land t).now]).map (fun e =>
          if Sender.owns ⟨channel, s.tdsNewId⟩ e then answered seq (.tds channel s.tdsNewId 0x01 seq 0 0 false []) e else e) = _
        rw [List.map_append, hold, List.map_cons, List.map_nil, if_pos hmine]
        rfl
    · exact sourcePending_kept (by decide) (sourcePending_raise _ 457) (.of_icu rfl)
    · exact State.get_put_ne _ _ (List.ne_of_not_mem_cons hkey)
  case full =>
    refine ⟨(s.land t).tdsSessionOpen channel seq, rfl, ?_⟩
    have hlanded : (s.land t).tdsOpen channel = true := hopen
    rw [State.tdsSessionOpen, hlanded, if_neg (by decide), if_pos (by exact hfull)]
    exact ⟨rfl, fun _ _ => rfl, rfl⟩
  case keepalive =>
    refine ⟨(s.land t).tdsKeepalive f seq, rfl, ?_⟩
    rw [State.tdsKeepalive, (takes_of_tdsTakes htakes).performed]
    exact ⟨getLast?_replied _ _ _ _ _ _, fun _ _ => rfl, rfl⟩
  case again =>
    refine ⟨(s.land t).tdsKeepalive f seq, rfl, ?_⟩
    have hlanded : (s.land t).tdsOpen f.channel = true := hopen
    have hfound : (s.land t).session f = some e := hsession
    rw [State.tdsKeepalive, State.tdsRequest, hlanded, if_neg (by decide), hfound]
    dsimp only
    rw [hstored]
    refine ⟨rfl, ?_, fun key hkey => ?_, rfl⟩
    · rw [State.get_emit, State.get_bump, if_pos rfl]
      rfl
    · rw [State.get_emit, State.get_bump, if_neg (List.ne_of_not_mem_cons hkey)]
      rfl
  case close =>
    refine ⟨(s.land t).tdsClose f seq, rfl, ?_⟩
    have htaken := takes_of_tdsTakes htakes
    rw [State.tdsClose, htaken.performed]
    have hanswered : ((s.tdsHeard t f).reply (.tds f.channel f.session seq 0x02) 0 []).session f =
        ((s.tdsHeard t f).session f).map (answered seq (.tds f.channel f.session 0x02 seq 0 0 false [])) := session_replied _ _ _ _ _ _
    have hstill : (((s.tdsHeard t f).reply (.tds f.channel f.session seq 0x02) 0 []).session f).isSome = true := by
      rw [hanswered, session_tdsHeard, Option.isSome_map, Option.isSome_map, htaken.session]
    obtain ⟨hclosed, hpending, hothers, hout, hframe⟩ := sessionClose_shows hstill
    refine ⟨hclosed, ?_, hpending, hothers, ?_⟩
    · rw [hout]
      exact getLast?_replied _ _ _ _ _ _
    · rw [hframe]
      rfl
  case idle =>
    refine ⟨(s.land t).tdsIdle f, rfl, ?_⟩
    have hfound : (s.land t).session f = some e := hsession
    have hdue : ((decide (f.channel = 2) || decide (f.channel = 3)) &&
        decide (e.lastDatagram + 1000000000 * (s.land t).getN Obj.TDS_IDLE ≤ (s.land t).now)) = true := by
      rw [State.getN_land, Bool.and_eq_true, Bool.or_eq_true, decide_eq_true_iff, decide_eq_true_iff, decide_eq_true_iff]
      exact ⟨hport, hidle⟩
    rw [State.tdsIdle, hfound]
    dsimp only
    rw [if_pos hdue]
    obtain ⟨hclosed, hpending, hothers, -, hframe⟩ := sessionClose_shows (s := s.land t) (f := f) (by rw [hfound]; rfl)
    exact ⟨hclosed, hpending, hothers, hframe⟩
  case bad =>
    refine ⟨(s.land t).tdsBad channel, rfl, ?_⟩
    rw [State.tdsBad, if_pos (show (s.land t).tdsOpen channel = true from hopen)]
    refine ⟨?_, fun key hkey => ?_, rfl⟩
    · rw [State.get_bump, if_pos rfl]
      rfl
    · rw [State.get_bump, if_neg (List.ne_of_not_mem_cons hkey)]
      rfl
  case up =>
    refine ⟨(s.land t).ethLink port true, rfl, ?_⟩
    have hacts : (decide (2 ≤ port) || !(s.land t).dictServed || decide ((s.land t).bit (Obj.ETH_STATUS port) 0 = true)) = false := by
      rw [show (s.land t).dictServed = true from hserved, State.bit_land, hdown, decide_eq_false (Nat.not_le.2 hport)]
      rfl
    rw [State.ethLink, hacts, if_neg (by decide)]
    refine ⟨?_, sourcePending_raise _ _, fun key hkey => ?_, rfl⟩
    · show (((s.land t).setBit (Obj.ETH_STATUS port) 0 true).raise (462 + port)).bit (Obj.ETH_STATUS port) 0 = true
      rw [State.bit_raise, State.bit_setBit, if_pos rfl, if_pos rfl]
    · show (((s.land t).setBit (Obj.ETH_STATUS port) 0 true).raise (462 + port)).get key = s.get key
      rw [State.get_raise, State.get_setBit, if_neg (List.ne_of_not_mem_cons hkey)]
      rfl
  case down =>
    refine ⟨(s.land t).ethLink port false, rfl, ?_⟩
    have hacts : (decide (2 ≤ port) || !(s.land t).dictServed || decide ((s.land t).bit (Obj.ETH_STATUS port) 0 = false)) = false := by
      rw [show (s.land t).dictServed = true from hserved, State.bit_land, hup, decide_eq_false (Nat.not_le.2 hport)]
      rfl
    have hdowned : (s.land t).ethLink port false =
        ((((s.land t).setBit (Obj.ETH_STATUS port) 0 false).raise (462 + port)).bump
          (Obj.ETH_LINK_DOWN_COUNT port)).portClose (port + 2) := by
      rw [State.ethLink, hacts, if_neg (by decide)]
      rfl
    rw [hdowned]
    have hother : Obj.ETH_LINK_DOWN_COUNT port ≠ Obj.ETH_STATUS port := by simp only [Obj.ETH_LINK_DOWN_COUNT, Obj.ETH_STATUS]; omega
    have hget (key : Nat) : ((((s.land t).setBit (Obj.ETH_STATUS port) 0 false).raise (462 + port)).bump
        (Obj.ETH_LINK_DOWN_COUNT port)).get key = if key = Obj.ETH_LINK_DOWN_COUNT port then
          min (s.get (Obj.ETH_LINK_DOWN_COUNT port) + 1) 0xFFFFFFFF else ((s.land t).setBit (Obj.ETH_STATUS port) 0 false).get key := by
      have hcount : ((s.land t).setBit (Obj.ETH_STATUS port) 0 false).get (Obj.ETH_LINK_DOWN_COUNT port) =
          s.get (Obj.ETH_LINK_DOWN_COUNT port) := by
        rw [State.get_setBit, if_neg hother]
        rfl
      rw [State.get_bump, State.get_raise, State.get_raise, hcount]
    have hpending : ((((s.land t).setBit (Obj.ETH_STATUS port) 0 false).raise (462 + port)).bump
        (Obj.ETH_LINK_DOWN_COUNT port)).sourcePending (462 + port) :=
      sourcePending_kept (by omega) (sourcePending_raise ((s.land t).setBit (Obj.ETH_STATUS port) 0 false) (462 + port)) (.of_icu rfl)
    have hframe : (((s.land t).setBit (Obj.ETH_STATUS port) 0 false).raise (462 + port)).bump (Obj.ETH_LINK_DOWN_COUNT port) =
        { s.land t with
          objs := ((((s.land t).setBit (Obj.ETH_STATUS port) 0 false).raise (462 + port)).bump (Obj.ETH_LINK_DOWN_COUNT port)).objs
          icu := ((((s.land t).setBit (Obj.ETH_STATUS port) 0 false).raise (462 + port)).bump (Obj.ETH_LINK_DOWN_COUNT port)).icu } := rfl
    generalize (((s.land t).setBit (Obj.ETH_STATUS port) 0 false).raise (462 + port)).bump (Obj.ETH_LINK_DOWN_COUNT port) = a
      at hget hpending hframe ⊢
    have hclosed := sessionChange_portClose a (port + 2)
    have hstatus : Obj.ETH_STATUS port ∉ [Obj.TDS_SESSIONS_OPEN] := by
      simp only [List.mem_singleton, Obj.ETH_STATUS, Obj.TDS_SESSIONS_OPEN]
      omega
    have hcount : Obj.ETH_LINK_DOWN_COUNT port ∉ [Obj.TDS_SESSIONS_OPEN] := by
      simp only [List.mem_singleton, Obj.ETH_LINK_DOWN_COUNT, Obj.TDS_SESSIONS_OPEN]
      omega
    refine ⟨?_, ?_, portClose_empties a (port + 2), sourcePending_kept (by omega) hpending hclosed.pending, fun key hkey => ?_, ?_⟩
    · have hshown := hclosed.others _ hstatus
      rw [hget, if_neg (Ne.symm hother)] at hshown
      rw [bit_congr hshown, State.bit_setBit, if_pos rfl, if_pos rfl]
    · rw [hclosed.others _ hcount, hget, if_pos rfl]
    · simp only [List.mem_cons, List.not_mem_nil, or_false, not_or] at hkey
      obtain ⟨hnotStatus, hnotCount, hnotOpen⟩ := hkey
      rw [hclosed.others key (by simpa using hnotOpen), hget, if_neg hnotCount, State.get_setBit, if_neg hnotStatus]
      rfl
    · have hlast := hclosed.frame
      generalize a.portClose (port + 2) = u at hlast ⊢
      rw [hframe] at hlast
      exact hlast
  case arp =>
    refine ⟨if port < 2 then (s.land t).arp port target else s.land t, rfl, ?_⟩
    have hmine : ((s.land t).ethOpen port && decide ((s.land t).getN (Obj.ETH_IP port) = target)) = true := by
      rw [show (s.land t).ethOpen port = true from hopen, State.getN_land, htarget, decide_eq_true rfl]
      rfl
    rw [if_pos hport, State.arp, if_pos hmine]
    exact ⟨rfl, fun _ _ => rfl, rfl⟩
  case echo =>
    refine ⟨if port < 2 then (s.land t).icmp port target data else s.land t, rfl, ?_⟩
    have hmine : ((s.land t).ethOpen port && decide ((s.land t).getN (Obj.ETH_IP port) = target)) = true := by
      rw [show (s.land t).ethOpen port = true from hopen, State.getN_land, htarget, decide_eq_true rfl]
      rfl
    rw [if_pos hport, State.icmp, if_pos hmine]
    exact ⟨rfl, fun _ _ => rfl, rfl⟩

end Sys2Proof.Proofs
end

section
/-!
PROOF. The requests of a TDS session: READ, WRITE, READ_INDEX and DESCRIBE (R428, R432, R439, R441).
-/

namespace Sys2Proof.Proofs

open Sys2Proof Sys2Proof.Machine

theorem indexExists_of_find {index sub : Nat} {row : ObjRow} (h : Obj.find? index sub = some row) : Obj.indexExists index = true := by
  have hcovers := List.find?_some h
  simp only [Bool.and_eq_true] at hcovers
  exact List.any_eq_true.2 ⟨row, List.mem_of_find?_eq_some h, by rw [hcovers.1.1.1, hcovers.1.1.2]; rfl⟩

theorem ok_of_toOption {ε α : Type} {e : Except ε α} {a : α} (h : e.toOption = some a) : e = .ok a := by
  cases e with
  | error _ => nomatch h
  | ok b => exact congrArg Except.ok (Option.some.inj h)

/-- A read that is judged well is answered (R428). -/
theorem requestRead_of_ok {s : State} {f : Sender} {route : Route} {index sub most : Nat} {data : List Nat} (hserved : s.dictServed = true)
    (h : (s.heard f).judgeRead f index sub most = .ok data) :
    s.requestRead f route index sub most = ((s.heard f).readUses index).reply route 0 data := by
  rw [State.requestRead, hserved, if_neg (by decide)]
  dsimp only
  rw [h]

theorem requestRead_of_error {s : State} {f : Sender} {route : Route} {index sub most : Nat} {r : Refused} (hserved : s.dictServed = true)
    (h : (s.heard f).judgeRead f index sub most = .error r) :
    s.requestRead f route index sub most = ((s.heard f).refuse f index sub r).reply route r.abort [] := by
  rw [State.requestRead, hserved, if_neg (by decide)]
  dsimp only
  rw [h]

/-- A write that steps 1 to 4 refuse is recorded and answered, by any transport. -/
theorem requestWrite_refused_early {s : State} {f : Sender} {route : Route} {index sub : Nat} {data : List Nat} {img : Option DictImage}
    {r : Refused} (hserved : s.dictServed = true) (hreason : r.reason ≠ 8) (habort : r.abort ≠ abState)
    (hjudge : ∀ length, (s.heard f).judgeWrite f route index sub length data img = some r) :
    s.requestWrite f route index sub data img = ((s.heard f).refuse f index sub r).reply route r.abort [] := by
  have hrefused : (s.heard f).refuseWrite f route index sub r data img = ((s.heard f).refuse f index sub r).reply route r.abort [] := by
    rw [State.refuseWrite, if_neg hreason, decide_eq_false habort, Bool.false_and, if_neg (by decide)]
  rw [← hrefused, State.requestWrite.eq_def, hserved, if_neg (by decide)]
  dsimp only
  rw [hjudge]

theorem judgeWrite_readOnly {s : State} {f : Sender} {route : Route} {index sub length : Nat} {data : List Nat} {img : Option DictImage}
    (h : (Obj.find? index sub).map (·.access) = some .ro) :
    s.judgeWrite f route index sub length data img = some ⟨abWriteRo, 2⟩ := by
  obtain ⟨row, hrow, hro⟩ := Option.map_eq_some_iff.1 h
  rw [State.judgeWrite, indexExists_of_find hrow, if_neg (by decide), hrow]
  dsimp only
  rw [if_pos hro]

/-- A refusal shows behind its TDS answer too. -/
theorem RefusalShown.replied {s u : State} {f g : Sender} {index sub seq op abort : Nat} {r : Refused} {data : List Nat}
    (h : RefusalShown s u f index sub r) : RefusalShown s (u.reply (.tds g.channel g.session seq op) abort data) f index sub r := by
  refine { h with frame := ?_ }
  have hframe := h.frame
  generalize hu : u.reply (.tds g.channel g.session seq op) abort data = v
  have hv : v = { u with dict := v.dict, out := v.out } := by rw [← hu, reply_tds]; rfl
  rw [hframe] at hv
  rw [hv]

/-- What a TDS request that is refused shows, in the state that has heard it. -/
theorem refusedTds_shows {s : State} {t seq op index sub : Nat} {f : Sender} {r : Refused} (a : State)
    (ha : a = { s.land t with dict := a.dict }) {u : State}
    (hu : u = (a.refuse f index sub r).reply (.tds f.channel f.session seq op) r.abort []) :
    RefusalShown (s.land t) u f index sub r ∧ u.out.getLast? = some (.tds f.channel f.session op seq r.abort r.abort false []) := by
  have hshown := refuse_shows a f index sub r
  rw [ha] at hshown
  subst hu
  rw [ha]
  exact ⟨hshown.of_dict.replied, getLast?_replied _ _ _ _ _ _⟩

theorem served_of_tdsOpen {s : State} {channel : Nat} (h : s.tdsOpen channel = true) : s.dictServed = true := by
  simp only [State.tdsOpen, Bool.and_eq_true] at h
  exact h.1.1.1.2

/-- Settles O11: each request is performed in the state that has heard it, and answered there. -/
theorem tdsRequests : Obligations.TdsRequests := by
  intro s t f seq htakes
  obtain ⟨hopen, hsession, hperformed⟩ := takes_of_tdsTakes htakes
  have hserved : (s.tdsHeard t f).dictServed = true := served_of_tdsOpen hopen
  have hheard : (s.tdsHeard t f).heard f = { s.land t with dict := ((s.tdsHeard t f).heard f).dict } := rfl
  have htaken : s.tdsHeard t f = { s.land t with dict := (s.tdsHeard t f).dict } := rfl
  refine ⟨fun index sub data hread => ?read, fun index sub hnone => ?unread, fun role img hlo hhi hlocked => ?role,
    fun index sub data img hro => ?readOnly, fun index data hindex hdata hshort => ?index, fun index hnone => ?noIndex,
    fun index sub hindex hnone => ?noEntry, fun index sub role st ty hrow => ?describe⟩
  case read =>
    refine ⟨(s.land t).tdsRead f seq index sub, rfl, ?_⟩
    rw [State.tdsRead, hperformed, requestRead_of_ok hserved (ok_of_toOption hread)]
    refine ⟨getLast?_replied _ _ _ _ _ _, fun key _ => ?_, ?_⟩
    · rw [State.readUses]
      split <;> rfl
    · rw [State.readUses]
      split <;> rfl
  case unread =>
    refine ⟨(s.land t).tdsRead f seq index sub, rfl, ?_⟩
    have hrefused : ((s.tdsHeard t f).heard f).judgeRead f index sub 1408 = .error ⟨abNoObject, 1⟩ := by
      rw [State.judgeRead, hnone, if_pos (by rfl)]
    have hu : (s.land t).tdsRead f seq index sub = _ :=
      (hperformed _).trans (requestRead_of_error (route := .tds f.channel f.session seq 0x10) hserved hrefused)
    obtain ⟨hshown, hout⟩ := refusedTds_shows _ hheard hu
    exact ⟨hout, hshown.abort, hshown.index, hshown.reason, hshown.others, hshown.frame⟩
  case role =>
    refine ⟨(s.land t).tdsWrite f seq 0x2010 1 [role] img, rfl, ?_⟩
    have himage : imageOf (256 * 0x2010 + 1) [role].length img = none := rfl
    have hsome : ((s.tdsHeard t f).session f).isSome = true := by rw [session_tdsHeard, Option.isSome_map, hsession]
    rw [State.tdsWrite, hperformed, himage,
      requestWrite_authReq (s := s.tdsHeard t f) (by show 1 ≤ 268435456; decide) hserved hsome hlocked hlo hhi]
    refine ⟨getLast?_replied _ _ _ _ _ _, ?_, fun _ _ => rfl, rfl⟩
    rw [session_replied, authRequest_session]
    obtain ⟨e, he⟩ := Option.isSome_iff_exists.1 hsome
    rw [he]
    rfl
  case readOnly =>
    refine ⟨(s.land t).tdsWrite f seq index sub data img, rfl, ?_⟩
    have hu : (s.land t).tdsWrite f seq index sub data img = _ :=
      (hperformed _).trans (requestWrite_refused_early (route := .tds f.channel f.session seq 0x11) (r := ⟨abWriteRo, 2⟩) hserved
        (by decide) (by decide) fun _ => judgeWrite_readOnly hro)
    obtain ⟨hshown, hout⟩ := refusedTds_shows _ hheard hu
    exact ⟨hout, hshown.reason, hshown.others, hshown.frame⟩
  case index =>
    refine ⟨(s.land t).tdsReadIndex f seq index, rfl, ?_⟩
    rw [State.tdsReadIndex, hperformed, hindex]
    dsimp only
    rw [← hdata, Bool.not_true, if_neg (by decide), if_neg (Nat.not_lt.2 hshort)]
    refine ⟨getLast?_replied _ _ _ _ _ _, fun key _ => ?_, ?_⟩
    · rw [State.readUses]
      split <;> rfl
    · rw [State.readUses]
      split <;> rfl
  case noIndex =>
    refine ⟨(s.land t).tdsReadIndex f seq index, rfl, ?_⟩
    have hu : (s.land t).tdsReadIndex f seq index =
        ((s.tdsHeard t f).refuse f index 0 ⟨abNoObject, 1⟩).reply (.tds f.channel f.session seq 0x12) abNoObject [] := by
      rw [State.tdsReadIndex, hperformed, hnone]
      rfl
    obtain ⟨hshown, hout⟩ := refusedTds_shows (r := ⟨abNoObject, 1⟩) _ htaken hu
    exact ⟨hout, hshown.others, hshown.frame⟩
  case noEntry =>
    refine ⟨(s.land t).tdsDescribe f seq index sub, rfl, ?_⟩
    have hu : (s.land t).tdsDescribe f seq index sub =
        ((s.tdsHeard t f).refuse f index sub ⟨abNoSub, 1⟩).reply (.tds f.channel f.session seq 0x13) abNoSub [] := by
      rw [State.tdsDescribe, hperformed, hindex, Option.isNone_iff_eq_none.1 hnone]
      rfl
    obtain ⟨hshown, hout⟩ := refusedTds_shows (r := ⟨abNoSub, 1⟩) _ htaken hu
    exact ⟨hout, hshown.others, hshown.frame⟩
  case describe =>
    refine ⟨(s.land t).tdsDescribe f seq index sub, rfl, ?_⟩
    obtain ⟨row, hfind, hcolumns⟩ := Option.map_eq_some_iff.1 hrow
    simp only [Prod.mk.injEq] at hcolumns
    obtain ⟨rfl, rfl, rfl⟩ := hcolumns
    rw [State.tdsDescribe, hperformed, indexExists_of_find hfind, hfind]
    dsimp only
    rw [Bool.not_true, if_neg (by decide)]
    refine ⟨?_, fun _ _ => rfl, rfl⟩
    rw [getLast?_replied]
    rfl

end Sys2Proof.Proofs
end

section
/-!
PROOF. Bulk transfers of TDS (R442, R443).
-/

namespace Sys2Proof.Proofs

open Sys2Proof Sys2Proof.Machine

/-! ## The transfer of a session -/

theorem keepsOwner_transfer (tr : Option Transfer) : KeepsOwner fun e => { e with transfer := tr } := fun _ => ⟨rfl, rfl⟩

theorem session_setTransfer (s : State) (f : Sender) (tr : Option Transfer) :
    (s.setTransfer f tr).session f = (s.session f).map fun e => { e with transfer := tr } :=
  session_withSession s f (keepsOwner_transfer tr)

theorem transferOf_setTransfer {s : State} {f : Sender} (h : (s.session f).isSome = true) (tr : Option Transfer) :
    (s.setTransfer f tr).transferOf f = tr := by
  obtain ⟨e, he⟩ := Option.isSome_iff_exists.1 h
  rw [State.transferOf, session_setTransfer, he]
  rfl

theorem transferOf_setTransfer_none (s : State) (f : Sender) : (s.setTransfer f none).transferOf f = none := by
  rw [State.transferOf, session_setTransfer]
  cases s.session f <;> rfl

/-- What keeps a session's transfer. -/
theorem transferOf_withSession (s : State) (f : Sender) {g : Session → Session} (hg : KeepsOwner g)
    (htransfer : ∀ e, (g e).transfer = e.transfer) :
    (s.withSession f g).transferOf f = s.transferOf f := by
  rw [State.transferOf, session_withSession s f hg, State.transferOf]
  cases s.session f with
  | none => rfl
  | some e => exact htransfer e

theorem transferOf_replied (s : State) (f : Sender) (seq op abort : Nat) (data : List Nat) :
    (s.reply (.tds f.channel f.session seq op) abort data).transferOf f = s.transferOf f :=
  transferOf_withSession s f (keepsOwner_answered _ _) fun _ => rfl

theorem transferOf_tdsHeard (s : State) (t : Nat) (f : Sender) : (s.tdsHeard t f).transferOf f = s.transferOf f :=
  transferOf_withSession (s.land t) f (fun _ => ⟨rfl, rfl⟩) fun _ => rfl

/-- Hearing a request does not change how many bulk transfers are open. -/
theorem bulkOpen_tdsHeard (s : State) (t : Nat) (f : Sender) : (s.tdsHeard t f).bulkOpen = s.bulkOpen := by
  show ((s.dict.sessions.map fun e => if Sender.owns f e then
    { e with lastDatagram := (s.land t).now, lastRequest := (s.land t).now } else e).filter fun e =>
      (decide (e.channel = 2) || decide (e.channel = 3)) && e.transfer.isSome).length = _
  rw [List.filter_map, List.length_map, State.bulkOpen]
  refine congrArg List.length (List.filter_congr fun e _ => ?_)
  show (fun e : Session => (decide (e.channel = 2) || decide (e.channel = 3)) && e.transfer.isSome) (if Sender.owns f e then _ else e) = _
  split <;> rfl

/-! ## Chunks -/

/-- Sending chunks emits them, and nothing else. -/
theorem emitAll_frame {α : Type} (g : α → Out) (l : List α) (s : State) :
    l.foldl (fun s c => s.emit (g c)) s = { s with out := s.out ++ l.map g } := by
  induction l generalizing s with
  | nil => rw [List.map_nil, List.append_nil]; rfl
  | cons c l ih =>
    rw [List.foldl_cons, ih, List.map_cons]
    show ({ s with out := (s.out ++ [g c]) ++ l.map g } : State) = _
    rw [List.append_assoc]
    rfl

/-- The datagram of a chunk (R442). -/
def chunkOf (f : Sender) (tr : Transfer) (c : Nat) : Out :=
  .tds f.channel f.session 0x21 tr.seq 0 c (decide (c + 1 = chunksOf tr.total)) ((tr.data.drop (1408 * c)).take 1408)

theorem sendChunks_frame (s : State) (f : Sender) (tr : Transfer) (lo hi : Nat) :
    s.sendChunks f tr lo hi = { s with out := s.out ++ ((List.range (hi - lo)).map (lo + ·)).map (chunkOf f tr) } :=
  emitAll_frame (chunkOf f tr) _ s

/-- An upload with chunks to come sends what its window allows (R442). -/
theorem bulkPump_sends {s : State} {f : Sender} {tr : Transfer} (htransfer : s.transferOf f = some tr)
    (hopen : tr.acked < chunksOf tr.total) :
    s.bulkPump f = (s.sendChunks f tr tr.next (max tr.next (min (tr.acked + tr.window) (chunksOf tr.total)))).setTransfer f
      (some { tr with next := max tr.next (min (tr.acked + tr.window) (chunksOf tr.total)) }) := by
  rw [State.bulkPump, htransfer]
  dsimp only
  rw [if_neg (Nat.not_le.2 hopen)]

theorem bulkPump_ends {s : State} {f : Sender} {tr : Transfer} (htransfer : s.transferOf f = some tr)
    (hall : chunksOf tr.total ≤ tr.acked) :
    s.bulkPump f = (s.setTransfer f none).raise 458 := by
  rw [State.bulkPump, htransfer]
  dsimp only
  rw [if_pos hall]

theorem chunksOf_pos {n : Nat} (h : n ≠ 0) : 0 < chunksOf n := by
  rw [chunksOf]
  omega

/-- The session of a sender survives the emission of chunks. -/
theorem isSome_of_transferOf {s : State} {f : Sender} {tr : Transfer} (h : s.transferOf f = some tr) : (s.session f).isSome = true := by
  obtain ⟨e, he, -⟩ := Option.bind_eq_some_iff.1 h
  rw [he]
  rfl

theorem readUses_frame (s : State) (index : Nat) : ∃ n, s.readUses index = { s with freeCtr := n } := by
  by_cases h : index = 0x2A1E
  · exact ⟨s.freeCtr + 1, if_pos h⟩
  · exact ⟨s.freeCtr, if_neg h⟩

/-! ## The obligation -/

/-- UP_START answers, and sends the first window (R442). -/
theorem tdsUpStart_sends {s : State} {t seq index sub window : Nat} {f : Sender} {data : List Nat} (htakes : Takes s t f seq)
    (hread : (s.tdsHeard t f).judgeRead f index sub (2 ^ 64) = .ok data) (hfree : s.transferOf f = none) (hroom : s.bulkOpen < 4)
    (hlo : 1 ≤ window) (hhi : window ≤ 64) :
    (s.land t).tdsUpStart f seq index sub 0 window =
      let tr := (s.tdsHeard t f).uploadOf (256 * index + sub) seq window 0 data
      ((((s.tdsHeard t f).readUses index).setTransfer f (some tr)).reply (.tds f.channel f.session seq 0x20) 0
        (bytesOf tr.total 8 ++ bytesOf tr.crc 4 ++ bytesOf tr.generation 4 ++ bytesOf (chunksOf tr.total) 4 ++
          bytesOf 0 4)).bulkPump f := by
  have hroomy : (s.tdsHeard t f).bulkRoom f = true := by
    rw [State.bulkRoom, transferOf_tdsHeard, hfree, bulkOpen_tdsHeard, decide_eq_true hroom]
    rfl
  have hwindow : ¬ (decide (window < 1) || decide (64 < window)) = true := by
    rw [Bool.or_eq_true, decide_eq_true_iff, decide_eq_true_iff]
    omega
  rw [State.tdsUpStart, htakes.performed, hread]
  dsimp only
  rw [hroomy, Bool.not_true, if_neg (by decide), if_neg hwindow, Nat.zero_min]

/-- Settles O12: a transfer is opened, moved and ended in the session that has heard the request. -/
theorem tdsBulkTransfers : Obligations.TdsBulkTransfers := by
  intro s t f seq
  have hheard (htakes : Takes s t f seq) : ((s.tdsHeard t f).session f).isSome = true := by
    rw [session_tdsHeard, Option.isSome_map, htakes.session]
  refine ⟨fun index sub first window data htakes hread hfree hroom hlo hhi hdata hfirst => ?upStart,
    fun next tr htakes htransfer hup hresent hacked hnext hmore => ?upAck,
    fun next tr htakes htransfer hup hresent hacked hnext hall => ?upDone, fun tr hport htransfer hup hacked hresent => ?resend,
    fun tr hport htransfer hup hacked hresent => ?fails, fun index sub length crc window htakes hjudge hfree hroom hlo hhi => ?downStart,
    fun chunk data tr htakes htransfer hdown => ?downData, fun img tr htakes htransfer hdown hbad => ?downBad,
    fun q role img htakes htransfer hlo hhi hlocked => ?downEnd, fun htakes => ?cancel⟩
  case upStart =>
    refine ⟨(s.land t).tdsUpStart f seq index sub first window, rfl, ?_⟩
    have htaken := takes_of_tdsTakes htakes
    subst hfirst
    rw [tdsUpStart_sends htaken (ok_of_toOption hread) hfree hroom hlo hhi]
    extract_lets tr
    obtain ⟨n, huses⟩ := readUses_frame (s.tdsHeard t f) index
    have hsome : (({ s.tdsHeard t f with freeCtr := n } : State).session f).isSome = true := hheard htaken
    have htransfer : ((({ s.tdsHeard t f with freeCtr := n } : State).setTransfer f (some tr)).reply
        (.tds f.channel f.session seq 0x20) 0 (bytesOf tr.total 8 ++ bytesOf tr.crc 4 ++ bytesOf tr.generation 4 ++
          bytesOf (chunksOf tr.total) 4 ++ bytesOf 0 4)).transferOf f = some tr :=
      (transferOf_replied _ _ _ _ _ _).trans (transferOf_setTransfer hsome _)
    have hchunks : tr.acked < chunksOf tr.total := chunksOf_pos fun hzero => hdata (List.length_eq_zero_iff.1 hzero)
    have hmore : max tr.next (min (tr.acked + tr.window) (chunksOf tr.total)) = min window (chunksOf data.length) := by
      show max 0 (min (0 + window) (chunksOf data.length)) = _
      rw [Nat.zero_max, Nat.zero_add]
    rw [huses, bulkPump_sends htransfer hchunks, hmore, sendChunks_frame]
    have hstill := transferOf_setTransfer (isSome_of_transferOf htransfer) (some { tr with next := min window (chunksOf data.length) })
    refine ⟨?_, ?_, rfl, fun _ _ => rfl, rfl⟩
    · exact congrArg (Option.map fun tr : Transfer => (tr.upload, tr.key, tr.data)) hstill
    · exact congrArg (Option.map fun tr : Transfer => [tr.total, tr.window, tr.next, tr.acked]) hstill
  case upAck =>
    refine ⟨(s.land t).tdsUpAck f seq next, rfl, ?_⟩
    have htaken := takes_of_tdsTakes htakes
    have hacks : ¬ (!tr.upload || decide (next ≤ tr.acked) || decide (tr.next < next)) = true := by
      rw [hup, decide_eq_false (Nat.not_le.2 hacked), decide_eq_false (Nat.not_lt.2 hnext)]
      decide
    have hmoved := transferOf_setTransfer (hheard htaken) (some { tr with acked := next, resent := false })
    rw [State.tdsUpAck, htaken.performed, transferOf_tdsHeard, htransfer]
    dsimp only
    rw [if_neg hacks, hresent, if_neg (by decide), bulkPump_sends hmoved hmore, sendChunks_frame]
    have hstill := transferOf_setTransfer (isSome_of_transferOf hmoved)
      (some { tr with acked := next, resent := false, next := max tr.next (min (next + tr.window) (chunksOf tr.total)) })
    exact ⟨congrArg (Option.map fun tr : Transfer => (tr.acked, tr.next)) hstill, fun _ _ => rfl, rfl⟩
  case upDone =>
    refine ⟨(s.land t).tdsUpAck f seq next, rfl, ?_⟩
    have htaken := takes_of_tdsTakes htakes
    have hacks : ¬ (!tr.upload || decide (next ≤ tr.acked) || decide (tr.next < next)) = true := by
      rw [hup, decide_eq_false (Nat.not_le.2 hacked), decide_eq_false (Nat.not_lt.2 hnext)]
      decide
    have hmoved := transferOf_setTransfer (hheard htaken) (some { tr with acked := next, resent := false })
    rw [State.tdsUpAck, htaken.performed, transferOf_tdsHeard, htransfer]
    dsimp only
    rw [if_neg hacks, hresent, if_neg (by decide), bulkPump_ends hmoved hall]
    exact ⟨transferOf_setTransfer_none _ f, sourcePending_raise _ 458, fun _ _ => rfl, rfl⟩
  case resend =>
    refine ⟨if f.channel = 2 || f.channel = 3 then (s.land t).tdsChunkTimeout f else s.land t, rfl, ?_⟩
    have htds : (decide (f.channel = 2) || decide (f.channel = 3)) = true := by
      rw [Bool.or_eq_true, decide_eq_true_iff, decide_eq_true_iff]
      exact hport
    have hlanded : (s.land t).transferOf f = some tr := htransfer
    have hwaits : ¬ (!tr.upload || decide (tr.next ≤ tr.acked)) = true := by
      rw [hup, decide_eq_false (Nat.not_le.2 hacked)]
      decide
    rw [if_pos htds, State.tdsChunkTimeout, hlanded]
    dsimp only
    rw [if_neg hwaits, if_neg (Nat.not_lt.2 hresent), sendChunks_frame]
    refine ⟨transferOf_setTransfer (isSome_of_transferOf hlanded) _, ?_, fun _ _ => rfl, rfl⟩
    show ([] ++ ((List.range (tr.next - tr.acked)).map (tr.acked + ·)).map (chunkOf f tr)).length = _
    rw [List.nil_append, List.length_map, List.length_map, List.length_range]
  case fails =>
    refine ⟨if f.channel = 2 || f.channel = 3 then (s.land t).tdsChunkTimeout f else s.land t, rfl, ?_⟩
    have htds : (decide (f.channel = 2) || decide (f.channel = 3)) = true := by
      rw [Bool.or_eq_true, decide_eq_true_iff, decide_eq_true_iff]
      exact hport
    have hlanded : (s.land t).transferOf f = some tr := htransfer
    have hwaits : ¬ (!tr.upload || decide (tr.next ≤ tr.acked)) = true := by
      rw [hup, decide_eq_false (Nat.not_le.2 hacked)]
      decide
    rw [if_pos htds, State.tdsChunkTimeout, hlanded]
    dsimp only
    rw [if_neg hwaits, if_pos hresent]
    have hpending : ((((s.land t).setTransfer f none).bump Obj.TDS_BULK_FAIL).raise 459).sourcePending 459 := sourcePending_raise _ 459
    have hnone : ((((s.land t).setTransfer f none).bump Obj.TDS_BULK_FAIL).raise 459).transferOf f = none :=
      transferOf_setTransfer_none (s.land t) f
    have hget (key : Nat) : ((((s.land t).setTransfer f none).bump Obj.TDS_BULK_FAIL).raise 459).get key =
        if key = Obj.TDS_BULK_FAIL then min (s.get Obj.TDS_BULK_FAIL + 1) 0xFFFFFFFF else s.get key := by
      rw [State.get_raise, State.get_bump]
      rfl
    have hframe : (((s.land t).setTransfer f none).bump Obj.TDS_BULK_FAIL).raise 459 = { s.land t with
        objs := ((((s.land t).setTransfer f none).bump Obj.TDS_BULK_FAIL).raise 459).objs
        icu := ((((s.land t).setTransfer f none).bump Obj.TDS_BULK_FAIL).raise 459).icu
        dict := ((((s.land t).setTransfer f none).bump Obj.TDS_BULK_FAIL).raise 459).dict } := rfl
    generalize (((s.land t).setTransfer f none).bump Obj.TDS_BULK_FAIL).raise 459 = a at hpending hnone hget hframe ⊢
    have hlog := State.logOnly_siteOutcome a 0x13 459 noSubject [] true (by decide)
    have hkept := keepsDict_siteOutcome a 0x13 459 noSubject [] true
    have hkeeps := keepsPending_siteOutcome a 0x13 459 noSubject [] true
    generalize a.siteOutcome 0x13 459 noSubject [] true = b at hlog hkept hkeeps ⊢
    refine ⟨?_, ?_, ?_, getLast?_emit _ _, fun key hlogkey hkey => ?_, ?_⟩
    · show b.transferOf f = none
      rw [State.transferOf, hkept.session f]
      exact hnone
    · rw [State.get_emit, hlog.1 _ (by decide), hget, if_pos rfl]
    · exact sourcePending_kept (by decide) hpending (hkeeps.trans (.of_icu rfl))
    · rw [State.get_emit, hlog.1 key hlogkey, hget, if_neg (List.ne_of_not_mem_cons hkey)]
    · rw [hlog.2, hframe]
      rfl
  case downStart =>
    refine ⟨(s.land t).tdsDownStart f seq index sub length crc window, rfl, ?_⟩
    have htaken := takes_of_tdsTakes htakes
    have hroomy : (s.tdsHeard t f).bulkRoom f = true := by
      rw [State.bulkRoom, transferOf_tdsHeard, hfree, bulkOpen_tdsHeard, decide_eq_true hroom]
      rfl
    have hwindow : ¬ (decide (window < 1) || decide (64 < window)) = true := by
      rw [Bool.or_eq_true, decide_eq_true_iff, decide_eq_true_iff]
      omega
    rw [State.tdsDownStart, htaken.performed]
    dsimp only
    rw [hjudge]
    dsimp only
    rw [hroomy, Bool.not_true, if_neg (by decide), if_neg hwindow]
    refine ⟨?_, getLast?_replied _ _ _ _ _ _, fun _ _ => rfl, rfl⟩
    rw [transferOf_replied, transferOf_setTransfer (hheard htaken)]
  case downData =>
    refine ⟨(s.land t).tdsDownData f seq chunk data, rfl, ?_⟩
    have htaken := takes_of_tdsTakes htakes
    rw [State.tdsDownData, htaken.performed, transferOf_tdsHeard, htransfer]
    dsimp only
    rw [hdown, if_neg (by decide)]
    by_cases hchunk : chunk = tr.next
    · rw [if_pos hchunk, if_pos hchunk]
      exact ⟨fun _ => transferOf_setTransfer (hheard htaken) _, fun hother => absurd hchunk hother, rfl, fun _ _ => rfl, rfl⟩
    · rw [if_neg hchunk, if_neg hchunk]
      exact ⟨fun hsame => absurd hsame hchunk, fun _ => transferOf_setTransfer (hheard htaken) _, rfl, fun _ _ => rfl, rfl⟩
  case downBad =>
    refine ⟨(s.land t).tdsDownEnd f seq img, rfl, ?_⟩
    have htaken := takes_of_tdsTakes htakes
    have hwrong : (decide (tr.data.length ≠ tr.total) || decide (crc32c tr.data ≠ tr.crc)) = true := by
      rw [Bool.or_eq_true, decide_eq_true_iff, decide_eq_true_iff]
      exact hbad
    rw [State.tdsDownEnd, htaken.performed]
    dsimp only
    rw [transferOf_tdsHeard, htransfer]
    dsimp only
    rw [hdown, if_neg (by decide), if_pos hwrong]
    refine ⟨?_, getLast?_replied _ _ _ _ _ _, fun _ _ => rfl, rfl⟩
    rw [transferOf_replied, transferOf_setTransfer_none]
  case downEnd =>
    refine ⟨(s.land t).tdsDownEnd f seq img, rfl, ?_⟩
    have htaken := takes_of_tdsTakes htakes
    have hserved : ((s.tdsHeard t f).setTransfer f none).dictServed = true := served_of_tdsOpen htaken.served
    have hsome : (((s.tdsHeard t f).setTransfer f none).session f).isSome = true := by
      rw [session_setTransfer, Option.isSome_map, hheard htaken]
    have hmatch : ¬ (decide ([role].length ≠ 1) || decide (crc32c [role] ≠ crc32c [role])) = true := by
      rw [decide_eq_false (p := crc32c [role] ≠ crc32c [role]) (not_not.2 rfl), Bool.or_false]
      exact Bool.false_ne_true
    have hended : (s.land t).tdsDownEnd f seq img =
        (((((s.tdsHeard t f).setTransfer f none).heard f).authRequest f role).reply (.tds f.channel f.session seq 0x26) 0
          []).raise 458 := by
      rw [State.tdsDownEnd, htaken.performed]
      dsimp only
      rw [transferOf_tdsHeard, htransfer]
      dsimp only
      rw [if_neg (by exact Bool.false_ne_true), if_neg (by exact hmatch)]
      have himage : imageOf 0x201001 1 img = none := if_neg (by decide)
      have hkey : (downloadOf 0x201001 q 8 1 (crc32c [role])).key = 0x201001 := rfl
      have htotal : (downloadOf 0x201001 q 8 1 (crc32c [role])).total = 1 := rfl
      have hindex : 0x201001 / 256 = 0x2010 := by decide
      have hsub : 0x201001 % 256 = 1 := by decide
      rw [hkey, htotal, himage, hindex, hsub]
      exact congrArg (fun a : State => a.raise 458)
        (requestWrite_authReq (route := .tds f.channel f.session seq 0x26) (by show 1 ≤ 268435456; decide) hserved hsome hlocked hlo hhi)
    rw [hended]
    obtain ⟨e, he⟩ := Option.isSome_iff_exists.1 hsome
    have hnone : e.transfer = none := by
      have hended := transferOf_setTransfer_none (s.tdsHeard t f) f
      rw [State.transferOf, he] at hended
      exact hended
    have hdrawn := authRequest_session ((s.tdsHeard t f).setTransfer f none) f role
    rw [he, Option.map_some] at hdrawn
    have hsession : ((((((s.tdsHeard t f).setTransfer f none).heard f).authRequest f role).reply
        (.tds f.channel f.session seq 0x26) 0 []).raise 458).session f = _ := (session_replied _ f seq 0x26 0 []).trans (congrArg _ hdrawn)
    refine ⟨?_, getLast?_emit _ _, sourcePending_raise _ 458, ?_, fun _ _ => rfl, rfl⟩
    · rw [State.transferOf, hsession]
      exact hnone
    · rw [hsession]
      rfl
  case cancel =>
    refine ⟨(s.land t).tdsCancel f seq, rfl, ?_⟩
    rw [State.tdsCancel, (takes_of_tdsTakes htakes).performed]
    refine ⟨?_, getLast?_replied _ _ _ _ _ _, fun _ _ => rfl, rfl⟩
    rw [transferOf_replied, transferOf_setTransfer_none]

end Sys2Proof.Proofs
end

section
/-!
PROOF. USDO services (R434, R435): a refused download of a request for a step of the counter is counted too, which the statement leaves
out.
-/

namespace Sys2Proof.Proofs

open Sys2Proof Sys2Proof.Machine

/-- A device in CONFIG with its network clock locked: CAN0 is open. -/
def canState : State := configState.put (Obj.CLK_PLL_STATUS 4) 1

theorem quiet_canState : Quiet canState :=
  ⟨by decide, by decide, by decide, by decide, by decide +kernel, rfl, rfl⟩

theorem download_refused :
    ((canState.land 0).heard (canSender 0)).judgeWrite (canSender 0) (.usdo 0) 0x2C00 0x0E 1 [1] none = some ⟨abState, 4⟩ := by
  decide +kernel

/-- The refused request for a re-epoch is counted in TIM_STEP_REFUSED (R336). -/
theorem download_counted :
    (State.settle (canState.land 0) ((canState.land 0).usdoDownload 0 0x2C00 0x0E [1])).get Obj.TIM_STEP_REFUSED = 1 := by
  decide +kernel

/-- Refutes O8: its first clause holds every entry but the refusal record for any refusal but by the entry's own rule, and a request for
a step of the counter that is refused for its role is counted in TIM_STEP_REFUSED beside it (R336). CAN0 asks for a re-epoch in CONFIG. -/
theorem not_usdoServices : ¬ Obligations.UsdoServices := by
  intro h
  obtain ⟨hrefused, -⟩ := h canState 0 0 (by decide +kernel)
  obtain ⟨u, hexec, -, -, -, -, -, hentries, hunits⟩ :=
    hrefused 0x2C00 0x0E [1] ⟨abState, 4⟩ (by decide +kernel) download_refused (by decide)
  have hsettled : State.settle (canState.land 0) ((canState.land 0).usdoDownload 0 0x2C00 0x0E [1]) =
      State.settle (canState.land 0) u := Host.Outcome.next.inj hexec
  have hquiet : Quiet u := quiet_of_refusal quiet_canState hentries (by rw [hunits]; rfl) (by rw [hunits]; rfl)
  have hidle : u.get Obj.CMT_STATE = 0 := (hentries _ (by decide) (by decide)).trans (by decide)
  have hcounter : u.get Obj.TIM_STEP_REFUSED = 0 := (hentries _ (by decide) (by decide)).trans (by decide)
  have hkept := settle_get_of_quiet (before := canState.land 0) hquiet hidle (key := Obj.TIM_STEP_REFUSED) (by decide) hcounter
  rw [← hsettled, download_counted] at hkept
  exact absurd hkept (by decide)

end Sys2Proof.Proofs
end

section
/-!
PROOF. What journalled events and flushes change of the logbook (R455, R459, R462).
-/

namespace Sys2Proof.Proofs

open Sys2Proof Sys2Proof.Machine

/-! ## What a journalled event keeps of the logbook itself -/

/-- Entries that a journalled event may change. -/
abbrev journalKeys : List Nat := [Obj.LOG_JOURNAL_SEQ, Obj.LOG_JOURNAL_DROPPED, Obj.LOG_UART_DROPPED]

/-- Of the logbook a journalled event changes the ring, the allowance and the entries of the journal alone. -/
structure JournalChange (a b : State) : Prop where
  entries : a.onlyEntries b journalKeys
  log : b.log = { a.log with credit := b.log.credit, creditAt := b.log.creditAt, dropRun := b.log.dropRun, seq := b.log.seq }
  flash : b.flash = { a.flash with journal := b.flash.journal }
  units : a.SameUnits b

theorem JournalChange.refl (s : State) : JournalChange s s := ⟨fun _ _ => rfl, rfl, rfl, rfl⟩

theorem JournalChange.trans {a b c : State} (h : JournalChange a b) (g : JournalChange b c) : JournalChange a c := by
  refine ⟨fun key hkey => (g.entries key hkey).trans (h.entries key hkey), ?_, ?_, ?_⟩
  · rw [g.log, h.log]
  · rw [g.flash, h.flash]
  · have hunits := g.units
    unfold State.SameUnits at hunits ⊢
    rw [h.units] at hunits
    exact hunits

theorem journalChange_uartLine (s : State) (chars : List Nat) : JournalChange s (s.uartLine chars) := by
  refine ⟨fun key hkey => get_uartLine s chars ?_, ?_, ?_, ?_⟩
  · rintro rfl
    exact hkey (by decide)
  · rw [uartLine_log]
  · rw [uartLine_flash]
  · unfold State.uartLine
    split
    · rfl
    · extract_lets fill after
      split <;> rfl

theorem journalChange_atHead (s : State) (r : JournalRecord) : JournalChange s (atHead s r) :=
  ⟨fun _ hkey => State.get_put_ne _ _ fun h => hkey (h ▸ by decide), rfl, rfl, rfl⟩

theorem journalChange_pushRecord (s : State) (uptime code : Nat) (data : List Nat) (counter : Nat) (transient lasting : Bool) :
    JournalChange s (s.pushRecord uptime code data counter transient lasting) := by
  rcases pushRecord_cases s uptime code data counter transient lasting with h | ⟨chars, h⟩
  · rw [h]
    exact journalChange_atHead s _
  · rw [h]
    exact (journalChange_atHead s _).trans (journalChange_uartLine _ _)

theorem journalChange_charged (s : State) (credit : Nat) : JournalChange s (charged s credit) := ⟨fun _ _ => rfl, rfl, rfl, rfl⟩

theorem journalChange_dropped (s : State) : JournalChange s (dropped s) := by
  obtain ⟨i, hnoted⟩ : ∃ i, dropNoted s = { s with icu := i } := ⟨_, dropNoted_frame s⟩
  have hdropped : dropped s = { ({ s with icu := i } : State).bump Obj.LOG_JOURNAL_DROPPED with
      log := { s.log with credit := s.journalCredit, creditAt := s.now, dropRun := s.log.dropRun + 1 } } := by
    unfold dropped
    rw [hnoted]
  rw [hdropped]
  refine ⟨fun key hkey => ?_, rfl, rfl, rfl⟩
  have hother : key ≠ Obj.LOG_JOURNAL_DROPPED := fun h => hkey (h ▸ by decide)
  exact State.get_put_ne _ _ hother

theorem journalChange_journalFull (s : State) (code subject : Nat) (data : List Nat) (counter : Nat) (transient lasting : Bool) :
    JournalChange s (s.journalFull code subject data counter transient lasting) := by
  by_cases hcredit : s.journalCredit < recordCredit
  · rw [journalFull_of_dropped hcredit]
    exact journalChange_dropped s
  · by_cases hrun : s.log.dropRun = 0
    · rw [journalFull_of_admitted (Nat.not_lt.1 hcredit) hrun]
      exact (journalChange_charged s _).trans (journalChange_pushRecord _ _ _ _ _ _ _)
    · rw [journalFull_after_drops (Nat.not_lt.1 hcredit) hrun]
      exact ((journalChange_charged s _).trans (journalChange_pushRecord _ _ _ _ _ _ _)).trans (journalChange_pushRecord _ _ _ _ _ _ _)

theorem journalChange_raise (s : State) (src : Nat) : JournalChange s (s.raise src) := ⟨fun _ _ => rfl, rfl, rfl, rfl⟩

theorem journalChange_event (s : State) (src subject : Nat) (data : List Nat) : JournalChange s (s.event src subject data) :=
  (journalChange_raise s src).trans (journalChange_journalFull _ _ _ _ _ _ _)

/-! ## A flush that begins (R462) -/

/-- What a flush that begins shows. -/
structure FlushBegun (s u : State) (slot : Nat) : Prop where
  programming : u.log.programming.map (fun p => (p.1, p.2.2)) = some (slot, 1)
  lastBegin : u.log.lastBegin = some s.now
  held : (u.log.demand, u.log.periodic) = (false, false)
  busy : u.bit Obj.LOG_STATUS 1 = true
  frozen : u.get Obj.LOG_LAST_FLUSH = s.time32
  number : u.flash.snapNumber = s.flash.snapNumber + 1

theorem FlushBegun.of_journal {s a b : State} {slot : Nat} (h : FlushBegun s a slot) (hchange : JournalChange a b) :
    FlushBegun s b slot := by
  obtain ⟨hprogramming, hlast, hheld, hbusy, hfrozen, hnumber⟩ := h
  refine ⟨?_, ?_, ?_, ?_, ?_, ?_⟩
  · rw [hchange.log, ← hprogramming]
  · rw [hchange.log, ← hlast]
  · rw [hchange.log, ← hheld]
  · rw [bit_congr (hchange.entries _ (by decide)), hbusy]
  · rw [hchange.entries _ (by decide), hfrozen]
  · rw [hchange.flash, ← hnumber]

/-- The slots of two states are marked bad alike. -/
def GoodKept (a b : State) : Prop :=
  ∀ i : Nat, (b.flash.slots[i]?).map (fun x : FlashSlot => x.good) = (a.flash.slots[i]?).map (fun x : FlashSlot => x.good)

theorem GoodKept.trans {a b c : State} (h : GoodKept a b) (g : GoodKept b c) : GoodKept a c := fun i => (g i).trans (h i)

theorem GoodKept.of_flash {a b : State} (h : b.flash = a.flash) : GoodKept a b := fun i => by rw [h]

theorem GoodKept.of_journal {a b : State} (h : JournalChange a b) : GoodKept a b := fun i => by rw [h.flash]

theorem good_updateAt (l : List FlashSlot) (i : Nat) (f : FlashSlot → FlashSlot) (hf : ∀ x, (f x).good = x.good) (j : Nat) :
    ((updateAt l i f)[j]?).map (fun x : FlashSlot => x.good) = (l[j]?).map (fun x : FlashSlot => x.good) := by
  rw [updateAt, List.getElem?_modify]
  by_cases hij : i = j
  · cases l[j]? with
    | none => rfl
    | some x => simp [hij, hf]
  · simp [hij]

/-- A flush that begins marks no slot (R462). -/
theorem goodKept_beginFlush (s : State) (demanded : Bool) : GoodKept s (s.beginFlush demanded) := by
  unfold State.beginFlush
  cases s.nextSlot with
  | none => exact .of_flash rfl
  | some slot =>
    dsimp -zeta only
    extract_lets s0 snap flashOf logOf s1 s3 worst s4
    have hflash : s4.flash = s1.flash := (State.put_flash ..).trans (State.put_flash ..)
    have hbegun : GoodKept s s4 := fun i => by
      rw [hflash]
      exact good_updateAt s.flash.slots slot (fun f => { f with erases := f.erases + 1, snap := none }) (fun _ => rfl) i
    have hworn : GoodKept s (s4.setBit Obj.LOG_STATUS 4 true) := hbegun.trans (.of_flash (State.setBit_flash ..))
    split
    · exact hworn.trans (.of_journal (journalChange_event _ _ _ _))
    · exact hbegun

theorem goodKept_demandFlush (s : State) : GoodKept s s.demandFlush := by
  unfold State.demandFlush State.serveFlush
  split
  · exact goodKept_beginFlush { s with log := { s.log with demand := true } } true
  · split
    · exact goodKept_beginFlush { s with log := { s.log with demand := true } } false
    · exact .of_flash rfl

theorem beginFlush_shows {s : State} {slot : Nat} (hslot : s.nextSlot = some slot) (hstaged : s.log.staged = none) (demanded : Bool) :
    FlushBegun s (s.beginFlush demanded) slot := by
  unfold State.beginFlush
  rw [hslot]
  dsimp -zeta only
  extract_lets s0 snap flashOf logOf s1 s3 worst s4
  have h0 : s0 = s.freezeNow := if_neg (by rw [hstaged]; decide)
  have hlog : s4.log = s1.log := (State.put_log ..).trans (State.put_log ..)
  have hflash : s4.flash = s1.flash := (State.put_flash ..).trans (State.put_flash ..)
  have hsnap : snap = s.freeze := by
    unfold snap
    rw [h0]
    rfl
  have hfrozen : s4.get Obj.LOG_LAST_FLUSH = s.time32 := by
    have hnoted : s1.get Obj.LOG_LAST_FLUSH = s0.get Obj.LOG_LAST_FLUSH := rfl
    unfold s4 s3
    rw [State.get_put_ne _ _ (by decide), State.get_put_ne _ _ (by decide), hnoted, h0]
    exact State.get_put_same _ _ _
  have hbusy : s4.bit Obj.LOG_STATUS 1 = true := by
    unfold State.bit State.getN s4 s3
    rw [State.get_put_ne _ _ (by decide), State.get_put_same, Int.toNat_natCast, bitOf_withBit, bitOf_withBit]
    rfl
  have hbegun : FlushBegun s s4 slot := by
    refine ⟨?_, ?_, ?_, hbusy, hfrozen, ?_⟩
    · rw [hlog]
      rfl
    · rw [hlog]
    · rw [hlog]
    · rw [hflash]
      show snap.number = _
      rw [hsnap]
      rfl
  have hworn : FlushBegun s (s4.setBit Obj.LOG_STATUS 4 true) slot := by
    obtain ⟨hprogramming, hlast, hheld, _, _, hnumber⟩ := hbegun
    refine ⟨hprogramming, hlast, hheld, ?_, ?_, hnumber⟩
    · rw [State.bit_setBit, if_pos rfl, if_neg (by decide)]
      exact hbusy
    · rw [State.get_setBit, if_neg (by decide)]
      exact hfrozen
  split
  · exact hworn.of_journal (journalChange_event _ _ _ _)
  · exact hbegun

end Sys2Proof.Proofs
end

section
/-!
PROOF. When flushes begin, how a programming ends, and the copy that leaves the device (R462, R465).
-/

namespace Sys2Proof.Proofs

open Sys2Proof Sys2Proof.Machine

/-! ## Flushes that the limits allow or hold (R462) -/

theorem FlushBegun.of_log {s a u : State} {slot : Nat} {l : LogUnit} (h : FlushBegun a u slot) (ha : a = { s with log := l }) :
    FlushBegun s u slot := by
  subst ha
  obtain ⟨hprogramming, hlast, hheld, hbusy, hfrozen, hnumber⟩ := h
  exact ⟨hprogramming, hlast, hheld, hbusy, hfrozen, hnumber⟩

theorem serveFlush_of_demand {s : State} (hdemand : s.log.demand = true) (hallowed : s.flushAllowed true = true) :
    s.serveFlush = s.beginFlush true := by
  rw [State.serveFlush, if_pos (by rw [hdemand, hallowed]; rfl)]

theorem serveFlush_of_periodic {s : State} (hdemand : s.log.demand = false) (hperiodic : s.log.periodic = true)
    (hallowed : s.flushAllowed false = true) : s.serveFlush = s.beginFlush false := by
  rw [State.serveFlush, if_neg (by rw [hdemand]; simp), if_pos (by rw [hperiodic, hallowed]; rfl)]

/-- A demand that the limits forbid begins nothing, with no periodic flush held back. -/
theorem serveFlush_of_forbidden {s : State} (hperiodic : s.log.periodic = false)
    (hforbidden : s.log.demand = true → s.flushAllowed true = false) :
    s.serveFlush = s := by
  rw [State.serveFlush, if_neg, if_neg (by rw [hperiodic]; simp)]
  intro h
  obtain ⟨hdemand, hallowed⟩ := Bool.and_eq_true_iff.1 h
  rw [hforbidden hdemand] at hallowed
  exact absurd hallowed (by decide)

/-- A periodic flush that is due and allowed begins. -/
theorem flushPeriodic_shows {s : State} {slot : Nat} (hstate : 2 ≤ s.devState) (hlunar : s.devState ≠ 7)
    (hdue : s.log.lastBegin.all (fun b => decide (b + 600000000000 ≤ s.now)) = true) (hdemand : s.log.demand = false)
    (hallowed : s.flushAllowed false = true) (hslot : s.nextSlot = some slot) (hstaged : s.log.staged = none) :
    FlushBegun s s.flushPeriodic slot ∧ s.LogOnly s.flushPeriodic := by
  have hnow : s.log.lastBegin.any (fun b => decide (s.now < b + 600000000000)) = false := by
    cases hlast : s.log.lastBegin with
    | none => rfl
    | some b =>
      rw [hlast, Option.all_some] at hdue
      rw [Option.any_some]
      exact decide_eq_false (Nat.not_lt.2 (of_decide_eq_true hdue))
  have hout : ¬(s.devState < stConfig || s.devState = stLunar) = true := by
    simp only [Bool.or_eq_true, decide_eq_true_eq]
    rintro (h | h)
    · exact absurd hstate (Nat.not_le.2 h)
    · exact hlunar h
  have hperiodic : s.flushPeriodic = (s.withLog fun l => { l with periodic := true }).beginFlush false := by
    rw [State.flushPeriodic, if_neg hout, if_neg (by rw [hnow]; decide)]
    exact serveFlush_of_periodic hdemand rfl hallowed
  rw [hperiodic]
  refine ⟨(beginFlush_shows (s := s.withLog fun l => { l with periodic := true }) hslot hstaged false).of_log rfl, ?_⟩
  exact State.LogOnly.trans (b := s.withLog fun l => { l with periodic := true }) ⟨fun _ _ => rfl, rfl⟩ (State.logOnly_beginFlush _ false)

/-- A periodic flush that is not due yet is none. -/
theorem flushPeriodic_of_early {s : State} {b : Nat} (hlast : s.log.lastBegin = some b) (hearly : s.now < b + 600000000000) :
    s.flushPeriodic = s := by
  have hsoon : s.log.lastBegin.any (fun b => decide (s.now < b + 600000000000)) = true := by
    rw [hlast, Option.any_some]
    exact decide_eq_true hearly
  rw [State.flushPeriodic, if_pos hsoon, ite_self]

/-- A demand that the limits allow begins a flush. -/
theorem demandFlush_shows {s : State} {slot : Nat} (hallowed : s.flushAllowed true = true) (hslot : s.nextSlot = some slot)
    (hstaged : s.log.staged = none) : FlushBegun s s.demandFlush slot := by
  have hbegins : s.demandFlush = ({ s with log := { s.log with demand := true } } : State).beginFlush true :=
    serveFlush_of_demand rfl hallowed
  rw [hbegins]
  exact (beginFlush_shows (s := { s with log := { s.log with demand := true } }) hslot hstaged true).of_log rfl

/-- A demand that the limits forbid is held. -/
theorem demandFlush_of_forbidden {s : State} (hforbidden : s.flushAllowed true = false) (hperiodic : s.log.periodic = false) :
    s.demandFlush = { s with log := { s.log with demand := true } } :=
  serveFlush_of_forbidden (s := { s with log := { s.log with demand := true } }) hperiodic fun _ => hforbidden

/-- LOG_FLUSH_REQ and LOG_EXPORT_REQ are write-only and hold a 1 (Table 18.9). -/
theorem row_flushReq :
    ∃ row, Obj.rowOf Obj.LOG_FLUSH_REQ = some row ∧ row.access = .wo ∧ ObjType.value row.type (ObjType.bytes row.type 1) = 1 :=
  ⟨_, rfl, rfl, rfl⟩

theorem row_exportReq :
    ∃ row, Obj.rowOf Obj.LOG_EXPORT_REQ = some row ∧ row.access = .wo ∧ ObjType.value row.type (ObjType.bytes row.type 1) = 1 :=
  ⟨_, rfl, rfl, rfl⟩

theorem writeEntry_flushReq {s : State} {t : Nat} {f : Sender} (hwrite : s.takesWrite t f Obj.LOG_FLUSH_REQ 1 = true) :
    (s.land t).writeEntry f Obj.LOG_FLUSH_REQ 1 = ((s.land t).heard f).demandFlush.emit .done := by
  obtain ⟨row, hrow, hwo, hval⟩ := row_flushReq
  rw [writeEntry_command_of_takesWrite hrow hwo (fun _ => rfl) hval hwrite]
  rfl

theorem writeEntry_exportReq {s : State} {t : Nat} {f : Sender} (hwrite : s.takesWrite t f Obj.LOG_EXPORT_REQ 1 = true) :
    (s.land t).writeEntry f Obj.LOG_EXPORT_REQ 1 = ((s.land t).heard f).exportFreeze.emit .done := by
  obtain ⟨row, hrow, hwo, hval⟩ := row_exportReq
  rw [writeEntry_command_of_takesWrite hrow hwo (fun _ => rfl) hval hwrite]
  rfl

/-! ## The end of a programming (R462) -/

/-- The logbook with no programming under way, as LOG_STATUS shows it. -/
def flushIdle (s : State) : State :=
  (s.withLog fun l => { l with programming := none, failedSlot := none }).setBit Obj.LOG_STATUS 1 false

/-- A slot that holds a snapshot. -/
def slotHolds (s : State) (slot : Nat) (snap : Snapshot) : State :=
  { s with flash := { s.flash with slots := updateAt s.flash.slots slot fun f => { f with snap := some snap } } }

theorem flushDone_of_verified {s : State} {slot : Nat} {snap : Snapshot} (hprogramming : s.log.programming = some (slot, snap, 1)) :
    s.flushDone true =
      (((((slotHolds (flushIdle s) slot snap).bump Obj.LOG_FLUSH_COUNT).raise 498).journal 0x0210 noSubject
        (bytesOf slot 4 ++ bytesOf snap.lastSeq 4))).serveFlush := by
  rw [State.flushDone, hprogramming]
  rfl

/-- What a verified slot shows. -/
theorem flushDone_verified_shows {s : State} {slot : Nat} {snap : Snapshot} (hprogramming : s.log.programming = some (slot, snap, 1))
    (hslot : slot < s.flash.slots.length) (hnone : (s.log.demand, s.log.periodic) = (false, false)) :
    let u := s.flushDone true
    (u.flash.slots[slot]?).bind (fun f : FlashSlot => f.snap) = some snap ∧ u.log.programming = none ∧ u.bit Obj.LOG_STATUS 1 = false ∧
      u.get Obj.LOG_FLUSH_COUNT = min (s.get Obj.LOG_FLUSH_COUNT + 1) 0xFFFFFFFF ∧ u.sourcePending 498 ∧ s.LogOnly u := by
  obtain ⟨hdemand, hperiodic⟩ := Prod.mk.inj hnone
  have hheld : JournalChange ((slotHolds (flushIdle s) slot snap).bump Obj.LOG_FLUSH_COUNT)
      ((((slotHolds (flushIdle s) slot snap).bump Obj.LOG_FLUSH_COUNT).raise 498).journal 0x0210 noSubject
        (bytesOf slot 4 ++ bytesOf snap.lastSeq 4)) := (journalChange_raise _ _).trans (journalChange_journalFull _ _ _ _ _ _ _)
  have hpending := sourcePending_kept (by decide)
    (sourcePending_raise ((slotHolds (flushIdle s) slot snap).bump Obj.LOG_FLUSH_COUNT) 498)
    (keepsPending_journalFull _ 0x0210 noSubject (bytesOf slot 4 ++ bytesOf snap.lastSeq 4) 0xFF false false)
  have hlogs : s.LogOnly ((((slotHolds (flushIdle s) slot snap).bump Obj.LOG_FLUSH_COUNT).raise 498).journal 0x0210 noSubject
        (bytesOf slot 4 ++ bytesOf snap.lastSeq 4)) := by
    have hidle : s.LogOnly (flushIdle s) :=
      State.LogOnly.trans (b := s.withLog _) ⟨fun _ _ => rfl, rfl⟩ (State.logOnly_put _ _ rfl)
    have hsnap : (flushIdle s).LogOnly (slotHolds (flushIdle s) slot snap) := ⟨fun _ _ => rfl, rfl⟩
    exact (((hidle.trans hsnap).trans (State.logOnly_put _ _ rfl)).trans (State.logOnly_raise _ _)).trans (State.logOnly_journalFull ..)
  have hserved : s.flushDone true =
      ((((slotHolds (flushIdle s) slot snap).bump Obj.LOG_FLUSH_COUNT).raise 498).journal 0x0210 noSubject
        (bytesOf slot 4 ++ bytesOf snap.lastSeq 4)) := by
    rw [flushDone_of_verified hprogramming]
    refine serveFlush_of_forbidden ?_ fun h => ?_
    · rw [hheld.log]
      exact hperiodic
    · rw [hheld.log] at h
      exact absurd (h.symm.trans hdemand) (by decide)
  rw [hserved]
  unfold State.journal at hheld hlogs hpending ⊢
  generalize (((slotHolds (flushIdle s) slot snap).bump Obj.LOG_FLUSH_COUNT).raise 498).journalFull 0x0210 noSubject
        (bytesOf slot 4 ++ bytesOf snap.lastSeq 4) 0xFF false false = u at hheld hlogs hpending ⊢
  refine ⟨?_, ?_, ?_, ?_, hpending, hlogs⟩
  · rw [hheld.flash]
    show ((updateAt s.flash.slots slot fun f => { f with snap := some snap })[slot]?).bind (fun f : FlashSlot => f.snap) = some snap
    rw [updateAt, List.getElem?_modify_eq, List.getElem?_eq_getElem hslot]
    rfl
  · rw [hheld.log]
    rfl
  · rw [bit_congr (hheld.entries _ (by decide)), State.bump, State.add, State.bit_put, if_neg (by decide)]
    show (flushIdle s).bit Obj.LOG_STATUS 1 = false
    rw [flushIdle, State.bit_setBit, if_pos rfl, if_pos rfl]
  · rw [hheld.entries _ (by decide), State.get_bump, if_pos rfl]
    show min ((flushIdle s).get Obj.LOG_FLUSH_COUNT + 1) _ = _
    rw [flushIdle, State.get_setBit, if_neg (by decide)]
    rfl

theorem flushDone_of_firstFailure {s : State} {slot next : Nat} {snap : Snapshot}
    (hprogramming : s.log.programming = some (slot, snap, 1))
    (hnext : s.goodAfter slot = some next) :
    s.flushDone false =
      { s.withLog fun l => { l with programming := some (next, snap, 2), failedSlot := some slot } with
          flash := { s.flash with slots := updateAt s.flash.slots next fun f => { f with erases := f.erases + 1, snap := none } } } := by
  rw [State.flushDone, hprogramming]
  dsimp only
  rw [if_neg (by decide), if_pos rfl, hnext]

theorem slots_slotBad (s : State) (i : Nat) :
    (s.slotBad i).flash.slots = s.flash.slots.modify i fun f => { f with good := false, snap := none } := by
  unfold State.slotBad State.slotsShow
  rw [State.setBit_flash, State.put_flash, updateAt]

/-- A slot that is marked bad is bad. -/
theorem slotBad_marks {s : State} {i : Nat} (hi : i < s.flash.slots.length) :
    ((s.slotBad i).flash.slots[i]?).map (fun x : FlashSlot => x.good) = some false := by
  rw [slots_slotBad, List.getElem?_modify_eq, List.getElem?_eq_getElem hi]
  rfl

/-- A bad slot stays bad when another one is marked. -/
theorem slotBad_keeps {s : State} {j : Nat} (hbad : (s.flash.slots[j]?).map (fun x : FlashSlot => x.good) = some false) (i : Nat) :
    ((s.slotBad i).flash.slots[j]?).map (fun x : FlashSlot => x.good) = some false := by
  rw [slots_slotBad, List.getElem?_modify]
  split
  · obtain ⟨x, hx, -⟩ := Option.map_eq_some_iff.1 hbad
    rw [hx]
    rfl
  · rw [id_map']
    exact hbad

theorem logOnly_slotBad (s : State) (i : Nat) : s.LogOnly (s.slotBad i) :=
  State.LogOnly.trans
    (b := { s with flash := { s.flash with slots := updateAt s.flash.slots i fun f => { f with good := false, snap := none } } })
    ⟨fun _ _ => rfl, rfl⟩ ((State.logOnly_put _ _ rfl).trans (State.logOnly_put _ _ rfl))

/-- A second failure marks both slots (R462). -/
theorem flushDone_of_secondFailure {s : State} {slot first : Nat} {snap : Snapshot}
    (hprogramming : s.log.programming = some (slot, snap, 2))
    (hfailed : s.log.failedSlot = some first) :
    s.flushDone false = ((((flushIdle s).slotBad slot).slotBad first).raise 499).siteOutcome 0x15 499 slot [] true := by
  rw [State.flushDone, hprogramming]
  dsimp only
  rw [if_neg (by decide), if_neg (by decide), hfailed]
  rfl

theorem goodKept_lasting (s : State) (code subject : Nat) (data : List Nat) : GoodKept s (s.siteOutcome 0x15 code subject data true) :=
  GoodKept.trans (b := (s.add64 (Obj.LOG_RETRY_LASTING 20) 1).demandFlush)
    (GoodKept.trans (b := s.add64 (Obj.LOG_RETRY_LASTING 20) 1) (.of_flash rfl) (goodKept_demandFlush _))
    (.of_journal (journalChange_journalFull _ _ _ _ _ _ _))

theorem goodKept_raised (s : State) (code subject : Nat) (data : List Nat) :
    GoodKept s ((s.raise 499).siteOutcome 0x15 code subject data true) :=
  GoodKept.trans (b := s.raise 499) (.of_flash rfl) (goodKept_lasting _ _ _ _)

theorem flushDone_secondFailure_shows {s : State} {slot first : Nat} {snap : Snapshot}
    (hprogramming : s.log.programming = some (slot, snap, 2)) (hfailed : s.log.failedSlot = some first)
    (hslot : slot < s.flash.slots.length) (hfirst : first < s.flash.slots.length) :
    let u := s.flushDone false
    (u.flash.slots[slot]?).map (fun x : FlashSlot => x.good) = some false ∧
      (u.flash.slots[first]?).map (fun x : FlashSlot => x.good) = some false ∧ u.sourcePending 499 ∧ s.LogOnly u := by
  intro u
  have hu : u = _ := flushDone_of_secondFailure hprogramming hfailed
  have hgood : GoodKept (((flushIdle s).slotBad slot).slotBad first) u := by
    rw [hu]
    exact goodKept_raised _ _ _ _
  have hidle : s.LogOnly (flushIdle s) :=
    State.LogOnly.trans (b := s.withLog _) ⟨fun _ _ => rfl, rfl⟩ (State.logOnly_put _ _ rfl)
  refine ⟨?_, ?_, ?_, ?_⟩
  · rw [hgood slot]
    exact slotBad_keeps (slotBad_marks hslot) first
  · rw [hgood first]
    refine slotBad_marks ?_
    rw [slots_slotBad, List.length_modify]
    exact hfirst
  · rw [hu]
    exact sourcePending_kept (by decide) (sourcePending_raise _ 499) (keepsPending_siteOutcome _ _ _ _ _ _)
  · rw [hu]
    exact (((hidle.trans (logOnly_slotBad _ _)).trans (logOnly_slotBad _ _)).trans (State.logOnly_raise _ _)).trans
      (State.logOnly_siteOutcome _ _ _ _ _ _ (by decide))

/-! ## The copy that leaves the device (R465) -/

/-- What a request for such a copy shows. -/
theorem exportFreeze_shows (s : State) :
    let u := s.exportFreeze
    u.log.exported.map (fun e => e.2) = some s.flash.journal ∧
      u.getN Obj.LOG_EXPORT_GEN = (if s.hasData Obj.LOG_EXPORT_GEN then (s.getN Obj.LOG_EXPORT_GEN + 1) % 2 ^ 32 else 1) ∧
      u.sourcePending 501 ∧ s.LogOnly u := by
  unfold State.exportFreeze
  extract_lets gen s1 u
  have hchange : JournalChange (s1.put Obj.LOG_EXPORT_GEN gen) u :=
    (journalChange_journalFull _ _ _ _ _ _ _).trans (journalChange_raise _ _)
  have hlogs : s.LogOnly u := by
    have hheld : s.LogOnly s1 := ⟨fun _ _ => rfl, rfl⟩
    exact ((hheld.trans (State.logOnly_put _ _ rfl)).trans (State.logOnly_journalFull ..)).trans (State.logOnly_raise _ _)
  refine ⟨?_, ?_, sourcePending_raise _ 501, hlogs⟩
  · rw [hchange.log]
    rfl
  · rw [State.getN, hchange.entries _ (by decide), State.get_put_same, Int.toNat_natCast]

end Sys2Proof.Proofs
end

section
/-!
PROOF. The seconds of the logbook (R455, R457), and the settling of O46.
-/

namespace Sys2Proof.Proofs

open Sys2Proof Sys2Proof.Machine

/-! ## The samples of a second -/

/-- Entries outside the histograms. -/
abbrev Unsampled (key : Nat) : Prop := key < 0x303000 ∨ 0x310000 ≤ key

theorem unsampled_of_notLog {key : Nat} (h : isLogEntry key = false) : Unsampled key := by
  simp only [isLogEntry, Bool.and_eq_false_iff, decide_eq_false_iff_not] at h
  omega

theorem histBin_le (l w q : Rat) : histBin l w q ≤ 63 := by
  unfold histBin
  split
  · exact Nat.zero_le _
  · dsimp only
    split <;> omega

/-- A sample of a histogram changes its histogram alone. -/
theorem get_histogram (s : State) {h : Nat} (hh : h ≤ 64) (l w q : Rat) {key : Nat} (hkey : Unsampled key) :
    (s.histogram h l w q).get key = s.get key := by
  have hbin := histBin_le l w q
  unfold State.histogram
  split
  · rfl
  · exact State.get_put_ne _ _ (by simp only [Obj.LOG_HIST]; omega)

theorem storeOnly_histogram (s : State) (h : Nat) (l w q : Rat) : StoreOnly s (s.histogram h l w q) := by
  unfold State.histogram
  split
  · exact .refl s
  · exact storeOnly_put s _ _

/-- A reference's latest value, where it is present. -/
def refShown (s : State) (key : Nat) (e : Option Int) : State := e.elim s fun e => s.put key (saturate 32 e)

theorem get_refShown_ne (s : State) {key other : Nat} (e : Option Int) (h : other ≠ key) : (refShown s key e).get other = s.get other := by
  cases e with
  | none => rfl
  | some e => exact State.get_put_ne _ _ h

/-- The latest values that a second shows, and its histograms' samples (R457). -/
theorem secondSamples_eq (s : State) (ref25 : Option Int) (xo : Int) (ref156 : Option Int) :
    StoreOnly s (s.secondSamples ref25 xo ref156) ∧
      ∀ key, Unsampled key → (s.secondSamples ref25 xo ref156).get key =
        (refShown ((refShown s Obj.CLK_REF25_ERR ref25).put Obj.CLK_XO_CORR (saturate 32 xo)) Obj.CLK_REF156_ERR ref156).get key := by
  unfold State.secondSamples
  extract_lets s1 s2 s3 s4 s5
  have h1 : StoreOnly s s1 ∧ ∀ key, Unsampled key → s1.get key = (refShown s Obj.CLK_REF25_ERR ref25).get key := by
    cases ref25 with
    | none => exact ⟨.refl s, fun _ _ => rfl⟩
    | some e => exact ⟨(storeOnly_put s _ _).trans (storeOnly_histogram _ _ _ _ _), fun _ h => get_histogram _ (by decide) _ _ _ h⟩
  have h2 : StoreOnly s s2 ∧ ∀ key, Unsampled key →
      s2.get key = ((refShown s Obj.CLK_REF25_ERR ref25).put Obj.CLK_XO_CORR (saturate 32 xo)).get key := by
    refine ⟨(h1.1.trans (storeOnly_put _ _ _)).trans (storeOnly_histogram _ _ _ _ _), fun key hkey => ?_⟩
    rw [get_histogram _ (by decide) _ _ _ hkey, State.get_put, State.get_put, h1.2 key hkey]
  have h3 : StoreOnly s s3 ∧ ∀ key, Unsampled key → s3.get key =
      (refShown ((refShown s Obj.CLK_REF25_ERR ref25).put Obj.CLK_XO_CORR (saturate 32 xo)) Obj.CLK_REF156_ERR ref156).get key := by
    cases ref156 with
    | none => exact h2
    | some e =>
      refine ⟨(h2.1.trans (storeOnly_put _ _ _)).trans (storeOnly_histogram _ _ _ _ _), fun key hkey => ?_⟩
      have hshown : s3.get key = (s2.put Obj.CLK_REF156_ERR (saturate 32 e)).get key := get_histogram _ (by decide) _ _ _ hkey
      rw [hshown, State.get_put, h2.2 key hkey]
      exact (State.get_put ..).symm
  have h5 : StoreOnly s s5 ∧ ∀ key, Unsampled key → s5.get key = s3.get key := by
    have hrails : StoreOnly s4 s5 ∧ ∀ key, Unsampled key → s5.get key = s4.get key := by
      refine foldl_related (R := fun a b => StoreOnly a b ∧ ∀ key, Unsampled key → b.get key = a.get key)
        (fun a => ⟨.refl a, fun _ _ => rfl⟩) (fun h g => ⟨h.1.trans g.1, fun key hkey => (g.2 key hkey).trans (h.2 key hkey)⟩) _
        (fun a i hi => ?_) s4
      have hlt := List.mem_range.1 hi
      exact ⟨storeOnly_histogram _ _ _ _ _, fun key hkey => get_histogram _ (by omega) _ _ _ hkey⟩
    exact ⟨(h3.1.trans (storeOnly_histogram _ _ _ _ _)).trans hrails.1,
      fun key hkey => (hrails.2 key hkey).trans (get_histogram _ (by decide) _ _ _ hkey)⟩
  split
  · exact ⟨h5.1.trans (storeOnly_histogram _ _ _ _ _),
      fun key hkey => (get_histogram _ (by decide) _ _ _ hkey).trans ((h5.2 key hkey).trans (h3.2 key hkey))⟩
  · exact ⟨h5.1, fun key hkey => (h5.2 key hkey).trans (h3.2 key hkey)⟩

/-! ## What else a second brings -/

/-- Entries that a second's summaries, estimates and generations leave as they are. -/
abbrev SecondKey (key : Nat) : Prop := key = Obj.CLK_XO_CORR ∨ key = Obj.LOG_CNT 1 ∨ key = Obj.LOG_CNT 2

theorem get_ageArmSummary (s : State) {a : Nat} (ha : a < 6) {key : Nat} (hkey : SecondKey key) :
    (s.ageArmSummary a).get key = s.get key := by
  have hnot : key < 0x286000 ∨ 0x287000 ≤ key := by
    rcases hkey with rfl | rfl | rfl <;> simp only [Obj.CLK_XO_CORR, Obj.LOG_CNT] <;> omega
  have hne (base : Nat) (hlo : 0x286001 ≤ base) (hhi : base ≤ 0x286501) : key ≠ base + a := by omega
  have hputs (b : State) (v w x y : Int) :
      ((((b.put (Obj.AGE_ARM_C_MEAN a) v).put (Obj.AGE_ARM_C_MIN a) w).put (Obj.AGE_ARM_D_MEAN a) x).put (Obj.AGE_ARM_D_MAX a)
        y).get key =
        b.get key := by
    rw [State.get_put_ne _ _ (hne 0x286401 (by omega) (by omega)), State.get_put_ne _ _ (hne 0x286301 (by omega) (by omega)),
      State.get_put_ne _ _ (hne 0x286201 (by omega) (by omega)), State.get_put_ne _ _ (hne 0x286101 (by omega) (by omega))]
  unfold State.ageArmSummary
  extract_lets all av s1 v src cs ds sum
  have h1 : s1.get key = s.get key := State.get_put_ne _ _ (hne 0x286501 (by omega) (by omega))
  split
  · exact (hputs s1 _ _ _ _).trans h1
  · exact (hputs s1 _ _ _ _).trans h1

theorem get_ageSummaries (s : State) {key : Nat} (hkey : SecondKey key) : s.ageSummaries.get key = s.get key := by
  have hfold : ((s.arms.filter fun a => !(s.armSms a).isEmpty).foldl State.ageArmSummary s).get key = s.get key := by
    refine foldl_related (R := fun a b => b.get key = a.get key) (fun _ => rfl) (fun h g => g.trans h) _ (fun b a ha => ?_) s
    have harm := List.mem_range.1 (List.mem_filter.1 (List.mem_filter.1 ha).1).1
    exact get_ageArmSummary b harm hkey
  have hgen : key ≠ Obj.AGE_SUM_GEN := by rcases hkey with rfl | rfl | rfl <;> decide
  unfold State.ageSummaries
  dsimp only
  split
  · rfl
  · rw [State.get_put_ne _ _ hgen]
    exact hfold

theorem get_powerEstimate (s : State) {key : Nat} (hkey : SecondKey key) : s.powerEstimate.get key = s.get key := by
  have hest : key ≠ Obj.PWR_POWER_EST := by rcases hkey with rfl | rfl | rfl <;> decide
  have henergy : key ≠ Obj.PWR_UPDATE_ENERGY := by rcases hkey with rfl | rfl | rfl <;> decide
  unfold State.powerEstimate
  dsimp only
  split
  · exact State.get_put_ne _ _ hest
  · rw [State.get_put_ne _ _ henergy, State.get_put_ne _ _ hest]

theorem get_dchAccrue (s : State) {k : Nat} (hk : k < 4) {key : Nat} (hkey : SecondKey key) : (s.dchAccrue k).get key = s.get key := by
  have htime : key ≠ Obj.PRT_DCH_ON_TIME k := by
    rcases hkey with rfl | rfl | rfl <;> simp only [Obj.CLK_XO_CORR, Obj.LOG_CNT, Obj.PRT_DCH_ON_TIME] <;> omega
  have hcount : key ≠ Obj.LOG_CNT 0x23 := by rcases hkey with rfl | rfl | rfl <;> decide
  unfold State.dchAccrue
  split
  · rfl
  · split
    · dsimp only
      rw [State.get_countBy, if_neg hcount, State.add, State.get_put_ne _ _ htime]
      rfl
    · rfl

theorem get_imageGen (s : State) {key : Nat} (hkey : SecondKey key) : s.imageGen.get key = s.get key := by
  have hgen : key ≠ Obj.DEV_IMAGE_GEN := by rcases hkey with rfl | rfl | rfl <;> decide
  unfold State.imageGen
  split
  · rfl
  · extract_lets gen src
    exact State.get_put_ne s (gen : Int) hgen

theorem get_secondOthers (s : State) {key : Nat} (hkey : SecondKey key) : s.secondOthers.get key = s.get key := by
  unfold State.secondOthers
  split
  · rfl
  · have hdch : ((s.powerEstimate.ageSummaries).forAll (List.range 4) State.dchAccrue).get key = (s.powerEstimate.ageSummaries).get key :=
      foldl_related (R := fun a b => b.get key = a.get key) (fun _ => rfl) (fun h g => g.trans h) _
        (fun b k hk => get_dchAccrue b (List.mem_range.1 hk) hkey) _
    rw [get_imageGen _ hkey, hdch, get_ageSummaries _ hkey, get_powerEstimate _ hkey]

/-! ## The counters of seconds -/

theorem secondCounts_of_run {s : State} (hrun : s.devState = 5) : s.secondCounts = (s.count 0x02).count 0x03 :=
  if_pos hrun

theorem secondCounts_of_other {s : State} (hstate : s.devState ≠ 5) : s.secondCounts = s.count 0x02 :=
  if_neg hstate

theorem get_count (s : State) (c key : Nat) :
    (s.count c).get key = if key = Obj.LOG_CNT (c - 1) then min (s.get key + 1) 0xFFFFFFFFFFFFFFFF else s.get key := by
  rw [State.count, State.get_countBy]
  split
  · next h => rw [h]
  · rfl

/-- A second in BOOT. -/
theorem second_in_boot {s : State} (hboot : s.boot.poreset = false) (hstate : s.devState = 1) (ref25 : Option Int) (xo : Int)
    (ref156 : Option Int) :
    let u := if s.boot.poreset then s else ((s.secondCounts).secondSamples ref25 xo ref156).secondOthers
    u.get (Obj.LOG_CNT 1) = min (s.get (Obj.LOG_CNT 1) + 1) 0xFFFFFFFFFFFFFFFF ∧ u.get Obj.CLK_XO_CORR = saturate 32 xo ∧
      (∀ e ∈ ref25, u.get Obj.CLK_REF25_ERR = saturate 32 e) ∧ (∀ e ∈ ref156, u.get Obj.CLK_REF156_ERR = saturate 32 e) ∧
      s.entriesBut u [Obj.CLK_XO_CORR, Obj.CLK_REF25_ERR, Obj.CLK_REF156_ERR] ∧ StoreOnly s u := by
  intro u
  have hcounts := secondCounts_of_other (s := s) (by rw [hstate]; decide)
  obtain ⟨hstore, hget⟩ := secondSamples_eq s.secondCounts ref25 xo ref156
  have hdev : (s.secondCounts.secondSamples ref25 xo ref156).devState = 1 := by
    have hkey : (s.secondCounts.secondSamples ref25 xo ref156).get Obj.DEV_STATE = s.get Obj.DEV_STATE := by
      rw [hget _ (Or.inl (by decide)), get_refShown_ne _ _ (by decide), State.get_put_ne _ _ (by decide),
        get_refShown_ne _ _ (by decide), hcounts, get_count, if_neg (by decide)]
    rw [State.devState, State.getN, hkey]
    exact hstate
  have hu : u = s.secondCounts.secondSamples ref25 xo ref156 := by
    unfold u State.secondOthers
    rw [if_neg (by rw [hboot]; decide), if_pos (by rw [hdev]; decide)]
  rw [hu]
  refine ⟨?_, ?_, ?_, ?_, ?_, ?_⟩
  · rw [hget _ (Or.inl (by decide)), get_refShown_ne _ _ (by decide), State.get_put_ne _ _ (by decide),
      get_refShown_ne _ _ (by decide), hcounts, get_count, if_pos rfl]
  · rw [hget _ (Or.inl (by decide)), get_refShown_ne _ _ (by decide), State.get_put_same]
  · rintro e rfl
    rw [hget _ (Or.inl (by decide)), get_refShown_ne _ _ (by decide), State.get_put_ne _ _ (by decide)]
    exact State.get_put_same _ _ _
  · rintro e rfl
    rw [hget _ (Or.inl (by decide))]
    exact State.get_put_same _ _ _
  · intro key hkey hother
    simp only [List.mem_cons, List.not_mem_nil, or_false, not_or] at hother
    obtain ⟨hxo, hcrystal, hsysref⟩ := hother
    have hcount : key ≠ Obj.LOG_CNT 1 := by
      rintro rfl
      exact absurd hkey (by decide)
    rw [hget key (unsampled_of_notLog hkey), get_refShown_ne _ _ hsysref, State.get_put_ne _ _ hxo, get_refShown_ne _ _ hcrystal,
      hcounts, get_count, if_neg hcount]
  · refine StoreOnly.trans ?_ hstore
    rw [hcounts]
    exact storeOnly_put s _ _

/-- A second in RUN. -/
theorem second_in_run {s : State} (hboot : s.boot.poreset = false) (hstate : s.devState = 5) (ref25 : Option Int) (xo : Int)
    (ref156 : Option Int) :
    let u := if s.boot.poreset then s else ((s.secondCounts).secondSamples ref25 xo ref156).secondOthers
    u.get (Obj.LOG_CNT 1) = min (s.get (Obj.LOG_CNT 1) + 1) 0xFFFFFFFFFFFFFFFF ∧
      u.get (Obj.LOG_CNT 2) = min (s.get (Obj.LOG_CNT 2) + 1) 0xFFFFFFFFFFFFFFFF ∧ u.get Obj.CLK_XO_CORR = saturate 32 xo := by
  intro u
  have hcounts := secondCounts_of_run hstate
  obtain ⟨-, hget⟩ := secondSamples_eq s.secondCounts ref25 xo ref156
  have hu : u = (s.secondCounts.secondSamples ref25 xo ref156).secondOthers := if_neg (by rw [hboot]; decide)
  rw [hu]
  refine ⟨?_, ?_, ?_⟩
  · rw [get_secondOthers _ (Or.inr (Or.inl rfl)), hget _ (Or.inl (by decide)), get_refShown_ne _ _ (by decide),
      State.get_put_ne _ _ (by decide), get_refShown_ne _ _ (by decide), hcounts, get_count, if_neg (by decide), get_count, if_pos rfl]
  · rw [get_secondOthers _ (Or.inr (Or.inr rfl)), hget _ (Or.inl (by decide)), get_refShown_ne _ _ (by decide),
      State.get_put_ne _ _ (by decide), get_refShown_ne _ _ (by decide), hcounts, get_count, if_pos rfl, get_count, if_neg (by decide)]
  · rw [get_secondOthers _ (Or.inl rfl), hget _ (Or.inl (by decide)), get_refShown_ne _ _ (by decide), State.get_put_same]

end Sys2Proof.Proofs
end

section
/-!
PROOF. The logbook is flushed and exported (O46).
-/

namespace Sys2Proof.Proofs

open Sys2Proof Sys2Proof.Machine

/-- The frame that the logbook's own changes keep. -/
theorem logFrame {s a : State} {t : Nat} (h : (s.land t).LogOnly a) :
    s.entriesBut a [] ∧
      a = { s.land t with objs := a.objs, icu := a.icu, log := a.log, flash := a.flash, dict := a.dict, out := a.out } :=
  ⟨fun key hkey _ => (h.1 key hkey).trans (State.get_land ..), h.2⟩

theorem logOnly_heard (s : State) (f : Sender) : s.LogOnly (s.heard f) := ⟨fun _ _ => rfl, rfl⟩

theorem logOnly_emit (s : State) (o : Out) : s.LogOnly (s.emit o) := ⟨fun _ _ => rfl, rfl⟩

/-- Settles O46: each flush is a case of the limits of R462, and each end, each second and the copy that leaves follow from its equation. -/
theorem theLogbookIsFlushedAndExported : Obligations.TheLogbookIsFlushedAndExported := by
  unfold Obligations.TheLogbookIsFlushedAndExported
  intro s t
  refine ⟨?periodic, ?early, ?request, ?held, ?spacing, ?verified, ?first, ?second, ?boot, ?run, ?exported⟩
  case periodic =>
    intro slot hstate hlunar hdue hdemand hallowed hslot hstaged
    refine ⟨(s.land t).flushPeriodic, rfl, ?_⟩
    obtain ⟨hbegun, hlogs⟩ := flushPeriodic_shows (s := s.land t) hstate hlunar hdue hdemand hallowed hslot hstaged
    obtain ⟨hprogramming, hlast, hheld, hbusy, hfrozen, hnumber⟩ := hbegun
    obtain ⟨hentries, hframe⟩ := logFrame hlogs
    exact ⟨hprogramming, hlast, hheld, hbusy, hfrozen, hnumber, hentries, hframe⟩
  case early =>
    intro b hlast hearly
    refine ⟨(s.land t).flushPeriodic, rfl, ?_⟩
    rw [flushPeriodic_of_early (s := s.land t) hlast hearly]
    exact ⟨fun key _ => State.get_land .., rfl⟩
  case request =>
    intro f slot hwrite hallowed hslot hstaged
    refine ⟨(s.land t).writeEntry f Obj.LOG_FLUSH_REQ 1, rfl, ?_⟩
    rw [writeEntry_flushReq hwrite]
    obtain ⟨hprogramming, hlast, hheld, hbusy, hfrozen, hnumber⟩ := demandFlush_shows (s := (s.land t).heard f) hallowed hslot hstaged
    obtain ⟨hentries, hframe⟩ := logFrame (((logOnly_heard (s.land t) f).trans (State.logOnly_demandFlush _)).trans (logOnly_emit _ .done))
    generalize ((s.land t).heard f).demandFlush = a at *
    exact ⟨hprogramming, hlast, hheld, hbusy, hfrozen, hnumber, hentries, hframe⟩
  case held =>
    intro f hwrite hforbidden hperiodic
    refine ⟨(s.land t).writeEntry f Obj.LOG_FLUSH_REQ 1, rfl, ?_⟩
    rw [writeEntry_flushReq hwrite, demandFlush_of_forbidden (s := (s.land t).heard f) hforbidden hperiodic]
    exact ⟨rfl, rfl, fun key _ => State.get_land s t key, rfl⟩
  case spacing =>
    intro slot hdemand hallowed hslot hstaged
    refine ⟨(s.land t).serveFlush, rfl, ?_⟩
    have hlogs := State.logOnly_serveFlush (s.land t)
    obtain ⟨hentries, hframe⟩ := logFrame hlogs
    rw [serveFlush_of_demand (s := s.land t) hdemand hallowed] at hentries hframe ⊢
    obtain ⟨hprogramming, hlast, hheld, hbusy, hfrozen, hnumber⟩ := beginFlush_shows (s := s.land t) hslot hstaged true
    exact ⟨hprogramming, hlast, hheld, hbusy, hfrozen, hnumber, hentries, hframe⟩
  case verified =>
    intro slot snap hprogramming hslot hnone
    refine ⟨(s.land t).flushDone true, rfl, ?_⟩
    obtain ⟨hsnap, hidle, hbusy, hcount, hpending, hlogs⟩ := flushDone_verified_shows (s := s.land t) hprogramming hslot hnone
    obtain ⟨hentries, hframe⟩ := logFrame hlogs
    exact ⟨hsnap, hidle, hbusy, hcount, hpending, hentries, hframe⟩
  case first =>
    intro slot next snap hprogramming hnext
    refine ⟨(s.land t).flushDone false, rfl, ?_⟩
    rw [flushDone_of_firstFailure (s := s.land t) hprogramming hnext]
    exact ⟨rfl, rfl, rfl, fun key _ => State.get_land s t key, rfl⟩
  case second =>
    intro slot first snap hprogramming hfailed hslot hfirst _
    refine ⟨(s.land t).flushDone false, rfl, ?_⟩
    obtain ⟨hbad, hbadFirst, hpending, hlogs⟩ := flushDone_secondFailure_shows (s := s.land t) hprogramming hfailed hslot hfirst
    obtain ⟨hentries, hframe⟩ := logFrame hlogs
    exact ⟨hbad, hbadFirst, hpending, hentries, hframe⟩
  case boot =>
    intro ref25 xo ref156 hboot hstate
    refine ⟨if (s.land t).boot.poreset then s.land t else
      (((s.land t).secondCounts).secondSamples ref25 xo ref156).secondOthers, rfl, ?_⟩
    obtain ⟨hcount, hxo, hcrystal, hsysref, hentries, hstore⟩ := second_in_boot (s := s.land t) hboot hstate ref25 xo ref156
    refine ⟨hcount, hxo, hcrystal, hsysref, fun key hkey hother => (hentries key hkey hother).trans (State.get_land ..), ?_⟩
    unfold StoreOnly at hstore
    rw [hstore]
  case run =>
    intro ref25 xo ref156 hboot hstate
    refine ⟨if (s.land t).boot.poreset then s.land t else
      (((s.land t).secondCounts).secondSamples ref25 xo ref156).secondOthers, rfl, ?_⟩
    exact second_in_run (s := s.land t) hboot hstate ref25 xo ref156
  case exported =>
    intro f hwrite
    refine ⟨(s.land t).writeEntry f Obj.LOG_EXPORT_REQ 1, rfl, ?_⟩
    rw [writeEntry_exportReq hwrite]
    obtain ⟨hexported, hgen, hpending, hlogs⟩ := exportFreeze_shows ((s.land t).heard f)
    obtain ⟨hentries, hframe⟩ := logFrame (((logOnly_heard (s.land t) f).trans hlogs).trans (logOnly_emit _ .done))
    refine ⟨hexported, ?_, hpending, ?_, hentries, hframe⟩
    · rw [State.getN, State.get_emit]
      exact hgen
    · exact List.mem_append_right _ List.mem_cons_self

end Sys2Proof.Proofs
end

section
/-!
PROOF. What follows a command leaves the device's own entries, and so the state of a device in CONFIG.
-/

namespace Sys2Proof.Proofs

open Sys2Proof Sys2Proof.Machine

section
variable {o : Bool}

theorem apart_change (s : State) (c : Change) (boundary : Nat) : Apart o s (s.change c boundary) := by
  have hcounted (gen : Nat) : Apart o s (s.put Obj.RED_STATE_GEN gen) := apart_put s _ (by decide)
  unfold State.change
  exact .ite (.refl s) (.ite ((hcounted _).trans (apart_withRed _ _)) (hcounted _))

theorem apart_recordChanges (before s : State) : Apart o s (before.recordChanges s) := by
  unfold State.recordChanges
  split
  · exact .refl s
  · extract_lets classes recorded tuned described planned
    have hrecorded : Apart o s recorded := apart_foldl (fun a _ _ => apart_change a _ _) s
    have hdescribed : Apart o s described := hrecorded.trans (apart_foldl (fun a _ _ => apart_change a _ _) recorded)
    have hplanned : Apart o s planned := by
      unfold planned
      split
      · exact .ite hdescribed (hdescribed.trans (apart_change _ _ _))
      · exact hdescribed
    split
    · exact .ite hplanned (hplanned.trans (apart_change _ _ _))
    · exact hplanned

theorem apart_cmtEntry (s : State) (type channel : Nat) (words : List Nat) (e : CmtEntry) :
    Apart o s (s.cmtEntry type channel words e) := by
  unfold State.cmtEntry
  split
  · exact .refl s
  · extract_lets isIt
    split
    · exact apart_withCmt s _
    · exact .ite ((apart_withCmt s _).trans (apart_cmtWrite _ _)) (apart_withCmt s _)

theorem apart_cmtEdge (s : State) (i : Nat) (level : Bool) (time frac : Nat) (tap : Bool) :
    Apart o s (s.cmtEdge i level time frac tap) := by
  unfold State.cmtEdge
  refine .ite (.refl s) (.ite ?lost ((apart_withCmt s _).trans (apart_cmtEntry _ _ _ _ _)))
  case lost =>
    exact (Apart.trans (.ite (.refl s) (apart_raise s 420)) (apart_withCmt _ _)).trans (apart_bump _ (by decide))

theorem apart_cmtTrigger (s : State) : Apart o s s.cmtTrigger := by
  unfold State.cmtTrigger
  split
  · exact .refl s
  · extract_lets best mask s0 s1 preceded tr s2 s3
    split
    · exact (apart_withCmt s _).trans (apart_withCmt _ _)
    · have hmarked : Apart o s s2 := ((apart_withCmt s _).trans (apart_cmtComplete _ _)).trans (apart_cmtWrite _ _)
      exact ((hmarked.trans (apart_withCmt _ _)).trans (apart_put _ _ (by decide))).trans (apart_raise _ _)

theorem apart_cmtSee (s : State) (fine : Option Int) : Apart o s (s.cmtSee fine) := by
  unfold State.cmtSee
  split
  · exact apart_withCmt s _
  · extract_lets old new s1 s2 s3 began s4
    have hseen : Apart o s s2 := by
      refine (apart_withCmt s _).trans (.ite (.refl _) (apart_foldl (fun a i _ => ?_) s1))
      exact .ite (.refl a) (apart_cmtEdge a _ _ _ _ _)
    have hmatched : Apart o s s3 := hseen.trans (.ite (.refl s2) (apart_withCmt s2 _))
    have hdated : Apart o s s4 := hmatched.trans (.ite (apart_withCmt s3 _) (.refl s3))
    exact hdated.trans (apart_cmtTrigger s4)

theorem apart_dchAccrue (s : State) {k : Nat} (hk : k < 4) : Apart o s (s.dchAccrue k) := by
  unfold State.dchAccrue
  split
  · exact .refl s
  · refine .ite ?_ (.refl s)
    have hdch (f : Chopper → Chopper) : Apart o s (s.withDch k f) := .of_objs rfl rfl rfl rfl
    have htime (a : State) (v : Int) : Apart o a (a.put (Obj.PRT_DCH_ON_TIME k) v) :=
      apart_put a v (apartKey_indexed rfl (by decide) (by omega))
    have hcount (a : State) (v : Int) : Apart o a (a.put (Obj.LOG_CNT 0x23) v) := apart_put a v (by decide)
    exact ((hdch _).trans (htime _ _)).trans (hcount _ _)

theorem apart_dchDrive (s : State) : Apart o s s.dchDrive := by
  refine apart_foldl (fun a k hk => ?_) s
  have hlt := List.mem_range.1 hk
  have hdch (b : State) (f : Chopper → Chopper) : Apart o b (b.withDch k f) := .of_objs rfl rfl rfl rfl
  split
  · exact .refl a
  · exact .ite (.refl a) (.ite ((hdch a _).trans (apart_dchEval _ hlt))
      (((apart_dchAccrue a hlt).trans (hdch _ _)).trans (apart_dchEval _ hlt)))

theorem apart_meaSources (s : State) : Apart o s s.meaSources :=
  apart_foldl (fun a _ hg => apart_meaSourced a (List.mem_range.1 hg)) s

end

/-- A state in which no cause acts stays as the command left it. -/
theorem get_devState_settle (before : State) {s : State} {v : Int} (hvalue : s.get Obj.DEV_STATE = v) (hfit : Obj.fit Obj.DEV_STATE v = v)
    (hfree : v.toNat ≠ stBlocked ∧ v.toNat ≠ stRun ∧ v.toNat ≠ stTrip) : (State.settle before s).get Obj.DEV_STATE = v := by
  have hsources : (before.recordChanges s.meaSources).get Obj.DEV_STATE = v := by
    rw [(apart_recordChanges (o := false) before s.meaSources).state, (apart_meaSources (o := false) s).state, hvalue]
  have hheld : (before.recordChanges s.meaSources).fit.get Obj.DEV_STATE = v := by rw [get_fit, hsources, hfit]
  have hserved : (before.recordChanges s.meaSources).fit.tripServe = (before.recordChanges s.meaSources).fit := by
    obtain ⟨hblocked, hrun, htrip⟩ := hfree
    have hstate : (before.recordChanges s.meaSources).fit.devState = v.toNat := congrArg Int.toNat hheld
    rw [State.tripServe, hstate, decide_eq_false hblocked, decide_eq_false hrun, if_neg (by decide), if_neg htrip]
  have hseen : ((before.recordChanges s.meaSources).fit.tripServe.dchDrive.carMasks.cmtSee none).get Obj.DEV_STATE = v := by
    rw [(apart_cmtSee (o := false) _ none).state, (apart_carMasks (o := false) _).state, (apart_dchDrive (o := false) _).state, hserved,
      hheld]
  rw [State.settle_eq, State.settleAt, get_fit, hseen, hfit]

end Sys2Proof.Proofs
end

section
/-!
PROOF. The entry to CONFIG (R464, R486): the counters of the newest snapshot are added to whatever entries it names, and the statement
bounds no snapshot.
-/

namespace Sys2Proof.Proofs

open Sys2Proof Sys2Proof.Machine

/-! ## What boot completes with leaves DEV_STATE as the restoration of the logbook gives it -/

/-- The device as the dictionary image is in force, before the logbook is restored (R486). -/
def bootConfigured (s : State) (reads : List Bool) (copies : Nat) : State :=
  ((((s.pllAllDone.put Obj.DEV_STATE stConfig).put Obj.DEV_STATE_SINCE s.time32).put Obj.RED_PARTNER_ABSENT 0).keysRead
    copies).imageBoot reads

theorem get_ageLoad (s : State) (a : AgeState) : (s.ageLoad a).get Obj.DEV_STATE = s.get Obj.DEV_STATE := by
  have hplaced (b : State) (p : Plan) :
      ((List.range 6).foldl (fun s i => s.put (Obj.AGE_ARM_DERATE i) (p.derate.getD i 1000)) b).get Obj.DEV_STATE =
        b.get Obj.DEV_STATE := by
    refine foldl_related (R := fun a b => b.get Obj.DEV_STATE = a.get Obj.DEV_STATE) (fun _ => rfl) (fun h g => g.trans h) _
      (fun c i _ => ?_) b
    exact State.get_put_ne _ _ (by simp only [Obj.AGE_ARM_DERATE, Obj.DEV_STATE]; omega)
  unfold State.ageLoad
  extract_lets known s1 s2
  have hloaded : s2.get Obj.DEV_STATE = s.get Obj.DEV_STATE := State.get_put_ne _ _ (by decide)
  split
  · exact hloaded
  · rw [State.get_setBit, if_neg (by decide), State.get_put_ne _ _ (by decide), hplaced, hloaded]

theorem get_ageRestore (s : State) (newer older image : Option AgeState) (blank : Bool) :
    (s.ageRestore newer older image blank).get Obj.DEV_STATE = s.get Obj.DEV_STATE := by
  have houtcome (a : State) (code subject : Nat) (data : List Nat) (lasting : Bool) :
      (a.siteOutcome 0x10 code subject data lasting).get Obj.DEV_STATE = a.get Obj.DEV_STATE :=
    (apart_siteOutcome (o := false) a 0x10 code subject data lasting (by decide)).state
  have hbit (a : State) (i : Nat) : (a.setBit Obj.AGE_STATUS i true).get Obj.DEV_STATE = a.get Obj.DEV_STATE := by
    rw [State.get_setBit, if_neg (by decide)]
  unfold State.ageRestore
  extract_lets s0 s1
  have h0 : s0.get Obj.DEV_STATE = s.get Obj.DEV_STATE := rfl
  split
  · rw [hbit, get_ageLoad, h0]
  · rw [houtcome, hbit, get_ageLoad, h0]
  · have h1 : s1.get Obj.DEV_STATE = s.get Obj.DEV_STATE := by
      unfold s1
      split
      · rw [get_ageLoad, h0]
      · exact h0
    split
    · exact h1
    · rw [houtcome, State.get_raise, hbit, h1]

theorem get_journalAt (s : State) (uptime code subject : Nat) (data : List Nat) (counter : Nat) (transient lasting : Bool) :
    (s.journalAt uptime code subject data counter transient lasting).get Obj.DEV_STATE = s.get Obj.DEV_STATE :=
  (State.logOnly_journalAt ..).1 _ (by decide)

theorem get_journalCause (s : State) : s.journalCause.get Obj.DEV_STATE = s.get Obj.DEV_STATE := by
  unfold State.journalCause
  extract_lets code counter s1
  have h1 : s1.get Obj.DEV_STATE = s.get Obj.DEV_STATE := by
    unfold s1
    split
    · rfl
    · exact (apart_count (o := false) s counter).state
  rw [get_journalAt, State.get_put_ne _ _ (by decide), h1]

theorem get_journalBoot (s : State) : s.journalBoot.get Obj.DEV_STATE = s.get Obj.DEV_STATE := by
  unfold State.journalBoot
  extract_lets s1 b s2
  have h1 : s1.get Obj.DEV_STATE = s.get Obj.DEV_STATE :=
    foldl_related (R := fun a b => b.get Obj.DEV_STATE = a.get Obj.DEV_STATE) (fun _ => rfl) (fun h g => g.trans h) _
      (fun a r _ => get_journalAt a _ _ _ _ _ _ _) s
  exact (get_journalAt s1 _ _ _ _ _ _ _).trans h1

theorem get_bootLine (s : State) (stage bank attempt reason : Nat) :
    (s.bootLine stage bank attempt reason).get Obj.DEV_STATE = s.get Obj.DEV_STATE :=
  (State.logOnly_uartLine ..).1 _ (by decide)

theorem get_canBootUp (s : State) : s.canBootUp.get Obj.DEV_STATE = s.get Obj.DEV_STATE := by
  have hsend (a : State) (port : Nat) : (a.canSend port 0x700 [0]).get Obj.DEV_STATE = a.get Obj.DEV_STATE := by
    unfold State.canSend
    split
    · exact State.get_emit ..
    · rfl
  exact (hsend _ 1).trans (hsend s 0)

theorem get_bootComplete {s : State} (hstate : s.devState = stBoot) (hheld : s.boot.held = false)
    (hverified : s.boot.verified.isSome = true)
    (reads : List Bool) (bad : List Nat) (copies : Nat) :
    (s.bootComplete reads bad copies).get Obj.DEV_STATE = ((bootConfigured s reads copies).logRestore bad).get Obj.DEV_STATE := by
  have hopen : ¬(s.devState ≠ stBoot || s.boot.held || s.boot.verified.isNone) = true := by
    cases hsome : s.boot.verified with
    | none => rw [hsome] at hverified; exact absurd hverified (by decide)
    | some b => rw [hstate, hheld]; exact Bool.false_ne_true
  unfold State.bootComplete
  rw [if_neg hopen]
  extract_lets s1 s2 old s3 s4 s5 s6
  have h3 : s3.get Obj.DEV_STATE = (s2.logRestore bad).get Obj.DEV_STATE := get_ageRestore _ _ _ _ _
  have h4 : s4.get Obj.DEV_STATE = s3.get Obj.DEV_STATE := by
    unfold s4
    rw [(apart_event (o := false) _ _ _ _).state, get_journalBoot, get_journalCause]
  have h5 : s5.get Obj.DEV_STATE = s4.get Obj.DEV_STATE := by
    unfold s5
    rw [(avsEnter_keeps _).1, (apart_meaStart (o := false) _).state, (apart_swgIdle (o := false) _).state, State.restRole,
      (apart_setRole (o := false) _ _ _).state, (apart_enginesLoad (o := false) _).state]
  rw [(apart_demandFlush (o := false) _).state, get_canBootUp, get_bootLine, h5, h4, h3]
  rfl

/-! ## The restoration adds what the newest snapshot names -/

/-- A snapshot that names DEV_STATE among its counters. -/
def strayCounters : Snapshot := { State.reset.freeze with counters := [(Obj.DEV_STATE, 253)] }

/-- The one slot that the snapshot lies in. -/
def straySlots : List FlashSlot := [{ good := true, erases := 0, snap := some strayCounters }]

theorem get_count_devState (s : State) (c : Nat) : (s.count c).get Obj.DEV_STATE = s.get Obj.DEV_STATE :=
  (apart_count (o := false) s c).state

theorem get_logRestore_stray {s : State} (hslots : s.flash.slots = straySlots) :
    (s.logRestore []).get Obj.DEV_STATE = min (s.get Obj.DEV_STATE + 253) 0xFFFFFFFFFFFFFFFF := by
  have hheld : (List.range 28).filterMap (fun i =>
      if i ∈ ([] : List Nat) then none else (s.flash.slots[i]?.bind (·.snap)).map fun p => (i, p)) = [(0, strayCounters)] := by
    rw [hslots]
    rfl
  unfold State.logRestore
  rw [hheld]
  extract_lets hd best s1 old after s2 slot s3
  have h1 : s1.get Obj.DEV_STATE = min (s.get Obj.DEV_STATE + 253) 0xFFFFFFFFFFFFFFFF := State.get_put_same _ _ _
  have h2 : s2.get Obj.DEV_STATE = s1.get Obj.DEV_STATE := by
    refine foldl_related (R := fun a b => b.get Obj.DEV_STATE = a.get Obj.DEV_STATE) (fun _ => rfl) (fun h g => g.trans h) _
      (fun a r _ => ?_) s1
    split
    · rfl
    · exact get_count_devState a _
  have h3 : s3.get Obj.DEV_STATE = s2.get Obj.DEV_STATE := by
    unfold s3 State.slotsShow
    rw [State.get_setBit, if_neg (by decide), State.get_put_ne _ _ (by decide), State.get_put_ne _ _ (by decide), State.get_setBit,
      if_neg (by decide)]
  rw [State.get_raise, State.journal, State.get_journalFull _ _ _ _ _ _ _ (by decide), h3, h2, h1]

/-! ## Banks that do not read leave the slots -/

/-- With the one slot no flush may begin, and DEV_STATE and the slots stay. -/
structure StrayKept (a b : State) : Prop where
  state : b.get Obj.DEV_STATE = a.get Obj.DEV_STATE
  slots : b.flash.slots = a.flash.slots
  periodic : b.log.periodic = a.log.periodic

theorem StrayKept.trans {a b c : State} (h : StrayKept a b) (g : StrayKept b c) : StrayKept a c :=
  ⟨g.state.trans h.state, g.slots.trans h.slots, g.periodic.trans h.periodic⟩

theorem StrayKept.of_journal {a b : State} (h : JournalChange a b) : StrayKept a b :=
  ⟨h.entries _ (by decide), by rw [h.flash], by rw [h.log]⟩

theorem strayKept_put (s : State) {key : Nat} (v : Int) (h : Obj.DEV_STATE ≠ key) : StrayKept s (s.put key v) :=
  ⟨State.get_put_ne _ _ h, by rw [State.put_flash], by rw [State.put_log]⟩

theorem flushForbidden_stray {s : State} (hslots : s.flash.slots = straySlots) (demanded : Bool) : s.flushAllowed demanded = false := by
  have hfew : s.goodSlots = 1 := by
    rw [State.goodSlots, hslots]
    rfl
  rw [State.flushAllowed, hfew]
  simp

theorem strayKept_lasting {s : State} (hslots : s.flash.slots = straySlots) (hperiodic : s.log.periodic = false) (code subject : Nat) :
    StrayKept s (s.siteOutcome 0x11 code subject [] true) := by
  have hcounted : StrayKept s (s.add64 (Obj.LOG_RETRY_LASTING 16) 1) := strayKept_put s _ (by decide)
  have hdemand : (s.add64 (Obj.LOG_RETRY_LASTING 16) 1).demandFlush = _ :=
    demandFlush_of_forbidden (flushForbidden_stray (hcounted.slots.trans hslots) true) (hcounted.periodic.trans hperiodic)
  have hheld : StrayKept (s.add64 (Obj.LOG_RETRY_LASTING 16) 1) (s.add64 (Obj.LOG_RETRY_LASTING 16) 1).demandFlush := by
    rw [hdemand]
    exact ⟨rfl, rfl, rfl⟩
  exact (hcounted.trans hheld).trans (.of_journal (journalChange_journalFull _ _ _ _ _ _ _))

theorem bankLoad_of_unread (s : State) (bank : Nat) :
    s.bankLoad bank [false, false] =
      (((((s.put Obj.DEV_IMAGE_STATUS 2).raise 453).put Obj.DEV_IMAGE_STATUS 2).raise 453).siteOutcome 0x11 453 bank [] true, false) := by
  unfold State.bankLoad
  extract_lets attempt
  have hfails (a : State) : attempt a false = ((a.put Obj.DEV_IMAGE_STATUS 2).raise 453, false) := by
    unfold attempt
    cases a.flash.banks.getD bank none <;> rfl
  have hfirst : attempt s ([false, false].getD 0 true) = _ := hfails s
  rw [hfirst]
  have hsecond : attempt ((s.put Obj.DEV_IMAGE_STATUS 2).raise 453) ([false, false].getD 1 true) = _ := hfails _
  dsimp only
  rw [hsecond]

theorem strayKept_bankLoad {s : State} (hslots : s.flash.slots = straySlots) (hperiodic : s.log.periodic = false) (bank : Nat) :
    StrayKept s (s.bankLoad bank [false, false]).1 := by
  have hraised (a : State) : StrayKept a ((a.put Obj.DEV_IMAGE_STATUS 2).raise 453) :=
    (strayKept_put a 2 (by decide)).trans (.of_journal (journalChange_raise _ _))
  have htwice := (hraised s).trans (hraised _)
  rw [bankLoad_of_unread]
  exact htwice.trans (strayKept_lasting (htwice.slots.trans hslots) (htwice.periodic.trans hperiodic) 453 bank)

theorem imageBoot_of_unread (s : State) :
    s.imageBoot [false, false, false, false] =
      let s1 := (s.banksShow.bankLoad (s.directory.preferredDict % 2) [false, false]).1
      let s2 := (s1.bankLoad (1 - s.directory.preferredDict % 2) [false, false]).1
      { s2.put Obj.DEV_IMAGE_STATUS 0 with boot := { s2.boot with dictBank := 0xFF } } := by
  have hfails (a : State) (bank : Nat) : a.bankLoad bank [false, false] = ((a.bankLoad bank [false, false]).1, false) := by
    rw [bankLoad_of_unread]
  unfold State.imageBoot
  extract_lets first
  have hfirst : s.banksShow.bankLoad first ([false, false, false, false].take 2) = _ := hfails s.banksShow first
  rw [hfirst]
  dsimp only
  have hsecond : (s.banksShow.bankLoad first [false, false]).1.bankLoad (1 - first) ([false, false, false, false].drop 2) = _ :=
    hfails _ (1 - first)
  rw [hsecond]

theorem strayKept_imageBoot {s : State} (hslots : s.flash.slots = straySlots) (hperiodic : s.log.periodic = false) :
    StrayKept s (s.imageBoot [false, false, false, false]) := by
  rw [imageBoot_of_unread]
  extract_lets s1 s2
  have hshown : StrayKept s s.banksShow := strayKept_put s _ (by decide)
  have h1 : StrayKept s s1 := hshown.trans (strayKept_bankLoad (hshown.slots.trans hslots) (hshown.periodic.trans hperiodic) _)
  have h2 : StrayKept s s2 := h1.trans (strayKept_bankLoad (h1.slots.trans hslots) (h1.periodic.trans hperiodic) _)
  have h3 : StrayKept s (s2.put Obj.DEV_IMAGE_STATUS 0) := h2.trans (strayKept_put s2 0 (by decide))
  exact ⟨h3.state, h3.slots, h3.periodic⟩

/-! ## The device that does not complete in CONFIG -/

/-- BOOT with a bank that has verified, and that snapshot in the first slot. -/
def strayState : State :=
  { State.reset.put Obj.DEV_STATE stBoot with
    boot := { State.reset.boot with poreset := false, verified := some 0 }
    flash := { State.reset.flash with slots := straySlots } }

theorem get_bootComplete_stray :
    ((strayState.land 0).bootComplete [false, false, false, false] [] 0).get Obj.DEV_STATE = 255 := by
  have hkept : StrayKept _ (bootConfigured (strayState.land 0) [false, false, false, false] 0) :=
    strayKept_imageBoot (s := ((((strayState.land 0).pllAllDone.put Obj.DEV_STATE stConfig).put Obj.DEV_STATE_SINCE
      (strayState.land 0).time32).put Obj.RED_PARTNER_ABSENT 0).keysRead 0) rfl rfl
  have hconfig : (bootConfigured (strayState.land 0) [false, false, false, false] 0).get Obj.DEV_STATE = 2 := hkept.state.trans rfl
  rw [get_bootComplete (by decide) rfl rfl, get_logRestore_stray (hkept.slots.trans rfl), hconfig]
  decide

/-- Refutes O14: the restoration adds the counters of a snapshot to the entries it names (R464), and no premise of the last clause keeps
DEV_STATE out of them; boot then does not complete in CONFIG. -/
theorem not_firmwareBanksAndConfig : ¬ Obligations.FirmwareBanksAndConfig := by
  intro h
  obtain ⟨-, -, -, -, -, hcomplete⟩ := h strayState 0 (by decide) rfl
  obtain ⟨u, hexec, hstate, -⟩ := hcomplete [false, false, false, false] [] 0 rfl
  have hsettled : State.settle (strayState.land 0) ((strayState.land 0).bootComplete [false, false, false, false] [] 0) =
      State.settle (strayState.land 0) u := Host.Outcome.next.inj hexec
  have hvalue : u.get Obj.DEV_STATE = 2 := by
    have hnat : (u.get Obj.DEV_STATE).toNat = 2 := hstate
    omega
  have hconfig := get_devState_settle (strayState.land 0) hvalue rfl (by decide)
  have hstray := get_devState_settle (strayState.land 0) get_bootComplete_stray rfl (by decide)
  rw [hsettled, hconfig] at hstray
  exact absurd hstray (by decide)

end Sys2Proof.Proofs
end

section
/-!
PROOF. What each reset clears, keeps and records (R472 to R475, R291, R373).
-/

namespace Sys2Proof.Proofs

open Sys2Proof Sys2Proof.Machine

/-! ## Boot begins (R472, R473) -/

/-- What a boot that begins shows. -/
structure BootBegun (s u : State) (unitB : Bool) : Prop where
  state : u.devState = stBoot
  unit : u.get Obj.DEV_UNIT = if unitB then 1 else 0
  node : u.get (Obj.CAN_NODE_ID 0) = if unitB then 17 else 16
  select : u.boot.bootSel = s.boot.bootSel
  watchdog : u.boot.watchdog = decide (s.boot.bootSel ≠ 3)
  held : u.boot.held = decide (s.boot.bootSel = 3)
  jtag : u.boot.jtagHold = s.boot.jtagHold
  counter : u.counter = 0
  cause : u.aon.cause = s.aon.cause
  watchdogBoots : u.aon.watchdogBoots = s.aon.watchdogBoots
  flash : u.flash = s.flash
  otp : u.otp = s.otp
  entries : State.reset.onlyEntries u [Obj.DEV_STATE, Obj.DEV_UNIT, Obj.CAN_NODE_ID 0, Obj.CAN_NODE_ID 1]

/-- A line that finds the transmit buffer empty is sent (R466). -/
theorem uartLine_of_empty {s : State} (hreset : s.devState ≠ stReset) (hlunar : s.devState ≠ stLunar) (hempty : s.dict.uartFill = 0)
    {chars : List Nat} (hfits : chars.length ≤ 8192) :
    s.uartLine chars = { s with dict := { s.dict with uartFill := chars.length * 1000000000, uartAt := s.now } }.emit (.uart chars) := by
  unfold State.uartLine
  rw [hempty, if_neg (by simp [hreset, hlunar])]
  simp only [Nat.zero_sub, Nat.zero_add]
  rw [if_neg (by omega)]

/-- The entries of a device whose boot begins. -/
def bootEntries (s : State) (unitB : Bool) : State :=
  (((s.cleared.put Obj.DEV_STATE stBoot).put Obj.DEV_UNIT (if unitB then 1 else 0)).put (Obj.CAN_NODE_ID 0) (if unitB then 17 else 16)).put
    (Obj.CAN_NODE_ID 1) (if unitB then 17 else 16)

/-- The device whose boot begins, before its first line. -/
def bootSampled (s : State) (unitB : Bool) : State :=
  { bootEntries s unitB with
    boot := { (bootEntries s unitB).boot with
      released := (bootEntries s unitB).now
      watchdog := !decide ((bootEntries s unitB).boot.bootSel = 3)
      held := decide ((bootEntries s unitB).boot.bootSel = 3)
      bank := (bootEntries s unitB).bootPreferred }
    dict := { (bootEntries s unitB).dict with
      nodeIds := [(if unitB then 17 else 16 : Int).toNat, (if unitB then 17 else 16 : Int).toNat], uartAt := (bootEntries s unitB).now } }

theorem bootBegin_eq (s : State) (unitB : Bool) :
    s.bootBegin unitB =
      let s4 := (bootSampled s unitB).bootLine (Config.stageCode 0).toNat (bootSampled s unitB).boot.bank 1 0
      if (bootEntries s unitB).boot.bootSel = 3 then s4.bootRecord 0x0226 [] else s4 := rfl

theorem get_bootEntries (s : State) (unitB : Bool) (key : Nat) :
    (bootEntries s unitB).get key =
      if key = Obj.CAN_NODE_ID 1 then (if unitB then 17 else 16) else if key = Obj.CAN_NODE_ID 0 then (if unitB then 17 else 16)
      else if key = Obj.DEV_UNIT then (if unitB then 1 else 0) else if key = Obj.DEV_STATE then (stBoot : Int)
      else State.reset.get key := by
  unfold bootEntries
  rw [State.get_put, State.get_put, State.get_put, State.get_put]
  rfl

theorem bootSampled_shows (s : State) (unitB : Bool) : BootBegun s (bootSampled s unitB) unitB := by
  have hget (key : Nat) : (bootSampled s unitB).get key = (bootEntries s unitB).get key := rfl
  refine ⟨?_, ?_, ?_, rfl, ?_, rfl, rfl, ?_, rfl, rfl, rfl, rfl, fun key hkey => ?_⟩
  · rw [State.devState, State.getN, hget, get_bootEntries, if_neg (by decide), if_neg (by decide), if_neg (by decide), if_pos rfl]
    rfl
  · rw [hget, get_bootEntries, if_neg (by decide), if_neg (by decide), if_pos rfl]
  · rw [hget, get_bootEntries, if_neg (by decide), if_pos rfl]
  · exact (decide_not).symm
  · have hrate : (bootSampled s unitB).get Obj.TIM_RATE_ADJ = State.reset.get Obj.TIM_RATE_ADJ := by
      rw [hget, get_bootEntries, if_neg (by decide), if_neg (by decide), if_neg (by decide), if_neg (by decide)]
    have hbase : (bootSampled s unitB).tim.base = 0 := rfl
    have hsince : (bootSampled s unitB).now - (bootSampled s unitB).tim.since = 0 := Nat.sub_self s.now
    rw [State.counter, hbase, hsince]
    simp
  · simp only [List.mem_cons, List.not_mem_nil, or_false, not_or] at hkey
    obtain ⟨hstate, hunit, hnode, hother⟩ := hkey
    rw [hget, get_bootEntries, if_neg hother, if_neg hnode, if_neg hunit, if_neg hstate]

theorem BootBegun.line {s a : State} {unitB : Bool} (h : BootBegun s a unitB) (hempty : a.dict.uartFill = 0) (stage bank : Nat) :
    BootBegun s (a.bootLine stage bank 1 0) unitB := by
  have hline : a.bootLine stage bank 1 0 = _ :=
    uartLine_of_empty (by rw [h.state]; decide) (by rw [h.state]; decide) hempty (chars := [66, 32] ++ hexOf [stage] ++ [32] ++
      hexOf [bank] ++ [32] ++ hexOf [1] ++ [32] ++ hexOf [0] ++ [13, 10]) (by simp [hexOf])
  rw [hline]
  obtain ⟨hstate, hunit, hnode, hselect, hwatchdog, hheld, hjtag, hcounter, hcause, hboots, hflash, hotp, hentries⟩ := h
  exact ⟨hstate, hunit, hnode, hselect, hwatchdog, hheld, hjtag, hcounter, hcause, hboots, hflash, hotp, hentries⟩

theorem BootBegun.record {s a : State} {unitB : Bool} (h : BootBegun s a unitB) (code : Nat) (data : List Nat) :
    BootBegun s (a.bootRecord code data) unitB := by
  obtain ⟨hstate, hunit, hnode, hselect, hwatchdog, hheld, hjtag, hcounter, hcause, hboots, hflash, hotp, hentries⟩ := h
  exact ⟨hstate, hunit, hnode, hselect, hwatchdog, hheld, hjtag, hcounter, hcause, hboots, hflash, hotp, hentries⟩

theorem bootBegin_shows (s : State) (unitB : Bool) : BootBegun s (s.bootBegin unitB) unitB := by
  have hline := (bootSampled_shows s unitB).line rfl (Config.stageCode 0).toNat (bootSampled s unitB).boot.bank
  rw [bootBegin_eq]
  dsimp only
  split
  · exact hline.record 0x0226 []
  · exact hline

/-! ## Resets -/

theorem strapB_iff (s : State) : (s.strapB = true) ↔ s.get Obj.DEV_UNIT = 1 := by
  rw [State.strapB, decide_eq_true_iff, State.getN]
  omega

/-- A reset without PORESET_N begins a boot with the straps sampled before, and keeps its cause (R474). -/
theorem resetWith_shows (s : State) (cause : Nat) :
    BootBegun { s with aon := { s.aon with cause := cause } } (s.resetWith cause) s.strapB := bootBegin_shows _ _

/-- The release of PORESET_N begins a boot with the levels of the straps (R472, R473). -/
theorem poresetRelease_begins {s : State} (hporeset : s.boot.poreset = true) (unitB : Bool) (sel : Nat) :
    ∃ a : State, s.poresetRelease unitB sel = a.bootBegin unitB ∧ a.boot.bootSel = sel % 4 ∧ a.aon.cause = 0x0200 ∧ a.flash = s.flash ∧
      a.otp = s.otp :=
  ⟨_, if_neg (by rw [hporeset]; decide), rfl, rfl, rfl, rfl⟩

/-- An expiry before CONFIG counts against the bank (R482). -/
def expiryCounted (s : State) : State :=
  if s.devState = stBoot then
    { s with aon := { s.aon with
      watchdogBoots := s.aon.watchdogBoots.set s.boot.bank (s.aon.watchdogBoots.getD s.boot.bank 0 + 1) } }
  else s

theorem watchdogExpiry_of_armed {s : State} (harmed : s.boot.watchdog = true) (hlunar : s.devState ≠ stLunar)
    (hporeset : s.boot.poreset = false) (hhold : s.boot.jtagHold = false)
    (hlate : s.devState = stBoot → s.boot.released + 2000000000 ≤ s.now) :
    s.watchdogExpiry = (expiryCounted s).resetWith 0x0201 := by
  have htime : s.bootInTime = false := by
    rw [State.bootInTime, Bool.and_eq_false_iff]
    by_cases hboot : s.devState = stBoot
    · exact .inr (decide_eq_false (Nat.not_lt.2 (hlate hboot)))
    · exact .inl (decide_eq_false hboot)
  rw [State.watchdogExpiry, harmed, hporeset, hhold, htime, decide_eq_false hlunar, if_neg (by decide)]
  rfl

theorem watchdogBoots_expiryCounted {s : State} (hboot : s.devState = stBoot) (hbank : s.boot.bank < s.aon.watchdogBoots.length) :
    (expiryCounted s).aon.watchdogBoots[s.boot.bank]? = (s.aon.watchdogBoots[s.boot.bank]?).map (· + 1) := by
  rw [expiryCounted, if_pos hboot]
  dsimp only
  rw [List.getElem?_set_self hbank, List.getElem?_eq_getElem hbank, List.getD_eq_getElem _ _ hbank]
  rfl

/-- Counting the expiry changes AON alone. -/
theorem expiryCounted_frame (s : State) :
    (expiryCounted s).strapB = s.strapB ∧ (expiryCounted s).boot = s.boot ∧ (expiryCounted s).flash = s.flash ∧
      (expiryCounted s).otp = s.otp := by
  unfold expiryCounted
  split
  · exact ⟨rfl, rfl, rfl, rfl⟩
  · exact ⟨rfl, rfl, rfl, rfl⟩

/-- A boundary-scan test instruction leaves the side alone of the entries (R291). -/
theorem get_jtagCleared (s : State) (v : Int) (key : Nat) :
    (s.cleared.put Obj.DEV_UNIT v).get key = if key = Obj.DEV_UNIT then v else State.reset.get key := by
  rw [State.get_put]
  rfl

/-- Settles O13: every reset is a boot that begins, or the cleared device that RESET holds. -/
theorem resetsClearTheDevice : Obligations.ResetsClearTheDevice := by
  unfold Obligations.ResetsClearTheDevice
  intro s t
  refine ⟨?assert, ?glitch, ?release, ?watchdog, ?lockstep, ?jtag, ?leave⟩
  case assert =>
    intro low lost hlow
    refine ⟨(s.land t).poresetAssert low lost, rfl, ?_⟩
    rw [State.poresetAssert, if_neg (Nat.not_lt.2 hlow)]
    refine ⟨rfl, rfl, rfl, rfl, rfl, rfl, ?_⟩
    rintro rfl
    rfl
  case glitch =>
    intro low lost hlow
    exact ⟨(s.land t).poresetAssert low lost, rfl, if_pos hlow⟩
  case release =>
    intro unitB sel hporeset hsel
    refine ⟨(s.land t).poresetRelease unitB sel, rfl, ?_⟩
    obtain ⟨a, hbegins, hsampled, hsource, hkeptFlash, hkeptOtp⟩ := poresetRelease_begins (s := s.land t) hporeset unitB sel
    obtain ⟨hstate, hunit, hnode, hselect, hwatchdog, hheld, hjtag, hcounter, hcause, hboots, hflash, hotp, hentries⟩ :=
      bootBegin_shows a unitB
    rw [hsampled, Nat.mod_eq_of_lt hsel] at hselect hwatchdog hheld
    rw [hbegins]
    exact ⟨hstate, hunit, hnode, hselect, hwatchdog, hheld, hcounter, hcause.trans hsource, hflash.trans hkeptFlash,
      hotp.trans hkeptOtp, hentries⟩
  case watchdog =>
    intro harmed hlunar hporeset hhold hlate
    refine ⟨(s.land t).watchdogExpiry, rfl, ?_⟩
    rw [watchdogExpiry_of_armed (s := s.land t) harmed hlunar hporeset hhold hlate]
    obtain ⟨hstrap, hkeptBoot, hkeptFlash, hkeptOtp⟩ := expiryCounted_frame (s.land t)
    obtain ⟨hstate, hunit, hnode, hselect, hwatchdog, hheld, hjtag, hcounter, hcause, hboots, hflash, hotp, hentries⟩ :=
      resetWith_shows (expiryCounted (s.land t)) 0x0201
    refine ⟨hstate, hcause, ?_, hselect.trans (congrArg Boot.bootSel hkeptBoot), hflash.trans hkeptFlash, hotp.trans hkeptOtp,
      fun hboot hbank => ?_, hentries⟩
    · rw [hunit, hstrap]
      exact if_congr (strapB_iff (s.land t)) rfl rfl
    · rw [hboots]
      exact watchdogBoots_expiryCounted (s := s.land t) hboot hbank
  case lockstep =>
    intro hreset hlunar
    refine ⟨(s.land t).lockstep, rfl, ?_⟩
    have hreset' : (s.land t).lockstep = (s.land t).resetWith 0x0202 := by
      rw [State.lockstep, if_neg]
      simp only [Bool.or_eq_true, decide_eq_true_eq, not_or]
      exact ⟨hreset, hlunar⟩
    rw [hreset']
    obtain ⟨hstate, hunit, hnode, hselect, hwatchdog, hheld, hjtag, hcounter, hcause, hboots, hflash, hotp, hentries⟩ :=
      resetWith_shows (s.land t) 0x0202
    exact ⟨hstate, hcause, hselect, hflash, hotp, hentries⟩
  case jtag =>
    intro hporeset
    refine ⟨(s.land t).jtagTest, rfl, ?_⟩
    rw [State.jtagTest, if_neg (by rw [State.land_boot, hporeset]; decide)]
    have hget := get_jtagCleared
      { s.land t with boot := { (s.land t).boot with jtagHold := true }, aon := { (s.land t).aon with cause := 0x0203 } }
      ((s.land t).get Obj.DEV_UNIT)
    refine ⟨?_, rfl, rfl, ?_, rfl, rfl, fun key hkey => ?_⟩
    · exact congrArg Int.toNat ((hget Obj.DEV_STATE).trans (if_neg (by decide)))
    · exact (hget Obj.DEV_UNIT).trans (if_pos rfl)
    · exact (hget key).trans (if_neg fun h => hkey (List.mem_singleton.2 h))
  case leave =>
    intro hhold
    refine ⟨(s.land t).jtagRelease, rfl, ?_⟩
    rw [State.jtagRelease, if_neg (by rw [State.land_boot, hhold]; decide)]
    obtain ⟨hstate, hunit, hnode, hselect, hwatchdog, hheld, hjtag, hcounter, hcause, hboots, hflash, hotp, hentries⟩ :=
      bootBegin_shows { s.land t with boot := { (s.land t).boot with jtagHold := false } } (s.land t).strapB
    exact ⟨hstate, hjtag, hcause, hselect, hflash, hotp, hentries⟩

end Sys2Proof.Proofs
end

section
/-!
PROOF. What follows a command of a device that does not trip emits nothing.
-/

namespace Sys2Proof.Proofs

open Sys2Proof Sys2Proof.Machine

theorem foldl_out {α : Type} {f : State → α → State} (hf : ∀ s x, (f s x).out = s.out) (s : State) (l : List α) :
    (l.foldl f s).out = s.out :=
  foldl_related (R := fun a b => b.out = a.out) (fun _ => rfl) (fun h g => g.trans h) l (fun a x _ => hf a x) s

theorem ite_out {s a b : State} {p : Prop} [Decidable p] (ha : a.out = s.out) (hb : b.out = s.out) : (if p then a else b).out = s.out := by
  rw [apply_ite State.out, ha, hb, ite_self]

/-! ## Choppers, carriers and clocks -/

@[simp] theorem dchAccrue_out (s : State) (k : Nat) : (s.dchAccrue k).out = s.out := by
  unfold State.dchAccrue
  split
  · rfl
  · exact ite_out rfl rfl

@[simp] theorem dchTurnOff_out (s : State) (k : Nat) : (s.dchTurnOff k).out = s.out := dchAccrue_out s k

@[simp] theorem dchEval_out (s : State) (k : Nat) : (s.dchEval k).out = s.out := by
  unfold State.dchEval
  split
  · rfl
  · simp [State.dchTurnOn, apply_ite State.out]

theorem dchDrive_out (s : State) : s.dchDrive.out = s.out := by
  refine foldl_out (fun s k => ?_) s _
  split <;> simp [apply_ite State.out]

theorem carMaskOne_out (s : State) (k : Nat) : (s.carMaskOne k).out = s.out := by
  have hcounted (l : List Nat) : (l.foldl (fun s _ => (s.bump (Obj.CAR_MASK_COUNT k)).raise 281) s).out = s.out :=
    foldl_out (f := fun s _ => (s.bump (Obj.CAR_MASK_COUNT k)).raise 281) (fun _ _ => rfl) s l
  unfold State.carMaskOne
  split
  · rfl
  · refine ite_out ?_ rfl
    exact hcounted _

theorem carMasks_out (s : State) : s.carMasks.out = s.out := foldl_out carMaskOne_out _ _

/-! ## Clocks of the measurement groups -/

/-- What a step emits follows what was emitted before. -/
def Emits (a b : State) : Prop := a.out <+: b.out

theorem Emits.of_out {a b : State} (h : b.out = a.out) : Emits a b := by
  rw [Emits, h]

theorem Emits.trans {a b c : State} (h : Emits a b) (g : Emits b c) : Emits a c := List.IsPrefix.trans h g

theorem Emits.ite {s a b : State} {p : Prop} [Decidable p] (h : Emits s a) (g : Emits s b) : Emits s (if p then a else b) := by
  split
  · exact h
  · exact g

theorem emits_foldl {α : Type} {f : State → α → State} (hf : ∀ s x, Emits s (f s x)) (s : State) (l : List α) : Emits s (l.foldl f s) :=
  foldl_related (R := Emits) (fun _ => .of_out rfl) Emits.trans l (fun a x _ => hf a x) s

theorem emits_uartLine (s : State) (chars : List Nat) : Emits s (s.uartLine chars) :=
  .ite (.of_out rfl) (.ite (.of_out rfl) (List.prefix_append _ _))

theorem emits_pushRecord (s : State) (uptime code : Nat) (data : List Nat) (counter : Nat) (transient lasting : Bool) :
    Emits s (s.pushRecord uptime code data counter transient lasting) := by
  rcases pushRecord_cases s uptime code data counter transient lasting with h | ⟨chars, h⟩
  · rw [h]
    exact .of_out rfl
  · rw [h]
    exact Emits.trans (b := atHead s _) (.of_out rfl) (emits_uartLine _ _)

theorem emits_charged (s : State) (credit : Nat) : Emits s (charged s credit) := .of_out rfl

theorem emits_journalFull (s : State) (code subject : Nat) (data : List Nat) (counter : Nat) (transient lasting : Bool) :
    Emits s (s.journalFull code subject data counter transient lasting) := by
  by_cases hcredit : s.journalCredit < recordCredit
  · rw [journalFull_of_dropped hcredit]
    have hcounted : (dropped s).out = (dropNoted s).out := State.bump_out (dropNoted s) Obj.LOG_JOURNAL_DROPPED
    exact .of_out (hcounted.trans (by rw [dropNoted_frame]))
  · by_cases hrun : s.log.dropRun = 0
    · rw [journalFull_of_admitted (Nat.not_lt.1 hcredit) hrun]
      exact (emits_charged s _).trans (emits_pushRecord _ _ _ _ _ _ _)
    · rw [journalFull_after_drops (Nat.not_lt.1 hcredit) hrun]
      exact ((emits_charged s _).trans (emits_pushRecord _ _ _ _ _ _ _)).trans (emits_pushRecord _ _ _ _ _ _ _)

theorem emits_event (s : State) (src subject : Nat) (data : List Nat) : Emits s (s.event src subject data) :=
  Emits.trans (b := s.raise src) (.of_out rfl) (emits_journalFull _ _ _ _ _ _ _)

theorem emits_cmtFire (s : State) (code time frac : Nat) : Emits s (s.cmtFire code time frac) :=
  .of_out (by rw [cmtFire_frame])

theorem dchBlind_out (s : State) : s.dchBlind.out = s.out := by
  refine foldl_out (fun a k => ?_) s _
  exact State.setBit_out ..

theorem emits_prtPoleInvalid (s : State) (neg : Bool) : Emits s (s.prtPoleInvalid neg) := by
  unfold State.prtPoleInvalid
  extract_lets was prtOf s1 behind
  refine .of_out (ite_out rfl ?_)
  rw [dchBlind_out]
  exact ite_out rfl rfl

theorem emits_meaJudge (s : State) (k : Nat) : Emits s (s.meaJudge k) := by
  unfold State.meaJudge
  extract_lets causes s2 s1
  have hinvalid : Emits s s2 := Emits.trans (b := (((s.setBit _ _ _).setBit _ _ _).bump _)) (.of_out rfl) (emits_event _ _ _ _)
  have hshown : Emits s s1 := .ite (.of_out rfl) (.ite hinvalid (hinvalid.trans (emits_cmtFire _ _ _ _)))
  refine .ite (.of_out rfl) ?_
  split
  next neg _ => exact .ite (hshown.trans (emits_prtPoleInvalid _ neg)) hshown
  next => exact hshown

theorem emits_meaMark (s : State) (k b : Nat) (on : Bool) : Emits s (s.meaMark k b on) :=
  Emits.trans (b := s.setBit (Obj.MEA_CH_STATUS k) b on) (.of_out rfl) (emits_meaJudge _ k)

theorem emits_meaRestart (s : State) (k : Nat) : Emits s (s.meaRestart k) := by
  have hcleared : Emits s ((s.withMea k MeaChannel.cleared).meaMark k 1 true) :=
    Emits.trans (b := s.withMea k MeaChannel.cleared) (.of_out rfl) (emits_meaMark _ k _ _)
  exact .ite (.of_out rfl) (.ite (hcleared.trans (.of_out rfl)) hcleared)

theorem emits_meaClockOne (s : State) (k : Nat) : Emits s (s.meaClockOne k) :=
  .ite (.of_out rfl) (.ite (emits_meaMark s k _ _)
    (.ite (Emits.trans (b := s.setBit (Obj.MEA_CH_STATUS k) 2 false) (.of_out rfl) (emits_meaRestart _ k)) (.of_out rfl)))

theorem emits_meaClock (s : State) (g : Nat) : Emits s (s.meaClock g) := emits_foldl emits_meaClockOne s _

theorem emits_meaSourced (s : State) (g : Nat) : Emits s (s.meaSourced g) := by
  have hclock (a : State) (h : a.out = s.out) : Emits s (a.meaClock g) := (Emits.of_out h).trans (emits_meaClock a g)
  exact .ite (.of_out rfl) (.ite (hclock _ rfl) (.ite (hclock _ rfl) (.of_out rfl)))

theorem emits_meaSources (s : State) : Emits s s.meaSources := emits_foldl emits_meaSourced s _

/-! ## Change records -/

@[simp] theorem change_out (s : State) (c : Change) (boundary : Nat) : (s.change c boundary).out = s.out := by
  simp [State.change, apply_ite State.out]

theorem recordChanges_out (before s : State) : (before.recordChanges s).out = s.out := by
  unfold State.recordChanges
  split
  · rfl
  · extract_lets classes recorded tuned described planned
    have hclasses : recorded.out = s.out := foldl_out (fun s _ => change_out s _ _) s classes
    have hdescribed : described.out = s.out := (foldl_out (fun s _ => change_out s _ _) recorded tuned).trans hclasses
    have hplanned : planned.out = s.out := by
      unfold planned
      split <;> simp [apply_ite State.out, hdescribed]
    split <;> simp [apply_ite State.out, hplanned]

/-! ## Comet -/

@[simp] theorem cmtPush_out (s : State) (b : CmtBlock) : (s.cmtPush b).out = s.out := by
  simp [State.cmtPush, apply_ite State.out]

@[simp] theorem cmtWrite_out (s : State) (b : CmtBlock) : (s.cmtWrite b).out = s.out := by
  simp [State.cmtWrite, State.cmtTake, State.cmtLose, apply_ite State.out]

@[simp] theorem cmtComplete_out (s : State) (due : Nat → Bool) : (s.cmtComplete due).out = s.out := by
  unfold State.cmtComplete
  rw [foldl_out (f := fun s (p : CmtBlock × Nat) => s.cmtWrite p.1) fun s p => cmtWrite_out s p.1, State.withCmt_out]

@[simp] theorem cmtEntry_out (s : State) (type channel : Nat) (words : List Nat) (e : CmtEntry) :
    (s.cmtEntry type channel words e).out = s.out := by
  unfold State.cmtEntry
  split
  · rfl
  · extract_lets isIt
    split <;> simp [apply_ite State.out]

@[simp] theorem cmtEdge_out (s : State) (i : Nat) (level : Bool) (time frac : Nat) (tap : Bool) :
    (s.cmtEdge i level time frac tap).out = s.out := by
  simp [State.cmtEdge, apply_ite State.out]

@[simp] theorem cmtTrigger_out (s : State) : s.cmtTrigger.out = s.out := by
  unfold State.cmtTrigger
  split
  · rfl
  · split
    · rfl
    · rw [State.raise_out, State.put_out, State.withCmt_out, cmtWrite_out, cmtComplete_out, State.withCmt_out]

theorem cmtSee_out (s : State) (fine : Option Int) : (s.cmtSee fine).out = s.out := by
  unfold State.cmtSee
  split
  · exact State.withCmt_out s _
  · extract_lets old new s1 s2 s3 began s4
    have hlevels : s1.out = s.out := State.withCmt_out s _
    have hedges : s2.out = s.out :=
      ite_out hlevels ((foldl_out (fun s i => ite_out rfl (cmtEdge_out s _ _ _ _ _)) s1 _).trans hlevels)
    have hmatch : s3.out = s.out := ite_out hedges hedges
    have hbegan : s4.out = s.out := ite_out hmatch hmatch
    exact (cmtTrigger_out s4).trans hbegan

/-! ## The state that a settled command ends in -/

theorem get_setState_trip (s : State) (cause : Nat) : (s.setState stTrip cause).devState = stTrip := by
  by_cases hsame : s.devState = stTrip
  · have hkept : s.setState stTrip cause = s := if_pos hsame
    rw [hkept, hsame]
  · rw [devState_of_apart (apart_setState hsame cause), devState_put]

/-- A device that enters TRIP is there (R188). -/
theorem devState_enterTrip (s : State) (first : Nat) : (s.enterTrip first).devState = stTrip := by
  unfold State.enterTrip
  extract_lets urgent overrun s0 s1 s2 s3 s4 s5 s6
  have h2 : s2.devState = stTrip := get_setState_trip _ _
  have h3 : s3.devState = stTrip := by
    unfold s3
    split
    · rw [devState_of_apart (apart_setRole (o := false) _ _ _), h2]
    · exact h2
  have h4 : Apart false s3 s4 :=
    ((apart_put s3 _ (by decide)).trans (apart_put _ _ (by decide))).trans (apart_bump _ (by decide))
  have h5 : Apart false s4 s5 := (apart_put s4 _ (by decide)).trans (apart_setBit _ 5 true (by decide))
  have h6 : Apart false s5 s6 := ((apart_count s5 5).trans (apart_raise _ 320)).trans (apart_journalFull _ _ _ _ _ _ _)
  have hemcy : (s6.emcy (0xFF00 + first)).devState = s6.devState := congrArg Int.toNat (get_emcy ..)
  rw [devState_of_apart ((apart_cmtFire (o := false) _ _ _ _).trans (apart_demandFlush _)), hemcy, devState_of_apart h6,
    devState_of_apart h5, devState_of_apart h4, h3]

/-- What a command has emitted comes first when it is settled without an entry to TRIP. -/
theorem emits_settle_of_config (before s : State) (hconfig : (State.settle before s).get Obj.DEV_STATE = 2) :
    Emits s (State.settle before s) := by
  generalize hfitted : (before.recordChanges s.meaSources).fit = a at *
  have hrecorded : Emits s a := by
    rw [← hfitted]
    exact (emits_meaSources s).trans (.of_out ((State.fit_out _).trans (recordChanges_out before _)))
  have hsettled : State.settle before s = (a.tripServe.dchDrive.carMasks.cmtSee none).fit := by
    rw [State.settle_eq, State.settleAt, hfitted]
  have hstate : (a.tripServe.dchDrive.carMasks.cmtSee none).get Obj.DEV_STATE = a.tripServe.get Obj.DEV_STATE := by
    rw [(apart_cmtSee (o := false) _ none).state, (apart_carMasks (o := false) _).state, (apart_dchDrive (o := false) _).state]
  have hfit : Obj.fit Obj.DEV_STATE (a.tripServe.get Obj.DEV_STATE) = 2 := by
    rw [hsettled, get_fit, hstate] at hconfig
    exact hconfig
  have hserved : a.tripServe.out = a.out := by
    unfold State.tripServe at hfit ⊢
    split
    next hserving =>
      rw [if_pos hserving] at hfit
      cases hcause : a.firstCause with
      | none => rfl
      | some c =>
        rw [hcause] at hfit
        have htrip : (a.enterTrip c).get Obj.DEV_STATE = 6 := by
          have hnat : ((a.enterTrip c).get Obj.DEV_STATE).toNat = 6 := devState_enterTrip a c
          omega
        dsimp only at hfit
        rw [htrip] at hfit
        exact absurd hfit (by decide)
    next => exact ite_out (ite_out rfl rfl) rfl
  rw [hsettled]
  refine hrecorded.trans (.of_out ?_)
  rw [State.fit_out, cmtSee_out, carMasks_out, dchDrive_out, hserved]

end Sys2Proof.Proofs
end

section
/-!
PROOF. The debug UART (R466): a read of a subindex that an existing index lacks is answered with the abort code of the subindex.
-/

namespace Sys2Proof.Proofs

open Sys2Proof Sys2Proof.Machine

/-- The line of an abort code. -/
def abortLine (abort : Nat) : Out := .uart ([65, 32] ++ hexOf (bytesOf abort 4).reverse ++ [13, 10])

/-- What a read of 0x3000:00 leaves once it is settled. -/
def missingRead : State := State.settle (configState.land 0) ((configState.land 0).uartRead 0x3000 0)

theorem noObject_missingRead : abortLine 0x06020000 ∉ missingRead.out := by decide +kernel

theorem devState_missingRead : missingRead.get Obj.DEV_STATE = 2 := by decide +kernel

/-- Refutes O15: index 0x3000 exists but has no subindex 0, so that the read is answered with abort 0x0609_0011 and not 0x0602_0000. -/
theorem not_fusesAndDebugPorts : ¬ Obligations.FusesAndDebugPorts := by
  intro h
  obtain ⟨-, -, -, -, -, -, hread⟩ := h configState 0
  obtain ⟨u, hexec, hlast⟩ := hread 0x3000 0 (by decide) (by decide) (by decide) rfl rfl
  have hsettled : missingRead = State.settle (configState.land 0) u := Host.Outcome.next.inj hexec
  have hemits : u.out <+: missingRead.out := by
    rw [hsettled]
    exact emits_settle_of_config _ u (hsettled ▸ devState_missingRead)
  exact noObject_missingRead (hemits.subset (List.mem_of_getLast? hlast))

end Sys2Proof.Proofs
end

section
/-!
PROOF. What the operations of the time unit change: the states of Table 13.2, the rate, the steps and the servo (R330 to R335).
-/

namespace Sys2Proof.Proofs

open Sys2Proof Sys2Proof.Machine

/-! ## Entries that an operation may change -/

/-- Outside the logbook an operation changes the entries of a list alone, and a pending source stays pending. -/
structure Touches (keys : List Nat) (a b : State) : Prop where
  entries : a.entriesBut b keys
  pending : KeepsPending a b

namespace Touches

variable {keys : List Nat}

theorem refl (s : State) : Touches keys s s := ⟨fun _ _ _ => rfl, fun _ hp => hp⟩

theorem trans {a b c : State} (h : Touches keys a b) (g : Touches keys b c) : Touches keys a c :=
  ⟨fun key hlog hkey => (g.entries key hlog hkey).trans (h.entries key hlog hkey), h.pending.trans g.pending⟩

theorem mono {more : List Nat} {a b : State} (h : Touches keys a b) (hsub : ∀ key ∈ keys, key ∈ more) : Touches more a b :=
  ⟨fun key hlog hkey => h.entries key hlog fun hk => hkey (hsub key hk), h.pending⟩

theorem ite {s a b : State} {c : Prop} [Decidable c] (h : Touches keys s a) (g : Touches keys s b) :
    Touches keys s (if c then a else b) := by
  split
  · exact h
  · exact g

theorem of_logOnly {a b : State} (h : a.LogOnly b) (hpending : KeepsPending a b) : Touches keys a b :=
  ⟨fun key hlog _ => h.1 key hlog, hpending⟩

theorem of_objs {a b : State} (hobjs : b.objs = a.objs) (hicu : b.icu = a.icu) : Touches keys a b :=
  ⟨fun _ _ _ => by simp only [State.get, hobjs], .of_icu hicu⟩

theorem put (s : State) {key : Nat} (v : Int) (hkey : key ∈ keys) : Touches keys s (s.put key v) :=
  ⟨fun _ _ hother => State.get_put_ne s v fun h => hother (h ▸ hkey), .of_icu rfl⟩

theorem setBit (s : State) {key : Nat} (i : Nat) (b : Bool) (hkey : key ∈ keys) : Touches keys s (s.setBit key i b) :=
  put s _ hkey

theorem bump (s : State) {key : Nat} (hkey : key ∈ keys) : Touches keys s (s.bump key) := put s _ hkey

theorem withTim (s : State) (f : Tim → Tim) : Touches keys s (s.withTim f) := of_objs rfl rfl

theorem raise (s : State) (src : Nat) : Touches keys s (s.raise src) := ⟨fun _ _ _ => rfl, keepsPending_raise s src⟩

theorem count (s : State) (c : Nat) (hlog : isLogEntry (Obj.LOG_CNT (c - 1)) = true) : Touches keys s (s.count c) :=
  of_logOnly (State.logOnly_put s _ hlog) (.of_icu rfl)

theorem journalFull (s : State) (code subject : Nat) (data : List Nat) (counter : Nat) (transient lasting : Bool) :
    Touches keys s (s.journalFull code subject data counter transient lasting) :=
  of_logOnly (State.logOnly_journalFull ..) (keepsPending_journalFull _ _ _ _ _ _ _)

theorem event (s : State) (src subject : Nat) (data : List Nat) : Touches keys s (s.event src subject data) :=
  (raise s src).trans (journalFull ..)

theorem get {a b : State} (h : Touches keys a b) {key : Nat} (hlog : isLogEntry key = false) (hkey : key ∉ keys) :
    b.get key = a.get key := h.entries key hlog hkey

theorem otherIndices {a b : State} (h : Touches keys a b) {indices : List Nat} (hindices : ∀ key ∈ keys, key / 256 ∈ indices) :
    a.otherIndices b indices := fun key hlog hkey => h.entries key hlog fun hk => hkey (hindices key hk)

end Touches

/-- Beside entries and the logbook's units an operation changes the time unit alone. -/
def TimFrame (a b : State) : Prop :=
  b = { a with objs := b.objs, tim := b.tim, icu := b.icu, log := b.log, flash := b.flash, dict := b.dict, out := b.out }

theorem TimFrame.refl (s : State) : TimFrame s s := rfl

theorem TimFrame.trans {a b c : State} (h : TimFrame a b) (g : TimFrame b c) : TimFrame a c := by
  unfold TimFrame at *
  rw [g, h]

theorem TimFrame.ite {s a b : State} {c : Prop} [Decidable c] (h : TimFrame s a) (g : TimFrame s b) :
    TimFrame s (if c then a else b) := by
  split
  · exact h
  · exact g

theorem TimFrame.of_sameUnits {a b : State} (h : a.SameUnits b) : TimFrame a b := by
  unfold TimFrame State.SameUnits at *
  rw [h]

theorem timFrame_withTim (s : State) (f : Tim → Tim) : TimFrame s (s.withTim f) := rfl

theorem withTim_tim (s : State) (f : Tim → Tim) : (s.withTim f).tim = f s.tim := rfl

theorem timFrame_put (s : State) (key : Nat) (v : Int) : TimFrame s (s.put key v) := rfl

theorem timFrame_raise (s : State) (src : Nat) : TimFrame s (s.raise src) := rfl

theorem timFrame_setRate (s : State) (rate : Int) : TimFrame s (s.setRate rate) := rfl

/-! ## States of Table 13.2 -/

/-- The holdover time as a change of the state leaves it (R330, R334). -/
def holdShown (s : State) (frozen : Bool) : State :=
  match s.tim.holdSince with
  | none => if frozen then (s.withTim fun t => { t with holdSince := some s.now }).put Obj.TIM_HOLDOVER_TIME 0 else s
  | some h => if frozen then s else
      (s.withTim fun t => { t with holdSince := none }).put Obj.TIM_HOLDOVER_TIME ((s.now - h) / 1000000000 : Nat)

theorem touches_holdShown (s : State) (frozen : Bool) : Touches [Obj.TIM_HOLDOVER_TIME] s (holdShown s frozen) := by
  have hheld : ∀ (f : Tim → Tim) (v : Int), Touches [Obj.TIM_HOLDOVER_TIME] s ((s.withTim f).put Obj.TIM_HOLDOVER_TIME v) :=
    fun f v => Touches.trans (b := s.withTim f) (.of_objs rfl rfl) (.put _ v (by decide))
  unfold holdShown
  split
  · exact .ite (hheld _ _) (.refl s)
  · exact .ite (.refl s) (hheld _ _)

theorem timFrame_holdShown (s : State) (frozen : Bool) : TimFrame s (holdShown s frozen) := by
  unfold holdShown
  split
  · exact .ite rfl rfl
  · exact .ite rfl rfl

theorem holdShown_tim (s : State) (frozen : Bool) :
    (holdShown s frozen).tim = { s.tim with holdSince := (holdShown s frozen).tim.holdSince } := by
  unfold holdShown
  split <;> split <;> rfl

theorem timEnter_eq (s : State) (st src : Nat) (data : List Nat) :
    s.timEnter st src data =
      (((holdShown (s.put Obj.TIM_STATE st) (st = 3 || st = 4)).withTim fun t => { t with inRun := 0, outRun := 0 }).raise src
        |>.journalFull src noSubject (bytesOf st 4 ++ data) (if src = 389 then 0x12 else 0xFF) false false) := rfl

theorem touches_timEnter (s : State) (st src : Nat) (data : List Nat) :
    Touches [Obj.TIM_STATE, Obj.TIM_HOLDOVER_TIME] s (s.timEnter st src data) := by
  rw [timEnter_eq]
  have hput : Touches [Obj.TIM_STATE, Obj.TIM_HOLDOVER_TIME] s (s.put Obj.TIM_STATE st) := .put s _ (by decide)
  have hheld := hput.trans ((touches_holdShown _ (st = 3 || st = 4)).mono (by decide))
  exact ((hheld.trans (.withTim _ _)).trans (.raise _ _)).trans (.journalFull _ _ _ _ _ _ _)

theorem timFrame_timEnter (s : State) (st src : Nat) (data : List Nat) : TimFrame s (s.timEnter st src data) := by
  rw [timEnter_eq]
  refine TimFrame.trans ?_ (.of_sameUnits (State.logOnly_journalFull ..).2)
  exact (((timFrame_put s _ _).trans (timFrame_holdShown _ _)).trans (timFrame_withTim _ _)).trans (timFrame_raise _ _)

theorem timEnter_tim (s : State) (st src : Nat) (data : List Nat) :
    (s.timEnter st src data).tim =
      { s.tim with holdSince := (s.timEnter st src data).tim.holdSince, inRun := 0, outRun := 0 } := by
  have htim : (s.timEnter st src data).tim =
      { (holdShown (s.put Obj.TIM_STATE st) (st = 3 || st = 4)).tim with inRun := 0, outRun := 0 } := by
    rw [timEnter_eq, State.journalFull_tim, State.raise_tim, withTim_tim]
  have hheld := holdShown_tim (s.put Obj.TIM_STATE st) (st = 3 || st = 4)
  rw [State.put_tim] at hheld
  rw [htim]
  generalize (holdShown (s.put Obj.TIM_STATE st) (st = 3 || st = 4)).tim = held at hheld ⊢
  rw [hheld]

theorem timState_timEnter (s : State) (st src : Nat) (data : List Nat) : (s.timEnter st src data).timState = st := by
  have hget : (s.timEnter st src data).get Obj.TIM_STATE = st := by
    rw [timEnter_eq, (State.logOnly_journalFull ..).1 _ (by decide)]
    exact ((touches_holdShown _ _).get (by decide) (by decide)).trans (State.get_put_same ..)
  rw [State.timState, State.getN, hget, Int.toNat_natCast]

theorem sourcePending_timEnter (s : State) (st : Nat) {src : Nat} (hshared : src / 32 ≠ 5) (data : List Nat) :
    (s.timEnter st src data).sourcePending src := by
  rw [timEnter_eq]
  exact sourcePending_kept hshared (sourcePending_raise _ src) (keepsPending_journalFull _ _ _ _ _ _ _)

/-! ## The rate -/

theorem touches_setRate (s : State) (rate : Int) : Touches [Obj.TIM_RATE_ADJ] s (s.setRate rate) :=
  Touches.trans (b := s.rebase) (.of_objs rfl rfl) (.put _ rate (by decide))

theorem get_setRate (s : State) (rate : Int) : (s.setRate rate).get Obj.TIM_RATE_ADJ = rate := State.get_put_same ..

theorem setRate_tim (s : State) (rate : Int) : (s.setRate rate).tim = s.rebase.tim := rfl

theorem timState_congr {a b : State} (h : b.get Obj.TIM_STATE = a.get Obj.TIM_STATE) : b.timState = a.timState := by
  rw [State.timState, State.getN, h]
  rfl

/-! ## Loss of the source and discontinuity -/

theorem timLost_of_tracking {s : State} (h : s.timState = 1 ∨ s.timState = 2) :
    s.timLost = s.freezeRate.timEnter 3 387 [] := if_pos h

/-- What the loss of a source that was followed shows (R334). -/
theorem timLost_shows {s : State} (h : s.timState = 1 ∨ s.timState = 2) :
    s.timLost.timState = 3 ∧ s.timLost.get Obj.TIM_RATE_ADJ = s.get Obj.TIM_FREQ_EST ∧ s.timLost.sourcePending 387 := by
  rw [timLost_of_tracking h]
  refine ⟨timState_timEnter .., ?_, sourcePending_timEnter _ _ (by decide) _⟩
  rw [(touches_timEnter ..).get (by decide) (by decide)]
  exact get_setRate ..

theorem touches_timLost (s : State) :
    Touches [Obj.TIM_STATE, Obj.TIM_HOLDOVER_TIME, Obj.TIM_RATE_ADJ] s s.timLost :=
  .ite (((touches_setRate s _).mono (by decide)).trans ((touches_timEnter ..).mono (by decide))) (.refl s)

theorem timFrame_timLost (s : State) : TimFrame s s.timLost :=
  .ite ((timFrame_setRate s _).trans (timFrame_timEnter ..)) (.refl s)

/-- The entries that a jump changes. -/
abbrev jumpKeys : List Nat := [Obj.TIM_STATE, Obj.TIM_HOLDOVER_TIME, Obj.TIM_RATE_ADJ, Obj.TIM_DISCONT_COUNT]

/-- The rate frozen and the jump counted (R335). -/
def jumpCounted (s : State) : State :=
  ((if s.timState = 3 then s.raise 388 else s).freezeRate.bump Obj.TIM_DISCONT_COUNT).count 0x12

theorem timJump_of_followed {s : State} (hlo : 1 ≤ s.timState) (hhi : s.timState ≤ 3) :
    s.timJump = (jumpCounted s).timEnter 4 389 (bytesOf ((if s.timState = 3 then s.raise 388 else s).getN Obj.TIM_GM_IDENTITY) 8) := by
  have hout : ¬(s.timState = 0 ∨ s.timState = 4 ∨ s.timState = 5) := by omega
  exact if_neg hout

theorem touches_leaveHold (s : State) : Touches [] s (if s.timState = 3 then s.raise 388 else s) := .ite (.raise s 388) (.refl s)

theorem touches_jumpCounted (s : State) : Touches jumpKeys s (jumpCounted s) :=
  ((((touches_leaveHold s).mono (by decide)).trans ((touches_setRate _ _).mono (by decide))).trans (.bump _ (by decide))).trans
    (.count _ _ (by decide))

theorem timFrame_jumpCounted (s : State) : TimFrame s (jumpCounted s) := by
  have hleft : TimFrame s (if s.timState = 3 then s.raise 388 else s) := .ite rfl rfl
  exact ((hleft.trans (timFrame_setRate _ _)).trans (timFrame_put _ _ _)).trans (timFrame_put _ _ _)

theorem touches_timJump (s : State) : Touches jumpKeys s s.timJump := by
  by_cases h : s.timState = 0 ∨ s.timState = 4 ∨ s.timState = 5
  · rw [State.timJump, if_pos h]
    exact .refl s
  · have hjump : s.timJump = (jumpCounted s).timEnter 4 389 _ := if_neg h
    rw [hjump]
    exact (touches_jumpCounted s).trans ((touches_timEnter ..).mono (by decide))

theorem timFrame_timJump (s : State) : TimFrame s s.timJump := by
  by_cases h : s.timState = 0 ∨ s.timState = 4 ∨ s.timState = 5
  · rw [State.timJump, if_pos h]
    exact .refl s
  · have hjump : s.timJump = (jumpCounted s).timEnter 4 389 _ := if_neg h
    rw [hjump]
    exact (timFrame_jumpCounted s).trans (timFrame_timEnter ..)

/-- What a jump of the source shows (R335). -/
theorem timJump_shows {s : State} (hlo : 1 ≤ s.timState) (hhi : s.timState ≤ 3) :
    s.timJump.timState = 4 ∧ s.timJump.get Obj.TIM_RATE_ADJ = s.get Obj.TIM_FREQ_EST ∧
      s.timJump.get Obj.TIM_DISCONT_COUNT = min (s.get Obj.TIM_DISCONT_COUNT + 1) 0xFFFFFFFF ∧ s.timJump.sourcePending 389 := by
  rw [timJump_of_followed hlo hhi]
  refine ⟨timState_timEnter .., ?_, ?_, sourcePending_timEnter _ _ (by decide) _⟩
  · rw [(touches_timEnter ..).get (by decide) (by decide)]
    have hleft := (touches_leaveHold s).get (key := Obj.TIM_FREQ_EST) (by decide) (by decide)
    rw [jumpCounted, State.get_count, if_neg (by decide), State.get_bump, if_neg (by decide), State.freezeRate, get_setRate, hleft]
  · rw [(touches_timEnter ..).get (by decide) (by decide)]
    have hleft := (touches_leaveHold s).get (key := Obj.TIM_DISCONT_COUNT) (by decide) (by decide)
    rw [jumpCounted, State.get_count, if_neg (by decide), State.get_bump, if_pos rfl, State.freezeRate,
      (touches_setRate _ _).get (by decide) (by decide), hleft]

end Sys2Proof.Proofs
end

section
/-!
PROOF. Steps of the counter, the servo, samples, and what Comet takes of them (R331 to R335, R414).
-/

namespace Sys2Proof.Proofs

open Sys2Proof Sys2Proof.Machine

/-! ## What Comet takes -/

/-- The entries that Comet's capture changes while it runs. -/
abbrev captureKeys : List Nat := [Obj.CMT_WRITTEN, Obj.CMT_LOSS_BLOCKS, Obj.CMT_EDGE_LOSS]

/-- Comet's capture takes something: its entries, its records and pending sources change alone. -/
structure CmtChange (a b : State) : Prop where
  touches : Touches captureKeys a b
  frame : b = { a with objs := b.objs, cmt := b.cmt, icu := b.icu }

theorem CmtChange.refl (s : State) : CmtChange s s := ⟨.refl s, rfl⟩

theorem CmtChange.trans {a b c : State} (h : CmtChange a b) (g : CmtChange b c) : CmtChange a c :=
  ⟨h.touches.trans g.touches, by rw [g.frame, h.frame]⟩

theorem CmtChange.ite {s a b : State} {c : Prop} [Decidable c] (h : CmtChange s a) (g : CmtChange s b) :
    CmtChange s (if c then a else b) := by
  split
  · exact h
  · exact g

theorem CmtChange.foldl {α : Type} {f : State → α → State} (h : ∀ s x, CmtChange s (f s x)) (s : State) (l : List α) :
    CmtChange s (l.foldl f s) := foldl_related CmtChange.refl (fun {_ _ _} h g => h.trans g) l (fun s x _ => h s x) s

theorem cmtChange_withCmt (s : State) (f : Cmt → Cmt) : CmtChange s (s.withCmt f) := ⟨.of_objs rfl rfl, rfl⟩

theorem cmtChange_raise (s : State) (src : Nat) : CmtChange s (s.raise src) := ⟨.raise s src, rfl⟩

theorem cmtChange_put (s : State) {key : Nat} (v : Int) (hkey : key ∈ captureKeys) : CmtChange s (s.put key v) := ⟨.put s v hkey, rfl⟩

theorem cmtChange_push (s : State) (b : CmtBlock) : CmtChange s (s.cmtPush b) := by
  unfold State.cmtPush
  extract_lets c loss b' w held kept kept' s1 s2
  have hwritten : CmtChange s s2 := (cmtChange_withCmt s _).trans (cmtChange_put (key := Obj.CMT_WRITTEN) s1 _ (by decide))
  exact .ite ((hwritten.trans (cmtChange_withCmt s2 _)).trans (cmtChange_raise _ 423)) hwritten

theorem cmtChange_take (s : State) (b : CmtBlock) : CmtChange s (s.cmtTake b) :=
  .ite (.refl s) (.ite ((cmtChange_withCmt s _).trans (cmtChange_put (key := Obj.CMT_LOSS_BLOCKS) _ _ (by decide))) (cmtChange_push s b))

theorem cmtChange_write (s : State) (b : CmtBlock) : CmtChange s (s.cmtWrite b) :=
  CmtChange.trans (.ite (cmtChange_take s _) (.refl s)) (cmtChange_take _ b)

theorem cmtChange_entry (s : State) (type channel : Nat) (words : List Nat) (e : CmtEntry) :
    CmtChange s (s.cmtEntry type channel words e) := by
  unfold State.cmtEntry
  split
  · exact .refl s
  · extract_lets isIt
    split
    · exact cmtChange_withCmt s _
    · exact .ite ((cmtChange_withCmt s _).trans (cmtChange_write _ _)) (cmtChange_withCmt s _)

theorem cmtChange_edge (s : State) (i : Nat) (level : Bool) (time frac : Nat) (tap : Bool) :
    CmtChange s (s.cmtEdge i level time frac tap) := by
  unfold State.cmtEdge
  refine .ite (.refl s) (.ite ?lost ((cmtChange_withCmt s _).trans (cmtChange_entry _ _ _ _ _)))
  case lost =>
    have hlost : CmtChange s (if s.cmt.edgeLosing then s else s.raise 420) := .ite (.refl s) (cmtChange_raise s 420)
    exact (hlost.trans (cmtChange_withCmt _ _)).trans (cmtChange_put (key := Obj.CMT_EDGE_LOSS) _ _ (by decide))

theorem cmtChange_fire (s : State) (code time frac : Nat) : CmtChange s (s.cmtFire code time frac) := by
  unfold State.cmtFire
  extract_lets enabled
  refine .ite (cmtChange_withCmt s _) (.ite ?_ (.refl s))
  split
  · exact .ite (cmtChange_withCmt s _) (.refl s)
  · exact .refl s

theorem cmtChange_input (s : State) (code rise : Nat) (fall : Option Nat) : CmtChange s (s.cmtInput code rise fall) := by
  refine .ite (.refl s) (.foldl (fun a i => .ite (.refl a) ?_) s _)
  cases fall with
  | none => exact cmtChange_edge a _ _ _ _ _
  | some _ => exact (cmtChange_edge a _ _ _ _ _).trans (cmtChange_edge _ _ _ _ _ _)

theorem cmtChange_timeStep (s : State) : CmtChange s s.cmtTimeStep :=
  .ite (.refl s) ((cmtChange_withCmt s _).trans (cmtChange_write _ _))

theorem CmtChange.tim {a b : State} (h : CmtChange a b) : b.tim = a.tim := by rw [h.frame]

theorem CmtChange.now {a b : State} (h : CmtChange a b) : b.now = a.now := by rw [h.frame]

theorem CmtChange.out {a b : State} (h : CmtChange a b) : b.out = a.out := by rw [h.frame]

theorem CmtChange.get {a b : State} (h : CmtChange a b) {key : Nat} (hlog : isLogEntry key = false) (hkey : key ∉ captureKeys) :
    b.get key = a.get key := h.touches.get hlog hkey

/-! ## Frames of the time unit beside Comet -/

/-- Beside entries and the logbook's units the time unit and Comet change alone. -/
def StepFrame (a b : State) : Prop :=
  b = { a with objs := b.objs, tim := b.tim, cmt := b.cmt, icu := b.icu, log := b.log, flash := b.flash, dict := b.dict, out := b.out }

theorem StepFrame.trans {a b c : State} (h : StepFrame a b) (g : StepFrame b c) : StepFrame a c := by
  unfold StepFrame at *
  rw [g, h]

theorem StepFrame.ite {s a b : State} {c : Prop} [Decidable c] (h : StepFrame s a) (g : StepFrame s b) :
    StepFrame s (if c then a else b) := by
  split
  · exact h
  · exact g

theorem TimFrame.step {a b : State} (h : TimFrame a b) : StepFrame a b := by
  unfold TimFrame at h
  unfold StepFrame
  rw [h]

theorem CmtChange.step {a b : State} (h : CmtChange a b) : StepFrame a b := by
  have hframe := h.frame
  unfold StepFrame
  rw [hframe]

/-! ## Steps -/

/-- The counter stepped by a multiple of 250 ns, the step shown (R332). -/
def stepShown (s : State) (d : Int) (orb : Nat) : State :=
  let e := round250 d
  let s1 := s.rebase.withTim fun t => { t with
    base := (((t.base : Int) + e * (2 ^ 40 : Nat)) % (2 ^ 72 : Nat)).toNat
    shadow := ((t.shadow : Int) + e).toNat
    pendingStep := none }
  ((s1.put Obj.TIM_LAST_STEP e).put Obj.TIM_STEP_ORB orb).put Obj.TIM_STATUS
    (withBit (withBit (s1.getN Obj.TIM_STATUS) 0 true) 6 false : Nat)

/-- The step as Comet records it, before its state of Table 13.2. -/
def stepRecorded (s : State) (d : Int) (orb : Nat) : State :=
  if !s.stepped then (stepShown s d orb).cmtTimeStep else stepShown s d orb

theorem applyStep_eq (s : State) (d : Int) (orb : Nat) :
    s.applyStep d orb = (stepRecorded s d orb).timEnter (if (stepRecorded s d orb).get Obj.TIM_SOURCE = 3 then 5 else 1) 384
      (bytesOf (unsigned 64 (round250 d)) 8) := rfl

/-- The entries that show a step. -/
abbrev stepKeys : List Nat := [Obj.TIM_LAST_STEP, Obj.TIM_STEP_ORB, Obj.TIM_STATUS]

theorem touches_stepShown (s : State) (d : Int) (orb : Nat) : Touches stepKeys s (stepShown s d orb) := by
  unfold stepShown
  extract_lets e s1
  have hstepped : Touches stepKeys s s1 := .of_objs rfl rfl
  exact ((hstepped.trans (.put _ _ (by decide))).trans (.put _ _ (by decide))).trans (.put _ _ (by decide))

theorem timFrame_stepShown (s : State) (d : Int) (orb : Nat) : TimFrame s (stepShown s d orb) := by
  unfold stepShown
  extract_lets e s1
  have hstepped : TimFrame s s1 := rfl
  exact ((hstepped.trans (timFrame_put _ _ _)).trans (timFrame_put _ _ _)).trans (timFrame_put _ _ _)

theorem cmtChange_stepRecorded (s : State) (d : Int) (orb : Nat) : CmtChange (stepShown s d orb) (stepRecorded s d orb) :=
  .ite (cmtChange_timeStep _) (.refl _)

theorem get_stepShown_lastStep (s : State) (d : Int) (orb : Nat) : (stepShown s d orb).get Obj.TIM_LAST_STEP = round250 d := by
  simp [stepShown, State.get_put]

theorem get_stepShown_stepOrb (s : State) (d : Int) (orb : Nat) : (stepShown s d orb).get Obj.TIM_STEP_ORB = orb := by
  simp [stepShown, State.get_put]

theorem bitOf_withBit_other (n : Nat) {i j : Nat} (b : Bool) (h : i ≠ j) : bitOf (withBit n j b) i = bitOf n i := by
  rw [bitOf_withBit, if_neg h]

theorem stepped_stepShown (s : State) (d : Int) (orb : Nat) : (stepShown s d orb).stepped = true := by
  have hget : (stepShown s d orb).getN Obj.TIM_STATUS = withBit (withBit (s.getN Obj.TIM_STATUS) 0 true) 6 false := by
    simp [stepShown, State.getN]
  rw [State.stepped, State.bit, hget, bitOf_withBit_other _ _ (by decide)]
  exact bitOf_withBit _ _ _ _

theorem stepShown_shadow (s : State) (d : Int) (orb : Nat) :
    (stepShown s d orb).tim.shadow = ((s.tim.shadow : Int) + round250 d).toNat := by
  unfold stepShown
  extract_lets e s1
  rw [State.put_tim, State.put_tim, State.put_tim]
  rfl

/-- The entries that a step changes outside Comet. -/
abbrev appliedKeys : List Nat :=
  [Obj.TIM_LAST_STEP, Obj.TIM_STEP_ORB, Obj.TIM_STATUS, Obj.TIM_STATE, Obj.TIM_HOLDOVER_TIME,
    Obj.CMT_WRITTEN, Obj.CMT_LOSS_BLOCKS, Obj.CMT_EDGE_LOSS]

theorem touches_stepRecorded (s : State) (d : Int) (orb : Nat) : Touches appliedKeys s (stepRecorded s d orb) :=
  ((touches_stepShown s d orb).mono (by decide)).trans ((cmtChange_stepRecorded s d orb).touches.mono (by decide))

theorem touches_applyStep (s : State) (d : Int) (orb : Nat) : Touches appliedKeys s (s.applyStep d orb) := by
  rw [applyStep_eq]
  exact (touches_stepRecorded s d orb).trans ((touches_timEnter ..).mono (by decide))

theorem stepFrame_applyStep (s : State) (d : Int) (orb : Nat) : StepFrame s (s.applyStep d orb) := by
  rw [applyStep_eq]
  exact ((timFrame_stepShown s d orb).step.trans (cmtChange_stepRecorded s d orb).step).trans (timFrame_timEnter ..).step

/-- What a step shows (R332). -/
structure StepApplied (s u : State) (d : Int) (orb : Nat) : Prop where
  last : u.get Obj.TIM_LAST_STEP = round250 d
  orbit : u.get Obj.TIM_STEP_ORB = orb
  stepped : u.stepped = true
  pending : u.sourcePending 384
  state : u.timState = if s.get Obj.TIM_SOURCE = 3 then 5 else 1
  shadow : u.tim.shadow = ((s.tim.shadow : Int) + round250 d).toNat
  touches : Touches appliedKeys s u
  frame : StepFrame s u

theorem applyStep_shows (s : State) (d : Int) (orb : Nat) : StepApplied s (s.applyStep d orb) d orb := by
  have hrecorded := cmtChange_stepRecorded s d orb
  have hkept : ∀ key, isLogEntry key = false → key ∉ captureKeys → key ∉ [Obj.TIM_STATE, Obj.TIM_HOLDOVER_TIME] →
      (s.applyStep d orb).get key = (stepShown s d orb).get key := by
    intro key hlog hcmt hstate
    rw [applyStep_eq, (touches_timEnter ..).get hlog hstate, hrecorded.get hlog hcmt]
  have hsource : (stepRecorded s d orb).get Obj.TIM_SOURCE = s.get Obj.TIM_SOURCE :=
    (touches_stepRecorded s d orb).get (by decide) (by decide)
  refine ⟨?last, ?orbit, ?stepped, ?pending, ?state, ?shadow, touches_applyStep s d orb, stepFrame_applyStep s d orb⟩
  case last => exact (hkept _ (by decide) (by decide) (by decide)).trans (get_stepShown_lastStep ..)
  case orbit => exact (hkept _ (by decide) (by decide) (by decide)).trans (get_stepShown_stepOrb ..)
  case stepped => exact (bit_congr (hkept _ (by decide) (by decide) (by decide)) 0).trans (stepped_stepShown ..)
  case pending => exact applyStep_eq s d orb ▸ sourcePending_timEnter _ _ (by decide) _
  case state => rw [applyStep_eq, timState_timEnter, hsource]
  case shadow =>
    rw [applyStep_eq, timEnter_tim, hrecorded.tim]
    exact stepShown_shadow s d orb

end Sys2Proof.Proofs
end

section
/-!
PROOF. The servo and the samples of the source in use (R330, R333, R335).
-/

namespace Sys2Proof.Proofs

open Sys2Proof Sys2Proof.Machine

/-! ## Changes by a sample -/

/-- The entries that a sample changes beside TIM_OFFSET. -/
abbrev sampleKeys : List Nat :=
  [Obj.TIM_FREQ_EST, Obj.TIM_RATE_ADJ, Obj.TIM_STATUS, Obj.TIM_STATE, Obj.TIM_HOLDOVER_TIME, Obj.TIM_DISCONT_COUNT]

/-- What a sample changes; of TIM_STATUS the two limits of the servo alone (R333). -/
structure SampleChange (a b : State) : Prop where
  touches : Touches sampleKeys a b
  frame : TimFrame a b
  status : ∀ i, i ≠ 2 → i ≠ 3 → b.bit Obj.TIM_STATUS i = a.bit Obj.TIM_STATUS i
  misses : b.tim.orbMisses = a.tim.orbMisses

theorem SampleChange.refl (s : State) : SampleChange s s := ⟨.refl s, .refl s, fun _ _ _ => rfl, rfl⟩

theorem SampleChange.trans {a b c : State} (h : SampleChange a b) (g : SampleChange b c) : SampleChange a c :=
  ⟨h.touches.trans g.touches, h.frame.trans g.frame, fun i h2 h3 => (g.status i h2 h3).trans (h.status i h2 h3),
    g.misses.trans h.misses⟩

theorem SampleChange.ite {s a b : State} {c : Prop} [Decidable c] (h : SampleChange s a) (g : SampleChange s b) :
    SampleChange s (if c then a else b) := by
  split
  · exact h
  · exact g

theorem sampleChange_withTim (s : State) {f : Tim → Tim} (hf : (f s.tim).orbMisses = s.tim.orbMisses) : SampleChange s (s.withTim f) :=
  ⟨.withTim s f, timFrame_withTim s f, fun _ _ _ => rfl, hf⟩

theorem sampleChange_raise (s : State) (src : Nat) : SampleChange s (s.raise src) :=
  ⟨.raise s src, timFrame_raise s src, fun _ _ _ => rfl, rfl⟩

theorem sampleChange_put (s : State) {key : Nat} (v : Int) (hkey : key ∈ sampleKeys) (hstatus : key ≠ Obj.TIM_STATUS) :
    SampleChange s (s.put key v) :=
  ⟨.put s v hkey, timFrame_put s key v, fun i _ _ => bit_congr (State.get_put_ne s v (Ne.symm hstatus)) i, rfl⟩

theorem sampleChange_setRate (s : State) (rate : Int) : SampleChange s (s.setRate rate) :=
  ⟨(touches_setRate s rate).mono (by decide), timFrame_setRate s rate,
    fun i _ _ => bit_congr ((touches_setRate s rate).get (by decide) (by decide)) i, rfl⟩

theorem sampleChange_limit (s : State) {i : Nat} (hi : i = 2 ∨ i = 3) (b : Bool) : SampleChange s (s.setBit Obj.TIM_STATUS i b) := by
  refine ⟨.setBit s i b (by decide), timFrame_put s _ _, fun j h2 h3 => ?_, rfl⟩
  have hother : j ≠ i := by rcases hi with rfl | rfl <;> assumption
  simp [State.bit_setBit, hother]

theorem sampleChange_timEnter (s : State) (st src : Nat) (data : List Nat) : SampleChange s (s.timEnter st src data) :=
  ⟨(touches_timEnter ..).mono (by decide), timFrame_timEnter ..,
    fun i _ _ => bit_congr ((touches_timEnter ..).get (by decide) (by decide)) i, by rw [timEnter_tim]⟩

theorem SampleChange.entered {a b : State} (h : SampleChange a b) (c : Prop) [Decidable c] (st src : Nat) (data : List Nat) :
    SampleChange a (if c then b.timEnter st src data else b) := .ite (h.trans (sampleChange_timEnter ..)) h

theorem sampleChange_count (s : State) : SampleChange s (s.count 0x12) :=
  ⟨.count s _ (by decide), timFrame_put s _ _, fun i _ _ => bit_congr (State.get_put_ne s _ (by decide)) i, rfl⟩

theorem sampleChange_timJump (s : State) : SampleChange s s.timJump := by
  by_cases h : s.timState = 0 ∨ s.timState = 4 ∨ s.timState = 5
  · rw [State.timJump, if_pos h]
    exact .refl s
  · have hjump : s.timJump = (jumpCounted s).timEnter 4 389 _ := if_neg h
    rw [hjump]
    have hleft : SampleChange s (if s.timState = 3 then s.raise 388 else s) := .ite (sampleChange_raise s 388) (.refl s)
    exact (((hleft.trans (sampleChange_setRate _ _)).trans
      (sampleChange_put (key := Obj.TIM_DISCONT_COUNT) _ _ (by decide) (by decide))).trans (sampleChange_count _)).trans
      (sampleChange_timEnter ..)

/-! ## The servo -/

/-- The proportional part of the servo on a sample (R333). -/
def servoP (s : State) (o : Int) : Rat :=
  clampQ (-((s.get Obj.TIM_SLEW_MAX : Rat) * 100)) ((s.get Obj.TIM_SLEW_MAX : Rat) * 100)
    (-(o : Rat) / ((s.get Obj.TIM_SERVO_TAU : Rat) / 1000))

/-- The time since the latest sample, in seconds. -/
def servoDt (s : State) : Rat :=
  match s.tim.lastSample with
  | some t => ((s.now - t : Nat) : Rat) / 1000000000
  | none => 0

/-- The frequency estimate that the servo makes of a sample (R333). -/
def servoF (s : State) (o : Int) : Rat :=
  clampQ (-500000) 500000 ((s.get Obj.TIM_FREQ_EST : Rat) * 1000000000 / two40 -
    (o : Rat) * servoDt s / (4 * ((s.get Obj.TIM_SERVO_TAU : Rat) / 1000) * ((s.get Obj.TIM_SERVO_TAU : Rat) / 1000)))

/-- The rate that the servo sets on a sample (R333). -/
def servoA (s : State) (o : Int) : Rat := clampQ (-1000000) 1000000 (servoF s o + servoP s o)

/-- Estimate, rate and limits as the servo shows them. -/
def servoShown (s : State) (o : Int) : State :=
  (((s.put Obj.TIM_FREQ_EST (roundAway (servoF s o * two40 / 1000000000))).setRate
    (roundAway (servoA s o * two40 / 1000000000))).setBit Obj.TIM_STATUS 2
      (decide (absQ (servoP s o) = (s.get Obj.TIM_SLEW_MAX : Rat) * 100))).setBit Obj.TIM_STATUS 3
      (decide (absQ (servoA s o) = 1000000))

theorem servo_eq (s : State) (o : Int) :
    s.servo o = if decide (absQ (servoP s o) = (s.get Obj.TIM_SLEW_MAX : Rat) * 100) && !s.bit Obj.TIM_STATUS 2 then
      (servoShown s o).raise 399 else servoShown s o := rfl

theorem sampleChange_servoShown (s : State) (o : Int) : SampleChange s (servoShown s o) :=
  (((sampleChange_put (key := Obj.TIM_FREQ_EST) s _ (by decide) (by decide)).trans (sampleChange_setRate _ _)).trans
    (sampleChange_limit _ (.inl rfl) _)).trans (sampleChange_limit _ (.inr rfl) _)

theorem sampleChange_servo (s : State) (o : Int) : SampleChange s (s.servo o) := by
  rw [servo_eq]
  exact .ite ((sampleChange_servoShown s o).trans (sampleChange_raise _ 399)) (sampleChange_servoShown s o)

/-- What the servo shows of a sample (R333). -/
structure Steered (s u : State) (o : Int) : Prop where
  estimate : u.get Obj.TIM_FREQ_EST = roundAway (servoF s o * two40 / 1000000000)
  rate : u.get Obj.TIM_RATE_ADJ = roundAway (servoA s o * two40 / 1000000000)
  others : s.onlyEntries u [Obj.TIM_FREQ_EST, Obj.TIM_RATE_ADJ, Obj.TIM_STATUS]
  frame : u = { s with objs := u.objs, tim := u.tim, icu := u.icu }

theorem steered_servoShown (s : State) (o : Int) : Steered s (servoShown s o) o := by
  refine ⟨?estimate, ?rate, fun key hkey => ?others, rfl⟩
  case estimate => simp [servoShown, State.setRate, State.get_put, State.setBit]
  case rate => simp [servoShown, State.setRate, State.get_put, State.setBit]
  case others =>
    simp only [List.mem_cons, List.not_mem_nil, or_false, not_or] at hkey
    simp [servoShown, State.setRate, State.get_put, State.setBit, hkey]

theorem steered_servo (s : State) (o : Int) : Steered s (s.servo o) o := by
  obtain ⟨hestimate, hrate, hothers, hframe⟩ := steered_servoShown s o
  rw [servo_eq]
  split
  · exact ⟨hestimate, hrate, hothers, by rw [hframe]; rfl⟩
  · exact ⟨hestimate, hrate, hothers, hframe⟩

/-! ## Samples -/

/-- A sample noted as the latest one. -/
def sampleMarked (s : State) (o : Int) : State := s.withTim fun t => { t with lastSample := some s.now, lastOffset := o }

theorem sampleChange_marked (s : State) (o : Int) : SampleChange s (sampleMarked s o) := sampleChange_withTim s rfl

theorem timSample_of_jump {s : State} {o : Int} (hlo : 1 ≤ s.timState) (hhi : s.timState ≤ 3) (hbig : 1000000 < absInt o) :
    s.timSample o = sampleMarked (s.put Obj.TIM_OFFSET (saturate 32 o)).timJump o := by
  have hstate : s.timState = 1 ∨ s.timState = 2 ∨ s.timState = 3 := by omega
  unfold State.timSample
  rcases hstate with h | h | h
  all_goals
    simp only [h, hbig, decide_true, if_true]
    rfl

theorem timSample_of_locked {s : State} {o : Int} (hstate : s.timState = 2) (hsmall : absInt o ≤ 1000000)
    (hwithin : absInt o ≤ s.get Obj.TIM_LOCK_LIMIT) :
    s.timSample o = sampleMarked (((s.put Obj.TIM_OFFSET (saturate 32 o)).servo o).withTim fun t => { t with outRun := 0 }) o := by
  unfold State.timSample
  have hbig : ¬1000000 < absInt o := by omega
  simp only [hstate, hbig, hwithin, decide_false, decide_true, if_true, Bool.false_eq_true, if_false]
  rfl

theorem sampleChange_timSample (s : State) (o : Int) : SampleChange (s.put Obj.TIM_OFFSET (saturate 32 o)) (s.timSample o) := by
  unfold State.timSample
  extract_lets s0 big within mark n s1 n' s1'
  have hmark : ∀ a, SampleChange a (mark a) := fun a => sampleChange_withTim a rfl
  have hjump : SampleChange s0 (mark s0.timJump) := (sampleChange_timJump s0).trans (hmark _)
  have hrun : ∀ f : Tim → Tim, (∀ t, (f t).orbMisses = t.orbMisses) → SampleChange s0 (mark ((s0.servo o).withTim f)) :=
    fun f hf => ((sampleChange_servo s0 o).trans (sampleChange_withTim _ (hf _))).trans (hmark _)
  split
  · split
    · exact hjump
    · exact .entered (hrun (fun t => { t with inRun := n }) fun _ => rfl) _ _ _ _
  · split
    · exact hjump
    · exact .entered (hrun (fun t => { t with outRun := n' }) fun _ => rfl) _ _ _ _
  · split
    · exact hjump
    · exact ((sampleChange_timEnter s0 1 388 []).trans (sampleChange_servo _ o)).trans (hmark _)
  · exact hmark s0

theorem get_offset_timSample (s : State) (o : Int) : (s.timSample o).get Obj.TIM_OFFSET = saturate 32 o :=
  ((sampleChange_timSample s o).touches.get (by decide) (by decide)).trans (State.get_put_same ..)

end Sys2Proof.Proofs
end

section
/-!
PROOF. The time counter, its shadow and the messages of PTP (O40; R322 to R335).
-/

namespace Sys2Proof.Proofs

open Sys2Proof Sys2Proof.Machine

/-- A command whose effect on the state it lands in is known answers that effect, settled. -/
theorem done_of_effect {s u : State} {t : Nat} {act : State → State} (h : act (s.land t) = u) :
    s.done t act = .next (State.settle (s.land t) u) := by rw [State.done, h]

/-! ## The counter and its shadow -/

theorem counterWrap_awake (s : State) (t : Nat) (hreset : s.devState ≠ stReset) (hlunar : s.devState ≠ stLunar) :
    ∃ u, exec (.timeCounterWrap t) s = .next (State.settle (s.land t) u) ∧
      u.sourcePending 392 ∧ s.onlyEntries u [] ∧ u = { s.land t with objs := u.objs, icu := u.icu } := by
  refine ⟨(s.land t).raise 392, ?_, sourcePending_raise _ _, fun key _ => State.get_land s t key, rfl⟩
  show execTimeCounterWrap t s = _
  refine done_of_effect ?_
  rw [if_neg (show (s.land t).devState ≠ stReset from hreset)]
  exact if_neg hlunar

theorem counterWrap_lunar (s : State) (t : Nat) (hlunar : s.devState = stLunar) :
    ∃ u, exec (.timeCounterWrap t) s = .next (State.settle (s.land t) u) ∧
      u.get Obj.TIM_LUNAR_WRAPS = min (s.get Obj.TIM_LUNAR_WRAPS + 1) 0xFFFFFFFF ∧ u.sourcePending 392 ∧
      s.onlyEntries u [Obj.TIM_LUNAR_WRAPS] ∧ u = { s.land t with objs := u.objs, icu := u.icu } := by
  have hreset : (s.land t).devState ≠ stReset := fun h => absurd (hlunar.symm.trans h) (by decide)
  refine ⟨((s.land t).raise 392).bump Obj.TIM_LUNAR_WRAPS, ?_, ?_, ?_, fun key hkey => ?_, rfl⟩
  · show execTimeCounterWrap t s = _
    refine done_of_effect ?_
    rw [if_neg hreset]
    exact if_pos hlunar
  · rw [State.get_bump, if_pos rfl]
    rfl
  · exact sourcePending_kept (by decide) (sourcePending_raise (s.land t) 392) (.of_icu rfl)
  · rw [State.get_bump, if_neg (List.ne_of_not_mem_cons hkey)]
    rfl

theorem shadowWrite (s : State) (t h v : Nat) (hruns : s.hartRuns h = true) :
    ∃ u, exec (.timeShadowWrite t h v) s = .next (State.settle (s.land t) u) ∧
      u.tim = { s.tim with shadow := v % 2 ^ 64 } ∧ u.bit Obj.TIM_STATUS 1 = false ∧
      s.onlyEntries u [Obj.TIM_STATUS] ∧ u = { s.land t with objs := u.objs, tim := u.tim } := by
  refine ⟨((s.land t).withTim fun u => { u with shadow := v % 2 ^ 64 }).setBit Obj.TIM_STATUS 1 false, ?_, rfl, ?_,
    fun key hkey => ?_, rfl⟩
  · show execTimeShadowWrite t h v s = _
    refine done_of_effect ?_
    have hrun : (s.land t).hartRuns h = true := hruns
    rw [hrun]
    rfl
  · simp [State.bit_setBit]
  · exact State.get_put_ne _ _ (List.ne_of_not_mem_cons hkey)

theorem shadowStale (s : State) (t : Nat) (hworks : s.timWorks = true) (hold : (s.land t).shadowOld = true)
    (hfresh : s.bit Obj.TIM_STATUS 1 = false) :
    ∃ u, exec (.extStaleTimeout t) s = .next (State.settle (s.land t) u) ∧
      u.bit Obj.TIM_STATUS 1 = true ∧ u.get Obj.TIM_EXT_STALE_COUNT = min (s.get Obj.TIM_EXT_STALE_COUNT + 1) 0xFFFFFFFF ∧
      u.sourcePending 391 ∧ s.entriesBut u [Obj.TIM_STATUS, Obj.TIM_EXT_STALE_COUNT] ∧
      u = { s.land t with objs := u.objs, icu := u.icu, log := u.log, flash := u.flash, dict := u.dict, out := u.out } := by
  have hnoted : Touches [Obj.TIM_STATUS, Obj.TIM_EXT_STALE_COUNT] (s.land t)
      (((s.land t).setBit Obj.TIM_STATUS 1 true).bump Obj.TIM_EXT_STALE_COUNT) :=
    (Touches.setBit _ 1 true (by decide)).trans (.bump _ (by decide))
  have hlogged := State.logOnly_event (((s.land t).setBit Obj.TIM_STATUS 1 true).bump Obj.TIM_EXT_STALE_COUNT) 391 noSubject []
  refine ⟨(((s.land t).setBit Obj.TIM_STATUS 1 true).bump Obj.TIM_EXT_STALE_COUNT).event 391 noSubject [],
    ?effect, ?stale, ?count, sourcePending_event _ (by decide) _ _, (hnoted.trans (.event ..)).entries, ?frame⟩
  case effect =>
    show execExtStaleTimeout t s = _
    refine done_of_effect ?_
    have hw : (s.land t).timWorks = true := hworks
    have hb : (s.land t).bit Obj.TIM_STATUS 1 = false := hfresh
    rw [hw, hold, hb]
    rfl
  case stale =>
    rw [bit_congr (hlogged.1 Obj.TIM_STATUS (by decide))]
    rw [State.bit, State.getN, State.get_bump, if_neg (by decide)]
    exact (State.bit_setBit ..).trans (by simp)
  case count =>
    rw [hlogged.1 _ (by decide), State.get_bump, if_pos rfl, State.get_setBit, if_neg (by decide), State.get_land]
  case frame =>
    rw [hlogged.2]
    rfl

/-! ## Sync -/

theorem syncIgnored (s : State) (t port stamp frac : Nat) (origin : Int) (hheard : s.ptpHeard port = true) :
    ∃ u, exec (.ptpSyncReceive t port false stamp frac origin) s = .next (State.settle (s.land t) u) ∧
      u.get Obj.TIM_PTP_IGNORED = min (s.get Obj.TIM_PTP_IGNORED + 1) 0xFFFFFFFF ∧
      s.onlyEntries u [Obj.TIM_PTP_IGNORED] ∧ u = { s.land t with objs := u.objs } := by
  refine ⟨(s.land t).ptpIgnored, ?_, ?_, fun key hkey => ?_, rfl⟩
  · show execPtpSyncReceive t port false stamp frac origin s = _
    refine done_of_effect ?_
    have hh : (s.land t).ptpHeard port = true := hheard
    rw [hh]
    rfl
  · exact State.get_put_same ..
  · exact State.get_put_ne _ _ (List.ne_of_not_mem_cons hkey)

/-- A Sync of Table 13.1 on a port that hears PTP gives its offset sample. -/
theorem syncReceive_effect {s : State} {t port stamp frac : Nat} {origin o : Int} (hheard : s.ptpHeard port = true)
    (hoffset : s.syncOffset port stamp frac origin = o) :
    exec (.ptpSyncReceive t port true stamp frac origin) s = .next (State.settle (s.land t) ((s.land t).ptpSync port o)) := by
  show execPtpSyncReceive t port true stamp frac origin s = _
  refine done_of_effect ?_
  have hh : (s.land t).ptpHeard port = true := hheard
  have ho : (s.land t).syncOffset port stamp frac origin = o := hoffset
  rw [hh, ho]
  rfl

theorem ptpSync_of_sample {s : State} {port : Nat} (o : Int) (hport : s.getN Obj.TIM_PTP_PORT = port) (hstate : s.timState ≠ 0) :
    s.ptpSync port o = s.timSample o := by
  rw [State.ptpSync, if_neg (not_not.2 hport), if_neg hstate]

/-- The first offset of a port, as it is shown. -/
def firstOffset (s : State) (o : Int) : State :=
  (s.put Obj.TIM_OFFSET (saturate 32 o)).withTim fun t => { t with lastSample := some s.now, lastOffset := o }

theorem touches_firstOffset (s : State) (o : Int) : Touches [Obj.TIM_OFFSET] s (firstOffset s o) :=
  (Touches.put s _ (by decide)).trans (.withTim _ _)

theorem timFrame_firstOffset (s : State) (o : Int) : TimFrame s (firstOffset s o) := rfl

theorem ptpSync_of_firstStep {s : State} {port : Nat} {o : Int} (hport : s.getN Obj.TIM_PTP_PORT = port) (hstate : s.timState = 0)
    (hauto : s.bit Obj.TIM_CTRL 0 = true) (hpeer : s.tim.peerValid.getD port false = true) (hnone : s.tim.pendingStep = none)
    (hstopped : s.orbRunning = false) : s.ptpSync port o = (firstOffset s o).applyStep (-o) 0xFFFFFFFF := by
  rw [State.ptpSync, if_neg (not_not.2 hport), if_pos hstate, hauto, hpeer, hnone]
  have hstop : (firstOffset s o).orbRunning = false := by
    rw [State.orbRunning, State.bit, State.getN, (touches_firstOffset s o).get (by decide) (by decide)]
    exact hstopped
  show State.makeStep (firstOffset s o) (-o) = _
  rw [State.makeStep, hstop]
  rfl

theorem source_of_ptpHeard {s : State} {port : Nat} (h : s.ptpHeard port = true) : s.get Obj.TIM_SOURCE = 0 := by
  simp only [State.ptpHeard, State.ptpOn, Bool.and_eq_true, decide_eq_true_eq] at h
  exact h.2.1

theorem syncFirstStep (s : State) (t port stamp frac : Nat) (origin o : Int) (hheard : s.ptpHeard port = true)
    (hport : s.getN Obj.TIM_PTP_PORT = port) (hoffset : s.syncOffset port stamp frac origin = o) (hstate : s.timState = 0)
    (hauto : s.bit Obj.TIM_CTRL 0 = true) (hpeer : s.tim.peerValid.getD port false = true) (hnone : s.tim.pendingStep = none)
    (hstopped : s.orbRunning = false) :
    ∃ u, exec (.ptpSyncReceive t port true stamp frac origin) s = .next (State.settle (s.land t) u) ∧
      u.get Obj.TIM_LAST_STEP = round250 (-o) ∧ u.get Obj.TIM_STEP_ORB = 0xFFFFFFFF ∧ u.stepped = true ∧
      u.sourcePending 384 ∧ u.timState = 1 ∧ u.get Obj.TIM_OFFSET = saturate 32 o ∧
      u.tim.shadow = ((s.tim.shadow : Int) + round250 (-o)).toNat ∧ s.otherIndices u [0x2C00, 0x2F00] ∧
      u = { s.land t with objs := u.objs, tim := u.tim, cmt := u.cmt, icu := u.icu, log := u.log, flash := u.flash, dict := u.dict,
                          out := u.out } := by
  have hsource : (firstOffset (s.land t) o).get Obj.TIM_SOURCE ≠ 3 := by
    rw [(touches_firstOffset _ o).get (by decide) (by decide), State.get_land, source_of_ptpHeard hheard]
    decide
  obtain ⟨hlast, horbit, hstepped, hpending, hnow, hshadow, htouches, hframe⟩ :=
    applyStep_shows (firstOffset (s.land t) o) (-o) 0xFFFFFFFF
  refine ⟨(firstOffset (s.land t) o).applyStep (-o) 0xFFFFFFFF, ?_, hlast, horbit, hstepped, hpending, ?_, ?_, hshadow, ?_,
    (timFrame_firstOffset _ o).step.trans hframe⟩
  · rw [syncReceive_effect hheard hoffset, ptpSync_of_firstStep (s := s.land t) hport hstate hauto hpeer hnone hstopped]
  · rw [hnow, if_neg hsource]
  · exact (htouches.get (by decide) (by decide)).trans (State.get_put_same ..)
  · exact Touches.otherIndices (keys := Obj.TIM_OFFSET :: appliedKeys)
      (((touches_firstOffset (s.land t) o).mono (by decide)).trans (htouches.mono (by decide))) (by decide)

theorem syncLocked (s : State) (t port stamp frac : Nat) (origin o : Int) (n : Nat) (p f : Rat) (hheard : s.ptpHeard port = true)
    (hport : s.getN Obj.TIM_PTP_PORT = port) (hoffset : s.syncOffset port stamp frac origin = o) (hstate : s.timState = 2)
    (hsmall : absInt o ≤ 1000000) (hwithin : absInt o ≤ s.get Obj.TIM_LOCK_LIMIT) (hlast : s.tim.lastSample = some n)
    (hp : clampQ (-((s.get Obj.TIM_SLEW_MAX : Rat) * 100)) ((s.get Obj.TIM_SLEW_MAX : Rat) * 100)
      (-(o : Rat) / ((s.get Obj.TIM_SERVO_TAU : Rat) / 1000)) = p)
    (hf : clampQ (-500000) 500000 ((s.get Obj.TIM_FREQ_EST : Rat) * 1000000000 / two40 -
      (o : Rat) * ((((s.land t).now - n : Nat) : Rat) / 1000000000) /
        (4 * ((s.get Obj.TIM_SERVO_TAU : Rat) / 1000) * ((s.get Obj.TIM_SERVO_TAU : Rat) / 1000))) = f) :
    ∃ u, exec (.ptpSyncReceive t port true stamp frac origin) s = .next (State.settle (s.land t) u) ∧
      u.timState = 2 ∧ u.get Obj.TIM_FREQ_EST = roundAway (f * two40 / 1000000000) ∧
      u.get Obj.TIM_RATE_ADJ = roundAway (clampQ (-1000000) 1000000 (f + p) * two40 / 1000000000) ∧
      u.get Obj.TIM_OFFSET = saturate 32 o ∧
      (u.tim.lastSample, u.tim.lastOffset, u.tim.outRun) = (some (s.land t).now, o, 0) ∧
      s.onlyEntries u [Obj.TIM_OFFSET, Obj.TIM_FREQ_EST, Obj.TIM_RATE_ADJ, Obj.TIM_STATUS] ∧
      u = { s.land t with objs := u.objs, tim := u.tim, icu := u.icu } := by
  let shown := (s.land t).put Obj.TIM_OFFSET (saturate 32 o)
  have hkept : ∀ key, key ≠ Obj.TIM_OFFSET → shown.get key = s.get key := fun key h => State.get_put_ne (s.land t) _ h
  have hservoP : servoP shown o = p := by
    rw [servoP, hkept _ (by decide), hkept _ (by decide), hp]
  have hdt : servoDt shown = (((s.land t).now - n : Nat) : Rat) / 1000000000 := by
    have htim : shown.tim.lastSample = some n := hlast
    rw [servoDt, htim]
    rfl
  have hservoF : servoF shown o = f := by
    rw [servoF, hkept _ (by decide), hkept _ (by decide), hdt, hf]
  obtain ⟨hestimate, hrate, hothers, hframe⟩ := steered_servo shown o
  have hget : ∀ key, (sampleMarked ((shown.servo o).withTim fun t => { t with outRun := 0 }) o).get key = (shown.servo o).get key :=
    fun _ => rfl
  have hnow : (shown.servo o).now = (s.land t).now := by
    rw [hframe]
    rfl
  refine ⟨sampleMarked ((shown.servo o).withTim fun t => { t with outRun := 0 }) o, ?effect, ?state, ?estimate, ?rate, ?offset,
    ?marks, fun key hkey => ?others, ?frame⟩
  case effect =>
    have hzero : (s.land t).timState ≠ 0 := fun h => absurd (hstate.symm.trans h) (by decide)
    rw [syncReceive_effect hheard hoffset, ptpSync_of_sample (s := s.land t) o hport hzero,
      timSample_of_locked (s := s.land t) hstate hsmall hwithin]
  case state =>
    refine (timState_congr ?_).trans hstate
    rw [hget, hothers _ (by decide), hkept _ (by decide)]
  case estimate => rw [hget, hestimate, hservoF]
  case rate => rw [hget, hrate, servoA, hservoF, hservoP]
  case offset =>
    rw [hget, hothers _ (by decide)]
    exact State.get_put_same ..
  case marks =>
    show (some (shown.servo o).now, o, 0) = _
    rw [hnow]
  case others =>
    simp only [List.mem_cons, List.not_mem_nil, or_false, not_or] at hkey
    obtain ⟨hoff, hest, hadj, hst⟩ := hkey
    rw [hget, hothers key (by simp [hest, hadj, hst]), hkept key hoff]
  case frame =>
    show sampleMarked ((shown.servo o).withTim _) o = _
    rw [hframe]
    rfl

theorem syncJump (s : State) (t port stamp frac : Nat) (origin o : Int) (hheard : s.ptpHeard port = true)
    (hport : s.getN Obj.TIM_PTP_PORT = port) (hoffset : s.syncOffset port stamp frac origin = o) (hlo : 1 ≤ s.timState)
    (hhi : s.timState ≤ 3) (hbig : 1000000 < absInt o) :
    ∃ u, exec (.ptpSyncReceive t port true stamp frac origin) s = .next (State.settle (s.land t) u) ∧
      u.timState = 4 ∧ u.get Obj.TIM_DISCONT_COUNT = min (s.get Obj.TIM_DISCONT_COUNT + 1) 0xFFFFFFFF ∧
      u.get Obj.TIM_RATE_ADJ = s.get Obj.TIM_FREQ_EST ∧ u.get Obj.TIM_OFFSET = saturate 32 o ∧ u.tim.lastOffset = o ∧
      u.sourcePending 389 ∧ s.otherIndices u [0x2C00] ∧
      u = { s.land t with objs := u.objs, tim := u.tim, icu := u.icu, log := u.log, flash := u.flash, dict := u.dict,
                          out := u.out } := by
  have hput : Touches (Obj.TIM_OFFSET :: sampleKeys) (s.land t) ((s.land t).put Obj.TIM_OFFSET (saturate 32 o)) := .put _ _ (by decide)
  have hchange := sampleChange_timSample (s.land t) o
  have hjumped : (s.land t).timSample o = sampleMarked ((s.land t).put Obj.TIM_OFFSET (saturate 32 o)).timJump o :=
    timSample_of_jump (s := s.land t) hlo hhi hbig
  have hshown : ((s.land t).put Obj.TIM_OFFSET (saturate 32 o)).timState = s.timState :=
    timState_congr (State.get_put_ne (s.land t) _ (by decide))
  obtain ⟨hstate, hrate, hcount, hpending⟩ :=
    timJump_shows (s := (s.land t).put Obj.TIM_OFFSET (saturate 32 o)) (by rw [hshown]; exact hlo) (by rw [hshown]; exact hhi)
  refine ⟨(s.land t).timSample o, ?effect, ?state, ?count, ?rate, get_offset_timSample _ o, ?last, ?pending,
    (hput.trans (hchange.touches.mono (by decide))).otherIndices (by decide), TimFrame.trans (timFrame_put _ _ _) hchange.frame⟩
  case effect =>
    have hzero : (s.land t).timState ≠ 0 := Nat.one_le_iff_ne_zero.1 hlo
    rw [syncReceive_effect hheard hoffset, ptpSync_of_sample (s := s.land t) o hport hzero]
  case state =>
    rw [hjumped]
    exact hstate
  case count =>
    rw [State.get_put_ne _ _ (by decide)] at hcount
    rw [hjumped]
    exact hcount
  case rate =>
    rw [State.get_put_ne _ _ (by decide)] at hrate
    rw [hjumped]
    exact hrate
  case last =>
    rw [hjumped]
    rfl
  case pending =>
    rw [hjumped]
    exact hpending

end Sys2Proof.Proofs
end

section
/-!
PROOF. Masters, announce timeouts and peer delay, and what disciplines the counter (O40; R328, R329, R334).
-/

namespace Sys2Proof.Proofs

open Sys2Proof Sys2Proof.Machine

/-! ## The port and grandmaster in use -/

/-- The grandmaster that the best port brings, the old one without a master. -/
def bestGm (s : State) : Int :=
  match s.tim.masters.getD s.bestPort none with
  | some m => m.identity
  | none => s.getN Obj.TIM_GM_IDENTITY

/-- Port and grandmaster in use, as they are shown. -/
def selected (s : State) : State := (s.put Obj.TIM_PTP_PORT s.bestPort).put Obj.TIM_GM_IDENTITY (bestGm s)

/-- The change of grandmaster or port is one (R329). -/
def newMaster (s : State) : Bool :=
  s.getN Obj.TIM_PTP_PORT ≠ 0xFF && s.bestPort ≠ 0xFF &&
    (s.getN Obj.TIM_PTP_PORT ≠ s.bestPort || (s.getN Obj.TIM_GM_IDENTITY : Int) ≠ bestGm s)

theorem ptpSelect_eq (s : State) :
    s.ptpSelect = if newMaster s then ((selected s).bump Obj.TIM_GM_CHANGES).raise 390 else selected s := by
  unfold State.ptpSelect newMaster selected bestGm
  rfl

/-- The entries of the master in use. -/
abbrev masterKeys : List Nat := [Obj.TIM_PTP_PORT, Obj.TIM_GM_IDENTITY, Obj.TIM_GM_CHANGES]

/-- What a choice of the master shows (R329). -/
structure MasterChosen (s u : State) : Prop where
  port : u.get Obj.TIM_PTP_PORT = s.bestPort
  identity : u.get Obj.TIM_GM_IDENTITY = bestGm s
  counted : newMaster s = true → u.get Obj.TIM_GM_CHANGES = min (s.get Obj.TIM_GM_CHANGES + 1) 0xFFFFFFFF ∧ u.sourcePending 390
  others : s.onlyEntries u masterKeys
  frame : u = { s with objs := u.objs, icu := u.icu }

theorem ptpSelect_shows (s : State) : MasterChosen s s.ptpSelect := by
  have hselected : ∀ key, (selected s).get key =
      if key = Obj.TIM_GM_IDENTITY then bestGm s else if key = Obj.TIM_PTP_PORT then (s.bestPort : Int) else s.get key :=
    fun key => by rw [selected, State.get_put, State.get_put]
  have hothers : s.onlyEntries (selected s) masterKeys := by
    intro key hkey
    simp only [List.mem_cons, List.not_mem_nil, or_false, not_or] at hkey
    rw [hselected, if_neg hkey.2.1, if_neg hkey.1]
  rw [ptpSelect_eq]
  by_cases hnew : newMaster s = true
  · rw [if_pos hnew]
    have hget : ∀ key, key ≠ Obj.TIM_GM_CHANGES →
        (((selected s).bump Obj.TIM_GM_CHANGES).raise 390).get key = (selected s).get key := fun key h => by
      rw [State.get_raise, State.get_bump, if_neg h]
    refine ⟨?_, ?_, fun _ => ⟨?_, sourcePending_raise _ _⟩, fun key hkey => ?_, rfl⟩
    · rw [hget _ (by decide), hselected, if_neg (by decide), if_pos rfl]
    · rw [hget _ (by decide), hselected, if_pos rfl]
    · rw [State.get_raise, State.get_bump, if_pos rfl, hselected, if_neg (by decide), if_neg (by decide)]
    · rw [hget key fun h => hkey (h ▸ by decide), hothers key hkey]
  · rw [if_neg hnew]
    refine ⟨?_, ?_, fun h => absurd h hnew, hothers, rfl⟩
    · rw [hselected, if_neg (by decide), if_pos rfl]
    · rw [hselected, if_pos rfl]

/-! ## Announce -/

/-- The master of a port as an Announce gives it. -/
def masterHeard (s : State) (port identity : Nat) (dataset : List Nat) : State :=
  s.withTim fun u => { u with masters := u.masters.set port (some { identity := identity % 2 ^ 64, dataset := dataset }) }

/-- What an Announce of Table 13.1 does. -/
def announced (s : State) (port identity : Nat) (dataset : List Nat) (utc : Int) : State :=
  if (masterHeard s port identity dataset).ptpSelect.getN Obj.TIM_PTP_PORT = port then
    (masterHeard s port identity dataset).ptpSelect.put Obj.TIM_UTC_OFFSET (signed 16 (unsigned 16 utc))
  else (masterHeard s port identity dataset).ptpSelect

theorem announce_effect {s : State} {t port : Nat} (identity : Nat) (dataset : List Nat) (utc : Int)
    (hheard : s.ptpHeard port = true) :
    exec (.ptpAnnounceReceive t port true identity dataset utc) s =
      .next (State.settle (s.land t) (announced (s.land t) port identity dataset utc)) := by
  show execPtpAnnounceReceive t port true identity dataset utc s = _
  refine done_of_effect ?_
  have hh : (s.land t).ptpHeard port = true := hheard
  rw [hh]
  rfl

/-- Port, grandmaster and offset stay in the entries of Table 13.8 (R329). -/
theorem announced_others (s : State) (port identity : Nat) (dataset : List Nat) (utc : Int) :
    s.onlyEntries (announced s port identity dataset utc)
      [Obj.TIM_PTP_PORT, Obj.TIM_GM_IDENTITY, Obj.TIM_GM_CHANGES, Obj.TIM_UTC_OFFSET] := by
  intro key hkey
  simp only [List.mem_cons, List.not_mem_nil, or_false, not_or] at hkey
  obtain ⟨hport, hgm, hchanges, hutc⟩ := hkey
  have hchosen := (ptpSelect_shows (masterHeard s port identity dataset)).others key (by simp [hport, hgm, hchanges])
  rw [announced]
  split
  · rw [State.get_put_ne _ _ hutc, hchosen]
    rfl
  · rw [hchosen]
    rfl

theorem announced_tim (s : State) (port identity : Nat) (dataset : List Nat) (utc : Int) :
    (announced s port identity dataset utc).tim = (masterHeard s port identity dataset).tim := by
  have hframe := (ptpSelect_shows (masterHeard s port identity dataset)).frame
  have htim : (masterHeard s port identity dataset).ptpSelect.tim = (masterHeard s port identity dataset).tim := by rw [hframe]
  rw [announced]
  split
  · exact htim
  · exact htim

theorem announced_frame (s : State) (port identity : Nat) (dataset : List Nat) (utc : Int) :
    announced s port identity dataset utc =
      { s with objs := (announced s port identity dataset utc).objs, tim := (announced s port identity dataset utc).tim,
               icu := (announced s port identity dataset utc).icu } := by
  have hframe := (ptpSelect_shows (masterHeard s port identity dataset)).frame
  rw [announced]
  split
  · rw [hframe]
    rfl
  · rw [hframe]
    rfl

theorem get_announced {s : State} {port identity : Nat} {dataset : List Nat} {utc : Int} {key : Nat} (hkey : key ≠ Obj.TIM_UTC_OFFSET) :
    (announced s port identity dataset utc).get key = (masterHeard s port identity dataset).ptpSelect.get key := by
  rw [announced]
  split
  · exact State.get_put_ne _ _ hkey
  · rfl

theorem announce_first (s : State) (t identity : Nat) (dataset : List Nat) (utc : Int) (m : Option Master)
    (hheard : s.ptpHeard 0 = true) (hmasters : s.tim.masters = [m, none]) :
    ∃ u, exec (.ptpAnnounceReceive t 0 true identity dataset utc) s = .next (State.settle (s.land t) u) ∧
      u.tim = { s.tim with masters := [some { identity := identity % 2 ^ 64, dataset := dataset }, none] } ∧
      u.get Obj.TIM_PTP_PORT = 0 ∧ u.get Obj.TIM_GM_IDENTITY = (identity % 2 ^ 64 : Nat) ∧
      u.get Obj.TIM_UTC_OFFSET = signed 16 (unsigned 16 utc) ∧
      (s.getN Obj.TIM_PTP_PORT ≠ 0xFF → s.getN Obj.TIM_PTP_PORT ≠ 0 ∨ s.getN Obj.TIM_GM_IDENTITY ≠ identity % 2 ^ 64 →
        u.get Obj.TIM_GM_CHANGES = min (s.get Obj.TIM_GM_CHANGES + 1) 0xFFFFFFFF ∧ u.sourcePending 390) ∧
      s.onlyEntries u [Obj.TIM_PTP_PORT, Obj.TIM_GM_IDENTITY, Obj.TIM_GM_CHANGES, Obj.TIM_UTC_OFFSET] ∧
      u = { s.land t with objs := u.objs, tim := u.tim, icu := u.icu } := by
  let a := masterHeard (s.land t) 0 identity dataset
  have hheardMasters : a.tim.masters = [some { identity := identity % 2 ^ 64, dataset := dataset }, none] := by
    show s.tim.masters.set 0 _ = _
    rw [hmasters]
    rfl
  have hport : a.bestPort = 0 := by rw [State.bestPort, hheardMasters]; rfl
  have hgm : bestGm a = ((identity % 2 ^ 64 : Nat) : Int) := by rw [bestGm, hport, hheardMasters]; rfl
  obtain ⟨hshown, hidentity, hcounted, -, -⟩ := ptpSelect_shows a
  rw [hport] at hshown
  rw [hgm] at hidentity
  have hused : a.ptpSelect.getN Obj.TIM_PTP_PORT = 0 := by rw [State.getN, hshown]; rfl
  have hannounced : announced (s.land t) 0 identity dataset utc =
      a.ptpSelect.put Obj.TIM_UTC_OFFSET (signed 16 (unsigned 16 utc)) := if_pos hused
  refine ⟨announced (s.land t) 0 identity dataset utc, announce_effect identity dataset utc hheard, ?tim, ?port, ?identity, ?utc,
    fun hold hother => ?counted, announced_others (s.land t) 0 identity dataset utc, announced_frame ..⟩
  case tim =>
    rw [announced_tim]
    have htim : a.tim = { s.tim with masters := a.tim.masters } := rfl
    rw [htim, hheardMasters]
  case port => exact (get_announced (by decide)).trans hshown
  case identity => exact (get_announced (by decide)).trans hidentity
  case utc =>
    rw [hannounced]
    exact State.get_put_same ..
  case counted =>
    have hnew : newMaster a = true := by
      have hgot : ∀ key, a.getN key = s.getN key := fun _ => rfl
      rw [newMaster, hgot, hgot, hport, hgm]
      have hchanged : (s.getN Obj.TIM_PTP_PORT ≠ 0 || (s.getN Obj.TIM_GM_IDENTITY : Int) ≠ ((identity % 2 ^ 64 : Nat) : Int)) = true := by
        rw [Bool.or_eq_true, decide_eq_true_eq, decide_eq_true_eq, Ne, Ne, Int.natCast_inj]
        exact hother
      rw [hchanged, decide_eq_true hold]
      rfl
    obtain ⟨hchanges, hpending⟩ := hcounted hnew
    rw [hannounced]
    rw [State.get_put_ne _ _ (by decide)]
    exact ⟨hchanges, sourcePending_kept (by decide) hpending (.of_icu rfl)⟩

theorem announce_any (s : State) (t port identity : Nat) (dataset : List Nat) (utc : Int) (hheard : s.ptpHeard port = true) :
    ∃ u, exec (.ptpAnnounceReceive t port true identity dataset utc) s = .next (State.settle (s.land t) u) ∧
      u.tim.masters = s.tim.masters.set port (some { identity := identity % 2 ^ 64, dataset := dataset }) ∧
      u.getN Obj.TIM_PTP_PORT = u.bestPort ∧
      s.onlyEntries u [Obj.TIM_PTP_PORT, Obj.TIM_GM_IDENTITY, Obj.TIM_GM_CHANGES, Obj.TIM_UTC_OFFSET] ∧
      u = { s.land t with objs := u.objs, tim := u.tim, icu := u.icu } := by
  have htim := announced_tim (s.land t) port identity dataset utc
  refine ⟨announced (s.land t) port identity dataset utc, announce_effect identity dataset utc hheard, ?masters, ?port,
    announced_others (s.land t) port identity dataset utc, announced_frame ..⟩
  case masters =>
    rw [htim]
    rfl
  case port =>
    have hbest : (announced (s.land t) port identity dataset utc).bestPort = (masterHeard (s.land t) port identity dataset).bestPort := by
      rw [State.bestPort, State.bestPort, htim]
    rw [hbest, State.getN, get_announced (by decide), (ptpSelect_shows _).port, Int.toNat_natCast]

/-! ## The announce receipt timeout -/

/-- The master of a port gone. -/
def masterGone (s : State) (port : Nat) : State := s.withTim fun u => { u with masters := u.masters.set port none }

theorem announceTimeout_last (s : State) (t : Nat) (m : Master) (hheard : s.ptpHeard 0 = true) (hmasters : s.tim.masters = [some m, none])
    (hport : s.getN Obj.TIM_PTP_PORT = 0) (hstate : s.timState = 1 ∨ s.timState = 2) :
    ∃ u, exec (.ptpAnnounceTimeout t 0) s = .next (State.settle (s.land t) u) ∧
      u.tim.masters = [none, none] ∧ u.get Obj.TIM_PTP_PORT = 0xFF ∧ u.timState = 3 ∧
      u.get Obj.TIM_RATE_ADJ = s.get Obj.TIM_FREQ_EST ∧ u.sourcePending 387 ∧
      s.entriesBut u [Obj.TIM_PTP_PORT, Obj.TIM_GM_IDENTITY, Obj.TIM_STATE, Obj.TIM_RATE_ADJ, Obj.TIM_HOLDOVER_TIME] ∧
      u = { s.land t with objs := u.objs, tim := u.tim, icu := u.icu, log := u.log, flash := u.flash, dict := u.dict,
                          out := u.out } := by
  let a := masterGone (s.land t) 0
  have hgone : a.tim.masters = [none, none] := by
    show s.tim.masters.set 0 none = _
    rw [hmasters]
    rfl
  have hbest : a.bestPort = 0xFF := by rw [State.bestPort, hgone]; rfl
  have hnew : newMaster a = false := by rw [newMaster, hbest]; simp
  have hselect : a.ptpSelect = selected a := by rw [ptpSelect_eq, hnew]; rfl
  have hget : ∀ key, key ≠ Obj.TIM_PTP_PORT → key ≠ Obj.TIM_GM_IDENTITY → (selected a).get key = s.get key := fun key hp hg => by
    rw [selected, State.get_put_ne _ _ hg, State.get_put_ne _ _ hp]
    rfl
  have hshown : (selected a).get Obj.TIM_PTP_PORT = 0xFF := by
    rw [selected, State.get_put_ne _ _ (by decide), State.get_put_same, hbest]
    rfl
  have hfollowed : (selected a).timState = 1 ∨ (selected a).timState = 2 := by
    rw [timState_congr (hget Obj.TIM_STATE (by decide) (by decide))]
    exact hstate
  obtain ⟨hheld, hrate, hpending⟩ := timLost_shows hfollowed
  have htouches := touches_timLost (selected a)
  refine ⟨(selected a).timLost, ?effect, ?masters, ?port, hheld, ?rate, hpending, fun key hlog hkey => ?others, ?frame⟩
  case effect =>
    show execPtpAnnounceTimeout t 0 s = _
    refine done_of_effect ?_
    have hh : (s.land t).ptpHeard 0 = true := hheard
    have hmaster : (s.land t).tim.masters.getD 0 none = some m := by
      show s.tim.masters.getD 0 none = _
      rw [hmasters]
      rfl
    have hp : (s.land t).getN Obj.TIM_PTP_PORT = 0 := hport
    have hunused : (selected a).getN Obj.TIM_PTP_PORT = 0xFF := by rw [State.getN, hshown]; rfl
    rw [hh, hmaster]
    show (s.land t).announceGone 0 = _
    unfold State.announceGone
    extract_lets used s1
    have hs1 : s1 = selected a := hselect
    have huse : used = true := decide_eq_true hp
    rw [hs1, huse, hunused]
    rfl
  case masters =>
    rw [timLost_of_tracking hfollowed, timEnter_tim]
    exact hgone
  case port => rw [htouches.get (by decide) (by decide), hshown]
  case rate => rw [hrate, hget _ (by decide) (by decide)]
  case others =>
    simp only [List.mem_cons, List.not_mem_nil, or_false, not_or] at hkey
    obtain ⟨hp, hg, hst, hr, hh⟩ := hkey
    rw [htouches.get hlog (by simp [hst, hr, hh]), hget key hp hg]
  case frame =>
    exact TimFrame.trans (a := s.land t) (b := selected a) rfl (timFrame_timLost _)

/-! ## Peer delay -/

/-- The peer delay of a port is asked for (R328). -/
def pdelayAsked (s : State) (port : Nat) : State := if s.ptpHeard port then s.emit (.eth port 2 [2, s.time32]) else s

theorem pdelayAsked_out (s : State) (port : Nat) :
    (pdelayAsked s port).out = s.out ++ if s.ptpHeard port then [.eth port 2 [2, s.time32]] else [] := by
  unfold pdelayAsked
  split
  · rfl
  · exact (List.append_nil _).symm

theorem get_pdelayAsked (s : State) (port key : Nat) : (pdelayAsked s port).get key = s.get key := by
  unfold pdelayAsked
  split <;> rfl

theorem pdelayTimer (s : State) (t : Nat) :
    ∃ u, exec (.ptpPdelayTimer t) s = .next (State.settle (s.land t) u) ∧
      (u.out = ([0, 1].filter s.ptpHeard).map fun p => Out.eth p 2 [2, (s.land t).time32]) ∧
      s.onlyEntries u [] ∧ u = { s.land t with objs := u.objs, out := u.out } := by
  refine ⟨pdelayAsked (pdelayAsked (s.land t) 0) 1, rfl, ?_, fun key _ => ?_, ?_⟩
  · have hone : (pdelayAsked (s.land t) 0).ptpHeard 1 = s.ptpHeard 1 := by
      unfold pdelayAsked
      split <;> rfl
    have htime : (pdelayAsked (s.land t) 0).time32 = (s.land t).time32 := by
      unfold pdelayAsked
      split <;> rfl
    have hzero : (s.land t).ptpHeard 0 = s.ptpHeard 0 := rfl
    rw [pdelayAsked_out, pdelayAsked_out, hone, htime, hzero]
    cases h0 : s.ptpHeard 0 <;> cases h1 : s.ptpHeard 1 <;> simp [h0, h1]
  · rw [get_pdelayAsked, get_pdelayAsked, State.get_land]
  · unfold pdelayAsked
    split <;> split <;> rfl

theorem pdelayRequest (s : State) (t port seq req : Nat) (hheard : s.ptpHeard port = true) :
    ∃ u, exec (.ptpPdelayReqReceive t port true seq req) s = .next (State.settle (s.land t) u) ∧
      u.out = [Out.eth port 2 [3, seq, req, (s.land t).time32], Out.eth port 2 [10, seq, req, (s.land t).time32]] ∧
      s.onlyEntries u [] ∧ u = { s.land t with objs := u.objs, out := u.out } := by
  refine ⟨((s.land t).emit (.eth port 2 [3, seq, req, (s.land t).time32])).emit (.eth port 2 [10, seq, req, (s.land t).time32]),
    ?_, rfl, fun key _ => State.get_land s t key, rfl⟩
  show execPtpPdelayReqReceive t port true seq req s = _
  refine done_of_effect ?_
  have hh : (s.land t).ptpHeard port = true := hheard
  rw [hh]
  rfl

theorem pdelayResponse (s : State) (t port : Nat) (t1 t2 t3 t4 : Int) (hheard : s.ptpHeard port = true) :
    ∃ u, exec (.ptpPdelayRespReceive t port true t1 t2 t3 t4) s = .next (State.settle (s.land t) u) ∧
      u.get (Obj.TIM_PEER_DELAY port) = saturateU 32 (s.peerDelay port t1 t2 t3 t4) ∧
      u.tim = { s.tim with peerValid := s.tim.peerValid.set port true } ∧
      s.onlyEntries u [Obj.TIM_PEER_DELAY port] ∧ u = { s.land t with objs := u.objs, tim := u.tim } := by
  refine ⟨((s.land t).put (Obj.TIM_PEER_DELAY port) (saturateU 32 ((s.land t).peerDelay port t1 t2 t3 t4))).withTim fun u =>
    { u with peerValid := u.peerValid.set port true }, ?_, State.get_put_same .., rfl, fun key hkey => ?_, rfl⟩
  · show execPtpPdelayRespReceive t port true t1 t2 t3 t4 s = _
    refine done_of_effect ?_
    have hh : (s.land t).ptpHeard port = true := hheard
    rw [hh]
    rfl
  · exact State.get_put_ne _ _ (List.ne_of_not_mem_cons hkey)

/-- Settles O40: each clause is the branch of its command, its effect read off the rules of the time unit. -/
theorem theCounterIsDisciplined : Obligations.TheCounterIsDisciplined := by
  intro s t
  exact ⟨counterWrap_awake s t, counterWrap_lunar s t, shadowWrite s t, shadowStale s t,
    fun port stamp frac origin => syncIgnored s t port stamp frac origin,
    fun port stamp frac origin o => syncFirstStep s t port stamp frac origin o,
    fun port stamp frac origin o n p f => syncLocked s t port stamp frac origin o n p f,
    fun port stamp frac origin o => syncJump s t port stamp frac origin o,
    fun identity dataset utc m => announce_first s t identity dataset utc m,
    fun port identity dataset utc hheard _ => announce_any s t port identity dataset utc hheard,
    fun m => announceTimeout_last s t m, pdelayTimer s t, fun port seq req => pdelayRequest s t port seq req,
    fun port t1 t2 t3 t4 => pdelayResponse s t port t1 t2 t3 t4⟩

end Sys2Proof.Proofs
end

section
/-!
PROOF. Edges of PPS_IN and ORB_SYNC_IN, and seconds and cycles without one (O41; R331, R334, R342, R344).
-/

namespace Sys2Proof.Proofs

open Sys2Proof Sys2Proof.Machine

/-! ## The instant that an input is seen at -/

theorem CmtChange.time32 {a b : State} (h : CmtChange a b) : b.time32 = a.time32 := by
  have hrate : b.get Obj.TIM_RATE_ADJ = a.get Obj.TIM_RATE_ADJ := h.get (by decide) (by decide)
  unfold State.time32 State.counter
  rw [hrate, h.tim, h.now]

theorem CmtChange.nowExt {a b : State} (h : CmtChange a b) : b.nowExt = a.nowExt := by
  rw [State.nowExt, State.nowExt, h.time32, h.tim]

/-- The state with the edge of an input recorded by Comet (R400). -/
def inputSeen (s : State) (t code : Nat) : State := (s.land t).cmtInput code (s.land t).time32 none

theorem inputSeen_change (s : State) (t code : Nat) : CmtChange (s.land t) (inputSeen s t code) := cmtChange_input _ _ _ _

theorem get_inputSeen (s : State) (t code : Nat) {key : Nat} (hlog : isLogEntry key = false) (hkey : key ∉ captureKeys) :
    (inputSeen s t code).get key = s.get key := ((inputSeen_change s t code).get hlog hkey).trans (State.get_land s t key)

theorem tim_inputSeen (s : State) (t code : Nat) : (inputSeen s t code).tim = s.tim := (inputSeen_change s t code).tim

theorem nowExt_inputSeen (s : State) (t code : Nat) : (inputSeen s t code).nowExt = (s.land t).nowExt :=
  (inputSeen_change s t code).nowExt

theorem timState_inputSeen (s : State) (t code : Nat) : (inputSeen s t code).timState = s.timState :=
  timState_congr (get_inputSeen s t code (by decide) (by decide))

theorem ppsInEdge_effect {s : State} {t : Nat} (hworks : s.timWorks = true) :
    exec (.ppsInEdge t) s = .next (State.settle (s.land t) (inputSeen s t 0x74).ppsEdge) := by
  show execPpsInEdge t s = _
  refine done_of_effect ?_
  have hw : (s.land t).timWorks = true := hworks
  rw [hw]
  rfl

/-! ## A qualified edge of PPS_IN -/

/-- The offset of a qualified edge (R342). -/
def ppsOffset (s : State) (ext : Nat) : Int :=
  ((ext : Int) - s.get Obj.TIM_PPS_IN_DELAY) - nearestSecond ((ext : Int) - s.get Obj.TIM_PPS_IN_DELAY)

/-- A qualified edge as it is shown and noted. -/
def ppsShown (s : State) (ext : Nat) : State :=
  (((s.put Obj.TIM_PPS_IN_OFFSET (saturate 32 (ppsOffset s ext))).setBit Obj.TIM_STATUS 4 true).withTim fun t =>
    { t with ppsPrev := some ext, ppsFails := 0 }).histogram 14 (-155) 5 (ppsOffset s ext : Rat)

theorem ppsQualified_of_other {s : State} {ext : Nat} (hsource : (ppsShown s ext).get Obj.TIM_SOURCE ≠ 1) :
    s.ppsQualified ext = ppsShown s ext := if_pos hsource

theorem ppsQualified_of_first {s : State} {ext v : Nat} (hsource : (ppsShown s ext).get Obj.TIM_SOURCE = 1)
    (hstate : (ppsShown s ext).timState = 0) (hset : (ppsShown s ext).tim.setTime = some v)
    (hnone : (ppsShown s ext).tim.pendingStep = none) (hstopped : (ppsShown s ext).orbRunning = false) :
    s.ppsQualified ext =
      (ppsShown s ext).applyStep ((v : Int) + (ppsShown s ext).get Obj.TIM_PPS_IN_DELAY - ext) 0xFFFFFFFF := by
  have hqualified : s.ppsQualified ext =
      (if (ppsShown s ext).get Obj.TIM_SOURCE ≠ 1 then ppsShown s ext
        else if (ppsShown s ext).timState = 0 then
          match (ppsShown s ext).tim.setTime, (ppsShown s ext).tim.pendingStep with
          | some t, none => (ppsShown s ext).makeStep ((t : Int) + (ppsShown s ext).get Obj.TIM_PPS_IN_DELAY - ext)
          | _, _ => ppsShown s ext
        else (ppsShown s ext).timSample (ppsOffset s ext)) := rfl
  rw [hqualified, if_neg (not_not.2 hsource), if_pos hstate, hset, hnone]
  show State.makeStep _ _ = _
  rw [State.makeStep, hstopped]
  rfl

theorem touches_histogram (s : State) (l w q : Rat) {keys : List Nat} : Touches keys s (s.histogram 14 l w q) := by
  have hbin := histBin_le l w q
  refine .ite (.refl s) (.of_logOnly (State.logOnly_put s _ ?_) (.of_icu rfl))
  simp only [isLogEntry, Bool.and_eq_true, decide_eq_true_eq, Obj.LOG_HIST]
  omega

theorem touches_ppsShown (s : State) (ext : Nat) : Touches [Obj.TIM_PPS_IN_OFFSET, Obj.TIM_STATUS] s (ppsShown s ext) :=
  (((Touches.put s _ (by decide)).trans (.setBit _ _ _ (by decide))).trans (.withTim _ _)).trans (touches_histogram _ _ _ _)

theorem ppsShown_frame (s : State) (ext : Nat) :
    ppsShown s ext =
      { s with objs := (ppsShown s ext).objs, tim := { s.tim with ppsPrev := some ext, ppsFails := 0 } } := by
  have hstore := storeOnly_histogram (((s.put Obj.TIM_PPS_IN_OFFSET (saturate 32 (ppsOffset s ext))).setBit Obj.TIM_STATUS 4 true).withTim
    fun t => { t with ppsPrev := some ext, ppsFails := 0 }) 14 (-155) 5 (ppsOffset s ext : Rat)
  unfold StoreOnly at hstore
  unfold ppsShown
  rw [hstore]
  rfl

theorem tim_ppsShown (s : State) (ext : Nat) : (ppsShown s ext).tim = { s.tim with ppsPrev := some ext, ppsFails := 0 } := by
  rw [ppsShown_frame]

theorem timFrame_ppsShown (s : State) (ext : Nat) : TimFrame s (ppsShown s ext) := by
  unfold TimFrame
  rw [ppsShown_frame]

/-- Before its sample enters the histogram an edge shows its offset and its presence. -/
theorem get_ppsShown (s : State) (ext : Nat) :
    (ppsShown s ext).get Obj.TIM_PPS_IN_OFFSET = saturate 32 (ppsOffset s ext) ∧ (ppsShown s ext).bit Obj.TIM_STATUS 4 = true := by
  have hsample : ∀ key, isLogEntry key = false → (ppsShown s ext).get key =
      ((s.put Obj.TIM_PPS_IN_OFFSET (saturate 32 (ppsOffset s ext))).setBit Obj.TIM_STATUS 4 true).get key :=
    fun key hlog => (touches_histogram (keys := []) _ _ _ _).get hlog (by simp)
  refine ⟨?_, ?_⟩
  · rw [hsample _ (by decide), State.get_setBit, if_neg (by decide), State.get_put_same]
  · rw [bit_congr (hsample Obj.TIM_STATUS (by decide))]
    exact (State.bit_setBit ..).trans (by simp)

/-- The entries that an edge of PPS_IN changes lie in these indices (Tables 13.8, 16.7). -/
abbrev edgeIndices : List Nat := [0x2C20, 0x2C00, 0x2F00]

theorem ppsEdge_of_qualified {s : State} {ext : Nat} (hext : s.nowExt = ext)
    (hprev : s.tim.ppsPrev.all (fun p => decide (absInt ((ext : Int) - p - 1000000000) ≤ 10000)) = true) :
    s.ppsEdge = s.ppsQualified ext := by
  unfold State.ppsEdge
  rw [hext]
  cases hp : s.tim.ppsPrev with
  | none => rfl
  | some p =>
    rw [hp] at hprev
    exact if_pos (of_decide_eq_true hprev)

theorem ppsEdge_qualified (s : State) (t : Nat) (hworks : s.timWorks = true)
    (hprev : s.tim.ppsPrev.all (fun p => decide (absInt (((s.land t).nowExt : Int) - p - 1000000000) ≤ 10000)) = true)
    (hsource : s.get Obj.TIM_SOURCE ≠ 1) :
    ∃ u, exec (.ppsInEdge t) s = .next (State.settle (s.land t) u) ∧
      u.get Obj.TIM_PPS_IN_OFFSET = saturate 32 ((((s.land t).nowExt : Int) - s.get Obj.TIM_PPS_IN_DELAY) -
        nearestSecond (((s.land t).nowExt : Int) - s.get Obj.TIM_PPS_IN_DELAY)) ∧
      (u.tim.ppsPrev, u.tim.ppsFails) = (some (s.land t).nowExt, 0) ∧ u.bit Obj.TIM_STATUS 4 = true ∧
      s.otherIndices u [0x2C20, 0x2C00, 0x2F00] ∧
      u = { s.land t with objs := u.objs, tim := u.tim, cmt := u.cmt, icu := u.icu } := by
  have hseen := inputSeen_change s t 0x74
  have hdelay := get_inputSeen s t 0x74 (key := Obj.TIM_PPS_IN_DELAY) (by decide) (by decide)
  have hkept : (inputSeen s t 0x74).get Obj.TIM_SOURCE = s.get Obj.TIM_SOURCE := get_inputSeen s t 0x74 (by decide) (by decide)
  have hother : (ppsShown (inputSeen s t 0x74) (s.land t).nowExt).get Obj.TIM_SOURCE ≠ 1 := by
    rw [(touches_ppsShown _ _).get (by decide) (by decide), hkept]
    exact hsource
  obtain ⟨hoffset, hpresent⟩ := get_ppsShown (inputSeen s t 0x74) (s.land t).nowExt
  refine ⟨ppsShown (inputSeen s t 0x74) (s.land t).nowExt, ?effect, ?offset, ?noted, hpresent, ?others, ?frame⟩
  case effect =>
    rw [ppsInEdge_effect hworks, ppsEdge_of_qualified (nowExt_inputSeen s t 0x74) (by rw [tim_inputSeen]; exact hprev),
      ppsQualified_of_other hother]
  case offset => rw [hoffset, ppsOffset, hdelay]
  case noted => rw [tim_ppsShown]
  case others =>
    have htouches : Touches [Obj.TIM_PPS_IN_OFFSET, Obj.TIM_STATUS, Obj.CMT_WRITTEN, Obj.CMT_LOSS_BLOCKS, Obj.CMT_EDGE_LOSS] (s.land t)
        (ppsShown (inputSeen s t 0x74) (s.land t).nowExt) :=
      (hseen.touches.mono (by decide)).trans ((touches_ppsShown _ _).mono (by decide))
    exact htouches.otherIndices (by decide)
  case frame =>
    have hframe := hseen.frame
    rw [ppsShown_frame]
    generalize inputSeen s t 0x74 = a at hframe ⊢
    rw [hframe]

theorem ppsEdge_unqualified (s : State) (t p : Nat) (hworks : s.timWorks = true) (hprev : s.tim.ppsPrev = some p)
    (hfar : 10000 < absInt (((s.land t).nowExt : Int) - p - 1000000000)) :
    ∃ u, exec (.ppsInEdge t) s = .next (State.settle (s.land t) u) ∧
      s.otherIndices u [0x2F00] ∧ u = { s.land t with objs := u.objs, cmt := u.cmt, icu := u.icu } := by
  have hseen := inputSeen_change s t 0x74
  refine ⟨inputSeen s t 0x74, ?_, hseen.touches.otherIndices (by decide), hseen.frame⟩
  have hnear : ¬absInt (((s.land t).nowExt : Int) - p - 1000000000) ≤ 10000 := by omega
  have hedge : (inputSeen s t 0x74).ppsEdge = inputSeen s t 0x74 := by
    unfold State.ppsEdge
    rw [tim_inputSeen, hprev, nowExt_inputSeen]
    exact if_neg hnear
  rw [ppsInEdge_effect hworks, hedge]

theorem ppsEdge_firstStep (s : State) (t v : Nat) (hworks : s.timWorks = true) (hprev : s.tim.ppsPrev = none)
    (hsource : s.get Obj.TIM_SOURCE = 1) (hstate : s.timState = 0) (hset : s.tim.setTime = some v)
    (hnone : s.tim.pendingStep = none) (hstopped : s.orbRunning = false) :
    ∃ u, exec (.ppsInEdge t) s = .next (State.settle (s.land t) u) ∧
      u.get Obj.TIM_LAST_STEP = round250 ((v : Int) + s.get Obj.TIM_PPS_IN_DELAY - (s.land t).nowExt) ∧
      u.get Obj.TIM_STEP_ORB = 0xFFFFFFFF ∧ u.stepped = true ∧ u.sourcePending 384 ∧ u.timState = 1 ∧
      s.otherIndices u [0x2C20, 0x2C00, 0x2F00] ∧
      u = { s.land t with objs := u.objs, tim := u.tim, cmt := u.cmt, icu := u.icu, log := u.log, flash := u.flash, dict := u.dict,
                          out := u.out } := by
  have hseen := inputSeen_change s t 0x74
  have hshown := touches_ppsShown (inputSeen s t 0x74) (s.land t).nowExt
  have hkept : ∀ key, isLogEntry key = false → key ∉ captureKeys → key ∉ [Obj.TIM_PPS_IN_OFFSET, Obj.TIM_STATUS] →
      (ppsShown (inputSeen s t 0x74) (s.land t).nowExt).get key = s.get key := fun key hlog hcmt hpps => by
    rw [hshown.get hlog hpps, get_inputSeen s t 0x74 hlog hcmt]
  have htim : (ppsShown (inputSeen s t 0x74) (s.land t).nowExt).tim =
      { s.tim with ppsPrev := some (s.land t).nowExt, ppsFails := 0 } := by rw [tim_ppsShown, tim_inputSeen]
  have hdelay := hkept Obj.TIM_PPS_IN_DELAY (by decide) (by decide) (by decide)
  have hpps := hkept Obj.TIM_SOURCE (by decide) (by decide) (by decide)
  have hqualified := ppsQualified_of_first (s := inputSeen s t 0x74) (ext := (s.land t).nowExt) (v := v) (hpps.trans hsource)
    ((timState_congr (hkept Obj.TIM_STATE (by decide) (by decide) (by decide))).trans hstate) (by rw [htim]; exact hset)
    (by rw [htim]; exact hnone) ((bit_congr (hkept Obj.ORB_STATUS (by decide) (by decide) (by decide)) 0).trans hstopped)
  rw [hdelay] at hqualified
  obtain ⟨hlast, horbit, hstepped, hpending, hnow, -, htouches, hframe⟩ :=
    applyStep_shows (ppsShown (inputSeen s t 0x74) (s.land t).nowExt)
      ((v : Int) + s.get Obj.TIM_PPS_IN_DELAY - (s.land t).nowExt) 0xFFFFFFFF
  refine ⟨(inputSeen s t 0x74).ppsQualified (s.land t).nowExt, ?effect, ?_⟩
  case effect =>
    rw [ppsInEdge_effect hworks, ppsEdge_of_qualified (nowExt_inputSeen s t 0x74) (by rw [tim_inputSeen, hprev]; rfl)]
  rw [hqualified]
  refine ⟨hlast, horbit, hstepped, hpending, ?state, ?others, ?frame⟩
  case state => rw [hnow, hpps, hsource, if_neg (by decide)]
  case others =>
    have hchange : Touches (Obj.TIM_PPS_IN_OFFSET :: appliedKeys) (s.land t) _ :=
      ((hseen.touches.mono (by decide)).trans (hshown.mono (by decide))).trans (htouches.mono (by decide))
    exact hchange.otherIndices (by decide)
  case frame => exact (hseen.step.trans (timFrame_ppsShown _ _).step).trans hframe

/-! ## A second without an edge -/

/-- A miss of PPS_IN as it is counted and shown (R342). -/
def ppsMissed (s : State) (p : Nat) : State :=
  (((s.bump Obj.TIM_PPS_IN_MISS).raise 396).setBit Obj.TIM_STATUS 4 false).withTim fun t =>
    { t with ppsFails := s.tim.ppsFails + 1, ppsPrev := if 2 ≤ s.tim.ppsFails + 1 then none else some (p + 1000000000) }

theorem ppsMiss_eq {s : State} {p : Nat} (hprev : s.tim.ppsPrev = some p) :
    s.ppsMiss = if 2 ≤ s.tim.ppsFails + 1 && (ppsMissed s p).get Obj.TIM_SOURCE = 1 then (ppsMissed s p).timLost else ppsMissed s p := by
  unfold State.ppsMiss
  rw [hprev]
  rfl

theorem ppsInMiss_effect {s : State} {t : Nat} (hworks : s.timWorks = true) (hdue : (s.land t).ppsOverdue = true) :
    exec (.ppsInMiss t) s = .next (State.settle (s.land t) (s.land t).ppsMiss) := by
  show execPpsInMiss t s = _
  refine done_of_effect ?_
  have hw : (s.land t).timWorks = true := hworks
  rw [hw, hdue]
  rfl

theorem get_ppsMissed (s : State) (p key : Nat) :
    (ppsMissed s p).get key = if key = Obj.TIM_STATUS then ((withBit (s.getN Obj.TIM_STATUS) 4 false : Nat) : Int)
      else if key = Obj.TIM_PPS_IN_MISS then min (s.get Obj.TIM_PPS_IN_MISS + 1) 0xFFFFFFFF else s.get key := by
  show (((s.bump Obj.TIM_PPS_IN_MISS).raise 396).setBit Obj.TIM_STATUS 4 false).get key = _
  have hstatus : ((s.bump Obj.TIM_PPS_IN_MISS).raise 396).getN Obj.TIM_STATUS = s.getN Obj.TIM_STATUS := by
    rw [State.getN, State.get_raise, State.get_bump, if_neg (by decide), State.getN]
  rw [State.get_setBit, hstatus, State.get_raise, State.get_bump]

theorem present_ppsMissed (s : State) (p : Nat) : (ppsMissed s p).bit Obj.TIM_STATUS 4 = false :=
  (State.bit_setBit ((s.bump Obj.TIM_PPS_IN_MISS).raise 396) ..).trans (by simp)

theorem pending_ppsMissed (s : State) (p : Nat) : (ppsMissed s p).sourcePending 396 :=
  sourcePending_kept (by decide) (sourcePending_raise (s.bump Obj.TIM_PPS_IN_MISS) 396) (.of_icu rfl)

theorem others_ppsMissed (s : State) (p : Nat) : s.onlyEntries (ppsMissed s p) [Obj.TIM_PPS_IN_MISS, Obj.TIM_STATUS] := by
  intro key hkey
  simp only [List.mem_cons, List.not_mem_nil, or_false, not_or] at hkey
  rw [get_ppsMissed, if_neg hkey.2, if_neg hkey.1]

theorem ppsMiss_first (s : State) (t p : Nat) (hworks : s.timWorks = true) (hdue : (s.land t).ppsOverdue = true)
    (hprev : s.tim.ppsPrev = some p) (hfails : s.tim.ppsFails = 0) :
    ∃ u, exec (.ppsInMiss t) s = .next (State.settle (s.land t) u) ∧
      u.get Obj.TIM_PPS_IN_MISS = min (s.get Obj.TIM_PPS_IN_MISS + 1) 0xFFFFFFFF ∧ u.bit Obj.TIM_STATUS 4 = false ∧
      u.tim = { s.tim with ppsPrev := some (p + 1000000000), ppsFails := 1 } ∧ u.sourcePending 396 ∧
      s.onlyEntries u [Obj.TIM_PPS_IN_MISS, Obj.TIM_STATUS] ∧ u = { s.land t with objs := u.objs, tim := u.tim, icu := u.icu } := by
  have hzero : (s.land t).tim.ppsFails = 0 := hfails
  have hmiss : (s.land t).ppsMiss = ppsMissed (s.land t) p := by
    rw [ppsMiss_eq (s := s.land t) hprev, hzero]
    rfl
  refine ⟨ppsMissed (s.land t) p, ?_, ?_, present_ppsMissed _ _, ?_, pending_ppsMissed _ _, others_ppsMissed _ _, rfl⟩
  · rw [ppsInMiss_effect hworks hdue, hmiss]
  · rw [get_ppsMissed, if_neg (by decide), if_pos rfl, State.get_land]
  · unfold ppsMissed
    rw [withTim_tim, hzero]
    rfl

theorem ppsMiss_second (s : State) (t : Nat) (hworks : s.timWorks = true) (hdue : (s.land t).ppsOverdue = true)
    (hfails : s.tim.ppsFails = 1) (hsource : s.get Obj.TIM_SOURCE = 1) (hstate : s.timState = 1 ∨ s.timState = 2) :
    ∃ u, exec (.ppsInMiss t) s = .next (State.settle (s.land t) u) ∧
      u.timState = 3 ∧ u.tim.ppsPrev = none ∧ u.get Obj.TIM_RATE_ADJ = s.get Obj.TIM_FREQ_EST ∧ u.sourcePending 396 ∧
      u.sourcePending 387 ∧
      s.entriesBut u [Obj.TIM_PPS_IN_MISS, Obj.TIM_STATUS, Obj.TIM_STATE, Obj.TIM_RATE_ADJ, Obj.TIM_HOLDOVER_TIME] ∧
      u = { s.land t with objs := u.objs, tim := u.tim, icu := u.icu, log := u.log, flash := u.flash, dict := u.dict,
                          out := u.out } := by
  obtain ⟨p, hprev⟩ : ∃ p, s.tim.ppsPrev = some p := by
    cases hp : (s.land t).tim.ppsPrev with
    | none =>
      rw [State.ppsOverdue, hp] at hdue
      cases hdue
    | some p => exact ⟨p, hp⟩
  have hone : (s.land t).tim.ppsFails = 1 := hfails
  have hkept : ∀ key, key ≠ Obj.TIM_STATUS → key ≠ Obj.TIM_PPS_IN_MISS → (ppsMissed (s.land t) p).get key = s.get key :=
    fun key hstatus hmissed => by rw [get_ppsMissed, if_neg hstatus, if_neg hmissed, State.get_land]
  have hmiss : (s.land t).ppsMiss = (ppsMissed (s.land t) p).timLost := by
    rw [ppsMiss_eq (s := s.land t) hprev, hone, hkept _ (by decide) (by decide), hsource]
    rfl
  have hfollowed : (ppsMissed (s.land t) p).timState = 1 ∨ (ppsMissed (s.land t) p).timState = 2 := by
    rw [timState_congr (hkept Obj.TIM_STATE (by decide) (by decide))]
    exact hstate
  obtain ⟨hheld, hrate, hpending⟩ := timLost_shows hfollowed
  have htouches := touches_timLost (ppsMissed (s.land t) p)
  refine ⟨(ppsMissed (s.land t) p).timLost, ?effect, hheld, ?prev, ?rate, ?missed, hpending, fun key hlog hkey => ?others, ?frame⟩
  case effect => rw [ppsInMiss_effect hworks hdue, hmiss]
  case prev =>
    rw [timLost_of_tracking hfollowed, timEnter_tim]
    show (if 2 ≤ (s.land t).tim.ppsFails + 1 then none else some (p + 1000000000)) = none
    rw [hone]
    rfl
  case rate => rw [hrate, hkept _ (by decide) (by decide)]
  case missed => exact sourcePending_kept (by decide) (pending_ppsMissed _ _) htouches.pending
  case others =>
    simp only [List.mem_cons, List.not_mem_nil, or_false, not_or] at hkey
    obtain ⟨hm, hs, hst, hr, hh⟩ := hkey
    rw [htouches.get hlog (by simp [hst, hr, hh]), hkept key hs hm]
  case frame => exact TimFrame.trans (a := s.land t) (b := ppsMissed (s.land t) p) rfl (timFrame_timLost _)

end Sys2Proof.Proofs
end

section
/-!
PROOF. Edges of ORB_SYNC_IN, the value of the first step and the re-epoch (O41; R331, R332, R336, R344).
-/

namespace Sys2Proof.Proofs

open Sys2Proof Sys2Proof.Machine

/-! ## Edges of ORB_SYNC_IN -/

theorem orbSyncInEdge_effect {s : State} {t : Nat} (hworks : s.timWorks = true) :
    exec (.orbSyncInEdge t) s = .next (State.settle (s.land t) (inputSeen s t 0x75).orbSyncEdge) := by
  show execOrbSyncInEdge t s = _
  refine done_of_effect ?_
  have hw : (s.land t).timWorks = true := hworks
  rw [hw]
  rfl

/-- The boundary that an edge now means, ahead of it by the lead less the cable (R344). -/
def edgeBoundary (s : State) : Int := (s.now : Int) + (s.get Obj.TIM_ORB_SYNC_LEAD - s.get Obj.TIM_ORB_SYNC_DELAY)

/-- The error of an edge against the nearer boundary of the unit (R344). -/
def edgeError (s : State) : Int :=
  if absInt (edgeBoundary s - ((s.orb.boundary + s.period : Nat) : Int)) ≤ absInt (edgeBoundary s - (s.orb.boundary : Nat)) then
    edgeBoundary s - ((s.orb.boundary + s.period : Nat) : Int)
  else edgeBoundary s - (s.orb.boundary : Nat)

/-- An edge within the limit as it is shown and noted. -/
def edgeShown (s : State) (o : Int) : State :=
  ((s.put Obj.TIM_ORB_SYNC_ERR o).setBit Obj.TIM_STATUS 5 true).withTim fun t => { t with orbMisses := 0 }

theorem orbSyncEdge_of_sample {s : State} {o : Int} (hrole : s.get Obj.LNK_TREE_ROLE = 2) (hsource : s.get Obj.TIM_SOURCE = 2)
    (hstepped : s.stepped = true) (hrunning : s.orbRunning = true) (herror : edgeError s = o) (hnear : absInt o ≤ 1000) :
    s.orbSyncEdge = (edgeShown s o).timSample o := by
  have hfollows : ¬(s.get Obj.LNK_TREE_ROLE ≠ 2 ∨ s.get Obj.TIM_SOURCE ≠ 2) := by simp [hrole, hsource]
  unfold State.orbSyncEdge
  extract_lets lead tb next last oo
  have hoo : oo = o := herror
  rw [if_neg hfollows, hstepped, hrunning, hoo]
  exact if_pos hnear

theorem orbSyncEdge_of_first {s : State} {label : Nat} (hrole : s.get Obj.LNK_TREE_ROLE = 2) (hsource : s.get Obj.TIM_SOURCE = 2)
    (hstepped : s.stepped = false) (hlabel : s.tim.rootLabel = some label) (hstopped : s.orbRunning = false) :
    s.orbSyncEdge = (s.applyStep ((label : Int) - ((s.nowExt : Int) +
        (s.get Obj.TIM_ORB_SYNC_LEAD - s.get Obj.TIM_ORB_SYNC_DELAY))) 0xFFFFFFFF).withTim fun t =>
      { t with orbStart := some (edgeBoundary s).toNat, rootLabel := none } := by
  have hfollows : ¬(s.get Obj.LNK_TREE_ROLE ≠ 2 ∨ s.get Obj.TIM_SOURCE ≠ 2) := by simp [hrole, hsource]
  unfold State.orbSyncEdge
  extract_lets lead tb next last oo
  rw [if_neg hfollows, hstepped, hlabel]
  dsimp only
  rw [if_pos (show (!false) = true from rfl), State.makeStep, hstopped]
  rfl

theorem period_congr {a b : State} (h : ∀ key, isLogEntry key = false → key ∉ captureKeys → b.get key = a.get key) :
    b.period = a.period := by
  rw [State.period, State.getN, h _ (by decide) (by decide)]
  rfl

theorem orbSync_sample (s : State) (t : Nat) (o : Int) (hworks : s.timWorks = true) (hrole : s.get Obj.LNK_TREE_ROLE = 2)
    (hsource : s.get Obj.TIM_SOURCE = 2) (hstepped : s.stepped = true) (hrunning : s.orbRunning = true)
    (herror : edgeError (s.land t) = o) (hnear : absInt o ≤ 1000) :
    ∃ u, exec (.orbSyncInEdge t) s = .next (State.settle (s.land t) u) ∧
      u.get Obj.TIM_ORB_SYNC_ERR = o ∧ u.get Obj.TIM_OFFSET = saturate 32 o ∧ u.bit Obj.TIM_STATUS 5 = true ∧
      u.tim.orbMisses = 0 ∧ s.otherIndices u [0x2C00, 0x2C30, 0x2F00] ∧
      u = { s.land t with objs := u.objs, tim := u.tim, cmt := u.cmt, icu := u.icu, log := u.log, flash := u.flash, dict := u.dict,
                          out := u.out } := by
  have hseen := inputSeen_change s t 0x75
  have hkept : ∀ key, isLogEntry key = false → key ∉ captureKeys → (inputSeen s t 0x75).get key = s.get key :=
    fun _ => get_inputSeen s t 0x75
  have hboundary : edgeBoundary (inputSeen s t 0x75) = edgeBoundary (s.land t) := by
    unfold edgeBoundary
    rw [hseen.now, hkept _ (by decide) (by decide), hkept _ (by decide) (by decide)]
    rfl
  have hperiod : (inputSeen s t 0x75).period = (s.land t).period := period_congr (a := s.land t) hkept
  have horb : (inputSeen s t 0x75).orb = (s.land t).orb := by rw [hseen.frame]
  have herr : edgeError (inputSeen s t 0x75) = o := by
    unfold edgeError
    rw [hboundary, hperiod, horb]
    exact herror
  have hedge := orbSyncEdge_of_sample ((hkept _ (by decide) (by decide)).trans hrole) ((hkept _ (by decide) (by decide)).trans hsource)
    ((bit_congr (hkept Obj.TIM_STATUS (by decide) (by decide)) 0).trans hstepped)
    ((bit_congr (hkept Obj.ORB_STATUS (by decide) (by decide)) 0).trans hrunning) herr hnear
  have hchange := sampleChange_timSample (edgeShown (inputSeen s t 0x75) o) o
  have heffect := orbSyncInEdge_effect (t := t) hworks
  rw [hedge] at heffect
  generalize inputSeen s t 0x75 = a at *
  have hshown : Touches [Obj.TIM_ORB_SYNC_ERR, Obj.TIM_STATUS] a (edgeShown a o) :=
    ((Touches.put a _ (by decide)).trans (.setBit _ _ _ (by decide))).trans (.withTim _ _)
  refine ⟨(edgeShown a o).timSample o, heffect, ?error, get_offset_timSample _ o, ?used, ?misses, ?others, ?frame⟩
  case error =>
    rw [hchange.touches.get (by decide) (by decide), State.get_put_ne _ _ (by decide)]
    show ((a.put Obj.TIM_ORB_SYNC_ERR o).setBit Obj.TIM_STATUS 5 true).get Obj.TIM_ORB_SYNC_ERR = o
    rw [State.get_setBit, if_neg (by decide), State.get_put_same]
  case used =>
    rw [hchange.status 5 (by decide) (by decide), bit_congr (State.get_put_ne _ _ (by decide))]
    exact (State.bit_setBit (a.put Obj.TIM_ORB_SYNC_ERR o) ..).trans (by simp)
  case misses => exact hchange.misses
  case others =>
    have hall : Touches (Obj.TIM_ORB_SYNC_ERR :: Obj.TIM_OFFSET :: (sampleKeys ++ captureKeys)) (s.land t) _ :=
      (((hseen.touches.mono (by decide)).trans (hshown.mono (by decide))).trans (.put _ _ (by decide))).trans
        (hchange.touches.mono (by decide))
    exact hall.otherIndices (by decide)
  case frame =>
    have hnoted : TimFrame a (edgeShown a o) := rfl
    exact hseen.step.trans ((hnoted.trans (timFrame_put _ _ _)).trans hchange.frame).step

/-- The start of the sequencer noted for the boundary of the root (R344). -/
structure StartNoted (a b : State) (n : Nat) : Prop where
  entries : ∀ key, b.get key = a.get key
  icu : b.icu = a.icu
  start : b.tim.orbStart = some n
  label : b.tim.rootLabel = none

theorem orbSync_firstStep (s : State) (t label : Nat) (hworks : s.timWorks = true) (hrole : s.get Obj.LNK_TREE_ROLE = 2)
    (hsource : s.get Obj.TIM_SOURCE = 2) (hstepped : s.stepped = false) (hlabel : s.tim.rootLabel = some label)
    (hstopped : s.orbRunning = false) :
    ∃ u, exec (.orbSyncInEdge t) s = .next (State.settle (s.land t) u) ∧
      u.get Obj.TIM_LAST_STEP = round250 ((label : Int) -
        (((s.land t).nowExt : Int) + (s.get Obj.TIM_ORB_SYNC_LEAD - s.get Obj.TIM_ORB_SYNC_DELAY))) ∧
      u.get Obj.TIM_STEP_ORB = 0xFFFFFFFF ∧ u.stepped = true ∧ u.sourcePending 384 ∧
      u.tim.orbStart = some (((s.land t).now : Int) + (s.get Obj.TIM_ORB_SYNC_LEAD - s.get Obj.TIM_ORB_SYNC_DELAY)).toNat ∧
      u.tim.rootLabel = none ∧ s.otherIndices u [0x2C00, 0x2F00] ∧
      u = { s.land t with objs := u.objs, tim := u.tim, cmt := u.cmt, icu := u.icu, log := u.log, flash := u.flash, dict := u.dict,
                          out := u.out } := by
  have hseen := inputSeen_change s t 0x75
  have hkept : ∀ key, isLogEntry key = false → key ∉ captureKeys → (inputSeen s t 0x75).get key = s.get key :=
    fun _ => get_inputSeen s t 0x75
  have hedge := orbSyncEdge_of_first ((hkept _ (by decide) (by decide)).trans hrole) ((hkept _ (by decide) (by decide)).trans hsource)
    ((bit_congr (hkept Obj.TIM_STATUS (by decide) (by decide)) 0).trans hstepped)
    ((congrArg Tim.rootLabel (tim_inputSeen s t 0x75)).trans hlabel)
    ((bit_congr (hkept Obj.ORB_STATUS (by decide) (by decide)) 0).trans hstopped)
  have heffect := orbSyncInEdge_effect (t := t) hworks
  rw [hedge, edgeBoundary, nowExt_inputSeen, hkept Obj.TIM_ORB_SYNC_LEAD (by decide) (by decide),
    hkept Obj.TIM_ORB_SYNC_DELAY (by decide) (by decide), hseen.now] at heffect
  obtain ⟨hlast, horbit, hnow, hpending, -, -, htouches, hframe⟩ := applyStep_shows (inputSeen s t 0x75) ((label : Int) -
    (((s.land t).nowExt : Int) + (s.get Obj.TIM_ORB_SYNC_LEAD - s.get Obj.TIM_ORB_SYNC_DELAY))) 0xFFFFFFFF
  have hstart : ∀ (a : State) (n : Nat), StartNoted a (a.withTim fun t => { t with orbStart := some n, rootLabel := none }) n :=
    fun a n => ⟨fun _ => rfl, rfl, rfl, rfl⟩
  obtain ⟨hget, hicu, horbStart, hroot⟩ := hstart ((inputSeen s t 0x75).applyStep ((label : Int) -
    (((s.land t).nowExt : Int) + (s.get Obj.TIM_ORB_SYNC_LEAD - s.get Obj.TIM_ORB_SYNC_DELAY))) 0xFFFFFFFF)
    (((s.land t).now : Int) + (s.get Obj.TIM_ORB_SYNC_LEAD - s.get Obj.TIM_ORB_SYNC_DELAY)).toNat
  refine ⟨_, heffect, (hget _).trans hlast, (hget _).trans horbit, (bit_congr (hget Obj.TIM_STATUS) 0).trans hnow,
    sourcePending_kept (by decide) hpending (.of_icu hicu), horbStart, hroot, ?others, ?frame⟩
  case others =>
    have hall : Touches appliedKeys (s.land t) _ := (hseen.touches.mono (by decide)).trans htouches
    exact fun key hlog hkey => (hget key).trans (hall.otherIndices (indices := [0x2C00, 0x2F00]) (by decide) key hlog hkey)
  case frame => exact (hseen.step.trans hframe).trans (timFrame_withTim _ _).step

/-! ## Cycles without an edge -/

/-- A cycle missed as it is counted and shown (R344). -/
def cycleMissed (s : State) : State :=
  (((s.bump Obj.TIM_ORB_SYNC_MISS_COUNT).raise 397).setBit Obj.TIM_STATUS 5 false).withTim fun t =>
    { t with orbMisses := s.tim.orbMisses + 1 }

theorem orbSyncMiss_eq (s : State) :
    s.orbSyncMiss = if s.tim.orbMisses + 1 = 3 then ((cycleMissed s).raise 398).timLost else cycleMissed s := rfl

theorem touches_cycleMissed (s : State) : Touches [Obj.TIM_ORB_SYNC_MISS_COUNT, Obj.TIM_STATUS] s (cycleMissed s) :=
  (((Touches.bump s (by decide)).trans (.raise _ 397)).trans (.setBit _ 5 false (by decide))).trans (.withTim _ _)

theorem timFrame_cycleMissed (s : State) : TimFrame s (cycleMissed s) := rfl

/-- What a missed cycle shows, lost source or not. -/
theorem orbSyncMiss_shows (s : State) :
    s.orbSyncMiss.get Obj.TIM_ORB_SYNC_MISS_COUNT = min (s.get Obj.TIM_ORB_SYNC_MISS_COUNT + 1) 0xFFFFFFFF ∧
      s.orbSyncMiss.bit Obj.TIM_STATUS 5 = false ∧ s.orbSyncMiss.tim.orbMisses = s.tim.orbMisses + 1 ∧
      s.orbSyncMiss.sourcePending 397 := by
  have hlost : ∀ a : State, SampleChange a a.timLost := fun a =>
    .ite ((sampleChange_setRate a _).trans (sampleChange_timEnter ..)) (.refl a)
  have hafter : SampleChange (cycleMissed s) s.orbSyncMiss := by
    rw [orbSyncMiss_eq]
    exact .ite ((sampleChange_raise _ 398).trans (hlost _)) (.refl _)
  refine ⟨?_, ?_, hafter.misses, ?_⟩
  · rw [hafter.touches.get (by decide) (by decide)]
    show (((s.bump Obj.TIM_ORB_SYNC_MISS_COUNT).raise 397).setBit Obj.TIM_STATUS 5 false).get Obj.TIM_ORB_SYNC_MISS_COUNT = _
    rw [State.get_setBit, if_neg (by decide), State.get_raise, State.get_bump, if_pos rfl]
  · rw [hafter.status 5 (by decide) (by decide)]
    exact (State.bit_setBit ((s.bump Obj.TIM_ORB_SYNC_MISS_COUNT).raise 397) ..).trans (by simp)
  · have hraised : (cycleMissed s).sourcePending 397 :=
      sourcePending_kept (by decide) (sourcePending_raise (s.bump Obj.TIM_ORB_SYNC_MISS_COUNT) 397) (.of_icu rfl)
    exact sourcePending_kept (by decide) hraised hafter.touches.pending

theorem orbSync_miss (s : State) (t : Nat) (hworks : s.timWorks = true) (hrole : s.get Obj.LNK_TREE_ROLE = 2)
    (hsource : s.get Obj.TIM_SOURCE = 2) (hstepped : s.stepped = true) (hrunning : s.orbRunning = true) :
    ∃ u, exec (.orbSyncMiss t) s = .next (State.settle (s.land t) u) ∧
      u.get Obj.TIM_ORB_SYNC_MISS_COUNT = min (s.get Obj.TIM_ORB_SYNC_MISS_COUNT + 1) 0xFFFFFFFF ∧
      u.bit Obj.TIM_STATUS 5 = false ∧ u.tim.orbMisses = s.tim.orbMisses + 1 ∧ u.sourcePending 397 ∧
      (s.tim.orbMisses = 2 → u.sourcePending 398 ∧ (s.timState = 1 ∨ s.timState = 2 → u.timState = 3)) ∧
      s.otherIndices u [0x2C00, 0x2C30] ∧
      u = { s.land t with objs := u.objs, tim := u.tim, icu := u.icu, log := u.log, flash := u.flash, dict := u.dict,
                          out := u.out } := by
  obtain ⟨hcount, hused, hmisses, hpending⟩ := orbSyncMiss_shows (s.land t)
  refine ⟨(s.land t).orbSyncMiss, ?effect, hcount, hused, hmisses, hpending, fun htwo => ?lost, ?others, ?frame⟩
  case effect =>
    show execOrbSyncMiss t s = _
    refine done_of_effect ?_
    have hw : (s.land t).timWorks = true := hworks
    have hr : (s.land t).get Obj.LNK_TREE_ROLE = 2 := hrole
    have hs : (s.land t).get Obj.TIM_SOURCE = 2 := hsource
    have hst : (s.land t).stepped = true := hstepped
    have ho : (s.land t).orbRunning = true := hrunning
    rw [hw, hr, hs, hst, ho]
    rfl
  case lost =>
    have hthree : (s.land t).tim.orbMisses + 1 = 3 := congrArg (· + 1) htwo
    have hmiss : (s.land t).orbSyncMiss = ((cycleMissed (s.land t)).raise 398).timLost := by rw [orbSyncMiss_eq, if_pos hthree]
    rw [hmiss]
    refine ⟨sourcePending_kept (by decide) (sourcePending_raise _ 398) (touches_timLost _).pending, fun hstate => ?_⟩
    have hkept : ((cycleMissed (s.land t)).raise 398).timState = s.timState :=
      timState_congr ((touches_cycleMissed (s.land t)).get (by decide) (by decide))
    exact (timLost_shows (by rw [hkept]; exact hstate)).1
  case others =>
    have hall : Touches [Obj.TIM_ORB_SYNC_MISS_COUNT, Obj.TIM_STATUS, Obj.TIM_STATE, Obj.TIM_HOLDOVER_TIME, Obj.TIM_RATE_ADJ] (s.land t)
        (s.land t).orbSyncMiss := by
      have hmissed := (touches_cycleMissed (s.land t)).mono (more := [Obj.TIM_ORB_SYNC_MISS_COUNT, Obj.TIM_STATUS, Obj.TIM_STATE,
        Obj.TIM_HOLDOVER_TIME, Obj.TIM_RATE_ADJ]) (by decide)
      rw [orbSyncMiss_eq]
      exact .ite ((hmissed.trans (.raise _ 398)).trans ((touches_timLost _).mono (by decide))) hmissed
    exact hall.otherIndices (by decide)
  case frame =>
    rw [orbSyncMiss_eq]
    have hmissed := timFrame_cycleMissed (s.land t)
    exact TimFrame.ite ((hmissed.trans (timFrame_raise _ 398)).trans (timFrame_timLost _)) hmissed

end Sys2Proof.Proofs
end

section
/-!
PROOF. The value of the first step, the re-epoch and the launch queues (O41; R331, R336 to R338).
-/

namespace Sys2Proof.Proofs

open Sys2Proof Sys2Proof.Machine

/-! ## TIM_SET_TIME and TIM_REEPOCH_REQ -/

/-- TIM_SET_TIME is write-only and holds every 64-bit time (Table 13.8). -/
theorem row_setTime :
    ∃ row, Obj.rowOf Obj.TIM_SET_TIME = some row ∧ row.access = .wo ∧
      ∀ v : Nat, v < 2 ^ 64 → ObjType.value row.type (ObjType.bytes row.type v) = v := by
  refine ⟨_, rfl, rfl, fun v hv => ?_⟩
  have hbytes : unsigned 64 (v : Int) = v := by simp only [unsigned]; omega
  show ((ofBytes (bytesOf (unsigned 64 v) 8) : Nat) : Int) = v
  rw [hbytes, ofBytes_bytesOf (by omega)]

theorem row_reepochReq :
    ∃ row, Obj.rowOf Obj.TIM_REEPOCH_REQ = some row ∧ row.access = .wo ∧ ObjType.value row.type (ObjType.bytes row.type 1) = 1 :=
  ⟨_, rfl, rfl, rfl⟩

theorem writeEntry_setTime {s : State} {t : Nat} {f : Sender} {v : Nat} (hv : v < 2 ^ 64)
    (hwrite : s.takesWrite t f Obj.TIM_SET_TIME v = true) :
    (s.land t).writeEntry f Obj.TIM_SET_TIME v = (((s.land t).heard f).setTimeCommit v).emit .done := by
  obtain ⟨row, hrow, hwo, hval⟩ := row_setTime
  rw [writeEntry_command_of_takesWrite hrow hwo (fun _ => rfl) (hval v hv) hwrite]
  rfl

theorem writeEntry_reepochReq {s : State} {t : Nat} {f : Sender} (hwrite : s.takesWrite t f Obj.TIM_REEPOCH_REQ 1 = true) :
    (s.land t).writeEntry f Obj.TIM_REEPOCH_REQ 1 = ((s.land t).heard f).reepochCommit.emit .done := by
  obtain ⟨row, hrow, hwo, hval⟩ := row_reepochReq
  rw [writeEntry_command_of_takesWrite hrow hwo (fun _ => rfl) hval hwrite]
  rfl

theorem setTime_held (s : State) (t : Nat) (f : Sender) (v : Nat) (hv : v < 2 ^ 64)
    (hwrite : s.takesWrite t f Obj.TIM_SET_TIME v = true) (hsource : s.get Obj.TIM_SOURCE ≠ 3) :
    ∃ u, exec (.timSetTime t f v) s = .next (State.settle (s.land t) u) ∧
      u.tim = { s.tim with setTime := some v } ∧ u.out = [Out.done] ∧ s.onlyEntries u [] ∧
      u = { s.land t with objs := u.objs, tim := u.tim, dict := u.dict, out := u.out } := by
  refine ⟨(s.land t).writeEntry f Obj.TIM_SET_TIME v, rfl, ?_⟩
  have hheld : ((s.land t).heard f).setTimeCommit v = ((s.land t).heard f).withTim fun t => { t with setTime := some v } := by
    have hsrc : ((s.land t).heard f).get Obj.TIM_SOURCE ≠ 3 := hsource
    refine if_neg ?_
    rw [decide_eq_false hsrc, Bool.false_and]
    exact Bool.false_ne_true
  rw [writeEntry_setTime hv hwrite, hheld]
  exact ⟨rfl, rfl, fun key _ => State.get_land s t key, rfl⟩

theorem setTime_free (s : State) (t : Nat) (f : Sender) (v : Nat) (hv : v < 2 ^ 64)
    (hwrite : s.takesWrite t f Obj.TIM_SET_TIME v = true) (hsource : s.get Obj.TIM_SOURCE = 3) (hnone : s.tim.pendingStep = none)
    (hstopped : s.orbRunning = false) :
    ∃ u, exec (.timSetTime t f v) s = .next (State.settle (s.land t) u) ∧
      u.get Obj.TIM_LAST_STEP = round250 ((v : Int) - (s.land t).nowExt) ∧ u.get Obj.TIM_STEP_ORB = 0xFFFFFFFF ∧
      u.stepped = true ∧ u.sourcePending 384 ∧ u.timState = 5 ∧ Out.done ∈ u.out ∧ s.otherIndices u [0x2C00, 0x2F00] ∧
      u = { s.land t with objs := u.objs, tim := u.tim, cmt := u.cmt, icu := u.icu, log := u.log, flash := u.flash, dict := u.dict,
                          out := u.out } := by
  refine ⟨(s.land t).writeEntry f Obj.TIM_SET_TIME v, rfl, ?_⟩
  let a := ((s.land t).heard f).withTim fun t => { t with setTime := some v }
  have hfree : ((s.land t).heard f).setTimeCommit v = a.applyStep ((v : Int) - (s.land t).nowExt) 0xFFFFFFFF := by
    have hsrc : ((s.land t).heard f).get Obj.TIM_SOURCE = 3 := hsource
    have hpend : ((s.land t).heard f).tim.pendingStep = none := hnone
    have hstop : a.orbRunning = false := hstopped
    unfold State.setTimeCommit
    rw [hsrc, hpend]
    show State.makeStep a ((v : Int) - (s.land t).nowExt) = _
    rw [State.makeStep, hstop]
    rfl
  obtain ⟨hlast, horbit, hstepped, hpending, hnow, -, htouches, hframe⟩ := applyStep_shows a ((v : Int) - (s.land t).nowExt) 0xFFFFFFFF
  have hnoted : StepFrame (s.land t) a := rfl
  have hsource' : a.get Obj.TIM_SOURCE = 3 := hsource
  have hget : ∀ key, a.get key = s.get key := fun _ => rfl
  rw [writeEntry_setTime hv hwrite, hfree]
  generalize a.applyStep ((v : Int) - (s.land t).nowExt) 0xFFFFFFFF = b at *
  refine ⟨hlast, horbit, hstepped, sourcePending_kept (by decide) hpending (.of_icu rfl), ?_,
    List.mem_append_right _ (List.mem_singleton_self _), fun key hlog hkey => ?_, ?_⟩
  · have hemit : (b.emit .done).timState = b.timState := rfl
    rw [hemit, hnow, hsource']
    rfl
  · exact (htouches.otherIndices (indices := [0x2C00, 0x2F00]) (by decide) key hlog hkey).trans (hget key)
  · exact (hnoted.trans hframe).trans (show StepFrame b (b.emit .done) from rfl)

/-! ## Change records -/

/-- A change record advances the generation of the state and waits for its cycle; nothing else changes (R309). -/
theorem change_shows (s : State) (c : Change) (boundary : Nat) :
    (∀ key, key ≠ Obj.RED_STATE_GEN → (s.change c boundary).get key = s.get key) ∧
      s.change c boundary = { s with objs := (s.change c boundary).objs, red := (s.change c boundary).red } := by
  have hput : ∀ (v : Int) (key : Nat), key ≠ Obj.RED_STATE_GEN → (s.put Obj.RED_STATE_GEN v).get key = s.get key :=
    fun v _ h => State.get_put_ne s v h
  unfold State.change
  extract_lets gen s1
  split
  · exact ⟨fun _ _ => rfl, rfl⟩
  · split
    · exact ⟨hput gen, rfl⟩
    · exact ⟨hput gen, rfl⟩

/-- The re-epoch counted and recorded (R336). -/
def reepochCounted (s : State) : State :=
  (s.bump Obj.TIM_EPOCH_COUNT).journal 384 noSubject (bytesOf 0 4 ++ bytesOf (unsigned 64 (round250 (-s.tim.lastOffset))) 8)

/-- The step of a re-epoch pending for a boundary. -/
def reepochPending (s : State) (boundary : Nat) : State :=
  ((reepochCounted s).withTim fun t => { t with pendingStep := some (-s.tim.lastOffset, boundary) }).setBit Obj.TIM_STATUS 6 true

theorem reepochCommit_of_running {s : State} (h : s.orbRunning = true) :
    s.reepochCommit = (reepochPending s s.boundaryAhead).change (.step (-s.tim.lastOffset)) s.boundaryAhead := by
  unfold State.reepochCommit State.reepoch
  rw [h]
  rfl

/-- What a re-epoch shows before its change record. -/
theorem reepochPending_shows (s : State) (boundary : Nat) :
    (reepochPending s boundary).bit Obj.TIM_STATUS 6 = true ∧
      (reepochPending s boundary).get Obj.TIM_EPOCH_COUNT = min (s.get Obj.TIM_EPOCH_COUNT + 1) 0xFFFFFFFF ∧
      (reepochPending s boundary).tim = { s.tim with pendingStep := some (-s.tim.lastOffset, boundary) } ∧
      s.entriesBut (reepochPending s boundary) [Obj.TIM_STATUS, Obj.TIM_EPOCH_COUNT] ∧ TimFrame s (reepochPending s boundary) := by
  have hlogged : (s.bump Obj.TIM_EPOCH_COUNT).LogOnly (reepochCounted s) := State.logOnly_journalFull ..
  have hpending : (reepochCounted s).tim = s.tim := (State.journalFull_tim ..).trans rfl
  have hcounted : Touches [Obj.TIM_STATUS, Obj.TIM_EPOCH_COUNT] s (reepochCounted s) :=
    (Touches.bump s (by decide)).trans (.journalFull _ _ _ _ _ _ _)
  refine ⟨?_, ?_, ?_, ((hcounted.trans (.withTim _ _)).trans (.setBit _ 6 true (by decide))).entries, ?_⟩
  · exact (State.bit_setBit ((reepochCounted s).withTim _) ..).trans (by simp)
  · unfold reepochPending
    rw [State.get_setBit, if_neg (by decide)]
    show (reepochCounted s).get Obj.TIM_EPOCH_COUNT = _
    rw [hlogged.1 _ (by decide), State.get_bump, if_pos rfl]
  · unfold reepochPending
    rw [State.setBit_tim, withTim_tim, hpending]
  · have hframe : TimFrame s (reepochCounted s) := (timFrame_put s _ _).trans (.of_sameUnits hlogged.2)
    exact (hframe.trans (timFrame_withTim _ _)).trans (timFrame_put _ _ _)

theorem reepoch_pends (s : State) (t : Nat) (f : Sender) (hwrite : s.takesWrite t f Obj.TIM_REEPOCH_REQ 1 = true)
    (hrunning : s.orbRunning = true) :
    ∃ u, exec (.timReepochReq t f) s = .next (State.settle (s.land t) u) ∧
      u.tim = { s.tim with pendingStep := some (-s.tim.lastOffset, s.boundaryAhead) } ∧ u.bit Obj.TIM_STATUS 6 = true ∧
      u.get Obj.TIM_EPOCH_COUNT = min (s.get Obj.TIM_EPOCH_COUNT + 1) 0xFFFFFFFF ∧ Out.done ∈ u.out ∧
      s.entriesBut u [Obj.TIM_STATUS, Obj.TIM_EPOCH_COUNT, Obj.RED_STATE_GEN] ∧
      u = { s.land t with objs := u.objs, tim := u.tim, red := u.red, icu := u.icu, log := u.log, flash := u.flash, dict := u.dict,
                          out := u.out } := by
  refine ⟨(s.land t).writeEntry f Obj.TIM_REEPOCH_REQ 1, rfl, ?_⟩
  have hrun : ((s.land t).heard f).orbRunning = true := hrunning
  have htim : ((s.land t).heard f).tim = s.tim := rfl
  have hahead : ((s.land t).heard f).boundaryAhead = s.boundaryAhead := rfl
  have hheard : TimFrame (s.land t) ((s.land t).heard f) := rfl
  have hget : ∀ key, ((s.land t).heard f).get key = s.get key := fun _ => rfl
  rw [writeEntry_reepochReq hwrite, reepochCommit_of_running hrun, htim, hahead]
  obtain ⟨hpend, hcount, hnoted, hentries, hframe⟩ := reepochPending_shows ((s.land t).heard f) s.boundaryAhead
  rw [htim] at hnoted
  rw [hget] at hcount
  have hframe' := hheard.trans hframe
  generalize reepochPending ((s.land t).heard f) s.boundaryAhead = a at *
  obtain ⟨hothers, hchange⟩ := change_shows a (.step (-s.tim.lastOffset)) s.boundaryAhead
  refine ⟨?tim, ?status, ?count, List.mem_append_right _ (List.mem_singleton_self _), fun key hlog hkey => ?others, ?frame⟩
  case tim =>
    rw [State.emit_tim, hchange]
    exact hnoted
  case status => exact (bit_congr (hothers Obj.TIM_STATUS (by decide)) 6).trans hpend
  case count => exact (hothers _ (by decide)).trans hcount
  case others =>
    simp only [List.mem_cons, List.not_mem_nil, or_false, not_or] at hkey
    obtain ⟨hs, he, hr⟩ := hkey
    exact (hothers key hr).trans ((hentries key hlog (by simp [hs, he])).trans (hget key))
  case frame =>
    unfold TimFrame at hframe'
    rw [hchange, hframe']
    rfl

end Sys2Proof.Proofs
end

section
/-!
PROOF. Launch queues: entries that wait, are late, are dropped and leave (O41; R337, R338).
-/

namespace Sys2Proof.Proofs

open Sys2Proof Sys2Proof.Machine

/-! ## The instant of an entry -/

theorem time32_congr {a b : State} (hrate : b.get Obj.TIM_RATE_ADJ = a.get Obj.TIM_RATE_ADJ) (hbase : b.tim.base = a.tim.base)
    (hsince : b.tim.since = a.tim.since) (hnow : b.now = a.now) : b.time32 = a.time32 := by
  unfold State.time32 State.counter
  rw [hrate, hbase, hsince, hnow]

theorem time32_put (s : State) {key : Nat} (v : Int) (h : Obj.TIM_RATE_ADJ ≠ key) : (s.put key v).time32 = s.time32 :=
  time32_congr (State.get_put_ne s v h) rfl rfl rfl

theorem ahead_congr {a b : State} (h : b.time32 = a.time32) (time : Nat) : b.ahead time = a.ahead time := by
  unfold State.ahead
  rw [h]

theorem updateAt_of_getElem? {α : Type} {l : List α} {i : Nat} {x : α} (f : α → α) (h : l[i]? = some x) :
    updateAt l i f = l.set i (f x) := by
  refine List.ext_getElem? fun j => ?_
  rw [updateAt, List.getElem?_modify, List.getElem?_set]
  by_cases hij : i = j
  · subst hij
    obtain ⟨hlt, hx⟩ := List.getElem?_eq_some_iff.1 h
    simp [hlt, hx]
  · simp [hij]

/-! ## Entries that are queued -/

/-- An entry of a launch queue (R337). -/
def launchEntry (time buffer length : Nat) (dropLate late : Bool) : Launch :=
  { time := time, buffer := buffer, length := length, dropLate := dropLate, late := late }

/-- An entry at the end of its queue. -/
def launchPut (s : State) (port : Nat) (e : Launch) : State :=
  s.withTim fun t => { t with queues := updateAt t.queues port (· ++ [e]) }

theorem launchWrite_effect {s : State} {t h port time buffer length : Nat} {dropLate : Bool} (hruns : s.hartRuns h = true)
    (htime : time < 2 ^ 32) (hbuffer : buffer < 2 ^ 32) (hlength : length < 2048) :
    exec (.launchQueueWrite t h port time buffer length dropLate) s =
      .next (State.settle (s.land t) ((s.land t).launchQueue port time buffer length dropLate)) := by
  show execLaunchQueueWrite t h port time buffer length dropLate s = _
  refine done_of_effect ?_
  have hr : (s.land t).hartRuns h = true := hruns
  rw [hr, Nat.mod_eq_of_lt htime, Nat.mod_eq_of_lt hbuffer, Nat.mod_eq_of_lt hlength]
  rfl

/-- What a queue with room does with an entry, late or not (R338). -/
theorem launchQueue_of_room {s : State} {port : Nat} (time buffer length : Nat) (dropLate : Bool) {late : Bool}
    (hstepped : s.stepped = true) (hport : port < 2) (hroom : (s.tim.queues.getD port []).length < 16)
    (hlate : (s.ahead time).all (fun d => decide (d < 200)) = late) :
    s.launchQueue port time buffer length dropLate =
      if late && dropLate then
        ((launchPut s port (launchEntry time buffer length dropLate late)).timDrop).launchDone port
          (launchEntry time buffer length dropLate late) false true
      else if late then (launchPut s port (launchEntry time buffer length dropLate late)).timLate
      else launchPut s port (launchEntry time buffer length dropLate late) := by
  have hopen : ¬((!s.stepped) = true ∨ 2 ≤ port) := by
    rw [hstepped]
    rintro (h | h)
    · cases h
    · omega
  unfold State.launchQueue
  rw [if_neg hopen, if_neg (by omega)]
  extract_lets lateOf e s1
  have hlateOf : late = lateOf := by
    rw [← hlate]
    unfold lateOf
    cases s.ahead time <;> rfl
  subst hlateOf
  rfl

theorem launchPut_tim {s : State} {port : Nat} {q : List Launch} (e : Launch) (hq : s.tim.queues[port]? = some q) :
    (launchPut s port e).tim = { s.tim with queues := s.tim.queues.set port (q ++ [e]) } := by
  rw [launchPut, withTim_tim, updateAt_of_getElem? _ hq]

theorem room_of_queue {s : State} {port : Nat} {q : List Launch} (hq : s.tim.queues[port]? = some q) (hroom : q.length < 16) :
    (s.tim.queues.getD port []).length < 16 := by
  rw [List.getD_eq_getElem?_getD, hq]
  exact hroom

theorem get_timLate (s : State) (key : Nat) :
    s.timLate.get key = if key = Obj.LOG_CNT 0x12 then min (s.get (Obj.LOG_CNT 0x12) + 1) 0xFFFFFFFFFFFFFFFF
      else if key = Obj.TIM_LATE_COUNT then min (s.get Obj.TIM_LATE_COUNT + 1) 0xFFFFFFFF else s.get key := by
  rw [State.timLate, State.get_raise, State.get_count, State.get_bump, if_neg (show Obj.LOG_CNT (0x13 - 1) ≠ Obj.TIM_LATE_COUNT by decide),
    State.get_bump]

theorem head_launchDone (s : State) (port : Nat) (e : Launch) (sent dropped : Bool) :
    (s.launchDone port e sent dropped).tim.launched.head? = some (port, e.time, sent, e.late, dropped, s.time32) := rfl

theorem launch_waits (s : State) (t h port time buffer length : Nat) (q : List Launch) (dropLate : Bool) (d : Nat)
    (hruns : s.hartRuns h = true) (hstepped : s.stepped = true) (hport : port < 2) (hq : s.tim.queues[port]? = some q)
    (hroom : q.length < 16) (htime : time < 2 ^ 32) (hbuffer : buffer < 2 ^ 32) (hlength : length < 2048)
    (hahead : (s.land t).ahead time = some d) (hsoon : 200 ≤ d) :
    ∃ u, exec (.launchQueueWrite t h port time buffer length dropLate) s = .next (State.settle (s.land t) u) ∧
      u.tim = { s.tim with queues := s.tim.queues.set port (q ++ [launchEntry time buffer length dropLate false]) } ∧
      s.onlyEntries u [] ∧ u = { s.land t with objs := u.objs, tim := u.tim } := by
  have hqueue := launchQueue_of_room (s := s.land t) time buffer length dropLate (late := false) hstepped hport (room_of_queue hq hroom)
    (by rw [hahead]; exact decide_eq_false (by omega))
  refine ⟨launchPut (s.land t) port (launchEntry time buffer length dropLate false), ?_, launchPut_tim (s := s.land t) _ hq,
    fun key _ => State.get_land s t key, rfl⟩
  rw [launchWrite_effect hruns htime hbuffer hlength, hqueue]
  rfl

theorem launch_late (s : State) (t h port time buffer length : Nat) (q : List Launch)
    (hruns : s.hartRuns h = true) (hstepped : s.stepped = true) (hport : port < 2) (hq : s.tim.queues[port]? = some q)
    (hroom : q.length < 16) (htime : time < 2 ^ 32) (hbuffer : buffer < 2 ^ 32) (hlength : length < 2048)
    (hahead : ((s.land t).ahead time).all (fun d => decide (d < 200)) = true) :
    ∃ u, exec (.launchQueueWrite t h port time buffer length false) s = .next (State.settle (s.land t) u) ∧
      u.tim = { s.tim with queues := s.tim.queues.set port (q ++ [launchEntry time buffer length false true]) } ∧
      u.get Obj.TIM_LATE_COUNT = min (s.get Obj.TIM_LATE_COUNT + 1) 0xFFFFFFFF ∧
      u.get (Obj.LOG_CNT 0x12) = min (s.get (Obj.LOG_CNT 0x12) + 1) 0xFFFFFFFFFFFFFFFF ∧ u.sourcePending 393 ∧
      s.onlyEntries u [Obj.TIM_LATE_COUNT, Obj.LOG_CNT 0x12] ∧ u = { s.land t with objs := u.objs, tim := u.tim, icu := u.icu } := by
  have hqueue := launchQueue_of_room (s := s.land t) time buffer length false hstepped hport (room_of_queue hq hroom) hahead
  have hget : ∀ key, (launchPut (s.land t) port (launchEntry time buffer length false true)).get key = s.get key := fun _ => rfl
  refine ⟨(launchPut (s.land t) port (launchEntry time buffer length false true)).timLate, ?effect,
    launchPut_tim (s := s.land t) _ hq, ?count, ?life, sourcePending_raise _ _, fun key hkey => ?others, rfl⟩
  case effect =>
    rw [launchWrite_effect hruns htime hbuffer hlength, hqueue]
    rfl
  case count => rw [get_timLate, if_neg (by decide), if_pos rfl, hget]
  case life => rw [get_timLate, if_pos rfl, hget]
  case others =>
    simp only [List.mem_cons, List.not_mem_nil, or_false, not_or] at hkey
    rw [get_timLate, if_neg hkey.2, if_neg hkey.1, hget]

theorem launch_dropped (s : State) (t h port time buffer length : Nat) (q : List Launch)
    (hruns : s.hartRuns h = true) (hstepped : s.stepped = true) (hport : port < 2) (hq : s.tim.queues[port]? = some q)
    (hroom : q.length < 16) (htime : time < 2 ^ 32) (hbuffer : buffer < 2 ^ 32) (hlength : length < 2048)
    (hahead : ((s.land t).ahead time).all (fun d => decide (d < 200)) = true) :
    ∃ u, exec (.launchQueueWrite t h port time buffer length true) s = .next (State.settle (s.land t) u) ∧
      u.get Obj.TIM_DROP_COUNT = min (s.get Obj.TIM_DROP_COUNT + 1) 0xFFFFFFFF ∧
      u.tim.launched.head? = some (port, time, false, true, true, (s.land t).time32) ∧ u.sourcePending 394 ∧
      s.onlyEntries u [Obj.TIM_DROP_COUNT] ∧ u = { s.land t with objs := u.objs, tim := u.tim, icu := u.icu } := by
  have hqueue := launchQueue_of_room (s := s.land t) time buffer length true hstepped hport (room_of_queue hq hroom) hahead
  let e := launchEntry time buffer length true true
  have htime32 : ((launchPut (s.land t) port e).timDrop).time32 = (s.land t).time32 :=
    (time32_put (launchPut (s.land t) port e) _ (by decide)).trans rfl
  have hget : ∀ key, (((launchPut (s.land t) port e).timDrop).launchDone port e false true).get key =
      ((s.land t).bump Obj.TIM_DROP_COUNT).get key := fun _ => rfl
  refine ⟨((launchPut (s.land t) port e).timDrop).launchDone port e false true, ?effect, ?count, ?noted, ?pending,
    fun key hkey => ?others, rfl⟩
  case effect =>
    rw [launchWrite_effect hruns htime hbuffer hlength, hqueue]
    rfl
  case count => rw [hget, State.get_bump, if_pos rfl, State.get_land]
  case noted =>
    rw [head_launchDone, htime32]
    rfl
  case pending => exact sourcePending_kept (by decide) (sourcePending_raise _ 394) (.of_icu rfl)
  case others => rw [hget, State.get_bump, if_neg (List.ne_of_not_mem_cons hkey), State.get_land]

theorem launch_full (s : State) (t h port time buffer length : Nat) (dropLate : Bool)
    (hruns : s.hartRuns h = true) (hstepped : s.stepped = true) (hport : port < 2)
    (hfull : 16 ≤ (s.tim.queues.getD port []).length) :
    ∃ u, exec (.launchQueueWrite t h port time buffer length dropLate) s = .next (State.settle (s.land t) u) ∧
      u.get Obj.TIM_QUEUE_FULL_COUNT = min (s.get Obj.TIM_QUEUE_FULL_COUNT + 1) 0xFFFFFFFF ∧
      s.onlyEntries u [Obj.TIM_QUEUE_FULL_COUNT] ∧ u = { s.land t with objs := u.objs } := by
  refine ⟨(s.land t).bump Obj.TIM_QUEUE_FULL_COUNT, ?effect, ?_, fun key hkey => ?_, rfl⟩
  case effect =>
    show execLaunchQueueWrite t h port time buffer length dropLate s = _
    refine done_of_effect ?_
    have hr : (s.land t).hartRuns h = true := hruns
    have hopen : ¬((!(s.land t).stepped) = true ∨ 2 ≤ port) := by
      have hst : (s.land t).stepped = true := hstepped
      rw [hst]
      rintro (h | h)
      · cases h
      · omega
    rw [hr, if_pos rfl, State.launchQueue, if_neg hopen]
    exact if_pos hfull
  · rw [State.get_bump, if_pos rfl, State.get_land]
  · rw [State.get_bump, if_neg (List.ne_of_not_mem_cons hkey), State.get_land]

/-! ## Entries that leave -/

theorem frameLaunch_effect {s : State} {t port : Nat} (hworks : s.timWorks = true) (hserved : s.served = true) (hport : port < 2) :
    exec (.timedFrameLaunch t port) s = .next (State.settle (s.land t) ((s.land t).launchServe port)) := by
  show execTimedFrameLaunch t port s = _
  refine done_of_effect ?_
  have hw : (s.land t).timWorks = true := hworks
  have hs : (s.land t).served = true := hserved
  rw [hw, hs, decide_eq_true hport]
  rfl

/-- An entry that finds its port busy is late from then on (R338). -/
def busyNoted (s : State) (port : Nat) (e : Launch) : State :=
  s.withTim fun t => { t with queues := (updateAt t.queues port fun q => q.map fun x => if x = e then { x with late := true } else x) }

theorem launchServe_of_due {s : State} {port : Nat} {e : Launch} (hnext : s.launchNext port = some e)
    (hdue : e.late = true ∨ s.ahead e.time = some 0) :
    s.launchServe port =
      if s.now < s.tim.busyUntil.getD port 0 then
        if e.late then s
        else if e.dropLate then (s.timDrop).launchDone port e false true
        else busyNoted s.timLate port e
      else (s.emit (.eth port 3 [e.buffer, e.length])).launchDone port e true false := by
  unfold State.launchServe
  rw [hnext]
  dsimp -zeta only
  extract_lets due
  have hcome : (!due) = false := by
    rcases hdue with h | h
    · simp [due, h]
    · simp [due, h]
  rw [hcome]
  rfl

theorem launch_leaves (s : State) (t port : Nat) (e : Launch) (hworks : s.timWorks = true) (hserved : s.served = true)
    (hport : port < 2) (hnext : (s.land t).launchNext port = some e) (hdue : e.late = true ∨ (s.land t).ahead e.time = some 0)
    (hfree : s.tim.busyUntil.getD port 0 ≤ (s.land t).now) :
    ∃ u, exec (.timedFrameLaunch t port) s = .next (State.settle (s.land t) u) ∧
      u.out = [Out.eth port 3 [e.buffer, e.length]] ∧
      u.tim.launched.head? = some (port, e.time, true, e.late, false, (s.land t).time32) ∧ s.onlyEntries u [] ∧
      u = { s.land t with objs := u.objs, tim := u.tim, out := u.out } := by
  have hbusy : ¬(s.land t).now < (s.land t).tim.busyUntil.getD port 0 := Nat.not_lt.2 hfree
  refine ⟨((s.land t).emit (.eth port 3 [e.buffer, e.length])).launchDone port e true false, ?_, rfl, head_launchDone .., fun key _ =>
    State.get_land s t key, rfl⟩
  rw [frameLaunch_effect hworks hserved hport, launchServe_of_due hnext hdue, if_neg hbusy]

theorem launch_finds_busy (s : State) (t port : Nat) (e : Launch) (hworks : s.timWorks = true) (hserved : s.served = true)
    (hport : port < 2) (hnext : (s.land t).launchNext port = some e) (hlate : e.late = false) (hkeep : e.dropLate = false)
    (hdue : (s.land t).ahead e.time = some 0) (hbusy : (s.land t).now < s.tim.busyUntil.getD port 0) :
    ∃ u, exec (.timedFrameLaunch t port) s = .next (State.settle (s.land t) u) ∧
      u.get Obj.TIM_LATE_COUNT = min (s.get Obj.TIM_LATE_COUNT + 1) 0xFFFFFFFF ∧ u.sourcePending 393 ∧
      s.onlyEntries u [Obj.TIM_LATE_COUNT, Obj.LOG_CNT 0x12] ∧ u = { s.land t with objs := u.objs, tim := u.tim, icu := u.icu } := by
  have hbusy' : (s.land t).now < (s.land t).tim.busyUntil.getD port 0 := hbusy
  have hget : ∀ (a : State) key, (busyNoted a.timLate port e).get key = a.timLate.get key := fun _ _ => rfl
  refine ⟨busyNoted (s.land t).timLate port e, ?effect, ?count, ?pending, fun key hkey => ?others, rfl⟩
  case effect =>
    rw [frameLaunch_effect hworks hserved hport, launchServe_of_due hnext (.inr hdue), if_pos hbusy', hlate, hkeep]
    rfl
  case count => rw [hget, get_timLate, if_neg (by decide), if_pos rfl, State.get_land]
  case pending => exact sourcePending_kept (by decide) (sourcePending_raise _ 393) (.of_icu rfl)
  case others =>
    simp only [List.mem_cons, List.not_mem_nil, or_false, not_or] at hkey
    rw [hget, get_timLate, if_neg hkey.2, if_neg hkey.1, State.get_land]

end Sys2Proof.Proofs
end

section
/-!
PROOF. Pulse generators, and timed events with their sources (O41; R339 to R341).
-/

namespace Sys2Proof.Proofs

open Sys2Proof Sys2Proof.Machine

/-! ## MODE of a generator -/

theorem field_mode (v : Nat) : field v 0 2 = v % 4 := by simp [field]

theorem mode_withField (v mode : Nat) (h : mode < 4) : field (withField v 0 2 mode) 0 2 = mode := by
  rw [field_mode, withField, field_mode]
  omega

/-- TIM_GEN_CTRL is read-write and keeps MODE (Table 13.11). -/
theorem row_genCtrl {g : Nat} (hg : g < 16) :
    ∃ row, Obj.rowOf (Obj.TIM_GEN_CTRL g) = some row ∧ row.access = .rw ∧
      ∀ v : Nat, ∃ w : Nat, ObjRow.masked row (ObjType.value row.type (ObjType.bytes row.type v)) = w ∧ field w 0 2 = field v 0 2 := by
  have htable : ∀ g < 16, (Obj.rowOf (Obj.TIM_GEN_CTRL g)).map (fun r => (r.access, r.type, r.mask)) = some (.rw, .u32, 0x7FF) := by
    decide
  obtain ⟨row, hrow, hcolumns⟩ := Option.map_eq_some_iff.1 (htable g hg)
  simp only [Prod.mk.injEq] at hcolumns
  obtain ⟨hrw, htype, hmask⟩ := hcolumns
  refine ⟨row, hrow, hrw, fun v => ⟨v % 2 ^ 32 % 2048, ?_, ?_⟩⟩
  · have hbytes : unsigned 32 (v : Int) = v % 2 ^ 32 := by simp only [unsigned]; omega
    have hvalue : ObjType.value .u32 (ObjType.bytes .u32 v) = ((v % 2 ^ 32 : Nat) : Int) := by
      show ((ofBytes (bytesOf (unsigned 32 v) 4) : Nat) : Int) = _
      rw [hbytes, ofBytes_bytesOf (by omega)]
    have hlow : v % 2 ^ 32 &&& 0x7FF = v % 2 ^ 32 % 2048 := Nat.and_two_pow_sub_one_eq_mod _ 11
    rw [ObjRow.masked, htype, hmask, hvalue, if_neg (by decide), Int.toNat_natCast, hlow]
  · rw [field_mode, field_mode]
    omega

theorem answersLater_genCtrl {g : Nat} (hg : g < 16) (w : Int) : answersLater (Obj.TIM_GEN_CTRL g) w = false := by
  have hplan : Obj.TIM_GEN_CTRL g ≠ Obj.AGE_PLAN_SUBMIT := by simp only [Obj.TIM_GEN_CTRL, Obj.AGE_PLAN_SUBMIT]; omega
  have hstore : Obj.TIM_GEN_CTRL g ≠ Obj.DEV_IMAGE_STORE := by simp only [Obj.TIM_GEN_CTRL, Obj.DEV_IMAGE_STORE]; omega
  simp [answersLater, hplan, hstore]

/-- A value written to TIM_GEN_CTRL, MODE still the old one. -/
def genHeld (s : State) (g w : Nat) : State :=
  s.put (Obj.TIM_GEN_CTRL g) (withField w 0 2 (field (s.getN (Obj.TIM_GEN_CTRL g)) 0 2) : Nat)

theorem setEntry_genCtrl (s : State) {g : Nat} (hg : g < 16) (w : Nat) :
    s.setEntry (Obj.TIM_GEN_CTRL g) w =
      if field w 0 2 = field ((genHeld s g w).getN (Obj.TIM_GEN_CTRL g)) 0 2 then genHeld s g w
      else (genHeld s g w).genArm g (field w 0 2) := by
  interval_cases g
  all_goals rfl

/-- MODE and its state as a generator is set. -/
def genSet (s : State) (g mode : Nat) : State :=
  (s.put (Obj.TIM_GEN_CTRL g) (withField (s.getN (Obj.TIM_GEN_CTRL g)) 0 2 mode : Nat)).put (Obj.TIM_GEN_STATUS g)
    (if mode = 0 then 0 else 1)

theorem ctrl_ne_status (g : Nat) : Obj.TIM_GEN_CTRL g ≠ Obj.TIM_GEN_STATUS g := by
  simp only [Obj.TIM_GEN_CTRL, Obj.TIM_GEN_STATUS]
  omega

theorem get_genSet (s : State) {g : Nat} (mode : Nat) {key : Nat} (hc : key ≠ Obj.TIM_GEN_CTRL g) (hs : key ≠ Obj.TIM_GEN_STATUS g) :
    (genSet s g mode).get key = s.get key := by
  rw [genSet, State.get_put_ne _ _ hs, State.get_put_ne _ _ hc]

theorem mode_genSet (s : State) (g : Nat) {mode : Nat} (hmode : mode < 4) :
    field ((genSet s g mode).getN (Obj.TIM_GEN_CTRL g)) 0 2 = mode := by
  rw [genSet, State.getN, State.get_put_ne _ _ (ctrl_ne_status g), State.get_put_same, Int.toNat_natCast]
  exact mode_withField _ _ hmode

theorem time32_genSet (s : State) (g mode : Nat) : (genSet s g mode).time32 = s.time32 := by
  have hs : Obj.TIM_RATE_ADJ ≠ Obj.TIM_GEN_STATUS g := by simp only [Obj.TIM_RATE_ADJ, Obj.TIM_GEN_STATUS]; omega
  have hc : Obj.TIM_RATE_ADJ ≠ Obj.TIM_GEN_CTRL g := by simp only [Obj.TIM_RATE_ADJ, Obj.TIM_GEN_CTRL]; omega
  rw [genSet, time32_put _ _ hs, time32_put _ _ hc]

theorem genArm_oneShot {s : State} {g d : Nat} (hahead : s.ahead (s.getN (Obj.TIM_GEN_START g)) = some d) (hsoon : 200 ≤ d) :
    s.genArm g 1 = (genSet s g 1).put (Obj.TIM_GEN_NEXT g) (s.getN (Obj.TIM_GEN_START g)) := by
  have hstart : (genSet s g 1).getN (Obj.TIM_GEN_START g) = s.getN (Obj.TIM_GEN_START g) := by
    have hc : Obj.TIM_GEN_START g ≠ Obj.TIM_GEN_CTRL g := by simp only [Obj.TIM_GEN_START, Obj.TIM_GEN_CTRL]; omega
    have hs : Obj.TIM_GEN_START g ≠ Obj.TIM_GEN_STATUS g := by simp only [Obj.TIM_GEN_START, Obj.TIM_GEN_STATUS]; omega
    rw [State.getN, get_genSet s 1 hc hs]
    rfl
  have hcome : (genSet s g 1).ahead (s.getN (Obj.TIM_GEN_START g)) = some d := (ahead_congr (time32_genSet s g 1) _).trans hahead
  unfold State.genArm
  extract_lets s1 start soon
  have hs1 : s1 = genSet s g 1 := rfl
  have hbegin : start = s.getN (Obj.TIM_GEN_START g) := hstart
  have hwait : soon = false := by
    unfold soon
    rw [hbegin, hs1, hcome]
    exact decide_eq_false (by omega)
  rw [hwait, hbegin, hs1]
  rfl

theorem genArm_off (s : State) (g : Nat) : s.genArm g 0 = (genSet s g 0).withTim fun t => { t with genFall := t.genFall.set g none } := rfl

/-- An accepted change of MODE arms the generator in the state that has heard the request (R339). -/
theorem writeEntry_genMode {s : State} {t : Nat} {f : Sender} {g mode : Nat} (hg : g < 16) (hmode : mode < 4)
    (hwrite : s.takesWrite t f (Obj.TIM_GEN_CTRL g) (withField (s.getN (Obj.TIM_GEN_CTRL g)) 0 2 mode : Nat) = true)
    (hchange : field (s.getN (Obj.TIM_GEN_CTRL g)) 0 2 ≠ mode) :
    ∃ w : Nat, exec (.pulseGeneratorArm t f g mode) s = .next (State.settle (s.land t)
      (({ (genHeld ((s.land t).heard f) g w).genArm g mode with
        dict := { ((genHeld ((s.land t).heard f) g w).genArm g mode).dict with live := true } } : State).emit .done)) := by
  obtain ⟨row, hrow, hrw, hval⟩ := row_genCtrl hg
  obtain ⟨w, hw, hwmode⟩ := hval (withField (s.getN (Obj.TIM_GEN_CTRL g)) 0 2 mode)
  rw [mode_withField _ _ hmode] at hwmode
  have hheld : field ((genHeld ((s.land t).heard f) g w).getN (Obj.TIM_GEN_CTRL g)) 0 2 = field (s.getN (Obj.TIM_GEN_CTRL g)) 0 2 := by
    rw [genHeld, State.getN, State.get_put_same, Int.toNat_natCast, mode_withField _ _ (by rw [field_mode]; omega)]
    rfl
  refine ⟨w, ?_⟩
  show execPulseGeneratorArm t f g mode s = _
  refine done_of_effect ?_
  rw [decide_eq_true hg, decide_eq_true hmode]
  show (s.land t).writeEntry f (Obj.TIM_GEN_CTRL g) (withField (s.getN (Obj.TIM_GEN_CTRL g)) 0 2 mode : Nat) = _
  rw [writeEntry_of_takesWrite hrow hrw (answersLater_genCtrl hg) hwrite, hw, State.commitEntry, setEntry_genCtrl _ hg, hwmode,
    hheld, if_neg (Ne.symm hchange)]

theorem get_genHeld (s : State) {g w key : Nat} (h : key ≠ Obj.TIM_GEN_CTRL g) : (genHeld s g w).get key = s.get key :=
  State.get_put_ne _ _ h

theorem time32_genHeld (s : State) (g w : Nat) : (genHeld s g w).time32 = s.time32 :=
  time32_put s _ (by simp only [Obj.TIM_RATE_ADJ, Obj.TIM_GEN_CTRL]; omega)

theorem generator_waits (s : State) (t : Nat) (f : Sender) (g d : Nat) (hg : g < 16)
    (hwrite : s.takesWrite t f (Obj.TIM_GEN_CTRL g) (withField (s.getN (Obj.TIM_GEN_CTRL g)) 0 2 1 : Nat) = true)
    (hchange : field (s.getN (Obj.TIM_GEN_CTRL g)) 0 2 ≠ 1) (hahead : (s.land t).ahead (s.getN (Obj.TIM_GEN_START g)) = some d)
    (hsoon : 200 ≤ d) :
    ∃ u, exec (.pulseGeneratorArm t f g 1) s = .next (State.settle (s.land t) u) ∧
      field (u.getN (Obj.TIM_GEN_CTRL g)) 0 2 = 1 ∧ u.getN (Obj.TIM_GEN_NEXT g) = s.getN (Obj.TIM_GEN_START g) ∧
      u.get (Obj.TIM_GEN_STATUS g) = 1 ∧ u.out = [Out.done] ∧
      s.onlyEntries u [Obj.TIM_GEN_CTRL g, Obj.TIM_GEN_STATUS g, Obj.TIM_GEN_NEXT g] ∧
      u = { s.land t with objs := u.objs, dict := u.dict, out := u.out } := by
  obtain ⟨w, heffect⟩ := writeEntry_genMode hg (by decide) hwrite hchange
  have hsc : Obj.TIM_GEN_START g ≠ Obj.TIM_GEN_CTRL g := by simp only [Obj.TIM_GEN_START, Obj.TIM_GEN_CTRL]; omega
  have hcn : Obj.TIM_GEN_CTRL g ≠ Obj.TIM_GEN_NEXT g := by simp only [Obj.TIM_GEN_CTRL, Obj.TIM_GEN_NEXT]; omega
  have hsn : Obj.TIM_GEN_STATUS g ≠ Obj.TIM_GEN_NEXT g := by simp only [Obj.TIM_GEN_STATUS, Obj.TIM_GEN_NEXT]; omega
  have hstart : (genHeld ((s.land t).heard f) g w).getN (Obj.TIM_GEN_START g) = s.getN (Obj.TIM_GEN_START g) := by
    rw [State.getN, get_genHeld _ hsc]
    rfl
  have htime : (genHeld ((s.land t).heard f) g w).time32 = (s.land t).time32 := (time32_genHeld _ g w).trans rfl
  have harm := genArm_oneShot (s := genHeld ((s.land t).heard f) g w) (by rw [hstart, ahead_congr htime]; exact hahead) hsoon
  rw [hstart] at harm
  rw [harm] at heffect
  refine ⟨_, heffect, ?mode, ?next, ?status, rfl, fun key hkey => ?others, rfl⟩
  case mode =>
    show field (((genSet _ g 1).put (Obj.TIM_GEN_NEXT g) _).getN (Obj.TIM_GEN_CTRL g)) 0 2 = 1
    rw [State.getN, State.get_put_ne _ _ hcn]
    exact mode_genSet _ g (by decide)
  case next =>
    show ((genSet _ g 1).put (Obj.TIM_GEN_NEXT g) _).getN (Obj.TIM_GEN_NEXT g) = _
    rw [State.getN, State.get_put_same, Int.toNat_natCast]
  case status =>
    show ((genSet _ g 1).put (Obj.TIM_GEN_NEXT g) _).get (Obj.TIM_GEN_STATUS g) = 1
    rw [State.get_put_ne _ _ hsn, genSet, State.get_put_same]
    rfl
  case others =>
    simp only [List.mem_cons, List.not_mem_nil, or_false, not_or] at hkey
    obtain ⟨hc, hs, hn⟩ := hkey
    show ((genSet (genHeld ((s.land t).heard f) g w) g 1).put (Obj.TIM_GEN_NEXT g) _).get key = s.get key
    rw [State.get_put_ne _ _ hn, get_genSet _ _ hc hs, get_genHeld _ hc]
    rfl

theorem generator_off (s : State) (t : Nat) (f : Sender) (g : Nat) (hg : g < 16)
    (hwrite : s.takesWrite t f (Obj.TIM_GEN_CTRL g) (withField (s.getN (Obj.TIM_GEN_CTRL g)) 0 2 0 : Nat) = true)
    (hchange : field (s.getN (Obj.TIM_GEN_CTRL g)) 0 2 ≠ 0) :
    ∃ u, exec (.pulseGeneratorArm t f g 0) s = .next (State.settle (s.land t) u) ∧
      field (u.getN (Obj.TIM_GEN_CTRL g)) 0 2 = 0 ∧ u.tim = { s.tim with genFall := s.tim.genFall.set g none } ∧
      u.get (Obj.TIM_GEN_STATUS g) = 0 ∧ u.out = [Out.done] ∧ s.onlyEntries u [Obj.TIM_GEN_CTRL g, Obj.TIM_GEN_STATUS g] ∧
      u = { s.land t with objs := u.objs, tim := u.tim, dict := u.dict, out := u.out } := by
  obtain ⟨w, heffect⟩ := writeEntry_genMode hg (by decide) hwrite hchange
  rw [genArm_off] at heffect
  refine ⟨_, heffect, mode_genSet (genHeld ((s.land t).heard f) g w) g (by decide), rfl, ?status, rfl, fun key hkey => ?others, rfl⟩
  case status =>
    show (genSet _ g 0).get (Obj.TIM_GEN_STATUS g) = 0
    rw [genSet, State.get_put_same]
    rfl
  case others =>
    simp only [List.mem_cons, List.not_mem_nil, or_false, not_or] at hkey
    show (genSet (genHeld ((s.land t).heard f) g w) g 0).get key = s.get key
    rw [get_genSet _ _ hkey.1 hkey.2, get_genHeld _ hkey.1]
    rfl

/-! ## Edges of a generator -/

/-- What the pulse of a generator gives beside its own state: nothing of the registers or of the time unit changes. -/
structure PulseGiven (a b : State) : Prop where
  entries : ∀ key, b.get key = a.get key
  tim : b.tim = a.tim
  out : b.out = a.out
  frame : b = { a with objs := b.objs, car := b.car, cmt := b.cmt, icu := b.icu }

theorem PulseGiven.refl (s : State) : PulseGiven s s := ⟨fun _ => rfl, rfl, rfl, rfl⟩

theorem PulseGiven.trans {a b c : State} (h : PulseGiven a b) (g : PulseGiven b c) : PulseGiven a c :=
  ⟨fun key => (g.entries key).trans (h.entries key), g.tim.trans h.tim, g.out.trans h.out, by rw [g.frame, h.frame]⟩

theorem PulseGiven.ite {s a b : State} {c : Prop} [Decidable c] (h : PulseGiven s a) (g : PulseGiven s b) :
    PulseGiven s (if c then a else b) := by
  split
  · exact h
  · exact g

theorem pulseGiven_fire (s : State) (code time frac : Nat) : PulseGiven s (s.cmtFire code time frac) := by
  have hfired : ∀ f : Cmt → Cmt, PulseGiven s (s.withCmt f) := fun _ => ⟨fun _ => rfl, rfl, rfl, rfl⟩
  unfold State.cmtFire
  extract_lets enabled
  refine .ite (hfired _) (.ite ?_ (.refl s))
  split
  · exact .ite (hfired _) (.refl s)
  · exact .refl s

theorem pulseGiven_carriers (s : State) (g : Nat) : PulseGiven s (s.carTimePulse g) := by
  refine foldl_related (R := PulseGiven) .refl (fun {_ _ _} h k => h.trans k) _ (fun a k _ => ?_) s
  split
  · exact .refl a
  · exact .ite ⟨fun _ => rfl, rfl, rfl, rfl⟩ (.refl a)

/-- The pin of a generator driven. -/
def genDriven (s : State) (g : Nat) (level : Bool) : State :=
  match s.genPin g with
  | some p => s.emit (.pin p level)
  | none => s

theorem genDriven_eq (s : State) (g : Nat) (level : Bool) :
    genDriven s g level = { s with out := s.out ++ (s.genPin g).toList.map fun p => Out.pin p level } := by
  unfold genDriven
  split
  next p hp =>
    rw [hp]
    rfl
  next hp =>
    rw [hp, Option.toList_none, List.map_nil, List.append_nil]

/-- The rise of an output beside the fall that it waits for. -/
def genRisen (s : State) (g : Nat) : State :=
  let s1 := genDriven s g true
  let s2 := if bitOf (s.getN (Obj.TIM_GEN_CTRL g)) 3 then s1.cmtFire 7 s1.time32 0 else s1
  let s3 := if bitOf (s.getN (Obj.TIM_GEN_CTRL g)) 4 then s2.raise (400 + g) else s2
  s3.carTimePulse g

theorem genRise_eq (s : State) (g : Nat) :
    s.genRise g = (genRisen s g).withTim fun t => { t with genFall := t.genFall.set g (some ((s.time32 + s.genWidth g) % 2 ^ 32)) } := rfl

theorem pulseGiven_genRisen (s : State) (g : Nat) : PulseGiven (genDriven s g true) (genRisen s g) := by
  unfold genRisen
  extract_lets s1 s2 s3
  have hfired : PulseGiven s1 s2 := .ite (pulseGiven_fire _ _ _ _) (.refl _)
  have hraised : PulseGiven s1 s3 := hfired.trans (.ite ⟨fun _ => rfl, rfl, rfl, rfl⟩ (.refl _))
  exact hraised.trans (pulseGiven_carriers _ _)

/-- What the rise of an output gives (R341). -/
theorem genRise_shows (s : State) (g : Nat) :
    (∀ key, (s.genRise g).get key = s.get key) ∧
      (s.genRise g).tim = { s.tim with genFall := s.tim.genFall.set g (some ((s.time32 + s.genWidth g) % 2 ^ 32)) } ∧
      (s.genRise g).out = (s.out ++ (s.genPin g).toList.map fun p => Out.pin p true) ∧
      s.genRise g = { s with objs := (s.genRise g).objs, tim := (s.genRise g).tim, car := (s.genRise g).car, cmt := (s.genRise g).cmt,
                             icu := (s.genRise g).icu, out := (s.genRise g).out } := by
  obtain ⟨hentries, htim, hout, hframe⟩ := pulseGiven_genRisen s g
  rw [genDriven_eq] at hentries htim hout hframe
  rw [genRise_eq]
  generalize genRisen s g = a at *
  refine ⟨fun key => hentries key, ?_, hout, ?_⟩
  · rw [withTim_tim, htim]
  · rw [hframe]
    rfl

theorem generatorEdge_effect {s : State} {t g : Nat} (hworks : s.timWorks = true) (hg : g < 16) :
    exec (.pulseGeneratorEdge t g) s = .next (State.settle (s.land t) ((s.land t).genEdge g)) := by
  show execPulseGeneratorEdge t g s = _
  refine done_of_effect ?_
  have hw : (s.land t).timWorks = true := hworks
  rw [hw, decide_eq_true hg]
  rfl

/-- A rise as the next edge is set by the mode (R339). -/
def genRepeated (s a : State) (g : Nat) : State :=
  if s.genMode g = 2 then a.put (Obj.TIM_GEN_NEXT g)
    ((s.getN (Obj.TIM_GEN_NEXT g) + a.getN (Obj.TIM_GEN_PERIOD g)) % 2 ^ 32 : Nat)
  else if s.genMode g = 3 then a.put (Obj.TIM_GEN_NEXT g) ((s.getN (Obj.TIM_GEN_NEXT g) + a.period) % 2 ^ 32 : Nat)
  else a

theorem genEdge_of_rise {s : State} {g : Nat} (hlow : s.tim.genFall[g]? = some none) (hmode : s.genMode g ≠ 0)
    (hdue : s.ahead (s.getN (Obj.TIM_GEN_NEXT g)) = some 0) : s.genEdge g = genRepeated s (s.genRise g) g := by
  have hnone : s.tim.genFall.getD g none = none := by
    rw [List.getD_eq_getElem?_getD, hlow]
    rfl
  unfold State.genEdge
  extract_lets reached m next s1
  have hrises : ¬(m = 0 ∨ (!reached next) = true) := by
    have hreached : ∀ t, s.ahead t = some 0 → reached t = true := fun t h => by simp [reached, h]
    rw [hreached next hdue]
    simpa [m] using hmode
  rw [hnone]
  dsimp only
  rw [if_neg hrises, genRepeated]

theorem genRepeated_shows (s a : State) (g : Nat) :
    (∀ key, key ≠ Obj.TIM_GEN_NEXT g → (genRepeated s a g).get key = a.get key) ∧
      genRepeated s a g = { a with objs := (genRepeated s a g).objs } := by
  have hput : ∀ (v : Int) key, key ≠ Obj.TIM_GEN_NEXT g → (a.put (Obj.TIM_GEN_NEXT g) v).get key = a.get key :=
    fun v _ h => State.get_put_ne a v h
  unfold genRepeated
  split
  · exact ⟨hput _, rfl⟩
  · split
    · exact ⟨hput _, rfl⟩
    · exact ⟨fun _ _ => rfl, rfl⟩

theorem generator_rises (s : State) (t g : Nat) (hworks : s.timWorks = true) (hg : g < 16) (hlow : s.tim.genFall[g]? = some none)
    (hmode : s.genMode g ≠ 0) (hdue : (s.land t).ahead (s.getN (Obj.TIM_GEN_NEXT g)) = some 0) :
    ∃ u, exec (.pulseGeneratorEdge t g) s = .next (State.settle (s.land t) u) ∧
      u.tim.genFall[g]? = some (some (((s.land t).time32 + s.genWidth g) % 2 ^ 32)) ∧
      (s.genMode g = 2 →
        u.getN (Obj.TIM_GEN_NEXT g) = (s.getN (Obj.TIM_GEN_NEXT g) + s.getN (Obj.TIM_GEN_PERIOD g)) % 2 ^ 32) ∧
      (u.out = (s.genPin g).toList.map fun p => Out.pin p true) ∧ s.onlyEntries u [Obj.TIM_GEN_NEXT g] ∧
      u = { s.land t with objs := u.objs, tim := u.tim, car := u.car, cmt := u.cmt, icu := u.icu, out := u.out } := by
  obtain ⟨hentries, htim, hout, hframe⟩ := genRise_shows (s.land t) g
  have hwidth : (s.land t).genWidth g = s.genWidth g := rfl
  have hmode' : (s.land t).genMode g = s.genMode g := rfl
  have heffect := generatorEdge_effect (t := t) hworks hg
  rw [genEdge_of_rise (s := s.land t) hlow hmode hdue] at heffect
  have hget : ∀ key, ((s.land t).genRise g).get key = s.get key := fun key => (hentries key).trans (State.get_land s t key)
  generalize (s.land t).genRise g = a at *
  obtain ⟨hothers, hrepeated⟩ := genRepeated_shows (s.land t) a g
  refine ⟨_, heffect, ?fall, fun hrepeat => ?next, ?pin, fun key hkey => ?others, ?frame⟩
  case fall =>
    have hlt : g < s.tim.genFall.length := (List.getElem?_eq_some_iff.1 hlow).1
    rw [hrepeated]
    show a.tim.genFall[g]? = _
    rw [htim, hwidth]
    exact List.getElem?_set_self hlt
  case next =>
    rw [genRepeated, hmode', if_pos hrepeat, State.getN, State.get_put_same, Int.toNat_natCast]
    have hperiod : a.getN (Obj.TIM_GEN_PERIOD g) = s.getN (Obj.TIM_GEN_PERIOD g) := by rw [State.getN, hget, State.getN]
    rw [hperiod]
    rfl
  case pin =>
    rw [hrepeated]
    show a.out = _
    rw [hout]
    rfl
  case others => rw [hothers key (List.ne_of_not_mem_cons hkey), hget]
  case frame =>
    rw [hrepeated, hframe]

/-- The fall of a ONE_SHOT leaves it OFF (R339). -/
theorem genEdge_of_fall {s : State} {g n : Nat} (hhigh : s.tim.genFall[g]? = some (some n)) (hdue : s.ahead n = some 0) :
    s.genEdge g = s.genDrop g := by
  have hsome : s.tim.genFall.getD g none = some n := by
    rw [List.getD_eq_getElem?_getD, hhigh]
    rfl
  unfold State.genEdge
  extract_lets reached
  have hreached : reached n = true := by
    unfold reached
    rw [hdue]
    rfl
  rw [hsome]
  exact if_pos hreached

/-- A ONE_SHOT that has fallen, OFF. -/
def oneShotOff (s : State) (g : Nat) : State :=
  (((genDriven s g false).withTim fun t => { t with genFall := t.genFall.set g none }).put (Obj.TIM_GEN_CTRL g)
    (withField (s.getN (Obj.TIM_GEN_CTRL g)) 0 2 0 : Nat)).setBit (Obj.TIM_GEN_STATUS g) 0 false

theorem genDrop_of_oneShot {s : State} {g : Nat} (hmode : s.genMode g = 1) : s.genDrop g = oneShotOff s g := by
  have hctrl : ((genDriven s g false).withTim fun t => { t with genFall := t.genFall.set g none }).getN (Obj.TIM_GEN_CTRL g) =
      s.getN (Obj.TIM_GEN_CTRL g) := by
    rw [genDriven_eq]
    rfl
  unfold oneShotOff
  rw [← hctrl]
  exact if_pos hmode

theorem generator_falls (s : State) (t g n : Nat) (hworks : s.timWorks = true) (hg : g < 16)
    (hhigh : s.tim.genFall[g]? = some (some n)) (hdue : (s.land t).ahead n = some 0) (hmode : s.genMode g = 1) :
    ∃ u, exec (.pulseGeneratorEdge t g) s = .next (State.settle (s.land t) u) ∧
      u.tim = { s.tim with genFall := s.tim.genFall.set g none } ∧ field (u.getN (Obj.TIM_GEN_CTRL g)) 0 2 = 0 ∧
      u.bit (Obj.TIM_GEN_STATUS g) 0 = false ∧ (u.out = (s.genPin g).toList.map fun p => Out.pin p false) ∧
      s.onlyEntries u [Obj.TIM_GEN_CTRL g, Obj.TIM_GEN_STATUS g] ∧
      u = { s.land t with objs := u.objs, tim := u.tim, out := u.out } := by
  have heffect := generatorEdge_effect (t := t) hworks hg
  rw [genEdge_of_fall (s := s.land t) hhigh hdue, genDrop_of_oneShot (s := s.land t) hmode, oneShotOff, genDriven_eq] at heffect
  refine ⟨_, heffect, rfl, ?mode, (State.bit_setBit ..).trans (by simp), rfl, fun key hkey => ?others, rfl⟩
  case mode =>
    rw [State.getN, State.get_setBit, if_neg (ctrl_ne_status g), State.get_put_same, Int.toNat_natCast]
    exact mode_withField _ _ (by decide)
  case others =>
    simp only [List.mem_cons, List.not_mem_nil, or_false, not_or] at hkey
    rw [State.get_setBit, if_neg hkey.2, State.get_put_ne _ _ hkey.1]
    rfl

/-- Settles O41: each clause is the branch of its command, its effect read off the rules of the time unit. -/
theorem timedEventsAndTheirSources : Obligations.TimedEventsAndTheirSources := by
  intro s t
  refine ⟨ppsEdge_qualified s t, fun p => ppsEdge_unqualified s t p, fun v => ppsEdge_firstStep s t v, fun p => ppsMiss_first s t p,
    ppsMiss_second s t, fun o => orbSync_sample s t o, fun label => orbSync_firstStep s t label, orbSync_miss s t,
    fun f v => setTime_held s t f v, fun f v => setTime_free s t f v, fun f => reepoch_pends s t f,
    fun h port time buffer length q dropLate d => launch_waits s t h port time buffer length q dropLate d,
    fun h port time buffer length q => launch_late s t h port time buffer length q,
    fun h port time buffer length q => launch_dropped s t h port time buffer length q,
    fun h port time buffer length dropLate => launch_full s t h port time buffer length dropLate,
    fun port e => launch_leaves s t port e, fun port e => launch_finds_busy s t port e,
    fun f g d => generator_waits s t f g d, fun f g => generator_off s t f g, fun g => generator_rises s t g,
    fun g n => generator_falls s t g n⟩

end Sys2Proof.Proofs
end

section
/-!
PROOF. The operations of a serial lane: states, attempts, events (R271 to R273).
-/

namespace Sys2Proof.Proofs

open Sys2Proof Sys2Proof.Machine

/-! ## Entries of a lane -/

/-- Entries of different tables at one number differ. -/
theorem laneKey_ne {a b k : Nat} (h : a ≠ b) : a + k ≠ b + k := by omega

/-- An entry below a table is none of it. -/
theorem mapKey_ne {a b k : Nat} (h : a < b) : a ≠ b + k := by omega

/-- An entry of a table is none below it. -/
theorem ne_mapKey {a b k : Nat} (h : a < b) : b + k ≠ a := by omega

/-! ## The record of a lane -/

theorem lane_withLane {s : State} {k : Nat} {l : Lane} (f : Lane → Lane) (h : s.lane k = some l) :
    (s.withLane k f).lane k = some (f l) := by
  show (updateAt s.lan.lanes k f)[k]? = _
  rw [updateAt, List.getElem?_modify, show s.lan.lanes[k]? = some l from h]
  simp

/-! ## States -/

/-- A lane in a state, as the entries show it. -/
def lanShown (s : State) (k st : Nat) : State := (s.put (Obj.LAN_STATE k) st).setBit Obj.LAN_ACTIVE_MAP k (st = lanActive)

theorem lanEnter_eq (s : State) (k st : Nat) : s.lanEnter k st = (lanShown s k st).withLane k fun l => { l with stateAt := s.now } := rfl

theorem get_lanEnter_state (s : State) (k st : Nat) : (s.lanEnter k st).get (Obj.LAN_STATE k) = st := by
  show (lanShown s k st).get (Obj.LAN_STATE k) = st
  rw [lanShown, State.get_setBit, if_neg (ne_mapKey (by decide)), State.get_put_same]

theorem lanState_lanEnter (s : State) (k st : Nat) : (s.lanEnter k st).lanState k = st := by
  rw [State.lanState, State.getN, get_lanEnter_state, Int.toNat_natCast]

theorem get_lanEnter (s : State) {k st key : Nat} (hmap : key ≠ Obj.LAN_ACTIVE_MAP) (hstate : key ≠ Obj.LAN_STATE k) :
    (s.lanEnter k st).get key = s.get key := by
  show (lanShown s k st).get key = s.get key
  rw [lanShown, State.get_setBit, if_neg hmap, State.get_put_ne _ _ hstate]

theorem lanEnter_frame (s : State) (k st : Nat) :
    s.lanEnter k st = { s with objs := (s.lanEnter k st).objs, lan := (s.lanEnter k st).lan } := rfl

theorem lane_lanEnter {s : State} {k : Nat} {l : Lane} (st : Nat) (h : s.lane k = some l) :
    (s.lanEnter k st).lane k = some { l with stateAt := s.now } := lane_withLane (s := lanShown s k st) _ h

theorem get_lanClear (s : State) {k key : Nat} (h : key ≠ Obj.LAN_STATUS k) : (s.lanClear k).get key = s.get key :=
  State.get_put_ne _ _ h

theorem get_lanEvent (s : State) {k : Nat} (code : Nat) {key : Nat} (h : key ≠ Obj.LAN_LAST_EVENT k) :
    (s.lanEvent k code).get key = s.get key := State.get_put_ne _ _ h

theorem get_lanEvent_same (s : State) (k code : Nat) : (s.lanEvent k code).get (Obj.LAN_LAST_EVENT k) = code := State.get_put_same ..

/-- Sources of lanes are shared ones. -/
theorem lockSource_shared {k : Nat} (hk : k < 50) : lockSource k / 32 ≠ 5 ∧ (lockSource k + 1) / 32 ≠ 5 := by
  rw [lockSource]
  split <;> omega

theorem sourcePending_lanEvent (s : State) {k : Nat} (hk : k < 50) (code : Nat) : (s.lanEvent k code).sourcePending (lockSource k + 1) :=
  sourcePending_kept (lockSource_shared hk).2 (sourcePending_raise s _) (.of_icu rfl)

/-! ## Attempts -/

/-- What an attempt that begins shows (R271, R274). -/
structure AttemptBegun (s u : State) (k attempt : Nat) : Prop where
  state : u.lanState k = Sys2Proof.Machine.lanCap
  rate : u.get (Obj.LAN_RATE_NOW k) = 4
  lane : (u.lane k).map (fun x => (x.attempt, x.startAt, x.stateAt, x.ackSent)) = some (attempt, s.now, s.now, false)
  out : u.out = s.out ++ [Out.lane k 0xC1 (s.get (Obj.LAN_RATE_SET k) + 512)]
  others : s.onlyEntries u [Obj.LAN_STATE k, Obj.LAN_STATUS k, Obj.LAN_ACTIVE_MAP, Obj.LAN_RATE_NOW k]
  frame : u = { s with objs := u.objs, lan := u.lan, out := u.out }

/-- A lane cleared for an attempt, its rate shown. -/
def attemptShown (s : State) (k : Nat) : State := ((s.lanClear k).lanEnter k Sys2Proof.Machine.lanCap).put (Obj.LAN_RATE_NOW k) 4

theorem get_attemptShown (s : State) {k key : Nat} (hstate : key ≠ Obj.LAN_STATE k) (hstatus : key ≠ Obj.LAN_STATUS k)
    (hmap : key ≠ Obj.LAN_ACTIVE_MAP) (hrate : key ≠ Obj.LAN_RATE_NOW k) : (attemptShown s k).get key = s.get key := by
  rw [attemptShown, State.get_put_ne _ _ hrate, get_lanEnter _ hmap hstate, get_lanClear _ hstatus]

/-- A record at the start of an attempt. -/
def laneFresh (attempt now : Nat) (l : Lane) : Lane :=
  { l with attempt := attempt, startAt := now, capSeen := 0, capRun := 0, ackRun := 0, ackSent := false, ready := false, readyRun := 0,
           waiting := false, trial := false, answered := none }

theorem lanAttempt_eq (s : State) (k attempt : Nat) :
    s.lanAttempt k attempt = ((attemptShown s k).withLane k (laneFresh attempt s.now)).emit
      (.lane k 0xC1 (((attemptShown s k).withLane k (laneFresh attempt s.now)).get (Obj.LAN_RATE_SET k) + 512)) := rfl

theorem lanAttempt_shows {s : State} {k : Nat} {l : Lane} (h : s.lane k = some l) (attempt : Nat) :
    AttemptBegun s (s.lanAttempt k attempt) k attempt := by
  have hset : ((attemptShown s k).withLane k (laneFresh attempt s.now)).get (Obj.LAN_RATE_SET k) = s.get (Obj.LAN_RATE_SET k) :=
    get_attemptShown s (laneKey_ne (by decide)) (laneKey_ne (by decide)) (ne_mapKey (by decide)) (laneKey_ne (by decide))
  have hget : ∀ o key, (((attemptShown s k).withLane k (laneFresh attempt s.now)).emit o).get key = (attemptShown s k).get key :=
    fun _ _ => rfl
  have hlane : (attemptShown s k).lane k = some { l with stateAt := s.now } := lane_lanEnter (s := s.lanClear k) _ h
  rw [lanAttempt_eq, hset]
  refine ⟨?state, ?rate, ?lane, rfl, fun key hkey => ?others, rfl⟩
  case state =>
    rw [State.lanState, State.getN, hget, attemptShown, State.get_put_ne _ _ (laneKey_ne (by decide)), get_lanEnter_state]
    rfl
  case rate =>
    rw [hget]
    exact State.get_put_same ..
  case lane =>
    have hfresh := lane_withLane (laneFresh attempt s.now) hlane
    show (((attemptShown s k).withLane k (laneFresh attempt s.now)).lane k).map _ = _
    rw [hfresh]
    rfl
  case others =>
    simp only [List.mem_cons, List.not_mem_nil, or_false, not_or] at hkey
    obtain ⟨hstate, hstatus, hmap, hrate⟩ := hkey
    rw [hget, get_attemptShown s hstate hstatus hmap hrate]

/-- A failed first attempt is followed by the second (R272). -/
theorem lanFail_of_first {s : State} {k : Nat} {l : Lane} (h : s.lane k = some l) (hfirst : l.attempt = 1) (hlo : 1 ≤ s.lanState k)
    (hhi : s.lanState k ≤ 4) : s.lanFail k = s.lanAttempt k 2 := by
  have hin : ¬(s.lanState k = 0 ∨ 4 < s.lanState k) := by omega
  unfold State.lanFail
  rw [h]
  exact (if_neg hin).trans (if_pos hfirst)

/-- The command of a lane whose first attempt fails shows the second (R272). -/
theorem attempt_of_effect {s : State} {t k attempt : Nat} {l : Lane} {out : Host.Outcome State Fault Refusal}
    (heffect : out = .next (State.settle (s.land t) ((s.land t).lanAttempt k attempt))) (h : s.lane k = some l) :
    ∃ u, out = .next (State.settle (s.land t) u) ∧
      u.lanState k = Sys2Proof.Machine.lanCap ∧ u.get (Obj.LAN_RATE_NOW k) = 4 ∧
      ((u.lane k).map (fun x => (x.attempt, x.startAt, x.stateAt, x.ackSent)) = some (attempt, (s.land t).now, (s.land t).now, false)) ∧
      u.out = [Out.lane k 0xC1 (s.get (Obj.LAN_RATE_SET k) + 512)] ∧
      s.onlyEntries u [Obj.LAN_STATE k, Obj.LAN_STATUS k, Obj.LAN_ACTIVE_MAP, Obj.LAN_RATE_NOW k] ∧
      u = { s.land t with objs := u.objs, lan := u.lan, out := u.out } := by
  obtain ⟨hstate, hrate, hlane, hout, hothers, hframe⟩ := lanAttempt_shows (s := s.land t) h attempt
  exact ⟨_, heffect, hstate, hrate, hlane, hout, hothers, hframe⟩

/-! ## DOWN -/

/-- A lane that has failed, the failed state recorded (R272). -/
def downShown (s : State) (k : Nat) : State :=
  let s1 := ((s.lanClear k).lanEnter k lanDown).put (Obj.LAN_RATE_NOW k) 0xFF
  s1.put (Obj.LAN_STATUS k) (withField (s1.getN (Obj.LAN_STATUS k)) 7 4 (s.lanState k) : Nat)

/-- The failure counted and raised. -/
def downCounted (s : State) (k : Nat) : State := ((downShown s k).bump (Obj.LAN_TRAIN_FAIL k)).lanEvent k 2

theorem lanFail_of_second {s : State} {k : Nat} {l : Lane} (h : s.lane k = some l) (hsecond : l.attempt ≠ 1) (hlo : 1 ≤ s.lanState k)
    (hhi : s.lanState k ≤ 4) :
    s.lanFail k = (downCounted s k).siteOutcome 0x04 (lockSource k + 1) k (bytesOf (s.lanState k) 4) true := by
  have hin : ¬(s.lanState k = 0 ∨ 4 < s.lanState k) := by omega
  unfold State.lanFail
  rw [h]
  exact (if_neg hin).trans (if_neg hsecond)

theorem field_withField_state (v st : Nat) (h : st < 16) : field (withField v 7 4 st) 7 4 = st := by
  simp only [field, withField]
  omega

/-- What a lane shows that has failed (R272). -/
structure DownShown (s u : State) (k : Nat) : Prop where
  state : u.lanState k = lanDown
  rate : u.get (Obj.LAN_RATE_NOW k) = 0xFF
  count : u.get (Obj.LAN_TRAIN_FAIL k) = min (s.get (Obj.LAN_TRAIN_FAIL k) + 1) 0xFFFFFFFF
  event : u.get (Obj.LAN_LAST_EVENT k) = 2
  failed : field (u.getN (Obj.LAN_STATUS k)) 7 4 = s.lanState k
  pending : u.sourcePending (lockSource k + 1)
  others : s.entriesBut u [Obj.LAN_STATE k, Obj.LAN_STATUS k, Obj.LAN_ACTIVE_MAP, Obj.LAN_RATE_NOW k, Obj.LAN_TRAIN_FAIL k,
    Obj.LAN_LAST_EVENT k]
  frame : u = { s with objs := u.objs, lan := u.lan, icu := u.icu, log := u.log, flash := u.flash, dict := u.dict, out := u.out }

theorem get_downShown (s : State) {k key : Nat} (hstatus : key ≠ Obj.LAN_STATUS k) (hrate : key ≠ Obj.LAN_RATE_NOW k) :
    (downShown s k).get key = ((s.lanClear k).lanEnter k lanDown).get key := by
  unfold downShown
  extract_lets s1
  rw [State.get_put_ne _ _ hstatus]
  exact State.get_put_ne _ _ hrate

theorem downShown_frame (s : State) (k : Nat) : downShown s k = { s with objs := (downShown s k).objs, lan := (downShown s k).lan } := rfl

theorem downCounted_frame (s : State) (k : Nat) :
    downCounted s k = { s with objs := (downCounted s k).objs, lan := (downCounted s k).lan, icu := (downCounted s k).icu } := by
  have hframe := downShown_frame s k
  unfold downCounted
  generalize downShown s k = a at hframe ⊢
  rw [hframe]
  rfl

theorem failed_downShown (s : State) {k : Nat} (hhi : s.lanState k ≤ 4) :
    field ((downShown s k).getN (Obj.LAN_STATUS k)) 7 4 = s.lanState k := by
  unfold downShown
  extract_lets s1
  rw [State.getN, State.get_put_same, Int.toNat_natCast]
  exact field_withField_state _ _ (by omega)

theorem rate_downShown (s : State) (k : Nat) : (downShown s k).get (Obj.LAN_RATE_NOW k) = 0xFF := by
  unfold downShown
  extract_lets s1
  rw [State.get_put_ne _ _ (laneKey_ne (by decide))]
  exact State.get_put_same ..

theorem downCounted_shows (s : State) {k : Nat} (hk : k < 50) (hhi : s.lanState k ≤ 4) : DownShown s (downCounted s k) k := by
  have hevent : ∀ {key}, key ≠ Obj.LAN_LAST_EVENT k → key ≠ Obj.LAN_TRAIN_FAIL k →
      (downCounted s k).get key = (downShown s k).get key := fun hl hf => by
    rw [downCounted, get_lanEvent _ _ hl, State.get_bump, if_neg hf]
  refine ⟨?state, ?rate, ?count, get_lanEvent_same _ _ _, ?failed, sourcePending_lanEvent _ hk 2, fun key _ hkey => ?others, ?frame⟩
  case frame => rw [downCounted_frame]
  case state =>
    rw [State.lanState, State.getN, hevent (laneKey_ne (by decide)) (laneKey_ne (by decide)),
      get_downShown s (laneKey_ne (by decide)) (laneKey_ne (by decide)), get_lanEnter_state]
    rfl
  case rate =>
    rw [hevent (laneKey_ne (by decide)) (laneKey_ne (by decide)), rate_downShown]
  case count =>
    rw [downCounted, get_lanEvent _ _ (laneKey_ne (by decide)), State.get_bump, if_pos rfl,
      get_downShown s (laneKey_ne (by decide)) (laneKey_ne (by decide)), get_lanEnter _ (ne_mapKey (by decide)) (laneKey_ne (by decide)),
      get_lanClear _ (laneKey_ne (by decide))]
  case failed =>
    rw [State.getN, hevent (laneKey_ne (by decide)) (laneKey_ne (by decide))]
    exact failed_downShown s hhi
  case others =>
    simp only [List.mem_cons, List.not_mem_nil, or_false, not_or] at hkey
    obtain ⟨hstate, hstatus, hmap, hrate, hfail, hlast⟩ := hkey
    rw [hevent hlast hfail, get_downShown s hstatus hrate, get_lanEnter _ hmap hstate, get_lanClear _ hstatus]

/-- What a change of the logbook alone keeps of a failed lane. -/
theorem DownShown.of_logOnly {s a b : State} {k : Nat} (h : DownShown s a k) (hk : k < 50) (hlog : a.LogOnly b)
    (hpending : KeepsPending a b) : DownShown s b k := by
  have hkey : ∀ {base}, base + k < 0x300000 → isLogEntry (base + k) = false := fun hlt => isLogEntry_of_lt hlt
  have hget : ∀ {base}, base + k < 0x300000 → b.get (base + k) = a.get (base + k) := fun hlt => hlog.1 _ (hkey hlt)
  refine ⟨?state, ?rate, ?count, ?event, ?failed, sourcePending_kept (lockSource_shared hk).2 h.pending hpending,
    fun key hl hother => (hlog.1 key hl).trans (h.others key hl hother), ?frame⟩
  case state =>
    have hstate := h.state
    rw [State.lanState, State.getN] at hstate ⊢
    rw [← hstate, hget (by omega)]
  case rate => exact (hget (by omega)).trans h.rate
  case count => exact (hget (by omega)).trans h.count
  case event => exact (hget (by omega)).trans h.event
  case failed =>
    have hfailed := h.failed
    rw [State.getN] at hfailed ⊢
    rw [← hfailed, hget (by omega)]
  case frame =>
    have hframe := h.frame
    rw [hlog.2, hframe]

/-- A failed second attempt ends in DOWN (R272). -/
theorem lanFail_second_shows {s : State} {k : Nat} {l : Lane} (hk : k < 50) (h : s.lane k = some l) (hsecond : l.attempt ≠ 1)
    (hlo : 1 ≤ s.lanState k) (hhi : s.lanState k ≤ 4) : DownShown s (s.lanFail k) k := by
  rw [lanFail_of_second h hsecond hlo hhi]
  exact (downCounted_shows s hk hhi).of_logOnly hk (State.logOnly_siteOutcome _ 0x04 _ _ _ _ (by decide))
    (keepsPending_siteOutcome _ _ _ _ _ _)

end Sys2Proof.Proofs
end

section
/-!
PROOF. Capability sets, RATE_GO and block lock of a lane that comes up (O36; R273, R274, R276).
-/

namespace Sys2Proof.Proofs

open Sys2Proof Sys2Proof.Machine

/-! ## Capability sets -/

theorem lanCap_of_foul {s : State} {k d2 d3 : Nat} {l : Lane} (h : s.lane k = some l) (hfoul : 32 ≤ d2 ∨ 4 ≤ d3) :
    s.lanCap k d2 d3 = s.lanDiscard k := by
  unfold State.lanCap
  rw [h]
  exact if_pos hfoul

/-- A capability set noted in the record of the lane. -/
def capSeenBy (l : Lane) (d2 d3 run : Nat) : Lane :=
  { l with capSeen := d2 + 256 * d3, capRun := run, ackRun := if bitOf d3 0 then l.ackRun + 1 else 0 }

/-- A capability set noted and shown. -/
def capNoted (s : State) (k d2 d3 run : Nat) : State :=
  ((s.withLane k fun l => capSeenBy l d2 d3 run).put (Obj.LAN_PARTNER_CAPS k) d2).setBit (Obj.LAN_STATUS k) 6 (bitOf d3 1)

/-- The run of identical sets. -/
def capRunOf (l : Lane) (d2 d3 : Nat) : Nat := if l.capRun ≠ 0 && l.capSeen = d2 + 256 * d3 then l.capRun + 1 else 1

/-- The acknowledgement that a 16th identical set brings, or NO_COMMON. -/
def capAnswered (s : State) (k d2 run : Nat) (sent : Bool) : State :=
  if run < 16 then s else
    match s.lanCommon k d2 with
    | none => if s.bit (Obj.LAN_STATUS k) 2 then s else (s.setBit (Obj.LAN_STATUS k) 2 true).lanEvent k 7
    | some r =>
      if sent then s else
      ((s.withLane k fun l => { l with ackSent := true, rate := r }).setBit (Obj.LAN_STATUS k) 2 false).emit
        (.lane k 0xC1 (s.get (Obj.LAN_RATE_SET k) + 768))

/-- A lane that goes to its rate. -/
def rateGone (s : State) (k rate : Nat) : State :=
  ((s.emit (.lane k 0xC2 rate)).lanEnter k lanSwitch).put (Obj.LAN_RATE_NOW k) rate

/-- RATE_GO, where both sides have acknowledged. -/
def capFinished (s : State) (k : Nat) : State :=
  match s.lane k with
  | none => s
  | some l => if l.ackSent && 16 ≤ l.ackRun then rateGone s k l.rate else s

theorem lanCap_of_set {s : State} {k d2 d3 : Nat} {l : Lane} (h : s.lane k = some l)
    (hstate : s.lanState k = Sys2Proof.Machine.lanCap) (hd2 : d2 < 32) (hd3 : d3 < 4) :
    s.lanCap k d2 d3 =
      capFinished (capAnswered (capNoted s k d2 d3 (capRunOf l d2 d3)) k d2 (capRunOf l d2 d3) l.ackSent) k := by
  have hfair : ¬(32 ≤ d2 ∨ 4 ≤ d3) := by omega
  unfold State.lanCap
  rw [h]
  dsimp -zeta only
  rw [if_neg hfair, hstate]
  rfl

theorem get_capNoted (s : State) {k d2 d3 run key : Nat} (hcaps : key ≠ Obj.LAN_PARTNER_CAPS k) (hstatus : key ≠ Obj.LAN_STATUS k) :
    (capNoted s k d2 d3 run).get key = s.get key := by
  unfold capNoted
  rw [State.get_setBit, if_neg hstatus, State.get_put_ne _ _ hcaps]
  rfl

theorem caps_capNoted (s : State) (k d2 d3 run : Nat) : (capNoted s k d2 d3 run).get (Obj.LAN_PARTNER_CAPS k) = d2 := by
  unfold capNoted
  rw [State.get_setBit, if_neg (laneKey_ne (by decide)), State.get_put_same]

theorem bit_capNoted (s : State) (k d2 d3 run i : Nat) :
    (capNoted s k d2 d3 run).bit (Obj.LAN_STATUS k) i = if i = 6 then bitOf d3 1 else s.bit (Obj.LAN_STATUS k) i := by
  unfold capNoted
  rw [State.bit_setBit, if_pos rfl, State.bit_put, if_neg (laneKey_ne (by decide))]
  rfl

theorem lane_capNoted {s : State} {k d2 d3 run : Nat} {l : Lane} (h : s.lane k = some l) :
    (capNoted s k d2 d3 run).lane k = some (capSeenBy l d2 d3 run) := lane_withLane (s := s) _ h

theorem common_capNoted (s : State) (k d2 d3 run : Nat) : (capNoted s k d2 d3 run).lanCommon k d2 = s.lanCommon k d2 := by
  have hset : (capNoted s k d2 d3 run).getN (Obj.LAN_RATE_SET k) = s.getN (Obj.LAN_RATE_SET k) := by
    rw [State.getN, get_capNoted s (laneKey_ne (by decide)) (laneKey_ne (by decide)), State.getN]
  unfold State.lanCommon
  rw [hset]

theorem capNoted_frame (s : State) (k d2 d3 run : Nat) :
    capNoted s k d2 d3 run = { s with objs := (capNoted s k d2 d3 run).objs, lan := (capNoted s k d2 d3 run).lan } := rfl

theorem capFinished_of_waiting {s : State} {k : Nat} {l : Lane} (h : s.lane k = some l) (hwait : (l.ackSent && 16 ≤ l.ackRun) = false) :
    capFinished s k = s := by
  unfold capFinished
  rw [h]
  exact if_neg (by rw [hwait]; decide)

theorem cap_foul (s : State) (t k : Nat) (l : Lane) (d2 d3 : Nat) (hfoul : 32 ≤ d2 ∨ 4 ≤ d3) (h : s.lane k = some l) :
    ∃ u, exec (.laneCapReceive t k d2 d3) s = .next (State.settle (s.land t) u) ∧
      u.get (Obj.LAN_SH_ERRORS k) = min (s.get (Obj.LAN_SH_ERRORS k) + 1) 0xFFFFFFFF ∧
      s.onlyEntries u [Obj.LAN_SH_ERRORS k] ∧ u = { s.land t with objs := u.objs } := by
  refine ⟨(s.land t).lanCap k d2 d3, rfl, ?_⟩
  rw [lanCap_of_foul (s := s.land t) h hfoul, State.lanDiscard]
  refine ⟨?_, fun key hkey => ?_, rfl⟩
  · rw [State.get_bump, if_pos rfl, State.get_land]
  · rw [State.get_bump, if_neg (List.ne_of_not_mem_cons hkey), State.get_land]

theorem cap_acknowledged (s : State) (t k : Nat) (l : Lane) (d2 d3 r : Nat) (h : s.lane k = some l)
    (hstate : s.lanState k = Sys2Proof.Machine.lanCap) (hd2 : d2 < 32) (hd3 : d3 < 4) (hseen : l.capSeen = d2 + 256 * d3)
    (hrun : 15 ≤ l.capRun) (hack : bitOf d3 0 = false) (hsent : l.ackSent = false) (hcommon : s.lanCommon k d2 = some r) :
    ∃ u, exec (.laneCapReceive t k d2 d3) s = .next (State.settle (s.land t) u) ∧
      ((u.lane k).map (fun x => (x.ackSent, x.rate, x.capRun)) = some (true, r, l.capRun + 1)) ∧
      u.out = [Out.lane k 0xC1 (s.get (Obj.LAN_RATE_SET k) + 768)] ∧ u.get (Obj.LAN_PARTNER_CAPS k) = d2 ∧
      u.bit (Obj.LAN_STATUS k) 6 = bitOf d3 1 ∧ u.bit (Obj.LAN_STATUS k) 2 = false ∧
      s.onlyEntries u [Obj.LAN_PARTNER_CAPS k, Obj.LAN_STATUS k] ∧
      u = { s.land t with objs := u.objs, lan := u.lan, out := u.out } := by
  have hrunOf : capRunOf l d2 d3 = l.capRun + 1 := by
    have hzero : l.capRun ≠ 0 := by omega
    simp [capRunOf, hzero, hseen]
  let a := capNoted (s.land t) k d2 d3 (l.capRun + 1)
  let b := (a.withLane k fun l => { l with ackSent := true, rate := r }).setBit (Obj.LAN_STATUS k) 2 false
  have hanswered : capAnswered a k d2 (l.capRun + 1) false = b.emit (.lane k 0xC1 (s.get (Obj.LAN_RATE_SET k) + 768)) := by
    have hset : a.get (Obj.LAN_RATE_SET k) = s.get (Obj.LAN_RATE_SET k) :=
      get_capNoted (s.land t) (laneKey_ne (by decide)) (laneKey_ne (by decide))
    have hsome : a.lanCommon k d2 = some r := (common_capNoted (s.land t) ..).trans hcommon
    rw [capAnswered, if_neg (by omega), hsome, hset]
    rfl
  have hlane : b.lane k = some { capSeenBy l d2 d3 (l.capRun + 1) with ackSent := true, rate := r } :=
    lane_withLane _ (lane_capNoted (s := s.land t) h)
  have hfinished : capFinished (b.emit (.lane k 0xC1 (s.get (Obj.LAN_RATE_SET k) + 768))) k = b.emit _ :=
    capFinished_of_waiting hlane (by simp [capSeenBy, hack])
  have hget : ∀ key, key ≠ Obj.LAN_STATUS k → b.get key = a.get key := fun key hkey => by
    show ((a.withLane k _).setBit (Obj.LAN_STATUS k) 2 false).get key = a.get key
    rw [State.get_setBit, if_neg hkey]
    rfl
  have hbit : ∀ i, b.bit (Obj.LAN_STATUS k) i = if i = 2 then false else a.bit (Obj.LAN_STATUS k) i := fun i =>
    (State.bit_setBit ..).trans (if_pos rfl)
  refine ⟨(s.land t).lanCap k d2 d3, rfl, ?_⟩
  rw [lanCap_of_set (s := s.land t) h hstate hd2 hd3, hrunOf, hsent, hanswered, hfinished]
  refine ⟨?lane, rfl, ?caps, ?raw, ?none, fun key hkey => ?others, rfl⟩
  case lane =>
    show (b.lane k).map _ = _
    rw [hlane]
    rfl
  case caps => exact (hget _ (laneKey_ne (by decide))).trans (caps_capNoted ..)
  case raw => exact (hbit 6).trans ((if_neg (by decide)).trans ((bit_capNoted ..).trans (if_pos rfl)))
  case none => exact (hbit 2).trans (if_pos rfl)
  case others =>
    simp only [List.mem_cons, List.not_mem_nil, or_false, not_or] at hkey
    exact (hget key hkey.2).trans (get_capNoted (s.land t) hkey.1 hkey.2)

theorem cap_without_common (s : State) (t k : Nat) (l : Lane) (d2 d3 : Nat) (hk : k < 50) (h : s.lane k = some l)
    (hstate : s.lanState k = Sys2Proof.Machine.lanCap) (hd2 : d2 < 32) (hd3 : d3 < 4) (hseen : l.capSeen = d2 + 256 * d3)
    (hrun : 15 ≤ l.capRun) (hsent : l.ackSent = false) (hcommon : s.lanCommon k d2 = none)
    (hunset : s.bit (Obj.LAN_STATUS k) 2 = false) :
    ∃ u, exec (.laneCapReceive t k d2 d3) s = .next (State.settle (s.land t) u) ∧
      (u.lane k).map (·.ackSent) = some false ∧ u.bit (Obj.LAN_STATUS k) 2 = true ∧ u.get (Obj.LAN_LAST_EVENT k) = 7 ∧
      u.sourcePending (lockSource k + 1) ∧
      s.onlyEntries u [Obj.LAN_PARTNER_CAPS k, Obj.LAN_STATUS k, Obj.LAN_LAST_EVENT k] ∧
      u = { s.land t with objs := u.objs, lan := u.lan, icu := u.icu } := by
  have hrunOf : capRunOf l d2 d3 = l.capRun + 1 := by
    have hzero : l.capRun ≠ 0 := by omega
    simp [capRunOf, hzero, hseen]
  let a := capNoted (s.land t) k d2 d3 (l.capRun + 1)
  let b := a.setBit (Obj.LAN_STATUS k) 2 true
  have hanswered : capAnswered a k d2 (l.capRun + 1) false = b.lanEvent k 7 := by
    have hnone : a.lanCommon k d2 = none := (common_capNoted (s.land t) ..).trans hcommon
    have hclear : a.bit (Obj.LAN_STATUS k) 2 = false := (bit_capNoted (s.land t) ..).trans ((if_neg (by decide)).trans hunset)
    rw [capAnswered, if_neg (by omega), hnone]
    exact if_neg (by rw [hclear]; decide)
  have hlane : (b.lanEvent k 7).lane k = some (capSeenBy l d2 d3 (l.capRun + 1)) := lane_capNoted (s := s.land t) h
  have hfinished : capFinished (b.lanEvent k 7) k = b.lanEvent k 7 := capFinished_of_waiting hlane (by simp [capSeenBy, hsent])
  have hgetB : ∀ key, key ≠ Obj.LAN_STATUS k → b.get key = a.get key := fun key hkey => by
    show (a.setBit (Obj.LAN_STATUS k) 2 true).get key = a.get key
    rw [State.get_setBit, if_neg hkey]
  refine ⟨(s.land t).lanCap k d2 d3, rfl, ?_⟩
  rw [lanCap_of_set (s := s.land t) h hstate hd2 hd3, hrunOf, hsent, hanswered, hfinished]
  refine ⟨?lane, ?none, get_lanEvent_same .., sourcePending_lanEvent b hk 7, fun key hkey => ?others, rfl⟩
  case lane =>
    rw [hlane]
    exact congrArg some hsent
  case none =>
    rw [bit_congr (get_lanEvent b 7 (laneKey_ne (by decide)))]
    exact (State.bit_setBit ..).trans (by simp)
  case others =>
    simp only [List.mem_cons, List.not_mem_nil, or_false, not_or] at hkey
    obtain ⟨hcaps, hstatus, hlast⟩ := hkey
    exact (get_lanEvent b 7 hlast).trans ((hgetB key hstatus).trans (get_capNoted (s.land t) hcaps hstatus))

theorem cap_sixteenth_ack (s : State) (t k : Nat) (l : Lane) (d2 d3 r : Nat) (h : s.lane k = some l)
    (hstate : s.lanState k = Sys2Proof.Machine.lanCap) (hd2 : d2 < 32) (hd3 : d3 < 4) (hack : bitOf d3 0 = true)
    (hrun : 15 ≤ l.ackRun) (hsent : l.ackSent = true) (hcommon : s.lanCommon k d2 = some r) :
    ∃ u, exec (.laneCapReceive t k d2 d3) s = .next (State.settle (s.land t) u) ∧
      u.lanState k = lanSwitch ∧ u.get (Obj.LAN_RATE_NOW k) = l.rate ∧ u.out = [Out.lane k 0xC2 l.rate] ∧
      s.onlyEntries u [Obj.LAN_STATE k, Obj.LAN_STATUS k, Obj.LAN_ACTIVE_MAP, Obj.LAN_RATE_NOW k, Obj.LAN_PARTNER_CAPS k] ∧
      u = { s.land t with objs := u.objs, lan := u.lan, out := u.out } := by
  let a := capNoted (s.land t) k d2 d3 (capRunOf l d2 d3)
  have hanswered : capAnswered a k d2 (capRunOf l d2 d3) true = a := by
    have hsome : a.lanCommon k d2 = some r := (common_capNoted (s.land t) ..).trans hcommon
    rw [capAnswered, hsome]
    split
    · rfl
    · rfl
  have hfinished : capFinished a k = rateGone a k l.rate := by
    have hgo : ((capSeenBy l d2 d3 (capRunOf l d2 d3)).ackSent && 16 ≤ (capSeenBy l d2 d3 (capRunOf l d2 d3)).ackRun) = true := by
      simp [capSeenBy, hack, hsent, hrun]
    unfold capFinished
    rw [lane_capNoted (s := s.land t) h]
    exact if_pos hgo
  have hget : ∀ key, key ≠ Obj.LAN_RATE_NOW k →
      (rateGone a k l.rate).get key = ((a.emit (.lane k 0xC2 l.rate)).lanEnter k lanSwitch).get key := fun key hkey =>
    State.get_put_ne _ _ hkey
  refine ⟨(s.land t).lanCap k d2 d3, rfl, ?_⟩
  rw [lanCap_of_set (s := s.land t) h hstate hd2 hd3, hsent, hanswered, hfinished]
  refine ⟨?state, State.get_put_same .., rfl, fun key hkey => ?others, rfl⟩
  case state =>
    rw [State.lanState, State.getN, hget _ (laneKey_ne (by decide)), get_lanEnter_state]
    rfl
  case others =>
    simp only [List.mem_cons, List.not_mem_nil, or_false, not_or] at hkey
    obtain ⟨hst, hstatus, hmap, hrate, hcaps⟩ := hkey
    rw [hget key hrate, get_lanEnter _ hmap hst]
    exact get_capNoted (s.land t) hcaps hstatus

/-! ## RATE_GO -/

theorem rateGo_expected (s : State) (t k : Nat) (l : Lane) (h : s.lane k = some l)
    (hstate : s.lanState k = Sys2Proof.Machine.lanCap ∧ l.ackSent = true ∨ s.lanState k = lanSwitch) (hrate : l.rate < 8) :
    ∃ u, exec (.laneRateGoReceive t k l.rate) s = .next (State.settle (s.land t) u) ∧ u = s.land t := by
  refine ⟨(s.land t).lanRateGo k l.rate, rfl, ?_⟩
  have hstate' : (s.land t).lanState k = Sys2Proof.Machine.lanCap ∧ l.ackSent = true ∨ (s.land t).lanState k = lanSwitch := hstate
  unfold State.lanRateGo
  rw [show (s.land t).lane k = some l from h]
  dsimp -zeta only
  rw [if_neg (by omega)]
  rcases hstate' with ⟨hcap, hsent⟩ | hswitch
  · rw [hcap, hsent]
    simp
  · rw [hswitch]
    simp

/-- A RATE_GO set with another rate fails the attempt in every state of a bring-up (R272, R273). -/
theorem lanRateGo_of_other {s : State} {k d2 : Nat} {l : Lane} (h : s.lane k = some l) (hd2 : d2 < 8) (hother : d2 ≠ l.rate) :
    s.lanRateGo k d2 = s.lanFail k := by
  unfold State.lanRateGo
  rw [h]
  dsimp -zeta only
  rw [if_neg (by omega)]
  by_cases hcap : s.lanState k = Sys2Proof.Machine.lanCap
  · rw [if_pos hcap, if_neg (by simp [hother])]
  · rw [if_neg hcap]
    by_cases hswitch : s.lanState k = lanSwitch
    · rw [if_pos hswitch, if_neg hother]
    · rw [if_neg hswitch]

/-! ## Changes of a lane and of what it shows -/

/-- Nothing but the entries and the records of the lanes changes. -/
def LaneOnly (s u : State) : Prop := u = { s with objs := u.objs, lan := u.lan }

theorem LaneOnly.trans {a b c : State} (hab : LaneOnly a b) (hbc : LaneOnly b c) : LaneOnly a c := by
  unfold LaneOnly at hab hbc ⊢
  rw [hbc, hab]

theorem laneOnly_put (s : State) (key : Nat) (v : Int) : LaneOnly s (s.put key v) := rfl

theorem laneOnly_setBit (s : State) (key i : Nat) (v : Bool) : LaneOnly s (s.setBit key i v) := rfl

theorem laneOnly_bump (s : State) (key : Nat) : LaneOnly s (s.bump key) := rfl

theorem laneOnly_withLane (s : State) (k : Nat) (f : Lane → Lane) : LaneOnly s (s.withLane k f) := rfl

theorem laneOnly_lanEnter (s : State) (k st : Nat) : LaneOnly s (s.lanEnter k st) := lanEnter_frame s k st

/-! ## Block lock in RATE_SWITCH -/

/-- The record of a lane at the start of training. -/
def laneUntrained (l : Lane) : Lane :=
  { l with answered := none, seq := 0, waiting := false, move := 0, base := 0, trial := false, made := false, flat := 0, ready := false,
           readyRun := 0 }

/-- The initial taps shown at block lock. -/
def tapsShown (s : State) (k : Nat) : State :=
  ((s.setBit (Obj.LAN_STATUS k) 0 true).put (Obj.LAN_TX_TAPS k) ((s.setBit (Obj.LAN_STATUS k) 0 true).get (Obj.LAN_TX_INIT k))).put
    (Obj.LAN_REQ_COUNT k) 0

/-- TRAIN as block lock begins it (R276). -/
def trainBegun (s : State) (k : Nat) : State :=
  (((tapsShown s k).lanEnter k lanTrain).setBit (Obj.LAN_STATUS k) 11 false).withLane k laneUntrained

theorem lanLock_of_switch {s : State} {k : Nat} (hk : k < 50) (hstate : s.lanState k = lanSwitch) : s.lanLock k = trainBegun s k := by
  have hopen : ¬(s.lanState k = lanDisabled ∨ s.lanState k = lanDown ∨ 50 ≤ k) := by
    rw [hstate]
    rintro (h | h | h)
    · cases h
    · cases h
    · omega
  exact (if_neg hopen).trans (if_pos hstate)

theorem get_trainBegun (s : State) {k key : Nat} (hstatus : key ≠ Obj.LAN_STATUS k) (hmap : key ≠ Obj.LAN_ACTIVE_MAP)
    (hstate : key ≠ Obj.LAN_STATE k) : (trainBegun s k).get key = (tapsShown s k).get key := by
  show (((tapsShown s k).lanEnter k lanTrain).setBit (Obj.LAN_STATUS k) 11 false).get key = _
  rw [State.get_setBit, if_neg hstatus, get_lanEnter _ hmap hstate]

theorem get_tapsShown (s : State) {k key : Nat} (hstatus : key ≠ Obj.LAN_STATUS k) (htaps : key ≠ Obj.LAN_TX_TAPS k)
    (hcount : key ≠ Obj.LAN_REQ_COUNT k) : (tapsShown s k).get key = s.get key := by
  rw [tapsShown, State.get_put_ne _ _ hcount, State.get_put_ne _ _ htaps, State.get_setBit, if_neg hstatus]

theorem lanState_trainBegun (s : State) (k : Nat) : (trainBegun s k).lanState k = lanTrain := by
  show ((((tapsShown s k).lanEnter k lanTrain).setBit (Obj.LAN_STATUS k) 11 false).get (Obj.LAN_STATE k)).toNat = lanTrain
  rw [State.get_setBit, if_neg (laneKey_ne (by decide)), get_lanEnter_state]
  rfl

theorem lane_tapsShown (s : State) (k : Nat) : (tapsShown s k).lane k = s.lane k := rfl

theorem lane_trainBegun {s : State} {k : Nat} {l : Lane} (h : s.lane k = some l) :
    (trainBegun s k).lane k = some (laneUntrained { l with stateAt := (tapsShown s k).now }) := by
  have hentered := lane_lanEnter (s := tapsShown s k) (k := k) lanTrain ((lane_tapsShown s k).trans h)
  exact lane_withLane (s := ((tapsShown s k).lanEnter k lanTrain).setBit (Obj.LAN_STATUS k) 11 false) _ hentered

theorem lock_trainBegun (s : State) (k : Nat) : (trainBegun s k).bit (Obj.LAN_STATUS k) 0 = true := by
  have hentered : ((tapsShown s k).lanEnter k lanTrain).bit (Obj.LAN_STATUS k) 0 = true := by
    rw [bit_congr (get_lanEnter _ (ne_mapKey (by decide)) (laneKey_ne (by decide))), tapsShown, State.bit_put,
      if_neg (laneKey_ne (by decide)), State.bit_put, if_neg (laneKey_ne (by decide)), State.bit_setBit, if_pos rfl, if_pos rfl]
  have hset : (trainBegun s k).bit (Obj.LAN_STATUS k) 0 =
      (((tapsShown s k).lanEnter k lanTrain).setBit (Obj.LAN_STATUS k) 11 false).bit (Obj.LAN_STATUS k) 0 := rfl
  rw [hset, State.bit_setBit, if_pos rfl, if_neg (by decide), hentered]

theorem taps_trainBegun (s : State) (k : Nat) : (trainBegun s k).get (Obj.LAN_TX_TAPS k) = s.get (Obj.LAN_TX_INIT k) := by
  rw [get_trainBegun _ (laneKey_ne (by decide)) (ne_mapKey (by decide)) (laneKey_ne (by decide)), tapsShown,
    State.get_put_ne _ _ (laneKey_ne (by decide)), State.get_put_same, State.get_setBit, if_neg (laneKey_ne (by decide))]

theorem requests_trainBegun (s : State) (k : Nat) : (trainBegun s k).get (Obj.LAN_REQ_COUNT k) = 0 := by
  rw [get_trainBegun _ (laneKey_ne (by decide)) (ne_mapKey (by decide)) (laneKey_ne (by decide))]
  exact State.get_put_same ..

theorem laneOnly_tapsShown (s : State) (k : Nat) : LaneOnly s (tapsShown s k) :=
  ((laneOnly_setBit ..).trans (laneOnly_put ..)).trans (laneOnly_put ..)

theorem laneOnly_trainBegun (s : State) (k : Nat) : LaneOnly s (trainBegun s k) :=
  (((laneOnly_tapsShown s k).trans (laneOnly_lanEnter ..)).trans (laneOnly_setBit ..)).trans (laneOnly_withLane ..)

theorem blockLock_effect (s : State) (t k : Nat) (hk : k < 50) (hstate : s.lanState k = lanSwitch) :
    exec (.laneBlockLock t k) s = .next (State.settle (s.land t) (trainBegun (s.land t) k)) := by
  have hdown : (trainBegun (s.land t) k).lanUp k = false := by
    rw [State.lanUp, lanState_trainBegun]
    simp
  show execLaneBlockLock t k s = _
  refine done_of_effect ?_
  rw [lanLock_of_switch (s := s.land t) hk hstate]
  dsimp only
  rw [hdown, Bool.and_false]
  rfl

theorem blockLock_trains (s : State) (t k : Nat) (l : Lane) (hk : k < 50) (h : s.lane k = some l) (hstate : s.lanState k = lanSwitch) :
    ∃ u, exec (.laneBlockLock t k) s = .next (State.settle (s.land t) u) ∧
      u.lanState k = lanTrain ∧ u.get (Obj.LAN_TX_TAPS k) = s.get (Obj.LAN_TX_INIT k) ∧ u.get (Obj.LAN_REQ_COUNT k) = 0 ∧
      u.bit (Obj.LAN_STATUS k) 0 = true ∧
      ((u.lane k).map (fun x => (x.answered, x.ready, x.waiting, x.flat, x.move)) = some (none, false, false, 0, 0)) ∧
      s.onlyEntries u [Obj.LAN_STATE k, Obj.LAN_STATUS k, Obj.LAN_ACTIVE_MAP, Obj.LAN_TX_TAPS k, Obj.LAN_REQ_COUNT k] ∧
      u = { s.land t with objs := u.objs, lan := u.lan } := by
  have hlane : (s.land t).lane k = some l := h
  refine ⟨trainBegun (s.land t) k, blockLock_effect s t k hk hstate, lanState_trainBegun _ k, taps_trainBegun _ k,
    requests_trainBegun _ k, lock_trainBegun _ k, ?lane, fun key hkey => ?others, laneOnly_trainBegun _ k⟩
  case lane =>
    rw [lane_trainBegun hlane]
    rfl
  case others =>
    simp only [List.mem_cons, List.not_mem_nil, or_false, not_or] at hkey
    obtain ⟨hst, hstatus, hmap, htaps, hcount⟩ := hkey
    rw [get_trainBegun _ hstatus hmap hst, get_tapsShown _ hstatus htaps hcount, State.get_land]

end Sys2Proof.Proofs
end

section
/-!
PROOF. Timeouts of a bring-up, and the training of a lane's transmitter and receiver (O36; R272, R277, R278).
-/

namespace Sys2Proof.Proofs

open Sys2Proof Sys2Proof.Machine

/-! ## Timeouts -/

theorem laneFor_of_passed {s : State} {k ms : Nat} {l : Lane} (h : s.lane k = some l) (hpast : l.stateAt + ms * 1000000 ≤ s.now) :
    s.laneFor k ms = true := by
  unfold State.laneFor
  rw [h, Option.any_some]
  exact decide_eq_true hpast

theorem stateTimeout_effect {s : State} {t k ms : Nat} {l : Lane} (h : s.lane k = some l) (hhi : s.lanState k ≤ 4)
    (hlimit : laneLimit (s.lanState k) = some ms) (hpast : l.stateAt + ms * 1000000 ≤ (s.land t).now) :
    exec (.laneStateTimeout t k) s = .next (State.settle (s.land t) ((s.land t).lanFail k)) := by
  have hfor : (s.land t).laneFor k ms = true := laneFor_of_passed (s := s.land t) h hpast
  have hfail : (s.land t).lanTimeout k = (s.land t).lanFail k := by
    refine if_neg fun hrelock => ?_
    have : s.lanState k = 6 := hrelock
    omega
  have hlimit' : laneLimit ((s.land t).lanState k) = some ms := hlimit
  show execLaneStateTimeout t k s = _
  refine done_of_effect ?_
  rw [hlimit']
  dsimp only
  rw [hfor, if_pos rfl, hfail]

theorem first_timeout (s : State) (t k : Nat) (l : Lane) (ms : Nat) (h : s.lane k = some l) (hfirst : l.attempt = 1)
    (hlo : 1 ≤ s.lanState k) (hhi : s.lanState k ≤ 4) (hlimit : laneLimit (s.lanState k) = some ms)
    (hpast : l.stateAt + ms * 1000000 ≤ (s.land t).now) :
    exec (.laneStateTimeout t k) s = .next (State.settle (s.land t) ((s.land t).lanAttempt k 2)) := by
  rw [stateTimeout_effect h hhi hlimit hpast, lanFail_of_first (s := s.land t) h hfirst hlo hhi]

theorem second_timeout (s : State) (t k : Nat) (l : Lane) (ms : Nat) (hk : k < 50) (h : s.lane k = some l) (hsecond : l.attempt ≠ 1)
    (hlo : 1 ≤ s.lanState k) (hhi : s.lanState k ≤ 4) (hlimit : laneLimit (s.lanState k) = some ms)
    (hpast : l.stateAt + ms * 1000000 ≤ (s.land t).now) :
    ∃ u, exec (.laneStateTimeout t k) s = .next (State.settle (s.land t) u) ∧
      u.lanState k = lanDown ∧ u.get (Obj.LAN_RATE_NOW k) = 0xFF ∧
      u.get (Obj.LAN_TRAIN_FAIL k) = min (s.get (Obj.LAN_TRAIN_FAIL k) + 1) 0xFFFFFFFF ∧ u.get (Obj.LAN_LAST_EVENT k) = 2 ∧
      field (u.getN (Obj.LAN_STATUS k)) 7 4 = s.lanState k ∧ u.sourcePending (lockSource k + 1) ∧
      s.entriesBut u [Obj.LAN_STATE k, Obj.LAN_STATUS k, Obj.LAN_ACTIVE_MAP, Obj.LAN_RATE_NOW k, Obj.LAN_TRAIN_FAIL k,
        Obj.LAN_LAST_EVENT k] ∧
      u = { s.land t with objs := u.objs, lan := u.lan, icu := u.icu, log := u.log, flash := u.flash, dict := u.dict, out := u.out } := by
  obtain ⟨hstate, hrate, hcount, hevent, hfailed, hpending, hothers, hframe⟩ :=
    lanFail_second_shows (s := s.land t) hk h hsecond hlo hhi
  exact ⟨_, stateTimeout_effect h hhi hlimit hpast, hstate, hrate, hcount, hevent, hfailed, hpending, hothers, hframe⟩

theorem downRetry_effect {s : State} {t k : Nat} {l : Lane} (h : s.lane k = some l) (hstate : s.lanState k = lanDown)
    (hpast : l.stateAt + 100000000 ≤ (s.land t).now) :
    exec (.laneDownRetry t k) s = .next (State.settle (s.land t) ((s.land t).lanAttempt k 1)) := by
  have hfor : (s.land t).laneFor k 100 = true := laneFor_of_passed (s := s.land t) h hpast
  show execLaneDownRetry t k s = _
  refine done_of_effect ?_
  rw [hfor, if_pos rfl]
  exact if_pos hstate

theorem rateGo_of_other {s : State} {t k d2 : Nat} {l : Lane} (h : s.lane k = some l) (hlo : 1 ≤ s.lanState k)
    (hhi : s.lanState k ≤ 4) (hd2 : d2 < 8) (hother : d2 ≠ l.rate) (hfirst : l.attempt = 1) :
    exec (.laneRateGoReceive t k d2) s = .next (State.settle (s.land t) ((s.land t).lanAttempt k 2)) := by
  have hfail := lanRateGo_of_other (s := s.land t) h hd2 hother
  have hattempt := lanFail_of_first (s := s.land t) h hfirst hlo hhi
  have heffect : exec (.laneRateGoReceive t k d2) s = .next (State.settle (s.land t) ((s.land t).lanRateGo k d2)) := rfl
  rw [heffect, hfail, hattempt]

/-! ## Tap requests -/

/-- A new tap request applied, kept as answered and answered. -/
def tapApplied (s : State) (k d2 seq : Nat) : State :=
  let (taps, st) := tapApply d2 (s.getN (Obj.LAN_TX_TAPS k)) (s.getN (Obj.LAN_TX_INIT k))
  ((s.put (Obj.LAN_TX_TAPS k) taps).withLane k fun l => { l with answered := some (seq, st) }).emit
    (.lane k 0xC4 (st + 256 * seq : Nat))

theorem tapApplied_eq {s : State} {k d2 seq st : Nat} {taps : Int}
    (h : tapApply d2 (s.getN (Obj.LAN_TX_TAPS k)) (s.getN (Obj.LAN_TX_INIT k)) = (taps, st)) :
    tapApplied s k d2 seq = ((s.put (Obj.LAN_TX_TAPS k) taps).withLane k fun l => { l with answered := some (seq, st) }).emit
      (.lane k 0xC4 (st + 256 * seq : Nat)) := by
  rw [tapApplied, h]

/-- The answer to a tap request: an answered one is answered again. -/
def tapAnswered (s : State) (k d2 seq : Nat) (l : Lane) : State :=
  match l.answered with
  | some (q, st) => if q = seq then s.emit (.lane k 0xC4 (st + 256 * seq : Nat)) else tapApplied s k d2 seq
  | none => tapApplied s k d2 seq

/-- The number of sets with RX_READY of both sides in a row. -/
def readyRunOf (d2 : Nat) (l : Lane) : Nat := if bitOf d2 6 && l.ready then l.readyRun + 1 else 0

/-- The run noted, which ends training at 32. -/
def readyNoted (s : State) (k run : Nat) : State :=
  if 32 ≤ run then (s.withLane k fun l => { l with readyRun := run }).lanEnter k lanVerify
  else s.withLane k fun l => { l with readyRun := run }

theorem lanTapReq_of_train {s : State} {k d2 seq : Nat} {l : Lane} (h : s.lane k = some l) (hstate : s.lanState k = lanTrain)
    (hbit : bitOf d2 7 = false) : s.lanTapReq k d2 seq = readyNoted (tapAnswered s k d2 seq l) k (readyRunOf d2 l) := by
  unfold State.lanTapReq tapAnswered tapApplied
  generalize tapApply d2 (s.getN (Obj.LAN_TX_TAPS k)) (s.getN (Obj.LAN_TX_INIT k)) = a
  rw [h]
  dsimp -zeta only
  rw [hbit, if_neg (by decide), if_neg (not_not.mpr hstate)]
  cases l.answered with
  | none => rfl
  | some p => rfl

theorem tapAnswered_of_new {s : State} {k d2 seq : Nat} {l : Lane} (hnew : l.answered.map (·.1) ≠ some seq) :
    tapAnswered s k d2 seq l = tapApplied s k d2 seq := by
  unfold tapAnswered
  split
  · next q st hq =>
    rw [hq] at hnew
    exact if_neg fun hsame => hnew (congrArg some hsame)
  · rfl

theorem readyNoted_of_zero (s : State) (k : Nat) : readyNoted s k 0 = s.withLane k fun l => { l with readyRun := 0 } :=
  if_neg (by decide)

theorem readyRunOf_of_unready {d2 : Nat} (l : Lane) (hready : bitOf d2 6 = false) : readyRunOf d2 l = 0 := by
  rw [readyRunOf, hready]
  rfl

theorem tapReq_new (s : State) (t k : Nat) (l : Lane) (d2 seq : Nat) (h : s.lane k = some l) (hstate : s.lanState k = lanTrain)
    (hbit : bitOf d2 7 = false) (hready : bitOf d2 6 = false) (hnew : l.answered.map (·.1) ≠ some seq) :
    ∃ u, exec (.laneTapReqReceive t k d2 seq) s = .next (State.settle (s.land t) u) ∧
      u.get (Obj.LAN_TX_TAPS k) = (tapApply d2 (s.getN (Obj.LAN_TX_TAPS k)) (s.getN (Obj.LAN_TX_INIT k))).1 ∧
      (u.lane k).map (·.answered) =
        some (some (seq, (tapApply d2 (s.getN (Obj.LAN_TX_TAPS k)) (s.getN (Obj.LAN_TX_INIT k))).2)) ∧
      u.out = [Out.lane k 0xC4 ((tapApply d2 (s.getN (Obj.LAN_TX_TAPS k)) (s.getN (Obj.LAN_TX_INIT k))).2 + 256 * seq : Nat)] ∧
      s.onlyEntries u [Obj.LAN_TX_TAPS k] ∧ u = { s.land t with objs := u.objs, lan := u.lan, out := u.out } := by
  have heffect : exec (.laneTapReqReceive t k d2 seq) s = .next (State.settle (s.land t) ((s.land t).lanTapReq k d2 seq)) := rfl
  rw [lanTapReq_of_train (s := s.land t) h hstate hbit, readyRunOf_of_unready l hready, readyNoted_of_zero,
    tapAnswered_of_new hnew] at heffect
  refine ⟨_, heffect, ?_⟩
  obtain ⟨⟨taps, st⟩, ha⟩ : ∃ a, tapApply d2 (s.getN (Obj.LAN_TX_TAPS k)) (s.getN (Obj.LAN_TX_INIT k)) = a := ⟨_, rfl⟩
  rw [ha, tapApplied_eq (s := s.land t) ha]
  have hanswered := lane_withLane (s := (s.land t).put (Obj.LAN_TX_TAPS k) taps) (fun x => { x with answered := some (seq, st) }) h
  refine ⟨State.get_put_same .., ?lane, rfl, fun key hkey => State.get_put_ne _ _ (List.ne_of_not_mem_cons hkey), rfl⟩
  exact (congrArg (Option.map _) (lane_withLane (fun x => { x with readyRun := 0 }) hanswered)).trans rfl

theorem tapReq_repeated (s : State) (t k : Nat) (l : Lane) (d2 seq st : Nat) (h : s.lane k = some l)
    (hstate : s.lanState k = lanTrain) (hbit : bitOf d2 7 = false) (hready : bitOf d2 6 = false)
    (hanswered : l.answered = some (seq, st)) :
    ∃ u, exec (.laneTapReqReceive t k d2 seq) s = .next (State.settle (s.land t) u) ∧
      u.out = [Out.lane k 0xC4 (st + 256 * seq : Nat)] ∧ s.onlyEntries u [] ∧
      u = { s.land t with objs := u.objs, lan := u.lan, out := u.out } := by
  have hagain : tapAnswered (s.land t) k d2 seq l = (s.land t).emit (.lane k 0xC4 (st + 256 * seq : Nat)) := by
    rw [tapAnswered, hanswered]
    exact if_pos rfl
  refine ⟨(s.land t).lanTapReq k d2 seq, rfl, ?_⟩
  rw [lanTapReq_of_train (s := s.land t) h hstate hbit, readyRunOf_of_unready l hready, readyNoted_of_zero, hagain]
  exact ⟨rfl, fun _ _ => rfl, rfl⟩

/-- What the answer to a tap request changes. -/
structure TapChange (s u : State) (k : Nat) : Prop where
  others : ∀ key, key ≠ Obj.LAN_TX_TAPS k → u.get key = s.get key
  frame : u = { s with objs := u.objs, lan := u.lan, out := u.out }

theorem tapApplied_change (s : State) (k d2 seq : Nat) : TapChange s (tapApplied s k d2 seq) k := by
  obtain ⟨⟨taps, st⟩, ha⟩ : ∃ a, tapApply d2 (s.getN (Obj.LAN_TX_TAPS k)) (s.getN (Obj.LAN_TX_INIT k)) = a := ⟨_, rfl⟩
  rw [tapApplied_eq ha]
  exact ⟨fun _ hkey => State.get_put_ne _ _ hkey, rfl⟩

theorem tapAnswered_change (s : State) (k d2 seq : Nat) (l : Lane) : TapChange s (tapAnswered s k d2 seq l) k := by
  unfold tapAnswered
  split
  · split
    · exact ⟨fun _ _ => rfl, rfl⟩
    · exact tapApplied_change s k d2 seq
  · exact tapApplied_change s k d2 seq

theorem tapReq_verifies (s : State) (t k : Nat) (l : Lane) (d2 seq : Nat) (h : s.lane k = some l) (hstate : s.lanState k = lanTrain)
    (hbit : bitOf d2 7 = false) (hready : bitOf d2 6 = true) (hboth : l.ready = true) (hrun : 31 ≤ l.readyRun) :
    ∃ u, exec (.laneTapReqReceive t k d2 seq) s = .next (State.settle (s.land t) u) ∧
      u.lanState k = lanVerify ∧ s.onlyEntries u [Obj.LAN_TX_TAPS k, Obj.LAN_STATE k, Obj.LAN_ACTIVE_MAP] ∧
      u = { s.land t with objs := u.objs, lan := u.lan, out := u.out } := by
  have hrunOf : readyRunOf d2 l = l.readyRun + 1 := by
    rw [readyRunOf, hready, hboth]
    rfl
  have hchange := tapAnswered_change (s.land t) k d2 seq l
  refine ⟨(s.land t).lanTapReq k d2 seq, rfl, ?_⟩
  rw [lanTapReq_of_train (s := s.land t) h hstate hbit, hrunOf]
  obtain ⟨hothers, hframe⟩ := hchange
  generalize tapAnswered (s.land t) k d2 seq l = a at hothers hframe ⊢
  rw [readyNoted, if_pos (by omega)]
  refine ⟨lanState_lanEnter .., fun key hkey => ?others, ?frame⟩
  case others =>
    simp only [List.mem_cons, List.not_mem_nil, or_false, not_or] at hkey
    obtain ⟨htaps, hst, hmap⟩ := hkey
    rw [get_lanEnter _ hmap hst]
    exact hothers key htaps
  case frame =>
    rw [hframe]
    rfl

/-! ## Tap status -/

theorem tapStatus_taken (s : State) (t k : Nat) (l : Lane) (d2 : Nat) (h : s.lane k = some l) (hstate : s.lanState k = lanTrain)
    (hd2 : d2 < 64) (hwaiting : l.waiting = true) :
    ∃ u, exec (.laneTapStatusReceive t k d2 l.seq) s = .next (State.settle (s.land t) u) ∧
      ((u.lane k).map (fun x => (x.waiting, x.made)) = some (false, decide (field d2 ([4, 4, 0, 0, 2, 2].getD l.move 4) 2 = 1))) ∧
      s.onlyEntries u [] ∧ u = { s.land t with objs := u.objs, lan := u.lan } := by
  have htaken : (s.land t).lanTapStatus k d2 l.seq = (s.land t).withLane k fun x =>
      { x with waiting := false, made := field d2 ([4, 4, 0, 0, 2, 2].getD l.move 4) 2 = 1 } := by
    have hstate' : (s.land t).lanState k = lanTrain := hstate
    unfold State.lanTapStatus
    rw [show (s.land t).lane k = some l from h]
    dsimp -zeta only
    rw [if_neg (by omega), if_neg (not_not.mpr hstate'), hwaiting]
    exact if_pos (by simp)
  refine ⟨(s.land t).lanTapStatus k d2 l.seq, rfl, ?_⟩
  rw [htaken]
  refine ⟨?lane, fun _ _ => rfl, rfl⟩
  rw [lane_withLane (s := s.land t) _ h]
  rfl

/-! ## The receiver's requests -/

/-- The record of a lane that has sent its next request. -/
def laneAsking (l : Lane) : Lane := { l with seq := (l.seq + 1) % 256, waiting := true }

theorem lanRequest_eq {s : State} {k : Nat} {l : Lane} (h : s.lane k = some l) (bits : Nat) :
    s.lanRequest k bits = ((s.bump (Obj.LAN_REQ_COUNT k)).withLane k laneAsking).emit
      (.lane k 0xC3 (bits + 256 * ((l.seq + 1) % 256) : Nat)) := by
  have hlane : ((s.bump (Obj.LAN_REQ_COUNT k)).withLane k laneAsking).lane k = some (laneAsking l) :=
    lane_withLane (s := s.bump _) _ h
  show ((s.bump (Obj.LAN_REQ_COUNT k)).withLane k laneAsking).emit (.lane k 0xC3 (bits + 256 *
    (((((s.bump (Obj.LAN_REQ_COUNT k)).withLane k laneAsking).lane k).map (·.seq)).getD 0) : Nat)) = _
  rw [hlane]
  rfl

/-- The record of a lane whose trial step begins. -/
def laneTrying (flat move : Nat) (base : Int) (l : Lane) : Lane :=
  { l with flat := flat, move := move, base := base, trial := true, made := false }

/-- The record of a lane whose trial step is taken back. -/
def laneReversed (l : Lane) : Lane := { l with trial := false, flat := l.flat + 1, move := (l.move + 1) % 6 }

theorem lanEvaluated_of_idle {s : State} {k : Nat} {l : Lane} {height : Int} (h : s.lane k = some l) (hstate : s.lanState k = lanTrain)
    (hready : l.ready = false) (hwaiting : l.waiting = false) (htrial : l.trial = false) :
    s.lanEvaluated k height = s.lanTrial k l.flat l.move height := by
  unfold State.lanEvaluated
  rw [h]
  dsimp -zeta only
  rw [hstate, hready, hwaiting, htrial]
  rfl

theorem lanTrial_of_open {s : State} {k flat move : Nat} {base : Int} (hflat : flat < 6) (hroom : s.getN (Obj.LAN_REQ_COUNT k) < 64) :
    s.lanTrial k flat move base = (s.withLane k (laneTrying flat move base)).lanRequest k (moveBits move false) :=
  (if_neg (by omega)).trans (if_neg (by omega))

theorem evaluation_trial (s : State) (t k : Nat) (l : Lane) (height : Int) (h : s.lane k = some l) (hstate : s.lanState k = lanTrain)
    (hready : l.ready = false) (hwaiting : l.waiting = false) (htrial : l.trial = false) (hflat : l.flat < 6)
    (hroom : s.getN (Obj.LAN_REQ_COUNT k) < 64) :
    ∃ u, exec (.trainEvaluationDone t k height) s = .next (State.settle (s.land t) u) ∧
      ((u.lane k).map (fun x => (x.waiting, x.trial, x.base, x.seq)) = some (true, true, height, (l.seq + 1) % 256)) ∧
      u.out = [Out.lane k 0xC3 (moveBits l.move false + 256 * ((l.seq + 1) % 256) : Nat)] ∧
      u.get (Obj.LAN_REQ_COUNT k) = min (s.get (Obj.LAN_REQ_COUNT k) + 1) 0xFFFFFFFF ∧
      s.onlyEntries u [Obj.LAN_REQ_COUNT k] ∧ u = { s.land t with objs := u.objs, lan := u.lan, out := u.out } := by
  have htrying := lane_withLane (s := s.land t) (laneTrying l.flat l.move height) h
  have hasking := lane_withLane (s := ((s.land t).withLane k (laneTrying l.flat l.move height)).bump (Obj.LAN_REQ_COUNT k)) laneAsking
    htrying
  refine ⟨(s.land t).lanEvaluated k height, rfl, ?_⟩
  rw [lanEvaluated_of_idle (s := s.land t) h hstate hready hwaiting htrial, lanTrial_of_open (s := s.land t) hflat hroom,
    lanRequest_eq htrying]
  refine ⟨?lane, rfl, ?count, fun key hkey => ?others, rfl⟩
  case lane =>
    show (State.lane _ k).map _ = _
    exact (congrArg (Option.map _) hasking).trans rfl
  case count => exact (State.get_bump ..).trans (if_pos rfl)
  case others => exact (State.get_bump ..).trans (if_neg (List.ne_of_not_mem_cons hkey))

theorem lanEvaluated_of_loss {s : State} {k : Nat} {l : Lane} {height : Int} (h : s.lane k = some l) (hstate : s.lanState k = lanTrain)
    (hready : l.ready = false) (hwaiting : l.waiting = false) (htrial : l.trial = true) (hmade : l.made = true)
    (hloss : height ≤ l.base) (hroom : s.getN (Obj.LAN_REQ_COUNT k) < 64) :
    s.lanEvaluated k height = (s.withLane k laneReversed).lanRequest k (moveBits l.move true) := by
  have hgain : height - l.base ≤ 0 := by omega
  have hopen : ¬ 64 ≤ s.getN (Obj.LAN_REQ_COUNT k) := by omega
  unfold State.lanEvaluated
  rw [h]
  dsimp -zeta only
  rw [hstate, hready, hwaiting, htrial, hmade]
  extract_lets gain
  rw [if_neg (by decide), if_neg (by decide), if_pos (by simpa [gain] using hgain), if_neg hopen]
  rfl

theorem evaluation_reversed (s : State) (t k : Nat) (l : Lane) (height : Int) (h : s.lane k = some l)
    (hstate : s.lanState k = lanTrain) (hready : l.ready = false) (hwaiting : l.waiting = false) (htrial : l.trial = true)
    (hmade : l.made = true) (hloss : height ≤ l.base) (hroom : s.getN (Obj.LAN_REQ_COUNT k) < 64) :
    ∃ u, exec (.trainEvaluationDone t k height) s = .next (State.settle (s.land t) u) ∧
      ((u.lane k).map (fun x => (x.waiting, x.trial, x.flat, x.move)) = some (true, false, l.flat + 1, (l.move + 1) % 6)) ∧
      u.out = [Out.lane k 0xC3 (moveBits l.move true + 256 * ((l.seq + 1) % 256) : Nat)] ∧
      s.onlyEntries u [Obj.LAN_REQ_COUNT k] ∧ u = { s.land t with objs := u.objs, lan := u.lan, out := u.out } := by
  have hreversed := lane_withLane (s := s.land t) laneReversed h
  have hasking := lane_withLane (s := ((s.land t).withLane k laneReversed).bump (Obj.LAN_REQ_COUNT k)) laneAsking hreversed
  refine ⟨(s.land t).lanEvaluated k height, rfl, ?_⟩
  rw [lanEvaluated_of_loss (s := s.land t) h hstate hready hwaiting htrial hmade hloss hroom, lanRequest_eq hreversed]
  refine ⟨(congrArg (Option.map _) hasking).trans rfl, rfl, fun key hkey => ?others, rfl⟩
  exact (State.get_bump ..).trans (if_neg (List.ne_of_not_mem_cons hkey))

/-- The record of a lane whose receiver is satisfied. -/
def laneSatisfied (l : Lane) : Lane := { l with ready := true, readyRun := 0 }

theorem lane_lanReady {s : State} {k : Nat} {l : Lane} (h : s.lane k = some l) (capped : Bool) :
    (s.lanReady k capped).lane k = some (laneSatisfied l) :=
  lane_withLane (s := s.setBit (Obj.LAN_STATUS k) 11 capped) laneSatisfied h

theorem get_lanReady (s : State) (k : Nat) (capped : Bool) (key : Nat) :
    (s.lanReady k capped).get key = (s.setBit (Obj.LAN_STATUS k) 11 capped).get key := rfl

theorem bit_lanReady (s : State) (k : Nat) (capped : Bool) : (s.lanReady k capped).bit (Obj.LAN_STATUS k) 11 = capped := by
  rw [bit_congr (get_lanReady s k capped _), State.bit_setBit, if_pos rfl, if_pos rfl]

theorem lanReady_frame (s : State) (k : Nat) (capped : Bool) : s.lanReady k capped =
    { s with objs := (s.lanReady k capped).objs, lan := (s.lanReady k capped).lan, out := (s.lanReady k capped).out } := rfl

theorem lanTrial_of_satisfied {s : State} {k flat move : Nat} {base : Int} (hend : 6 ≤ flat ∨ 64 ≤ s.getN (Obj.LAN_REQ_COUNT k)) :
    s.lanTrial k flat move base = s.lanReady k (decide (flat < 6)) := by
  unfold State.lanTrial
  by_cases hflat : 6 ≤ flat
  · rw [if_pos hflat, decide_eq_false (by omega)]
  · rw [if_neg hflat, if_pos (hend.resolve_left hflat), decide_eq_true (by omega)]

theorem evaluation_ready (s : State) (t k : Nat) (l : Lane) (height : Int) (h : s.lane k = some l) (hstate : s.lanState k = lanTrain)
    (hready : l.ready = false) (hwaiting : l.waiting = false) (htrial : l.trial = false)
    (hend : 6 ≤ l.flat ∨ 64 ≤ s.getN (Obj.LAN_REQ_COUNT k)) :
    ∃ u, exec (.trainEvaluationDone t k height) s = .next (State.settle (s.land t) u) ∧
      ((u.lane k).map (fun x => (x.ready, x.readyRun)) = some (true, 0)) ∧
      u.bit (Obj.LAN_STATUS k) 11 = decide (l.flat < 6) ∧ u.out = [Out.lane k 0xC3 64] ∧
      s.onlyEntries u [Obj.LAN_STATUS k] ∧ u = { s.land t with objs := u.objs, lan := u.lan, out := u.out } := by
  have hlane : ((s.land t).lanReady k (decide (l.flat < 6))).lane k = some (laneSatisfied l) :=
    lane_lanReady (s := s.land t) h _
  have heffect : exec (.trainEvaluationDone t k height) s = .next (State.settle (s.land t) ((s.land t).lanEvaluated k height)) := rfl
  rw [lanEvaluated_of_idle (s := s.land t) h hstate hready hwaiting htrial, lanTrial_of_satisfied (s := s.land t) hend] at heffect
  refine ⟨_, heffect, ?lane, bit_lanReady .., rfl, fun key hkey => ?others, lanReady_frame ..⟩
  case lane =>
    rw [hlane]
    rfl
  case others =>
    rw [get_lanReady, State.get_setBit, if_neg (List.ne_of_not_mem_cons hkey), State.get_land]

end Sys2Proof.Proofs
end

section
/-!
PROOF. VERIFY passed: a lane becomes ACTIVE, its pair is compared and its cascade group shown (O36; R271, R272, R275, R261).
-/

namespace Sys2Proof.Proofs

open Sys2Proof Sys2Proof.Machine

/-! ## Entries of some indices -/

/-- The entries of the lanes from a base have one index. -/
theorem laneIndex {base k : Nat} (hk : k < 50) (hbase : base % 256 ≤ 206 := by decide) : (base + k) / 256 = base / 256 := by omega

/-- Outside the logbook an operation changes entries of some indices alone, and a pending source stays pending. -/
structure Within (indices : List Nat) (a b : State) : Prop where
  others : a.otherIndices b indices
  pending : KeepsPending a b

namespace Within

variable {indices : List Nat}

theorem refl (s : State) : Within indices s s := ⟨fun _ _ _ => rfl, fun _ hp => hp⟩

theorem trans {a b c : State} (h : Within indices a b) (g : Within indices b c) : Within indices a c :=
  ⟨fun key hlog hkey => (g.others key hlog hkey).trans (h.others key hlog hkey), h.pending.trans g.pending⟩

theorem mono {more : List Nat} {a b : State} (h : Within indices a b) (hsub : ∀ i ∈ indices, i ∈ more) : Within more a b :=
  ⟨fun key hlog hkey => h.others key hlog fun hk => hkey (hsub _ hk), h.pending⟩

theorem ite {s a b : State} {c : Prop} [Decidable c] (h : Within indices s a) (g : Within indices s b) :
    Within indices s (if c then a else b) := by
  split
  · exact h
  · exact g

theorem of_logOnly {a b : State} (h : a.LogOnly b) (hpending : KeepsPending a b) : Within indices a b :=
  ⟨fun key hlog _ => h.1 key hlog, hpending⟩

theorem of_objs {a b : State} (hobjs : b.objs = a.objs) (hicu : b.icu = a.icu) : Within indices a b :=
  ⟨fun _ _ _ => by simp only [State.get, hobjs], .of_icu hicu⟩

theorem put (s : State) {key i : Nat} (v : Int) (hindex : key / 256 = i) (hi : i ∈ indices) : Within indices s (s.put key v) :=
  ⟨fun _ _ hother => State.get_put_ne s v fun h => hother (h ▸ hindex ▸ hi), .of_icu rfl⟩

theorem setBit (s : State) {key i : Nat} (bit : Nat) (b : Bool) (hindex : key / 256 = i) (hi : i ∈ indices) :
    Within indices s (s.setBit key bit b) := put s _ hindex hi

theorem bump (s : State) {key i : Nat} (hindex : key / 256 = i) (hi : i ∈ indices) : Within indices s (s.bump key) :=
  put s _ hindex hi

theorem raise (s : State) (src : Nat) : Within indices s (s.raise src) := ⟨fun _ _ _ => rfl, keepsPending_raise s src⟩

theorem withLane (s : State) (k : Nat) (f : Lane → Lane) : Within indices s (s.withLane k f) := of_objs rfl rfl

theorem siteOutcome (s : State) (site code subject : Nat) (data : List Nat) (lasting : Bool) (hsite : 1 ≤ site ∧ site ≤ 0x16) :
    Within indices s (s.siteOutcome site code subject data lasting) :=
  of_logOnly (State.logOnly_siteOutcome _ _ _ _ _ _ hsite) (keepsPending_siteOutcome _ _ _ _ _ _)

theorem get {a b : State} (h : Within indices a b) {key i : Nat} (hindex : key / 256 = i) (hi : i < 0x3000 ∧ i ∉ indices) :
    b.get key = a.get key := h.others key (isLogEntry_of_lt (by omega)) (hindex ▸ hi.2)

theorem lanEnter (s : State) {k : Nat} (st : Nat) (hk : k < 50) (hstate : 0x2A11 ∈ indices) (hmap : 0x2A00 ∈ indices) :
    Within indices s (s.lanEnter k st) :=
  ((put s _ (laneIndex hk) hstate).trans (setBit _ _ _ rfl hmap)).trans (withLane _ _ _)

theorem lanEvent (s : State) {k : Nat} (code : Nat) (hk : k < 50) (hlast : 0x2A23 ∈ indices) : Within indices s (s.lanEvent k code) :=
  (raise s _).trans (put _ _ (laneIndex hk) hlast)

/-- Where both ports of the pair are ACTIVE, their rates are compared (R275). -/
theorem lanPairRate (s : State) (k : Nat) (hstatus : 0x2A13 ∈ indices) (hlast : 0x2A23 ∈ indices) :
    Within indices s (s.lanPairRate k) := by
  unfold State.lanPairRate
  extract_lets a r bad
  have hport : ∀ x j, j < 50 → Within indices x
      ((if (bad && !x.bit (Obj.LAN_STATUS j) 3) = true then x.lanEvent j 6 else x).setBit (Obj.LAN_STATUS j) 3 bad) := fun x j hj =>
    (ite (lanEvent x 6 hj hlast) (refl x)).trans (setBit _ _ _ (laneIndex hj) hstatus)
  split
  · exact refl s
  · next hvalve =>
    have hk : k < 48 := by
      simp only [Bool.or_eq_true, not_or, decide_eq_true_eq] at hvalve
      omega
    exact (hport s a (by omega)).trans (hport _ (a + 1) (by omega))

/-- What the lanes of a cascade group show (R261). -/
theorem cascTrained (s : State) (k : Nat) (hstatus : 0x2921 ∈ indices) (hlanes : 0x2923 ∈ indices) :
    Within indices s (s.cascTrained k) := by
  unfold State.cascTrained
  split
  · exact refl s
  · next g hg =>
    have hgroup : g < 8 := List.mem_range.1 (List.mem_of_mem_filter (List.mem_of_find?_eq_some hg))
    have hshown : Within indices s (s.setBit (Obj.LNK_CASC_STATUS g) 0 (s.cascLocked g = s.cascWidth g)) :=
      setBit s _ _ (laneIndex (by omega)) hstatus
    exact ite (hshown.trans (put _ _ (laneIndex (by omega)) hlanes)) hshown

theorem laneUp (s : State) (k : Nat) (hstatus : 0x2921 ∈ indices) (hlanes : 0x2923 ∈ indices) : Within indices s (s.laneUp k) :=
  ite (cascTrained s k hstatus hlanes) (refl s)

end Within

/-! ## Units that a lane's change leaves alone -/

/-- Beside entries and the logbook's units an operation changes the lanes alone. -/
def LaneFrame (a b : State) : Prop :=
  b = { a with objs := b.objs, lan := b.lan, icu := b.icu, log := b.log, flash := b.flash, dict := b.dict, out := b.out }

theorem LaneFrame.refl (s : State) : LaneFrame s s := rfl

theorem LaneFrame.trans {a b c : State} (h : LaneFrame a b) (g : LaneFrame b c) : LaneFrame a c := by
  unfold LaneFrame at *
  rw [g, h]

theorem LaneFrame.ite {s a b : State} {c : Prop} [Decidable c] (h : LaneFrame s a) (g : LaneFrame s b) :
    LaneFrame s (if c then a else b) := by
  split
  · exact h
  · exact g

theorem LaneFrame.of_sameUnits {a b : State} (h : a.SameUnits b) : LaneFrame a b := by
  unfold LaneFrame State.SameUnits at *
  rw [h]

theorem LaneFrame.of_laneOnly {a b : State} (h : LaneOnly a b) : LaneFrame a b := by
  unfold LaneFrame LaneOnly at *
  rw [h]

theorem laneFrame_lanEvent (s : State) (k code : Nat) : LaneFrame s (s.lanEvent k code) := rfl

theorem laneFrame_setBit (s : State) (key bit : Nat) (b : Bool) : LaneFrame s (s.setBit key bit b) := rfl

theorem laneFrame_lanPairRate (s : State) (k : Nat) : LaneFrame s (s.lanPairRate k) := by
  unfold State.lanPairRate
  extract_lets a r bad
  have hport : ∀ x j, LaneFrame x
      ((if (bad && !x.bit (Obj.LAN_STATUS j) 3) = true then x.lanEvent j 6 else x).setBit (Obj.LAN_STATUS j) 3 bad) := fun x j =>
    (LaneFrame.ite (laneFrame_lanEvent x j 6) (.refl x)).trans (laneFrame_setBit _ _ _ _)
  split
  · exact .refl s
  · exact (hport s a).trans (hport _ (a + 1))

theorem laneFrame_laneUp (s : State) (k : Nat) : LaneFrame s (s.laneUp k) := by
  refine .ite ?_ (.refl s)
  unfold State.cascTrained
  split
  · exact .refl s
  · exact .ite rfl rfl

theorem laneFrame_siteOutcome (s : State) (site code subject : Nat) (data : List Nat) (lasting : Bool)
    (hsite : 1 ≤ site ∧ site ≤ 0x16) : LaneFrame s (s.siteOutcome site code subject data lasting) :=
  .of_sameUnits (State.logOnly_siteOutcome _ _ _ _ _ _ hsite).2

/-! ## VERIFY passed -/

/-- The record of a lane that has become ACTIVE. -/
def laneVerified (l : Lane) : Lane := { l with unclean := true, headers := 0 }

/-- A lane that has passed VERIFY, the time of its bring-up shown. -/
def verifiedShown (s : State) (k startAt : Nat) : State :=
  ((((s.lanEnter k lanActive).put (Obj.LAN_BRINGUP_TIME k) (saturateU 32 ((s.now - startAt) / 1000 : Nat))).put
    (Obj.LAN_CLEAN_CYCLES k) 0).withLane k laneVerified).lanEvent k 1

/-- The outcome of the attempt that passed: a second one is a transient failure of the first (R272). -/
def attemptCounted (s : State) (k attempt : Nat) : State :=
  if attempt = 2 then (s.bump (Obj.LAN_TRAIN_RETRY k)).siteOutcome 0x04 (lockSource k + 1) k [] false else s

theorem lanVerified_of_verify {s : State} {k : Nat} {l : Lane} (h : s.lane k = some l) (hstate : s.lanState k = lanVerify) :
    s.lanVerified k = attemptCounted ((verifiedShown s k l.startAt).lanPairRate k) k l.attempt := by
  unfold State.lanVerified
  rw [h]
  exact if_neg (not_not.mpr hstate)

theorem within_verifiedShown (s : State) {k : Nat} (startAt : Nat) (hk : k < 50) :
    Within [0x2A00, 0x2A11, 0x2A18, 0x2A1F, 0x2A23] s (verifiedShown s k startAt) :=
  ((((Within.lanEnter s _ hk (by decide) (by decide)).trans (.put _ _ (laneIndex hk) (by decide))).trans
    (.put _ _ (laneIndex hk) (by decide))).trans (.withLane _ _ _)).trans (.lanEvent _ _ hk (by decide))

theorem laneFrame_verifiedShown (s : State) (k startAt : Nat) : LaneFrame s (verifiedShown s k startAt) :=
  (LaneFrame.of_laneOnly ((((laneOnly_lanEnter s k _).trans (laneOnly_put ..)).trans (laneOnly_put ..)).trans
    (laneOnly_withLane ..))).trans (laneFrame_lanEvent ..)

theorem state_verifiedShown (s : State) (k startAt : Nat) : (verifiedShown s k startAt).get (Obj.LAN_STATE k) = lanActive := by
  rw [verifiedShown, get_lanEvent _ _ (laneKey_ne (by decide))]
  exact (State.get_put_ne _ _ (laneKey_ne (by decide))).trans ((State.get_put_ne _ _ (laneKey_ne (by decide))).trans
    (get_lanEnter_state s k lanActive))

theorem time_verifiedShown (s : State) (k startAt : Nat) :
    (verifiedShown s k startAt).get (Obj.LAN_BRINGUP_TIME k) = saturateU 32 ((s.now - startAt) / 1000 : Nat) := by
  rw [verifiedShown, get_lanEvent _ _ (laneKey_ne (by decide))]
  exact (State.get_put_ne _ _ (laneKey_ne (by decide))).trans (State.get_put_same ..)

theorem clean_verifiedShown (s : State) (k startAt : Nat) : (verifiedShown s k startAt).get (Obj.LAN_CLEAN_CYCLES k) = 0 := by
  rw [verifiedShown, get_lanEvent _ _ (laneKey_ne (by decide))]
  exact State.get_put_same ..

theorem within_attemptCounted (s : State) {k : Nat} (attempt : Nat) (hk : k < 50) :
    Within [0x2A1C] s (attemptCounted s k attempt) :=
  .ite ((Within.bump s (laneIndex hk) (by decide)).trans (.siteOutcome _ _ _ _ _ _ (by decide))) (.refl s)

theorem retry_attemptCounted (s : State) {k : Nat} (hk : k < 50) :
    (attemptCounted s k 2).get (Obj.LAN_TRAIN_RETRY k) = min (s.get (Obj.LAN_TRAIN_RETRY k) + 1) 0xFFFFFFFF := by
  have hkept := (Within.siteOutcome (indices := []) (s.bump (Obj.LAN_TRAIN_RETRY k)) 0x04 (lockSource k + 1) k [] false (by decide)).get
    (laneIndex (base := 0x2A1C01) hk) (by decide)
  exact hkept.trans ((State.get_bump ..).trans (if_pos rfl))

theorem laneFrame_attemptCounted (s : State) (k attempt : Nat) : LaneFrame s (attemptCounted s k attempt) :=
  .ite (LaneFrame.trans (.of_laneOnly (laneOnly_bump s _)) (laneFrame_siteOutcome _ _ _ _ _ _ (by decide))) (.refl s)

/-- What a lane shows that has passed VERIFY, before its pair and its group are looked at. -/
structure VerifyShown (s u : State) (k : Nat) (l : Lane) : Prop where
  state : u.lanState k = lanActive
  time : u.get (Obj.LAN_BRINGUP_TIME k) = saturateU 32 ((s.now - l.startAt) / 1000 : Nat)
  clean : u.get (Obj.LAN_CLEAN_CYCLES k) = 0
  retry : l.attempt = 2 → u.get (Obj.LAN_TRAIN_RETRY k) = min (s.get (Obj.LAN_TRAIN_RETRY k) + 1) 0xFFFFFFFF
  pending : u.sourcePending (lockSource k + 1)
  others : s.otherIndices u [0x2A00, 0x2A11, 0x2A13, 0x2A18, 0x2A1C, 0x2A1F, 0x2A23, 0x2921, 0x2923]
  frame : LaneFrame s u

theorem verified_shows {s : State} {k : Nat} {l : Lane} (hk : k < 50) (h : s.lane k = some l) (hstate : s.lanState k = lanVerify) :
    VerifyShown s ((s.lanVerified k).laneUp k) k l := by
  rw [lanVerified_of_verify h hstate]
  have hpair : Within [0x2A13, 0x2A23] (verifiedShown s k l.startAt) ((verifiedShown s k l.startAt).lanPairRate k) :=
    .lanPairRate _ k (by decide) (by decide)
  have hcounted := within_attemptCounted ((verifiedShown s k l.startAt).lanPairRate k) l.attempt hk
  have hup : Within [0x2921, 0x2923] (attemptCounted ((verifiedShown s k l.startAt).lanPairRate k) k l.attempt)
    ((attemptCounted ((verifiedShown s k l.startAt).lanPairRate k) k l.attempt).laneUp k) := .laneUp _ k (by decide) (by decide)
  have hlater : Within [0x2A13, 0x2A23, 0x2A1C, 0x2921, 0x2923] (verifiedShown s k l.startAt)
    ((attemptCounted ((verifiedShown s k l.startAt).lanPairRate k) k l.attempt).laneUp k) :=
    ((hpair.mono (by decide)).trans (hcounted.mono (by decide))).trans (hup.mono (by decide))
  have hframe : LaneFrame s ((attemptCounted ((verifiedShown s k l.startAt).lanPairRate k) k l.attempt).laneUp k) :=
    (((laneFrame_verifiedShown ..).trans (laneFrame_lanPairRate ..)).trans (laneFrame_attemptCounted ..)).trans (laneFrame_laneUp ..)
  have hshown := within_verifiedShown s l.startAt hk
  refine ⟨?state, ?time, ?clean, fun hsecond => ?retry, ?pending, ?others, hframe⟩
  case state =>
    rw [State.lanState, State.getN, hlater.get (laneIndex hk) (by decide), state_verifiedShown]
    rfl
  case time => rw [hlater.get (laneIndex hk) (by decide), time_verifiedShown]
  case clean => rw [hlater.get (laneIndex hk) (by decide), clean_verifiedShown]
  case retry =>
    rw [hup.get (laneIndex hk) (by decide), hsecond, retry_attemptCounted _ hk,
      hpair.get (laneIndex hk) (by decide), hshown.get (laneIndex hk) (by decide)]
  case pending => exact sourcePending_kept (lockSource_shared hk).2 (sourcePending_lanEvent _ hk 1) hlater.pending
  case others => exact ((hshown.mono (by decide)).trans (hlater.mono (by decide))).others

theorem verifyPass_shows (s : State) (t k : Nat) (l : Lane) (hk : k < 50) (h : s.lane k = some l) (hstate : s.lanState k = lanVerify)
    (hpast : l.stateAt + 1000000 ≤ (s.land t).now) :
    ∃ u, exec (.laneVerifyPass t k) s = .next (State.settle (s.land t) u) ∧
      u.lanState k = lanActive ∧ u.get (Obj.LAN_BRINGUP_TIME k) = saturateU 32 (((s.land t).now - l.startAt) / 1000 : Nat) ∧
      u.get (Obj.LAN_CLEAN_CYCLES k) = 0 ∧
      (l.attempt = 2 → u.get (Obj.LAN_TRAIN_RETRY k) = min (s.get (Obj.LAN_TRAIN_RETRY k) + 1) 0xFFFFFFFF) ∧
      u.sourcePending (lockSource k + 1) ∧
      s.otherIndices u [0x2A00, 0x2A11, 0x2A13, 0x2A18, 0x2A1C, 0x2A1F, 0x2A23, 0x2921, 0x2923] ∧
      u = { s.land t with objs := u.objs, lan := u.lan, icu := u.icu, log := u.log, flash := u.flash, dict := u.dict, out := u.out } := by
  have heffect : exec (.laneVerifyPass t k) s = .next (State.settle (s.land t) (((s.land t).lanVerified k).laneUp k)) := by
    have hfor : (s.land t).laneFor k 1 = true := laneFor_of_passed (s := s.land t) h hpast
    have hverify : (s.land t).lanState k = lanVerify := hstate
    show execLaneVerifyPass t k s = _
    refine done_of_effect ?_
    rw [hfor, hverify]
    rfl
  obtain ⟨hactive, htime, hclean, hretry, hpending, hothers, hframe⟩ := verified_shows (s := s.land t) hk h hstate
  exact ⟨_, heffect, hactive, htime, hclean, hretry, hpending, hothers, hframe⟩

/-! ## The obligation -/

/-- Settles O36: the bring-up of a lane, one lemma for each of its events. -/
theorem lanesComeUp : Obligations.LanesComeUp := by
  unfold Obligations.LanesComeUp
  intro s t
  refine ⟨?first, fun k l ms hk h => second_timeout s t k l ms hk h, ?retry, fun k l d2 d3 hfoul _ => cap_foul s t k l d2 d3 hfoul,
    fun k l d2 d3 r _ => cap_acknowledged s t k l d2 d3 r, cap_without_common s t,
    fun k l d2 d3 r _ => cap_sixteenth_ack s t k l d2 d3 r, fun k l _ => rateGo_expected s t k l, ?rateGo, blockLock_trains s t,
    fun k l d2 seq _ => tapReq_new s t k l d2 seq, fun k l d2 seq st _ => tapReq_repeated s t k l d2 seq st,
    fun k l d2 seq _ => tapReq_verifies s t k l d2 seq, fun k l d2 _ => tapStatus_taken s t k l d2,
    fun k l height _ => evaluation_trial s t k l height, fun k l height _ => evaluation_reversed s t k l height,
    fun k l height _ => evaluation_ready s t k l height, verifyPass_shows s t⟩
  case first =>
    intro k l ms _ h hfirst hlo hhi hlimit hpast
    exact attempt_of_effect (first_timeout s t k l ms h hfirst hlo hhi hlimit hpast) h
  case retry =>
    intro k l _ h hdown hpast
    exact attempt_of_effect (downRetry_effect h hdown hpast) h
  case rateGo =>
    intro k l d2 _ h hlo hhi hd2 hother hfirst
    exact attempt_of_effect (rateGo_of_other h hlo hhi hd2 hother hfirst) h

end Sys2Proof.Proofs
end

section
/-!
PROOF. A lane that loses lock, relocks or does not (O37; R251, R279, R280, R290).
-/

namespace Sys2Proof.Proofs

open Sys2Proof Sys2Proof.Machine

/-! ## Units that a lost lane leaves alone -/

/-- Beside entries and pending sources an operation changes the lanes, the links and the sequencer alone. -/
def LinkFrame (a b : State) : Prop := b = { a with objs := b.objs, lan := b.lan, lnk := b.lnk, orb := b.orb, icu := b.icu }

theorem LinkFrame.refl (s : State) : LinkFrame s s := rfl

theorem LinkFrame.trans {a b c : State} (h : LinkFrame a b) (g : LinkFrame b c) : LinkFrame a c := by
  unfold LinkFrame at *
  rw [g, h]

theorem LinkFrame.ite {s a b : State} {c : Prop} [Decidable c] (h : LinkFrame s a) (g : LinkFrame s b) :
    LinkFrame s (if c then a else b) := by
  split
  · exact h
  · exact g

theorem LinkFrame.of_laneOnly {a b : State} (h : LaneOnly a b) : LinkFrame a b := by
  unfold LinkFrame LaneOnly at *
  rw [h]

theorem linkFrame_put (s : State) (key : Nat) (v : Int) : LinkFrame s (s.put key v) := rfl

theorem linkFrame_setBit (s : State) (key bit : Nat) (b : Bool) : LinkFrame s (s.setBit key bit b) := rfl

theorem linkFrame_bump (s : State) (key : Nat) : LinkFrame s (s.bump key) := rfl

theorem linkFrame_raise (s : State) (src : Nat) : LinkFrame s (s.raise src) := rfl

theorem linkFrame_withPair (s : State) (p : Nat) (f : Pair → Pair) : LinkFrame s (s.withPair p f) := rfl

theorem linkFrame_cascTrained (s : State) (k : Nat) : LinkFrame s (s.cascTrained k) := by
  unfold State.cascTrained
  split
  · exact .refl s
  · exact .ite rfl rfl

/-! ## Scans -/

theorem eyeAbort_eq {s : State} {e : Eye} (h : s.lan.scan = some e) :
    s.eyeAbort = ({ s with lan := { s.lan with scan := none } }.put Obj.LAN_EYE_STATUS 3).lanEvent e.lane 5 := by
  unfold State.eyeAbort
  rw [h]

theorem eyeLeave_cases (s : State) (k : Nat) :
    s.eyeLeave k = s ∨ s.eyeLeave k = ({ s with lan := { s.lan with scan := none } }.put Obj.LAN_EYE_STATUS 3).lanEvent k 5 := by
  unfold State.eyeLeave
  split
  · next hscan =>
    cases he : s.lan.scan with
    | none =>
      rw [he] at hscan
      cases hscan
    | some e =>
      rw [he] at hscan
      have hlane : e.lane = k := Option.some.inj hscan
      rw [eyeAbort_eq he, hlane]
      exact .inr rfl
  · exact .inl rfl

theorem within_eyeLeave (s : State) {k : Nat} (hk : k < 50) : Within [0x2A40, 0x2A23] s (s.eyeLeave k) := by
  rcases eyeLeave_cases s k with h | h
  · rw [h]
    exact .refl s
  · rw [h]
    have hended : Within [0x2A40, 0x2A23] s { s with lan := { s.lan with scan := none } } := .of_objs rfl rfl
    exact (hended.trans (.put _ _ rfl (by decide))).trans (.lanEvent _ _ hk (by decide))

theorem linkFrame_eyeLeave (s : State) (k : Nat) : LinkFrame s (s.eyeLeave k) := by
  rcases eyeLeave_cases s k with h | h
  · rw [h]
    exact .refl s
  · rw [h]
    rfl

/-! ## Line mode -/

/-- The indices of what a pair shows that leaves its ring. -/
abbrev lineIndices : List Nat := [0x2900, 0x2913, 0x2914, 0x2916, 0x2918]

/-- The entries of the ring pairs and of the cascade groups from a base have one index. -/
theorem pairIndex {base p : Nat} (hp : p < 24) (hbase : base % 256 ≤ 206 := by decide) : (base + p) / 256 = base / 256 := by omega

theorem within_lineShown (s : State) {p : Nat} (hp : p < 24) : Within lineIndices s (lineShown s p) := by
  have hmode : Within lineIndices s
      (((s.put (Obj.LNK_PAIR_MODE p) pairLine).put (Obj.LNK_PAIR_SPLIT p) 0).setBit (Obj.LNK_PAIR_STATUS p) 4 true) :=
    ((Within.put s _ (pairIndex hp) (by decide)).trans (.put _ _ (pairIndex hp) (by decide))).trans
      (.setBit _ _ _ (pairIndex hp) (by decide))
  have hsplit (a : State) : Within lineIndices a (a.withPair p fun q => { q with splitKnown := false }) := .of_objs rfl rfl
  exact (((hmode.trans (hsplit _)).trans (.raise _ _)).trans (.bump _ (pairIndex hp) (by decide))).trans (.setBit _ _ _ rfl (by decide))

theorem linkFrame_lineShown (s : State) (p : Nat) : LinkFrame s (lineShown s p) :=
  ((((((linkFrame_put s _ _).trans (linkFrame_put _ _ _)).trans (linkFrame_setBit _ _ _ _)).trans (linkFrame_withPair _ _ _)).trans
    (linkFrame_raise _ _)).trans (linkFrame_bump _ _)).trans (linkFrame_setBit _ _ _ _)

theorem pairMode_lineShown (s : State) (p : Nat) : (lineShown s p).pairMode p = pairLine := by
  have hget : (lineShown s p).get (Obj.LNK_PAIR_MODE p) =
      (((s.put (Obj.LNK_PAIR_MODE p) pairLine).put (Obj.LNK_PAIR_SPLIT p) 0).setBit (Obj.LNK_PAIR_STATUS p) 4 true).get
        (Obj.LNK_PAIR_MODE p) := by
    refine (State.get_setBit ..).trans ((if_neg (ne_mapKey (by decide))).trans ?_)
    exact (State.get_bump ..).trans (if_neg (laneKey_ne (by decide)))
  rw [State.pairMode, State.getN, hget, State.get_setBit, if_neg (laneKey_ne (by decide)), State.get_put_ne _ _ (laneKey_ne (by decide)),
    State.get_put_same]
  rfl

theorem noteNeed_objs (s : State) : s.noteNeed.objs = s.objs ∧ s.noteNeed.icu = s.icu ∧ LinkFrame s s.noteNeed := by
  unfold State.noteNeed
  split
  · exact ⟨rfl, rfl, rfl⟩
  · exact ⟨rfl, rfl, rfl⟩

/-- A pair in line mode whose needs are looked at. -/
theorem held_noted (s : State) (p : Nat) :
    (lineHeld s p).noteNeed.objs = s.objs ∧ (lineHeld s p).noteNeed.icu = s.icu ∧ LinkFrame s (lineHeld s p).noteNeed := by
  obtain ⟨hobjs, hicu, hframe⟩ := noteNeed_objs (lineHeld s p)
  exact ⟨hobjs, hicu, LinkFrame.trans (b := lineHeld s p) rfl hframe⟩

theorem within_lineEnter (s : State) {p : Nat} (hp : p < 24) : Within lineIndices s (s.lineEnter p) := by
  cases hvalve : s.valvePair p with
  | false =>
    rw [lineEnter_of_unused hvalve]
    exact .refl s
  | true =>
    have hclean : Within lineIndices s (s.withPair p fun q => { q with clean := 0, returning := false }) := .of_objs rfl rfl
    have hstopped : Within lineIndices s (lineStopped s p) := hclean.trans (.setBit _ _ _ (pairIndex hp) (by decide))
    obtain ⟨hobjs, hicu, -⟩ := held_noted (lineShown (lineStopped s p) p) p
    rw [lineEnter_eq hvalve]
    exact .ite ((hstopped.trans (within_lineShown _ hp)).trans (.of_objs hobjs hicu)) hstopped

theorem linkFrame_lineEnter (s : State) (p : Nat) : LinkFrame s (s.lineEnter p) := by
  cases hvalve : s.valvePair p with
  | false =>
    rw [lineEnter_of_unused hvalve]
    exact .refl s
  | true =>
    have hstopped : LinkFrame s (lineStopped s p) := (linkFrame_withPair s p _).trans (linkFrame_setBit _ _ _ _)
    rw [lineEnter_eq hvalve]
    exact .ite ((hstopped.trans (linkFrame_lineShown _ p)).trans (held_noted _ p).2.2) hstopped

theorem pairMode_lineEnter {s : State} {p : Nat} (hvalve : s.valvePair p = true) (hring : s.pairMode p = pairRing) :
    (s.lineEnter p).pairMode p = pairLine := by
  have hmode : (lineStopped s p).pairMode p = pairRing := by
    rw [← hring, State.pairMode, State.pairMode, State.getN, State.getN]
    exact congrArg Int.toNat ((State.get_setBit ..).trans (if_neg (laneKey_ne (by decide))))
  have hheld := (held_noted (lineShown (lineStopped s p) p) p).1
  rw [lineEnter_eq hvalve, if_pos hmode, State.pairMode, State.getN, State.get, hheld]
  exact pairMode_lineShown _ p

/-! ## Loss of lock in ACTIVE -/

/-- A lane that has lost lock, before a scan of it is aborted. -/
def lockLost (s : State) (k : Nat) : State :=
  ((((((s.setBit (Obj.LAN_STATUS k) 0 false).setBit (Obj.LAN_STATUS k) 5 false).lanEnter k lanRelock).bump (Obj.LAN_LOCK_LOSS k)).put
    (Obj.LAN_CLEAN_CYCLES k) 0).raise (lockSource k)).withLane k fun l => { l with unclean := true }

/-- What a lost lane does to its pair or its group. -/
def lossFollowed (s : State) (k : Nat) : State :=
  if k < 48 then (if s.cascLane k then s.cascTrained k else s.lineEnter (k / 2)) else s

theorem laneLost_of_active {s : State} {k : Nat} (hk : k < 50) (hactive : s.lanState k = lanActive) :
    s.laneLost k = lossFollowed ((lockLost s k).eyeLeave k) k := by
  have hup : s.lanUp k = true := by
    rw [State.lanUp, hactive, decide_eq_true hk]
    rfl
  have hlost : s.lanLost k = (lockLost s k).eyeLeave k := if_neg (by rw [hup]; decide)
  unfold State.laneLost
  rw [hup, hlost]
  exact if_neg (by decide)

theorem within_lockLost (s : State) {k : Nat} (hk : k < 50) : Within [0x2A00, 0x2A11, 0x2A13, 0x2A18, 0x2A1A] s (lockLost s k) :=
  ((((((Within.setBit s _ _ (laneIndex hk) (by decide)).trans (.setBit _ _ _ (laneIndex hk) (by decide))).trans
    (.lanEnter _ _ hk (by decide) (by decide))).trans (.bump _ (laneIndex hk) (by decide))).trans
    (.put _ _ (laneIndex hk) (by decide))).trans (.raise _ _)).trans (.withLane _ _ _)

theorem linkFrame_lockLost (s : State) (k : Nat) : LinkFrame s (lockLost s k) :=
  ((LinkFrame.of_laneOnly (((((laneOnly_setBit s _ _ _).trans (laneOnly_setBit ..)).trans (laneOnly_lanEnter ..)).trans
    (laneOnly_bump ..)).trans (laneOnly_put ..))).trans (linkFrame_raise _ _)).trans (.of_laneOnly (laneOnly_withLane ..))

theorem get_lockLost (s : State) {k key : Nat} (hclean : key ≠ Obj.LAN_CLEAN_CYCLES k) (hloss : key ≠ Obj.LAN_LOCK_LOSS k) :
    (lockLost s k).get key =
      (((s.setBit (Obj.LAN_STATUS k) 0 false).setBit (Obj.LAN_STATUS k) 5 false).lanEnter k lanRelock).get key :=
  (State.get_put_ne _ _ hclean).trans ((State.get_bump ..).trans (if_neg hloss))

theorem state_lockLost (s : State) (k : Nat) : (lockLost s k).get (Obj.LAN_STATE k) = lanRelock := by
  rw [get_lockLost s (laneKey_ne (by decide)) (laneKey_ne (by decide)), get_lanEnter_state]

theorem awake_lockLost (s : State) (k : Nat) : (lockLost s k).bit (Obj.LAN_STATUS k) 5 = false := by
  rw [bit_congr (get_lockLost s (laneKey_ne (by decide)) (laneKey_ne (by decide))),
    bit_congr (get_lanEnter _ (ne_mapKey (by decide)) (laneKey_ne (by decide))), State.bit_setBit, if_pos rfl, if_pos rfl]

theorem count_lockLost (s : State) {k : Nat} (hk : k < 50) :
    (lockLost s k).get (Obj.LAN_LOCK_LOSS k) = min (s.get (Obj.LAN_LOCK_LOSS k) + 1) 0xFFFFFFFF := by
  have hbefore : Within [0x2A13, 0x2A11, 0x2A00] s
      (((s.setBit (Obj.LAN_STATUS k) 0 false).setBit (Obj.LAN_STATUS k) 5 false).lanEnter k lanRelock) :=
    ((Within.setBit s _ _ (laneIndex hk) (by decide)).trans (.setBit _ _ _ (laneIndex hk) (by decide))).trans
      (.lanEnter _ _ hk (by decide) (by decide))
  rw [← hbefore.get (laneIndex hk) (by decide)]
  exact (State.get_put_ne _ _ (laneKey_ne (by decide))).trans ((State.get_bump ..).trans (if_pos rfl))

theorem clean_lockLost (s : State) (k : Nat) : (lockLost s k).get (Obj.LAN_CLEAN_CYCLES k) = 0 := State.get_put_same ..

theorem pending_lockLost (s : State) {k : Nat} (hk : k < 50) : (lockLost s k).sourcePending (lockSource k) :=
  sourcePending_kept (lockSource_shared hk).1 (sourcePending_raise _ _) (.of_icu rfl)

theorem within_lossFollowed (s : State) (k : Nat) :
    Within [0x2900, 0x2913, 0x2914, 0x2916, 0x2918, 0x2921, 0x2923] s (lossFollowed s k) := by
  unfold lossFollowed
  split
  · exact .ite (.cascTrained s k (by decide) (by decide)) ((within_lineEnter s (by omega)).mono (by decide))
  · exact .refl s

theorem linkFrame_lossFollowed (s : State) (k : Nat) : LinkFrame s (lossFollowed s k) :=
  .ite (.ite (linkFrame_cascTrained s k) (linkFrame_lineEnter s _)) (.refl s)

theorem pairMode_lossFollowed {s : State} {k : Nat} (hk : k < 48) (hvalve : s.valvePair (k / 2) = true)
    (hring : s.pairMode (k / 2) = pairRing) : (lossFollowed s k).pairMode (k / 2) = pairLine := by
  have hcasc : s.cascLane k = false := by
    simp only [State.valvePair, Bool.and_eq_true, decide_eq_true_eq] at hvalve
    rw [State.cascLane, Bool.and_eq_false_iff]
    exact .inr (by simp; omega)
  unfold lossFollowed
  rw [if_pos hk, hcasc]
  exact pairMode_lineEnter hvalve hring

theorem valvePair_congr {a b : State} {p : Nat} (harm : b.get (Obj.LNK_PAIR_ARM p) = a.get (Obj.LNK_PAIR_ARM p))
    (hnodes : b.get (Obj.LNK_PAIR_NODES p) = a.get (Obj.LNK_PAIR_NODES p)) : b.valvePair p = a.valvePair p := by
  have hto : b.pairArm p = a.pairArm p := congrArg Int.toNat harm
  unfold State.valvePair
  rw [hto, hnodes]

/-- What a lane shows that has lost lock in ACTIVE (R251, R279). -/
structure LossShown (s u : State) (k : Nat) : Prop where
  state : u.lanState k = lanRelock
  awake : u.bit (Obj.LAN_STATUS k) 5 = false
  count : u.get (Obj.LAN_LOCK_LOSS k) = min (s.get (Obj.LAN_LOCK_LOSS k) + 1) 0xFFFFFFFF
  clean : u.get (Obj.LAN_CLEAN_CYCLES k) = 0
  line : k < 48 → s.valvePair (k / 2) = true → s.pairMode (k / 2) = pairRing → u.pairMode (k / 2) = pairLine
  pending : u.sourcePending (lockSource k)
  others : s.otherIndices u
    [0x2A00, 0x2A11, 0x2A13, 0x2A18, 0x2A1A, 0x2A23, 0x2A40, 0x2900, 0x2913, 0x2914, 0x2916, 0x2918, 0x2921, 0x2923]
  frame : LinkFrame s u

theorem laneLost_shows {s : State} {k : Nat} (hk : k < 50) (hactive : s.lanState k = lanActive) : LossShown s (s.laneLost k) k := by
  rw [laneLost_of_active hk hactive]
  have hlost := within_lockLost s hk
  have hleft := within_eyeLeave (lockLost s k) hk
  have hbefore : Within [0x2A00, 0x2A11, 0x2A13, 0x2A18, 0x2A1A, 0x2A40, 0x2A23] s ((lockLost s k).eyeLeave k) :=
    (hlost.mono (by decide)).trans (hleft.mono (by decide))
  have hfollowed := within_lossFollowed ((lockLost s k).eyeLeave k) k
  have hlater : Within [0x2A40, 0x2A23, 0x2900, 0x2913, 0x2914, 0x2916, 0x2918, 0x2921, 0x2923] (lockLost s k)
      (lossFollowed ((lockLost s k).eyeLeave k) k) := (hleft.mono (by decide)).trans (hfollowed.mono (by decide))
  refine ⟨?state, ?awake, ?count, ?clean, fun hk48 hvalve hring => ?line, ?pending, ?others,
    ((linkFrame_lockLost s k).trans (linkFrame_eyeLeave ..)).trans (linkFrame_lossFollowed ..)⟩
  case state =>
    rw [State.lanState, State.getN, hlater.get (laneIndex hk) (by decide), state_lockLost]
    rfl
  case awake => rw [bit_congr (hlater.get (laneIndex hk) (by decide)), awake_lockLost]
  case count => rw [hlater.get (laneIndex hk) (by decide), count_lockLost s hk]
  case clean => rw [hlater.get (laneIndex hk) (by decide), clean_lockLost]
  case line =>
    have hp : k / 2 < 24 := by omega
    have hget : ∀ {base}, base % 256 ≤ 206 → base / 256 < 0x3000 ∧ base / 256 ∉ [0x2A00, 0x2A11, 0x2A13, 0x2A18, 0x2A1A, 0x2A40, 0x2A23] →
        ((lockLost s k).eyeLeave k).get (base + k / 2) = s.get (base + k / 2) := fun hb hi => hbefore.get (pairIndex hp hb) hi
    refine pairMode_lossFollowed hk48 ?_ ?_
    · exact (valvePair_congr (hget (by decide) (by decide)) (hget (by decide) (by decide))).trans hvalve
    · exact (congrArg Int.toNat (hget (by decide) (by decide))).trans hring
  case pending => exact sourcePending_kept (lockSource_shared hk).1 (pending_lockLost s hk) hlater.pending
  case others => exact ((hlost.mono (by decide)).trans (hlater.mono (by decide))).others

/-- HI_BER shown where it counts as the loss. -/
def hiBerShown (s : State) (k : Nat) (hiBer : Bool) : State := if hiBer then s.setBit (Obj.LAN_STATUS k) 1 true else s

theorem lockLoss_effect {s : State} {t k : Nat} (hiBer : Bool) (hk : k < 50) (hactive : s.lanState k = lanActive) :
    exec (.laneLockLoss t k hiBer) s = .next (State.settle (s.land t) (hiBerShown ((s.land t).laneLost k) k hiBer)) := by
  have hup : (s.land t).lanUp k = true := by
    have hactive' : (s.land t).lanState k = lanActive := hactive
    rw [State.lanUp, hactive', decide_eq_true hk]
    rfl
  show execLaneLockLoss t k hiBer s = _
  refine done_of_effect ?_
  rw [hup]
  exact if_pos rfl

theorem lockLoss_shows (s : State) (t k : Nat) (hiBer : Bool) (hk : k < 50) (hactive : s.lanState k = lanActive) :
    ∃ u, exec (.laneLockLoss t k hiBer) s = .next (State.settle (s.land t) u) ∧
      u.lanState k = lanRelock ∧ u.get (Obj.LAN_LOCK_LOSS k) = min (s.get (Obj.LAN_LOCK_LOSS k) + 1) 0xFFFFFFFF ∧
      u.get (Obj.LAN_CLEAN_CYCLES k) = 0 ∧
      (k < 48 → s.valvePair (k / 2) = true → s.pairMode (k / 2) = pairRing → u.pairMode (k / 2) = pairLine) ∧
      (hiBer = true → u.bit (Obj.LAN_STATUS k) 1 = true) ∧ u.sourcePending (lockSource k) ∧
      s.otherIndices u
        [0x2A00, 0x2A11, 0x2A13, 0x2A18, 0x2A1A, 0x2A23, 0x2A40, 0x2900, 0x2913, 0x2914, 0x2916, 0x2918, 0x2921, 0x2923] ∧
      u = { s.land t with objs := u.objs, lan := u.lan, lnk := u.lnk, orb := u.orb, icu := u.icu } := by
  obtain ⟨hstate, -, hcount, hclean, hline, hpending, hothers, hframe⟩ := laneLost_shows (s := s.land t) hk hactive
  have hber : Within [0x2A13] ((s.land t).laneLost k) (hiBerShown ((s.land t).laneLost k) k hiBer) :=
    .ite (.setBit _ _ _ (laneIndex hk) (by decide)) (.refl _)
  refine ⟨_, lockLoss_effect hiBer hk hactive, ?state, ?count, ?clean, fun hk48 hvalve hring => ?line, fun hber => ?ber,
    sourcePending_kept (lockSource_shared hk).1 hpending hber.pending, fun key hlog hkey => ?others,
    hframe.trans (.ite (linkFrame_setBit _ _ _ _) (.refl _))⟩
  case state => exact (congrArg Int.toNat (hber.get (laneIndex hk) (by decide))).trans hstate
  case count => exact (hber.get (laneIndex hk) (by decide)).trans hcount
  case clean => exact (hber.get (laneIndex hk) (by decide)).trans hclean
  case line =>
    exact (congrArg Int.toNat (hber.get (pairIndex (by omega)) (by decide))).trans (hline hk48 hvalve hring)
  case ber =>
    rw [hiBerShown, if_pos hber, State.bit_setBit, if_pos rfl, if_pos rfl]
  case others =>
    have hstatus : key / 256 ∉ [0x2A13] := fun hin => hkey (by rw [List.mem_singleton.1 hin]; decide)
    exact (hber.others key hlog hstatus).trans (hothers key hlog hkey)

theorem lockLoss_early {s : State} {t k : Nat} {l : Lane} (hiBer : Bool) (h : s.lane k = some l)
    (hstate : s.lanState k = lanTrain ∨ s.lanState k = lanVerify) (hfirst : l.attempt = 1) :
    exec (.laneLockLoss t k hiBer) s = .next (State.settle (s.land t) ((s.land t).lanAttempt k 2)) := by
  have hrange : 3 ≤ (s.land t).lanState k ∧ (s.land t).lanState k ≤ 4 := by
    rcases hstate with hst | hst
    · have : (s.land t).lanState k = 3 := hst
      omega
    · have : (s.land t).lanState k = 4 := hst
      omega
  have hdown : (s.land t).lanUp k = false := by
    rw [State.lanUp, Bool.and_eq_false_iff]
    exact .inr (decide_eq_false fun hactive => absurd (hactive.symm.trans_le hrange.2) (by decide))
  have hearly : (s.land t).lanLostEarly k = (s.land t).lanFail k := if_pos hstate
  show execLaneLockLoss t k hiBer s = _
  refine done_of_effect ?_
  rw [hdown, hearly, lanFail_of_first (s := s.land t) h hfirst (by omega) hrange.2]
  rfl

theorem rxWakeTimeout_shows (s : State) (t k : Nat) (hk : k < 50) (hactive : s.lanState k = lanActive)
    (hasleep : s.bit (Obj.LAN_STATUS k) 5 = true) :
    ∃ u, exec (.laneRxWakeTimeout t k) s = .next (State.settle (s.land t) u) ∧
      u.lanState k = lanRelock ∧ u.bit (Obj.LAN_STATUS k) 5 = false ∧
      u.get (Obj.LAN_LOCK_LOSS k) = min (s.get (Obj.LAN_LOCK_LOSS k) + 1) 0xFFFFFFFF ∧ u.sourcePending (lockSource k) ∧
      s.otherIndices u
        [0x2A00, 0x2A11, 0x2A13, 0x2A18, 0x2A1A, 0x2A23, 0x2A40, 0x2900, 0x2913, 0x2914, 0x2916, 0x2918, 0x2921, 0x2923] ∧
      u = { s.land t with objs := u.objs, lan := u.lan, lnk := u.lnk, orb := u.orb, icu := u.icu } := by
  have heffect : exec (.laneRxWakeTimeout t k) s = .next (State.settle (s.land t) ((s.land t).laneLost k)) := by
    have hasleep' : (s.land t).bit (Obj.LAN_STATUS k) 5 = true := hasleep
    show execLaneRxWakeTimeout t k s = _
    refine done_of_effect ?_
    rw [hasleep']
    exact if_pos rfl
  obtain ⟨hstate, hawake, hcount, -, -, hpending, hothers, hframe⟩ := laneLost_shows (s := s.land t) hk hactive
  exact ⟨_, heffect, hstate, hawake, hcount, hpending, hothers, hframe⟩

end Sys2Proof.Proofs
end

section
/-!
PROOF. A lane that relocks or is lost, and its sleep and error rate (O37; R280, R282, R288, R289).
-/

namespace Sys2Proof.Proofs

open Sys2Proof Sys2Proof.Machine

/-! ## Relock -/

/-- A lane that has its lock again. -/
def relockShown (s : State) (k : Nat) : State :=
  (((s.setBit (Obj.LAN_STATUS k) 0 true).setBit (Obj.LAN_STATUS k) 1 false).lanEnter k lanActive).raise (lockSource k)

/-- The relock counted as transient (R280). -/
def relockCounted (s : State) (k : Nat) : State :=
  (((relockShown s k).bump (Obj.LAN_RELOCK_TRANSIENT k)).siteOutcome 0x05 (lockSource k) k [] false).lanPairRate k

theorem lanLock_of_relock {s : State} {k : Nat} (hk : k < 50) (hstate : s.lanState k = lanRelock) : s.lanLock k = relockCounted s k := by
  have hopen : ¬(s.lanState k = lanDisabled ∨ s.lanState k = lanDown ∨ 50 ≤ k) := by
    rw [hstate]
    rintro (h | h | h)
    · cases h
    · cases h
    · omega
  have hswitch : s.lanState k ≠ lanSwitch := by
    rw [hstate]
    decide
  exact (if_neg hopen).trans ((if_neg hswitch).trans (if_pos hstate))

theorem get_relockShown (s : State) {k key : Nat} (hmap : key ≠ Obj.LAN_ACTIVE_MAP) (hstate : key ≠ Obj.LAN_STATE k) :
    (relockShown s k).get key = ((s.setBit (Obj.LAN_STATUS k) 0 true).setBit (Obj.LAN_STATUS k) 1 false).get key := by
  rw [relockShown, State.get_raise, get_lanEnter _ hmap hstate]

theorem lock_relockShown (s : State) (k : Nat) : (relockShown s k).bit (Obj.LAN_STATUS k) 0 = true := by
  rw [bit_congr (get_relockShown s (ne_mapKey (by decide)) (laneKey_ne (by decide))), State.bit_setBit, if_pos rfl, if_neg (by decide),
    State.bit_setBit, if_pos rfl, if_pos rfl]

theorem within_relockShown (s : State) {k : Nat} (hk : k < 50) : Within [0x2A00, 0x2A11, 0x2A13] s (relockShown s k) :=
  (((Within.setBit s _ _ (laneIndex hk) (by decide)).trans (.setBit _ _ _ (laneIndex hk) (by decide))).trans
    (.lanEnter _ _ hk (by decide) (by decide))).trans (.raise _ _)

theorem laneFrame_relockShown (s : State) (k : Nat) : LaneFrame s (relockShown s k) :=
  LaneFrame.trans (.of_laneOnly (((laneOnly_setBit s _ _ _).trans (laneOnly_setBit ..)).trans (laneOnly_lanEnter ..))) rfl

/-- The comparison of a pair changes RATE_MISMATCH alone of a lane's status. -/
theorem lock_lanPairRate (s : State) (k : Nat) {j : Nat} (hj : j < 50) :
    (s.lanPairRate k).bit (Obj.LAN_STATUS j) 0 = s.bit (Obj.LAN_STATUS j) 0 := by
  have hport : ∀ (x : State) i bad, ((if (bad && !x.bit (Obj.LAN_STATUS i) 3) = true then x.lanEvent i 6 else x).setBit
      (Obj.LAN_STATUS i) 3 bad).bit (Obj.LAN_STATUS j) 0 = x.bit (Obj.LAN_STATUS j) 0 := fun x i bad => by
    have hlast : Obj.LAN_STATUS j ≠ Obj.LAN_LAST_EVENT i := by
      unfold Obj.LAN_STATUS Obj.LAN_LAST_EVENT
      omega
    have hevent : (if (bad && !x.bit (Obj.LAN_STATUS i) 3) = true then x.lanEvent i 6 else x).get (Obj.LAN_STATUS j) =
        x.get (Obj.LAN_STATUS j) := by
      split
      · exact get_lanEvent x 6 hlast
      · rfl
    rw [State.bit_setBit, if_neg (show ¬(0 : Nat) = 3 by decide)]
    split
    · next hij =>
      rw [← hij] at hevent ⊢
      exact bit_congr hevent 0
    · exact bit_congr hevent 0
  unfold State.lanPairRate
  extract_lets a r bad
  split
  · rfl
  · exact (hport _ (a + 1) bad).trans (hport s a bad)

/-- What a lane shows that has its lock again (R280). -/
structure RelockShown (s u : State) (k : Nat) : Prop where
  state : u.lanState k = lanActive
  lock : u.bit (Obj.LAN_STATUS k) 0 = true
  count : u.get (Obj.LAN_RELOCK_TRANSIENT k) = min (s.get (Obj.LAN_RELOCK_TRANSIENT k) + 1) 0xFFFFFFFF
  pending : u.sourcePending (lockSource k)
  others : s.otherIndices u [0x2A00, 0x2A11, 0x2A13, 0x2A1B, 0x2A23, 0x2921, 0x2923]
  frame : LaneFrame s u

theorem state_relockShown (s : State) (k : Nat) : (relockShown s k).get (Obj.LAN_STATE k) = lanActive := by
  rw [relockShown, State.get_raise, get_lanEnter_state]

theorem pending_relockShown (s : State) (k : Nat) : (relockShown s k).sourcePending (lockSource k) := sourcePending_raise _ _

/-- The relock counted as transient, before the pair is compared. -/
def relockLogged (s : State) (k : Nat) : State :=
  (s.bump (Obj.LAN_RELOCK_TRANSIENT k)).siteOutcome 0x05 (lockSource k) k [] false

theorem relockCounted_eq (s : State) (k : Nat) : relockCounted s k = (relockLogged (relockShown s k) k).lanPairRate k := rfl

theorem within_siteOf05 (s : State) (k : Nat) (indices : List Nat) :
    Within indices (s.bump (Obj.LAN_RELOCK_TRANSIENT k)) (relockLogged s k) := .siteOutcome _ _ _ _ _ _ (by decide)

theorem within_relockLogged (s : State) {k : Nat} (hk : k < 50) : Within [0x2A1B] s (relockLogged s k) :=
  (Within.bump s (laneIndex hk) (by decide)).trans (within_siteOf05 s k _)

theorem laneFrame_relockLogged (s : State) (k : Nat) : LaneFrame s (relockLogged s k) :=
  LaneFrame.trans (.of_laneOnly (laneOnly_bump s _)) (laneFrame_siteOutcome _ _ _ _ _ _ (by decide))

theorem count_relockLogged (s : State) {k : Nat} (hk : k < 50) :
    (relockLogged s k).get (Obj.LAN_RELOCK_TRANSIENT k) = min (s.get (Obj.LAN_RELOCK_TRANSIENT k) + 1) 0xFFFFFFFF := by
  rw [(within_siteOf05 s k []).get (laneIndex hk) (by decide), State.get_bump, if_pos rfl]

theorem relock_shows (s : State) {k : Nat} (hk : k < 50) : RelockShown s ((relockCounted s k).laneUp k) k := by
  rw [relockCounted_eq]
  have hshown := within_relockShown s hk
  have hlogged := within_relockLogged (relockShown s k) hk
  have hpair : Within [0x2A13, 0x2A23] (relockLogged (relockShown s k) k) ((relockLogged (relockShown s k) k).lanPairRate k) :=
    .lanPairRate _ k (by decide) (by decide)
  have hup : Within [0x2921, 0x2923] ((relockLogged (relockShown s k) k).lanPairRate k)
      (((relockLogged (relockShown s k) k).lanPairRate k).laneUp k) := .laneUp _ k (by decide) (by decide)
  have hlast : Within [0x2A13, 0x2A23, 0x2921, 0x2923] (relockLogged (relockShown s k) k)
      (((relockLogged (relockShown s k) k).lanPairRate k).laneUp k) := (hpair.mono (by decide)).trans (hup.mono (by decide))
  have hlater : Within [0x2A1B, 0x2A13, 0x2A23, 0x2921, 0x2923] (relockShown s k)
      (((relockLogged (relockShown s k) k).lanPairRate k).laneUp k) := (hlogged.mono (by decide)).trans (hlast.mono (by decide))
  refine ⟨?state, ?lock, ?count, ?pending, ?others, (((laneFrame_relockShown s k).trans (laneFrame_relockLogged ..)).trans
    (laneFrame_lanPairRate ..)).trans (laneFrame_laneUp ..)⟩
  case state =>
    rw [State.lanState, State.getN, hlater.get (laneIndex hk) (by decide), state_relockShown]
    rfl
  case lock =>
    rw [bit_congr (hup.get (laneIndex hk) (by decide)), lock_lanPairRate _ k hk, bit_congr (hlogged.get (laneIndex hk) (by decide)),
      lock_relockShown]
  case count =>
    rw [hlast.get (laneIndex hk) (by decide), count_relockLogged _ hk, hshown.get (laneIndex hk) (by decide)]
  case pending => exact sourcePending_kept (lockSource_shared hk).1 (pending_relockShown s k) hlater.pending
  case others => exact ((hshown.mono (by decide)).trans (hlater.mono (by decide))).others

theorem state_relockCounted (s : State) {k : Nat} (hk : k < 50) : (relockCounted s k).lanState k = lanActive := by
  have hpair : Within [0x2A13, 0x2A23] (relockLogged (relockShown s k) k) ((relockLogged (relockShown s k) k).lanPairRate k) :=
    .lanPairRate _ k (by decide) (by decide)
  have hlater := ((within_relockLogged (relockShown s k) hk).mono (more := [0x2A1B, 0x2A13, 0x2A23]) (by decide)).trans
    (hpair.mono (by decide))
  rw [relockCounted_eq, State.lanState, State.getN, hlater.get (laneIndex hk) (by decide), state_relockShown]
  rfl

theorem blockLock_relocks (s : State) (t k : Nat) (hk : k < 50) (hstate : s.lanState k = lanRelock) :
    ∃ u, exec (.laneBlockLock t k) s = .next (State.settle (s.land t) u) ∧
      u.lanState k = lanActive ∧ u.bit (Obj.LAN_STATUS k) 0 = true ∧
      u.get (Obj.LAN_RELOCK_TRANSIENT k) = min (s.get (Obj.LAN_RELOCK_TRANSIENT k) + 1) 0xFFFFFFFF ∧
      u.sourcePending (lockSource k) ∧ s.otherIndices u [0x2A00, 0x2A11, 0x2A13, 0x2A1B, 0x2A23, 0x2921, 0x2923] ∧
      u = { s.land t with objs := u.objs, lan := u.lan, icu := u.icu, log := u.log, flash := u.flash, dict := u.dict, out := u.out } := by
  have heffect : exec (.laneBlockLock t k) s = .next (State.settle (s.land t) ((relockCounted (s.land t) k).laneUp k)) := by
    have hdown : (s.land t).lanUp k = false := by
      have hstate' : (s.land t).lanState k = lanRelock := hstate
      rw [State.lanUp, hstate', decide_eq_true hk]
      rfl
    have hup : (relockCounted (s.land t) k).lanUp k = true := by
      rw [State.lanUp, state_relockCounted _ hk, decide_eq_true hk]
      rfl
    show execLaneBlockLock t k s = _
    refine done_of_effect ?_
    rw [lanLock_of_relock (s := s.land t) hk hstate]
    dsimp only
    rw [hdown, hup]
    rfl
  obtain ⟨hactive, hlock, hcount, hpending, hothers, hframe⟩ := relock_shows (s.land t) hk
  exact ⟨_, heffect, hactive, hlock, hcount, hpending, hothers, hframe⟩

/-! ## Lasting loss -/

/-- A lane that has not relocked, before the logbook has it (R280). -/
def relockFailed (s : State) (k : Nat) : State :=
  (((s.lanClear k).lanEnter k lanDown).put (Obj.LAN_RATE_NOW k) 0xFF).lanEvent k 3

theorem get_relockFailed (s : State) {k key : Nat} (hlast : key ≠ Obj.LAN_LAST_EVENT k) (hrate : key ≠ Obj.LAN_RATE_NOW k) :
    (relockFailed s k).get key = ((s.lanClear k).lanEnter k lanDown).get key := by
  rw [relockFailed, get_lanEvent _ _ hlast, State.get_put_ne _ _ hrate]

theorem laneFrame_relockFailed (s : State) (k : Nat) : LaneFrame s (relockFailed s k) :=
  LaneFrame.trans (.of_laneOnly (((laneOnly_put s _ _).trans (laneOnly_lanEnter _ k _)).trans (laneOnly_put ..)))
    (laneFrame_lanEvent ..)

theorem relockTimeout_effect {s : State} {t k : Nat} {l : Lane} (h : s.lane k = some l) (hstate : s.lanState k = lanRelock)
    (hpast : l.stateAt + 1000000 ≤ (s.land t).now) :
    exec (.laneStateTimeout t k) s =
      .next (State.settle (s.land t) ((relockFailed (s.land t) k).siteOutcome 0x05 (lockSource k + 1) k [] true)) := by
  have hfor : (s.land t).laneFor k 1 = true := laneFor_of_passed (s := s.land t) h hpast
  have hfailed : (s.land t).lanTimeout k = (relockFailed (s.land t) k).siteOutcome 0x05 (lockSource k + 1) k [] true := if_pos hstate
  have hlimit : laneLimit ((s.land t).lanState k) = some 1 := by
    have hstate' : (s.land t).lanState k = lanRelock := hstate
    rw [hstate']
    rfl
  show execLaneStateTimeout t k s = _
  refine done_of_effect ?_
  rw [hlimit]
  dsimp only
  rw [hfor, if_pos rfl, hfailed]

theorem relockTimeout_shows (s : State) (t k : Nat) (l : Lane) (hk : k < 50) (h : s.lane k = some l) (hstate : s.lanState k = lanRelock)
    (hpast : l.stateAt + 1000000 ≤ (s.land t).now) :
    ∃ u, exec (.laneStateTimeout t k) s = .next (State.settle (s.land t) u) ∧
      u.lanState k = lanDown ∧ u.get (Obj.LAN_RATE_NOW k) = 0xFF ∧ u.get (Obj.LAN_LAST_EVENT k) = 3 ∧
      u.sourcePending (lockSource k + 1) ∧
      s.entriesBut u [Obj.LAN_STATE k, Obj.LAN_STATUS k, Obj.LAN_ACTIVE_MAP, Obj.LAN_RATE_NOW k, Obj.LAN_LAST_EVENT k] ∧
      u = { s.land t with objs := u.objs, lan := u.lan, icu := u.icu, log := u.log, flash := u.flash, dict := u.dict, out := u.out } := by
  have hsite : Within [] (relockFailed (s.land t) k) ((relockFailed (s.land t) k).siteOutcome 0x05 (lockSource k + 1) k [] true) :=
    .siteOutcome _ _ _ _ _ _ (by decide)
  refine ⟨_, relockTimeout_effect h hstate hpast, ?state, ?rate, ?event, ?pending, fun key hlog hkey => ?others,
    (laneFrame_relockFailed ..).trans (laneFrame_siteOutcome _ _ _ _ _ _ (by decide))⟩
  case state =>
    rw [State.lanState, State.getN, hsite.get (laneIndex hk) (by decide), get_relockFailed _ (laneKey_ne (by decide))
      (laneKey_ne (by decide)), get_lanEnter_state]
    rfl
  case rate =>
    rw [hsite.get (laneIndex hk) (by decide), relockFailed, get_lanEvent _ _ (laneKey_ne (by decide)), State.get_put_same]
  case event =>
    rw [hsite.get (laneIndex hk) (by decide), relockFailed, get_lanEvent_same]
    rfl
  case pending => exact sourcePending_kept (lockSource_shared hk).2 (sourcePending_lanEvent _ hk 3) hsite.pending
  case others =>
    simp only [List.mem_cons, List.not_mem_nil, or_false, not_or] at hkey
    obtain ⟨hst, hstatus, hmap, hrate, hlast⟩ := hkey
    rw [hsite.others key hlog (by simp), get_relockFailed _ hlast hrate, get_lanEnter _ hmap hst, get_lanClear _ hstatus, State.get_land]

/-! ## Sleep -/

theorem lanUp_of_active {s : State} {k : Nat} (hk : k < 50) (hactive : s.lanState k = lanActive) : s.lanUp k = true := by
  rw [State.lanUp, hactive, decide_eq_true hk]
  rfl

theorem eyeLeave_laneEntries (s : State) {k key : Nat} (heye : key ≠ Obj.LAN_EYE_STATUS) (hlast : key ≠ Obj.LAN_LAST_EVENT k) :
    (s.eyeLeave k).get key = s.get key := by
  rcases eyeLeave_cases s k with h | h
  · rw [h]
  · rw [h, get_lanEvent _ _ hlast, State.get_put_ne _ _ heye]
    rfl

theorem eyeLeave_frame (s : State) (k : Nat) :
    s.eyeLeave k = { s with objs := (s.eyeLeave k).objs, lan := (s.eyeLeave k).lan, icu := (s.eyeLeave k).icu } := by
  rcases eyeLeave_cases s k with h | h
  · rw [h]
  · rw [h]
    rfl

theorem sleepReceive_shows (s : State) (t k : Nat) (hk : k < 50) (hactive : s.lanState k = lanActive) (hsleeps : s.lanSleeps k = true) :
    ∃ u, exec (.laneSleepReceive t k) s = .next (State.settle (s.land t) u) ∧
      u.bit (Obj.LAN_STATUS k) 5 = true ∧ u.lanState k = lanActive ∧
      s.onlyEntries u [Obj.LAN_STATUS k, Obj.LAN_EYE_STATUS, Obj.LAN_LAST_EVENT k] ∧
      u = { s.land t with objs := u.objs, lan := u.lan, icu := u.icu } := by
  have heffect : exec (.laneSleepReceive t k) s =
      .next (State.settle (s.land t) (((s.land t).setBit (Obj.LAN_STATUS k) 5 true).eyeLeave k)) := by
    have hup : (s.land t).lanUp k = true := lanUp_of_active (s := s.land t) hk hactive
    have hsleeps' : (s.land t).lanSleeps k = true := hsleeps
    have hasleep : (s.land t).lanSleep k = ((s.land t).setBit (Obj.LAN_STATUS k) 5 true).eyeLeave k := by
      rw [State.lanSleep, hup, hsleeps', if_pos rfl, if_pos rfl]
    show execLaneSleepReceive t k s = _
    exact done_of_effect hasleep
  have hleft : ∀ {key}, key ≠ Obj.LAN_EYE_STATUS → key ≠ Obj.LAN_LAST_EVENT k →
      (((s.land t).setBit (Obj.LAN_STATUS k) 5 true).eyeLeave k).get key = ((s.land t).setBit (Obj.LAN_STATUS k) 5 true).get key :=
    eyeLeave_laneEntries _
  refine ⟨_, heffect, ?asleep, ?state, fun key hkey => ?others, (eyeLeave_frame _ k).trans rfl⟩
  case asleep =>
    have hstatus : Obj.LAN_STATUS k ≠ Obj.LAN_EYE_STATUS := by
      unfold Obj.LAN_STATUS Obj.LAN_EYE_STATUS
      omega
    rw [bit_congr (hleft hstatus (laneKey_ne (by decide))), State.bit_setBit, if_pos rfl, if_pos rfl]
  case state =>
    have hstate : Obj.LAN_STATE k ≠ Obj.LAN_EYE_STATUS := by
      unfold Obj.LAN_STATE Obj.LAN_EYE_STATUS
      omega
    rw [← hactive, State.lanState, State.lanState, State.getN, hleft hstate (laneKey_ne (by decide)), State.get_setBit,
      if_neg (laneKey_ne (by decide))]
    rfl
  case others =>
    simp only [List.mem_cons, List.not_mem_nil, or_false, not_or] at hkey
    obtain ⟨hstatus, heye, hlast⟩ := hkey
    rw [hleft heye hlast, State.get_setBit, if_neg hstatus, State.get_land]

theorem txSleep_shows (s : State) (t k : Nat) (hk : k < 50) (hactive : s.lanState k = lanActive) (hsleeps : s.lanSleeps k = true)
    (hset : s.bit (Obj.LAN_SLEEP_CFG k) 0 = true) (hawake : s.bit (Obj.LAN_STATUS k) 4 = false) :
    ∃ u, exec (.laneTxSleep t k) s = .next (State.settle (s.land t) u) ∧
      u.bit (Obj.LAN_STATUS k) 4 = true ∧ u.get (Obj.LAN_SLEEP_COUNT k) = min (s.get (Obj.LAN_SLEEP_COUNT k) + 1) 0xFFFFFFFF ∧
      u.out = [Out.lane k 0xC5 0] ∧ s.onlyEntries u [Obj.LAN_STATUS k, Obj.LAN_SLEEP_COUNT k] ∧
      u = { s.land t with objs := u.objs, out := u.out } := by
  have heffect : exec (.laneTxSleep t k) s = .next (State.settle (s.land t)
      ((((s.land t).emit (.lane k 0xC5 0)).setBit (Obj.LAN_STATUS k) 4 true).bump (Obj.LAN_SLEEP_COUNT k))) := by
    have hup : (s.land t).lanUp k = true := lanUp_of_active (s := s.land t) hk hactive
    have hsleeps' : (s.land t).lanSleeps k = true := hsleeps
    have hset' : (s.land t).bit (Obj.LAN_SLEEP_CFG k) 0 = true := hset
    have hawake' : (s.land t).bit (Obj.LAN_STATUS k) 4 = false := hawake
    show execLaneTxSleep t k s = _
    refine done_of_effect ?_
    rw [State.lanTxSleep, hup, hsleeps', hset', hawake']
    rfl
  refine ⟨_, heffect, ?asleep, ?count, rfl, fun key hkey => ?others, rfl⟩
  case asleep =>
    have hkept := State.get_bump (((s.land t).emit (.lane k 0xC5 0)).setBit (Obj.LAN_STATUS k) 4 true) (Obj.LAN_SLEEP_COUNT k)
      (Obj.LAN_STATUS k)
    rw [if_neg (laneKey_ne (by decide))] at hkept
    rw [bit_congr hkept, State.bit_setBit, if_pos rfl, if_pos rfl]
  case count =>
    rw [State.get_bump, if_pos rfl, State.get_setBit, if_neg (laneKey_ne (by decide))]
    rfl
  case others =>
    simp only [List.mem_cons, List.not_mem_nil, or_false, not_or] at hkey
    rw [State.get_bump, if_neg hkey.2, State.get_setBit, if_neg hkey.1]
    rfl

theorem txWake_shows (s : State) (t k : Nat) (hasleep : s.bit (Obj.LAN_STATUS k) 4 = true) :
    ∃ u, exec (.laneTxWake t k) s = .next (State.settle (s.land t) u) ∧
      u.bit (Obj.LAN_STATUS k) 4 = false ∧ u.out = [Out.lane k 0 1] ∧ s.onlyEntries u [Obj.LAN_STATUS k] ∧
      u = { s.land t with objs := u.objs, out := u.out } := by
  have heffect : exec (.laneTxWake t k) s =
      .next (State.settle (s.land t) (((s.land t).setBit (Obj.LAN_STATUS k) 4 false).emit (.lane k 0 1))) := by
    show execLaneTxWake t k s = _
    exact done_of_effect (if_pos hasleep)
  refine ⟨_, heffect, ?awake, rfl, fun key hkey => ?others, rfl⟩
  case awake =>
    have hset := State.bit_setBit (s.land t) (Obj.LAN_STATUS k) 4 (Obj.LAN_STATUS k) 4 false
    rw [if_pos rfl, if_pos rfl] at hset
    exact hset
  case others => exact (State.get_setBit ..).trans (if_neg (List.ne_of_not_mem_cons hkey))

/-! ## The minute -/

theorem berMinute_shows (s : State) (t k : Nat) (l : Lane) (j : Nat) (hk : k < 50) (h : s.lane k = some l)
    (hactive : s.lanState k = lanActive) (hbin : berBin l.headers (60 * laneRate (s.getN (Obj.LAN_RATE_NOW k))) = j) :
    ∃ u, exec (.laneBerMinute t k) s = .next (State.settle (s.land t) u) ∧
      u.get (Obj.LOG_HIST (15 + k) j) = min (s.get (Obj.LOG_HIST (15 + k) j) + 1) 0xFFFFFFFFFFFFFFFF ∧
      (u.lane k).map (·.headers) = some 0 ∧ s.onlyEntries u [Obj.LOG_HIST (15 + k) j] ∧
      u = { s.land t with objs := u.objs, lan := u.lan } := by
  have hup : (s.land t).lanUp k = true := lanUp_of_active (s := s.land t) hk hactive
  have hlane : (s.land t).lane k = some l := h
  have hminute : (s.land t).lanMinute k =
      ((s.land t).add64 (Obj.LOG_HIST (15 + k) j) 1).withLane k fun l => { l with headers := 0 } := by
    unfold State.lanMinute
    rw [hlane]
    dsimp -zeta only
    rw [hup, if_neg (by decide), ← hbin]
    rfl
  have hreset := lane_withLane (s := (s.land t).add64 (Obj.LOG_HIST (15 + k) j) 1) (fun x => { x with headers := 0 }) hlane
  refine ⟨(s.land t).lanMinute k, rfl, ?_⟩
  rw [hminute]
  exact ⟨State.get_put_same .., (congrArg (Option.map _) hreset).trans rfl,
    fun key hkey => State.get_put_ne _ _ (List.ne_of_not_mem_cons hkey), rfl⟩

end Sys2Proof.Proofs
end

section
/-!
PROOF. Eye scans and loopbacks of a lane (O37; R283 to R287).
-/

namespace Sys2Proof.Proofs

open Sys2Proof Sys2Proof.Machine

/-! ## Scans -/

theorem row_eyeStart :
    ∃ row, Obj.rowOf Obj.LAN_EYE_START = some row ∧ row.access = .wo ∧ ObjType.value row.type (ObjType.bytes row.type 1) = 1 :=
  ⟨_, rfl, rfl, rfl⟩

theorem row_eyeAbort :
    ∃ row, Obj.rowOf Obj.LAN_EYE_ABORT = some row ∧ row.access = .wo ∧ ObjType.value row.type (ObjType.bytes row.type 1) = 1 :=
  ⟨_, rfl, rfl, rfl⟩

theorem eyeStart_effect {s : State} {t : Nat} {f : Sender} (hwrite : s.takesWrite t f Obj.LAN_EYE_START 1 = true) :
    exec (.lanEyeStart t f) s = .next (State.settle (s.land t) (((s.land t).heard f).eyeStart.emit .done)) := by
  obtain ⟨row, hrow, hwo, hval⟩ := row_eyeStart
  have hcommand : ((s.land t).heard f).command f .plain Obj.LAN_EYE_START 1 (ObjType.bytes row.type 1) none =
      ((s.land t).heard f).eyeStart := rfl
  show execLanEyeStart t f s = _
  refine done_of_effect ?_
  rw [writeEntry_command_of_takesWrite hrow hwo (fun _ => rfl) hval hwrite, hcommand]

theorem eyeAbort_effect {s : State} {t : Nat} {f : Sender} (hwrite : s.takesWrite t f Obj.LAN_EYE_ABORT 1 = true) :
    exec (.lanEyeAbort t f) s = .next (State.settle (s.land t) (((s.land t).heard f).eyeAbort.emit .done)) := by
  obtain ⟨row, hrow, hwo, hval⟩ := row_eyeAbort
  have hcommand : ((s.land t).heard f).command f .plain Obj.LAN_EYE_ABORT 1 (ObjType.bytes row.type 1) none =
      ((s.land t).heard f).eyeAbort := rfl
  show execLanEyeAbort t f s = _
  refine done_of_effect ?_
  rw [writeEntry_command_of_takesWrite hrow hwo (fun _ => rfl) hval hwrite, hcommand]

/-- The scan of the selected lane as it starts (R283). -/
def eyeOf (s : State) : Eye :=
  { lane := s.getN Obj.LAN_EYE_LANE, rate := s.getN (Obj.LAN_RATE_NOW (s.getN Obj.LAN_EYE_LANE)), dwell := s.getN Obj.LAN_EYE_DWELL,
    gen := 0, start := s.time32, taps := s.getN (Obj.LAN_TX_TAPS (s.getN Obj.LAN_EYE_LANE)), startAt := s.now, counts := [] }

theorem eyeStart_eq (s : State) : s.eyeStart =
    ({ s with lan := { s.lan with scan := some (eyeOf s) } }.put Obj.LAN_EYE_STATUS 1).put Obj.LAN_EYE_PROGRESS 0 := rfl

theorem eyeStart_shows (s : State) (t : Nat) (f : Sender) (hwrite : s.takesWrite t f Obj.LAN_EYE_START 1 = true) :
    ∃ u, exec (.lanEyeStart t f) s = .next (State.settle (s.land t) u) ∧
      (u.lan.scan.map (fun e => (e.lane, e.rate, e.dwell, e.taps)) =
        some (s.getN Obj.LAN_EYE_LANE, s.getN (Obj.LAN_RATE_NOW (s.getN Obj.LAN_EYE_LANE)), s.getN Obj.LAN_EYE_DWELL,
          s.getN (Obj.LAN_TX_TAPS (s.getN Obj.LAN_EYE_LANE)))) ∧
      u.get Obj.LAN_EYE_STATUS = 1 ∧ u.get Obj.LAN_EYE_PROGRESS = 0 ∧ u.out = [Out.done] ∧
      s.onlyEntries u [Obj.LAN_EYE_STATUS, Obj.LAN_EYE_PROGRESS] ∧
      u = { s.land t with objs := u.objs, lan := u.lan, dict := u.dict, out := u.out } := by
  have heffect := eyeStart_effect hwrite
  rw [eyeStart_eq] at heffect
  refine ⟨_, heffect, rfl, ?status, ?progress, rfl, fun key hkey => ?others, rfl⟩
  case status => rw [State.get_emit, State.get_put_ne _ _ (by decide), State.get_put_same]
  case progress => rw [State.get_emit, State.get_put_same]
  case others =>
    simp only [List.mem_cons, List.not_mem_nil, or_false, not_or] at hkey
    rw [State.get_emit, State.get_put_ne _ _ hkey.2, State.get_put_ne _ _ hkey.1]
    rfl

theorem eyeAbort_shows (s : State) (t : Nat) (f : Sender) (e : Eye) (hwrite : s.takesWrite t f Obj.LAN_EYE_ABORT 1 = true)
    (hscan : s.lan.scan = some e) (hlane : e.lane < 50) :
    ∃ u, exec (.lanEyeAbort t f) s = .next (State.settle (s.land t) u) ∧
      u.lan.scan = none ∧ u.get Obj.LAN_EYE_STATUS = 3 ∧ u.get (Obj.LAN_LAST_EVENT e.lane) = 5 ∧
      u.sourcePending (lockSource e.lane + 1) ∧ u.out = [Out.done] ∧
      s.onlyEntries u [Obj.LAN_EYE_STATUS, Obj.LAN_LAST_EVENT e.lane] ∧
      u = { s.land t with objs := u.objs, lan := u.lan, icu := u.icu, dict := u.dict, out := u.out } := by
  have hscan' : ((s.land t).heard f).lan.scan = some e := hscan
  have heffect := eyeAbort_effect hwrite
  rw [eyeAbort_eq hscan'] at heffect
  have hlast : Obj.LAN_EYE_STATUS ≠ Obj.LAN_LAST_EVENT e.lane := by
    unfold Obj.LAN_EYE_STATUS Obj.LAN_LAST_EVENT
    omega
  refine ⟨_, heffect, rfl, ?status, get_lanEvent_same .., sourcePending_lanEvent _ hlane 5, rfl, fun key hkey => ?others, rfl⟩
  case status => exact (get_lanEvent _ 5 hlast).trans (State.get_put_same ..)
  case others =>
    simp only [List.mem_cons, List.not_mem_nil, or_false, not_or] at hkey
    exact (get_lanEvent _ 5 hkey.2).trans ((State.get_put_ne _ _ hkey.1).trans rfl)

/-- The result of a scan (R283, R285). -/
def eyeResult (e : Eye) (g : Nat) (counts : List (Nat × Nat)) : Eye :=
  { e with gen := (g + 1) % 2 ^ 32, counts := counts.map fun c => (c.1, min c.2 0xFFFFFFFF) }

/-- The result of a scan shown. -/
def eyeShown (s : State) (r : Eye) : State :=
  (((({ s with lan := { s.lan with scan := none, result := some r } }.put Obj.LAN_EYE_STATUS 2).put Obj.LAN_EYE_PROGRESS 8192).put
    Obj.LAN_EYE_GEN r.gen).put Obj.LAN_EYE_WIDTH r.width).put Obj.LAN_EYE_HEIGHT r.height

theorem eyeDone_eq {s : State} {e : Eye} {g : Nat} (counts : List (Nat × Nat)) (hscan : s.lan.scan = some e)
    (hgen : (if s.hasData Obj.LAN_EYE_GEN then s.getN Obj.LAN_EYE_GEN else 0) = g) :
    s.eyeDone counts = (eyeShown s (eyeResult e g counts)).lanEvent e.lane 4 := by
  unfold State.eyeDone
  rw [hscan, ← hgen]
  rfl

theorem eyeScanComplete_shows (s : State) (t : Nat) (counts : List (Nat × Nat)) (e : Eye) (g : Nat) (hscan : s.lan.scan = some e)
    (hlane : e.lane < 50) (hprogress : 8192 ≤ (s.land t).eyeProgress)
    (hgen : (if s.hasData Obj.LAN_EYE_GEN then s.getN Obj.LAN_EYE_GEN else 0) = g) :
    ∃ u, exec (.eyeScanComplete t counts) s = .next (State.settle (s.land t) u) ∧
      u.lan.scan = none ∧
      (u.lan.result.map (fun r => (r.lane, r.gen, r.dwell)) = some (e.lane, (g + 1) % 2 ^ 32, e.dwell)) ∧
      (u.lan.result.map (fun r => ((r.width : Int), (r.height : Int))) = some (u.get Obj.LAN_EYE_WIDTH, u.get Obj.LAN_EYE_HEIGHT)) ∧
      u.get Obj.LAN_EYE_STATUS = 2 ∧ u.get Obj.LAN_EYE_GEN = ((g + 1) % 2 ^ 32 : Nat) ∧ u.get Obj.LAN_EYE_PROGRESS = 8192 ∧
      u.get (Obj.LAN_LAST_EVENT e.lane) = 4 ∧ u.sourcePending (lockSource e.lane + 1) ∧
      s.onlyEntries u [Obj.LAN_EYE_STATUS, Obj.LAN_EYE_PROGRESS, Obj.LAN_EYE_GEN, Obj.LAN_EYE_WIDTH, Obj.LAN_EYE_HEIGHT,
        Obj.LAN_LAST_EVENT e.lane] ∧
      u = { s.land t with objs := u.objs, lan := u.lan, icu := u.icu } := by
  let r := eyeResult e g counts
  have heffect : exec (.eyeScanComplete t counts) s =
      .next (State.settle (s.land t) ((eyeShown (s.land t) r).lanEvent e.lane 4)) := by
    show execEyeScanComplete t counts s = _
    exact done_of_effect ((if_pos hprogress).trans (eyeDone_eq (s := s.land t) counts hscan hgen))
  have hevent : ∀ key, key / 256 = 0x2A40 → ((eyeShown (s.land t) r).lanEvent e.lane 4).get key = (eyeShown (s.land t) r).get key :=
    fun key hkey => get_lanEvent _ 4 (by unfold Obj.LAN_LAST_EVENT; omega)
  have hheight : (eyeShown (s.land t) r).get Obj.LAN_EYE_HEIGHT = r.height := State.get_put_same ..
  have hwidth : (eyeShown (s.land t) r).get Obj.LAN_EYE_WIDTH = r.width :=
    (State.get_put_ne _ _ (by decide)).trans (State.get_put_same ..)
  have hshownGen : (eyeShown (s.land t) r).get Obj.LAN_EYE_GEN = r.gen :=
    (State.get_put_ne _ _ (by decide)).trans ((State.get_put_ne _ _ (by decide)).trans (State.get_put_same ..))
  have hdone : (eyeShown (s.land t) r).get Obj.LAN_EYE_PROGRESS = 8192 :=
    (State.get_put_ne _ _ (by decide)).trans ((State.get_put_ne _ _ (by decide)).trans ((State.get_put_ne _ _ (by decide)).trans
      (State.get_put_same ..)))
  have hstatus : (eyeShown (s.land t) r).get Obj.LAN_EYE_STATUS = 2 :=
    (State.get_put_ne _ _ (by decide)).trans ((State.get_put_ne _ _ (by decide)).trans ((State.get_put_ne _ _ (by decide)).trans
      ((State.get_put_ne _ _ (by decide)).trans (State.get_put_same ..))))
  refine ⟨_, heffect, rfl, rfl, ?size, (hevent _ rfl).trans hstatus, (hevent _ rfl).trans hshownGen, (hevent _ rfl).trans hdone,
    get_lanEvent_same .., sourcePending_lanEvent _ hlane 4, fun key hkey => ?others, rfl⟩
  case size =>
    rw [hevent _ rfl, hevent _ rfl, hheight, hwidth]
    rfl
  case others =>
    simp only [List.mem_cons, List.not_mem_nil, or_false, not_or] at hkey
    obtain ⟨hkstatus, hkprogress, hkgen, hkwidth, hkheight, hklast⟩ := hkey
    rw [get_lanEvent _ 4 hklast, eyeShown, State.get_put_ne _ _ hkheight, State.get_put_ne _ _ hkwidth, State.get_put_ne _ _ hkgen,
      State.get_put_ne _ _ hkprogress, State.get_put_ne _ _ hkstatus]
    rfl

/-! ## Loopback -/

/-- LAN_LOOPBACK is read-write and keeps its value (Table 11.7). -/
theorem row_loopback {k : Nat} (hk : k < 50) :
    ∃ row, Obj.rowOf (Obj.LAN_LOOPBACK k) = some row ∧ row.access = .rw ∧
      ∀ v : Nat, v < 256 → ObjRow.masked row (ObjType.value row.type (ObjType.bytes row.type v)) = v := by
  have htable : ∀ k < 50, (Obj.rowOf (Obj.LAN_LOOPBACK k)).map (fun r => (r.access, r.type, r.mask)) = some (.rw, .u8, 0) := by
    decide
  obtain ⟨row, hrow, hcolumns⟩ := Option.map_eq_some_iff.1 (htable k hk)
  simp only [Prod.mk.injEq] at hcolumns
  obtain ⟨hrw, htype, hmask⟩ := hcolumns
  refine ⟨row, hrow, hrw, fun v hv => ?_⟩
  have hvalue : ObjType.value .u8 (ObjType.bytes .u8 v) = (v : Int) := by
    have hbytes : unsigned 8 (v : Int) = v := by simp only [unsigned]; omega
    show ((ofBytes (bytesOf (unsigned 8 v) 1) : Nat) : Int) = _
    rw [hbytes, ofBytes_bytesOf (by omega)]
  rw [htype, hvalue, ObjRow.masked, hmask]
  rfl

theorem answersLater_loopback {k : Nat} (hk : k < 50) (w : Int) : answersLater (Obj.LAN_LOOPBACK k) w = false := by
  have hplan : Obj.LAN_LOOPBACK k ≠ Obj.AGE_PLAN_SUBMIT := by simp only [Obj.LAN_LOOPBACK, Obj.AGE_PLAN_SUBMIT]; omega
  have hstore : Obj.LAN_LOOPBACK k ≠ Obj.DEV_IMAGE_STORE := by simp only [Obj.LAN_LOOPBACK, Obj.DEV_IMAGE_STORE]; omega
  simp [answersLater, hplan, hstore]

theorem setEntry_loopback (s : State) {k : Nat} (hk : k < 50) (v : Nat) : s.setEntry (Obj.LAN_LOOPBACK k) v = s.loopback k v := by
  interval_cases k
  all_goals rfl

/-- Nothing but entries, lanes, pending sources and the count of free values changes. -/
def TestFrame (a b : State) : Prop := b = { a with objs := b.objs, lan := b.lan, icu := b.icu, freeCtr := b.freeCtr }

theorem TestFrame.trans {a b c : State} (h : TestFrame a b) (g : TestFrame b c) : TestFrame a c := by
  unfold TestFrame at *
  rw [g, h]

theorem TestFrame.of_laneOnly {a b : State} (h : LaneOnly a b) : TestFrame a b := by
  unfold TestFrame LaneOnly at *
  rw [h]

/-- The bit errors of a pattern check that ends or begins (R286). -/
def errorsShown (s : State) (k v : Nat) : State :=
  if s.bit (Obj.LAN_LOOPBACK k) 3 || bitOf v 3 then (s.put (Obj.LAN_PRBS_ERRORS k) (unsigned 32 s.free : Nat)).usedFree else s

/-- LAN_LOOPBACK with its value, before the lane follows it. -/
def loopSelected (s : State) (k v : Nat) : State := (errorsShown s k v).put (Obj.LAN_LOOPBACK k) v

/-- A lane in LOOPBACK or TEST at its rate (R286, R287). -/
def loopStarted (s : State) (k v : Nat) : State :=
  let s2 := (s.lanEnter k (if v % 8 ≠ 0 then 8 else 9)).put (Obj.LAN_RATE_NOW k) (v / 32 : Nat)
  s2.put (Obj.LAN_TX_TAPS k) (s2.get (Obj.LAN_TX_INIT k))

/-- A lane switched off, its scan aborted. -/
def lanOffShown (s : State) (k : Nat) : State :=
  (((s.eyeLeave k).lanClear k).lanEnter k lanDisabled).put (Obj.LAN_RATE_NOW k) 0xFF

theorem loopback_eq (s : State) (k v : Nat) :
    s.loopback k v = if v % 32 = 0 then (loopSelected s k v).lanOff k else loopStarted (loopSelected s k v) k v := rfl

theorem lanOff_eq (s : State) (k : Nat) : s.lanOff k = if s.lanState k = lanDisabled then s else lanOffShown s k := rfl

/-- The indices of what a loopback changes. -/
abbrev loopIndices : List Nat := [0x2A00, 0x2A11, 0x2A12, 0x2A13, 0x2A15, 0x2A16, 0x2A1E, 0x2A23, 0x2A40]

theorem within_errorsShown (s : State) {k : Nat} (v : Nat) (hk : k < 50) : Within [0x2A1E] s (errorsShown s k v) :=
  .ite ((Within.put s _ (laneIndex hk) (by decide)).trans (.of_objs rfl rfl)) (.refl s)

theorem testFrame_errorsShown (s : State) (k v : Nat) : TestFrame s (errorsShown s k v) := by
  unfold errorsShown
  split
  · rfl
  · rfl

theorem within_loopSelected (s : State) {k : Nat} (v : Nat) (hk : k < 50) : Within [0x2A1E, 0x2A16] s (loopSelected s k v) :=
  ((within_errorsShown s v hk).mono (by decide)).trans (.put _ _ (laneIndex hk) (by decide))

theorem testFrame_loopSelected (s : State) (k v : Nat) : TestFrame s (loopSelected s k v) :=
  (testFrame_errorsShown s k v).trans (.of_laneOnly (laneOnly_put ..))

theorem selected_loopSelected (s : State) (k v : Nat) : (loopSelected s k v).get (Obj.LAN_LOOPBACK k) = v := State.get_put_same ..

/-- What a lane shows that follows LAN_LOOPBACK. -/
structure LoopFollowed (s u : State) (k v : Nat) : Prop where
  state : u.lanState k = if v % 32 = 0 then lanDisabled else if v % 8 ≠ 0 then 8 else 9
  rate : v % 32 ≠ 0 → u.getN (Obj.LAN_RATE_NOW k) = v / 32 ∧ u.get (Obj.LAN_TX_TAPS k) = s.get (Obj.LAN_TX_INIT k)
  within : Within [0x2A00, 0x2A11, 0x2A12, 0x2A13, 0x2A15, 0x2A23, 0x2A40] s u
  out : u.out = s.out
  frame : TestFrame s u

theorem lanOffShown_follows (s : State) {k : Nat} (hk : k < 50) :
    (lanOffShown s k).lanState k = lanDisabled ∧
      Within [0x2A00, 0x2A11, 0x2A12, 0x2A13, 0x2A15, 0x2A23, 0x2A40] s (lanOffShown s k) ∧ TestFrame s (lanOffShown s k) := by
  have hleft := (within_eyeLeave s hk).mono (more := [0x2A00, 0x2A11, 0x2A12, 0x2A13, 0x2A15, 0x2A23, 0x2A40]) (by decide)
  have hframe : TestFrame s (s.eyeLeave k) := by
    have h := eyeLeave_frame s k
    unfold TestFrame
    rw [h]
  refine ⟨?state, ?within, ?frame⟩
  case state =>
    rw [lanOffShown, State.lanState, State.getN, State.get_put_ne _ _ (laneKey_ne (by decide)), get_lanEnter_state]
    rfl
  case within =>
    exact ((hleft.trans (.put _ _ (laneIndex hk) (by decide))).trans (.lanEnter _ _ hk (by decide) (by decide))).trans
      (.put _ _ (laneIndex hk) (by decide))
  case frame =>
    exact hframe.trans (.of_laneOnly (((laneOnly_put _ _ _).trans (laneOnly_lanEnter _ k _)).trans (laneOnly_put ..)))

theorem loopStarted_follows (s : State) {k v : Nat} (hk : k < 50) (hv : v % 32 ≠ 0) : LoopFollowed s (loopStarted s k v) k v := by
  have hget : ∀ {key}, key ≠ Obj.LAN_TX_TAPS k → key ≠ Obj.LAN_RATE_NOW k →
      (loopStarted s k v).get key = (s.lanEnter k (if v % 8 ≠ 0 then 8 else 9)).get key := fun ht hr => by
    rw [loopStarted, State.get_put_ne _ _ ht, State.get_put_ne _ _ hr]
  refine ⟨?state, fun _ => ⟨?rate, ?taps⟩, ?within, rfl, ?frame⟩
  case state =>
    rw [State.lanState, State.getN, hget (laneKey_ne (by decide)) (laneKey_ne (by decide)), get_lanEnter_state, if_neg hv,
      Int.toNat_natCast]
  case rate =>
    rw [loopStarted, State.getN, State.get_put_ne _ _ (laneKey_ne (by decide)), State.get_put_same, Int.toNat_natCast]
  case taps =>
    rw [loopStarted, State.get_put_same, State.get_put_ne _ _ (laneKey_ne (by decide)),
      get_lanEnter _ (ne_mapKey (by decide)) (laneKey_ne (by decide))]
  case within =>
    exact ((Within.lanEnter s _ hk (by decide) (by decide)).trans (.put _ _ (laneIndex hk) (by decide))).trans
      (.put _ _ (laneIndex hk) (by decide))
  case frame => exact .of_laneOnly (((laneOnly_lanEnter s k _).trans (laneOnly_put ..)).trans (laneOnly_put ..))

theorem lanOff_follows (s : State) {k v : Nat} (hk : k < 50) (hv : v % 32 = 0) : LoopFollowed s (s.lanOff k) k v := by
  obtain ⟨hstate, hwithin, hframe⟩ := lanOffShown_follows s hk
  rw [lanOff_eq]
  split
  · next hoff => exact ⟨hoff.trans (if_pos hv).symm, fun hne => absurd hv hne, .refl s, rfl, rfl⟩
  · refine ⟨hstate.trans (if_pos hv).symm, fun hne => absurd hv hne, hwithin, ?out, hframe⟩
    unfold TestFrame at hframe
    rw [hframe]

theorem loopback_follows (s : State) {k : Nat} (v : Nat) (hk : k < 50) :
    LoopFollowed (loopSelected s k v) (s.loopback k v) k v := by
  rw [loopback_eq]
  split
  · next hv => exact lanOff_follows _ hk hv
  · next hv => exact loopStarted_follows _ hk hv

theorem loopbackSelect_effect {s : State} {t k v : Nat} {f : Sender} (hk : k < 50) (hv : v < 256)
    (hwrite : s.takesWrite t f (Obj.LAN_LOOPBACK k) v = true) :
    exec (.lanLoopbackSelect t f k v) s = .next (State.settle (s.land t)
      (State.emit { ((s.land t).heard f).loopback k v with dict := { (((s.land t).heard f).loopback k v).dict with live := true } }
        .done)) := by
  obtain ⟨row, hrow, hrw, hval⟩ := row_loopback hk
  show execLanLoopbackSelect t f k v s = _
  refine done_of_effect ?_
  rw [if_pos hk, writeEntry_of_takesWrite hrow hrw (answersLater_loopback hk) hwrite, hval v hv, State.commitEntry,
    setEntry_loopback _ hk]

theorem loopbackSelect_shows (s : State) (t : Nat) (f : Sender) (k v : Nat) (hk : k < 50) (hv : v < 256)
    (hwrite : s.takesWrite t f (Obj.LAN_LOOPBACK k) v = true) :
    ∃ u, exec (.lanLoopbackSelect t f k v) s = .next (State.settle (s.land t) u) ∧
      u.getN (Obj.LAN_LOOPBACK k) = v ∧ (u.lanState k = (if v % 32 = 0 then lanDisabled else if v % 8 ≠ 0 then 8 else 9)) ∧
      (v % 32 ≠ 0 → u.getN (Obj.LAN_RATE_NOW k) = v / 32 ∧ u.get (Obj.LAN_TX_TAPS k) = s.get (Obj.LAN_TX_INIT k)) ∧
      u.out = [Out.done] ∧ s.otherIndices u [0x2A00, 0x2A11, 0x2A12, 0x2A13, 0x2A15, 0x2A16, 0x2A1E, 0x2A23, 0x2A40] ∧
      u = { s.land t with objs := u.objs, lan := u.lan, icu := u.icu, dict := u.dict, freeCtr := u.freeCtr, out := u.out } := by
  have hselected := within_loopSelected ((s.land t).heard f) v hk
  have hselectedFrame := testFrame_loopSelected ((s.land t).heard f) k v
  obtain ⟨hstate, hrate, hwithin, hout, hframe⟩ := loopback_follows ((s.land t).heard f) v hk
  have hvalue := (hwithin.get (key := Obj.LAN_LOOPBACK k) (laneIndex hk) (by decide)).trans
    (selected_loopSelected ((s.land t).heard f) k v)
  have hinit := hselected.get (key := Obj.LAN_TX_INIT k) (laneIndex hk) (by decide)
  have hall := (hselected.mono (more := loopIndices) (by decide)).trans (hwithin.mono (by decide))
  have htest := hselectedFrame.trans hframe
  have heffect := loopbackSelect_effect hk hv hwrite
  generalize ((s.land t).heard f).loopback k v = a at *
  refine ⟨_, heffect, ?value, hstate, fun hne => ⟨(hrate hne).1, (hrate hne).2.trans hinit⟩, ?out, hall.others, ?frame⟩
  case value => exact (congrArg Int.toNat hvalue).trans (Int.toNat_natCast v)
  case out =>
    unfold TestFrame at htest
    rw [htest]
    rfl
  case frame =>
    unfold TestFrame at htest
    rw [htest]
    rfl

/-- Settles O37: each clause is the branch of its command, read off the rules of the lanes. -/
theorem lanesRunAndAreTested : Obligations.LanesRunAndAreTested := by
  unfold Obligations.LanesRunAndAreTested
  intro s t
  refine ⟨lockLoss_shows s t, ?early, rxWakeTimeout_shows s t, blockLock_relocks s t, relockTimeout_shows s t, sleepReceive_shows s t,
    txSleep_shows s t, fun k _ => txWake_shows s t k, berMinute_shows s t, eyeStart_shows s t, eyeAbort_shows s t,
    eyeScanComplete_shows s t, loopbackSelect_shows s t⟩
  intro k l hiBer _ h hstate hfirst
  exact attempt_of_effect (lockLoss_early hiBer h hstate hfirst) h

end Sys2Proof.Proofs
end

section
/-!
PROOF. A new configuration leaves the image and what it shows alone (O7; R445).
-/

namespace Sys2Proof.Proofs

open Sys2Proof Sys2Proof.Machine

/-! ## Operations that leave the dictionary server alone -/

theorem keepsDict_foldl {α : Type} {f : State → α → State} (h : ∀ s x, KeepsDict s (f s x)) (l : List α) (s : State) :
    KeepsDict s (l.foldl f s) := foldl_related KeepsDict.refl KeepsDict.trans l (fun s x _ => h s x) s

theorem keepsDict_put (s : State) (key : Nat) (v : Int) : KeepsDict s (s.put key v) := .of_dict rfl

theorem keepsDict_setBit (s : State) (key bit : Nat) (b : Bool) : KeepsDict s (s.setBit key bit b) := .of_dict rfl

theorem keepsDict_raise (s : State) (src : Nat) : KeepsDict s (s.raise src) := .of_dict rfl

theorem keepsDict_cmtFire (s : State) (code time frac : Nat) : KeepsDict s (s.cmtFire code time frac) :=
  .of_dict (by rw [(cmtChange_fire s code time frac).frame])

/-! ### The measurement chain -/

theorem keepsDict_dchBlind (s : State) : KeepsDict s s.dchBlind := keepsDict_foldl (fun a _ => keepsDict_setBit a _ _ _) _ s

theorem keepsDict_prtPoleInvalid (s : State) (neg : Bool) : KeepsDict s (s.prtPoleInvalid neg) := by
  unfold State.prtPoleInvalid
  extract_lets was prtOf s1 behind
  have hnoted : KeepsDict s s1 := .of_dict rfl
  exact .ite (.refl s) (hnoted.trans (KeepsDict.trans (.ite (keepsDict_raise s1 326) (.refl s1)) (keepsDict_dchBlind _)))

theorem keepsDict_meaJudge (s : State) (k : Nat) : KeepsDict s (s.meaJudge k) := by
  unfold State.meaJudge
  extract_lets causes s2 s1
  have hshownBefore : KeepsDict s (((s.setBit (Obj.MEA_CH_STATUS k) 0 false).setBit Obj.MEA_VALID_MAP k false).bump
      (Obj.MEA_INVALID_COUNT k)) := .of_dict rfl
  have hinvalid : KeepsDict s s2 := hshownBefore.trans (keepsDict_event _ _ _ _)
  have hshown : KeepsDict s s1 := .ite (.refl s) (.ite hinvalid (hinvalid.trans (keepsDict_cmtFire _ _ _ _)))
  refine .ite (.refl s) ?_
  split
  next neg _ => exact .ite (hshown.trans (keepsDict_prtPoleInvalid _ neg)) hshown
  next => exact hshown

theorem keepsDict_meaMark (s : State) (k b : Nat) (on : Bool) : KeepsDict s (s.meaMark k b on) :=
  (keepsDict_setBit s _ _ _).trans (keepsDict_meaJudge _ k)

theorem keepsDict_meaRestart (s : State) (k : Nat) : KeepsDict s (s.meaRestart k) := by
  have hmea (a : State) (f : MeaChannel → MeaChannel) : KeepsDict a (a.withMea k f) := .of_dict rfl
  have hcleared : KeepsDict s ((s.withMea k MeaChannel.cleared).meaMark k 1 true) := (hmea s _).trans (keepsDict_meaMark _ _ _ _)
  exact .ite (.refl s) (.ite (hcleared.trans (hmea _ _)) hcleared)

theorem keepsDict_meaClockOne (s : State) (k : Nat) : KeepsDict s (s.meaClockOne k) :=
  .ite (.refl s) (.ite (keepsDict_meaMark s _ _ _) (.ite ((keepsDict_setBit s _ _ _).trans (keepsDict_meaRestart _ k)) (.refl s)))

theorem keepsDict_meaClock (s : State) (g : Nat) : KeepsDict s (s.meaClock g) := keepsDict_foldl keepsDict_meaClockOne _ s

theorem keepsDict_meaSourced (s : State) (g : Nat) : KeepsDict s (s.meaSourced g) := by
  have hlost : KeepsDict s (((((s.setBit (Obj.MEA_CLK_STATUS g) 0 false).setBit (Obj.MEA_CLK_STATUS g) 1 true).bump
      (Obj.MEA_CLK_LOST_COUNT g)).put (Obj.MEA_CLK_FREQ g) 0).raise (292 + g)) := .of_dict rfl
  have hback (v : Int) : KeepsDict s (((s.setBit (Obj.MEA_CLK_STATUS g) 0 true).setBit (Obj.MEA_CLK_STATUS g) 1 false).put
      (Obj.MEA_CLK_FREQ g) v) := .of_dict rfl
  exact .ite (.refl s) (.ite (hlost.trans (keepsDict_meaClock _ g)) (.ite ((hback _).trans (keepsDict_meaClock _ g)) (.refl s)))

theorem keepsDict_meaGroupBegin (s : State) (g : Nat) : KeepsDict s (s.meaGroupBegin g) := by
  unfold State.meaGroupBegin
  extract_lets meaOf s1
  have hbegun : KeepsDict s s1 := .of_dict rfl
  exact ((hbegun.trans (keepsDict_put _ _ _)).trans (keepsDict_put _ _ _)).trans (keepsDict_meaSourced _ g)

theorem keepsDict_meaDelays (s : State) : KeepsDict s s.meaDelays := by
  unfold State.meaDelays
  extract_lets s1 s2
  have hchannels : KeepsDict s s1 := keepsDict_foldl (f := meaDelayShown) (fun a _ => .of_dict rfl) _ s
  have hbanks : KeepsDict s1 s2 := by
    refine keepsDict_foldl (fun a b => ?_) _ s1
    exact (keepsDict_put a _ _).trans (keepsDict_setBit _ _ _ _)
  split
  · exact (hchannels.trans hbanks).trans (keepsDict_put _ _ _)
  · exact hchannels.trans hbanks

theorem keepsDict_meaStart (s : State) : KeepsDict s s.meaStart := by
  unfold State.meaStart
  extract_lets meaOf s0 s1 s2 s3 s4
  have h1 : KeepsDict s s1 := (KeepsDict.of_dict (b := s0) rfl).trans (keepsDict_foldl (fun a _ => keepsDict_setBit a _ _ _) _ s0)
  have h2 : KeepsDict s1 s2 := keepsDict_foldl (fun a _ => keepsDict_put a _ _) _ s1
  have h3 : KeepsDict s2 s3 := keepsDict_foldl keepsDict_meaGroupBegin _ s2
  have h4 : KeepsDict s3 s4 := keepsDict_foldl keepsDict_meaClock _ s3
  exact ((((h1.trans h2).trans h3).trans h4).trans (keepsDict_foldl keepsDict_meaRestart _ s4)).trans (keepsDict_meaDelays _)

/-! ### Channels, PLLs, engines and roles -/

theorem keepsDict_carMaskOne (s : State) (k : Nat) : KeepsDict s (s.carMaskOne k) := by
  unfold State.carMaskOne
  split
  · exact .refl s
  · extract_lets forced active news s1 masked s2
    have h1 : KeepsDict s s1 :=
      keepsDict_foldl (f := fun a (_ : Nat) => (a.bump (Obj.CAR_MASK_COUNT k)).raise 281) (fun a _ => .of_dict rfl) news s
    have h2 : KeepsDict s1 s2 := .of_dict rfl
    exact .ite ((h1.trans h2).trans (.of_dict rfl)) (.of_dict rfl)

theorem keepsDict_carModeSet (s : State) (k : Nat) : KeepsDict s (s.carModeSet k) :=
  (KeepsDict.of_dict rfl).trans (keepsDict_carMaskOne _ k)

theorem keepsDict_carMasks (s : State) : KeepsDict s s.carMasks :=
  (keepsDict_setBit s _ _ _).trans (keepsDict_foldl keepsDict_carMaskOne _ _)

theorem keepsDict_carClockLost (s : State) : KeepsDict s s.carClockLost := by
  unfold State.carClockLost
  extract_lets s1 s2
  have h2 : KeepsDict s s2 := .ite (.of_dict rfl) (.of_dict rfl)
  exact h2.trans (keepsDict_carMasks _)

theorem keepsDict_domainBypassed (s : State) (p : Nat) : KeepsDict s (s.domainBypassed p) :=
  .ite ((keepsDict_carClockLost s).trans (keepsDict_setBit _ _ _ _)) (.ite (.ite (.of_dict rfl) (.of_dict rfl)) (.refl s))

theorem keepsDict_pllStart (s : State) (p kind : Nat) : KeepsDict s (s.pllStart p kind) :=
  (KeepsDict.of_dict (b := pllStarted s p kind) rfl).trans (keepsDict_domainBypassed _ p)

theorem keepsDict_pllCtrl (s : State) (p v : Nat) : KeepsDict s (s.pllCtrl p v) := by
  have hone : KeepsDict s ((s.put (Obj.CLK_PLL_CTRL p) v).pllStart p 3) := (keepsDict_put s _ _).trans (keepsDict_pllStart _ _ _)
  exact .ite (.refl s) (.ite (hone.trans (keepsDict_pllStart _ _ _)) hone)

theorem keepsDict_engLoad (s : State) (e id : Nat) : KeepsDict s (s.engLoad e id) := .ite (.of_dict rfl) (.of_dict rfl)

theorem keepsDict_prtExtFollow (s : State) : KeepsDict s s.prtExtFollow := by
  unfold State.prtExtFollow
  extract_lets on s1
  have h1 : KeepsDict s s1 := .ite (keepsDict_raise s _) (.refl s)
  exact h1.trans (.ite (.of_dict rfl) (.of_dict rfl))

theorem keepsDict_setRole (s : State) (new cause : Nat) : KeepsDict s (s.setRole new cause) := by
  unfold State.setRole
  extract_lets old s1
  have h1 : KeepsDict s s1 := (keepsDict_put s _ _).trans (keepsDict_event _ _ _ _)
  exact .ite (.refl s) (.ite (h1.trans (.of_dict rfl)) (.ite (h1.trans (.of_dict rfl)) h1))

end Sys2Proof.Proofs
end

section
/-!
PROOF. Images that are taken and refused, and their stores (O7; R445, R447).
-/

namespace Sys2Proof.Proofs

open Sys2Proof Sys2Proof.Machine

/-! ## The new configuration keeps what the image shows -/

/-- The image, and its status, check word and source, are left as they were. -/
structure ImageKept (a b : State) : Prop where
  entries : ∀ key, 0x200802 ≤ key → key ≤ 0x200804 → b.get key = a.get key
  dict : KeepsDict a b

namespace ImageKept

theorem refl (s : State) : ImageKept s s := ⟨fun _ _ _ => rfl, .refl s⟩

theorem trans {a b c : State} (h : ImageKept a b) (g : ImageKept b c) : ImageKept a c :=
  ⟨fun key hlo hhi => (g.entries key hlo hhi).trans (h.entries key hlo hhi), h.dict.trans g.dict⟩

theorem ite {s a b : State} {c : Prop} [Decidable c] (h : ImageKept s a) (g : ImageKept s b) : ImageKept s (if c then a else b) := by
  split
  · exact h
  · exact g

theorem of_apart {o : Bool} {a b : State} (h : Apart o a b) (hdict : KeepsDict a b) : ImageKept a b :=
  ⟨fun key hlo hhi => h.device key (.inr (.inr ⟨hlo, hhi⟩)), hdict⟩

theorem put (s : State) {key : Nat} (v : Int) (hkey : key < 0x200802 ∨ 0x200804 < key) : ImageKept s (s.put key v) :=
  ⟨fun other hlo hhi => State.get_put_ne s v (by omega), .of_dict rfl⟩

theorem setBit (s : State) {key : Nat} (bit : Nat) (b : Bool) (hkey : key < 0x200802 ∨ 0x200804 < key) :
    ImageKept s (s.setBit key bit b) := put s _ hkey

theorem of_objs {a b : State} (hobjs : b.objs = a.objs) (hdict : b.dict = a.dict) : ImageKept a b :=
  ⟨fun _ _ _ => by simp only [State.get, hobjs], .of_dict hdict⟩

theorem foldl {α : Type} {f : State → α → State} (l : List α) (h : ∀ s, ∀ x ∈ l, ImageKept s (f s x)) (s : State) :
    ImageKept s (l.foldl f s) := foldl_related refl trans l h s

theorem pllStart (s : State) {p : Nat} (kind : Nat) : ImageKept s (s.pllStart p kind) := by
  have hstarted : ImageKept s (pllStarted s p kind) := by
    refine ⟨fun key hlo hhi => get_pllStarted s p kind ?_ ?_, .of_dict rfl⟩
    · unfold Obj.CLK_PLL_STATUS
      omega
    · unfold Obj.CLK_STATUS
      omega
  exact hstarted.trans (.of_apart (apart_domainBypassed _ p) (keepsDict_domainBypassed _ p))

theorem pllCtrl (s : State) (p v : Nat) : ImageKept s (s.pllCtrl p v) := by
  have hone : ImageKept s ((s.put (Obj.CLK_PLL_CTRL p) v).pllStart p 3) :=
    (put s _ (.inr (by unfold Obj.CLK_PLL_CTRL; omega))).trans (pllStart _ 3)
  exact ite (refl s) (ite (hone.trans (pllStart _ 3)) hone)

theorem carModeSet (s : State) {k : Nat} (hk : k < 24) : ImageKept s (s.carModeSet k) := by
  unfold State.carModeSet
  extract_lets m s1
  have h1 : ImageKept s s1 := .of_objs rfl rfl
  have h2 : ImageKept s1 (s1.setBit (Obj.CAR_CH_STATUS k) 0 (2 ≤ m)) :=
    .setBit s1 _ _ (.inr (by unfold Obj.CAR_CH_STATUS; omega))
  exact (h1.trans h2).trans (.of_apart (o := true) (apart_carMaskOne _ hk) (keepsDict_carMaskOne _ k))

theorem carSetCommit (s : State) (k : Nat) (on : Bool) : ImageKept s (s.carSetCommit k on) :=
  (setBit s _ _ (.inr (by unfold Obj.CAR_CH_CMD; omega))).trans (.setBit _ _ _ (.inr (by unfold Obj.CAR_CH_STATUS; omega)))

theorem prtExtFollow (s : State) : ImageKept s s.prtExtFollow := by
  have hraise (a : State) : ImageKept a (a.raise 330) := .of_objs rfl rfl
  have hcause : ∀ (a : State) on, ImageKept a (a.setCause causeExt on) := fun a on =>
    .of_apart (o := true) (apart_setCause a causeExt on) (.ite (.of_dict rfl) (.of_dict rfl))
  unfold State.prtExtFollow
  extract_lets on s1
  have h1 : ImageKept s s1 := .ite (hraise s) (.refl s)
  exact h1.trans (hcause s1 on)

theorem configured (s old : State) : ImageKept s (s.configured old) := by
  unfold State.configured
  extract_lets s1 s2 s3 s4 s5
  have h1 : ImageKept s s1 := by
    have hbases : ImageKept s s.swgBases :=
      (((put s _ (.inr (by decide))).trans (.put _ _ (.inr (by decide)))).trans (.put _ _ (.inr (by decide)))).trans
        (.put _ _ (.inr (by decide)))
    have hcaps : ImageKept s.swgBases s.swgBases.swCaps := (put _ _ (.inr (by decide))).trans (.put _ _ (.inr (by decide)))
    exact (hbases.trans hcaps).trans (.setBit _ _ _ (.inr (by decide)))
  have h2 : ImageKept s1 s2 := by
    refine foldl _ (fun a k hk => ?_) s1
    have hmode : ImageKept a (a.carModeSet k) := carModeSet a (List.mem_range.1 hk)
    exact ite (hmode.trans (carSetCommit _ k true)) hmode
  have h3 : ImageKept s2 s3 := ite (.of_apart (o := true) (apart_meaStart s2) (keepsDict_meaStart s2)) (refl s2)
  have h4 : ImageKept s3 s4 := by
    refine foldl _ (fun a p _ => ?_) s3
    exact ite (refl a) ((put a _ (.inr (by unfold Obj.CLK_PLL_CTRL; omega))).trans (pllCtrl _ p _))
  have h5 : ImageKept s4 s5 := by
    refine foldl _ (fun a e he => ?_) s4
    exact ite (refl a) (.of_apart (o := true) (apart_engLoad a (List.mem_range.1 he) _) (keepsDict_engLoad a e _))
  have hrole (a : State) : ImageKept a a.restRole := .of_apart (o := true) (apart_setRole _ _ _) (keepsDict_setRole _ _ _)
  exact (((((h1.trans h2).trans h3).trans h4).trans h5).trans (prtExtFollow s5)).trans (hrole _)

end ImageKept

/-! ## Taken and refused images -/

/-- A configuration that an image gives, in force and shown (R445). -/
def imageShown (s : State) (img : DictImage) : State :=
  let s2 := { s with
    dict := { s.dict with image := some img, live := true }
    gpf := { s.gpf with base := img.descriptors, tuned := [] } }
  let s3 := ((s2.put Obj.DEV_IMAGE_STATUS 1).put Obj.DEV_IMAGE_ID img.checkWord).put Obj.DEV_IMAGE_SOURCE 3
  s3.put Obj.ORB_DEG_SET_ID (((img.degraded).map fun d => d.1).getD 0 : Nat)

theorem imageLoad_of_accepted {s : State} {img : DictImage} (h : (s.imageCheck img).2 = none) :
    (s.imageLoad img 3).1 = ((imageShown (s.imageCheck img).1 img).configured s).raise 452 := by
  unfold State.imageLoad
  generalize s.imageCheck img = c at h ⊢
  obtain ⟨s1, o⟩ := c
  obtain rfl : o = none := h
  rfl

/-- The failure of an image recorded (R445). -/
def imageFailed (s : State) (key : Nat) (r : Refused) : State :=
  (((s.put Obj.DEV_IMAGE_FIRST_FAIL (key * 256 + r.reason : Nat)).put Obj.DEV_IMAGE_FAIL_ABORT r.abort).put
    Obj.DEV_IMAGE_STATUS 2).raise 453

theorem imageLoad_of_failed {s : State} {img : DictImage} {key : Nat} {r : Refused} (h : (s.imageCheck img).2 = some (key, r)) :
    (s.imageLoad img 3).1 = imageFailed s key r := by
  unfold State.imageLoad
  generalize s.imageCheck img = c at h ⊢
  obtain ⟨s1, o⟩ := c
  obtain rfl : o = some (key, r) := h
  rfl

theorem row_image : ∃ row, Obj.find? (Obj.DEV_IMAGE / 256) (Obj.DEV_IMAGE % 256) = some row ∧ row.access = .wo ∧ row.mirrored = false :=
  ⟨_, rfl, rfl, rfl⟩

/-- A write that is not refused meets the rule of its entry. -/
theorem condition_of_judgeWrite {s : State} {f : Sender} {route : Route} {index sub length : Nat} {data : List Nat}
    {img : Option DictImage} {row : ObjRow} (hrow : Obj.find? index sub = some row)
    (hjudge : s.judgeWrite f route index sub length data img = none) :
    s.condition f (256 * index + sub) (ObjRow.masked row (ObjType.value row.type data)) data img = none := by
  unfold State.judgeWrite at hjudge
  rw [hrow] at hjudge
  dsimp only at hjudge
  split at hjudge
  · cases hjudge
  split at hjudge
  · cases hjudge
  split at hjudge
  · cases hjudge
  split at hjudge
  · cases hjudge
  unfold State.judgeState at hjudge
  split at hjudge
  · cases hjudge
  split at hjudge
  · cases hjudge
  split at hjudge
  · cases hjudge
  split at hjudge
  · cases hjudge
  exact hjudge

theorem imageCheck_of_judgeWrite {s : State} {f : Sender} {img : DictImage}
    (hjudge : s.judgeWrite f .plain (Obj.DEV_IMAGE / 256) (Obj.DEV_IMAGE % 256) img.size [] (some img) = none) :
    (s.imageCheck img).2 = none := by
  obtain ⟨row, hrow, -, -⟩ := row_image
  have hcondition := condition_of_judgeWrite hrow hjudge
  have hrule : s.condition f (256 * (Obj.DEV_IMAGE / 256) + Obj.DEV_IMAGE % 256) (ObjRow.masked row (ObjType.value row.type [])) []
      (some img) = if s.dict.storing.isSome then some ⟨abState, 8⟩ else ((s.imageCheck img).2).map fun e => ⟨e.2.abort, 8⟩ := rfl
  rw [hrule] at hcondition
  split at hcondition
  · cases hcondition
  · exact Option.map_eq_none_iff.1 hcondition

theorem imageLoad_effect {s : State} {t : Nat} {f : Sender} {img : DictImage} (hserved : (s.land t).dictServed = true)
    (hjudge : ((s.land t).heard f).judgeWrite f .plain (Obj.DEV_IMAGE / 256) (Obj.DEV_IMAGE % 256) img.size [] (some img) = none) :
    exec (.devImageLoad t f img) s = .next (State.settle (s.land t) ((((s.land t).heard f).imageLoad img 3).1.emit .done)) := by
  obtain ⟨row, hrow, hwo, hmirrored⟩ := row_image
  have hmirrors : ((s.land t).heard f).mirrors row = false := by rw [State.mirrors, hmirrored]; rfl
  have hcommand : ∀ v, ((s.land t).heard f).command f .plain (256 * (Obj.DEV_IMAGE / 256) + Obj.DEV_IMAGE % 256) v [] (some img) =
      (((s.land t).heard f).imageLoad img 3).1 := fun _ => rfl
  have hnow : ∀ v, answersLater (256 * (Obj.DEV_IMAGE / 256) + Obj.DEV_IMAGE % 256) v = false := fun _ => rfl
  show execDevImageLoad t f img s = _
  refine done_of_effect ?_
  rw [State.requestWrite, hserved, if_neg (by decide)]
  dsimp only
  rw [hjudge, hrow]
  dsimp only
  rw [hmirrors, Bool.false_and, Bool.false_and, Bool.false_and, if_neg (by decide), hnow, if_neg (by decide), State.commitWrite,
    if_pos hwo, hcommand]
  rfl

theorem imageLoad_accepted (s : State) (t : Nat) (f : Sender) (img : DictImage) (hserved : (s.land t).dictServed = true)
    (hjudge : ((s.land t).heard f).judgeWrite f .plain (Obj.DEV_IMAGE / 256) (Obj.DEV_IMAGE % 256) img.size [] (some img) = none) :
    ∃ u, exec (.devImageLoad t f img) s = .next (State.settle (s.land t) u) ∧
      u.dict.image = some img ∧ u.dict.live = true ∧ u.get Obj.DEV_IMAGE_STATUS = 1 ∧ u.get Obj.DEV_IMAGE_ID = img.checkWord ∧
      u.get Obj.DEV_IMAGE_SOURCE = 3 ∧ u.sourcePending 452 ∧ u.out.getLast? = some Out.done := by
  have heffect := imageLoad_effect hserved hjudge
  rw [imageLoad_of_accepted (imageCheck_of_judgeWrite hjudge)] at heffect
  generalize (((s.land t).heard f).imageCheck img).1 = c at heffect
  have hkept := ImageKept.configured (imageShown c img) ((s.land t).heard f)
  generalize (imageShown c img).configured ((s.land t).heard f) = d at heffect hkept
  have hstatus : (imageShown c img).get Obj.DEV_IMAGE_STATUS = 1 := by
    rw [imageShown, State.get_put_ne _ _ (by decide), State.get_put_ne _ _ (by decide), State.get_put_ne _ _ (by decide),
      State.get_put_same]
  have hid : (imageShown c img).get Obj.DEV_IMAGE_ID = img.checkWord := by
    rw [imageShown, State.get_put_ne _ _ (by decide), State.get_put_ne _ _ (by decide), State.get_put_same]
  have hsource : (imageShown c img).get Obj.DEV_IMAGE_SOURCE = 3 := by
    rw [imageShown, State.get_put_ne _ _ (by decide), State.get_put_same]
  have hlive : d.dict.live = true := by
    rw [hkept.dict]
    rfl
  exact ⟨_, heffect, hkept.dict.image.trans rfl, hlive, (hkept.entries _ (by decide) (by decide)).trans hstatus,
    (hkept.entries _ (by decide) (by decide)).trans hid, (hkept.entries _ (by decide) (by decide)).trans hsource,
    sourcePending_kept (by decide) (sourcePending_raise d 452) (.of_icu rfl), getLast?_emit _ _⟩

/-! ### Refusals of an image -/

/-- Refusals carry an abort code. -/
theorem lengthRefused_abort {row : ObjRow} {key length : Nat} {r : Refused} (h : lengthRefused row key length = some r) : r.abort ≠ 0 := by
  unfold lengthRefused at h
  split at h
  · split at h
    · cases h
    · obtain rfl := Option.some.inj h
      decide
  · split at h
    · obtain rfl := Option.some.inj h
      decide
    · split at h
      · obtain rfl := Option.some.inj h
        decide
      · cases h
  · cases h

theorem imageRecord_abort {s : State} {key length : Nat} {v : Int} {r : Refused} (h : (s.imageRecord key length v).2 = some r) :
    r.abort ≠ 0 := by
  unfold State.imageRecord at h
  split at h
  · obtain rfl := Option.some.inj h
    decide
  split at h
  · obtain rfl := Option.some.inj h
    decide
  split at h
  · obtain rfl := Option.some.inj h
    decide
  split at h
  · next r' hlength =>
    obtain rfl := Option.some.inj h
    exact lengthRefused_abort hlength
  split at h
  · obtain rfl := Option.some.inj h
    decide
  split at h
  · obtain rfl := Option.some.inj h
    decide
  split at h
  · cases h
  · cases h

theorem imageRecords_abort {records : List (Nat × Nat × Int)} {key : Nat} {r : Refused} :
    ∀ {s : State}, (s.imageRecords records).2 = some (key, r) → r.abort ≠ 0 := by
  induction records with
  | nil =>
    intro s h
    cases h
  | cons e rest ih =>
    obtain ⟨k, length, v⟩ := e
    intro s h
    rw [State.imageRecords] at h
    split at h
    · next r' hrecord =>
      obtain rfl : r' = r := (Prod.mk.inj (Option.some.inj h)).2
      exact imageRecord_abort (congrArg Prod.snd hrecord)
    · exact ih h

theorem imageCheck_abort {s : State} {img : DictImage} {key : Nat} {r : Refused} (h : (s.imageCheck img).2 = some (key, r)) :
    r.abort ≠ 0 := by
  unfold State.imageCheck at h
  split at h
  · obtain rfl := (Prod.mk.inj (Option.some.inj h)).2
    decide
  split at h
  · obtain rfl := (Prod.mk.inj (Option.some.inj h)).2
    decide
  split at h
  · next s1 e hrecords =>
    obtain rfl : e = (key, r) := Option.some.inj h
    exact imageRecords_abort (congrArg Prod.snd hrecords)
  · dsimp only at h
    split at h
    · obtain rfl := (Prod.mk.inj (Option.some.inj h)).2
      decide
    · cases h

/-- The entries that the failure of an image records. -/
abbrev imageFailKeys : List Nat := [Obj.DEV_IMAGE_STATUS, Obj.DEV_IMAGE_FIRST_FAIL, Obj.DEV_IMAGE_FAIL_ABORT]

/-- The entries of a refusal and of the failure of an image. -/
abbrev imageRefusalKeys : List Nat :=
  [Obj.DEV_REFUSAL_ABORT, Obj.DEV_REFUSAL_INDEX, Obj.DEV_REFUSAL_SUBINDEX, Obj.DEV_REFUSAL_REASON, Obj.DEV_REFUSAL_CHANNEL,
   Obj.DEV_REFUSAL_TIME, Obj.DEV_REFUSAL_COUNT, Obj.DEV_IMAGE_STATUS, Obj.DEV_IMAGE_FIRST_FAIL, Obj.DEV_IMAGE_FAIL_ABORT]

theorem touches_imageFailed (s : State) (key : Nat) (r : Refused) : Touches imageFailKeys s (imageFailed s key r) :=
  (((Touches.put s _ (by decide)).trans (.put _ _ (by decide))).trans (.put _ _ (by decide))).trans (.raise _ _)

theorem imageLoad_failed (s : State) (t : Nat) (f : Sender) (img : DictImage) (key : Nat) (r : Refused)
    (hserved : (s.land t).dictServed = true)
    (hjudge : ((s.land t).heard f).judgeWrite f .plain (Obj.DEV_IMAGE / 256) (Obj.DEV_IMAGE % 256) img.size [] (some img) =
      some ⟨r.abort, 8⟩) (hidle : s.dict.storing = none) (hfail : (((s.land t).heard f).imageCheck img).2 = some (key, r)) :
    ∃ u, exec (.devImageLoad t f img) s = .next (State.settle (s.land t) u) ∧
      u.dict.image = s.dict.image ∧ u.get Obj.DEV_IMAGE_STATUS = 2 ∧ u.get Obj.DEV_IMAGE_FIRST_FAIL = (256 * key + r.reason : Nat) ∧
      u.get Obj.DEV_IMAGE_FAIL_ABORT = r.abort ∧ u.sourcePending 453 ∧ u.out.getLast? = some (Out.abort r.abort) ∧
      s.entriesBut u imageRefusalKeys ∧
      u = { s.land t with objs := u.objs, icu := u.icu, log := u.log, flash := u.flash, dict := u.dict, out := u.out } := by
  have hrule : ((s.land t).heard f).refusalEffect f (256 * (Obj.DEV_IMAGE / 256) + Obj.DEV_IMAGE % 256) (some img) =
      imageFailed ((s.land t).heard f) key r := by
    have hrule : ((s.land t).heard f).refusalEffect f (256 * (Obj.DEV_IMAGE / 256) + Obj.DEV_IMAGE % 256) (some img) =
        if s.dict.storing.isNone then (((s.land t).heard f).imageLoad img 3).1 else (s.land t).heard f := rfl
    rw [hrule, hidle, imageLoad_of_failed hfail]
    rfl
  have heffect : exec (.devImageLoad t f img) s = .next (State.settle (s.land t)
      (((imageFailed ((s.land t).heard f) key r).refuse f (Obj.DEV_IMAGE / 256) (Obj.DEV_IMAGE % 256) ⟨r.abort, 8⟩).emit
        (.abort r.abort))) := by
    show execDevImageLoad t f img s = _
    refine done_of_effect ?_
    rw [requestWrite_refused_by_rule hserved hjudge, hrule]
    exact congrArg (State.emit _) (if_neg (imageCheck_abort hfail))
  have htouched := touches_imageFailed ((s.land t).heard f) key r
  have hdict := keepsDict_refuse (imageFailed ((s.land t).heard f) key r) f (Obj.DEV_IMAGE / 256) (Obj.DEV_IMAGE % 256) ⟨r.abort, 8⟩
  have hkeep := keepsPending_refuse (imageFailed ((s.land t).heard f) key r) f (Obj.DEV_IMAGE / 256) (Obj.DEV_IMAGE % 256) ⟨r.abort, 8⟩
  obtain ⟨-, -, -, -, -, -, -, -, hothers, hframe⟩ :=
    refuse_shows (imageFailed ((s.land t).heard f) key r) f (Obj.DEV_IMAGE / 256) (Obj.DEV_IMAGE % 256) ⟨r.abort, 8⟩
  have hstatus : (imageFailed ((s.land t).heard f) key r).get Obj.DEV_IMAGE_STATUS = 2 := by
    rw [imageFailed, State.get_raise, State.get_put_same]
  have hfirst : (imageFailed ((s.land t).heard f) key r).get Obj.DEV_IMAGE_FIRST_FAIL = (256 * key + r.reason : Nat) := by
    rw [imageFailed, State.get_raise, State.get_put_ne _ _ (by decide), State.get_put_ne _ _ (by decide), State.get_put_same,
      Nat.mul_comm]
  have habort : (imageFailed ((s.land t).heard f) key r).get Obj.DEV_IMAGE_FAIL_ABORT = r.abort := by
    rw [imageFailed, State.get_raise, State.get_put_ne _ _ (by decide), State.get_put_same]
  have hpending : (imageFailed ((s.land t).heard f) key r).sourcePending 453 := sourcePending_raise _ _
  have himage : (imageFailed ((s.land t).heard f) key r).dict.image = s.dict.image := rfl
  have hfailFrame : imageFailed ((s.land t).heard f) key r = { s.land t with
      objs := (imageFailed ((s.land t).heard f) key r).objs, icu := (imageFailed ((s.land t).heard f) key r).icu,
      dict := (imageFailed ((s.land t).heard f) key r).dict } := rfl
  generalize imageFailed ((s.land t).heard f) key r = a at *
  refine ⟨_, heffect, hdict.image.trans himage, (hothers _ (by decide) (by decide)).trans hstatus,
    (hothers _ (by decide) (by decide)).trans hfirst, (hothers _ (by decide) (by decide)).trans habort,
    sourcePending_kept (by decide) hpending hkeep, getLast?_emit _ _, fun other hlog hkey => ?others, ?frame⟩
  case others =>
    have hrefusals : ∀ k ∈ refusalKeys, k ∈ imageRefusalKeys := by decide
    have hfailures : ∀ k ∈ imageFailKeys, k ∈ imageRefusalKeys := by decide
    rw [State.get_emit, hothers other hlog fun hin => hkey (hrefusals _ hin),
      htouched.entries other hlog fun hin => hkey (hfailures _ hin)]
    rfl
  case frame =>
    rw [hframe, hfailFrame]
    rfl

end Sys2Proof.Proofs
end

section
/-!
PROOF. The store of an image begins, ends and fails (O7; R447).
-/

namespace Sys2Proof.Proofs

open Sys2Proof Sys2Proof.Machine

/-! ## What the logbook leaves of the flash banks -/

/-- The image banks are left as they were. -/
def KeepsBanks (a b : State) : Prop := b.flash.banks = a.flash.banks

theorem KeepsBanks.of_journal {a b : State} (h : JournalChange a b) : KeepsBanks a b := by
  unfold KeepsBanks
  rw [h.flash]

theorem keepsBanks_beginFlush (s : State) (demanded : Bool) : KeepsBanks s (s.beginFlush demanded) := by
  unfold State.beginFlush
  split
  · rfl
  · extract_lets s0 snap flashOf logOf s1 s3 worst s4
    have hbegun : s1.flash.banks = s.flash.banks := rfl
    have h4 : KeepsBanks s s4 := hbegun
    split
    · exact (KeepsBanks.of_journal (journalChange_event _ _ _ _)).trans h4
    · exact h4

theorem keepsBanks_demandFlush (s : State) : KeepsBanks s s.demandFlush := by
  unfold State.demandFlush State.serveFlush
  split
  · exact keepsBanks_beginFlush _ true
  · split
    · exact keepsBanks_beginFlush _ false
    · rfl

theorem keepsBanks_siteOutcome (s : State) (site code subject : Nat) (data : List Nat) (lasting : Bool) :
    KeepsBanks s (s.siteOutcome site code subject data lasting) := by
  have hjournal (a : State) (transient last : Bool) : KeepsBanks a (a.journalFull code subject data 0xFF transient last) :=
    .of_journal (journalChange_journalFull ..)
  have hlasting : KeepsBanks s (s.retryLasting site) :=
    (keepsBanks_demandFlush (s.add64 (Obj.LOG_RETRY_LASTING (site - 1)) 1)).trans rfl
  unfold State.siteOutcome
  split
  · exact (hjournal _ _ _).trans hlasting
  · split
    · exact hjournal (s.retryTransient site) _ _
    · rfl

/-! ## The store begins -/

theorem row_imageStore :
    ∃ row, Obj.rowOf Obj.DEV_IMAGE_STORE = some row ∧ row.access = .wo ∧ ObjType.value row.type (ObjType.bytes row.type 1) = 1 :=
  ⟨_, rfl, rfl, rfl⟩

theorem writeEntry_imageStore {s : State} {t : Nat} {f : Sender} (hwrite : s.takesWrite t f Obj.DEV_IMAGE_STORE 1 = true) :
    (s.land t).writeEntry f Obj.DEV_IMAGE_STORE 1 = ((s.land t).heard f).storeBegin .plain := by
  obtain ⟨row, hrow, hwo, hval⟩ := row_imageStore
  have hfind : Obj.find? (Obj.DEV_IMAGE_STORE / 256) (Obj.DEV_IMAGE_STORE % 256) = some row := hrow
  have hlater : answersLater Obj.DEV_IMAGE_STORE 1 = true := rfl
  have hcommand : ((s.land t).heard f).command f .plain Obj.DEV_IMAGE_STORE 1 (ObjType.bytes row.type 1) none =
      ((s.land t).heard f).storeBegin .plain := rfl
  simp only [State.takesWrite, hrow, Bool.and_eq_true, Option.isNone_iff_eq_none, Bool.not_eq_true'] at hwrite
  obtain ⟨⟨hserved, hjudge⟩, hunstaged⟩ := hwrite
  rw [dictServed_heard] at hserved
  rw [← hcommand]
  simp [State.writeEntry, State.requestWrite, State.commitWrite, hrow, hfind, hwo, hserved, hjudge, hunstaged, hlater, hval,
    Nat.div_add_mod]

/-- A store noted, before its values are frozen. -/
def storeNoted (s : State) (job : ImageStore) : State :=
  { s.usedFree with dict := { s.dict with storing := some job } }.put Obj.DEV_IMAGE_STATUS 4

/-- The first attempt of a store. -/
def storeJob (s : State) (route : Route) : ImageStore := { bank := s.storeBank, attempt := 1, image := s.liveImage, route := route }

theorem storeBegin_eq (s : State) (route : Route) : s.storeBegin route = (storeNoted s (storeJob s route)).freezeNow.demandFlush := rfl

theorem imageStore_begins (s : State) (t : Nat) (f : Sender) (hwrite : s.takesWrite t f Obj.DEV_IMAGE_STORE 1 = true) :
    ∃ u, exec (.devImageStore t f) s = .next (State.settle (s.land t) u) ∧
      u.dict.storing.isSome = true ∧ u.dict.storing.map (·.attempt) = some 1 ∧ u.get Obj.DEV_IMAGE_STATUS = 4 ∧
      s.entriesBut u [Obj.DEV_IMAGE_STATUS] ∧
      u = { s.land t with objs := u.objs, freeCtr := u.freeCtr, icu := u.icu, log := u.log, flash := u.flash, dict := u.dict,
                          out := u.out } := by
  have heffect : exec (.devImageStore t f) s = .next (State.settle (s.land t)
      (storeNoted ((s.land t).heard f) (storeJob ((s.land t).heard f) .plain)).freezeNow.demandFlush) := by
    show execDevImageStore t f s = _
    refine done_of_effect ?_
    rw [writeEntry_imageStore hwrite, storeBegin_eq]
  have hattempt : (storeJob ((s.land t).heard f) .plain).attempt = 1 := rfl
  generalize storeJob ((s.land t).heard f) .plain = job at heffect hattempt
  have hnoted : storeNoted ((s.land t).heard f) job = { s.land t with
      objs := (storeNoted ((s.land t).heard f) job).objs, freeCtr := (storeNoted ((s.land t).heard f) job).freeCtr,
      dict := (storeNoted ((s.land t).heard f) job).dict } := rfl
  have hstoring : (storeNoted ((s.land t).heard f) job).dict.storing = some job := rfl
  have hstatus : (storeNoted ((s.land t).heard f) job).get Obj.DEV_IMAGE_STATUS = 4 := State.get_put_same ..
  have hget : ∀ key, key ≠ Obj.DEV_IMAGE_STATUS → (storeNoted ((s.land t).heard f) job).get key = s.get key := fun key hkey =>
    State.get_put_ne _ _ hkey
  generalize storeNoted ((s.land t).heard f) job = a at *
  have hlog := (State.logOnly_freezeNow a).trans (State.logOnly_demandFlush a.freezeNow)
  have hkept : KeepsDict a a.freezeNow.demandFlush := KeepsDict.trans (b := a.freezeNow) (.of_dict rfl) (keepsDict_demandFlush _)
  refine ⟨_, heffect, ?some, ?attempt, (hlog.1 _ (by decide)).trans hstatus, fun key hl hkey => ?others, ?frame⟩
  case some =>
    rw [hkept.storing, hstoring]
    rfl
  case attempt =>
    rw [hkept.storing, hstoring, ← hattempt]
    rfl
  case others => exact (hlog.1 key hl).trans (hget key (List.ne_of_not_mem_cons hkey))
  case frame =>
    have hunits := hlog.2
    unfold State.SameUnits at hunits
    rw [hunits, hnoted]

/-! ## The store ends -/

/-- A store that has ended, its bank holding an image or none. -/
def storeEnded (s : State) (j : ImageStore) (held : Option DictImage) (f : Directory → Directory) : State :=
  let idle := { s with dict := { s.dict with storing := none } }.put Obj.DEV_IMAGE_STATUS (if s.dict.image.isSome then 1 else 0)
  ({ idle with flash := { idle.flash with banks := idle.flash.banks.set j.bank held } }.dirRewrite f).banksShow

/-- The directory for a bank that holds the image, and for one that does not. -/
def dirStored (j : ImageStore) (d : Directory) : Directory := { d with preferredDict := j.bank, valid := withBit d.valid (2 + j.bank) true }

/-- The directory for a bank that no longer counts. -/
def dirVoid (j : ImageStore) (d : Directory) : Directory := { d with valid := withBit d.valid (2 + j.bank) false }

/-- A second attempt that verifies is a transient failure of the first. -/
def storeCounted (s : State) (j : ImageStore) : State :=
  if j.attempt = 1 then s else s.siteOutcome 0x12 (Config.unlistedCode 5) j.bank [] false

theorem storeDone_of_verified {s : State} {j : ImageStore} (h : s.dict.storing = some j) :
    s.storeDone true = ((storeCounted (storeEnded s j (some j.image) (dirStored j)) j).raise 455, some (j.route, 0)) := by
  unfold State.storeDone
  rw [h]
  exact if_pos rfl

theorem storeDone_of_first {s : State} {j : ImageStore} (h : s.dict.storing = some j) (hfirst : j.attempt = 1) :
    s.storeDone false = ({ s with dict := { s.dict with storing := some { j with attempt := 2 } } }, none) := by
  unfold State.storeDone
  rw [h]
  exact (if_neg (by decide)).trans (if_pos hfirst)

theorem storeDone_of_second {s : State} {j : ImageStore} (h : s.dict.storing = some j) (hsecond : j.attempt = 2) :
    s.storeDone false =
      (((storeEnded s j none (dirVoid j)).raise 456).siteOutcome 0x12 456 j.bank [] true, some (j.route, abStore)) := by
  unfold State.storeDone
  rw [h]
  exact (if_neg (by decide)).trans (if_neg (by omega))

theorem imageStored_of_verified {s : State} {j : ImageStore} (h : s.dict.storing = some j) (hroute : j.route = .plain) :
    s.imageStored true = ((storeCounted (storeEnded s j (some j.image) (dirStored j)) j).raise 455).emit .done := by
  rw [State.imageStored, storeDone_of_verified h, hroute]
  rfl

theorem imageStored_of_first {s : State} {j : ImageStore} (h : s.dict.storing = some j) (hfirst : j.attempt = 1) :
    s.imageStored false = { s with dict := { s.dict with storing := some { j with attempt := 2 } } } := by
  rw [State.imageStored, storeDone_of_first h hfirst]

theorem imageStored_of_second {s : State} {j : ImageStore} (h : s.dict.storing = some j) (hsecond : j.attempt = 2)
    (hroute : j.route = .plain) :
    s.imageStored false =
      (((storeEnded s j none (dirVoid j)).raise 456).siteOutcome 0x12 456 j.bank [] true).emit (.abort 0x08000020) := by
  rw [State.imageStored, storeDone_of_second h hsecond, hroute]
  generalize ((storeEnded s j none (dirVoid j)).raise 456).siteOutcome 0x12 456 j.bank [] true = a
  rfl

theorem storing_storeEnded (s : State) (j : ImageStore) (held : Option DictImage) (f : Directory → Directory) :
    (storeEnded s j held f).dict.storing = none := rfl

theorem banks_storeEnded (s : State) (j : ImageStore) (held : Option DictImage) (f : Directory → Directory) :
    (storeEnded s j held f).flash.banks = s.flash.banks.set j.bank held := rfl

theorem storeCounted_keeps (s : State) (j : ImageStore) : KeepsBanks s (storeCounted s j) ∧ KeepsDict s (storeCounted s j) := by
  unfold storeCounted
  split
  · exact ⟨rfl, .refl s⟩
  · exact ⟨keepsBanks_siteOutcome .., keepsDict_siteOutcome ..⟩

theorem imageStore_verified (s : State) (t : Nat) (j : ImageStore) (h : s.dict.storing = some j) (hroute : j.route = .plain)
    (hbank : j.bank < s.flash.banks.length) :
    ∃ u, exec (.imageStoreDone t true) s = .next (State.settle (s.land t) u) ∧
      u.flash.banks[j.bank]? = some (some j.image) ∧ u.dict.storing = none ∧ u.sourcePending 455 ∧ u.out.getLast? = some Out.done := by
  have heffect : exec (.imageStoreDone t true) s = .next (State.settle (s.land t) ((s.land t).imageStored true)) := rfl
  rw [imageStored_of_verified (s := s.land t) h hroute] at heffect
  have hbanks := banks_storeEnded (s.land t) j (some j.image) (dirStored j)
  have hstoring := storing_storeEnded (s.land t) j (some j.image) (dirStored j)
  generalize storeEnded (s.land t) j (some j.image) (dirStored j) = a at heffect hbanks hstoring
  obtain ⟨hkeptBanks, hkeptDict⟩ := storeCounted_keeps a j
  generalize storeCounted a j = b at heffect hkeptBanks hkeptDict
  refine ⟨_, heffect, ?banks, hkeptDict.storing.trans hstoring, sourcePending_kept (by decide) (sourcePending_raise b 455) (.of_icu rfl),
    getLast?_emit _ _⟩
  show b.flash.banks[j.bank]? = _
  rw [hkeptBanks, hbanks]
  exact List.getElem?_set_self hbank

theorem imageStore_again (s : State) (t : Nat) (j : ImageStore) (h : s.dict.storing = some j) (hfirst : j.attempt = 1) :
    ∃ u, exec (.imageStoreDone t false) s = .next (State.settle (s.land t) u) ∧
      u.dict.storing = some { j with attempt := 2 } ∧ s.onlyEntries u [] ∧ u = { s.land t with objs := u.objs, dict := u.dict } := by
  have heffect : exec (.imageStoreDone t false) s = .next (State.settle (s.land t) ((s.land t).imageStored false)) := rfl
  rw [imageStored_of_first (s := s.land t) h hfirst] at heffect
  exact ⟨_, heffect, rfl, fun _ _ => rfl, rfl⟩

theorem imageStore_failed (s : State) (t : Nat) (j : ImageStore) (h : s.dict.storing = some j) (hsecond : j.attempt = 2)
    (hroute : j.route = .plain) (hbank : j.bank < s.flash.banks.length) :
    ∃ u, exec (.imageStoreDone t false) s = .next (State.settle (s.land t) u) ∧
      u.flash.banks[j.bank]? = some none ∧ u.dict.storing = none ∧ u.sourcePending 456 ∧
      u.out.getLast? = some (Out.abort 0x08000020) := by
  have heffect : exec (.imageStoreDone t false) s = .next (State.settle (s.land t) ((s.land t).imageStored false)) := rfl
  rw [imageStored_of_second (s := s.land t) h hsecond hroute] at heffect
  have hbanks := banks_storeEnded (s.land t) j none (dirVoid j)
  have hstoring := storing_storeEnded (s.land t) j none (dirVoid j)
  generalize storeEnded (s.land t) j none (dirVoid j) = a at heffect hbanks hstoring
  have hkeptBanks := keepsBanks_siteOutcome (a.raise 456) 0x12 456 j.bank [] true
  have hkeptDict := keepsDict_siteOutcome (a.raise 456) 0x12 456 j.bank [] true
  have hkeep := keepsPending_siteOutcome (a.raise 456) 0x12 456 j.bank [] true
  generalize (a.raise 456).siteOutcome 0x12 456 j.bank [] true = b at heffect hkeptBanks hkeptDict hkeep
  refine ⟨_, heffect, ?banks, hkeptDict.storing.trans hstoring, sourcePending_kept (by decide) (sourcePending_raise a 456) hkeep,
    getLast?_emit _ _⟩
  show b.flash.banks[j.bank]? = _
  rw [hkeptBanks]
  show a.flash.banks[j.bank]? = _
  rw [hbanks]
  exact List.getElem?_set_self hbank

/-- Settles O7: the load by what a new configuration leaves alone, the store by what the logbook leaves alone. -/
theorem imagesLoadAndStore : Obligations.ImagesLoadAndStore := by
  unfold Obligations.ImagesLoadAndStore
  intro s t
  exact ⟨imageLoad_accepted s t, imageLoad_failed s t, imageStore_begins s t, imageStore_verified s t, imageStore_again s t,
    imageStore_failed s t⟩

end Sys2Proof.Proofs
end

section
/-!
PROOF. What the operations of the redundancy supervisor change: roles, phases of the resynchronisation, the acknowledgement of
change records (R309, R313, R314, R21).
-/

namespace Sys2Proof.Proofs

open Sys2Proof Sys2Proof.Machine

/-! ## Units that a change of the supervisor leaves alone -/

/-- Beside entries and the logbook's units an operation changes the redundancy supervisor alone. -/
def RedFrame (a b : State) : Prop :=
  b = { a with objs := b.objs, red := b.red, icu := b.icu, log := b.log, flash := b.flash, dict := b.dict, out := b.out }

namespace RedFrame

theorem refl (s : State) : RedFrame s s := rfl

theorem trans {a b c : State} (h : RedFrame a b) (g : RedFrame b c) : RedFrame a c := by
  unfold RedFrame at *
  rw [g, h]

theorem ite {s a b : State} {c : Prop} [Decidable c] (h : RedFrame s a) (g : RedFrame s b) : RedFrame s (if c then a else b) := by
  split
  · exact h
  · exact g

theorem of_sameUnits {a b : State} (h : a.SameUnits b) : RedFrame a b := by
  unfold RedFrame State.SameUnits at *
  rw [h]

theorem orb {a b : State} (h : RedFrame a b) : b.orb = a.orb := by rw [h]

theorem withRed (s : State) (f : Red → Red) : RedFrame s (s.withRed f) := rfl

theorem put (s : State) (key : Nat) (v : Int) : RedFrame s (s.put key v) := rfl

theorem setBit (s : State) (key bit : Nat) (b : Bool) : RedFrame s (s.setBit key bit b) := rfl

theorem bump (s : State) (key : Nat) : RedFrame s (s.bump key) := rfl

theorem raise (s : State) (src : Nat) : RedFrame s (s.raise src) := rfl

end RedFrame

theorem sameUnits_put (s : State) (key : Nat) (v : Int) : s.SameUnits (s.put key v) := rfl

theorem red_of_sameUnits {a b : State} (h : a.SameUnits b) : b.red = a.red := by rw [h]

theorem withRed_red (s : State) (f : Red → Red) : (s.withRed f).red = f s.red := rfl

theorem Touches.withRed {keys : List Nat} (s : State) (f : Red → Red) : Touches keys s (s.withRed f) := .of_objs rfl rfl

theorem Touches.siteOutcome {keys : List Nat} (s : State) (site code subject : Nat) (data : List Nat) (lasting : Bool)
    (hsite : 1 ≤ site ∧ site ≤ 0x16) : Touches keys s (s.siteOutcome site code subject data lasting) :=
  .of_logOnly (State.logOnly_siteOutcome _ _ _ _ _ _ hsite) (keepsPending_siteOutcome _ _ _ _ _ _)

theorem devRole_congr {a b : State} (h : b.get Obj.DEV_ROLE = a.get Obj.DEV_ROLE) : b.devRole = a.devRole := by
  rw [State.devRole, State.getN, h]
  rfl

theorem owner_congr {a b : State} (h : b.get Obj.DEV_ROLE = a.get Obj.DEV_ROLE) : b.owner = a.owner := by
  rw [State.owner, devRole_congr h]
  rfl

/-! ## Roles (R21) -/

/-- DEV_ROLE names a role, with its event. -/
def roleShown (s : State) (new cause : Nat) : State := (s.put Obj.DEV_ROLE new).event 497 noSubject [s.devRole, new, cause]

theorem touches_roleShown (s : State) (new cause : Nat) : Touches [Obj.DEV_ROLE] s (roleShown s new cause) :=
  (Touches.put s _ (by decide)).trans (.event _ _ _ _)

theorem sameUnits_roleShown (s : State) (new cause : Nat) : s.SameUnits (roleShown s new cause) :=
  (sameUnits_put s _ _).trans (State.logOnly_event _ _ _ _).2

theorem get_roleShown (s : State) (new cause : Nat) : (roleShown s new cause).get Obj.DEV_ROLE = new := by
  rw [roleShown, (State.logOnly_event _ _ _ _).1 _ (by decide)]
  exact State.get_put_same ..

theorem setRole_stale {s : State} (hrole : s.devRole ≠ roleStale) (cause : Nat) :
    s.setRole roleStale cause =
      ((roleShown s roleStale cause).bump Obj.RED_STALE_COUNT).withRed fun r => { r with wanted := true } := if_neg hrole

/-- A new STANDBY holds the generation it has, and begins its comparison (R309, R312). -/
def standbyFrom (gen : Nat) (r : Red) : Red :=
  { r with compared := 0, cleanFrom := 0, applied := gen, records := [], unexplained := none, before := none }

theorem setRole_standby {s : State} (hrole : s.devRole ≠ roleStandby) (cause : Nat) :
    s.setRole roleStandby cause =
      (roleShown s roleStandby cause).withRed (standbyFrom ((roleShown s roleStandby cause).getN Obj.RED_STATE_GEN)) := if_neg hrole

theorem setRole_owner {s : State} {new : Nat} (hnew : new ≤ 1) (cause : Nat) :
    s.setRole new cause = if s.devRole = new then s else roleShown s new cause := by
  have hstale : new ≠ roleStale := by
    unfold roleStale
    omega
  have hstandby : new ≠ roleStandby := by
    unfold roleStandby
    omega
  rw [State.setRole, if_neg hstale, if_neg hstandby]
  rfl

theorem touches_setRole_owner (s : State) {new : Nat} (hnew : new ≤ 1) (cause : Nat) :
    Touches [Obj.DEV_ROLE] s (s.setRole new cause) := by
  rw [setRole_owner hnew]
  exact .ite (.refl s) (touches_roleShown ..)

theorem sameUnits_setRole_owner (s : State) {new : Nat} (hnew : new ≤ 1) (cause : Nat) : s.SameUnits (s.setRole new cause) := by
  rw [setRole_owner hnew]
  split
  · exact .refl s
  · exact sameUnits_roleShown ..

theorem devRole_of_get {s : State} {role : Nat} (h : s.get Obj.DEV_ROLE = role) : s.devRole = role := by
  rw [State.devRole, State.getN, h, Int.toNat_natCast]

theorem devRole_setRole_owner (s : State) {new : Nat} (hnew : new ≤ 1) (cause : Nat) : (s.setRole new cause).devRole = new := by
  rw [setRole_owner hnew]
  split
  · assumption
  · exact devRole_of_get (get_roleShown ..)

theorem touches_setRole_stale (s : State) (cause : Nat) :
    Touches [Obj.DEV_ROLE, Obj.RED_STALE_COUNT] s (s.setRole roleStale cause) := by
  by_cases hrole : s.devRole = roleStale
  · rw [State.setRole, if_pos hrole]
    exact .refl s
  · rw [setRole_stale hrole]
    exact (((touches_roleShown ..).mono (by decide)).trans (.bump _ (by decide))).trans (.withRed _ _)

theorem redFrame_setRole_stale (s : State) (cause : Nat) : RedFrame s (s.setRole roleStale cause) := by
  by_cases hrole : s.devRole = roleStale
  · rw [State.setRole, if_pos hrole]
    exact .refl s
  · rw [setRole_stale hrole]
    exact ((RedFrame.of_sameUnits (sameUnits_roleShown ..)).trans (.bump _ _)).trans (.withRed _ _)

theorem devRole_setRole_stale (s : State) (cause : Nat) : (s.setRole roleStale cause).devRole = roleStale := by
  by_cases hrole : s.devRole = roleStale
  · rw [State.setRole, if_pos hrole, hrole]
  · rw [setRole_stale hrole]
    refine devRole_of_get (Eq.trans (b := ((roleShown s roleStale cause).bump Obj.RED_STALE_COUNT).get Obj.DEV_ROLE) rfl ?_)
    rw [State.get_bump, if_neg (by decide)]
    exact get_roleShown ..

/-! ## Acknowledgement of change records (R309) -/

/-- A record that was sent twice is acknowledged: counted, source 139, a transient outcome of site 0x0D. -/
def resendCounted (s : State) : State := ((s.bump Obj.RED_RECORD_RESEND).raise 139).retryTransient 0x0D

theorem acknowledged_eq (s : State) (gen : Nat) :
    s.acknowledged gen =
      (List.range ((s.red.records.filter fun r => r.record.gen ≤ gen).filter fun r => 2 ≤ r.sent.length).length).foldl
        (fun s _ => resendCounted s) (s.withRed fun r => { r with records := r.records.filter fun x => gen < x.record.gen }) := rfl

theorem touches_resendCounted (s : State) : Touches [Obj.RED_RECORD_RESEND] s (resendCounted s) :=
  ((Touches.bump s (by decide)).trans (.raise _ _)).trans (.of_logOnly (State.logOnly_add64 _ _ (by decide)) (.of_icu rfl))

theorem sameUnits_resendCounted (s : State) : s.SameUnits (resendCounted s) := rfl

theorem touches_acknowledged (s : State) (gen : Nat) : Touches [Obj.RED_RECORD_RESEND] s (s.acknowledged gen) := by
  rw [acknowledged_eq]
  exact (Touches.withRed s _).trans (foldl_related (f := fun s _ => resendCounted s) Touches.refl (fun h g => h.trans g) _
    (fun a _ _ => touches_resendCounted a) _)

theorem sameUnits_acknowledged (s : State) (gen : Nat) :
    (s.withRed fun r => { r with records := r.records.filter fun x => gen < x.record.gen }).SameUnits (s.acknowledged gen) := by
  rw [acknowledged_eq]
  exact foldl_related (f := fun s _ => resendCounted s) State.SameUnits.refl (fun h g => h.trans g) _
    (fun a _ _ => sameUnits_resendCounted a) _

end Sys2Proof.Proofs
end

section
/-!
PROOF. The reception of a HEAD, step by step: kept as the partner's latest, the epoch of the owner, the acknowledgement, a record
lost, the boundary to follow, the stretch, the swap, the plan and the answer (O38; R297, R298, R299, R309, R317).
-/

namespace Sys2Proof.Proofs

open Sys2Proof Sys2Proof.Machine

/-! ## The steps -/

/-- The boundary that a HEAD names, as TIME32. -/
abbrev headNames (h : Head) : Nat := (h.launch + 250 * h.length) % 2 ^ 32

/-- RED_PARTNER_INFO as a Tide shows it. -/
abbrev tideInfo (t : Tide) : Nat := t.state % 256 + 256 * (t.role % 256) + 65536 * (t.runFlags % 65536)

/-- A change of what the partner shows raises source 148. -/
def headNoticed (s : State) (h : Head) : State :=
  if s.red.head.isNone || s.getN Obj.RED_PARTNER_INFO ≠ tideInfo h.tide then s.raise 148 else s

/-- The HEAD becomes the partner's latest, with its state, role, flags and generation shown. -/
def headShown (s : State) (h : Head) : State :=
  ((s.withRed fun r => { r with head := some h, headNew := true }).put Obj.RED_PARTNER_INFO (tideInfo h.tide)).put
    Obj.RED_PARTNER_GEN h.tide.stateGen

/-- A unit that does not own the valve takes the epoch of the owner. -/
def headEpoch (s : State) (h : Head) : State := if h.tide.role ≤ 1 && !s.owner then s.put Obj.RED_EPOCH h.tide.epoch else s

/-- A lost record ends the partner's role STANDBY, or has been noticed by a STALE partner. -/
def headLost (s : State) (h : Head) : State :=
  if h.tide.role = roleStale then s.withRed fun r => { r with recordLost := false }
  else if h.tide.recordLost && s.devRole = roleStandby then s.setRole roleStale 0 else s

/-- The next boundary as the HEAD places it, for a unit that follows it. -/
def headFollow (s : State) (h : Head) : State :=
  let follows := !s.owner &&
    (h.tide.role ≤ 1 || (h.tide.role = roleStale && s.devRole = roleStale && !h.tide.sideB && s.sideB))
  if follows then s.withRed fun r => { r with follow := some (headNames h, (h.cycle + 1) % 2 ^ 32, h.next) } else s

/-- A stretch or a return that the partner announces. -/
def headStretch (s : State) (h : Head) : State :=
  let at_ := (h.cycle + 2) % 2 ^ 32
  if h.tide.stretch then
    if s.orb.returnAt.isSome && s.treeRole = 0 then
      { s with orb := { s.orb with returnAt := none } }.setBit Obj.ORB_STATUS 3 false
    else { s with orb := { s.orb with stretchAt := some at_ } }.setBit Obj.ORB_STATUS 2 true
  else if h.tide.ret then { s with orb := { s.orb with returnAt := some at_ } }.setBit Obj.ORB_STATUS 3 true
  else s

/-- A planned handover to this unit. -/
def headSwap (s : State) (h : Head) : State :=
  if h.tide.swap && h.tide.role = roleActive && s.devRole = roleStandby && s.red.claimAt.isNone then
    let revert := match s.red.gaveAt with
      | some g => (s.orbCount + 2 ^ 32 - g) % 2 ^ 32 < 6
      | none => false
    s.withRed fun r => { r with claimAt := some h.tide.swapAt, claimSwap := !revert }
  else s

/-- The boundary of a plan that waits for one. -/
def headPlan (s : State) (h : Head) : State :=
  if h.tide.planApply ≠ 0xFFFFFFFF && s.devRole = roleStandby then
    s.withAge fun g => { g with accepted := g.accepted.map fun d =>
      if d.boundary.isNone then { d with boundary := some h.tide.planApply } else d }
  else s

/-- A partner that asks for its resynchronisation is answered by the owner. -/
def headAnswer (s : State) (h : Head) : State :=
  if h.tide.resyncRequest && s.owner then s.emit (.record 0x25 [s.orbAfter 1]) else s

/-- A HEAD up to the boundary to follow. -/
def headTaken (s : State) (h : Head) : State :=
  headFollow (headLost ((headEpoch (headShown (headNoticed s h) h) h).acknowledged h.tide.genAck) h) h

/-- What a HEAD announces beyond the boundary to follow. -/
def headAnnounced (s : State) (h : Head) : State := headAnswer (headPlan (headSwap s h) h) h

theorem headReceive_of_timely {s : State} (h : Head) (hpartner : s.hasPartner = true) (hlo : 3 ≤ s.devState) (hhi : s.devState ≤ 6)
    (htime : signed 32 (s.time32 + 2 ^ 32 - headNames h) < 0) (hnew : s.red.headNew = false) :
    s.headReceive h = headAnnounced (headStretch (headTaken s h) h) h := by
  have hserved : (!s.hasPartner || s.devState < 3 || 6 < s.devState) = false := by
    simp only [hpartner, Bool.not_true, Bool.false_or, Bool.or_eq_false_iff, decide_eq_false_iff_not]
    omega
  have hlate : ¬ signed 32 (s.time32 + 2 ^ 32 - headNames h) ≥ 0 := by omega
  have hagain : (s.red.headNew && ((s.red.head).map (·.cycle)) = some h.cycle) = false := by rw [hnew, Bool.false_and]
  rw [State.headReceive, if_neg (by rw [hserved]; exact Bool.false_ne_true)]
  exact (if_neg hlate).trans (if_neg (by rw [hagain]; exact Bool.false_ne_true))

/-! ## The partner's latest HEAD -/

/-- The HEAD kept, and that it is new, stay. -/
def KeepsHead (a b : State) : Prop := b.red.head = a.red.head ∧ b.red.headNew = a.red.headNew

namespace KeepsHead

theorem refl (s : State) : KeepsHead s s := ⟨rfl, rfl⟩

theorem trans {a b c : State} (h : KeepsHead a b) (g : KeepsHead b c) : KeepsHead a c := ⟨g.1.trans h.1, g.2.trans h.2⟩

theorem ite {s a b : State} {c : Prop} [Decidable c] (h : KeepsHead s a) (g : KeepsHead s b) : KeepsHead s (if c then a else b) := by
  split
  · exact h
  · exact g

theorem of_red {a b : State} (h : b.red = a.red) : KeepsHead a b := ⟨by rw [h], by rw [h]⟩

end KeepsHead

theorem keepsHead_acknowledged (s : State) (gen : Nat) : KeepsHead s (s.acknowledged gen) :=
  KeepsHead.trans (b := s.withRed fun r => { r with records := r.records.filter fun x => gen < x.record.gen }) ⟨rfl, rfl⟩
    (.of_red (red_of_sameUnits (sameUnits_acknowledged s gen)))

theorem keepsHead_setRole_stale (s : State) (cause : Nat) : KeepsHead s (s.setRole roleStale cause) := by
  by_cases hrole : s.devRole = roleStale
  · rw [State.setRole, if_pos hrole]
    exact .refl s
  · rw [setRole_stale hrole]
    have hshown : KeepsHead s (roleShown s roleStale cause) := .of_red (red_of_sameUnits (sameUnits_roleShown ..))
    exact hshown.trans (.trans (b := (roleShown s roleStale cause).bump Obj.RED_STALE_COUNT) (.refl _) ⟨rfl, rfl⟩)

theorem keepsHead_headEpoch (s : State) (h : Head) : KeepsHead s (headEpoch s h) := .ite (.of_red rfl) (.refl s)

theorem keepsHead_headLost (s : State) (h : Head) : KeepsHead s (headLost s h) :=
  .ite ⟨rfl, rfl⟩ (.ite (keepsHead_setRole_stale s 0) (.refl s))

theorem keepsHead_headFollow (s : State) (h : Head) : KeepsHead s (headFollow s h) := .ite ⟨rfl, rfl⟩ (.refl s)

theorem headStretch_red (s : State) (h : Head) : (headStretch s h).red = s.red := by
  unfold headStretch
  split
  · split <;> rfl
  · split <;> rfl

theorem keepsHead_headSwap (s : State) (h : Head) : KeepsHead s (headSwap s h) := .ite ⟨rfl, rfl⟩ (.refl s)

theorem headPlan_red (s : State) (h : Head) : (headPlan s h).red = s.red := by
  unfold headPlan
  split <;> rfl

theorem headAnswer_red (s : State) (h : Head) : (headAnswer s h).red = s.red := by
  unfold headAnswer
  split <;> rfl

theorem keepsHead_headAnnounced (s : State) (h : Head) : KeepsHead s (headAnnounced s h) :=
  ((keepsHead_headSwap s h).trans (.of_red (headPlan_red _ h))).trans (.of_red (headAnswer_red _ h))

theorem head_headTaken (s : State) (h : Head) : (headTaken s h).red.head = some h ∧ (headTaken s h).red.headNew = true := by
  have hkept : KeepsHead (headShown (headNoticed s h) h) (headTaken s h) :=
    (((keepsHead_headEpoch _ h).trans (keepsHead_acknowledged _ _)).trans (keepsHead_headLost _ h)).trans (keepsHead_headFollow _ h)
  exact ⟨hkept.1.trans rfl, hkept.2.trans rfl⟩

/-! ## Entries -/

theorem touches_headNoticed (s : State) (h : Head) : Touches [] s (headNoticed s h) := .ite (.raise s 148) (.refl s)

theorem touches_headShown (s : State) (h : Head) : Touches [Obj.RED_PARTNER_INFO, Obj.RED_PARTNER_GEN] s (headShown s h) :=
  ((Touches.withRed s _).trans (.put _ _ (by decide))).trans (.put _ _ (by decide))

theorem touches_headEpoch (s : State) (h : Head) : Touches [Obj.RED_EPOCH] s (headEpoch s h) := .ite (.put s _ (by decide)) (.refl s)

theorem touches_headLost (s : State) (h : Head) : Touches [Obj.DEV_ROLE, Obj.RED_STALE_COUNT] s (headLost s h) :=
  .ite (.withRed s _) (.ite (touches_setRole_stale s 0) (.refl s))

theorem touches_headFollow (s : State) (h : Head) : Touches [] s (headFollow s h) := .ite (.withRed s _) (.refl s)

theorem touches_headStretch (s : State) (h : Head) : Touches [Obj.ORB_STATUS] s (headStretch s h) := by
  have horb : ∀ (o : Orb) (i : Nat) (b : Bool), Touches [Obj.ORB_STATUS] s ({ s with orb := o }.setBit Obj.ORB_STATUS i b) :=
    fun o i b => Touches.trans (b := { s with orb := o }) (.of_objs rfl rfl) (.setBit _ i b (by decide))
  exact .ite (.ite (horb _ _ _) (horb _ _ _)) (.ite (horb _ _ _) (.refl s))

theorem touches_headAnnounced (s : State) (h : Head) : Touches [] s (headAnnounced s h) := by
  have hswap : Touches [] s (headSwap s h) := .ite (.withRed s _) (.refl s)
  have hplan : ∀ x, Touches [] x (headPlan x h) := fun x => .ite (.of_objs rfl rfl) (.refl x)
  have hanswer : ∀ x, Touches [] x (headAnswer x h) := fun x => .ite (.of_objs rfl rfl) (.refl x)
  exact (hswap.trans (hplan _)).trans (hanswer _)

/-- The entries that a HEAD changes before its announcements. -/
abbrev headKeys : List Nat :=
  [Obj.RED_PARTNER_INFO, Obj.RED_PARTNER_GEN, Obj.RED_EPOCH, Obj.RED_RECORD_RESEND, Obj.DEV_ROLE, Obj.RED_STALE_COUNT]

theorem touches_headLost_of_shown (s : State) (h : Head) :
    Touches [Obj.RED_RECORD_RESEND, Obj.DEV_ROLE, Obj.RED_STALE_COUNT] s (headLost (s.acknowledged h.tide.genAck) h) :=
  ((touches_acknowledged s _).mono (by decide)).trans ((touches_headLost _ h).mono (by decide))

theorem touches_headTaken (s : State) (h : Head) : Touches headKeys s (headTaken s h) :=
  (((((touches_headNoticed s h).mono (by decide)).trans ((touches_headShown _ h).mono (by decide))).trans
    ((touches_headEpoch _ h).mono (by decide))).trans ((touches_headLost_of_shown _ h).mono (by decide))).trans
    ((touches_headFollow _ h).mono (by decide))

/-- After the partner is shown only its epoch, the acknowledgement and a lost record change entries. -/
theorem touches_headTaken_shown (s : State) (h : Head) :
    Touches [Obj.RED_EPOCH, Obj.RED_RECORD_RESEND, Obj.DEV_ROLE, Obj.RED_STALE_COUNT]
      (headShown (headNoticed s h) h) (headTaken s h) :=
  (((touches_headEpoch _ h).mono (by decide)).trans ((touches_headLost_of_shown _ h).mono (by decide))).trans
    ((touches_headFollow _ h).mono (by decide))

theorem partner_headTaken (s : State) (h : Head) :
    (headTaken s h).get Obj.RED_PARTNER_INFO = tideInfo h.tide ∧ (headTaken s h).get Obj.RED_PARTNER_GEN = h.tide.stateGen := by
  have hkept := touches_headTaken_shown s h
  rw [hkept.get (by decide) (by decide), hkept.get (by decide) (by decide)]
  refine ⟨?_, State.get_put_same ..⟩
  rw [headShown, State.get_put_ne _ _ (by decide)]
  exact State.get_put_same ..

theorem sourcePending_headTaken {s : State} (h : Head) (hhead : s.red.head = none) : (headTaken s h).sourcePending 148 := by
  have hraised : (headNoticed s h).sourcePending 148 := by
    have hcond : (s.red.head.isNone || s.getN Obj.RED_PARTNER_INFO ≠ tideInfo h.tide) = true := by
      rw [hhead, Option.isNone_none, Bool.true_or]
    rw [headNoticed, if_pos hcond]
    exact sourcePending_raise s 148
  have hshown := sourcePending_kept (by decide) hraised (touches_headShown _ h).pending
  exact sourcePending_kept (by decide) hshown (touches_headTaken_shown s h).pending

/-! ## A unit that does not own the valve -/

theorem owner_headLost {s : State} (h : Head) (howner : s.owner = false) : (headLost s h).owner = false := by
  unfold headLost
  split
  · exact howner
  · split
    · rw [State.owner, devRole_setRole_stale]
      rfl
    · exact howner

theorem owner_headShown (s : State) (h : Head) : (headShown (headNoticed s h) h).owner = s.owner :=
  owner_congr (((touches_headNoticed s h).mono (by decide)).trans (touches_headShown _ h) |>.get (by decide) (by decide))

theorem headFollow_of_owned {s : State} {h : Head} (howner : s.owner = false) (hrole : h.tide.role ≤ 1) :
    (headFollow s h).red.follow = some (headNames h, (h.cycle + 1) % 2 ^ 32, h.next) := by
  rw [headFollow, howner, decide_eq_true hrole]
  rfl

/-- It takes the epoch of the owner and the next boundary to follow (R299, R302). -/
theorem follow_headTaken {s : State} (h : Head) (howner : s.owner = false) (hrole : h.tide.role ≤ 1) :
    (headTaken s h).get Obj.RED_EPOCH = h.tide.epoch ∧
      (headTaken s h).red.follow = some (headNames h, (h.cycle + 1) % 2 ^ 32, h.next) := by
  have hshown := (owner_headShown s h).trans howner
  have hepoch : headEpoch (headShown (headNoticed s h) h) h =
      (headShown (headNoticed s h) h).put Obj.RED_EPOCH h.tide.epoch := by
    rw [headEpoch, hshown, decide_eq_true hrole]
    rfl
  have hlost := touches_headLost_of_shown (headEpoch (headShown (headNoticed s h) h) h) h
  constructor
  · rw [headTaken, (touches_headFollow _ h).get (by decide) (by decide), hlost.get (by decide) (by decide), hepoch]
    exact State.get_put_same ..
  · have hback : (headLost ((headEpoch (headShown (headNoticed s h) h) h).acknowledged h.tide.genAck) h).owner = false := by
      refine owner_headLost h ((owner_congr ((touches_acknowledged _ _).get (by decide) (by decide))).trans ?_)
      exact (owner_congr ((touches_headEpoch _ h).get (by decide) (by decide))).trans hshown
    exact headFollow_of_owned hback hrole

theorem follow_headAnnounced (s : State) (h : Head) : (headAnnounced s h).red.follow = s.red.follow := by
  rw [headAnnounced, headAnswer_red, headPlan_red, headSwap]
  split <;> rfl

/-! ## The stretch (R42) -/

theorem headStretch_of_announced {s : State} {h : Head} (hstretch : h.tide.stretch = true) (hreturn : s.orb.returnAt = none) :
    headStretch s h =
      { s with orb := { s.orb with stretchAt := some ((h.cycle + 2) % 2 ^ 32) } }.setBit Obj.ORB_STATUS 2 true := by
  have hno : (s.orb.returnAt.isSome && s.treeRole = 0) = false := by rw [hreturn, Option.isSome_none, Bool.false_and]
  rw [headStretch, if_pos hstretch, if_neg (by rw [hno]; exact Bool.false_ne_true)]

theorem headAnnounced_orb (s : State) (h : Head) : (headAnnounced s h).orb = s.orb := by
  have hswap : (headSwap s h).orb = s.orb := by
    unfold headSwap
    split <;> rfl
  have hplan : ∀ x, (headPlan x h).orb = x.orb := fun x => by
    unfold headPlan
    split <;> rfl
  have hanswer : ∀ x, (headAnswer x h).orb = x.orb := fun x => by
    unfold headAnswer
    split <;> rfl
  rw [headAnnounced, hanswer, hplan, hswap]

/-! ## Units -/

/-- A HEAD changes the supervisor, the Orbit record and the ageing unit beside entries and the logbook's units. -/
def HeadFrame (a b : State) : Prop :=
  b = { a with objs := b.objs, red := b.red, orb := b.orb, age := b.age, icu := b.icu, log := b.log, flash := b.flash,
               dict := b.dict, out := b.out }

namespace HeadFrame

theorem trans {a b c : State} (h : HeadFrame a b) (g : HeadFrame b c) : HeadFrame a c := by
  unfold HeadFrame at *
  rw [g, h]

theorem ite {s a b : State} {c : Prop} [Decidable c] (h : HeadFrame s a) (g : HeadFrame s b) : HeadFrame s (if c then a else b) := by
  split
  · exact h
  · exact g

theorem of_redFrame {a b : State} (h : RedFrame a b) : HeadFrame a b := by
  unfold HeadFrame RedFrame at *
  rw [h]

end HeadFrame

theorem redFrame_headTaken (s : State) (h : Head) : RedFrame s (headTaken s h) := by
  have hnoticed : RedFrame s (headNoticed s h) := .ite (.raise s 148) (.refl s)
  have hshown : ∀ x, RedFrame x (headShown x h) := fun _ => rfl
  have hepoch : ∀ x, RedFrame x (headEpoch x h) := fun x => .ite (.put x _ _) (.refl x)
  have hack : ∀ x : State, RedFrame x (x.acknowledged h.tide.genAck) := fun x =>
    (RedFrame.withRed x _).trans (.of_sameUnits (sameUnits_acknowledged x _))
  have hlost : ∀ x, RedFrame x (headLost x h) := fun x => .ite (.withRed x _) (.ite (redFrame_setRole_stale x 0) (.refl x))
  have hfollow : ∀ x, RedFrame x (headFollow x h) := fun x => .ite (.withRed x _) (.refl x)
  exact ((((hnoticed.trans (hshown _)).trans (hepoch _)).trans (hack _)).trans (hlost _)).trans (hfollow _)

theorem headFrame_headStretch (s : State) (h : Head) : HeadFrame s (headStretch s h) :=
  .ite (.ite rfl rfl) (.ite rfl rfl)

theorem headFrame_headAnnounced (s : State) (h : Head) : HeadFrame s (headAnnounced s h) := by
  have hswap : HeadFrame s (headSwap s h) := .ite rfl rfl
  have hplan : ∀ x, HeadFrame x (headPlan x h) := fun x => .ite rfl rfl
  have hanswer : ∀ x, HeadFrame x (headAnswer x h) := fun x => .ite rfl rfl
  exact (hswap.trans (hplan _)).trans (hanswer _)

end Sys2Proof.Proofs
end

section
/-!
PROOF. A HEAD on a lane that carries it: a timely one becomes the partner's latest, another counts as missing (O38; R298, R299).
-/

namespace Sys2Proof.Proofs

open Sys2Proof Sys2Proof.Machine

theorem headReceive_shows {s : State} (h : Head) :
    (headAnnounced (headStretch (headTaken s h) h) h).red.head = some h ∧
      (headAnnounced (headStretch (headTaken s h) h) h).red.headNew = true := by
  have hkept : KeepsHead (headTaken s h) (headAnnounced (headStretch (headTaken s h) h) h) :=
    KeepsHead.trans (.of_red (headStretch_red _ h)) (keepsHead_headAnnounced _ h)
  exact ⟨hkept.1.trans (head_headTaken s h).1, hkept.2.trans (head_headTaken s h).2⟩

theorem touches_headRest (s : State) (h : Head) : Touches [Obj.ORB_STATUS] s (headAnnounced (headStretch s h) h) :=
  (touches_headStretch s h).trans ((touches_headAnnounced _ h).mono (by decide))

theorem stretch_headReceive {s : State} {h : Head} (hstretch : h.tide.stretch = true) (hreturn : s.orb.returnAt = none) :
    (headAnnounced (headStretch (headTaken s h) h) h).orb.stretchAt = some ((h.cycle + 2) % 2 ^ 32) ∧
      (headAnnounced (headStretch (headTaken s h) h) h).bit Obj.ORB_STATUS 2 = true := by
  have hback : (headTaken s h).orb.returnAt = none := by rw [(redFrame_headTaken s h).orb, hreturn]
  have hstretched := headStretch_of_announced hstretch hback
  constructor
  · rw [headAnnounced_orb, hstretched]
    rfl
  · rw [bit_congr ((touches_headAnnounced _ h).get (by decide) (by decide)), hstretched, State.bit_setBit, if_pos rfl, if_pos rfl]

/-- O38: a timely HEAD becomes the partner's latest and announces what it announces (R298, R299). -/
theorem head_taken (s : State) (t lane : Nat) (h : Head) (hcarries : s.xlCarries lane = true) (hpartner : s.hasPartner = true)
    (hlo : 3 ≤ s.devState) (hhi : s.devState ≤ 6)
    (htime : signed 32 ((s.land t).time32 + 2 ^ 32 - (h.launch + 250 * h.length) % 2 ^ 32) < 0) (hnew : s.red.headNew = false) :
    ∃ u, exec (.xlHeadReceive t lane true h) s = .next (State.settle (s.land t) u) ∧
      u.red.head = some h ∧
      u.red.headNew = true ∧
      u.get Obj.RED_PARTNER_INFO = (h.tide.state % 256 + 256 * (h.tide.role % 256) + 65536 * (h.tide.runFlags % 65536) : Nat) ∧
      u.get Obj.RED_PARTNER_GEN = h.tide.stateGen ∧
      (s.owner = false → h.tide.role ≤ 1 → u.get Obj.RED_EPOCH = h.tide.epoch ∧
        u.red.follow = some ((h.launch + 250 * h.length) % 2 ^ 32, (h.cycle + 1) % 2 ^ 32, h.next)) ∧
      (h.tide.stretch = true → s.orb.returnAt = none →
        u.orb.stretchAt = some ((h.cycle + 2) % 2 ^ 32) ∧ u.bit Obj.ORB_STATUS 2 = true) ∧
      (s.red.head = none → u.sourcePending 148) ∧
      s.otherIndices u [0x2001, 0x2100, 0x2B00, 0x2B20] ∧
      u = { s.land t with objs := u.objs, red := u.red, orb := u.orb, age := u.age, icu := u.icu, log := u.log, flash := u.flash,
                          dict := u.dict, out := u.out } := by
  have heffect : exec (.xlHeadReceive t lane true h) s =
      .next (State.settle (s.land t) (headAnnounced (headStretch (headTaken (s.land t) h) h) h)) := by
    rw [← headReceive_of_timely (s := s.land t) h hpartner hlo hhi htime hnew]
    show execXlHeadReceive t lane true h s = _
    refine done_of_effect ?_
    exact if_pos (by rw [Bool.true_and]; exact hcarries)
  have hrest := touches_headRest (headTaken (s.land t) h) h
  refine ⟨_, heffect, (headReceive_shows h).1, (headReceive_shows h).2, ?_, ?_, fun howner hrole => ⟨?_, ?_⟩,
    fun hstretch hreturn => stretch_headReceive (s := s.land t) hstretch hreturn, fun hhead => ?_, ?_, ?_⟩
  · exact (hrest.get (by decide) (by decide)).trans (partner_headTaken _ h).1
  · exact (hrest.get (by decide) (by decide)).trans (partner_headTaken _ h).2
  · exact (hrest.get (by decide) (by decide)).trans (follow_headTaken (s := s.land t) h howner hrole).1
  · rw [follow_headAnnounced, headStretch_red]
    exact (follow_headTaken (s := s.land t) h howner hrole).2
  · exact sourcePending_kept (by decide) (sourcePending_headTaken (s := s.land t) h hhead) hrest.pending
  · have htouched := ((touches_headTaken (s.land t) h).mono (more := Obj.ORB_STATUS :: headKeys) (by decide)).trans
      (hrest.mono (by decide))
    exact htouched.otherIndices (by decide)
  · exact ((HeadFrame.of_redFrame (redFrame_headTaken (s.land t) h)).trans (headFrame_headStretch _ h)).trans
      (headFrame_headAnnounced _ h)

/-- O38: a late HEAD, one that fails its checks, or one without a partner is missing (R299). -/
theorem head_missing (s : State) (t lane : Nat) (valid : Bool) (h : Head)
    (hmissing : valid = false ∨ s.hasPartner = false ∨
      0 ≤ signed 32 ((s.land t).time32 + 2 ^ 32 - (h.launch + 250 * h.length) % 2 ^ 32)) :
    ∃ u, exec (.xlHeadReceive t lane valid h) s = .next (State.settle (s.land t) u) ∧ u = s.land t := by
  refine ⟨s.land t, ?_, rfl⟩
  have hignored : valid = true → (s.land t).headReceive h = s.land t := by
    intro hvalid
    unfold State.headReceive
    split
    · rfl
    · next hserved =>
      rcases hmissing with hbad | hnone | hlate
      · rw [hbad] at hvalid
        cases hvalid
      · have hnone' : (s.land t).hasPartner = false := hnone
        rw [hnone'] at hserved
        exact absurd rfl hserved
      · exact if_pos hlate
  show execXlHeadReceive t lane valid h s = _
  refine done_of_effect ?_
  show (if _ then _ else _) = _
  split
  · next hcarried => exact hignored (Bool.and_eq_true _ _ ▸ hcarried).1
  · rfl

end Sys2Proof.Proofs
end

section
/-!
PROOF. The reception of a BODY: change records taken in order, arms compared with this unit's own (O38; R128, R309, R312).
-/

namespace Sys2Proof.Proofs

open Sys2Proof Sys2Proof.Machine

theorem onlyEntries_put (s : State) {key : Nat} (v : Int) {keys : List Nat} (h : key ∈ keys) : s.onlyEntries (s.put key v) keys :=
  fun _ hother => State.get_put_ne s v fun heq => hother (heq ▸ h)

theorem orbCount_congr {a b : State} (h : b.get Obj.ORB_COUNT = a.get Obj.ORB_COUNT) : b.orbCount = a.orbCount := by
  rw [State.orbCount, State.getN, h]
  rfl

theorem partnerLost_congr {a b : State} (h : b.get Obj.RED_STATUS = a.get Obj.RED_STATUS) : b.partnerLost = a.partnerLost :=
  bit_congr h 3

/-! ## The steps of a BODY -/

/-- The arms of a cycle's BODY received so far. -/
def bodySeen (s : State) (b : Body) : List Nat :=
  match s.red.bodyOf with
  | some (c, l) => if c = b.cycle then l else []
  | none => []

/-- The arms of a cycle received with a BODY. -/
def bodyArms (s : State) (b : Body) : List Nat := (bodySeen s b ++ b.arms.map (·.1)).eraseDups

/-- The arms received are noted. -/
def bodyNoted (s : State) (b : Body) : State := s.withRed fun r => { r with bodyOf := some (b.cycle, bodyArms s b) }

/-- A cycle whose arms are all received counts as compared. -/
def bodyCounted (s : State) (b : Body) : State :=
  let full := (List.range 6).all fun a => decide (a ∈ bodyArms s b)
  if full && (bodySeen s b).length < 6 then (bodyNoted s b).withRed fun r => { r with compared := r.compared + 1 } else bodyNoted s b

/-- An arm of a BODY is compared with this unit's own. -/
def armCompared (cycle : Nat) (own : List ArmRecord) (s : State) (e : Nat × ArmRecord) : State :=
  match own[e.1]? with
  | some o => if s.devRole = roleStandby then s.mirrorArm cycle e.1 e.2 o else s
  | none => s

/-- The arms of a BODY are compared with those that this unit computed for the cycle (R312). -/
def bodyCompared (s : State) (b : Body) : State :=
  match (s.red.own.find? fun e => e.1 == b.cycle).map (·.2) with
  | none => bodyNoted s b
  | some l => b.arms.foldl (armCompared b.cycle l) (bodyCounted s b)

/-- A submodule takes the code that a BODY names for it. -/
def codeTaken (codes : List (Nat × Nat)) (m : Sm) : Sm :=
  match codes.find? (fun c => c.1 == m.n) with
  | some c => { m with codeNext := c.2 }
  | none => m

/-- A BODY that is complete by T_ref of the cycle after gives the sums of the arms and the codes (R128). -/
def bodyFollowed (s : State) (b : Body) : State :=
  if s.devRole = roleStandby && s.devState = stRun && s.orb.phase = 0 && (b.cycle + 1) % 2 ^ 32 = s.orbCount then
    (b.arms.foldl (fun s (e : Nat × ArmRecord) =>
      s.withArm e.1 fun r => { r with sigma := e.2.sigma, carry := e.2.carry }) s).withAge fun g =>
        { g with sms := g.sms.map (codeTaken b.codes) }
  else s

theorem bodyReceive_of_served {s : State} (commit : State → Nat → Int → State) (b : Body) (hpartner : s.hasPartner = true)
    (hlo : 3 ≤ s.devState) (hhi : s.devState ≤ 6) :
    s.bodyReceive commit b =
      let taken := (s.recordsTake b.records).recordsApply commit
      if taken.devRole ≠ roleStandby || taken.partnerLost then taken else bodyFollowed (bodyCompared taken b) b := by
  have hserved : (!s.hasPartner || s.devState < 3 || 6 < s.devState) = false := by
    simp only [hpartner, Bool.not_true, Bool.false_or, Bool.or_eq_false_iff, decide_eq_false_iff_not]
    omega
  rw [State.bodyReceive, if_neg (by rw [hserved]; exact Bool.false_ne_true)]
  rfl

/-! ## A BODY of change records alone -/

/-- The comparison notes the arms received and counts the cycle alone. -/
def ComparedOnly (a b : State) : Prop := b = { a with red := { a.red with bodyOf := b.red.bodyOf, compared := b.red.compared } }

theorem comparedOnly_bodyCounted (s : State) (b : Body) : ComparedOnly s (bodyCounted s b) := by
  unfold bodyCounted
  extract_lets full
  split <;> rfl

theorem bodyCompared_without_arms (s : State) {b : Body} (harms : b.arms = []) : ComparedOnly s (bodyCompared s b) := by
  unfold bodyCompared
  split
  · rfl
  · rw [harms]
    exact comparedOnly_bodyCounted s b

theorem codeTaken_nil (m : Sm) : codeTaken [] m = m := rfl

theorem bodyFollowed_of_records (s : State) {b : Body} (harms : b.arms = []) (hcodes : b.codes = []) : bodyFollowed s b = s := by
  unfold bodyFollowed
  rw [harms, hcodes]
  split
  · have hsame : s.age.sms.map (codeTaken []) = s.age.sms := List.map_id _
    show { s with age := { s.age with sms := s.age.sms.map (codeTaken []) } } = s
    rw [hsame]
  · rfl

/-- A record in order is taken (R309). -/
def recordTaken (s : State) (r : ChangeRecord) : State :=
  ((s.withRed fun d => { d with applied := r.gen }).recordHold r).put Obj.RED_STATE_GEN r.gen

theorem recordsTake_next {s : State} {r : ChangeRecord} (hrole : s.devRole = roleStandby) (hnext : r.gen = s.red.applied + 1) :
    s.recordsTake [r] = recordTaken s r := by
  rw [State.recordsTake, if_pos hrole]
  exact if_pos hnext

/-- A step of the counter that waits for its boundary (R332, R336). -/
def stepHeld (s : State) (d : Int) (boundary : Nat) : State :=
  (s.withTim fun t => { t with pendingStep := some (d, boundary) }).setBit Obj.TIM_STATUS 6 true

/-- A change that waits for its boundary. -/
def changeHeld (s : State) (r : ChangeRecord) : State := s.withRed fun x => { x with toApply := x.toApply ++ [r] }

theorem recordHold_later {s : State} {r : ChangeRecord} (hlater : orbLater r.boundary s.orbCount = true) :
    s.recordHold r = match r.change with
      | .step d => stepHeld s d r.boundary
      | _ => changeHeld s r := by
  unfold State.recordHold
  cases r.change with
  | step d => exact if_pos hlater
  | _ => rfl

/-- What the hold of a record, whose boundary is to come, leaves as it was. -/
structure RecordHeld (s u : State) (r : ChangeRecord) : Prop where
  applied : u.red.applied = s.red.applied
  toApply : u.red.toApply = s.red.toApply ∨ u.red.toApply = s.red.toApply ++ [r]
  change : match r.change with
    | .step d => u.tim.pendingStep = some (d, r.boundary) ∧ u.bit Obj.TIM_STATUS 6 = true
    | _ => u.red.toApply = s.red.toApply ++ [r] ∧ u.tim = s.tim
  entries : s.onlyEntries u [Obj.TIM_STATUS]
  units : u = { s with objs := u.objs, red := u.red, tim := u.tim }

theorem recordHold_held {s : State} {r : ChangeRecord} (hlater : orbLater r.boundary s.orbCount = true) :
    RecordHeld s (s.recordHold r) r := by
  rw [recordHold_later hlater]
  obtain ⟨gen, boundary, change⟩ := r
  cases change with
  | step d =>
    refine ⟨rfl, .inl rfl, ⟨rfl, ?_⟩, onlyEntries_setBit _ (by decide) _ _, rfl⟩
    show (stepHeld s d boundary).bit Obj.TIM_STATUS 6 = true
    rw [stepHeld, State.bit_setBit, if_pos rfl, if_pos rfl]
  | cls => exact ⟨rfl, .inr rfl, ⟨rfl, rfl⟩, fun _ _ => rfl, rfl⟩
  | plan => exact ⟨rfl, .inr rfl, ⟨rfl, rfl⟩, fun _ _ => rfl, rfl⟩
  | descriptor => exact ⟨rfl, .inr rfl, ⟨rfl, rfl⟩, fun _ _ => rfl, rfl⟩
  | entry => exact ⟨rfl, .inr rfl, ⟨rfl, rfl⟩, fun _ _ => rfl, rfl⟩
  | epoch => exact ⟨rfl, .inr rfl, ⟨rfl, rfl⟩, fun _ _ => rfl, rfl⟩

/-- With every record's boundary to come, none takes effect. -/
theorem recordsApply_of_later {s : State} (commit : State → Nat → Int → State)
    (hlater : ∀ r ∈ s.red.toApply, orbLater r.boundary s.orbCount = true) : s.recordsApply commit = s := by
  have hdue : (s.red.toApply.filter fun r => !orbLater r.boundary s.orbCount) = [] := by
    refine List.filter_eq_nil_iff.2 fun r hr => ?_
    rw [hlater r hr]
    exact Bool.false_ne_true
  have hkept : (s.red.toApply.filter fun r => orbLater r.boundary s.orbCount) = s.red.toApply := List.filter_eq_self.2 hlater
  unfold State.recordsApply
  rw [hdue]
  have hsame : (s.withRed fun r => { r with toApply := r.toApply.filter fun x => orbLater x.boundary s.orbCount }) = s := by
    show { s with red := { s.red with toApply := s.red.toApply.filter fun x => orbLater x.boundary s.orbCount } } = s
    rw [hkept]
  simp only [List.foldl_nil, hsame, ite_self]

end Sys2Proof.Proofs
end

section
/-!
PROOF. A STANDBY takes the next change record, and counts the difference of an arm that nothing explains (O38; R309, R312).
-/

namespace Sys2Proof.Proofs

open Sys2Proof Sys2Proof.Machine

/-! ## Change records -/

/-- A record held, with the generation shown. -/
structure RecordShown (s u : State) (r : ChangeRecord) : Prop where
  applied : u.red.applied = r.gen
  change : match r.change with
    | .step d => u.tim.pendingStep = some (d, r.boundary) ∧ u.bit Obj.TIM_STATUS 6 = true
    | _ => u.red.toApply = [r] ∧ u.tim = s.tim
  gen : u.get Obj.RED_STATE_GEN = r.gen
  entries : s.onlyEntries u [Obj.RED_STATE_GEN, Obj.TIM_STATUS]
  units : u = { s with objs := u.objs, red := u.red, tim := u.tim }

theorem recordShown_recordTaken {s : State} {r : ChangeRecord} (hempty : s.red.toApply = [])
    (hlater : orbLater r.boundary s.orbCount = true) : RecordShown s (recordTaken s r) r := by
  have hheld := recordHold_held (s := s.withRed fun d => { d with applied := r.gen }) (r := r) hlater
  unfold recordTaken
  generalize (s.withRed fun d => { d with applied := r.gen }).recordHold r = x at hheld ⊢
  obtain ⟨happlied, -, hchange, hentries, hunits⟩ := hheld
  refine ⟨happlied, ?_, State.get_put_same .., fun key hkey => ?_, ?_⟩
  · have hstatus : (x.put Obj.RED_STATE_GEN r.gen).bit Obj.TIM_STATUS 6 = x.bit Obj.TIM_STATUS 6 :=
      bit_congr (State.get_put_ne _ _ (by decide)) 6
    have hqueue : (s.withRed fun d => { d with applied := r.gen }).red.toApply ++ [r] = [r] := by
      rw [withRed_red, hempty, List.nil_append]
    obtain ⟨gen, boundary, change⟩ := r
    cases change with
    | step d => exact ⟨hchange.1, hstatus.trans hchange.2⟩
    | cls => exact ⟨hchange.1.trans hqueue, hchange.2⟩
    | plan => exact ⟨hchange.1.trans hqueue, hchange.2⟩
    | descriptor => exact ⟨hchange.1.trans hqueue, hchange.2⟩
    | entry => exact ⟨hchange.1.trans hqueue, hchange.2⟩
    | epoch => exact ⟨hchange.1.trans hqueue, hchange.2⟩
  · rw [List.mem_cons, not_or] at hkey
    exact (State.get_put_ne _ _ hkey.1).trans (hentries key hkey.2)
  · rw [hunits]
    rfl

/-- The queue of a record taken holds that record at most. -/
theorem later_recordTaken {s : State} {r : ChangeRecord} (hempty : s.red.toApply = [])
    (hlater : orbLater r.boundary s.orbCount = true) :
    ∀ e ∈ (recordTaken s r).red.toApply, orbLater e.boundary (recordTaken s r).orbCount = true := by
  have hshown := recordShown_recordTaken hempty hlater
  have hqueue := (recordHold_held (s := s.withRed fun d => { d with applied := r.gen }) (r := r) hlater).toApply
  have hcount : (recordTaken s r).orbCount = s.orbCount := orbCount_congr (hshown.entries _ (by decide))
  intro e he
  have hone : e = r := by
    rcases hqueue with hnone | hadded
    · have hgone : (recordTaken s r).red.toApply = [] := hnone.trans hempty
      rw [hgone] at he
      cases he
    · have hadd : (recordTaken s r).red.toApply = [r] := hadded.trans (by rw [withRed_red, hempty, List.nil_append])
      rw [hadd] at he
      exact List.mem_singleton.1 he
  rw [hone, hcount]
  exact hlater

theorem RecordShown.of_compared {s a b : State} {r : ChangeRecord} (h : RecordShown s a r) (hcompared : ComparedOnly a b) :
    RecordShown s b r := by
  obtain ⟨happlied, hchange, hgen, hentries, hunits⟩ := h
  have hobjs : b.objs = a.objs := by rw [hcompared]
  have hget : ∀ key, b.get key = a.get key := fun key => by rw [State.get, hobjs, State.get]
  have htim : b.tim = a.tim := by rw [hcompared]
  have hqueue : b.red.toApply = a.red.toApply := by rw [hcompared]
  refine ⟨Eq.trans (by rw [hcompared]) happlied, ?_, (hget _).trans hgen, fun key hkey => (hget key).trans (hentries key hkey), ?_⟩
  · rw [bit_congr (hget Obj.TIM_STATUS) 6, htim, hqueue]
    exact hchange
  · unfold ComparedOnly at hcompared
    rw [hcompared, hunits]

/-- A BODY with one record alone takes it, beside the note of the arms received. -/
theorem recordShown_bodyReceive {s : State} {commit : State → Nat → Int → State} {b : Body} {r : ChangeRecord}
    (hrecords : b.records = [r]) (harms : b.arms = []) (hcodes : b.codes = []) (hpartner : s.hasPartner = true)
    (hlo : 3 ≤ s.devState) (hhi : s.devState ≤ 6) (hrole : s.devRole = roleStandby) (hempty : s.red.toApply = [])
    (hnext : r.gen = s.red.applied + 1) (hlater : orbLater r.boundary s.orbCount = true) :
    RecordShown s (s.bodyReceive commit b) r := by
  have hshown := recordShown_recordTaken (r := r) hempty hlater
  have happlied := recordsApply_of_later commit (later_recordTaken (r := r) hempty hlater)
  rw [bodyReceive_of_served commit b hpartner hlo hhi, hrecords, recordsTake_next hrole hnext]
  generalize recordTaken s r = x at hshown happlied ⊢
  rw [happlied]
  show RecordShown s (if _ then _ else _) r
  split
  · exact hshown
  · rw [bodyFollowed_of_records _ harms hcodes]
    exact hshown.of_compared (bodyCompared_without_arms x harms)

/-- O38: a STANDBY takes the next record in order and keeps it for its boundary (R309). -/
theorem record_kept (s : State) (t lane n : Nat) (r : ChangeRecord) (hcarries : s.xlCarries lane = true)
    (hpartner : s.hasPartner = true) (hlo : 3 ≤ s.devState) (hhi : s.devState ≤ 6) (hrole : s.devRole = roleStandby)
    (hempty : s.red.toApply = []) (hnext : r.gen = s.red.applied + 1) (hlater : orbLater r.boundary s.orbCount = true) :
    ∃ u, exec (.xlBodyReceive t lane true { cycle := n, arms := [], codes := [], records := [r] }) s =
        .next (State.settle (s.land t) u) ∧
      u.red.applied = r.gen ∧
      (match r.change with
      | .step d => u.tim.pendingStep = some (d, r.boundary) ∧ u.bit Obj.TIM_STATUS 6 = true
      | _ => u.red.toApply = [r] ∧ u.tim = s.tim) ∧
      u.get Obj.RED_STATE_GEN = r.gen ∧
      s.onlyEntries u [Obj.RED_STATE_GEN, Obj.TIM_STATUS] ∧
      u = { s.land t with objs := u.objs, red := u.red, tim := u.tim } := by
  have hshown : RecordShown (s.land t)
      ((s.land t).bodyReceive State.commitEntry { cycle := n, arms := [], codes := [], records := [r] }) r :=
    recordShown_bodyReceive (s := s.land t) rfl rfl rfl hpartner hlo hhi hrole hempty hnext hlater
  refine ⟨_, ?_, hshown.applied, hshown.change, hshown.gen, hshown.entries, hshown.units⟩
  show execXlBodyReceive t lane true _ s = _
  refine done_of_effect ?_
  exact if_pos (by rw [Bool.true_and]; exact hcarries)

end Sys2Proof.Proofs
end

section
/-!
PROOF. An arm's difference that nothing explains is counted with source 140; BULK frames of the resynchronisation and of the plan
(O38; R310, R312, R313, R314).
-/

namespace Sys2Proof.Proofs

open Sys2Proof Sys2Proof.Machine

/-! ## The first unexplained difference of an arm (R312) -/

/-- A cycle with unexplained differences begins: counted, with source 140. -/
def unexplainedCycle (s : State) (cycle : Nat) : State :=
  ((s.withRed fun r => { r with unexplained := some (cycle, []), before := none }).bump Obj.RED_MIRROR_UNEXPLAINED).raise 140

/-- An arm of that cycle is counted. -/
def unexplainedArm (s : State) (a : Nat) : State :=
  (s.withRed fun r => { r with unexplained := r.unexplained.map fun u => (u.1, u.2 ++ [a]), cleanFrom := r.compared }).bump
    (Obj.RED_MIRROR_ARM a)

theorem mirrorArm_unexplained {s : State} {cycle a : Nat} {theirs own : ArmRecord} (hdigest : theirs.digest ≠ own.digest)
    (htheirs : theirs.held = 0) (hown : own.held = 0) (hnone : s.red.unexplained = none) :
    s.mirrorArm cycle a theirs own = unexplainedArm (unexplainedCycle s cycle) a := by
  have hequal : ¬ (theirs.digest = own.digest && theirs.n = own.n && theirs.edge = own.edge) = true := by
    rw [decide_eq_false hdigest]
    exact Bool.false_ne_true
  have hheld : ¬ (theirs.held ≠ 0 || own.held ≠ 0) = true := by
    rw [htheirs, hown]
    exact Bool.false_ne_true
  rw [State.mirrorArm, if_neg hequal, if_neg hheld]
  simp only [hnone]
  rfl

/-- What one arm's unexplained difference shows. -/
structure Unexplained (s u : State) (cycle a : Nat) : Prop where
  counted : u.get Obj.RED_MIRROR_UNEXPLAINED = min (s.get Obj.RED_MIRROR_UNEXPLAINED + 1) 0xFFFFFFFF
  arm : u.get (Obj.RED_MIRROR_ARM a) = min (s.get (Obj.RED_MIRROR_ARM a) + 1) 0xFFFFFFFF
  source : u.sourcePending 140
  noted : u.red.unexplained = some (cycle, [a])
  entries : s.onlyEntries u [Obj.RED_MIRROR_UNEXPLAINED, Obj.RED_MIRROR_ARM a]
  units : u = { s with objs := u.objs, red := u.red, age := u.age, icu := u.icu }

theorem armKey_ne {a : Nat} {key : Nat} (hkey : key < Obj.RED_MIRROR_ARM 0) : key ≠ Obj.RED_MIRROR_ARM a := by
  unfold Obj.RED_MIRROR_ARM at *
  omega

theorem unexplained_unexplainedArm (s : State) (cycle a : Nat) :
    Unexplained s (unexplainedArm (unexplainedCycle s cycle) a) cycle a := by
  have hother : ∀ key, key ≠ Obj.RED_MIRROR_ARM a →
      (unexplainedArm (unexplainedCycle s cycle) a).get key = (unexplainedCycle s cycle).get key := fun key hkey =>
    State.get_put_ne _ _ hkey
  have hcycle : ∀ key, key ≠ Obj.RED_MIRROR_UNEXPLAINED → (unexplainedCycle s cycle).get key = s.get key := fun key hkey =>
    State.get_put_ne (s.withRed fun r => { r with unexplained := some (cycle, []), before := none }) _ hkey
  refine ⟨?_, ?_, ?_, rfl, fun key hkey => ?_, rfl⟩
  · rw [hother _ (armKey_ne (by decide))]
    exact State.get_put_same ..
  · rw [← hcycle _ (armKey_ne (by decide)).symm]
    exact State.get_put_same ..
  · exact sourcePending_raise ((s.withRed fun r => { r with unexplained := some (cycle, []), before := none }).bump
      Obj.RED_MIRROR_UNEXPLAINED) 140
  · rw [List.mem_cons, List.mem_singleton, not_or] at hkey
    rw [hother _ hkey.2, hcycle _ hkey.1]

/-- The supervisor's and the ageing unit's records may change beside it. -/
theorem Unexplained.of_before {s b u : State} {cycle a : Nat} (h : Unexplained b u cycle a)
    (hbefore : b = { s with red := b.red }) : Unexplained s u cycle a := by
  have hget : ∀ key, b.get key = s.get key := fun key => by rw [hbefore]; rfl
  obtain ⟨hcounted, harm, hsource, hnoted, hentries, hunits⟩ := h
  exact ⟨hget Obj.RED_MIRROR_UNEXPLAINED ▸ hcounted, hget (Obj.RED_MIRROR_ARM a) ▸ harm, hsource, hnoted,
    fun key hkey => (hentries key hkey).trans (hget key), by rw [hunits, hbefore]⟩

theorem Unexplained.of_age {s u v : State} {cycle a : Nat} (h : Unexplained s u cycle a) (hafter : v = { u with age := v.age }) :
    Unexplained s v cycle a := by
  obtain ⟨hcounted, harm, hsource, hnoted, hentries, hunits⟩ := h
  rw [hafter]
  exact ⟨hcounted, harm, hsource, hnoted, hentries, by rw [hunits]⟩

theorem bodyFollowed_age (s : State) (b : Body) : bodyFollowed s b = { s with age := (bodyFollowed s b).age } := by
  unfold bodyFollowed
  split
  · have hsums : (b.arms.foldl (fun s (e : Nat × ArmRecord) =>
        s.withArm e.1 fun r => { r with sigma := e.2.sigma, carry := e.2.carry }) s) =
        { s with age := (b.arms.foldl (fun s (e : Nat × ArmRecord) =>
          s.withArm e.1 fun r => { r with sigma := e.2.sigma, carry := e.2.carry }) s).age } := by
      refine foldl_related (R := fun a b : State => b = { a with age := b.age })
        (f := fun s (e : Nat × ArmRecord) => s.withArm e.1 fun r => { r with sigma := e.2.sigma, carry := e.2.carry })
        (fun _ => rfl) (fun h g => ?_) _ (fun _ _ _ => rfl) _
      rw [g, h]
    rw [hsums]
    rfl
  · rfl

theorem bodyCompared_one {s : State} {b : Body} {a : Nat} {x o : ArmRecord} {l : List ArmRecord} (harms : b.arms = [(a, x)])
    (hown : (s.red.own.find? fun e => e.1 == b.cycle).map (·.2) = some l) (harm : l[a]? = some o) (hrole : s.devRole = roleStandby) :
    bodyCompared s b = (bodyCounted s b).mirrorArm b.cycle a x o := by
  have hcounted : (bodyCounted s b).devRole = roleStandby := by
    rw [comparedOnly_bodyCounted s b]
    exact hrole
  unfold bodyCompared
  rw [hown, harms]
  show armCompared b.cycle l (bodyCounted s b) (a, x) = _
  unfold armCompared
  rw [harm]
  exact if_pos hcounted

theorem bodyCounted_red (s : State) (b : Body) :
    bodyCounted s b = { s with red := (bodyCounted s b).red } ∧ (bodyCounted s b).red.unexplained = s.red.unexplained := by
  have honly := comparedOnly_bodyCounted s b
  unfold ComparedOnly at honly
  generalize bodyCounted s b = x at honly ⊢
  exact ⟨by rw [honly], by rw [honly]⟩

/-- O38: an unexplained difference of an arm is counted with source 140 (R312). -/
theorem arm_unexplained (s : State) (t lane n a : Nat) (x o : ArmRecord) (l : List ArmRecord) (hcarries : s.xlCarries lane = true)
    (hpartner : s.hasPartner = true) (hlo : 3 ≤ s.devState) (hhi : s.devState ≤ 6) (hrole : s.devRole = roleStandby)
    (hlost : s.partnerLost = false) (hempty : s.red.toApply = [])
    (hown : (s.red.own.find? fun e => e.1 == n).map (·.2) = some l) (harm : l[a]? = some o) (hdigest : x.digest ≠ o.digest)
    (hx : x.held = 0) (ho : o.held = 0) (hnone : s.red.unexplained = none) :
    ∃ u, exec (.xlBodyReceive t lane true { cycle := n, arms := [(a, x)], codes := [], records := [] }) s =
        .next (State.settle (s.land t) u) ∧
      u.get Obj.RED_MIRROR_UNEXPLAINED = min (s.get Obj.RED_MIRROR_UNEXPLAINED + 1) 0xFFFFFFFF ∧
      u.get (Obj.RED_MIRROR_ARM a) = min (s.get (Obj.RED_MIRROR_ARM a) + 1) 0xFFFFFFFF ∧
      u.sourcePending 140 ∧
      u.red.unexplained = some (n, [a]) ∧
      s.onlyEntries u [Obj.RED_MIRROR_UNEXPLAINED, Obj.RED_MIRROR_ARM a] ∧
      u = { s.land t with objs := u.objs, red := u.red, age := u.age, icu := u.icu } := by
  have hreceived : Unexplained (s.land t) ((s.land t).bodyReceive State.commitEntry
      { cycle := n, arms := [(a, x)], codes := [], records := [] }) n a := by
    have htake : (s.land t).recordsTake [] = s.land t := by
      rw [State.recordsTake, if_pos (show (s.land t).devRole = roleStandby from hrole)]
      rfl
    have happly : (s.land t).recordsApply State.commitEntry = s.land t := by
      refine recordsApply_of_later _ fun r hr => ?_
      rw [show (s.land t).red.toApply = [] from hempty] at hr
      cases hr
    have hrun : ¬ ((s.land t).devRole ≠ roleStandby || (s.land t).partnerLost) = true := by
      rw [show (s.land t).devRole = roleStandby from hrole, show (s.land t).partnerLost = false from hlost]
      exact Bool.false_ne_true
    have hcompared := bodyCompared_one (s := s.land t)
      (b := { cycle := n, arms := [(a, x)], codes := [], records := [] }) rfl hown harm hrole
    obtain ⟨hb, hclean⟩ := bodyCounted_red (s.land t) { cycle := n, arms := [(a, x)], codes := [], records := [] }
    rw [bodyReceive_of_served (s := s.land t) _ _ hpartner hlo hhi]
    simp only [htake, happly]
    rw [if_neg hrun, hcompared, mirrorArm_unexplained hdigest hx ho (hclean.trans hnone)]
    exact ((unexplained_unexplainedArm _ n a).of_before hb).of_age (bodyFollowed_age _ _)
  refine ⟨_, ?_, hreceived.counted, hreceived.arm, hreceived.source, hreceived.noted, hreceived.entries, hreceived.units⟩
  show execXlBodyReceive t lane true _ s = _
  refine done_of_effect ?_
  exact if_pos (by rw [Bool.true_and]; exact hcarries)

end Sys2Proof.Proofs
end

section
/-!
PROOF. A phase of the resynchronisation begins, an attempt fails, and BULK frames arrive (O38; R310, R313, R314).
-/

namespace Sys2Proof.Proofs

open Sys2Proof Sys2Proof.Machine

/-! ## Phases -/

/-- The phase is shown with source 142, before it is journalled. -/
def phaseShown (s : State) (p : Nat) : State :=
  ((s.withRed fun r => { r with phaseAt := s.now }).put Obj.RED_RESYNC_PHASE p).raise 142

theorem resyncPhase_eq (s : State) (p : Nat) : s.resyncPhase p = (phaseShown s p).journalFull 142 noSubject [p] 0xFF false false := rfl

theorem touches_resyncPhase (s : State) (p : Nat) : Touches [Obj.RED_RESYNC_PHASE] s (s.resyncPhase p) := by
  rw [resyncPhase_eq]
  exact (((Touches.withRed s _).trans (.put _ _ (by decide))).trans (.raise _ _)).trans (.journalFull _ _ _ _ _ _ _)

theorem redFrame_resyncPhase (s : State) (p : Nat) : RedFrame s (s.resyncPhase p) := by
  rw [resyncPhase_eq]
  exact RedFrame.trans (b := phaseShown s p) rfl (.of_sameUnits (State.logOnly_journalFull ..).2)

theorem resyncPhase_red (s : State) (p : Nat) : (s.resyncPhase p).red = { s.red with phaseAt := s.now } := by
  rw [resyncPhase_eq, red_of_sameUnits (State.logOnly_journalFull ..).2]
  rfl

theorem get_resyncPhase (s : State) (p : Nat) : (s.resyncPhase p).get Obj.RED_RESYNC_PHASE = p := by
  rw [resyncPhase_eq, (State.logOnly_journalFull ..).1 _ (by decide)]
  exact State.get_put_same ..

theorem sourcePending_resyncPhase (s : State) (p : Nat) : (s.resyncPhase p).sourcePending 142 := by
  rw [resyncPhase_eq]
  exact sourcePending_kept (by decide)
    (sourcePending_raise ((s.withRed fun r => { r with phaseAt := s.now }).put Obj.RED_RESYNC_PHASE p) 142)
    (keepsPending_journalFull _ _ _ _ _ _ _)

/-! ## The first attempt fails (R314) -/

/-- The second attempt begins afresh. -/
def secondAttempt (s : State) : State :=
  (s.withRed fun r => { r with attempt := 2, image := none, blockBad := false, toApply := [] }).put Obj.RED_RESYNC_PROGRESS 0

theorem resyncFail_first {s : State} (h : s.red.attempt = 1) : s.resyncFail = (secondAttempt s).resyncPhase 1 := by
  have hon : (!s.resyncOn) = false := by
    rw [State.resyncOn, h]
    rfl
  rw [State.resyncFail, hon, if_neg Bool.false_ne_true, if_pos h]
  rfl

/-- The second attempt, as it is shown. -/
structure SecondAttempt (s u : State) : Prop where
  attempt : u.red.attempt = 2
  phase : u.get Obj.RED_RESYNC_PHASE = 1
  progress : u.get Obj.RED_RESYNC_PROGRESS = 0
  source : u.sourcePending 142
  entries : s.entriesBut u [Obj.RED_RESYNC_PHASE, Obj.RED_RESYNC_PROGRESS]
  units : u = { s with objs := u.objs, red := u.red, icu := u.icu, log := u.log, flash := u.flash, dict := u.dict, out := u.out }

theorem resyncFail_begins_second {s : State} (h : s.red.attempt = 1) : SecondAttempt s s.resyncFail := by
  rw [resyncFail_first h]
  have hphase := touches_resyncPhase (secondAttempt s) 1
  refine ⟨by rw [resyncPhase_red]; rfl, get_resyncPhase _ 1, ?_, sourcePending_resyncPhase _ 1, ?_, ?_⟩
  · exact (hphase.get (by decide) (by decide)).trans (State.get_put_same ..)
  · have hsecond : Touches [Obj.RED_RESYNC_PHASE, Obj.RED_RESYNC_PROGRESS] s (secondAttempt s) :=
      (Touches.withRed s _).trans (.put _ _ (by decide))
    exact (hsecond.trans (hphase.mono (by decide))).entries
  · exact RedFrame.trans (b := secondAttempt s) rfl (redFrame_resyncPhase _ 1)

/-! ## BULK frames -/

theorem xlBulkReceive_effect {s u : State} {t lane : Nat} {b : Bulk} (hlane : lane < 2) (hup : s.lanUp (48 + lane) = true)
    (hpartner : s.hasPartner = true) (hbulk : (s.land t).bulk b = u) :
    exec (.xlBulkReceive t lane b) s = .next (State.settle (s.land t) u) := by
  rw [← hbulk]
  show execXlBulkReceive t lane b s = _
  refine done_of_effect ?_
  have hup' : (s.land t).lanUp (48 + lane) = true := hup
  have hpartner' : (s.land t).hasPartner = true := hpartner
  exact if_pos (by rw [decide_eq_true hlane, hup', hpartner']; rfl)

theorem copying_of_phase {s : State} (hon : s.resyncOn = true) (hphase : s.getN Obj.RED_RESYNC_PHASE = 3) :
    ¬ (!s.resyncOn || s.getN Obj.RED_RESYNC_PHASE ≠ 3) = true := by
  rw [hon, hphase]
  exact Bool.false_ne_true

/-- O38: a block of the image advances the progress (R313). -/
theorem block_received (s : State) (t lane : Nat) (img : Option DurableImage) (hlane : lane < 2) (hup : s.lanUp (48 + lane) = true)
    (hpartner : s.hasPartner = true) (hon : s.resyncOn = true) (hphase : s.getN Obj.RED_RESYNC_PHASE = 3) :
    ∃ u, exec (.xlBulkReceive t lane (.block true img)) s = .next (State.settle (s.land t) u) ∧
      u.get Obj.RED_RESYNC_PROGRESS = min (s.get Obj.RED_RESYNC_PROGRESS + 8) 0xFFFF ∧
      u.red.blockBad = false ∧
      (u.red.image = (if img.isSome then img else s.red.image)) ∧
      s.onlyEntries u [Obj.RED_RESYNC_PROGRESS] ∧
      u = { s.land t with objs := u.objs, red := u.red } := by
  have hblock : (s.land t).bulk (.block true img) =
      ((s.land t).put Obj.RED_RESYNC_PROGRESS (min ((s.land t).get Obj.RED_RESYNC_PROGRESS + 8) 0xFFFF)).withRed fun r =>
        { r with blockBad := false, image := match img with
          | some i => some i
          | none => r.image } := if_neg (copying_of_phase (s := s.land t) hon hphase)
  refine ⟨_, xlBulkReceive_effect hlane hup hpartner hblock, ?_, rfl, ?_, ?_, rfl⟩
  · exact State.get_put_same ..
  · cases img <;> rfl
  · exact onlyEntries_put (s.land t) _ (by decide)

/-- O38: a block that arrives bad is sent again (R313). -/
theorem block_bad_once (s : State) (t lane : Nat) (img : Option DurableImage) (hlane : lane < 2) (hup : s.lanUp (48 + lane) = true)
    (hpartner : s.hasPartner = true) (hon : s.resyncOn = true) (hphase : s.getN Obj.RED_RESYNC_PHASE = 3)
    (hfirst : s.red.blockBad = false) :
    ∃ u, exec (.xlBulkReceive t lane (.block false img)) s = .next (State.settle (s.land t) u) ∧
      u.red = { s.red with blockBad := true } ∧
      s.onlyEntries u [] ∧
      u = { s.land t with objs := u.objs, red := u.red } := by
  have hblock : (s.land t).bulk (.block false img) = (s.land t).withRed fun r => { r with blockBad := true } := by
    refine (if_neg (copying_of_phase (s := s.land t) hon hphase)).trans ((if_neg Bool.false_ne_true).trans (if_neg ?_))
    rw [show (s.land t).red.blockBad = false from hfirst]
    exact Bool.false_ne_true
  exact ⟨_, xlBulkReceive_effect hlane hup hpartner hblock, rfl, fun _ _ => rfl, rfl⟩

/-- O38: a block that arrives bad a second time fails the attempt (R313, R314). -/
theorem block_bad_twice (s : State) (t lane : Nat) (img : Option DurableImage) (hlane : lane < 2) (hup : s.lanUp (48 + lane) = true)
    (hpartner : s.hasPartner = true) (hattempt : s.red.attempt = 1) (hphase : s.getN Obj.RED_RESYNC_PHASE = 3)
    (hagain : s.red.blockBad = true) :
    ∃ u, exec (.xlBulkReceive t lane (.block false img)) s = .next (State.settle (s.land t) u) ∧
      u.red.attempt = 2 ∧
      u.get Obj.RED_RESYNC_PHASE = 1 ∧
      u.get Obj.RED_RESYNC_PROGRESS = 0 ∧
      u.sourcePending 142 ∧
      s.entriesBut u [Obj.RED_RESYNC_PHASE, Obj.RED_RESYNC_PROGRESS] ∧
      u = { s.land t with objs := u.objs, red := u.red, icu := u.icu, log := u.log, flash := u.flash, dict := u.dict,
                          out := u.out } := by
  have hon : s.resyncOn = true := by
    rw [State.resyncOn, hattempt]
    rfl
  have hblock : (s.land t).bulk (.block false img) = (s.land t).resyncFail :=
    (if_neg (copying_of_phase (s := s.land t) hon hphase)).trans ((if_neg Bool.false_ne_true).trans (if_pos hagain))
  obtain ⟨htwo, hone, hprogress, hsource, hentries, hunits⟩ := resyncFail_begins_second (s := s.land t) hattempt
  exact ⟨_, xlBulkReceive_effect hlane hup hpartner hblock, htwo, hone, hprogress, hsource, hentries, hunits⟩

/-- O38: the acknowledgement of a plan is kept (R310). -/
theorem planAck_kept (s : State) (t lane gen : Nat) (hlane : lane < 2) (hup : s.lanUp (48 + lane) = true)
    (hpartner : s.hasPartner = true) :
    ∃ u, exec (.xlBulkReceive t lane (.planAck gen)) s = .next (State.settle (s.land t) u) ∧
      u.red = { s.red with planAcked := some gen } ∧
      s.onlyEntries u [] ∧
      u = { s.land t with objs := u.objs, red := u.red } :=
  ⟨_, xlBulkReceive_effect hlane hup hpartner rfl, rfl, fun _ _ => rfl, rfl⟩

/-- O38: a STANDBY keeps the plan of the owner and acknowledges it (R310). -/
theorem plan_kept (s : State) (t lane gen : Nat) (p : Plan) (hlane : lane < 2) (hup : s.lanUp (48 + lane) = true)
    (hpartner : s.hasPartner = true) (hrole : s.devRole = roleStandby) :
    ∃ u, exec (.xlBulkReceive t lane (.plan p gen)) s = .next (State.settle (s.land t) u) ∧
      u.age = { s.age with accepted := some { plan := p, gen := gen, allowed := true, sender := none, boundary := none } } ∧
      u.out = [Out.record 0x24 [(gen : Int)]] ∧
      s.onlyEntries u [] ∧
      u = { s.land t with objs := u.objs, age := u.age, out := u.out } := by
  have hplan : (s.land t).bulk (.plan p gen) =
      ((s.land t).withAge fun g => { g with
        accepted := some { plan := p, gen := gen, allowed := true, sender := none, boundary := none } }).emit
          (.record 0x24 [(gen : Int)]) := if_neg (not_not.2 hrole)
  exact ⟨_, xlBulkReceive_effect hlane hup hpartner hplan, rfl, rfl, fun _ _ => rfl, rfl⟩

end Sys2Proof.Proofs
end

section
/-!
PROOF. The latency of the cross-link and the Tide pin; O38 assembled (R297, R301, R367).
-/

namespace Sys2Proof.Proofs

open Sys2Proof Sys2Proof.Machine

/-! ## Latency -/

/-- The latency of a lane kept, and the larger shown (R297). -/
def latencyShown (s : State) (l : List (Option Nat)) : State :=
  (s.withRed fun r => { r with latency := l }).put Obj.RED_XL_LATENCY (min 0xFFFE ((l.filterMap id).foldl Nat.max 0 : Nat))

/-- Both lanes are known to be beyond 0.60 us. -/
def latencyLong (l : List (Option Nat)) : Bool := (l.filterMap id).length = 2 && (l.filterMap id).all fun x => 600 < x

theorem xlLatency_eq {s : State} {lane trip turn : Nat} {l : List (Option Nat)} (hstate : s.devState = stLinkup) (hlane : lane < 2)
    (hpartner : s.hasPartner = true) (hl : s.red.latency.set lane (some ((trip - turn) / 2)) = l) :
    s.xlLatency lane trip turn = if latencyLong l then (latencyShown s l).raise 153 else latencyShown s l := by
  have hrun : ¬ (s.devState ≠ stLinkup || 2 ≤ lane || !s.hasPartner) = true := by
    simp only [hstate, hpartner, ne_eq, not_true_eq_false, decide_false, Bool.false_or, Bool.not_true, Bool.or_false,
      decide_eq_true_eq]
    omega
  subst hl
  exact if_neg hrun

/-- O38: the latency is half the round trip less the turnaround, shown as the larger (R297). -/
theorem latency_measured (s : State) (t lane trip turn : Nat) (l : List (Option Nat)) (hstate : s.devState = stLinkup)
    (hlane : lane < 2) (hpartner : s.hasPartner = true) (hl : s.red.latency.set lane (some ((trip - turn) / 2)) = l) :
    ∃ u, exec (.xlLatencyMeasure t lane trip turn) s = .next (State.settle (s.land t) u) ∧
      u.red = { s.red with latency := l } ∧
      u.get Obj.RED_XL_LATENCY = min 0xFFFE ((l.filterMap id).foldl Nat.max 0 : Nat) ∧
      ((l.filterMap id).length = 2 → (∀ x ∈ l.filterMap id, 600 < x) → u.sourcePending 153) ∧
      s.onlyEntries u [Obj.RED_XL_LATENCY] ∧
      u = { s.land t with objs := u.objs, red := u.red, icu := u.icu } := by
  have heffect : exec (.xlLatencyMeasure t lane trip turn) s = .next (State.settle (s.land t)
      (if latencyLong l then (latencyShown (s.land t) l).raise 153 else latencyShown (s.land t) l)) := by
    show execXlLatencyMeasure t lane trip turn s = _
    exact done_of_effect (xlLatency_eq (s := s.land t) hstate hlane hpartner hl)
  have hshown : (latencyShown (s.land t) l).get Obj.RED_XL_LATENCY = min 0xFFFE ((l.filterMap id).foldl Nat.max 0 : Nat) :=
    (State.get_put_same ..).trans (Nat.cast_min 0xFFFE ((l.filterMap id).foldl Nat.max 0)).symm
  have hentries : s.onlyEntries (latencyShown (s.land t) l) [Obj.RED_XL_LATENCY] :=
    onlyEntries_put ((s.land t).withRed fun r => { r with latency := l }) _ (by decide)
  cases hlong : latencyLong l with
  | true =>
    rw [hlong, if_pos rfl] at heffect
    exact ⟨_, heffect, rfl, hshown, fun _ _ => sourcePending_raise _ 153, hentries, rfl⟩
  | false =>
    rw [hlong, if_neg Bool.false_ne_true] at heffect
    refine ⟨_, heffect, rfl, hshown, fun htwo hall => ?_, hentries, rfl⟩
    have hyes : latencyLong l = true := by
      rw [latencyLong, decide_eq_true htwo, Bool.true_and, List.all_eq_true]
      exact fun x hx => decide_eq_true (hall x hx)
    rw [hyes] at hlong
    cases hlong

/-! ## The Tide pin -/

theorem tidePulse_of_served {s : State} (width : Nat) (hpartner : s.hasPartner = true) (hlo : 3 ≤ s.devState) (hhi : s.devState ≤ 6) :
    s.tidePulse width = s.withRed fun r => { r with pulses := r.pulses ++ [(s.now - width, width)] } := by
  rw [State.tidePulse, hpartner, decide_eq_true hlo, decide_eq_true hhi]
  rfl

theorem wakeEvent_of_awake {s : State} (src : Nat) (hsleep : s.clk.sleep = 0) : s.wakeEvent src = s := by
  have hone : ¬ s.clk.sleep = 1 := by
    rw [hsleep]
    decide
  rw [State.wakeEvent, if_neg hone, if_pos hsleep, ite_self]

theorem CmtChange.clk {a b : State} (h : CmtChange a b) : b.clk = a.clk := by rw [h.frame]

theorem CmtChange.red {a b : State} (h : CmtChange a b) : b.red = a.red := by rw [h.frame]

/-- Comet records the edges of a pulse on TIDE_IN. -/
def tideCaptured (s : State) (width : Nat) : State :=
  (s.tidePulse width).cmtInput 0x72 (s.time32 + 2 ^ 32 - width % 2 ^ 32) (some s.time32)

theorem cmtChange_tideCaptured (s : State) (width : Nat) : CmtChange (s.tidePulse width) (tideCaptured s width) :=
  cmtChange_input ..

theorem tideInPulse_effect {s u : State} {t width : Nat}
    (h : (if tideWidth width then (tideCaptured (s.land t) width).wakeEvent 1 else tideCaptured (s.land t) width) = u) :
    exec (.tideInPulse t width) s = .next (State.settle (s.land t) u) := by
  show execTideInPulse t width s = _
  exact done_of_effect h

/-- O38: a pulse of TIDE_IN is kept for the score (R301). -/
theorem pulse_kept (s : State) (t width : Nat) (hpartner : s.hasPartner = true) (hlo : 3 ≤ s.devState) (hhi : s.devState ≤ 6)
    (hawake : s.clk.sleep = 0 ∨ tideWidth width = false) :
    ∃ u, exec (.tideInPulse t width) s = .next (State.settle (s.land t) u) ∧
      u.red = { s.red with pulses := s.red.pulses ++ [((s.land t).now - width, width)] } ∧
      s.otherIndices u [0x2F00] ∧
      u = { s.land t with objs := u.objs, red := u.red, cmt := u.cmt, icu := u.icu } := by
  have hcapture := cmtChange_tideCaptured (s.land t) width
  have hpulse := tidePulse_of_served (s := s.land t) width hpartner hlo hhi
  have hclk : (tideCaptured (s.land t) width).clk = s.clk := by
    rw [hcapture.clk, hpulse]
    rfl
  have hsame : (if tideWidth width then (tideCaptured (s.land t) width).wakeEvent 1 else tideCaptured (s.land t) width) =
      tideCaptured (s.land t) width := by
    rcases hawake with hzero | hshort
    · rw [wakeEvent_of_awake 1 (by rw [hclk, hzero]), ite_self]
    · rw [hshort, if_neg Bool.false_ne_true]
  refine ⟨_, tideInPulse_effect hsame, ?_, ?_, ?_⟩
  · rw [hcapture.red, hpulse]
    rfl
  · have hentries : Touches captureKeys (s.land t) (tideCaptured (s.land t) width) := by
      refine Touches.trans (b := (s.land t).tidePulse width) ?_ hcapture.touches
      rw [hpulse]
      exact .withRed _ _
    exact hentries.otherIndices (by decide)
  · have hframe := hcapture.frame
    rw [hpulse] at hframe
    generalize tideCaptured (s.land t) width = u at hframe ⊢
    rw [hframe]
    rfl

/-- O38: a valid pulse of TIDE_IN wakes a device in LUNAR (R367). -/
theorem pulse_wakes (s : State) (t width : Nat) (hwidth : tideWidth width = true) (hen : bitOf s.wakeEnabled 1 = true)
    (hsleep : s.clk.sleep = 3) :
    ∃ u, exec (.tideInPulse t width) s = .next (State.settle (s.land t) u) ∧
      u.clk.sleep = 4 ∧
      u.clk.wakeAt = max s.now t ∧
      u.bit Obj.PWR_WAKE_CAUSE 1 = true := by
  have hcapture := cmtChange_tideCaptured (s.land t) width
  have hpulse : Touches [] (s.land t) ((s.land t).tidePulse width) ∧ ((s.land t).tidePulse width).clk = s.clk ∧
      ((s.land t).tidePulse width).now = max s.now t := by
    unfold State.tidePulse
    split
    · exact ⟨.withRed _ _, rfl, rfl⟩
    · exact ⟨.refl _, rfl, rfl⟩
  obtain ⟨hentries, hclk, hnow⟩ := hpulse
  have hcaptured := (hentries.mono (more := captureKeys) (by decide)).trans hcapture.touches
  have hstill : (tideCaptured (s.land t) width).clk.sleep = 3 := by rw [hcapture.clk, hclk, hsleep]
  have henabled : bitOf (tideCaptured (s.land t) width).wakeEnabled 1 = true := by
    rw [State.wakeEnabled, State.getN, hcaptured.get (by decide) (by decide)]
    exact hen
  have hwakes : (if tideWidth width then (tideCaptured (s.land t) width).wakeEvent 1 else tideCaptured (s.land t) width) =
      ((tideCaptured (s.land t) width).setBit Obj.PWR_WAKE_CAUSE 1 true).wakeBegin := by
    rw [if_pos hwidth, wakeEvent_wakes henabled hstill]
  obtain ⟨hbegun, hat, hcause, -⟩ := wakeBegin_shows ((tideCaptured (s.land t) width).setBit Obj.PWR_WAKE_CAUSE 1 true)
  refine ⟨_, tideInPulse_effect hwakes, hbegun, hat.trans (hcapture.now.trans hnow), ?_⟩
  rw [bit_congr hcause, State.bit_setBit, if_pos rfl, if_pos rfl]

/-- Settles O38: every frame of the cross-link and the pulse of the Tide pin, each by its own lemma; a HEAD goes through the steps of
its reception, a BODY through the record that it carries or the arm that it compares. -/
theorem crossLinkReceives : Obligations.CrossLinkReceives := by
  unfold Obligations.CrossLinkReceives
  intro s t
  exact ⟨fun lane h => head_taken s t lane h, fun lane valid h => head_missing s t lane valid h,
    fun lane n r => record_kept s t lane n r,
    fun lane n a x o l hcarries hpartner hlo hhi hrole hlost hempty _ hown harm =>
      arm_unexplained s t lane n a x o l hcarries hpartner hlo hhi hrole hlost hempty hown harm,
    fun lane img => block_received s t lane img, fun lane img => block_bad_once s t lane img,
    fun lane img => block_bad_twice s t lane img, fun lane gen => planAck_kept s t lane gen,
    fun lane gen p => plan_kept s t lane gen p, fun lane trip turn l => latency_measured s t lane trip turn l,
    fun width => pulse_kept s t width, fun width => pulse_wakes s t width⟩

end Sys2Proof.Proofs
end

section
/-!
PROOF. A claim at the end of its hold-off, and change records that wait for their acknowledgement (O39; R302, R303, R304, R309).
-/

namespace Sys2Proof.Proofs

open Sys2Proof Sys2Proof.Machine

/-! ## A change of durable state -/

/-- A change record may wait beside what the supervisor holds. -/
def RecordAdded (a b : State) : Prop := b.red = { a.red with records := b.red.records }

theorem recordAdded_change (s : State) (c : Change) (boundary : Nat) : RecordAdded s (s.change c boundary) := by
  unfold State.change
  split
  · rfl
  · extract_lets gen s1
    split <;> rfl

theorem touches_change (s : State) (c : Change) (boundary : Nat) : Touches [Obj.RED_STATE_GEN] s (s.change c boundary) := by
  unfold State.change
  split
  · exact .refl s
  · extract_lets gen s1
    have hgen : Touches [Obj.RED_STATE_GEN] s s1 := .put s _ (by decide)
    exact .ite (hgen.trans (.withRed _ _)) hgen

theorem redFrame_change (s : State) (c : Change) (boundary : Nat) : RedFrame s (s.change c boundary) := by
  unfold State.change
  split
  · exact .refl s
  · extract_lets gen s1
    exact .ite rfl rfl

/-! ## Units that a claim leaves alone -/

/-- A claim changes the supervisor, Comet and the ageing unit beside entries and the logbook's units. -/
def ClaimFrame (a b : State) : Prop :=
  b = { a with objs := b.objs, red := b.red, cmt := b.cmt, age := b.age, icu := b.icu, log := b.log, flash := b.flash,
               dict := b.dict, out := b.out }

theorem ClaimFrame.refl (s : State) : ClaimFrame s s := rfl

theorem ClaimFrame.trans {a b c : State} (h : ClaimFrame a b) (g : ClaimFrame b c) : ClaimFrame a c := by
  unfold ClaimFrame at *
  rw [g, h]

theorem ClaimFrame.of_redFrame {a b : State} (h : RedFrame a b) : ClaimFrame a b := by
  unfold ClaimFrame RedFrame at *
  rw [h]

/-! ## The steps of a claim (R304) -/

/-- The claim no longer waits; the next epoch and the boundary of the takeover are shown. -/
def claimShown (s : State) : State :=
  ((((s.withRed fun r => { r with claimAt := none, claimSwap := false }).setBit Obj.RED_STATUS 4 false).put Obj.RED_EPOCH
    (nextEpoch (s.getN Obj.RED_EPOCH))).put Obj.RED_LAST_TAKEOVER_ORB s.orbCount)

/-- The unit takes role ACTIVE, and the takeover is counted. -/
def claimTaken (s : State) : State := ((s.setRole roleActive 0).bump Obj.RED_TAKEOVER_COUNT).count 0x09

/-- A pending plan whose boundary was never announced is dropped and falls due again (Table 12.6). -/
def claimReplanned (s : State) : State :=
  if s.age.accepted.any (fun d => d.boundary.isNone) then (s.withAge fun g => { g with accepted := none }).replanDue else s

/-- A STANDBY claims: what its supervisor holds from then on. -/
def claimHeld (now : Nat) (r : Red) : Red :=
  { r with claimed := some now, withdrawTo := none, ownedBefore := false, obeyed := false, eclipse := some 0 }

/-- The claim with source 132, logged and triggering Comet, and its epoch passed on. -/
def claimTold (s : State) (now epoch time : Nat) : State :=
  let held := s.withRed (claimHeld now)
  ((((held.raise 132).journalFull 132 noSubject (bytesOf epoch 2) 0x09 false false).cmtFire 11 time 0).change (.epoch epoch)
    now).demandFlush

theorem claim_of_standby {s : State} (hswap : s.red.claimSwap = false) (hrole : s.devRole = roleStandby)
    (hstate : s.devState = stBlocked ∨ s.devState = stRun) :
    s.claim = claimTold (claimReplanned (claimTaken (claimShown s))) s.orbCount (nextEpoch (s.getN Obj.RED_EPOCH)) s.time32 := by
  have hnot : ¬ s.devRole = roleActive := by
    rw [hrole]
    decide
  unfold State.claim
  extract_lets s0 swapGone renewal epoch s1 s2 s3 s4 s5
  have hgo : ¬ (swapGone || !(s.devRole = roleStandby || s.devRole = roleActive) ||
      !(s.devState = stBlocked || s.devState = stRun)) = true := by
    have hgone : swapGone = false := by
      show (s.red.claimSwap && _) = false
      rw [hswap, Bool.false_and]
    have hready : (s.devState = stBlocked || s.devState = stRun) = true := by
      rw [Bool.or_eq_true, decide_eq_true_eq, decide_eq_true_eq]
      exact hstate
    rw [hgone, hready, decide_eq_true hrole]
    exact Bool.false_ne_true
  rw [if_neg hgo]
  have htaken : s2 = claimTaken (claimShown s) := if_neg hnot
  have hrenewal : decide renewal = false := decide_eq_false hnot
  have hreplanned : s3 = claimReplanned s2 := by
    show (if (!decide renewal && _) = true then _ else _) = _
    rw [hrenewal]
    rfl
  have hheld : s4 = s3.withRed (claimHeld s.orbCount) := by
    refine congrArg s3.withRed (funext fun r => ?_)
    rw [hrenewal, hswap, if_neg hnot, if_neg Bool.false_ne_true]
    rfl
  have htold : s5 = (s4.raise 132).journalFull 132 noSubject (bytesOf epoch 2) 0x09 false false := by
    show (s4.raise 132).journalFull 132 noSubject (bytesOf epoch 2) (if renewal then 0xFF else 0x09) false false = _
    rw [if_neg hnot]
  rw [htold, hheld, hreplanned, htaken]
  rfl

/-! ## What a claim shows -/

theorem touches_claimShown (s : State) :
    Touches [Obj.RED_STATUS, Obj.RED_EPOCH, Obj.RED_LAST_TAKEOVER_ORB] s (claimShown s) :=
  (((Touches.withRed s _).trans (.setBit _ _ _ (by decide))).trans (.put _ _ (by decide))).trans (.put _ _ (by decide))

theorem touches_claimTaken (s : State) : Touches [Obj.DEV_ROLE, Obj.RED_TAKEOVER_COUNT] s (claimTaken s) :=
  (((touches_setRole_owner s (by decide) 0).mono (by decide)).trans (.bump _ (by decide))).trans (.count _ _ (by decide))

theorem sameUnits_claimTaken (s : State) : s.SameUnits (claimTaken s) :=
  ((sameUnits_setRole_owner s (by decide) 0).trans (sameUnits_put _ _ _)).trans (sameUnits_put _ _ _)

theorem touches_claimReplanned (s : State) : Touches [Obj.AGE_STATUS] s (claimReplanned s) :=
  .ite (Touches.trans (b := s.withAge fun g => { g with accepted := none }) (.of_objs rfl rfl)
    ((Touches.setBit _ _ _ (by decide)).trans (.raise _ _))) (.refl s)

theorem claimFrame_claimReplanned (s : State) : ClaimFrame s (claimReplanned s) := by
  unfold claimReplanned
  split <;> rfl

theorem claimReplanned_red (s : State) : (claimReplanned s).red = s.red := by
  unfold claimReplanned
  split <;> rfl

/-- The claim logged, with its trigger of Comet. -/
def claimLogged (s : State) (now epoch time : Nat) : State :=
  (((s.withRed (claimHeld now)).raise 132).journalFull 132 noSubject (bytesOf epoch 2) 0x09 false false).cmtFire 11 time 0

theorem claimTold_eq (s : State) (now epoch time : Nat) :
    claimTold s now epoch time = ((claimLogged s now epoch time).change (.epoch epoch) now).demandFlush := rfl

theorem touches_claimLogged (s : State) (now epoch time : Nat) : Touches [] s (claimLogged s now epoch time) := by
  rw [claimLogged, cmtFire_frame]
  exact (((Touches.withRed s _).trans (.raise _ 132)).trans (.journalFull _ _ _ _ _ _ _)).trans (.of_objs rfl rfl)

theorem claimLogged_red (s : State) (now epoch time : Nat) : (claimLogged s now epoch time).red = claimHeld now s.red := by
  rw [claimLogged, cmtFire_frame]
  exact red_of_sameUnits (State.logOnly_journalFull ..).2

theorem sourcePending_claimLogged (s : State) (now epoch time : Nat) : (claimLogged s now epoch time).sourcePending 132 := by
  rw [claimLogged, cmtFire_frame]
  exact sourcePending_kept (by decide) (sourcePending_raise (s.withRed (claimHeld now)) 132) (keepsPending_journalFull _ _ _ _ _ _ _)

theorem claimFrame_claimLogged (s : State) (now epoch time : Nat) : ClaimFrame s (claimLogged s now epoch time) := by
  have hlogged : ClaimFrame s (((s.withRed (claimHeld now)).raise 132).journalFull 132 noSubject (bytesOf epoch 2) 0x09 false false) :=
    ClaimFrame.trans (b := (s.withRed (claimHeld now)).raise 132) rfl
      (.of_redFrame (.of_sameUnits (State.logOnly_journalFull ..).2))
  refine hlogged.trans ?_
  rw [claimLogged, cmtFire_frame]
  rfl

theorem touches_demandFlush {keys : List Nat} (s : State) : Touches keys s s.demandFlush :=
  .of_logOnly (State.logOnly_demandFlush s) (keepsPending_demandFlush s)

theorem touches_claimPassed (s : State) (c : Change) (now : Nat) : Touches [Obj.RED_STATE_GEN] s (s.change c now).demandFlush :=
  (touches_change s c now).trans (touches_demandFlush _)

theorem redFrame_claimPassed (s : State) (c : Change) (now : Nat) : RedFrame s (s.change c now).demandFlush :=
  (redFrame_change s c now).trans (.of_sameUnits (State.logOnly_demandFlush _).2)

theorem recordAdded_claimPassed (s : State) (c : Change) (now : Nat) : RecordAdded s (s.change c now).demandFlush := by
  unfold RecordAdded
  rw [red_of_sameUnits (State.logOnly_demandFlush _).2]
  exact recordAdded_change s c now

/-- The entries of a claim that follow its epoch and the role. -/
theorem touches_claimTold (s : State) (now epoch time : Nat) : Touches [Obj.RED_STATE_GEN] s (claimTold s now epoch time) :=
  ((touches_claimLogged s now epoch time).mono (by decide)).trans (touches_claimPassed _ _ _)

theorem claimTold_red (s : State) (now epoch time : Nat) :
    ((claimTold s now epoch time).red.claimAt, (claimTold s now epoch time).red.claimed, (claimTold s now epoch time).red.eclipse) =
      (s.red.claimAt, some now, some 0) := by
  have hadded := recordAdded_claimPassed (claimLogged s now epoch time) (.epoch epoch) now
  unfold RecordAdded at hadded
  rw [claimLogged_red] at hadded
  rw [claimTold_eq]
  generalize ((claimLogged s now epoch time).change (.epoch epoch) now).demandFlush.red = r at hadded ⊢
  rw [hadded]
  rfl

end Sys2Proof.Proofs
end

section
/-!
PROOF. A STANDBY takes the valve at the end of its hold-off; change records are sent once more, and then lost (O39; R303, R304, R309).
-/

namespace Sys2Proof.Proofs

open Sys2Proof Sys2Proof.Machine

/-! ## The claim -/

/-- A claim from its first entries to the drop of a plan whose boundary was never announced. -/
def claimBegun (s : State) : State := claimReplanned (claimTaken (claimShown s))

theorem touches_claimBegun (s : State) : Touches [Obj.RED_STATUS, Obj.RED_EPOCH, Obj.RED_LAST_TAKEOVER_ORB, Obj.RED_TAKEOVER_COUNT,
    Obj.DEV_ROLE, Obj.AGE_STATUS] s (claimBegun s) :=
  (((touches_claimShown s).mono (by decide)).trans ((touches_claimTaken _).mono (by decide))).trans
    ((touches_claimReplanned _).mono (by decide))

theorem claimFrame_claimBegun (s : State) : ClaimFrame s (claimBegun s) :=
  (ClaimFrame.trans (b := claimShown s) rfl (.of_redFrame (.of_sameUnits (sameUnits_claimTaken _)))).trans
    (claimFrame_claimReplanned _)

theorem claimBegun_red (s : State) : (claimBegun s).red = (claimShown s).red := by
  rw [claimBegun, claimReplanned_red, red_of_sameUnits (sameUnits_claimTaken _)]

/-- The takeover as its entries show it. -/
theorem claimBegun_shows (s : State) :
    (claimBegun s).devRole = roleActive ∧ (claimBegun s).get Obj.RED_EPOCH = nextEpoch (s.getN Obj.RED_EPOCH) ∧
      (claimBegun s).get Obj.RED_LAST_TAKEOVER_ORB = s.orbCount ∧
      (claimBegun s).get Obj.RED_TAKEOVER_COUNT = min (s.get Obj.RED_TAKEOVER_COUNT + 1) 0xFFFFFFFF ∧
      (claimBegun s).bit Obj.RED_STATUS 4 = false := by
  have hplan := touches_claimReplanned (claimTaken (claimShown s))
  have htaken := touches_claimTaken (claimShown s)
  have hkept : ∀ key, isLogEntry key = false → key ∉ [Obj.DEV_ROLE, Obj.RED_TAKEOVER_COUNT] → key ∉ [Obj.AGE_STATUS] →
      (claimBegun s).get key = (claimShown s).get key := fun key hlog hrole hage =>
    (hplan.get hlog hage).trans (htaken.get hlog hrole)
  refine ⟨?_, ?_, ?_, ?_, ?_⟩
  · rw [claimBegun, devRole_congr (hplan.get (by decide) (by decide)), claimTaken]
    refine (devRole_congr (b := ((claimShown s).setRole roleActive 0 |>.bump Obj.RED_TAKEOVER_COUNT).count 0x09) ?_).trans
      (devRole_setRole_owner (claimShown s) (by decide) 0)
    rw [State.get_count, if_neg (by decide), State.get_bump, if_neg (by decide)]
  · rw [hkept _ (by decide) (by decide) (by decide), claimShown, State.get_put_ne _ _ (by decide)]
    exact State.get_put_same ..
  · rw [hkept _ (by decide) (by decide) (by decide), claimShown]
    exact State.get_put_same ..
  · rw [claimBegun, hplan.get (by decide) (by decide), claimTaken, State.get_count, if_neg (by decide), State.get_bump, if_pos rfl,
      (touches_setRole_owner _ (by decide) 0).get (by decide) (by decide), (touches_claimShown s).get (by decide) (by decide)]
  · rw [bit_congr (hkept _ (by decide) (by decide) (by decide))]
    have hstatus : (claimShown s).bit Obj.RED_STATUS 4 =
        ((s.withRed fun r => { r with claimAt := none, claimSwap := false }).setBit Obj.RED_STATUS 4 false).bit Obj.RED_STATUS 4 :=
      bit_congr ((State.get_put_ne _ _ (by decide)).trans (State.get_put_ne _ _ (by decide))) 4
    rw [hstatus, State.bit_setBit, if_pos rfl, if_pos rfl]

/-- O39: at the end of its hold-off a STANDBY takes the valve (R303, R304). -/
theorem holdoff_claims (s : State) (t n : Nat) (hrunning : s.orbRunning = true) (hclaim : s.red.claimAt = some n)
    (hover : orbLater n s.orbCount = false) (hswap : s.red.claimSwap = false) (hrole : s.devRole = roleStandby)
    (hstate : s.devState = stBlocked ∨ s.devState = stRun) :
    ∃ u, exec (.claimHoldoffExpiry t) s = .next (State.settle (s.land t) u) ∧
      u.devRole = roleActive ∧
      u.get Obj.RED_EPOCH = nextEpoch (s.getN Obj.RED_EPOCH) ∧
      u.get Obj.RED_LAST_TAKEOVER_ORB = s.orbCount ∧
      u.get Obj.RED_TAKEOVER_COUNT = min (s.get Obj.RED_TAKEOVER_COUNT + 1) 0xFFFFFFFF ∧
      (u.red.claimAt, u.red.claimed, u.red.eclipse) = (none, some s.orbCount, some 0) ∧
      u.bit Obj.RED_STATUS 4 = false ∧
      u.sourcePending 132 ∧
      s.entriesBut u [Obj.RED_STATUS, Obj.RED_EPOCH, Obj.RED_LAST_TAKEOVER_ORB, Obj.RED_TAKEOVER_COUNT, Obj.RED_STATE_GEN,
        Obj.DEV_ROLE, Obj.AGE_STATUS] ∧
      u = { s.land t with objs := u.objs, red := u.red, cmt := u.cmt, age := u.age, icu := u.icu, log := u.log, flash := u.flash,
                          dict := u.dict, out := u.out } := by
  have hdue : (s.land t).holdoffOver = true := by
    rw [State.holdoffOver, show (s.land t).orbRunning = true from hrunning, show (s.land t).red.claimAt = some n from hclaim,
      Option.any_some, show (s.land t).orbCount = s.orbCount from rfl, hover]
    rfl
  have heffect : exec (.claimHoldoffExpiry t) s = .next (State.settle (s.land t)
      (claimTold (claimBegun (s.land t)) s.orbCount (nextEpoch (s.getN Obj.RED_EPOCH)) (s.land t).time32)) := by
    show execClaimHoldoffExpiry t s = _
    refine done_of_effect ?_
    exact (if_pos hdue).trans (claim_of_standby (s := s.land t) hswap hrole hstate)
  obtain ⟨hactive, hepoch, hat, hcount, hclaiming⟩ := claimBegun_shows (s.land t)
  have hbegun := touches_claimBegun (s.land t)
  have hred : (claimBegun (s.land t)).red.claimAt = none := by
    rw [claimBegun_red]
    rfl
  have hunits := claimFrame_claimBegun (s.land t)
  generalize claimBegun (s.land t) = x at *
  have htold := touches_claimTold x s.orbCount (nextEpoch (s.getN Obj.RED_EPOCH)) (s.land t).time32
  refine ⟨_, heffect, ?_, ?_, ?_, ?_, ?_, ?_, ?_, ?_, ?_⟩
  · rw [devRole_congr (htold.get (by decide) (by decide)), hactive]
  · exact (htold.get (by decide) (by decide)).trans hepoch
  · exact (htold.get (by decide) (by decide)).trans hat
  · exact (htold.get (by decide) (by decide)).trans hcount
  · rw [claimTold_red, hred]
  · rw [bit_congr (htold.get (by decide) (by decide)), hclaiming]
  · rw [claimTold_eq]
    exact sourcePending_kept (by decide) (sourcePending_claimLogged _ _ _ _) (touches_claimPassed _ _ _).pending
  · exact ((hbegun.mono (by decide)).trans (htold.mono (by decide))).entries
  · exact (hunits.trans (claimFrame_claimLogged ..)).trans (.of_redFrame (redFrame_claimPassed _ _ _))

/-- O39: before the end of the hold-off nothing changes (R303). -/
theorem holdoff_waits (s : State) (t : Nat) (hover : s.holdoffOver = false) :
    ∃ u, exec (.claimHoldoffExpiry t) s = .next (State.settle (s.land t) u) ∧ u = s.land t := by
  refine ⟨s.land t, ?_, rfl⟩
  show execClaimHoldoffExpiry t s = _
  refine done_of_effect (if_neg ?_)
  rw [show (s.land t).holdoffOver = false from hover]
  exact Bool.false_ne_true

/-! ## Change records without acknowledgement (R309) -/

theorem dueRecords_once {now n : Nat} {r : SentRecord} (hsent : r.sent = [n]) (hdue : 2 ≤ (now + 2 ^ 32 - n % 2 ^ 32) % 2 ^ 32) :
    dueRecords now [r] = [r] := by
  have hyes : decide (2 ≤ (now + 2 ^ 32 - n % 2 ^ 32) % 2 ^ 32) = true := decide_eq_true hdue
  rw [dueRecords, List.filter_cons, hsent]
  simp only [hyes, if_true, List.filter_nil, List.take_succ_cons, List.take_nil]

theorem lostRecord_once {now n : Nat} {r : SentRecord} (hsent : r.sent = [n]) : lostRecord now r = false := by
  rw [lostRecord, hsent]

theorem lostRecord_twice {now n m : Nat} {r : SentRecord} (hsent : r.sent = [n, m])
    (hdue : 2 ≤ (now + 2 ^ 32 - n % 2 ^ 32) % 2 ^ 32) : lostRecord now r = true := by
  rw [lostRecord, hsent]
  exact decide_eq_true hdue

/-- A record sent once is sent again. -/
def sentAgain (s : State) (r : SentRecord) (n : Nat) : State :=
  (s.withRed fun x => { x with records := [{ r with sent := [s.orbCount, n] }] }).emit (.record 0x23 [(r.record.gen : Int)])

theorem sendRecords_once {s : State} {r : SentRecord} {n : Nat} (hrecords : s.red.records = [r]) (hsent : r.sent = [n])
    (hdue : 2 ≤ (s.orbCount + 2 ^ 32 - n % 2 ^ 32) % 2 ^ 32) : s.sendRecords = sentAgain s r n := by
  unfold State.sendRecords
  extract_lets lost s1 due s2
  have hlost : lost = [] := by
    show s.red.records.filter (lostRecord s.orbCount) = []
    rw [hrecords, List.filter_cons_of_neg (by rw [lostRecord_once hsent]; exact Bool.false_ne_true), List.filter_nil]
  have hsame : s1 = s := if_pos (by rw [hlost]; rfl)
  have hgens : due = [r.record.gen] := by
    show (dueRecords s.orbCount s1.red.records).map (fun r => r.record.gen) = _
    rw [hsame, hrecords, dueRecords_once hsent hdue]
    rfl
  have hagain : s2 = s.withRed fun x => { x with records := [{ r with sent := [s.orbCount, n] }] } := by
    show s1.withRed (fun x => { x with records := x.records.map fun y => if y.record.gen ∈ due then _ else y }) = _
    rw [hsame, hgens]
    show { s with red := { s.red with records := s.red.records.map _ } } = _
    rw [hrecords, List.map_cons, List.map_nil, if_pos (List.mem_singleton.2 rfl), hsent]
    rfl
  rw [hgens, hagain]
  rfl

/-- The entries of the logbook that a flush changes as it begins. -/
abbrev flushKeys : List Nat := [Obj.LOG_STATUS, Obj.LOG_LAST_FLUSH, Obj.LOG_WEAR_MAX] ++ journalKeys

theorem onlyEntries_freezeNow (s : State) : s.onlyEntries s.freezeNow flushKeys :=
  onlyEntries_trans (b := { s with log := { s.log with staged := some s.freeze } }.setBit Obj.LOG_STATUS 3 true)
    (onlyEntries_setBit _ (by decide) _ _) (onlyEntries_put _ _ (by decide))

theorem onlyEntries_beginFlush (s : State) (demanded : Bool) : s.onlyEntries (s.beginFlush demanded) flushKeys := by
  unfold State.beginFlush
  split
  · exact fun _ _ => rfl
  · extract_lets s0 snap flash log s1 s3 worst s4
    have h0 : s.onlyEntries s0 flushKeys := by
      unfold s0
      split
      · exact fun _ _ => rfl
      · exact onlyEntries_freezeNow s
    have h1 : s.onlyEntries s1 flushKeys := h0
    have h3 : s.onlyEntries s3 flushKeys := onlyEntries_trans h1 (onlyEntries_put _ _ (by decide))
    have h4 : s.onlyEntries s4 flushKeys := onlyEntries_trans h3 (onlyEntries_put _ _ (by decide))
    split
    · refine onlyEntries_trans (onlyEntries_trans h4 (onlyEntries_setBit (key := Obj.LOG_STATUS) _ (by decide) 4 true)) fun key hkey => ?_
      exact (journalChange_event _ _ _ _).entries key fun hin => hkey (List.mem_append_right _ hin)
    · exact h4

theorem onlyEntries_demandFlush (s : State) : s.onlyEntries s.demandFlush flushKeys := by
  unfold State.demandFlush State.serveFlush
  split
  · exact onlyEntries_beginFlush { s with log := { s.log with demand := true } } true
  · split
    · exact onlyEntries_beginFlush { s with log := { s.log with demand := true } } false
    · exact fun _ _ => rfl

/-- A lasting outcome of a site is counted (R456). -/
theorem get_retryLasting (s : State) (code subject : Nat) (data : List Nat) {site : Nat}
    (hkey : Obj.LOG_RETRY_LASTING (site - 1) ∉ flushKeys) :
    (s.siteOutcome site code subject data true).get (Obj.LOG_RETRY_LASTING (site - 1)) =
      min (s.get (Obj.LOG_RETRY_LASTING (site - 1)) + 1) 0xFFFFFFFFFFFFFFFF := by
  have hlasting : s.siteOutcome site code subject data true =
      (s.add64 (Obj.LOG_RETRY_LASTING (site - 1)) 1).demandFlush.journalFull code subject data 0xFF false true := if_pos rfl
  have hjournal : Obj.LOG_RETRY_LASTING (site - 1) ∉ journalKeys := fun hin => hkey (List.mem_append_right _ hin)
  rw [hlasting, (journalChange_journalFull _ _ _ _ _ _ _).entries _ hjournal, onlyEntries_demandFlush _ _ hkey]
  exact State.get_put_same ..

/-- A record that is lost: noted, a lasting outcome of site 0x0D. -/
def recordDropped (s : State) : State :=
  (s.withRed fun x => { x with recordLost := true, records := [] }).siteOutcome 0x0D (Config.unlistedCode 9) noSubject [] true

theorem siteOutcome_red (s : State) (code subject : Nat) (data : List Nat) (lasting : Bool) {site : Nat}
    (hsite : 1 ≤ site ∧ site ≤ 0x16) : (s.siteOutcome site code subject data lasting).red = s.red :=
  red_of_sameUnits (State.logOnly_siteOutcome _ _ _ _ _ _ hsite).2

theorem sendRecords_twice {s : State} {r : SentRecord} {n m : Nat} (hrecords : s.red.records = [r]) (hsent : r.sent = [n, m])
    (hdue : 2 ≤ (s.orbCount + 2 ^ 32 - n % 2 ^ 32) % 2 ^ 32) : s.sendRecords = recordDropped s := by
  unfold State.sendRecords
  extract_lets lost s1 due s2
  have hlostOne := lostRecord_twice hsent hdue
  have hlost : lost = [r] := by
    show s.red.records.filter (lostRecord s.orbCount) = [r]
    rw [hrecords, List.filter_cons_of_pos hlostOne, List.filter_nil]
  have hdropped : s1 = recordDropped s := by
    refine (if_neg (by rw [hlost]; exact Bool.false_ne_true)).trans ?_
    have hkept : (s.red.records.filter fun x => !lostRecord s.orbCount x) = [] := by
      rw [hrecords, List.filter_cons_of_neg (by rw [hlostOne]; exact Bool.false_ne_true), List.filter_nil]
    show ({ s with red := { s.red with recordLost := true, records := s.red.records.filter _ } } : State).siteOutcome _ _ _ _ _ = _
    rw [hkept]
    rfl
  have hnone : s1.red.records = [] := by
    rw [hdropped, recordDropped, siteOutcome_red _ _ _ _ _ (by decide)]
    rfl
  have hgens : due = [] := by
    show (dueRecords s.orbCount s1.red.records).map (fun r => r.record.gen) = _
    rw [hnone]
    rfl
  have hsame : s2 = s1 := by
    show { s1 with red := { s1.red with records := s1.red.records.map _ } } = s1
    generalize s1 = x at hnone ⊢
    rw [hnone, List.map_nil, ← hnone]
  rw [hgens, hsame, hdropped]
  rfl

theorem changeRecordTimeout_effect {s u : State} {t : Nat} (hoverdue : (s.land t).recordOverdue = true)
    (hsent : (s.land t).sendRecords = u) : exec (.changeRecordTimeout t) s = .next (State.settle (s.land t) u) := by
  show execChangeRecordTimeout t s = _
  exact done_of_effect ((if_pos hoverdue).trans hsent)

/-- O39: a change record without acknowledgement for two cycles is sent once more (R309). -/
theorem record_sent_again (s : State) (t : Nat) (r : SentRecord) (n : Nat) (hrecords : s.red.records = [r]) (hsent : r.sent = [n])
    (hdue : 2 ≤ (s.orbCount + 2 ^ 32 - n % 2 ^ 32) % 2 ^ 32) :
    ∃ u, exec (.changeRecordTimeout t) s = .next (State.settle (s.land t) u) ∧
      u.red = { s.red with records := [{ r with sent := [s.orbCount, n] }] } ∧
      u.out = [Out.record 0x23 [(r.record.gen : Int)]] ∧
      s.onlyEntries u [] ∧
      u = { s.land t with objs := u.objs, red := u.red, out := u.out } := by
  have hoverdue : (s.land t).recordOverdue = true := by
    show s.red.records.any _ = true
    rw [hrecords, List.any_cons, dueRecords_once (now := (s.land t).orbCount) hsent hdue, hsent]
    exact Bool.or_eq_true_iff.2 (.inl (Bool.or_eq_true_iff.2 (.inr rfl)))
  exact ⟨_, changeRecordTimeout_effect hoverdue (sendRecords_once (s := s.land t) hrecords hsent hdue), rfl, rfl, fun _ _ => rfl, rfl⟩

/-- O39: a change record without acknowledgement two cycles after its second sending is lost (R309). -/
theorem record_lost (s : State) (t : Nat) (r : SentRecord) (n m : Nat) (hrecords : s.red.records = [r]) (hsent : r.sent = [n, m])
    (hdue : 2 ≤ (s.orbCount + 2 ^ 32 - n % 2 ^ 32) % 2 ^ 32) :
    ∃ u, exec (.changeRecordTimeout t) s = .next (State.settle (s.land t) u) ∧
      u.red = { s.red with records := [], recordLost := true } ∧
      u.get (Obj.LOG_RETRY_LASTING 12) = min (s.get (Obj.LOG_RETRY_LASTING 12) + 1) 0xFFFFFFFFFFFFFFFF ∧
      s.entriesBut u [] ∧
      u = { s.land t with objs := u.objs, red := u.red, icu := u.icu, log := u.log, flash := u.flash, dict := u.dict,
                          out := u.out } := by
  have hoverdue : (s.land t).recordOverdue = true := by
    show s.red.records.any _ = true
    rw [hrecords, List.any_cons, lostRecord_twice (now := (s.land t).orbCount) hsent hdue]
    rfl
  refine ⟨_, changeRecordTimeout_effect hoverdue (sendRecords_twice (s := s.land t) hrecords hsent hdue), ?_, ?_, ?_, ?_⟩
  · rw [recordDropped, siteOutcome_red _ _ _ _ _ (by decide)]
    rfl
  · exact get_retryLasting ((s.land t).withRed fun x => { x with recordLost := true, records := [] }) _ _ _ (by decide)
  · exact ((Touches.withRed (s.land t) _).trans (.siteOutcome _ _ _ _ _ _ (by decide))).entries
  · exact RedFrame.trans (b := (s.land t).withRed fun x => { x with recordLost := true, records := [] }) rfl
      (.of_sameUnits (State.logOnly_siteOutcome _ _ _ _ _ _ (by decide)).2)

end Sys2Proof.Proofs
end

section
/-!
PROOF. A resynchronisation starts by request or by its timer; the swap request and RED_PARTNER_ABSENT (O39; R313, R315, R317).
-/

namespace Sys2Proof.Proofs

open Sys2Proof Sys2Proof.Machine

/-! ## A resynchronisation starts (R313) -/

/-- What a resynchronisation that starts shows before its first phase; the unit asserts Tide again (R50). -/
def resyncPrepared (s : State) : State :=
  let s1 := s.withRed fun r => { r with
    attempt := 1, startAt := s.now, image := none, blockBad := false, wanted := false, retryAt := none, toApply := [] }
  (({ s1 with orb := { s1.orb with silent := false } }).setBit Obj.RED_STATUS 9 true).put Obj.RED_RESYNC_PROGRESS 0

theorem resyncStart_eq (s : State) : s.resyncStart = (resyncPrepared s).resyncPhase 1 := rfl

theorem touches_resyncPrepared (s : State) : Touches [Obj.RED_STATUS, Obj.RED_RESYNC_PROGRESS] s (resyncPrepared s) := by
  unfold resyncPrepared
  extract_lets s1
  exact Touches.trans (b := { s1 with orb := { s1.orb with silent := false } }) (.of_objs rfl rfl)
    ((Touches.setBit _ _ _ (by decide)).trans (.put _ _ (by decide)))

/-- A resynchronisation changes the supervisor and the Orbit record beside entries and the logbook's units as it starts. -/
def StartFrame (a b : State) : Prop :=
  b = { a with objs := b.objs, red := b.red, orb := b.orb, icu := b.icu, log := b.log, flash := b.flash, dict := b.dict, out := b.out }

theorem StartFrame.trans {a b c : State} (h : StartFrame a b) (g : StartFrame b c) : StartFrame a c := by
  unfold StartFrame at *
  rw [g, h]

theorem StartFrame.of_redFrame {a b : State} (h : RedFrame a b) : StartFrame a b := by
  unfold StartFrame RedFrame at *
  rw [h]

/-- A resynchronisation that has started. -/
structure ResyncStarted (s u : State) : Prop where
  phase : u.get Obj.RED_RESYNC_PHASE = 1
  begun : (u.red.attempt, u.red.startAt, u.red.wanted) = (1, s.now, false)
  image : u.red.image = none
  status : u.bit Obj.RED_STATUS 9 = true
  progress : u.get Obj.RED_RESYNC_PROGRESS = 0
  heard : u.orb.silent = false
  source : u.sourcePending 142
  entries : s.entriesBut u [Obj.RED_STATUS, Obj.RED_RESYNC_PHASE, Obj.RED_RESYNC_PROGRESS]
  units : StartFrame s u

theorem resyncStarted_resyncStart (s : State) : ResyncStarted s s.resyncStart := by
  have hphase := touches_resyncPhase (resyncPrepared s) 1
  rw [resyncStart_eq]
  refine ⟨get_resyncPhase _ 1, by rw [resyncPhase_red]; rfl, by rw [resyncPhase_red]; rfl, ?_, ?_, ?_, sourcePending_resyncPhase _ 1, ?_,
    StartFrame.trans (b := resyncPrepared s) rfl (.of_redFrame (redFrame_resyncPhase _ 1))⟩
  · rw [bit_congr (hphase.get (by decide) (by decide)), resyncPrepared, bit_congr (State.get_put_ne _ _ (by decide)), State.bit_setBit,
      if_pos rfl, if_pos rfl]
  · exact (hphase.get (by decide) (by decide)).trans (State.get_put_same ..)
  · rw [(redFrame_resyncPhase (resyncPrepared s) 1).orb]
    rfl
  · exact (((touches_resyncPrepared s).mono (by decide)).trans (hphase.mono (by decide))).entries

theorem row_resyncReq :
    ∃ row, Obj.rowOf Obj.RED_RESYNC_REQ = some row ∧ row.access = .wo ∧ ObjType.value row.type (ObjType.bytes row.type 1) = 1 :=
  ⟨_, rfl, rfl, rfl⟩

theorem writeEntry_resyncReq {s : State} {t : Nat} {f : Sender} (hwrite : s.takesWrite t f Obj.RED_RESYNC_REQ 1 = true) :
    (s.land t).writeEntry f Obj.RED_RESYNC_REQ 1 = ((s.land t).heard f).resyncStart.emit .done := by
  obtain ⟨row, hrow, hwo, hval⟩ := row_resyncReq
  rw [writeEntry_command_of_takesWrite hrow hwo (fun _ => rfl) hval hwrite]
  rfl

theorem answered_emit (s : State) : Out.done ∈ (s.emit .done).out := List.mem_append_right _ (List.mem_singleton_self _)

/-- O39: an accepted RED_RESYNC_REQ starts a resynchronisation (R313). -/
theorem resyncReq_starts (s : State) (t : Nat) (f : Sender) (hwrite : s.takesWrite t f Obj.RED_RESYNC_REQ 1 = true) :
    ∃ u, exec (.redResyncReq t f) s = .next (State.settle (s.land t) u) ∧
      u.get Obj.RED_RESYNC_PHASE = 1 ∧
      (u.red.attempt, u.red.startAt, u.red.wanted) = (1, (s.land t).now, false) ∧
      u.red.image = none ∧
      u.bit Obj.RED_STATUS 9 = true ∧
      u.get Obj.RED_RESYNC_PROGRESS = 0 ∧
      u.orb.silent = false ∧
      u.sourcePending 142 ∧
      Out.done ∈ u.out ∧
      s.entriesBut u [Obj.RED_STATUS, Obj.RED_RESYNC_PHASE, Obj.RED_RESYNC_PROGRESS] ∧
      u = { s.land t with objs := u.objs, red := u.red, orb := u.orb, icu := u.icu, log := u.log, flash := u.flash, dict := u.dict,
                          out := u.out } := by
  have heffect : exec (.redResyncReq t f) s = .next (State.settle (s.land t) (((s.land t).heard f).resyncStart.emit .done)) := by
    show execRedResyncReq t f s = _
    exact done_of_effect (writeEntry_resyncReq hwrite)
  obtain ⟨hphase, hbegun, himage, hstatus, hprogress, hheard, hsource, hentries, hunits⟩ :=
    resyncStarted_resyncStart ((s.land t).heard f)
  generalize ((s.land t).heard f).resyncStart = x at *
  refine ⟨_, heffect, hphase, hbegun, himage, hstatus, hprogress, hheard, hsource, answered_emit x, hentries, ?_⟩
  exact (StartFrame.trans (b := (s.land t).heard f) rfl hunits).trans rfl

/-- O39: a resynchronisation that is wanted starts by its timer (R313). -/
theorem autoResync_starts (s : State) (t : Nat) (hwanted : s.red.wanted = true) (hallowed : s.resyncAllowed = true)
    (hauto : s.bit Obj.RED_CTRL 1 = true) (hpartner : s.hasPartner = true) :
    ∃ u, exec (.autoResyncTimer t) s = .next (State.settle (s.land t) u) ∧
      u.get Obj.RED_RESYNC_PHASE = 1 ∧
      (u.red.attempt, u.red.startAt, u.red.wanted) = (1, (s.land t).now, false) ∧
      u.red.image = none ∧
      u.bit Obj.RED_STATUS 9 = true ∧
      u.get Obj.RED_RESYNC_PROGRESS = 0 ∧
      u.orb.silent = false ∧
      u.sourcePending 142 ∧
      s.entriesBut u [Obj.RED_STATUS, Obj.RED_RESYNC_PHASE, Obj.RED_RESYNC_PROGRESS] ∧
      u = { s.land t with objs := u.objs, red := u.red, orb := u.orb, icu := u.icu, log := u.log, flash := u.flash, dict := u.dict,
                          out := u.out } := by
  have heffect : exec (.autoResyncTimer t) s = .next (State.settle (s.land t) (s.land t).resyncStart) := by
    show execAutoResyncTimer t s = _
    refine done_of_effect (if_pos ?_)
    rw [show (s.land t).red.wanted = true from hwanted, show (s.land t).resyncAllowed = true from hallowed,
      show (s.land t).bit Obj.RED_CTRL 1 = true from hauto, show (s.land t).hasPartner = true from hpartner]
    rfl
  obtain ⟨hphase, hbegun, himage, hstatus, hprogress, hheard, hsource, hentries, hunits⟩ := resyncStarted_resyncStart (s.land t)
  exact ⟨_, heffect, hphase, hbegun, himage, hstatus, hprogress, hheard, hsource, hentries, hunits⟩

/-! ## RED_SWAP_REQ (R317) -/

theorem row_swapReq :
    ∃ row, Obj.rowOf Obj.RED_SWAP_REQ = some row ∧ row.access = .wo ∧ ObjType.value row.type (ObjType.bytes row.type 1) = 1 :=
  ⟨_, rfl, rfl, rfl⟩

/-- O39: an accepted RED_SWAP_REQ waits for T_fin (R317). -/
theorem swapReq_waits (s : State) (t : Nat) (f : Sender) (hwrite : s.takesWrite t f Obj.RED_SWAP_REQ 1 = true) :
    ∃ u, exec (.redSwapReq t f) s = .next (State.settle (s.land t) u) ∧
      u.red = { s.red with swapDue := true } ∧
      u.out = [Out.done] ∧
      s.onlyEntries u [] ∧
      u = { s.land t with objs := u.objs, red := u.red, dict := u.dict, out := u.out } := by
  have heffect : exec (.redSwapReq t f) s =
      .next (State.settle (s.land t) ((((s.land t).heard f).withRed fun r => { r with swapDue := true }).emit .done)) := by
    show execRedSwapReq t f s = _
    refine done_of_effect ?_
    obtain ⟨row, hrow, hwo, hval⟩ := row_swapReq
    rw [writeEntry_command_of_takesWrite hrow hwo (fun _ => rfl) hval hwrite]
    rfl
  exact ⟨_, heffect, rfl, rfl, fun _ _ => rfl, rfl⟩

/-! ## RED_PARTNER_ABSENT (R315) -/

/-- RED_PARTNER_ABSENT is read and written, and holds the value written (Table 12.8). -/
theorem row_partnerAbsent : ∃ row, Obj.rowOf Obj.RED_PARTNER_ABSENT = some row ∧ row.access = .rw ∧
    ObjRow.masked row (ObjType.value row.type (ObjType.bytes row.type 1)) = 1 ∧
    ObjRow.masked row (ObjType.value row.type (ObjType.bytes row.type 0)) = 0 := ⟨_, rfl, rfl, rfl, rfl⟩

theorem setEntry_partnerAbsent (s : State) (v : Int) : s.setEntry Obj.RED_PARTNER_ABSENT v =
    if v = 1 then s.absentSet else if s.get Obj.RED_PARTNER_ABSENT = 1 then s.absentClear else s := rfl

/-- The commit of an entry is live, and answered. -/
def liveAnswered (s : State) : State := ({ s with dict := { s.dict with live := true } } : State).emit .done

theorem absentSet_effect {s : State} {t : Nat} {f : Sender} (hwrite : s.takesWrite t f Obj.RED_PARTNER_ABSENT 1 = true) :
    exec (.redPartnerAbsentSet t f) s = .next (State.settle (s.land t) (liveAnswered ((s.land t).heard f).absentSet)) := by
  obtain ⟨row, hrow, hrw, hone, -⟩ := row_partnerAbsent
  show execRedPartnerAbsentSet t f s = _
  refine done_of_effect ?_
  rw [writeEntry_of_takesWrite hrow hrw (fun _ => rfl) hwrite, hone, State.commitEntry, setEntry_partnerAbsent, if_pos rfl]
  rfl

theorem absentClear_effect {s : State} {t : Nat} {f : Sender} (hwrite : s.takesWrite t f Obj.RED_PARTNER_ABSENT 0 = true)
    (hset : s.get Obj.RED_PARTNER_ABSENT = 1) :
    exec (.redPartnerAbsentClear t f) s = .next (State.settle (s.land t) (liveAnswered ((s.land t).heard f).absentClear)) := by
  obtain ⟨row, hrow, hrw, -, hzero⟩ := row_partnerAbsent
  have hset' : ((s.land t).heard f).get Obj.RED_PARTNER_ABSENT = 1 := hset
  show execRedPartnerAbsentClear t f s = _
  refine done_of_effect ?_
  rw [writeEntry_of_takesWrite hrow hrw (fun _ => rfl) hwrite, hzero, State.commitEntry, setEntry_partnerAbsent,
    if_neg (by decide), if_pos hset']
  rfl

/-- The partner's absence as its entries show it, before the role follows. -/
def absenceShown (s : State) (absent : Bool) : State :=
  (s.put Obj.RED_PARTNER_ABSENT (if absent then 1 else 0)).setBit Obj.RED_STATUS 13 absent

theorem touches_absenceShown (s : State) (absent : Bool) :
    Touches [Obj.RED_PARTNER_ABSENT, Obj.RED_STATUS] s (absenceShown s absent) :=
  (Touches.put s _ (by decide)).trans (.setBit _ _ _ (by decide))

/-- The unit owns the valve alone or with its partner, and shows it. -/
def ownerShown (s : State) (absent : Bool) (role : Nat) : State := (absenceShown s absent).setRole role 0

theorem ownerShown_shows (s : State) (absent : Bool) {role : Nat} (hrole : role ≤ 1) :
    (ownerShown s absent role).get Obj.RED_PARTNER_ABSENT = (if absent then 1 else 0) ∧ (ownerShown s absent role).devRole = role ∧
      (ownerShown s absent role).bit Obj.RED_STATUS 13 = absent ∧
      Touches [Obj.RED_PARTNER_ABSENT, Obj.RED_STATUS, Obj.DEV_ROLE] s (ownerShown s absent role) ∧
      s.SameUnits (ownerShown s absent role) := by
  have hset := touches_setRole_owner (absenceShown s absent) hrole 0
  refine ⟨?_, devRole_setRole_owner _ hrole 0, ?_, ((touches_absenceShown s absent).mono (by decide)).trans (hset.mono (by decide)),
    State.SameUnits.trans (b := absenceShown s absent) rfl (sameUnits_setRole_owner _ hrole 0)⟩
  · rw [ownerShown, hset.get (by decide) (by decide), absenceShown, State.get_setBit, if_neg (by decide)]
    exact State.get_put_same ..
  · rw [ownerShown, bit_congr (hset.get (by decide) (by decide)), absenceShown, State.bit_setBit, if_pos rfl, if_pos rfl]

/-- O39: RED_PARTNER_ABSENT gives role ALONE (R315). -/
theorem absent_alone (s : State) (t : Nat) (f : Sender) (hwrite : s.takesWrite t f Obj.RED_PARTNER_ABSENT 1 = true) :
    ∃ u, exec (.redPartnerAbsentSet t f) s = .next (State.settle (s.land t) u) ∧
      u.get Obj.RED_PARTNER_ABSENT = 1 ∧
      u.devRole = roleAlone ∧
      u.bit Obj.RED_STATUS 13 = true ∧
      u.causeActive causePartnerTrip = false ∧
      Out.done ∈ u.out ∧
      s.entriesBut u [Obj.RED_PARTNER_ABSENT, Obj.RED_STATUS, Obj.DEV_ROLE, Obj.PRT_TRIP_ACTIVE] ∧
      u = { s.land t with objs := u.objs, icu := u.icu, log := u.log, flash := u.flash, dict := u.dict, out := u.out } := by
  have hset : ((s.land t).heard f).absentSet = (ownerShown ((s.land t).heard f) true roleAlone).setBit Obj.PRT_TRIP_ACTIVE
      causePartnerTrip false := setCause_off _ _
  have heffect := absentSet_effect hwrite
  rw [hset] at heffect
  obtain ⟨habsent, hrole, hstatus, hentries, hunits⟩ := ownerShown_shows ((s.land t).heard f) true (role := roleAlone) (by decide)
  generalize ownerShown ((s.land t).heard f) true roleAlone = x at *
  have hcause : Touches [Obj.PRT_TRIP_ACTIVE] x (x.setBit Obj.PRT_TRIP_ACTIVE causePartnerTrip false) := .setBit _ _ _ (by decide)
  refine ⟨_, heffect, ?_, ?_, ?_, ?_, answered_emit _, ?_, ?_⟩
  · exact (hcause.get (by decide) (by decide)).trans habsent
  · exact (devRole_congr (hcause.get (by decide) (by decide))).trans hrole
  · exact (bit_congr (hcause.get (by decide) (by decide)) 13).trans hstatus
  · show (x.setBit Obj.PRT_TRIP_ACTIVE causePartnerTrip false).bit Obj.PRT_TRIP_ACTIVE causePartnerTrip = false
    rw [State.bit_setBit, if_pos rfl, if_pos rfl]
  · exact ((hentries.mono (by decide)).trans (hcause.mono (by decide))).entries
  · have hheard : (s.land t).SameUnits x := State.SameUnits.trans (b := (s.land t).heard f) rfl hunits
    unfold State.SameUnits at hheard
    rw [hheard]
    rfl

/-- O39: RED_PARTNER_ABSENT cleared gives role ACTIVE (R315). -/
theorem absent_cleared (s : State) (t : Nat) (f : Sender) (hwrite : s.takesWrite t f Obj.RED_PARTNER_ABSENT 0 = true)
    (hset : s.get Obj.RED_PARTNER_ABSENT = 1) :
    ∃ u, exec (.redPartnerAbsentClear t f) s = .next (State.settle (s.land t) u) ∧
      u.get Obj.RED_PARTNER_ABSENT = 0 ∧
      u.devRole = roleActive ∧
      u.bit Obj.RED_STATUS 13 = false ∧
      Out.done ∈ u.out ∧
      s.entriesBut u [Obj.RED_PARTNER_ABSENT, Obj.RED_STATUS, Obj.DEV_ROLE] ∧
      u = { s.land t with objs := u.objs, red := u.red, icu := u.icu, log := u.log, flash := u.flash, dict := u.dict,
                          out := u.out } := by
  have hclear : ((s.land t).heard f).absentClear = (ownerShown ((s.land t).heard f) false roleActive).withRed fun r =>
      { r with ownedBefore := true, obeyed := true } := rfl
  have heffect := absentClear_effect hwrite hset
  rw [hclear] at heffect
  obtain ⟨habsent, hrole, hstatus, hentries, hunits⟩ := ownerShown_shows ((s.land t).heard f) false (role := roleActive) (by decide)
  generalize ownerShown ((s.land t).heard f) false roleActive = x at *
  refine ⟨_, heffect, habsent, hrole, hstatus, answered_emit _, hentries.entries, ?_⟩
  have hheard : (s.land t).SameUnits x := State.SameUnits.trans (b := (s.land t).heard f) rfl hunits
  unfold State.SameUnits at hheard
  rw [hheard]
  rfl

end Sys2Proof.Proofs
end

section
/-!
PROOF. The phases of a resynchronisation complete in order, up to the image in force (O39; R313, Table 12.4).
-/

namespace Sys2Proof.Proofs

open Sys2Proof Sys2Proof.Machine

/-- A STALE unit that sees its partner is in the middle of a resynchronisation (Table 12.4). -/
structure Resyncing (s : State) (d : Tide) (phase : Nat) : Prop where
  tide : s.tide = some d
  started : s.resyncOn = true
  seen : s.partnerSeen = true
  stale : s.devRole = roleStale
  phase : s.getN Obj.RED_RESYNC_PHASE = phase

theorem Resyncing.land {s : State} {d : Tide} {phase : Nat} (h : Resyncing s d phase) (t : Nat) : Resyncing (s.land t) d phase :=
  ⟨h.tide, h.started, h.seen, h.stale, h.phase⟩

theorem Resyncing.goes {s : State} {d : Tide} {phase : Nat} (h : Resyncing s d phase) :
    ¬ (!s.resyncOn || !s.partnerSeen || s.devRole ≠ roleStale) = true := by
  rw [h.started, h.seen, h.stale]
  exact Bool.false_ne_true

theorem resyncNext_waiting {s : State} {d : Tide} (h : Resyncing s d 1) (commit : State → Nat → Int → State) (equal : Bool)
    (howner : d.role ≤ 1) : s.resyncNext commit equal = s.resyncPhase 2 := by
  have hready : (d.role ≤ 1 || (d.role = roleStale && d.resyncRequest)) = true := by
    rw [decide_eq_true howner, Bool.true_or]
  unfold State.resyncNext
  rw [h.tide, h.phase]
  exact (if_neg h.goes).trans (if_pos hready)

theorem resyncNext_second {s : State} {d : Tide} (h : Resyncing s d 2) (commit : State → Nat → Int → State) (equal : Bool) :
    s.resyncNext commit equal = s.resyncPhase 3 := by
  unfold State.resyncNext
  rw [h.tide, h.phase]
  exact if_neg h.goes

theorem resyncNext_copied {s : State} {d : Tide} (h : Resyncing s d 3) (commit : State → Nat → Int → State) (equal : Bool)
    (hcopied : s.red.image.isSome = true ∨ s.resyncSource d = true) : s.resyncNext commit equal = s.resyncPhase 4 := by
  have hready : (s.red.image.isSome || s.resyncSource d) = true := Bool.or_eq_true_iff.2 hcopied
  unfold State.resyncNext
  rw [h.tide, h.phase]
  exact (if_neg h.goes).trans (if_pos hready)

theorem resyncNext_installs {s : State} {d : Tide} {img : DurableImage} (h : Resyncing s d 4) (commit : State → Nat → Int → State)
    (equal : Bool) (himage : s.red.image = some img) (hsource : s.resyncSource d = false) :
    s.resyncNext commit equal = (s.resyncInstall commit img).resyncPhase 5 := by
  unfold State.resyncNext
  rw [h.tide, h.phase]
  refine (if_neg h.goes).trans ?_
  simp only [himage, hsource, Bool.false_eq_true, if_false]

theorem resyncNext_verified {s : State} {d : Tide} (h : Resyncing s d 5) (commit : State → Nat → Int → State) :
    s.resyncNext commit true = s.resyncDone d := by
  unfold State.resyncNext
  rw [h.tide, h.phase]
  exact if_neg h.goes

theorem resyncNext_differs {s : State} {d : Tide} (h : Resyncing s d 5) (commit : State → Nat → Int → State) :
    s.resyncNext commit false = s.resyncFail := by
  unfold State.resyncNext
  rw [h.tide, h.phase]
  exact if_neg h.goes

theorem resyncPhaseDone_effect {s u : State} {t : Nat} {equal : Bool} (h : (s.land t).resyncNext State.commitEntry equal = u) :
    exec (.resyncPhaseDone t equal) s = .next (State.settle (s.land t) u) := by
  show execResyncPhaseDone t equal s = _
  exact done_of_effect h

/-- A phase that begins is shown with source 142. -/
theorem phase_begins {s : State} {t p : Nat} {equal : Bool}
    (h : (s.land t).resyncNext State.commitEntry equal = (s.land t).resyncPhase p) :
    ∃ u, exec (.resyncPhaseDone t equal) s = .next (State.settle (s.land t) u) ∧
      u.get Obj.RED_RESYNC_PHASE = p ∧
      u.sourcePending 142 ∧
      s.entriesBut u [Obj.RED_RESYNC_PHASE] ∧
      u = { s.land t with objs := u.objs, red := u.red, icu := u.icu, log := u.log, flash := u.flash, dict := u.dict,
                          out := u.out } :=
  ⟨_, resyncPhaseDone_effect h, get_resyncPhase _ p, sourcePending_resyncPhase _ p, (touches_resyncPhase (s.land t) p).entries,
    redFrame_resyncPhase _ p⟩

/-! ## The image comes into force (Table 12.4, CATCH_UP) -/

/-- The classes, the descriptors and the ageing records of an image. -/
def imageValve (s : State) (img : DurableImage) : State :=
  img.ageing.records.foldl (fun s (e : Nat × SmAge) => s.withSm e.1 fun m => { m with age := e.2 })
    ((img.classes.foldl (fun s (e : Nat × Nat) => s.withSm e.1 fun m => { m with cls := e.2 }) s).withGpf fun g =>
      { g with tuned := img.descriptors })

/-- The plan of an image. -/
def imagePlan (s : State) (img : DurableImage) : State :=
  match img.ageing.plan with
  | some (p, gen) => (s.withAge fun g => { g with plan := some p }).put Obj.AGE_PLAN_GEN gen
  | none => s

/-- The generation and the epoch of an image without buffered records. -/
def copyShown (s : State) (img : DurableImage) : State :=
  ((s.put Obj.RED_STATE_GEN img.gen).put Obj.RED_EPOCH img.epoch).withRed fun r => { r with applied := img.gen }

/-- Only the ageing unit changes. -/
theorem foldl_withSm {α : Type} (n : α → Nat) (f : α → Sm → Sm) (l : List α) (s : State) :
    l.foldl (fun s e => s.withSm (n e) (f e)) s = { s with age := (l.foldl (fun s e => s.withSm (n e) (f e)) s).age } := by
  refine foldl_related (R := fun a b : State => b = { a with age := b.age }) (f := fun s e => s.withSm (n e) (f e))
    (fun _ => rfl) (fun h g => ?_) _ (fun _ _ _ => rfl) _
  rw [g, h]

theorem imageValve_frame (s : State) (img : DurableImage) :
    imageValve s img = { s with age := (imageValve s img).age, gpf := { s.gpf with tuned := img.descriptors } } := by
  unfold imageValve
  have hclasses := foldl_withSm (α := Nat × Nat) (·.1) (fun e m => { m with cls := e.2 }) img.classes s
  generalize img.classes.foldl (fun s (e : Nat × Nat) => s.withSm e.1 fun m => { m with cls := e.2 }) s = a at hclasses ⊢
  have hrecords := foldl_withSm (α := Nat × SmAge) (·.1) (fun e m => { m with age := e.2 }) img.ageing.records
    (a.withGpf fun g => { g with tuned := img.descriptors })
  generalize img.ageing.records.foldl (fun s (e : Nat × SmAge) => s.withSm e.1 fun m => { m with age := e.2 })
    (a.withGpf fun g => { g with tuned := img.descriptors }) = b at hrecords ⊢
  rw [hrecords, hclasses]
  rfl

theorem imagePlan_frame (s : State) (img : DurableImage) :
    imagePlan s img = { s with objs := (imagePlan s img).objs, age := (imagePlan s img).age } := by
  unfold imagePlan
  split <;> rfl

theorem touches_imagePlan (s : State) (img : DurableImage) : Touches [Obj.AGE_PLAN_GEN] s (imagePlan s img) := by
  unfold imagePlan
  split
  · next p gen _ =>
    exact Touches.trans (b := s.withAge fun g => { g with plan := some p }) (.of_objs rfl rfl) (.put _ _ (by decide))
  · exact .refl s

theorem resyncInstall_plain {s : State} {commit : State → Nat → Int → State} {img : DurableImage} (hentries : img.entries = [])
    (hempty : s.red.toApply = []) : s.resyncInstall commit img = copyShown (imagePlan (imageValve s img) img) img := by
  unfold State.resyncInstall
  extract_lets s1 s2 s3 s4 s5 last s6
  have h1 : s1 = s := by
    show img.entries.foldl _ s = s
    rw [hentries, List.foldl_nil]
  have h5 : s5 = imagePlan (imageValve s img) img := by
    rw [← h1]
    rfl
  have hqueue : s5.red.toApply = [] := by
    rw [h5, imagePlan_frame, imageValve_frame]
    exact hempty
  have hlast : last = img.gen := by
    show (s5.red.toApply.map (·.gen)).foldl Nat.max img.gen = img.gen
    rw [hqueue, List.map_nil, List.foldl_nil]
  have hshown : (s6.withRed fun r => { r with applied := last }) = copyShown s5 img := by
    show (((s5.put Obj.RED_STATE_GEN last).put Obj.RED_EPOCH img.epoch).withRed fun r => { r with applied := last }) = _
    rw [hlast]
    rfl
  rw [hshown, ← h5]
  refine recordsApply_of_later commit fun r hr => ?_
  rw [show (copyShown s5 img).red.toApply = [] from hqueue] at hr
  cases hr

/-- The image in force, as its entries and units show it. -/
structure Installed (s u : State) (img : DurableImage) : Prop where
  epoch : u.get Obj.RED_EPOCH = img.epoch
  gen : u.get Obj.RED_STATE_GEN = img.gen
  applied : u.red.applied = img.gen
  tuned : u.gpf.tuned = img.descriptors
  touches : Touches [Obj.RED_EPOCH, Obj.RED_STATE_GEN, Obj.AGE_PLAN_GEN] s u
  units : u = { s with objs := u.objs, red := u.red, gpf := u.gpf, age := u.age }

theorem touches_imageValve (s : State) (img : DurableImage) : Touches [] s (imageValve s img) :=
  .of_objs (by rw [imageValve_frame]) (by rw [imageValve_frame])

theorem installed_copy (s : State) (img : DurableImage) : Installed s (copyShown (imagePlan (imageValve s img) img) img) img := by
  have htouches : Touches [Obj.RED_EPOCH, Obj.RED_STATE_GEN, Obj.AGE_PLAN_GEN] s (imagePlan (imageValve s img) img) :=
    ((touches_imageValve s img).mono (by decide)).trans ((touches_imagePlan _ img).mono (by decide))
  have hframe : imagePlan (imageValve s img) img = { s with
      objs := (imagePlan (imageValve s img) img).objs, age := (imagePlan (imageValve s img) img).age
      gpf := { s.gpf with tuned := img.descriptors } } := by
    have hplan := imagePlan_frame (imageValve s img) img
    rw [imageValve_frame s img] at hplan
    rw [imageValve_frame s img]
    exact hplan
  generalize imagePlan (imageValve s img) img = x at htouches hframe ⊢
  refine ⟨State.get_put_same .., ?_, rfl, ?_, ?_, ?_⟩
  · exact (State.get_put_ne _ _ (by decide)).trans (State.get_put_same ..)
  · show x.gpf.tuned = img.descriptors
    rw [hframe]
  · exact ((htouches.trans (.put _ _ (by decide))).trans (.put _ _ (by decide))).trans (.withRed _ _)
  · have hshown : copyShown x img = { x with objs := (copyShown x img).objs, red := (copyShown x img).red } := rfl
    generalize copyShown x img = y at hshown ⊢
    rw [hshown, hframe]

/-- O39: the image comes into force with its epoch, its generation and its descriptors (R313, Table 12.4). -/
theorem image_installed (s : State) (t : Nat) (d : Tide) (img : DurableImage) (h : Resyncing s d 4) (himage : s.red.image = some img)
    (hsource : s.resyncSource d = false) (hentries : img.entries = []) (hempty : s.red.toApply = []) :
    ∃ u, exec (.resyncPhaseDone t true) s = .next (State.settle (s.land t) u) ∧
      u.get Obj.RED_RESYNC_PHASE = 5 ∧
      u.get Obj.RED_EPOCH = img.epoch ∧
      u.get Obj.RED_STATE_GEN = img.gen ∧
      u.red.applied = img.gen ∧
      u.gpf.tuned = img.descriptors ∧
      u.sourcePending 142 ∧
      s.entriesBut u [Obj.RED_RESYNC_PHASE, Obj.RED_EPOCH, Obj.RED_STATE_GEN, Obj.AGE_PLAN_GEN] ∧
      u = { s.land t with objs := u.objs, red := u.red, gpf := u.gpf, age := u.age, icu := u.icu, log := u.log, flash := u.flash,
                          dict := u.dict, out := u.out } := by
  have hplain := resyncInstall_plain (s := s.land t) (commit := State.commitEntry) hentries hempty
  have hnext := resyncNext_installs (h.land t) State.commitEntry true himage hsource
  obtain ⟨hepoch, hgen, happlied, htuned, htouches, hunits⟩ := installed_copy (s.land t) img
  rw [hplain] at hnext
  generalize copyShown (imagePlan (imageValve (s.land t) img) img) img = x at *
  have hphase := touches_resyncPhase x 5
  have hred := redFrame_resyncPhase x 5
  refine ⟨_, resyncPhaseDone_effect hnext, get_resyncPhase _ 5, (hphase.get (by decide) (by decide)).trans hepoch,
    (hphase.get (by decide) (by decide)).trans hgen, ?_, ?_, sourcePending_resyncPhase _ 5,
    ((htouches.mono (by decide)).trans (hphase.mono (by decide))).entries, ?_⟩
  · rw [resyncPhase_red]
    exact happlied
  · rw [hred]
    exact htuned
  · unfold RedFrame at hred
    generalize x.resyncPhase 5 = y at hred ⊢
    rw [hred, hunits]

end Sys2Proof.Proofs
end

section
/-!
PROOF. A resynchronisation ends in role STANDBY, is tried again, or fails for good; O39 assembled (R313, R314).
-/

namespace Sys2Proof.Proofs

open Sys2Proof Sys2Proof.Machine

/-! ## Role STANDBY taken -/

theorem touches_setRole_standby {s : State} (hrole : s.devRole ≠ roleStandby) (cause : Nat) :
    Touches [Obj.DEV_ROLE] s (s.setRole roleStandby cause) := by
  rw [setRole_standby hrole]
  exact (touches_roleShown ..).trans (.withRed _ _)

theorem redFrame_setRole_standby {s : State} (hrole : s.devRole ≠ roleStandby) (cause : Nat) :
    RedFrame s (s.setRole roleStandby cause) := by
  rw [setRole_standby hrole]
  exact (RedFrame.of_sameUnits (sameUnits_roleShown ..)).trans (.withRed _ _)

theorem devRole_setRole_standby {s : State} (hrole : s.devRole ≠ roleStandby) (cause : Nat) :
    (s.setRole roleStandby cause).devRole = roleStandby := by
  rw [setRole_standby hrole]
  exact devRole_of_get (get_roleShown s roleStandby cause)

theorem attempt_setRole_standby {s : State} (hrole : s.devRole ≠ roleStandby) (cause : Nat) :
    (s.setRole roleStandby cause).red.attempt = s.red.attempt := by
  rw [setRole_standby hrole, ← red_of_sameUnits (sameUnits_roleShown s roleStandby cause)]
  rfl

/-! ## DONE (Table 12.4) -/

/-- The supervisor once a resynchronisation is done. -/
def redDone (role : Nat) (r : Red) : Red :=
  { r with attempt := 0, image := none, claimed := none, ownedBefore := role = roleActive, eclipse := none }

/-- The phase DONE, counted with source 143 and the time that the resynchronisation took. -/
def doneCounted (s : State) (role : Nat) : State :=
  ((((s.withRed (redDone role)).resyncPhase 6).raise 143).bump Obj.RED_RESYNC_COUNT).put Obj.RED_RESYNC_TIME
    (saturateU 32 ((s.now - s.red.startAt) / 1000 : Nat))

/-- The resynchronisation is no longer shown, and the role follows. -/
def doneRole (s : State) (role : Nat) : State := ((doneCounted s role).setBit Obj.RED_STATUS 9 false).setRole role 0

/-- A second attempt that succeeds is a transient outcome of site 0x0F. -/
def doneTried (s : State) (role : Nat) : State :=
  if decide (s.red.attempt = 2) then (doneRole s role).siteOutcome 0x0F 143 noSubject [] false else doneRole s role

theorem resyncDone_beside_owner {s : State} {d : Tide} (howner : d.role ≤ 1) :
    s.resyncDone d = (doneTried s roleStandby).setBit Obj.ORB_STATUS 6 false := by
  unfold State.resyncDone
  extract_lets role second s1 s2 s3 s4
  have hrole : role = roleStandby := if_pos howner
  rw [if_pos hrole]
  show (doneTried s role).setBit Obj.ORB_STATUS 6 false = _
  rw [hrole]

theorem touches_doneCounted (s : State) (role : Nat) :
    Touches [Obj.RED_RESYNC_PHASE, Obj.RED_RESYNC_COUNT, Obj.RED_RESYNC_TIME] s (doneCounted s role) :=
  ((((Touches.withRed s _).trans ((touches_resyncPhase _ 6).mono (by decide))).trans (.raise _ _)).trans
    (.bump _ (by decide))).trans (.put _ _ (by decide))

theorem redFrame_doneCounted (s : State) (role : Nat) : RedFrame s (doneCounted s role) :=
  ((((RedFrame.withRed s _).trans (redFrame_resyncPhase _ 6)).trans (.raise _ _)).trans (.bump _ _)).trans (.put _ _ _)

theorem attempt_doneCounted (s : State) (role : Nat) : (doneCounted s role).red.attempt = 0 :=
  congrArg Red.attempt (resyncPhase_red (s.withRed (redDone role)) 6)

/-- The entries of DONE. -/
theorem doneCounted_shows (s : State) (role : Nat) :
    (doneCounted s role).get Obj.RED_RESYNC_PHASE = 6 ∧
      (doneCounted s role).get Obj.RED_RESYNC_COUNT = min (s.get Obj.RED_RESYNC_COUNT + 1) 0xFFFFFFFF ∧
      (doneCounted s role).get Obj.RED_RESYNC_TIME = saturateU 32 ((s.now - s.red.startAt) / 1000 : Nat) ∧
      (doneCounted s role).sourcePending 143 := by
  unfold doneCounted
  have hcount : ((s.withRed (redDone role)).resyncPhase 6).get
        Obj.RED_RESYNC_COUNT = s.get Obj.RED_RESYNC_COUNT := (touches_resyncPhase _ 6).get (by decide) (by decide)
  have hphase := get_resyncPhase (s.withRed (redDone role)) 6
  generalize (s.withRed (redDone role)).resyncPhase 6 = x at *
  refine ⟨?_, ?_, State.get_put_same .., sourcePending_raise x 143⟩
  · exact ((State.get_put_ne _ _ (by decide)).trans (State.get_put_ne _ _ (by decide))).trans hphase
  · rw [← hcount]
    exact (State.get_put_ne _ _ (by decide)).trans (State.get_put_same ..)

theorem stale_doneCounted {s : State} (role : Nat) (hstale : s.devRole = roleStale) :
    ((doneCounted s role).setBit Obj.RED_STATUS 9 false).devRole ≠ roleStandby := by
  have hrole : ((doneCounted s role).setBit Obj.RED_STATUS 9 false).devRole = s.devRole := by
    refine devRole_congr ?_
    rw [State.get_setBit, if_neg (by decide), (touches_doneCounted s role).get (by decide) (by decide)]
  rw [hrole, hstale]
  decide

/-- A resynchronisation that ended beside an owner. -/
structure ResyncEnded (s u : State) : Prop where
  role : u.devRole = roleStandby
  phase : u.get Obj.RED_RESYNC_PHASE = 6
  attempt : u.red.attempt = 0
  count : u.get Obj.RED_RESYNC_COUNT = min (s.get Obj.RED_RESYNC_COUNT + 1) 0xFFFFFFFF
  time : u.get Obj.RED_RESYNC_TIME = saturateU 32 ((s.now - s.red.startAt) / 1000 : Nat)
  status : u.bit Obj.RED_STATUS 9 = false
  source : u.sourcePending 143
  touches : Touches [Obj.RED_RESYNC_PHASE, Obj.RED_RESYNC_COUNT, Obj.RED_RESYNC_TIME, Obj.RED_STATUS, Obj.DEV_ROLE, Obj.ORB_STATUS] s u
  units : RedFrame s u

/-- What keeps all but the role and the record of an end keeps the end. -/
theorem ResyncEnded.after {s a b : State} (h : ResyncEnded s a) (htouches : Touches [Obj.ORB_STATUS] a b) (hframe : RedFrame a b)
    (hred : b.red = a.red) : ResyncEnded s b := by
  obtain ⟨hrole, hphase, hattempt, hcount, htime, hstatus, hsource, hentries, hunits⟩ := h
  exact ⟨(devRole_congr (htouches.get (by decide) (by decide))).trans hrole, (htouches.get (by decide) (by decide)).trans hphase,
    hred ▸ hattempt, (htouches.get (by decide) (by decide)).trans hcount, (htouches.get (by decide) (by decide)).trans htime,
    (bit_congr (htouches.get (by decide) (by decide)) 9).trans hstatus, sourcePending_kept (by decide) hsource htouches.pending,
    hentries.trans (htouches.mono (by decide)), hunits.trans hframe⟩

theorem resyncEnded_doneRole {s : State} (hstale : s.devRole = roleStale) : ResyncEnded s (doneRole s roleStandby) := by
  have hrole := stale_doneCounted roleStandby hstale
  obtain ⟨hphase, hcount, htime, hsource⟩ := doneCounted_shows s roleStandby
  have hcounted := touches_doneCounted s roleStandby
  have hunits := redFrame_doneCounted s roleStandby
  have hattempt := attempt_doneCounted s roleStandby
  unfold doneRole
  generalize doneCounted s roleStandby = x at *
  have hshown : Touches [Obj.RED_STATUS] x (x.setBit Obj.RED_STATUS 9 false) := .setBit _ _ _ (by decide)
  have hset := touches_setRole_standby hrole 0
  have hkept : ∀ key, isLogEntry key = false → key ∉ [Obj.RED_STATUS] → key ∉ [Obj.DEV_ROLE] →
      ((x.setBit Obj.RED_STATUS 9 false).setRole roleStandby 0).get key = x.get key := fun key hlog hs hr =>
    (hset.get hlog hr).trans (hshown.get hlog hs)
  refine ⟨devRole_setRole_standby hrole 0, (hkept _ (by decide) (by decide) (by decide)).trans hphase,
    (attempt_setRole_standby hrole 0).trans hattempt, (hkept _ (by decide) (by decide) (by decide)).trans hcount,
    (hkept _ (by decide) (by decide) (by decide)).trans htime, ?_,
    sourcePending_kept (by decide) (sourcePending_kept (by decide) hsource hshown.pending) hset.pending,
    ((hcounted.mono (by decide)).trans (hshown.mono (by decide))).trans (hset.mono (by decide)),
    (hunits.trans (.setBit _ _ _ _)).trans (redFrame_setRole_standby hrole 0)⟩
  rw [bit_congr (hset.get (by decide) (by decide)), State.bit_setBit, if_pos rfl, if_pos rfl]

theorem resyncEnded_doneTried {s : State} (hstale : s.devRole = roleStale) : ResyncEnded s (doneTried s roleStandby) := by
  have hdone := resyncEnded_doneRole hstale
  unfold doneTried
  split
  · exact hdone.after (.siteOutcome _ _ _ _ _ _ (by decide)) (.of_sameUnits (State.logOnly_siteOutcome _ _ _ _ _ _ (by decide)).2)
      (siteOutcome_red _ _ _ _ _ (by decide))
  · exact hdone

/-- O39: a resynchronisation beside an owner ends in role STANDBY with source 143 (R313). -/
theorem resync_ends (s : State) (t : Nat) (d : Tide) (h : Resyncing s d 5) (howner : d.role ≤ 1) :
    ∃ u, exec (.resyncPhaseDone t true) s = .next (State.settle (s.land t) u) ∧
      u.devRole = roleStandby ∧
      u.get Obj.RED_RESYNC_PHASE = 6 ∧
      u.red.attempt = 0 ∧
      u.get Obj.RED_RESYNC_COUNT = min (s.get Obj.RED_RESYNC_COUNT + 1) 0xFFFFFFFF ∧
      u.get Obj.RED_RESYNC_TIME = saturateU 32 (((s.land t).now - s.red.startAt) / 1000 : Nat) ∧
      u.bit Obj.RED_STATUS 9 = false ∧
      u.sourcePending 143 ∧
      s.entriesBut u [Obj.RED_RESYNC_PHASE, Obj.RED_RESYNC_COUNT, Obj.RED_RESYNC_TIME, Obj.RED_STATUS, Obj.DEV_ROLE,
        Obj.ORB_STATUS] ∧
      u = { s.land t with objs := u.objs, red := u.red, icu := u.icu, log := u.log, flash := u.flash, dict := u.dict,
                          out := u.out } := by
  have hnext := resyncNext_verified (h.land t) State.commitEntry
  rw [resyncDone_beside_owner howner] at hnext
  obtain ⟨hrole, hphase, hattempt, hcount, htime, hstatus, hsource, hentries, hunits⟩ :=
    (resyncEnded_doneTried (h.land t).stale).after (b := (doneTried (s.land t) roleStandby).setBit Obj.ORB_STATUS 6 false)
      (.setBit _ _ _ (by decide)) (.setBit _ _ _ _) rfl
  exact ⟨_, resyncPhaseDone_effect hnext, hrole, hphase, hattempt, hcount, htime, hstatus, hsource, hentries.entries, hunits⟩

/-! ## An attempt fails (R314) -/

/-- O39: a comparison that fails is followed by the second attempt (R314). -/
theorem verify_differs (s : State) (t : Nat) (d : Tide) (h : Resyncing s d 5) (hattempt : s.red.attempt = 1) :
    ∃ u, exec (.resyncPhaseDone t false) s = .next (State.settle (s.land t) u) ∧
      u.red.attempt = 2 ∧
      u.get Obj.RED_RESYNC_PHASE = 1 ∧
      u.get Obj.RED_RESYNC_PROGRESS = 0 ∧
      u.sourcePending 142 ∧
      s.entriesBut u [Obj.RED_RESYNC_PHASE, Obj.RED_RESYNC_PROGRESS] ∧
      u = { s.land t with objs := u.objs, red := u.red, icu := u.icu, log := u.log, flash := u.flash, dict := u.dict,
                          out := u.out } := by
  obtain ⟨htwo, hone, hprogress, hsource, hentries, hunits⟩ := resyncFail_begins_second (s := s.land t) hattempt
  exact ⟨_, resyncPhaseDone_effect (resyncNext_differs (h.land t) _), htwo, hone, hprogress, hsource, hentries, hunits⟩

theorem resyncTimeout_effect {s : State} {t : Nat} (hon : s.red.attempt ≠ 0)
    (hlate : s.red.phaseAt + s.resyncLimit ≤ (s.land t).now) :
    exec (.resyncPhaseTimeout t) s = .next (State.settle (s.land t) (s.land t).resyncFail) := by
  have hdue : ((s.land t).resyncOn && (s.land t).red.phaseAt + (s.land t).resyncLimit ≤ (s.land t).now) = true :=
    Bool.and_eq_true_iff.2 ⟨decide_eq_true hon, decide_eq_true hlate⟩
  show execResyncPhaseTimeout t s = _
  exact done_of_effect (if_pos hdue)

/-- O39: a phase that times out is followed by the second attempt (R314). -/
theorem phase_times_out (s : State) (t : Nat) (hattempt : s.red.attempt = 1)
    (hlate : s.red.phaseAt + s.resyncLimit ≤ (s.land t).now) :
    ∃ u, exec (.resyncPhaseTimeout t) s = .next (State.settle (s.land t) u) ∧
      u.red.attempt = 2 ∧
      u.get Obj.RED_RESYNC_PHASE = 1 ∧
      u.get Obj.RED_RESYNC_PROGRESS = 0 ∧
      u.sourcePending 142 ∧
      s.entriesBut u [Obj.RED_RESYNC_PHASE, Obj.RED_RESYNC_PROGRESS] ∧
      u = { s.land t with objs := u.objs, red := u.red, icu := u.icu, log := u.log, flash := u.flash, dict := u.dict,
                          out := u.out } := by
  obtain ⟨htwo, hone, hprogress, hsource, hentries, hunits⟩ := resyncFail_begins_second (s := s.land t) hattempt
  exact ⟨_, resyncTimeout_effect (by rw [hattempt]; decide) hlate, htwo, hone, hprogress, hsource, hentries, hunits⟩

/-- The supervisor once the second attempt has failed. -/
def redGivenUp (now : Nat) (r : Red) : Red :=
  { r with attempt := 0, image := none, toApply := [], retryAt := some (now + 60000000000) }

/-- The second attempt has failed; the next start is 60 s on. -/
def resyncGivenUp (s : State) : State :=
  ((((s.withRed (redGivenUp s.now)).resyncPhase 7).setBit Obj.RED_STATUS 9 false).bump Obj.RED_RESYNC_FAIL).raise 144

theorem resyncFail_second {s : State} (h : s.red.attempt = 2) :
    s.resyncFail = (resyncGivenUp s).siteOutcome 0x0F 144 noSubject [] true := by
  have hon : (!s.resyncOn) = false := by
    rw [State.resyncOn, h]
    rfl
  have hone : ¬ s.red.attempt = 1 := by
    rw [h]
    decide
  rw [State.resyncFail, hon, if_neg Bool.false_ne_true, if_neg hone]
  rfl

/-- A resynchronisation that failed for good. -/
structure ResyncGivenUp (s u : State) : Prop where
  attempt : u.red.attempt = 0
  retry : u.red.retryAt = some (s.now + 60000000000)
  phase : u.get Obj.RED_RESYNC_PHASE = 7
  count : u.get Obj.RED_RESYNC_FAIL = min (s.get Obj.RED_RESYNC_FAIL + 1) 0xFFFFFFFF
  status : u.bit Obj.RED_STATUS 9 = false
  source : u.sourcePending 144
  touches : Touches [Obj.RED_RESYNC_PHASE, Obj.RED_RESYNC_FAIL, Obj.RED_STATUS] s u
  units : RedFrame s u

theorem resyncGivenUp_shows (s : State) : ResyncGivenUp s (resyncGivenUp s) := by
  have hphase := get_resyncPhase (s.withRed (redGivenUp s.now)) 7
  have htouched := touches_resyncPhase (s.withRed (redGivenUp s.now)) 7
  have hunits := redFrame_resyncPhase (s.withRed (redGivenUp s.now)) 7
  have hred := resyncPhase_red (s.withRed (redGivenUp s.now)) 7
  unfold resyncGivenUp
  generalize (s.withRed (redGivenUp s.now)).resyncPhase 7 = x at *
  have hcount : x.get Obj.RED_RESYNC_FAIL = s.get Obj.RED_RESYNC_FAIL := htouched.get (by decide) (by decide)
  have hshown : Touches [Obj.RED_STATUS, Obj.RED_RESYNC_FAIL] x (((x.setBit Obj.RED_STATUS 9 false).bump Obj.RED_RESYNC_FAIL).raise 144) :=
    ((Touches.setBit _ _ _ (by decide)).trans (.bump _ (by decide))).trans (.raise _ _)
  refine ⟨congrArg Red.attempt hred, congrArg Red.retryAt hred, (hshown.get (by decide) (by decide)).trans hphase, ?_, ?_,
    sourcePending_raise _ 144, ((Touches.withRed s _).trans (htouched.mono (by decide))).trans (hshown.mono (by decide)),
    ((RedFrame.withRed s _).trans hunits).trans rfl⟩
  · have hbump : ((x.setBit Obj.RED_STATUS 9 false).bump Obj.RED_RESYNC_FAIL).get Obj.RED_RESYNC_FAIL =
        min (x.get Obj.RED_RESYNC_FAIL + 1) 0xFFFFFFFF := by
      rw [State.get_bump, if_pos rfl, State.get_setBit, if_neg (by decide)]
    exact hbump.trans (by rw [hcount])
  · have hstatus : ((x.setBit Obj.RED_STATUS 9 false).bump Obj.RED_RESYNC_FAIL).bit Obj.RED_STATUS 9 = false := by
      have hbump : ((x.setBit Obj.RED_STATUS 9 false).bump Obj.RED_RESYNC_FAIL).get Obj.RED_STATUS =
          (x.setBit Obj.RED_STATUS 9 false).get Obj.RED_STATUS := State.get_put_ne _ _ (by decide)
      rw [bit_congr hbump, State.bit_setBit, if_pos rfl, if_pos rfl]
    exact hstatus

/-- O39: the second failure is lasting with source 144, and the next start is 60 s on (R314). -/
theorem resync_given_up (s : State) (t : Nat) (hattempt : s.red.attempt = 2)
    (hlate : s.red.phaseAt + s.resyncLimit ≤ (s.land t).now) :
    ∃ u, exec (.resyncPhaseTimeout t) s = .next (State.settle (s.land t) u) ∧
      u.red.attempt = 0 ∧
      u.red.retryAt = some ((s.land t).now + 60000000000) ∧
      u.get Obj.RED_RESYNC_PHASE = 7 ∧
      u.get Obj.RED_RESYNC_FAIL = min (s.get Obj.RED_RESYNC_FAIL + 1) 0xFFFFFFFF ∧
      u.bit Obj.RED_STATUS 9 = false ∧
      u.sourcePending 144 ∧
      s.entriesBut u [Obj.RED_RESYNC_PHASE, Obj.RED_RESYNC_FAIL, Obj.RED_STATUS] ∧
      u = { s.land t with objs := u.objs, red := u.red, icu := u.icu, log := u.log, flash := u.flash, dict := u.dict,
                          out := u.out } := by
  have heffect := resyncTimeout_effect (by rw [hattempt]; decide) hlate
  rw [resyncFail_second (s := s.land t) hattempt] at heffect
  obtain ⟨hended, hretry, hphase, hcount, hstatus, hsource, hentries, hunits⟩ := resyncGivenUp_shows (s.land t)
  generalize resyncGivenUp (s.land t) = x at *
  have hred := siteOutcome_red x 144 noSubject [] true (site := 0x0F) (by decide)
  have hsite : Touches [] x (x.siteOutcome 0x0F 144 noSubject [] true) := .siteOutcome _ _ _ _ _ _ (by decide)
  refine ⟨_, heffect, ?_, ?_, (hsite.get (by decide) (by decide)).trans hphase, (hsite.get (by decide) (by decide)).trans hcount,
    (bit_congr (hsite.get (by decide) (by decide)) 9).trans hstatus, sourcePending_kept (by decide) hsource hsite.pending,
    (hentries.trans (hsite.mono (by decide))).entries,
    hunits.trans (.of_sameUnits (State.logOnly_siteOutcome _ _ _ _ _ _ (by decide)).2)⟩
  · rw [hred, hended]
  · rw [hred, hretry]

/-- Settles O39: claims, change records, each phase of a resynchronisation with its failures, and the requests, each by its own
lemma. -/
theorem claimsAndResynchronisation : Obligations.ClaimsAndResynchronisation := by
  unfold Obligations.ClaimsAndResynchronisation
  intro s t
  exact ⟨fun n => holdoff_claims s t n, holdoff_waits s t, fun r n => record_sent_again s t r n, fun r n m => record_lost s t r n m,
    fun f => resyncReq_starts s t f, autoResync_starts s t,
    fun d htide hon hseen hstale hphase howner =>
      phase_begins (resyncNext_waiting (Resyncing.land ⟨htide, hon, hseen, hstale, hphase⟩ t) _ true howner),
    fun d htide hon hseen hstale hphase =>
      phase_begins (resyncNext_second (Resyncing.land ⟨htide, hon, hseen, hstale, hphase⟩ t) _ true),
    fun d htide hon hseen hstale hphase hcopied =>
      phase_begins (resyncNext_copied (Resyncing.land ⟨htide, hon, hseen, hstale, hphase⟩ t) _ true hcopied),
    fun d img htide hon hseen hstale hphase himage hsource hentries hempty =>
      image_installed s t d img ⟨htide, hon, hseen, hstale, hphase⟩ himage hsource hentries hempty,
    fun d htide hon hseen hstale hphase howner => resync_ends s t d ⟨htide, hon, hseen, hstale, hphase⟩ howner,
    fun d htide hon hseen hstale hphase hattempt => verify_differs s t d ⟨htide, hon, hseen, hstale, hphase⟩ hattempt,
    phase_times_out s t, resync_given_up s t, fun f => absent_alone s t f, fun f => absent_cleared s t f,
    fun f => swapReq_waits s t f⟩

end Sys2Proof.Proofs
end
